-- ==== Sys2Proof/Word.lean ====
section
/-! DEFINITION. The words of the KZ64 and the index types of R5 to R7 and R514. -/
namespace Sys2Proof

/-- A register word (R503). -/
abbrev Word := BitVec 32
/-- A byte of memory. -/
abbrev Byte := BitVec 8
/-- Region A, B, C or D is 0, 1, 2 or 3 (R26). -/
abbrev Region := Fin 4
/-- Ports P0 to P63 (R7). -/
abbrev Port := Fin 64
/-- Zwius ports, z = 2r + i − 14 (R514). -/
abbrev ZPort := Fin 8
/-- Chip lanes, n = 130r + j (R241, R514). -/
abbrev Lane := Fin 520
/-- Data-mover channels DMC0 to DMC63 (R7). -/
abbrev Chan := Fin 64
/-- Slot-power channels SP0 to SP31 (R7). -/
abbrev Slot := Fin 32
/-- Shelf numbers, fabric address bits [47:28] (R28). -/
abbrev Shelf := BitVec 20
/-- Agent IDs: unit, port and cache index (R6). -/
abbrev Agent := BitVec 10
/-- Fabric addresses. -/
abbrev FAddr := BitVec 48
/-- Carrels 0 to 4,095 (R514). -/
abbrev Carrel := BitVec 12
/-- Queue IDs (R514). -/
abbrev Qid := BitVec 20
/-- Tillers: 48r + j in the regions, 192 + k on the Keeper (R377). -/
abbrev TillerIx := Fin 225
/-- Traffic classes TC0 to TC7 (R7). -/
abbrev Tc := Fin 8

end Sys2Proof
end

