-- ==== Sys2Proof/Syntax.lean ====
section
/-! DEFINITION. The commands of the KZ64: one constructor for each row of the opcode table, with its operands. -/
namespace Sys2Proof

/-- The four paths to the register space (R497): a Librarian core at privileged level, whose own MPU it may write (R355), the
management endpoint, I3C and the debug master. -/
inductive Path where
  | librarian (core : Region := 0) | manager | i3c | debug
deriving DecidableEq, Repr

/-- Who issues a pool access (R61, R91, R119, R120): a host, a device cache or a PCIe device below a DN port, a carrel's
data mover or slip, or a data mover owned by the manager or the Librarian. -/
inductive Source where
  | host
  | devCache
  | pcieDev (tph : Bool)
  | carrel (k : Carrel) (hintPool : Bool)
  | slip (k : Carrel)
  | owner (hintPool : Bool)
deriving DecidableEq, Repr

/-- What an error check finds on reading a store with SEC-DED: good, one bit corrected, or uncorrectable. -/
inductive EccRead where
  | good | corrected | uncorrectable
deriving DecidableEq, Repr

/-- What an error-checked HBM column read finds (R177): good, one corrected symbol, uncorrectable, or a failed tag copy. -/
inductive ColRead where
  | good | corrected | uncorrectable | tagCopy | tagBoth
deriving DecidableEq, Repr

/-- What the checks of the stores that a pool access reads find: the shelf table, whether the region's copy of the group differs
from the others (R87), the cached Catalogue set, parity errors of its tracker and of the dedupe table (R125), the Granary
column that a partial write merges into, and the columns of a victim by sector (R177). -/
structure AccessCheck where
  shelf : EccRead := .good
  group : Bool := false
  cache : EccRead := .good
  trk   : Bool := false
  ddp   : Bool := false
  base  : ColRead := .good
  victim : List ColRead := []
deriving DecidableEq, Repr

/-- What a grant gives: S, E, or data without a state (R101). -/
inductive GrantKind where
  | s | e | none
deriving DecidableEq, Repr

/-- A pool access as it reaches the home region: the requesting agent, its tag, the fabric address, the ingress port,
the source, the REPEAT flag of R153, and what the checks of the stores find. A device below a DN port gives its own address
`dev`, which the port's window maps to a fabric address (R391). -/
structure Access where
  agent : Agent
  tag   : BitVec 16
  addr  : FAddr
  port  : Port
  src   : Source
  rep   : Bool
  chk   : AccessCheck := {}
  dev   : BitVec 64 := 0
deriving DecidableEq, Repr

/-- A 64-byte line with its poison indication (R142). -/
structure LineData where
  data   : BitVec 512
  poison : Bool
deriving DecidableEq, Repr

/-- What a writeback says of the owner's copy: MetaValue I, S or A, MetaField No-Op, or a DirtyEvict (R101). -/
inductive WbMeta where
  | i | s | a | noOp | dirtyEvict
deriving DecidableEq, Repr

/-- Answers to a snoop: the agent no longer holds the line, holds it shared, or holds it exclusive (R103, R116). -/
inductive SnpRsp where
  | i | s | e
deriving DecidableEq, Repr

/-- The request that a BIConflict names (R137): its tag, and whether that tag has been given to a new request since the one of that
tag which the home last served. -/
structure NamedTag where
  tag   : BitVec 16
  later : Bool := false
deriving DecidableEq, Repr

/-- How the start of a region's two stacks ends (R181, R182): trained, repaired and wiped; a stack fails training; or the Keeper does
not deliver the key. -/
inductive HbmStart where
  | done | trainFail | keyFail
deriving DecidableEq, Repr

/-- A pseudo-channel of a stack of a region (R159). -/
structure PseudoChannel where
  region : Fin 4
  stack  : Fin 2
  pc     : Fin 32
deriving DecidableEq, Repr

/-- A step of a region's flush walk, and what the check words of the columns that it reads say, by sector (R177). -/
structure WalkRead where
  region : Fin 4
  found  : List ColRead := []
deriving DecidableEq, Repr

/-- A queue context read from HBM, what the check word of its column says, and whether the cache's tags fail their parity (R177, R320,
R322). -/
structure CtxRead where
  qid   : BitVec 20
  found : ColRead := .good
  tags  : Bool := false
deriving DecidableEq, Repr

/-- A backing set read from HBM, and what the check codes of its columns say (R99, R125, R177). -/
structure SetRead where
  index : BitVec 26
  found : ColRead := .good
deriving DecidableEq, Repr

/-- What a response from another unit carries: what is granted, and the data (R155). -/
structure Answer where
  grant : GrantKind := .none
  d     : Option LineData := none
deriving DecidableEq, Repr

/-- A re-shelving slot whose switch-over stalls, and how many of its marked pages, the lowest first, had been copied (R84). -/
structure StallEnd where
  slot   : Fin 16
  copied : Nat := 0
deriving DecidableEq, Repr

/-- A pool request on its way to its home in another unit (R153): the agent, tag, address, whether it writes, and its data. -/
structure ReqOut where
  agent : Agent
  tag   : BitVec 16
  addr  : FAddr
  write : Bool
  d     : Option LineData
deriving DecidableEq, Repr

/-- The class of a VOQ whose oldest HBM cell is read, and what the check words of its columns say (R177, R218). -/
structure DrainRead where
  tc    : Tc
  found : ColRead := .good
deriving DecidableEq, Repr

/-- A routing entry, and whether reading it finds an uncorrectable error (R218). -/
structure EntryRead where
  entry : BitVec 11
  bad   : Bool := false
deriving DecidableEq, Repr

/-- A spine path, and whether the scheduler of its source region finds a parity error (R218). -/
structure SpinePath where
  k      : Fin 2
  parity : Bool := false
deriving DecidableEq, Repr

/-- A UP port that receives a reset, and whether it is a hot reset of its link, which is a link state of its own (R192, R249): a CXL
reset and a secondary bus reset are not. -/
structure PortReset where
  port : Port
  hot  : Bool := true
deriving DecidableEq, Repr

/-- A slip's poison indication, and whether its policers' token counts show a parity error (R239). -/
structure SlipCheck where
  poison : Bool
  parity : Bool := false
deriving DecidableEq, Repr

/-- An output that starts a cell, and what reading its gate entry finds (R239). -/
structure CellStart where
  port : Port
  gate : EccRead := .good
deriving DecidableEq, Repr

/-- Why a lane of a port is faulty, CDR lock lost for 1 µs or symbols above the threshold (R253), and whether the peer accepts a width
that excludes it (R254). -/
structure LaneLoss where
  cfg : Bool
  cdr : Bool := true
deriving DecidableEq, Repr

/-- A lane margining command (R248): a parameter's number in the order of its table, a step of the sampler in time (left or right) or in
voltage (up or down), or back to normal settings. -/
inductive MarginCmd where
  | param (n : Fin 8)
  | timing (left : Bool) (step : Nat)
  | voltage (up : Bool) (step : Nat)
  | normal
deriving DecidableEq, Repr

/-- A flow unit's place in the sequence, and the lanes of the symbols corrected in it (R253). -/
structure UnitPlace where
  num : BitVec 24
  fec : List (Fin 9) := []
deriving DecidableEq, Repr


/-- The level of WAKE_N that the sideband bus reads low at a port's place, bit p mod 8 of SB_DIN[p div 8], and in how many scans one
after another; CLKREQ_N, at bit 8 + p mod 8, is read and ignored (R245, R529). -/
structure WakeScan where
  port  : Port
  scans : Nat := 3
deriving DecidableEq, Repr


/-- The kinds of message on a UP or DN port, by the flow-control channel they use (R220, R268). -/
inductive MsgKind where
  | m2sReq | m2sRwD | m2sBiRsp | s2mNdr | s2mDrs | d2hReq | d2hRsp | d2hData
  | posted (units : Nat) | nonPosted (units : Nat) | completion (units : Nat)
deriving DecidableEq, Repr

/-- Whether a message is a configuration request: to DOE or as SPDM, or to any other function (R275). -/
inductive CfgKind where
  | none | doe | other
deriving DecidableEq, Repr

/-- A message of a flit: its kind, its destination (an output port 0–63, or the internal sink of region A–D as 64–67),
its destination on
the peer unit when the output is a Zwius port, whether it is a configuration request, whether a header field is outside its
encoding (R298), its bytes, the pool request to another unit that it is, if any (R153), and what the check of the VOQ's SRAM will find
when its cell is read (R218). -/
structure LinkMsg where
  kind : MsgKind
  dest : Nat
  far  : Nat := 0
  cfg  : CfgKind := .none
  bad  : Bool := false
  data : List Byte
  req  : Option ReqOut := none
  ecc  : EccRead := .good
deriving DecidableEq, Repr

/-- How a CXL.io packet is routed (R211): a request by bus number or by address, a completion by the bus number of its Requester ID,
with the logical device that it comes from at a DN port, or a request from a logical device below a DN port. -/
inductive IoRoute where
  | byId (bus : BitVec 8)
  | byAddr (addr : BitVec 64)
  | completion (bus : BitVec 8) (ld : Fin 16)
  | fromDn (ld : Fin 16)
deriving DecidableEq, Repr

/-- A CXL.io packet to be routed, and whether reading the entry that it matches finds an uncorrectable error (R218). -/
structure IoLookup where
  route : IoRoute
  bad   : Bool := false
deriving DecidableEq, Repr

/-- A received Zwius flow unit that is good (R280, R283): IDLE, or DATA with its class, destination, source byte and
slots, and for a slip its receive ring (R224). -/
inductive FlowUnit where
  | idle
  | data (tc : Fin 8) (dest : Fin 68) (src : BitVec 8) (data : List Byte) (ring : Option Qid := none)
deriving DecidableEq, Repr

/-- What a NAK finds at the transmitter: the replay count rolls over (R270), or the replay buffer has an uncorrectable ECC error (R298). -/
structure NakLoad where
  rollover : Bool
  ecc      : Bool := false
deriving DecidableEq, Repr

/-- A lane margining command of the peer (R248). -/
structure Margin where
  lane : Fin 8
  cmd  : MarginCmd
deriving DecidableEq, Repr

/-- A 64-byte block of a Zwius link as it is received: the type bits of its lanes (R278) and its bytes after FEC. -/
structure WireBlock where
  types : List (BitVec 2)
  bytes : List (BitVec 8)
deriving DecidableEq, Repr

/-- A flow unit as it is received: the blocks from its first FLOW block to its fourth, CTRL blocks between them included, whether FEC could
correct it (R283), and for a slip the receive ring that its cell names (R224, R281). -/
structure WireUnit where
  blocks : List WireBlock
  fec    : Bool := true
  ring   : Option Qid := none
deriving DecidableEq, Repr

/-- How a doorbell reaches a context (R307): through BAR2 of the management endpoint, through a slot of a carrel's doorbell
page, or by QMG_DB_HI. -/
inductive DoorVia where
  | endpoint (q : Qid)
  | slot (port : Port) (pasid : Option (BitVec 20)) (k : Carrel) (s : Fin 64)
  | librarian (r : Region) (q : Qid)
deriving DecidableEq, Repr

/-- A doorbell (R306): INDEX, ARM, whether a bit of [63:34] is set, and its size in bytes. -/
structure Doorbell where
  index : Word
  arm   : Bool
  extra : Bool
  size  : Nat
deriving DecidableEq, Repr

/-- How a data-mover burst ends (R334). `targetError`: the error response is the destination device's (R86); `bufCorrected` and `bufLost`: the
data are good, with an error of the channel's buffer that its ECC corrects or does not (R349). -/
inductive BurstRsp where
  | ok | poison | poolLinkDown | timeout | hostError | deviceError | targetError | refused | bufCorrected | bufLost
deriving DecidableEq, Repr

/-- A channel at a descriptor boundary, and whether the CRL table entry of the carrel whose ring it serves fails its parity (R349). -/
structure FetchLook where
  chan : Fin 64
  bad  : Bool := false
deriving DecidableEq, Repr

/-- A channel that is to issue, and whether its state fails its parity (R349). -/
structure IssueLook where
  chan : Fin 64
  bad  : Bool := false
deriving DecidableEq, Repr

/-- Where a RESTORE takes its record from: the HBM slot, the bytes that the host returned, or a host read that failed (R348). -/
inductive RecordFrom where
  | hbm | host (bytes : List (BitVec 8)) | hostFail
deriving DecidableEq, Repr

/-- UNIT of a wait: µs, ms, s, and the value the image check rejects (R363). -/
abbrev TUnit := Fin 4

/-- The transport of an FM API command (R373). -/
inductive FmVia where
  | vdm | i3c
deriving DecidableEq, Repr

/-- FM API commands (R373). -/
inductive FmOp where
  | identify
  | portState (ports : List Port)
  | portControl (port : Port) (op : Nat)
  | ppbConfig (port : Port) (write : Bool) (reg : Nat) (data : Word)
  | vcsInfo (vcs : List Port)
  | bindVppb (vcs : Port) (vppb : Nat) (port : Port) (ld : Fin 16)
  | unbindVppb (vcs : Port) (vppb : Nat)
  | aerEvent (vcs : Port) (vppb : Nat)
  | tunnel (port : Port) (payload : List Byte)
  | ldConfig (port : Port) (ld : Fin 16) (write : Bool) (reg : Nat) (data : Word)
  | ldMemory (port : Port) (ld : Fin 16) (write : Bool) (addr : Nat) (data : List Byte)
  | dcdInfo
  | dcRegion (host : Port)
  | extents (host : Port)
  | dcAdd (host : Port) (shelves : Nat) (mode : Fin 4) (gclass : Fin 8) (group : BitVec 12) (tag : Word)
  | dcRelease (host : Port) (shelf : Shelf) (count : Nat)
  | setRegion
deriving DecidableEq, Repr

/-- A tiller at its next instruction, and what the ECC of its program memory finds on the fetch (R365, R376). -/
structure TilAt where
  til : TillerIx
  mem : EccRead := .good
deriving DecidableEq, Repr

/-- A region's core at the end of a handler's slice, and what the ECC of its memory finds (R369, R376). -/
structure CoreLook where
  region : Region
  mem    : EccRead := .good
deriving DecidableEq, Repr

/-- The bytes of a boot-flash device as the KZ64 reads them (R378): address and byte, an unlisted byte reading 0. -/
abbrev Flash := List (Nat × BitVec 8)

/-- The JTAG access of a debug-master command (R408, R409): a register read or write, a Librarian-core or
tiller access, a scan access, or a raw HBM read. -/
inductive DebugOp where
  | regRead (addr : BitVec 32)
  | regWrite (addr : BitVec 32) (data : Word)
  | core (r : Region) (addr : BitVec 32)
  | scan
  | hbmRaw (stack : Fin 8) (addr : Nat)
  | secretStore
deriving DecidableEq, Repr

/-- Boundary-scan instructions of IEEE 1149.1 and 1149.6 (R410). -/
inductive ScanOp where
  | bypass | sample | idcode | extest | extestPulse | extestTrain | preload
deriving DecidableEq, Repr

/-- SPDM requests (R403). -/
inductive SpdmOp where
  | getVersion | getCapabilities | negotiateAlgorithms | getDigests | getCertificate | challenge
  | getMeasurements (index : Nat)
  | keyExchange (session : Nat)
  | finish (session : Nat)
  | heartbeat (session : Nat)
  | keyUpdate (session : Nat)
  | endSession (session : Nat)
  | other (code : Nat)
deriving DecidableEq, Repr

/-- One 1-µs conversion of a supply rail (R443): the readings of the four regions, or of the Keeper, in mV, and whether one
of them was outside the plausible range or late. -/
structure RailReading where
  mv  : List Nat
  bad : Bool
deriving DecidableEq, Repr

/-- What the Keeper could read at a start: the variant fuses (R4), and the device secret (R411). -/
structure KeeperFuses where
  variant : Bool := true
  secret  : Bool := true
deriving DecidableEq, Repr

/-- One 1-µs conversion of a slot channel (R415): the raw sense voltage in µV, V_OUT and V_BUS in mV, whether the limiter
was found regulating, whether a reading was outside the plausible range or late, and whether the settings fail their parity (R433). -/
structure SlotReading where
  sense   : Int
  vOut    : Nat
  vBus    : Nat
  limiting : Bool
  bad     : Bool
  parity  : Bool := false
deriving DecidableEq, Repr

/-- One 100-µs conversion of a channel's thermal diode (R416): ΔV in µV, and whether it was outside the plausible range or late (R43). -/
structure DiodeReading where
  dv  : Nat
  bad : Bool := false
deriving DecidableEq, Repr

/-- A copy into the retained SRAM (R471): the bytes read before the region die stopped answering or the copy was whole, and whether the
SRAM's ECC corrected a word (R477). -/
structure RetCopy where
  copied    : Nat
  corrected : Bool := false
deriving DecidableEq, Repr

/-- A unit's record staging at a write to its area, and what the staging's ECC finds in the record (R483, R495). -/
structure StageRead where
  unit : Fin 5
  ecc  : EccRead := .good
deriving DecidableEq, Repr

/-- A counter as it is read, and whether it fails its parity (R495). -/
structure CounterRead where
  n   : Nat
  bad : Bool := false
deriving DecidableEq, Repr

/-- The commands. -/
inductive Instr where
  /-- REGISTER_WRITE: A write of `size` bytes at a BAR0 address (R503, R505). -/
  | registerWrite (p : Path) (addr : BitVec 32) (data : BitVec 64) (size : Nat)
  /-- SREC_READ: BND_SREC_CMD with OP 0 and GO (R89). -/
  | srecRead (p : Path) (r : Region) (shelf : Shelf)
  /-- SREC_WRITE: BND_SREC_CMD with OP 1 and GO (R55). -/
  | srecWrite (p : Path) (r : Region) (shelf : Shelf)
  /-- GRP_READ: BND_GRP_CMD with OP 0 and GO (R89). -/
  | grpRead (p : Path) (r : Region) (group : BitVec 12)
  /-- GRP_WRITE: BND_GRP_CMD with OP 1 and GO (R63). -/
  | grpWrite (p : Path) (r : Region) (group : BitVec 12)
  /-- GRP_COPIES_DONE: All four copies of the group being written through region r are written (R63). -/
  | grpCopiesDone (r : Region)
  /-- RULE_CMD_READ: BND_RULE_CMD READ with GO (R89). -/
  | ruleRead (p : Path) (r : Region) (slot : BitVec 12)
  /-- RULE_CMD_WRITE: BND_RULE_CMD WRITE with GO (R76). -/
  | ruleWrite (p : Path) (r : Region) (slot : BitVec 12)
  /-- RULE_CMD_CLEAR: BND_RULE_CMD CLEAR with GO (R78). -/
  | ruleClear (p : Path) (r : Region) (slot : BitVec 12)
  /-- BINDING_BARRIER_START: BND_BAR_CMD GO with KIND 0 (R69). -/
  | bindingBarrierStart (p : Path) (r : Region) (all : Bool) (shelf : Shelf)
  /-- RULE_BARRIER_START: BND_BAR_CMD GO with KIND 1 (R79). -/
  | ruleBarrierStart (p : Path) (r : Region) (all : Bool) (shelf : Shelf)
  /-- BARRIER_COMPLETE: The last request that barrier slot k waits for is gone (R69). -/
  | barrierComplete (r : Region) (k : Fin 16)
  /-- BARRIER_TIMEOUT: Barrier slot k reaches its bound (R70). -/
  | barrierTimeout (r : Region) (k : Fin 16)
  /-- BARRIER_SLOT_FREE: Writing 1 to DONE bits of BND_BAR_STS (R89). -/
  | barrierSlotFree (p : Path) (r : Region) (mask : BitVec 16)
  /-- RESHELVE_START: BND_RSH_CTL GO with OP START (R81). -/
  | reshelveStart (p : Path) (r : Region) (k : Fin 16) (shelf : Shelf) (thresh : BitVec 5)
  /-- RESHELVE_SWITCH: BND_RSH_CTL GO with OP SWITCH (R84). -/
  | reshelveSwitch (p : Path) (r : Region) (k : Fin 16)
  /-- RESHELVE_ABORT: BND_RSH_CTL GO with OP ABORT (R86). -/
  | reshelveAbort (p : Path) (r : Region) (k : Fin 16)
  /-- SWITCHOVER_DRAINED: The source writes of a switch-over have completed (R84). -/
  | switchoverDrained (r : Region) (k : Fin 16)
  /-- SWITCHOVER_STALL_TMO: The switch-over of a slot has not finished after 1.8 µs; `copied` of its marked pages, the lowest first, had been copied (R84). -/
  | switchoverStallTmo (r : Region) (k : StallEnd)
  /-- ADD_DC_RESPONSE: A host answers its oldest Add Capacity event (R66). -/
  | addDcResponse (port : Port) (accept : Bool)
  /-- ADD_TIMEOUT: The add timeout of a host expires (R66). -/
  | addTimeout (port : Port)
  /-- RELEASE_DYNAMIC_CAPACITY: A host releases shelves of its virtual DCD (R65). -/
  | releaseDynamicCapacity (port : Port) (shelf : Shelf) (count : Nat)
  /-- RD_SHARED: The bank takes a shared read (R101). -/
  | rdShared (a : Access)
  /-- RD_OWN: The bank takes an ownership read (R101). -/
  | rdOwn (a : Access)
  /-- RD_CUR: The bank takes a current-data read (R101). -/
  | rdCur (a : Access)
  /-- OWN_NODATA: The bank takes an ownership request without data (R101). -/
  | ownNodata (a : Access)
  /-- CLEAN_EVICT: The bank takes a clean eviction (R101). -/
  | cleanEvict (a : Access)
  /-- WB: The bank takes a writeback (R101). -/
  | wb (a : Access) (d : LineData) (m : WbMeta)
  /-- WR: The bank takes a write with byte enables `be` (R117). -/
  | wr (a : Access) (d : LineData) (be : BitVec 64)
  /-- CAT_REQ_PROTOCOL: A request that fits no request kind (R91). -/
  | catReqProtocol (a : Access)
  /-- BIRSP: A BIRsp arrives at tracker t of region r (R116). -/
  | biRsp (r : Region) (t : Nat) (agent : Agent) (rsp : SnpRsp)
  /-- D2H_SNOOP_RESPONSE: A device cache's snoop response, with forwarded data for RspIFwdM and RspSFwdM (R121). -/
  | d2hSnoopResponse (r : Region) (t : Nat) (agent : Agent) (rsp : SnpRsp) (d : Option LineData)
  /-- BICONFLICT: An agent names its outstanding request before its BIRsp; `later` says that the tag has been given to a new request since the one that the home last served (R137). -/
  | biConflict (r : Region) (t : Nat) (agent : Agent) (tag : NamedTag)
  /-- CATALOGUE_FILL_DONE: The HBM read of a backing set ends; `found` is what the check codes of its columns say (R99, R125, R177). -/
  | catalogueFillDone (r : Region) (index : SetRead)
  /-- GRANARY_DATA_READY: Granary data arrives in the tracker; `found` is what the check code says of the column read (R104, R177). -/
  | granaryDataReady (r : Region) (t : Nat) (found : ColRead)
  /-- CHAIN_RETRY_DELAY: The retry delay of the oldest request refused from a full chain expires (R114). -/
  | chainRetryDelay (r : Region)
  /-- DEDUPE_RETIRE: The oldest dedupe entry retires (R122). -/
  | dedupeRetire (r : Region)
  /-- CAT_ENTRY_LOOKUP: CAT_ENT_CMD GO (R126). -/
  | catEntryLookup (p : Path) (r : Region)
  /-- RECLAIM_START: CAT_RCL_CMD GO (R127). -/
  | reclaimStart (p : Path) (r : Region)
  /-- POISON_LEDGER_READ: CAT_PLG_CMD GO (R158). -/
  | poisonLedgerRead (p : Path) (r : Region) (shelf : Shelf)
  /-- DEAD_SET_ENTRY: An agent made dead is entered in every region's dead set (R127). -/
  | deadSetEntry (agent : Agent)
  /-- RECLAIM_WALK_END: A region's reclaim walk ends (R132). -/
  | reclaimWalkEnd (r : Region)
  /-- RECLAIM_WALK_TMO: A walk still runs 12 ms after an agent joined it (R133). -/
  | reclaimWalkTmo (r : Region)
  /-- TXN_TIMEOUT: A tracker's transaction timer expires (R146). -/
  | txnTimeout (r : Region) (t : Nat)
  /-- TXN_PAUSE_CAP: A timer's paused time reaches one timeout period (R145). -/
  | txnPauseCap (r : Region) (t : Nat)
  /-- UP_LINK_DOWN: A UP link drops (R147). -/
  | upLinkDown (p : Port)
  /-- POOL_LINK_DOWN: A DN pool link drops (R148). -/
  | poolLinkDown (p : Port)
  /-- HOLD_RETURN: The pool link returns and its Device Serial Number is read (R150). -/
  | holdReturn (p : Port) (serial : BitVec 64)
  /-- HOLD_EXPIRY: The shelf-loss hold of a port expires (R151). -/
  | holdExpiry (p : Port)
  /-- ZWIUS_LINK_DOWN: A Zwius link goes down (R294). -/
  | zwiusLinkDown (z : ZPort)
  /-- ZWIUS_UNACK_TIMEOUT: A flow unit stays unacknowledged for 4 µs (R152). -/
  | zwiusUnackTimeout (z : ZPort)
  /-- ZWIUS_RESPONSE: A response reaches the requesting unit (R155). -/
  | zwiusResponse (z : ZPort) (tag : BitVec 16) (agent : Agent) (d : Answer)
  /-- HOT_RESET_RECEIVED: A hot reset, CXL reset or secondary bus reset arrives on a UP port (R127). -/
  | hotResetReceived (p : PortReset)
  /-- DN_LINK_DOWN: A DN link to a device that is no pool device drops (R127). -/
  | dnLinkDown (p : Port)
  /-- RECLAIM_SET_VISIT: The reclaim walk visits its next flagged backing set (R132). -/
  | reclaimSetVisit (r : Region)
  /-- POOL_FILL_ARRIVE: Data of one line returns from a pool device to home region r (R168). -/
  | poolFillArrive (r : Region) (addr : FAddr) (d : LineData)
  /-- POOL_WRITE_COMPLETE: A pool device completes the oldest issued write of the line's block (R172). -/
  | poolWriteComplete (r : Region) (addr : FAddr)
  /-- GRN_INVALIDATE: GRN_FLUSH_CMD GO with OP INVALIDATE (R174). -/
  | grnInvalidate (p : Path) (r : Region) (shelf : Shelf)
  /-- GRN_CLEAN_INVALIDATE: GRN_FLUSH_CMD GO with OP CLEAN_INVALIDATE (R174). -/
  | grnCleanInvalidate (p : Path) (r : Region) (shelf : Shelf)
  /-- GRN_ALL_CLEAN: GRN_FLUSH_CMD GO with OP ALL_CLEAN (R176). -/
  | grnAllClean (p : Path) (r : Region)
  /-- FLUSH_WALK_DONE: A flush walk and its issued writes have ended (R174). -/
  | flushWalkDone (r : Region)
  /-- PATROL_SCRUB_STEP: The patrol reads its next column; `found` is what the check code says and `spare` whether the bank has a spare row left (R178, R180). -/
  | patrolScrubStep (r : Region) (stack : Fin 2) (found : ColRead) (spare : Bool)
  /-- ROW_REPAIR_DONE: A soft post-package repair ends (R179); without a spare row the row is retired (R180). -/
  | rowRepairDone (r : Region) (stack : Fin 2) (spare : Bool)
  /-- HBM_START_DONE: Both stacks of a region are trained, repaired and wiped, or one fails training, or the key is not delivered (R181, R182). -/
  | hbmStartDone (r : Region) (trained : HbmStart)
  /-- PSEUDO_CHANNEL_FAIL: An HBM pseudo-channel stops answering (R182). -/
  | pseudoChannelFail (r : PseudoChannel)
  /-- FLUSH_WALK_STEP: A flush walk visits its next set (R174, R177). -/
  | flushWalkStep (r : WalkRead)
  /-- FLIT_RECEIVE: Flit `num` of the link arrives on a UP or DN port, `none` when its CRC fails after FEC (R267, R271); `mac` says whether its MAC check passes (R276) and `fec` names the lane of each corrected symbol (R253). -/
  | flitReceive (port : Port) (num : Nat) (body : Option (List LinkMsg)) (mac : Bool) (fec : List (Fin 9))
  /-- CXLIO_REQUEST: A CXL.io packet at a port is routed (R211). -/
  | cxlioRequest (port : Port) (tag : BitVec 16) (kind : MsgKind) (cfg : CfgKind) (route : IoLookup) (data : List Byte)
  /-- OVERFLOW_DRAIN: The oldest HBM cell of a VOQ is drained into SRAM (R194). -/
  | overflowDrain (port : Port) (out : Port) (tc : DrainRead)
  /-- OUTPUT_CELL_START: The merge stage of an output starts a cell (R221). -/
  | outputCellStart (port : CellStart)
  /-- SPINE_CELL_RECEIVE: What leads on path k from region r to d arrives; `good` says that its CRC holds (R201). -/
  | spineCellReceive (r : Region) (d : Region) (k : Fin 2) (good : Bool)
  /-- SPINE_ACK_RECEIVE: The acknowledgement of what region d has received on path k frees the replay buffer of region r (R201). -/
  | spineAckReceive (r : Region) (d : Region) (k : Fin 2)
  /-- SPINE_ACK_TIMEOUT: A cell of path k from r to d is unacknowledged for 256 CLK_SPINE cycles (R201). -/
  | spineAckTimeout (r : Region) (d : Region) (k : Fin 2)
  /-- RESEND_ACKED: The last cell sent again from r to d is acknowledged (R208). -/
  | resendAcked (r : Region) (d : Region)
  /-- SPRAY_ENTRY_ANSWER: Region d answers the activation request of region r (R206). -/
  | sprayEntryAnswer (r : Region) (d : Region)
  /-- EXIT_MARK_ARRIVE: The EXIT mark that leads on path k from r to d arrives (R207). -/
  | exitMarkArrive (r : Region) (d : Region) (k : Fin 2)
  /-- HOLE_TIMEOUT: A hole of a flow at an output has been open for 20 µs (R205). -/
  | holeTimeout (port : Port) (source : Fin 68) (tc : Tc)
  /-- SPINE_CHECK_PASSED: Both paths from r to d have carried 2^20 check cells without a CRC error (R209). -/
  | spineCheckPassed (r : Region) (d : Region)
  /-- FORCE_SPRAY_ENTRY: Bit d of SWC_SPN_CTL[r].FORCE_SPRAY is set (R209). -/
  | forceSprayEntry (p : Path) (r : Region) (d : Region)
  /-- FORCE_SPRAY_EXIT: Bit d of SWC_SPN_CTL[r].FORCE_SPRAY is cleared (R209). -/
  | forceSprayExit (p : Path) (r : Region) (d : Region)
  /-- RT_READ: SWC_RT_CMD READ with GO (R219). -/
  | rtRead (p : Path) (r : Region) (entry : EntryRead)
  /-- RT_WRITE: SWC_RT_CMD WRITE with GO (R212). -/
  | rtWrite (p : Path) (r : Region) (entry : BitVec 11)
  /-- RT_CLEAR: SWC_RT_CMD CLEAR with GO (R212). -/
  | rtClear (p : Path) (r : Region) (entry : BitVec 11)
  /-- RT_BARRIER_START: SWC_RT_BAR GO (R213). -/
  | rtBarrierStart (p : Path) (r : Region)
  /-- RT_BARRIER_DONE: No cell of an older epoch of region r remains (R213). -/
  | rtBarrierDone (r : Region)
  /-- RT_BARRIER_TIMEOUT: The routing barrier of region r reaches its bound (R214). -/
  | rtBarrierTimeout (r : Region)
  /-- SCHEDULER_SLOT: One slot of the region schedulers, which all run on one reference (R196, R197). -/
  | schedulerSlot
  /-- SPINE_ARBITRATION: Path k from r to d grants one transfer (R34). -/
  | spineArbitration (r : Region) (d : Region) (k : SpinePath)
  /-- SLIP_ADMIT: A slip sent by a carrel to a receive ring of a unit reaches admission in region r (R227). -/
  | slipAdmit (r : Region) (carrel : Carrel) (unit : Fin 4) (ring : Qid) (tag : BitVec 32) (data : List Byte) (poison : SlipCheck)
  /-- POLICER_CFG_WRITE: TFC_POL_CFG is written (R228). -/
  | policerCfgWrite (p : Path) (n : Fin 8192) (v : Word)
  /-- POLICER_ATTACH: TFC_POL_ATT is written (R228). -/
  | policerAttach (p : Path) (n : Fin 8192) (v : Word)
  /-- PTM_REQUEST: PERIOD_MS has passed under SRC PTM (R232). -/
  | ptmRequest
  /-- PTM_RESULT: A PTM result gives the root port its time (R231, R232). -/
  | ptmResult (master : BitVec 64)
  /-- HOLDOVER_ENTRY: Four periods have passed without a result (R233). -/
  | holdoverEntry
  /-- GATE_GO: TFC_GATE_CTL.GO is written (R237). -/
  | gateGo (p : Path) (port : Port)
  /-- GATE_BANK_SWITCH: Fabric time has reached BASE (R237). -/
  | gateBankSwitch (port : Port)
  /-- GATE_ENTRY_CHANGE: Fabric time enters the next gate entry (R234). -/
  | gateEntryChange (port : Port)
  /-- HIST_DEPTH_SAMPLE: PERIOD_US has passed: depths are sampled (R238). -/
  | histDepthSample (r : Region)
  /-- TIME_REGION_SKEW: The regions' copies of fabric time differ by more than 16 ns (R239). -/
  | timeRegionSkew
  /-- LINK_UP: A link enters L0 at a new rate or width; `flit` codes LNK_STS.FLIT (R249, R262). -/
  | linkUp (port : Port) (rate : Fin 6) (width : Fin 17) (proto : Fin 3) (flit : Fin 4) (l0p : Bool) (reversed : Bool)
  /-- LINK_TRAIN_FAIL: A bring-up step reaches its bound at a rate (R250); `cxl` says whether the peer offers CXL with 256-byte or with 68-byte flits (R264). -/
  | linkTrainFail (port : Port) (rate : Fin 6) (cxl : Option Bool)
  /-- DETECT_TIMEOUT: A DN port finds no receiver within DETECT_MS (R249). -/
  | detectTimeout (port : Port)
  /-- RECOVERY_TIMEOUT: Recovery or replay reaches 10 ms (R145, R250). -/
  | recoveryTimeout (port : Port)
  /-- PVPERL_EXPIRY: PVPERL_MS have passed since power-good, or since the lock of R247 (R252). -/
  | pvperlExpiry (port : Port)
  /-- WAKE_N_ASSERT: WAKE_N of a DN port asserts (R245, R529). -/
  | wakeNAssert (scan : WakeScan)
  /-- LANE_FAULT: A lane of a port loses CDR lock for 1 µs or exceeds its symbol threshold (R253); `cfg` says that the peer accepts a width that excludes it (R254). -/
  | laneFault (port : Port) (lane : Fin 9) (cfg : LaneLoss)
  /-- WIDTH_CHANGE: An L0p width change completes (R256). -/
  | widthChange (port : Port) (width : Fin 9)
  /-- L0P_PEER_REQUEST: The peer requests a width (R256). -/
  | l0pPeerRequest (port : Port) (width : Fin 9)
  /-- RETRAIN: PRT_PORT_CTL.RETRAIN is written 1 (R261). -/
  | retrain (p : Path) (port : Port)
  /-- DISABLE: PRT_PORT_CTL.DISABLE is written (R261). -/
  | disable (p : Path) (port : Port) (on : Bool)
  /-- TEST: PRT_PORT_CTL.TEST is written (R257). -/
  | test (p : Path) (port : Port) (on : Bool)
  /-- INJ_ONE: PRT_PAT_CTL.INJ_ONE is written 1 (R258). -/
  | injOne (p : Path) (n : Lane)
  /-- INJ_BURST: PRT_PAT_CTL.INJ_BURST is written 1 (R258). -/
  | injBurst (p : Path) (n : Lane)
  /-- CHECKER_ENABLE: PRT_PAT_CTL.CHK_EN goes from 0 to 1 (R259). -/
  | checkerEnable (p : Path) (n : Lane)
  /-- LANE_PLL_UNLOCK: The lane PLL of a port loses lock (R260). -/
  | lanePllUnlock (port : Port)
  /-- LANE_PLL_RELOCK: The lane PLL of a port relocks (R260). -/
  | lanePllRelock (port : Port)
  /-- RECEIVER_DETECT: A detect interval ends (R250). -/
  | receiverDetect (port : Port) (found : Bool)
  /-- LINK_RECOVERY_ENTRY: A link in L0 enters Recovery at the request of the peer (R145). -/
  | linkRecoveryEntry (port : Port)
  /-- LINK_RECOVERY_EXIT: A link in Recovery returns to L0 at its rate and width (R145). -/
  | linkRecoveryExit (port : Port)
  /-- LANE_MARGINING_COMMAND: A lane margining command of the peer (R248). -/
  | laneMarginingCommand (port : Port) (m : Margin)
  /-- SPARE_LANE_BAD: The checker of an unused spare counts more than 16 errors in 2^32 bits (R244). -/
  | spareLaneBad (port : Port)
  /-- PATTERN_CHECKER_SYNC: A checker has seen 256 error-free bits and then counted `errors` bit errors (R259). -/
  | patternCheckerSync (n : Lane) (errors : BitVec 48)
  /-- FLIT_ACK_RECEIVE: The peer acknowledges flits up to `num` (R270). -/
  | flitAckReceive (port : Port) (num : Nat)
  /-- FLIT_NAK_RECEIVE: The peer NAKs flit `num`, selectively or not (R271). -/
  | flitNakReceive (port : Port) (num : Nat) (sel : Bool) (load : NakLoad)
  /-- CREDIT_UPDATE: The peer returns credits of a channel (R272). -/
  | creditUpdate (port : Port) (chan : Fin 14) (count : Nat)
  /-- K_SET_GO: An IDE_KM K_SET_GO for link IDE or CXL.cachemem IDE (R274). -/
  | kSetGo (port : Port) (cm : Bool)
  /-- IDE_KEY_PROG: An IDE_KM key programming message in an SPDM session (R274). -/
  | ideKeyProg (port : Port) (cm : Bool) (rx : Bool) (kset : Fin 2) (key : BitVec 256) (session : Nat)
  /-- FLOW_UNIT_RECEIVE: A flow unit arrives at its place in the sequence (R283, R290). -/
  | flowUnitReceive (z : ZPort) (num : UnitPlace) (body : WireUnit)
  /-- ZWL_INIT: A good INIT unit of the peer is received (R295). -/
  | zwlInit (z : ZPort) (unit : Fin 4) (peer : Port) (ganged : Bool)
  /-- ZWL_ACK: An ACK control unit (R284, R292). -/
  | zwlAck (z : ZPort) (num : BitVec 24)
  /-- ZWL_NAK: A NAK control unit (R291). -/
  | zwlNak (z : ZPort) (num : BitVec 24) (tries : Fin 16)
  /-- ZWL_REQ: A REQ control unit (R288). -/
  | zwlReq (z : ZPort) (dest : Fin 68) (tc : Tc) (count : BitVec 16)
  /-- ZWL_GRANT: A GRANT control unit (R286). -/
  | zwlGrant (z : ZPort) (dest : Fin 68) (tc : Tc) (count : BitVec 16)
  /-- ZWL_TIME_REQUEST: A TIME REQUEST arrives; TURN ns later the RESPONSE leaves (R285). -/
  | zwlTimeRequest (z : ZPort) (ident : BitVec 6) (turn : BitVec 32)
  /-- ZWL_TIME_RESPONSE: A TIME RESPONSE arrives (R285). -/
  | zwlTimeResponse (z : ZPort) (ident : BitVec 6) (t3 : BitVec 64) (turn : BitVec 32)
  /-- SWAP_REQ: A LINK SWAP_REQ arrives (R297). -/
  | swapReq (z : ZPort) (lane : Fin 8)
  /-- SWAP_ACK: A LINK SWAP_ACK arrives (R297). -/
  | swapAck (z : ZPort) (lane : Fin 8) (num : BitVec 24)
  /-- SWAP_DONE: A LINK SWAP_DONE arrives (R297). -/
  | swapDone (z : ZPort) (lane : Fin 8)
  /-- SWAP_ACK_TIMEOUT: 1 µs has passed since SWAP_REQ without SWAP_ACK (R297). -/
  | swapAckTimeout (z : ZPort)
  /-- ZWL_ACK_TIMER: 16 units or 100 ns have passed (R289). -/
  | zwlAckTimer (z : ZPort)
  /-- ZWL_NAK_REPEAT: 200 ns have passed with the hole open (R290). -/
  | zwlNakRepeat (z : ZPort)
  /-- ZWL_REQ_REPEAT: 1 µs has passed with cells of a flow waiting without a grant (R288). -/
  | zwlReqRepeat (z : ZPort) (dest : Fin 68) (tc : Tc)
  /-- ZWL_GRANT_REPEAT: 1 µs has passed with requests of a flow above its grants (R288). -/
  | zwlGrantRepeat (z : ZPort) (dest : Fin 68) (tc : Tc)
  /-- ZWL_TIME_EXCHANGE: PERIOD_MS has passed under SRC ZL (R232). -/
  | zwlTimeExchange
  /-- ZWL_CTRL_DISCARD: A control unit whose CRC fails or whose TYPE is unknown (R284). -/
  | zwlCtrlDiscard (z : ZPort)
  /-- CTX_READ: QMG_CTX_CMD READ with GO (R304). -/
  | ctxRead (p : Path) (r : Region) (q : Qid)
  /-- CTX_CREATE: QMG_CTX_CMD CREATE with GO (R304). -/
  | ctxCreate (p : Path) (r : Region) (q : Qid)
  /-- CTX_MODIFY: QMG_CTX_CMD MODIFY with GO (R304). -/
  | ctxModify (p : Path) (r : Region) (q : Qid)
  /-- CTX_DESTROY: QMG_CTX_CMD DESTROY with GO (R304). -/
  | ctxDestroy (p : Path) (r : Region) (q : Qid)
  /-- PRODUCER_DOORBELL: A doorbell with WHICH 0 (R308). -/
  | producerDoorbell (via : DoorVia) (b : Doorbell)
  /-- CONSUMER_DOORBELL: A doorbell with WHICH 1 (R308, R311). -/
  | consumerDoorbell (via : DoorVia) (b : Doorbell)
  /-- INDEX_WORD_WRITE: The index word of a host ring is written (R310). -/
  | indexWordWrite (q : Qid)
  /-- CTX_CACHE_FILL: A context read from HBM completes (R320); `found` is what its check word says (R177). -/
  | ctxCacheFill (q : CtxRead)
  /-- NOTICE_WORD_LATCH: QMG_WIN_DATA_LO is read (R323). -/
  | noticeWordLatch (p : Path) (q : Qid)
  /-- NOTICE_WORD_READ: QMG_WIN_DATA_HI is read (R317). -/
  | noticeWordRead (p : Path) (q : Qid)
  /-- NOTICE_MARK: QMG_WIN_OP MARK (R318). -/
  | noticeMark (p : Path) (q : Qid)
  /-- NOTICE_REWIND: QMG_WIN_OP REWIND (R318). -/
  | noticeRewind (p : Path) (q : Qid)
  /-- NOTICE_RELEASE: QMG_WIN_OP RELEASE (R318). -/
  | noticeRelease (p : Path) (q : Qid) (count : BitVec 20)
  /-- NOTICE_SKIP: QMG_WIN_OP SKIP (R318). -/
  | noticeSkip (p : Path) (q : Qid)
  /-- SLIP_DELIVER: A slip reaches its receive ring (R312, R313). -/
  | slipDeliver (q : Qid) (carrel : Carrel) (srcPort : Port) (srcUnit : Fin 4) (tag : Word) (data : List Byte) (poison : Bool)
  /-- DESCRIPTOR_FETCH: A channel at a descriptor boundary takes the shadow set or reads the next ring entry (R324, R547). -/
  | descriptorFetch (c : FetchLook)
  /-- DESCRIPTOR_READ_ERROR: The descriptor read is answered with an error or times out (R547). -/
  | descriptorReadError (c : Chan)
  /-- DMV_COPY: A COPY descriptor arrives (R327). -/
  | dmvCopy (c : Chan) (desc : BitVec 512)
  /-- DMV_FILL: A FILL descriptor arrives (R327). -/
  | dmvFill (c : Chan) (desc : BitVec 512)
  /-- DMV_CHECK: A CHECK descriptor arrives (R327). -/
  | dmvCheck (c : Chan) (desc : BitVec 512)
  /-- DMV_NOP: A NOP descriptor arrives (R327). -/
  | dmvNop (c : Chan) (desc : BitVec 512)
  /-- DMV_BURST_ISSUE: A channel issues its next burst (R330). -/
  | dmvBurstIssue (c : IssueLook)
  /-- DMV_BURST_COMPLETE: The burst at an offset completes with its data, or with an error (R333, R334). -/
  | dmvBurstComplete (c : Chan) (off : Nat) (rsp : BurstRsp) (data : List Byte)
  /-- READBACK_COMPLETE: The read-back returns, or is answered with an error (R332, R334). -/
  | readbackComplete (c : Chan) (rsp : BurstRsp) (data : List Byte)
  /-- DMV_CQ_HOLD_TMO: A held record reaches one transaction timeout (R336). -/
  | dmvCqHoldTmo (c : Chan)
  /-- SHADOW_ARM: DMV_SHD_CTL.ARM is written 1 (R337). -/
  | shadowArm (p : Path) (c : Chan)
  /-- DMV_ABORT: DMV_CH_CMD.ABORT is written 1 (R351). -/
  | dmvAbort (p : Path) (c : Chan)
  /-- RING_TABLE_WRITE: DMV_CH_RING is written (R325). -/
  | ringTableWrite (p : Path) (n : Fin 4096) (v : Word)
  /-- CRL_CREATE: CRL_CMD CREATE with GO (R344). -/
  | crlCreate (p : Path) (k : Carrel)
  /-- CRL_FREEZE: CRL_CMD FREEZE with GO (R345). -/
  | crlFreeze (p : Path) (k : Carrel)
  /-- CARREL_FROZEN: Every channel of a freezing carrel has stopped and no record is held (R345). -/
  | carrelFrozen (k : Carrel)
  /-- CRL_THAW: CRL_CMD THAW with GO (R344). -/
  | crlThaw (p : Path) (k : Carrel)
  /-- CRL_SAVE: CRL_CMD SAVE with GO (R346). -/
  | crlSave (p : Path) (k : Carrel) (host : Bool)
  /-- SAVE_DONE: The last byte of a migration record is placed, or a host access fails (R346). -/
  | saveDone (good : Bool)
  /-- CRL_RESTORE: CRL_CMD RESTORE with GO: from HBM, or with what the host returns (R348). -/
  | crlRestore (p : Path) (k : Carrel) (src : RecordFrom)
  /-- CRL_DESTROY: CRL_CMD DESTROY with GO (R344). -/
  | crlDestroy (p : Path) (k : Carrel)
  /-- CARREL_SLOT_WRITE: CRL_SLOT is written (R342). -/
  | carrelSlotWrite (p : Path) (k : Carrel) (slot : Fin 64) (v : Word)
  /-- CARREL_SHARE_WRITE: CRL_CHAN_LO or CRL_CHAN_HI is written (R342). -/
  | carrelShareWrite (p : Path) (k : Carrel) (hi : Bool) (v : Word)
  /-- LEAD_TAKEOVER: The first running region takes the lead (R353). -/
  | leadTakeover
  /-- MPU_BARRIER: LIB_MPU_BAR.GO is written 1 (R357). -/
  | mpuBarrier (p : Path) (r : Region)
  /-- MPU_BARRIER_DONE: Every access issued before the barrier has completed (R357). -/
  | mpuBarrierDone (r : Region)
  /-- HALT: HALT (R363). -/
  | halt (t : TilAt)
  /-- LDI: LDI (R363). -/
  | ldi (t : TilAt) (d : Fin 16) (imm : BitVec 16)
  /-- LUH: LUH (R363). -/
  | luh (t : TilAt) (d : Fin 16) (imm : BitVec 16)
  /-- LD: LD (R363). -/
  | ld (t : TilAt) (d : Fin 16) (a : Fin 16) (off : BitVec 18)
  /-- ST: ST (R363). -/
  | st (t : TilAt) (d : Fin 16) (a : Fin 16) (off : BitVec 18)
  /-- ADD: ADD (R363). -/
  | add (t : TilAt) (d : Fin 16) (a : Fin 16) (b : Fin 16)
  /-- SUB: SUB (R363). -/
  | sub (t : TilAt) (d : Fin 16) (a : Fin 16) (b : Fin 16)
  /-- ADDI: ADDI (R363). -/
  | addi (t : TilAt) (d : Fin 16) (a : Fin 16) (imm : BitVec 18)
  /-- AND: AND (R363). -/
  | and (t : TilAt) (d : Fin 16) (a : Fin 16) (b : Fin 16)
  /-- OR: OR (R363). -/
  | or (t : TilAt) (d : Fin 16) (a : Fin 16) (b : Fin 16)
  /-- XOR: XOR (R363). -/
  | xor (t : TilAt) (d : Fin 16) (a : Fin 16) (b : Fin 16)
  /-- ANDI: ANDI (R363). -/
  | andi (t : TilAt) (d : Fin 16) (a : Fin 16) (imm : BitVec 18)
  /-- SHLI: SHLI (R363). -/
  | shli (t : TilAt) (d : Fin 16) (a : Fin 16) (sh : Fin 32)
  /-- SHRI: SHRI (R363). -/
  | shri (t : TilAt) (d : Fin 16) (a : Fin 16) (sh : Fin 32)
  /-- CBR: CBR (R363). -/
  | cbr (t : TilAt) (a : Fin 16) (b : Fin 16) (cond : Fin 8) (tgt : BitVec 11)
  /-- CALL: CALL (R363). -/
  | call (t : TilAt) (tgt : BitVec 11)
  /-- RET: RET (R363). -/
  | ret (t : TilAt)
  /-- WAIT: WAIT (R363). -/
  | wait (t : TilAt) (d : Fin 16) (mask : BitVec 8) (unit : TUnit) (count : BitVec 12)
  /-- WAITB: WAITB (R363). -/
  | waitb (t : TilAt) (d : Fin 16) (a : Fin 16) (bit : Fin 32) (val : Bool) (unit : TUnit) (count : BitVec 10)
  /-- DELAY: DELAY (R363). -/
  | delay (t : TilAt) (unit : TUnit) (count : BitVec 12)
  /-- EVENT: EVENT (R363). -/
  | event (t : TilAt) (a : Fin 16) (code : BitVec 12)
  /-- REPLY: REPLY (R363). -/
  | reply (t : TilAt) (a : Fin 16) (b : Fin 16)
  /-- YIELD: YIELD (R363). -/
  | yield (t : TilAt)
  /-- TRAP: TRAP (R363). -/
  | trap (t : TilAt) (code : BitVec 8)
  /-- WAIT_WAKE: An awaited event is pending and the tiller resumes (R359). -/
  | waitWake (t : TillerIx)
  /-- WAIT_TIMEOUT: A WAIT, WAITB or DELAY reaches COUNT units (R364). -/
  | waitTimeout (t : TillerIx)
  /-- WAITB_MATCH: A WAITB sample finds the bit at VAL (R363). -/
  | waitbMatch (t : TillerIx)
  /-- LD_RETURN: A register-space load returns (R364). -/
  | ldReturn (t : TillerIx)
  /-- STORE_COMPLETE: A tiller's oldest register-space store completes (R364). -/
  | storeComplete (t : TillerIx)
  /-- TILLER_RUNAWAY: 2^20 instructions have run without a wait (R365). -/
  | tillerRunaway (t : TillerIx)
  /-- TILLER_RUN: TIL_CTL.RUN is written 1 (R377). -/
  | tillerRun (p : Path) (t : TillerIx)
  /-- TILLER_STOP: TIL_CTL.STOP is written 1 (R377). -/
  | tillerStop (p : Path) (t : TillerIx)
  /-- POST_CMD: TIL_CTL.POST_CMD is written 1 (R359). -/
  | postCmd (p : Path) (t : TillerIx)
  /-- HANDLER_RESTART: 10 ms after a stop a hosted handler restarts at its entry (R366). -/
  | handlerRestart (t : TillerIx)
  /-- READ_RECORD: Service operation 0 of a hosted handler, on its service words (R367). -/
  | readRecord (t : TillerIx)
  /-- WRITE_RECORD: Service operation 1 of a hosted handler, on its service words (R367). -/
  | writeRecord (t : TillerIx)
  /-- WRITE_GROUP: Service operation 2 of a hosted handler, on its service words (R367). -/
  | writeGroup (t : TillerIx)
  /-- BARRIER: Service operation 3 of a hosted handler, on its service words (R367). -/
  | barrier (t : TillerIx)
  /-- POST_ADD: Service operation 4 of a hosted handler, on its service words (R367). -/
  | postAdd (t : TillerIx)
  /-- RESHELVE: Service operation 5 of a hosted handler, on its service words (R367). -/
  | reshelve (t : TillerIx)
  /-- RULE_WRITE: Service operation 6 of a hosted handler, on its service words (R367). -/
  | svcRuleWrite (t : TillerIx)
  /-- SET_TIMER: Service operation 7 of a hosted handler, on its service words (R367). -/
  | setTimer (t : TillerIx)
  /-- REQUEST_DEADLINE: A request reaches its deadline without a REPLY (R368). -/
  | requestDeadline (handle : Nat)
  /-- HANDLER_TIMESLICE: A handler has run for 10 µs (R369). -/
  | handlerTimeslice (r : CoreLook)
  /-- TIMER_DUE: Fabric time reaches a multiple of a handler's period (R361). -/
  | timerDue (t : TillerIx)
  /-- CARREL_CREATE: Mailbox command 0xC000 at a carrel endpoint function, or at the management endpoint (64) for a port (R371). -/
  | carrelCreate (ep : Fin 65) (port : Port) (pasid : BitVec 20) (template : BitVec 8) (mask : BitVec 64)
  /-- CARREL_CHANGE: Mailbox command 0xC001 (R371). -/
  | carrelChange (ep : Fin 65) (port : Port) (pasid : BitVec 20) (item : Fin 4) (value : BitVec 64) (idx : BitVec 16)
  /-- CARREL_FREEZE: Mailbox command 0xC002 (R371). -/
  | carrelFreeze (ep : Fin 65) (port : Port) (pasid : BitVec 20)
  /-- CARREL_SAVE: Mailbox command 0xC003 (R371). -/
  | carrelSave (ep : Fin 65) (port : Port) (pasid : BitVec 20) (host : Bool) (addr : BitVec 64)
  /-- CARREL_RESTORE: Mailbox command 0xC004: from HBM, src the source carrel, or from a host, src the address; with what the host returns (R371). -/
  | carrelRestore (ep : Fin 65) (port : Port) (pasid : BitVec 20) (rec_ : RecordFrom) (src : BitVec 64) (base : Qid)
  /-- CARREL_THAW: Mailbox command 0xC005 (R371). -/
  | carrelThaw (ep : Fin 65) (port : Port) (pasid : BitVec 20)
  /-- CARREL_DESTROY: Mailbox command 0xC006 (R371). -/
  | carrelDestroy (ep : Fin 65) (port : Port) (pasid : BitVec 20)
  /-- QUEUE_CREATE: Mailbox command 0xC008 (R371). -/
  | queueCreate (ep : Fin 65) (port : Port) (pasid : BitVec 20) (slot : Fin 64) (ctx : BitVec 512)
  /-- QUEUE_DESTROY: Mailbox command 0xC009 (R371). -/
  | queueDestroy (ep : Fin 65) (port : Port) (pasid : BitVec 20) (slot : Fin 64)
  /-- REQUEST_CAPACITY: Mailbox command 0xC010 (R371). -/
  | requestCapacity (ep : Fin 65) (port : Port) (shelves : Word) (mode : Fin 4) (gclass : Fin 8) (group : BitVec 12)
  /-- MBX_COMMAND_TIMEOUT: A mailbox command reaches its bound (R372). -/
  | mbxCommandTimeout (ep : Fin 65)
  /-- IDENTIFY_SWITCH_DEVICE: FM API (R373). -/
  | identifySwitchDevice (via : FmVia)
  /-- GET_PHYSICAL_PORT_STATE: FM API (R373). -/
  | getPhysicalPortState (via : FmVia) (ports : List Port)
  /-- PHYSICAL_PORT_CONTROL: FM API (R373). -/
  | physicalPortControl (via : FmVia) (port : Port) (op : Nat)
  /-- SEND_PPB_CXLIO_CONFIG_REQUEST: FM API (R373). -/
  | sendPpbCxlioConfigRequest (via : FmVia) (port : Port) (write : Bool) (reg : Nat) (data : Word)
  /-- GET_VIRTUAL_CXL_SWITCH_INFO: FM API (R373). -/
  | getVirtualCxlSwitchInfo (via : FmVia) (vcs : List Port)
  /-- BIND_VPPB: FM API (R373). -/
  | bindVppb (via : FmVia) (vcs : Port) (vppb : Nat) (port : Port) (ld : Fin 16)
  /-- UNBIND_VPPB: FM API (R373). -/
  | unbindVppb (via : FmVia) (vcs : Port) (vppb : Nat)
  /-- GENERATE_AER_EVENT: FM API (R373). -/
  | generateAerEvent (via : FmVia) (vcs : Port) (vppb : Nat)
  /-- TUNNEL_MANAGEMENT_COMMAND: FM API (R373). -/
  | tunnelManagementCommand (via : FmVia) (port : Port) (payload : List Byte)
  /-- SEND_LD_CXLIO_CONFIG_REQUEST: FM API (R373). -/
  | sendLdCxlioConfigRequest (via : FmVia) (port : Port) (ld : Fin 16) (write : Bool) (reg : Nat) (data : Word)
  /-- SEND_LD_CXLIO_MEMORY_REQUEST: FM API (R373). -/
  | sendLdCxlioMemoryRequest (via : FmVia) (port : Port) (ld : Fin 16) (write : Bool) (addr : Nat) (data : List Byte)
  /-- GET_DCD_INFO: FM API (R373). -/
  | getDcdInfo (via : FmVia)
  /-- GET_HOST_DC_REGION_CONFIGURATION: FM API (R373). -/
  | getHostDcRegionConfiguration (via : FmVia) (host : Port)
  /-- GET_DC_REGION_EXTENT_LISTS: FM API (R373). -/
  | getDcRegionExtentLists (via : FmVia) (host : Port)
  /-- INITIATE_DYNAMIC_CAPACITY_ADD: FM API (R65). -/
  | initiateDynamicCapacityAdd (via : FmVia) (host : Port) (shelves : Nat) (mode : Fin 4) (gclass : Fin 8) (group : BitVec 12) (tag : Word)
  /-- INITIATE_DYNAMIC_CAPACITY_RELEASE: FM API (R65). -/
  | initiateDynamicCapacityRelease (via : FmVia) (host : Port) (shelf : Shelf) (count : Nat)
  /-- SET_DC_REGION_CONFIGURATION: FM API (R373). -/
  | setDcRegionConfiguration (via : FmVia)
  /-- I3C_REG_READ: An I3C private write 0xA1 (R510). -/
  | i3cRegRead (addr : BitVec 32)
  /-- I3C_REG_WRITE: An I3C private write 0xA2 (R510, R512). -/
  | i3cRegWrite (addr : BitVec 32) (data : Word)
  /-- I3C_REPLY_READ: An I3C private read (R511). -/
  | i3cReplyRead
  /-- I3C_ENEC: ENEC enables in-band interrupts (R375). -/
  | i3cEnec
  /-- I3C_DISEC: DISEC disables in-band interrupts (R375). -/
  | i3cDisec
  /-- I3C_DAA: The dynamic address is assigned (R374). -/
  | i3cDaa (addr : BitVec 7)
  /-- IBI_SEND: The 100 µs spacing allows one in-band interrupt (R375). -/
  | ibiSend
  /-- LIB_WATCHDOG: Firmware of a core has been silent for 10 ms (R376). -/
  | libWatchdog (r : Region)
  /-- PERST_N_DEASSERT: PERST_N passes its filter high (R381 step 1); `fuse` says what of the fuses the Keeper could read (R4, R411), `test` whether TEST_MODE is high (R542). -/
  | perstNDeassert (fuse : KeeperFuses) (test : Bool)
  /-- SUPPLY_CHECK_PASS: The supply check passes and both headers are read (R380, R381 step 2). -/
  | supplyCheckPass (slotA : Flash) (slotB : Flash)
  /-- ROOT_LOCK: The ROOT PLLs lock; `ppm` is the measured offset of AON (R436, R440, R381 step 3). -/
  | rootLock (ppm : Int)
  /-- SRAM_WIPED: SRAM is wiped by BIST (R381 step 4). -/
  | sramWiped
  /-- EARLY_SECTIONS_VERIFIED: The header and early sections of the tried slot, or of the other after it fails, are checked and loaded (R389, R381 step 5). -/
  | earlySectionsVerified (slotA : Flash) (slotB : Flash)
  /-- LATE_SECTIONS_CHECKED: The late sections of the tried slot are read, checked and loaded (R389, R381 step 8). -/
  | lateSectionsChecked (flash : Flash)
  /-- FLASH_READ_TIMEOUT: A flash read of the tried slot does not return within 1 ms (R379). -/
  | flashReadTimeout
  /-- FIRMWARE_STARTED: Firmware starts on every core and program memory is locked (R381 step 9). -/
  | firmwareStarted
  /-- READY: The KZ64 becomes ready, `ms` after PERST_N deassertion (R383). -/
  | ready (ms : Nat)
  /-- POOL_DEVICE_ENUMERATED: A pool port's device is enumerated after ready (R384). -/
  | poolDeviceEnumerated (port : Port) (serial : BitVec 64)
  /-- ROLLBACK_COMMIT: SEC_RB_CMD.COMMIT is written (R402). -/
  | rollbackCommit (p : Path)
  /-- ROLLBACK_FUSE_DONE: The rollback fuses have been written, or failed (R402). -/
  | rollbackFuseDone (good : Bool)
  /-- NONCE_READ: SEC_NONCE_LO is read (R406). -/
  | nonceRead (p : Path)
  /-- LC_OWN: SEC_TOKEN_CMD.GO with a KIND 1 token (R405). -/
  | lcOwn (p : Path)
  /-- LC_RETURN: SEC_TOKEN_CMD.GO with a KIND 2 token (R405). -/
  | lcReturn (p : Path)
  /-- LC_SCRAP: SEC_TOKEN_CMD.GO with a KIND 3 token (R405). -/
  | lcScrap (p : Path)
  /-- DBG_UNLOCK: SEC_TOKEN_CMD.GO with a KIND 4 token (R408). -/
  | dbgUnlock (p : Path)
  /-- LC_FUSE_DONE: The life-cycle fuses have been written, or failed (R407). -/
  | lcFuseDone (good : Bool)
  /-- SPDM_REQUEST: An SPDM request over DOE or MCTP (R403); endpoints 0–63 are carrel functions, 64 the management endpoint, 65 MCTP over PCIe, 66 MCTP over I3C. -/
  | spdmRequest (endpoint : Nat) (op : SpdmOp)
  /-- DEBUG_ACCESS: A debug-master access through JTAG (R408, R409). -/
  | debugAccess (op : DebugOp)
  /-- BOUNDARY_SCAN: A boundary-scan instruction (R410). -/
  | boundaryScan (op : ScanOp)
  /-- SLOT_CONVERSION: A channel converts and runs its checks (R415, R426). -/
  | slotConversion (c : Slot) (v : SlotReading)
  /-- DIODE_MEASURE: The FET diode is measured; `dv` is the voltage difference in µV (R416). -/
  | diodeMeasure (c : Slot) (dv : DiodeReading)
  /-- SLOT_INSERT: PRSNT_S_N reads low; `long` says that PRSNT_L_N reads low too (R418, R419). -/
  | slotInsert (c : Slot) (long : Bool)
  /-- SLOT_REMOVAL: PRSNT_S_N reads high; `long` says that PRSNT_L_N still reads low (R419). -/
  | slotRemoval (c : Slot) (long : Bool)
  /-- DEBOUNCE_END: Both pins have stayed low for DEBOUNCE_MS (R418). -/
  | debounceEnd (c : Slot)
  /-- SLOT_START: SPW_CMD.START is written (R420). -/
  | slotStart (p : Path) (c : Slot)
  /-- SLOT_OFF: SPW_CMD.OFF is written (R418). -/
  | slotOff (p : Path) (c : Slot)
  /-- SLOT_CLEAR: SPW_CMD.CLEAR is written (R429). -/
  | slotClear (p : Path) (c : Slot)
  /-- PRECHECK_TIMEOUT: V_OUT has stayed high for 1 s in PRECHECK (R418). -/
  | precheckTimeout (c : Slot)
  /-- FAULT_TIMER: The fault timer expires (R421). -/
  | faultTimer (c : Slot)
  /-- RAMP_WINDOW: The ramp window ends (R422). -/
  | rampWindow (c : Slot)
  /-- FAST_TRIP: A class F comparator crosses THRESH (R423). -/
  | fastTrip (c : Slot)
  /-- PASS_FET_CHECK: 2 ms after gate drive starts the FET is checked; V_GS in mV (R427). -/
  | passFetCheck (c : Slot) (vgs : Nat)
  /-- POWER_GOOD: V_OUT has been at least 92 % for 1 ms out of limit (R425). -/
  | powerGood (c : Slot)
  /-- COOL_END: The off-time has ended (R428). -/
  | coolEnd (c : Slot)
  /-- TRIP_COUNT_RESET: Power-good has been held for 1 s (R428). -/
  | tripCountReset (c : Slot)
  /-- BUS_WARN_CLEAR: Every channel has read above WARN × 1.01 for 50 µs (R430). -/
  | busWarnClear
  /-- HK_SOURCE_SWITCH: The supervision clock switches to the lowest locked region, or to AON (R441). -/
  | hkSourceSwitch
  /-- REFCLK_LOSS: REFCLK shows no edge for 1 µs (R439). -/
  | refclkLoss
  /-- ROOT_UNLOCK: A region's ROOT loses lock (R439). -/
  | rootUnlock (r : Region)
  /-- RAIL_CONVERSION: The monitors convert rail m and compare it (R443, R444, R445). -/
  | railConversion (m : Fin 8) (v : RailReading)
  /-- RAIL_WARN_CLEAR: A rail has read inside its band with hysteresis for 50 µs (R444). -/
  | railWarnClear (m : Fin 8)
  /-- BROWNOUT_RESUME: Every rail has been in window for 1 ms with PERST_N high (R445). -/
  | brownoutResume
  /-- PERST_N_ASSERT: PERST_N asserts (R448). -/
  | perstNAssert
  /-- WARM_RST_N_ASSERT: WARM_RST_N asserts (R448). -/
  | warmRstNAssert
  /-- WARM_RST_N_DEASSERT: WARM_RST_N deasserts (R447). -/
  | warmRstNDeassert
  /-- WARM_RESET_CMD: CRS_RST_CMD.WARM is written with a key (R451). -/
  | warmResetCmd (p : Path) (key : BitVec 16)
  /-- PD_FLUSH_END: Every issued flush write has completed, `ms` after assertion (R448). -/
  | pdFlushEnd (ms : Nat)
  /-- PD_FLUSH_CUTOFF: The flush is cut off 190 ms after assertion (R449). -/
  | pdFlushCutoff
  /-- RGN_RST_N_ASSERT: RGN_RST_N[r] reads low (R452). -/
  | rgnRstNAssert (r : Region)
  /-- POWER_ON: VDD_KPR rises past its power-on reset (R447). -/
  | powerOn
  /-- KEEPER_POWER_LOSS: VDD_KPR falls below its reset level (R445). -/
  | keeperPowerLoss
  /-- REGION_ISOLATED: A region completes its isolation (R468). -/
  | regionIsolated (r : Region)
  /-- BLOCK_RESET_DONE: A block's self-reset completes (R41). -/
  | blockResetDone (set : Nat)
  /-- SELF_RESET_TMO: A self-reset has not ended within 1 ms (R466). -/
  | selfResetTmo (set : Nat)
  /-- BLK_WAIT_TMO: A hardware wait of a block expires (R466). -/
  | blkWaitTmo (set : Nat)
  /-- RETAINED_COPY_DONE: The Keeper finishes the oldest copy, of which `copied` bytes were read before the region die stopped answering or the copy was whole (R471). -/
  | retainedCopyDone (copied : RetCopy)
  /-- FAULT_PIN_MISMATCH: The FAULT pins differ from the driven code for three AON cycles (R476). -/
  | faultPinMismatch
  /-- CES_MASK_WRITE: A write of a MASK word of a common error set (R463). -/
  | cesMaskWrite (p : Path) (set : Nat) (mask : Word)
  /-- MSIX_MERGE_END: 1 µs after an instance's last message (R463). -/
  | msixMergeEnd (set : Nat)
  /-- RECORD_WRITE: The oldest staged record of a unit reaches its record area (R482, R483). -/
  | recordWrite (u : StageRead)
  /-- HIST_FRAME: FRAME_MS ends: a histogram frame is written (R485). -/
  | histFrame (r : Region)
  /-- WEAR_SAMPLE: Once per second: the hottest reading of each of the 13 dies, in 0.1 °C (R487). -/
  | wearSample (temps : List Int)
  /-- WEAR_LOAD: ARC_WEAR_CMD.LOAD is written (R488). -/
  | wearLoad (p : Path)
  /-- WEAR_SEAL: ARC_WEAR_CMD.SEAL is written (R488). -/
  | wearSeal (p : Path)
  /-- ARC_FREEZE: ARC_FRZ.FREEZE is written (R489). -/
  | arcFreeze (p : Path) (u : Fin 5)
  /-- ARC_UNFREEZE: ARC_FRZ.UNFREEZE is written (R489). -/
  | arcUnfreeze (p : Path) (u : Fin 5)
  /-- FREEZE_EXPIRED: FRZ_MAX_MS passes (R489). -/
  | freezeExpired (u : Fin 5)
  /-- RECORD_AREA_RELEASE: ARC_REC.RELEASE is written (R482). -/
  | recordAreaRelease (p : Path) (u : Fin 5)
  /-- HIST_AREA_RELEASE: ARC_HIST.RELEASE is written (R485). -/
  | histAreaRelease (p : Path) (r : Region)
  /-- EXTREMES_CLEAR: ARC_CTL.EXT_CLR is written (R486). -/
  | extremesClear (p : Path) (u : Fin 5)
  /-- COUNTER_CLEAR: PMC_CFG.CLR is written (R496). -/
  | counterClear (p : Path) (n : Nat)
  /-- COUNTER_LO_READ: PMC_CNT_LO is read (R496). -/
  | counterLoRead (p : Path) (n : CounterRead)
  /-- TIME_LO_READ: TFC_TIME_LO is read (R240). -/
  | timeLoRead (p : Path)
  /-- PATTERN_COUNT_READ: PRT_PAT_CNT_LO is read (R261). -/
  | patternCountRead (p : Path) (n : Lane)
  /-- SNAPSHOT_CAPTURE: PERIOD_US ends: every counter is captured (R494). -/
  | snapshotCapture
  /-- SNAPSHOT_NOW: PMC_SNAP_CTL.NOW is written (R494). -/
  | snapshotNow (p : Path)
  /-- SNAPSHOT_WRITTEN: The captured snapshot has been written to its slot (R494). -/
  | snapshotWritten
  /-- PULSE_IGNORED: A reset or presence pulse shorter than its filter is ignored (R43). -/
  | pulseIgnored (pin : Nat) (ns : Nat)
  /-- REGISTER_READ_CLEAR: A read of a register (R503, R508). -/
  | registerReadClear (p : Path) (addr : BitVec 32)
deriving DecidableEq, Repr

end Sys2Proof
end

