-- ==== Sys2Proof/WellFormed.lean ====
section
/-! DEFINITION. Well-formed commands: the ranges of the operands that the types of Syntax.lean do not bound. -/
namespace Sys2Proof

/-- Every message of a flit goes to a port or to a region's internal sink (R184, R186). -/
def goodFlit (body : Option (List LinkMsg)) : Bool :=
  match body with
  | none => true
  | some ms => ms.all (fun m => m.dest < 68)

/-- A margining command gives its step in the seven bits below the direction (R248). -/
def goodMargin : MarginCmd → Bool
  | .timing _ step => step < 2 ^ 7
  | .voltage _ step => step < 2 ^ 7
  | _ => true

/-- Bytes of a flash in address order, as a device of 32-bit addresses holds them (R378). -/
def goodFlash : Flash → Bool
  | [] => true
  | [(a, _)] => a < 2 ^ 32
  | (a, _) :: (b, y) :: t => a < b && goodFlash ((b, y) :: t)

/-- A raw HBM read of the debug master names an address of a stack (R409, R159). -/
def goodDebug (op : DebugOp) : Bool :=
  match op with
  | .hbmRaw _ addr => addr < 2 ^ 35
  | _ => true

/-- The number of a common error set: sixteen instances of each of sixteen blocks of four regions, and the ten chip-scope sets
(R459, R478). -/
def setNumber (set : Nat) : Bool := set < 1024 || (set % 16 == 0 && set < 1184)

/-- A well-formed command. -/
def Instr.wf (i : Instr) : Bool :=
  match i with
  | .registerWrite _ _ _ size => 0 < size && size ≤ 64
  | .srecRead .. => true
  | .srecWrite .. => true
  | .grpRead .. => true
  | .grpWrite .. => true
  | .grpCopiesDone .. => true
  | .ruleRead .. => true
  | .ruleWrite .. => true
  | .ruleClear .. => true
  | .bindingBarrierStart .. => true
  | .ruleBarrierStart .. => true
  | .barrierComplete .. => true
  | .barrierTimeout .. => true
  | .barrierSlotFree .. => true
  | .reshelveStart .. => true
  | .reshelveSwitch .. => true
  | .reshelveAbort .. => true
  | .switchoverDrained .. => true
  | .switchoverStallTmo .. => true
  | .addDcResponse .. => true
  | .addTimeout .. => true
  | .releaseDynamicCapacity _ _ count => count < 2 ^ 20
  | .rdShared .. => true
  | .rdOwn .. => true
  | .rdCur .. => true
  | .ownNodata .. => true
  | .cleanEvict .. => true
  | .wb .. => true
  | .wr .. => true
  | .catReqProtocol .. => true
  | .biRsp _ t _ _ => t < 8192
  | .d2hSnoopResponse _ t _ _ _ => t < 8192
  | .biConflict _ t _ _ => t < 8192
  | .catalogueFillDone .. => true
  | .granaryDataReady _ t _ => t < 8192
  | .chainRetryDelay .. => true
  | .dedupeRetire .. => true
  | .catEntryLookup .. => true
  | .reclaimStart .. => true
  | .poisonLedgerRead .. => true
  | .deadSetEntry .. => true
  | .reclaimWalkEnd .. => true
  | .reclaimWalkTmo .. => true
  | .txnTimeout _ t => t < 8192
  | .txnPauseCap _ t => t < 8192
  | .upLinkDown .. => true
  | .poolLinkDown .. => true
  | .holdReturn .. => true
  | .holdExpiry .. => true
  | .zwiusLinkDown .. => true
  | .zwiusUnackTimeout .. => true
  | .zwiusResponse .. => true
  | .hotResetReceived .. => true
  | .dnLinkDown .. => true
  | .reclaimSetVisit .. => true
  | .poolFillArrive .. => true
  | .poolWriteComplete .. => true
  | .grnInvalidate .. => true
  | .grnCleanInvalidate .. => true
  | .grnAllClean .. => true
  | .flushWalkDone .. => true
  | .patrolScrubStep .. => true
  | .rowRepairDone .. => true
  | .hbmStartDone .. => true
  | .pseudoChannelFail .. => true
  | .flushWalkStep .. => true
  | .flitReceive _ _ body _ _ => goodFlit body
  | .cxlioRequest .. => true
  | .overflowDrain .. => true
  | .outputCellStart .. => true
  | .spineCellReceive .. => true
  | .spineAckReceive .. => true
  | .spineAckTimeout .. => true
  | .resendAcked .. => true
  | .sprayEntryAnswer .. => true
  | .exitMarkArrive .. => true
  | .holeTimeout .. => true
  | .spineCheckPassed .. => true
  | .forceSprayEntry .. => true
  | .forceSprayExit .. => true
  | .rtRead .. => true
  | .rtWrite .. => true
  | .rtClear .. => true
  | .rtBarrierStart .. => true
  | .rtBarrierDone .. => true
  | .rtBarrierTimeout .. => true
  | .schedulerSlot => true
  | .spineArbitration .. => true
  | .slipAdmit _ _ _ _ _ data _ => data.length ≤ 240
  | .policerCfgWrite .. => true
  | .policerAttach .. => true
  | .ptmRequest => true
  | .ptmResult .. => true
  | .holdoverEntry => true
  | .gateGo .. => true
  | .gateBankSwitch .. => true
  | .gateEntryChange .. => true
  | .histDepthSample .. => true
  | .timeRegionSkew => true
  | .linkUp .. => true
  | .linkTrainFail .. => true
  | .detectTimeout .. => true
  | .recoveryTimeout .. => true
  | .pvperlExpiry .. => true
  | .wakeNAssert .. => true
  | .laneFault .. => true
  | .widthChange .. => true
  | .l0pPeerRequest .. => true
  | .retrain .. => true
  | .disable .. => true
  | .test .. => true
  | .injOne .. => true
  | .injBurst .. => true
  | .checkerEnable .. => true
  | .lanePllUnlock .. => true
  | .lanePllRelock .. => true
  | .receiverDetect .. => true
  | .linkRecoveryEntry .. => true
  | .linkRecoveryExit .. => true
  | .laneMarginingCommand _ m => goodMargin m.cmd
  | .spareLaneBad .. => true
  | .patternCheckerSync .. => true
  | .flitAckReceive .. => true
  | .flitNakReceive .. => true
  | .creditUpdate .. => true
  | .kSetGo .. => true
  | .ideKeyProg _ _ _ _ _ session => session < 2 ^ 32
  | .flowUnitReceive .. => true
  | .zwlInit .. => true
  | .zwlAck .. => true
  | .zwlNak .. => true
  | .zwlReq .. => true
  | .zwlGrant .. => true
  | .zwlTimeRequest .. => true
  | .zwlTimeResponse .. => true
  | .swapReq .. => true
  | .swapAck .. => true
  | .swapDone .. => true
  | .swapAckTimeout .. => true
  | .zwlAckTimer .. => true
  | .zwlNakRepeat .. => true
  | .zwlReqRepeat .. => true
  | .zwlGrantRepeat .. => true
  | .zwlTimeExchange => true
  | .zwlCtrlDiscard .. => true
  | .ctxRead .. => true
  | .ctxCreate .. => true
  | .ctxModify .. => true
  | .ctxDestroy .. => true
  | .producerDoorbell _ b => 0 < b.size && b.size ≤ 64
  | .consumerDoorbell _ b => 0 < b.size && b.size ≤ 64
  | .indexWordWrite .. => true
  | .ctxCacheFill .. => true
  | .noticeWordLatch .. => true
  | .noticeWordRead .. => true
  | .noticeMark .. => true
  | .noticeRewind .. => true
  | .noticeRelease .. => true
  | .noticeSkip .. => true
  | .slipDeliver _ _ _ _ _ data _ => data.length ≤ 240
  | .descriptorFetch .. => true
  | .descriptorReadError .. => true
  | .dmvCopy .. => true
  | .dmvFill .. => true
  | .dmvCheck .. => true
  | .dmvNop .. => true
  | .dmvBurstIssue .. => true
  | .dmvBurstComplete _ _ _ data => data.length ≤ 256
  | .readbackComplete _ _ data => data.length ≤ 256
  | .dmvCqHoldTmo .. => true
  | .shadowArm .. => true
  | .dmvAbort .. => true
  | .ringTableWrite .. => true
  | .crlCreate .. => true
  | .crlFreeze .. => true
  | .carrelFrozen .. => true
  | .crlThaw .. => true
  | .crlSave .. => true
  | .saveDone .. => true
  | .crlRestore .. => true
  | .crlDestroy .. => true
  | .carrelSlotWrite .. => true
  | .carrelShareWrite .. => true
  | .leadTakeover => true
  | .mpuBarrier .. => true
  | .mpuBarrierDone .. => true
  | .halt .. => true
  | .ldi .. => true
  | .luh .. => true
  | .ld .. => true
  | .st .. => true
  | .add .. => true
  | .sub .. => true
  | .addi .. => true
  | .and .. => true
  | .or .. => true
  | .xor .. => true
  | .andi .. => true
  | .shli .. => true
  | .shri .. => true
  | .cbr .. => true
  | .call .. => true
  | .ret .. => true
  | .wait .. => true
  | .waitb .. => true
  | .delay .. => true
  | .event .. => true
  | .reply .. => true
  | .yield .. => true
  | .trap .. => true
  | .waitWake .. => true
  | .waitTimeout .. => true
  | .waitbMatch .. => true
  | .ldReturn .. => true
  | .storeComplete .. => true
  | .tillerRunaway .. => true
  | .tillerRun .. => true
  | .tillerStop .. => true
  | .postCmd .. => true
  | .handlerRestart .. => true
  | .readRecord .. => true
  | .writeRecord .. => true
  | .writeGroup .. => true
  | .barrier .. => true
  | .postAdd .. => true
  | .reshelve .. => true
  | .svcRuleWrite .. => true
  | .setTimer .. => true
  | .requestDeadline handle => handle < 2 ^ 32
  | .handlerTimeslice .. => true
  | .timerDue .. => true
  | .carrelCreate .. => true
  | .carrelChange .. => true
  | .carrelFreeze .. => true
  | .carrelSave .. => true
  | .carrelRestore .. => true
  | .carrelThaw .. => true
  | .carrelDestroy .. => true
  | .queueCreate .. => true
  | .queueDestroy .. => true
  | .requestCapacity .. => true
  | .mbxCommandTimeout .. => true
  | .identifySwitchDevice .. => true
  | .getPhysicalPortState .. => true
  | .physicalPortControl _ _ op => op < 256
  | .sendPpbCxlioConfigRequest _ _ _ reg _ => reg < 4096
  | .getVirtualCxlSwitchInfo .. => true
  | .bindVppb _ _ vppb _ _ => vppb < 256
  | .unbindVppb _ _ vppb => vppb < 256
  | .generateAerEvent _ _ vppb => vppb < 256
  | .tunnelManagementCommand .. => true
  | .sendLdCxlioConfigRequest _ _ _ _ reg _ => reg < 4096
  | .sendLdCxlioMemoryRequest _ _ _ _ addr _ => addr < 2 ^ 64
  | .getDcdInfo .. => true
  | .getHostDcRegionConfiguration .. => true
  | .getDcRegionExtentLists .. => true
  | .initiateDynamicCapacityAdd _ _ shelves _ _ _ _ => shelves < 2 ^ 20
  | .initiateDynamicCapacityRelease _ _ _ count => count < 2 ^ 20
  | .setDcRegionConfiguration .. => true
  | .i3cRegRead .. => true
  | .i3cRegWrite .. => true
  | .i3cReplyRead => true
  | .i3cEnec => true
  | .i3cDisec => true
  | .i3cDaa .. => true
  | .ibiSend => true
  | .libWatchdog .. => true
  | .perstNDeassert .. => true
  | .supplyCheckPass slotA slotB => goodFlash slotA && goodFlash slotB
  | .rootLock .. => true
  | .sramWiped => true
  | .earlySectionsVerified slotA slotB => goodFlash slotA && goodFlash slotB
  | .lateSectionsChecked flash => goodFlash flash
  | .flashReadTimeout => true
  | .firmwareStarted => true
  | .ready .. => true
  | .poolDeviceEnumerated .. => true
  | .rollbackCommit .. => true
  | .rollbackFuseDone .. => true
  | .nonceRead .. => true
  | .lcOwn .. => true
  | .lcReturn .. => true
  | .lcScrap .. => true
  | .dbgUnlock .. => true
  | .lcFuseDone .. => true
  | .spdmRequest endpoint _ => endpoint ≤ 66
  | .debugAccess op => goodDebug op
  | .boundaryScan .. => true
  | .slotConversion .. => true
  | .diodeMeasure .. => true
  | .slotInsert .. => true
  | .slotRemoval .. => true
  | .debounceEnd .. => true
  | .slotStart .. => true
  | .slotOff .. => true
  | .slotClear .. => true
  | .precheckTimeout .. => true
  | .faultTimer .. => true
  | .rampWindow .. => true
  | .fastTrip .. => true
  | .passFetCheck .. => true
  | .powerGood .. => true
  | .coolEnd .. => true
  | .tripCountReset .. => true
  | .busWarnClear => true
  | .hkSourceSwitch => true
  | .refclkLoss => true
  | .rootUnlock .. => true
  | .railConversion m v => v.mv.length == (if m.val < 6 then 4 else 1)
  | .railWarnClear .. => true
  | .brownoutResume => true
  | .perstNAssert => true
  | .warmRstNAssert => true
  | .warmRstNDeassert => true
  | .warmResetCmd .. => true
  | .pdFlushEnd .. => true
  | .pdFlushCutoff => true
  | .rgnRstNAssert .. => true
  | .powerOn => true
  | .keeperPowerLoss => true
  | .regionIsolated .. => true
  | .blockResetDone set => setNumber set
  | .selfResetTmo set => setNumber set
  | .blkWaitTmo set => setNumber set
  | .retainedCopyDone .. => true
  | .faultPinMismatch => true
  | .cesMaskWrite _ set _ => setNumber set
  | .msixMergeEnd set => setNumber set
  | .recordWrite .. => true
  | .histFrame .. => true
  | .wearSample temps => temps.length == 13
  | .wearLoad .. => true
  | .wearSeal .. => true
  | .arcFreeze .. => true
  | .arcUnfreeze .. => true
  | .freezeExpired .. => true
  | .recordAreaRelease .. => true
  | .histAreaRelease .. => true
  | .extremesClear .. => true
  | .counterClear _ n => n < 2816
  | .counterLoRead _ n => n.n < 2816
  | .timeLoRead .. => true
  | .patternCountRead .. => true
  | .snapshotCapture => true
  | .snapshotNow .. => true
  | .snapshotWritten => true
  | .pulseIgnored pin ns => pin < 128 && 0 < ns
  | .registerReadClear .. => true

end Sys2Proof
end

