-- ==== Sys2Proof/Config.lean ====
section
/-! DEFINITION. What one implementation or one part fixes and the spec leaves open: free values, as constants without a
body, so that nothing proved can rest on what they are. -/
namespace Sys2Proof.Config

/-- A value that the spec leaves open, by the state's counter of free values taken (log entry 4). -/
opaque freeValue : Nat → Nat

/-- The 64-byte SHAKE256 digest of FIPS 202 (R400, R401, R403). -/
opaque shake256 : List Byte → BitVec 512

/-- Whether an Ed448ph signature of RFC 8032 verifies: context 0 KZ64-DZM, 1 KZ64-FW, 2 KZ64-TOK; key, message, signature
(R400). -/
opaque ed448ph : Nat → List Byte → List Byte → List Byte → Bool

/-- VROOT_HASH, fused at manufacture (R401). -/
opaque vrootHash : BitVec 512

/-- The digest of this part's identity public key (R403, R406). -/
opaque deviceId : BitVec 512

/-- The certificate of slot 0 by index (R403): 0 Volpiholt's root in the Keeper ROM, 1 the identity certificate. -/
opaque certificate : Nat → List Byte

/-- The alias key that the Keeper derives from the device secret and a digest of the measurements, with its certificate (R403). -/
opaque aliasKey : BitVec 512 → BitVec 456
opaque aliasCertificate : BitVec 512 → List Byte

/-- An Ed448 signature with the alias key of a digest of the measurements over what an SPDM exchange signs (R403). -/
opaque aliasSign : BitVec 512 → List Nat → BitVec 912

/-- The nonces that the Keeper makes, in order (R406). -/
opaque nonce : Nat → BitVec 64

/-- The measurement of the Keeper ROM (R403 index 1). -/
opaque romDigest : BitVec 512

/-- The key pair that the Keeper makes for a start, by the number of the start (R161). -/
opaque hbmKey : Nat → BitVec 512

/-- AES-256-XTS of IEEE 1619 over one 64-byte data unit (R161): key pair, tweak as stack, row and column, and the plain bytes. -/
opaque xts : BitVec 512 → Nat → Nat → Nat → BitVec 512 → BitVec 512

/-- The three Reed–Solomon check symbols over GF(2^8) of 64 stored bytes and bits [31:24] of their check word (R160). -/
opaque rsCheck : BitVec 512 → BitVec 8 → BitVec 24

/-- The six parity bits of a column's stack, row and column number (R160). -/
opaque addrParity : Nat → Nat → Nat → BitVec 6

/-- The SEC-DED check of a way entry's payload that is not all zero (R164). -/
opaque secDed : BitVec 42 → BitVec 8

/-- The six FEC bytes over bytes 0–249 of a flow unit (R280). -/
opaque unitFec : List Byte → BitVec 48

/-- How many cells beside one an output's merge stage can take from other regions (R197): the spec gives its space no size. -/
opaque mergeSpare : Nat

end Sys2Proof.Config
end

