-- ==== Sys2Proof/Machine/RegName.lean ====
section
/-! DEFINITION. The names of the register space (R515): one constructor per register name, replicated
registers being told apart by an index (R514). The common error sets of R459 are kept apart (`CesSet`). -/
namespace Sys2Proof.Machine

/-- Every register name of R515 but those of the common error sets (R459). -/
inductive Reg where
  | CHIP_IDENT | BND_SREC_D | BND_SREC_CMD | BND_GRP_D | BND_GRP_CMD | BND_RULE_D
  | BND_RULE_CMD | BND_BAR_CMD | BND_BAR_STS | BND_FAULT_LO | BND_FAULT_HI | BND_FAULT_INFO
  | BND_RSH_CTL | BND_RSH_STS | CAT_CTL | CAT_TXN_TMO | CAT_LOSS_HOLD | CAT_ENT_CMD
  | CAT_ENT_ADDR_LO | CAT_ENT_ADDR_HI | CAT_ENT_D0 | CAT_ENT_D1 | CAT_LD_OCC | CAT_CHAIN_STS
  | CAT_RCL_CMD | CAT_RCL_ARG | CAT_RCL_STS | CAT_DDP_STS | CAT_DEAD_STS | CAT_HOLD_STS
  | CAT_PLG_CMD | CAT_PLG_D | CAT_DROP_STS | CAT_TMR_STS | GRN_CTL | GRN_DCAP
  | GRN_SCRUB | GRN_FLUSH_CMD | GRN_FLUSH_STS | GRN_ECC_STS | GRN_ECC_ADDR | GRN_REPAIR_STS
  | GRN_CLASS | GRN_CRL_QUOTA | SWC_VOQ_LOCK | SWC_SPN_CTL | SWC_SPN_STS | SWC_RT_D
  | SWC_RT_CMD | SWC_RT_BAR | SWC_OVF_STS | SWC_DOWN_DROP | SWC_RSQ_STS | SWC_RSQ_HOLE
  | SWC_VOQ_LIM | SWC_VOQ_OCC | SWC_GLN_CTL | SWC_GLN_N | SWC_GLN_Q | SWC_GLN_STS
  | SWC_GLN_NQ | TFC_TIME_CTL | TFC_TIME_LO | TFC_TIME_HI | TFC_TIME_STS | TFC_HIST_CTL
  | TFC_SHP_CFG | TFC_SHP_STS | TFC_POL_CFG | TFC_POL_ATT | TFC_POL_CHAFF | TFC_POL_STS
  | TFC_GATE_CTL | TFC_GATE_BASE_LO | TFC_GATE_BASE_HI | TFC_GATE_CUR | TFC_GATE_DUR | TFC_GATE_MASK
  | PRT_LOCK | PRT_PORT_CTL | PRT_PORT_STS | PRT_PORT_EVT | PRT_DN_TMR | PRT_LANE_CTL
  | PRT_LANE_STS | PRT_LANE_ERR | PRT_PAT_CTL | PRT_PAT_USR_LO | PRT_PAT_USR_HI | PRT_PAT_CNT_LO
  | PRT_PAT_CNT_HI | LNK_CTL | LNK_STS | LNK_ERR | LNK_IDE_STS | ZWL_CTL
  | ZWL_STS | ZWL_ERR | ZWL_RPL | ZWL_PEER | QMG_CTX_D | QMG_CTX_CMD
  | QMG_DB_LO | QMG_DB_HI | QMG_CACHE_STS | QMG_ERR_CAP | QMG_WIN_DATA_LO | QMG_WIN_DATA_HI
  | QMG_WIN_STS | QMG_WIN_OP | QMG_WIN_LOST | QMG_WIN_PROD | QMG_WIN_CONS | QMG_WIN_RD
  | DMV_LOCK | DMV_CH_CTL | DMV_CH_STS | DMV_CH_CMD | DMV_CH_PROG | DMV_SHD_CTL
  | DMV_SHD_D | DMV_CH_RING | CRL_CFG | CRL_TPL | CRL_CHAN_LO | CRL_CHAN_HI
  | CRL_SLOT | CRL_CMD | CRL_ADDR_LO | CRL_ADDR_HI | CRL_ARG0 | CRL_ARG1
  | CRL_CMD_STS | CHIP_CHG_SUM | LIB_CORE_STS | LIB_MPU_BAR | LIB_MPU_BASE | LIB_MPU_LIMIT
  | LIB_MBX_CTL | LIB_MBX_CMD | LIB_MBX_STS | TIL_LOCK | TIL_CTL | TIL_STS
  | TIL_EVT | TIL_ARG | TIL_FADDR | TIL_T | SEC_LC_STS | SEC_BOOT_STS
  | SEC_BOOT_FAIL | SEC_RB_CMD | SEC_NONCE_LO | SEC_NONCE_HI | SEC_TOKEN_CMD | SEC_DBG_STS
  | SEC_MEAS_IDX | SEC_TOKEN_D | SEC_MEAS_D | SPW_LOCK | SPW_BUS_CTL | SPW_BUS_STS
  | SPW_CFG0 | SPW_CFG1 | SPW_CFG2 | SPW_CAL0 | SPW_CAL1 | SPW_CMD
  | SPW_STS | SPW_MEAS0 | SPW_MEAS1 | SPW_TRIP | SPW_SOA_AMB | SPW_SOA
  | CRS_CLK_STS | CRS_RST_CMD | CRS_SUP_CTL | CRS_SUP_STS | CRS_RAIL_LO | CRS_RAIL_HI
  | CRS_RAIL_NOW | KPR_STS | KPR_RST_CAUSE | KPR_PD_STS | KPR_AON | KPR_RET_STS
  | CHIP_CES_SUM | CHIP_RGN_STS | CHIP_RGN_CAUSE | ARC_CTL | ARC_FRZ | ARC_FRZ_LOSS
  | ARC_REC | ARC_HIST | ARC_LOST | ARC_WIN_SEL | ARC_WEAR_CMD | ARC_WEAR_LO
  | ARC_WEAR_HI | ARC_CODE_CFG | PMC_CFG | PMC_CNT_LO | PMC_CNT_HI | PMC_SNAP_CTL
  | PMC_SNAP_STS | PMC_SNAP_MISS
deriving DecidableEq, Repr

/-- A field of a register: the register, its lowest bit and its width (R17). -/
structure Fld where
  reg : Reg
  lo : Nat
  w : Nat
deriving DecidableEq, Repr

end Sys2Proof.Machine
end

