-- ==== Sys2Proof/Machine/RegMap.lean ====
section
/-! DEFINITION. The register map, written from the field maps of the chapters and the placement of R514 and R515:
the fields by name, their access codes (R19), ranges (R44) and reset values, and the address of every instance. -/
namespace Sys2Proof.Machine

/-- Access codes of R19. -/
inductive Acc where
  | rw | ro | wo | w1c | w1s | rc | rwl | lk | rsv
deriving DecidableEq, Repr

/-- The values a field accepts (R44). `special` ranges depend on other state: `fieldAccepts` decides them. -/
inductive Rng where
  | any
  | within (lo hi : Nat)
  | among (vs : List Nat)
  | special
deriving DecidableEq, Repr

/-- One row of a field map. -/
structure FieldRow where
  lo : Nat
  w : Nat
  acc : Acc
  rng : Rng := .any
deriving DecidableEq, Repr

/-- Where the instances of a register lie (R514): a base, the index of the first instance, and nested
levels (count, address stride, index stride), outermost first. -/
structure Place where
  base : Nat
  idx0 : Nat
  levels : List (Nat × Nat × Nat)
deriving DecidableEq, Repr

abbrev CHIP_IDENT.FAMILY : Fld := ⟨.CHIP_IDENT, 20, 12⟩
abbrev CHIP_IDENT.PART : Fld := ⟨.CHIP_IDENT, 8, 12⟩
abbrev CHIP_IDENT.VARIANT : Fld := ⟨.CHIP_IDENT, 4, 4⟩
abbrev CHIP_IDENT.STEPPING : Fld := ⟨.CHIP_IDENT, 0, 4⟩
abbrev BND_SREC_D.DATA : Fld := ⟨.BND_SREC_D, 0, 32⟩
abbrev BND_SREC_CMD.SHELF : Fld := ⟨.BND_SREC_CMD, 0, 20⟩
abbrev BND_SREC_CMD.OP : Fld := ⟨.BND_SREC_CMD, 20, 1⟩
abbrev BND_SREC_CMD.GO : Fld := ⟨.BND_SREC_CMD, 24, 1⟩
abbrev BND_SREC_CMD.BUSY : Fld := ⟨.BND_SREC_CMD, 25, 1⟩
abbrev BND_SREC_CMD.RESULT : Fld := ⟨.BND_SREC_CMD, 26, 3⟩
abbrev BND_GRP_D.DATA : Fld := ⟨.BND_GRP_D, 0, 32⟩
abbrev BND_GRP_CMD.GROUP : Fld := ⟨.BND_GRP_CMD, 0, 12⟩
abbrev BND_GRP_CMD.OP : Fld := ⟨.BND_GRP_CMD, 12, 1⟩
abbrev BND_GRP_CMD.GO : Fld := ⟨.BND_GRP_CMD, 24, 1⟩
abbrev BND_GRP_CMD.BUSY : Fld := ⟨.BND_GRP_CMD, 25, 1⟩
abbrev BND_RULE_D.DATA : Fld := ⟨.BND_RULE_D, 0, 32⟩
abbrev BND_RULE_CMD.SLOT : Fld := ⟨.BND_RULE_CMD, 0, 12⟩
abbrev BND_RULE_CMD.OP : Fld := ⟨.BND_RULE_CMD, 12, 2⟩
abbrev BND_RULE_CMD.GO : Fld := ⟨.BND_RULE_CMD, 24, 1⟩
abbrev BND_RULE_CMD.BUSY : Fld := ⟨.BND_RULE_CMD, 25, 1⟩
abbrev BND_RULE_CMD.RESULT : Fld := ⟨.BND_RULE_CMD, 26, 3⟩
abbrev BND_BAR_CMD.SHELF : Fld := ⟨.BND_BAR_CMD, 0, 20⟩
abbrev BND_BAR_CMD.SCOPE : Fld := ⟨.BND_BAR_CMD, 20, 1⟩
abbrev BND_BAR_CMD.KIND : Fld := ⟨.BND_BAR_CMD, 21, 1⟩
abbrev BND_BAR_CMD.GO : Fld := ⟨.BND_BAR_CMD, 24, 1⟩
abbrev BND_BAR_CMD.RESULT : Fld := ⟨.BND_BAR_CMD, 25, 2⟩
abbrev BND_BAR_CMD.SLOT : Fld := ⟨.BND_BAR_CMD, 28, 4⟩
abbrev BND_BAR_STS.DONE : Fld := ⟨.BND_BAR_STS, 0, 16⟩
abbrev BND_BAR_STS.BUSY : Fld := ⟨.BND_BAR_STS, 16, 16⟩
abbrev BND_FAULT_LO.ADDR_LO : Fld := ⟨.BND_FAULT_LO, 0, 32⟩
abbrev BND_FAULT_HI.ADDR_HI : Fld := ⟨.BND_FAULT_HI, 0, 16⟩
abbrev BND_FAULT_INFO.AGENT : Fld := ⟨.BND_FAULT_INFO, 0, 10⟩
abbrev BND_FAULT_INFO.REASON : Fld := ⟨.BND_FAULT_INFO, 10, 3⟩
abbrev BND_FAULT_INFO.RULE : Fld := ⟨.BND_FAULT_INFO, 13, 12⟩
abbrev BND_FAULT_INFO.COUNT : Fld := ⟨.BND_FAULT_INFO, 25, 6⟩
abbrev BND_FAULT_INFO.VALID : Fld := ⟨.BND_FAULT_INFO, 31, 1⟩
abbrev BND_RSH_CTL.SHELF : Fld := ⟨.BND_RSH_CTL, 0, 20⟩
abbrev BND_RSH_CTL.THRESH : Fld := ⟨.BND_RSH_CTL, 20, 5⟩
abbrev BND_RSH_CTL.OP : Fld := ⟨.BND_RSH_CTL, 25, 2⟩
abbrev BND_RSH_CTL.GO : Fld := ⟨.BND_RSH_CTL, 27, 1⟩
abbrev BND_RSH_STS.MARKED : Fld := ⟨.BND_RSH_STS, 0, 17⟩
abbrev BND_RSH_STS.PHASE : Fld := ⟨.BND_RSH_STS, 17, 3⟩
abbrev BND_RSH_STS.RESULT : Fld := ⟨.BND_RSH_STS, 20, 4⟩
abbrev BND_RSH_STS.ATTEMPTS : Fld := ⟨.BND_RSH_STS, 24, 3⟩
abbrev CAT_CTL.GRANT_E_SOLE : Fld := ⟨.CAT_CTL, 0, 1⟩
abbrev CAT_CTL.HINT_TPH_EN : Fld := ⟨.CAT_CTL, 1, 1⟩
abbrev CAT_CTL.HOST_WR_HINT : Fld := ⟨.CAT_CTL, 2, 1⟩
abbrev CAT_CTL.RETRY_DELAY : Fld := ⟨.CAT_CTL, 8, 4⟩
abbrev CAT_TXN_TMO.TMO_MS : Fld := ⟨.CAT_TXN_TMO, 0, 12⟩
abbrev CAT_LOSS_HOLD.HOLD_MS : Fld := ⟨.CAT_LOSS_HOLD, 0, 16⟩
abbrev CAT_ENT_CMD.GO : Fld := ⟨.CAT_ENT_CMD, 0, 1⟩
abbrev CAT_ENT_CMD.BUSY : Fld := ⟨.CAT_ENT_CMD, 1, 1⟩
abbrev CAT_ENT_CMD.RESULT : Fld := ⟨.CAT_ENT_CMD, 2, 2⟩
abbrev CAT_ENT_ADDR_LO.LINE_LO : Fld := ⟨.CAT_ENT_ADDR_LO, 6, 26⟩
abbrev CAT_ENT_ADDR_HI.LINE_HI : Fld := ⟨.CAT_ENT_ADDR_HI, 0, 16⟩
abbrev CAT_ENT_D0.ENT_LO : Fld := ⟨.CAT_ENT_D0, 0, 32⟩
abbrev CAT_ENT_D1.ENT_HI : Fld := ⟨.CAT_ENT_D1, 0, 32⟩
abbrev CAT_LD_OCC.CURRENT : Fld := ⟨.CAT_LD_OCC, 0, 14⟩
abbrev CAT_LD_OCC.PEAK : Fld := ⟨.CAT_LD_OCC, 16, 14⟩
abbrev CAT_CHAIN_STS.RETRIES : Fld := ⟨.CAT_CHAIN_STS, 0, 16⟩
abbrev CAT_CHAIN_STS.LONGEST : Fld := ⟨.CAT_CHAIN_STS, 16, 7⟩
abbrev CAT_RCL_CMD.AGENT : Fld := ⟨.CAT_RCL_CMD, 0, 10⟩
abbrev CAT_RCL_CMD.SCOPE : Fld := ⟨.CAT_RCL_CMD, 10, 2⟩
abbrev CAT_RCL_CMD.GO : Fld := ⟨.CAT_RCL_CMD, 16, 1⟩
abbrev CAT_RCL_ARG.ARG : Fld := ⟨.CAT_RCL_ARG, 0, 20⟩
abbrev CAT_RCL_STS.BUSY : Fld := ⟨.CAT_RCL_STS, 0, 1⟩
abbrev CAT_RCL_STS.DONE : Fld := ⟨.CAT_RCL_STS, 1, 1⟩
abbrev CAT_RCL_STS.RESULT : Fld := ⟨.CAT_RCL_STS, 2, 2⟩
abbrev CAT_RCL_STS.POISONED : Fld := ⟨.CAT_RCL_STS, 8, 24⟩
abbrev CAT_DDP_STS.OCC : Fld := ⟨.CAT_DDP_STS, 0, 15⟩
abbrev CAT_DDP_STS.HITS : Fld := ⟨.CAT_DDP_STS, 16, 8⟩
abbrev CAT_DDP_STS.FULL_WAITS : Fld := ⟨.CAT_DDP_STS, 24, 8⟩
abbrev CAT_DEAD_STS.COUNT : Fld := ⟨.CAT_DEAD_STS, 0, 11⟩
abbrev CAT_DEAD_STS.LAST_AGENT : Fld := ⟨.CAT_DEAD_STS, 16, 10⟩
abbrev CAT_DEAD_STS.LAST_SCOPE : Fld := ⟨.CAT_DEAD_STS, 26, 2⟩
abbrev CAT_HOLD_STS.HOLD : Fld := ⟨.CAT_HOLD_STS, 0, 16⟩
abbrev CAT_HOLD_STS.LOST : Fld := ⟨.CAT_HOLD_STS, 16, 16⟩
abbrev CAT_PLG_CMD.SHELF : Fld := ⟨.CAT_PLG_CMD, 0, 20⟩
abbrev CAT_PLG_CMD.GO : Fld := ⟨.CAT_PLG_CMD, 20, 1⟩
abbrev CAT_PLG_CMD.BUSY : Fld := ⟨.CAT_PLG_CMD, 21, 1⟩
abbrev CAT_PLG_CMD.WRONG_REGION : Fld := ⟨.CAT_PLG_CMD, 22, 1⟩
abbrev CAT_PLG_D.COUNT : Fld := ⟨.CAT_PLG_D, 0, 24⟩
abbrev CAT_PLG_D.LAST_REASON : Fld := ⟨.CAT_PLG_D, 24, 4⟩
abbrev CAT_DROP_STS.RSP_DROPPED : Fld := ⟨.CAT_DROP_STS, 0, 16⟩
abbrev CAT_DROP_STS.DUP_RSP : Fld := ⟨.CAT_DROP_STS, 16, 16⟩
abbrev CAT_TMR_STS.TIMEOUTS : Fld := ⟨.CAT_TMR_STS, 0, 16⟩
abbrev CAT_TMR_STS.PAUSE_CAPPED : Fld := ⟨.CAT_TMR_STS, 16, 16⟩
abbrev GRN_CTL.FILL_BLOCK : Fld := ⟨.GRN_CTL, 0, 1⟩
abbrev GRN_CTL.HINT_ALLOC : Fld := ⟨.GRN_CTL, 1, 1⟩
abbrev GRN_CTL.READY : Fld := ⟨.GRN_CTL, 8, 1⟩
abbrev GRN_DCAP.CAP : Fld := ⟨.GRN_DCAP, 0, 6⟩
abbrev GRN_SCRUB.PERIOD_H : Fld := ⟨.GRN_SCRUB, 0, 8⟩
abbrev GRN_SCRUB.EN : Fld := ⟨.GRN_SCRUB, 8, 1⟩
abbrev GRN_SCRUB.LAPS : Fld := ⟨.GRN_SCRUB, 16, 16⟩
abbrev GRN_FLUSH_CMD.SHELF : Fld := ⟨.GRN_FLUSH_CMD, 0, 20⟩
abbrev GRN_FLUSH_CMD.OP : Fld := ⟨.GRN_FLUSH_CMD, 20, 2⟩
abbrev GRN_FLUSH_CMD.GO : Fld := ⟨.GRN_FLUSH_CMD, 22, 1⟩
abbrev GRN_FLUSH_CMD.BUSY : Fld := ⟨.GRN_FLUSH_CMD, 23, 1⟩
abbrev GRN_FLUSH_CMD.RESULT : Fld := ⟨.GRN_FLUSH_CMD, 24, 2⟩
abbrev GRN_FLUSH_STS.WRITTEN : Fld := ⟨.GRN_FLUSH_STS, 0, 24⟩
abbrev GRN_FLUSH_STS.SKIPPED : Fld := ⟨.GRN_FLUSH_STS, 24, 7⟩
abbrev GRN_FLUSH_STS.DONE : Fld := ⟨.GRN_FLUSH_STS, 31, 1⟩
abbrev GRN_ECC_STS.CE : Fld := ⟨.GRN_ECC_STS, 0, 16⟩
abbrev GRN_ECC_STS.UE_CLEAN : Fld := ⟨.GRN_ECC_STS, 16, 8⟩
abbrev GRN_ECC_STS.UE_DIRTY : Fld := ⟨.GRN_ECC_STS, 24, 8⟩
abbrev GRN_ECC_ADDR.STACK : Fld := ⟨.GRN_ECC_ADDR, 0, 1⟩
abbrev GRN_ECC_ADDR.ROW : Fld := ⟨.GRN_ECC_ADDR, 1, 24⟩
abbrev GRN_ECC_ADDR.COLUMN : Fld := ⟨.GRN_ECC_ADDR, 25, 5⟩
abbrev GRN_ECC_ADDR.SIDE : Fld := ⟨.GRN_ECC_ADDR, 30, 1⟩
abbrev GRN_ECC_ADDR.VALID : Fld := ⟨.GRN_ECC_ADDR, 31, 1⟩
abbrev GRN_REPAIR_STS.SOFT : Fld := ⟨.GRN_REPAIR_STS, 0, 8⟩
abbrev GRN_REPAIR_STS.LOG_FREE : Fld := ⟨.GRN_REPAIR_STS, 8, 8⟩
abbrev GRN_REPAIR_STS.RETIRED_SETS : Fld := ⟨.GRN_REPAIR_STS, 16, 16⟩
abbrev GRN_CLASS.WAY_MASK : Fld := ⟨.GRN_CLASS, 0, 4⟩
abbrev GRN_CLASS.HINT_MASK : Fld := ⟨.GRN_CLASS, 4, 4⟩
abbrev GRN_CLASS.SHELF_QUOTA : Fld := ⟨.GRN_CLASS, 8, 16⟩
abbrev GRN_CRL_QUOTA.QUOTA : Fld := ⟨.GRN_CRL_QUOTA, 0, 20⟩
abbrev SWC_VOQ_LOCK.LOCK : Fld := ⟨.SWC_VOQ_LOCK, 0, 1⟩
abbrev SWC_SPN_CTL.FORCE_SPRAY : Fld := ⟨.SWC_SPN_CTL, 0, 4⟩
abbrev SWC_SPN_STS.MODE : Fld := ⟨.SWC_SPN_STS, 0, 8⟩
abbrev SWC_SPN_STS.PATH_FAIL : Fld := ⟨.SWC_SPN_STS, 8, 8⟩
abbrev SWC_SPN_STS.RESENT : Fld := ⟨.SWC_SPN_STS, 16, 16⟩
abbrev SWC_RT_D.DATA : Fld := ⟨.SWC_RT_D, 0, 32⟩
abbrev SWC_RT_CMD.ENTRY : Fld := ⟨.SWC_RT_CMD, 0, 11⟩
abbrev SWC_RT_CMD.OP : Fld := ⟨.SWC_RT_CMD, 11, 2⟩
abbrev SWC_RT_CMD.GO : Fld := ⟨.SWC_RT_CMD, 13, 1⟩
abbrev SWC_RT_CMD.BUSY : Fld := ⟨.SWC_RT_CMD, 14, 1⟩
abbrev SWC_RT_CMD.RESULT : Fld := ⟨.SWC_RT_CMD, 15, 3⟩
abbrev SWC_RT_BAR.GO : Fld := ⟨.SWC_RT_BAR, 0, 1⟩
abbrev SWC_RT_BAR.BUSY : Fld := ⟨.SWC_RT_BAR, 1, 1⟩
abbrev SWC_RT_BAR.DONE : Fld := ⟨.SWC_RT_BAR, 2, 1⟩
abbrev SWC_RT_BAR.TIMEOUT : Fld := ⟨.SWC_RT_BAR, 3, 1⟩
abbrev SWC_RT_BAR.EPOCH : Fld := ⟨.SWC_RT_BAR, 16, 16⟩
abbrev SWC_OVF_STS.CELLS : Fld := ⟨.SWC_OVF_STS, 0, 20⟩
abbrev SWC_OVF_STS.FULL : Fld := ⟨.SWC_OVF_STS, 20, 12⟩
abbrev SWC_DOWN_DROP.CELLS : Fld := ⟨.SWC_DOWN_DROP, 0, 32⟩
abbrev SWC_RSQ_STS.WINDOW : Fld := ⟨.SWC_RSQ_STS, 0, 13⟩
abbrev SWC_RSQ_STS.ACTIVE : Fld := ⟨.SWC_RSQ_STS, 13, 1⟩
abbrev SWC_RSQ_STS.HOLES : Fld := ⟨.SWC_RSQ_STS, 16, 8⟩
abbrev SWC_RSQ_STS.DUPS : Fld := ⟨.SWC_RSQ_STS, 24, 8⟩
abbrev SWC_RSQ_HOLE.SEQ : Fld := ⟨.SWC_RSQ_HOLE, 0, 16⟩
abbrev SWC_RSQ_HOLE.SOURCE : Fld := ⟨.SWC_RSQ_HOLE, 16, 7⟩
abbrev SWC_RSQ_HOLE.TC : Fld := ⟨.SWC_RSQ_HOLE, 23, 3⟩
abbrev SWC_RSQ_HOLE.VALID : Fld := ⟨.SWC_RSQ_HOLE, 31, 1⟩
abbrev SWC_VOQ_LIM.LIMIT : Fld := ⟨.SWC_VOQ_LIM, 0, 13⟩
abbrev SWC_VOQ_OCC.CELLS : Fld := ⟨.SWC_VOQ_OCC, 0, 13⟩
abbrev SWC_VOQ_OCC.PEAK : Fld := ⟨.SWC_VOQ_OCC, 16, 13⟩
abbrev SWC_GLN_CTL.IN_PORT : Fld := ⟨.SWC_GLN_CTL, 0, 6⟩
abbrev SWC_GLN_CTL.IN_ANY : Fld := ⟨.SWC_GLN_CTL, 6, 1⟩
abbrev SWC_GLN_CTL.OUT_PORT : Fld := ⟨.SWC_GLN_CTL, 7, 6⟩
abbrev SWC_GLN_CTL.OUT_ANY : Fld := ⟨.SWC_GLN_CTL, 13, 1⟩
abbrev SWC_GLN_CTL.TC : Fld := ⟨.SWC_GLN_CTL, 14, 3⟩
abbrev SWC_GLN_CTL.TC_ANY : Fld := ⟨.SWC_GLN_CTL, 17, 1⟩
abbrev SWC_GLN_CTL.EN : Fld := ⟨.SWC_GLN_CTL, 18, 1⟩
abbrev SWC_GLN_CTL.NOTICE_EN : Fld := ⟨.SWC_GLN_CTL, 19, 1⟩
abbrev SWC_GLN_N.N : Fld := ⟨.SWC_GLN_N, 0, 16⟩
abbrev SWC_GLN_Q.LIB_QID : Fld := ⟨.SWC_GLN_Q, 0, 20⟩
abbrev SWC_GLN_STS.LOST : Fld := ⟨.SWC_GLN_STS, 0, 16⟩
abbrev SWC_GLN_STS.SAMPLES : Fld := ⟨.SWC_GLN_STS, 16, 16⟩
abbrev SWC_GLN_NQ.NOTICE_QID : Fld := ⟨.SWC_GLN_NQ, 0, 20⟩
abbrev TFC_TIME_CTL.SRC : Fld := ⟨.TFC_TIME_CTL, 0, 2⟩
abbrev TFC_TIME_CTL.ZL_PORT : Fld := ⟨.TFC_TIME_CTL, 2, 6⟩
abbrev TFC_TIME_CTL.PERIOD_MS : Fld := ⟨.TFC_TIME_CTL, 8, 10⟩
abbrev TFC_TIME_CTL.STEP_NS : Fld := ⟨.TFC_TIME_CTL, 18, 14⟩
abbrev TFC_TIME_LO.TIME_LO : Fld := ⟨.TFC_TIME_LO, 0, 32⟩
abbrev TFC_TIME_HI.TIME_HI : Fld := ⟨.TFC_TIME_HI, 0, 32⟩
abbrev TFC_TIME_STS.LOCKED : Fld := ⟨.TFC_TIME_STS, 0, 1⟩
abbrev TFC_TIME_STS.HOLDOVER : Fld := ⟨.TFC_TIME_STS, 1, 1⟩
abbrev TFC_TIME_STS.OFFSET : Fld := ⟨.TFC_TIME_STS, 8, 16⟩
abbrev TFC_TIME_STS.STEPS : Fld := ⟨.TFC_TIME_STS, 24, 8⟩
abbrev TFC_HIST_CTL.EN : Fld := ⟨.TFC_HIST_CTL, 0, 1⟩
abbrev TFC_HIST_CTL.PERIOD_US : Fld := ⟨.TFC_HIST_CTL, 16, 8⟩
abbrev TFC_HIST_CTL.DELAY_N : Fld := ⟨.TFC_HIST_CTL, 24, 8⟩
abbrev TFC_SHP_CFG.RATE : Fld := ⟨.TFC_SHP_CFG, 0, 16⟩
abbrev TFC_SHP_CFG.BURST : Fld := ⟨.TFC_SHP_CFG, 16, 16⟩
abbrev TFC_SHP_STS.WAIT_US : Fld := ⟨.TFC_SHP_STS, 0, 32⟩
abbrev TFC_POL_CFG.RATE : Fld := ⟨.TFC_POL_CFG, 0, 16⟩
abbrev TFC_POL_CFG.BURST : Fld := ⟨.TFC_POL_CFG, 16, 16⟩
abbrev TFC_POL_ATT.EN : Fld := ⟨.TFC_POL_ATT, 0, 1⟩
abbrev TFC_POL_ATT.KIND : Fld := ⟨.TFC_POL_ATT, 1, 2⟩
abbrev TFC_POL_ATT.ID : Fld := ⟨.TFC_POL_ATT, 3, 20⟩
abbrev TFC_POL_CHAFF.CELLS : Fld := ⟨.TFC_POL_CHAFF, 0, 32⟩
abbrev TFC_POL_STS.TOKENS : Fld := ⟨.TFC_POL_STS, 0, 24⟩
abbrev TFC_GATE_CTL.EN : Fld := ⟨.TFC_GATE_CTL, 0, 1⟩
abbrev TFC_GATE_CTL.ACTIVE : Fld := ⟨.TFC_GATE_CTL, 1, 1⟩
abbrev TFC_GATE_CTL.LEN0 : Fld := ⟨.TFC_GATE_CTL, 2, 6⟩
abbrev TFC_GATE_CTL.LEN1 : Fld := ⟨.TFC_GATE_CTL, 8, 6⟩
abbrev TFC_GATE_CTL.GO : Fld := ⟨.TFC_GATE_CTL, 14, 1⟩
abbrev TFC_GATE_CTL.PENDING : Fld := ⟨.TFC_GATE_CTL, 15, 1⟩
abbrev TFC_GATE_CTL.RESULT : Fld := ⟨.TFC_GATE_CTL, 16, 2⟩
abbrev TFC_GATE_BASE_LO.BASE_LO : Fld := ⟨.TFC_GATE_BASE_LO, 0, 32⟩
abbrev TFC_GATE_BASE_HI.BASE_HI : Fld := ⟨.TFC_GATE_BASE_HI, 0, 32⟩
abbrev TFC_GATE_CUR.ENTRY : Fld := ⟨.TFC_GATE_CUR, 0, 6⟩
abbrev TFC_GATE_CUR.OVERRUN : Fld := ⟨.TFC_GATE_CUR, 16, 16⟩
abbrev TFC_GATE_DUR.DUR_NS : Fld := ⟨.TFC_GATE_DUR, 0, 30⟩
abbrev TFC_GATE_MASK.OPEN : Fld := ⟨.TFC_GATE_MASK, 0, 8⟩
abbrev PRT_LOCK.LOCK : Fld := ⟨.PRT_LOCK, 0, 1⟩
abbrev PRT_PORT_CTL.MAX_RATE : Fld := ⟨.PRT_PORT_CTL, 0, 3⟩
abbrev PRT_PORT_CTL.L0P_EN : Fld := ⟨.PRT_PORT_CTL, 3, 1⟩
abbrev PRT_PORT_CTL.REVERSAL_EN : Fld := ⟨.PRT_PORT_CTL, 4, 1⟩
abbrev PRT_PORT_CTL.SRIS : Fld := ⟨.PRT_PORT_CTL, 5, 1⟩
abbrev PRT_PORT_CTL.DISABLE : Fld := ⟨.PRT_PORT_CTL, 6, 1⟩
abbrev PRT_PORT_CTL.RETRAIN : Fld := ⟨.PRT_PORT_CTL, 7, 1⟩
abbrev PRT_PORT_CTL.TEST : Fld := ⟨.PRT_PORT_CTL, 8, 1⟩
abbrev PRT_PORT_CTL.RETRY_MAX : Fld := ⟨.PRT_PORT_CTL, 9, 3⟩
abbrev PRT_PORT_CTL.WIDTH_MASK : Fld := ⟨.PRT_PORT_CTL, 16, 8⟩
abbrev PRT_PORT_CTL.LANE_THR : Fld := ⟨.PRT_PORT_CTL, 24, 8⟩
abbrev PRT_PORT_STS.RATE : Fld := ⟨.PRT_PORT_STS, 0, 3⟩
abbrev PRT_PORT_STS.WIDTH : Fld := ⟨.PRT_PORT_STS, 3, 5⟩
abbrev PRT_PORT_STS.STATE : Fld := ⟨.PRT_PORT_STS, 8, 4⟩
abbrev PRT_PORT_STS.ROLE : Fld := ⟨.PRT_PORT_STS, 12, 2⟩
abbrev PRT_PORT_STS.PROTO : Fld := ⟨.PRT_PORT_STS, 14, 2⟩
abbrev PRT_PORT_STS.L0P_NEG : Fld := ⟨.PRT_PORT_STS, 16, 1⟩
abbrev PRT_PORT_STS.REVERSED : Fld := ⟨.PRT_PORT_STS, 17, 1⟩
abbrev PRT_PORT_STS.GANGED : Fld := ⟨.PRT_PORT_STS, 18, 1⟩
abbrev PRT_PORT_STS.SPARE_USED : Fld := ⟨.PRT_PORT_STS, 19, 1⟩
abbrev PRT_PORT_STS.SPARE_BAD : Fld := ⟨.PRT_PORT_STS, 20, 1⟩
abbrev PRT_PORT_STS.FAULTED : Fld := ⟨.PRT_PORT_STS, 24, 8⟩
abbrev PRT_PORT_EVT.EVENTS : Fld := ⟨.PRT_PORT_EVT, 0, 8⟩
abbrev PRT_PORT_EVT.CAP : Fld := ⟨.PRT_PORT_EVT, 16, 3⟩
abbrev PRT_PORT_EVT.FAILS : Fld := ⟨.PRT_PORT_EVT, 24, 8⟩
abbrev PRT_DN_TMR.PVPERL_MS : Fld := ⟨.PRT_DN_TMR, 0, 10⟩
abbrev PRT_DN_TMR.DETECT_MS : Fld := ⟨.PRT_DN_TMR, 16, 14⟩
abbrev PRT_DN_TMR.PERST_OUT : Fld := ⟨.PRT_DN_TMR, 30, 1⟩
abbrev PRT_LANE_CTL.CTLE_MODE : Fld := ⟨.PRT_LANE_CTL, 0, 1⟩
abbrev PRT_LANE_CTL.PEAK : Fld := ⟨.PRT_LANE_CTL, 1, 6⟩
abbrev PRT_LANE_CTL.DFE_EN : Fld := ⟨.PRT_LANE_CTL, 7, 1⟩
abbrev PRT_LANE_CTL.TX_PRESET : Fld := ⟨.PRT_LANE_CTL, 8, 4⟩
abbrev PRT_LANE_STS.PEAK_NOW : Fld := ⟨.PRT_LANE_STS, 0, 6⟩
abbrev PRT_LANE_STS.CDR_LOCK : Fld := ⟨.PRT_LANE_STS, 6, 1⟩
abbrev PRT_LANE_STS.FAULT : Fld := ⟨.PRT_LANE_STS, 7, 1⟩
abbrev PRT_LANE_STS.EYE : Fld := ⟨.PRT_LANE_STS, 8, 8⟩
abbrev PRT_LANE_STS.FAULTS : Fld := ⟨.PRT_LANE_STS, 16, 4⟩
abbrev PRT_LANE_ERR.SYMBOLS : Fld := ⟨.PRT_LANE_ERR, 0, 32⟩
abbrev PRT_PAT_CTL.PATTERN : Fld := ⟨.PRT_PAT_CTL, 0, 3⟩
abbrev PRT_PAT_CTL.GEN_EN : Fld := ⟨.PRT_PAT_CTL, 3, 1⟩
abbrev PRT_PAT_CTL.CHK_EN : Fld := ⟨.PRT_PAT_CTL, 4, 1⟩
abbrev PRT_PAT_CTL.INJ_ONE : Fld := ⟨.PRT_PAT_CTL, 5, 1⟩
abbrev PRT_PAT_CTL.INJ_BURST : Fld := ⟨.PRT_PAT_CTL, 6, 1⟩
abbrev PRT_PAT_CTL.BURST_LEN : Fld := ⟨.PRT_PAT_CTL, 7, 6⟩
abbrev PRT_PAT_CTL.SYNC : Fld := ⟨.PRT_PAT_CTL, 13, 1⟩
abbrev PRT_PAT_USR_LO.USER_LO : Fld := ⟨.PRT_PAT_USR_LO, 0, 32⟩
abbrev PRT_PAT_USR_HI.USER_HI : Fld := ⟨.PRT_PAT_USR_HI, 0, 32⟩
abbrev PRT_PAT_CNT_LO.ERR_LO : Fld := ⟨.PRT_PAT_CNT_LO, 0, 32⟩
abbrev PRT_PAT_CNT_HI.ERR_HI : Fld := ⟨.PRT_PAT_CNT_HI, 0, 16⟩
abbrev LNK_CTL.SEL_NAK_EN : Fld := ⟨.LNK_CTL, 0, 1⟩
abbrev LNK_CTL.IDE_REQ : Fld := ⟨.LNK_CTL, 1, 1⟩
abbrev LNK_CTL.FLIT68_EN : Fld := ⟨.LNK_CTL, 2, 1⟩
abbrev LNK_CTL.PCIE_UP_EN : Fld := ⟨.LNK_CTL, 3, 1⟩
abbrev LNK_CTL.LOCK : Fld := ⟨.LNK_CTL, 31, 1⟩
abbrev LNK_STS.FLIT : Fld := ⟨.LNK_STS, 0, 2⟩
abbrev LNK_STS.IO : Fld := ⟨.LNK_STS, 2, 1⟩
abbrev LNK_STS.CACHE : Fld := ⟨.LNK_STS, 3, 1⟩
abbrev LNK_STS.MEM : Fld := ⟨.LNK_STS, 4, 1⟩
abbrev LNK_STS.BI : Fld := ⟨.LNK_STS, 5, 1⟩
abbrev LNK_STS.IDE_IO : Fld := ⟨.LNK_STS, 6, 1⟩
abbrev LNK_STS.IDE_CM : Fld := ⟨.LNK_STS, 7, 1⟩
abbrev LNK_STS.IDE_GATED : Fld := ⟨.LNK_STS, 8, 1⟩
abbrev LNK_ERR.CRC_FLITS : Fld := ⟨.LNK_ERR, 0, 16⟩
abbrev LNK_ERR.SEL_NAKS : Fld := ⟨.LNK_ERR, 16, 8⟩
abbrev LNK_ERR.STD_NAKS : Fld := ⟨.LNK_ERR, 24, 8⟩
abbrev LNK_IDE_STS.KSET_IO : Fld := ⟨.LNK_IDE_STS, 0, 1⟩
abbrev LNK_IDE_STS.KSET_CM : Fld := ⟨.LNK_IDE_STS, 1, 1⟩
abbrev LNK_IDE_STS.MAC_FAIL : Fld := ⟨.LNK_IDE_STS, 16, 8⟩
abbrev LNK_IDE_STS.REFRESHES : Fld := ⟨.LNK_IDE_STS, 24, 8⟩
abbrev ZWL_CTL.THR : Fld := ⟨.ZWL_CTL, 0, 12⟩
abbrev ZWL_CTL.WIN_LOG2 : Fld := ⟨.ZWL_CTL, 12, 5⟩
abbrev ZWL_CTL.SEL_EN : Fld := ⟨.ZWL_CTL, 17, 1⟩
abbrev ZWL_CTL.EXP_UNIT : Fld := ⟨.ZWL_CTL, 18, 2⟩
abbrev ZWL_CTL.EXP_EN : Fld := ⟨.ZWL_CTL, 20, 1⟩
abbrev ZWL_CTL.LOCK : Fld := ⟨.ZWL_CTL, 31, 1⟩
abbrev ZWL_STS.STATE : Fld := ⟨.ZWL_STS, 0, 3⟩
abbrev ZWL_STS.SWAP_LANE : Fld := ⟨.ZWL_STS, 4, 4⟩
abbrev ZWL_STS.TX_SEQ : Fld := ⟨.ZWL_STS, 8, 24⟩
abbrev ZWL_ERR.WIN_BAD : Fld := ⟨.ZWL_ERR, 0, 12⟩
abbrev ZWL_ERR.CTRL_BAD : Fld := ⟨.ZWL_ERR, 16, 8⟩
abbrev ZWL_ERR.DOWNS : Fld := ⟨.ZWL_ERR, 24, 8⟩
abbrev ZWL_RPL.SELECTIVE : Fld := ⟨.ZWL_RPL, 0, 16⟩
abbrev ZWL_RPL.GOBACK : Fld := ⟨.ZWL_RPL, 16, 16⟩
abbrev ZWL_PEER.UNIT : Fld := ⟨.ZWL_PEER, 0, 2⟩
abbrev ZWL_PEER.PORT : Fld := ⟨.ZWL_PEER, 2, 6⟩
abbrev ZWL_PEER.GANGED : Fld := ⟨.ZWL_PEER, 8, 1⟩
abbrev ZWL_PEER.VALID : Fld := ⟨.ZWL_PEER, 9, 1⟩
abbrev QMG_CTX_D.DATA : Fld := ⟨.QMG_CTX_D, 0, 32⟩
abbrev QMG_CTX_CMD.QID : Fld := ⟨.QMG_CTX_CMD, 0, 20⟩
abbrev QMG_CTX_CMD.OP : Fld := ⟨.QMG_CTX_CMD, 20, 2⟩
abbrev QMG_CTX_CMD.GO : Fld := ⟨.QMG_CTX_CMD, 24, 1⟩
abbrev QMG_CTX_CMD.BUSY : Fld := ⟨.QMG_CTX_CMD, 25, 1⟩
abbrev QMG_CTX_CMD.RESULT : Fld := ⟨.QMG_CTX_CMD, 26, 3⟩
abbrev QMG_DB_LO.INDEX : Fld := ⟨.QMG_DB_LO, 0, 32⟩
abbrev QMG_DB_HI.QID : Fld := ⟨.QMG_DB_HI, 0, 20⟩
abbrev QMG_DB_HI.WHICH : Fld := ⟨.QMG_DB_HI, 20, 1⟩
abbrev QMG_DB_HI.ARM : Fld := ⟨.QMG_DB_HI, 21, 1⟩
abbrev QMG_CACHE_STS.MISSES : Fld := ⟨.QMG_CACHE_STS, 0, 16⟩
abbrev QMG_CACHE_STS.PINNED : Fld := ⟨.QMG_CACHE_STS, 16, 15⟩
abbrev QMG_ERR_CAP.QID : Fld := ⟨.QMG_ERR_CAP, 0, 20⟩
abbrev QMG_ERR_CAP.CAUSE : Fld := ⟨.QMG_ERR_CAP, 20, 4⟩
abbrev QMG_ERR_CAP.COUNT : Fld := ⟨.QMG_ERR_CAP, 24, 7⟩
abbrev QMG_ERR_CAP.VALID : Fld := ⟨.QMG_ERR_CAP, 31, 1⟩
abbrev QMG_WIN_DATA_LO.WORD_LO : Fld := ⟨.QMG_WIN_DATA_LO, 0, 32⟩
abbrev QMG_WIN_DATA_HI.WORD_HI : Fld := ⟨.QMG_WIN_DATA_HI, 0, 32⟩
abbrev QMG_WIN_STS.AVAIL : Fld := ⟨.QMG_WIN_STS, 0, 21⟩
abbrev QMG_WIN_STS.EMPTY : Fld := ⟨.QMG_WIN_STS, 21, 1⟩
abbrev QMG_WIN_STS.POISON : Fld := ⟨.QMG_WIN_STS, 22, 1⟩
abbrev QMG_WIN_STS.SKIPPED : Fld := ⟨.QMG_WIN_STS, 23, 1⟩
abbrev QMG_WIN_STS.MARK_LOST : Fld := ⟨.QMG_WIN_STS, 24, 1⟩
abbrev QMG_WIN_STS.WORD : Fld := ⟨.QMG_WIN_STS, 25, 5⟩
abbrev QMG_WIN_OP.OP : Fld := ⟨.QMG_WIN_OP, 0, 2⟩
abbrev QMG_WIN_OP.COUNT : Fld := ⟨.QMG_WIN_OP, 2, 20⟩
abbrev QMG_WIN_LOST.DROPS : Fld := ⟨.QMG_WIN_LOST, 0, 32⟩
abbrev QMG_WIN_PROD.COUNT : Fld := ⟨.QMG_WIN_PROD, 0, 32⟩
abbrev QMG_WIN_CONS.COUNT : Fld := ⟨.QMG_WIN_CONS, 0, 32⟩
abbrev QMG_WIN_RD.COUNT : Fld := ⟨.QMG_WIN_RD, 0, 32⟩
abbrev DMV_LOCK.LOCK : Fld := ⟨.DMV_LOCK, 0, 1⟩
abbrev DMV_CH_CTL.EN : Fld := ⟨.DMV_CH_CTL, 0, 1⟩
abbrev DMV_CH_CTL.LIB_RSV : Fld := ⟨.DMV_CH_CTL, 1, 1⟩
abbrev DMV_CH_CTL.CQ_QID : Fld := ⟨.DMV_CH_CTL, 8, 20⟩
abbrev DMV_CH_CTL.CQ_V : Fld := ⟨.DMV_CH_CTL, 28, 1⟩
abbrev DMV_CH_STS.STATE : Fld := ⟨.DMV_CH_STS, 0, 2⟩
abbrev DMV_CH_STS.SHADOW : Fld := ⟨.DMV_CH_STS, 2, 1⟩
abbrev DMV_CH_STS.ENTRY : Fld := ⟨.DMV_CH_STS, 3, 6⟩
abbrev DMV_CH_STS.RD_OUT : Fld := ⟨.DMV_CH_STS, 9, 7⟩
abbrev DMV_CH_STS.WR_OUT : Fld := ⟨.DMV_CH_STS, 16, 7⟩
abbrev DMV_CH_STS.LAST_STATUS : Fld := ⟨.DMV_CH_STS, 23, 8⟩
abbrev DMV_CH_CMD.ABORT : Fld := ⟨.DMV_CH_CMD, 0, 1⟩
abbrev DMV_CH_CMD.BUSY : Fld := ⟨.DMV_CH_CMD, 1, 1⟩
abbrev DMV_CH_CMD.RESULT : Fld := ⟨.DMV_CH_CMD, 2, 1⟩
abbrev DMV_CH_CMD.DONE : Fld := ⟨.DMV_CH_CMD, 3, 1⟩
abbrev DMV_CH_PROG.DONE_BYTES : Fld := ⟨.DMV_CH_PROG, 0, 32⟩
abbrev DMV_SHD_CTL.ARM : Fld := ⟨.DMV_SHD_CTL, 0, 1⟩
abbrev DMV_SHD_CTL.TAKEN : Fld := ⟨.DMV_SHD_CTL, 8, 8⟩
abbrev DMV_SHD_D.DATA : Fld := ⟨.DMV_SHD_D, 0, 32⟩
abbrev DMV_CH_RING.QID : Fld := ⟨.DMV_CH_RING, 0, 20⟩
abbrev DMV_CH_RING.V : Fld := ⟨.DMV_CH_RING, 20, 1⟩
abbrev CRL_CFG.PASID : Fld := ⟨.CRL_CFG, 0, 20⟩
abbrev CRL_CFG.PORT : Fld := ⟨.CRL_CFG, 20, 6⟩
abbrev CRL_CFG.STATE : Fld := ⟨.CRL_CFG, 26, 2⟩
abbrev CRL_CFG.ERROR : Fld := ⟨.CRL_CFG, 28, 1⟩
abbrev CRL_TPL.TEMPLATE : Fld := ⟨.CRL_TPL, 0, 8⟩
abbrev CRL_TPL.USER_CTR : Fld := ⟨.CRL_TPL, 8, 1⟩
abbrev CRL_CHAN_LO.MASK_LO : Fld := ⟨.CRL_CHAN_LO, 0, 32⟩
abbrev CRL_CHAN_HI.MASK_HI : Fld := ⟨.CRL_CHAN_HI, 0, 32⟩
abbrev CRL_SLOT.QID : Fld := ⟨.CRL_SLOT, 0, 20⟩
abbrev CRL_SLOT.V : Fld := ⟨.CRL_SLOT, 20, 1⟩
abbrev CRL_CMD.CARREL : Fld := ⟨.CRL_CMD, 0, 12⟩
abbrev CRL_CMD.OP : Fld := ⟨.CRL_CMD, 12, 3⟩
abbrev CRL_CMD.DEST : Fld := ⟨.CRL_CMD, 15, 1⟩
abbrev CRL_CMD.GO : Fld := ⟨.CRL_CMD, 16, 1⟩
abbrev CRL_CMD.BUSY : Fld := ⟨.CRL_CMD, 17, 1⟩
abbrev CRL_CMD.RESULT : Fld := ⟨.CRL_CMD, 18, 4⟩
abbrev CRL_ADDR_LO.ADDR_LO : Fld := ⟨.CRL_ADDR_LO, 0, 32⟩
abbrev CRL_ADDR_HI.ADDR_HI : Fld := ⟨.CRL_ADDR_HI, 0, 32⟩
abbrev CRL_ARG0.PASID : Fld := ⟨.CRL_ARG0, 0, 20⟩
abbrev CRL_ARG0.PORT : Fld := ⟨.CRL_ARG0, 20, 6⟩
abbrev CRL_ARG1.QID_BASE : Fld := ⟨.CRL_ARG1, 0, 20⟩
abbrev CRL_ARG1.SRC_CARREL : Fld := ⟨.CRL_ARG1, 20, 12⟩
abbrev CRL_CMD_STS.LEN : Fld := ⟨.CRL_CMD_STS, 0, 16⟩
abbrev CRL_CMD_STS.INFLIGHT : Fld := ⟨.CRL_CMD_STS, 16, 7⟩
abbrev CHIP_CHG_SUM.CHANGED : Fld := ⟨.CHIP_CHG_SUM, 0, 32⟩
abbrev LIB_CORE_STS.STATE : Fld := ⟨.LIB_CORE_STS, 0, 2⟩
abbrev LIB_CORE_STS.LEAD : Fld := ⟨.LIB_CORE_STS, 2, 1⟩
abbrev LIB_CORE_STS.RESTARTS : Fld := ⟨.LIB_CORE_STS, 3, 8⟩
abbrev LIB_CORE_STS.FW_VER : Fld := ⟨.LIB_CORE_STS, 16, 16⟩
abbrev LIB_MPU_BAR.GO : Fld := ⟨.LIB_MPU_BAR, 0, 1⟩
abbrev LIB_MPU_BAR.BUSY : Fld := ⟨.LIB_MPU_BAR, 1, 1⟩
abbrev LIB_MPU_BAR.DONE : Fld := ⟨.LIB_MPU_BAR, 2, 1⟩
abbrev LIB_MPU_BASE.EN : Fld := ⟨.LIB_MPU_BASE, 0, 1⟩
abbrev LIB_MPU_BASE.U_R : Fld := ⟨.LIB_MPU_BASE, 1, 1⟩
abbrev LIB_MPU_BASE.U_W : Fld := ⟨.LIB_MPU_BASE, 2, 1⟩
abbrev LIB_MPU_BASE.P_R : Fld := ⟨.LIB_MPU_BASE, 3, 1⟩
abbrev LIB_MPU_BASE.P_W : Fld := ⟨.LIB_MPU_BASE, 4, 1⟩
abbrev LIB_MPU_BASE.BASE : Fld := ⟨.LIB_MPU_BASE, 12, 20⟩
abbrev LIB_MPU_LIMIT.LIMIT : Fld := ⟨.LIB_MPU_LIMIT, 12, 20⟩
abbrev LIB_MBX_CTL.DOORBELL : Fld := ⟨.LIB_MBX_CTL, 0, 1⟩
abbrev LIB_MBX_CTL.IRQ_EN : Fld := ⟨.LIB_MBX_CTL, 1, 1⟩
abbrev LIB_MBX_CTL.VECTOR : Fld := ⟨.LIB_MBX_CTL, 2, 11⟩
abbrev LIB_MBX_CMD.OPCODE : Fld := ⟨.LIB_MBX_CMD, 0, 16⟩
abbrev LIB_MBX_CMD.LEN : Fld := ⟨.LIB_MBX_CMD, 16, 13⟩
abbrev LIB_MBX_STS.RETURN : Fld := ⟨.LIB_MBX_STS, 0, 16⟩
abbrev LIB_MBX_STS.OUT_LEN : Fld := ⟨.LIB_MBX_STS, 16, 13⟩
abbrev TIL_LOCK.LOCK : Fld := ⟨.TIL_LOCK, 0, 1⟩
abbrev TIL_CTL.ENTRY : Fld := ⟨.TIL_CTL, 0, 11⟩
abbrev TIL_CTL.RUN : Fld := ⟨.TIL_CTL, 11, 1⟩
abbrev TIL_CTL.STOP : Fld := ⟨.TIL_CTL, 12, 1⟩
abbrev TIL_CTL.POST_CMD : Fld := ⟨.TIL_CTL, 13, 1⟩
abbrev TIL_STS.STATE : Fld := ⟨.TIL_STS, 0, 2⟩
abbrev TIL_STS.PC : Fld := ⟨.TIL_STS, 2, 11⟩
abbrev TIL_STS.DEPTH : Fld := ⟨.TIL_STS, 13, 4⟩
abbrev TIL_STS.CAUSE : Fld := ⟨.TIL_STS, 17, 5⟩
abbrev TIL_STS.TRAP_CODE : Fld := ⟨.TIL_STS, 22, 8⟩
abbrev TIL_EVT.PENDING : Fld := ⟨.TIL_EVT, 0, 8⟩
abbrev TIL_EVT.MASK : Fld := ⟨.TIL_EVT, 8, 8⟩
abbrev TIL_EVT.LOST : Fld := ⟨.TIL_EVT, 16, 8⟩
abbrev TIL_EVT.TMO : Fld := ⟨.TIL_EVT, 24, 8⟩
abbrev TIL_ARG.CMD_ARG : Fld := ⟨.TIL_ARG, 0, 32⟩
abbrev TIL_FADDR.ADDR : Fld := ⟨.TIL_FADDR, 0, 32⟩
abbrev TIL_T.VALUE : Fld := ⟨.TIL_T, 0, 32⟩
abbrev SEC_LC_STS.STATE : Fld := ⟨.SEC_LC_STS, 0, 2⟩
abbrev SEC_LC_STS.PARTIAL : Fld := ⟨.SEC_LC_STS, 2, 1⟩
abbrev SEC_LC_STS.RB_OTP : Fld := ⟨.SEC_LC_STS, 8, 7⟩
abbrev SEC_LC_STS.RB_IMAGE : Fld := ⟨.SEC_LC_STS, 16, 7⟩
abbrev SEC_BOOT_STS.SLOT : Fld := ⟨.SEC_BOOT_STS, 0, 1⟩
abbrev SEC_BOOT_STS.A_RESULT : Fld := ⟨.SEC_BOOT_STS, 1, 4⟩
abbrev SEC_BOOT_STS.B_RESULT : Fld := ⟨.SEC_BOOT_STS, 5, 4⟩
abbrev SEC_BOOT_STS.RESTARTS : Fld := ⟨.SEC_BOOT_STS, 9, 2⟩
abbrev SEC_BOOT_STS.READY : Fld := ⟨.SEC_BOOT_STS, 11, 1⟩
abbrev SEC_BOOT_STS.READY_MS : Fld := ⟨.SEC_BOOT_STS, 16, 16⟩
abbrev SEC_BOOT_FAIL.SECT : Fld := ⟨.SEC_BOOT_FAIL, 0, 4⟩
abbrev SEC_BOOT_FAIL.OFFSET : Fld := ⟨.SEC_BOOT_FAIL, 4, 28⟩
abbrev SEC_RB_CMD.COMMIT : Fld := ⟨.SEC_RB_CMD, 0, 1⟩
abbrev SEC_RB_CMD.BUSY : Fld := ⟨.SEC_RB_CMD, 1, 1⟩
abbrev SEC_RB_CMD.RESULT : Fld := ⟨.SEC_RB_CMD, 2, 2⟩
abbrev SEC_NONCE_LO.NONCE_LO : Fld := ⟨.SEC_NONCE_LO, 0, 32⟩
abbrev SEC_NONCE_HI.NONCE_HI : Fld := ⟨.SEC_NONCE_HI, 0, 32⟩
abbrev SEC_TOKEN_CMD.GO : Fld := ⟨.SEC_TOKEN_CMD, 0, 1⟩
abbrev SEC_TOKEN_CMD.BUSY : Fld := ⟨.SEC_TOKEN_CMD, 1, 1⟩
abbrev SEC_TOKEN_CMD.RESULT : Fld := ⟨.SEC_TOKEN_CMD, 2, 4⟩
abbrev SEC_TOKEN_CMD.KIND : Fld := ⟨.SEC_TOKEN_CMD, 6, 3⟩
abbrev SEC_DBG_STS.UNLOCKED : Fld := ⟨.SEC_DBG_STS, 0, 1⟩
abbrev SEC_DBG_STS.SCOPE : Fld := ⟨.SEC_DBG_STS, 8, 8⟩
abbrev SEC_DBG_STS.VIOLATIONS : Fld := ⟨.SEC_DBG_STS, 16, 16⟩
abbrev SEC_MEAS_IDX.INDEX : Fld := ⟨.SEC_MEAS_IDX, 0, 4⟩
abbrev SEC_TOKEN_D.DATA : Fld := ⟨.SEC_TOKEN_D, 0, 32⟩
abbrev SEC_MEAS_D.DIGEST : Fld := ⟨.SEC_MEAS_D, 0, 32⟩
abbrev SPW_LOCK.LOCK : Fld := ⟨.SPW_LOCK, 0, 1⟩
abbrev SPW_BUS_CTL.WARN : Fld := ⟨.SPW_BUS_CTL, 0, 11⟩
abbrev SPW_BUS_CTL.OFF_LVL : Fld := ⟨.SPW_BUS_CTL, 11, 11⟩
abbrev SPW_BUS_CTL.HOLD_MS : Fld := ⟨.SPW_BUS_CTL, 22, 10⟩
abbrev SPW_BUS_STS.WARN : Fld := ⟨.SPW_BUS_STS, 0, 1⟩
abbrev SPW_BUS_STS.BUS_OFF : Fld := ⟨.SPW_BUS_STS, 1, 1⟩
abbrev SPW_BUS_STS.REPEAT : Fld := ⟨.SPW_BUS_STS, 2, 8⟩
abbrev SPW_BUS_STS.EVENTS : Fld := ⟨.SPW_BUS_STS, 16, 16⟩
abbrev SPW_CFG0.EN : Fld := ⟨.SPW_CFG0, 0, 1⟩
abbrev SPW_CFG0.DIODE : Fld := ⟨.SPW_CFG0, 1, 1⟩
abbrev SPW_CFG0.CLASS : Fld := ⟨.SPW_CFG0, 2, 1⟩
abbrev SPW_CFG0.SENSE_UOHM : Fld := ⟨.SPW_CFG0, 3, 13⟩
abbrev SPW_CFG0.THRESH : Fld := ⟨.SPW_CFG0, 16, 11⟩
abbrev SPW_CFG1.SLEW : Fld := ⟨.SPW_CFG1, 0, 10⟩
abbrev SPW_CFG1.FAULT_TMR : Fld := ⟨.SPW_CFG1, 10, 13⟩
abbrev SPW_CFG1.RAMP_WIN : Fld := ⟨.SPW_CFG1, 23, 7⟩
abbrev SPW_CFG2.DEBOUNCE_MS : Fld := ⟨.SPW_CFG2, 0, 9⟩
abbrev SPW_CFG2.RETRIES : Fld := ⟨.SPW_CFG2, 9, 8⟩
abbrev SPW_CFG2.TRIP_C : Fld := ⟨.SPW_CFG2, 17, 8⟩
abbrev SPW_CAL0.SENSE_OFS : Fld := ⟨.SPW_CAL0, 0, 16⟩
abbrev SPW_CAL0.SENSE_GAIN : Fld := ⟨.SPW_CAL0, 16, 16⟩
abbrev SPW_CAL1.DIODE_N : Fld := ⟨.SPW_CAL1, 0, 16⟩
abbrev SPW_CMD.START : Fld := ⟨.SPW_CMD, 0, 1⟩
abbrev SPW_CMD.OFF : Fld := ⟨.SPW_CMD, 1, 1⟩
abbrev SPW_CMD.CLEAR : Fld := ⟨.SPW_CMD, 2, 1⟩
abbrev SPW_CMD.RESULT : Fld := ⟨.SPW_CMD, 3, 3⟩
abbrev SPW_STS.STATE : Fld := ⟨.SPW_STS, 0, 4⟩
abbrev SPW_STS.PG : Fld := ⟨.SPW_STS, 4, 1⟩
abbrev SPW_STS.LIMIT : Fld := ⟨.SPW_STS, 5, 1⟩
abbrev SPW_STS.PRSNT_S : Fld := ⟨.SPW_STS, 6, 1⟩
abbrev SPW_STS.PRSNT_L : Fld := ⟨.SPW_STS, 7, 1⟩
abbrev SPW_STS.CAUSE : Fld := ⟨.SPW_STS, 8, 4⟩
abbrev SPW_STS.TRIPS : Fld := ⟨.SPW_STS, 12, 4⟩
abbrev SPW_STS.TMR_RUN : Fld := ⟨.SPW_STS, 16, 1⟩
abbrev SPW_MEAS0.CURRENT : Fld := ⟨.SPW_MEAS0, 0, 16⟩
abbrev SPW_MEAS0.V_OUT : Fld := ⟨.SPW_MEAS0, 16, 12⟩
abbrev SPW_MEAS1.V_BUS : Fld := ⟨.SPW_MEAS1, 0, 12⟩
abbrev SPW_MEAS1.T_DIODE : Fld := ⟨.SPW_MEAS1, 12, 8⟩
abbrev SPW_MEAS1.T_MODEL : Fld := ⟨.SPW_MEAS1, 20, 8⟩
abbrev SPW_TRIP.ON_US : Fld := ⟨.SPW_TRIP, 0, 24⟩
abbrev SPW_TRIP.CAUSE : Fld := ⟨.SPW_TRIP, 24, 4⟩
abbrev SPW_SOA_AMB.AMB : Fld := ⟨.SPW_SOA_AMB, 0, 8⟩
abbrev SPW_SOA_AMB.LOCK : Fld := ⟨.SPW_SOA_AMB, 8, 1⟩
abbrev SPW_SOA.RTH : Fld := ⟨.SPW_SOA, 0, 16⟩
abbrev SPW_SOA.TAU : Fld := ⟨.SPW_SOA, 16, 16⟩
abbrev CRS_CLK_STS.ROOT_LOCK : Fld := ⟨.CRS_CLK_STS, 0, 4⟩
abbrev CRS_CLK_STS.HK_SRC : Fld := ⟨.CRS_CLK_STS, 4, 3⟩
abbrev CRS_CLK_STS.REFCLK_OK : Fld := ⟨.CRS_CLK_STS, 7, 1⟩
abbrev CRS_CLK_STS.HK_SWITCHES : Fld := ⟨.CRS_CLK_STS, 16, 8⟩
abbrev CRS_RST_CMD.KEY : Fld := ⟨.CRS_RST_CMD, 0, 16⟩
abbrev CRS_RST_CMD.WARM : Fld := ⟨.CRS_RST_CMD, 16, 1⟩
abbrev CRS_SUP_CTL.HOLD_MS : Fld := ⟨.CRS_SUP_CTL, 0, 10⟩
abbrev CRS_SUP_CTL.THROTTLE_EN : Fld := ⟨.CRS_SUP_CTL, 10, 1⟩
abbrev CRS_SUP_STS.WARN : Fld := ⟨.CRS_SUP_STS, 0, 8⟩
abbrev CRS_SUP_STS.REPEAT : Fld := ⟨.CRS_SUP_STS, 8, 8⟩
abbrev CRS_SUP_STS.EVENTS : Fld := ⟨.CRS_SUP_STS, 16, 16⟩
abbrev CRS_RAIL_LO.WARN : Fld := ⟨.CRS_RAIL_LO, 0, 12⟩
abbrev CRS_RAIL_LO.RESET : Fld := ⟨.CRS_RAIL_LO, 16, 12⟩
abbrev CRS_RAIL_HI.WARN : Fld := ⟨.CRS_RAIL_HI, 0, 12⟩
abbrev CRS_RAIL_HI.RESET : Fld := ⟨.CRS_RAIL_HI, 16, 12⟩
abbrev CRS_RAIL_NOW.NOW : Fld := ⟨.CRS_RAIL_NOW, 0, 12⟩
abbrev CRS_RAIL_NOW.MIN : Fld := ⟨.CRS_RAIL_NOW, 16, 12⟩
abbrev KPR_STS.STEP : Fld := ⟨.KPR_STS, 0, 4⟩
abbrev KPR_STS.ON_AON : Fld := ⟨.KPR_STS, 4, 1⟩
abbrev KPR_STS.FLUSHING : Fld := ⟨.KPR_STS, 5, 1⟩
abbrev KPR_STS.CHIP_FATAL : Fld := ⟨.KPR_STS, 6, 1⟩
abbrev KPR_STS.RGN_PIN : Fld := ⟨.KPR_STS, 8, 4⟩
abbrev KPR_STS.IGNORED_RESETS : Fld := ⟨.KPR_STS, 12, 8⟩
abbrev KPR_RST_CAUSE.CAUSE : Fld := ⟨.KPR_RST_CAUSE, 0, 4⟩
abbrev KPR_RST_CAUSE.RAIL : Fld := ⟨.KPR_RST_CAUSE, 4, 3⟩
abbrev KPR_RST_CAUSE.OVER : Fld := ⟨.KPR_RST_CAUSE, 7, 1⟩
abbrev KPR_RST_CAUSE.COUNT : Fld := ⟨.KPR_RST_CAUSE, 16, 16⟩
abbrev KPR_PD_STS.FLUSH_MS : Fld := ⟨.KPR_PD_STS, 0, 8⟩
abbrev KPR_PD_STS.RESULT : Fld := ⟨.KPR_PD_STS, 8, 2⟩
abbrev KPR_PD_STS.UNFLUSHED : Fld := ⟨.KPR_PD_STS, 10, 22⟩
abbrev KPR_AON.PPM : Fld := ⟨.KPR_AON, 0, 16⟩
abbrev KPR_AON.CAL : Fld := ⟨.KPR_AON, 16, 1⟩
abbrev KPR_RET_STS.VALID : Fld := ⟨.KPR_RET_STS, 0, 5⟩
abbrev KPR_RET_STS.MISSED : Fld := ⟨.KPR_RET_STS, 8, 8⟩
abbrev CHIP_CES_SUM.BLOCKS : Fld := ⟨.CHIP_CES_SUM, 0, 14⟩
abbrev CHIP_RGN_STS.STATE : Fld := ⟨.CHIP_RGN_STS, 0, 8⟩
abbrev CHIP_RGN_CAUSE.BLOCK : Fld := ⟨.CHIP_RGN_CAUSE, 0, 4⟩
abbrev CHIP_RGN_CAUSE.BIT : Fld := ⟨.CHIP_RGN_CAUSE, 4, 5⟩
abbrev CHIP_RGN_CAUSE.VALID : Fld := ⟨.CHIP_RGN_CAUSE, 9, 1⟩
abbrev CHIP_RGN_CAUSE.TIME_MS : Fld := ⟨.CHIP_RGN_CAUSE, 10, 22⟩
abbrev ARC_CTL.EN : Fld := ⟨.ARC_CTL, 0, 1⟩
abbrev ARC_CTL.EXT_CLR : Fld := ⟨.ARC_CTL, 1, 1⟩
abbrev ARC_CTL.FRAME_MS : Fld := ⟨.ARC_CTL, 8, 16⟩
abbrev ARC_FRZ.FRZ_MAX_MS : Fld := ⟨.ARC_FRZ, 0, 14⟩
abbrev ARC_FRZ.FREEZE : Fld := ⟨.ARC_FRZ, 14, 1⟩
abbrev ARC_FRZ.UNFREEZE : Fld := ⟨.ARC_FRZ, 15, 1⟩
abbrev ARC_FRZ.FROZEN : Fld := ⟨.ARC_FRZ, 16, 1⟩
abbrev ARC_FRZ.EXPIRED : Fld := ⟨.ARC_FRZ, 17, 1⟩
abbrev ARC_FRZ_LOSS.LOSS : Fld := ⟨.ARC_FRZ_LOSS, 0, 32⟩
abbrev ARC_REC.COUNT : Fld := ⟨.ARC_REC, 0, 24⟩
abbrev ARC_REC.FULL : Fld := ⟨.ARC_REC, 24, 1⟩
abbrev ARC_REC.RELEASE : Fld := ⟨.ARC_REC, 25, 1⟩
abbrev ARC_HIST.USED_KB : Fld := ⟨.ARC_HIST, 0, 18⟩
abbrev ARC_HIST.FULL : Fld := ⟨.ARC_HIST, 18, 1⟩
abbrev ARC_HIST.RELEASE : Fld := ⟨.ARC_HIST, 19, 1⟩
abbrev ARC_HIST.FRAMES : Fld := ⟨.ARC_HIST, 20, 12⟩
abbrev ARC_LOST.FULL_LOST : Fld := ⟨.ARC_LOST, 0, 16⟩
abbrev ARC_LOST.STAGE_LOST : Fld := ⟨.ARC_LOST, 16, 16⟩
abbrev ARC_WIN_SEL.UNIT : Fld := ⟨.ARC_WIN_SEL, 0, 2⟩
abbrev ARC_WIN_SEL.STACK : Fld := ⟨.ARC_WIN_SEL, 2, 1⟩
abbrev ARC_WIN_SEL.PAGE : Fld := ⟨.ARC_WIN_SEL, 3, 9⟩
abbrev ARC_WEAR_CMD.DIE : Fld := ⟨.ARC_WEAR_CMD, 0, 4⟩
abbrev ARC_WEAR_CMD.BAND : Fld := ⟨.ARC_WEAR_CMD, 4, 4⟩
abbrev ARC_WEAR_CMD.LOAD : Fld := ⟨.ARC_WEAR_CMD, 8, 1⟩
abbrev ARC_WEAR_CMD.SEAL : Fld := ⟨.ARC_WEAR_CMD, 9, 1⟩
abbrev ARC_WEAR_CMD.SEALED : Fld := ⟨.ARC_WEAR_CMD, 10, 1⟩
abbrev ARC_WEAR_LO.SECONDS_LO : Fld := ⟨.ARC_WEAR_LO, 0, 32⟩
abbrev ARC_WEAR_HI.SECONDS_HI : Fld := ⟨.ARC_WEAR_HI, 0, 8⟩
abbrev ARC_CODE_CFG.RATE : Fld := ⟨.ARC_CODE_CFG, 0, 16⟩
abbrev ARC_CODE_CFG.LOG : Fld := ⟨.ARC_CODE_CFG, 16, 1⟩
abbrev PMC_CFG.EVT : Fld := ⟨.PMC_CFG, 0, 8⟩
abbrev PMC_CFG.QUAL : Fld := ⟨.PMC_CFG, 8, 8⟩
abbrev PMC_CFG.EN : Fld := ⟨.PMC_CFG, 16, 1⟩
abbrev PMC_CFG.CHAIN : Fld := ⟨.PMC_CFG, 17, 1⟩
abbrev PMC_CFG.OVF : Fld := ⟨.PMC_CFG, 18, 1⟩
abbrev PMC_CFG.CLR : Fld := ⟨.PMC_CFG, 19, 1⟩
abbrev PMC_CNT_LO.COUNT_LO : Fld := ⟨.PMC_CNT_LO, 0, 32⟩
abbrev PMC_CNT_HI.COUNT_HI : Fld := ⟨.PMC_CNT_HI, 0, 16⟩
abbrev PMC_SNAP_CTL.PERIOD_US : Fld := ⟨.PMC_SNAP_CTL, 0, 20⟩
abbrev PMC_SNAP_CTL.EN : Fld := ⟨.PMC_SNAP_CTL, 20, 1⟩
abbrev PMC_SNAP_CTL.NOW : Fld := ⟨.PMC_SNAP_CTL, 21, 1⟩
abbrev PMC_SNAP_STS.SEQ : Fld := ⟨.PMC_SNAP_STS, 0, 32⟩
abbrev PMC_SNAP_MISS.MISSED : Fld := ⟨.PMC_SNAP_MISS, 0, 16⟩

/-- The field rows of every register, low bits first.
A field whose reset is fused, fixed or computed is `ro` here and shown by `State.readWord`. -/
def Reg.rows : Reg → List FieldRow
  | .CHIP_IDENT => [⟨0, 4, .ro, .any⟩, ⟨4, 4, .ro, .any⟩, ⟨8, 12, .ro, .any⟩, ⟨20, 12, .ro, .any⟩]
  | .BND_SREC_D => [⟨0, 32, .rw, .any⟩]
  | .BND_SREC_CMD => [⟨0, 20, .rw, .any⟩, ⟨20, 1, .rw, .any⟩, ⟨21, 3, .rsv, .any⟩, ⟨24, 1, .wo, .any⟩, ⟨25, 1, .ro, .any⟩, ⟨26, 3, .ro, .any⟩, ⟨29, 3, .rsv, .any⟩]
  | .BND_GRP_D => [⟨0, 32, .rw, .any⟩]
  | .BND_GRP_CMD => [⟨0, 12, .rw, .any⟩, ⟨12, 1, .rw, .any⟩, ⟨13, 11, .rsv, .any⟩, ⟨24, 1, .wo, .any⟩, ⟨25, 1, .ro, .any⟩, ⟨26, 6, .rsv, .any⟩]
  | .BND_RULE_D => [⟨0, 32, .rw, .any⟩]
  | .BND_RULE_CMD => [⟨0, 12, .rw, .any⟩, ⟨12, 2, .rw, .any⟩, ⟨14, 10, .rsv, .any⟩, ⟨24, 1, .wo, .any⟩, ⟨25, 1, .ro, .any⟩, ⟨26, 3, .ro, .any⟩, ⟨29, 3, .rsv, .any⟩]
  | .BND_BAR_CMD => [⟨0, 20, .rw, .any⟩, ⟨20, 1, .rw, .any⟩, ⟨21, 1, .rw, .any⟩, ⟨22, 2, .rsv, .any⟩, ⟨24, 1, .wo, .any⟩, ⟨25, 2, .ro, .any⟩, ⟨27, 1, .rsv, .any⟩, ⟨28, 4, .ro, .any⟩]
  | .BND_BAR_STS => [⟨0, 16, .w1c, .any⟩, ⟨16, 16, .ro, .any⟩]
  | .BND_FAULT_LO => [⟨0, 32, .ro, .any⟩]
  | .BND_FAULT_HI => [⟨0, 16, .ro, .any⟩, ⟨16, 16, .rsv, .any⟩]
  | .BND_FAULT_INFO => [⟨0, 10, .ro, .any⟩, ⟨10, 3, .ro, .any⟩, ⟨13, 12, .ro, .any⟩, ⟨25, 6, .ro, .any⟩, ⟨31, 1, .w1c, .any⟩]
  | .BND_RSH_CTL => [⟨0, 20, .rw, .any⟩, ⟨20, 5, .rw, .within 0 16⟩, ⟨25, 2, .rw, .any⟩, ⟨27, 1, .wo, .any⟩, ⟨28, 4, .rsv, .any⟩]
  | .BND_RSH_STS => [⟨0, 17, .ro, .any⟩, ⟨17, 3, .ro, .any⟩, ⟨20, 4, .ro, .any⟩, ⟨24, 3, .ro, .any⟩, ⟨27, 5, .rsv, .any⟩]
  | .CAT_CTL => [⟨0, 1, .rw, .any⟩, ⟨1, 1, .rw, .any⟩, ⟨2, 1, .rw, .any⟩, ⟨3, 5, .rsv, .any⟩, ⟨8, 4, .rw, .within 1 15⟩, ⟨12, 20, .rsv, .any⟩]
  | .CAT_TXN_TMO => [⟨0, 12, .rw, .within 1 4000⟩, ⟨12, 20, .rsv, .any⟩]
  | .CAT_LOSS_HOLD => [⟨0, 16, .rw, .within 10 60000⟩, ⟨16, 16, .rsv, .any⟩]
  | .CAT_ENT_CMD => [⟨0, 1, .wo, .any⟩, ⟨1, 1, .ro, .any⟩, ⟨2, 2, .ro, .any⟩, ⟨4, 28, .rsv, .any⟩]
  | .CAT_ENT_ADDR_LO => [⟨0, 6, .rsv, .any⟩, ⟨6, 26, .rw, .any⟩]
  | .CAT_ENT_ADDR_HI => [⟨0, 16, .rw, .any⟩, ⟨16, 16, .rsv, .any⟩]
  | .CAT_ENT_D0 => [⟨0, 32, .ro, .any⟩]
  | .CAT_ENT_D1 => [⟨0, 32, .ro, .any⟩]
  | .CAT_LD_OCC => [⟨0, 14, .ro, .any⟩, ⟨14, 2, .rsv, .any⟩, ⟨16, 14, .rc, .any⟩, ⟨30, 2, .rsv, .any⟩]
  | .CAT_CHAIN_STS => [⟨0, 16, .rc, .any⟩, ⟨16, 7, .rc, .any⟩, ⟨23, 9, .rsv, .any⟩]
  | .CAT_RCL_CMD => [⟨0, 10, .rw, .any⟩, ⟨10, 2, .rw, .within 0 2⟩, ⟨12, 4, .rsv, .any⟩, ⟨16, 1, .wo, .any⟩, ⟨17, 15, .rsv, .any⟩]
  | .CAT_RCL_ARG => [⟨0, 20, .rw, .any⟩, ⟨20, 12, .rsv, .any⟩]
  | .CAT_RCL_STS => [⟨0, 1, .ro, .any⟩, ⟨1, 1, .w1c, .any⟩, ⟨2, 2, .ro, .any⟩, ⟨4, 4, .rsv, .any⟩, ⟨8, 24, .ro, .any⟩]
  | .CAT_DDP_STS => [⟨0, 15, .ro, .any⟩, ⟨15, 1, .rsv, .any⟩, ⟨16, 8, .rc, .any⟩, ⟨24, 8, .rc, .any⟩]
  | .CAT_DEAD_STS => [⟨0, 11, .ro, .any⟩, ⟨11, 5, .rsv, .any⟩, ⟨16, 10, .ro, .any⟩, ⟨26, 2, .ro, .any⟩, ⟨28, 4, .rsv, .any⟩]
  | .CAT_HOLD_STS => [⟨0, 16, .ro, .any⟩, ⟨16, 16, .w1c, .any⟩]
  | .CAT_PLG_CMD => [⟨0, 20, .rw, .any⟩, ⟨20, 1, .wo, .any⟩, ⟨21, 1, .ro, .any⟩, ⟨22, 1, .ro, .any⟩, ⟨23, 9, .rsv, .any⟩]
  | .CAT_PLG_D => [⟨0, 24, .ro, .any⟩, ⟨24, 4, .ro, .any⟩, ⟨28, 4, .rsv, .any⟩]
  | .CAT_DROP_STS => [⟨0, 16, .rc, .any⟩, ⟨16, 16, .rc, .any⟩]
  | .CAT_TMR_STS => [⟨0, 16, .rc, .any⟩, ⟨16, 16, .rc, .any⟩]
  | .GRN_CTL => [⟨0, 1, .rw, .any⟩, ⟨1, 1, .rw, .any⟩, ⟨2, 6, .rsv, .any⟩, ⟨8, 1, .ro, .any⟩, ⟨9, 23, .rsv, .any⟩]
  | .GRN_DCAP => [⟨0, 6, .rw, .within 1 36⟩, ⟨6, 26, .rsv, .any⟩]
  | .GRN_SCRUB => [⟨0, 8, .rw, .within 1 168⟩, ⟨8, 1, .rw, .any⟩, ⟨9, 7, .rsv, .any⟩, ⟨16, 16, .ro, .any⟩]
  | .GRN_FLUSH_CMD => [⟨0, 20, .rw, .any⟩, ⟨20, 2, .rw, .any⟩, ⟨22, 1, .wo, .any⟩, ⟨23, 1, .ro, .any⟩, ⟨24, 2, .ro, .any⟩, ⟨26, 6, .rsv, .any⟩]
  | .GRN_FLUSH_STS => [⟨0, 24, .ro, .any⟩, ⟨24, 7, .ro, .any⟩, ⟨31, 1, .w1c, .any⟩]
  | .GRN_ECC_STS => [⟨0, 16, .rc, .any⟩, ⟨16, 8, .rc, .any⟩, ⟨24, 8, .rc, .any⟩]
  | .GRN_ECC_ADDR => [⟨0, 1, .ro, .any⟩, ⟨1, 24, .ro, .any⟩, ⟨25, 5, .ro, .any⟩, ⟨30, 1, .ro, .any⟩, ⟨31, 1, .w1c, .any⟩]
  | .GRN_REPAIR_STS => [⟨0, 8, .ro, .any⟩, ⟨8, 8, .ro, .any⟩, ⟨16, 16, .ro, .any⟩]
  | .GRN_CLASS => [⟨0, 4, .rw, .any⟩, ⟨4, 4, .rw, .any⟩, ⟨8, 16, .rw, .any⟩, ⟨24, 8, .rsv, .any⟩]
  | .GRN_CRL_QUOTA => [⟨0, 20, .rw, .any⟩, ⟨20, 12, .rsv, .any⟩]
  | .SWC_VOQ_LOCK => [⟨0, 1, .lk, .any⟩, ⟨1, 31, .rsv, .any⟩]
  | .SWC_SPN_CTL => [⟨0, 4, .rw, .any⟩, ⟨4, 28, .rsv, .any⟩]
  | .SWC_SPN_STS => [⟨0, 8, .ro, .any⟩, ⟨8, 8, .ro, .any⟩, ⟨16, 16, .rc, .any⟩]
  | .SWC_RT_D => [⟨0, 32, .rw, .any⟩]
  | .SWC_RT_CMD => [⟨0, 11, .rw, .any⟩, ⟨11, 2, .rw, .any⟩, ⟨13, 1, .wo, .any⟩, ⟨14, 1, .ro, .any⟩, ⟨15, 3, .ro, .any⟩, ⟨18, 14, .rsv, .any⟩]
  | .SWC_RT_BAR => [⟨0, 1, .wo, .any⟩, ⟨1, 1, .ro, .any⟩, ⟨2, 1, .w1c, .any⟩, ⟨3, 1, .ro, .any⟩, ⟨4, 12, .rsv, .any⟩, ⟨16, 16, .ro, .any⟩]
  | .SWC_OVF_STS => [⟨0, 20, .ro, .any⟩, ⟨20, 12, .rc, .any⟩]
  | .SWC_DOWN_DROP => [⟨0, 32, .rc, .any⟩]
  | .SWC_RSQ_STS => [⟨0, 13, .ro, .any⟩, ⟨13, 1, .ro, .any⟩, ⟨14, 2, .rsv, .any⟩, ⟨16, 8, .rc, .any⟩, ⟨24, 8, .rc, .any⟩]
  | .SWC_RSQ_HOLE => [⟨0, 16, .ro, .any⟩, ⟨16, 7, .ro, .any⟩, ⟨23, 3, .ro, .any⟩, ⟨26, 5, .rsv, .any⟩, ⟨31, 1, .w1c, .any⟩]
  | .SWC_VOQ_LIM => [⟨0, 13, .rwl, .within 0 4096⟩, ⟨13, 19, .rsv, .any⟩]
  | .SWC_VOQ_OCC => [⟨0, 13, .ro, .any⟩, ⟨13, 3, .rsv, .any⟩, ⟨16, 13, .rc, .any⟩, ⟨29, 3, .rsv, .any⟩]
  | .SWC_GLN_CTL => [⟨0, 6, .rw, .any⟩, ⟨6, 1, .rw, .any⟩, ⟨7, 6, .rw, .any⟩, ⟨13, 1, .rw, .any⟩, ⟨14, 3, .rw, .any⟩, ⟨17, 1, .rw, .any⟩, ⟨18, 1, .rw, .any⟩, ⟨19, 1, .rw, .any⟩, ⟨20, 12, .rsv, .any⟩]
  | .SWC_GLN_N => [⟨0, 16, .rw, .within 2 65535⟩, ⟨16, 16, .rsv, .any⟩]
  | .SWC_GLN_Q => [⟨0, 20, .rw, .any⟩, ⟨20, 12, .rsv, .any⟩]
  | .SWC_GLN_STS => [⟨0, 16, .rc, .any⟩, ⟨16, 16, .rc, .any⟩]
  | .SWC_GLN_NQ => [⟨0, 20, .rw, .any⟩, ⟨20, 12, .rsv, .any⟩]
  | .TFC_TIME_CTL => [⟨0, 2, .rw, .within 0 2⟩, ⟨2, 6, .rw, .any⟩, ⟨8, 10, .rw, .within 1 1000⟩, ⟨18, 14, .rw, .within 1 16383⟩]
  | .TFC_TIME_LO => [⟨0, 32, .ro, .any⟩]
  | .TFC_TIME_HI => [⟨0, 32, .ro, .any⟩]
  | .TFC_TIME_STS => [⟨0, 1, .ro, .any⟩, ⟨1, 1, .ro, .any⟩, ⟨2, 6, .rsv, .any⟩, ⟨8, 16, .ro, .any⟩, ⟨24, 8, .rc, .any⟩]
  | .TFC_HIST_CTL => [⟨0, 1, .rw, .any⟩, ⟨1, 15, .rsv, .any⟩, ⟨16, 8, .rw, .within 1 255⟩, ⟨24, 8, .rw, .within 1 255⟩]
  | .TFC_SHP_CFG => [⟨0, 16, .rw, .any⟩, ⟨16, 16, .rw, .within 1 65535⟩]
  | .TFC_SHP_STS => [⟨0, 32, .rc, .any⟩]
  | .TFC_POL_CFG => [⟨0, 16, .rw, .any⟩, ⟨16, 16, .rw, .within 1 65535⟩]
  | .TFC_POL_ATT => [⟨0, 1, .rw, .any⟩, ⟨1, 2, .rw, .any⟩, ⟨3, 20, .rw, .any⟩, ⟨23, 9, .rsv, .any⟩]
  | .TFC_POL_CHAFF => [⟨0, 32, .rc, .any⟩]
  | .TFC_POL_STS => [⟨0, 24, .ro, .any⟩, ⟨24, 8, .rsv, .any⟩]
  | .TFC_GATE_CTL => [⟨0, 1, .rw, .any⟩, ⟨1, 1, .ro, .any⟩, ⟨2, 6, .rw, .special⟩, ⟨8, 6, .rw, .special⟩, ⟨14, 1, .wo, .any⟩, ⟨15, 1, .ro, .any⟩, ⟨16, 2, .ro, .any⟩, ⟨18, 14, .rsv, .any⟩]
  | .TFC_GATE_BASE_LO => [⟨0, 32, .rw, .any⟩]
  | .TFC_GATE_BASE_HI => [⟨0, 32, .rw, .any⟩]
  | .TFC_GATE_CUR => [⟨0, 6, .ro, .any⟩, ⟨6, 10, .rsv, .any⟩, ⟨16, 16, .rc, .any⟩]
  | .TFC_GATE_DUR => [⟨0, 30, .rw, .special⟩, ⟨30, 2, .rsv, .any⟩]
  | .TFC_GATE_MASK => [⟨0, 8, .rw, .special⟩, ⟨8, 24, .rsv, .any⟩]
  | .PRT_LOCK => [⟨0, 1, .lk, .any⟩, ⟨1, 31, .rsv, .any⟩]
  | .PRT_PORT_CTL => [⟨0, 3, .rwl, .within 0 5⟩, ⟨3, 1, .rwl, .any⟩, ⟨4, 1, .rwl, .any⟩, ⟨5, 1, .rwl, .any⟩, ⟨6, 1, .rw, .any⟩, ⟨7, 1, .wo, .any⟩, ⟨8, 1, .rw, .any⟩, ⟨9, 3, .rw, .within 1 7⟩, ⟨12, 4, .rsv, .any⟩, ⟨16, 8, .rwl, .among [255, 15, 240, 3, 192, 1, 128]⟩, ⟨24, 8, .rw, .within 1 255⟩]
  | .PRT_PORT_STS => [⟨0, 3, .ro, .any⟩, ⟨3, 5, .ro, .any⟩, ⟨8, 4, .ro, .any⟩, ⟨12, 2, .ro, .any⟩, ⟨14, 2, .ro, .any⟩, ⟨16, 1, .ro, .any⟩, ⟨17, 1, .ro, .any⟩, ⟨18, 1, .ro, .any⟩, ⟨19, 1, .ro, .any⟩, ⟨20, 1, .ro, .any⟩, ⟨21, 3, .rsv, .any⟩, ⟨24, 8, .ro, .any⟩]
  | .PRT_PORT_EVT => [⟨0, 8, .w1c, .any⟩, ⟨8, 8, .rsv, .any⟩, ⟨16, 3, .ro, .any⟩, ⟨19, 5, .rsv, .any⟩, ⟨24, 8, .rc, .any⟩]
  | .PRT_DN_TMR => [⟨0, 10, .rw, .within 100 1000⟩, ⟨10, 6, .rsv, .any⟩, ⟨16, 14, .rw, .within 10 10000⟩, ⟨30, 1, .ro, .any⟩, ⟨31, 1, .rsv, .any⟩]
  | .PRT_LANE_CTL => [⟨0, 1, .rwl, .any⟩, ⟨1, 6, .rwl, .within 0 36⟩, ⟨7, 1, .rwl, .any⟩, ⟨8, 4, .rwl, .within 0 10⟩, ⟨12, 20, .rsv, .any⟩]
  | .PRT_LANE_STS => [⟨0, 6, .ro, .any⟩, ⟨6, 1, .ro, .any⟩, ⟨7, 1, .ro, .any⟩, ⟨8, 8, .ro, .any⟩, ⟨16, 4, .ro, .any⟩, ⟨20, 12, .rsv, .any⟩]
  | .PRT_LANE_ERR => [⟨0, 32, .rc, .any⟩]
  | .PRT_PAT_CTL => [⟨0, 3, .rw, .within 0 5⟩, ⟨3, 1, .rw, .any⟩, ⟨4, 1, .rw, .any⟩, ⟨5, 1, .wo, .any⟩, ⟨6, 1, .wo, .any⟩, ⟨7, 6, .rw, .within 1 63⟩, ⟨13, 1, .ro, .any⟩, ⟨14, 18, .rsv, .any⟩]
  | .PRT_PAT_USR_LO => [⟨0, 32, .rw, .any⟩]
  | .PRT_PAT_USR_HI => [⟨0, 32, .rw, .any⟩]
  | .PRT_PAT_CNT_LO => [⟨0, 32, .ro, .any⟩]
  | .PRT_PAT_CNT_HI => [⟨0, 16, .ro, .any⟩, ⟨16, 16, .rsv, .any⟩]
  | .LNK_CTL => [⟨0, 1, .rw, .any⟩, ⟨1, 1, .rwl, .any⟩, ⟨2, 1, .rwl, .any⟩, ⟨3, 1, .rwl, .any⟩, ⟨4, 27, .rsv, .any⟩, ⟨31, 1, .lk, .any⟩]
  | .LNK_STS => [⟨0, 2, .ro, .any⟩, ⟨2, 1, .ro, .any⟩, ⟨3, 1, .ro, .any⟩, ⟨4, 1, .ro, .any⟩, ⟨5, 1, .ro, .any⟩, ⟨6, 1, .ro, .any⟩, ⟨7, 1, .ro, .any⟩, ⟨8, 1, .ro, .any⟩, ⟨9, 23, .rsv, .any⟩]
  | .LNK_ERR => [⟨0, 16, .rc, .any⟩, ⟨16, 8, .rc, .any⟩, ⟨24, 8, .rc, .any⟩]
  | .LNK_IDE_STS => [⟨0, 1, .ro, .any⟩, ⟨1, 1, .ro, .any⟩, ⟨2, 14, .rsv, .any⟩, ⟨16, 8, .rc, .any⟩, ⟨24, 8, .rc, .any⟩]
  | .ZWL_CTL => [⟨0, 12, .rw, .within 1 4095⟩, ⟨12, 5, .rw, .within 16 24⟩, ⟨17, 1, .rw, .any⟩, ⟨18, 2, .rwl, .any⟩, ⟨20, 1, .rwl, .any⟩, ⟨21, 10, .rsv, .any⟩, ⟨31, 1, .lk, .any⟩]
  | .ZWL_STS => [⟨0, 3, .ro, .any⟩, ⟨3, 1, .rsv, .any⟩, ⟨4, 4, .ro, .any⟩, ⟨8, 24, .ro, .any⟩]
  | .ZWL_ERR => [⟨0, 12, .ro, .any⟩, ⟨12, 4, .rsv, .any⟩, ⟨16, 8, .rc, .any⟩, ⟨24, 8, .rc, .any⟩]
  | .ZWL_RPL => [⟨0, 16, .rc, .any⟩, ⟨16, 16, .rc, .any⟩]
  | .ZWL_PEER => [⟨0, 2, .ro, .any⟩, ⟨2, 6, .ro, .any⟩, ⟨8, 1, .ro, .any⟩, ⟨9, 1, .ro, .any⟩, ⟨10, 22, .rsv, .any⟩]
  | .QMG_CTX_D => [⟨0, 32, .rw, .any⟩]
  | .QMG_CTX_CMD => [⟨0, 20, .rw, .any⟩, ⟨20, 2, .rw, .any⟩, ⟨22, 2, .rsv, .any⟩, ⟨24, 1, .wo, .any⟩, ⟨25, 1, .ro, .any⟩, ⟨26, 3, .ro, .any⟩, ⟨29, 3, .rsv, .any⟩]
  | .QMG_DB_LO => [⟨0, 32, .rw, .any⟩]
  | .QMG_DB_HI => [⟨0, 20, .wo, .any⟩, ⟨20, 1, .wo, .any⟩, ⟨21, 1, .wo, .any⟩, ⟨22, 10, .rsv, .any⟩]
  | .QMG_CACHE_STS => [⟨0, 16, .rc, .any⟩, ⟨16, 15, .ro, .any⟩, ⟨31, 1, .rsv, .any⟩]
  | .QMG_ERR_CAP => [⟨0, 20, .ro, .any⟩, ⟨20, 4, .ro, .any⟩, ⟨24, 7, .ro, .any⟩, ⟨31, 1, .w1c, .any⟩]
  | .QMG_WIN_DATA_LO => [⟨0, 32, .ro, .any⟩]
  | .QMG_WIN_DATA_HI => [⟨0, 32, .ro, .any⟩]
  | .QMG_WIN_STS => [⟨0, 21, .ro, .any⟩, ⟨21, 1, .ro, .any⟩, ⟨22, 1, .ro, .any⟩, ⟨23, 1, .rc, .any⟩, ⟨24, 1, .ro, .any⟩, ⟨25, 5, .ro, .any⟩, ⟨30, 2, .rsv, .any⟩]
  | .QMG_WIN_OP => [⟨0, 2, .wo, .any⟩, ⟨2, 20, .wo, .any⟩, ⟨22, 10, .rsv, .any⟩]
  | .QMG_WIN_LOST => [⟨0, 32, .rc, .any⟩]
  | .QMG_WIN_PROD => [⟨0, 32, .ro, .any⟩]
  | .QMG_WIN_CONS => [⟨0, 32, .ro, .any⟩]
  | .QMG_WIN_RD => [⟨0, 32, .ro, .any⟩]
  | .DMV_LOCK => [⟨0, 1, .lk, .any⟩, ⟨1, 31, .rsv, .any⟩]
  | .DMV_CH_CTL => [⟨0, 1, .rw, .any⟩, ⟨1, 1, .rwl, .any⟩, ⟨2, 6, .rsv, .any⟩, ⟨8, 20, .rw, .any⟩, ⟨28, 1, .rw, .any⟩, ⟨29, 3, .rsv, .any⟩]
  | .DMV_CH_STS => [⟨0, 2, .ro, .any⟩, ⟨2, 1, .ro, .any⟩, ⟨3, 6, .ro, .any⟩, ⟨9, 7, .ro, .any⟩, ⟨16, 7, .ro, .any⟩, ⟨23, 8, .ro, .any⟩, ⟨31, 1, .rsv, .any⟩]
  | .DMV_CH_CMD => [⟨0, 1, .wo, .any⟩, ⟨1, 1, .ro, .any⟩, ⟨2, 1, .ro, .any⟩, ⟨3, 1, .w1c, .any⟩, ⟨4, 28, .rsv, .any⟩]
  | .DMV_CH_PROG => [⟨0, 32, .ro, .any⟩]
  | .DMV_SHD_CTL => [⟨0, 1, .w1s, .any⟩, ⟨1, 7, .rsv, .any⟩, ⟨8, 8, .ro, .any⟩, ⟨16, 16, .rsv, .any⟩]
  | .DMV_SHD_D => [⟨0, 32, .rw, .any⟩]
  | .DMV_CH_RING => [⟨0, 20, .rw, .any⟩, ⟨20, 1, .rw, .any⟩, ⟨21, 11, .rsv, .any⟩]
  | .CRL_CFG => [⟨0, 20, .rw, .special⟩, ⟨20, 6, .rw, .special⟩, ⟨26, 2, .ro, .any⟩, ⟨28, 1, .ro, .any⟩, ⟨29, 3, .rsv, .any⟩]
  | .CRL_TPL => [⟨0, 8, .rw, .special⟩, ⟨8, 1, .ro, .any⟩, ⟨9, 23, .rsv, .any⟩]
  | .CRL_CHAN_LO => [⟨0, 32, .rw, .any⟩]
  | .CRL_CHAN_HI => [⟨0, 32, .rw, .any⟩]
  | .CRL_SLOT => [⟨0, 20, .rw, .any⟩, ⟨20, 1, .rw, .any⟩, ⟨21, 11, .rsv, .any⟩]
  | .CRL_CMD => [⟨0, 12, .rw, .any⟩, ⟨12, 3, .rw, .any⟩, ⟨15, 1, .rw, .any⟩, ⟨16, 1, .wo, .any⟩, ⟨17, 1, .ro, .any⟩, ⟨18, 4, .ro, .any⟩, ⟨22, 10, .rsv, .any⟩]
  | .CRL_ADDR_LO => [⟨0, 32, .rw, .any⟩]
  | .CRL_ADDR_HI => [⟨0, 32, .rw, .any⟩]
  | .CRL_ARG0 => [⟨0, 20, .rw, .any⟩, ⟨20, 6, .rw, .any⟩, ⟨26, 6, .rsv, .any⟩]
  | .CRL_ARG1 => [⟨0, 20, .rw, .any⟩, ⟨20, 12, .rw, .any⟩]
  | .CRL_CMD_STS => [⟨0, 16, .ro, .any⟩, ⟨16, 7, .ro, .any⟩, ⟨23, 9, .rsv, .any⟩]
  | .CHIP_CHG_SUM => [⟨0, 32, .w1c, .any⟩]
  | .LIB_CORE_STS => [⟨0, 2, .ro, .any⟩, ⟨2, 1, .ro, .any⟩, ⟨3, 8, .ro, .any⟩, ⟨11, 5, .rsv, .any⟩, ⟨16, 16, .ro, .any⟩]
  | .LIB_MPU_BAR => [⟨0, 1, .wo, .any⟩, ⟨1, 1, .ro, .any⟩, ⟨2, 1, .w1c, .any⟩, ⟨3, 29, .rsv, .any⟩]
  | .LIB_MPU_BASE => [⟨0, 1, .rw, .any⟩, ⟨1, 1, .rw, .special⟩, ⟨2, 1, .rw, .special⟩, ⟨3, 1, .rw, .any⟩, ⟨4, 1, .rw, .any⟩, ⟨5, 7, .rsv, .any⟩, ⟨12, 20, .rw, .special⟩]
  | .LIB_MPU_LIMIT => [⟨0, 12, .rsv, .any⟩, ⟨12, 20, .rw, .special⟩]
  | .LIB_MBX_CTL => [⟨0, 1, .w1s, .any⟩, ⟨1, 1, .rw, .any⟩, ⟨2, 11, .rw, .within 0 2047⟩, ⟨13, 19, .rsv, .any⟩]
  | .LIB_MBX_CMD => [⟨0, 16, .rw, .any⟩, ⟨16, 13, .rw, .within 0 4096⟩, ⟨29, 3, .rsv, .any⟩]
  | .LIB_MBX_STS => [⟨0, 16, .ro, .any⟩, ⟨16, 13, .ro, .any⟩, ⟨29, 3, .rsv, .any⟩]
  | .TIL_LOCK => [⟨0, 1, .lk, .any⟩, ⟨1, 31, .rsv, .any⟩]
  | .TIL_CTL => [⟨0, 11, .rw, .any⟩, ⟨11, 1, .wo, .any⟩, ⟨12, 1, .wo, .any⟩, ⟨13, 1, .wo, .any⟩, ⟨14, 18, .rsv, .any⟩]
  | .TIL_STS => [⟨0, 2, .ro, .any⟩, ⟨2, 11, .ro, .any⟩, ⟨13, 4, .ro, .any⟩, ⟨17, 5, .ro, .any⟩, ⟨22, 8, .ro, .any⟩, ⟨30, 2, .rsv, .any⟩]
  | .TIL_EVT => [⟨0, 8, .ro, .any⟩, ⟨8, 8, .ro, .any⟩, ⟨16, 8, .rc, .any⟩, ⟨24, 8, .rc, .any⟩]
  | .TIL_ARG => [⟨0, 32, .rw, .any⟩]
  | .TIL_FADDR => [⟨0, 32, .ro, .any⟩]
  | .TIL_T => [⟨0, 32, .ro, .any⟩]
  | .SEC_LC_STS => [⟨0, 2, .ro, .any⟩, ⟨2, 1, .ro, .any⟩, ⟨3, 5, .rsv, .any⟩, ⟨8, 7, .ro, .any⟩, ⟨15, 1, .rsv, .any⟩, ⟨16, 7, .ro, .any⟩, ⟨23, 9, .rsv, .any⟩]
  | .SEC_BOOT_STS => [⟨0, 1, .ro, .any⟩, ⟨1, 4, .ro, .any⟩, ⟨5, 4, .ro, .any⟩, ⟨9, 2, .ro, .any⟩, ⟨11, 1, .ro, .any⟩, ⟨12, 4, .rsv, .any⟩, ⟨16, 16, .ro, .any⟩]
  | .SEC_BOOT_FAIL => [⟨0, 4, .ro, .any⟩, ⟨4, 28, .ro, .any⟩]
  | .SEC_RB_CMD => [⟨0, 1, .wo, .any⟩, ⟨1, 1, .ro, .any⟩, ⟨2, 2, .ro, .any⟩, ⟨4, 28, .rsv, .any⟩]
  | .SEC_NONCE_LO => [⟨0, 32, .ro, .any⟩]
  | .SEC_NONCE_HI => [⟨0, 32, .ro, .any⟩]
  | .SEC_TOKEN_CMD => [⟨0, 1, .wo, .any⟩, ⟨1, 1, .ro, .any⟩, ⟨2, 4, .ro, .any⟩, ⟨6, 3, .ro, .any⟩, ⟨9, 23, .rsv, .any⟩]
  | .SEC_DBG_STS => [⟨0, 1, .ro, .any⟩, ⟨1, 7, .rsv, .any⟩, ⟨8, 8, .ro, .any⟩, ⟨16, 16, .rc, .any⟩]
  | .SEC_MEAS_IDX => [⟨0, 4, .rw, .within 1 14⟩, ⟨4, 28, .rsv, .any⟩]
  | .SEC_TOKEN_D => [⟨0, 32, .rw, .any⟩]
  | .SEC_MEAS_D => [⟨0, 32, .ro, .any⟩]
  | .SPW_LOCK => [⟨0, 1, .lk, .any⟩, ⟨1, 31, .rsv, .any⟩]
  | .SPW_BUS_CTL => [⟨0, 11, .rwl, .special⟩, ⟨11, 11, .rwl, .special⟩, ⟨22, 10, .rwl, .within 1 1000⟩]
  | .SPW_BUS_STS => [⟨0, 1, .ro, .any⟩, ⟨1, 1, .ro, .any⟩, ⟨2, 8, .ro, .any⟩, ⟨10, 6, .rsv, .any⟩, ⟨16, 16, .rc, .any⟩]
  | .SPW_CFG0 => [⟨0, 1, .rwl, .any⟩, ⟨1, 1, .rwl, .any⟩, ⟨2, 1, .ro, .any⟩, ⟨3, 13, .rwl, .within 500 5000⟩, ⟨16, 11, .rwl, .special⟩, ⟨27, 5, .rsv, .any⟩]
  | .SPW_CFG1 => [⟨0, 10, .rwl, .special⟩, ⟨10, 13, .rwl, .special⟩, ⟨23, 7, .rwl, .special⟩, ⟨30, 2, .rsv, .any⟩]
  | .SPW_CFG2 => [⟨0, 9, .rwl, .within 10 500⟩, ⟨9, 8, .rwl, .among [0, 1, 2, 3, 4, 5, 6, 7, 8, 9, 10, 11, 12, 13, 14, 15, 255]⟩, ⟨17, 8, .rwl, .within 85 150⟩, ⟨25, 7, .rsv, .any⟩]
  | .SPW_CAL0 => [⟨0, 16, .rwl, .special⟩, ⟨16, 16, .rwl, .special⟩]
  | .SPW_CAL1 => [⟨0, 16, .rwl, .within 9500 10500⟩, ⟨16, 16, .rsv, .any⟩]
  | .SPW_CMD => [⟨0, 1, .wo, .any⟩, ⟨1, 1, .wo, .any⟩, ⟨2, 1, .wo, .any⟩, ⟨3, 3, .ro, .any⟩, ⟨6, 26, .rsv, .any⟩]
  | .SPW_STS => [⟨0, 4, .ro, .any⟩, ⟨4, 1, .ro, .any⟩, ⟨5, 1, .ro, .any⟩, ⟨6, 1, .ro, .any⟩, ⟨7, 1, .ro, .any⟩, ⟨8, 4, .ro, .any⟩, ⟨12, 4, .ro, .any⟩, ⟨16, 1, .ro, .any⟩, ⟨17, 15, .rsv, .any⟩]
  | .SPW_MEAS0 => [⟨0, 16, .ro, .any⟩, ⟨16, 12, .ro, .any⟩, ⟨28, 4, .rsv, .any⟩]
  | .SPW_MEAS1 => [⟨0, 12, .ro, .any⟩, ⟨12, 8, .ro, .any⟩, ⟨20, 8, .ro, .any⟩, ⟨28, 4, .rsv, .any⟩]
  | .SPW_TRIP => [⟨0, 24, .ro, .any⟩, ⟨24, 4, .ro, .any⟩, ⟨28, 4, .rsv, .any⟩]
  | .SPW_SOA_AMB => [⟨0, 8, .rwl, .any⟩, ⟨8, 1, .lk, .any⟩, ⟨9, 23, .rsv, .any⟩]
  | .SPW_SOA => [⟨0, 16, .rwl, .any⟩, ⟨16, 16, .rwl, .within 1 65535⟩]
  | .CRS_CLK_STS => [⟨0, 4, .ro, .any⟩, ⟨4, 3, .ro, .any⟩, ⟨7, 1, .ro, .any⟩, ⟨8, 8, .rsv, .any⟩, ⟨16, 8, .rc, .any⟩, ⟨24, 8, .rsv, .any⟩]
  | .CRS_RST_CMD => [⟨0, 16, .wo, .any⟩, ⟨16, 1, .wo, .any⟩, ⟨17, 15, .rsv, .any⟩]
  | .CRS_SUP_CTL => [⟨0, 10, .rw, .within 1 1000⟩, ⟨10, 1, .rw, .any⟩, ⟨11, 21, .rsv, .any⟩]
  | .CRS_SUP_STS => [⟨0, 8, .ro, .any⟩, ⟨8, 8, .ro, .any⟩, ⟨16, 16, .rc, .any⟩]
  | .CRS_RAIL_LO => [⟨0, 12, .ro, .any⟩, ⟨12, 4, .rsv, .any⟩, ⟨16, 12, .ro, .any⟩, ⟨28, 4, .rsv, .any⟩]
  | .CRS_RAIL_HI => [⟨0, 12, .ro, .any⟩, ⟨12, 4, .rsv, .any⟩, ⟨16, 12, .ro, .any⟩, ⟨28, 4, .rsv, .any⟩]
  | .CRS_RAIL_NOW => [⟨0, 12, .ro, .any⟩, ⟨12, 4, .rsv, .any⟩, ⟨16, 12, .rc, .any⟩, ⟨28, 4, .rsv, .any⟩]
  | .KPR_STS => [⟨0, 4, .ro, .any⟩, ⟨4, 1, .ro, .any⟩, ⟨5, 1, .ro, .any⟩, ⟨6, 1, .ro, .any⟩, ⟨7, 1, .rsv, .any⟩, ⟨8, 4, .ro, .any⟩, ⟨12, 8, .ro, .any⟩, ⟨20, 12, .rsv, .any⟩]
  | .KPR_RST_CAUSE => [⟨0, 4, .ro, .any⟩, ⟨4, 3, .ro, .any⟩, ⟨7, 1, .ro, .any⟩, ⟨8, 8, .rsv, .any⟩, ⟨16, 16, .ro, .any⟩]
  | .KPR_PD_STS => [⟨0, 8, .ro, .any⟩, ⟨8, 2, .ro, .any⟩, ⟨10, 22, .ro, .any⟩]
  | .KPR_AON => [⟨0, 16, .ro, .any⟩, ⟨16, 1, .ro, .any⟩, ⟨17, 15, .rsv, .any⟩]
  | .KPR_RET_STS => [⟨0, 5, .w1c, .any⟩, ⟨5, 3, .rsv, .any⟩, ⟨8, 8, .rc, .any⟩, ⟨16, 16, .rsv, .any⟩]
  | .CHIP_CES_SUM => [⟨0, 14, .ro, .any⟩, ⟨14, 18, .rsv, .any⟩]
  | .CHIP_RGN_STS => [⟨0, 8, .ro, .any⟩, ⟨8, 24, .rsv, .any⟩]
  | .CHIP_RGN_CAUSE => [⟨0, 4, .ro, .any⟩, ⟨4, 5, .ro, .any⟩, ⟨9, 1, .ro, .any⟩, ⟨10, 22, .ro, .any⟩]
  | .ARC_CTL => [⟨0, 1, .rw, .any⟩, ⟨1, 1, .wo, .any⟩, ⟨2, 6, .rsv, .any⟩, ⟨8, 16, .rw, .within 10 60000⟩, ⟨24, 8, .rsv, .any⟩]
  | .ARC_FRZ => [⟨0, 14, .rw, .within 1 10000⟩, ⟨14, 1, .wo, .any⟩, ⟨15, 1, .wo, .any⟩, ⟨16, 1, .ro, .any⟩, ⟨17, 1, .w1c, .any⟩, ⟨18, 14, .rsv, .any⟩]
  | .ARC_FRZ_LOSS => [⟨0, 32, .rc, .any⟩]
  | .ARC_REC => [⟨0, 24, .ro, .any⟩, ⟨24, 1, .ro, .any⟩, ⟨25, 1, .wo, .any⟩, ⟨26, 6, .rsv, .any⟩]
  | .ARC_HIST => [⟨0, 18, .ro, .any⟩, ⟨18, 1, .ro, .any⟩, ⟨19, 1, .wo, .any⟩, ⟨20, 12, .ro, .any⟩]
  | .ARC_LOST => [⟨0, 16, .rc, .any⟩, ⟨16, 16, .rc, .any⟩]
  | .ARC_WIN_SEL => [⟨0, 2, .rw, .any⟩, ⟨2, 1, .rw, .any⟩, ⟨3, 9, .rw, .any⟩, ⟨12, 20, .rsv, .any⟩]
  | .ARC_WEAR_CMD => [⟨0, 4, .rw, .within 0 12⟩, ⟨4, 4, .rw, .any⟩, ⟨8, 1, .wo, .any⟩, ⟨9, 1, .wo, .any⟩, ⟨10, 1, .ro, .any⟩, ⟨11, 21, .rsv, .any⟩]
  | .ARC_WEAR_LO => [⟨0, 32, .rw, .any⟩]
  | .ARC_WEAR_HI => [⟨0, 8, .rw, .any⟩, ⟨8, 24, .rsv, .any⟩]
  | .ARC_CODE_CFG => [⟨0, 16, .rw, .within 1 65535⟩, ⟨16, 1, .rw, .any⟩, ⟨17, 15, .rsv, .any⟩]
  | .PMC_CFG => [⟨0, 8, .rw, .special⟩, ⟨8, 8, .rw, .any⟩, ⟨16, 1, .rw, .any⟩, ⟨17, 1, .rw, .special⟩, ⟨18, 1, .w1c, .any⟩, ⟨19, 1, .wo, .any⟩, ⟨20, 12, .rsv, .any⟩]
  | .PMC_CNT_LO => [⟨0, 32, .ro, .any⟩]
  | .PMC_CNT_HI => [⟨0, 16, .ro, .any⟩, ⟨16, 16, .rsv, .any⟩]
  | .PMC_SNAP_CTL => [⟨0, 20, .rw, .within 100 1000000⟩, ⟨20, 1, .rw, .any⟩, ⟨21, 1, .wo, .any⟩, ⟨22, 10, .rsv, .any⟩]
  | .PMC_SNAP_STS => [⟨0, 32, .ro, .any⟩]
  | .PMC_SNAP_MISS => [⟨0, 16, .rc, .any⟩, ⟨16, 16, .rsv, .any⟩]

/-- The reset word of every register instance: the Reset columns of the field maps (R509).
Fused and fixed fields that do not fit one constant are given by index: R4, R414, R442 and R496. -/
def Reg.resetNat (r : Reg) (i : Nat) : Nat :=
  match r with
  | .CHIP_IDENT => 1258316801
  | .BND_RSH_CTL => 0x1000000
  | .CAT_CTL => 0x402
  | .CAT_TXN_TMO => 0x32
  | .CAT_LOSS_HOLD => 0x3E8
  | .GRN_CTL => 0x3
  | .GRN_DCAP => 0x20
  | .GRN_SCRUB => 0x118
  | .GRN_CLASS => 0xFFFF8F
  | .GRN_CRL_QUOTA => 0xFFFFF
  | .SWC_SPN_STS => 0xAA
  | .SWC_RSQ_STS => 0x2000
  | .SWC_GLN_N => 0x400
  | .TFC_TIME_CTL => 0xFA00A00
  | .TFC_HIST_CTL => 0x40640001
  | .TFC_SHP_CFG => 0x100000
  | .TFC_POL_CFG => 0x10000
  | .TFC_GATE_DUR => 0x3B9ACA00
  | .TFC_GATE_MASK => 0xFF
  | .PRT_PORT_CTL => 0x40FF061D
  | .PRT_PORT_STS => 0xC000
  | .PRT_PORT_EVT => 0x50000
  | .PRT_DN_TMR => 0x3E80064
  | .PRT_LANE_CTL => 0x4A0
  | .PRT_PAT_CTL => 0x404
  | .LNK_CTL => 0xD
  | .ZWL_CTL => 0x34040
  | .QMG_WIN_STS => 0x200000
  | .SEC_LC_STS => 0
  | .SEC_MEAS_IDX => 0x1
  | .SPW_BUS_CTL => 0x29C23FC
  | .SPW_CFG0 => 4000 + (if 28 ≤ i then 4 + 200 * 65536 else 50 * 65536)
  | .SPW_CFG1 => 0x501900A
  | .SPW_CFG2 => 0xFA0064
  | .SPW_CAL1 => 0x2710
  | .SPW_MEAS1 => 0xFF000
  | .SPW_SOA_AMB => 0x3C
  | .SPW_SOA => [50 + 5 * 65536, 150 + 50 * 65536, 300 + 500 * 65536, 400 + 5000 * 65536].getD (i % 4) 0
  | .CRS_SUP_CTL => 0x40A
  | .CRS_RAIL_LO => [724 + 705 * 65536, 772 + 752 * 65536, 724 + 705 * 65536, 1158 + 1128 * 65536, 1062 + 1034 * 65536, 386 + 376 * 65536, 1737 + 1692 * 65536, 1737 + 1692 * 65536].getD i 0
  | .CRS_RAIL_HI => [780 + 803 * 65536, 832 + 856 * 65536, 780 + 803 * 65536, 1248 + 1284 * 65536, 1144 + 1177 * 65536, 416 + 428 * 65536, 1872 + 1926 * 65536, 1872 + 1926 * 65536].getD i 0
  | .KPR_STS => 0x10
  | .ARC_CTL => 0x3E801
  | .ARC_FRZ => 0x3E8
  | .ARC_CODE_CFG => 0x103E8
  | .PMC_CFG => 130816 + (if i < 2688 ∧ i % 672 < 512 ∧ i % 32 < 26 then i % 32 else 0)
  | .PMC_SNAP_CTL => 0x1003E8
  | .BND_SREC_D | .BND_SREC_CMD | .BND_GRP_D | .BND_GRP_CMD | .BND_RULE_D | .BND_RULE_CMD | .BND_BAR_CMD | .BND_BAR_STS => 0
  | .BND_FAULT_LO | .BND_FAULT_HI | .BND_FAULT_INFO | .BND_RSH_STS | .CAT_ENT_CMD | .CAT_ENT_ADDR_LO | .CAT_ENT_ADDR_HI | .CAT_ENT_D0 => 0
  | .CAT_ENT_D1 | .CAT_LD_OCC | .CAT_CHAIN_STS | .CAT_RCL_CMD | .CAT_RCL_ARG | .CAT_RCL_STS | .CAT_DDP_STS | .CAT_DEAD_STS => 0
  | .CAT_HOLD_STS | .CAT_PLG_CMD | .CAT_PLG_D | .CAT_DROP_STS | .CAT_TMR_STS | .GRN_FLUSH_CMD | .GRN_FLUSH_STS | .GRN_ECC_STS => 0
  | .GRN_ECC_ADDR | .GRN_REPAIR_STS | .SWC_VOQ_LOCK | .SWC_SPN_CTL | .SWC_RT_D | .SWC_RT_CMD | .SWC_RT_BAR | .SWC_OVF_STS => 0
  | .SWC_DOWN_DROP | .SWC_RSQ_HOLE | .SWC_VOQ_LIM | .SWC_VOQ_OCC | .SWC_GLN_CTL | .SWC_GLN_Q | .SWC_GLN_STS | .SWC_GLN_NQ => 0
  | .TFC_TIME_LO | .TFC_TIME_HI | .TFC_TIME_STS | .TFC_SHP_STS | .TFC_POL_ATT | .TFC_POL_CHAFF | .TFC_POL_STS | .TFC_GATE_CTL => 0
  | .TFC_GATE_BASE_LO | .TFC_GATE_BASE_HI | .TFC_GATE_CUR | .PRT_LOCK | .PRT_LANE_STS | .PRT_LANE_ERR | .PRT_PAT_USR_LO | .PRT_PAT_USR_HI => 0
  | .PRT_PAT_CNT_LO | .PRT_PAT_CNT_HI | .LNK_STS | .LNK_ERR | .LNK_IDE_STS | .ZWL_STS | .ZWL_ERR | .ZWL_RPL => 0
  | .ZWL_PEER | .QMG_CTX_D | .QMG_CTX_CMD | .QMG_DB_LO | .QMG_DB_HI | .QMG_CACHE_STS | .QMG_ERR_CAP | .QMG_WIN_DATA_LO => 0
  | .QMG_WIN_DATA_HI | .QMG_WIN_OP | .QMG_WIN_LOST | .QMG_WIN_PROD | .QMG_WIN_CONS | .QMG_WIN_RD | .DMV_LOCK | .DMV_CH_CTL => 0
  | .DMV_CH_STS | .DMV_CH_CMD | .DMV_CH_PROG | .DMV_SHD_CTL | .DMV_SHD_D | .DMV_CH_RING | .CRL_CFG | .CRL_TPL => 0
  | .CRL_CHAN_LO | .CRL_CHAN_HI | .CRL_SLOT | .CRL_CMD | .CRL_ADDR_LO | .CRL_ADDR_HI | .CRL_ARG0 | .CRL_ARG1 => 0
  | .CRL_CMD_STS | .CHIP_CHG_SUM | .LIB_CORE_STS | .LIB_MPU_BAR | .LIB_MPU_BASE | .LIB_MPU_LIMIT | .LIB_MBX_CTL | .LIB_MBX_CMD => 0
  | .LIB_MBX_STS | .TIL_LOCK | .TIL_CTL | .TIL_STS | .TIL_EVT | .TIL_ARG | .TIL_FADDR | .TIL_T => 0
  | .SEC_BOOT_STS | .SEC_BOOT_FAIL | .SEC_RB_CMD | .SEC_NONCE_LO | .SEC_NONCE_HI | .SEC_TOKEN_CMD | .SEC_DBG_STS | .SEC_TOKEN_D => 0
  | .SEC_MEAS_D | .SPW_LOCK | .SPW_BUS_STS | .SPW_CAL0 | .SPW_CMD | .SPW_STS | .SPW_MEAS0 | .SPW_TRIP => 0
  | .CRS_CLK_STS | .CRS_RST_CMD | .CRS_SUP_STS | .CRS_RAIL_NOW | .KPR_RST_CAUSE | .KPR_PD_STS | .KPR_AON | .KPR_RET_STS => 0
  | .CHIP_CES_SUM | .CHIP_RGN_STS | .CHIP_RGN_CAUSE | .ARC_FRZ_LOSS | .ARC_REC | .ARC_HIST | .ARC_LOST | .ARC_WIN_SEL => 0
  | .ARC_WEAR_CMD | .ARC_WEAR_LO | .ARC_WEAR_HI | .PMC_CNT_LO | .PMC_CNT_HI | .PMC_SNAP_STS | .PMC_SNAP_MISS => 0

def Reg.places : Reg → List Place
  | .CHIP_IDENT => [⟨0x0, 0, []⟩]
  | .BND_SREC_D => [⟨0x1200000, 0, [(4, 0x1000000, 4), (4, 0x4, 1)]⟩]
  | .BND_SREC_CMD => [⟨0x1200010, 0, [(4, 0x1000000, 1)]⟩]
  | .BND_GRP_D => [⟨0x1200020, 0, [(4, 0x1000000, 8), (8, 0x4, 1)]⟩]
  | .BND_GRP_CMD => [⟨0x1200040, 0, [(4, 0x1000000, 1)]⟩]
  | .BND_RULE_D => [⟨0x1200050, 0, [(4, 0x1000000, 4), (4, 0x4, 1)]⟩]
  | .BND_RULE_CMD => [⟨0x1200060, 0, [(4, 0x1000000, 1)]⟩]
  | .BND_BAR_CMD => [⟨0x1200070, 0, [(4, 0x1000000, 1)]⟩]
  | .BND_BAR_STS => [⟨0x1200074, 0, [(4, 0x1000000, 1)]⟩]
  | .BND_FAULT_LO => [⟨0x1200080, 0, [(4, 0x1000000, 1)]⟩]
  | .BND_FAULT_HI => [⟨0x1200084, 0, [(4, 0x1000000, 1)]⟩]
  | .BND_FAULT_INFO => [⟨0x1200088, 0, [(4, 0x1000000, 1)]⟩]
  | .BND_RSH_CTL => [⟨0x1200100, 0, [(4, 0x1000000, 16), (16, 0x8, 1)]⟩]
  | .BND_RSH_STS => [⟨0x1200104, 0, [(4, 0x1000000, 16), (16, 0x8, 1)]⟩]
  | .CAT_CTL => [⟨0x1300000, 0, [(4, 0x1000000, 1)]⟩]
  | .CAT_TXN_TMO => [⟨0x1300004, 0, [(4, 0x1000000, 1)]⟩]
  | .CAT_LOSS_HOLD => [⟨0x1300008, 0, [(4, 0x1000000, 1)]⟩]
  | .CAT_ENT_CMD => [⟨0x1300010, 0, [(4, 0x1000000, 1)]⟩]
  | .CAT_ENT_ADDR_LO => [⟨0x1300014, 0, [(4, 0x1000000, 1)]⟩]
  | .CAT_ENT_ADDR_HI => [⟨0x1300018, 0, [(4, 0x1000000, 1)]⟩]
  | .CAT_ENT_D0 => [⟨0x130001C, 0, [(4, 0x1000000, 1)]⟩]
  | .CAT_ENT_D1 => [⟨0x1300020, 0, [(4, 0x1000000, 1)]⟩]
  | .CAT_LD_OCC => [⟨0x1300030, 0, [(4, 0x1000000, 1)]⟩]
  | .CAT_CHAIN_STS => [⟨0x1300034, 0, [(4, 0x1000000, 1)]⟩]
  | .CAT_RCL_CMD => [⟨0x1300040, 0, [(4, 0x1000000, 1)]⟩]
  | .CAT_RCL_ARG => [⟨0x1300044, 0, [(4, 0x1000000, 1)]⟩]
  | .CAT_RCL_STS => [⟨0x1300048, 0, [(4, 0x1000000, 1)]⟩]
  | .CAT_DDP_STS => [⟨0x1300050, 0, [(4, 0x1000000, 1)]⟩]
  | .CAT_DEAD_STS => [⟨0x1300060, 0, [(4, 0x1000000, 1)]⟩]
  | .CAT_HOLD_STS => [⟨0x1300064, 0, [(4, 0x1000000, 1)]⟩]
  | .CAT_PLG_CMD => [⟨0x1300068, 0, [(4, 0x1000000, 1)]⟩]
  | .CAT_PLG_D => [⟨0x130006C, 0, [(4, 0x1000000, 1)]⟩]
  | .CAT_DROP_STS => [⟨0x1300070, 0, [(4, 0x1000000, 1)]⟩]
  | .CAT_TMR_STS => [⟨0x1300074, 0, [(4, 0x1000000, 1)]⟩]
  | .GRN_CTL => [⟨0x1400000, 0, [(4, 0x1000000, 1)]⟩]
  | .GRN_DCAP => [⟨0x1400004, 0, [(4, 0x1000000, 1)]⟩]
  | .GRN_SCRUB => [⟨0x1400008, 0, [(4, 0x1000000, 1)]⟩]
  | .GRN_FLUSH_CMD => [⟨0x1400010, 0, [(4, 0x1000000, 1)]⟩]
  | .GRN_FLUSH_STS => [⟨0x1400014, 0, [(4, 0x1000000, 1)]⟩]
  | .GRN_ECC_STS => [⟨0x1400020, 0, [(4, 0x1000000, 1)]⟩]
  | .GRN_ECC_ADDR => [⟨0x1400024, 0, [(4, 0x1000000, 1)]⟩]
  | .GRN_REPAIR_STS => [⟨0x1400028, 0, [(4, 0x1000000, 1)]⟩]
  | .GRN_CLASS => [⟨0x1400100, 0, [(4, 0x1000000, 8), (8, 0x4, 1)]⟩]
  | .GRN_CRL_QUOTA => [⟨0x1401000, 0, [(4, 0x1000000, 4096), (4096, 0x4, 1)]⟩]
  | .SWC_VOQ_LOCK => [⟨0x1500000, 0, [(4, 0x1000000, 1)]⟩]
  | .SWC_SPN_CTL => [⟨0x1500004, 0, [(4, 0x1000000, 1)]⟩]
  | .SWC_SPN_STS => [⟨0x1500008, 0, [(4, 0x1000000, 1)]⟩]
  | .SWC_RT_D => [⟨0x1500010, 0, [(4, 0x1000000, 4), (4, 0x4, 1)]⟩]
  | .SWC_RT_CMD => [⟨0x1500020, 0, [(4, 0x1000000, 1)]⟩]
  | .SWC_RT_BAR => [⟨0x1500024, 0, [(4, 0x1000000, 1)]⟩]
  | .SWC_OVF_STS => [⟨0x1500040, 0, [(4, 0x1000000, 16), (16, 0x4, 1)]⟩]
  | .SWC_DOWN_DROP => [⟨0x1500100, 0, [(4, 0x1000000, 16), (16, 0x4, 1)]⟩]
  | .SWC_RSQ_STS => [⟨0x1500080, 0, [(4, 0x1000000, 16), (16, 0x8, 1)]⟩]
  | .SWC_RSQ_HOLE => [⟨0x1500084, 0, [(4, 0x1000000, 16), (16, 0x8, 1)]⟩]
  | .SWC_VOQ_LIM => [⟨0x1500200, 0, [(4, 0x1000000, 128), (16, 0x20, 8), (8, 0x4, 1)]⟩]
  | .SWC_VOQ_OCC => [⟨0x1500400, 0, [(4, 0x1000000, 128), (16, 0x20, 8), (8, 0x4, 1)]⟩]
  | .SWC_GLN_CTL => [⟨0x1500800, 0, [(4, 0x1000000, 16), (16, 0x10, 1)]⟩]
  | .SWC_GLN_N => [⟨0x1500804, 0, [(4, 0x1000000, 16), (16, 0x10, 1)]⟩]
  | .SWC_GLN_Q => [⟨0x1500808, 0, [(4, 0x1000000, 16), (16, 0x10, 1)]⟩]
  | .SWC_GLN_STS => [⟨0x150080C, 0, [(4, 0x1000000, 16), (16, 0x10, 1)]⟩]
  | .SWC_GLN_NQ => [⟨0x1500C08, 0, [(4, 0x1000000, 16), (16, 0x10, 1)]⟩]
  | .TFC_TIME_CTL => [⟨0x80000, 0, []⟩]
  | .TFC_TIME_LO => [⟨0x80004, 0, []⟩]
  | .TFC_TIME_HI => [⟨0x80008, 0, []⟩]
  | .TFC_TIME_STS => [⟨0x8000C, 0, []⟩]
  | .TFC_HIST_CTL => [⟨0x1600000, 0, [(4, 0x1000000, 1)]⟩]
  | .TFC_SHP_CFG => [⟨0x1600100, 0, [(4, 0x1000000, 16), (16, 0x8, 1)]⟩]
  | .TFC_SHP_STS => [⟨0x1600104, 0, [(4, 0x1000000, 16), (16, 0x8, 1)]⟩]
  | .TFC_POL_CFG => [⟨0x1601000, 0, [(4, 0x1000000, 2048), (2048, 0x10, 1)]⟩]
  | .TFC_POL_ATT => [⟨0x1601004, 0, [(4, 0x1000000, 2048), (2048, 0x10, 1)]⟩]
  | .TFC_POL_CHAFF => [⟨0x1601008, 0, [(4, 0x1000000, 2048), (2048, 0x10, 1)]⟩]
  | .TFC_POL_STS => [⟨0x160100C, 0, [(4, 0x1000000, 2048), (2048, 0x10, 1)]⟩]
  | .TFC_GATE_CTL => [⟨0x1609000, 0, [(4, 0x1000000, 16), (16, 0x10, 1)]⟩]
  | .TFC_GATE_BASE_LO => [⟨0x1609004, 0, [(4, 0x1000000, 16), (16, 0x10, 1)]⟩]
  | .TFC_GATE_BASE_HI => [⟨0x1609008, 0, [(4, 0x1000000, 16), (16, 0x10, 1)]⟩]
  | .TFC_GATE_CUR => [⟨0x160900C, 0, [(4, 0x1000000, 16), (16, 0x10, 1)]⟩]
  | .TFC_GATE_DUR => [⟨0x160C000, 0, [(4, 0x1000000, 2048), (16, 0x400, 128), (2, 0x200, 64), (64, 0x8, 1)]⟩]
  | .TFC_GATE_MASK => [⟨0x160C004, 0, [(4, 0x1000000, 2048), (16, 0x400, 128), (2, 0x200, 64), (64, 0x8, 1)]⟩]
  | .PRT_LOCK => [⟨0x1100000, 0, [(4, 0x1000000, 1)]⟩]
  | .PRT_PORT_CTL => [⟨0x1100100, 0, [(4, 0x1000000, 16), (16, 0x10, 1)]⟩]
  | .PRT_PORT_STS => [⟨0x1100104, 0, [(4, 0x1000000, 16), (16, 0x10, 1)]⟩]
  | .PRT_PORT_EVT => [⟨0x1100108, 0, [(4, 0x1000000, 16), (16, 0x10, 1)]⟩]
  | .PRT_DN_TMR => [⟨0x110010C, 0, [(4, 0x1000000, 16), (16, 0x10, 1)]⟩]
  | .PRT_LANE_CTL => [⟨0x1101000, 0, [(4, 0x1000000, 130), (130, 0x20, 1)]⟩]
  | .PRT_LANE_STS => [⟨0x1101004, 0, [(4, 0x1000000, 130), (130, 0x20, 1)]⟩]
  | .PRT_LANE_ERR => [⟨0x1101008, 0, [(4, 0x1000000, 130), (130, 0x20, 1)]⟩]
  | .PRT_PAT_CTL => [⟨0x110100C, 0, [(4, 0x1000000, 130), (130, 0x20, 1)]⟩]
  | .PRT_PAT_USR_LO => [⟨0x1101010, 0, [(4, 0x1000000, 130), (130, 0x20, 1)]⟩]
  | .PRT_PAT_USR_HI => [⟨0x1101014, 0, [(4, 0x1000000, 130), (130, 0x20, 1)]⟩]
  | .PRT_PAT_CNT_LO => [⟨0x1101018, 0, [(4, 0x1000000, 130), (130, 0x20, 1)]⟩]
  | .PRT_PAT_CNT_HI => [⟨0x110101C, 0, [(4, 0x1000000, 130), (130, 0x20, 1)]⟩]
  | .LNK_CTL => [⟨0x1700000, 0, [(4, 0x1000000, 16), (16, 0x10, 1)]⟩]
  | .LNK_STS => [⟨0x1700004, 0, [(4, 0x1000000, 16), (16, 0x10, 1)]⟩]
  | .LNK_ERR => [⟨0x1700008, 0, [(4, 0x1000000, 16), (16, 0x10, 1)]⟩]
  | .LNK_IDE_STS => [⟨0x170000C, 0, [(4, 0x1000000, 16), (16, 0x10, 1)]⟩]
  | .ZWL_CTL => [⟨0x1780000, 0, [(4, 0x1000000, 2), (2, 0x20, 1)]⟩]
  | .ZWL_STS => [⟨0x1780004, 0, [(4, 0x1000000, 2), (2, 0x20, 1)]⟩]
  | .ZWL_ERR => [⟨0x1780008, 0, [(4, 0x1000000, 2), (2, 0x20, 1)]⟩]
  | .ZWL_RPL => [⟨0x178000C, 0, [(4, 0x1000000, 2), (2, 0x20, 1)]⟩]
  | .ZWL_PEER => [⟨0x1780010, 0, [(4, 0x1000000, 2), (2, 0x20, 1)]⟩]
  | .QMG_CTX_D => [⟨0x1800000, 0, [(4, 0x1000000, 16), (16, 0x4, 1)]⟩]
  | .QMG_CTX_CMD => [⟨0x1800040, 0, [(4, 0x1000000, 1)]⟩]
  | .QMG_DB_LO => [⟨0x1800044, 0, [(4, 0x1000000, 1)]⟩]
  | .QMG_DB_HI => [⟨0x1800048, 0, [(4, 0x1000000, 1)]⟩]
  | .QMG_CACHE_STS => [⟨0x1800050, 0, [(4, 0x1000000, 1)]⟩]
  | .QMG_ERR_CAP => [⟨0x1800054, 0, [(4, 0x1000000, 1)]⟩]
  | .QMG_WIN_DATA_LO => [⟨0x5000000, 0, [(1048576, 0x20, 1)]⟩]
  | .QMG_WIN_DATA_HI => [⟨0x5000004, 0, [(1048576, 0x20, 1)]⟩]
  | .QMG_WIN_STS => [⟨0x5000008, 0, [(1048576, 0x20, 1)]⟩]
  | .QMG_WIN_OP => [⟨0x500000C, 0, [(1048576, 0x20, 1)]⟩]
  | .QMG_WIN_LOST => [⟨0x5000010, 0, [(1048576, 0x20, 1)]⟩]
  | .QMG_WIN_PROD => [⟨0x5000014, 0, [(1048576, 0x20, 1)]⟩]
  | .QMG_WIN_CONS => [⟨0x5000018, 0, [(1048576, 0x20, 1)]⟩]
  | .QMG_WIN_RD => [⟨0x500001C, 0, [(1048576, 0x20, 1)]⟩]
  | .DMV_LOCK => [⟨0x190F000, 0, [(4, 0x1000000, 1)]⟩]
  | .DMV_CH_CTL => [⟨0x1900000, 0, [(4, 0x1000000, 16), (16, 0x400, 1)]⟩]
  | .DMV_CH_STS => [⟨0x1900004, 0, [(4, 0x1000000, 16), (16, 0x400, 1)]⟩]
  | .DMV_CH_CMD => [⟨0x1900008, 0, [(4, 0x1000000, 16), (16, 0x400, 1)]⟩]
  | .DMV_CH_PROG => [⟨0x190000C, 0, [(4, 0x1000000, 16), (16, 0x400, 1)]⟩]
  | .DMV_SHD_CTL => [⟨0x1900010, 0, [(4, 0x1000000, 16), (16, 0x400, 1)]⟩]
  | .DMV_SHD_D => [⟨0x1900040, 0, [(4, 0x1000000, 256), (16, 0x400, 16), (16, 0x4, 1)]⟩]
  | .DMV_CH_RING => [⟨0x1900100, 0, [(4, 0x1000000, 1024), (16, 0x400, 64), (64, 0x4, 1)]⟩]
  | .CRL_CFG => [⟨0x7000000, 0, [(4096, 0x1000, 1)]⟩]
  | .CRL_TPL => [⟨0x7000004, 0, [(4096, 0x1000, 1)]⟩]
  | .CRL_CHAN_LO => [⟨0x7000008, 0, [(4096, 0x1000, 1)]⟩]
  | .CRL_CHAN_HI => [⟨0x700000C, 0, [(4096, 0x1000, 1)]⟩]
  | .CRL_SLOT => [⟨0x7000100, 0, [(4096, 0x1000, 64), (64, 0x4, 1)]⟩]
  | .CRL_CMD => [⟨0x90000, 0, []⟩]
  | .CRL_ADDR_LO => [⟨0x90004, 0, []⟩]
  | .CRL_ADDR_HI => [⟨0x90008, 0, []⟩]
  | .CRL_ARG0 => [⟨0x9000C, 0, []⟩]
  | .CRL_ARG1 => [⟨0x90010, 0, []⟩]
  | .CRL_CMD_STS => [⟨0x90014, 0, []⟩]
  | .CHIP_CHG_SUM => [⟨0x150440, 0, [(3, 0x4, 1)]⟩]
  | .LIB_CORE_STS => [⟨0x1A00000, 0, [(4, 0x1000000, 1)]⟩]
  | .LIB_MPU_BAR => [⟨0x1A00008, 0, [(4, 0x1000000, 1)]⟩]
  | .LIB_MPU_BASE => [⟨0x1A00100, 0, [(4, 0x1000000, 16), (16, 0x8, 1)]⟩]
  | .LIB_MPU_LIMIT => [⟨0x1A00104, 0, [(4, 0x1000000, 16), (16, 0x8, 1)]⟩]
  | .LIB_MBX_CTL => [⟨0xA0000, 0, []⟩]
  | .LIB_MBX_CMD => [⟨0xA0004, 0, []⟩]
  | .LIB_MBX_STS => [⟨0xA0008, 0, []⟩]
  | .TIL_LOCK => [⟨0x1B0F000, 0, [(4, 0x1000000, 1)]⟩, ⟨0xBF000, 4, []⟩]
  | .TIL_CTL => [⟨0x1B00000, 0, [(4, 0x1000000, 48), (48, 0x80, 1)]⟩, ⟨0xB0000, 192, [(33, 0x80, 1)]⟩]
  | .TIL_STS => [⟨0x1B00004, 0, [(4, 0x1000000, 48), (48, 0x80, 1)]⟩, ⟨0xB0004, 192, [(33, 0x80, 1)]⟩]
  | .TIL_EVT => [⟨0x1B00008, 0, [(4, 0x1000000, 48), (48, 0x80, 1)]⟩, ⟨0xB0008, 192, [(33, 0x80, 1)]⟩]
  | .TIL_ARG => [⟨0x1B0000C, 0, [(4, 0x1000000, 48), (48, 0x80, 1)]⟩, ⟨0xB000C, 192, [(33, 0x80, 1)]⟩]
  | .TIL_FADDR => [⟨0x1B00010, 0, [(4, 0x1000000, 48), (48, 0x80, 1)]⟩, ⟨0xB0010, 192, [(33, 0x80, 1)]⟩]
  | .TIL_T => [⟨0x1B00040, 0, [(4, 0x1000000, 768), (48, 0x80, 16), (16, 0x4, 1)]⟩, ⟨0xB0040, 3072, [(33, 0x80, 16), (16, 0x4, 1)]⟩]
  | .SEC_LC_STS => [⟨0xD0000, 0, []⟩]
  | .SEC_BOOT_STS => [⟨0xD0004, 0, []⟩]
  | .SEC_BOOT_FAIL => [⟨0xD0008, 0, []⟩]
  | .SEC_RB_CMD => [⟨0xD000C, 0, []⟩]
  | .SEC_NONCE_LO => [⟨0xD0010, 0, []⟩]
  | .SEC_NONCE_HI => [⟨0xD0014, 0, []⟩]
  | .SEC_TOKEN_CMD => [⟨0xD0018, 0, []⟩]
  | .SEC_DBG_STS => [⟨0xD001C, 0, []⟩]
  | .SEC_MEAS_IDX => [⟨0xD0020, 0, []⟩]
  | .SEC_TOKEN_D => [⟨0xD0100, 0, [(96, 0x4, 1)]⟩]
  | .SEC_MEAS_D => [⟨0xD0300, 0, [(16, 0x4, 1)]⟩]
  | .SPW_LOCK => [⟨0x120000, 0, []⟩]
  | .SPW_BUS_CTL => [⟨0x120004, 0, []⟩]
  | .SPW_BUS_STS => [⟨0x120008, 0, []⟩]
  | .SPW_CFG0 => [⟨0x121000, 0, [(32, 0x40, 1)]⟩]
  | .SPW_CFG1 => [⟨0x121004, 0, [(32, 0x40, 1)]⟩]
  | .SPW_CFG2 => [⟨0x121008, 0, [(32, 0x40, 1)]⟩]
  | .SPW_CAL0 => [⟨0x12100C, 0, [(32, 0x40, 1)]⟩]
  | .SPW_CAL1 => [⟨0x121010, 0, [(32, 0x40, 1)]⟩]
  | .SPW_CMD => [⟨0x121014, 0, [(32, 0x40, 1)]⟩]
  | .SPW_STS => [⟨0x121018, 0, [(32, 0x40, 1)]⟩]
  | .SPW_MEAS0 => [⟨0x12101C, 0, [(32, 0x40, 1)]⟩]
  | .SPW_MEAS1 => [⟨0x121020, 0, [(32, 0x40, 1)]⟩]
  | .SPW_TRIP => [⟨0x121024, 0, [(32, 0x40, 1)]⟩]
  | .SPW_SOA_AMB => [⟨0x121028, 0, [(32, 0x40, 1)]⟩]
  | .SPW_SOA => [⟨0x121030, 0, [(32, 0x40, 4), (4, 0x4, 1)]⟩]
  | .CRS_CLK_STS => [⟨0x130000, 0, []⟩]
  | .CRS_RST_CMD => [⟨0x130004, 0, []⟩]
  | .CRS_SUP_CTL => [⟨0x130008, 0, []⟩]
  | .CRS_SUP_STS => [⟨0x13000C, 0, []⟩]
  | .CRS_RAIL_LO => [⟨0x130100, 0, [(8, 0x10, 1)]⟩]
  | .CRS_RAIL_HI => [⟨0x130104, 0, [(8, 0x10, 1)]⟩]
  | .CRS_RAIL_NOW => [⟨0x130108, 0, [(8, 0x10, 1)]⟩]
  | .KPR_STS => [⟨0x140000, 0, []⟩]
  | .KPR_RST_CAUSE => [⟨0x140004, 0, []⟩]
  | .KPR_PD_STS => [⟨0x140008, 0, []⟩]
  | .KPR_AON => [⟨0x14000C, 0, []⟩]
  | .KPR_RET_STS => [⟨0x140010, 0, []⟩]
  | .CHIP_CES_SUM => [⟨0x150400, 0, [(5, 0x4, 1)]⟩]
  | .CHIP_RGN_STS => [⟨0x150420, 0, []⟩]
  | .CHIP_RGN_CAUSE => [⟨0x150430, 0, [(4, 0x4, 1)]⟩]
  | .ARC_CTL => [⟨0x1C00000, 0, [(4, 0x1000000, 1)]⟩, ⟨0x160000, 4, []⟩]
  | .ARC_FRZ => [⟨0x1C00004, 0, [(4, 0x1000000, 1)]⟩, ⟨0x160004, 4, []⟩]
  | .ARC_FRZ_LOSS => [⟨0x1C00008, 0, [(4, 0x1000000, 1)]⟩, ⟨0x160008, 4, []⟩]
  | .ARC_REC => [⟨0x1C0000C, 0, [(4, 0x1000000, 1)]⟩, ⟨0x16000C, 4, []⟩]
  | .ARC_HIST => [⟨0x1C00010, 0, [(4, 0x1000000, 1)]⟩, ⟨0x160010, 4, []⟩]
  | .ARC_LOST => [⟨0x1C00014, 0, [(4, 0x1000000, 1)]⟩, ⟨0x160014, 4, []⟩]
  | .ARC_WIN_SEL => [⟨0x160100, 0, []⟩]
  | .ARC_WEAR_CMD => [⟨0x160110, 0, []⟩]
  | .ARC_WEAR_LO => [⟨0x160114, 0, []⟩]
  | .ARC_WEAR_HI => [⟨0x160118, 0, []⟩]
  | .ARC_CODE_CFG => [⟨0x180000, 0, [(4096, 0x4, 1)]⟩]
  | .PMC_CFG => [⟨0x1D00000, 0, [(4, 0x1000000, 672), (672, 0x10, 1)]⟩, ⟨0x170000, 2688, [(128, 0x10, 1)]⟩]
  | .PMC_CNT_LO => [⟨0x1D00004, 0, [(4, 0x1000000, 672), (672, 0x10, 1)]⟩, ⟨0x170004, 2688, [(128, 0x10, 1)]⟩]
  | .PMC_CNT_HI => [⟨0x1D00008, 0, [(4, 0x1000000, 672), (672, 0x10, 1)]⟩, ⟨0x170008, 2688, [(128, 0x10, 1)]⟩]
  | .PMC_SNAP_CTL => [⟨0x170800, 0, []⟩]
  | .PMC_SNAP_STS => [⟨0x170804, 0, []⟩]
  | .PMC_SNAP_MISS => [⟨0x170808, 0, []⟩]

/-- All register names, in the order of R515. -/
def Reg.all : List Reg :=
  [.CHIP_IDENT, .BND_SREC_D, .BND_SREC_CMD, .BND_GRP_D, .BND_GRP_CMD, .BND_RULE_D, .BND_RULE_CMD, .BND_BAR_CMD,
   .BND_BAR_STS, .BND_FAULT_LO, .BND_FAULT_HI, .BND_FAULT_INFO, .BND_RSH_CTL, .BND_RSH_STS, .CAT_CTL, .CAT_TXN_TMO,
   .CAT_LOSS_HOLD, .CAT_ENT_CMD, .CAT_ENT_ADDR_LO, .CAT_ENT_ADDR_HI, .CAT_ENT_D0, .CAT_ENT_D1, .CAT_LD_OCC, .CAT_CHAIN_STS,
   .CAT_RCL_CMD, .CAT_RCL_ARG, .CAT_RCL_STS, .CAT_DDP_STS, .CAT_DEAD_STS, .CAT_HOLD_STS, .CAT_PLG_CMD, .CAT_PLG_D,
   .CAT_DROP_STS, .CAT_TMR_STS, .GRN_CTL, .GRN_DCAP, .GRN_SCRUB, .GRN_FLUSH_CMD, .GRN_FLUSH_STS, .GRN_ECC_STS,
   .GRN_ECC_ADDR, .GRN_REPAIR_STS, .GRN_CLASS, .GRN_CRL_QUOTA, .SWC_VOQ_LOCK, .SWC_SPN_CTL, .SWC_SPN_STS, .SWC_RT_D,
   .SWC_RT_CMD, .SWC_RT_BAR, .SWC_OVF_STS, .SWC_DOWN_DROP, .SWC_RSQ_STS, .SWC_RSQ_HOLE, .SWC_VOQ_LIM, .SWC_VOQ_OCC,
   .SWC_GLN_CTL, .SWC_GLN_N, .SWC_GLN_Q, .SWC_GLN_STS, .SWC_GLN_NQ, .TFC_TIME_CTL, .TFC_TIME_LO, .TFC_TIME_HI,
   .TFC_TIME_STS, .TFC_HIST_CTL, .TFC_SHP_CFG, .TFC_SHP_STS, .TFC_POL_CFG, .TFC_POL_ATT, .TFC_POL_CHAFF, .TFC_POL_STS,
   .TFC_GATE_CTL, .TFC_GATE_BASE_LO, .TFC_GATE_BASE_HI, .TFC_GATE_CUR, .TFC_GATE_DUR, .TFC_GATE_MASK, .PRT_LOCK, .PRT_PORT_CTL,
   .PRT_PORT_STS, .PRT_PORT_EVT, .PRT_DN_TMR, .PRT_LANE_CTL, .PRT_LANE_STS, .PRT_LANE_ERR, .PRT_PAT_CTL, .PRT_PAT_USR_LO,
   .PRT_PAT_USR_HI, .PRT_PAT_CNT_LO, .PRT_PAT_CNT_HI, .LNK_CTL, .LNK_STS, .LNK_ERR, .LNK_IDE_STS, .ZWL_CTL,
   .ZWL_STS, .ZWL_ERR, .ZWL_RPL, .ZWL_PEER, .QMG_CTX_D, .QMG_CTX_CMD, .QMG_DB_LO, .QMG_DB_HI,
   .QMG_CACHE_STS, .QMG_ERR_CAP, .QMG_WIN_DATA_LO, .QMG_WIN_DATA_HI, .QMG_WIN_STS, .QMG_WIN_OP, .QMG_WIN_LOST, .QMG_WIN_PROD,
   .QMG_WIN_CONS, .QMG_WIN_RD, .DMV_LOCK, .DMV_CH_CTL, .DMV_CH_STS, .DMV_CH_CMD, .DMV_CH_PROG, .DMV_SHD_CTL,
   .DMV_SHD_D, .DMV_CH_RING, .CRL_CFG, .CRL_TPL, .CRL_CHAN_LO, .CRL_CHAN_HI, .CRL_SLOT, .CRL_CMD,
   .CRL_ADDR_LO, .CRL_ADDR_HI, .CRL_ARG0, .CRL_ARG1, .CRL_CMD_STS, .CHIP_CHG_SUM, .LIB_CORE_STS, .LIB_MPU_BAR,
   .LIB_MPU_BASE, .LIB_MPU_LIMIT, .LIB_MBX_CTL, .LIB_MBX_CMD, .LIB_MBX_STS, .TIL_LOCK, .TIL_CTL, .TIL_STS,
   .TIL_EVT, .TIL_ARG, .TIL_FADDR, .TIL_T, .SEC_LC_STS, .SEC_BOOT_STS, .SEC_BOOT_FAIL, .SEC_RB_CMD,
   .SEC_NONCE_LO, .SEC_NONCE_HI, .SEC_TOKEN_CMD, .SEC_DBG_STS, .SEC_MEAS_IDX, .SEC_TOKEN_D, .SEC_MEAS_D, .SPW_LOCK,
   .SPW_BUS_CTL, .SPW_BUS_STS, .SPW_CFG0, .SPW_CFG1, .SPW_CFG2, .SPW_CAL0, .SPW_CAL1, .SPW_CMD,
   .SPW_STS, .SPW_MEAS0, .SPW_MEAS1, .SPW_TRIP, .SPW_SOA_AMB, .SPW_SOA, .CRS_CLK_STS, .CRS_RST_CMD,
   .CRS_SUP_CTL, .CRS_SUP_STS, .CRS_RAIL_LO, .CRS_RAIL_HI, .CRS_RAIL_NOW, .KPR_STS, .KPR_RST_CAUSE, .KPR_PD_STS,
   .KPR_AON, .KPR_RET_STS, .CHIP_CES_SUM, .CHIP_RGN_STS, .CHIP_RGN_CAUSE, .ARC_CTL, .ARC_FRZ, .ARC_FRZ_LOSS,
   .ARC_REC, .ARC_HIST, .ARC_LOST, .ARC_WIN_SEL, .ARC_WEAR_CMD, .ARC_WEAR_LO, .ARC_WEAR_HI, .ARC_CODE_CFG,
   .PMC_CFG, .PMC_CNT_LO, .PMC_CNT_HI, .PMC_SNAP_CTL, .PMC_SNAP_STS, .PMC_SNAP_MISS]

end Sys2Proof.Machine
end

