-- ==== Sys2Proof/Machine/Tab.lean ====
section
/-! DEFINITION. Sparse tables by key, in one canonical form: keys strictly rising, and no entry equal to what an
unlisted key reads as (the default given with each access). -/
namespace Sys2Proof.Machine

/-- A sparse table: an unlisted key reads as the default that the reader names. -/
abbrev Tab (α : Type) := List (Nat × α)

namespace Tab

/-- The listed entry of a key. -/
def find {α : Type} : Tab α → Nat → Option α
  | [], _ => none
  | (k', v) :: t, k => if k = k' then some v else find t k

/-- The value of a key, the default d where the key is unlisted. -/
def get {α : Type} (d : α) (t : Tab α) (k : Nat) : α := (find t k).getD d

/-- The table with one listed entry set, in key order. -/
def insert {α : Type} : Tab α → Nat → α → Tab α
  | [], k, v => [(k, v)]
  | (k', v') :: t, k, v =>
    if k < k' then (k, v) :: (k', v') :: t
    else if k = k' then (k, v) :: t
    else (k', v') :: insert t k v

/-- The table without a key. -/
def erase {α : Type} (t : Tab α) (k : Nat) : Tab α := t.filter (fun e => e.1 ≠ k)

/-- Set a key's value: writing the default removes the entry. -/
def put {α : Type} [DecidableEq α] (d : α) (t : Tab α) (k : Nat) (v : α) : Tab α :=
  if v = d then erase t k else insert t k v

/-- Keys strictly rising. -/
def sorted {α : Type} : Tab α → Bool
  | [] => true
  | [_] => true
  | (k, _) :: (k', v') :: t => decide (k < k') && sorted ((k', v') :: t)

/-- The canonical form: keys strictly rising and no entry equal to the default. -/
def wf {α : Type} [DecidableEq α] (d : α) (t : Tab α) : Bool :=
  sorted t && t.all (fun e => decide (e.2 ≠ d))

/-- How many entries satisfy a predicate on key and value. -/
def countIf {α : Type} (t : Tab α) (p : Nat → α → Bool) : Nat := (t.filter (fun e => p e.1 e.2)).length

/-- Change every listed entry, keeping the canonical form by removing those that become the default. -/
def mapListed {α : Type} [DecidableEq α] (d : α) (t : Tab α) (f : Nat → α → α) : Tab α :=
  (t.map (fun e => (e.1, f e.1 e.2))).filter (fun e => decide (e.2 ≠ d))

end Tab
end Sys2Proof.Machine
end

