-- ==== Sys2Proof/Machine/State.lean ====
section
/-! DEFINITION. The state of the KZ64 as plain data: every register word, table, queue, buffer, counter and pin that the
spec names, and the queue of waiting commands; the reasons a step can stop; and the state after reset. -/
namespace Sys2Proof.Machine

/-- One common error set (R459): STS, MASK, ROUTE, FIRST, TIME and COUNT; the SEV words are fixed (R461).
`window` is 1 within 1 µs of the set's last MSI-X message, and `merge` when an event waits for its end (R463). -/
structure CesSet where
  sts    : Word := 0
  mask   : Word := 0
  route  : Word := 3
  first  : Word := 0
  time   : Word := 0
  count  : Word := 0
  window : Bool := false
  merge  : Bool := false
deriving DecidableEq, Repr

/-- Snoops of R101, as BISnp to hosts and H2D snoops to device caches (R121). -/
inductive SnpKind where
  | data | inv | cur
deriving DecidableEq, Repr

/-- A message that leaves the chip's pins, or is delivered to a Librarian core, a tiller or a host (model's own record of
what the outside sees). -/
inductive Msg where
  /-- A read response or grant (R101, R102). -/
  | grant (agent : Agent) (tag : BitVec 16) (g : GrantKind) (d : Option LineData)
  /-- A completion without data. -/
  | complete (agent : Agent) (tag : BitVec 16)
  /-- A BISnp or H2D snoop of a line (R101). -/
  | snoop (agent : Agent) (k : SnpKind) (line : Nat)
  /-- BIConflictAck (R137). -/
  | conflictAck (agent : Agent) (tag : BitVec 16)
  /-- A read of a line of a pool device: port, logical device and device address (R51, R168). -/
  | poolRead (port : Nat) (ld : Nat) (addr : Nat)
  /-- A write of a line to a pool device (R172). -/
  | poolWrite (port : Nat) (ld : Nat) (addr : Nat) (d : LineData)
  /-- An MSI-X message of the management endpoint or of a carrel endpoint function (R463, R311). -/
  | msix (function : Nat) (vector : Nat)
  /-- The interrupt of a queue context that the Librarian owns (R302, R311). -/
  | libIrq (region : Nat) (vector : Nat)
  /-- An I3C in-band interrupt with its data byte (R375). -/
  | ibi (byte : Nat)
  /-- An interrupt event of a common error set, delivered to a Librarian core (R464). -/
  | coreIrq (region : Nat) (set : Nat) (bit : Nat)
  /-- A write to host memory: port, PASID, address and bytes (R310, R313). -/
  | hostWrite (port : Nat) (pasid : Nat) (addr : Nat) (bytes : List Byte)
  /-- A read of host memory (R547). -/
  | hostRead (port : Nat) (pasid : Nat) (addr : Nat) (len : Nat)
  /-- An event of a host's dynamic-capacity event log: 0 add, 1 release, 2 forced release, which is reported to the
  fabric manager as of port 64 + p (R66, R470). -/
  | dcdEvent (port : Nat) (kind : Nat) (shelf : Nat) (count : Nat)
  /-- A CXL.io completion with a status: 0 successful, 1 Unsupported Request, 2 Configuration Request Retry Status. -/
  | ioCompletion (agent : Agent) (tag : BitVec 16) (status : Nat)
  /-- A cell leaving an output port: output, source index, class, and its bytes (R221). -/
  | cell (port : Nat) (source : Nat) (tc : Nat) (data : Nat)
  /-- A Zwius unit: link, kind and two arguments. Kinds 0x01 to 0x06 are the control units of R284; 0x10 is a DATA unit sent
  and 0x11 one sent again, 0x12 an IDLE unit with a given number, 0x13 an INIT unit. -/
  | zwl (z : Nat) (kind : Nat) (a : Nat) (b : Nat)
  /-- A 64-byte block on a Zwius link: its type, 1 FLOW or 2 CTRL, and its bytes (R278). -/
  | block (z : Nat) (type : Nat) (bytes : List Byte)
  /-- A CXL or PCIe link message: 0 an acknowledgement, 1 a selective and 2 a standard NAK, 3 a returned credit of a
  channel, 4 a flit sent and 5 a flit sent again, by number (R267, R270, R271), 6 the
  key sets under which the latter was and is sent (R274). -/
  | link (port : Nat) (kind : Nat) (a : Nat)
  /-- A response to a command: endpoint (0–63 the carrel endpoint functions, 64 the management endpoint, 65 MCTP over PCIe,
  66 MCTP over I3C, 128 + p the virtual DCD of port p), opcode, return code and payload. Return codes are those of R371; for
  the FM API 1 stands for Invalid Input (R368, R373). -/
  | response (endpoint : Nat) (opcode : Nat) (code : Nat) (payload : List Nat)
  /-- A value returned to a register read by a path (R503). -/
  | readData (p : Path) (data : Word)
  /-- The same delivered with poison (R317). -/
  | readPoison (p : Path) (data : Word)
  /-- A register read answered with Unsupported Request before the machine is ready (R382). -/
  | readRefused (p : Path)
  /-- An I3C reply of five bytes (R510), or a NACK. -/
  | i3cReply (data : Word) (status : Nat)
  | i3cNack
  /-- A PTM request, or a Zwius time request, sent (R232). -/
  | timeRequest (port : Nat)
  /-- A lane, pattern or sideband action at a port: 0 a new detect interval (R245), 1 an L0p request, 2 an L0p answer (R256),
  3 one bit and 4 a burst of bits inverted (R258), 5 a margining answer (R248), 6 the spare carries or leaves a lane (R297). -/
  | lane (port : Nat) (action : Nat) (arg : Nat)
  /-- A data mover's read of len bytes, or its write (R328, R330): channel, space (0 host, 1 pool, 2 device), port, PASID or
  logical device, and address; for a write its bytes, poison, HINT and ST (R327). -/
  | dmvRead (chan space port sub addr len : Nat)
  | dmvWrite (chan space port sub addr : Nat) (bytes : List Byte) (poison : Bool) (hint st : Nat)
  /-- A request that the FM API passes on (R373): port, logical device (or vPPB), kind and contents. Kinds: 0 a tunnelled command,
  1 a configuration and 2 a memory request to a logical device, 3 a configuration request to a port's PPB, 4 an AER event to a host. -/
  | forward (port ld kind : Nat) (contents : List Nat)
  /-- A page that a switch-over copies: source port, logical device and address, and those of the target (R84). -/
  | pageCopy (port ld addr port2 ld2 addr2 : Nat)
  /-- A request sent again over a Zwius link with its REPEAT flag (R153): whether it is a write, and its data. -/
  | repeat_ (z : Nat) (agent : Agent) (tag : BitVec 16) (addr : FAddr) (write : Bool) (d : Option LineData)
  /-- An answer of the JTAG port (R409, R410). -/
  | jtag (kind : Nat) (value : Nat)
deriving DecidableEq, Repr

/-- The per-path latches of R507: the upper halves of TFC_TIME, PMC_CNT and PRT_PAT_CNT, the QMG_WIN word, and ARC_WIN_SEL. -/
structure PathLatch where
  timeHi : Word := 0
  pmcHi  : Word := 0
  patHi  : Word := 0
  nonceHi : Word := 0
  winHi  : Word := 0
  winQid : Option Nat := none
  winSel : Word := 0
deriving DecidableEq, Repr

/-- The latches of the four paths. -/
structure Latches where
  librarian : PathLatch := {}
  manager   : PathLatch := {}
  i3c       : PathLatch := {}
  debug     : PathLatch := {}
deriving DecidableEq, Repr

/-- Request kinds at the home (R91). -/
inductive ReqKind where
  | rdShared | rdOwn | rdCur | ownNodata | cleanEvict | wb | wr
deriving DecidableEq, Repr

/-- A request to a line: its kind, its access, and for writes the data, the byte enables and the writeback's meta-data. Once it
has passed its lookup it keeps the record it matched, its ticket (plus 1, 0 before the lookup), and the number of group
writes that its region had then seen (R59, R67, R69). `seen` says that it had reached the home before its agent could become dead
(R130). -/
structure Request where
  kind : ReqKind
  a    : Access
  d    : LineData := ⟨0, false⟩
  be   : BitVec 64 := 0
  m    : WbMeta := .i
  srec : BitVec 128 := 0
  ticket : Nat := 0
  grpSeq : Nat := 0
  seen   : Bool := false
deriving DecidableEq, Repr

/-- A barrier slot (R69, R79): its kind and scope, the requests it still waits for, by ticket and shelf, and the record writes
and binds made before it started that lie in its scope (R66, R71). -/
structure BarSlot where
  busy  : Bool := false
  kind  : Nat := 0
  all   : Bool := false
  shelf : Nat := 0
  waits : List (Nat × Nat) := []
  covers : List (Nat × Nat) := []
  coversAll : List Nat := []
deriving DecidableEq, Repr

/-- A re-shelving slot (R81): its shelf, whether a switch-over stalls it, and the lookups it holds (R84). -/
structure RshSlot where
  active : Bool := false
  shelf  : Nat := 0
  stall  : Bool := false
  held   : List Request := []
deriving DecidableEq, Repr

/-- An Add Capacity event posted to a host and not yet answered (R66): the shelves, and the request to report to. -/
structure AddPend where
  port   : Nat
  shelf  : Nat
  count  : Nat
  tag    : Nat
  handle : Nat
deriving DecidableEq, Repr

/-- The binding block (chapter Shelves, Binding and Access Rules). -/
structure BndState where
  /-- Shelf records by shelf number (R54); an unlisted record is FREE with EPOCH 0 (R56). -/
  shelf  : Tab (BitVec 128) := []
  /-- Binding groups, 4096r + g: each region's own copy (R62). -/
  group  : Tab (BitVec 256) := []
  /-- How often region r's copy of a group was written (R69). -/
  grpSeq : Tab Nat := []
  /-- The group write in progress through region r: group + 1 and the new bitmap (R63). -/
  grpPend : Tab (Nat × BitVec 256) := []
  /-- Access rules, 4096r + slot (R76). -/
  rule   : Tab (BitVec 128) := []
  /-- Barrier slots, 16r + k (R69). -/
  bar    : Tab BarSlot := []
  /-- Re-shelving slots, 16r + i (R81). -/
  rsh    : Tab RshSlot := []
  /-- The next ticket of a request that passes its lookup (R67, R69). -/
  ticket : Nat := 0
  /-- Device Serial Numbers of the pool devices enumerated, by port (R384). -/
  serial : Tab (Option (BitVec 64)) := []
  /-- Add Capacity events posted and not answered, oldest first (R66). -/
  adds   : List AddPend := []
  /-- CXL sharing tags of shelves (R53, R66). -/
  tag    : Tab Nat := []
  /-- Record writes that no binding barrier begun later has covered yet: shelf and epoch (R68, R71). -/
  owed   : List (Nat × Nat) := []
  /-- Shelves bound, or given a further host by a group write, that no barrier with scope ALL has covered yet (R66). -/
  owedAll : List Nat := []
  /-- Adds whose event waits for that barrier (R66). -/
  addWait : List AddPend := []
  /-- Shelves of an add that was not accepted, by host, tag and shelf, that firmware has still to release (R66, R68). -/
  toRelease : List (Nat × Nat × Nat) := []
  /-- Shelves that firmware wrote RELEASING for such an add (R66). -/
  taken  : List Nat := []
  /-- Barrier slots that firmware started for R66 and R71 by itself, by region and slot. -/
  fwBar  : List (Nat × Nat) := []
  /-- Failed sanitize attempts of a shelf (R74). -/
  sanit  : Tab Nat := []
  /-- Device shelves withheld after a failed sanitize: port, logical device and device shelf (R74). -/
  withheld : List (Nat × Nat × Nat) := []
deriving DecidableEq, Repr

/-- What a tracker does: serve a request, evict a directory entry (R109), or await the answer to a request sent to another unit
(R144). -/
inductive TrkPurpose where
  | request (q : Request)
  | evict
  | remote (agent : Agent) (tag : BitVec 16)
deriving DecidableEq, Repr

/-- Where a tracker stands: waiting at the bank for a Catalogue fill or for a way of its set (R99, R109, R110), waiting in the
conflict chain of its line (R113), at work with snoop responses awaited or not, awaiting Granary data (R104), a pool fill
or a pool write (R168, R169), waiting for room in a write-back buffer before a read or a write (R172), or awaiting another unit. -/
inductive TrkPhase where
  | fill | way | chain | work | data | pool | poolWrite | readRoom | writeRoom | remote
deriving DecidableEq, Repr

/-- A Loan desk tracker (R111): the line; the entry as it stood when its snoops were sent; the responses awaited, with the
snoop each answers, and those given; agents whose eviction was taken (R136), requests named in BIConflicts and not yet
arrived (R137, R138), and requests taken; the writeback taken (R115); the data held (R104, R168); the reason of poison
that is delivered and not stored (R141); whether its write has been stored; its conflict chain (R113); and whether its
timer's pause reached the cap (R145). -/
structure Tracker where
  purpose : TrkPurpose
  line    : Nat
  phase   : TrkPhase
  entry   : BitVec 64 := 0
  await   : List (Nat × SnpKind) := []
  answers : List (Nat × SnpRsp) := []
  gone    : List Nat := []
  named   : List (Nat × BitVec 16) := []
  took    : List (Nat × BitVec 16) := []
  taken   : Option LineData := none
  held    : Option LineData := none
  reason  : Nat := 0
  stored  : Bool := false
  wrote   : Bool := false
  chain   : List Nat := []
  capped  : Bool := false
deriving DecidableEq, Repr

/-- A cached backing set (R98): sixteen entries, their order of use (most recent first), and whether the cache modified it. -/
structure CatSet where
  ways     : List (BitVec 64)
  lru      : List Nat
  modified : Bool
deriving DecidableEq, Repr

/-- The scope of a death (R128). -/
inductive DeadScope where
  | all
  | group (g : Nat)
  | shelf (x : Nat)
deriving DecidableEq, Repr

/-- An agent in the dead set: its scope and the regions whose walk has not yet covered it (R128, R135). -/
structure DeadEntry where
  scope : DeadScope
  left  : List Nat
deriving DecidableEq, Repr

/-- A region's reclaim walk (R132): whether it runs and the next set it comes to. -/
structure Walk where
  running  : Bool := false
  pos      : Nat := 0
deriving DecidableEq, Repr

/-- A dedupe entry (R122): region, agent, tag, epoch and shelf, whether the write has completed, whether a repeat waits for
the stored completion (R154), and the place of its completion among those that have left (R122). -/
structure DdpEntry where
  region : Nat
  agent  : Agent
  tag    : BitVec 16
  epoch  : Nat
  shelf  : Nat
  done   : Bool
  again  : Bool := false
  fin    : Nat := 0
deriving DecidableEq, Repr

/-- A request sent over a Zwius link toward another unit and not yet answered (R153), and whether it was sent again. -/
structure ZReq where
  z     : Nat
  q     : ReqOut
  rep   : Bool
deriving DecidableEq, Repr

/-- The Catalogue, the Loan desk and recovery (chapters Coherence Home and Coherence Races). -/
structure CatState where
  /-- Cached backing sets, 2^26 r + index (R98). -/
  cache  : Tab (Option CatSet) := []
  /-- The cached sets of each cache set, most recently used first, 2^14 r + index[13:0] (R98). -/
  lru    : Tab (List Nat) := []
  /-- Backing sets whose fill is in flight: 2^26 r + index, and the trackers that wait (R99). -/
  fills  : List (Nat × List Nat) := []
  /-- Trackers, 8192r + t (R111). -/
  trk    : Tab (Option Tracker) := []
  /-- Requests waiting in their VOQs for a tracker, in arrival order (R111). -/
  voq    : List (Nat × Request) := []
  /-- Requests refused from a full chain, waiting for the retry delay (R114). -/
  retry  : List (Nat × Request) := []
  /-- The line + 1 of the last request served, by 2^16 agent + tag, until the tag is used again (R137). -/
  served : Tab Nat := []
  /-- Presence filters, 1024r + agent (R131). -/
  filter : Tab (BitVec 1024) := []
  /-- The dead set by agent (R128), the same in every region. -/
  dead   : Tab (Option DeadEntry) := []
  /-- Agents made dead and not yet entered in the dead sets (R127), and second scoped deaths that wait (R128). -/
  dying  : List (Nat × DeadScope) := []
  deadWait : List (Nat × DeadScope) := []
  /-- Reclaim walks by region (R132). -/
  walk   : Tab Walk := []
  /-- The dedupe table, oldest first (R122), and writes that wait for room (R124). -/
  ddp    : List DdpEntry := []
  ddpWait : List (Nat × Request) := []
  /-- Device Serial Numbers recorded at bind, by port (R150). -/
  serial : Tab (BitVec 64) := []
  /-- Requests outstanding over Zwius links (R153) and the tags whose first response was delivered (R155). -/
  zreq   : List ZReq := []
  /-- Peer units reachable through each Zwius link, z ↦ unit + 1 (R153), and the unit that each link last reached. -/
  peer   : Tab Nat := []
  lastPeer : Tab Nat := []
  /-- The source region that each bank's round-robin pointer favours, 16r + bank (R112). -/
  rr     : Tab Nat := []
  /-- Agents of cache index 1 to 3 that have presented a request (R107). -/
  indices : List Nat := []
  /-- Released coherent shelves whose holders are still being back-invalidated (R72). -/
  inval  : List Nat := []
  /-- Completions of dedupe entries that have left (R122). -/
  ddpSeq : Nat := 0
deriving DecidableEq, Repr

/-- A Granary way (R164, Table: Way entry payload). The all-zero entry is an empty way. -/
structure Way where
  tag    : Nat := 0
  valid  : Bool := false
  svalid : BitVec 4 := 0
  dirty  : BitVec 4 := 0
  gclass : Nat := 0
  hinted : Bool := false
  pinned : Bool := false
  age    : Nat := 0
  carrelV : Bool := false
  carrel : Nat := 0
deriving DecidableEq, Repr

/-- A write-back buffer entry (R172): the HBM controller, the block, its valid and dirty sectors with their data, and whether its
writes have been issued. -/
structure WbEntry where
  ctrl   : Nat
  block  : Nat
  valid  : BitVec 4
  dirty  : BitVec 4
  data   : List LineData
  issued : Bool
deriving DecidableEq, Repr

/-- A write sent to a pool device and not completed (R169, R170, R172, R174): from a write-back buffer; from a way that stays in
the Granary, at the dirty limit or as a cleaning; straight from a tracker; or from a way whose sector has since been
written again. -/
inductive WrFrom where
  | buffer | through | way | tracker (t : Nat) | stale
deriving DecidableEq, Repr

/-- One such write: home region, line, pool port, and where it came from. -/
structure PoolWr where
  region : Nat
  line   : Nat
  port   : Nat
  from_  : WrFrom
  /-- The data of a write that a switch-over of its shelf still holds (R84). -/
  held   : Option LineData := none
deriving DecidableEq, Repr

/-- A flush walk (R174, R176): its operation, shelf and position, the blocks written and the ports skipped. -/
structure Flush where
  running : Bool := false
  op      : Nat := 0
  shelf   : Nat := 0
  pos     : Nat := 0
  written : Nat := 0
  skipped : List Nat := []
  power   : Bool := false
deriving DecidableEq, Repr

/-- A tag sector in a tag cache (R165): its cache tag, and for a modified sector the entries that its side-band column still holds. -/
structure TagSector where
  tag      : Nat
  modified : Bool := false
  side     : List Way := []
deriving DecidableEq, Repr

/-- The Granary and the HBM controllers (chapter Granary and HBM). -/
structure GrnState where
  /-- Ways, 4 (2^25 r + g) + w (R162). -/
  ways   : Tab Way := []
  /-- Write-back buffers, in arrival order (R172). -/
  wbuf   : List WbEntry := []
  /-- Retired sets, 2^25 r + g (R180). -/
  retired : List Nat := []
  /-- Flush walks by region (R174). -/
  flush  : Tab Flush := []
  /-- Patrol position, by stack 0–7: the next column, side-band included (R178). -/
  patrol : Tab Nat := []
  /-- Corrected-error times of each row, 2^24 stack + row (R179). -/
  rowErr : Tab (List Nat) := []
  /-- Rows in soft repair or waiting for it, the one in the row buffer first, by stack (R179). -/
  repair : Tab (List Nat) := []
  /-- The OTP repair log: stack and row, and whether the hard repair is marked (R179). -/
  otpLog : List (Nat × Nat × Bool) := []
  /-- Read hits and misses of each Granary class since the last sample, 8r + class (R484). -/
  band : Tab (Nat × Nat) := []
  /-- The number of the key pair loaded at this start, 0 before one is loaded (R161). -/
  key    : Nat := 0
  /-- Poisoned HBM columns: the POISON bit of the check word, by column address div 64 (R160). -/
  poison : Tab Bool := []
  /-- Writes sent to pool devices and not completed, oldest first. -/
  writes : List PoolWr := []
  /-- Tag sectors in the tag cache, most recently used first, by 4,096 stack + set (R165). -/
  tags : Tab (List TagSector) := []
  /-- Controllers whose buffer has room again, for what waits on it (R172). -/
  roomed : List Nat := []
  /-- Poisoned lines that wait for room in a buffer before they are stored (R172). -/
  waitPut : List (Nat × LineData) := []
deriving DecidableEq, Repr

/-- A cell of the switch core with its switch tag (R184): source index, output port, destination on the peer unit for a
Zwius output (R280), class, sequence number, the region and epoch of its routing lookup (R212), GAP, the credits its
messages need at the egress link by channel (R221, R268), its bytes, and for a cell whose delay is sampled when it was admitted (R238). -/
structure Cell where
  source : Nat
  out    : Nat
  dest   : Nat := 0
  tc     : Nat
  seq    : Nat := 0
  epoch  : Option (Nat × Nat) := none
  gap    : Bool := false
  need   : List Nat := []
  data   : List Byte := []
  born   : Option Nat := none
  /-- The pool requests that it carries to another unit (R153): each with whether it writes, and its data. -/
  reqs   : List ReqOut := []
  /-- What a cell of an internal source carries (R185). -/
  msg    : List Msg := []
  /-- When it entered its region's scheduler, in ns (R34). -/
  since  : Nat := 0
  /-- What the check of the VOQ's SRAM finds when it is read (R218). -/
  ecc    : EccRead := .good
  /-- Its place in the overflow area of its input port (R193). -/
  slot   : Nat := 0
  /-- The logical device on the DN port that its routing entry names (R211). -/
  ld     : Nat := 0
  /-- The receive ring that a slip cell is for (R224, R227). -/
  slip   : Option Nat := none
  /-- The sample that a Gleaner cell carries: selector, queue, and whether the queue is the capture queue (R216). -/
  item   : Option (Nat × Nat × Bool) := none
  /-- The key sets under which its flit was first sent: link IDE, plus twice CXL.cachemem IDE (R274). -/
  kset   : Nat := 0
deriving DecidableEq, Repr

/-- The switch core (chapter Switch Core). A VOQ's key is 512 port + 8 output + class; a flow's is
1024 source + 8 output + class; an ordered pair of regions a to b is 4a + b, and its path k is 2 (4a + b) + k. -/
structure SwcState where
  /-- VOQs: cells in SRAM, then cells in HBM (R187, R194). -/
  voq    : Tab (List Cell) := []
  ovf    : Tab (List Cell) := []
  /-- Cells received at an input port whose class has no room for them; their credits are withheld (R191). -/
  held   : Tab (List Cell) := []
  /-- Cells matched in the last slot, which cross in the next (R196). -/
  cross  : List Cell := []
  /-- Output's last granted input + 1, and input's last accepted output + 1 (R196). -/
  grant  : Tab Nat := []
  accept : Tab Nat := []
  /-- Cells granted for another region and waiting for a spine path, by pair (R197). -/
  spine  : Tab (List Cell) := []
  /-- Cells of a failed path to be sent again, by pair (R208). -/
  resend : Tab (List Cell) := []
  /-- Replay buffers by path, with the mark of a cell sent again under R208 (R201). -/
  replay : Tab (List (Cell × Bool)) := []
  /-- What is on its way on a path: cells and EXIT marks, oldest first (R201, R207). -/
  flight : Tab (List (Option Cell)) := []
  /-- Good arrivals on a path not yet acknowledged, cells received, and where CRC errors fell (R201). -/
  got    : Tab Nat := []
  rx     : Tab Nat := []
  crc    : Tab (List Nat) := []
  /-- Next number to send and next expected, by flow (R202, R204). -/
  txseq  : Tab Nat := []
  rxseq  : Tab Nat := []
  /-- Numbers of a flow whose cells were discarded at an output out of service, which leave no hole (R192, R205). -/
  skipped : Tab (List Nat) := []
  /-- Resequencer windows by output (R204). -/
  window : Tab (List Cell) := []
  /-- Paths whose EXIT mark has arrived, by pair (R207), and pairs whose check has ended after reset (R209). -/
  marks  : Tab (List Nat) := []
  checked : Tab Bool := []
  /-- Merge stages: 8 output + input, with input 0 the crossbar, 1 to 4 regions A to D, 5 the internal sources (R186). -/
  merge  : Tab (List Cell) := []
  /-- The input last served + 1, by 8 output + class (R222). -/
  served : Tab Nat := []
  /-- Routing entries, 2048r + e (R210). -/
  rt     : Tab (BitVec 128) := []
  /-- Gleaner selectors: matches counted, samples in all, samples lost since the last delivered, and what the last
delivered carried as LOST (R215, R217). -/
  glnCnt  : Tab Nat := []
  glnAll  : Tab Nat := []
  glnLost : Tab Nat := []
  glnSent : Tab Nat := []
deriving DecidableEq, Repr

/-- A token bucket: tokens in bytes, the fraction of a byte in four-thousandths, and when it was last filled in ns (R225, R229).
A shaper's count may fall below zero. -/
structure Bucket where
  tokens : Int := 0
  frac   : Nat := 0
  since  : Nat := 0
deriving DecidableEq, Repr

/-- Traffic control (chapter Priorities, Policing and Time Gates). -/
structure TfcState where
  /-- Policers by n = 2048r + k, and shapers by channel (R224, R229). -/
  pol    : Tab Bucket := []
  shp    : Tab Bucket := []
  /-- The BASE of each port's active bank (R234). -/
  base   : Tab Nat := []
  /-- ns of a measured offset still to be removed by rate, and the ns counted toward the next correction (R232). -/
  slew   : Int := 0
  slewNs : Nat := 0
  /-- A first result of the source has been applied (R231), and when the last result arrived (R233). -/
  first  : Bool := false
  lastAt : Nat := 0
  /-- Cells since the last delay sample, by source index (R238). -/
  delay  : Tab Nat := []
  /-- Requests since the last latency sample, by 8 port + request class, and the sampled ones that are not answered: that key, agent, tag and
  admission time in ns (R484). -/
  lat    : Tab Nat := []
  probes : List (Nat × Nat × Nat × Nat) := []
  /-- Ports whose gates are open until firmware loads a new bank (R239). -/
  gateLost : Tab Bool := []
deriving DecidableEq, Repr

/-- A spare-lane swap on a lane that the KZ64 receives (R297): the lane, how often SWAP_REQ was sent, S once answered, and
the good units since S. -/
structure Swap where
  lane  : Nat
  sent  : Nat := 1
  start : Option Nat := none
  good  : Nat := 0
deriving DecidableEq, Repr

/-- Port bring-up (chapter Lanes and Port Bring-up). -/
structure PrtState where
  /-- Consecutive failures of a speed change at one rate, 8 port + rate (R251). -/
  fails  : Tab Nat := []
  /-- Lane PLLs that have lost lock (R260). -/
  pllOff : List Nat := []
  /-- An L0p change in progress: port and the width asked for (R254, R256). -/
  l0p    : Tab Nat := []
  /-- A lane fault waiting for the L0p change in progress (R254 race). -/
  l0pNext : Tab Nat := []
  /-- The port has passed Detect after a link-down (R251, R255). -/
  detect : Tab Bool := []
  /-- Pattern error counters by lane (R259). -/
  pat    : Tab (BitVec 48) := []
  /-- Flits received by port, and by lane the places of those with a corrected symbol of the lane (R253). -/
  flits  : Tab Nat := []
  sym    : Tab (List Nat) := []
  /-- Swaps in progress by receiving port, and the lane that this end duplicates on the spare (R297). -/
  swap   : Tab (Option Swap) := []
  dup    : Tab (Option Nat) := []
deriving DecidableEq, Repr

/-- The link layer of a UP or DN port (chapter Link Layers). Flits are numbered from 0 at link initialisation. -/
structure LnkState where
  /-- Receive: the next flit to deliver, the end of what has been received, held flits, NAKs sent for each open hole, and a
  standard NAK in force (R271). -/
  next   : Nat := 0
  top    : Nat := 0
  held   : List (Nat × List LinkMsg) := []
  naks   : List (Nat × Nat) := []
  std    : Bool := false
  /-- Receive credits that the peer has spent and not got back, by channel (R268, R269). -/
  spent  : Tab Nat := []
  /-- Transmit credits held, by channel (R272). -/
  credit : Tab Nat := []
  /-- Transmit: the next flit number, the replay buffer (R270), and the flits sent again and not yet acknowledged (R145). -/
  txNext : Nat := 0
  replay : List (Nat × Cell) := []
  again  : List Nat := []
  /-- IDE key sets loaded: 4 stream + 2 direction + set (R274). -/
  keys   : Tab (BitVec 256) := []
deriving DecidableEq, Repr

/-- A flow unit that waits for the wire: its number, none for an INIT unit, whether it is sent again, and its bytes (R279, R283, R291). -/
structure ZwlUnit where
  num   : Option Nat
  again : Bool
  bytes : List Byte
deriving DecidableEq, Repr

/-- A Zwius link (chapter Link Layers). A flow's key is 8 DEST + TC. -/
structure ZwlState where
  /-- Sender: cells sent, cells queued and grants received by flow, modulo 65,536 (R286, R288). -/
  sent    : Tab Nat := []
  queued  : Tab Nat := []
  granted : Tab Nat := []
  /-- Receiver: cells arrived, requests received and grants given by flow. -/
  came    : Tab Nat := []
  wanted  : Tab Nat := []
  gave    : Tab Nat := []
  /-- Replay buffer of DATA units with the TRY of the NAK last acted on (R291, R292), a go-back under way, and the
  units sent again and not yet acknowledged (R145). -/
  replay  : List (Nat × Cell × Nat) := []
  goback  : Option Nat := none
  again   : List Nat := []
  /-- Receiver: the next unit, units held, the first unit discarded, and the open holes with TRY of the NAK last sent (R290). -/
  next    : Nat := 0
  held    : List (Nat × Option Cell) := []
  lost    : Option Nat := none
  holes   : List (Nat × Nat) := []
  /-- Units delivered since the last ACK (R289). -/
  sinceAck : Nat := 0
  /-- Bad units of the sub-windows, current first, and units received in the current one (R293). -/
  bad     : List Nat := [0]
  units   : Nat := 0
  /-- Transmitter: units that wait for the wire; the quarters left of the one being sent; control units
  that wait; and whether the last block was a CTRL block (R279). -/
  units_  : List ZwlUnit := []
  tx      : List (List Byte) := []
  ctl     : List (List Byte) := []
  ctlLast : Bool := false
  /-- When the outstanding TIME REQUEST left, and its ID (R285). -/
  t1      : Option (Nat × Nat) := none
deriving DecidableEq, Repr

/-- The link layers by port and by Zwius index. -/
structure LlState where
  lnk : Tab LnkState := []
  zwl : Tab ZwlState := []
deriving DecidableEq, Repr

/-- Who wrote an item that waits for a context (R309): a Gleaner selector, or a carrel's slip with its destination. -/
inductive Producer where
  | gleaner (n : Nat)
  | slip (k : Nat)
  | channel (c : Nat)
deriving DecidableEq, Repr

/-- An operation that waits for a context to be read from HBM (R320): a doorbell with its ingress region, a firmware command with
what was staged, or an item. -/
inductive QOp where
  | door (qid : Nat) (idx : Nat) (cons : Bool) (arm : Bool) (carrel : Option Nat) (unit : Nat)
  | cmd (r : Nat) (qid : Nat) (op : Nat) (staged : BitVec 512)
  | item (qid : Nat) (data : List Byte) (src : Producer)
deriving DecidableEq, Repr

/-- The queue manager (chapter Queue Contexts, Rings and Notice FIFOs). Contexts lie in HBM (R300). -/
structure QmgState where
  /-- Cached contexts, most recently used first, by 2048r + QID[10:0] (R320). -/
  cache : Tab (List Nat) := []
  /-- Fills in flight with the operations that wait (R320). -/
  fills : List (Nat × List QOp) := []
  /-- Host rings whose index word is due (R310). -/
  index : List Nat := []
deriving DecidableEq, Repr

/-- Where a descriptor stands. -/
inductive DmvPhase where
  | fetch | run | readback | order | wait | held
deriving DecidableEq, Repr

/-- A write cell that waits in a channel's staging (R185, R229): the offset of its burst, its address, bytes and poison, and whether
it is the last of its burst. -/
structure DmvCell where
  off    : Nat
  addr   : Nat
  bytes  : List Byte
  poison : Bool
  last   : Bool
deriving DecidableEq, Repr

/-- The descriptor that a channel performs (R324, R327): its 64 bytes, its ring-table entry and SUBMIT ring (none for a
shadow descriptor), its carrel, the bytes issued and the bursts outstanding, what came back, the bytes performed in
sequence with their running CRC, poison seen, the bytes written to its last line by their places, and whether with poison,
its first error (status, DONE_BYTES, FAULT_ADDR), whether it stops without a record (abort, freeze) or completes with CARREL_RESET
when it arrives (reset), its completion record, the ring's count at its fetch, and since when it waits on its shaper. -/
structure Active where
  desc   : BitVec 512 := 0
  ring   : Option (Nat × Nat) := none
  carrel : Option Nat := none
  phase  : DmvPhase := .fetch
  issued : Nat := 0
  out    : List (Nat × Nat × Bool) := []
  wq     : List DmvCell := []
  came   : List (Nat × List Byte) := []
  bytes  : Nat := 0
  crc    : Nat := 0
  last   : Tab Byte := []
  lastP  : Bool := false
  poison : Bool := false
  err    : Option (Nat × Nat × Nat) := none
  abort  : Bool := false
  freeze : Bool := false
  reset  : Bool := false
  record : Nat := 0
  seq    : Option Nat := none
  since  : Option Nat := none
deriving DecidableEq, Repr

/-- An in-flight descriptor of a frozen carrel (R345, Table: Migration record sections), with what the chip keeps of it beside its
record. -/
structure Inflight where
  desc  : BitVec 512
  bytes : Nat
  crc   : Nat
  chan  : Nat
  ring  : Nat × Nat
  poison : Bool := false
  last  : Tab Byte := []
  lastP : Bool := false
  seq   : Option Nat := none
deriving DecidableEq, Repr

/-- A channel: its descriptor, the ring-table entry last served + 1 (R324), and in-flight descriptors to resume first. -/
structure DmvChan where
  active : Option Active := none
  last   : Nat := 0
  resume : List (Nat × Inflight) := []
deriving DecidableEq, Repr

/-- Data movers and carrels (chapter Data Movers, Carrels and Migration). -/
structure DmvState where
  chan : Tab DmvChan := []
  /-- Carrel counters, 32k + word (R343). -/
  ctr  : Tab (BitVec 48) := []
  /-- In-flight descriptors by carrel (R345), and when its FREEZE was given. -/
  kept : Tab (List Inflight) := []
  froze : Tab Nat := []
  /-- The SAVE in progress: carrel, whether to a host, and the record's bytes (R346). -/
  saving : Option (Nat × Bool × List Byte) := none
  /-- Carrels whose FREEZE runs from CRL_CMD (R345). -/
  freezing : Option Nat := none
  /-- The carrel whose record a RESTORE reads from host memory (R346, R546). -/
  restoring : Option Nat := none
deriving DecidableEq, Repr

/-- What a tiller waits for (R363, R364): an event in a mask, a bit of a word, time, a register load into D, or room for
a store. -/
inductive TWait where
  | none
  | event (d : Nat) (mask : Nat) (limit : Nat)
  | bitAt (d : Nat) (addr : Nat) (bit : Nat) (val : Bool) (limit : Nat)
  | delay (limit : Nat)
  | load (d : Nat) (addr : Nat)
  | store (addr : Nat) (data : Nat)
deriving DecidableEq, Repr

/-- A tiller beside its registers (R362): call stack, wait, instructions run since the last wait, stores outstanding, context
words, queued hosted events with their arguments, times of recent stops, the built-in script in use, and its TIMER period
and last due time. -/
structure Tiller where
  stack  : List Nat := []
  wait   : TWait := .none
  ran    : Nat := 0
  stores : List (Nat × Nat) := []
  ctx    : Tab Nat := []
  events : List (Nat × List Nat) := []
  stops  : List Nat := []
  script0 : Bool := false
  period : Option Nat := none
  due    : Nat := 0
deriving DecidableEq, Repr

/-- Who asked for what a handler decides (R368): an FM API command, a host mailbox, or the image at start. -/
inductive Asker where
  | fm (via : Nat) (op : Nat)
  | mailbox (ep : Nat)
  | image (port : Nat)
  | dcd (port : Nat)
deriving DecidableEq, Repr

/-- An open request (R368): its handle, who asked, the host unit and port, the handler it was posted to, its deadline in ns, and
the shelves that it releases or that were written for it (R71). -/
structure OpenReq where
  handle : Nat
  asker  : Asker
  host   : Nat
  til    : Nat
  dead   : Nat
  shelves : List Nat := []
deriving DecidableEq, Repr

/-- A mailbox (R370): 0–63 the carrel endpoint functions' registers, and every mailbox's payload. -/
structure Mailbox where
  ctl     : Word := 0
  cmd     : Word := 0
  sts     : Word := 0
  payload : Tab Byte := []
deriving DecidableEq, Repr

/-- The Librarian and the tillers (chapter Librarian and Tiller Programs). -/
structure LibState where
  til  : Tab Tiller := []
  /-- Program memory, 2048t + index (R362). -/
  prog : Tab Word := []
  /-- The handler that each core runs, t + 1 (R369). -/
  running : Tab Nat := []
  /-- Replies that wait for a binding barrier and what follows it, by handle (R71, R72). -/
  heldReply : List (Nat × Nat) := []
  /-- Open requests (R368) and the handles given. -/
  opens   : List OpenReq := []
  handles : Nat := 0
  /-- Service operations BARRIER under way: tiller, region and barrier slot (R367). -/
  svcBar  : List (Nat × Nat × Nat) := []
  /-- Mailboxes of the carrel endpoint functions (0–63) and of the management endpoint (64). -/
  mbx  : Tab Mailbox := []
  /-- FM API commands waiting, oldest first (R373). -/
  fm   : List (FmVia × FmOp) := []
  /-- vPPBs bound: VCS, vPPB, port and logical device (R373). -/
  vppb : List (Nat × Nat × Nat × Nat) := []
  /-- When each core's watchdog last fired (R376). -/
  dog  : Tab (Option Nat) := []
  /-- Mailbox commands that run on after they were accepted: endpoint, opcode and carrel (R370, R372). -/
  mbxRun : List (Nat × Nat × Nat) := []
deriving DecidableEq, Repr

/-- The boot sequence and the root of trust (chapter Fabric Image, Start-up and Trust). -/
structure BootState where
  /-- Bytes of the header and sections of the tried or running slot (R388, R389), as read. -/
  image  : Flash := []
  /-- The early sections are loaded (step 5); the late sections are loaded (step 9). -/
  early  : Bool := false
  late   : Bool := false
  /-- The order in which the slots are tried, as the headers read at step 2 give it, and the slots still to be tried (R380). -/
  order  : List Nat := []
  toTry  : List Nat := []
  /-- The start sequence runs (R381). -/
  starting : Bool := false
  /-- PERST_N and WARM_RST_N as filtered (R43): true when high. -/
  perst  : Bool := false
  warm   : Bool := true
  /-- TEST_MODE was high at the last PERST_N deassertion, in FACTORY: the start holds at step 2 (R542). -/
  testHold : Bool := false
  /-- The reset whose power-down flush runs, by its KPR_RST_CAUSE code; 0 when none (R448). -/
  down   : Nat := 0
  /-- The step at which the start resumes, 0 when the chip is not held in a reset (R447). -/
  resume : Nat := 1
  /-- DN ports whose pool device was enumerated after ready (R384). -/
  enumerated : List Nat := []
  /-- VARIANT as fused (R4). -/
  variant : BitVec 4 := 0
  /-- Whether the variant fuses were read at the last deassertion of PERST_N (R4). -/
  fuseRead : Bool := true
  /-- Whether the Keeper could read the device secret then (R411). -/
  secretRead : Bool := true
  /-- The nonce last read and not yet used, and how many the Keeper has made (R406). -/
  nonce  : Option (BitVec 64) := none
  nonces : Nat := 0
  /-- OTP: the hash of the owner's key, fused by FACTORY to OWNED (R401). -/
  ownerHash : BitVec 512 := 0
  /-- A life-cycle change whose fuses are being written: the new state and the owner hash (R407). -/
  fusing : Option (Nat × BitVec 512) := none
  /-- A life-cycle fuse group left partly written: the state it stands for, the owner hash and the fuses blown (R407). -/
  fuses  : Option (Nat × BitVec 512 × Nat) := none
  /-- Open SPDM sessions (R403). -/
  spdm   : List Nat := []
  /-- The instruction in the boundary-scan register (R410). -/
  scan   : ScanOp := .idcode
deriving DecidableEq, Repr

/-- What a slot channel keeps beside its registers: µs since gate drive started, the pole states in µK and T_BASE in °C of
the thermal model (R417), µs the sense voltage has been below 95 % of THRESH (R421), the off-time of the last trip in µs
(R428), and a stop by BUS_OFF that restarts by itself (R431). -/
structure SlotChan where
  onUs   : Nat := 0
  theta  : List Int := [0, 0, 0, 0]
  tBase  : Nat := 0
  below  : Nat := 0
  offUs  : Nat := 0
  busOff : Bool := false
deriving DecidableEq, Repr

/-- Slot power (chapter Slot Power): the channels, and when the bus warning last cleared in ns (R430). -/
structure SpwState where
  chan    : Tab SlotChan := []
  cleared : Option Nat := none
deriving DecidableEq, Repr

/-- The supply monitors (R443–R445). -/
structure SupState where
  /-- Conversions in a row that read beyond a reset level, by rail (R445). -/
  beyond : Tab Nat := []
  /-- The lowest and the highest of each rail's last conversion in mV, (0, 4095) where it was bad (R444, R445). -/
  last : Tab (Option (Nat × Nat)) := []
  /-- When each rail's last warning cleared, in ns (R444). -/
  cleared : Tab (Option Nat) := []
  /-- The last die temperatures read by the Keeper, in 0.1 °C (R487). -/
  temp : Tab (BitVec 32) := []
deriving DecidableEq, Repr

/-- A retained copy asked for and not finished (R471): its area (4 is the chip area) and the header's contents. -/
structure RetPend where
  area    : Nat
  trigger : Nat
  block   : Nat
  bit     : Nat
  time    : Nat
  resets  : Nat
deriving DecidableEq, Repr

/-- The fault-pin driver and the Keeper's copies (chapter Faults and Containment). -/
structure FltState where
  /-- The code driven on (FAULT_P, FAULT_N): 0 is (0,0) released, 1 is (0,1), 2 is (1,0) (R474). -/
  pins    : Nat := 0
  /-- Retained copies in progress or waiting, in their order (R471). -/
  retPend : List RetPend := []
  /-- Blocks in self-reset, by error-set number (R41). -/
  resetting : List Nat := []
deriving DecidableEq, Repr

/-- The I3C target (R374, R375, R510, R511). -/
structure I3cState where
  /-- The dynamic address, none before its assignment. -/
  dynAddr : Option (BitVec 7) := none
  /-- ENEC has enabled in-band interrupts. -/
  enabled : Bool := false
  /-- Pending kinds of in-band interrupt: bit k stands for data byte k + 1. -/
  pend    : BitVec 3 := 0
  /-- The reply held: data and STATUS. -/
  reply   : Option (Word × Nat) := none
deriving DecidableEq, Repr

/-- A counter snapshot captured and not yet written to the ring (R494): the capture time and the counters. -/
structure Snapshot where
  time : Nat
  cnt  : Tab (BitVec 48)
  ovf  : List Nat
deriving DecidableEq, Repr

/-- The Archive and the performance counters (chapter Archive and Performance Counters). Units 0–3 are regions, 4 the
Keeper (R479). -/
structure ArcState where
  /-- Per-code COUNT and OVERFLOW, 4096u + code (R481). -/
  counts : Tab (Nat × Nat) := []
  /-- The second last counted in and the occurrences admitted in it, 4096u + code (R481). -/
  counted : Tab (Nat × Nat) := []
  /-- Record staging, oldest first (R483). -/
  stage  : Tab (List (BitVec 256)) := []
  /-- Record staging has refused a record and has not had room since (R495). -/
  overrun : Tab Bool := []
  /-- Extremes, 128u + entry: value and time (R486). -/
  ext    : Tab (Option (BitVec 32 × Nat)) := []
  /-- The wear ledger, 16 die + band, in seconds (R487). -/
  wear   : Tab Nat := []
  /-- Histogram bins (R484): key by region, kind, source, output, class and bin. -/
  bins   : Tab Nat := []
  /-- Bytes of frames in each region's histogram area (R485). -/
  histUsed : Tab Nat := []
  /-- Where the current frame's span began, and the samples lost to freeze in it (R485). -/
  spanStart : Tab Nat := []
  spanFrozen : Tab Nat := []
  /-- Performance counters (R491). -/
  cnt    : Tab (BitVec 48) := []
  /-- The capture being written (R494). -/
  snap   : Option Snapshot := none
deriving DecidableEq, Repr

/-- The state of the KZ64. -/
structure State where
  /-- The commands that wait, first in, first out. -/
  pending : List Instr := []
  /-- Register words that differ from their reset word, by `regKey` (R503, R509). -/
  regs : Tab Word := []
  /-- Common error sets (R459), by `setId`. -/
  ces : Tab CesSet := []
  /-- What left the pins, newest first. -/
  out : List Msg := []
  /-- How many free values have been taken (the model's own field, not the spec's). -/
  free : Nat := 0
  /-- CHIP_FATAL stands (R472); KPR_STS.CHIP_FATAL shows it. -/
  fatal : Bool := false
  /-- Each region's copy of fabric time in ns (R231). -/
  time : Tab Nat := []
  /-- HBM contents, byte by byte: stack n's byte address A is at 2^35 n + A (R159, R166). -/
  hbm : List Host.Cell := []
  /-- The Keeper's retained SRAM, byte by byte (R471). -/
  ret : List Host.Cell := []
  lat : Latches := {}
  boot : BootState := {}
  sup : SupState := {}
  flt : FltState := {}
  i3c : I3cState := {}
  spw : SpwState := {}
  arc : ArcState := {}
  bnd : BndState := {}
  cat : CatState := {}
  grn : GrnState := {}
  swc : SwcState := {}
  tfc : TfcState := {}
  prt : PrtState := {}
  ll  : LlState := {}
  qmg : QmgState := {}
  dmv : DmvState := {}
  lib : LibState := {}
deriving DecidableEq, Repr

/-- Why a step stops the machine. -/
inductive Fault where
  /-- Raised by no command: the spec gives every fault an effect on the state (R8). Safe. -/
  | none
deriving DecidableEq, Repr

/-- Why a command has no meaning. -/
inductive Refusal where
  /-- Raised by exec for a command that is not modelled yet. Safe. -/
  | notModelled (mnemonic : String)
deriving DecidableEq, Repr

/-- The machine right after power-on: every register at its Reset column (R509), tables empty. -/
def State.reset : State := {}

end Sys2Proof.Machine
end

