-- ==== Sys2Proof/Machine/Ops.lean ====
section
/-! DEFINITION. The named operations over the state that the meanings share: register words and fields, memory bytes and
words, free values, fabric time, the port plan, and the messages that leave the chip. -/
namespace Sys2Proof.Machine

/-- The outcome of a command. -/
abbrev Result := Host.Outcome State Fault Refusal

/-- The key of register r, instance i, in the table of register words. -/
def regKey (r : Reg) (i : Nat) : Nat := r.ctorIdx * 2 ^ 24 + i % 2 ^ 24

/-- The reset word of a register instance (R509). -/
def resetWord (r : Reg) (i : Nat) : Word := BitVec.ofNat 32 (Reg.resetNat r (i % 2 ^ 24))

/-- A register word (R503). -/
def State.word (s : State) (r : Reg) (i : Nat) : Word := Tab.get (resetWord r i) s.regs (regKey r i)

/-- Set a register word; a word equal to its reset word is unlisted. -/
def State.setWord (s : State) (r : Reg) (i : Nat) (v : Word) : State :=
  { s with regs := Tab.put (resetWord r i) s.regs (regKey r i) v }

/-- A field's value. -/
def State.get (s : State) (f : Fld) (i : Nat) : Nat := bits (s.word f.reg i) f.lo f.w

/-- Set a field, the other bits of its register kept. -/
def State.set (s : State) (f : Fld) (i v : Nat) : State :=
  s.setWord f.reg i (putBits (s.word f.reg i) f.lo f.w v)

/-- A one-bit field as a Bool. -/
def State.flag (s : State) (f : Fld) (i : Nat) : Bool := s.get f i != 0

/-- Add to a count field that saturates. -/
def State.bump (s : State) (f : Fld) (i n : Nat) : State := s.set f i (satAdd f.w (s.get f i) n)

/-- Raise a field to at least v (the PEAK fields). -/
def State.raise (s : State) (f : Fld) (i v : Nat) : State := s.set f i (min (max (s.get f i) v) (2 ^ f.w - 1))

/-- Set bits of a field. -/
def State.setBits (s : State) (f : Fld) (i m : Nat) : State := s.set f i (s.get f i ||| m)

/-- Clear bits of a field. -/
def State.clearBits (s : State) (f : Fld) (i m : Nat) : State :=
  s.set f i (s.get f i - (s.get f i &&& m))

/-- Record what leaves the chip. -/
def State.emit (s : State) (m : Msg) : State := { s with out := m :: s.out }

/-- Emit several messages, the first of the list first. -/
def State.emits (s : State) : List Msg → State
  | [] => s
  | m :: ms => (s.emit m).emits ms

/-! Memory bytes (little-endian, R11). -/

/-- A byte of a memory; an unlisted byte reads 0. -/
def peek (m : List Host.Cell) (a : Nat) : Byte := Tab.get 0 m a

/-- The memory with one byte written. -/
def poke (m : List Host.Cell) (a : Nat) (v : Byte) : List Host.Cell := Tab.put 0 m a v

/-- n bytes from a, as a number. -/
def peekN (m : List Host.Cell) (a : Nat) : Nat → Nat
  | 0 => 0
  | n + 1 => (peek m a).toNat + 256 * peekN m (a + 1) n

/-- Write the n low bytes of v at a. -/
def pokeN (m : List Host.Cell) (a : Nat) : Nat → Nat → List Host.Cell
  | 0, _ => m
  | n + 1, v => pokeN (poke m a (BitVec.ofNat 8 v)) (a + 1) n (v / 256)

/-- Write a list of bytes at a. -/
def pokes (m : List Host.Cell) (a : Nat) : List Byte → List Host.Cell
  | [] => m
  | b :: bs => pokes (poke m a b) (a + 1) bs

/-- n bytes from a, as a list. -/
def peeks (m : List Host.Cell) (a : Nat) : Nat → List Byte
  | 0 => []
  | n + 1 => peek m a :: peeks m (a + 1) n

/-- n bytes of a number, little-endian. -/
def leBytes (n v : Nat) : List Byte := (List.range n).map (fun k => BitVec.ofNat 8 (v / 256 ^ k))

/-- The number that bytes spell, little-endian. -/
def leNat (bs : List Byte) : Nat := bs.foldr (fun b n => b.toNat + 256 * n) 0

/-- A memory in its canonical form: addresses strictly rising, and no listed byte equal to 0. -/
abbrev Memory.wf (m : List Host.Cell) : Prop := Tab.wf (0 : Byte) m = true

/-- The HBM key of byte A of stack n. -/
def hbmAt (stack a : Nat) : Nat := stack * 2 ^ 35 + a

/-- Read n bytes of HBM as a number. -/
def State.hbmRead (s : State) (stack a n : Nat) : Nat := peekN s.hbm (hbmAt stack a) n

/-- Write n bytes of HBM. -/
def State.hbmWrite (s : State) (stack a n v : Nat) : State := { s with hbm := pokeN s.hbm (hbmAt stack a) n v }

/-- Write n bytes of the Keeper's retained SRAM. -/
def State.retWrite (s : State) (a n v : Nat) : State := { s with ret := pokeN s.ret a n v }

/-! Fabric time (R231). -/

/-- The fabric time of a unit in ns: a region's own copy, and for the Keeper region A's copy. -/
def State.timeOf (s : State) (u : Nat) : Nat := Tab.get 0 s.time (if u < 4 then u else 0)

/-- Set every region's copy. -/
def State.setTime (s : State) (t : Nat) : State :=
  { s with time := [0, 1, 2, 3].foldl (fun m r => Tab.put 0 m r t) s.time }

/-! The port plan and the other sections of the image (R388–R399), read from the bytes loaded. -/

/-- n bytes of a flash from a, as a number. -/
def flashN (f : Flash) (a n : Nat) : Nat := peekN f a n

/-- Where the section of a type starts, and its length, in its directory entry (R388). -/
def sectOff (f : Flash) (ty : Nat) : Nat := flashN f (128 + 80 * (ty - 1) + 4) 4
def sectLen (f : Flash) (ty : Nat) : Nat := flashN f (128 + 80 * (ty - 1) + 8) 4

/-- n bytes at an offset of a section of the image in use. -/
def State.sect (s : State) (ty off n : Nat) : Nat := flashN s.boot.image (sectOff s.boot.image ty + off) n

/-- Bits of a port entry of the port plan (R390); all zero before the early sections are loaded. -/
def State.plan (s : State) (p lo w : Nat) : Nat :=
  if s.boot.early then (s.sect 1 (32 * p) 32 >>> lo) % 2 ^ w else 0

/-- A port's role: 0 OFF, 1 UP, 2 DN, 3 ZL (R390). -/
def State.role (s : State) (p : Nat) : Nat := s.plan p 0 2

/-- Bits of carrel template t (R395); all zero before the late sections are loaded. -/
def State.template (s : State) (t lo w : Nat) : Nat :=
  if s.boot.late && t < s.sect 6 0 4 then (s.sect 6 (64 + 64 * t) 64 >>> lo) % 2 ^ w else 0
/-- Bits of the template of a carrel. -/
def State.tplOf (s : State) (k lo w : Nat) : Nat := s.template (s.get CRL_TPL.TEMPLATE k) lo w

/-- This chip's fabric unit (R390). -/
def State.unit (s : State) : Nat := if s.boot.early then s.sect 1 3072 1 % 4 else 0

/-- The manager port of the port plan, if any (R390). -/
def State.managerPort (s : State) : Option Nat :=
  (List.range 64).find? (fun p => s.role p == 1 && s.plan p 3 1 == 1)

/-- A link in L0 (PRT_PORT_STS.STATE 4). -/
def State.inL0 (s : State) (p : Nat) : Bool := s.get PRT_PORT_STS.STATE p == 4

/-- An agent identity (R6). -/
def agentId (unit port idx : Nat) : Agent := BitVec.ofNat 10 (unit % 4 * 256 + port % 64 * 4 + idx % 4)
/-- The fabric unit, port and cache index of an agent (R6). -/
def agentUnit (a : Agent) : Nat := bits a 8 2
def agentPort (a : Agent) : Nat := bits a 2 6
def agentIdx (a : Agent) : Nat := bits a 0 2

/-- The state of a region: 0 RUNNING, 1 ISOLATING, 2 ISOLATED (CHIP_RGN_STS). -/
def State.rgn (s : State) (r : Nat) : Nat := bits (BitVec.ofNat 8 (s.get CHIP_RGN_STS.STATE 0)) (2 * r) 2

/-- Set a region's state. -/
def State.setRgn (s : State) (r v : Nat) : State :=
  s.set CHIP_RGN_STS.STATE 0 (putBits (BitVec.ofNat 8 (s.get CHIP_RGN_STS.STATE 0)) (2 * r) 2 v).toNat

/-- The lead core's region (R353): the region that LEAD names, else the first running region. -/
def State.lead (s : State) : Nat :=
  match (List.range 4).find? (fun r => s.flag LIB_CORE_STS.LEAD r) with
  | some r => r
  | none => ((List.range 4).find? (fun r => s.rgn r == 0)).getD 0

/-- Take the next free value's index (the model's counter for values that the spec leaves open). -/
def State.fresh (s : State) : Nat × State := (s.free, { s with free := s.free + 1 })

end Sys2Proof.Machine
end

