-- ==== Sys2Proof/Machine/Count.lean ====
section
/-! DEFINITION. The performance counters (R491, R492), as every block's events count in them. -/
namespace Sys2Proof.Machine

/-- The group of a counter: a port's 32, a region's 160, or the Keeper's 128, by its last index (R492). -/
def lastOfGroup (n : Nat) : Bool :=
  if n ≥ 2688 then n == 2815
  else let g := n % 672; if g < 512 then g % 32 == 31 else g == 671

/-- Whether counter n is the upper half of a chain (R492). -/
def State.chained (s : State) (n : Nat) : Bool :=
  n != 0 && !lastOfGroup (n - 1) && s.flag PMC_CFG.CHAIN (n - 1)

/-- Add k to counter n: a wrap carries into the next counter with CHAIN, else it sets OVF (R492). The fuel is the length
of the longest chain. -/
def State.addCounter (fuel : Nat) (s : State) (n k : Nat) : State :=
  let v := (Tab.get 0 s.arc.cnt n).toNat + k
  let s1 := { s with arc := { s.arc with cnt := Tab.put 0 s.arc.cnt n (BitVec.ofNat 48 v) } }
  if v < 2 ^ 48 then s1
  else if s.flag PMC_CFG.CHAIN n && !lastOfGroup n then
    match fuel with
    | 0 => s1
    | f + 1 => State.addCounter f s1 (n + 1) 1
  else s1.set PMC_CFG.OVF n 1

/-- The counters of a range whose EVT is e (R491), by the words that differ from reset. -/
def State.countersOf (s : State) (lo hi e : Nat) : List Nat :=
  (s.regs.filter (fun x => x.1 / 2 ^ 24 == Reg.PMC_CFG.ctorIdx && lo ≤ x.1 % 2 ^ 24 && x.1 % 2 ^ 24 < hi
    && bits x.2 0 8 == e && bits x.2 16 1 == 1)).map (fun x => x.1 % 2 ^ 24)

/-- k occurrences of a selectable event in region r: the region counters with that EVT whose QUAL takes the instance, and
the selectable counters of the event's port (R491). -/
def State.count (s : State) (r e qual k : Nat) : State :=
  if s.rgn r == 2 then s
  else
    let own := (s.countersOf (672 * r + 512) (672 * r + 672) e).filter
      (fun n => !s.chained n && (s.get PMC_CFG.QUAL n == 0xFF || s.get PMC_CFG.QUAL n == qual))
    let byPort := (s.countersOf (672 * r) (672 * r + 512) e).filter
      (fun n => n % 672 % 32 ≥ 26 && !s.chained n && n % 672 / 32 == qual)
    (own ++ byPort).foldl (fun s n => s.addCounter 160 n k) s

/-- k occurrences of a chip event (EVT 0x40–0x49). -/
def State.countChip (s : State) (e qual k : Nat) : State :=
  ((s.countersOf 2688 2816 e).filter
    (fun n => !s.chained n && (s.get PMC_CFG.QUAL n == 0xFF || s.get PMC_CFG.QUAL n == qual))).foldl
    (fun s n => s.addCounter 128 n k) s

/-- k occurrences of fixed port counter c of port p (Table: Port counters). -/
def State.countPort (s : State) (p c k : Nat) : State :=
  let n := 672 * (p / 16) + 32 * (p % 16) + c
  if s.rgn (p / 16) == 2 || !s.flag PMC_CFG.EN n || s.chained n then s else s.addCounter 32 n k

end Sys2Proof.Machine
end

