-- ==== Sys2Proof/Machine/Faults.lean ====
section
/-! DEFINITION. Error occurrences and where they go (chapters Faults and Containment, Archive): the common error sets and
their interrupts, the Archive's counts and staged records, isolation and CHIP_FATAL. Every block's errors pass through
`record`. -/
namespace Sys2Proof.Machine

/-! Common error sets by number: 256 for each region and 256 for the chip, 16 instances for each block (R459, R478). -/

/-- Instance i of block b of region r. -/
def rgnSet (r b : Nat) (i : Nat := 0) : Nat := (r * 16 + b) * 16 + i
/-- The chip-scope set of block b. -/
def chipSet (b : Nat) : Nat := (64 + b) * 16
def prtSet (p : Nat) : Nat := rgnSet (p / 16) 0 (p % 16)
def lnkSet (p : Nat) : Nat := rgnSet (p / 16) 1 (p % 16)
def zwlSet (z : Nat) : Nat := rgnSet (z / 2) 2 (z % 2)
def bndSet (r : Nat) : Nat := rgnSet r 3
def swcSet (r : Nat) : Nat := rgnSet r 4
def tfcSet (r : Nat) : Nat := rgnSet r 5
def catSet (r : Nat) : Nat := rgnSet r 6
def grnSet (r : Nat) : Nat := rgnSet r 7
def qmgSet (r : Nat) : Nat := rgnSet r 8
def dmvSet (r : Nat) : Nat := rgnSet r 9
def libSet (r : Nat) : Nat := rgnSet r 10
def tilSet (r : Nat) : Nat := if r < 4 then rgnSet r 11 else chipSet 9
def arcSet (u : Nat) : Nat := if u < 4 then rgnSet u 12 else chipSet 6
def pmcSet (r : Nat) : Nat := rgnSet r 13
def setChip : Nat := chipSet 0
def setKpr : Nat := chipSet 1
def setSec : Nat := chipSet 2
def setCrs : Nat := chipSet 3
def setSpw : Nat := chipSet 4
def setCrl : Nat := chipSet 5
def setArc : Nat := chipSet 6
def setPmc : Nat := chipSet 7
def setTfc4 : Nat := chipSet 8

/-- The recording unit of a set: its region, or 4 for chip scope (R479). -/
def setUnit (set : Nat) : Nat := min (set / 256) 4
/-- The block index of a set. -/
def setBlock (set : Nat) : Nat := set / 16 % 16

/-- The classes of a block's error types in order of their bits (R477): 0 CORRECTED, 1 DEFERRED, 2 CONTAINED,
3 REGION_FATAL, 4 CHIP_FATAL, 7 VARIES, 15 unused. -/
def classList (unit b : Nat) : List Nat :=
  if unit < 4 then
    match b with
    | 0 => [0, 0, 0, 2, 2, 2]
    | 1 => [0, 0, 2, 2, 2, 2]
    | 2 => [0, 0, 2, 2, 2, 0]
    | 3 => [1, 0, 2, 2, 2, 3]
    | 4 => [0, 2, 2, 0, 0, 3, 2, 2, 2, 3]
    | 5 => [0, 0, 0, 2]
    | 6 => [0, 0, 3, 3, 0, 0, 2, 2, 3, 3, 3, 2, 2]
    | 7 => [0, 0, 1, 0, 3, 0, 3, 3, 4]
    | 8 => [0, 2, 0, 0, 1, 2, 3]
    | 9 => [0, 1, 7, 2]
    | 10 => [0, 3, 7]
    | 11 => [2, 2, 0, 0]
    | 12 => [0, 0, 0, 0, 0]
    | 13 => [0, 0]
    | _ => []
  else
    match b with
    | 0 => [0]
    | 1 => [0, 0]
    | 2 => [0, 4, 0, 0, 0, 4, 4]
    | 3 => [0, 0, 3, 4, 3, 0, 4]
    | 4 => [2, 0, 2, 2, 2, 0, 0, 2]
    | 5 => [0, 0, 2]
    | 6 => [0, 0, 0, 0, 0]
    | 7 => [0, 0]
    | 8 => [15, 15, 15, 15, 0, 2]
    | 9 => [2, 2, 0, 0]
    | _ => []

/-- The fixed class of error type e of a set (R461, R466). -/
def classOf (set e : Nat) : Nat :=
  if e = 30 then 2
  else if e = 31 then (if setUnit set < 4 then 3 else 4)
  else (classList (setUnit set) (setBlock set)).getD e 15

/-- SEV word k of a set (R461). -/
def sevWord (set k : Nat) : Word :=
  BitVec.ofNat 32 ((List.range 8).foldr (fun j acc => classOf set (8 * k + j) + 16 * acc) 0)

/-- A common error set of the state. -/
def State.cesSet (s : State) (set : Nat) : CesSet := Tab.get {} s.ces set
/-- Replace a common error set. -/
def State.setCes (s : State) (set : Nat) (c : CesSet) : State := { s with ces := Tab.put {} s.ces set c }

/-- Count a discarded write in a set's WR_DISCARD (R21, R44). -/
def State.discard (s : State) (set : Nat) : State :=
  let c := s.cesSet set
  s.setCes set { c with count := putBits c.count 16 16 (satAdd 16 (bits c.count 16 16) 1) }

/-- An I3C in-band interrupt of a kind becomes pending while ENEC is in force (R375). -/
def State.ibiPend (s : State) (kind : Nat) : State :=
  if s.i3c.enabled then { s with i3c := { s.i3c with pend := s.i3c.pend ||| BitVec.ofNat 3 (2 ^ kind) } } else s

/-- An interrupt event of a set toward the manager and the BMC (R463). -/
def State.interrupt (s : State) (set : Nat) : State :=
  let c := s.cesSet set
  let s1 :=
    if c.route.getLsbD 0 && (match s.managerPort with | some p => s.inL0 p | none => false) then
      if c.window then s.setCes set { c with merge := true }
      else (s.setCes set { c with window := true }).emit (.msix 64 (bits c.route 2 11))
    else s
  if c.route.getLsbD 1 then s1.ibiPend 0 else s1

/-! The Archive (R479–R483). -/

/-- Frozen, or not enabled: every event is frozen loss (R489, ARC_CTL.EN). -/
def State.arcStopped (s : State) (u : Nat) : Bool := s.flag ARC_FRZ.FROZEN u || !s.flag ARC_CTL.EN u

/-- Count one event or sample lost to freeze (R489). -/
def State.frozenLoss (s : State) (u : Nat) : State :=
  let s := s.bump ARC_FRZ_LOSS.LOSS u 1
  { s with arc := { s.arc with
      spanFrozen := Tab.put 0 s.arc.spanFrozen u (satAdd 32 (Tab.get 0 s.arc.spanFrozen u) 1) } }

/-- How many records a unit's staging holds (R483): 64 KiB in a region, 8 KiB in the Keeper. -/
def stageRoom (u : Nat) : Nat := if u < 4 then 2048 else 256

/-- An event record (Table: Event record layout). -/
def eventRecord (time code origin kind scope tiller arg0 arg1 : Nat) : BitVec 256 :=
  BitVec.ofNat 256 (time % 2 ^ 64 + (code % 2 ^ 12) * 2 ^ 64 + (origin % 4) * 2 ^ 76 + (kind % 8) * 2 ^ 78
    + (scope % 2 ^ 20) * 2 ^ 81 + (tiller % 2 ^ 8) * 2 ^ 101 + (arg0 % 2 ^ 64) * 2 ^ 128 + (arg1 % 2 ^ 64) * 2 ^ 192)

/-- Stage a record; answers also whether staging refuses its first record since it last had room (R483, R495). -/
def State.stageRecord (s : State) (u : Nat) (rec : BitVec 256) : State × Bool :=
  let q := Tab.get [] s.arc.stage u
  if q.length < stageRoom u then
    ({ s with arc := { s.arc with stage := Tab.put [] s.arc.stage u (q ++ [rec]) } }, false)
  else
    let s1 := s.bump ARC_LOST.STAGE_LOST u 1
    ({ s1 with arc := { s1.arc with overrun := Tab.put false s1.arc.overrun u true } },
      !Tab.get false s.arc.overrun u)

/-- One event of a unit (R481): counted under its code within RATE and staged with LOG, else an overflow. Answers also
whether staging overran. -/
def State.event (s : State) (u code origin kind scope tiller arg0 arg1 : Nat) : State × Bool :=
  if u < 4 && s.rgn u == 2 then (s, false)
  else if s.arcStopped u then (s.frozenLoss u, false)
  else
    let key := 4096 * u + code % 4096
    let now := s.timeOf u
    let adm := Tab.get (0, 0) s.arc.counted key
    let n := if adm.1 = now / 10 ^ 9 then adm.2 else 0
    let cnt := Tab.get (0, 0) s.arc.counts key
    if n < s.get ARC_CODE_CFG.RATE (code % 4096) then
      let s1 := { s with arc := { s.arc with
        counted := Tab.put (0, 0) s.arc.counted key (now / 10 ^ 9, n + 1)
        counts := Tab.put (0, 0) s.arc.counts key (satAdd 40 cnt.1 1, cnt.2) } }
      if s.flag ARC_CODE_CFG.LOG (code % 4096) then
        s1.stageRecord u (eventRecord now code origin kind scope tiller arg0 arg1)
      else (s1, false)
    else
      ({ s with arc := { s.arc with counts := Tab.put (0, 0) s.arc.counts key (cnt.1, satAdd 24 cnt.2 1) } }.countChip 0x43 u 1, false)

/-- An error occurrence: its set and bit, its class where it varies, its scope, and the value that the Archive records
with it (ARG1 of R482). -/
structure Occ where
  set   : Nat
  bit   : Nat
  cls   : Nat
  kind  : Nat
  scope : Nat
  arg1  : Nat
deriving DecidableEq, Repr

/-- An occurrence of fixed class. -/
def occ (set bit kind scope : Nat) (arg1 : Nat := 0) : Occ := ⟨set, bit, classOf set bit, kind, scope, arg1⟩

/-- An occurrence in the layout of FIRST with VALID 1 (R478). -/
def Occ.first (o : Occ) : Nat :=
  o.bit % 32 + (o.cls % 8) * 2 ^ 5 + (o.scope % 2 ^ 20) * 2 ^ 8 + (o.kind % 8) * 2 ^ 28 + 2 ^ 31

/-- The Archive code of an error type (R480). -/
def Occ.code (o : Occ) : Nat :=
  if setUnit o.set < 4 then 32 * setBlock o.set + o.bit else 0x1C0 + 32 * setBlock o.set + o.bit

/-- Deliver an interrupt event or a grave occurrence to the Librarian cores (R464). -/
def State.coreIrq (s : State) (o : Occ) (fresh : Bool) : State :=
  let u := setUnit o.set
  let s1 := if fresh then s.emit (.coreIrq (if u < 4 then u else s.lead) o.set o.bit) else s
  if o.cls ≥ 2 && o.cls ≤ 4 && (u != s.lead || !fresh) && !(fresh && u ≥ 4) then
    s1.emit (.coreIrq s.lead o.set o.bit) else s1

/-- What the common error set and the Archive keep of an occurrence (R460, R462–R464, R481), in a region that still
records (R544). Answers also whether the unit's record staging overran. -/
def State.note (s : State) (o : Occ) : State × Bool :=
  let u := setUnit o.set
  if u < 4 && s.rgn u == 2 then (s, false)
  else
    let c := s.cesSet o.set
    let fresh := !c.sts.getLsbD o.bit
    let captured := c.first.getLsbD 31
    let c1 := { c with
      sts := c.sts ||| BitVec.ofNat 32 (2 ^ (o.bit % 32))
      first := if captured then c.first else BitVec.ofNat 32 o.first
      time := if captured then c.time else BitVec.ofNat 32 (s.timeOf u / 1000)
      count := putBits c.count 0 16 (satAdd 16 (bits c.count 0 16) 1) }
    let s1 := s.setCes o.set c1
    let s2 := if fresh && !c.mask.getLsbD o.bit then s1.interrupt o.set else s1
    let s3 := s2.coreIrq o fresh
    if u < 4 && setBlock o.set = 3 && o.bit = 0 then (s3, false)
    else s3.event u o.code (if u < 4 then 0 else 3) o.kind o.scope 0 o.first o.arg1

/-! The fatal classes (R41, R42, R468, R471, R472, R474). -/

/-- Ask for a retained copy of an area: an area already held or asked for is a missed copy (R471). -/
def State.askCopy (s : State) (area trigger block bit : Nat) : State :=
  if (s.get KPR_RET_STS.VALID 0).testBit area || s.flt.retPend.any (fun e => e.area == area) then
    s.bump KPR_RET_STS.MISSED 0 1
  else
    { s with flt := { s.flt with retPend := s.flt.retPend ++
        [⟨area, trigger, block, bit, s.timeOf area, s.get KPR_RST_CAUSE.COUNT 0⟩] } }

/-- The dirty Granary blocks and the blocks whose write-back has not completed, of the regions that satisfy a test (R448). -/
def State.dirtyBlocks (s : State) (inRegion : Nat → Bool) : Nat :=
  Tab.countIf s.grn.ways (fun k w => w.valid && w.dirty != 0 && inRegion (k / 2 ^ 27))
    + (s.grn.wbuf.filter (fun e => inRegion (e.ctrl / 2))).length

/-- Every slot gate is pulled low and every channel enters DISABLED, with power-good withdrawn and the trip counts at 0
(R432). -/
def State.slotsOff (s : State) : State :=
  (List.range 32).foldl (fun s c =>
    ((((s.set SPW_STS.STATE c 0).set SPW_STS.PG c 0).set SPW_STS.LIMIT c 0).set SPW_STS.TRIPS c 0).set
      SPW_STS.TMR_RUN c 0) s

/-- Every port of a list falls to electrical idle with its DN_PERST_N low (R468, R472). -/
def State.portsIdle (s : State) (ps : List Nat) : State :=
  ps.foldl (fun s p =>
    (((s.set PRT_PORT_STS.STATE p 0).set PRT_PORT_STS.RATE p 0).set PRT_PORT_STS.WIDTH p 0).set
      PRT_DN_TMR.PERST_OUT p 0) s

/-- A power-down flush ends with a result: 1 DONE, 2 TRUNCATED, 3 ABORTED (R448, R449, R453). -/
def State.flushEnds (s : State) (ms result unflushed : Nat) : State :=
  ((((s.set KPR_PD_STS.FLUSH_MS 0 (min ms 190)).set KPR_PD_STS.RESULT 0 result).set
    KPR_PD_STS.UNFLUSHED 0 (min unflushed (2 ^ 22 - 1))).set KPR_STS.FLUSHING 0 0)

/-- CHIP_FATAL (R472): FAULT reads (0,1), every port and slot stops, a flush in progress is aborted, and the retained
copies are asked for. -/
def State.chipFatal (s : State) (block bit : Nat) : State :=
  if s.fatal then s.askCopy 4 4 block bit
  else
    let s1 := if s.flag KPR_STS.FLUSHING 0 then
        s.flushEnds (s.get KPR_PD_STS.FLUSH_MS 0) 3 (s.dirtyBlocks (fun _ => true)) else s
    let s2 := { s1 with fatal := true, flt := { s1.flt with pins := 1 } }
    let s3 := (s2.set KPR_STS.CHIP_FATAL 0 1).portsIdle (List.range 64)
    let s4 := s3.slotsOff.askCopy 4 4 block bit
    [0, 1, 2, 3].foldl (fun s r =>
      if (s.get KPR_RET_STS.VALID 0).testBit r || s.flt.retPend.any (fun e => e.area == r) then s
      else s.askCopy r 4 block bit) s4

/-- REGION_FATAL in region r (R41, R42, R471): isolation begins, or CHIP_FATAL where no other region would run. -/
def State.regionFatal (s : State) (r block bit : Nat) : State :=
  if s.fatal then s.askCopy r 3 block bit
  else if s.rgn r != 0 then s
  else if [0, 1, 2, 3].any (fun q => q != r && s.rgn q == 0) then
    let s1 := ((s.setRgn r 1).set CHIP_RGN_CAUSE.BLOCK r block).set CHIP_RGN_CAUSE.BIT r bit
    let s2 := if s1.flag KPR_STS.FLUSHING 0 then s1 else { s1 with flt := { s1.flt with pins := 1 } }
    s2.askCopy r 3 block bit
  else s.chipFatal block bit

/-- The region that an occurrence of class REGION_FATAL isolates: the set's own, or the one in its scope (R477). -/
def Occ.region (o : Occ) : Nat := if setUnit o.set < 4 then setUnit o.set else o.scope % 4

/-- A block begins a self-reset; one in progress absorbs another (R41, R467). -/
def State.selfReset (s : State) (set : Nat) : State :=
  { s with flt := { s.flt with resetting := if s.flt.resetting.contains set then s.flt.resetting else s.flt.resetting ++ [set] } }

/-- One occurrence of an error type (R460): the set, the Archive and the fatal outputs. The containment of the scope is
the block's own and stands with the command. -/
def State.record (s : State) (o : Occ) : State :=
  let (s1, ovr) := s.note o
  let u := setUnit o.set
  let s2 := if ovr then (s1.note (occ (arcSet u) 4 0 u)).1 else s1
  if o.cls = 3 then s2.regionFatal o.region (if u < 4 then setBlock o.set else 15) o.bit
  else if o.cls = 4 then s2.chipFatal (setBlock o.set) o.bit
  else if o.cls = 2 && o.kind = 0 then s2.selfReset o.set
  else s2

/-- An event that is no error (R480), of block or Keeper hardware where no origin is given (R482), with a staging overrun recorded where it causes one. -/
def State.archive (s : State) (u code kind scope arg0 arg1 : Nat) (origin : Nat := if u < 4 then 0 else 3) : State :=
  let (s1, ovr) := s.event u code origin kind scope 0 arg0 arg1
  if ovr then (s1.note (occ (arcSet u) 4 0 u)).1 else s1

/-! Where register commands are admitted (R497, R469, R512, R546). -/

/-- The region whose window a register of unit u lies in is isolated: the access is discarded (R469). -/
def State.windowGone (s : State) (u : Nat) : Bool := u < 4 && s.rgn u == 2

/-- The I3C target answers in part only before an image is loaded, and not at all in SCRAPPED (R512). -/
def State.i3cShut (s : State) : Bool := s.get SEC_LC_STS.STATE 0 == 3 || !s.boot.early

/-- Before ready, the manager port takes no access of CXL.io but configuration: a read is answered with Unsupported Request, and
a posted write is discarded (R382). -/
def State.unheard (s : State) (p : Path) : Bool := p == .manager && !s.flag SEC_BOOT_STS.READY 0

/-- Whether a path may write a register that is not on I3C's list (R382, R497, R512): not I3C; the management endpoint once
the machine is ready; the debug master only when unlocked with scope REG. -/
def State.mayWrite (s : State) (p : Path) : Bool :=
  match p with
  | .librarian _ => true
  | .manager => s.flag SEC_BOOT_STS.READY 0
  | .i3c => false
  | .debug => s.flag SEC_DBG_STS.UNLOCKED 0 && (s.get SEC_DBG_STS.SCOPE 0).testBit 0

/-- A command written to a register of a set: refused for a path that may not write it, or into an isolated window, the
discard counted (R497, R469), else its effect. -/
def State.command (s : State) (p : Path) (set : Nat) (f : State → State) : State :=
  if s.windowGone (setUnit set) || s.unheard p then s
  else if s.mayWrite p then f s
  else s.discard set

/-- The same with a BUSY bit: a start while BUSY is discarded and counted (R546). -/
def State.start (s : State) (p : Path) (set : Nat) (busy : Bool) (f : State → State) : State :=
  s.command p set (fun s => if busy then s.discard set else f s)

/-- The same for a command whose register holds its operands: while BUSY the start is discarded, and they are stored all the same
(R546, R44). -/
def State.startWith (s : State) (p : Path) (set : Nat) (busy : Bool) (store f : State → State) : State :=
  s.command p set (fun s => if busy then (store s).discard set else f s)

end Sys2Proof.Machine
end

