-- ==== Sys2Proof/Machine/Counters.lean ====
section
/-! DEFINITION. The Archive's extremes and histogram bins (R484, R486), and occurrences by scope, as the operations that every
block's events pass through. -/
namespace Sys2Proof.Machine

/-- A reading for an extreme entry of unit u: kept when it is lower (or higher) than the entry, or the entry is empty
(R486). The value is signed. -/
def State.extreme (s : State) (u entry : Nat) (v : Int) (low : Bool) : State :=
  if u < 4 && s.rgn u == 2 then s
  else
    let key := 128 * u + entry
    let new := BitVec.ofNat 32 (ofSigned 32 v)
    let better := match Tab.get none s.arc.ext key with
      | none => true
      | some (w, _) => if low then v < signedOf 32 w.toNat else v > signedOf 32 w.toNat
    if better then
      { s with arc := { s.arc with ext := Tab.put none s.arc.ext key (some (new, s.timeOf u)) } }
    else s

/-- HBM columns transferred in a stack 0–7 (R491). -/
def State.columns (s : State) (stack k : Nat) : State := s.count (stack / 2) 0x0C (stack % 2) k

/-- The histograms of R484. -/
inductive Hist where
  | voqDepth | voqDelay | outDepth | outDelay | portLat | ldOcc | grnBand
deriving DecidableEq, Repr

/-- KIND of a histogram. -/
def Hist.kind (h : Hist) : Nat := h.ctorIdx

/-- The log2 binning of R238: bin 0 up to 1, bin k from 2^k to 2^(k+1) − 1, and bin 15 from 32,768. -/
def log2Bin (v : Nat) : Nat := min (Nat.log2 v) 15

/-- The key of a histogram entry: region, kind, source index (port or class), output port, class. -/
def histKey (r : Nat) (h : Hist) (src out tc : Nat) : Nat :=
  (((r * 8 + h.kind) * 128 + src % 128) * 64 + out % 64) * 8 + tc % 8

/-- One sample in a bin (R484), or frozen loss (R489). -/
def State.sample (s : State) (r : Nat) (h : Hist) (src out tc bin : Nat) : State :=
  if s.rgn r == 2 then s
  else if s.arcStopped r then s.frozenLoss r
  else
    let key := 16 * histKey r h src out tc + bin % 16
    { s with arc := { s.arc with bins := Tab.put 0 s.arc.bins key (satAdd 32 (Tab.get 0 s.arc.bins key) 1) } }

/-- A request is admitted at a port in its class: with EN, every DELAY_Nth is sampled (R238, R484). -/
def State.latMark (s : State) (p tc agent tag : Nat) : State :=
  let r := p / 16
  if !s.flag TFC_HIST_CTL.EN r then s
  else
    let k := Tab.get 0 s.tfc.lat (8 * p + tc) + 1
    if k ≥ s.get TFC_HIST_CTL.DELAY_N r then
      { s with tfc := { s.tfc with lat := Tab.put 0 s.tfc.lat (8 * p + tc) 0
                                   probes := s.tfc.probes ++ [(8 * p + tc, agent, tag, s.timeOf r)] } }
    else { s with tfc := { s.tfc with lat := Tab.put 0 s.tfc.lat (8 * p + tc) k } }

/-- The agent and tag that a response answers. -/
def answers : Msg → Option (Nat × Nat)
  | .grant a t _ _ => some (a.toNat, t.toNat)
  | .complete a t => some (a.toNat, t.toNat)
  | .ioCompletion a t _ => some (a.toNat, t.toNat)
  | _ => none

/-- A response leaves by the port at which its request was admitted: the latency of a sampled one is counted (R484). -/
def State.latDone (s : State) (p : Nat) (m : Msg) : State :=
  match answers m with
  | none => s
  | some (a, t) =>
    match s.tfc.probes.find? (fun e => e.1 / 8 == p && e.2.1 == a && e.2.2.1 == t) with
    | none => s
    | some e =>
      { s with tfc := { s.tfc with probes := s.tfc.probes.erase e } }.sample (p / 16) .portLat p 0 (e.1 % 8)
        (log2Bin (s.timeOf (p / 16) - e.2.2.2))

/-- An occurrence with no scope of its own, in a set: KIND block (R478). -/
def blockOcc (set bit : Nat) (arg1 : Nat := 0) : Occ := occ set bit 0 (if setUnit set < 4 then setUnit set else 0) arg1
/-- An occurrence with the region as its scope: KIND region. -/
def regionOcc (r set bit : Nat) (arg1 : Nat := 0) : Occ := occ set bit 7 r arg1
/-- An occurrence with a port as its scope: KIND port. -/
def portOcc (p set bit : Nat) (arg1 : Nat := 0) : Occ := occ set bit 1 p arg1

end Sys2Proof.Machine
end

