-- ==== Sys2Proof/Machine/QueueOps.lean ====
section
/-! DEFINITION. Queue contexts, their cache, and the producer writes of rings and NOTICE FIFOs (R300–R303, R309–R311,
R315, R316, R319–R321). -/
namespace Sys2Proof.Machine
open Sys2Proof

/-! The context's fields (R302), as first bit and width. -/
abbrev CtxFld := Nat × Nat
def cValid : CtxFld := (0, 1)
def cDisc : CtxFld := (1, 1)
def cUse : CtxFld := (2, 2)
def cLoc : CtxFld := (4, 1)
def cPin : CtxFld := (5, 1)
def cIrqEn : CtxFld := (6, 1)
def cArmed : CtxFld := (7, 1)
def cEsize : CtxFld := (8, 4)
def cDepth : CtxFld := (12, 5)
def cOwner : CtxFld := (17, 2)
def cCarrel : CtxFld := (19, 12)
def cVector : CtxFld := (31, 11)
def cPort : CtxFld := (42, 6)
def cBase : CtxFld := (64, 64)
def cPasid : CtxFld := (128, 20)
def cSlipGrp : CtxFld := (148, 12)
def cProd : CtxFld := (160, 32)
def cCons : CtxFld := (192, 32)
def cRd : CtxFld := (224, 32)
def cMark : CtxFld := (256, 32)
def cLevel : CtxFld := (288, 21)
def cMarkLost : CtxFld := (309, 1)
def cLinkQid : CtxFld := (320, 20)
def cLinkV : CtxFld := (340, 1)
def cDrops : CtxFld := (352, 32)
def cPoisoned : CtxFld := (384, 16)
def cLastTime : CtxFld := (416, 64)

/-- A field of a context. -/
def cget (c : BitVec 512) (f : CtxFld) : Nat := bits c f.1 f.2
/-- A context with a field set. -/
def cput (c : BitVec 512) (f : CtxFld) (v : Nat) : BitVec 512 := putBits c f.1 f.2 v
/-- Add to a count of a context that saturates. -/
def cbump (c : BitVec 512) (f : CtxFld) (n : Nat) : BitVec 512 := cput c f (satAdd f.2 (cget c f) n)

/-- The home region of a queue ID, and its stack 0–7 (R300). -/
def qidRegion (q : Nat) : Nat := q / 2 ^ 18 % 4
def qidStack (q : Nat) : Nat := q / 2 ^ 17 % 8

/-- The HBM key of a context (R300). -/
def ctxAt (q : Nat) : Nat := hbmAt (qidStack q) (0x500000000 + 64 * (q % 2 ^ 17))

/-- The context of a queue ID, as HBM holds it. -/
def State.ctx (s : State) (q : Nat) : BitVec 512 := BitVec.ofNat 512 (peekN s.hbm (ctxAt q) 64)
/-- Store it. -/
def State.setCtx (s : State) (q : Nat) (c : BitVec 512) : State :=
  { s with hbm := pokeN s.hbm (ctxAt q) 64 c.toNat }

/-- Capacity, entry size, and occupancy (R302). -/
def ctxCap (c : BitVec 512) : Nat := 2 ^ cget c cDepth
def ctxSize (c : BitVec 512) : Nat := 16 * (cget c cEsize + 1)
/-- a − b modulo 2^32. -/
def sub32 (a b : Nat) : Nat := (a + 2 ^ 32 - b % 2 ^ 32) % 2 ^ 32
def ctxOcc (c : BitVec 512) : Nat := sub32 (cget c cProd) (cget c cCons)

/-- The HBM key of byte 0 of a body with LOC HBM: the slip-store area of the context's own stack (R301). -/
def bodyAt (q : Nat) (c : BitVec 512) : Nat := hbmAt (qidStack q) (0x500800000 + cget c cBase)
/-- Where entry i lies within the body (R302). -/
def entryOff (c : BitVec 512) (i : Nat) : Nat := i % ctxCap c * ctxSize c
/-- A valid context of a discipline. -/
def isRing (c : BitVec 512) : Bool := cget c cValid == 1 && cget c cDisc == 0
def isNotice (c : BitVec 512) : Bool := cget c cValid == 1 && cget c cDisc == 1

/-- The interrupt of a context's owner (R302). -/
def State.ownerIrq (s : State) (q : Nat) (c : BitVec 512) : State :=
  if cget c cOwner = 0 then s.emit (.libIrq (qidRegion q) (cget c cVector))
  else if cget c cOwner = 1 then s.emit (.msix 64 (cget c cVector))
  else s.emit (.msix (cget c cPort) (cget c cVector))

/-- The index word of a host ring: PROD, or CONS for SUBMIT, in the 8 bytes after the body (R310). -/
def State.indexWord (s : State) (q : Nat) (c : BitVec 512) : State :=
  let v := if cget c cUse = 0 then cget c cCons else cget c cProd
  let s1 := s.emit (.hostWrite (cget c cPort) (cget c cPasid) (cget c cBase + ctxCap c * ctxSize c)
    ((List.range 8).map (fun k => BitVec.ofNat 8 (v / 256 ^ k))))
  { s1 with qmg := { s1.qmg with index := s1.qmg.index.filter (fun x => x != q) } }

/-- A count of a host ring has changed: its index word is due (R310). -/
def State.indexDue (s : State) (q : Nat) (c : BitVec 512) : State :=
  if cget c cLoc = 1 then
    { s with qmg := { s.qmg with index := s.qmg.index.filter (fun x => x != q) ++ [q] } }
  else s

/-- The first error of region r's queue manager is captured, and later ones counted (QMG_ERR_CAP). -/
def State.qmgCapture (s : State) (r q cause : Nat) : State :=
  if s.rgn r == 2 then s
  else if s.flag QMG_ERR_CAP.VALID r then s.bump QMG_ERR_CAP.COUNT r 1
  else (((s.set QMG_ERR_CAP.QID r q).set QMG_ERR_CAP.CAUSE r cause).set QMG_ERR_CAP.COUNT r 1).set QMG_ERR_CAP.VALID r 1

/-- An error of a context at its queue manager. -/
def State.qmgError (s : State) (q bit cause : Nat) : State :=
  (s.qmgCapture (qidRegion q) q cause).record (occ (qmgSet (qidRegion q)) bit 6 q)

/-- A carrel counter (R343). -/
def State.carrelCount (s : State) (k word n : Nat) : State :=
  let v := (Tab.get 0 s.dmv.ctr (32 * k + word)).toNat + n
  { s with dmv := { s.dmv with ctr := Tab.put 0 s.dmv.ctr (32 * k + word) (BitVec.ofNat 48 v) } }

/-! The context cache (R320, R321). -/

/-- The key of a queue ID's set. -/
def cacheSet (q : Nat) : Nat := 2048 * qidRegion q + q % 2048

/-- A context is in its region's cache. -/
def State.cached (s : State) (q : Nat) : Bool := (Tab.get [] s.qmg.cache (cacheSet q)).contains q

/-- A context becomes the most recently used of its set; a set of 16 gives up its least recently used way that is not
pinned. -/
def State.useCtx (s : State) (q : Nat) : State :=
  let ways := (Tab.get [] s.qmg.cache (cacheSet q)).filter (fun x => x != q)
  let kept := if ways.length < 16 then ways
    else match ways.reverse.find? (fun x => cget (s.ctx x) cPin == 0) with
      | some v => ways.filter (fun x => x != v)
      | none => ways.dropLast
  { s with qmg := { s.qmg with cache := Tab.put [] s.qmg.cache (cacheSet q) (q :: kept) } }

/-- An operation on a context that is not cached waits for its fill, which the first one starts (R320). -/
def State.waitCtx (s : State) (q : Nat) (op : QOp) : State :=
  let s1 := (s.bump QMG_CACHE_STS.MISSES (qidRegion q) 1).count (qidRegion q) 0x10 0 1
  let fills := if s1.qmg.fills.any (fun f => f.1 == q) then
      s1.qmg.fills.map (fun f => if f.1 == q then (q, f.2 ++ [op]) else f)
    else s1.qmg.fills ++ [(q, [op])]
  { s1 with qmg := { s1.qmg with fills := fills } }

/-! Producer writes. -/

/-- An item padded with zeros to n bytes. -/
def padTo (n : Nat) (data : List Byte) : List Byte := (data ++ List.replicate (n - data.length) 0).take n

/-- Bytes are written to HBM: a column that they fill has a good check word again (R160). -/
def State.writeHbm (s : State) (key : Nat) (bs : List Byte) : State :=
  { s with hbm := pokes s.hbm key bs
           grn := { s.grn with poison := s.grn.poison.filter (fun e => !(Nat.ble key (64 * e.1) && Nat.ble (64 * e.1 + 64) (key + bs.length))) } }.columns
    (key / 2 ^ 35) ((key % 64 + bs.length + 63) / 64)

/-- A producer write to a ring that has room (R302, R310, R311): the entry, PROD and LAST_TIME, the index word due, and the
interrupt while armed, after the index word. -/
def State.ringPut (s : State) (q : Nat) (c : BitVec 512) (data : List Byte) : State :=
  let off := entryOff c (cget c cProd)
  let body := padTo (ctxSize c) data
  let c1 := cput (cput c cProd (cget c cProd + 1)) cLastTime (s.timeOf (qidRegion q))
  let s1 := if cget c cLoc = 0 then s.writeHbm (bodyAt q c + off) body
    else s.emit (.hostWrite (cget c cPort) (cget c cPasid) (cget c cBase + off) body)
  if cget c cIrqEn = 1 && cget c cArmed = 1 then
    let c2 := cput c1 cArmed 0
    let s2 := s1.setCtx q c2
    (if cget c cLoc = 1 then s2.indexWord q c2 else s2).ownerIrq q c2
  else (s1.setCtx q c1).indexDue q c1

/-- A producer write to a ring (R309): refused when it is full, DROPS counting the refusal. -/
def State.ringWrite (s : State) (q : Nat) (data : List Byte) : State × Bool :=
  let c := s.ctx q
  if ctxOcc c < ctxCap c then (s.ringPut q c data, true)
  else (s.setCtx q (cbump c cDrops 1), false)

/-- The parity bit of a word of item i: the XOR of its bits and the lap bit (R315). -/
def noticeParity (c : BitVec 512) (i word : Nat) : Nat :=
  ((List.range 64).foldl (fun n k => n + word / 2 ^ k % 2) (i / 2 ^ cget c cDepth % 2)) % 2

/-- Where the parity bit of word w of item i lies: its byte after the body, and its bit. -/
def parityAt (q : Nat) (c : BitVec 512) (i w : Nat) : Nat × Nat :=
  let n := (entryOff c i) / 8 + w
  (bodyAt q c + ctxCap c * ctxSize c + n / 8, n % 8)

/-- Store item i of a NOTICE FIFO with its parity bits (R315). -/
def State.noticeStore (s : State) (q : Nat) (c : BitVec 512) (i : Nat) (data : List Byte) : State :=
  let at0 := bodyAt q c + entryOff c i
  let s1 := s.writeHbm at0 (padTo (ctxSize c) data)
  { s1 with hbm := (List.range (ctxSize c / 8)).foldl (fun m w =>
      let p := parityAt q c i w
      poke m p.1 (putBits (peek m p.1) p.2 1 (noticeParity c i (peekN m (at0 + 8 * w) 8)))) s1.hbm }

/-- a lies below b among free-running counts. -/
def below32 (a b : Nat) : Bool := a != b && sub32 b a < 2 ^ 31

/-- A producer write to a NOTICE FIFO (R316, R319): a full FIFO gives up its oldest item. -/
def State.noticeWrite (s : State) (q : Nat) (data : List Byte) : State × Bool :=
  let c := s.ctx q
  if data.length > ctxSize c then (s, false)
  else
    let occ0 := ctxOcc c
    let full := occ0 ≥ ctxCap c
    let cons := (cget c cCons + 1) % 2 ^ 32
    let c1 := if full then cbump (cput c cCons cons) cDrops 1 else c
    let skip := full && below32 (cget c1 cRd) cons
    let c2 := if skip then cput c1 cRd cons else c1
    let c3 := if full && below32 (cget c2 cMark) cons then cput (cput c2 cMark cons) cMarkLost 1 else c2
    let s1 := s.noticeStore q c3 (cget c3 cProd) data
    let s2 := if skip then (s1.set QMG_WIN_STS.WORD q 0).set QMG_WIN_STS.SKIPPED q 1 else s1
    let c4 := cput (cput c3 cProd (cget c3 cProd + 1)) cLastTime (s.timeOf (qidRegion q))
    let s3 := s2.setCtx q c4
    let level := cget c cLevel
    (if level != 0 && cget c cIrqEn = 1 && !full && occ0 + 1 = level then s3.ownerIrq q c4 else s3, true)

/-- A capture item written to a ring or a FIFO by the KZ64 (R309, R316): whether it was taken. -/
def State.produce (s : State) (q : Nat) (data : List Byte) : State × Bool :=
  let c := s.ctx q
  if isNotice c then s.noticeWrite q data
  else if isRing c && data.length ≤ ctxSize c then
    let (s1, ok) := s.ringWrite q data
    if ok then (s1, true) else (s1.qmgError q 3 1, false)
  else (s, false)

end Sys2Proof.Machine
end

