-- ==== Sys2Proof/Machine/TrafficOps.lean ====
section
/-! DEFINITION. Policers, shapers and gate lists as the switch core uses them (R224–R230, R234–R236). -/
namespace Sys2Proof.Machine
open Sys2Proof

/-- A bucket filled up to a time at a rate in quarter bytes per µs, and no further than a size in bytes (R225, R230): the fraction of
a byte is kept while it is not full. -/
def Bucket.fill (b : Bucket) (now rate4 size : Nat) : Bucket :=
  let part := b.frac + rate4 * (now - b.since)
  let t := b.tokens + (part / 4000 : Nat)
  if t ≥ (size : Int) then ⟨size, 0, now⟩ else ⟨t, part % 4000, now⟩

/-- Policer n filled up to now (R225). -/
def State.policer (s : State) (n : Nat) : Bucket :=
  (Tab.get {} s.tfc.pol n).fill (s.timeOf (n / 2048)) (4 * s.get TFC_POL_CFG.RATE n) (256 * s.get TFC_POL_CFG.BURST n)

/-- Replace a policer's bucket. -/
def State.setPolicer (s : State) (n : Nat) (b : Bucket) : State :=
  { s with tfc := { s.tfc with pol := Tab.put {} s.tfc.pol n b } }

/-- The policer of region r attached to a KIND and ID (R224, R228). -/
def State.policerOf (s : State) (r kind ident : Nat) : Option Nat :=
  ((s.regs.filter (fun x => x.1 / 2 ^ 24 == Reg.TFC_POL_ATT.ctorIdx && x.1 % 2 ^ 24 / 2048 == r)).find?
    (fun x => bits x.2 0 1 == 1 && bits x.2 1 2 == kind && bits x.2 3 20 == ident)).map (fun x => x.1 % 2 ^ 24)

/-- A cell conforms to a policer (R225). -/
def State.conforms (s : State) (n : Nat) : Bool := s.get TFC_POL_CFG.RATE n != 0 && (s.policer n).tokens ≥ 256

/-- A conforming cell takes 256 tokens (R225). -/
def State.takeTokens (s : State) (n : Nat) : State :=
  let b := s.policer n
  s.setPolicer n { b with tokens := b.tokens - 256 }

/-- A cell that a policer drops is counted as its chaff (R225). -/
def State.chaff (s : State) (n : Nat) : State := (s.bump TFC_POL_CHAFF.CELLS n 1).count (n / 2048) 0x13 0 1

/-! Shapers (R229, R230). -/

/-- The supply warning flag of slot power, or of rail 0 or 1 with THROTTLE_EN: shapers run at a quarter of their rate (R230,
R444). -/
def State.throttled (s : State) : Bool :=
  s.flag SPW_BUS_STS.WARN 0 || (s.flag CRS_SUP_CTL.THROTTLE_EN 0 && s.get CRS_SUP_STS.WARN 0 % 4 != 0)

/-- The rate of a channel's shaper now in quarter bytes per µs, none when it is unshaped (R229, R230). -/
def State.shaperRate (s : State) (c : Nat) : Option Nat :=
  let rate := s.get TFC_SHP_CFG.RATE c
  if s.throttled then some (if rate = 0 then 4 * 14500 else rate) else if rate = 0 then none else some (4 * rate)

/-- The bucket of a channel's shaper filled up to now (R229). DESIGN CHOICE: the spec gives no token count at reset, nor while the
channel is unshaped; the bucket starts empty, and none accrue while it is unshaped (log entry 83). -/
def State.shaper (s : State) (c : Nat) : Bucket :=
  let b := Tab.get {} s.tfc.shp c
  b.fill (s.timeOf (c / 16)) ((s.shaperRate c).getD 0) (256 * s.get TFC_SHP_CFG.BURST c)

/-- Every shaper is filled up to now at the rate in force, before a change of that rate (R230). -/
def State.settleShapers (s : State) : State :=
  (List.range 64).foldl (fun s c =>
    { s with tfc := { s.tfc with shp := Tab.put {} s.tfc.shp c (s.shaper c) } }) s

/-- Charge a channel's shaper with n bytes (R229): none when it must wait. A full bucket lets any charge pass. -/
def State.charge (s : State) (c n : Nat) : Option State :=
  match s.shaperRate c with
  | none => some s
  | some _ =>
    let b := s.shaper c
    if b.tokens ≥ (n : Int) || b.tokens ≥ (256 * s.get TFC_SHP_CFG.BURST c : Nat) then
      some { s with tfc := { s.tfc with shp := Tab.put {} s.tfc.shp c { b with tokens := b.tokens - n } } }
    else none

/-! Gate lists (R234). -/

/-- The entry index m of entry e of bank b of a port (R240). -/
def gateKey (p b e : Nat) : Nat := 128 * p + 64 * b + e

/-- The active bank and the number of its entries. -/
def State.gateBank (s : State) (p : Nat) : Nat := s.get TFC_GATE_CTL.ACTIVE p
def State.gateLen (s : State) (p : Nat) : Nat :=
  (if s.gateBank p = 0 then s.get TFC_GATE_CTL.LEN0 p else s.get TFC_GATE_CTL.LEN1 p) + 1

/-- The durations of the active bank. -/
def State.gateDurs (s : State) (p : Nat) : List Nat :=
  (List.range (s.gateLen p)).map (fun e => s.get TFC_GATE_DUR.DUR_NS (gateKey p (s.gateBank p) e))

/-- The entry in which an offset into the cycle falls. -/
def entryAt : List Nat → Nat → Nat
  | [], _ => 0
  | d :: ds, x => if x < d then 0 else 1 + entryAt ds (x - d)

/-- The entry applied at fabric time t (R234): t − BASE as a signed 64-bit difference, modulo the cycle. -/
def State.gateEntryAt (s : State) (p t : Nat) : Nat :=
  let ds := s.gateDurs p
  let base := Tab.get 0 s.tfc.base p
  entryAt ds (signedOf 64 ((t + 2 ^ 64 - base % 2 ^ 64) % 2 ^ 64) % (ds.sum : Int)).toNat

/-- The classes open on an output at fabric time t: every class while EN is 0 (R234), and after an uncorrectable error in the list until
firmware loads a new bank (R239). -/
def State.gateMaskAt (s : State) (p t : Nat) : Nat :=
  if s.flag TFC_GATE_CTL.EN p && !Tab.get false s.tfc.gateLost p then s.get TFC_GATE_MASK.OPEN (gateKey p (s.gateBank p) (s.gateEntryAt p t)) else 0xFF

/-- A class is open on an output now (R236). -/
def State.gateOpen (s : State) (p tc : Nat) : Bool := (s.gateMaskAt p (s.timeOf (p / 16))).testBit tc

end Sys2Proof.Machine
end

