-- ==== Sys2Proof/Machine/Zwius.lean ====
section
/-! DEFINITION. What travels on a Zwius link: flow units with their CRC-64, control units with their CRC-16, and the 64-byte blocks in
which the two are interleaved (R278–R284, R295). -/
namespace Sys2Proof.Machine
open Sys2Proof

/-- The state of a Zwius link, and its replacement. -/
def State.zwl (s : State) (z : Nat) : ZwlState := Tab.get {} s.ll.zwl z
def State.setZwl (s : State) (z : Nat) (v : ZwlState) : State := { s with ll := { s.ll with zwl := Tab.put {} s.ll.zwl z v } }

/-! CRCs (R282, R284). The spec does not say in which order the bits of a byte enter: the highest first (DESIGN CHOICE, log
entry 89). -/

/-- One byte more of a CRC of width w ≥ 8. -/
def crcMsb (w poly c : Nat) (b : Byte) : Nat :=
  (List.range 8).foldl (fun c _ => if c.testBit (w - 1) then (2 * c % 2 ^ w) ^^^ poly else 2 * c) (c ^^^ (b.toNat * 2 ^ (w - 8)))

/-- The CRC of a flow unit: over its number, low byte first, and bytes 0–241. -/
def unitCrc (num : Nat) (body : List Byte) : Nat :=
  (leBytes 3 num ++ body).foldl (crcMsb 64 0x42F0E1EBA9EA3693) (2 ^ 64 - 1) ^^^ (2 ^ 64 - 1)

/-- The CRC of a control unit: over bytes 0–13. -/
def ctlCrc (bs : List Byte) : Nat := bs.foldl (crcMsb 16 0x1021) 0xFFFF

/-! Flow units (R280, R281, R283). -/

/-- KIND values. -/
def unitIdle : Nat := 0
def unitData : Nat := 1
def unitInit : Nat := 2

/-- Bytes 0–241 of a flow unit: header, routing slot and message slots. -/
def unitBody (kind tc dest : Nat) (rslot slots : List Byte) : List Byte :=
  leBytes 2 (kind + 4 * tc + 32 * dest) ++ (rslot ++ List.replicate (16 - rslot.length) 0).take 16
    ++ (slots ++ List.replicate (224 - slots.length) 0).take 224

/-- A flow unit without its FEC: its body and its CRC. -/
def unitSummed (num : Nat) (body : List Byte) : List Byte := body ++ leBytes 8 (unitCrc num body)

/-- The 256 bytes of a flow unit, and its four FLOW blocks. -/
def unitBytes (num : Nat) (body : List Byte) : List Byte :=
  unitSummed num body ++ leBytes 6 (Config.unitFec (unitSummed num body)).toNat
def quarters (bs : List Byte) : List (List Byte) := (List.range 4).map (fun k => (bs.drop (64 * k)).take 64)

/-- The slots that the pool requests of a cell take, first slot and length: a header, and for a write its four data slots. -/
def slotRuns : Nat → List ReqOut → List (Nat × Nat × ReqOut)
  | _, [] => []
  | k, q :: qs => (k, if q.write then 5 else 1, q) :: slotRuns (k + (if q.write then 5 else 1)) qs

/-- The routing slot of a cell (R281): the unit and ingress port, the cache index of each message's slots, whether they are sent again,
which slots continue a message, and the epoch of the sending region. -/
def routingSlot (src epoch : Nat) (again : Bool) (reqs : List ReqOut) : List Byte :=
  let runs := slotRuns 1 reqs
  let per (f : Nat → Nat → ReqOut → Nat) : Nat := (runs.map (fun r => ((List.range r.2.1).map (fun i => f (r.1 + i) i r.2.2)).sum)).sum
  leBytes 16 (src
    + per (fun k _ q => q.agent.toNat % 4 * 2 ^ (2 * k + 6))
    + (if again then per (fun k _ _ => 2 ^ (35 + k)) else 0)
    + per (fun k i _ => if i = 0 then 0 else 2 ^ (49 + k))
    + epoch % 2 ^ 16 * 2 ^ 64)

/-- A unit waits for the wire: one that is sent again goes ahead of every new one (R291). -/
def State.sendUnit (s : State) (z : Nat) (num : Option Nat) (again : Bool) (bs : List Byte) : State :=
  let l := s.zwl z
  let (back, new) := l.units_.partition (fun u => u.again)
  let u : ZwlUnit := ⟨num, again, bs⟩
  s.setZwl z { l with units_ := if again then back ++ u :: new else l.units_ ++ [u] }

/-- The bytes of a DATA unit that carries a cell. -/
def State.dataUnit (s : State) (num : Nat) (c : Cell) : List Byte :=
  let again := c.msg.any (fun m => match m with
    | .repeat_ .. => true
    | _ => false)
  let slot := routingSlot (64 * s.unit + c.source % 64) (match c.epoch with | some (_, e) => e | none => 0) again c.reqs
  unitBytes num (unitBody unitData c.tc c.dest slot c.data)

/-- An IDLE unit, and an INIT unit, whose payload bytes 2 and 3 name the sender (R295); the spec gives an INIT unit no number: 0 is
summed (DESIGN CHOICE, log entry 89). -/
def idleUnit (num : Nat) : List Byte := unitBytes num (unitBody unitIdle 0 0 [] [])
def State.initUnit (s : State) (z : Nat) : List Byte :=
  let p := 16 * (z / 2) + 14 + z % 2
  unitBytes 0 (leBytes 2 unitInit ++ leBytes 2 (s.unit + 256 * (p + (if s.flag PRT_PORT_STS.GANGED p then 64 else 0))) ++ List.replicate 238 0)

/-! Control units (R284). -/

/-- A control unit: its bytes 0–13 as one number, and its CRC. -/
def ctlUnit (v : Nat) : List Byte := leBytes 14 v ++ leBytes 2 (ctlCrc (leBytes 14 v))
/-- NOP. -/
def ctlNop : List Byte := ctlUnit 0

/-- The fields of a control unit by type. Its arguments: 1 ACK SEQ; 2 NAK SEQ and TRY; 3 REQ and 4 GRANT 8 DEST + TC and COUNT; 5 TIME
PHASE + 4 ID and T3 + 2^64 TURN; 6 LINK SUB and LANE + 16 SEQ. -/
def ctlFields (type a b : Nat) : Nat :=
  type + match type with
  | 1 => a * 2 ^ 8
  | 2 => a * 2 ^ 8 + b * 2 ^ 32
  | 3 => a / 8 * 2 ^ 8 + a % 8 * 2 ^ 15 + b * 2 ^ 18
  | 4 => a / 8 * 2 ^ 8 + a % 8 * 2 ^ 15 + b * 2 ^ 18
  | _ => a * 2 ^ 8 + b * 2 ^ 16

/-- A control unit is sent: it waits for the next CTRL block. -/
def State.zwlCtl (s : State) (z type a b : Nat) : State :=
  (s.setZwl z { s.zwl z with ctl := (s.zwl z).ctl ++ [ctlUnit (ctlFields type a b)] }).emit (.zwl z type a b)

/-- A control or IDLE unit is sent while cells wait for the port: a wasted slot (R493). -/
def State.wasteSlot (s : State) (z : Nat) : State :=
  let p := 16 * (z / 2) + 14 + z % 2
  if (List.range 8).any (fun i => Tab.get [] s.swc.merge (8 * p + i) != []) then s.countPort p 1 1 else s

/-! Blocks (R278, R279). -/

/-- The next block of a link: a CTRL block where control units wait and the last block was not one, four units filled up with NOP;
else the next quarter of the unit being sent, or of the next one. -/
def State.sendBlock (s : State) (z : Nat) : State :=
  let l := s.zwl z
  if l.ctl != [] && !l.ctlLast then
    ((s.setZwl z { l with ctl := l.ctl.drop 4, ctlLast := true }).wasteSlot z).emit
      (.block z 2 ((l.ctl.take 4 ++ List.replicate (4 - (l.ctl.take 4).length) ctlNop).flatMap id))
  else match l.tx with
    | q :: rest => (s.setZwl z { l with tx := rest, ctlLast := false }).emit (.block z 1 q)
    | [] => match l.units_ with
      | [] => s
      | u :: us => match quarters u.bytes with
        | [] => s
        | q :: rest => (s.setZwl z { l with units_ := us, tx := rest, ctlLast := false }).emit (.block z 1 q)

/-- A link with no unit to send sends INIT units until the peer's has come, and IDLE units from then on, each of which takes a number
(R283, R292, R295, R296). -/
def State.fillLink (s : State) (z : Nat) : State :=
  let l := s.zwl z
  if l.tx != [] || l.units_ != [] then s
  else match s.get ZWL_STS.STATE z with
    | 0 => s
    | 1 => s.sendUnit z none false (s.initUnit z)
    | _ =>
      let n := s.get ZWL_STS.TX_SEQ z
      ((s.sendUnit z (some n) false (idleUnit n)).set ZWL_STS.TX_SEQ z ((n + 1) % 2 ^ 24)).wasteSlot z

/-- A word time of a link: one block, and two on a link of x16 (R278). -/
def State.wordTime (s : State) (z : Nat) : State :=
  if s.get ZWL_STS.STATE z = 0 then s
  else
    let s1 := (s.fillLink z).sendBlock z
    if s.flag PRT_PORT_STS.GANGED (16 * (z / 2) + 14 + z % 2) then (s1.fillLink z).sendBlock z else s1

/-! What arrives (R278, R280, R283). -/

/-- A value that more than half of a block's lanes give as their type. -/
def majority (types : List (BitVec 2)) : Option (BitVec 2) :=
  [0, 1, 2, 3].find? (fun v => Nat.blt types.length (2 * types.count v))

/-- A block is a CTRL block; any other is a FLOW block. -/
def blockCtrl (b : WireBlock) : Bool := majority b.types == some 2
/-- A FLOW block is in error unless the majority of its lanes says FLOW. -/
def blockFlow (b : WireBlock) : Bool := majority b.types == some 1

/-- The FLOW blocks of a unit, whatever CTRL blocks fall between them, and their bytes. -/
def unitFlow (u : WireUnit) : List WireBlock := u.blocks.filter (fun b => !blockCtrl b)
def unitWire (u : WireUnit) : List Byte := (unitFlow u).flatMap (fun b => b.bytes)

/-- The flow unit in received bytes: none where the header is invalid, and nothing for an INIT unit, which takes no number. -/
def parseUnit (u : WireUnit) : Option (Option FlowUnit) :=
  let bs := unitWire u
  let h := leNat (bs.take 2)
  if h % 4 = 3 || (h / 32) % 128 > 67 || h / 4096 != 0 then none
  else match h % 4 with
    | 0 => some (some .idle)
    | 1 => some (some (.data (Fin.ofNat 8 (h / 4)) (Fin.ofNat 68 (h / 32 % 128)) (BitVec.ofNat 8 (leNat ((bs.drop 2).take 1)))
        ((bs.drop 18).take 224) u.ring))
    | _ => some none

/-- A unit in place `num` of the sequence as it is received: bad where a FLOW block is in error, its FEC cannot correct it, its CRC fails
or its header is invalid (R278, R283). -/
def unitReceived (num : Nat) (u : WireUnit) : Option (Option FlowUnit) :=
  let bs := unitWire u
  if u.fec && (unitFlow u).all (fun b => blockFlow b) && (unitFlow u).length == 4 && bs.length == 256 &&
      leNat ((bs.drop 242).take 8) == unitCrc num (bs.take 242) then parseUnit u
  else none

end Sys2Proof.Machine
end

