-- ==== Sys2Proof/Machine/SwitchOps.lean ====
section
/-! DEFINITION. Cells through the switch core: admission to VOQs and HBM overflow, Gleaner sampling, outputs out of service,
merge stages, spine paths and resequencers (R184–R209, R215–R217). -/
namespace Sys2Proof.Machine
open Sys2Proof

/-- The key of a VOQ, and of a flow (R186, R187). -/
def voqKey (p out tc : Nat) : Nat := 512 * p + 8 * out + tc
/-- The region in which a source index lies (R186). -/
def sourceRegion (src : Nat) : Nat := if src < 64 then src / 16 else src - 64
/-- The key of a flow (R186): outputs 64–67 stand for the queue managers of regions A–D, where Gleaner cells go (R216). -/
def flowKey (src out tc : Nat) : Nat := 1024 * src + 8 * out + tc
def Cell.flow (c : Cell) : Nat := flowKey c.source c.out c.tc
/-- The region of an output. -/
def outRegion (out : Nat) : Nat := if out < 64 then out / 16 else out - 64

/-- Change the switch core's own state. -/
def State.sw (s : State) (f : SwcState → SwcState) : State := { s with swc := f s.swc }

/-- An output is in service while its link is in L0 or Recovery (R192): from its leaving L0 for another state, or for TEST, until it is
next in L0. -/
def State.inService (s : State) (p : Nat) : Bool :=
  s.get PRT_PORT_STS.STATE p == 4 || s.get PRT_PORT_STS.STATE p == 5

/-- n cells for an output out of service are discarded (R192). -/
def State.downDrop (s : State) (p n : Nat) : State := s.bump SWC_DOWN_DROP.CELLS p n

/-! Merge stages (R186). -/

/-- The ZL port of Zwius index z, and the index of a ZL port (R299). -/
def zPort (z : Nat) : Nat := 16 * (z / 2) + 14 + z % 2
def zIndex (p : Nat) : Nat := 2 * (p / 16) + (p % 16 - 14)

/-- The output for cells toward an output: itself, or while its Zwius link is down another link to the unit that it last reached
(R153). -/
def State.rerouted (s : State) (out : Nat) : Nat :=
  if s.role out = 3 && !s.inService out then
    match (List.range 8).find? (fun z => Tab.get 0 s.cat.peer z != 0 &&
        Tab.get 0 s.cat.peer z == Tab.get 0 s.cat.lastPeer (zIndex out) && s.inService (zPort z)) with
    | some z => zPort z
    | none => out
  else out

/-- A port's link is in replay (R145): a hole in what it received is open, or something it sent again is not yet acknowledged. -/
def State.inReplay (s : State) (p : Nat) : Bool :=
  if s.role p = 3 then
    let l := s.zwl (zIndex p)
    l.goback.isSome || l.again != [] || l.holes != [] || l.lost.isSome || l.held != []
  else
    let l : LnkState := Tab.get {} s.ll.lnk p
    l.std || l.naks != [] || l.held != [] || l.again != []

/-- A cell queued for a Zwius output raises its flow's total, and a REQ is sent (R288). -/
def State.zwlQueue (s : State) (c : Cell) : State :=
  if s.role c.out = 3 then
    let z := zIndex c.out
    let l := s.zwl z
    let f := 8 * c.dest + c.tc
    let n := (Tab.get 0 l.queued f + 1) % 2 ^ 16
    (s.setZwl z { l with queued := Tab.put 0 l.queued f n }).zwlCtl z 0x03 f n
  else s

/-- A cell enters its output's merge stage from an input: 0 the crossbar, 1 to 4 regions A to D, 5 the internal sources. -/
def State.mergePut (s : State) (input : Nat) (c : Cell) : State :=
  (s.zwlQueue c).sw fun w => { w with merge := Tab.put [] w.merge (8 * c.out + input) (Tab.get [] w.merge (8 * c.out + input) ++ [c]) }

/-- A cell for an output out of service is discarded and counted, a response or snoop of the home toward a UP port by R147 as well
(R192). -/
def State.dropCell (s : State) (c : Cell) : State :=
  let s1 := s.downDrop c.out 1
  if s.role c.out = 1 && c.source ≥ 64 && c.tc ≥ 6 then s1.bump CAT_DROP_STS.RSP_DROPPED (c.out / 16) 1 else s1

/-! The Gleaner (R215–R217). -/

/-- A selector matches a cell (R215). -/
def State.selects (s : State) (n p : Nat) (c : Cell) : Bool :=
  s.flag SWC_GLN_CTL.EN n && (s.flag SWC_GLN_CTL.IN_ANY n || s.get SWC_GLN_CTL.IN_PORT n == p)
    && (s.flag SWC_GLN_CTL.OUT_ANY n || s.get SWC_GLN_CTL.OUT_PORT n == c.out)
    && (s.flag SWC_GLN_CTL.TC_ANY n || s.get SWC_GLN_CTL.TC n == c.tc)

/-- The bytes of a sample: the 16-byte header, whose LOST is filled in when the sample is delivered, and the cell's first 64 bytes
(R216). -/
def sampleBytes (time n : Nat) (c : Cell) (hbm : Bool) (seq count : Nat) : List Byte :=
  let h := time % 2 ^ 48 + c.source * 2 ^ 48 + c.out * 2 ^ 55 + c.tc * 2 ^ 61 + n % 16 * 2 ^ 64 + n / 16 * 2 ^ 68
    + (if hbm then 2 ^ 70 else 0) + seq * 2 ^ 96 + count % 2 ^ 16 * 2 ^ 112
  (List.range 16).map (fun k => BitVec.ofNat 8 (h / 256 ^ k)) ++ padTo 64 c.data

/-- LOST in the header of a sample. -/
def stampLost (data : List Byte) (lost : Nat) : List Byte := data.take 10 ++ leBytes 2 lost ++ data.drop 12

/-- A sample is lost (R217). -/
def State.sampleLost (s : State) (n : Nat) : State :=
  (s.bump SWC_GLN_STS.LOST n 1).sw fun w =>
    { w with glnLost := Tab.put 0 w.glnLost n (satAdd 16 (Tab.get 0 w.glnLost n) 1) }

/-- A sample is written to its queue (R216, R217): the record that the capture queue takes carries LOST, which restarts; its copy in
the notice FIFO carries the same value (DEDUCED, log entry 78). -/
def State.sampleWrite (s : State) (n q : Nat) (capture : Bool) (data : List Byte) : State :=
  let lost := if capture then Tab.get 0 s.swc.glnLost n else Tab.get 0 s.swc.glnSent n
  let (s1, ok) := (s.useCtx q).produce q (stampLost data lost)
  if !capture then s1
  else if ok then (s1.bump SWC_GLN_STS.SAMPLES n 1).sw fun w =>
    { w with glnLost := Tab.put 0 w.glnLost n 0, glnSent := Tab.put 0 w.glnSent n lost }
  else s1.sampleLost n

/-- A sample reaches the queue manager of its queue's region: written at once, or when the context's fill ends (R320). -/
def State.sampleItem (s : State) (n q : Nat) (capture : Bool) (data : List Byte) : State :=
  if s.cached q then s.sampleWrite n q capture data
  else s.waitCtx q (.item q data (.gleaner (if capture then n else 64 + n)))

/-- A cell leaves the crossbar, the spine or a resequencer (R186, R192, R216): it enters its output's merge stage, or is discarded
while the output is out of service; a Gleaner cell reaches the queue manager. -/
def State.toMerge (s : State) (input : Nat) (c : Cell) : State :=
  match c.item with
  | some (n, q, capture) => s.sampleItem n q capture c.data
  | none => if s.inService c.out then s.mergePut input c else s.dropCell c

/-- A sample travels on TC0 as a Gleaner cell of its region's internal source to the region of its queue, over the spine where
that is another region (R186, R216). -/
def State.sampleSend (s : State) (r n q : Nat) (capture : Bool) (data : List Byte) : State :=
  let c : Cell := { source := 64 + r, out := 64 + qidRegion q, tc := 0, data := data, since := s.timeOf r, item := some (n, q, capture) }
  if qidRegion q = r then s.toMerge 5 c
  else s.sw fun w => { w with spine := Tab.put [] w.spine (4 * r + qidRegion q) (Tab.get [] w.spine (4 * r + qidRegion q) ++ [c]) }

/-- The number that a cell admitted to a VOQ will carry: its flow's next, after the cells of the flow ahead of it; 0 for a
same-region cell (R202, R216). -/
def State.seqToCome (s : State) (p : Nat) (c : Cell) : Nat :=
  if c.out / 16 = p / 16 then 0
  else
    let ahead := (Tab.get [] s.swc.voq (voqKey p c.out c.tc)).length + (Tab.get [] s.swc.ovf (voqKey p c.out c.tc)).length
      + ((Tab.get [] s.swc.spine (4 * (p / 16) + c.out / 16)).filter (fun x => x.flow == c.flow)).length
    (Tab.get 0 s.swc.txseq c.flow + ahead) % 2 ^ 16

/-- A sample goes to the capture queue, and with NOTICE_EN to the notice FIFO (R216). -/
def State.sampleOut (s : State) (n : Nat) (data : List Byte) : State :=
  let s1 := s.sampleSend (n / 16) n (s.get SWC_GLN_Q.LIB_QID n) true data
  if s1.flag SWC_GLN_CTL.NOTICE_EN n then s1.sampleSend (n / 16) n (s1.get SWC_GLN_NQ.NOTICE_QID n) false data else s1

/-- A sample of a cell by selector n: dropped by a GLEANER policer or a full overflow area, else sent to its queues (R216,
R217). -/
def State.gleanCell (s : State) (n p : Nat) (c : Cell) (hbm : Bool) (seq : Nat) : State :=
  let total := Tab.get 0 s.swc.glnAll n + 1
  let s1 := s.sw fun w => { w with glnAll := Tab.put 0 w.glnAll n total }
  let data := sampleBytes (s1.timeOf (n / 16)) n c hbm seq total
  if s1.get SWC_OVF_STS.CELLS p ≥ 524288 then s1.sampleLost n
  else
    match s1.policerOf (n / 16) 3 (n % 16) with
    | some k => if s1.conforms k then (s1.takeTokens k).sampleOut n data else (s1.chaff k).sampleLost n
    | none => s1.sampleOut n data

/-- The selectors of the region count a cell at its admission, and every Nth is sampled (R215). -/
def State.glean (s : State) (p : Nat) (c : Cell) (hbm : Bool) (seq : Nat) : State :=
  (List.range 16).foldl (fun s j =>
    let n := 16 * (p / 16) + j
    if s.selects n p c then
      let k := Tab.get 0 s.swc.glnCnt n + 1
      if k ≥ s.get SWC_GLN_N.N n then
        (s.sw fun w => { w with glnCnt := Tab.put 0 w.glnCnt n 0 }).gleanCell n p c hbm seq
      else s.sw fun w => { w with glnCnt := Tab.put 0 w.glnCnt n k }
    else s) s

/-! Admission (R188, R191–R195). -/

/-- Every DELAY_Nth cell of a source is marked for its delay (R238). -/
def State.markDelay (s : State) (c : Cell) : State × Cell :=
  let r := sourceRegion c.source
  if s.flag TFC_HIST_CTL.EN r then
    let k := Tab.get 0 s.tfc.delay c.source + 1
    if k ≥ s.get TFC_HIST_CTL.DELAY_N r then
      ({ s with tfc := { s.tfc with delay := Tab.put 0 s.tfc.delay c.source 0 } }, { c with born := some (s.timeOf r) })
    else ({ s with tfc := { s.tfc with delay := Tab.put 0 s.tfc.delay c.source k } }, c)
  else (s, c)

/-- A cell in SRAM: its class's count and peak (SWC_VOQ_OCC). -/
def State.voqPut (s : State) (p : Nat) (c : Cell) : State :=
  let n := 8 * p + c.tc
  let k := s.get SWC_VOQ_OCC.CELLS n + 1
  ((s.set SWC_VOQ_OCC.CELLS n k).raise SWC_VOQ_OCC.PEAK n k).sw fun w =>
    { w with voq := Tab.put [] w.voq (voqKey p c.out c.tc) (Tab.get [] w.voq (voqKey p c.out c.tc) ++ [c]) }

/-- The stack of a port's overflow area, and where a cell of it lies in the stack (R193). -/
def ovfStack (p : Nat) : Nat := 2 * (p / 16) + p % 2
def ovfAddr (p slot : Nat) : Nat := 0x540000000 + 0x8000000 * (p % 16 / 2) + 256 * slot

/-- The slots in use in a port's overflow area. -/
def State.ovfSlots (s : State) (p : Nat) : List Nat :=
  (s.swc.ovf.filter (fun e => e.1 / 512 == p)).flatMap (fun e => e.2.map (fun c => c.slot))

/-- The first slot that is free (DESIGN CHOICE: the spec gives no order of places within an area, log entry 79). -/
def State.ovfFree (s : State) (p : Nat) : Nat :=
  let used := s.ovfSlots p
  ((List.range (used.length + 1)).find? (fun k => !used.contains k)).getD 0

/-- A cell in HBM: its bytes in its port's area, the area's count, and FULL when it fills (R193, R195). -/
def State.ovfPut (s : State) (p : Nat) (c0 : Cell) : State :=
  let c := { c0 with slot := s.ovfFree p }
  let k := s.get SWC_OVF_STS.CELLS p + 1
  let s1 := (s.set SWC_OVF_STS.CELLS p k).count (p / 16) 0x0D (p % 16) 1
  let s2 := if k = 524288 then s1.bump SWC_OVF_STS.FULL p 1 else s1
  let s3 := s2.writeHbm (hbmAt (ovfStack p) (ovfAddr p c.slot)) (padTo 256 c.data)
  s3.sw fun w =>
    { w with ovf := Tab.put [] w.ovf (voqKey p c.out c.tc) (Tab.get [] w.ovf (voqKey p c.out c.tc) ++ [c]) }

/-- The bytes of a cell as its overflow area holds them. -/
def State.ovfBytes (s : State) (p : Nat) (c : Cell) : List Byte :=
  leBytes c.data.length (peekN s.hbm (hbmAt (ovfStack p) (ovfAddr p c.slot)) c.data.length)

/-- Whether the SRAM or HBM of an input port takes a cell, and which: its VOQ stays first in, first out (R188, R193, R194). -/
inductive Room where
  | sram | hbm | none
deriving DecidableEq, Repr

def State.room (s : State) (p : Nat) (c : Cell) : Room :=
  let inHbm := Tab.get [] s.swc.ovf (voqKey p c.out c.tc) != []
  if s.get SWC_VOQ_OCC.CELLS (8 * p + c.tc) < s.get SWC_VOQ_LIM.LIMIT (8 * p + c.tc) && !inHbm then .sram
  else if c.tc ≤ 2 && s.get SWC_OVF_STS.CELLS p < 524288 then .hbm
  else .none

/-- VOQ_ADMIT, OVERFLOW_SPILL (R188, R192–R195): the cell of an input port is taken, or none when its class is held. -/
def State.voqAdmit (s : State) (p : Nat) (c0 : Cell) : Option State :=
  let c := { c0 with out := s.rerouted c0.out, since := s.timeOf (p / 16) }
  if !s.inService c.out then some (s.dropCell c)
  else
    match s.room p c with
    | .none => none
    | room =>
      let seq := s.seqToCome p c
      let (s1, c1) := s.markDelay c
      let s2 := (s1.countPort p (12 + c.tc) 1).countPort p 21 c.data.length
      some ((if room = .sram then s2.voqPut p c1 else s2.ovfPut p c1).glean p c1 (room == .hbm) seq)

/-- The credits of a cell's messages go back to the peer of a UP or DN port (R267). -/
def State.creditBack (s : State) (p : Nat) (need : List Nat) : State :=
  if s.role p == 1 || s.role p == 2 then
    need.foldl (fun s ch =>
      let l := Tab.get {} s.ll.lnk p
      let l1 := { l with spent := Tab.put 0 l.spent ch (Tab.get 0 l.spent ch - 1) }
      ({ s with ll := { s.ll with lnk := Tab.put {} s.ll.lnk p l1 } }).emit (.link p 3 ch)) s
  else s

/-- Cells that an input port received while their class was held are admitted in order as space frees, class by class
(R191). -/
def State.admitHeld (s : State) (p : Nat) : State :=
  let cells := Tab.get [] s.swc.held p
  let (s1, kept) := cells.foldl (fun (x : State × List Cell) c =>
    if x.2.any (fun k => k.tc == c.tc) then (x.1, x.2 ++ [c])
    else match x.1.voqAdmit p c with
      | some t => (t.creditBack p c.need, x.2)
      | none => (x.1, x.2 ++ [c])) (s, [])
  s1.sw fun w => { w with held := Tab.put [] w.held p kept }

/-- A cell arrives at an input port: admitted with its credits returned, or held with them withheld (R191, R267). -/
def State.arrive (s : State) (p : Nat) (c : Cell) : State :=
  let held := Tab.get [] s.swc.held p
  let keep (s : State) := s.sw fun w => { w with held := Tab.put [] w.held p (held ++ [c]) }
  if held.any (fun k => k.tc == c.tc) then keep s
  else match s.voqAdmit p c with
    | some t => t.creditBack p c.need
    | none => keep s

/-- The oldest SRAM cell of a VOQ leaves it, and what its class held back is admitted. -/
def State.voqPop (s : State) (p out tc : Nat) : Option (Cell × State) :=
  match Tab.get [] s.swc.voq (voqKey p out tc) with
  | [] => none
  | c :: cs =>
    let s1 := (s.set SWC_VOQ_OCC.CELLS (8 * p + tc) (s.get SWC_VOQ_OCC.CELLS (8 * p + tc) - 1)).sw fun w =>
      { w with voq := Tab.put [] w.voq (voqKey p out tc) cs }
    some (c, s1.admitHeld p)

/-- The VOQs, overflow area and held cells of an input port are emptied (R447, port scope). -/
def State.emptyInput (s : State) (p : Nat) : State :=
  let s1 := (List.range 8).foldl (fun s c => s.set SWC_VOQ_OCC.CELLS (8 * p + c) 0) (s.set SWC_OVF_STS.CELLS p 0)
  s1.sw fun w =>
    { w with voq := w.voq.filter (fun e => e.1 / 512 != p)
             ovf := w.ovf.filter (fun e => e.1 / 512 != p)
             held := Tab.put [] w.held p [] }

/-! The spine (R199–R209). Path k from region a to region b is 2 (4a + b) + k. -/

def pairKey (a b : Nat) : Nat := 4 * a + b
def pathKey (a b k : Nat) : Nat := 2 * (4 * a + b) + k

/-- The mode of an ordered pair (R203): 0 ORDERED, 1 SPRAY_ENTRY, 2 SPRAYED, 3 SPRAY_EXIT. -/
def State.spray (s : State) (a b : Nat) : Nat := s.get SWC_SPN_STS.MODE a / 4 ^ b % 4

/-- Set it, with ACTIVE of region b's resequencers. -/
def State.setSpray (s : State) (a b v : Nat) : State :=
  let m := s.get SWC_SPN_STS.MODE a
  let s1 := s.set SWC_SPN_STS.MODE a (m - s.spray a b * 4 ^ b + v * 4 ^ b)
  let on := [0, 1, 2, 3].any (fun x => x != b && s1.spray x b ≥ 2)
  (List.range 16).foldl (fun s i => s.set SWC_RSQ_STS.ACTIVE (16 * b + i) (if on then 1 else 0)) s1

/-- A path works (SWC_SPN_STS.PATH_FAIL). -/
def State.pathUp (s : State) (a b k : Nat) : Bool := !(s.get SWC_SPN_STS.PATH_FAIL a).testBit (2 * b + k)

/-- The fixed path of a cell's flow (R199): the other one once it has failed. -/
def State.fixedPath (s : State) (a b : Nat) (c : Cell) : Nat :=
  let k := (c.source + c.out + c.tc) % 2
  if s.pathUp a b k then k else 1 - k

/-- A pair starts SPRAY_EXIT: an EXIT mark on every working path (R207). -/
def State.startExit (s : State) (a b : Nat) : State :=
  let s1 := s.setSpray a b 3
  let s2 := s1.sw fun w => { w with marks := Tab.put [] w.marks (pairKey a b) [] }
  [0, 1].foldl (fun s k =>
    if s.pathUp a b k then
      s.sw fun w => { w with flight := Tab.put [] w.flight (pathKey a b k) (Tab.get [] w.flight (pathKey a b k) ++ [none]) }
    else s) s2

/-- No cell sent again under R208 is still unsent or unacknowledged. -/
def State.resendOver (s : State) (a b : Nat) : Bool :=
  Tab.get [] s.swc.resend (pairKey a b) == [] &&
    [0, 1].all (fun k => (Tab.get [] s.swc.replay (pathKey a b k)).all (fun e => !e.2))

/-- A pair in SPRAY_EXIT becomes ORDERED once its conditions hold (R207), and enters again where FORCE_SPRAY is set. -/
def State.exitIfDone (s : State) (a b : Nat) : State :=
  let marks := Tab.get [] s.swc.marks (pairKey a b)
  if s.spray a b = 3 && [0, 1].all (fun k => !s.pathUp a b k || marks.contains k) && s.resendOver a b &&
      (List.range 16).all (fun i => (Tab.get [] s.swc.window (16 * b + i)).all (fun c => sourceRegion c.source != a)) then
    s.setSpray a b (if (s.get SWC_SPN_CTL.FORCE_SPRAY a).testBit b then 1 else 0)
  else s

/-- Deliver the held cells of a flow that follow in unbroken sequence (R204); a number whose cell was discarded at the output out of
service is no hole, and is passed over (R205). -/
def State.drainWindow (fuel : Nat) (s : State) (a : Nat) (f : Nat) (p : Nat) : State :=
  match fuel with
  | 0 => s
  | n + 1 =>
    let e := Tab.get 0 s.swc.rxseq f
    if (Tab.get [] s.swc.skipped f).contains e then
      State.drainWindow n (s.sw fun w =>
        { w with skipped := Tab.put [] w.skipped f ((Tab.get [] w.skipped f).filter (fun x => x != e))
                 rxseq := Tab.put 0 w.rxseq f ((e + 1) % 2 ^ 16) }) a f p
    else match (Tab.get [] s.swc.window p).find? (fun c => c.flow == f && c.seq == e) with
    | none => s
    | some c =>
      let s1 := s.sw fun w =>
        { w with window := Tab.put [] w.window p ((Tab.get [] w.window p).filter (fun x => x != c))
                 rxseq := Tab.put 0 w.rxseq f ((e + 1) % 2 ^ 16) }
      let s2 := s1.set SWC_RSQ_STS.WINDOW p (s1.get SWC_RSQ_STS.WINDOW p - 1)
      State.drainWindow n (s2.toMerge (1 + a) c) a f p

/-- The steps that a drain of a flow's window may take. -/
def State.drainFuel (s : State) (f p : Nat) : Nat :=
  (Tab.get [] s.swc.window p).length + (Tab.get [] s.swc.skipped f).length

/-- The number of a cell discarded at an output out of service is passed over when its turn comes (R192, R205). -/
def State.skipSeq (s : State) (c : Cell) : State :=
  s.sw fun w => { w with skipped := Tab.put [] w.skipped c.flow (c.seq :: Tab.get [] w.skipped c.flow).dedup }

/-- A cell of another region reaches its output's resequencer (R204), which is bypassed in ORDERED and SPRAY_ENTRY. A Gleaner cell has
no output port, and so passes none (DEDUCED, log entry 78). -/
def State.reseq (s : State) (a b : Nat) (c : Cell) : State :=
  let e := Tab.get 0 s.swc.rxseq c.flow
  let expect (s : State) := s.sw fun w => { w with rxseq := Tab.put 0 w.rxseq c.flow ((c.seq + 1) % 2 ^ 16) }
  if s.spray a b < 2 || c.item.isSome then
    ((expect s).sw fun w => { w with skipped := Tab.put [] w.skipped c.flow [] }).toMerge (1 + a) c
  else
    let d := (c.seq + 2 ^ 16 - e) % 2 ^ 16
    if d = 0 then
      ((expect s).toMerge (1 + a) c).drainWindow (s.drainFuel c.flow c.out) a c.flow c.out
    else if d < 2 ^ 15 then
      if (Tab.get [] s.swc.window c.out).any (fun x => x.flow == c.flow && x.seq == c.seq) then s.bump SWC_RSQ_STS.DUPS c.out 1
      else if !s.inService c.out then (s.dropCell c).skipSeq c
      else if (Tab.get [] s.swc.window c.out).length < 4096 then
        ((s.sw fun w => { w with window := Tab.put [] w.window c.out (Tab.get [] w.window c.out ++ [c]) }).bump
          SWC_RSQ_STS.WINDOW c.out 1).count b 0x0F (c.out % 16) 1
      else s
    else s.bump SWC_RSQ_STS.DUPS c.out 1

/-- A path is declared failed in both directions (R33, R201, R208): the pair's cells are to be sent again on the remaining
path, or the pair has failed. -/
def State.pathFails (s : State) (a b k : Nat) : State :=
  if !s.pathUp a b k then s
  else
    let s1 := (s.setBits SWC_SPN_STS.PATH_FAIL a (2 ^ (2 * b + k))).setBits SWC_SPN_STS.PATH_FAIL b (2 ^ (2 * a + k))
    let s2 := s1.record (blockOcc (swcSet a) 4)
    if !s2.pathUp a b (1 - k) then s2.record (regionOcc (max a b) (swcSet (max a b)) 5)
    else
      [(a, b), (b, a)].foldl (fun s x =>
        let i := pathKey x.1 x.2 k
        let again := (Tab.get [] s.swc.replay i).map (fun e => e.1)
        let s := s.setSpray x.1 x.2 2
        s.sw fun w =>
          { w with resend := Tab.put [] w.resend (pairKey x.1 x.2) (Tab.get [] w.resend (pairKey x.1 x.2) ++ again)
                   replay := Tab.put [] w.replay i []
                   flight := Tab.put [] w.flight i []
                   got := Tab.put 0 w.got i 0
                   marks := Tab.put [] w.marks (pairKey x.1 x.2) [] }) s2

/-- OUTPUT_OUT_OF_SERVICE (R192): every cell queued for an output is discarded and counted; responses and snoops of the home
toward a UP port are counted by R147 as well. The numbers of cells that the window held are passed over later, and a pair whose exit
waited for the window leaves it (R205, R207). -/
def State.dropOutput (s : State) (p : Nat) : State :=
  let here := fun (k : Nat) => k / 8 % 64 == p
  let voqs := s.swc.voq.filter (fun e => here e.1)
  let ovfs := s.swc.ovf.filter (fun e => here e.1)
  let merged := (s.swc.merge.filter (fun e => e.1 / 8 == p)).flatMap (fun e => e.2)
  let windowed := Tab.get [] s.swc.window p
  let mine := fun (c : Cell) => c.out == p
  let staged := s.swc.cross.filter mine ++ (s.swc.spine.flatMap (fun e => e.2.filter mine))
    ++ (s.swc.held.flatMap (fun e => e.2.filter mine))
  let n := (voqs.map (fun e => e.2.length)).sum + (ovfs.map (fun e => e.2.length)).sum + merged.length
    + windowed.length + staged.length
  let rsp := ((merged ++ windowed ++ staged).filter (fun c => c.source ≥ 64 && c.tc ≥ 6)).length
  let s1 := voqs.foldl (fun s e =>
    let k := 8 * (e.1 / 512) + e.1 % 8
    s.set SWC_VOQ_OCC.CELLS k (s.get SWC_VOQ_OCC.CELLS k - e.2.length)) s
  let s2 := ovfs.foldl (fun s e => s.set SWC_OVF_STS.CELLS (e.1 / 512) (s.get SWC_OVF_STS.CELLS (e.1 / 512) - e.2.length)) s1
  let drop := fun (e : Nat × List Cell) => (e.1, e.2.filter (fun c => !mine c))
  let some_ := fun (e : Nat × List Cell) => e.2 != []
  let backs := s2.swc.held.map (fun e => (e.1, (e.2.filter mine).flatMap (fun c => c.need)))
  let s3 := (s2.set SWC_RSQ_STS.WINDOW p 0).sw fun w =>
    { w with voq := w.voq.filter (fun e => !here e.1)
             ovf := w.ovf.filter (fun e => !here e.1)
             merge := w.merge.filter (fun e => e.1 / 8 != p)
             window := Tab.put [] w.window p []
             cross := w.cross.filter (fun c => !mine c)
             spine := (w.spine.map drop).filter some_
             held := (w.held.map drop).filter some_ }
  let s4 := backs.foldl (fun s e => s.creditBack e.1 e.2) s3
  let s5 := if s4.role p == 1 && rsp != 0 then s4.bump CAT_DROP_STS.RSP_DROPPED (p / 16) rsp else s4
  let s6 := (windowed.filter (fun c => sourceRegion c.source != p / 16)).foldl (fun s c => s.skipSeq c) s5
  let s7 := [0, 1, 2, 3].foldl (fun s a => s.exitIfDone a (p / 16)) s6
  (List.range 64).foldl (fun s q => s.admitHeld q) (s7.downDrop p n)

/-- A cell of an internal source of region a enters the switch core (R185, R197): straight to the merge stage of its own
region's output, or to the spine. Toward an output out of service it is discarded and counted, a response or snoop toward a UP
port by R147 as well (R192). -/
def State.internalCell (s : State) (a : Nat) (c0 : Cell) : State :=
  let c := { c0 with out := s.rerouted c0.out, since := s.timeOf a }
  if !s.inService c.out then s.dropCell c
  else
    let (s1, c1) := s.markDelay c
    if c.out / 16 = a then s1.mergePut 5 c1
    else s1.sw fun w =>
      { w with spine := Tab.put [] w.spine (pairKey a (c.out / 16)) (Tab.get [] w.spine (pairKey a (c.out / 16)) ++ [c1]) }

/-! Messages of the internal sources (R185, R220). -/

/-- Where traffic for a port of a unit leaves: the port itself, or a Zwius link to the unit, with the port as its destination there
(R280). -/
def State.outFor (s : State) (u p : Nat) : Option (Nat × Nat) :=
  if u = s.unit then some (p, 0)
  else ((List.range 8).find? (fun z => Tab.get 0 s.cat.peer z == u + 1 && s.inService (zPort z))).map (fun z => (zPort z, p))

/-- The bytes of a line. -/
def lineBytes (d : LineData) : List Byte := leBytes 64 d.data.toNat

/-- A message of region r's internal sources toward a port of a unit, in its class, with the credits that it needs at a port of
this unit and its bytes. A response or snoop toward a unit that no link reaches is dropped and counted (R107, R130). -/
def State.send (s : State) (r u p tc : Nat) (need : List Nat) (m : Msg) (data : List Byte := []) : State :=
  match s.outFor u p with
  | none => if tc ≥ 6 then s.bump CAT_DROP_STS.RSP_DROPPED r 1 else s
  | some (out, far) =>
    s.internalCell r
      { source := 64 + r, out := out, dest := far, tc := tc, need := if u = s.unit then need else [], data := data, msg := [m] }

end Sys2Proof.Machine
end

