-- ==== Sys2Proof/Machine/BindOps.lean ====
section
/-! DEFINITION. Shelf records, binding groups and access rules as a lookup uses them, refusals, and the barriers that
wait for requests (R54–R62, R67–R70, R75–R80). -/
namespace Sys2Proof.Machine
open Sys2Proof

/-! The shelf record's fields (R54), as first bit and width. -/
abbrev RecFld := Nat × Nat
def rState : RecFld := (0, 2)
def rMode : RecFld := (2, 2)
def rHome : RecFld := (4, 2)
def rSanitize : RecFld := (6, 1)
def rLost : RecFld := (7, 1)
def rClass : RecFld := (8, 3)
def rGroup : RecFld := (12, 12)
def rPort : RecFld := (24, 6)
def rLd : RecFld := (30, 4)
def rDev : RecFld := (34, 20)
def rEpoch : RecFld := (64, 16)
def rAltPort : RecFld := (80, 6)
def rAltLd : RecFld := (86, 4)
def rAltDev : RecFld := (90, 20)

/-- A field of a record, and a record with a field set. -/
def rget (x : BitVec 128) (f : RecFld) : Nat := bits x f.1 f.2
def rput (x : BitVec 128) (f : RecFld) (v : Nat) : BitVec 128 := putBits x f.1 f.2 v

/-- The record of a shelf (R56). -/
def State.srec (s : State) (x : Nat) : BitVec 128 := Tab.get 0 s.bnd.shelf x

/-- Replace it, without an epoch (LOST, R56). -/
def State.putSrec (s : State) (x : Nat) (v : BitVec 128) : State :=
  { s with bnd := { s.bnd with shelf := Tab.put 0 s.bnd.shelf x v } }

/-- Commit a record: EPOCH is the previous one plus 1 (R56). -/
def State.commitSrec (s : State) (x : Nat) (v : BitVec 128) : State :=
  s.putSrec x (rput v rEpoch (rget (s.srec x) rEpoch + 1))

/-- The shelf and the home region of a fabric address (R28, R51). -/
def shelfOf (fa : Nat) : Nat := fa / 2 ^ 28 % 2 ^ 20
def homeOf (fa : Nat) : Nat := fa / 2 ^ 28 % 4
/-- The line of an address: its first byte. -/
def lineOf (fa : Nat) : Nat := fa / 64 * 64

/-- The device address of a fabric address under a record (R51). -/
def devAddr (x : BitVec 128) (fa : Nat) : Nat := rget x rDev * 2 ^ 28 + fa % 2 ^ 28

/-- Bit u · 64 + p of region r's copy of group g (R62). -/
def State.inGroup (s : State) (r g port : Nat) : Bool := (Tab.get 0 s.bnd.group (4096 * r + g)).getLsbD port

/-- The owning UP port of a carrel (CRL_CFG). -/
def State.carrelPort (s : State) (k : Nat) : Nat := s.get CRL_CFG.PORT k

/-- The agent as which an access is checked (R61, R119, R120): one that came from another unit carries its own. -/
def State.checkedAs (s : State) (a : Access) : Agent :=
  if agentUnit a.agent != s.unit then a.agent
  else match a.src with
  | .host => a.agent
  | .devCache => agentId s.unit a.port 0
  | .pcieDev _ => agentId s.unit a.port 0
  | .carrel k _ => agentId s.unit (s.carrelPort k.toNat) 0
  | .slip k => agentId s.unit (s.carrelPort k.toNat) 0
  | .owner _ => a.agent

/-- An access of the manager or the Librarian passes only checks 1 and 2 (R61). -/
def ownerAccess (a : Access) : Bool := match a.src with | .owner _ => true | _ => false

/-! Access rules (R75, R77). -/
def ruleEn (x : BitVec 128) : Bool := bits x 0 1 == 1
def ruleLock (x : BitVec 128) : Bool := bits x 1 1 == 1
def ruleSel (x : BitVec 128) : Nat := bits x 4 2
def ruleAgent (x : BitVec 128) : Nat := bits x 6 10
def ruleBase (x : BitVec 128) : Nat := bits x 32 36
def ruleLast (x : BitVec 128) : Nat := bits x 32 36 + bits x 68 16

/-- A rule matches an access to a page by an agent (R77). -/
def ruleMatches (x : BitVec 128) (page : Nat) (agent : Nat) : Bool :=
  ruleEn x && ruleBase x ≤ page && page ≤ ruleLast x &&
    (ruleSel x == 0 || (ruleSel x == 1 && ruleAgent x == agent) || (ruleSel x == 2 && ruleAgent x / 4 == agent / 4))

/-- The first rule slot of region r that refuses an access needing permissions (R77). -/
def State.ruleRefuses (s : State) (r page agent : Nat) (rd wr : Bool) : Option Nat :=
  ((s.bnd.rule.filter (fun e => e.1 / 4096 == r)).find? (fun e => ruleMatches e.2 page agent &&
    ((rd && bits e.2 2 1 == 0) || (wr && bits e.2 3 1 == 0)))).map (fun e => e.1 % 4096)

/-- Which permissions a request kind needs (R77). -/
def kindReads (k : ReqKind) : Bool := match k with
  | .rdShared => true
  | .rdOwn => true
  | .rdCur => true
  | .ownNodata => true
  | _ => false
def kindWrites (k : ReqKind) : Bool := match k with
  | .rdOwn => true
  | .ownNodata => true
  | .wb => true
  | .wr => true
  | _ => false

/-- A UP port of this unit that runs 68-byte flits: it has no back-invalidation channel (R265). -/
def State.noBi (s : State) (b : Nat) : Bool := b / 64 == s.unit && s.role (b % 64) == 1 && s.get LNK_STS.FLIT (b % 64) == 2

/-- The checks of R59 on an access to an address: the reason of the first that fails, and the refusing rule. The bit of a port
without a back-invalidation channel counts as 0 for a coherent shelf (R265). -/
def State.lookup (s : State) (a : Access) (fa : Nat) (rd wr : Bool) : Option (Nat × Nat) :=
  let r := homeOf fa
  let x := s.srec (shelfOf fa)
  let ag := s.checkedAs a
  if !(rget x rState == 1 || rget x rState == 3) then some (0, 0)
  else if rget x rLost == 1 then some (1, 0)
  else if ownerAccess a then none
  else
    let mine := if rget x rMode == 0 then rget x rGroup % 256 == ag.toNat / 4 
      else s.inGroup r (rget x rGroup) (ag.toNat / 4) && !(rget x rMode == 1 && s.noBi (ag.toNat / 4))
    if !mine then some (2, 0)
    else match s.ruleRefuses r (fa / 4096) ag.toNat rd wr with
      | some n => some (3, n)
      | none => none

/-- A refused access is captured, counted and recorded (R60, BND_FAULT, R480). -/
def State.refuse (s : State) (a : Access) (fa : Nat) (why : Nat × Nat) : State :=
  let r := homeOf fa
  let ag := s.checkedAs a
  let s1 := if s.flag BND_FAULT_INFO.VALID r then s.bump BND_FAULT_INFO.COUNT r 1
    else
      let t := (s.setWord .BND_FAULT_LO r (BitVec.ofNat 32 fa)).set BND_FAULT_HI.ADDR_HI r (fa / 2 ^ 32)
      ((((t.set BND_FAULT_INFO.AGENT r ag.toNat).set BND_FAULT_INFO.REASON r why.1).set BND_FAULT_INFO.RULE r why.2).set
        BND_FAULT_INFO.COUNT r 1).set BND_FAULT_INFO.VALID r 1
  let s2 := (s1.record (occ (bndSet r) 0 3 (shelfOf fa))).archive r (0x300 + why.1) 3 (shelfOf fa) fa ag.toNat
  s2.count r 0x1C why.1 1

/-! Requests that a barrier waits for. -/

/-- The stamped requests of region r (R59, R69): those that a tracker serves, and those that wait for a retry, for a tracker, or
for room in the dedupe table (R111, R114, R124). -/
def State.stamped (s : State) (r : Nat) : List Request :=
  (s.cat.trk.filter (fun e => e.1 / 8192 == r)).filterMap (fun e => match e.2 with
    | some t => (match t.purpose with | .request q => some q | .evict => none | .remote _ _ => none)
    | none => none)
  ++ (((s.cat.retry ++ s.cat.voq ++ s.cat.ddpWait).filter (fun e => e.1 == r && e.2.ticket != 0)).map (fun e => e.2))

/-- A request carries an epoch older than the current one of its shelf (R68, R69). -/
def State.olderEpoch (s : State) (q : Request) : Bool :=
  rget q.srec rEpoch != rget (s.srec (shelfOf q.a.addr.toNat)) rEpoch

/-- Requests with an older epoch remain for a shelf (R68). -/
def State.olderRemain (s : State) (x : Nat) : Bool :=
  (s.stamped (x % 4)).any (fun q => shelfOf q.a.addr.toNat == x && s.olderEpoch q)

/-- A live dedupe entry of the shelf holds an older epoch (R154). -/
def State.olderDedupe (s : State) (x : Nat) : Bool :=
  s.cat.ddp.any (fun e => e.shelf == x && e.epoch != rget (s.srec x) rEpoch)

/-- A request is gone: no barrier waits for it any more (R69). -/
def State.gone (s : State) (ticket : Nat) : State :=
  { s with bnd := { s.bnd with bar := s.bnd.bar.map (fun e =>
      (e.1, { e.2 with waits := e.2.waits.filter (fun w => w.1 != ticket) })) } }

/-- A shelf is declared lost: LOST is set in its record (R56). -/
def State.setLost (s : State) (x : Nat) : State :=
  if rget (s.srec x) rState = 0 then s else s.putSrec x (rput (s.srec x) rLost 1)

/-! Record writes and binds that barriers are still to cover (R66, R68, R71). -/

/-- A record write that releases or rebinds a shelf owes a binding barrier; a shelf that becomes BOUND owes one with scope ALL; one
that becomes FREE owes none. -/
def State.owes (s : State) (x old new : Nat) : State :=
  let e := rget (s.srec x) rEpoch
  let rest := s.bnd.owed.filter (fun o => o.1 != x)
  { s with bnd := { s.bnd with
      owed := if new = 0 then rest else if old = 0 then s.bnd.owed else rest ++ [(x, e)]
      owedAll := if new = 0 then s.bnd.owedAll.filter (fun y => y != x)
        else if old = 0 then s.bnd.owedAll.filter (fun y => y != x) ++ [x] else s.bnd.owedAll } }

/-- A group write gives every shelf of the group a barrier with scope ALL to wait for before a further host hears of it (R63, R66). -/
def State.groupOwes (s : State) (g : Nat) : State :=
  let xs := (s.bnd.shelf.filter (fun e => rget e.2 rState != 0 && rget e.2 rMode != 0 && rget e.2 rGroup == g)).map (fun e => e.1)
  { s with bnd := { s.bnd with owedAll := s.bnd.owedAll.filter (fun y => !xs.contains y) ++ xs } }

/-- A switch-over stalls a shelf (R84). -/
def State.stalled (s : State) (x : Nat) : Bool :=
  s.bnd.rsh.any (fun e => e.2.active && e.2.stall && e.2.shelf == x)

/-! The re-shelving bitmap (R81, R166). -/

/-- The HBM key of the bitmap of slot n = 16r + i. -/
def bitmapAt (n : Nat) : Nat := hbmAt (2 * (n / 16) + n % 2) (0x5A0080000 + 0x2000 * (n % 16 / 2))

/-- Whether page j is marked. -/
def State.marked (s : State) (n j : Nat) : Bool := (peek s.hbm (bitmapAt n + j / 8)).getLsbD (j % 8)

/-- Mark a page (R82), or clear its mark (R83); MARKED counts the marks. -/
def State.markPage (s : State) (n j : Nat) (v : Bool) : State :=
  if s.marked n j == v then s
  else
    let b := peek s.hbm (bitmapAt n + j / 8)
    let s1 := { s with hbm := poke s.hbm (bitmapAt n + j / 8) (putBits b (j % 8) 1 (if v then 1 else 0)) }
    s1.set BND_RSH_STS.MARKED n (if v then s.get BND_RSH_STS.MARKED n + 1 else s.get BND_RSH_STS.MARKED n - 1)

/-- The slot that re-shelves a shelf. -/
def State.rshSlot (s : State) (x : Nat) : Option Nat :=
  (s.bnd.rsh.find? (fun e => e.2.active && e.2.shelf == x)).map (fun e => e.1)

/-- A write issued to the source of a re-shelving shelf has completed for an address (R82). -/
def State.sourceWritten (s : State) (fa port : Nat) : State :=
  let x := shelfOf fa
  match s.rshSlot x with
  | some n => if port = rget (s.srec x) rPort then s.markPage n (fa % 2 ^ 28 / 4096) true else s
  | none => s

end Sys2Proof.Machine
end

