-- ==== Sys2Proof/Machine/TillerOps.lean ====
section
/-! DEFINITION. Tillers as every block meets them: their kinds, the events posted to them, the image's handlers, what a stop and a
start do, and the completion of a service operation (R358–R361, R365–R369, R377, R397). -/
namespace Sys2Proof.Machine
open Sys2Proof

/-- The kinds of tiller by index (R358, R377): a port's, a hosted handler of a core, the boot tiller, and a slot channel's. -/
inductive TilKind where
  | port (p : Nat)
  | hosted (r : Nat)
  | boot
  | slot (c : Nat)
deriving DecidableEq, Repr

def tilKind (t : Nat) : TilKind :=
  if t < 192 then (if t % 48 < 16 then .port (16 * (t / 48) + t % 48) else .hosted (t / 48))
  else if t = 192 then .boot else .slot (t - 193)

/-- A hosted handler (R377). -/
def isHosted (t : Nat) : Bool := t < 192 && 16 ≤ t % 48

/-- The recording unit of a tiller: its region, or the Keeper (R377, R479). -/
def tillerUnit (t : Nat) : Nat := if t < 192 then t / 48 else 4

/-- A tiller beside its registers. -/
def State.tiller (s : State) (t : Nat) : Tiller := Tab.get {} s.lib.til t
def State.setTiller (s : State) (t : Nat) (x : Tiller) : State := { s with lib := { s.lib with til := Tab.put {} s.lib.til t x } }

/-- An occurrence at tiller scope (R478). -/
def tilOcc (t bit : Nat) (arg1 : Nat := 0) : Occ := occ (tilSet (tillerUnit t)) bit 4 t arg1

/-- An event sets a tiller's pending bit, or is merged with the one pending and counted (R359, R376). -/
def State.postEvent (s : State) (t bit : Nat) : State :=
  if s.windowGone (tillerUnit t) then s
  else if (s.get TIL_EVT.PENDING t).testBit bit then (s.bump TIL_EVT.LOST t 1).record (tilOcc t 3)
  else s.setBits TIL_EVT.PENDING t (2 ^ bit)

/-! The image's handlers (R397). -/

/-- How many handler entries the image holds, and n bytes of entry k from off. -/
def State.handlers (s : State) : Nat := if s.boot.late then s.sect 8 2 2 else 0
def State.handler (s : State) (k off n : Nat) : Nat := s.sect 8 (16 + 8 * s.sect 8 0 2 + 80 * k + off) n
/-- The tiller of handler entry k. -/
def State.handlerTil (s : State) (k : Nat) : Nat := 48 * (s.handler k 0 1 % 4) + 16 + s.handler k 1 1 % 32
/-- The handler entry of a tiller. -/
def State.handlerEntry (s : State) (t : Nat) : Option Nat := (List.range s.handlers).find? (fun k => s.handlerTil k == t)
/-- The handler to which the image assigns a hosted event on a core (R359). -/
def State.handlerOf (s : State) (r bit : Nat) : Option Nat :=
  ((List.range s.handlers).find? (fun k => s.handler k 0 1 == r && (s.handler k 3 1).testBit bit)).map s.handlerTil

/-- A core that runs its firmware (LIB_CORE_STS.STATE), and the lead core's region when it does (R353). -/
def State.coreRuns (s : State) (r : Nat) : Bool := s.get LIB_CORE_STS.STATE r == 1 && s.rgn r == 0
def State.leadRuns (s : State) : Bool := s.flag LIB_CORE_STS.LEAD s.lead && s.coreRuns s.lead

/-- Three stops within 1 s: the handler stays stopped (R366). -/
def Tiller.spent (x : Tiller) : Bool :=
  match x.stops with
  | a :: _ :: c :: _ => a - c ≤ 1000000000
  | _ => false

/-- The pending bits of a handler stand for its queue (R359). -/
def State.showEvents (s : State) (t : Nat) : State :=
  s.set TIL_EVT.PENDING t (((s.tiller t).events.map (fun e => e.1)).foldl (fun m b => m ||| 2 ^ (b % 8)) 0)

/-- Queue a hosted event with its arguments ARG0 on; the status is 0, BUSY (4) when the queue is full, or INTERNAL (5) when the
handler stays stopped (R359, R366). -/
def State.postHosted (s : State) (t bit : Nat) (args : List Nat) : State × Nat :=
  let x := s.tiller t
  if s.windowGone (tillerUnit t) || (s.get TIL_STS.STATE t % 3 == 0 && x.spent) then (s, 5)
  else if x.events.length ≥ 64 then (s, 4)
  else ((s.setTiller t { x with events := x.events ++ [(bit, args)] }).showEvents t, 0)

/-- A hosted event that firmware posts of itself, with no request behind it: ARG0 is 0 (R360). -/
def State.hostedNote (s : State) (r bit : Nat) (args : List Nat) : State :=
  if s.coreRuns r then
    match s.handlerOf r bit with
    | some t => (s.postHosted t bit (0 :: args)).1
    | none => s
  else s

/-- A TIMER event of a handler: merged into the one that is queued, which takes the later time, and counted (R361). -/
def State.postTimer (s : State) (t us : Nat) : State :=
  let x := s.tiller t
  if x.events.any (fun (e : Nat × List Nat) => e.1 == 6) then
    (s.setTiller t { x with events := x.events.map (fun (e : Nat × List Nat) => if e.1 == 6 then (6, [0, us]) else e) }).bump TIL_EVT.LOST t 1
  else (s.postHosted t 6 [0, us]).1

/-! Which handler a core runs (R355, R369). -/

/-- A handler that may run: RUNNING. -/
def State.handlerReady (s : State) (t : Nat) : Bool := s.get TIL_STS.STATE t == 1

/-- Load MPU regions 8–15 of a core with the user set of a handler (R355, R397). -/
def State.loadUserMpu (s : State) (r t : Nat) : State :=
  match s.handlerEntry t with
  | none => s
  | some k => (List.range 8).foldl (fun s m =>
      let n := 16 * r + 8 + m
      (s.setWord .LIB_MPU_BASE n (BitVec.ofNat 32 (s.handler k (16 + 8 * m) 4))).setWord .LIB_MPU_LIMIT n
        (BitVec.ofNat 32 (s.handler k (20 + 8 * m) 4))) s

/-- Core r takes up the first ready handler from a slot on, in rotation (R369). -/
def State.nextHandler (s : State) (r slot : Nat) : State :=
  let order := (List.range 32).map (fun i => 48 * r + 16 + (slot + i) % 32)
  let pick := order.find? s.handlerReady
  let s1 := { s with lib := { s.lib with running := Tab.put 0 s.lib.running r (match pick with | some u => u + 1 | none => 0) } }
  match pick with
  | some u => s1.loadUserMpu r u
  | none => s1

/-- A handler has become ready: an idle core takes it up. -/
def State.handlerWoken (s : State) (t : Nat) : State :=
  if isHosted t && Tab.get 0 s.lib.running (t / 48) = 0 then s.nextHandler (t / 48) (t % 48 - 16) else s

/-- A hosted handler gives up the core; a dedicated tiller keeps its clock. -/
def State.giveUp (s : State) (t : Nat) : State :=
  if isHosted t && Tab.get 0 s.lib.running (t / 48) = t + 1 then s.nextHandler (t / 48) (t % 48 - 16 + 1) else s

/-! Starting and stopping (R362, R365, R366, R377). -/

/-- A tiller starts at an index: registers, stack and scratch words are cleared. -/
def State.tilStart (s : State) (t entry : Nat) : State :=
  let s1 := (List.range 16).foldl (fun s i => s.setWord .TIL_T (16 * t + i) 0) s
  let s2 := (((s1.set TIL_STS.STATE t 1).set TIL_STS.PC t entry).set TIL_STS.DEPTH t 0).set TIL_STS.CAUSE t 0
  let x := s2.tiller t
  ((s2.set TIL_EVT.MASK t 0).setTiller t { x with stack := [], wait := .none, ran := 0, ctx := x.ctx.filter (fun e => 64 ≤ e.1) }).handlerWoken t

/-- A tiller stops with a cause: STATE is FAULTED after a fault of R365, else STOPPED. -/
def State.tilHalt (s : State) (t cause : Nat) : State :=
  let s1 := ((s.set TIL_STS.STATE t (if 3 ≤ cause && cause ≤ 8 then 3 else 0)).set TIL_STS.CAUSE t cause).set TIL_EVT.MASK t 0
  let x := s1.tiller t
  let kept := if cause = 1 then x.stops else (s1.timeOf (tillerUnit t) :: x.stops).take 3
  (s1.setTiller t { x with wait := .none, ran := 0, stops := kept }).giveUp t

/-- Two stops within 1 s: firmware goes back to the built-in program (R366). -/
def Tiller.relapsed (x : Tiller) : Bool :=
  match x.stops with
  | a :: b :: _ => a - b ≤ 1000000000
  | _ => false

/-! Service operations that end later (R367). -/

/-- SVC_STS of a handler, at word 0x22C of the context: BUSY and RESULT. -/
def svcWord : Nat := 0x22C / 4
def State.svcBusy (s : State) (t : Nat) : Bool := Tab.get 0 (s.tiller t).ctx svcWord % 2 == 1
/-- A service operation of a handler has ended with a result. -/
def State.svcEnd (s : State) (t result : Nat) : State :=
  s.setTiller t { s.tiller t with ctx := Tab.put 0 (s.tiller t).ctx svcWord (2 * result) }

/-- A barrier slot has ended: a service operation that waited for it ends with it (R367). -/
def State.svcBarEnds (s : State) (r k result : Nat) : State :=
  match s.lib.svcBar.find? (fun e => e.2.1 == r && e.2.2 == k) with
  | some e => ({ s with lib := { s.lib with svcBar := s.lib.svcBar.filter (fun x => x != e) } }).svcEnd e.1 result
  | none => s

end Sys2Proof.Machine
end

