-- ==== Sys2Proof/Machine/GranaryOps.lean ====
section
/-! DEFINITION. The Granary and the write-back buffers: placement, reads, writes, allocation, write-back and poison
(R141–R143, R149, R162–R173). -/
namespace Sys2Proof.Machine
open Sys2Proof

/-! Where a block lives (R162, R163). -/

/-- The region block number B. -/
def grnBlock (fa : Nat) : Nat := fa / 2 ^ 30 * 2 ^ 20 + fa / 2 ^ 8 % 2 ^ 20
def grnTag (fa : Nat) : Nat := grnBlock fa / 2 ^ 25 % 2 ^ 13
/-- The set index g. -/
def grnIndex (fa : Nat) : Nat := (grnBlock fa % 2 ^ 25) ^^^ (grnTag fa * 2 ^ 12)
def sectorOf (fa : Nat) : Nat := fa / 64 % 4
/-- The block that a way of set g holds, from its tag. -/
def blockAddr (r g tag : Nat) : Nat :=
  let b := tag * 2 ^ 25 + (g ^^^ (tag * 2 ^ 12))
  b / 2 ^ 20 * 2 ^ 30 + r * 2 ^ 28 + b % 2 ^ 20 * 2 ^ 8
/-- The stack 0–7 of a set, and the HBM key of a sector. -/
def grnStack (r g : Nat) : Nat := 2 * r + g % 2
def sectorKey (r g w k : Nat) : Nat := hbmAt (grnStack r g) (2048 * (g / 4) + 1024 * (g / 2 % 2) + 256 * w + 64 * k)
/-- The key of a way, and its region and set. -/
def wayKey (r g w : Nat) : Nat := 4 * (2 ^ 25 * r + g) + w
def wayRegion (k : Nat) : Nat := k / 2 ^ 27
def waySet (k : Nat) : Nat := k / 4 % 2 ^ 25
/-- The block in a way of a key. -/
def wayBlock (k : Nat) (w : Way) : Nat := blockAddr (wayRegion k) (waySet k) w.tag

def State.way (s : State) (k : Nat) : Way := Tab.get {} s.grn.ways k

/-- The place of a set in the tag caches, and its cache tag (R165). -/
def tagPlace (r g : Nat) : Nat := 4096 * grnStack r g + g / 2 % 4096
def tagOf (g : Nat) : Nat := g / 2 ^ 13

/-- A tag sector in the tag cache is changed: it is modified from then on, and its side-band column keeps the entries that it held
(R165). -/
def markTag (tags : Tab (List TagSector)) (r g : Nat) (held : List Way) : Tab (List TagSector) :=
  Tab.put [] tags (tagPlace r g) ((Tab.get [] tags (tagPlace r g)).map (fun c =>
    if c.tag == tagOf g && !c.modified then { c with modified := true, side := held } else c))

/-- A way entry is written: in the cached tag sector, or in the side-band column of a sector that is not cached (R165). -/
def State.setWay (s : State) (k : Nat) (w : Way) : State :=
  { s with grn := { s.grn with
      ways := Tab.put {} s.grn.ways k w
      tags := markTag s.grn.tags (wayRegion k) (waySet k) ((List.range 4).map (fun v => s.way (wayKey (wayRegion k) (waySet k) v))) } }

/-- The way of a set that holds the block of an address. -/
def State.findWay (s : State) (r fa : Nat) : Option Nat :=
  (List.range 4).find? (fun w =>
    let e := s.way (wayKey r (grnIndex fa) w)
    e.valid && e.tag == grnTag fa)

/-- A line in HBM, with its POISON bit (R160). -/
def State.hbmLine (s : State) (key : Nat) : LineData :=
  ⟨BitVec.ofNat 512 (peekN s.hbm key 64), Tab.get false s.grn.poison (key / 64)⟩
/-- Store it. -/
def State.putHbmLine (s : State) (key : Nat) (d : LineData) : State :=
  { s with hbm := pokeN s.hbm key 64 d.data.toNat
           grn := { s.grn with poison := Tab.put false s.grn.poison (key / 64) d.poison } }.columns (key / 2 ^ 35) 1

/-- A poisoned line whose 64 bytes the spec leaves open (R141). -/
def State.openLine (s : State) : LineData × State :=
  (⟨BitVec.ofNat 512 (Config.freeValue s.free), true⟩, { s with free := s.free + 1 })

/-- A line with some bytes of another written over it; a full write clears poison (R117, R142). -/
def mergeLine (old new : LineData) (be : BitVec 64) : LineData :=
  if be = BitVec.allOnes 64 then new
  else
    let m := (List.range 64).foldl (fun n i => if be.getLsbD i then n + 255 * 256 ^ i else n) 0
    let mask := BitVec.ofNat 512 m
    ⟨(old.data &&& ~~~ mask) ||| (new.data &&& mask), old.poison || new.poison⟩

/-- A sector in the tag cache: looked up, and a miss counted; a modified sector that is replaced goes back to its side-band column
(R165). DESIGN CHOICE: the spec gives no order of replacement, and the sector looked up least recently is replaced (log entry 74). -/
def State.tagLookup (s : State) (r g : Nat) : State :=
  let old := Tab.get [] s.grn.tags (tagPlace r g)
  let hit := (old.find? (fun c => c.tag == tagOf g)).getD { tag := tagOf g }
  let s1 := { s with grn := { s.grn with
    tags := Tab.put [] s.grn.tags (tagPlace r g) ((hit :: old.filter (fun c => c.tag != tagOf g)).take 16) } }
  if old.any (fun c => c.tag == tagOf g) then s1 else s1.count r 0x0B (g % 2) 1

/-- The entries that the side-band column of a set holds (R164, R165): those of its ways, or what it held before its cached sector
was modified. -/
def State.sideWays (s : State) (r g : Nat) : List Way :=
  match (Tab.get [] s.grn.tags (tagPlace r g)).find? (fun c => c.tag == tagOf g && c.modified) with
  | some c => c.side
  | none => (List.range 4).map (fun v => s.way (wayKey r g v))

/-- Every modified tag sector of a region goes back to its side-band column (R165). -/
def State.tagsBack (s : State) (r : Nat) : State :=
  { s with grn := { s.grn with tags := Tab.mapListed [] s.grn.tags (fun k l =>
      if k / 8192 == r then l.map (fun c => { tag := c.tag }) else l) } }

/-- A way becomes the most recent of its set, and the more recent ones age by one (R167). -/
def State.touch (s : State) (r g w age : Nat) : State :=
  let s1 := (List.range 4).foldl (fun s v =>
    let e := s.way (wayKey r g v)
    if v != w && e.valid && e.age < age then s.setWay (wayKey r g v) { e with age := min (e.age + 1) 3 } else s) s
  s1.setWay (wayKey r g w) { s1.way (wayKey r g w) with age := 0 }

/-! The poison ledger (R143). -/

/-- The HBM key of a shelf's entry (R166). -/
def ledgerAt (x : Nat) : Nat := hbmAt (2 * (x % 4) + x / 4 % 2) (0x5A0000000 + 4 * (x / 8))
/-- One more line stored or dropped with a reason. -/
def State.ledgerAdd (s : State) (x reason : Nat) : State :=
  let n := satAdd 24 (peekN s.hbm (ledgerAt x) 3) 1
  { s with hbm := pokeN s.hbm (ledgerAt x) 4 (n + reason * 2 ^ 24) }
/-- The entry is cleared (R143). -/
def State.ledgerClear (s : State) (x : Nat) : State := { s with hbm := pokeN s.hbm (ledgerAt x) 4 0 }

/-- A line is stored or dropped as poisoned with a reason (R141, R143, R480). -/
def State.poisonStored (s : State) (line reason arg : Nat) : State :=
  (s.ledgerAdd (shelfOf line) reason).archive (homeOf line) (0x307 + reason) 3 (shelfOf line) line arg

/-! Pool ports. -/

/-- A port is in its shelf-loss hold (R148). -/
def State.held (s : State) (p : Nat) : Bool := (s.get CAT_HOLD_STS.HOLD (p / 16)).testBit (p % 16)
/-- The pool port that the record of a line's shelf names. -/
def State.poolOf (s : State) (line : Nat) : Nat := rget (s.srec (shelfOf line)) rPort

/-- A read of a line from its pool device, under a record (R168): an M2S Req of the home on TC5 (R220). -/
def State.fetch (s : State) (x : BitVec 128) (line : Nat) : State :=
  s.send (homeOf line) s.unit (rget x rPort) 5 [0] (.poolRead (rget x rPort) (rget x rLd) (devAddr x line))

/-- A write of a line leaves for the pool device that its record now names: an M2S RwD on TC6 (R220). -/
def State.writeOut (s : State) (line : Nat) (d : LineData) : State :=
  let x := s.srec (shelfOf line)
  s.send (homeOf line) s.unit (rget x rPort) 6 [1] (.poolWrite (rget x rPort) (rget x rLd) (devAddr x line) d) (lineBytes d)

/-- A write of a line to its pool device (R171, R172); while a switch-over stalls its shelf it is held (R84). -/
def State.sendWrite (s : State) (line : Nat) (f : WrFrom) (d : LineData) : State :=
  if s.stalled (shelfOf line) then
    { s with grn := { s.grn with writes := s.grn.writes ++ [⟨homeOf line, line, s.poolOf line, f, some d⟩] } }
  else
    let s1 := s.writeOut line d
    { s1 with grn := { s1.grn with writes := s1.grn.writes ++ [⟨homeOf line, line, s.poolOf line, f, none⟩] } }

/-! Column errors (R177, R179, R183). -/

/-- The first column error is captured; later ones are not (GRN_ECC_ADDR). -/
def eccCapture (s : State) (r stack row col side : Nat) : State :=
  if s.flag GRN_ECC_ADDR.VALID r then s
  else
    let s1 := ((s.set GRN_ECC_ADDR.STACK r stack).set GRN_ECC_ADDR.ROW r row).set GRN_ECC_ADDR.COLUMN r col
    (s1.set GRN_ECC_ADDR.SIDE r side).set GRN_ECC_ADDR.VALID r 1

/-- A row of a stack 0–7 is to be repaired (R179). -/
def rowRepair (s : State) (stack row : Nat) : State :=
  let q := Tab.get [] s.grn.repair stack
  if q.contains row then s else { s with grn := { s.grn with repair := Tab.put [] s.grn.repair stack (q ++ [row]) } }

/-- A corrected error in a row (R177, R179): the fourth within 24 h asks for a repair. -/
def columnCorrected (s : State) (r stack row col side : Nat) : State :=
  let key := 2 ^ 24 * (2 * r + stack) + row
  let now := s.timeOf r
  let times := (Tab.get [] s.grn.rowErr key).filter (fun t => now - t < 24 * 3600 * 10 ^ 9) ++ [now]
  let s1 := (eccCapture s r stack row col side).bump GRN_ECC_STS.CE r 1 |>.record (blockOcc (grnSet r) 0)
  let s2 := { s1 with grn := { s1.grn with rowErr := Tab.put [] s1.grn.rowErr key times } }
  if times.length ≥ 4 then rowRepair s2 (2 * r + stack) row else s2

/-- A corrected error in the column at an HBM key. -/
def keyCorrected (s : State) (key : Nat) : State :=
  let st := key / 2 ^ 35
  columnCorrected s (st / 2) (st % 2) (key % 2 ^ 35 / 2048) (key / 64 % 32) 0

/-- An uncorrectable error in a column outside the Granary area, at an HBM key: it is counted, and its row is to be repaired; the
block that owns the area classes it (R177). -/
def keyLost (s : State) (key : Nat) : State :=
  let st := key / 2 ^ 35
  let row := key % 2 ^ 35 / 2048
  rowRepair ((eccCapture s (st / 2) (st % 2) row (key / 64 % 32) 0).bump GRN_ECC_STS.UE_DIRTY (st / 2) 1) st row

/-! Sectors lost (R177). -/

/-- An uncorrectable error in a clean sector: it is invalidated (R177). -/
def sectorLostClean (s : State) (r k i row col : Nat) : State :=
  let w := s.way k
  let st := waySet k % 2
  let s1 := s.setWay k { w with svalid := w.svalid &&& ~~~ (BitVec.ofNat 4 (2 ^ i)) }
  rowRepair (((eccCapture s1 r st row col 0).bump GRN_ECC_STS.UE_CLEAN r 1).record (blockOcc (grnSet r) 1)) (2 * r + st) row

/-- An uncorrectable error in a dirty sector: it is stored as poisoned with reason HBM_UNCORRECTED (R177). -/
def sectorLostDirty (s : State) (r k i row col : Nat) : LineData × State :=
  let w := s.way k
  let st := waySet k % 2
  let line := wayBlock k w + 64 * i
  let (d, s1) := s.openLine
  let s2 := (s1.putHbmLine (sectorKey r (waySet k) (k % 4) i) d).poisonStored line 7 (s1.poolOf line)
  (d, rowRepair (((eccCapture s2 r st row col 0).bump GRN_ECC_STS.UE_DIRTY r 1).record (occ (grnSet r) 2 3 (shelfOf line))) (2 * r + st) row)

/-- The column of sector i of a way is read, and its check word says `found` (R177). -/
def State.sectorRead (s : State) (k i : Nat) (found : ColRead) : State :=
  let r := wayRegion k
  let key := sectorKey r (waySet k) (k % 4) i
  let row := key % 2 ^ 35 / 2048
  let col := key / 64 % 32
  if !(s.way k).svalid.getLsbD i then s
  else match found with
    | .corrected => columnCorrected s r (waySet k % 2) row col 0
    | .uncorrectable =>
      if (s.way k).dirty.getLsbD i then (sectorLostDirty s r k i row col).2 else sectorLostClean s r k i row col
    | _ => s

/-- The sectors of a way are read, each with what its check word says. -/
def State.wayRead (s : State) (k : Nat) (found : List ColRead) : State :=
  (List.range 4).foldl (fun s i => s.sectorRead k i (found.getD i .good)) s

/-! Write-back buffers (R172). -/

/-- Issue the writes of an entry: one for each dirty sector. -/
def State.issueEntry (s : State) (e : WbEntry) : State :=
  let s1 := (List.range 4).foldl (fun s k =>
    if e.dirty.getLsbD k then s.sendWrite (e.block + 64 * k) .buffer (e.data.getD k ⟨0, false⟩) else s) s
  s1.count (homeOf e.block) 0x0A (homeOf e.block) 1

/-- An entry may issue: its port is not in a hold, and no switch-over stalls its shelf (R84, R148). -/
def State.mayIssue (s : State) (e : WbEntry) : Bool :=
  !e.issued && !s.held (s.poolOf e.block) && !s.stalled (shelfOf e.block)

/-- Writes held by a switch-over that is over leave, for the device that the record then names (R84). -/
def State.drainHeld (s : State) : State :=
  let go (w : PoolWr) : Bool := w.held.isSome && !s.stalled (shelfOf w.line)
  let s1 := (s.grn.writes.filter go).foldl (fun t w => t.writeOut w.line (w.held.getD ⟨0, false⟩)) s
  { s1 with grn := { s1.grn with writes := s.grn.writes.map (fun w => if go w then { w with port := s.poolOf w.line, held := none } else w) } }

/-- Every entry that may issue does, in order of arrival. -/
def State.drainBuffers (s : State) : State :=
  let t := s.drainHeld
  let s1 := (s.grn.wbuf.filter (fun e => s.mayIssue e)).foldl (fun t e => t.issueEntry e) t
  { s1 with grn := { s1.grn with wbuf := s.grn.wbuf.map (fun e => if s.mayIssue e then { e with issued := true } else e) } }

/-- Entries leave the write-back buffers, whose controllers then have room (R172). -/
def State.dropWb (s : State) (p : WbEntry → Bool) : State :=
  { s with grn := { s.grn with wbuf := s.grn.wbuf.filter (fun e => !p e)
                               roomed := (s.grn.roomed ++ (s.grn.wbuf.filter p).map (fun e => e.ctrl)).dedup } }

/-- A controller's buffer has room. -/
def State.bufferRoom (s : State) (ctrl : Nat) : Bool := (s.grn.wbuf.filter (fun e => e.ctrl == ctrl)).length < 64

/-- The youngest buffer entry of an address's block. -/
def State.buffered (s : State) (fa : Nat) : Option WbEntry :=
  s.grn.wbuf.reverse.find? (fun e => e.block == fa / 256 * 256)

/-- A dirty way moves to its controller's buffer; `found` is what the check words of its columns say (R177). -/
def State.toBuffer (s0 : State) (k : Nat) (found : List ColRead := []) : State :=
  let s := s0.wayRead k found
  let w := s.way k
  let r := wayRegion k
  let g := waySet k
  let e : WbEntry :=
    { ctrl := grnStack r g, block := wayBlock k w, valid := w.svalid, dirty := w.dirty
      data := (List.range 4).map (fun i => s.hbmLine (sectorKey r g (k % 4) i)), issued := false }
  { s with grn := { s.grn with wbuf := s.grn.wbuf ++ [e] } }.drainBuffers

/-! Allocation (R171). -/

/-- What an allocation comes to: no way, a wait for the write-back buffer, or a way. -/
inductive Alloc where
  | none | room | way (w : Nat)
deriving DecidableEq, Repr

/-- Valid blocks of a shelf in its region, and blocks that a carrel allocated in a region. -/
def State.shelfBlocks (s : State) (x : Nat) : Nat :=
  Tab.countIf s.grn.ways (fun k w => w.valid && wayRegion k == x % 4 && shelfOf (wayBlock k w) == x)
def State.carrelBlocks (s : State) (r c : Nat) : Nat :=
  Tab.countIf s.grn.ways (fun k w => w.valid && wayRegion k == r && w.carrelV && w.carrel == c)

/-- The quotas of R171 step 2 leave room. -/
def State.underQuota (s : State) (r fa gclass : Nat) (carrel : Option Nat) : Bool :=
  let q := s.get GRN_CLASS.SHELF_QUOTA (8 * r + gclass)
  (q == 0xFFFF || s.shelfBlocks (shelfOf fa) < 16 * q) &&
    (match carrel with
     | none => true
     | some c =>
       let n := s.get GRN_CRL_QUOTA.QUOTA (4096 * r + c)
       n == 0xFFFFF || s.carrelBlocks r c < 16 * n)

/-- Allocate for a miss (R171): the way taken, if any. -/
def State.alloc (s : State) (r fa : Nat) (hinted : Bool) (carrel : Option Nat) : Alloc :=
  let g := grnIndex fa
  let x := s.srec (shelfOf fa)
  let c := 8 * r + rget x rClass
  let hold := s.held (rget x rPort)
  if s.grn.retired.contains (2 ^ 25 * r + g) then .none
  else if !hold && !s.underQuota r fa (rget x rClass) carrel then .none
  else
    let mask := if hinted && s.flag GRN_CTL.HINT_ALLOC r then s.get GRN_CLASS.HINT_MASK c else s.get GRN_CLASS.WAY_MASK c
    let cand := (List.range 4).filter (fun w => mask.testBit w && !(s.way (wayKey r g w)).pinned)
    match cand.find? (fun w => !(s.way (wayKey r g w)).valid) with
    | some w => .way w
    | none =>
      let old := (cand.map (fun w => (s.way (wayKey r g w)).age)).max?
      match cand.find? (fun w => some (s.way (wayKey r g w)).age == old) with
      | none => .none
      | some w => if (s.way (wayKey r g w)).dirty != 0 && !s.bufferRoom (grnStack r g) then .room else .way w

/-- Take a way for a block (R171): a dirty victim moves to the buffer and a clean one is dropped. -/
def State.takeWay (s : State) (r fa w : Nat) (hinted : Bool) (carrel : Option Nat) (found : List ColRead := []) : State :=
  let g := grnIndex fa
  let k := wayKey r g w
  let old := s.way k
  let s1 := if old.valid && old.dirty != 0 then s.toBuffer k found else s
  let s2 := s1.setWay k
    { tag := grnTag fa, valid := true, gclass := rget (s.srec (shelfOf fa)) rClass, hinted := hinted, age := 0
      carrelV := carrel.isSome, carrel := carrel.getD 0 }
  s2.touch r g w (if old.valid then old.age else 4)

/-! Writes. -/

/-- A block counts toward the dirty limit (R170): it has a dirty sector that is not being written through. -/
def State.countsDirty (s : State) (k : Nat) (w : Way) : Bool :=
  w.valid && (List.range 4).any (fun i => w.dirty.getLsbD i &&
    !(s.grn.writes.any (fun x => x.region == wayRegion k && x.line == wayBlock k w + 64 * i && x.from_ == .through)))

/-- Dirty blocks of region r per pool port (R170). -/
def State.dirtyCount (s : State) (r port : Nat) : Nat :=
  Tab.countIf s.grn.ways (fun k w => wayRegion k == r && s.countsDirty k w && s.poolOf (wayBlock k w) == port)

/-- Store a sector in a way: SVALID, and DIRTY as asked; an older write of it that is on its way no longer cleans it. -/
def State.storeSector (s : State) (r fa w : Nat) (d : LineData) (dirty : Bool) : State :=
  let g := grnIndex fa
  let k := wayKey r g w
  let i := sectorOf fa
  let e := s.way k
  let line := lineOf fa
  let s1 := (s.putHbmLine (sectorKey r g w i) d).setWay k
    { e with svalid := e.svalid ||| BitVec.ofNat 4 (2 ^ i), dirty := if dirty then e.dirty ||| BitVec.ofNat 4 (2 ^ i) else e.dirty }
  { s1 with grn := { s1.grn with writes := s1.grn.writes.map (fun x =>
      if x.line == line && (x.from_ == .through || x.from_ == .way) then { x with from_ := .stale } else x) } }

/-- Store a dirty sector (R149, R169, R170): pinned during a hold, and written through at the dirty limit. -/
def State.storeDirty (s : State) (r fa w : Nat) (d : LineData) : State :=
  let k := wayKey r (grnIndex fa) w
  let port := s.poolOf fa
  let counted := s.countsDirty k (s.way k)
  let full := s.dirtyCount r port ≥ s.get GRN_DCAP.CAP r * 2 ^ 18
  let s1 := s.storeSector r fa w d true
  if s.held port then s1.setWay k { s1.way k with pinned := true }
  else if counted || !full then s1
  else s1.sendWrite (lineOf fa) .through d

/-- A block comes back from the buffer into a way, with its dirty bits (races of the Granary). -/
def State.restore (s : State) (r fa w : Nat) (e : WbEntry) : State :=
  let g := grnIndex fa
  let k := wayKey r g w
  let s1 := (List.range 4).foldl (fun s i =>
    if e.valid.getLsbD i then s.putHbmLine (sectorKey r g w i) (e.data.getD i ⟨0, false⟩) else s) s
  let s2 := s1.setWay k { s1.way k with svalid := e.valid, dirty := e.dirty }
  if e.issued then s2 else s2.dropWb (fun x => x == e)

/-- What a write to the Granary comes to: stored, waiting for the buffer, or sent to the pool device. -/
inductive WriteEnd where
  | done | room | pool
deriving DecidableEq, Repr

/-- A shelf is declared lost (R151): LOST, its dirty lines dropped and counted with reason SHELF_LOST, and one
CAT_SHELF_LOST_HOLD with the shelf as scope; the SHELF_LOST handler of the region hears of it (R360). -/
def State.shelfLost (s : State) (x : Nat) : State :=
  let port := rget (s.srec x) rPort
  let s1 := s.setLost x
  let mine := s1.grn.ways.filter (fun e => wayRegion e.1 == x % 4 && e.2.valid && e.2.dirty != 0 && shelfOf (wayBlock e.1 e.2) == x)
  let s2 := mine.foldl (fun s e =>
    let t := (List.range 4).foldl (fun s i =>
      if e.2.dirty.getLsbD i then s.poisonStored (wayBlock e.1 e.2 + 64 * i) 3 port else s) s
    let left := e.2.svalid &&& ~~~ e.2.dirty
    t.setWay e.1 { e.2 with svalid := left, dirty := 0, pinned := false, valid := left != 0 }) s1
  let bufs := s2.grn.wbuf.filter (fun e => shelfOf e.block == x)
  let s3 := bufs.foldl (fun s e => (List.range 4).foldl (fun s i =>
    if e.dirty.getLsbD i then s.poisonStored (e.block + 64 * i) 3 port else s) s) s2
  let lost := s3.grn.waitPut.filter (fun (e : Nat × LineData) => shelfOf e.1 == x)
  let s4 := (lost.foldl (fun s e => s.poisonStored e.1 3 port) s3).dropWb (fun e => shelfOf e.block == x)
  ({ s4 with grn := { s4.grn with
      waitPut := s4.grn.waitPut.filter (fun (e : Nat × LineData) => shelfOf e.1 != x)
      writes := s4.grn.writes.map (fun (w : PoolWr) => if shelfOf w.line == x && w.from_ == WrFrom.buffer then { w with from_ := WrFrom.stale } else w) } }).record
    (occ (catSet (x % 4)) 11 3 x) |>.hostedNote (x % 4) 4 [x, 0]

/-- Write a whole line at the home (R169–R172); f says who waits for a write that goes to the pool device at once, and `found` what
the check words of a victim's columns say. DESIGN CHOICE: R167 states for a read hit that it sets AGE to 0 and ages the more recent
ways; a write that hits does the same (log entry 73). -/
def State.grnPut (s0 : State) (r fa : Nat) (f : WrFrom) (d : LineData) (hinted : Bool) (carrel : Option Nat)
    (found : List ColRead := []) : State × WriteEnd :=
  let g := grnIndex fa
  let s1 := s0.tagLookup r g
  let s := { s1 with grn := { s1.grn with waitPut := s1.grn.waitPut.filter (fun (e : Nat × LineData) => e.1 != lineOf fa) } }
  match s.findWay r fa with
  | some w => ((s.storeDirty r fa w d).touch r g w (s.way (wayKey r g w)).age, .done)
  | none =>
    match s.alloc r fa hinted carrel with
    | .room => (s0, .room)
    | .way w =>
      let s1 := s.takeWay r fa w hinted carrel found
      let s2 := match s.buffered fa with
        | some e => s1.restore r fa w e
        | none => s1
      (s2.storeDirty r fa w d, .done)
    | .none =>
      match s.buffered fa with
      | some e =>
        if e.issued then (s.sendWrite (lineOf fa) f d, .pool)
        else
          let i := sectorOf fa
          let e1 := { e with data := e.data.set i d, valid := e.valid ||| BitVec.ofNat 4 (2 ^ i)
                             dirty := e.dirty ||| BitVec.ofNat 4 (2 ^ i) }
          ({ s with grn := { s.grn with wbuf := s.grn.wbuf.map (fun x => if x = e then e1 else x) } }, .done)
      | none =>
        if s.held (s.poolOf fa) then
          ((s.archive r 0x314 3 (shelfOf fa) fa (s.poolOf fa)).shelfLost (shelfOf fa), .done)
        else (s.sendWrite (lineOf fa) f d, .pool)

/-- A line is stored as poisoned with a reason, its old value gone (R103, R129, R132); it waits while the buffer that its victim
needs is full (R172). -/
def State.grnPoison (s : State) (line reason arg : Nat) : LineData × State :=
  let (d, s1) := s.openLine
  let s2 := s1.poisonStored line reason arg
  match s2.grnPut (homeOf line) line .stale d false none with
  | (s3, .room) => (d, { s3 with grn := { s3.grn with waitPut := s3.grn.waitPut.filter (fun (e : Nat × LineData) => e.1 != line) ++ [(line, d)] } })
  | (s3, _) => (d, s3)

/-! Reads. -/

/-- A line that waits to be stored: the value that it will have (R172). -/
def State.waiting (s : State) (fa : Nat) : Option LineData :=
  (s.grn.waitPut.find? (fun (e : Nat × LineData) => e.1 == lineOf fa)).map (fun e => e.2)

/-- Lines that wait for room in a controller's buffer are stored, oldest first, while there is room. -/
def State.retryPuts (s : State) (ctrl : Nat) : State :=
  (s.grn.waitPut.filter (fun (e : Nat × LineData) => grnStack (homeOf e.1) (grnIndex e.1) == ctrl)).foldl (fun s e =>
    match s.grnPut (homeOf e.1) e.1 .stale e.2 false none with
    | (_, .room) => s
    | (s1, _) => s1) s

/-- The line as the Granary or its buffer holds it, or as it waits to be stored. -/
def State.cachedLine (s : State) (r fa : Nat) : Option LineData :=
  let g := grnIndex fa
  let i := sectorOf fa
  match s.waiting fa with
  | some d => some d
  | none =>
  match s.findWay r fa with
  | some w => if (s.way (wayKey r g w)).svalid.getLsbD i then some (s.hbmLine (sectorKey r g w i)) else none
  | none => match s.buffered fa with
    | some e => if e.valid.getLsbD i then some (e.data.getD i ⟨0, false⟩) else none
    | none => none

/-- What a read comes to: data on its way from HBM or the buffer, a wait for the buffer, a fetch from the pool device, or
poison of reason POOL_LINK_DOWN (R149, R167, R168). -/
inductive ReadEnd where
  | data (d : LineData) | room | pool | down
deriving DecidableEq, Repr

/-- A read's hit or miss counts for its class: in the performance counters, and in the hit ratio of the period (R484, R491). -/
def State.countBand (s : State) (r cls : Nat) (hit : Bool) : State :=
  let n := Tab.get (0, 0) s.grn.band (8 * r + cls)
  let s1 := s.count r (if hit then 0x08 else 0x09) cls 1
  { s1 with grn := { s1.grn with band := Tab.put (0, 0) s1.grn.band (8 * r + cls) (if hit then (n.1 + 1, n.2) else (n.1, n.2 + 1)) } }

/-- Read a line at the home under a record (R167, R168, R171). -/
def State.grnRead (s : State) (x : BitVec 128) (r fa : Nat) (carrel : Option Nat) (found : List ColRead := []) : State × ReadEnd :=
  let g := grnIndex fa
  let cls := rget x rClass
  let s1 := s.tagLookup r g
  match s1.cachedLine r fa with
  | some d =>
    let s2 := match s1.findWay r fa with
      | some w => s1.touch r g w (s1.way (wayKey r g w)).age
      | none => s1
    (s2.countBand r cls true, .data d)
  | none =>
    let s2 := s1.countBand r cls false
    if s2.held (rget x rPort) then (s2, .down)
    else if (s2.findWay r fa).isSome || (s2.buffered fa).isSome then (s2.fetch x (lineOf fa), .pool)
    else match s2.alloc r fa false carrel with
      | .none => (s2.fetch x (lineOf fa), .pool)
      | .room => (s, .room)
      | .way w =>
        let s3 := (s2.takeWay r fa w false carrel found).fetch x (lineOf fa)
        if s3.flag GRN_CTL.FILL_BLOCK r then
          (((List.range 4).filter (fun i => i != sectorOf fa)).foldl (fun s i => s.fetch x (fa / 256 * 256 + 64 * i)) s3, .pool)
        else (s3, .pool)

/-- Data of a line has come from its pool device (R168): a sector that is still invalid takes it. Poison from the device is
stored and counted (R141). -/
def State.fillSector (s : State) (r fa : Nat) (d : LineData) : State :=
  match s.findWay r fa with
  | some w =>
    if (s.way (wayKey r (grnIndex fa) w)).svalid.getLsbD (sectorOf fa) then s
    else
      let s1 := s.storeSector r fa w d false
      if d.poison then s1.poisonStored (lineOf fa) 6 (s.poolOf fa) else s1
  | none => s

end Sys2Proof.Machine
end

