-- ==== Sys2Proof/Machine/CatOps.lean ====
section
/-! DEFINITION. The Catalogue: where an entry lies, the cache over the backing store, presence filters, dead agents, and the
transitions of an entry (R90–R110, R128–R132). -/
namespace Sys2Proof.Machine
open Sys2Proof

/-! Where the entry of a line lies (R97). -/
def catLineNo (fa : Nat) : Nat := fa / 2 ^ 30 * 2 ^ 22 + fa / 64 % 2 ^ 22
def catTag (fa : Nat) : Nat := catLineNo fa / 2 ^ 26 % 2 ^ 14
def catIndex (fa : Nat) : Nat := (catLineNo fa % 2 ^ 26) ^^^ (catTag fa * 2 ^ 12)
/-- The line of region r that an entry with a tag in backing set i describes. -/
def catLine (r i tag : Nat) : Nat :=
  let l := tag * 2 ^ 26 + (i ^^^ (tag * 2 ^ 12))
  l / 2 ^ 22 * 2 ^ 30 + r * 2 ^ 28 + l % 2 ^ 22 * 64
def catKey (r i : Nat) : Nat := 2 ^ 26 * r + i
/-- The HBM key of a backing set (R166). -/
def catAt (r i : Nat) : Nat := hbmAt (2 * r + i / 16 % 2) (0x400000000 + 128 * (i / 32 * 16 + i % 16))

/-! The entry (R93, R94). -/
abbrev Entry := BitVec 64
def eTag (e : Entry) : Nat := bits e 0 16
def eState (e : Entry) : Nat := bits e 16 3
def eBusy (e : Entry) : Bool := bits e 19 1 == 1
/-- The valid pointers: PMODE + 1 in SHARED, PTR0 in OWNED. -/
def ePtrs (e : Entry) : List Nat :=
  if eState e = 1 then (List.range (bits e 20 2 + 1)).map (fun k => bits e (22 + 10 * k) 10)
  else if eState e = 3 then [bits e 22 10] else []
/-- An entry from its fields: PMODE is 0 except in SHARED, and unused pointers are 0. -/
def mkEntry (tag st : Nat) (busy : Bool) (ptrs : List Nat) : Entry :=
  let pm := if st = 1 then ptrs.length - 1 else 0
  BitVec.ofNat 64 (tag + st * 2 ^ 16 + (if busy then 2 ^ 19 else 0) + pm * 2 ^ 20
    + ((List.range 4).map (fun k => (ptrs.getD k 0 % 2 ^ 10) * 2 ^ (22 + 10 * k))).sum)
/-- An entry as the KZ64 writes it again, BUSY or not: SPARE is 0, and a STATE of 4 to 7 is written as SHARED_BCAST, as which it
counts (R93, R96). -/
def busyEntry (line : Nat) (e : Entry) (busy : Bool) : Entry :=
  mkEntry (catTag line) (if eState e ≥ 4 then 2 else eState e) busy (ePtrs e)
/-- A way that is free: UNCACHED and not reserved by a BUSY tracker. -/
def eFree (e : Entry) : Bool := eState e == 0 && !eBusy e

/-! The cache over the backing store (R98–R100). -/

/-- A backing set as HBM holds it. -/
def State.backing (s : State) (r i : Nat) : List Entry :=
  (List.range 16).map (fun k => BitVec.ofNat 64 (peekN s.hbm (catAt r i + 8 * k) 8))
/-- Write a set to HBM. -/
def State.putBacking (s : State) (r i : Nat) (ways : List Entry) : State :=
  { s with hbm := (List.range 16).foldl (fun m k => pokeN m (catAt r i + 8 * k) 8 (ways.getD k 0).toNat) s.hbm }
/-- The cached set, if it is cached. -/
def State.cachedSet (s : State) (r i : Nat) : Option CatSet := Tab.get none s.cat.cache (catKey r i)
/-- The ways of a set: cached, or as HBM holds it. -/
def State.catWays (s : State) (r i : Nat) : List Entry :=
  match s.cachedSet r i with
  | some c => c.ways
  | none => s.backing r i

/-- Change the Catalogue's own state. -/
def State.inCat (s : State) (f : CatState → CatState) : State := { s with cat := f s.cat }

/-- A set becomes the most recently used of its 12 cache ways; one that is pushed out goes to HBM when it was modified. -/
def State.catTouch (s : State) (r i : Nat) : State :=
  let key := 2 ^ 14 * r + i % 2 ^ 14
  let old := (Tab.get [] s.cat.lru key).filter (fun x => x != i)
  let out := (i :: old).drop 12
  let s1 := out.foldl (fun s j =>
    let t := match s.cachedSet r j with
      | some c => if c.modified then s.putBacking r j c.ways else s
      | none => s
    t.inCat fun c => { c with cache := Tab.put none c.cache (catKey r j) none }) s
  s1.inCat fun c => { c with lru := Tab.put [] c.lru key ((i :: old).take 12) }

/-- A set is filled from HBM into the cache. DESIGN CHOICE: HBM holds no order of use, and the ways of a set just filled count as
used in their order, way 0 most recently and way 15 least (log entry 31). -/
def State.catFill (s : State) (r i : Nat) : State :=
  match s.cachedSet r i with
  | some _ => s.catTouch r i
  | none =>
    (s.inCat fun c => { c with cache := Tab.put none c.cache (catKey r i) (some ⟨s.backing r i, List.range 16, false⟩) }).catTouch r i

/-- The way of a line's entry in a set: a state other than UNCACHED, or reserved. -/
def entryWay (ways : List Entry) (tag : Nat) : Option Nat :=
  (List.range 16).find? (fun k => !eFree (ways.getD k 0) && eTag (ways.getD k 0) == tag)

/-- The entry of a line, all zero when it is UNCACHED. -/
def State.entry (s : State) (line : Nat) : Entry :=
  let ways := s.catWays (homeOf line) (catIndex line)
  match entryWay ways (catTag line) with
  | some k => ways.getD k 0
  | none => 0

/-- Every pointer written is marked in its agent's presence filter (R131). -/
def State.markPresence (s : State) (r i : Nat) (ptrs : List Nat) : State :=
  s.inCat fun c => { c with filter := ptrs.foldl (fun f a =>
    Tab.put 0 f (1024 * r + a) (Tab.get 0 f (1024 * r + a) ||| BitVec.ofNat 1024 (2 ^ (i / 2 ^ 16)))) c.filter }

/-- Write the entry of a line in the cached set, which is filled first (R100): in its way, else in the first free one. An
UNCACHED entry that is not BUSY frees the way. -/
def State.setEntry (s : State) (line : Nat) (e : Entry) : State :=
  let r := homeOf line
  let i := catIndex line
  let s1 := s.catFill r i
  match s1.cachedSet r i with
  | none => s1
  | some c =>
    let k? := match entryWay c.ways (catTag line) with
      | some k => some k
      | none => (List.range 16).find? (fun k => eFree (c.ways.getD k 0))
    match k? with
    | none => s1
    | some k =>
      let v := if eFree e then 0 else e
      let c1 : CatSet := ⟨c.ways.set k v, k :: c.lru.filter (fun x => x != k), true⟩
      (s1.inCat fun t => { t with cache := Tab.put none t.cache (catKey r i) (some c1) }).markPresence r i (ePtrs v)

/-- The class of a way for eviction (R108): SHARED with one pointer first, then SHARED, OWNED, SHARED_BCAST. -/
def evictClass (e : Entry) : Nat :=
  if eState e = 1 then (if bits e 20 2 = 0 then 0 else 1) else if eState e = 3 then 2 else 3

/-- The way to evict from a set (R108): not BUSY, of the lowest class, the least recently used. -/
def victimWay (c : CatSet) : Option Nat :=
  let ks := (c.lru.reverse).filter (fun k => eState (c.ways.getD k 0) != 0 && !eBusy (c.ways.getD k 0))
  let best := (ks.map (fun k => evictClass (c.ways.getD k 0))).min?
  ks.find? (fun k => some (evictClass (c.ways.getD k 0)) == best)

/-- The backing set whose bytes include an HBM key of region r, if any (R166). -/
def setAtKey (r key : Nat) : Option Nat :=
  let st := key / 2 ^ 35
  let a := key % 2 ^ 35
  if st / 2 = r && 0x400000000 ≤ a && a < 0x500000000 then
    let q := (a - 0x400000000) / 128
    some (q / 16 * 32 + st % 2 * 16 + q % 16)
  else none

/-- The backing sets of region r that hold an entry: cached, or with a byte in HBM. -/
def State.catSets (s : State) (r : Nat) : List Nat :=
  let cached := (s.cat.cache.filter (fun e => e.1 / 2 ^ 26 == r)).map (fun e => e.1 % 2 ^ 26)
  cached ++ (s.hbm.filterMap (fun c => setAtKey r c.1)).dedup.filter (fun i => (s.cachedSet r i).isNone)

/-- The entries of a shelf's lines, each with its line. -/
def State.shelfEntries (s : State) (x : Nat) : List (Nat × Entry) :=
  (s.catSets (x % 4)).flatMap (fun i => ((s.catWays (x % 4) i).filter (fun e => !eFree e)).filterMap (fun e =>
    let line := catLine (x % 4) i (eTag e)
    if shelfOf line = x then some (line, e) else none))

/-! Dead agents (R128). -/

/-- An agent's scope covers a line. -/
def State.scopeCovers (s : State) (d : DeadScope) (line : Nat) : Bool :=
  match d with
  | .all => true
  | .group g => rget (s.srec (shelfOf line)) rMode != 0 && rget (s.srec (shelfOf line)) rGroup == g
  | .shelf x => shelfOf line == x

/-- An agent is dead for a line. -/
def State.deadFor (s : State) (agent line : Nat) : Bool :=
  match Tab.get none s.cat.dead agent with
  | some e => s.scopeCovers e.scope line
  | none => false

/-- A port has an agent in the dead set, with any scope: its CXL.cache and CXL.mem traffic is refused, and its configuration
requests are answered with Retry Status (R135). -/
def State.deadPort (s : State) (u p : Nat) : Bool :=
  s.cat.dead.any (fun e => e.2.isSome && e.1 / 4 == 64 * u + p)

/-- An agent is in the dead set with scope ALL. -/
def State.deadAll' (s : State) (agent : Nat) : Bool :=
  match Tab.get none s.cat.dead agent with
  | some e => e.scope == .all
  | none => false

/-! Broadcasts (R107). -/

/-- A unit is reached: this one, or the peer of a Zwius link that is up. -/
def State.reaches (s : State) (u : Nat) : Bool :=
  u == s.unit || (List.range 8).any (fun z => Tab.get 0 s.cat.peer z == u + 1 && s.inService (zPort z))

/-- The agents that the port plan enables on port bit b = 64 u + p of a group: the host of a UP port, or a device cache (R120). The
plan of another unit is not known, so its every port counts; of a port's cache indices 1 to 3, those count that have presented a
request (log entry 32). -/
def State.agentsOn (s : State) (b : Nat) : List Nat :=
  let more := s.cat.indices.filter (fun a => a / 4 == b)
  if b / 64 != s.unit then (if s.reaches (b / 64) then 4 * b :: more else [])
  else if s.role (b % 64) = 1 then 4 * b :: more
  else if s.role (b % 64) = 2 && s.plan (b % 64) 14 1 = 1 then [4 * b] else []

/-- The agents of the binding group of a line's shelf, as a record names it, but for ports without a back-invalidation channel
(R265). -/
def State.groupAgents (s : State) (r : Nat) (x : BitVec 128) : List Nat :=
  ((List.range 256).filter (fun b => s.inGroup r (rget x rGroup) b && !s.noBi b)).flatMap (fun b => s.agentsOn b)

/-- The agents that may hold a line beside a requester (R101): the pointers, or the group for SHARED_BCAST. -/
def State.holders (s : State) (line : Nat) (x : BitVec 128) (e : Entry) : List Nat :=
  (if eState e = 2 || eState e ≥ 4 then s.groupAgents (homeOf line) x else ePtrs e).filter (fun a => !s.deadFor a line)

/-- Pointers to agents dead for the line are removed (R132): an OWNED line is written as poisoned, and a SHARED one with no
pointer left is UNCACHED. BUSY stays. -/
def State.reclaimEntry (s : State) (line : Nat) : State :=
  let e := s.entry line
  let keep := (ePtrs e).filter (fun a => !s.deadFor a line)
  if keep.length = (ePtrs e).length then s
  else if eState e = 3 then
    let s1 := (s.grnPoison line 1 ((ePtrs e).getD 0 0)).2.bump CAT_RCL_STS.POISONED (homeOf line) 1
    s1.setEntry line (mkEntry (catTag line) 0 (eBusy e) [])
  else s.setEntry line (mkEntry (catTag line) (if keep = [] then 0 else 1) (eBusy e) keep)

/-! Transitions (R101). -/

/-- The snoops of a request by agent x, none for a requester without a cache, to a line with entry e. -/
def State.snoopsFor (s : State) (q : Request) (x : Option Nat) (e : Entry) : List (Nat × SnpKind) :=
  let all := s.holders (lineOf q.a.addr.toNat) q.srec e
  let others := all.filter (fun a => some a != x)
  match q.kind with
  | .rdShared => if eState e = 3 then others.map (fun a => (a, .data)) else []
  | .rdCur => if eState e = 3 then others.map (fun a => (a, .cur)) else []
  | .rdOwn => others.map (fun a => (a, .inv))
  | .ownNodata => others.map (fun a => (a, .inv))
  | .wr => all.map (fun a => (a, .inv))
  | .wb => []
  | .cleanEvict => []

/-- Memory is known to be current before any snoop is answered (R104). -/
def currentInMemory (x : Option Nat) (e : Entry) : Bool := eState e != 3 || ePtrs e == x.toList

/-- The next state of the entry and what X is granted (R101), once every response has arrived: `sAns` says that the owner
answered S, `iAns` that it answered I. -/
def nextEntry (q : Request) (x : Option Nat) (tag : Nat) (e : Entry) (sole sAns iAns : Bool) : Entry × GrantKind :=
  let xs := x.toList
  let mk := mkEntry tag
  let same := mk (eState e) false (ePtrs e)
  let ps := ePtrs e
  match q.kind with
  | .rdShared =>
    if eState e = 0 then (if sole then (mk 3 false xs, .e) else (mk 1 false xs, .s))
    else if eState e = 1 then
      if xs.all (fun a => ps.contains a) then (same, .s)
      else if ps.length < 4 then (mk 1 false (ps ++ xs), .s) else (mk 2 false [], .s)
    else if eState e = 3 then
      if ps = xs then (mk 1 false xs, .s) else (mk 1 false ((if sAns then ps else []) ++ xs), .s)
    else (same, .s)
  | .rdOwn => (mk 3 false xs, .e)
  | .ownNodata => (mk 3 false xs, .e)
  | .rdCur => (if eState e = 3 && iAns then 0 else same, .none)
  | .wr => (0, .none)
  | .wb => (match q.m with
    | .i => 0
    | .dirtyEvict => 0
    | .s => mk 1 false xs
    | .a => same
    | .noOp => same, .none)
  | .cleanEvict =>
    if eState e = 3 && ps = xs then (0, .none)
    else if eState e = 1 && xs.any (fun a => ps.contains a) then
      let keep := ps.filter (fun a => !xs.contains a)
      (if keep = [] then 0 else mk 1 false keep, .none)
    else (same, .none)

end Sys2Proof.Machine
end

