-- ==== Sys2Proof/Machine/Desk.lean ====
section
/-! DEFINITION. The Loan desk: trackers, conflict chains, snoops, grants, directory eviction, the dedupe table, and the races at
one line (R91, R92, R101–R117, R122–R124, R129, R130, R134–R140, R154). A command runs the work that it brings about to the end. -/
namespace Sys2Proof.Machine
open Sys2Proof

/-- Work at the Loan desk: a request presented to its bank; tracker k becomes the holder of its line, meets its entry, meets it
again if it still waits for a way or a reserved tracker, or may be complete; a way of a backing set, a tracker of a region, or a reserved one, is free; a region's released shelves are
back-invalidated; a controller's write-back buffer has room. -/
inductive Work where
  | present (q : Request)
  | hold (k : Nat)
  | decide (k : Nat)
  | again (k : Nat)
  | settle (k : Nat)
  | wayFree (r i : Nat)
  | trkFree (r : Nat)
  | rsvFree (r : Nat)
  | inval (r : Nat)
  | room (ctrl : Nat)
deriving DecidableEq, Repr

/-! Trackers (R111). -/
def State.trk (s : State) (k : Nat) : Option Tracker := Tab.get none s.cat.trk k
def State.setTrk (s : State) (k : Nat) (t : Option Tracker) : State := s.inCat fun c => { c with trk := Tab.put none c.trk k t }
/-- Trackers in use in a region. -/
def State.trkUsed (s : State) (r : Nat) : Nat := (s.cat.trk.filter (fun e => e.1 / 8192 == r)).length
/-- CAT_LD_OCC follows the trackers in use. -/
def State.noteOcc (s : State) (r : Nat) : State :=
  (s.set CAT_LD_OCC.CURRENT r (s.trkUsed r)).raise CAT_LD_OCC.PEAK r (s.trkUsed r)
/-- The first free tracker of a region's general or reserved pool. -/
def State.freeTrk (s : State) (r : Nat) (reserved : Bool) : Option Nat :=
  ((if reserved then (List.range 512).map (fun k => 7680 + k) else List.range 7680).map (fun k => 8192 * r + k)).find?
    (fun k => s.trk k == none)
/-- The tracker that holds a line. -/
def State.holder (s : State) (line : Nat) : Option Nat :=
  (s.cat.trk.find? (fun e => e.1 / 8192 == homeOf line && (match e.2 with
    | some t => t.line == line && t.phase != .chain && t.phase != .remote
    | none => false))).map (fun e => e.1)

def Tracker.req (t : Tracker) : Option Request := match t.purpose with
  | .request q => some q
  | .evict => none
  | .remote _ _ => none

/-- The caching agent that an access is at the home: a host's or a device cache (R120), of another unit as it names itself; a data
mover, a slip and a PCIe device cache nothing. -/
def State.cacher (s : State) (a : Access) : Option Nat :=
  match a.src with
  | .host => some a.agent.toNat
  | .devCache => some (if agentUnit a.agent = s.unit then agentId s.unit a.port 0 else a.agent).toNat
  | .pcieDev _ => none
  | .carrel _ _ => none
  | .slip _ => none
  | .owner _ => none

/-- The carrel that issues an access (R61, R171). -/
def carrelOf (a : Access) : Option Nat := match a.src with
  | .carrel k _ => some k.toNat
  | .slip k => some k.toNat
  | _ => none

/-- A write is hinted (R117). -/
def State.isHinted (s : State) (r : Nat) (q : Request) : Bool :=
  q.kind == .wr && (match q.a.src with
    | .host => s.flag CAT_CTL.HOST_WR_HINT r
    | .pcieDev tph => tph && s.flag CAT_CTL.HINT_TPH_EN r
    | .carrel _ h => h
    | .owner h => h
    | _ => false)

/-- A request that reads data. -/
def ReqKind.needsData (k : ReqKind) : Bool := k == .rdShared || k == .rdOwn || k == .rdCur
/-- TC6 traffic of hosts takes reserved trackers: writebacks and host writes (R102, R111, R220). -/
def Request.reserved (q : Request) : Bool := q.kind == .wb || (q.kind == .wr && q.a.src == .host)
/-- A shelf whose lines the Catalogue tracks (R58, R92). -/
def Request.coherent (q : Request) : Bool := rget q.srec rMode == 1

def servedKey (a : Access) : Nat := a.agent.toNat * 2 ^ 16 + a.tag.toNat

/-- A request to a line has been served, until its tag is used again (R137). -/
def State.markServed (s : State) (a : Access) : State :=
  s.inCat fun c => { c with served := Tab.put 0 c.served (servedKey a) (lineOf a.addr.toNat + 1) }

/-- A message of the home to the agent of a request (R102, R220): on TC6 to a host, as S2M NDR or DRS, and to a device cache, as H2D
Rsp and Data; to a PCIe device a CXL.io completion on TC3. What issues accesses inside this unit takes it where it stands. -/
def State.toAgent (s : State) (q : Request) (m : Msg) (d : Option LineData) : State :=
  let r := homeOf q.a.addr.toNat
  let bytes := match d with
    | some x => lineBytes x
    | none => []
  if agentUnit q.a.agent != s.unit then s.send r (agentUnit q.a.agent) (agentPort q.a.agent) 6 [] m bytes
  else match q.a.src with
  | .host => s.send r s.unit (agentPort q.a.agent) 6 (if d.isSome then [4] else [3]) m bytes
  | .devCache => s.send r s.unit q.a.port 6 (if d.isSome then [6, 7] else [6]) m bytes
  | .pcieDev _ => s.send r s.unit q.a.port 3 (10 :: List.replicate (if d.isSome then 4 else 0) 13) m bytes
  | .carrel _ _ => s.emit m
  | .slip _ => s.emit m
  | .owner _ => s.emit m

/-- The answer to a request: data with a grant, or a completion (R101). A PCIe memory write is posted and has none. -/
def State.answer (s : State) (q : Request) (g : GrantKind) (d : Option LineData) : State :=
  match q.a.src, q.kind with
  | .pcieDev _, .wr => s
  | _, _ => match g, d with
    | .none, none => s.toAgent q (.complete q.a.agent q.a.tag) none
    | _, _ => s.toAgent q (.grant q.a.agent q.a.tag g d) d

/-- The answer to a refused request (R60): poisoned data, or a normal completion that did nothing; a slip is counted in its
sender's carrel. -/
def State.answerRefused (s0 : State) (q : Request) : State :=
  let s := match q.a.src with
    | .slip k => s0.carrelCount k.toNat 5 1
    | _ => s0
  if q.kind.needsData then
    let (d, s1) := s.openLine
    s1.answer q .none (some d)
  else s.answer q .none none

/-- The ingress region answers an access to a shelf homed in an isolated region (R468): a read with poison of reason SHELF_LOST,
which it records at the delivery, and a write with a normal completion. -/
def State.answerLost (s : State) (q : Request) : State :=
  let fa := q.a.addr.toNat
  let s1 := s.answerRefused q
  if q.kind.needsData then s1.archive ((s.checkedAs q.a).toNat / 4 % 64 / 16) 0x30A 3 (shelfOf fa) fa (s.checkedAs q.a).toNat else s1

/-! The dedupe table (R122–R124, R154). -/

/-- A write that arrived over a Zwius link (R122). -/
def State.viaZwius (s : State) (q : Request) : Bool :=
  (q.kind == .wr || q.kind == .wb) && agentUnit q.a.agent != s.unit

/-- The live entry that a repeat matches: its epoch is the one stamped or the one before (R154). -/
def State.ddpMatch (s : State) (q : Request) : Option DdpEntry :=
  let e := rget q.srec rEpoch
  s.cat.ddp.find? (fun x => x.agent == q.a.agent && x.tag == q.a.tag && x.region == homeOf q.a.addr.toNat &&
    (x.epoch == e || x.epoch == (e + 65535) % 65536))

/-- Entries of a region, with OCC following them. -/
def State.noteDdp (s : State) (r : Nat) : State :=
  s.set CAT_DDP_STS.OCC r (s.cat.ddp.filter (fun x => x.region == r)).length

/-- Enter a write, replacing an entry with the same key (R122, R154). -/
def State.ddpEnter (s : State) (q : Request) : State :=
  let r := homeOf q.a.addr.toNat
  let e := rget q.srec rEpoch
  (s.inCat fun c => { c with ddp := c.ddp.filter (fun x =>
      !(x.region == r && x.agent == q.a.agent && x.tag == q.a.tag && x.epoch == e))
    ++ [{ region := r, agent := q.a.agent, tag := q.a.tag, epoch := e, shelf := shelfOf q.a.addr.toNat, done := false }] }).noteDdp r

/-- The completion of a write is stored in its own entry, and given again to a repeat that waits for it (R122, R154). -/
def State.ddpDone (s : State) (q : Request) : State :=
  let mine (x : DdpEntry) : Bool := x.agent == q.a.agent && x.tag == q.a.tag && x.region == homeOf q.a.addr.toNat &&
    x.epoch == rget q.srec rEpoch && !x.done
  match s.cat.ddp.find? mine with
  | none => s
  | some e =>
    let n := s.cat.ddpSeq + 1
    let s1 := s.inCat fun c =>
      { c with ddpSeq := n, ddp := c.ddp.map (fun x => if x = e then { e with done := true, again := false, fin := n } else x) }
    if e.again then s1.answer q .none none else s1

/-! The end of a request. -/

/-- A request is complete: no barrier waits for it, and its completion is stored for repeats. -/
def State.requestOver (s : State) (q : Request) : State :=
  let s1 := (s.markServed q.a).gone q.ticket
  if s1.viaZwius q then s1.ddpDone q else s1

/-- A tracker ends: the first waiter of its chain becomes the holder (R113), and what waits for its way or for a tracker may
go on. An evicted way goes to the request that it was freed for before the victim's own chain (R109, R140). -/
def State.endTrk (s : State) (k : Nat) (t : Tracker) : State × List Work :=
  let r := k / 8192
  let s1 := s.setTrk k none
  let (s2, next) := match t.chain with
    | [] => (s1, [])
    | h :: rest => match s1.trk h with
      | some w => (s1.setTrk h (some { w with phase := .work, chain := rest }), [Work.hold h])
      | none => (s1, [])
  let way := [Work.wayFree r (catIndex t.line)]
  (s2.noteOcc r, (if t.purpose = .evict then way ++ next else next ++ way) ++ [.trkFree r] ++
    (if k % 8192 ≥ 7680 then [.rsvFree r] else []) ++ (if s.cat.inval.any (fun x => x % 4 == r) then [.inval r] else []))

/-! A request at its bank (R59, R111–R114, R124, R135, R136, R138). -/

/-- A holding tracker takes an eviction or a writeback instead of letting it wait (R111, R136, R138): of an agent that it snoops or
whose request it expects, or of the owner, whose whole MemWr is a writeback (R91). -/
def Tracker.takes (t : Tracker) (x : Option Nat) (q : Request) : Bool :=
  match x with
  | none => false
  | some a =>
    let near := t.await.any (fun e => e.1 == a) || t.named.any (fun e => e.1 == a)
    let owner := eState t.entry == 3 && ePtrs t.entry == [a]
    match q.kind with
    | .wb => near || owner
    | .wr => owner && q.a.src == .host && q.be == BitVec.allOnes 64
    | .cleanEvict => near
    | _ => false

/-- Take it (R136): its data becomes the line's value, and its pointer is removed when the agent gave the line up. -/
def Tracker.take (t : Tracker) (a : Nat) (q : Request) : Tracker :=
  let writes := q.kind == .wb || q.kind == .wr
  let gaveUp := q.kind == .cleanEvict || (q.kind == .wb && (q.m == .i || q.m == .dirtyEvict))
  { t with taken := if writes then some q.d else t.taken
           stored := if writes then false else t.stored
           gone := if gaveUp then a :: t.gone else t.gone
           named := t.named.filter (fun e => !(e.1 == a && e.2 == q.a.tag))
           took := (a, q.a.tag) :: t.took }

/-- The line of a tracker is coherent (R92). -/
def Tracker.coherent (t : Tracker) : Bool := match t.req with
  | some q => q.coherent
  | none => true

/-- The holder of a request's line takes it: no lookup can refuse it (R136, R138). -/
def State.crosses (s : State) (q : Request) : Bool :=
  match s.holder (lineOf q.a.addr.toNat) with
  | none => false
  | some h => match s.trk h with
    | none => false
    | some t => t.coherent && t.takes (s.cacher q.a) q

/-- Give a stamped request a tracker: the holder of its line, a waiter in its chain, or a retry from a full chain. A holder stops
waiting for a request named in a BIConflict once it is taken or in the chain (R138). -/
def State.enter (s : State) (q : Request) : State × List Work :=
  let line := lineOf q.a.addr.toNat
  let r := homeOf line
  let x := s.cacher q.a
  let refused := (s, ([] : List Work))
  match s.holder line with
  | some h =>
    match s.trk h with
    | none => refused
    | some t =>
      if t.coherent && t.takes x q then
        ((s.setTrk h (some (t.take (x.getD 0) q))).requestOver q |>.answer q .none none, [.settle h])
      else if q.coherent && q.kind == .wb && q.a.src != .host then
        ((s.record (blockOcc (catSet r) 5)).requestOver q |>.answer q .none none, [])
      else if t.chain.length ≥ 64 then
        ((s.bump CAT_CHAIN_STS.RETRIES r 1).count r 0x06 0 1 |>.inCat fun c => { c with retry := c.retry ++ [(r, q)] }, [])
      else match s.freeTrk r q.reserved with
        | none => (s.inCat fun c => { c with voq := c.voq ++ [(r, q)] }, [])
        | some k =>
          let t1 := { t with chain := t.chain ++ [k], named := t.named.filter (fun e => !(some e.1 == x && e.2 == q.a.tag)) }
          (((s.setTrk h (some t1)).setTrk k (some { purpose := .request q, line := line, phase := .chain })).noteOcc r |>.raise
            CAT_CHAIN_STS.LONGEST r (t.chain.length + 1), [.settle h])
  | none =>
    match s.freeTrk r q.reserved with
    | none => (s.inCat fun c => { c with voq := c.voq ++ [(r, q)] }, [])
    | some k => ((s.setTrk k (some { purpose := .request q, line := line, phase := .work })).noteOcc r, [.hold k])

/-- A write that came over a Zwius link meets the dedupe table (R122–R124, R154). -/
def State.dedupe (s : State) (q : Request) : State × List Work :=
  let r := homeOf q.a.addr.toNat
  match (if q.a.rep then s.ddpMatch q else none) with
  | some e =>
    let s1 := (s.bump CAT_DDP_STS.HITS r 1).gone q.ticket
    if e.done then (s1.answer q .none none, [])
    else (s1.inCat fun c => { c with ddp := c.ddp.map (fun x => if x = e then { e with again := true } else x) }, [])
  | none =>
    if (s.cat.ddp.filter (fun x => x.region == r)).length ≥ 16384 then
      ((s.bump CAT_DDP_STS.FULL_WAITS r 1).inCat fun c => { c with ddpWait := c.ddpWait ++ [(r, q)] }, [])
    else (s.ddpEnter q).enter q

/-- A request of a host on a UP port of this unit, before the machine is ready (R382). -/
def State.early (s : State) (a : Access) : Bool :=
  a.src == .host && agentUnit a.agent == s.unit && !s.flag SEC_BOOT_STS.READY 0

/-- What the error checks of the shelf table, the group copies, the tracker and the dedupe table find is reported (R87, R125). -/
def State.storeChecks (s : State) (q : Request) : State :=
  let x := shelfOf q.a.addr.toNat
  let r := homeOf q.a.addr.toNat
  let c := q.a.chk
  let s1 := match c.shelf with
    | .good => s
    | .corrected => s.record (blockOcc (bndSet r) 1)
    | .uncorrectable => (s.setLost x).record (occ (bndSet r) 2 3 x)
  let s2 := if c.group then s1.record (regionOcc r (bndSet r) 5) else s1
  let s3 := if c.trk then s2.record (regionOcc r (catSet r) 8) else s2
  if c.ddp && s3.viaZwius q then s3.record (regionOcc r (catSet r) 9) else s3

/-- The source region of a request: that of its ingress port (R112). -/
def Request.source (q : Request) : Nat := q.a.port.val / 16

/-- The bank takes a request: its round-robin pointer moves past the request's source region, TC6 traffic aside (R112); and an agent
of a cache index 1 to 3 becomes known (R107). -/
def State.bankTurn (s : State) (q : Request) : State :=
  let i := 16 * homeOf q.a.addr.toNat + catIndex (lineOf q.a.addr.toNat) % 16
  let a := q.a.agent.toNat
  let s1 := if q.reserved then s else s.inCat fun c => { c with rr := Tab.put 0 c.rr i ((q.source + 1) % 4) }
  if q.a.src == .host && a % 4 != 0 && !s.cat.indices.contains a then s1.inCat fun c => { c with indices := a :: c.indices } else s1

/-- A request that has passed its lookup is stamped with its record, and gets its tracker or meets the dedupe table (R59, R67). -/
def State.stamp (s : State) (q : Request) : State × List Work :=
  let fa := q.a.addr.toNat
  let q1 := { q with srec := s.srec (shelfOf fa), ticket := s.bnd.ticket + 1, grpSeq := Tab.get 0 s.bnd.grpSeq (homeOf fa) }
  let s1 := { s with bnd := { s.bnd with ticket := s.bnd.ticket + 1 } }
  let s2 := s1.inCat fun c => { c with served := Tab.put 0 c.served (servedKey q.a) 0 }
  if s2.viaZwius q1 then s2.dedupe q1 else s2.enter q1

/-- The agent whose port an access comes from, as the dead sets know it. -/
def State.fromDead (s : State) (q : Request) : Bool :=
  match s.cacher q.a with
  | some a => s.deadPort (a / 256) (a / 4 % 64)
  | none => false

/-- A request is presented: answered before ready, from a port with an agent in the dead set refused unless it had already reached
the home, taken by the holder of its line, held by a switch-over, refused, or stamped (R59, R84, R111, R130, R135, R136,
R382). -/
def State.present (s0 : State) (q : Request) : State × List Work :=
  let fa := q.a.addr.toNat
  if q.ticket != 0 then s0.enter q
  else if s0.early q.a then (s0.answerRefused q, [])
  else if s0.rgn (homeOf fa) == 2 then (s0.answerLost q, [])
  else if !q.seen && s0.fromDead q then (s0.answerRefused q, [])
  else
    let s := s0.bankTurn q
    if s.crosses q then s.stamp q
    else match (if s.stalled (shelfOf fa) then s.rshSlot (shelfOf fa) else none) with
    | some n =>
      let z : RshSlot := Tab.get {} s.bnd.rsh n
      ({ s with bnd := { s.bnd with rsh := Tab.put {} s.bnd.rsh n { z with held := z.held ++ [{ q with seen := true }] } } }, [])
    | none =>
      if (s.freeTrk (homeOf fa) q.reserved).isNone then
        (s.inCat fun c => { c with voq := c.voq ++ [(homeOf fa, { q with seen := true })] }, [])
      else
        let s1 := s.storeChecks q
        match s1.lookup q.a fa (kindReads q.kind) (kindWrites q.kind) with
        | some why => ((s1.refuse q.a fa why).answerRefused q, [])
        | none => s1.stamp q

/-! A tracker at work. -/

/-- The Catalogue lookup of a line (R98, R99): a set that is not cached is waited for. Private and software shelves have none
(R92). A corrected word of a cached set is rewritten; a set with an uncorrectable one is fetched again where the cache has not
modified it, and otherwise the region is isolated (R125). -/
def State.workHold (s : State) (k : Nat) : State × List Work :=
  match s.trk k with
  | none => (s, [])
  | some t =>
    match t.req with
    | none => (s, [.settle k])
    | some q =>
      if !q.coherent then (s.setTrk k (some { t with phase := .work }), [.settle k])
      else
        let r := k / 8192
        let i := catIndex t.line
        let s1 := s.count r 0x01 (i % 16) 1
        let bad := (s1.cachedSet r i).isSome && q.a.chk.cache == .uncorrectable
        let lost := bad && (match s1.cachedSet r i with | some c => c.modified | none => false)
        let s1 := if bad then (if lost then s1.record (regionOcc r (catSet r) 2)
            else (s1.record (blockOcc (catSet r) 1)).inCat fun c => { c with cache := Tab.put none c.cache (catKey r i) none })
          else if (s1.cachedSet r i).isSome && q.a.chk.cache == .corrected then s1.record (blockOcc (catSet r) 0) else s1
        match s1.cachedSet r i with
        | some _ =>
          if lost then (s1.setTrk k (some { t with phase := .fill }), [])
          else ((s1.catTouch r i).setTrk k (some { t with phase := .work }), [.decide k])
        | none =>
          let s2 := (s1.count r 0x02 (i % 16) 1).setTrk k (some { t with phase := .fill })
          let key := catKey r i
          let joined := s2.cat.fills.map (fun f => if f.1 == key then (key, f.2 ++ [k]) else f)
          let all := if s2.cat.fills.any (fun f => f.1 == key) then joined else joined ++ [(key, [k])]
          (s2.inCat fun c => { c with fills := all }, [])

/-- A snoop of the home to an agent (R102, R121): BISnp on a UP port, an H2D request on a DN port, on TC7. -/
def State.sendSnoop (s : State) (r a : Nat) (k : SnpKind) (line : Nat) : State :=
  let ag := BitVec.ofNat 10 a
  s.send r (a / 256) (a / 4 % 64) 7 (if s.role (a / 4 % 64) = 2 then [5] else [2]) (.snoop ag k line)

/-- Send the snoops of a tracker (R101, R107, R129). -/
def State.sendSnoops (s : State) (k : Nat) (t : Tracker) (sn : List (Nat × SnpKind)) (bcast : Bool) : State :=
  let r := k / 8192
  let s1 := sn.foldl (fun s e => (s.sendSnoop r e.1 e.2 t.line).count r 0x03 0 1) s
  (if bcast && sn != [] then s1.count r 0x04 0 1 else s1).setTrk k (some { t with await := sn })

/-- Start an eviction of a line in a reserved tracker (R109): the victim is BUSY, and every holder is back-invalidated. -/
def State.startEvict (s : State) (k victim : Nat) (x : BitVec 128) (chain : List Nat) : State × List Work :=
  let s1 := s.reclaimEntry victim
  let e := s1.entry victim
  let busy := busyEntry victim e true
  let s2 := s1.setEntry victim busy
  let t : Tracker := { purpose := .evict, line := victim, phase := .work, entry := busy, chain := chain }
  ((s2.sendSnoops k t ((s2.holders victim x e).map (fun a => (a, SnpKind.inv))) (eState e == 2 || eState e ≥ 4)).noteOcc (k / 8192),
    [.settle k])

/-- Evictions under way in a backing set. -/
def State.evictsIn (s : State) (r i : Nat) : Nat :=
  (s.cat.trk.filter (fun e => e.1 / 8192 == r && (match e.2 with
    | some t => t.purpose == .evict && catIndex t.line == i
    | none => false))).length
/-- Trackers that wait for a way of a set. -/
def State.waitWay (s : State) (r i : Nat) : List Nat :=
  (s.cat.trk.filter (fun e => e.1 / 8192 == r && (match e.2 with
    | some t => t.phase == .way && catIndex t.line == i
    | none => false))).map (fun e => e.1)

/-- A request waits for a way of its set, for which an entry is evicted, one with a STATE of 4 to 7 with CAT_STATE_BAD (R96,
R108–R110). -/
def State.needWay (s : State) (k : Nat) (t : Tracker) : State × List Work :=
  let r := k / 8192
  let i := catIndex t.line
  let s1 := s.setTrk k (some { t with phase := .way })
  if s1.evictsIn r i ≥ (s1.waitWay r i).length then (s1, [])
  else match s1.cachedSet r i, s1.freeTrk r true with
    | some c, some e =>
      (match victimWay c with
       | none => (s1, [])
       | some v =>
         let old := c.ways.getD v 0
         let victim := catLine r i (eTag old)
         let s2 := if eState old ≥ 4 then s1.record (blockOcc (catSet r) 4) else s1
         (s2.count r 0x05 0 1).startEvict e victim (s2.srec (shelfOf victim)) [])
    | _, _ => (s1, [])

/-- Start the Granary read of a tracker (R104, R167): its data, a fetch, poison, or a wait. -/
def State.startRead (s : State) (k : Nat) (t : Tracker) (q : Request) : State × List Work :=
  match s.grnRead q.srec (k / 8192) t.line (carrelOf q.a) q.a.chk.victim with
  | (s1, .data d) => (s1.setTrk k (some { t with held := some d, phase := .data }), [])
  | (s1, .pool) => (s1.setTrk k (some { t with phase := .pool }), [])
  | (s1, .room) => (s1.setTrk k (some { t with phase := .readRoom }), [])
  | (s1, .down) =>
    let (d, s2) := s1.openLine
    (s2.setTrk k (some { t with held := some d, reason := 2, phase := .work }), [.settle k])

/-- A write of a host to a coherent line is sorted by the entry it meets (R91): a whole MemWr of the owner is a writeback, any other
write is a WR. -/
def Request.sorted (q : Request) (x : Option Nat) (e : Entry) : Request :=
  if q.a.src == .host && (q.kind == .wb || q.kind == .wr) then
    if eState e = 3 && ePtrs e = x.toList && q.be = BitVec.allOnes 64 then
      (if q.kind == .wb then q else { q with kind := .wb, m := .noOp })
    else { q with kind := .wr }
  else q

/-- A pointer of the line's entry names an agent dead for it: a reserved tracker reclaims the line while the request waits in its
chain (R134). -/
def State.reclaimLine (s : State) (k v : Nat) (t : Tracker) : State × List Work :=
  let r := k / 8192
  let s1 := ((s.setTrk v (some { purpose := .evict, line := t.line, phase := .work, chain := k :: t.chain })).setTrk k
    (some { t with phase := .chain, chain := [] })).noteOcc r |>.raise CAT_CHAIN_STS.LONGEST r (t.chain.length + 1)
  let s2 := (s1.setEntry t.line (busyEntry t.line (s1.entry t.line) true)).reclaimEntry t.line
  let e := s2.entry t.line
  let s3 := s2.setEntry t.line (busyEntry t.line e false)
  let s4 := ((s3.setTrk v none).setTrk k (some { t with phase := .work })).noteOcc r
  (s4, [.decide k, .rsvFree r])

/-- The entry meets the request (R91, R96, R101, R104, R108, R134). -/
def State.workDecide (s : State) (k : Nat) : State × List Work :=
  match s.trk k with
  | none => (s, [])
  | some t0 =>
    match t0.req with
    | none => (s, [])
    | some q0 =>
      let r := k / 8192
      let e := s.entry t0.line
      let x := s.cacher q0.a
      let q := q0.sorted x e
      let t := { t0 with purpose := .request q }
      if (ePtrs e).any (fun a => s.deadFor a t.line) then
        match s.freeTrk r true with
        | none => (s.setTrk k (some { t0 with phase := .way }), [])
        | some v => s.reclaimLine k v t0
      else if eState e ≥ 4 then
        match s.freeTrk r true with
        | none => (s.setTrk k (some { t0 with phase := .way }), [])
        | some v =>
          let s2 := (s.record (blockOcc (catSet r) 4)).setTrk k (some { t0 with phase := .chain, chain := [] })
          s2.startEvict v t.line q.srec (k :: t.chain)
      else
        let fresh := q.kind == .rdShared || q.kind == .rdOwn || q.kind == .ownNodata
        let ways := s.catWays r (catIndex t.line)
        if eFree e && fresh && !(ways.any eFree) then s.needWay k t
        else
          let s2 := if eFree e && !fresh then s else s.setEntry t.line (busyEntry t.line e true)
          let t1 := { t with phase := .work, entry := e }
          let s3 := s2.sendSnoops k t1 (s2.snoopsFor q x e) (eState e == 2)
          match s3.trk k with
          | none => (s3, [])
          | some t2 =>
            if q.kind.needsData && currentInMemory x e then
              let (s4, w) := s3.startRead k t2 q
              (s4, w ++ [.settle k])
            else (s3, [.settle k])

/-- The base of a partial write (R117, R142, R169): what the Granary, its buffer or the tracker holds. -/
def State.writeBase (s : State) (t : Tracker) : Option LineData :=
  match t.held with
  | some d => some d
  | none => s.cachedLine (homeOf t.line) t.line

/-- A partial write whose line lies in the Granary reads its column (R177). -/
def State.baseRead (s : State) (t : Tracker) (q : Request) : State :=
  match t.held, s.findWay (homeOf t.line) t.line with
  | none, some w => s.sectorRead (wayKey (homeOf t.line) (grnIndex t.line) w) (sectorOf t.line) q.a.chk.base
  | _, _ => s

/-- Store what a tracker has taken, and then what its own request writes (R115, R117, R169): whether all is stored. -/
def State.storeAll (s : State) (k : Nat) (t : Tracker) : State × Option Tracker :=
  let r := k / 8192
  let put (s : State) (t : Tracker) (d : LineData) (h : Bool) (c : Option Nat) (v : List ColRead) (after : Tracker) :
      State × Option Tracker :=
    match s.grnPut r t.line (.tracker k) d h c v with
    | (s1, .done) => (s1, some after)
    | (s1, .room) => (s1.setTrk k (some { t with phase := .writeRoom }), none)
    | (s1, .pool) => (s1.setTrk k (some { t with phase := .poolWrite }), none)
  match t.taken, t.stored with
  | some d, false => put s t d false none [] { t with stored := true }
  | _, _ =>
    match t.req with
    | none => (s, some t)
    | some q =>
      if t.wrote || !(q.kind == .wr || q.kind == .wb) then (s, some t)
      else
        let hinted := s.isHinted r q
        if q.kind == .wb || q.be = BitVec.allOnes 64 then put s t q.d hinted (carrelOf q.a) q.a.chk.victim { t with wrote := true }
        else
          let s := s.baseRead t q
          match s.writeBase t with
          | some b =>
            let s1 := if t.reason = 0 then s
              else if t.reason = 4 || t.reason = 8 then s.archive r (0x307 + t.reason) 3 (shelfOf t.line) t.line (rget q.srec rPort)
              else s.poisonStored t.line t.reason (rget q.srec rPort)
            let t1 := { t with held := some b, reason := 0 }
            put s1 t1 (mergeLine b q.d q.be) hinted (carrelOf q.a) q.a.chk.victim { t1 with wrote := true }
          | none =>
            if s.held (rget q.srec rPort) then
              let (d, s1) := s.openLine
              (s1.setTrk k (some { t with held := some d, reason := 2 }), some { t with held := some d, reason := 2 })
            else ((s.fetch q.srec t.line).setTrk k (some { t with phase := .pool }), none)

/-- A dead agent that an answer would go to (R130). -/
def State.dropsGrant (s : State) (x : Option Nat) (line : Nat) : Bool :=
  match x with
  | some a => s.deadFor a line
  | none => false

/-- Everything a request awaits has come: the entry is written, the answer sent, and the tracker ends (R101, R115, R130). -/
def State.conclude (s : State) (k : Nat) (t : Tracker) (q : Request) : State × List Work :=
  let r := k / 8192
  let x := s.cacher q.a
  let y := (ePtrs t.entry).getD 0 0
  let gaveUp := t.gone.contains y
  let sAns := !gaveUp && t.answers.any (fun e => e.1 == y && e.2 == .s)
  let iAns := gaveUp || t.answers.any (fun e => e.1 == y && e.2 == .i)
  let (e1, g) := if q.coherent then nextEntry q x (catTag t.line) t.entry (s.flag CAT_CTL.GRANT_E_SOLE r) sAns iAns
    else (0, GrantKind.none)
  let keep := (ePtrs e1).filter (fun a => !s.deadFor a t.line)
  let e2 := if keep.length = (ePtrs e1).length then e1
    else if keep = [] then 0 else mkEntry (catTag t.line) (eState e1) false keep
  let s1 := if !q.coherent || (eFree t.entry && eFree e2 && (s.entry t.line) == 0) then s else s.setEntry t.line e2
  let data := if q.kind.needsData then (match t.taken with | some d => some d | none => t.held) else none
  let s2 := if t.reason != 0 && q.kind.needsData && t.taken == none then
      s1.archive r (0x307 + t.reason) 3 (shelfOf t.line) t.line (rget q.srec rPort) else s1
  let s3 := if s2.dropsGrant x t.line then s2.bump CAT_DROP_STS.RSP_DROPPED r 1 else s2.answer q g data
  let (s4, w) := s3.endTrk k t
  (s4.requestOver q, w)

/-- The victim of a directory eviction has answered: its writeback is stored and its way is free (R109). -/
def State.evicted (s : State) (k : Nat) (t : Tracker) : State × List Work :=
  (s.setEntry t.line 0).endTrk k t

/-- A tracker may be complete: no response awaited, no named request missing, and its data at hand (R104, R110, R115, R137,
R138). -/
def State.workSettle (s : State) (k : Nat) : State × List Work :=
  match s.trk k with
  | none => (s, [])
  | some t =>
    if t.phase != .work || t.await != [] || t.named != [] then (s, [])
    else match t.req with
      | none =>
        (match s.storeAll k t with
         | (s1, some t1) => s1.evicted k t1
         | (s1, none) => (s1, []))
      | some q =>
        if q.coherent && q.kind == .wb && !(eState t.entry == 3 && (ePtrs t.entry) == (s.cacher q.a).toList) then
          let s1 := s.record (blockOcc (catSet (k / 8192)) 5)
          let (s2, w) := (if eFree t.entry then s1 else s1.setEntry t.line (busyEntry t.line t.entry false)).endTrk k t
          ((s2.requestOver q).answer q .none none, w)
        else if q.kind.needsData && t.taken == none && t.held == none then s.startRead k t q
        else match s.storeAll k t with
          | (s1, none) => (s1, [])
          | (s1, some t1) =>
            if t1 = t then s1.conclude k t1 q
            else (s1.setTrk k (some t1), [.settle k])

/-- The waiting request of region r that a free tracker goes to (R111, R112): TC6 traffic first; else at the bank of the request
that has waited longest, the first of the source region that the bank's pointer favours, in the order A to D from there. -/
def State.nextWaiting (s : State) (r : Nat) : Option (Nat × Request) :=
  let can := s.cat.voq.filter (fun e => e.1 == r && (s.freeTrk r e.2.reserved).isSome)
  let bank (e : Nat × Request) : Nat := catIndex (lineOf e.2.a.addr.toNat) % 16
  match can.find? (fun e => e.2.reserved) with
  | some e => some e
  | none => match can.head? with
    | none => none
    | some e =>
      let ptr := Tab.get 0 s.cat.rr (16 * r + bank e)
      [0, 1, 2, 3].findSome? (fun i => can.find? (fun x => bank x == bank e && x.2.source == (ptr + i) % 4))

/-- Trackers of a region that wait for a way or for a reserved tracker. -/
def State.waitRsv (s : State) (r : Nat) : List Nat :=
  (s.cat.trk.filter (fun e => e.1 / 8192 == r && (match e.2 with
    | some t => t.phase == .way
    | none => false))).map (fun e => e.1)

/-- The next line of a released coherent shelf is back-invalidated in a reserved tracker (R72 step 3); a shelf without entries
is done. -/
def State.invalidate (s : State) (r : Nat) : State × List Work :=
  match s.cat.inval.find? (fun x => x % 4 == r) with
  | none => (s, [])
  | some x =>
    let all := s.shelfEntries x
    if all = [] then (s.inCat fun c => { c with inval := c.inval.erase x }, [.inval r])
    else match all.find? (fun e => !eBusy e.2), s.freeTrk r true with
      | some e, some k =>
        let (s1, w) := s.startEvict k e.1 (s.srec x) []
        (s1, w ++ [.inval r])
      | _, _ => (s, [])

/-- Trackers that wait for room in a controller's buffer may go on (R172). -/
def State.roomFreed (s : State) (ctrl : Nat) : State × List Work :=
  let ks := (s.cat.trk.filter (fun e => match e.2 with
    | some t => (t.phase == .readRoom || t.phase == .writeRoom) && grnStack (e.1 / 8192) (grnIndex t.line) == ctrl
    | none => false)).map (fun e => e.1)
  (ks.foldl (fun s k => match s.trk k with
    | some t => s.setTrk k (some { t with phase := .work })
    | none => s) s, ks.map Work.settle)

/-- What a piece of work does, and the work that it brings about. -/
def State.act (s : State) (w : Work) : State × List Work :=
  match w with
  | .present q => s.present q
  | .hold k => s.workHold k
  | .decide k => s.workDecide k
  | .again k => match s.trk k with
    | some t => if t.phase = .way then s.workDecide k else (s, [])
    | none => (s, [])
  | .settle k => s.workSettle k
  | .wayFree r i => (s, (s.waitWay r i).map (fun k => .again k))
  | .trkFree r =>
    match s.nextWaiting r with
    | none => (s, [])
    | some e => (s.inCat fun c => { c with voq := c.voq.erase e }, [.present e.2])
  | .rsvFree r => (s, (s.waitRsv r).map (fun k => .again k))
  | .inval r => s.invalidate r
  | .room c => (s.retryPuts c).roomFreed c

/-- Run work to its end, and then what waits for room in a write-back buffer (R172). The fuel is more than any command can bring about: each request ends once. -/
def State.run : Nat → State → List Work → State
  | 0, s, _ => s
  | n + 1, s, [] =>
    match s.grn.roomed with
    | [] => s
    | c :: cs => State.run n { s with grn := { s.grn with roomed := cs } } [.room c]
  | n + 1, s, w :: ws =>
    let (s1, more) := s.act w
    State.run n s1 (more ++ ws)

def State.work (s : State) (ws : List Work) : State := s.run (2 ^ 20) ws

/-- A response that a dead agent owes, or one that its snoop did not permit (R103, R129): taken as I, and a line it owned
without a writeback is stored as poisoned. -/
def State.deadAnswer (s : State) (k : Nat) (agent reason : Nat) : State :=
  match s.trk k with
  | none => s
  | some t =>
    if !(t.await.any (fun e => e.1 == agent)) then s
    else
      let t1 := { t with await := t.await.filter (fun e => e.1 != agent), answers := (agent, .i) :: t.answers
                         named := t.named.filter (fun e => e.1 != agent) }
      if eState t.entry == 3 && ePtrs t.entry == [agent] && t.taken == none then
        let (d, s1) := s.grnPoison t.line reason agent
        s1.setTrk k (some { t1 with held := some d })
      else s.setTrk k (some t1)

end Sys2Proof.Machine
end

