-- ==== Sys2Proof/Machine/LinkLoss.lean ====
section
/-! DEFINITION. What the loss of a link does beyond its port: the agents of a UP port, the shelves behind a pool port, the end
of re-shelvings, and requests over a Zwius link (R86, R127, R147–R149, R153, R156). -/
namespace Sys2Proof.Machine
open Sys2Proof

/-- An agent becomes dead with a scope; it enters the dead sets with DEAD_SET_ENTRY (R127). -/
def State.die (s : State) (a : Nat) (sc : DeadScope) : State :=
  if s.deadAll' a || s.cat.dying.any (fun e => e.1 == a && (e.2 == .all || e.2 == sc)) then s
  else s.inCat fun c => { c with dying := c.dying ++ [(a, sc)] }

/-- Every agent of a port of this unit (R127). -/
def State.portDies (s : State) (p : Nat) : State :=
  [0, 1, 2, 3].foldl (fun s i => s.die (agentId s.unit p i).toNat .all) s

/-- A re-shelving slot has ended: the RESHELVE_END handler of its region hears of it (R360). -/
def State.rshEnded (s : State) (n : Nat) : State := s.hostedNote (n / 16) 5 [n % 16, s.get BND_RSH_STS.RESULT n]

/-- A re-shelving ends without a switch-over (R57, R86): the record returns to BOUND on the source, and held lookups go on. -/
def State.rshAbort (s : State) (n result : Nat) : State :=
  let z : RshSlot := Tab.get {} s.bnd.rsh n
  if !z.active then s
  else
    let x := s.srec z.shelf
    let s1 := if rget x rState = 3 then
        s.commitSrec z.shelf (rput (rput (rput (rput x rState 1) rAltPort 0) rAltLd 0) rAltDev 0) else s
    let s2 := { s1 with bnd := { s1.bnd with rsh := Tab.put {} s1.bnd.rsh n {} } }
    let s3 := (s2.set BND_RSH_STS.PHASE n 4).set BND_RSH_STS.RESULT n result
    (s3.rshEnded n).drainBuffers.work (z.held.map Work.present)

/-- Re-shelvings to or from a pool port end (R86). -/
def State.rshPortDown (s : State) (p : Nat) : State :=
  s.bnd.rsh.foldl (fun s e =>
    if !e.2.active then s
    else if rget (s.srec e.2.shelf) rAltPort = p then s.rshAbort e.1 1
    else if rget (s.srec e.2.shelf) rPort = p then s.rshAbort e.1 2
    else s) s

/-- A pool device is behind a DN port: one was enumerated, or a shelf that is not FREE names the port, as its own or as the target
of its re-shelving (R86). -/
def State.poolPort (s : State) (p : Nat) : Bool :=
  (Tab.get none s.bnd.serial p).isSome || s.bnd.shelf.any (fun e => rget e.2 rState != 0 &&
    (rget e.2 rPort == p || (rget e.2 rState == 3 && rget e.2 rAltPort == p)))

/-- A DN pool link drops (R148): writes in flight leave their lines dirty and pinned, reads are answered with poison of reason
POOL_LINK_DOWN, re-shelvings end, and the hold starts. -/
def State.poolDown (s : State) (p : Nat) : State :=
  if s.held p then s
  else
    let s0 := s.setBits CAT_HOLD_STS.HOLD (p / 16) (2 ^ (p % 16))
    let lost := s0.grn.writes.filter (fun w => w.port == p)
    let s1 := { s0 with grn := { s0.grn with
      ways := Tab.mapListed {} s0.grn.ways (fun k w =>
        if w.valid && w.dirty != 0 && s0.poolOf (wayBlock k w) == p then { w with pinned := true } else w)
      wbuf := s0.grn.wbuf.map (fun (e : WbEntry) => if s0.poolOf e.block == p then { e with issued := false } else e)
      writes := s0.grn.writes.filter (fun (w : PoolWr) => w.port != p) } }
    let wait := s1.cat.trk.filter (fun e => match e.2 with
      | some t =>
        (t.phase == .pool && (match t.req with | some q => rget q.srec rPort == p | none => false)) ||
        (t.phase == .poolWrite && lost.any (fun w => w.from_ == WrFrom.tracker e.1))
      | none => false)
    let s2 := wait.foldl (fun s e => match e.2 with
      | some t =>
        if t.phase == .pool then
          let (d, s1) := s.openLine
          s1.setTrk e.1 (some { t with held := some d, reason := 2, phase := .work })
        else s.setTrk e.1 (some { t with phase := .work })
      | none => s) s1
    (s2.work (wait.map (fun e => Work.settle e.1))).rshPortDown p

/-- The tracker that awaits the answer to a request sent to another unit (R144). -/
def State.remoteTrk (s : State) (agent : Agent) (tag : BitVec 16) : Option Nat :=
  (s.cat.trk.find? (fun e => match e.2 with
    | some t => t.purpose == .remote agent tag
    | none => false)).map (fun e => e.1)

/-- It ends, and its timer with it. -/
def State.remoteOver (s : State) (q : ReqOut) : State :=
  match s.remoteTrk q.agent q.tag with
  | some k => ((s.setTrk k none).noteOcc (k / 8192)).work [.trkFree (k / 8192)]
  | none => s

/-- A message toward the host or device of this unit whose request went to another unit: it leaves by its port on TC6. -/
def State.backTo (s : State) (q : ReqOut) (m : Msg) (d : Option LineData) : State :=
  let p := agentPort q.agent
  let bytes := match d with
    | some x => lineBytes x
    | none => []
  let need := if s.role p = 2 then (if d.isSome then [6, 7] else [6]) else if d.isSome then [4] else [3]
  s.send (p / 16) s.unit p 6 need m bytes

/-- A request toward a unit that no link reaches is over (R156): a read is answered with poison of reason PATH_LOST, and a write is
completed; both are recorded. -/
def State.pathLost (s : State) (q : ReqOut) (u : Nat) : State :=
  let r := agentPort q.agent / 16
  let fa := q.addr.toNat
  let s0 := s.remoteOver q
  if q.write then
    (s0.backTo q (.complete q.agent q.tag) none).archive r 0x310 3 (shelfOf fa) fa u
  else
    let (d, t) := s0.openLine
    (t.backTo q (.grant q.agent q.tag .none (some d)) (some d)).archive r 0x30F 3 (shelfOf fa) fa q.agent.toNat

/-- A request is sent again over another link to its home's unit, with REPEAT and its tag (R153). -/
def State.sendAgain (s : State) (z : Nat) (q : ReqOut) : State :=
  let r := agentPort q.agent / 16
  s.internalCell r
    { source := 64 + r, out := zPort z, dest := 64 + homeOf q.addr.toNat, tc := if q.write then 6 else 5
      data := match q.d with | some d => lineBytes d | none => []
      msg := [.repeat_ z q.agent q.tag q.addr q.write q.d] }

/-- A Zwius link to a peer unit is gone (R153, R156): requests are sent again over another link to the unit with REPEAT and with their
data; when none is left the unit's agents are dead, and the requests end with PATH_LOST. -/
def State.zwlLoss (s : State) (z : Nat) : State :=
  let u1 := Tab.get 0 s.cat.peer z
  if u1 = 0 then s
  else
    let s1 := s.inCat fun c => { c with peer := Tab.put 0 c.peer z 0 }
    let mine := s1.cat.zreq.filter (fun q => q.z == z)
    match (List.range 8).find? (fun y => Tab.get 0 s1.cat.peer y == u1 && s1.inService (zPort y)) with
    | some y =>
      let s2 := mine.foldl (fun s x => s.sendAgain y x.q) s1
      s2.inCat fun c => { c with zreq := c.zreq.map (fun q => if q.z == z then { q with z := y, rep := true } else q) }
    | none =>
      let s2 := (List.range 256).foldl (fun s i => s.die (256 * (u1 - 1) + i) .all) s1
      let s3 := s2.inCat fun c => { c with zreq := c.zreq.filter (fun q => q.z != z) }
      mine.foldl (fun s x => s.pathLost x.q (u1 - 1)) s3

/-- The loss of a port's link beyond the port. Done twice it does nothing more. -/
def State.lossOf (s : State) (p : Nat) : State :=
  if s.role p = 1 then s.portDies p
  else if s.role p = 2 then
    let s1 := if s.plan p 14 1 = 1 then s.die (agentId s.unit p 0).toNat .all else s
    if s1.poolPort p then s1.poolDown p else s1
  else if s.role p = 3 then s.zwlLoss (zIndex p)
  else s

end Sys2Proof.Machine
end

