-- ==== Sys2Proof/Machine/Telemetry.lean ====
section
/-! DEFINITION. The commands of the Archive and the performance counters (chapter Archive and Performance Counters). -/
namespace Sys2Proof.Machine
open Sys2Proof

/-- Where a unit's record area starts and how many records it holds: HBM of stack 2u from 0x5_9000_0000, or the Keeper's
192 KiB of retained SRAM (R471, R482, R490). -/
def recordRoom (u : Nat) : Nat := if u < 4 then 8388608 else 6144

/-- Write a record at its place in a unit's record area. -/
def State.storeRecord (s : State) (u n : Nat) (rec : BitVec 256) : State :=
  if u < 4 then s.hbmWrite (2 * u) (0x590000000 + 32 * n) 32 rec.toNat
  else s.retWrite (0x10000 + 32 * n) 32 rec.toNat

/-- RECORD_WRITE: the oldest staged record reaches its area, or is lost because the area is full (R482, R483). A word that the staging's
ECC corrects is recorded; an entry that it cannot correct is lost in staging (R495). -/
def recordWrite (x : StageRead) (s0 : State) : State :=
  let u := x.unit
  if u.val < 4 && s0.rgn u == 2 then s0
  else match Tab.get [] s0.arc.stage u with
  | [] => s0
  | rec :: rest =>
    let s := { s0 with arc := { s0.arc with
      stage := Tab.put [] s0.arc.stage u rest, overrun := Tab.put false s0.arc.overrun u false } }
    if x.ecc = .uncorrectable then (s.bump ARC_LOST.STAGE_LOST u 1).record (blockOcc (arcSet u) 1)
    else
      let s1 := if x.ecc = .corrected then s.record (blockOcc (arcSet u) 0) else s
      let n := s1.get ARC_REC.COUNT u
      if n < recordRoom u then
        let s2 := ((s1.storeRecord u n rec).set ARC_REC.COUNT u (n + 1)).countChip 0x42 u 1
        if n + 1 = recordRoom u then (s2.set ARC_REC.FULL u 1).record (blockOcc (arcSet u) 2) else s2
      else s1.bump ARC_LOST.FULL_LOST u 1

def execRecordWrite (u : StageRead) (s : State) : Result := .next (recordWrite u s)

/-- The distinct histogram entries of region r with a non-zero bin, in the order of their keys. -/
def State.histEntries (s : State) (r : Nat) : List Nat :=
  (s.arc.bins.filter (fun x => x.1 / 2 ^ 23 == r)).foldr
    (fun x acc => if acc.head? == some (x.1 / 16) then acc else x.1 / 16 :: acc) []

/-- The bytes that a region's histogram area holds (R490): 0x5_8001_0000 to 0x5_8FFF_FFFF. -/
def histRoom : Nat := 0x58FFF0000 - 0x580000000

/-- The identity word of a frame entry (Table: Histogram frame layout), from its key. -/
def histIdent (key : Nat) : Nat :=
  key / 2 ^ 16 % 8 + key / 2 ^ 9 % 128 * 2 ^ 3 + key / 2 ^ 3 % 64 * 2 ^ 10 + key % 8 * 2 ^ 16

/-- Write one entry of a frame. -/
def State.storeHist (s : State) (r at_ key : Nat) : State :=
  let s1 := (s.hbmWrite (2 * r) at_ 16 (histIdent key))
  (List.range 16).foldl (fun s b => s.hbmWrite (2 * r) (at_ + 16 + 4 * b) 4 (Tab.get 0 s.arc.bins (16 * key + b))) s1

/-- HIST_FRAME: every histogram with a non-zero bin is written in one frame and its bins cleared; a frame that does not fit
leaves the bins accumulating and the area FULL (R485). -/
def histFrame (r : Region) (s : State) : State :=
  if s.rgn r == 2 then s
  else
    let es := s.histEntries r
    let used := Tab.get 0 s.arc.histUsed r
    let size := 64 + 80 * es.length
    let now := s.timeOf r
    if used + size ≤ histRoom then
      let base := 0x580010000 + used
      let s1 := (s.hbmWrite (2 * r) base 4 0x4D524648).hbmWrite (2 * r) (base + 4) 4 es.length
      let s2 := (s1.hbmWrite (2 * r) (base + 8) 8 (Tab.get 0 s.arc.spanStart r)).hbmWrite (2 * r) (base + 16) 8 now
      let s3 := (s2.hbmWrite (2 * r) (base + 24) 4 (Tab.get 0 s.arc.spanFrozen r)).hbmWrite (2 * r) (base + 28) 36 0
      let s4 := es.zipIdx.foldl (fun s e => s.storeHist r (base + 64 + 80 * e.2) e.1) s3
      let s5 := { s4 with arc := { s4.arc with
        bins := s4.arc.bins.filter (fun x => x.1 / 2 ^ 23 != r.val)
        spanStart := Tab.put 0 s4.arc.spanStart r now
        spanFrozen := Tab.put 0 s4.arc.spanFrozen r 0
        histUsed := Tab.put 0 s4.arc.histUsed r (used + size) } }
      (s5.set ARC_HIST.USED_KB r ((used + size + 1023) / 1024)).bump ARC_HIST.FRAMES r 1
    else if s.flag ARC_HIST.FULL r then s
    else (s.set ARC_HIST.FULL r 1).record (blockOcc (arcSet r) 2)

def execHistFrame (r : Region) (s : State) : Result := .next (histFrame r s)

/-- The temperature band of a reading in 0.1 °C (R487). -/
def wearBand (t : Int) : Nat := if t < -150 then 0 else if t ≥ 1250 then 15 else ((t + 250) / 100).toNat

/-- Add one second to a die's band. -/
def State.wearAdd (s : State) (die band secs : Nat) : State :=
  let key := 16 * die + band
  { s with arc := { s.arc with wear := Tab.put 0 s.arc.wear key (satAdd 40 (Tab.get 0 s.arc.wear key) secs) } }

/-- The extreme entry that the hottest reading of a die feeds: dies 0–3 the region dies, 4 the Keeper, 5–12 the stacks
(R486, R487). -/
def tempEntry (die : Nat) : Nat × Nat :=
  if die < 4 then (die, 12) else if die = 4 then (4, 4) else ((die - 5) / 2, 13 + (die - 5) % 2)

/-- A reading of a region die's sensor, corrected with the image's offset as R415 corrects a sense voltage (R399; DEDUCED, log entry 96). -/
def State.calibrated (s : State) (die : Nat) (t : Int) : Int :=
  if die < 4 && s.boot.early then t - signedOf 16 (s.sect 10 (256 + 2 * die) 2) else t

/-- WEAR_SAMPLE: one second is added to the band of each of the 13 dies, and the readings feed the extremes (R486, R487). -/
def wearSample (temps : List Int) (s : State) : State :=
  (temps.take 13).zipIdx.foldl (fun s e =>
    let v := s.calibrated e.2 e.1
    let s1 := (s.wearAdd e.2 (wearBand v) 1).extreme (tempEntry e.2).1 (tempEntry e.2).2 v false
    { s1 with sup := { s1.sup with temp := Tab.put 0 s1.sup.temp e.2 (BitVec.ofNat 32 (ofSigned 32 v)) } }) s

def execWearSample (temps : List Int) (s : State) : Result := .next (wearSample temps s)

/-- Whether a path may write a register of I3C's list (R512); `keeper` marks the Keeper-held ranges. -/
def State.mayWriteListed (s : State) (p : Path) (keeper : Bool) : Bool :=
  match p with
  | .i3c => s.get SEC_LC_STS.STATE 0 != 3 && (s.boot.early || keeper)
  | q => s.mayWrite q

/-- A command in a register of I3C's list: the paths that may write it have its effect, the others are discarded and
counted, but for I3C, whose refusal is its reply (R497, R512). -/
def State.commandListed (s : State) (p : Path) (keeper : Bool) (set : Nat) (f : State → State) : State :=
  if s.windowGone (setUnit set) || s.unheard p then s
  else if s.mayWriteListed p keeper then f s
  else if p = .i3c then s else s.discard set

/-- WEAR_LOAD: the seconds in ARC_WEAR_HI:ARC_WEAR_LO are added to the band of ARC_WEAR_CMD, unless SEALED or past bits
[39:0] (R488). -/
def wearLoad (s : State) : State :=
  let key := 16 * s.get ARC_WEAR_CMD.DIE 0 + s.get ARC_WEAR_CMD.BAND 0
  let add := s.get ARC_WEAR_LO.SECONDS_LO 0 + 2 ^ 32 * s.get ARC_WEAR_HI.SECONDS_HI 0
  if s.flag ARC_WEAR_CMD.SEALED 0 || Tab.get 0 s.arc.wear key + add ≥ 2 ^ 40 then s.discard setArc
  else s.wearAdd (s.get ARC_WEAR_CMD.DIE 0) (s.get ARC_WEAR_CMD.BAND 0) add

def execWearLoad (p : Path) (s : State) : Result := .next (s.commandListed p true setArc wearLoad)

/-- WEAR_SEAL: SEALED is set until power-on (R488). -/
def wearSeal (s : State) : State := s.set ARC_WEAR_CMD.SEALED 0 1

def execWearSeal (p : Path) (s : State) : Result := .next (s.commandListed p true setArc wearSeal)

/-- A region's counts and extremes are written to their copy in HBM (R489, R490); the Keeper's are in retained SRAM. -/
def State.copyCounts (s : State) (u : Nat) : State :=
  if u < 4 then
    let s1 := (s.arc.counts.filter (fun x => x.1 / 4096 == u)).foldl
      (fun s x => s.hbmWrite (2 * u) (0x580000000 + 8 * (x.1 % 4096)) 8 (x.2.1 + 2 ^ 40 * x.2.2)) s
    (List.range 15).foldl (fun s e =>
      s.hbmWrite (2 * u) (0x580008000 + 16 * e) 16
        (match Tab.get none s.arc.ext (128 * u + e) with
         | none => 0
         | some (v, t) => v.toNat + 2 ^ 64 * (t % 2 ^ 64))) s1
  else s

/-- ARC_FREEZE: the unit's records, counts and bins stop; a unit already frozen is left as it is (R489). -/
def arcFreeze (u : Nat) (s : State) : State :=
  if s.flag ARC_FRZ.FROZEN u then s else (s.copyCounts u).set ARC_FRZ.FROZEN u 1

def execArcFreeze (p : Path) (u : Fin 5) (s : State) : Result :=
  .next (s.commandListed p (u.val == 4) (arcSet u) (arcFreeze u))

/-- ARC_UNFREEZE: recording resumes (R489). -/
def arcUnfreeze (u : Nat) (s : State) : State := s.set ARC_FRZ.FROZEN u 0

def execArcUnfreeze (p : Path) (u : Fin 5) (s : State) : Result :=
  .next (s.commandListed p (u.val == 4) (arcSet u) (arcUnfreeze u))

/-- FREEZE_EXPIRED: a frozen unit unfreezes itself, sets EXPIRED and reports it (R489, R495). -/
def freezeExpired (u : Nat) (s : State) : State :=
  if s.windowGone u || !s.flag ARC_FRZ.FROZEN u then s
  else ((s.set ARC_FRZ.FROZEN u 0).set ARC_FRZ.EXPIRED u 1).record (blockOcc (arcSet u) 3)

def execFreezeExpired (u : Fin 5) (s : State) : Result := .next (freezeExpired u s)

/-- RECORD_AREA_RELEASE: the record area is empty and no longer FULL (R482). -/
def recordAreaRelease (u : Nat) (s : State) : State := (s.set ARC_REC.COUNT u 0).set ARC_REC.FULL u 0

def execRecordAreaRelease (p : Path) (u : Fin 5) (s : State) : Result :=
  .next (s.command p (arcSet u) (recordAreaRelease u))

/-- HIST_AREA_RELEASE: the histogram area is empty and no longer FULL (R485). -/
def histAreaRelease (r : Nat) (s : State) : State :=
  let s1 := { s with arc := { s.arc with histUsed := Tab.put 0 s.arc.histUsed r 0 } }
  ((s1.set ARC_HIST.USED_KB r 0).set ARC_HIST.FULL r 0).set ARC_HIST.FRAMES r 0

def execHistAreaRelease (p : Path) (r : Region) (s : State) : Result :=
  .next (s.command p (arcSet r) (histAreaRelease r))

/-- EXTREMES_CLEAR: every extreme of the unit restarts from its next reading (R486). -/
def extremesClear (u : Nat) (s : State) : State :=
  { s with arc := { s.arc with ext := s.arc.ext.filter (fun x => x.1 / 128 != u) } }

def execExtremesClear (p : Path) (u : Fin 5) (s : State) : Result :=
  .next (s.command p (arcSet u) (extremesClear u))

/-- The set of the block that counter n belongs to. -/
def pmcSetOf (n : Nat) : Nat := if n < 2688 then pmcSet (n / 672) else setPmc

/-- COUNTER_CLEAR: counter n is 0 (R496). -/
def counterClear (n : Nat) (s : State) : State :=
  { s with arc := { s.arc with cnt := Tab.put 0 s.arc.cnt n 0 } }

def execCounterClear (p : Path) (n : Nat) (s : State) : Result :=
  .next (if n < 2816 then s.command p (pmcSetOf n) (counterClear n) else s)

/-- One path's latches (R507). -/
def Latches.of (l : Latches) : Path → PathLatch
  | .librarian _ => l.librarian
  | .manager => l.manager
  | .i3c => l.i3c
  | .debug => l.debug

/-- Replace one path's latches. -/
def Latches.put (l : Latches) (p : Path) (v : PathLatch) : Latches :=
  match p with
  | .librarian _ => { l with librarian := v }
  | .manager => { l with manager := v }
  | .i3c => { l with i3c := v }
  | .debug => { l with debug := v }

/-- Change one path's latches. -/
def State.latch (s : State) (p : Path) (f : PathLatch → PathLatch) : State :=
  { s with lat := s.lat.put p (f (s.lat.of p)) }

/-- Whether a path may read the registers (R497, R512): the management endpoint once ready (R382); I3C not in
SCRAPPED, nor outside the Keeper-held ranges before an image is loaded; the debug master only when unlocked with scope REG. -/
def State.mayRead (s : State) (p : Path) (keeper : Bool) : Bool :=
  match p with
  | .librarian _ => true
  | .manager => s.flag SEC_BOOT_STS.READY 0
  | .i3c => s.get SEC_LC_STS.STATE 0 != 3 && (s.boot.early || keeper)
  | .debug => s.flag SEC_DBG_STS.UNLOCKED 0 && (s.get SEC_DBG_STS.SCOPE 0).testBit 0

/-- What a refused read returns (R497, R512): ones to I3C, zeros to the debug master. -/
def deniedRead (p : Path) : Word := if p = .i3c then 0xFFFFFFFF else 0

/-- A read with a latch: refused before ready (R382), all ones from an isolated region (R469), the path's refusal, or the value with its effect. -/
def State.readWith (s : State) (p : Path) (unit : Nat) (keeper : Bool) (f : State → Word × State) : State :=
  if s.unheard p then s.emit (.readRefused p)
  else if s.windowGone unit then s.emit (.readData p 0xFFFFFFFF)
  else if s.mayRead p keeper then (f s).2.emit (.readData p (f s).1)
  else s.emit (.readData p (deniedRead p))

/-- COUNTER_LO_READ: the low word is returned and the path latches the upper bits (R496, R507). -/
def counterLoRead (p : Path) (n : Nat) (s : State) : Word × State :=
  let v := Tab.get 0 s.arc.cnt n
  (v.setWidth 32, s.latch p (fun l => { l with pmcHi := BitVec.ofNat 32 (bits v 32 16) }))

/-- A counter that fails its parity is cleared, with OVF set, and recorded (R495). -/
def counterBad (n : Nat) (s : State) : State := ((counterClear n s).set PMC_CFG.OVF n 1).record (blockOcc (pmcSetOf n) 0)

def execCounterLoRead (p : Path) (n : CounterRead) (s : State) : Result :=
  .next (if n.n < 2816 then
    s.readWith p (setUnit (pmcSetOf n.n)) false (fun s => counterLoRead p n.n (if n.bad then counterBad n.n s else s)) else s)

/-- TIME_LO_READ: the low half of fabric time is returned and the path latches the upper half (R240, R507). -/
def timeLoRead (p : Path) (s : State) : Word × State :=
  let t := s.timeOf 4
  (BitVec.ofNat 32 t, s.latch p (fun l => { l with timeHi := BitVec.ofNat 32 (t / 2 ^ 32) }))

def execTimeLoRead (p : Path) (s : State) : Result := .next (s.readWith p 4 false (timeLoRead p))

/-- Every counter is captured, or the capture is skipped while the previous one is being written (R494, R495). -/
def capture (s : State) : State :=
  match s.arc.snap with
  | some _ => (s.bump PMC_SNAP_MISS.MISSED 0 1).record (blockOcc setPmc 1)
  | none =>
    let ovf := (s.regs.filter (fun x => x.1 / 2 ^ 24 == Reg.PMC_CFG.ctorIdx && bits x.2 18 1 == 1)).map
      (fun x => x.1 % 2 ^ 24)
    { s with arc := { s.arc with snap := some ⟨s.timeOf 4, s.arc.cnt, ovf⟩ } }

/-- SNAPSHOT_CAPTURE: PERIOD_US has passed (R494). -/
def snapshotCapture (s : State) : State := if s.flag PMC_SNAP_CTL.EN 0 then capture s else s

def execSnapshotCapture (s : State) : Result := .next (snapshotCapture s)

def execSnapshotNow (p : Path) (s : State) : Result := .next (s.command p setPmc capture)

/-- Remove every byte of a range, so that it reads 0. -/
def wipeRange (m : List Host.Cell) (lo hi : Nat) : List Host.Cell := m.filter (fun c => c.1 < lo || hi ≤ c.1)

/-- The 8-byte form of a captured counter (Table: Snapshot slot layout). -/
def Snapshot.entry (n : Snapshot) (k : Nat) : Nat :=
  (Tab.get 0 n.cnt k).toNat + (if n.ovf.contains k then 2 ^ 48 else 0)

/-- A region's slot of the snapshot ring; the lead region's also carries the chip counters (R494). -/
def State.storeSnapshot (s : State) (n : Snapshot) (seq r : Nat) : State :=
  let base := 0x580000000 + 8192 * (seq % 65536)
  let st := 2 * r + 1
  let lead := s.lead == r
  let s1 := { s with hbm := wipeRange s.hbm (hbmAt st base) (hbmAt st (base + 8192)) }
  let s2 := (s1.hbmWrite st base 8 (seq % 2 ^ 32 + (if lead then 2 ^ 32 else 0))).hbmWrite st (base + 8) 8 n.time
  let listed := (n.cnt.map (fun x => x.1)) ++ n.ovf
  let s3 := (listed.filter (fun k => k / 672 == r && k < 2688)).foldl
    (fun s k => s.hbmWrite st (base + 64 + 8 * (k % 672)) 8 (n.entry k)) s2
  if lead then
    (listed.filter (fun k => k ≥ 2688)).foldl
      (fun s k => s.hbmWrite st (base + 6144 + 8 * (k - 2688)) 8 (n.entry k)) s3
  else s3

/-- SNAPSHOT_WRITTEN: the captured snapshot is in its slot of every running region's ring, and SEQ gives its number (R494). -/
def snapshotWritten (s : State) : State :=
  match s.arc.snap with
  | none => s
  | some n =>
    let seq := (s.get PMC_SNAP_STS.SEQ 0 + 1) % 2 ^ 32
    let s1 := [0, 1, 2, 3].foldl (fun s r => if s.rgn r == 2 then s else s.storeSnapshot n seq r) s
    { s1.set PMC_SNAP_STS.SEQ 0 seq with arc := { s1.arc with snap := none } }

def execSnapshotWritten (s : State) : Result := .next (snapshotWritten s)

/-- PULSE_IGNORED: a pulse shorter than its filter leaves only Archive event 0x318 (R43, R480). -/
def pulseIgnored (pin ns : Nat) (s : State) : State := s.archive 4 0x318 0 0 pin ns

def execPulseIgnored (pin ns : Nat) (s : State) : Result := .next (pulseIgnored pin ns s)

end Sys2Proof.Machine
end

