-- ==== Sys2Proof/Machine/Reset.lean ====
section
/-! DEFINITION. What a chip-scope reset leaves and clears (R404, R447, R453, R509). -/
namespace Sys2Proof.Machine
open Sys2Proof

/-- Keep part of a register across a reset. -/
def keepField (old new : State) (f : Fld) (i : Nat) : State := new.set f i (old.get f i)

/-- The fields that a chip-scope reset does not clear: fused and live values, and those that R458, R471, R488 and the field
maps keep. ROOT and AON status survive where the reset keeps them (R447). -/
def keptFields : List Fld :=
  [CHIP_IDENT.VARIANT, SEC_LC_STS.STATE, SEC_LC_STS.RB_OTP,
   KPR_STS.CHIP_FATAL, KPR_STS.IGNORED_RESETS, KPR_STS.ON_AON,
   KPR_RST_CAUSE.CAUSE, KPR_RST_CAUSE.RAIL, KPR_RST_CAUSE.OVER, KPR_RST_CAUSE.COUNT,
   KPR_PD_STS.FLUSH_MS, KPR_PD_STS.RESULT, KPR_PD_STS.UNFLUSHED,
   KPR_AON.PPM, KPR_AON.CAL, KPR_RET_STS.VALID, KPR_RET_STS.MISSED, ARC_WEAR_CMD.SEALED,
   CRS_CLK_STS.HK_SRC, CRS_CLK_STS.REFCLK_OK, CRS_CLK_STS.ROOT_LOCK, SEC_BOOT_STS.RESTARTS]

/-- The presence pins are live in every reset (SPW_STS). -/
def keepPins (old new : State) : State :=
  (List.range 32).foldl (fun n c =>
    keepField old (keepField old n SPW_STS.PRSNT_S c) SPW_STS.PRSNT_L c) new

/-- What every reset but a power loss keeps: OTP, the retained SRAM, the Keeper's counts and extremes, the wear ledger, the
record of messages and the queue. -/
def wiped (s : State) : State :=
  { pending := s.pending, out := s.out, free := s.free, fatal := s.fatal, ret := s.ret
    boot := { variant := s.boot.variant, nonces := s.boot.nonces, ownerHash := s.boot.ownerHash
              fuses := s.boot.fuses, order := s.boot.order, perst := s.boot.perst, warm := s.boot.warm
              fuseRead := s.boot.fuseRead, secretRead := s.boot.secretRead
              testHold := s.boot.testHold }
    flt := { pins := if s.fatal then 1 else 0, retPend := s.flt.retPend }
    i3c := { dynAddr := s.i3c.dynAddr, enabled := s.i3c.enabled
             reply := s.i3c.reply.map (fun _ => (0, 5)) }
    arc := { wear := s.arc.wear, counts := s.arc.counts.filter (fun x => x.1 / 4096 == 4)
             ext := s.arc.ext.filter (fun x => x.1 / 128 == 4) }
    grn := { key := s.grn.key + 1, otpLog := s.grn.otpLog } }

/-- What R404 lists is wiped, and what a chip-scope reset keeps stands. -/
def chipWiped (s : State) : State := keepPins s (keptFields.foldl (fun n f => keepField s n f 0) (wiped s))

/-- A reset cuts off the writing of fuses: the rollback counter keeps its old value or one no higher than the image's, and a life-cycle
group an open number of its fuses blown (R402, R407 race; log entry 4). -/
def fusesCut (s : State) : State :=
  let n := s.free
  let rb := s.get SEC_LC_STS.RB_OTP 0
  let s1 := if s.flag SEC_RB_CMD.BUSY 0 then
      { s with free := n + 1 }.set SEC_LC_STS.RB_OTP 0 (rb + Config.freeValue n % (s.get SEC_LC_STS.RB_IMAGE 0 - rb + 1)) else s
  match s.boot.fusing with
  | none => s1
  | some (st, h) => { s1 with free := n + 2, boot := { s1.boot with fusing := none, fuses := some (st, h, Config.freeValue (n + 1) % 9) } }

/-- A chip-scope reset with its cause recorded: everything R404 lists is wiped, and the start waits at a step. -/
def chipReset (s : State) (cause rail high resume : Nat) : State :=
  let n := chipWiped (fusesCut s)
  let n := (((n.set KPR_RST_CAUSE.CAUSE 0 cause).set KPR_RST_CAUSE.RAIL 0 rail).set KPR_RST_CAUSE.OVER 0 high).bump
    KPR_RST_CAUSE.COUNT 0 1
  { n with boot := { n.boot with resume := resume } }

/-- ROOT relocks (R447): no region's ROOT is locked, and supervision falls back to AON (R441). -/
def rootsLost (s : State) : State :=
  let s1 := if s.get CRS_CLK_STS.HK_SRC 0 != 0 then s.bump CRS_CLK_STS.HK_SWITCHES 0 1 else s
  ((s1.set CRS_CLK_STS.ROOT_LOCK 0 0).set CRS_CLK_STS.HK_SRC 0 0).set KPR_STS.ON_AON 0 1

/-- The lowest-lettered region whose ROOT is locked, plus 1, or 0 for AON (R441). -/
def State.hkSource (s : State) : Nat :=
  match (List.range 4).find? (fun r => (s.get CRS_CLK_STS.ROOT_LOCK 0).testBit r) with
  | some r => r + 1
  | none => 0

/-- HK_SOURCE_SWITCH: supervision takes its source of R441, and a change is counted. -/
def hkSourceSwitch (s : State) : State :=
  let src := s.hkSource
  if src = s.get CRS_CLK_STS.HK_SRC 0 then s
  else ((s.set CRS_CLK_STS.HK_SRC 0 src).set KPR_STS.ON_AON 0 (if src = 0 then 1 else 0)).bump CRS_CLK_STS.HK_SWITCHES 0 1

/-- The ROOTs stay locked across the reset, and fabric time with them; one that had lost lock relocks (R231, R439, R447). -/
def rootsKept (old new : State) : State :=
  let s1 := { new with time := old.time }
  if old.get CRS_CLK_STS.ROOT_LOCK 0 = 0 then s1 else hkSourceSwitch (s1.set CRS_CLK_STS.ROOT_LOCK 0 0xF)

/-- A rail's last reading lies within its warning levels, with the hysteresis of R444; one that has not been converted since the reset
does not hold the start back. -/
def State.railGood (s : State) (m : Nat) : Bool :=
  match Tab.get none s.sup.last m with
  | none => true
  | some (lo, hi) => Nat.ble (s.get CRS_RAIL_LO.WARN m * 101) (lo * 100) && Nat.ble (hi * 100) (s.get CRS_RAIL_HI.WARN m * 99)
/-- Every rail's (R445, R446). -/
def State.railsGood (s : State) : Bool := (List.range 8).all s.railGood

/-- A reset assertion that CHIP_FATAL makes the KZ64 ignore and count (R453). -/
def ignoredReset (s : State) : State := s.bump KPR_STS.IGNORED_RESETS 0 1

/-- At a start the Keeper completes a life-cycle fuse group of which 5 or more fuses are blown, and marks one with fewer
(R407 race). -/
def fusesRead (s : State) : State :=
  match s.boot.fuses with
  | none => s
  | some (st, h, blown) =>
    if blown ≥ 5 then
      { s.set SEC_LC_STS.STATE 0 st with boot := { s.boot with ownerHash := h, fuses := none } }
    else if blown ≥ 1 then s.set SEC_LC_STS.PARTIAL 0 1
    else s

/-- A part in SCRAPPED reads no image, trains no port and raises SEC_LC_SCRAPPED (R407). -/
def scrappedStop (s : State) : State :=
  if s.get SEC_LC_STS.STATE 0 = 3 then s.record (blockOcc setSec 5) else s

/-- The start runs, with a step of the start sequence completed (R381). -/
def startBegins (s : State) (step : Nat) : State :=
  let s1 := fusesRead (s.set KPR_STS.STEP 0 step)
  scrappedStop { s1 with boot := { s1.boot with starting := true, resume := 0 } }

/-- An internal restart (R385, R407): a chip reset that keeps the Keeper and ROOT, and resumes at step 4. -/
def internalRestart (s : State) (cause : Nat) : State :=
  let s1 := (s.portsIdle (List.range 64)).slotsOff
  startBegins (rootsKept s1 (chipReset s1 cause 0 0 4)) 3

/-- The start from PERST_N: step 1, and the variant fuses are read; a read that fails gives 0xE (R4, R381). A device secret that the
Keeper cannot read raises SEC_SECRET_FAIL (R411). -/
def startAnew (s : State) : State :=
  let s1 := (startBegins s 1).set SEC_BOOT_STS.RESTARTS 0 0
  let s2 := if s.boot.fuseRead then s1.set CHIP_IDENT.VARIANT 0 s.boot.variant.toNat
    else (s1.set CHIP_IDENT.VARIANT 0 0xE).record (blockOcc setChip 0)
  if s.boot.secretRead then s2 else s2.record (blockOcc setSec 6)

/-- PERST_N governs the start: from step 1 at its deassertion; a warm reset resumes at step 4 (R447). -/
def resumes (s : State) : State :=
  if s.boot.resume = 1 then (if s.boot.perst then startAnew s else s)
  else if s.boot.resume = 4 then (if s.boot.warm && s.boot.perst then startBegins s 3 else s)
  else s

/-- The power-down flush has ended with a result: DN resets low, slot gates pulled, the event recorded, and the chip reset
(R448, R449). -/
def powerDownEnds (s : State) (ms result unflushed : Nat) : State :=
  let s1 := s.flushEnds ms result unflushed
  let s2 := if result = 2 then s1.record (blockOcc setCrs 5) else s1
  let s3 := s2.archive 4 0x31C 0 0 (s2.word .KPR_PD_STS 0).toNat 0
  let s4 := (s3.portsIdle (List.range 64)).slotsOff
  if s.boot.down = 1 then
    resumes (rootsLost (chipReset s4 1 0 0 1))
  else
    resumes (rootsKept s4 (chipReset s4 s.boot.down 0 0 4))

/-- The orderly power-down begins (R448 steps 1 to 3): FAULT is released, UP and ZL ports go idle, and every running region
starts ALL_CLEAN, with BUSY (R183). -/
def powerDownBegins (s : State) (cause : Nat) : State :=
  let s1 := { s with flt := { s.flt with pins := 0 }, boot := { s.boot with down := cause, starting := false } }
  let s2 := s1.set KPR_STS.FLUSHING 0 1
  let s3 := (List.range 64).foldl (fun s p =>
    if s.role p == 1 || s.role p == 3 then
      ((s.set PRT_PORT_STS.STATE p 0).set PRT_PORT_STS.RATE p 0).set PRT_PORT_STS.WIDTH p 0
    else s) s2
  let idle := [0, 1, 2, 3].filter (fun r => s3.rgn r == 0)
  let walks := idle.foldl (fun t r => Tab.put ({} : Flush) t r ⟨true, 2, 0, 0, 0, [], true⟩) s3.grn.flush
  idle.foldl (fun s r => ((s.set GRN_FLUSH_CMD.BUSY r 1).set GRN_FLUSH_STS.WRITTEN r 0).set GRN_FLUSH_STS.SKIPPED r 0)
    { s3 with grn := { s3.grn with flush := walks } }

/-- A brownout reset (R445): no flush, an interrupted flush aborted, and the start waits for the rails. -/
def brownout (s : State) (rail high : Nat) : State :=
  let s1 := s.record (blockOcc setCrs 1)
  let s2 := if s1.flag KPR_STS.FLUSHING 0 then
      s1.flushEnds (s1.get KPR_PD_STS.FLUSH_MS 0) 3 (s1.dirtyBlocks (fun _ => true)) else s1
  let s3 := (s2.portsIdle (List.range 64)).slotsOff
  rootsLost (chipReset s3 4 rail high 2)

/-- VDD_KPR is lost or returns: everything but the fuses is gone, the retained SRAM included (R445, R447). A life-cycle
or rollback change cut off leaves an open number of its fuses blown (R402, R407 race). -/
def powerLost (s : State) : State :=
  let kept : State :=
    { pending := s.pending, out := s.out, free := s.free
      boot := { variant := s.boot.variant, nonces := s.boot.nonces, ownerHash := s.boot.ownerHash }
      grn := { key := s.grn.key + 1, otpLog := s.grn.otpLog } }
  let t := fusesCut s
  let kept := [SEC_LC_STS.STATE, SEC_LC_STS.RB_OTP, CHIP_IDENT.VARIANT].foldl (fun n f => keepField t n f 0) kept
  { kept with free := t.free, boot := { kept.boot with fuses := t.boot.fuses } }

end Sys2Proof.Machine
end

