-- ==== Sys2Proof/Machine/Ports.lean ====
section
/-! DEFINITION. What every family does to a port: events posted to tillers, links going down, and containment at port
scope (R192, R249, R359, R447, R467). -/
namespace Sys2Proof.Machine
open Sys2Proof

/-- The tiller of a port (R377). -/
def portTiller (p : Nat) : Nat := 48 * (p / 16) + p % 16

/-- A port event for the port's tiller (R249, R359); LINK_UP and LINK_DOWN also mark the port for the BMC (R375), and go to the
PORT_CHANGE handler of the port's region (R353, R360). -/
def State.portEvent (s : State) (p bit : Nat) : State :=
  let s1 := s.postEvent (portTiller p) bit
  if bit < 2 then
    ((s1.setBits CHIP_CHG_SUM.CHANGED (p / 32) (2 ^ (p % 32))).ibiPend 1).hostedNote (p / 16) 3 [p, 1 - bit]
  else s1

/-- An event bit of PRT_PORT_EVT (R261). -/
def State.portEvt (s : State) (p bit : Nat) : State := s.setBits PRT_PORT_EVT.EVENTS p (2 ^ bit)

/-- A slot event for the channel's tiller (R359); bits 0–5 also mark the channel for the BMC (R375). -/
def State.slotEvent (s : State) (c bit : Nat) : State :=
  let s1 := s.postEvent (193 + c) bit
  if bit < 6 then (s1.setBits CHIP_CHG_SUM.CHANGED 2 (2 ^ c)).ibiPend 1 else s1

/-- The DN port whose plan names a slot channel (R390). -/
def State.slotPort (s : State) (c : Nat) : Option Nat :=
  (List.range 64).find? (fun p => s.role p == 2 && s.plan p 23 1 == 1 && s.plan p 18 5 == c)

/-- The chip lane of a port's lane index (R241): index 8 is the spare. -/
def laneOf (p k : Nat) : Nat := 130 * (p / 16) + (if k < 8 then 8 * (p % 16) + k else 128 + (p % 16 - 14))

/-- The lane indices of a port: the spare is one where the port can be ZL (R241, R243). -/
def portLanes (p : Nat) : List Nat := if p % 16 < 14 then List.range 8 else List.range 9

/-- The link state of a port that is down: no rate, width or protocol, its credits, replay buffer and sequence cleared (R192,
R294, R447). -/
def State.linkCleared (s : State) (p state : Nat) : State :=
  let s1 := (((s.set PRT_PORT_STS.STATE p state).set PRT_PORT_STS.RATE p 0).set PRT_PORT_STS.WIDTH p 0).set PRT_PORT_STS.PROTO p 3
  let s1 := (portLanes p).foldl (fun s k => s.set PRT_LANE_STS.CDR_LOCK (laneOf p k) 0) s1
  let s2 := ((s1.set PRT_PORT_STS.L0P_NEG p 0).set PRT_PORT_STS.REVERSED p 0).set PRT_PORT_STS.SPARE_USED p 0
  let s3 := { s2.setWord .LNK_STS p 0 with
    ll := { lnk := Tab.put {} s2.ll.lnk p {}, zwl := s2.ll.zwl }
    prt := { s2.prt with l0p := Tab.put 0 s2.prt.l0p p 0, l0pNext := Tab.put 0 s2.prt.l0pNext p 0
                         swap := Tab.put none s2.prt.swap p none, dup := Tab.put none s2.prt.dup p none
                         detect := Tab.put false s2.prt.detect p true } }
  if s.role p = 3 then (s3.set ZWL_STS.STATE (zIndex p) 0).setZwl (zIndex p) {} else s3

/-- A link leaves L0 or Recovery for a state that takes its output out of service: LINK_DOWN is posted, what was queued for it
is discarded, and its loss takes effect beyond the port (R192, R249). -/
def State.linkDown (s : State) (p state : Nat) : State :=
  if s.role p = 0 then s
  else if s.inService p then
    (((s.linkCleared p state).portEvent p 1).portEvt p 1).dropOutput p |>.lossOf p
  else if s.get PRT_PORT_STS.STATE p = 0 then s
  else s.set PRT_PORT_STS.STATE p state

/-- The ports of a link: both of a ganged pair (R243). -/
def State.linkPorts (s : State) (p : Nat) : List Nat :=
  if s.flag PRT_PORT_STS.GANGED p then [p / 2 * 2, p / 2 * 2 + 1] else [p]

/-- Containment at port scope (R447, R467): the link goes to Detect, the port's VOQs, replay buffer and credits are cleared,
and its agents or shelves are lost. -/
def State.portContained (s : State) (p : Nat) : State :=
  (s.linkPorts p).foldl (fun s q => if s.role q = 0 then s
    else (if s.inService q then s.linkDown q 1
      else if [2, 3, 7, 8].contains (s.get PRT_PORT_STS.STATE q) then (s.set PRT_PORT_STS.STATE q 1).lossOf q
      else s.lossOf q).emptyInput q) s

/-- DN_PERST_N of a port is driven low and its link goes to Detect (R252). -/
def State.dnPerstLow (s : State) (p : Nat) : State := (s.set PRT_DN_TMR.PERST_OUT p 0).linkDown p 1

/-- A Zwius link goes down (R294): ZWL_LINK_DOWN, CONTAINED at port scope on its port or ports. -/
def State.zwlDown (s : State) (z : Nat) : State :=
  let p := zPort z
  let s1 := (s.bump ZWL_ERR.DOWNS z 1).record (portOcc p (zwlSet z) 2)
  s1.portContained p

end Sys2Proof.Machine
end

