-- ==== Sys2Proof/Machine/Binding.lean ====
section
/-! DEFINITION. The commands of the binding block: shelf records, binding groups, access rules, barriers and re-shelving slots
(chapter Shelves, Binding and Access Rules). -/
namespace Sys2Proof.Machine
open Sys2Proof

/-! Shelf records (R54–R57, R545). -/

/-- BND_SREC_CMD as a command leaves it, RESULT aside. -/
def srecCmd (s : State) (r x op : Nat) : State := (s.set BND_SREC_CMD.SHELF r x).set BND_SREC_CMD.OP r op

/-- The record staged in BND_SREC_D0–D3 (R55). -/
def srecStaged (s : State) (r : Nat) : BitVec 128 :=
  BitVec.ofNat 128 (((List.range 4).map (fun k => (s.word .BND_SREC_D (4 * r + k)).toNat * 2 ^ (32 * k))).sum)

/-- The fields of a staged record are within R54, for shelf x. -/
def srecGood (v : BitVec 128) (x : Nat) : Bool :=
  bits v 11 1 == 0 && bits v 54 10 == 0 && bits v 110 18 == 0 && rget v rMode != 3 && rget v rHome == x % 4 &&
    (rget v rMode != 0 || bits v 20 4 == 0) &&
    (rget v rState == 3 || (rget v rAltPort == 0 && rget v rAltLd == 0 && rget v rAltDev == 0))

/-- A record with some fields taken from another. -/
def withFields (v o : BitVec 128) (fs : List RecFld) : BitVec 128 := fs.foldl (fun v f => rput v f (rget o f)) v

/-- A change of a record by firmware that Table: Permitted shelf-record transitions allows, LOST and EPOCH aside (R57). -/
def srecAllowed (o n : BitVec 128) : Bool :=
  let same (fs : List RecFld) : Bool := withFields n o ([rLost, rEpoch, rState] ++ fs) == o
  match rget o rState, rget n rState with
  | 0, 0 => true
  | 0, 1 => true
  | 1, 1 => same [rSanitize, rClass, rGroup]
  | 1, 2 => same []
  | 3, 1 => same [rAltPort, rAltLd, rAltDev]
  | 2, 0 => same []
  | _, _ => false

/-- A record as it is committed: LOST is the KZ64's own, and clears on entry to FREE (R54). -/
def srecTaken (o n : BitVec 128) : BitVec 128 := rput n rLost (if rget n rState = 0 then 0 else rget o rLost)

/-- A shelf is bound: its ledger entry clears, and the Device Serial Number behind its port is recorded (R143, R150). -/
def State.onBind (s : State) (x : Nat) (n : BitVec 128) : State :=
  let s1 := s.ledgerClear x
  match Tab.get none s1.bnd.serial (rget n rPort) with
  | some d => s1.inCat fun c => { c with serial := Tab.put 0 c.serial (rget n rPort) d }
  | none => s1

/-- Commit a record that firmware writes (R55, R56): re-shelving by the record alone ends its slot. DESIGN CHOICE: the spec gives no
RESULT for that end, and the model shows the free value of firmware's own abort (R86, log entry 36). -/
def State.srecCommit (s : State) (x : Nat) (n : BitVec 128) : State :=
  let o := s.srec x
  let s1 := if rget o rState = 3 then match s.rshSlot x with
      | some k => { s with free := s.free + 1 }.rshAbort k ([0, 3, 5].getD (Config.freeValue s.free % 3) 0)
      | none => s.commitSrec x (srecTaken o n)
    else
      let s1 := s.commitSrec x (srecTaken o n)
      if rget o rState = 0 && rget n rState = 1 then s1.onBind x n else s1
  s1.owes x (rget o rState) (rget n rState)

/-- SREC_READ: the record is loaded into the data registers (R89). -/
def srecRead (p : Path) (r : Region) (shelf : Shelf) (s : State) : State :=
  s.startWith p (bndSet r) (s.flag BND_SREC_CMD.BUSY r) (fun s => srecCmd s r shelf.toNat 0) fun s =>
    let x := shelf.toNat
    let s1 := srecCmd s r x 0
    if x % 4 != r.val then s1.set BND_SREC_CMD.RESULT r 1
    else
      ((List.range 4).foldl (fun t k => t.setWord .BND_SREC_D (4 * r.val + k) (BitVec.ofNat 32 (bits (s.srec x) (32 * k) 32))) s1).set
        BND_SREC_CMD.RESULT r 0

def execSrecRead (p : Path) (r : Region) (shelf : Shelf) (s : State) : Result := .next (srecRead p r shelf s)

/-- A device shelf that no bind may take again after its failed sanitizes (R74). -/
def State.isWithheld (s : State) (x : Nat) (n : BitVec 128) : Bool :=
  rget n rState == 1 && rget (s.srec x) rState == 0 && s.bnd.withheld.contains (rget n rPort, rget n rLd, rget n rDev)

/-- The first failing check of R545: 0 when the write passes. DESIGN CHOICE: a bind of a withheld device shelf (R74), for which the
spec names no result, is refused with BAD_TRANSITION (log entry 70). -/
def srecResult (s : State) (r x : Nat) (n : BitVec 128) : Nat :=
  if x % 4 != r then 1
  else if !srecGood n x then 2
  else if !srecAllowed (s.srec x) n || s.isWithheld x n then 3
  else if s.olderRemain x || s.olderDedupe x then 4
  else 0

/-- SREC_WRITE: the staged record is checked and committed in one step, or refused with the first failing check (R55–R57, R68,
R154, R545); a HOME other than the shelf's counts as a write discard (R29). -/
def srecWrite (p : Path) (r : Region) (shelf : Shelf) (s : State) : State :=
  s.startWith p (bndSet r) (s.flag BND_SREC_CMD.BUSY r) (fun s => srecCmd s r shelf.toNat 1) fun s =>
    let x := shelf.toNat
    let n := srecStaged s r
    let res := srecResult s r x n
    let s1 := (srecCmd s r x 1).set BND_SREC_CMD.RESULT r res
    if res = 0 then s1.srecCommit x n
    else if res = 2 && rget n rHome != x % 4 then s1.discard (bndSet r)
    else s1

def execSrecWrite (p : Path) (r : Region) (shelf : Shelf) (s : State) : Result := .next (srecWrite p r shelf s)

/-! Binding groups (R62, R63). -/

def grpCmd (s : State) (r g op : Nat) : State := (s.set BND_GRP_CMD.GROUP r g).set BND_GRP_CMD.OP r op

/-- The bitmap staged in BND_GRP_D0–D7. -/
def grpStaged (s : State) (r : Nat) : BitVec 256 :=
  BitVec.ofNat 256 (((List.range 8).map (fun k => (s.word .BND_GRP_D (8 * r + k)).toNat * 2 ^ (32 * k))).sum)

/-- GRP_READ: the region's copy is loaded into the data registers (R89). -/
def grpRead (p : Path) (r : Region) (group : BitVec 12) (s : State) : State :=
  s.startWith p (bndSet r) (s.flag BND_GRP_CMD.BUSY r) (fun s => grpCmd s r group.toNat 0) fun s =>
    let b := Tab.get 0 s.bnd.group (4096 * r.val + group.toNat)
    (List.range 8).foldl (fun t k => t.setWord .BND_GRP_D (8 * r.val + k) (BitVec.ofNat 32 (bits b (32 * k) 32)))
      (grpCmd s r group.toNat 0)

def execGrpRead (p : Path) (r : Region) (group : BitVec 12) (s : State) : Result := .next (grpRead p r group s)

/-- GRP_WRITE: the four copies are being written (R63). -/
def grpWrite (p : Path) (r : Region) (group : BitVec 12) (s : State) : State :=
  s.startWith p (bndSet r) (s.flag BND_GRP_CMD.BUSY r) (fun s => grpCmd s r group.toNat 1) fun s =>
    let s1 := (grpCmd s r group.toNat 1).set BND_GRP_CMD.BUSY r 1
    { s1 with bnd := { s1.bnd with grpPend := Tab.put (0, 0) s1.bnd.grpPend r (group.toNat + 1, grpStaged s r) } }

def execGrpWrite (p : Path) (r : Region) (group : BitVec 12) (s : State) : Result := .next (grpWrite p r group s)

/-- Write the four copies of a group: each region counts the write for its barriers (R63, R69). -/
def State.putGroup (s : State) (g : Nat) (b : BitVec 256) : State :=
  { s with bnd := { s.bnd with
      group := [0, 1, 2, 3].foldl (fun t r => Tab.put 0 t (4096 * r + g) b) s.bnd.group
      grpSeq := [0, 1, 2, 3].foldl (fun t r => Tab.put 0 t r (Tab.get 0 t r + 1)) s.bnd.grpSeq } }.groupOwes g

/-- GRP_COPIES_DONE: every copy is written, and BUSY clears (R63). The copies of the four regions change together here (log
entry 33). -/
def grpCopiesDone (r : Region) (s : State) : State :=
  match Tab.get (0, 0) s.bnd.grpPend r with
  | (0, _) => s
  | (n + 1, b) =>
    let s1 := (s.putGroup n b).set BND_GRP_CMD.BUSY r 0
    { s1 with bnd := { s1.bnd with grpPend := Tab.put (0, 0) s1.bnd.grpPend r (0, 0) } }

def execGrpCopiesDone (r : Region) (s : State) : Result := .next (grpCopiesDone r s)

/-! Access rules (R75–R78). -/

def ruleCmd (s : State) (r n op : Nat) : State := (s.set BND_RULE_CMD.SLOT r n).set BND_RULE_CMD.OP r op

/-- The rule of a slot, and the rule staged in BND_RULE_D0–D3. -/
def State.ruleOf (s : State) (r n : Nat) : BitVec 128 := Tab.get 0 s.bnd.rule (4096 * r + n)
def State.setRule (s : State) (r n : Nat) (v : BitVec 128) : State :=
  { s with bnd := { s.bnd with rule := Tab.put 0 s.bnd.rule (4096 * r + n) v } }
def ruleStaged (s : State) (r : Nat) : BitVec 128 :=
  BitVec.ofNat 128 (((List.range 4).map (fun k => (s.word .BND_RULE_D (4 * r + k)).toNat * 2 ^ (32 * k))).sum)

/-- The fields of a rule are within R75, and its pages lie in one shelf homed in region r (R76). -/
def ruleGood (v : BitVec 128) (r : Nat) : Bool :=
  bits v 16 16 == 0 && bits v 84 44 == 0 && ruleSel v != 3 && ruleBase v / 2 ^ 16 == ruleLast v / 2 ^ 16 &&
    ruleBase v / 2 ^ 16 % 4 == r

/-- RULE_CMD_READ: the slot is loaded into the data registers (R89). -/
def ruleRead (p : Path) (r : Region) (slot : BitVec 12) (s : State) : State :=
  s.startWith p (bndSet r) (s.flag BND_RULE_CMD.BUSY r) (fun s => ruleCmd s r slot.toNat 0) fun s =>
    let v := s.ruleOf r slot.toNat
    ((List.range 4).foldl (fun t k => t.setWord .BND_RULE_D (4 * r.val + k) (BitVec.ofNat 32 (bits v (32 * k) 32)))
      (ruleCmd s r slot.toNat 0)).set BND_RULE_CMD.RESULT r 0

def execRuleRead (p : Path) (r : Region) (slot : BitVec 12) (s : State) : Result := .next (ruleRead p r slot s)

/-- The result of a rule write: LOCKED before BAD_FIELD (log entry 34). -/
def ruleResult (s : State) (r n : Nat) (v : BitVec 128) : Nat :=
  if ruleLock (s.ruleOf r n) then 5 else if !ruleGood v r then 2 else 0

/-- RULE_CMD_WRITE: the staged rule is checked and committed (R75, R76, R78). -/
def ruleWrite (p : Path) (r : Region) (slot : BitVec 12) (s : State) : State :=
  s.startWith p (bndSet r) (s.flag BND_RULE_CMD.BUSY r) (fun s => ruleCmd s r slot.toNat 1) fun s =>
    let v := ruleStaged s r
    let res := ruleResult s r slot.toNat v
    let s1 := (ruleCmd s r slot.toNat 1).set BND_RULE_CMD.RESULT r res
    if res = 0 then s1.setRule r slot.toNat v else s1

def execRuleWrite (p : Path) (r : Region) (slot : BitVec 12) (s : State) : Result := .next (ruleWrite p r slot s)

/-- RULE_CMD_CLEAR: all 16 bytes are written as zero, unless the slot is locked (R78, R89). -/
def ruleClear (p : Path) (r : Region) (slot : BitVec 12) (s : State) : State :=
  s.startWith p (bndSet r) (s.flag BND_RULE_CMD.BUSY r) (fun s => ruleCmd s r slot.toNat 2) fun s =>
    let s1 := ruleCmd s r slot.toNat 2
    if ruleLock (s.ruleOf r slot.toNat) then s1.set BND_RULE_CMD.RESULT r 5
    else (s1.setRule r slot.toNat 0).set BND_RULE_CMD.RESULT r 0

def execRuleClear (p : Path) (r : Region) (slot : BitVec 12) (s : State) : Result := .next (ruleClear p r slot s)

/-! Barriers (R69, R70, R79). -/

/-- Slot k of region r. -/
def State.barSlot (s : State) (r k : Nat) : BarSlot := Tab.get {} s.bnd.bar (16 * r + k)
def State.setBar (s : State) (r k : Nat) (b : BarSlot) : State :=
  { s with bnd := { s.bnd with bar := Tab.put {} s.bnd.bar (16 * r + k) b } }

/-- A stamped request that a barrier waits for (R69, R79): of its scope, and for a binding barrier one with an older epoch, or
with scope ALL one that passed its group check before the last group write. -/
def State.barWaits (s : State) (r kind : Nat) (all : Bool) (x : Nat) (q : Request) : Bool :=
  let mine := all || shelfOf q.a.addr.toNat == x
  let oldGroup := all && q.grpSeq < Tab.get 0 s.bnd.grpSeq r && rget q.srec rMode != 0 && !ownerAccess q.a
  mine && (kind == 1 || s.olderEpoch q || oldGroup)

/-- Start a barrier in the first free slot, one that neither runs nor shows DONE (R69, R89). -/
def barStart (s : State) (r kind : Nat) (all : Bool) (x : Nat) : State :=
  let s1 := ((s.set BND_BAR_CMD.SHELF r x).set BND_BAR_CMD.SCOPE r (if all then 1 else 0)).set BND_BAR_CMD.KIND r kind
  match (List.range 16).find? (fun k => !(s.barSlot r k).busy && !(s.get BND_BAR_STS.DONE r).testBit k) with
  | none => s1.set BND_BAR_CMD.RESULT r 1
  | some k =>
    let mine (y : Nat) : Bool := kind == 0 && y % 4 == r && (all || y == x)
    let waits := ((s.stamped r).filter (fun q => s.barWaits r kind all x q)).map (fun q => (q.ticket, shelfOf q.a.addr.toNat))
    let b : BarSlot := { busy := true, kind := kind, all := all, shelf := x, waits := waits
                         covers := s.bnd.owed.filter (fun o => mine o.1)
                         coversAll := if all then s.bnd.owedAll.filter mine else [] }
    (((s1.setBar r k b).set BND_BAR_CMD.RESULT r 0).set BND_BAR_CMD.SLOT r k).setBits
      BND_BAR_STS.BUSY r (2 ^ k)

/-- BINDING_BARRIER_START: a binding barrier takes a free slot, or reads NO_SLOT (R69). -/
def bindingBarrierStart (p : Path) (r : Region) (all : Bool) (shelf : Shelf) (s : State) : State :=
  s.command p (bndSet r) fun s => barStart s r 0 all shelf.toNat

def execBindingBarrierStart (p : Path) (r : Region) (all : Bool) (shelf : Shelf) (s : State) : Result :=
  .next (bindingBarrierStart p r all shelf s)

/-- RULE_BARRIER_START: a rule barrier takes a free slot, or reads NO_SLOT (R79). -/
def ruleBarrierStart (p : Path) (r : Region) (all : Bool) (shelf : Shelf) (s : State) : State :=
  s.command p (bndSet r) fun s => barStart s r 1 all shelf.toNat

def execRuleBarrierStart (p : Path) (r : Region) (all : Bool) (shelf : Shelf) (s : State) : Result :=
  .next (ruleBarrierStart p r all shelf s)

/-- What a barrier has covered is owed no longer (R66, R71); a released coherent shelf among it is now back-invalidated (R72 step
3). -/
def State.covered (s : State) (b : BarSlot) : State :=
  let inval := (b.covers.map (fun o => o.1)).filter (fun x => rget (s.srec x) rState == 2 && rget (s.srec x) rMode == 1 &&
    !s.cat.inval.contains x)
  let s1 := { s with bnd := { s.bnd with owed := s.bnd.owed.filter (fun o => !b.covers.contains o)
                                         owedAll := s.bnd.owedAll.filter (fun y => !b.coversAll.contains y) } }
  if inval = [] then s1
  else (s1.inCat fun c => { c with inval := c.inval ++ inval }).work ((inval.map (fun x => x % 4)).dedup.map Work.inval)

/-- A slot stops running and shows DONE. -/
def barEnds (s : State) (r k : Nat) : State :=
  let b := s.barSlot r k
  (((s.setBar r k {}).clearBits BND_BAR_STS.BUSY r (2 ^ k)).setBits BND_BAR_STS.DONE r (2 ^ k)).covered b

/-- The same for a slot that a handler's service operation or firmware itself started, which frees its slot again when it ends
(R66, R71, R367). -/
def barEndsFor (s : State) (r k result : Nat) : State :=
  let s1 := barEnds s r k
  let s2 := if s.bnd.fwBar.contains (r, k) then
      { s1 with bnd := { s1.bnd with fwBar := s1.bnd.fwBar.filter (fun e => e != (r, k)) } }.clearBits BND_BAR_STS.DONE r (2 ^ k)
    else s1
  if s.lib.svcBar.any (fun e => e.2.1 == r && e.2.2 == k) then (s2.svcBarEnds r k result).clearBits BND_BAR_STS.DONE r (2 ^ k) else s2

/-- BARRIER_COMPLETE: no request that the slot waits for remains (R69). -/
def barrierComplete (r : Region) (k : Fin 16) (s : State) : State :=
  if (s.barSlot r k).busy && (s.barSlot r k).waits == [] then barEndsFor s r k 0 else s

/-- BARRIER_TIMEOUT: the barrier ends with TIMEOUT; the shelves that still hold old requests are lost, and BARRIER_TIMEOUT is raised
at the scope of each (R70). A rule barrier is held to the same bound: R45 has no wait without a timeout (log entry 16). -/
def barrierTimeout (r : Region) (k : Fin 16) (s : State) : State :=
  let b := s.barSlot r k
  if b.busy then
    let shelves := if b.all then (b.waits.map (fun w => w.2)).dedup else [b.shelf]
    shelves.foldl (fun s x => ((s.setLost x).record (occ (bndSet r) 3 3 x)).hostedNote r 4 [x, 2])
      ((barEndsFor s r k 6).set BND_BAR_CMD.RESULT r 2)
  else s

/-- BARRIER_SLOT_FREE: writing 1 to a DONE bit frees its slot (R89). -/
def barrierSlotFree (p : Path) (r : Region) (mask : BitVec 16) (s : State) : State :=
  s.command p (bndSet r) fun s => s.clearBits BND_BAR_STS.DONE r mask.toNat

def execBarrierSlotFree (p : Path) (r : Region) (mask : BitVec 16) (s : State) : Result := .next (barrierSlotFree p r mask s)

/-! Re-shelving (R81–R86). -/

/-- A logical device exists on a port: the pool policy of the image has an entry for it (R81, R393; log entry 35). -/
def State.ldExists (s : State) (port ld : Nat) : Bool :=
  s.boot.early && (List.range (min (s.sect 4 0 4) 1024)).any (fun i =>
    s.sect 4 (16 + 16 * i) 1 == port && s.sect 4 (16 + 16 * i + 1) 1 == ld)

/-- The cause that refuses a START, if any (R81). -/
def rshRefused (s : State) (r n x : Nat) : Option Nat :=
  let v := srecStaged s r
  let phase := s.get BND_RSH_STS.PHASE n
  if rget (s.srec x) rState != 1 then some 7
  else if x % 4 != r then some 8
  else if s.role (rget v rAltPort) != 2 || !s.ldExists (rget v rAltPort) (rget v rAltLd) then some 9
  else if phase = 1 || phase = 2 then some 10
  else if s.olderRemain x || s.olderDedupe x then some 6
  else none

/-- Start re-shelving in a slot, or refuse it (R81). -/
def rshStart (s : State) (r n x : Nat) : State :=
  match rshRefused s r n x with
  | some e => s.set BND_RSH_STS.RESULT n e
  | none =>
    let v := srecStaged s r
    let s1 := s.commitSrec x (rput (withFields (s.srec x) v [rAltPort, rAltLd, rAltDev]) rState 3)
    let s2 := { s1 with bnd := { s1.bnd with rsh := Tab.put {} s1.bnd.rsh n ⟨true, x, false, []⟩ }
                        hbm := pokes s1.hbm (bitmapAt n) (List.replicate 8192 0xFF) }
    (((s2.set BND_RSH_STS.MARKED n 65536).set BND_RSH_STS.PHASE n 1).set BND_RSH_STS.RESULT n 0).set BND_RSH_STS.ATTEMPTS n 0

/-- RESHELVE_START (R81): a THRESH above 16 is discarded and counted, and the other fields and GO take effect (R44). -/
def reshelveStart (p : Path) (r : Region) (k : Fin 16) (shelf : Shelf) (thresh : BitVec 5) (s : State) : State :=
  s.command p (bndSet r) fun s =>
    let n := 16 * r.val + k.val
    let s1 := if thresh.toNat > 16 then s.discard (bndSet r) else s.set BND_RSH_CTL.THRESH n thresh.toNat
    rshStart ((s1.set BND_RSH_CTL.SHELF n shelf.toNat).set BND_RSH_CTL.OP n 1) r n shelf.toNat

def execReshelveStart (p : Path) (r : Region) (k : Fin 16) (shelf : Shelf) (thresh : BitVec 5) (s : State) : Result :=
  .next (reshelveStart p r k shelf thresh s)

/-- Begin the switch-over of a marking slot with at most THRESH marked pages (R84): refused with EPOCH_BUSY while requests of
the start epoch remain (R85). -/
def rshSwitch (s : State) (n : Nat) : State :=
  let z : RshSlot := Tab.get {} s.bnd.rsh n
  if !z.active || s.get BND_RSH_STS.PHASE n != 1 || s.get BND_RSH_STS.MARKED n > s.get BND_RSH_CTL.THRESH n then s
  else if s.olderRemain z.shelf then s.set BND_RSH_STS.RESULT n 6
  else
    let s1 := { s with bnd := { s.bnd with rsh := Tab.put {} s.bnd.rsh n { z with stall := true } } }
    (s1.set BND_RSH_STS.PHASE n 2).set BND_RSH_STS.RESULT n 0

/-- RESHELVE_SWITCH (R84, R85). -/
def reshelveSwitch (p : Path) (r : Region) (k : Fin 16) (s : State) : State :=
  s.command p (bndSet r) fun s => rshSwitch (s.set BND_RSH_CTL.OP (16 * r.val + k.val) 2) (16 * r.val + k.val)

def execReshelveSwitch (p : Path) (r : Region) (k : Fin 16) (s : State) : Result := .next (reshelveSwitch p r k s)

/-- RESHELVE_ABORT: the record returns to BOUND on the source, and the slot is free (R86). Which of OK, PASS_LIMIT and RELEASED
RESULT shows for firmware's own abort, the spec leaves open (log entry 36). -/
def reshelveAbort (p : Path) (r : Region) (k : Fin 16) (s : State) : State :=
  s.command p (bndSet r) fun s =>
    let n := 16 * r.val + k.val
    let s0 := s.set BND_RSH_CTL.OP n 0
    if (Tab.get ({} : RshSlot) s0.bnd.rsh n).active then
      { s0 with free := s0.free + 1 }.rshAbort n ([0, 3, 5].getD (Config.freeValue s0.free % 3) 0)
    else s0

def execReshelveAbort (p : Path) (r : Region) (k : Fin 16) (s : State) : Result := .next (reshelveAbort p r k s)

/-- The pages that a slot's bitmap marks. -/
def State.markedPages (s : State) (n : Nat) : List Nat :=
  ((s.hbm.filter (fun c => bitmapAt n ≤ c.1 && c.1 < bitmapAt n + 8192)).flatMap (fun c =>
    ((List.range 8).filter (fun b => c.2.getLsbD b)).map (fun b => 8 * (c.1 - bitmapAt n) + b)))

/-- The first pages of a list are copied from source to target, each with its bit cleared (R83, R84). -/
def State.copyPages (s : State) (n : Nat) (x : BitVec 128) (pages : List Nat) : State :=
  let base (d : RecFld) (j : Nat) : Nat := rget x d * 2 ^ 28 + 4096 * j
  pages.foldl (fun s j =>
    (s.emit (.pageCopy (rget x rPort) (rget x rLd) (base rDev j) (rget x rAltPort) (rget x rAltLd) (base rAltDev j))).markPage n j false) s

/-- SWITCHOVER_DRAINED: no write to the source is outstanding; the marked pages are copied, the record becomes BOUND on the
target, and held lookups and writebacks go on (R84). -/
def switchoverDrained (r : Region) (k : Fin 16) (s : State) : State :=
  let n := 16 * r.val + k.val
  let z : RshSlot := Tab.get {} s.bnd.rsh n
  if !z.active || !z.stall || s.grn.writes.any (fun w => w.held.isNone && shelfOf w.line == z.shelf) then s
  else
    let x := s.srec z.shelf
    let s1 := s.copyPages n x (s.markedPages n)
    let moved := rput (rput (rput (rput x rState 1) rPort (rget x rAltPort)) rLd (rget x rAltLd)) rDev (rget x rAltDev)
    let s2 := s1.commitSrec z.shelf (rput (rput (rput moved rAltPort 0) rAltLd 0) rAltDev 0)
    let s3 := { s2 with bnd := { s2.bnd with rsh := Tab.put {} s2.bnd.rsh n {} } }
    (((s3.set BND_RSH_STS.PHASE n 3).set BND_RSH_STS.RESULT n 0).rshEnded n).drainBuffers.work (z.held.map Work.present)

def execSwitchoverDrained (r : Region) (k : Fin 16) (s : State) : Result := .next (switchoverDrained r k s)

/-- SWITCHOVER_STALL_TMO: the pages copied so far stay copied with their bits clear, held lookups go on against the source, the
attempt is counted, and the fourth ends the re-shelving (R84). No page is copied before the source's writes have completed. -/
def switchoverStallTmo (r : Region) (k : Fin 16) (copied : Nat) (s0 : State) : State :=
  let n := 16 * r.val + k.val
  let z : RshSlot := Tab.get {} s0.bnd.rsh n
  if !z.active || !z.stall then s0
  else
    let drained := !s0.grn.writes.any (fun w => w.held.isNone && shelfOf w.line == z.shelf)
    let s := if drained then s0.copyPages n (s0.srec z.shelf) ((s0.markedPages n).take copied) else s0
    let s1 := s.bump BND_RSH_STS.ATTEMPTS n 1
    if s1.get BND_RSH_STS.ATTEMPTS n ≥ 4 then s1.rshAbort n 4
    else
      let s2 := { s1 with bnd := { s1.bnd with rsh := Tab.put {} s1.bnd.rsh n ⟨true, z.shelf, false, []⟩ } }
      (s2.set BND_RSH_STS.PHASE n 1).drainBuffers.work (z.held.map Work.present)

def execSwitchoverStallTmo (r : Region) (k : StallEnd) (s : State) : Result := .next (switchoverStallTmo r k.slot k.copied s)

end Sys2Proof.Machine
end

