-- ==== Sys2Proof/Machine/Switch.lean ====
section
/-! DEFINITION. The commands of the switch core (chapter Switch Core) and of its outputs (R221, R222). -/
namespace Sys2Proof.Machine
open Sys2Proof

/-! The scheduler (R196, R197). -/

/-- The cells in an output's merge stage. -/
def mergeStage (s : State) (out : Nat) : List Cell := [0, 1, 2, 3, 4, 5].flatMap (fun i => Tab.get [] s.swc.merge (8 * out + i))

/-- A cell read from VOQ SRAM is checked (R218): a corrected error is recorded, and an uncorrectable one is CONTAINED at port scope on
the input port, whose VOQs the port reset empties. -/
def voqRead (s : State) (p : Nat) (c : Cell) : Option State :=
  match c.ecc with
  | .good => some s
  | .corrected => some (s.record (blockOcc (swcSet (p / 16)) 0))
  | .uncorrectable => none

def voqUncorrected (s : State) (p : Nat) : State := (s.record (portOcc p (swcSet (p / 16)) 1)).portContained p

/-- The first of a list of indices after a pointer in ascending order, wrapping around (R196): the pointer is the last index
served + 1, or 0. -/
def afterPointer (ptr : Nat) (xs : List Nat) : Option Nat :=
  match (xs.filter (fun x => x ≥ ptr)).min? with
  | some x => some x
  | none => xs.min?

/-- The cells of other regions granted for an output and not yet there: waiting for a path, on their way, or to be sent again. -/
def State.coming (s : State) (out : Nat) : Nat :=
  let mine (c : Cell) : Bool := c.out == out
  (s.swc.spine.map (fun e => (e.2.filter mine).length)).sum + (s.swc.resend.map (fun e => (e.2.filter mine).length)).sum
    + (s.swc.flight.map (fun e => ((e.2.filterMap id).filter mine).length)).sum

/-- The destination region grants a cell of another region (R197, R204): against the output's merge-stage space, whose size the spec
leaves open, and in sprayed service against the output's window, with what is still to come. -/
def State.spineGrants (s : State) (a out : Nat) : Bool :=
  let coming := s.coming out
  Nat.blt (coming + (mergeStage s out).length) (Config.mergeSpare + 1) &&
    (s.spray a (out / 16) < 2 || (Tab.get [] s.swc.window out).length + coming < 4096)

/-- The requests of a slot: input, output and class of each VOQ with a cell in SRAM, its output's gate open, neither region isolated,
and the grant of another region for its output (R41, R196, R197). -/
def requests (s : State) : List (Nat × Nat × Nat) :=
  (s.swc.voq.map (fun e => (e.1 / 512, e.1 / 8 % 64, e.1 % 8))).filter (fun x =>
    s.gateOpen x.2.1 x.2.2 && s.rgn (x.2.1 / 16) != 2 && s.rgn (x.1 / 16) != 2 &&
    (x.1 / 16 == x.2.1 / 16 || s.spineGrants (x.1 / 16) x.2.1))

/-- The requests of the highest class among some. -/
def highest (xs : List (Nat × Nat × Nat)) : List (Nat × Nat × Nat) :=
  let m := (xs.map (fun x => x.2.2)).max?.getD 0
  xs.filter (fun x => x.2.2 == m)

/-- One iteration of request, grant and accept among unmatched inputs and outputs (R196); answers the new matches. -/
def iteration (s : State) (reqs done : List (Nat × Nat × Nat)) : State × List (Nat × Nat × Nat) :=
  let free := reqs.filter (fun x => !done.any (fun d => d.1 == x.1 || d.2.1 == x.2.1))
  let grants := ((free.map (fun x => x.2.1)).dedup).filterMap (fun o =>
    let best := highest (free.filter (fun x => x.2.1 == o))
    match afterPointer (Tab.get 0 s.swc.grant o) (best.map (fun x => x.1)) with
    | some i => best.find? (fun x => x.1 == i)
    | none => none)
  let s1 := grants.foldl (fun s g => s.sw fun w => { w with grant := Tab.put 0 w.grant g.2.1 (g.1 + 1) }) s
  let accepts := ((grants.map (fun x => x.1)).dedup).filterMap (fun i =>
    let best := highest (grants.filter (fun x => x.1 == i))
    match afterPointer (Tab.get 0 s.swc.accept i) (best.map (fun x => x.2.1)) with
    | some o => best.find? (fun x => x.2.1 == o)
    | none => none)
  (accepts.foldl (fun s g => s.sw fun w => { w with accept := Tab.put 0 w.accept g.1 (g.2.1 + 1) }) s1, accepts)

/-- SCHEDULER_SLOT: the cells matched in the last slot cross, and two iterations match inputs to outputs (R196); a cell
for another region goes to the spine (R197). -/
def schedulerSlot (s : State) : State :=
  let s0 := s.swc.cross.foldl (fun s c => s.toMerge 0 c) (s.sw fun w => { w with cross := [] })
  let reqs := requests s0
  let (s1, m1) := iteration s0 reqs []
  let (s2, m2) := iteration s1 reqs m1
  (m1 ++ m2).foldl (fun s x =>
    match s.voqPop x.1 x.2.1 x.2.2 with
    | none => s
    | some (c, t0) => match voqRead t0 x.1 c with
      | none => voqUncorrected t0 x.1
      | some t => if x.1 / 16 = x.2.1 / 16 then t.sw fun w => { w with cross := w.cross ++ [c] }
      else t.sw fun w =>
        { w with spine := Tab.put [] w.spine (pairKey (x.1 / 16) (x.2.1 / 16))
                   (Tab.get [] w.spine (pairKey (x.1 / 16) (x.2.1 / 16)) ++ [c]) }) s2

def execSchedulerSlot (s : State) : Result := .next (schedulerSlot s)

/-- A cell is sent on a path: numbered when it is new, kept in the replay buffer, and on its way (R201, R202); one sent again under
R208 is counted in RESENT. -/
def sendOn (s : State) (a b k : Nat) (c : Cell) (again : Bool) : State :=
  let n := Tab.get 0 s.swc.txseq c.flow
  let c1 := if again then c else { c with seq := n }
  let s1 := if again then s.bump SWC_SPN_STS.RESENT a 1 else s.sw fun w => { w with txseq := Tab.put 0 w.txseq c.flow ((n + 1) % 2 ^ 16) }
  (s1.sw fun w =>
    { w with replay := Tab.put [] w.replay (pathKey a b k) (Tab.get [] w.replay (pathKey a b k) ++ [(c1, again)])
             flight := Tab.put [] w.flight (pathKey a b k) (Tab.get [] w.flight (pathKey a b k) ++ [some c1]) }).count
    a 0x0E b 1

/-- The age of a cell's request in CLK_SPINE cycles of 2/3 ns, saturating at 4,095 (R34). -/
def spineAge (now : Nat) (c : Cell) : Nat := min 4095 ((now - c.since) * 3 / 2)

/-- The request that a region presents (R34): of the highest class, and within it of the greatest age, the first of equals. -/
def presented (now : Nat) (xs : List (Cell × Bool)) : Option (Cell × Bool) :=
  let tc := (xs.map (fun x => x.1.tc)).max?.getD 0
  let top := xs.filter (fun x => x.1.tc == tc)
  let age := (top.map (fun x => spineAge now x.1)).max?.getD 0
  top.find? (fun x => spineAge now x.1 == age)

/-- The requests for path k from a to b: the first cell to be sent again of each flow, which goes ahead of the flow's new cells
(R208), and the cells of the other flows that the path may carry: in sprayed service while it is no more loaded than the other
working path, else those whose fixed path it is (R199, R203). -/
def spineRequests (s : State) (a b k : Nat) : List (Cell × Bool) :=
  let again := Tab.get [] s.swc.resend (pairKey a b)
  let first := again.zipIdx.filter (fun e => !(again.take e.2).any (fun c => c.flow == e.1.flow))
  let load (k : Nat) := (Tab.get [] s.swc.replay (pathKey a b k)).length
  let wait := (Tab.get [] s.swc.spine (pairKey a b)).filter (fun c => !again.any (fun x => x.flow == c.flow))
  let mine := if s.spray a b = 2 then (if s.pathUp a b (1 - k) && load (1 - k) < load k then [] else wait)
    else wait.filter (fun c => s.fixedPath a b c == k)
  first.map (fun e => (e.1, true)) ++ mine.map (fun c => (c, false))

/-- SPINE_ARBITRATION: the path grants one transfer, to the request that its source region presents (R34); a region that is isolated
presents none (R41). Each direction of a path joins two regions, so that one region presents requests on it (DEDUCED, log entry
77). A parity error of the scheduler is REGION_FATAL (R218). -/
def spineArbitration (r d : Region) (k : SpinePath) (s : State) : State :=
  if k.parity then s.record (regionOcc r (swcSet r) 9)
  else if r = d || !s.pathUp r d k.k || s.rgn r == 2 then s
  else match presented (s.timeOf r) (spineRequests s r d k.k) with
    | none => s
    | some (c, true) =>
      sendOn (s.sw fun w => { w with resend := Tab.put [] w.resend (pairKey r d) ((Tab.get [] w.resend (pairKey r d)).erase c) })
        r d k.k c true
    | some (c, false) =>
      sendOn (s.sw fun w => { w with spine := Tab.put [] w.spine (pairKey r d) ((Tab.get [] w.spine (pairKey r d)).erase c) })
        r d k.k c false

def execSpineArbitration (r d : Region) (k : SpinePath) (s : State) : Result := .next (spineArbitration r d k s)

/-- SPINE_CELL_RECEIVE: a cell whose CRC fails is discarded with every later one until its good copy, which is sent again
first (R201); sixteen errors in 65,536 cells fail the path. A good cell goes to its output's resequencer. -/
def spineCellReceive (r d : Region) (k : Fin 2) (good : Bool) (s : State) : State :=
  match Tab.get [] s.swc.flight (pathKey r d k) with
  | some c :: rest =>
    let i := pathKey r d k
    let n := Tab.get 0 s.swc.rx i + 1
    let s1 := s.sw fun w => { w with rx := Tab.put 0 w.rx i n }
    if good then
      let s2 := s1.sw fun w => { w with flight := Tab.put [] w.flight i rest, got := Tab.put 0 w.got i (Tab.get 0 w.got i + 1) }
      (s2.reseq r d c).exitIfDone r d
    else
      let errs := (Tab.get [] s.swc.crc i).filter (fun m => n - m < 65536) ++ [n]
      let s2 := (s1.sw fun w => { w with crc := Tab.put [] w.crc i errs }).record (blockOcc (swcSet d) 3)
      if errs.length ≥ 16 then s2.pathFails r d k else s2
  | _ => s

def execSpineCellReceive (r d : Region) (k : Fin 2) (good : Bool) (s : State) : Result :=
  .next (spineCellReceive r d k good s)

/-- SPINE_ACK_RECEIVE: the cells that the receiver has taken leave the replay buffer (R201). -/
def spineAckReceive (r d : Region) (k : Fin 2) (s : State) : State :=
  let i := pathKey r d k
  (s.sw fun w =>
    { w with replay := Tab.put [] w.replay i ((Tab.get [] w.replay i).drop (Tab.get 0 w.got i))
             got := Tab.put 0 w.got i 0 }).exitIfDone r d

def execSpineAckReceive (r d : Region) (k : Fin 2) (s : State) : Result := .next (spineAckReceive r d k s)

/-- SPINE_ACK_TIMEOUT: the path is declared failed while it holds an unacknowledged cell or its check traffic (R201, R209). -/
def spineAckTimeout (r d : Region) (k : Fin 2) (s : State) : State := if r = d then s else s.pathFails r d k

def execSpineAckTimeout (r d : Region) (k : Fin 2) (s : State) : Result := .next (spineAckTimeout r d k s)

/-- RESEND_ACKED: once every cell sent again is acknowledged, the source starts SPRAY_EXIT (R208). -/
def resendAcked (r d : Region) (s : State) : State :=
  if s.spray r d = 2 && s.resendOver r d && [0, 1].any (fun k => !s.pathUp r d k) then s.startExit r d else s

def execResendAcked (r d : Region) (s : State) : Result := .next (resendAcked r d s)

/-- SPRAY_ENTRY_ANSWER: the source moves to SPRAYED, and straight to SPRAY_EXIT where FORCE_SPRAY was cleared meanwhile
(R206). -/
def sprayEntryAnswer (r d : Region) (s : State) : State :=
  if s.spray r d = 1 then
    let s1 := s.setSpray r d 2
    if (s.get SWC_SPN_CTL.FORCE_SPRAY r).testBit d then s1 else s1.startExit r d
  else s

def execSprayEntryAnswer (r d : Region) (s : State) : Result := .next (sprayEntryAnswer r d s)

/-- EXIT_MARK_ARRIVE: the mark that leads on a path is taken; the pair becomes ORDERED once its conditions hold (R207). -/
def exitMarkArrive (r d : Region) (k : Fin 2) (s : State) : State :=
  match Tab.get [] s.swc.flight (pathKey r d k) with
  | none :: rest =>
    (s.sw fun w =>
      { w with flight := Tab.put [] w.flight (pathKey r d k) rest
               marks := Tab.put [] w.marks (pairKey r d) (k.val :: Tab.get [] w.marks (pairKey r d)) }).exitIfDone r d
  | _ => s

def execExitMarkArrive (r d : Region) (k : Fin 2) (s : State) : Result := .next (exitMarkArrive r d k s)

/-- HOLE_TIMEOUT: the missing numbers are skipped, the first cell delivered carries GAP, the hole is captured, and
SWC_RSQ_HOLE_SKIP is contained on the output port (R205). -/
def holeTimeout (port : Port) (source : Fin 68) (tc : Tc) (s : State) : State :=
  let f := flowKey source port tc
  let e := Tab.get 0 s.swc.rxseq f
  let mine := (Tab.get [] s.swc.window port).filter (fun c => c.flow == f)
  let dist (c : Cell) := (c.seq + 2 ^ 16 - e) % 2 ^ 16
  match (mine.map dist).min? with
  | none => s
  | some d =>
    let next := (e + d) % 2 ^ 16
    let s1 := s.sw fun w =>
      { w with rxseq := Tab.put 0 w.rxseq f next
               window := Tab.put [] w.window port ((Tab.get [] w.window port).map
                 (fun c => if c.flow == f && c.seq == next then { c with gap := true } else c)) }
    let s2 := (s1.drainWindow (s1.drainFuel f port) (sourceRegion source) f port).bump SWC_RSQ_STS.HOLES port 1
    let s3 := if s2.flag SWC_RSQ_HOLE.VALID port then s2
      else (((s2.set SWC_RSQ_HOLE.SEQ port e).set SWC_RSQ_HOLE.SOURCE port source).set SWC_RSQ_HOLE.TC port tc).set
        SWC_RSQ_HOLE.VALID port 1
    let s4 := (s3.record (portOcc port (swcSet (port / 16)) 6)).portContained port
    s4.exitIfDone (sourceRegion source) (port / 16)

def execHoleTimeout (port : Port) (source : Fin 68) (tc : Tc) (s : State) : Result := .next (holeTimeout port source tc s)

/-- SPINE_CHECK_PASSED: both paths have passed their check after reset, and SPRAY_EXIT starts (R209). -/
def spineCheckPassed (r d : Region) (s : State) : State :=
  if r != d && s.spray r d = 2 && s.pathUp r d 0 && s.pathUp r d 1 && !Tab.get false s.swc.checked (pairKey r d) then
    (s.sw fun w => { w with checked := Tab.put false w.checked (pairKey r d) true }).startExit r d
  else s

def execSpineCheckPassed (r d : Region) (s : State) : Result := .next (spineCheckPassed r d s)

/-- FORCE_SPRAY_ENTRY: the bit is set, and an ORDERED pair enters SPRAY_ENTRY; a pair leaves no mode before its handshake
ends (R206, R209). Bit r is ignored. -/
def forceSprayEntry (p : Path) (r d : Region) (s : State) : State :=
  s.command p (swcSet r) fun s =>
    let s1 := s.setBits SWC_SPN_CTL.FORCE_SPRAY r (2 ^ d.val)
    if r != d && s1.spray r d = 0 then s1.setSpray r d 1 else s1

def execForceSprayEntry (p : Path) (r d : Region) (s : State) : Result := .next (forceSprayEntry p r d s)

/-- FORCE_SPRAY_EXIT: the bit is cleared, and a SPRAYED pair that has nothing to send again starts SPRAY_EXIT (R207, R209);
a pair in SPRAY_ENTRY completes its entry first. -/
def forceSprayExit (p : Path) (r d : Region) (s : State) : State :=
  s.command p (swcSet r) fun s =>
    let was := (s.get SWC_SPN_CTL.FORCE_SPRAY r).testBit d
    let s1 := s.clearBits SWC_SPN_CTL.FORCE_SPRAY r (2 ^ d.val)
    if was && r != d && s1.spray r d = 2 && s1.resendOver r d then s1.startExit r d else s1

def execForceSprayExit (p : Path) (r d : Region) (s : State) : Result := .next (forceSprayExit p r d s)

/-! HBM overflow (R194). -/

/-- OVERFLOW_DRAIN: the oldest HBM cell of a VOQ is read, and goes to SRAM when its class has space there. A column of it that is lost
is CONTAINED at port scope on the input port (R177, R218). -/
def overflowDrain (port out : Port) (d : DrainRead) (s : State) : State :=
  match Tab.get [] s.swc.ovf (voqKey port out d.tc) with
  | [] => s
  | c :: cs =>
    if s.get SWC_VOQ_OCC.CELLS (8 * port + d.tc) < s.get SWC_VOQ_LIM.LIMIT (8 * port + d.tc) then
      let at_ := hbmAt (ovfStack port) (ovfAddr port c.slot)
      if d.found == .uncorrectable then (((keyLost s at_).record (portOcc port (swcSet (port / 16)) 2))).portContained port
      else
        let s0 := if d.found == .corrected then keyCorrected s at_ else s
        let s1 := (s0.set SWC_OVF_STS.CELLS port (s0.get SWC_OVF_STS.CELLS port - 1)).sw fun w =>
          { w with ovf := Tab.put [] w.ovf (voqKey port out d.tc) cs }
        (s1.voqPut port { c with data := s0.ovfBytes port c }).admitHeld port
    else s

def execOverflowDrain (port out : Port) (tc : DrainRead) (s : State) : Result := .next (overflowDrain port out tc s)

/-! Outputs (R221, R222). -/

/-- The five inputs of an output's merge stage, in the rotation of R222. -/
def mergeInputs (p : Nat) : List Nat := [0, 1, 2, 3, 4, 5].filter (fun i => i != 1 + p / 16)

/-- A pool request leaves for another unit (R144, R153): a tracker of its port's region awaits the answer and runs its timer. -/
def State.sentAway (s : State) (z : Nat) (q : ReqOut) : State :=
  let r := agentPort q.agent / 16
  let s1 := s.inCat fun c => { c with zreq := c.zreq ++ [⟨z, q, false⟩] }
  match s1.freeTrk r false with
  | some k => (s1.setTrk k (some { purpose := .remote q.agent q.tag, line := lineOf q.addr.toNat, phase := .remote })).noteOcc r
  | none => s1

/-- Every pool request in a cell finds a free tracker (R111, R144). -/
def remoteRoom (s : State) (c : Cell) : Bool :=
  [0, 1, 2, 3].all (fun r =>
    let n := (c.reqs.filter (fun q => agentPort q.agent / 16 == r)).length
    n = 0 || ((List.range 7680).filter (fun k => s.trk (8192 * r + k) == none)).length ≥ n)

/-- The egress link of a port holds what a cell needs (R221): credits and replay space on a UP or DN port, a grant and replay
space on a ZL port. -/
def egressReady (s : State) (p : Nat) (c : Cell) : Bool :=
  if s.role p == 3 then
    let l := s.zwl (zIndex p)
    let f := 8 * c.dest + c.tc
    let room := if s.flag PRT_PORT_STS.GANGED p then 1024 else 512
    (s.get ZWL_STS.STATE (zIndex p) == 2 || s.get ZWL_STS.STATE (zIndex p) == 4) &&
      (Tab.get 0 l.granted f + 2 ^ 16 - Tab.get 0 l.sent f) % 2 ^ 16 != 0 &&
      (Tab.get 0 l.granted f + 2 ^ 16 - Tab.get 0 l.sent f) % 2 ^ 16 < 2 ^ 15 && l.replay.length < room && remoteRoom s c
  else
    let l : LnkState := Tab.get {} s.ll.lnk p
    l.replay.length < 512 && (List.range 14).all (fun ch => c.need.count ch ≤ Tab.get 0 l.credit ch)

/-- The first cell of a class in a merge-stage input. -/
def mergeHead (s : State) (p i tc : Nat) : Option Cell := (Tab.get [] s.swc.merge (8 * p + i)).find? (fun c => c.tc == tc)

/-- The input and cell that the merge stage starts: the highest class that is open and ready, its inputs in rotation. -/
def mergePick (s : State) (p : Nat) : Option (Nat × Cell) :=
  [7, 6, 5, 4, 3, 2, 1, 0].findSome? (fun tc =>
    if s.gateOpen p tc then
      let ins := (mergeInputs p).filter (fun i =>
        match mergeHead s p i tc with
        | some c => egressReady s p c
        | none => false)
      match afterPointer (Tab.get 0 s.swc.served (8 * p + tc)) ins with
      | some i => (mergeHead s p i tc).map (fun c => (i, c))
      | none => none
    else none)

/-- GT/s of a rate code (PRT_PORT_CTL.MAX_RATE), in tenths. -/
def rateTenths (r : Nat) : Nat := [25, 50, 80, 160, 320, 640].getD r 640

/-- How long a cell of 256 bytes takes at a port's rate and width, in ps (R236). -/
def cellPs (s : State) (p : Nat) : Nat :=
  20480000 / (rateTenths (s.get PRT_PORT_STS.RATE p) * max (s.get PRT_PORT_STS.WIDTH p) 1)

/-- The bytes of a cell as one number, the first byte lowest. -/
def Cell.nat (c : Cell) : Nat := c.data.foldr (fun b n => b.toNat + 256 * n) 0

/-- OUTPUT_CELL_START: the merge stage starts a cell (R221, R222): it takes its credits or its grant, enters the replay buffer,
and leaves; the slot is counted (R491, R493), and its delay where it is sampled (R238). A corrected error in the gate entry is
recorded and the entry rewritten; an uncorrectable one is CONTAINED at port scope, and opens the port's gates until a new bank is
loaded (R239). -/
def outputCellStart (x : CellStart) (s0 : State) : State :=
  let port := x.port
  if x.gate == .uncorrectable then
    let s1 := { s0 with tfc := { s0.tfc with gateLost := Tab.put false s0.tfc.gateLost port true } }
    (s1.record (portOcc port (tfcSet (port / 16)) 3)).portContained port
  else
  let s := if x.gate == .corrected then s0.record (blockOcc (tfcSet (port / 16)) 2) else s0
  let waiting := (mergeInputs port).any (fun i => Tab.get [] s.swc.merge (8 * port + i) != [])
  if s.get PRT_PORT_STS.STATE port != 4 then
    if waiting then s.countPort port 3 1 else s.countPort port 2 1
  else
    match mergePick s port with
    | none =>
      if !waiting then s.countPort port 2 1
      else
        let shut := (mergeInputs port).all (fun i => (Tab.get [] s.swc.merge (8 * port + i)).all (fun c => !s.gateOpen port c.tc))
        (s.countPort port 3 1).countPort port (if shut then 24 else 23) 1
    | some (i, c) =>
      let now := s.timeOf (port / 16)
      let s1 := s.sw fun w =>
        { w with merge := Tab.put [] w.merge (8 * port + i) ((Tab.get [] w.merge (8 * port + i)).erase c)
                 served := Tab.put 0 w.served (8 * port + c.tc) (i + 1) }
      let s2 := ((s1.countPort port 0 1).countPort port (4 + c.tc) 1).countPort port 20 c.data.length
      let s3 := if s2.get PRT_PORT_STS.WIDTH port < 8 then s2.countPort port 25 1 else s2
      let s4 := match c.born with
        | none => s3
        | some t => (s3.sample (sourceRegion c.source) .voqDelay c.source c.out c.tc (log2Bin (now - t))).sample
            (port / 16) .outDelay c.source c.out c.tc (log2Bin (now - t))
      let s5 := if (s4.gateMaskAt port ((now * 1000 + cellPs s4 port) / 1000)).testBit c.tc then s4
        else s4.bump TFC_GATE_CUR.OVERRUN port 1
      let s6 := c.msg.foldl (fun (s : State) m => s.latDone port m) ((s5.emit (.cell port c.source c.tc c.nat)).emits c.msg)
      if s6.role port = 3 then
        let z := zIndex port
        let l := s6.zwl z
        let f := 8 * c.dest + c.tc
        let n := s6.get ZWL_STS.TX_SEQ z
        let r := sourceRegion c.source
        let d := { c with epoch := some (r, s6.get SWC_RT_BAR.EPOCH r) }
        let s7 := c.reqs.foldl (fun s q => s.sentAway z q) s6
        (((s7.setZwl z { l with sent := Tab.put 0 l.sent f ((Tab.get 0 l.sent f + 1) % 2 ^ 16), replay := l.replay ++ [(n, d, 0)] }).set
          ZWL_STS.TX_SEQ z ((n + 1) % 2 ^ 24)).sendUnit z (some n) false (s7.dataUnit n d)).emit (.zwl z 0x10 n f)
      else
        let l : LnkState := Tab.get {} s6.ll.lnk port
        let l1 : LnkState := { l with
          credit := c.need.foldl (fun t ch => Tab.put 0 t ch (Tab.get 0 t ch - 1)) l.credit
          txNext := l.txNext + 1
          replay := l.replay ++ [(l.txNext, { c with kset := s6.get LNK_IDE_STS.KSET_IO port + 2 * s6.get LNK_IDE_STS.KSET_CM port })] }
        ({ s6 with ll := { s6.ll with lnk := Tab.put ({} : LnkState) s6.ll.lnk port l1 } }).emit (.link port 4 l.txNext)

def execOutputCellStart (port : CellStart) (s : State) : Result := .next (outputCellStart port s)

/-! Routing tables (R210–R214). -/

/-- A routing entry's fields (R210). -/
def rtEn (e : BitVec 128) : Bool := bits e 0 1 == 1
def rtKind (e : BitVec 128) : Nat := bits e 1 1
def rtVcs (e : BitVec 128) : Nat := bits e 2 6
def rtEgress (e : BitVec 128) : Nat := bits e 8 6
def rtLd (e : BitVec 128) : Nat := bits e 14 4

/-- An entry's zero bits are zero and its fields within their values (R210). -/
def rtGood (e : BitVec 128) : Bool :=
  bits e 18 14 == 0 && bits e 120 8 == 0 &&
    (if rtKind e = 0 then bits e 48 28 == 0 && bits e 76 44 == 0 && bits e 32 8 ≤ bits e 40 8
     else bits e 32 44 ≤ bits e 76 44)

/-- Entry e of region r. -/
def State.rtEntry (s : State) (r e : Nat) : BitVec 128 := Tab.get 0 s.swc.rt (2048 * r + e)

/-- Every cell in the switch core. -/
def State.allCells (s : State) : List Cell :=
  s.swc.voq.flatMap (fun e => e.2) ++ s.swc.ovf.flatMap (fun e => e.2) ++ s.swc.held.flatMap (fun e => e.2) ++ s.swc.cross ++
  s.swc.spine.flatMap (fun e => e.2) ++ s.swc.resend.flatMap (fun e => e.2) ++
  s.swc.flight.flatMap (fun e => e.2.filterMap id) ++ s.swc.window.flatMap (fun e => e.2) ++ s.swc.merge.flatMap (fun e => e.2)

/-- A cell stamped with an epoch of region r older than the current one remains (R213). -/
def State.oldCell (s : State) (r : Nat) (c : Cell) : Bool :=
  match c.epoch with
  | some (q, e) => q == r && e != s.get SWC_RT_BAR.EPOCH r
  | none => false

def State.anyOld (s : State) (r : Nat) : Bool := s.allCells.any (s.oldCell r)

/-- A write of a routing entry is committed, with the next epoch (R212). -/
def rtCommit (s : State) (r e : Nat) (v : BitVec 128) : State :=
  ((s.sw fun w => { w with rt := Tab.put 0 w.rt (2048 * r + e) v }).set SWC_RT_BAR.EPOCH r
    ((s.get SWC_RT_BAR.EPOCH r + 1) % 2 ^ 16)).set SWC_RT_CMD.RESULT r 0

/-- The fields of SWC_RT_CMD that a command writes. -/
def rtCmd (s : State) (r e op : Nat) : State := (s.set SWC_RT_CMD.ENTRY r e).set SWC_RT_CMD.OP r op

/-- The staged entry of region r (SWC_RT_D0 to D3). -/
def rtStaged (s : State) (r : Nat) : BitVec 128 :=
  BitVec.ofNat 128 ((List.range 4).foldr (fun k n => (s.word .SWC_RT_D (4 * r + k)).toNat + 2 ^ 32 * n) 0)

/-- An entry whose reading finds an uncorrectable error is cleared, and its VCS port is contained (R218). -/
def rtLost (s : State) (r e : Nat) : State :=
  let p := rtVcs (s.rtEntry r e)
  ((s.sw fun w => { w with rt := Tab.put 0 w.rt (2048 * r + e) 0 }).record (portOcc p (swcSet r) 7)).portContained p

/-- RT_READ: the entry is loaded into the data registers (R219). -/
def rtRead (p : Path) (r : Region) (e : EntryRead) (s : State) : State :=
  s.startWith p (swcSet r) (s.flag SWC_RT_CMD.BUSY r) (fun s => rtCmd s r e.entry.toNat 0) fun s0 =>
    let s := if e.bad then rtLost s0 r e.entry.toNat else s0
    let x := s.rtEntry r e.entry.toNat
    ((List.range 4).foldl (fun s k => s.setWord .SWC_RT_D (4 * r.val + k) (BitVec.ofNat 32 (bits x (32 * k) 32)))
      (rtCmd s r e.entry.toNat 0)).set SWC_RT_CMD.RESULT r 0

def execRtRead (p : Path) (r : Region) (entry : EntryRead) (s : State) : Result := .next (rtRead p r entry s)

/-- RT_WRITE: the staged entry is checked and committed, or refused with WRONG_REGION, BAD_FIELD or EPOCH_BUSY (R210, R212,
R213). -/
def rtWrite (p : Path) (r : Region) (entry : BitVec 11) (s : State) : State :=
  s.startWith p (swcSet r) (s.flag SWC_RT_CMD.BUSY r) (fun s => rtCmd s r entry.toNat 1) fun s =>
    let s1 := rtCmd s r entry.toNat 1
    let e := rtStaged s1 r
    if rtVcs e / 16 != r.val then s1.set SWC_RT_CMD.RESULT r 1
    else if !rtGood e then s1.set SWC_RT_CMD.RESULT r 2
    else if s1.anyOld r then s1.set SWC_RT_CMD.RESULT r 4
    else rtCommit s1 r entry.toNat e

def execRtWrite (p : Path) (r : Region) (entry : BitVec 11) (s : State) : Result := .next (rtWrite p r entry s)

/-- RT_CLEAR: all 16 bytes are written as zero, under the same epoch rule (R212, R213, R219). -/
def rtClear (p : Path) (r : Region) (entry : BitVec 11) (s : State) : State :=
  s.startWith p (swcSet r) (s.flag SWC_RT_CMD.BUSY r) (fun s => rtCmd s r entry.toNat 2) fun s =>
    let s1 := rtCmd s r entry.toNat 2
    if s1.anyOld r then s1.set SWC_RT_CMD.RESULT r 4 else rtCommit s1 r entry.toNat 0

def execRtClear (p : Path) (r : Region) (entry : BitVec 11) (s : State) : Result := .next (rtClear p r entry s)

/-- RT_BARRIER_START (R213): a start while BUSY is discarded. -/
def rtBarrierStart (p : Path) (r : Region) (s : State) : State :=
  s.start p (swcSet r) (s.flag SWC_RT_BAR.BUSY r) fun s => s.set SWC_RT_BAR.BUSY r 1

def execRtBarrierStart (p : Path) (r : Region) (s : State) : Result := .next (rtBarrierStart p r s)

/-- A routing barrier ends. -/
def rtBarrierEnds (s : State) (r : Nat) (timeout : Bool) : State :=
  ((s.set SWC_RT_BAR.BUSY r 0).set SWC_RT_BAR.DONE r 1).set SWC_RT_BAR.TIMEOUT r (if timeout then 1 else 0)

/-- RT_BARRIER_DONE: no cell of an older epoch remains (R213). -/
def rtBarrierDone (r : Region) (s : State) : State :=
  if s.flag SWC_RT_BAR.BUSY r && !s.anyOld r then rtBarrierEnds s r false else s

def execRtBarrierDone (r : Region) (s : State) : Result := .next (rtBarrierDone r s)

/-- RT_BARRIER_TIMEOUT: the barrier ends with TIMEOUT, and every egress port that still holds such cells is contained, once
each (R214). -/
def rtBarrierTimeout (r : Region) (s : State) : State :=
  if s.flag SWC_RT_BAR.BUSY r then
    let ports := ((s.allCells.filter (s.oldCell r)).map (fun c => c.out)).dedup
    ports.foldl (fun s p => (s.record (portOcc p (swcSet r) 8)).portContained p) (rtBarrierEnds s r true)
  else s

def execRtBarrierTimeout (r : Region) (s : State) : Result := .next (rtBarrierTimeout r s)

end Sys2Proof.Machine
end

