-- ==== Sys2Proof/Machine/Lanes.lean ====
section
/-! DEFINITION. The commands of lanes and port bring-up (chapter Lanes and Port Bring-up). -/
namespace Sys2Proof.Machine
open Sys2Proof

/-! PRT_PORT_STS.STATE (R261). -/
def stOff : Nat := 0
def stDetect : Nat := 1
def stPolling : Nat := 2
def stL0 : Nat := 4
def stRecovery : Nat := 5
def stDisabled : Nat := 6
def stTest : Nat := 9

/-- A port's link state. -/
def State.link (s : State) (p : Nat) : Nat := s.get PRT_PORT_STS.STATE p
/-- Set it. -/
def State.setLink (s : State) (p v : Nat) : State := s.set PRT_PORT_STS.STATE p v

/-- The port and lane index of a chip lane (R241): index 8 is the spare. -/
def lanePort (n : Nat) : Nat := 16 * (n / 130) + (if n % 130 < 128 then n % 130 / 8 else 14 + (n % 130 - 128))
def laneIndex (n : Nat) : Nat := if n % 130 < 128 then n % 130 % 8 else 8
/-- An operation on a port's link acts on both ports of a ganged link (R243). -/
def State.onLink (s : State) (p : Nat) (f : State → Nat → State) : State := (s.linkPorts p).foldl f s
/-- The port whose status registers describe a link: the lower one of a ganged pair (R243). -/
def State.leader (s : State) (p : Nat) : Nat := if s.flag PRT_PORT_STS.GANGED p then p / 2 * 2 else p

/-! Widths (R243, R254, R255, R261). -/

/-- The lanes of a port that a link of a width uses: its logical lanes from 0, reversed or not; all eight in a link of x16. -/
def lanesUsed (width : Nat) (reversed : Bool) : List Nat := (List.range (min width 8)).map (fun k => if reversed then 7 - k else k)

/-- A lane may be in service: WIDTH_MASK allows it and it is not excluded. -/
def laneOffered (s : State) (p k : Nat) : Bool := (s.get PRT_PORT_CTL.WIDTH_MASK p).testBit k && !(s.get PRT_PORT_STS.FAULTED p).testBit k

/-- A link may run at a width and order of lanes: every lane that it uses may be in service, reversal is allowed where it is used, and
only a ganged link is x16. -/
def widthTrains (s : State) (p width : Nat) (reversed : Bool) : Bool :=
  [1, 2, 4, 8, 16].contains width && (width == 16) == s.flag PRT_PORT_STS.GANGED p &&
    (!reversed || s.flag PRT_PORT_CTL.REVERSAL_EN p) &&
    (s.linkPorts p).all (fun q => (lanesUsed width reversed).all (laneOffered s q))

/-- The width that L0p reaches around the excluded lanes (Table: Exclusion of a faulted lane): the widest from logical lane 0 on that
holds none of them; 0 when lane 0 is excluded. -/
def widthFree (s : State) (p : Nat) : Nat :=
  ([8, 4, 2, 1].find? (fun w => (lanesUsed w (s.flag PRT_PORT_STS.REVERSED p)).all (laneOffered s p))).getD 0

/-! Receivers (R246). -/

/-- The code with which a lane's equaliser runs at a rate: PEAK where it is fixed and at 2.5 and 5 GT/s; from 8 GT/s on the lane chooses
it, and the spec leaves which open. -/
def peakNow (s : State) (n rate : Nat) : Nat :=
  if s.flag PRT_LANE_CTL.CTLE_MODE n || rate < 2 then s.get PRT_LANE_CTL.PEAK n else Config.freeValue s.free % 37

/-- A lane of a link that has trained: its code, its clock recovery locked, and what the receiver's monitor reads, which the spec leaves
open. -/
def laneTrained (s : State) (n rate : Nat) : State :=
  { ((s.set PRT_LANE_STS.PEAK_NOW n (peakNow s n rate)).set PRT_LANE_STS.CDR_LOCK n 1).set PRT_LANE_STS.EYE n
      (Config.freeValue (s.free + 1) % 256) with free := s.free + 2 }

/-- The lanes that a port trains at a width: those in use, and the spare of a ZL port, which is equalised with the others (R244). -/
def lanesTrained (s : State) (p width : Nat) (reversed : Bool) : List Nat :=
  lanesUsed width reversed ++ (if s.role p = 3 then [8] else [])

/-- The link that a port carries once it is in L0 (R262): LNK_STS, whose FLIT stays 0 on a Zwius link, which carries no flits, and the
hold of R275 where encryption is required. -/
def linkCarries (s : State) (p proto flit : Nat) : State :=
  let io := if proto = 2 then 0 else 1
  let mem := if proto = 1 then 1 else 0
  let cache := if proto = 1 && s.role p = 2 && s.plan p 14 1 = 1 then 1 else 0
  let bi := if proto = 1 && s.role p = 1 && flit = 3 then 1 else 0
  let s1 := ((((s.set LNK_STS.FLIT p (if proto = 2 then 0 else flit)).set LNK_STS.IO p io).set LNK_STS.CACHE p cache).set LNK_STS.MEM p mem).set LNK_STS.BI p bi
  let active := (io = 0 || s1.flag LNK_STS.IDE_IO p) && (mem = 0 || s1.flag LNK_STS.IDE_CM p)
  s1.set LNK_STS.IDE_GATED p (if proto != 2 && s1.flag LNK_CTL.IDE_REQ p && !active then 1 else 0)

/-- A port's link enters L0 (R249, R251, R262). -/
def linkUpPort (rate width proto flit : Nat) (l0p reversed : Bool) (s : State) (port : Nat) : State :=
  let s0 := (lanesTrained s port width reversed).foldl (fun s k => laneTrained s (laneOf port k) rate) s
  let s1 := ((((s0.setLink port stL0).set PRT_PORT_STS.RATE port rate).set PRT_PORT_STS.WIDTH port width).set
    PRT_PORT_STS.PROTO port proto)
  let s2 := (s1.set PRT_PORT_STS.L0P_NEG port (if l0p && s.flag PRT_PORT_CTL.L0P_EN port then 1 else 0)).set
    PRT_PORT_STS.REVERSED port (if reversed then 1 else 0)
  let s3 := { linkCarries s2 port proto flit with
    prt := { s2.prt with fails := Tab.put 0 s2.prt.fails (8 * port + rate) 0 } }
  (s3.portEvent port 0).portEvt port 0

/-- The protocols that a port runs by role (R262), each within its rates and flit sizes (R263, R264): protocol 0 PCIe, 1 CXL and 2 Zwius;
flit 1 non-flit, 2 of 68 bytes and 3 of 256 bytes. -/
def protoRuns (role proto flit rate : Nat) : Bool :=
  match proto with
  | 0 => (role == 1 && flit == 3 && rate ≥ 2) || (role == 2 && (flit == 3 || (flit == 1 && rate ≤ 4)))
  | 1 => (role == 1 || role == 2) && ((flit == 3 && rate ≥ 4) || (flit == 2 && rate ≤ 4 && rate ≥ (if role = 1 then 3 else 2)))
  | _ => role == 3 && rate == 5

/-- LINK_UP: the link of a port enters L0 at a rate within its cap, and LINK_UP is posted (R249, R251, R262): a Zwius link at
64 GT/s starts its initialisation (R295). A UP port whose peer declines CXL stays in Detect where PCIE_UP_EN is 0. No link trains onto
an excluded lane, and the ports of a ganged link train together (R243, R254, R255). -/
def linkUp (port : Port) (rate : Fin 6) (width : Fin 17) (proto : Fin 3) (flit : Fin 4) (l0p reversed : Bool) (s : State) :
    State :=
  if s.role port = 0 || !([2, 3, 4, 5].contains (s.link port)) || rate.val > s.get PRT_PORT_EVT.CAP port
      || rate.val > s.get PRT_PORT_CTL.MAX_RATE port || !protoRuns (s.role port) proto flit rate || !widthTrains s port width reversed then s
  else if s.role port = 1 && proto = 0 && !s.flag LNK_CTL.PCIE_UP_EN port then s.setLink port stDetect
  else if flit = 2 && !s.flag LNK_CTL.FLIT68_EN port then s
  else
    let q := s.leader port
    let s1 := s.onLink port (linkUpPort rate width proto flit l0p reversed)
    if s.role port = 3 && rate.val = 5 && s.get ZWL_STS.STATE (zIndex q) = 0 then
      ((s1.set ZWL_STS.STATE (zIndex q) 1).sendUnit (zIndex q) none false (s1.initUnit (zIndex q))).emit (.zwl (zIndex q) 0x13 s.unit q)
    else s1

def execLinkUp (port : Port) (rate : Fin 6) (width : Fin 17) (proto : Fin 3) (flit : Fin 4) (l0p reversed : Bool) (s : State) :
    Result := .next (linkUp port rate width proto flit l0p reversed s)

/-- The rate below which a port's cap never falls (R251, R264). -/
def capFloor (s : State) (p : Nat) (cxl : Option Bool) : Nat :=
  if s.role p = 3 then 5
  else match cxl with
    | some true => 4
    | some false => if s.role p = 1 then 3 else 2
    | none => 0

/-- A failure of a bring-up step is counted, and TRAIN_FAIL posted (R250). -/
def failCounted (s : State) (p : Nat) : State := ((s.bump PRT_PORT_EVT.FAILS p 1).portEvent p 2).portEvt p 2

/-- A bring-up step of a port reaches its bound at a rate (R250, R251): the port returns to Detect; after RETRY_MAX failures in a row at
one rate the cap falls to the rate below. A failed step is not the LINK_DOWN after which the cap returns to MAX_RATE (DEDUCED, log
entry 87). -/
def trainFails (rate : Nat) (cxl : Option Bool) (s : State) (p : Nat) : State :=
  let s0 := failCounted (s.linkDown p stDetect) p
  let s1 := { s0 with prt := { s0.prt with detect := Tab.put false s0.prt.detect p (Tab.get false s.prt.detect p) } }
  let n := Tab.get 0 s1.prt.fails (8 * p + rate) + 1
  let lower := n ≥ s1.get PRT_PORT_CTL.RETRY_MAX p && rate > capFloor s p cxl
  let s2 := { s1 with prt := { s1.prt with fails := Tab.put 0 s1.prt.fails (8 * p + rate) (if lower then 0 else n) } }
  if lower then (s2.set PRT_PORT_EVT.CAP p (min (s2.get PRT_PORT_EVT.CAP p) (rate - 1))).portEvt p 3 else s2

/-- LINK_TRAIN_FAIL: a step of a link that trains, from Polling to its speed changes, reaches its bound (R250, R251). -/
def linkTrainFail (port : Port) (rate : Fin 6) (cxl : Option Bool) (s : State) : State :=
  if s.role port = 0 || !([2, 3, 5].contains (s.link port)) then s
  else (s.onLink port (trainFails rate cxl)).record (portOcc (s.leader port) (prtSet port) 2)

def execLinkTrainFail (port : Port) (rate : Fin 6) (cxl : Option Bool) (s : State) : Result :=
  .next (linkTrainFail port rate cxl s)

/-- DETECT_TIMEOUT: the bound of the Detect step of a DN port: DETECT_TMO is posted beside the failure and TRAIN_FAIL of every bound, and
the port stays in Detect (R249, R250). No partner is not an error, so none is recorded. -/
def detectTimeout (port : Port) (s : State) : State :=
  if s.role port = 2 && s.link port = stDetect then failCounted ((s.portEvent port 5).portEvt port 7) port else s

def execDetectTimeout (port : Port) (s : State) : Result := .next (detectTimeout port s)

/-- RECOVERY_TIMEOUT: the link is declared down: PRT_RECOVERY_TMO, CONTAINED at port scope, with the failure and TRAIN_FAIL of
every bound (R145, R250, R260); a Zwius link goes down as R294 states. -/
def recoveryTimeout (port : Port) (s : State) : State :=
  if s.link port = stRecovery || (s.link port = stL0 && s.inReplay port) then
    let s1 := s.record (portOcc port (prtSet port) 4)
    let s2 := if s.role port = 3 then s1.zwlDown (zIndex (s.leader port)) else s1.portContained port
    s2.onLink port failCounted
  else s

def execRecoveryTimeout (port : Port) (s : State) : Result := .next (recoveryTimeout port s)

/-- PVPERL_EXPIRY: DN_PERST_N is driven high and the port enters Detect, while its channel, where the plan names one, gives
power-good (R252). -/
def pvperlExpiry (port : Port) (s : State) : State :=
  let powered := s.plan port 23 1 = 0 || s.flag SPW_STS.PG (s.plan port 18 5)
  if s.role port = 2 && powered && !s.flag PRT_DN_TMR.PERST_OUT port && !s.fatal then
    (s.set PRT_DN_TMR.PERST_OUT port 1).setLink port
      (if s.flag PRT_PORT_CTL.DISABLE port then stDisabled else stDetect)
  else s

def execPvperlExpiry (port : Port) (s : State) : Result := .next (pvperlExpiry port s)

/-- WAKE_N_ASSERT: a level is accepted once three consecutive scans read it (R529); the detect interval of a DN port in Detect restarts
(R245). -/
def wakeNAssert (x : WakeScan) (s : State) : State :=
  let port := x.port
  if x.scans ≥ 3 && s.role port = 2 && s.link port = stDetect then s.emit (.lane port 0 0) else s

def execWakeNAssert (scan : WakeScan) (s : State) : Result := .next (wakeNAssert scan s)

/-- An L0p change is asked for, after the one in progress where there is one (R254). -/
def askWidth (s : State) (p w : Nat) : State :=
  if Tab.get 0 s.prt.l0p p = 0 then
    { s.emit (.lane p 1 w) with prt := { s.prt with l0p := Tab.put 0 s.prt.l0p p w } }
  else { s with prt := { s.prt with l0pNext := Tab.put 0 s.prt.l0pNext p w } }

/-- A lane is excluded and its fault counted and posted (R253). -/
def laneOut (s : State) (p k : Nat) : State :=
  let n := laneOf p k
  let s1 := if k < 8 then s.setBits PRT_PORT_STS.FAULTED p (2 ^ k) else s
  let s2 := ((s1.bump PRT_LANE_STS.FAULTS n 1).set PRT_LANE_STS.FAULT n 1).record (portOcc p (prtSet p) 0)
  (s2.portEvent p 3).portEvt p 4

/-- A lane is in service: within the width, or a spare that carries a lane. -/
def laneInService (s : State) (p k : Nat) : Bool :=
  s.link p == stL0 &&
    (if k = 8 then s.role p == 3 && s.flag PRT_PORT_STS.SPARE_USED p
     else (lanesUsed (s.get PRT_PORT_STS.WIDTH p) (s.flag PRT_PORT_STS.REVERSED p)).contains k)

/-- A flit arrives with the lanes of the symbols that FEC corrected in it (R253). -/
def State.symbols (s : State) (p : Nat) (fec : List (Fin 9)) : State :=
  let n := Tab.get 0 s.prt.flits p + 1
  fec.foldl (fun s k =>
    let l := laneOf p k
    { s.bump PRT_LANE_ERR.SYMBOLS l 1 with prt := { s.prt with
      sym := Tab.put [] s.prt.sym l (((Tab.get [] s.prt.sym l).filter (fun m => n - m < 2 ^ 20)) ++ [n]) } })
    { s with prt := { s.prt with flits := Tab.put 0 s.prt.flits p n } }

/-- The corrected symbols of a lane exceed LANE_THR × 16 within 2^20 flits (R253). -/
def State.symbolsOver (s : State) (p k : Nat) : Bool :=
  let n := Tab.get 0 s.prt.flits p
  Nat.blt (16 * s.get PRT_PORT_CTL.LANE_THR p) ((Tab.get [] s.prt.sym (laneOf p k)).filter (fun m => n - m < 2 ^ 20)).length

/-- LANE_FAULT (R253, R254): a lane in service that has lost CDR lock, or whose symbols exceed the threshold, is excluded as its role
and position say. -/
def laneFault (port : Port) (lane : Fin 9) (x : LaneLoss) (s : State) : State :=
  if !laneInService s port lane || !(x.cdr || s.symbolsOver port lane) then s
  else
    let s0 := if x.cdr then s.set PRT_LANE_STS.CDR_LOCK (laneOf port lane) 0 else s
    let s1 := laneOut s0 port lane
    if s.role port = 3 then
      let busy := Tab.get none s.prt.swap port != none || s.flag PRT_PORT_STS.SPARE_USED port || s.flag PRT_PORT_STS.SPARE_BAD port
      if busy || lane.val = 8 then s1.zwlDown (zIndex (s.leader port))
      else
        let s2 := { s1 with prt := { s1.prt with swap := Tab.put none s1.prt.swap port (some ⟨lane, 1, none, 0⟩) } }
        (s2.set ZWL_STS.STATE (zIndex port) 4).zwlCtl (zIndex port) 0x06 1 lane
    else if s.flag PRT_PORT_STS.L0P_NEG port && widthFree s1 port != 0 then askWidth s1 port (widthFree s1 port)
    else if x.cfg then s1.setLink port stRecovery
    else (s1.record (portOcc port (prtSet port) 3)).portContained port

def execLaneFault (port : Port) (lane : Fin 9) (cfg : LaneLoss) (s : State) : Result := .next (laneFault port lane cfg s)

/-- WIDTH_CHANGE: the change in progress completes. Where one waits for it and the width reached still holds an excluded lane, the width
that excludes every such lane is asked for (R254, R256). -/
def widthChange (port : Port) (width : Fin 9) (s : State) : State :=
  if s.link port = stL0 && [1, 2, 4, 8].contains width.val && Tab.get 0 s.prt.l0p port = width.val then
    let next := Tab.get 0 s.prt.l0pNext port
    let s1 := { s.set PRT_PORT_STS.WIDTH port width with
      prt := { s.prt with l0p := Tab.put 0 s.prt.l0p port 0, l0pNext := Tab.put 0 s.prt.l0pNext port 0 } }
    let s2 := (s1.portEvent port 4).portEvt port 5
    if next != 0 && widthFree s2 port < width.val && widthFree s2 port != 0 then askWidth s2 port (widthFree s2 port) else s2
  else s

def execWidthChange (port : Port) (width : Fin 9) (s : State) : Result := .next (widthChange port width s)

/-- L0P_PEER_REQUEST: accepted unless the width would take in a faulted or excluded lane (R256). -/
def l0pPeerRequest (port : Port) (width : Fin 9) (s : State) : State :=
  if s.link port = stL0 && s.flag PRT_PORT_STS.L0P_NEG port then
    let free := (lanesUsed width (s.flag PRT_PORT_STS.REVERSED port)).all (laneOffered s port)
    let ok := [1, 2, 4, 8].contains width.val && free && Tab.get 0 s.prt.l0p port = 0
    let s1 := s.emit (.lane port 2 (if ok then 1 else 0))
    if ok then { s1 with prt := { s1.prt with l0p := Tab.put 0 s1.prt.l0p port width } } else s1
  else s

def execL0pPeerRequest (port : Port) (width : Fin 9) (s : State) : Result := .next (l0pPeerRequest port width s)

/-- RETRAIN: in L0 it starts Recovery; at other times the write is discarded (R261). -/
def retrain (p : Path) (port : Port) (s : State) : State :=
  s.command p (prtSet port) fun s =>
    if s.link port = stL0 then s.onLink port (fun s q => s.setLink q stRecovery) else s.discard (prtSet port)

def execRetrain (p : Path) (port : Port) (s : State) : Result := .next (retrain p port s)

/-- A port held in Disabled or TEST starts again from Detect, a DN port only while its DN_PERST_N is high (R252, R261), a port of a
ganged link once neither is held (R243). -/
def restartDetect (s : State) (port : Nat) : State :=
  if s.role port = 0 || (s.linkPorts port).any (fun q => s.flag PRT_PORT_CTL.DISABLE q || s.flag PRT_PORT_CTL.TEST q) then s
  else if s.role port = 2 && !s.flag PRT_DN_TMR.PERST_OUT port then s.setLink port stOff
  else s.setLink port stDetect

/-- DISABLE: 1 takes the link to Disabled, 0 restarts it from Detect (R261). -/
def disable (p : Path) (port : Port) (on : Bool) (s : State) : State :=
  s.command p (prtSet port) fun s =>
    let s1 := s.set PRT_PORT_CTL.DISABLE port (if on then 1 else 0)
    if on then s1.onLink port (fun s q => s.linkDown q stDisabled)
    else if s.link port = stDisabled then s1.onLink port restartDetect else s1

def execDisable (p : Path) (port : Port) (on : Bool) (s : State) : Result := .next (disable p port on s)

/-- TEST: 1 takes the link down and hands the lanes to the pattern generators, 0 returns the port to Detect (R257, R261). -/
def test (p : Path) (port : Port) (on : Bool) (s : State) : State :=
  s.command p (prtSet port) fun s =>
    let s1 := s.set PRT_PORT_CTL.TEST port (if on then 1 else 0)
    if on then s1.onLink port (fun s q => s.linkDown q stTest)
    else if s.link port = stTest then s1.onLink port restartDetect else s1

def execTest (p : Path) (port : Port) (on : Bool) (s : State) : Result := .next (test p port on s)

/-- A lane is under test: its port in TEST, or it is an unused spare of a ZL port (R257). The spare of a port in another role stays at
electrical idle (R244). -/
def laneUnderTest (s : State) (n : Nat) : Bool :=
  let zl := s.role (lanePort n) == 3
  (s.flag PRT_PORT_CTL.TEST (lanePort n) && (laneIndex n != 8 || zl)) ||
    (laneIndex n == 8 && zl && !s.flag PRT_PORT_STS.SPARE_USED (lanePort n))

/-- Errors are injected on a lane under test or on one that a link in L0 uses (R258). -/
def inject (p : Path) (n action arg : Nat) (s : State) : State :=
  s.command p (prtSet (lanePort n)) fun s =>
    if laneUnderTest s n || laneInService s (lanePort n) (laneIndex n) then s.emit (.lane (lanePort n) action (64 * n + arg)) else s

/-- INJ_ONE: one transmitted bit is inverted (R258). -/
def injOne (p : Path) (n : Lane) (s : State) : State := inject p n 3 1 s
def execInjOne (p : Path) (n : Lane) (s : State) : Result := .next (injOne p n s)

/-- INJ_BURST: BURST_LEN consecutive transmitted bits are inverted (R258). -/
def injBurst (p : Path) (n : Lane) (s : State) : State := inject p n 4 (s.get PRT_PAT_CTL.BURST_LEN n) s
def execInjBurst (p : Path) (n : Lane) (s : State) : Result := .next (injBurst p n s)

/-- CHECKER_ENABLE: the counter is cleared and alignment restarts, on a lane under test; else the write is discarded and
counted (R257, R259). -/
def checkerEnable (p : Path) (n : Lane) (s : State) : State :=
  s.command p (prtSet (lanePort n)) fun s =>
    if laneUnderTest s n then
      let s1 := (s.set PRT_PAT_CTL.CHK_EN n 1).set PRT_PAT_CTL.SYNC n 0
      { s1 with prt := { s1.prt with pat := Tab.put 0 s1.prt.pat n 0 } }
    else s.discard (prtSet (lanePort n))

def execCheckerEnable (p : Path) (n : Lane) (s : State) : Result := .next (checkerEnable p n s)

/-- PATTERN_CHECKER_SYNC: SYNC is set, and the errors counted after it are added (R259). -/
def patternCheckerSync (n : Lane) (errors : BitVec 48) (s : State) : State :=
  if s.flag PRT_PAT_CTL.CHK_EN n then
    let s1 := s.set PRT_PAT_CTL.SYNC n 1
    let v := BitVec.ofNat 48 (satAdd 48 (Tab.get 0 s1.prt.pat n).toNat errors.toNat)
    { s1 with prt := { s1.prt with pat := Tab.put 0 s1.prt.pat n v } }
  else s

def execPatternCheckerSync (n : Lane) (errors : BitVec 48) (s : State) : Result := .next (patternCheckerSync n errors s)

/-- LANE_PLL_UNLOCK: CONTAINED at port scope (R260). -/
def lanePllUnlock (port : Port) (s : State) : State :=
  if s.role port = 0 then s
  else
    let s1 := (s.record (portOcc port (prtSet port) 5)).portContained port
    { s1 with prt := { s1.prt with pllOff := s1.prt.pllOff.filter (fun q => q != port.val) ++ [port.val] } }

def execLanePllUnlock (port : Port) (s : State) : Result := .next (lanePllUnlock port s)

/-- LANE_PLL_RELOCK: the port retrains from Detect (R260). -/
def lanePllRelock (port : Port) (s : State) : State :=
  { s with prt := { s.prt with pllOff := s.prt.pllOff.filter (fun q => q != port.val) } }

def execLanePllRelock (port : Port) (s : State) : Result := .next (lanePllRelock port s)

/-- The lanes that a port still does not offer once it passes Detect: those whose FAULTS have reached 3 (R255). -/
def lanesKeptOut (s : State) (p : Nat) : Nat :=
  (List.range 8).foldl (fun m k => if s.get PRT_LANE_STS.FAULTS (laneOf p k) ≥ 3 then m + 2 ^ k else m) 0

/-- A port passes Detect (R251, R255): faulted lanes are tried again, and after a link-down the cap returns to MAX_RATE. -/
def passDetect (s : State) (port : Nat) : State :=
  let out := lanesKeptOut s port
  let s1 := (s.setLink port stPolling).set PRT_PORT_STS.FAULTED port out
  let s2 := (portLanes port).foldl (fun s k =>
    s.set PRT_LANE_STS.FAULT (laneOf port k) (if k < 8 && out.testBit k then 1 else 0)) s1
  let s3 := if Tab.get false s2.prt.detect port then s2.set PRT_PORT_EVT.CAP port (s2.get PRT_PORT_CTL.MAX_RATE port) else s2
  { s3 with prt := { s3.prt with detect := Tab.put false s3.prt.detect port false } }

/-- RECEIVER_DETECT: a partner's receivers start Polling, on both ports of a ganged link together (R243, R250). -/
def receiverDetect (port : Port) (found : Bool) (s : State) : State :=
  if found && s.role port != 0 && !s.fatal &&
      (s.linkPorts port).all (fun q => s.link q == stDetect && !s.prt.pllOff.contains q) then
    s.onLink port passDetect
  else s

def execReceiverDetect (port : Port) (found : Bool) (s : State) : Result := .next (receiverDetect port found s)

/-- LINK_RECOVERY_ENTRY: the transaction timers that wait on the port pause while it is in Recovery (R145). -/
def linkRecoveryEntry (port : Port) (s : State) : State :=
  if s.link port = stL0 then s.onLink port (fun s q => s.setLink q stRecovery) else s
def execLinkRecoveryEntry (port : Port) (s : State) : Result := .next (linkRecoveryEntry port s)

/-- LINK_RECOVERY_EXIT: the link returns to L0 at its rate and width (R145), unless its width holds an excluded lane: then it comes up
at another, by LINK_UP (R254). -/
def linkRecoveryExit (port : Port) (s : State) : State :=
  if s.link port = stRecovery && widthTrains s port (s.get PRT_PORT_STS.WIDTH port) (s.flag PRT_PORT_STS.REVERSED port) then
    s.onLink port (fun s q => s.setLink q stL0)
  else s
def execLinkRecoveryExit (port : Port) (s : State) : Result := .next (linkRecoveryExit port s)

/-- The parameters of lane margining at 16, 32 and 64 GT/s, in the order of their table (R248): lanes at once, timing steps, timing
offset in % UI, independent sides, voltage steps, voltage offset in mV, independent sides, and 1 for a sample count given as a rate. -/
def marginParam (rate n : Nat) : Nat :=
  [8, 16, if rate = 5 then 30 else 40, 1, 64, if rate = 3 then 120 else if rate = 4 then 100 else 40, 1, 1].getD n 0

/-- The answer to a margining command: 0 "margining not ready", 1 a step taken or normal settings, 2 a step that is not among those
reported, 256 + v the value of a parameter. -/
def marginAnswer (rate : Nat) (c : MarginCmd) : Nat :=
  match c with
  | .param n => 256 + marginParam rate n
  | .timing _ k => if k ≤ marginParam rate 1 then 1 else 2
  | .voltage _ k => if k ≤ marginParam rate 4 then 1 else 2
  | .normal => 1

/-- LANE_MARGINING_COMMAND: performed on UP and DN ports at 16 GT/s and above by an independent sampler; a lane outside the width or
faulted is answered "margining not ready" (R248). -/
def laneMarginingCommand (port : Port) (m : Margin) (s : State) : State :=
  let rate := s.get PRT_PORT_STS.RATE port
  if (s.role port = 1 || s.role port = 2) && s.link port = stL0 && rate ≥ 3 then
    let ready := laneInService s port m.lane && !(s.get PRT_PORT_STS.FAULTED port).testBit m.lane
    s.emit (.lane port 5 (if ready then marginAnswer rate m.cmd else 0))
  else s

def execLaneMarginingCommand (port : Port) (m : Margin) (s : State) : Result := .next (laneMarginingCommand port m s)

/-- SPARE_LANE_BAD: the unused spare of a ZL port is marked, and is not swapped in (R244). -/
def spareLaneBad (port : Port) (s : State) : State :=
  if s.role port = 3 && !s.flag PRT_PORT_STS.SPARE_USED port && !s.flag PRT_PORT_STS.SPARE_BAD port then
    (s.set PRT_PORT_STS.SPARE_BAD port 1).record (portOcc port (prtSet port) 1)
  else s

def execSpareLaneBad (port : Port) (s : State) : Result := .next (spareLaneBad port s)

end Sys2Proof.Machine
end

