-- ==== Sys2Proof/Machine/FmApi.lean ====
section
/-! DEFINITION. The Fabric Manager API, open requests to binding handlers, and the dynamic-capacity events of hosts (R52, R53, R65,
R66, R368, R373). -/
namespace Sys2Proof.Machine
open Sys2Proof

/-! The binding policy (R65, R394). -/

/-- n bytes of a host's policy entry; all zero before the late sections are loaded. -/
def State.policy (s : State) (h off n : Nat) : Nat := if s.boot.late then s.sect 5 (576 * h + off) n else 0
def State.policyMode (s : State) (h m : Nat) : Bool := (s.policy h 4 1).testBit m
def State.policyPool (s : State) (h p : Nat) : Bool := (s.policy h 8 8).testBit p
def State.policyGroup (s : State) (h g : Nat) : Bool := (s.policy h (64 + g / 8) 1).testBit (g % 8)
/-- Host requests (0) or fabric manager requests (1) are accepted. -/
def State.policyTakes (s : State) (h kind : Nat) : Bool := (s.policy h 5 1).testBit kind

/-- A shelf is bound and host port h may use it (R54, R62). -/
def State.boundTo (s : State) (h x : Nat) : Bool :=
  let v := s.srec x
  (rget v rState == 1 || rget v rState == 3) &&
    (if rget v rMode == 0 then rget v rGroup % 256 == s.unit * 64 + h else s.inGroup (x % 4) (rget v rGroup) (s.unit * 64 + h))
/-- The shelves bound to a host, ascending. -/
def State.hostShelves (s : State) (h : Nat) : List Nat := (s.bnd.shelf.map (fun e => e.1)).filter (s.boundTo h)

/-- The maximal runs of a host's bound shelves with one sharing tag (R53): first shelf, count and tag. -/
def State.shelfRuns (s : State) (h : Nat) : List (Nat × Nat × Nat) :=
  (s.hostShelves h).foldr (fun x acc => match acc with
    | (f, n, g) :: rest =>
      if f = x + 1 && g == Tab.get 0 s.bnd.tag x then (x, n + 1, g) :: rest else (x, 1, Tab.get 0 s.bnd.tag x) :: acc
    | [] => [(x, 1, Tab.get 0 s.bnd.tag x)]) []

/-- A run that holds a shelf homed in a region of which a test holds. -/
def runMeets (e : Nat × Nat × Nat) (p : Nat → Bool) : Bool := (List.range (min e.2.1 4)).any (fun i => p ((e.1 + i) % 4))

/-- The extents of a host's DCD (R53): its runs, but for those that a forced release has taken from it (R470). -/
def State.extents (s : State) (h : Nat) : List (Nat × Nat × Nat) := (s.shelfRuns h).filter (fun e => !runMeets e s.windowGone)

/-- The bound that a bind of n shelves in a mode and group for host h breaks (R65, R480): 0 quota, 1 mode, 3 group. -/
def State.bindBreaks (s : State) (h n mode group : Nat) : Option Nat :=
  if (s.hostShelves h).length + n > s.policy h 0 4 then some 0
  else if !s.policyMode h mode then some 1
  else if mode != 0 && !s.policyGroup h group then some 3
  else none

/-! Open requests (R65, R368). -/

/-- A response leaves by an endpoint; over I3C it waits in the target for the BMC (R375). -/
def State.respond (s : State) (ep op code : Nat) (payload : List Nat) : State :=
  let s1 := s.emit (.response ep op code payload)
  if ep = 66 then s1.ibiPend 2 else s1

/-- What the requester is told (R368): the image and a mailbox, whose command has already returned, hear nothing. -/
def State.tell (s : State) (a : Asker) (status : Nat) : State :=
  match a with
  | .fm via op => s.respond via op (if status = 3 then 1 else status) []
  | .dcd p => s.respond (128 + p) 0 status []
  | .mailbox _ => s
  | .image _ => s

/-- A request to the binding handlers is opened (R65, R360, R368), with the shelves that it releases: the status is 0, or 4 or 5
when it was refused. -/
def State.openRequest (s : State) (a : Asker) (host bit : Nat) (args : List Nat) (shelves : List Nat := []) : State × Nat :=
  match s.handlerOf s.lead bit with
  | none => (s, 5)
  | some t =>
    let h := s.lib.handles + 1
    let (s1, st) := s.postHosted t bit (h :: args)
    if st = 0 then
      let wait := if bit = 0 then s.sect 1 (3072 + 12) 4 + 1000 else 1000
      let q : OpenReq := ⟨h, a, host, t, s.timeOf s.lead + wait * 1000000, shelves⟩
      ({ s1 with lib := { s1.lib with handles := h, opens := s1.lib.opens ++ [q] } }, 0)
    else (s1, st)

/-- ARG1 of BIND_REQ and RELEASE_REQ: source, host unit and port (R360). -/
def State.reqSource (s : State) (src h : Nat) : Nat := src + (s.unit * 64 + h) * 4

/-- A bind request of a source (0 FM API, 1 host) for a host (R65): refused by policy, or posted to the binding handler. -/
def State.bindRequest (s : State) (a : Asker) (src h n mode gclass group tag : Nat) : State × Nat :=
  let bound := if !s.policyTakes h (1 - src) then some 4 else s.bindBreaks h n mode group
  match bound with
  | some b =>
    let s1 := { s with lib := { s.lib with handles := s.lib.handles + 1 } }
    (s1.archive s.lead 0x311 0 0 s1.lib.handles b 2, 3)
  | none => s.openRequest a h 0 [s.reqSource src h, n, mode + gclass * 4 + group * 32, tag]

/-- A release request for a run of shelves bound to a host (R65). -/
def State.releaseRequest (s : State) (a : Asker) (src h x n : Nat) : State × Nat :=
  if n = 0 || !(List.range n).all (fun i => s.boundTo h (x + i)) then (s, 1)
  else if !s.policyTakes h (1 - src) then
    let s1 := { s with lib := { s.lib with handles := s.lib.handles + 1 } }
    (s1.archive s.lead 0x311 0 0 s1.lib.handles 4 2, 3)
  else s.openRequest a h 1 [s.reqSource src h, x, n] ((List.range n).map (fun i => x + i))

/-! Commands of the FM API (R373). -/

def fmEndpoint : FmVia → Nat
  | .vdm => 65
  | .i3c => 66

/-- An UP port of the plan: a virtual CXL switch with a host. -/
def State.isUp (s : State) (p : Nat) : Bool := s.role p == 1
/-- A logical device below a DN port that the port plan marks FM-bindable (R390). -/
def State.fmBindable (s : State) (p ld : Nat) : Bool := s.role p == 2 && (s.plan p 96 16).testBit ld

/-- What a port's state reads for Get Physical Port State. -/
def State.portState (s : State) (p : Nat) : List Nat :=
  [p, s.role p, s.get PRT_PORT_STS.STATE p, s.get PRT_PORT_STS.RATE p, s.get PRT_PORT_STS.WIDTH p]

/-- Physical Port Control of CXL: 0 asserts and 1 deasserts the device's reset, 2 resets the PPB's link. -/
def State.portControl (s : State) (p op : Nat) : State :=
  if op = 0 then s.dnPerstLow p
  else if op = 1 then (if s.flag PRT_DN_TMR.PERST_OUT p || s.fatal then s else (s.set PRT_DN_TMR.PERST_OUT p 1).setLink p stDetect)
  else (s.linkPorts p).foldl (fun s q => s.linkDown q stDetect) s

/-- The return code and payload of a command that ends at once, with its effect. -/
def State.fmRun (s : State) (op : FmOp) : State × Nat × List Nat :=
  match op with
  | .identify =>
    let ups := (List.range 64).filter s.isUp
    (s, 0, [s.managerPort.getD 64, ((List.range 64).filter (fun p => s.role p != 0)).length, ups.length] ++ (List.range 64).filter s.inL0)
  | .portState ports => (s, 0, ports.flatMap (fun p => s.portState p.val))
  | .portControl p o =>
    if s.role p == 2 && s.plan p 13 1 == 1 && o < 3 then (s.portControl p o, 0, []) else (s, 1, [])
  | .ppbConfig p write reg data =>
    if s.role p == 0 then (s, 1, [])
    else
      let s1 := s.emit (.forward p 0 3 [if write then 1 else 0, reg, data.toNat])
      if write then (s1, 0, []) else ({ s1 with free := s1.free + 1 }, 0, [Config.freeValue s1.free % 2 ^ 32])
  | .vcsInfo vcs => (s, 0, vcs.flatMap (fun v => (s.lib.vppb.filter (fun e => e.1 == v.val)).flatMap (fun e => [e.1, e.2.1, e.2.2.1, e.2.2.2])))
  | .bindVppb v b p ld =>
    if s.isUp v && s.fmBindable p ld && !s.lib.vppb.any (fun e => (e.1 == v.val && e.2.1 == b) || (e.2.2.1 == p.val && e.2.2.2 == ld.val)) then
      ({ s with lib := { s.lib with vppb := s.lib.vppb ++ [(v.val, b, p.val, ld.val)] } }, 0, [])
    else (s, 1, [])
  | .unbindVppb v b =>
    match s.lib.vppb.find? (fun e => e.1 == v.val && e.2.1 == b) with
    | some e =>
      if s.fmBindable e.2.2.1 e.2.2.2 then ({ s with lib := { s.lib with vppb := s.lib.vppb.filter (fun x => x != e) } }, 0, [])
      else (s, 1, [])
    | none => (s, 1, [])
  | .aerEvent v b => if s.isUp v then (s.emit (.forward v b 4 []), 0, []) else (s, 1, [])
  | .tunnel p payload =>
    if s.role p == 2 then (s.emit (.forward p 0 0 (payload.map BitVec.toNat)), 0, []) else (s, 1, [])
  | .ldConfig p ld write reg data =>
    if s.role p == 2 then (s.emit (.forward p ld 1 [if write then 1 else 0, reg, data.toNat]), 0, []) else (s, 1, [])
  | .ldMemory p ld write addr data =>
    if s.role p == 2 then (s.emit (.forward p ld 2 ([if write then 1 else 0, addr] ++ data.map BitVec.toNat)), 0, []) else (s, 1, [])
  | .dcdInfo => (s, 0, [1, ((List.range 64).filter s.isUp).length, 2 ^ 28])
  | .dcRegion h => if s.isUp h then (s, 0, [0, 2 ^ 48, 2 ^ 28]) else (s, 1, [])
  | .extents h => if s.isUp h then (s, 0, (s.extents h).flatMap (fun e => [e.1 * 2 ^ 28, e.2.1 * 2 ^ 28, e.2.2])) else (s, 1, [])
  | .dcAdd _ _ _ _ _ _ => (s, 1, [])
  | .dcRelease _ _ _ => (s, 1, [])
  | .setRegion => (s, 2, [])

/-- Perform one command: a bind or release is left to the handlers and answered with their REPLY; a refused one is answered now. -/
def State.fmPerform (s : State) (via : FmVia) (op : FmOp) : State :=
  let ep := fmEndpoint via
  let code := op.ctorIdx
  let early (x : State × Nat) : State := if x.2 = 0 then x.1 else x.1.tell (.fm ep code) x.2
  match op with
  | .dcAdd h n mode gclass group tag =>
    if s.isUp h && mode.val < 3 && 0 < n then early (s.bindRequest (.fm ep code) 0 h n mode gclass group.toNat tag.toNat)
    else s.respond ep code 1 []
  | .dcRelease h x n => if s.isUp h then early (s.releaseRequest (.fm ep code) 0 h x.toNat n) else s.respond ep code 1 []
  | o =>
    let x := s.fmRun o
    x.1.respond ep code x.2.1 x.2.2

/-- An FM API command is being decided by a handler. -/
def State.fmBusy (s : State) : Bool := s.lib.opens.any (fun (q : OpenReq) => match q.asker with
  | .fm _ _ => true
  | _ => false)

/-- The commands that waited are performed in order, until one is left to a handler (R373). -/
def State.fmDrain (s : State) : List (FmVia × FmOp) → State
  | [] => { s with lib := { s.lib with fm := [] } }
  | (via, op) :: rest =>
    if s.fmBusy then { s with lib := { s.lib with fm := (via, op) :: rest } }
    else (s.fmPerform via op).fmDrain rest

/-- An open request is answered and closed; the FM API goes on (R368, R373). -/
def State.closeReq (s : State) (q : OpenReq) (status : Nat) : State :=
  let s1 := { s with lib := { s.lib with opens := s.lib.opens.filter (fun x => x != q)
                                         heldReply := s.lib.heldReply.filter (fun x => x.1 != q.handle) } }.tell q.asker status
  s1.fmDrain s1.lib.fm

/-! Barriers that firmware waits for (R66, R71, R72). -/

/-- What must end before the release or rebind of a shelf is reported done (R71, R72): its binding barrier; and for a released shelf
the back-invalidation of its lines and step 4, after which the Granary and its buffers hold none of them. -/
def State.reportWaits (s : State) (x : Nat) : Bool :=
  s.bnd.owed.any (fun o => o.1 == x) || s.cat.inval.contains x ||
    (rget (s.srec x) rState == 2 && (s.shelfBlocks x != 0 || s.grn.wbuf.any (fun e => shelfOf e.block == x)))

/-- Firmware starts a binding barrier by itself, while a slot of the region is free. -/
def State.fwBarrier (s : State) (r : Nat) (all : Bool) (x : Nat) : State :=
  if s.windowGone r then s
  else
    let s1 := barStart s r 0 all x
    if s1.get BND_BAR_CMD.RESULT r = 1 then s
    else { s1 with bnd := { s1.bnd with fwBar := s1.bnd.fwBar ++ [(r, s1.get BND_BAR_CMD.SLOT r)] } }

/-- The shelves of an add, and of the replies that wait. -/
def AddPend.shelves (a : AddPend) : List Nat := (List.range a.count).map (fun i => a.shelf + i)
def State.replyShelves (s : State) : List Nat :=
  (s.lib.opens.filter (fun (q : OpenReq) => s.lib.heldReply.any (fun (h : Nat × Nat) => h.1 == q.handle))).flatMap (fun q => q.shelves)

/-- The barriers that firmware still needs are started: with scope ALL for the regions of adds (R66), and of the shelf for releases and
rebinds that are to be reported (R71). -/
def State.wantBarriers (s : State) : State :=
  let adds := (s.bnd.addWait.flatMap AddPend.shelves).filter (fun x => s.bnd.owedAll.contains x &&
    !s.bnd.bar.any (fun b => b.2.coversAll.contains x))
  let s1 := ((adds.map (fun x => x % 4)).dedup).foldl (fun s r => s.fwBarrier r true 0) s
  let outs := ((s1.replyShelves ++ s1.bnd.taken).dedup).filter (fun x => s1.bnd.owed.any (fun o => o.1 == x &&
    !s1.bnd.bar.any (fun b => b.2.covers.contains o)))
  outs.foldl (fun s x => s.fwBarrier (x % 4) false x) s1

/-- Adds whose shelves no barrier is owed for are posted to their hosts (R66 step 3). -/
def State.postAdds (s : State) : State :=
  let ready (a : AddPend) : Bool := !a.shelves.any (fun x => s.bnd.owedAll.contains x)
  (s.bnd.addWait.filter ready).foldl (fun s a => s.emit (.dcdEvent a.port 0 a.shelf a.count))
    { s with bnd := { s.bnd with addWait := s.bnd.addWait.filter (fun a => !ready a), adds := s.bnd.adds ++ s.bnd.addWait.filter ready } }

/-- Replies whose shelves wait for nothing more are given (R71, R72 step 5). -/
def State.giveReplies (s : State) : State :=
  (s.lib.opens.filter (fun (q : OpenReq) => !q.shelves.any s.reportWaits)).foldl (fun s q =>
    match s.lib.heldReply.find? (fun (h : Nat × Nat) => h.1 == q.handle) with
    | some h => s.closeReq q h.2
    | none => s) s

/-- A request is answered: a release or rebind as done only when its barrier is over (R71). -/
def State.answerReq (s : State) (q : OpenReq) (status : Nat) : State :=
  if status = 0 && q.shelves.any s.reportWaits then
    { s with lib := { s.lib with heldReply := s.lib.heldReply.filter (fun (h : Nat × Nat) => h.1 != q.handle) ++ [(q.handle, 0)] } }.wantBarriers
  else s.closeReq q status

/-- A command arrives at the lead core: performed in order of arrival, or answered with Busy while 16 are queued (R373). A core that
does not run loses it (R353), and the manager port discards it before ready (R382). -/
def fmCommand (via : FmVia) (op : FmOp) (s : State) : State :=
  if !s.leadRuns || (via == .vdm && !s.flag SEC_BOOT_STS.READY 0) || (via == .vdm && !(match s.managerPort with | some p => s.inL0 p | none => false)) then s
  else if s.fmBusy then
    if s.lib.fm.length ≥ 16 then s.respond (fmEndpoint via) op.ctorIdx 4 []
    else { s with lib := { s.lib with fm := s.lib.fm ++ [(via, op)] } }
  else s.fmPerform via op

def execIdentifySwitchDevice (via : FmVia) (s : State) : Result := .next (fmCommand via .identify s)
def execGetPhysicalPortState (via : FmVia) (ports : List Port) (s : State) : Result := .next (fmCommand via (.portState ports) s)
def execPhysicalPortControl (via : FmVia) (port : Port) (op : Nat) (s : State) : Result := .next (fmCommand via (.portControl port op) s)
def execSendPpbCxlioConfigRequest (via : FmVia) (port : Port) (write : Bool) (reg : Nat) (data : Word) (s : State) : Result :=
  .next (fmCommand via (.ppbConfig port write reg data) s)
def execGetVirtualCxlSwitchInfo (via : FmVia) (vcs : List Port) (s : State) : Result := .next (fmCommand via (.vcsInfo vcs) s)
def execBindVppb (via : FmVia) (vcs : Port) (vppb : Nat) (port : Port) (ld : Fin 16) (s : State) : Result :=
  .next (fmCommand via (.bindVppb vcs vppb port ld) s)
def execUnbindVppb (via : FmVia) (vcs : Port) (vppb : Nat) (s : State) : Result := .next (fmCommand via (.unbindVppb vcs vppb) s)
def execGenerateAerEvent (via : FmVia) (vcs : Port) (vppb : Nat) (s : State) : Result := .next (fmCommand via (.aerEvent vcs vppb) s)
def execTunnelManagementCommand (via : FmVia) (port : Port) (payload : List Byte) (s : State) : Result :=
  .next (fmCommand via (.tunnel port payload) s)
def execSendLdCxlioConfigRequest (via : FmVia) (port : Port) (ld : Fin 16) (write : Bool) (reg : Nat) (data : Word) (s : State) : Result :=
  .next (fmCommand via (.ldConfig port ld write reg data) s)
def execSendLdCxlioMemoryRequest (via : FmVia) (port : Port) (ld : Fin 16) (write : Bool) (addr : Nat) (data : List Byte) (s : State) :
    Result := .next (fmCommand via (.ldMemory port ld write addr data) s)
def execGetDcdInfo (via : FmVia) (s : State) : Result := .next (fmCommand via .dcdInfo s)
def execGetHostDcRegionConfiguration (via : FmVia) (host : Port) (s : State) : Result := .next (fmCommand via (.dcRegion host) s)
def execGetDcRegionExtentLists (via : FmVia) (host : Port) (s : State) : Result := .next (fmCommand via (.extents host) s)
def execInitiateDynamicCapacityAdd (via : FmVia) (host : Port) (shelves : Nat) (mode : Fin 4) (gclass : Fin 8) (group : BitVec 12) (tag : Word)
    (s : State) : Result := .next (fmCommand via (.dcAdd host shelves mode gclass group tag) s)
def execInitiateDynamicCapacityRelease (via : FmVia) (host : Port) (shelf : Shelf) (count : Nat) (s : State) : Result :=
  .next (fmCommand via (.dcRelease host shelf count) s)
def execSetDcRegionConfiguration (via : FmVia) (s : State) : Result := .next (fmCommand via .setRegion s)

/-! The virtual DCD of a host (R65, R66). -/

/-- RELEASE_DYNAMIC_CAPACITY: a host's release request goes to the release handler (R65). -/
def releaseDynamicCapacity (port : Port) (shelf : Shelf) (count : Nat) (s : State) : State :=
  if s.leadRuns && s.isUp port then
    let x := s.releaseRequest (.dcd port) 1 port shelf.toNat count
    if x.2 = 0 then x.1 else x.1.tell (.dcd port) x.2
  else s
def execReleaseDynamicCapacity (port : Port) (shelf : Shelf) (count : Nat) (s : State) : Result :=
  .next (releaseDynamicCapacity port shelf count s)

/-- Firmware takes an added shelf back from a host that did not accept it (R66): a further host of a shared extent leaves its group
by a group write, any other shelf is written RELEASING, once no older epoch remains (R68). -/
def State.takeShelf (s : State) (h tag x : Nat) : State :=
  let v := s.srec x
  let g := rget v rGroup
  let b : BitVec 256 := Tab.get 0 s.bnd.group (4096 * (x % 4) + g)
  let me := s.unit * 64 + h
  if !s.boundTo h x then s
  else if tag != 0 && rget v rMode != 0 && putBits b me 1 0 != 0 then s.putGroup g (putBits b me 1 0)
  else
    let n := rput v rState 2
    let res := srecResult s (x % 4) x n
    if res = 0 then
      let s1 := s.srecCommit x n
      { s1 with bnd := { s1.bnd with taken := s1.bnd.taken.filter (fun y => y != x) ++ [x] } }
    else if res = 4 then { s with bnd := { s.bnd with toRelease := s.bnd.toRelease ++ [(h, tag, x)] } }
    else s

/-- Firmware goes on with what waits for barriers: shelves that it could not yet release, the barriers that it needs, adds, and
replies (R66, R68, R71, R72). -/
def State.bindStep (s : State) : State :=
  let s1 := s.bnd.toRelease.foldl (fun s e => s.takeShelf e.1 e.2.1 e.2.2) { s with bnd := { s.bnd with toRelease := [] } }
  let s2 := { s1 with bnd := { s1.bnd with taken := s1.bnd.taken.filter (fun x => s1.bnd.owed.any (fun o => o.1 == x)) } }
  s2.wantBarriers.postAdds.giveReplies

def execBarrierComplete (r : Region) (k : Fin 16) (s : State) : Result := .next (barrierComplete r k s).bindStep

def execBarrierTimeout (r : Region) (k : Fin 16) (s : State) : Result := .next (barrierTimeout r k s).bindStep

/-- An Add Capacity event ends (R66): ADD_RESP goes to the handler with 0 accepted, 1 declined or 2 add timeout, and the shelves of an
extent that was not accepted are released. -/
def addEnds (port : Port) (why : Nat) (s : State) : State :=
  match s.bnd.adds.find? (fun (a : AddPend) => a.port == port.val) with
  | none => s
  | some a =>
    let s1 := { s with bnd := { s.bnd with adds := s.bnd.adds.erase a } }
    let s2 := if why = 0 then s1 else (List.range a.count).foldl (fun s i => s.takeShelf a.port a.tag (a.shelf + i)) s1
    let s3 := s2.wantBarriers
    match s3.handlerOf s3.lead 2 with
    | some t => (s3.postHosted t 2 [a.handle, s3.unit * 64 + a.port, a.tag, why]).1
    | none => s3

/-- ADD_DC_RESPONSE: the host answers its oldest Add Capacity event (R66). -/
def addDcResponse (port : Port) (accept : Bool) (s : State) : State := addEnds port (if accept then 0 else 1) s
def execAddDcResponse (port : Port) (accept : Bool) (s : State) : Result := .next (addDcResponse port accept s)

/-- ADD_TIMEOUT: no answer within the add timeout (R66). -/
def addTimeout (port : Port) (s : State) : State := addEnds port 2 s
def execAddTimeout (port : Port) (s : State) : Result := .next (addTimeout port s)

/-- REQUEST_DEADLINE: no REPLY by the deadline is INTERNAL (R368). -/
def requestDeadline (handle : Nat) (s : State) : State :=
  match s.lib.opens.find? (fun (q : OpenReq) => q.handle == handle) with
  | some q => s.answerReq q 5
  | none => s
def execRequestDeadline (handle : Nat) (s : State) : Result := .next (requestDeadline handle s)

end Sys2Proof.Machine
end

