-- ==== Sys2Proof/Machine/Slots.lean ====
section
/-! DEFINITION. The commands of slot power (chapter Slot Power). -/
namespace Sys2Proof.Machine
open Sys2Proof

/-- A channel's own values. -/
def State.chan (s : State) (c : Nat) : SlotChan := Tab.get {} s.spw.chan c
/-- Replace them. -/
def State.setChan (s : State) (c : Nat) (v : SlotChan) : State :=
  { s with spw := { s.spw with chan := Tab.put {} s.spw.chan c v } }

/-- Channel states of R418. -/
def spDisabled : Nat := 0
def spEmpty : Nat := 1
def spDebounce : Nat := 2
def spReady : Nat := 3
def spPrecheck : Nat := 4
def spRamp : Nat := 5
def spOn : Nat := 6
def spCool : Nat := 7
def spLatched : Nat := 8

/-- A channel's state. -/
def State.sp (s : State) (c : Nat) : Nat := s.get SPW_STS.STATE c
/-- Set it. -/
def State.setSp (s : State) (c st : Nat) : State := s.set SPW_STS.STATE c st
/-- The gate is driven in RAMP and ON (R418). -/
def State.driven (s : State) (c : Nat) : Bool := s.sp c == spRamp || s.sp c == spOn
/-- PRECHECK, RAMP or ON. -/
def State.active (s : State) (c : Nat) : Bool := s.sp c == spPrecheck || s.driven c
/-- Class F channels are SP28–SP31 (R414). -/
def classF (c : Nat) : Bool := c ≥ 28
/-- New starts and retries are permitted while neither PERST_N nor WARM_RST_N is asserted (R432). -/
def State.startsPermitted (s : State) : Bool := s.boot.perst && s.boot.warm && s.boot.down == 0
/-- The channel's slot-power tiller is stopped (R366). -/
def State.slotTillerStopped (s : State) (c : Nat) : Bool :=
  s.get TIL_STS.STATE (193 + c) == 0 || s.get TIL_STS.STATE (193 + c) == 3

/-- Power-good is withdrawn: PG_DOWN is posted, and the named port's DN_PERST_N and link fall (R252, R425). -/
def pgDown (s : State) (c : Nat) : State :=
  if s.flag SPW_STS.PG c then
    let s1 := (s.set SPW_STS.PG c 0).slotEvent c 3
    match s1.slotPort c with
    | some p => (s1.portEvent p 6).dnPerstLow p
    | none => s1
  else s

/-- The gate is pulled and the channel enters a state that holds it low: limit and timer end (R418). -/
def gateOff (s : State) (c st : Nat) : State :=
  let s1 := (((pgDown s c).set SPW_STS.LIMIT c 0).set SPW_STS.TMR_RUN c 0).setSp c st
  s1.setChan c { s1.chan c with below := 0 }

/-- An occurrence of an SPW_ error with its port as scope, contained at port scope where a port names the channel (R433). -/
def spwError (s : State) (c bit arg1 : Nat) : State :=
  match s.slotPort c with
  | some p =>
    let s1 := s.record (portOcc p setSpw bit arg1)
    if classOf setSpw bit = 2 then s1.portContained p else s1
  | none => s.record (occ setSpw bit 0 0 arg1)

/-- A stop of causes 1 to 8 or 12 (R424, R428, R433): power-good withdrawn, SPW_TRIP written, the error raised, TRIP posted, and the
channel cools for 99 times its on-time or latches. -/
def trip (s : State) (c cause : Nat) : State :=
  let ch := s.chan c
  let drove := if s.driven c then ch.onUs else 0
  let on := min drove (2 ^ 24 - 1)
  let latch := cause = 7 || cause = 8 || cause = 12 || classF c ||
    (s.get SPW_CFG2.RETRIES c != 255 && s.get SPW_STS.TRIPS c ≥ s.get SPW_CFG2.RETRIES c)
  let s1 := gateOff s c (if latch then spLatched else spCool)
  let s2 := s1.setChan c { s1.chan c with offUs := max 10000 (99 * min drove 100000) }
  let s3 := ((((s2.set SPW_STS.CAUSE c cause).bump SPW_STS.TRIPS c 1).set SPW_TRIP.ON_US c on).set SPW_TRIP.CAUSE c cause)
  let s4 := (spwError s3 c (if cause = 7 then 2 else if cause = 8 then 3 else if cause = 12 then 7 else 0) (on + 2 ^ 24 * cause)).slotEvent c 4
  let s5 := s4.countChip 0x41 c 1
  if latch then
    let s6 := if cause = 7 || cause = 8 || cause = 12 then s5 else spwError s5 c 1 0
    s6.slotEvent c 5
  else s5

/-- A turn-off that is no trip, into READY (R418, R431). -/
def turnOff (s : State) (c cause : Nat) : State := (gateOff s c spReady).set SPW_STS.CAUSE c cause

/-- The corrected sense voltage in µV (R415). -/
def State.senseUv (s : State) (c : Nat) (raw : Int) : Int :=
  (raw - signedOf 16 (s.get SPW_CAL0.SENSE_OFS c)) * (1000000 + signedOf 16 (s.get SPW_CAL0.SENSE_GAIN c)) / 1000000

/-- One step of the thermal model (R417): each pole in µK, from the dissipation in mW. -/
def soaStep (s : State) (c : Nat) (mw : Int) (theta : List Int) : List Int :=
  theta.zipIdx.map (fun e =>
    e.1 + (mw * s.get SPW_SOA.RTH (4 * c + e.2) - e.1) / (10 * max 1 (s.get SPW_SOA.TAU (4 * c + e.2)) : Nat))

/-- T_BASE in °C: the diode at the start of gate drive, or AMB without a diode (R417). -/
def State.tBase (s : State) (c : Nat) : Nat :=
  if s.flag SPW_CFG0.DIODE c then (s.chan c).tBase else s.get SPW_SOA_AMB.AMB c

/-- T_MODEL in °C (R417). -/
def State.tModel (s : State) (c : Nat) (theta : List Int) : Nat :=
  min 255 ((s.tBase c : Int) + theta.foldl (fun a b => a + b) 0 / 1000000).toNat

/-- The readings are stored, with their extremes, and the thermal model moves (R415, R417, R486). -/
def slotMeasure (s : State) (c : Nat) (v : SlotReading) : State :=
  let uv := s.senseUv c v.sense
  let uohm := max 1 (s.get SPW_CFG0.SENSE_UOHM c)
  let cur := (uv * 100 / (uohm : Int)).toNat
  let ma := uv * 1000 / (uohm : Int)
  let vds := (v.vBus : Int) - uv / 1000 - v.vOut
  let ch := s.chan c
  let th := soaStep s c (vds * ma / 1000) ch.theta
  let below := if uv * 100 < 95 * (100 * s.get SPW_CFG0.THRESH c : Nat) then ch.below + 1 else 0
  let s1 := s.setChan c { ch with theta := th, below := below, onUs := if s.driven c then ch.onUs + 1 else ch.onUs }
  let t := s1.tModel c th
  let s2 := (((s1.set SPW_MEAS0.CURRENT c (min cur 65535)).set SPW_MEAS0.V_OUT c (min (v.vOut / 10) 4095)).set
    SPW_MEAS1.V_BUS c (min (v.vBus / 10) 4095)).set SPW_MEAS1.T_MODEL c t
  let fet := if s.flag SPW_CFG0.DIODE c then s.get SPW_MEAS1.T_DIODE c else t
  ((s2.extreme 4 (8 + c) (v.vBus / 10 : Nat) true).extreme 4 (40 + c) cur false).extreme 4 (72 + c) fet false

/-- Gate drive starts (R417, R418): the on-time restarts, and with a diode T_BASE is its reading and the poles clear. -/
def driveStarts (s : State) (c : Nat) : State :=
  let ch := s.chan c
  let ch1 := { ch with onUs := 0, below := 0 }
  let ch2 := if s.flag SPW_CFG0.DIODE c then
      { ch1 with tBase := s.get SPW_MEAS1.T_DIODE c, theta := [0, 0, 0, 0] } else ch1
  (s.setSp c spRamp).setChan c ch2

/-- Step 6 of R426: limit entry withdraws power-good and starts the timer; 10 µs below 95 % of THRESH ends it (R421). -/
def limitStep (s : State) (c : Nat) (limiting : Bool) : State :=
  if limiting && !s.flag SPW_STS.LIMIT c then
    ((pgDown s c).set SPW_STS.LIMIT c 1).set SPW_STS.TMR_RUN c 1
  else if !limiting && s.flag SPW_STS.LIMIT c && (s.chan c).below ≥ 10 then
    (s.set SPW_STS.LIMIT c 0).set SPW_STS.TMR_RUN c 0
  else s

/-- Step 11 of R426: V_BUS below WARN sets the chip's warning flag: a new event is reported and posted to every slot tiller,
or the event within HOLD_MS is repeated (R430). -/
def busWarn (s : State) (c vBus : Nat) : State :=
  if vBus / 10 < s.get SPW_BUS_CTL.WARN 0 && !s.flag SPW_BUS_STS.WARN 0 then
    let s1 := s.settleShapers.set SPW_BUS_STS.WARN 0 1
    let again := match s.spw.cleared with
      | none => false
      | some t => s.timeOf 4 - t < s.get SPW_BUS_CTL.HOLD_MS 0 * 10 ^ 6
    if again then s1.bump SPW_BUS_STS.REPEAT 0 1
    else
      let s2 := ((s1.set SPW_BUS_STS.REPEAT 0 0).bump SPW_BUS_STS.EVENTS 0 1)
      let s3 := (spwError s2 c 5 0).archive 4 0x31A 0 0 c (vBus / 10)
      (List.range 32).foldl (fun s k => s.postEvent (193 + k) 6) s3
  else s

/-- SPW_BUS_STS.BUS_OFF shows whether any channel is off with cause BUS_OFF (R434). -/
def State.showBusOff (s : State) : State :=
  s.set SPW_BUS_STS.BUS_OFF 0 (if (List.range 32).any (fun c => (s.chan c).busOff) then 1 else 0)
/-- A channel is no longer off with cause BUS_OFF. -/
def State.busOffEnds (s : State) (c : Nat) : State := (s.setChan c { s.chan c with busOff := false }).showBusOff

/-- The checks of R426 that a conversion decides, in their order, the first trip ending the channel's edge. -/
def slotChecks (s : State) (c : Nat) (v : SlotReading) : State :=
  let hot := s.get SPW_CFG2.TRIP_C c
  if s.driven c && (v.bad || v.vBus > 18000) then trip s c 6
  else if s.active c && v.vBus / 10 < s.get SPW_BUS_CTL.OFF_LVL 0 then
    let s1 := spwError (turnOff s c 9) c 4 0
    (s1.setChan c { s1.chan c with busOff := true }).showBusOff
  else if s.driven c && s.flag SPW_CFG0.DIODE c && s.get SPW_MEAS1.T_DIODE c ≥ hot then trip s c 4
  else if s.driven c && s.get SPW_MEAS1.T_MODEL c ≥ hot then trip s c 5
  else
    let s1 := if s.driven c && !classF c then limitStep s c v.limiting else s
    if s1.sp c = spPrecheck then (if v.vOut * 10 < v.vBus then driveStarts s1 c else s1)
    else if s1.flag SPW_STS.PG c && v.vOut * 100 < v.vBus * 90 then pgDown s1 c
    else s1

/-- SLOT_CONVERSION: an enabled channel's readings, its checks, and the bus warning (R415, R426, R430). A parity error of its settings
turns it off and latches it (R433). -/
def slotConversion (c : Slot) (v : SlotReading) (s : State) : State :=
  if !s.flag SPW_CFG0.EN c then s
  else if v.parity && s.sp c != spDisabled && s.sp c != spLatched then trip s c 12
  else
    let s1 := if s.sp c = spOn then (slotMeasure s c v).countChip 0x40 c 1 else slotMeasure s c v
    busWarn (slotChecks s1 c v) c v.vBus

def execSlotConversion (c : Slot) (v : SlotReading) (s : State) : Result := .next (slotConversion c v s)

/-- DIODE_MEASURE: T = ΔV q / (n k ln 16) in °C, with q / (k ln 16) = 4,185.43 K/V (R416). A bad reading trips a channel that drives its
gate with MEAS_RANGE (R43, R415). -/
def diodeMeasure (c : Slot) (v : DiodeReading) (s : State) : State :=
  if !s.flag SPW_CFG0.DIODE c then s
  else if v.bad then (if s.driven c then trip s c 6 else s)
  else
    let mk := v.dv * 418543 / (10 * max 1 (s.get SPW_CAL1.DIODE_N c))
    s.set SPW_MEAS1.T_DIODE c (min 254 ((mk - 273150) / 1000))

def execDiodeMeasure (c : Slot) (dv : DiodeReading) (s : State) : Result := .next (diodeMeasure c dv s)

/-- A latch that only a chip reset leaves (R427, R429). -/
def State.damaged (s : State) (c : Nat) : Bool :=
  s.sp c == spLatched && (s.get SPW_STS.CAUSE c == 7 || s.get SPW_STS.CAUSE c == 8)

/-- SLOT_INSERT: with both pins low an EMPTY channel enters DEBOUNCE; PRSNT_S_N low alone is SPW_PRSNT_BAD (R418, R419). -/
def slotInsert (c : Slot) (long : Bool) (s : State) : State :=
  let s1 := (s.set SPW_STS.PRSNT_S c 1).set SPW_STS.PRSNT_L c (if long then 1 else 0)
  if !long then spwError s1 c 6 0
  else if s1.sp c = spEmpty then s1.setSp c spDebounce
  else s1

def execSlotInsert (c : Slot) (long : Bool) (s : State) : Result := .next (slotInsert c long s)

/-- SLOT_REMOVAL: the gate is pulled, power-good withdrawn, REMOVED posted, and the channel is EMPTY with its trip count at
0; a damaged latch stays (R419, R428). -/
def slotRemoval (c : Slot) (long : Bool) (s : State) : State :=
  let s1 := (s.set SPW_STS.PRSNT_S c 0).set SPW_STS.PRSNT_L c (if long then 1 else 0)
  if s1.sp c = spDisabled || s1.sp c = spEmpty then s1
  else if s1.damaged c then s1.slotEvent c 1
  else
    let s2 := if s1.active c then s1.set SPW_STS.CAUSE c 10 else s1
    let s3 := ((gateOff s2 c spEmpty).set SPW_STS.TRIPS c 0).slotEvent c 1
    if (s3.chan c).busOff then s3.busOffEnds c else s3

def execSlotRemoval (c : Slot) (long : Bool) (s : State) : Result := .next (slotRemoval c long s)

/-- The RESULT of START in each state (R420). -/
def State.startResult (s : State) (c : Nat) : Nat :=
  match s.sp c with
  | 0 => 5
  | 1 => 1
  | 2 => 1
  | 3 => if s.startsPermitted then 0 else 4
  | 7 => 2
  | 8 => 3
  | _ => 7

/-- SLOT_START: a READY channel goes to PRECHECK while new starts are permitted, else RESULT says why not (R420). -/
def slotStart (c : Slot) (s : State) : State :=
  let res := s.startResult c
  let s1 := s.set SPW_CMD.RESULT c res
  if res = 0 then
    let s2 := s1.setSp c spPrecheck
    if (s2.chan c).busOff then s2.busOffEnds c else s2
  else s1

def execSlotStart (p : Path) (c : Slot) (s : State) : Result := .next (s.command p setSpw (slotStart c))

/-- The built-in slot program writes START when PRESENT is posted, and at its own start, where it finds the channel READY (R420). -/
def builtInStart (c : Slot) (s : State) : State :=
  if (s.tiller (193 + c)).script0 && !s.slotTillerStopped c && s.sp c == spReady then slotStart c s else s

/-- DEBOUNCE_END: both pins still low, the channel is READY and PRESENT is posted, which the built-in program answers with START (R418–R420).
-/
def debounceEnd (c : Slot) (s : State) : State :=
  if s.sp c = spDebounce && s.flag SPW_STS.PRSNT_S c && s.flag SPW_STS.PRSNT_L c then
    builtInStart c ((s.setSp c spReady).slotEvent c 0)
  else s

def execDebounceEnd (c : Slot) (s : State) : Result := .next (debounceEnd c s)

/-- SLOT_OFF: PRECHECK, RAMP and ON go to READY with cause OFF_CMD; elsewhere NOT_APPLICABLE (R418, R420). -/
def slotOff (c : Slot) (s : State) : State :=
  if s.active c then (turnOff s c 11).set SPW_CMD.RESULT c 0 else s.set SPW_CMD.RESULT c 7

def execSlotOff (p : Path) (c : Slot) (s : State) : Result := .next (s.command p setSpw (slotOff c))

/-- SLOT_CLEAR: a latch is released into READY with its trip count at 0; DAMAGED for a damaged FET, and NOT_APPLICABLE in
every other state (R420, R429). -/
def slotClear (c : Slot) (s : State) : State :=
  if s.sp c != spLatched then s.set SPW_CMD.RESULT c 7
  else if s.damaged c then s.set SPW_CMD.RESULT c 6
  else ((s.setSp c spReady).set SPW_STS.TRIPS c 0).set SPW_CMD.RESULT c 0

def execSlotClear (p : Path) (c : Slot) (s : State) : Result := .next (s.command p setSpw (slotClear c))

/-- PRECHECK_TIMEOUT: the channel latches with cause FET_SHORT (R418, R427). -/
def precheckTimeout (c : Slot) (s : State) : State := if s.sp c = spPrecheck then trip s c 8 else s

def execPrecheckTimeout (c : Slot) (s : State) : Result := .next (precheckTimeout c s)

/-- FAULT_TIMER: a running timer trips the channel (R421). -/
def faultTimer (c : Slot) (s : State) : State := if s.driven c && s.flag SPW_STS.TMR_RUN c then trip s c 1 else s

def execFaultTimer (c : Slot) (s : State) : Result := .next (faultTimer c s)

/-- RAMP_WINDOW: a channel in RAMP whose V_OUT is below 92 % of V_BUS trips (R422, R423). -/
def rampWindow (c : Slot) (s : State) : State :=
  if s.sp c = spRamp && s.get SPW_MEAS0.V_OUT c * 100 < s.get SPW_MEAS1.V_BUS c * 92 then trip s c 2 else s

def execRampWindow (c : Slot) (s : State) : Result := .next (rampWindow c s)

/-- FAST_TRIP: a class F channel with its gate driven trips and latches (R423). -/
def fastTrip (c : Slot) (s : State) : State := if classF c && s.driven c then trip s c 3 else s

def execFastTrip (c : Slot) (s : State) : Result := .next (fastTrip c s)

/-- PASS_FET_CHECK: V_GS below 4 V at under 5 % of I_LIM is a damaged FET (R427). -/
def passFetCheck (c : Slot) (vgs : Nat) (s : State) : State :=
  if s.driven c && vgs < 4000 &&
      s.get SPW_MEAS0.CURRENT c * 20 * s.get SPW_CFG0.SENSE_UOHM c < s.get SPW_CFG0.THRESH c * 10000 then
    trip s c 7
  else s

def execPassFetCheck (c : Slot) (vgs : Nat) (s : State) : Result := .next (passFetCheck c vgs s)

/-- POWER_GOOD: out of limit with V_OUT at 92 % or more, power-good is given, PG_UP is posted, and RAMP ends in ON (R418,
R425). -/
def powerGood (c : Slot) (s : State) : State :=
  if s.driven c && !s.flag SPW_STS.PG c && !s.flag SPW_STS.LIMIT c &&
      s.get SPW_MEAS0.V_OUT c * 100 ≥ s.get SPW_MEAS1.V_BUS c * 92 then
    let s1 := ((s.set SPW_STS.PG c 1).setSp c spOn).slotEvent c 2
    match s1.slotPort c with
    | some p => s1.portEvent p 6
    | none => s1
  else s

def execPowerGood (c : Slot) (s : State) : Result := .next (powerGood c s)

/-- COOL_END: a cooled channel retries from PRECHECK, or waits in READY while its tiller is stopped; it stays while no new
start is permitted or the FET is hot (R420, R428, R432). -/
def coolEnd (c : Slot) (s : State) : State :=
  let limit := s.get SPW_CFG2.TRIP_C c - 20
  let cooled := s.get SPW_MEAS1.T_MODEL c ≤ limit &&
    (!s.flag SPW_CFG0.DIODE c || s.get SPW_MEAS1.T_DIODE c ≤ limit)
  if s.sp c = spCool && cooled then
    if s.slotTillerStopped c then s.setSp c spReady
    else if s.startsPermitted then s.setSp c spPrecheck
    else s
  else s

def execCoolEnd (c : Slot) (s : State) : Result := .next (coolEnd c s)

/-- TRIP_COUNT_RESET: power-good held for 1 s restarts the trip count (R428). -/
def tripCountReset (c : Slot) (s : State) : State := if s.flag SPW_STS.PG c then s.set SPW_STS.TRIPS c 0 else s

def execTripCountReset (c : Slot) (s : State) : Result := .next (tripCountReset c s)

/-- Every enabled channel reads at least WARN × 1.01 (R430). -/
def State.busRecovered (s : State) : Bool :=
  (List.range 32).all (fun c => !s.flag SPW_CFG0.EN c || s.get SPW_MEAS1.V_BUS c * 100 ≥ s.get SPW_BUS_CTL.WARN 0 * 101)

/-- BUS_WARN_CLEAR: the flag clears, and the channels stopped by BUS_OFF go to PRECHECK unless their tiller is stopped or no
new start is permitted (R430, R431). -/
def busWarnClear (s : State) : State :=
  if s.flag SPW_BUS_STS.WARN 0 && s.busRecovered then
    let s1 := s.settleShapers.set SPW_BUS_STS.WARN 0 0
    let s2 := { s1 with spw := { s1.spw with cleared := some (s.timeOf 4) } }
    let s3 := (List.range 32).foldl (fun s c =>
      if (s.chan c).busOff && s.sp c == spReady && !s.slotTillerStopped c && s.startsPermitted then
        (s.setSp c spPrecheck).busOffEnds c
      else s) s2
    s3.showBusOff
  else s

def execBusWarnClear (s : State) : Result := .next (busWarnClear s)

end Sys2Proof.Machine
end

