-- ==== Sys2Proof/Machine/Services.lean ====
section
/-! DEFINITION. The service operations of hosted handlers, the stop of a tiller with what follows it, and the handlers' timers
(R361, R366–R368). -/
namespace Sys2Proof.Machine
open Sys2Proof

/-! The service words (R362). -/

/-- The word at a context offset, in bytes. -/
def State.ctxWord (s : State) (t off : Nat) : Nat := Tab.get 0 (s.tiller t).ctx (off / 4)
def State.setCtxWord (s : State) (t off v : Nat) : State :=
  s.setTiller t { s.tiller t with ctx := Tab.put 0 (s.tiller t).ctx (off / 4) (v % 2 ^ 32) }
/-- SVC_D0 to SVC_D(n − 1) as one number. -/
def State.svcData (s : State) (t : Nat) : Nat → Nat
  | 0 => 0
  | n + 1 => s.svcData t n + s.ctxWord t (0x200 + 4 * n) * 2 ^ (32 * n)
def State.svcArg (s : State) (t : Nat) : Nat := s.ctxWord t 0x224

/-- The host that the request of SVC_HANDLE names (R367): the request is open, or its Add Capacity event is. -/
def State.svcHost (s : State) (t : Nat) : Option Nat :=
  let h := s.ctxWord t 0x220
  match s.lib.opens.find? (fun (q : OpenReq) => q.handle == h) with
  | some q => some q.host
  | none => none

/-- A service operation of a handler that is under way, of number op; f answers its result, none while it runs on. -/
def svc (t op : Nat) (s : State) (f : State → State × Option Nat) : State :=
  if isHosted t && s.svcBusy t && s.ctxWord t 0x228 == op && !s.windowGone (t / 48) && !s.lib.svcBar.any (fun e => e.1 == t) then
    let x := f s
    match x.2 with
    | some r => x.1.svcEnd t r
    | none => x.1
  else s

/-- An operation that would break a bound is refused with POLICY, and the bound recorded (R65, R367). -/
def State.svcPolicy (s : State) (t : Nat) (bound : Option Nat) (f : State → State × Option Nat) : State × Option Nat :=
  match bound with
  | some b => (s.archive (t / 48) 0x311 0 0 (s.ctxWord t 0x220) b 2, some 1)
  | none => f s

/-- READ_RECORD: the record of shelf SVC_ARG is returned in D0–D3. -/
def readRecord (t : Nat) (s : State) : State :=
  svc t 0 s fun s =>
    let v := s.srec (s.svcArg t % 2 ^ 20)
    ((List.range 4).foldl (fun s k => s.setCtxWord t (0x200 + 4 * k) (bits v (32 * k) 32)) s, some 0)
def execReadRecord (t : TillerIx) (s : State) : Result := .next (readRecord t s)

/-- The bound that writing a record breaks, for the host of the request (R65): only a shelf that becomes BOUND takes from one. -/
def State.recordBreaks (s : State) (host : Option Nat) (x : Nat) (v : BitVec 128) : Option Nat :=
  if rget v rState = 1 && rget (s.srec x) rState = 0 then
    match host with
    | none => some 4
    | some h =>
      match s.bindBreaks h 1 (rget v rMode) (rget v rGroup) with
      | some b => if b = 3 && rget v rMode = 0 then none else some b
      | none => if s.policyPool h (rget v rPort) then none else some 2
  else none

/-- The results of a record or rule write as SVC_STS shows them: OK, BAD_FIELD, BAD_TRANSITION, EPOCH_BUSY as their registers have them;
for a locked rule slot the spec names no result (log entry 4). -/
def State.svcResult (s : State) (r : Nat) : State × Option Nat :=
  if r = 0 || r = 2 || r = 3 || r = 4 then (s, some r)
  else ({ s with free := s.free + 1 }, some (1 + Config.freeValue s.free % 6))

/-- A change would take some host beyond 8,192 extents (R53). -/
def extentsBreak (s t : State) : Bool :=
  (List.range 64).any (fun h => t.isUp h && (t.extents h).length > 8192 && (t.extents h).length > (s.extents h).length)

/-- A shelf is written for the request of SVC_HANDLE (R71). -/
def State.forRequest (s : State) (t x : Nat) : State :=
  let h := s.ctxWord t 0x220
  { s with lib := { s.lib with opens := s.lib.opens.map (fun (q : OpenReq) =>
      if q.handle == h && !q.shelves.contains x then { q with shelves := q.shelves ++ [x] } else q) } }

/-- WRITE_RECORD: D0–D3 to shelf SVC_ARG under R55–R57, unless its device shelf is withheld (R74) or a host would pass its extents
(R53); a HOME other than the shelf's counts as a write discard (R29). -/
def writeRecord (t : Nat) (s : State) : State :=
  svc t 1 s fun s =>
    let x := s.svcArg t % 2 ^ 20
    let v := BitVec.ofNat 128 (s.svcData t 4)
    s.svcPolicy t (s.recordBreaks (s.svcHost t) x v) fun s =>
      let res := srecResult s (x % 4) x v
      if s.windowGone (x % 4) then (s, some 6)
      else if res != 0 then
        (if res = 2 && rget v rHome != x % 4 then s.discard (bndSet (x % 4)) else s).svcResult res
      else
        s.svcPolicy t (if extentsBreak s (s.putSrec x v) then some 0 else none) fun s => ((s.srecCommit x v).forRequest t x, some 0)
def execWriteRecord (t : TillerIx) (s : State) : Result := .next (writeRecord t s)

/-- The bound that a group write breaks: a port that the group gains must be permitted the group and keep its quota (R65). -/
def State.groupBreaks (s : State) (host : Option Nat) (g : Nat) (b : BitVec 256) : Option Nat :=
  let old : BitVec 256 := Tab.get 0 s.bnd.group g
  if b &&& ~~~ old = 0 then none
  else match host with
    | none => some 4
    | some h =>
      let gained := if (b &&& ~~~ old).getLsbD (s.unit * 64 + h) then
          (s.bnd.shelf.filter (fun e => (rget e.2 rState == 1 || rget e.2 rState == 3) && rget e.2 rMode != 0 && rget e.2 rGroup == g)).length
        else 0
      if (s.hostShelves h).length + gained > s.policy h 0 4 then some 0
      else if !s.policyGroup h g then some 3 else none

/-- WRITE_GROUP: D0–D7 to group SVC_ARG under R63. -/
def writeGroup (t : Nat) (s : State) : State :=
  svc t 2 s fun s =>
    let g := s.svcArg t % 2 ^ 12
    let b := BitVec.ofNat 256 (s.svcData t 8)
    let bound := match s.groupBreaks (s.svcHost t) g b with
      | some e => some e
      | none => if extentsBreak s (s.putGroup g b) then some 0 else none
    s.svcPolicy t bound fun s => (s.putGroup g b, some 0)
def execWriteGroup (t : TillerIx) (s : State) : Result := .next (writeGroup t s)

/-- BARRIER: a binding or rule barrier, in the shelf's home region; the operation ends when the barrier ends. -/
def barrier (t : Nat) (s : State) : State :=
  svc t 3 s fun s =>
    let a := s.svcArg t
    let x := a % 2 ^ 20
    let r := x % 4
    let s1 := barStart s r (a / 2 ^ 21 % 2) (a / 2 ^ 20 % 2 == 1) x
    if s1.get BND_BAR_CMD.RESULT r = 1 then (s1, some 5)
    else ({ s1 with lib := { s1.lib with svcBar := s1.lib.svcBar ++ [(t, r, s1.get BND_BAR_CMD.SLOT r)] } }, none)
def execBarrier (t : TillerIx) (s : State) : Result := .next (barrier t s)

/-- An add that would take a host beyond 8,192 extents, or past its bounds (R53, R65). -/
def State.addBreaks (s : State) (h : Nat) : Option Nat :=
  if (s.extents h).length > 8192 || (s.hostShelves h).length > s.policy h 0 4 then some 0 else none

/-- POST_ADD: the Add Capacity event of R66 is posted to the host, which holds the shelves with their sharing tag, once a barrier with
scope ALL in each of their regions has followed the writes that bound them. -/
def postAdd (t : Nat) (s : State) : State :=
  svc t 4 s fun s =>
    let h := s.ctxWord t 0x200 % 64
    let tag := s.ctxWord t 0x204
    let x := (s.ctxWord t 0x208 + s.ctxWord t 0x20C * 2 ^ 32) / 2 ^ 28
    let n := s.ctxWord t 0x210
    if !s.isUp h || n = 0 || x + n > 2 ^ 20 then (s, some 2)
    else
      let tags := (List.range n).foldl (fun m i => Tab.put 0 m (x + i) tag) s.bnd.tag
      let s1 := { s with bnd := { s.bnd with tag := tags } }
      s.svcPolicy t (if (s.svcHost t).isNone then some 4 else s1.addBreaks h) fun _ =>
        ({ s1 with bnd := { s1.bnd with addWait := s1.bnd.addWait ++ [(⟨h, x, n, tag, s.ctxWord t 0x220⟩ : AddPend)] } }.bindStep, some 0)
def execPostAdd (t : TillerIx) (s : State) : Result := .next (postAdd t s)

/-- The slot that a re-shelving op acts on: the shelf's own, or for START the first that is not re-shelving. -/
def State.svcSlot (s : State) (x op : Nat) : Option Nat :=
  if op = 1 then ((List.range 16).map (fun i => 16 * (x % 4) + i)).find? (fun n => !(Tab.get ({} : RshSlot) s.bnd.rsh n).active)
  else s.rshSlot x

/-- Why a START or SWITCH did not take effect, as a result of R367. -/
def rshSvcResult (e : Nat) : Nat := if e = 6 then 4 else if e = 7 then 3 else if e = 10 then 5 else if 8 ≤ e then 2 else 0

/-- RESHELVE: the op of BND_RSH_CTL in D0, on shelf SVC_ARG with the target fields of D2–D3 (R81, R84, R86). -/
def reshelve (t : Nat) (s : State) : State :=
  svc t 5 s fun s =>
    let x := s.svcArg t % 2 ^ 20
    let r := x % 4
    let op := s.ctxWord t 0x200
    let v := BitVec.ofNat 128 (s.svcData t 4)
    match s.svcSlot x op with
    | none => (s, some (if op = 1 then 5 else 3))
    | some n =>
      let bound := match s.svcHost t with
        | some h => if op = 1 && !s.policyPool h (rget v rAltPort) then some 2 else none
        | none => none
      s.svcPolicy t bound fun s =>
        if op = 1 then
          let s1 := (List.range 4).foldl (fun s k => s.setWord .BND_SREC_D (4 * r + k) (BitVec.ofNat 32 (s.ctxWord t (0x200 + 4 * k)))) s
          let s2 := rshStart (((s1.set BND_RSH_CTL.SHELF n x)).set BND_RSH_CTL.OP n 1) r n x
          (s2, some (rshSvcResult (s2.get BND_RSH_STS.RESULT n)))
        else if op = 2 then
          let s1 := rshSwitch (s.set BND_RSH_CTL.OP n 2) n
          (s1, some (rshSvcResult (s1.get BND_RSH_STS.RESULT n)))
        else if op = 0 then ((reshelveAbort .librarian ⟨r, Nat.mod_lt _ (by decide)⟩ ⟨n % 16, Nat.mod_lt _ (by decide)⟩ s), some 0)
        else (s, some 2)
def execReshelve (t : TillerIx) (s : State) : Result := .next (reshelve t s)

/-- RULE_WRITE: D0–D3 to rule slot SVC_ARG of the home region of the rule's shelf (R75–R78). -/
def svcRuleWrite (t : Nat) (s : State) : State :=
  svc t 6 s fun s =>
    let v := BitVec.ofNat 128 (s.svcData t 4)
    let r := ruleBase v / 2 ^ 16 % 4
    let n := s.svcArg t % 2 ^ 12
    let res := ruleResult s r n v
    if res = 0 then (s.setRule r n v, some 0) else s.svcResult res
def execSvcRuleWrite (t : TillerIx) (s : State) : Result := .next (svcRuleWrite t s)

/-! Handler timers (R361). -/

/-- The period of a handler's TIMER event in ms: what it set, else TIMER_MS of its entry. -/
def State.timerPeriod (s : State) (t : Nat) : Nat :=
  match (s.tiller t).period with
  | some p => p
  | none => match s.handlerEntry t with
    | some k => s.handler k 6 2
    | none => 0

/-- SET_TIMER: a new period in ms takes effect from its next multiple; above 60,000 it is refused with BAD_FIELD. -/
def setTimer (t : Nat) (s : State) : State :=
  svc t 7 s fun s =>
    let p := s.svcArg t
    if p > 60000 then (s, some 2)
    else (s.setTiller t { s.tiller t with period := some p, due := if p = 0 then 0 else s.timeOf (t / 48) / (p * 1000000) }, some 0)
def execSetTimer (t : TillerIx) (s : State) : Result := .next (setTimer t s)

/-- TIMER_DUE: fabric time has reached a multiple of the period that was not yet posted; several at once post one event, repeated
ones none (R361). -/
def timerDue (t : Nat) (s : State) : State :=
  let p := s.timerPeriod t
  let m := s.timeOf (t / 48) / (p * 1000000)
  if isHosted t && p != 0 && (s.tiller t).due < m && s.coreRuns (t / 48) then
    (s.setTiller t { s.tiller t with due := m }).postTimer t (m * p * 1000 % 2 ^ 32)
  else s
def execTimerDue (t : TillerIx) (s : State) : Result := .next (timerDue t s)

/-! Stops (R365, R366). -/

/-- Firmware answers a stopped handler's open requests, and with them its queued events, with INTERNAL (R366). -/
def State.handlerDrops (s : State) (t : Nat) : State :=
  let s1 := (s.setTiller t { s.tiller t with events := [] }).showEvents t
  (s1.lib.opens.filter (fun (q : OpenReq) => q.til == t && !s1.lib.heldReply.any (fun h => h.1 == q.handle))).foldl (fun s q => s.answerReq q 5) s1

/-- A tiller stops: by a fault or TRAP CONTAINED at tiller scope; a hosted handler's requests are answered (R366). -/
def State.tilStops (s : State) (t cause : Nat) : State :=
  let s1 := s.tilHalt t cause
  let s2 := if cause = 2 then s1.record (tilOcc t 1) else if 3 ≤ cause && cause ≤ 8 then s1.record (tilOcc t 0) else s1
  if isHosted t && cause != 1 then s2.handlerDrops t else s2

/-- A fault with its address (R365). -/
def State.tilFault (s : State) (t cause addr : Nat) : State := (s.setWord .TIL_FADDR t (BitVec.ofNat 32 addr)).tilStops t cause

/-- A tiller that runs or waits. -/
def State.tilRuns (s : State) (t : Nat) : Bool := s.get TIL_STS.STATE t == 1 || s.get TIL_STS.STATE t == 2

/-- A command in TIL_CTL: also from the debug master unlocked with scope TILLER (R408). -/
def State.tilCommand (s : State) (p : Path) (t : Nat) (f : State → State) : State :=
  if p = .debug && s.flag SEC_DBG_STS.UNLOCKED 0 && (s.get SEC_DBG_STS.SCOPE 0).testBit 2 && !s.windowGone (tillerUnit t) then f s
  else s.command p (tilSet (tillerUnit t)) f

/-- TILLER_STOP: STOP stops a tiller with cause STOPPED (R377). -/
def tillerStop (p : Path) (t : Nat) (s : State) : State :=
  s.tilCommand p t fun s => if s.tilRuns t then s.tilStops t 9 else s
def execTillerStop (p : Path) (t : TillerIx) (s : State) : Result := .next (tillerStop p t s)

/-- The tiller exists to be run: a port whose role is OFF runs none (R242, R249). -/
def State.tilGoverns (s : State) (t : Nat) : Bool :=
  match tilKind t with
  | .port p => s.role p != 0
  | _ => true

/-- A path of the Librarian's. -/
def isCore : Path → Bool
  | .librarian _ => true
  | _ => false

/-- TILLER_RUN: RUN starts a stopped tiller at ENTRY (R377). Firmware restarts a port's or slot's script once; after a second stop
within 1 s it starts the built-in program (R366). -/
def tillerRun (p : Path) (t : Nat) (s : State) : State :=
  s.tilCommand p t fun s =>
    if !s.tilGoverns t then s
    else if s.tilRuns t then s.discard (tilSet (tillerUnit t))
    else
      let x := s.tiller t
      let builtIn := !isHosted t && (x.script0 || (isCore p && x.relapsed))
      let s1 := (s.setTiller t { x with script0 := builtIn }).tilStart t (if builtIn then 0 else s.get TIL_CTL.ENTRY t)
      match tilKind t with
      | .slot c => if h : c < 32 then builtInStart ⟨c, h⟩ s1 else s1
      | _ => s1
def execTillerRun (p : Path) (t : TillerIx) (s : State) : Result := .next (tillerRun p t s)

/-- POST_CMD: the CMD event is posted with TIL_ARG (R359). -/
def postCmd (p : Path) (t : Nat) (s : State) : State :=
  s.tilCommand p t fun s =>
    if isHosted t then (s.postHosted t 7 [0, (s.word .TIL_ARG t).toNat]).1 else s.postEvent t 7
def execPostCmd (p : Path) (t : TillerIx) (s : State) : Result := .next (postCmd p t s)

/-- HANDLER_RESTART: 10 ms after a stop a handler starts at its entry, unless it has stopped three times within 1 s (R366). -/
def handlerRestart (t : Nat) (s : State) : State :=
  let x := s.tiller t
  if isHosted t && !s.tilRuns t && x.stops != [] && !x.spent && s.coreRuns (t / 48) then s.tilStart t (s.get TIL_CTL.ENTRY t) else s
def execHandlerRestart (t : TillerIx) (s : State) : Result := .next (handlerRestart t s)

/-- HANDLER_TIMESLICE: after 10 µs a core goes on to the next ready handler (R369). An error of its memory that ECC does not correct
isolates the region (R376). -/
def handlerTimeslice (x : CoreLook) (s : State) : State :=
  let r := x.region
  let s1 := if x.mem = .good || !s.coreRuns r then s else s.record ⟨libSet r, if x.mem = .corrected then 0 else 1, if x.mem = .corrected then 0 else 3, 7, r, 0⟩
  match Tab.get 0 s1.lib.running r with
  | 0 => s1
  | t + 1 => s1.giveUp t
def execHandlerTimeslice (r : CoreLook) (s : State) : Result := .next (handlerTimeslice r s)

/-! The cores (R353, R357, R376). -/

/-- LIB_WATCHDOG: the core restarts with its handlers, CONTAINED; a second one within 1 s is REGION_FATAL (R376). -/
def libWatchdog (r : Region) (s : State) : State :=
  if !s.coreRuns r then s
  else
    let now := s.timeOf r
    let again : Bool := match Tab.get none s.lib.dog r with
      | some t => Nat.ble (now - t) 1000000000
      | none => false
    let s1 := { s with lib := { s.lib with dog := Tab.put none s.lib.dog r (some now) } }
    if again then s1.record ⟨libSet r, 2, 3, 7, r, 0⟩
    else
      let s2 := (s1.bump LIB_CORE_STS.RESTARTS r 1).record ⟨libSet r, 2, 2, 7, r, 0⟩
      ((List.range 32).map (fun j => 48 * r.val + 16 + j)).foldl (fun s t => if s.tilRuns t then s.tilStops t 9 else s) s2
def execLibWatchdog (r : Region) (s : State) : Result := .next (libWatchdog r s)

/-- The first running region takes the lead (R353): what the old lead had accepted is never answered. -/
def leadTakeover (s : State) : State :=
  if s.leadRuns then s
  else match (List.range 4).find? s.coreRuns with
    | none => s
    | some r =>
      let s1 := (List.range 4).foldl (fun s q => s.set LIB_CORE_STS.LEAD q (if q = r then 1 else 0)) s
      { s1 with lib := { s1.lib with opens := [], fm := [], mbxRun := [], heldReply := [] } }
def execLeadTakeover (s : State) : Result := .next (leadTakeover s)

/-- MPU_BARRIER: GO starts the barrier (R357). -/
def mpuBarrier (p : Path) (r : Region) (s : State) : State :=
  s.start p (libSet r) (s.flag LIB_MPU_BAR.BUSY r) fun s => s.set LIB_MPU_BAR.BUSY r 1
def execMpuBarrier (p : Path) (r : Region) (s : State) : Result := .next (mpuBarrier p r s)

/-- MPU_BARRIER_DONE: every access issued before it has completed (R357). -/
def mpuBarrierDone (r : Region) (s : State) : State :=
  if s.flag LIB_MPU_BAR.BUSY r then (s.set LIB_MPU_BAR.BUSY r 0).set LIB_MPU_BAR.DONE r 1 else s
def execMpuBarrierDone (r : Region) (s : State) : Result := .next (mpuBarrierDone r s)

end Sys2Proof.Machine
end

