-- ==== Sys2Proof/Machine/ImageCheck.lean ====
section
/-! DEFINITION. The checks of a Deczaom image: its header, its layout, its digests and signatures, and the fields of every section
(R363, R388–R401, R189, R235, R243). A check answers the first failing field, in the order that log entry 40 fixes. -/
namespace Sys2Proof.Machine
open Sys2Proof

/-- Why a slot is rejected: its result code, and the section and byte offset of the first failing field (SEC_BOOT_FAIL). -/
structure Reject where
  result : Nat
  sect   : Nat
  off    : Nat
deriving DecidableEq, Repr

abbrev Check := Option Reject
/-- A requirement on a field. -/
def need (ok : Bool) (result sect off : Nat) : Check := if ok then none else some ⟨result, sect, off⟩
/-- A field of section ty: BAD_FIELD where it fails. -/
def field (ty off : Nat) (ok : Bool) : Check := need ok 8 ty off
/-- The first that fails. -/
def firstBad (cs : List Check) : Check := cs.findSome? id
/-- The checks of n like things, in order. -/
def each (n : Nat) (f : Nat → Check) : Check := (List.range n).findSome? f
/-- The checks of those things that satisfy a test. -/
def those (n : Nat) (p : Nat → Bool) (f : Nat → Check) : Check := ((List.range n).filter p).findSome? f

/-- n bytes of a flash, and whether they are all zero. -/
def flashBytes (f : Flash) (a n : Nat) : List Byte := (List.range n).map (fun k => Tab.get 0 f (a + k))
def flashZero (f : Flash) (a n : Nat) : Bool := f.all (fun (e : Nat × BitVec 8) => e.1 < a || a + n ≤ e.1 || e.2 == 0)

/-- Bits [lo + w − 1 : lo] of a number. -/
def cut (x lo w : Nat) : Nat := (x >>> lo) % 2 ^ w

/-! The section in the image that is checked, through the accessors that later read it. -/

/-- The state with an image in place of its own, so that a check reads it as the loaded image is read. -/
def State.withImage (s : State) (f : Flash) : State := { s with boot := { s.boot with image := f, early := true, late := true } }

/-- Bytes of a section are all zero. -/
def State.sectZero (s : State) (ty off n : Nat) : Bool := flashZero s.boot.image (sectOff s.boot.image ty + off) n
/-- The first byte that is not zero among n of a section. -/
def State.sectNonZero (s : State) (ty off n : Nat) : Check :=
  each n fun k => field ty (off + k) (s.sect ty (off + k) 1 == 0)

/-! The header and the directory (R388, R389, R401). -/

/-- Directory entry k (TYPE k + 1). -/
def dirAt (k : Nat) : Nat := 128 + 80 * k

/-- The fields of the header and of the directory entries. -/
def headerFields (f : Flash) : Check :=
  let fl (off : Nat) (ok : Bool) : Check := field 0 off ok
  firstBad
    [fl 4 (flashN f 4 2 == 1), fl 6 (flashN f 6 2 == 10), fl 8 (Nat.ble (flashN f 8 4) 0x04000000), fl 12 (Nat.ble (flashN f 12 1) 64),
     fl 13 (flashZero f 13 3), fl 121 (flashZero f 121 7),
     each 10 fun k => firstBad
       [fl (dirAt k + 1) (flashZero f (dirAt k + 1) 3),
        fl (dirAt k + 4) (flashN f (dirAt k + 4) 4 % 4096 == 0 && Nat.ble 4096 (flashN f (dirAt k + 4) 4)),
        fl (dirAt k + 8) (Nat.ble 1 (flashN f (dirAt k + 8) 4)), fl (dirAt k + 12) (flashZero f (dirAt k + 12) 4)],
     fl 928 (flashZero f 928 3040), fl 4082 (flashZero f 4082 14)]

/-- The hash that a header's key must have, by life-cycle state (R401). -/
def State.signerHash (s : State) : Option (BitVec 512) :=
  match s.get SEC_LC_STS.STATE 0 with
  | 0 => some Config.vrootHash
  | 1 => some s.boot.ownerHash
  | 2 => some Config.vrootHash
  | _ => none

/-- The lengths of the sections of fixed size (Table: Section types). -/
def fixedLen (ty : Nat) : Option Nat :=
  match ty with
  | 1 => some 3200
  | 2 => some 2080
  | 3 => some 1024
  | 5 => some 36864
  | 10 => some 512
  | _ => none

/-- An early section. -/
def isEarly (ty : Nat) : Bool := ty < 4 || ty == 10

/-- Two sections share a byte. -/
def overlap (f : Flash) (a b : Nat) : Bool :=
  sectOff f a < sectOff f b + sectLen f b && sectOff f b < sectOff f a + sectLen f a

/-- Where the sections lie (R389). -/
def layoutCheck (f : Flash) : Check :=
  let bad (k : Nat) (off : Nat) (ok : Bool) : Check := need ok 11 0 (dirAt k + off)
  each 10 fun k =>
    let ty := k + 1
    let stop := sectOff f ty + sectLen f ty
    firstBad
      [bad k 0 (flashN f (dirAt k) 1 == ty),
       bad k 4 (Nat.ble stop (flashN f 8 4)),
       bad k 4 (!(List.range k).any (fun j => overlap f (j + 1) ty)),
       bad k 4 (k = 0 || ty = 10 || Nat.blt (sectOff f k) (sectOff f ty)),
       bad k 4 (!isEarly ty || (Nat.ble stop 0x100000 && [4, 5, 6, 7, 8, 9].all (fun l => Nat.ble stop (sectOff f l)))),
       bad k 8 (match fixedLen ty with
         | some n => sectLen f ty == n
         | none => true)]

/-- A key's hash is the one expected. -/
def keyGood (f : Flash) (a : Nat) (h : Option (BitVec 512)) : Bool := h == some (Config.shake256 (flashBytes f a 57))

/-- The header of a slot (R388, R389, R401): magic, fields, part, key, signature, rollback, layout. -/
def headerCheck (s : State) (f : Flash) : Check :=
  firstBad
    [need (flashN f 0 4 == 0x314D5A44) 2 0 0,
     headerFields f,
     need (flashN f 16 3 == 0x4B0064) 6 0 16,
     need (Nat.ble (flashN f 19 1) (s.get CHIP_IDENT.STEPPING 0)) 6 0 19,
     need (keyGood f 64 s.signerHash) 4 0 64,
     need (Config.ed448ph 0 (flashBytes f 64 57) (flashBytes f 0 3968) (flashBytes f 3968 114)) 3 0 3968,
     need (Nat.ble (s.get SEC_LC_STS.RB_OTP 0) (flashN f 12 1)) 5 0 12,
     layoutCheck f]

/-- The digest of a section. -/
def digestCheck (f : Flash) (ty : Nat) : Check :=
  need ((Config.shake256 (flashBytes f (sectOff f ty) (sectLen f ty))).toNat == flashN f (dirAt (ty - 1) + 16) 64) 7 ty 0

/-! The early sections' fields (R390–R392, R399, R189, R243). -/

/-- The port entry of port p (R390). -/
def portCheck (s : State) (p : Nat) : Check :=
  let e (lo w : Nat) : Nat := s.plan p lo w
  let fl (lo : Nat) (ok : Bool) : Check := field 1 (32 * p + lo / 8) ok
  let role := e 0 2
  let pair := if p % 2 = 0 then p + 1 else p - 1
  if role = 0 then s.sectNonZero 1 (32 * p) 32
  else firstBad
    [fl 0 (role != 3 || p % 16 ≥ 14),
     fl 2 (e 2 1 == 0 || (role == 3 && p % 16 ≥ 14 && s.plan pair 0 2 == 3 && s.plan pair 2 1 == 1)),
     fl 3 (e 3 1 == 0 || (role == 1 && !(List.range p).any (fun q => s.plan q 3 1 == 1))),
     fl 4 (Nat.ble (e 4 3) 5 && (role != 3 || e 4 3 == 5)),
     fl 10 (e 10 1 == 0 || role == 1 || role == 2),
     fl 12 (e 12 1 == 0 || role == 1),
     fl 13 (e 13 1 == 0 || role == 2),
     fl 14 (e 14 1 == 0 || role == 2),
     fl 15 (e 15 1 == 0 || role == 3),
     fl 18 (e 23 1 == 0 || (role == 2 && !(List.range p).any (fun q => s.plan q 23 1 == 1 && s.plan q 18 5 == e 18 5))),
     fl 31 (e 31 1 == 0),
     fl 32 ([255, 15, 240, 3, 192, 1, 128].contains (e 32 8)),
     fl 40 (e 40 8 != 0),
     fl 48 (Nat.ble 1 (e 48 3)), fl 51 (e 51 13 == 0),
     fl 64 (Nat.ble 100 (e 64 10) && Nat.ble (e 64 10) 1000),
     fl 74 (Nat.ble 10 (e 74 14) && Nat.ble (e 74 14) 10000),
     fl 96 (e 96 16 == 0 || role == 2), fl 112 (e 112 16 == 0),
     fl 128 (e 128 64 % 2 ^ 28 == 0), fl 212 (e 212 12 == 0),
     fl 224 (Nat.ble (e 192 20 + e 224 20) (2 ^ 20)), fl 244 (e 244 12 == 0)]

/-- A value in a range. -/
def within (lo hi v : Nat) : Bool := Nat.ble lo v && Nat.ble v hi

/-- The slot entry of channel c (R391). -/
def slotCheck (s : State) (c : Nat) : Check :=
  let b := 2048 + 32 * c
  let v (off n : Nat) : Nat := s.sect 1 (b + off) n
  let fl (off : Nat) (ok : Bool) : Check := field 1 (b + off) ok
  let f := c ≥ 28
  firstBad
    [fl 0 (Nat.blt (v 0 1) 4), fl 1 (Nat.ble (v 1 1) 127), fl 2 (within 500 5000 (v 2 2)),
     fl 4 (if f then within 200 2000 (v 4 2) else within 50 1000 (v 4 2)),
     fl 6 (if f then v 6 2 == 0 else within 10 1000 (v 6 2)),
     fl 8 (if f then v 8 2 == 0 else within 5 5000 (v 8 2)),
     fl 10 (if f then v 10 2 == 0 else within 1 100 (v 10 2)),
     fl 12 (within 10 500 (v 12 2)), fl 14 (Nat.ble (v 14 1) 15 || v 14 1 == 255), fl 15 (within 85 150 (v 15 1)),
     fl 16 (s.sectZero 1 (b + 16) 16)]

/-- The chip entry (R391). -/
def chipCheck (s : State) : Check :=
  let b := 3072
  let v (off n : Nat) : Nat := s.sect 1 (b + off) n
  let fl (off : Nat) (ok : Bool) : Check := field 1 (b + off) ok
  firstBad
    [fl 0 (Nat.ble (v 0 1) 3),
     fl 1 (v 1 1 == 0 || (v 1 1 == 1 && s.managerPort.isSome) || v 1 1 == 2),
     fl 2 (v 1 1 != 2 || (Nat.blt (v 2 1) 64 && s.role (v 2 1) == 3)),
     fl 3 (v 3 1 == 0), fl 4 (within 1 1000 (v 4 2)), fl 6 (within 1 16383 (v 6 2)),
     fl 8 (within 1 4000 (v 8 2)), fl 10 (within 10 60000 (v 10 2)), fl 12 (within 100 600000 (v 12 4)),
     fl 16 (within 1 36 (v 16 1)), fl 17 (within 1 168 (v 17 1)), fl 18 (s.sectZero 1 (b + 18) 6),
     each 4 fun r => fl (24 + 2 * r) (v (24 + 2 * r) 2 != 0),
     fl 32 (s.sectZero 1 (b + 32) 32),
     each 8 fun k =>
       let x := v (64 + 8 * k) 8
       fl (64 + 8 * k) (x / 2 ^ 31 == 0 && Nat.ble (x % 2 ^ 15) (cut x 16 15))]

/-- The port plan. -/
def planCheck (s : State) : Check := firstBad [each 64 (portCheck s), each 32 (slotCheck s), chipCheck s]

/-- The lane settings (R392). -/
def laneCheck (s : State) : Check :=
  each 520 fun n =>
    let v := s.sect 2 (4 * n) 4
    field 2 (4 * n) (v / 2 ^ 12 == 0 && Nat.ble (cut v 1 6) 36 && Nat.ble (cut v 8 4) 10)

/-- The buffer limits of every port that is not OFF (R189). -/
def limitCheck (s : State) : Check :=
  those 64 (fun p => s.role p != 0) fun p =>
    let lim (c : Nat) : Nat := s.sect 3 (16 * p + 2 * c) 2
    firstBad
      [each 8 fun c => field 3 (16 * p + 2 * c) (Nat.ble (lim c) 4096 && (c < 3 || Nat.ble 32 (lim c))),
       field 3 (16 * p) (Nat.ble ((List.range 8).map lim).sum 4096)]

/-- The calibration (R399). -/
def calCheck (s : State) : Check :=
  firstBad
    [each 32 fun c =>
       let b := 8 * c
       firstBad
         [field 10 b (Nat.ble (signedOf 16 (s.sect 10 b 2)).natAbs 2000),
          field 10 (b + 2) (Nat.ble (signedOf 16 (s.sect 10 (b + 2) 2)).natAbs 20000),
          field 10 (b + 4) (within 9500 10500 (s.sect 10 (b + 4) 2)), field 10 (b + 6) (s.sect 10 (b + 6) 2 == 0)],
     each 4 fun r => field 10 (256 + 2 * r) (Nat.ble (signedOf 16 (s.sect 10 (256 + 2 * r) 2)).natAbs 50),
     field 10 264 (s.sectZero 10 264 248)]

/-- Everything that is checked of a slot at step 5 (R381, R389). -/
def earlyCheck (s : State) (f : Flash) : Check :=
  let t := s.withImage f
  firstBad
    [headerCheck s f, digestCheck f 1, planCheck t, digestCheck f 2, laneCheck t, digestCheck f 3, limitCheck t, digestCheck f 10, calCheck t]

/-! The late sections' fields (R393–R399, R235, R363). -/

/-- A section whose length its own counts give (R389). -/
def lenCheck (s : State) (ty n : Nat) : Check := need (sectLen s.boot.image ty == n) 11 0 (dirAt (ty - 1) + 8)

/-- Offsets of the group and bind entries of the shelf and pool policy (R393). -/
def State.groupAt (s : State) (i : Nat) : Nat := 16 + 16 * s.sect 4 0 4 + 40 * i
def State.bindAt (s : State) (i : Nat) : Nat := 16 + 16 * s.sect 4 0 4 + 40 * s.sect 4 4 4 + 24 * i
/-- The record, shelf and sharing tag of bind entry i. -/
def State.bindRec (s : State) (i : Nat) : BitVec 128 := BitVec.ofNat 128 (s.sect 4 (s.bindAt i) 16)
def State.bindShelf (s : State) (i : Nat) : Nat := s.sect 4 (s.bindAt i + 16) 4
def State.bindTag (s : State) (i : Nat) : Nat := s.sect 4 (s.bindAt i + 20) 4

/-- The bitmap that the image gives a group, if it defines it. -/
def State.imageGroup (s : State) (g : Nat) : Option (BitVec 256) :=
  ((List.range (s.sect 4 4 4)).find? (fun i => s.sect 4 (s.groupAt i) 2 == g)).map (fun i =>
    BitVec.ofNat 256 (s.sect 4 (s.groupAt i + 8) 32))

/-- A host of this unit that bind entry i names (R54, R62). -/
def State.bindNames (s : State) (i h : Nat) : Bool :=
  let v := s.bindRec i
  if rget v rMode = 0 then rget v rGroup % 256 == s.unit * 64 + h
  else match s.imageGroup (rget v rGroup) with
    | some b => b.getLsbD (s.unit * 64 + h)
    | none => false

/-- The binding policy of host h permits bind entry i, the entry with those before it within the quota (R65, R394). -/
def State.bindPermitted (s : State) (i h : Nat) : Bool :=
  let v := s.bindRec i
  s.policyMode h (rget v rMode) && s.policyPool h (rget v rPort) && (rget v rMode == 0 || s.policyGroup h (rget v rGroup)) &&
    Nat.ble ((List.range (i + 1)).filter (fun j => s.bindNames j h)).length (s.policy h 0 4)

/-- A pool entry of the image allows the device shelf (R393). -/
def State.poolAllows (s : State) (port ld dev : Nat) : Bool :=
  (List.range (s.sect 4 0 4)).any (fun i =>
    let b := 16 + 16 * i
    s.sect 4 b 1 == port && s.sect 4 (b + 1) 1 == ld && Nat.ble (s.sect 4 (b + 4) 4) dev &&
      Nat.blt dev (s.sect 4 (b + 4) 4 + s.sect 4 (b + 8) 4))

/-- Bind entry i (R393). -/
def bindCheck (s : State) (i : Nat) : Check :=
  let v := s.bindRec i
  let x := s.bindShelf i
  let b := s.bindAt i
  let dev (j : Nat) : Nat × Nat × Nat := (rget (s.bindRec j) rPort, rget (s.bindRec j) rLd, rget (s.bindRec j) rDev)
  firstBad
    [field 4 b (srecGood v x && rget v rState == 1 && rget v rLost == 0),
     field 4 (b + 1) (rget v rMode == 0 || (s.imageGroup (rget v rGroup)).isSome),
     field 4 (b + 3) (s.role (rget v rPort) == 2),
     field 4 (b + 4) (s.poolAllows (rget v rPort) (rget v rLd) (rget v rDev) && !(List.range i).any (fun j => dev j == dev i)),
     field 4 (b + 8) (rget v rEpoch == 0),
     field 4 (b + 16) (Nat.blt x (2 ^ 20) && !(List.range i).any (fun j => s.bindShelf j == x)),
     field 4 b ((List.range 64).all (fun h => !s.bindNames i h || s.bindPermitted i h))]

/-- The shelf and pool policy (R393). -/
def poolCheck (s : State) : Check :=
  let pools := s.sect 4 0 4
  let groups := s.sect 4 4 4
  let binds := s.sect 4 8 4
  firstBad
    [field 4 0 (Nat.ble pools 1024), field 4 4 (Nat.ble groups 4096), field 4 8 (Nat.ble binds (2 ^ 20)), field 4 12 (s.sectZero 4 12 4),
     lenCheck s 4 (16 + 16 * pools + 40 * groups + 24 * binds),
     each pools fun i =>
       let b := 16 + 16 * i
       firstBad
         [field 4 b (Nat.blt (s.sect 4 b 1) 64 && s.role (s.sect 4 b 1) == 2), field 4 (b + 1) (Nat.blt (s.sect 4 (b + 1) 1) 16),
          field 4 (b + 2) (s.sectZero 4 (b + 2) 2), field 4 (b + 8) (Nat.ble (s.sect 4 (b + 4) 4 + s.sect 4 (b + 8) 4) (2 ^ 20)),
          field 4 (b + 12) (s.sectZero 4 (b + 12) 4)],
     each groups fun i =>
       let b := s.groupAt i
       firstBad
         [field 4 b (Nat.blt (s.sect 4 b 2) 4096 && !(List.range i).any (fun j => s.sect 4 (s.groupAt j) 2 == s.sect 4 b 2)),
          field 4 (b + 2) (s.sectZero 4 (b + 2) 6)],
     each binds (bindCheck s)]

/-- The binding policy (R394). -/
def policyCheck (s : State) : Check :=
  each 64 fun h =>
    let b := 576 * h
    if s.role h != 1 then s.sectNonZero 5 b 576
    else firstBad
      [field 5 b (Nat.ble (s.sect 5 b 4) 1048576), field 5 (b + 4) (Nat.blt (s.sect 5 (b + 4) 1) 8), field 5 (b + 5) (Nat.blt (s.sect 5 (b + 5) 1) 4),
       field 5 (b + 6) (s.sectZero 5 (b + 6) 2),
       each 64 fun p => field 5 (b + 8 + p / 8) (!(s.sect 5 (b + 8) 8).testBit p || s.role p == 2),
       field 5 (b + 16) (s.sectZero 5 (b + 16) 48)]

/-- The carrel templates (R395), and the template of every UP port (R390). -/
def templateCheck (s : State) : Check :=
  let n := s.sect 6 0 4
  firstBad
    [field 6 0 (within 1 256 n), field 6 4 (s.sectZero 6 4 60), lenCheck s 6 (64 + 64 * n),
     field 6 0 ((List.range 64).all (fun p => s.role p != 1 || Nat.blt (s.plan p 88 8) n)),
     each n fun t =>
       let e (lo w : Nat) : Nat := s.template t lo w
       let fl (lo : Nat) (ok : Bool) : Check := field 6 (64 + 64 * t + lo / 8) ok
       firstBad
         [fl 0 (Nat.ble (e 0 7) 64), fl 7 (within 4 20 (e 7 5)),
          fl 12 (Nat.ble (e 12 7) ((List.range 64).filter (fun c => (e 64 64).testBit c)).length),
          fl 23 (e 23 41 == 0), fl 64 (e 64 64 &&& s.sect 1 (3072 + 24) 8 == 0), fl 148 (e 148 12 == 0), fl 192 (e 192 320 == 0)]]

/-- Header p of the gate lists, and where its entries begin (R396). -/
def State.gateN (s : State) (p : Nat) : Nat := s.sect 7 (16 * p + 1) 1
def State.gateAt (s : State) (p : Nat) : Nat := 1024 + 8 * ((List.range p).map s.gateN).sum

/-- The gate lists (R235, R396): those of OFF ports are not checked. -/
def gateCheck (s : State) : Check :=
  firstBad
    [lenCheck s 7 (s.gateAt 64),
     those 64 (fun p => s.role p != 0) fun p =>
       let b := 16 * p
       let n := s.gateN p
       firstBad
         [field 7 b (Nat.blt (s.sect 7 b 1) 2), field 7 (b + 1) (Nat.ble n 64 && (s.sect 7 b 1 == 0 || Nat.ble 1 n)), field 7 (b + 2) (s.sectZero 7 (b + 2) 6),
          each n fun k =>
            let a := s.gateAt p + 8 * k
            let v := s.sect 7 a 8
            firstBad
              [field 7 a (within 10 1000000000 (cut v 0 30) && cut v 30 2 == 0), field 7 (a + 4) (cut v 38 2 == 3), field 7 (a + 5) (cut v 40 24 == 0)]]]

/-- A tiller instruction that the image check accepts, in a program whose last index is given (R363). -/
def instrGood (w last : Nat) : Bool :=
  let z (lo n : Nat) : Bool := cut w lo n == 0
  let timed (unit count n : Nat) : Bool := cut w unit 2 != 3 && cut w count n != 0
  match cut w 26 6 with
  | 0x00 => z 0 26
  | 0x01 => z 16 6
  | 0x02 => z 16 6
  | 0x03 => z 0 2
  | 0x04 => z 0 2
  | 0x05 => z 0 14
  | 0x06 => z 0 14
  | 0x07 => true
  | 0x08 => z 0 14
  | 0x09 => z 0 14
  | 0x0A => z 0 14
  | 0x0B => true
  | 0x0C => z 5 13
  | 0x0D => z 5 13
  | 0x0E => z 11 4 && cut w 15 3 != 7 && Nat.ble (cut w 0 11) last
  | 0x0F => z 11 15 && Nat.ble (cut w 0 11) last
  | 0x10 => z 0 26
  | 0x11 => timed 12 0 12
  | 0x12 => timed 10 0 10
  | 0x13 => z 14 12 && timed 12 0 12
  | 0x14 => z 22 4 && z 12 6
  | 0x15 => z 22 4 && z 0 14
  | 0x16 => z 0 26
  | 0x17 => z 8 18
  | _ => false

/-- Where program k (from 1) starts in its section, and the index of its last instruction (R397). -/
def State.progAt (s : State) (k : Nat) : Nat := s.sect 8 (16 + 8 * (k - 1)) 4
def State.progLast (s : State) (k : Nat) : Nat := cut (s.sect 8 (16 + 8 * (k - 1)) 8) 32 11

/-- Handler entry k (R397). -/
def handlerCheck (s : State) (k : Nat) : Check :=
  let b := 16 + 8 * s.sect 8 0 2 + 80 * k
  let h (j off n : Nat) : Nat := s.handler j off n
  let fl (off : Nat) (ok : Bool) : Check := field 8 (b + off) ok
  let earlier (p : Nat → Bool) : Bool := (List.range k).any (fun j => h j 0 1 == h k 0 1 && p j)
  firstBad
    [fl 0 (Nat.blt (h k 0 1) 4), fl 1 (Nat.blt (h k 1 1) 32 && !earlier (fun j => h j 1 1 == h k 1 1)),
     fl 2 (within 1 (s.sect 8 0 2) (h k 2 1)), fl 3 (!earlier (fun j => h j 3 1 &&& h k 3 1 != 0)),
     fl 4 (Nat.ble (h k 4 2) (s.progLast (h k 2 1))),
     fl 6 (Nat.ble (h k 6 2) 60000 && (h k 6 2 == 0 || (h k 3 1).testBit 6)), fl 8 (s.sectZero 8 (b + 8) 8),
     each 8 fun m =>
       let base := h k (16 + 8 * m) 4
       let limit := h k (20 + 8 * m) 4
       let high := base.testBit 0 && (base.testBit 1 || base.testBit 2) && Nat.ble 0x20000 (limit / 4096) && Nat.ble (base / 4096) (limit / 4096)
       fl (16 + 8 * m) (cut base 3 2 == 0 && !high)]

/-- The tiller programs (R363, R397). -/
def programCheck (s : State) : Check :=
  let progs := s.sect 8 0 2
  let hdls := s.sect 8 2 2
  firstBad
    [field 8 0 (Nat.ble progs 127), field 8 2 (Nat.ble hdls 128), field 8 4 (s.sectZero 8 4 12),
     each progs fun i =>
       let v := s.sect 8 (16 + 8 * i) 8
       field 8 (16 + 8 * i) (v % 4 == 0 && cut v 43 21 == 0 &&
         Nat.ble (cut v 0 32 + 4 * (cut v 32 11 + 1)) (sectLen s.boot.image 8)),
     each hdls (handlerCheck s),
     each progs fun i => each (s.progLast (i + 1) + 1) fun x =>
       let a := s.progAt (i + 1) + 4 * x
       field 8 a (instrGood (s.sect 8 a 4) (s.progLast (i + 1))),
     field 8 0 ((List.range 64).all (fun p => Nat.ble (s.plan p 24 7) progs) &&
       (List.range 32).all (fun c => Nat.ble (s.sect 1 (2048 + 32 * c + 1) 1) progs))]

/-- The firmware (R399–R401). -/
def firmwareCheck (s : State) : Check :=
  let n := s.sect 9 8 4
  let a := sectOff s.boot.image 9
  let f := s.boot.image
  let h := if s.get SEC_LC_STS.STATE 0 = 3 then none else some Config.vrootHash
  firstBad
    [field 9 0 (s.sect 9 0 4 == 0x57464C56), field 9 6 (s.sectZero 9 6 2), field 9 8 (within 1 1048576 n), lenCheck s 9 (256 + n),
     field 9 12 (Nat.blt (s.sect 9 12 4) n), field 9 73 (s.sectZero 9 73 7), field 9 194 (s.sectZero 9 194 62),
     need (keyGood f (a + 16) h) 4 9 16,
     need (Config.ed448ph 1 (flashBytes f (a + 16) 57) (flashBytes f a 80 ++ flashBytes f (a + 256) n) (flashBytes f (a + 80) 114)) 9 9 80]

/-- Everything that is checked at step 8 (R381, R389). -/
def lateCheck (s : State) (f : Flash) : Check :=
  let t := s.withImage f
  firstBad
    [digestCheck f 4, poolCheck t, digestCheck f 5, policyCheck t, digestCheck f 6, templateCheck t, digestCheck f 7, gateCheck t,
     digestCheck f 8, programCheck t, digestCheck f 9, firmwareCheck t]

end Sys2Proof.Machine
end

