-- ==== Sys2Proof/Machine/Supply.lean ====
section
/-! DEFINITION. The commands of clocks, resets and supplies (chapter Clocks, Resets, Supplies and the Outside at Rest). -/
namespace Sys2Proof.Machine
open Sys2Proof

def execHkSourceSwitch (s : State) : Result := .next (hkSourceSwitch s)

/-- REFCLK_LOSS: CHIP_FATAL with cause CRS_REFCLK_LOSS; no region area is copied (R439). -/
def refclkLoss (s : State) : State :=
  let before := s.flt.retPend
  let s1 := (s.set CRS_CLK_STS.REFCLK_OK 0 0).record (blockOcc setCrs 3)
  let kept := s1.flt.retPend.filter (fun e => e.area == 4 || before.contains e)
  { s1 with flt := { s1.flt with retPend := kept } }

def execRefclkLoss (s : State) : Result := .next (refclkLoss s)

/-- ROOT_UNLOCK: region r's ROOT is no longer locked, and the region raises REGION_FATAL (R439). -/
def rootUnlock (r : Region) (s : State) : State :=
  (s.clearBits CRS_CLK_STS.ROOT_LOCK 0 (2 ^ r.val)).record (regionOcc r setCrs 2)

def execRootUnlock (r : Region) (s : State) : Result := .next (rootUnlock r s)

/-- The lowest and highest of a conversion's readings. -/
def railLowest (v : RailReading) : Nat := v.mv.foldl min 4095
def railHighest (v : RailReading) : Nat := v.mv.foldl max 0

/-- The extremes that a conversion of rail m feeds: each region's rails 0–5, the Keeper's rails 6 and 7 (R486). -/
def State.railExtremes (s : State) (m : Nat) (v : RailReading) : State :=
  if m < 6 then
    (v.mv.take 4).zipIdx.foldl (fun s e => (s.extreme e.2 m e.1 true).extreme e.2 (6 + m) e.1 false) s
  else (s.extreme 4 (m - 6) (railLowest v) true).extreme 4 (2 + (m - 6)) (railHighest v) false

/-- A reading in the warning band or beyond it: the bit sets and a warning event is counted, or, within HOLD_MS of the last
clearing, the same event is repeated (R444). -/
def State.railWarn (s : State) (m extremeMv : Nat) : State :=
  if (s.get CRS_SUP_STS.WARN 0).testBit m then s
  else
    let s1 := s.settleShapers.setBits CRS_SUP_STS.WARN 0 (2 ^ m)
    let again := match Tab.get none s.sup.cleared m with
      | none => false
      | some t => s.timeOf 4 - t < s.get CRS_SUP_CTL.HOLD_MS 0 * 10 ^ 6
    if again then s1.bump CRS_SUP_STS.REPEAT 0 1
    else
      (((s1.set CRS_SUP_STS.REPEAT 0 0).bump CRS_SUP_STS.EVENTS 0 1).record (blockOcc setCrs 0)).archive
        4 0x31B 0 0 m extremeMv

/-- RAIL_CONVERSION: the readings are compared with the levels of R442; two conversions beyond a reset level reset the chip,
but not under CHIP_FATAL, and VDD_KPR below its level takes the Keeper down (R443, R444, R445, R453). -/
def railConversion (m : Fin 8) (v : RailReading) (s : State) : State :=
  let lo := (railLowest v)
  let hi := (railHighest v)
  let s1 := (s.set CRS_RAIL_NOW.NOW m lo).railExtremes m v
  let s1 := s1.set CRS_RAIL_NOW.MIN m (if s.get CRS_RAIL_NOW.MIN m = 0 then lo else min lo (s.get CRS_RAIL_NOW.MIN m))
  let under := v.bad || lo < s.get CRS_RAIL_LO.RESET m
  let above := hi > s.get CRS_RAIL_HI.RESET m
  let warn := under || above || lo < s.get CRS_RAIL_LO.WARN m || hi > s.get CRS_RAIL_HI.WARN m
  let n := if under || above then Tab.get 0 s.sup.beyond m + 1 else 0
  let s2 := { s1 with sup := { s1.sup with beyond := Tab.put 0 s1.sup.beyond m n
                                           last := Tab.put none s1.sup.last m (some (if v.bad then (0, 4095) else (lo, hi))) } }
  let s3 := if warn then s2.railWarn m (if hi > s.get CRS_RAIL_HI.WARN m then hi else lo) else s2
  if n ≥ 2 then
    if m.val = 6 && under then powerLost s3
    else if s.fatal then s3
    else brownout s3 m (if under then 0 else 1)
  else s3

def execRailConversion (m : Fin 8) (v : RailReading) (s : State) : Result := .next (railConversion m v s)

/-- RAIL_WARN_CLEAR: the rail's bit clears, where its last reading lies within the hysteresis, and the time of clearing is kept for the
hold (R444). -/
def railWarnClear (m : Fin 8) (s : State) : State :=
  if (s.get CRS_SUP_STS.WARN 0).testBit m && s.railGood m then
    let s1 := s.settleShapers.clearBits CRS_SUP_STS.WARN 0 (2 ^ m.val)
    { s1 with sup := { s1.sup with cleared := Tab.put none s1.sup.cleared m (some (s.timeOf 4)) } }
  else s

def execRailWarnClear (m : Fin 8) (s : State) : Result := .next (railWarnClear m s)

/-- BROWNOUT_RESUME: after a brownout reset, with PERST_N high and every rail within its levels, the start resumes at step 2 (R445,
R447). -/
def brownoutResume (s : State) : State :=
  if s.boot.resume = 2 && s.boot.perst && !s.fatal && s.railsGood then startBegins s 1 else s

def execBrownoutResume (s : State) : Result := .next (brownoutResume s)

/-- A power-down begins, and what falls to electrical idle is lost beyond its port: the agents of the UP ports, and the Zwius
links (R127, R153, R156, R448 step 2). -/
def powerDownStarts (s : State) (cause : Nat) : State :=
  (List.range 64).foldl (fun s p =>
    if s.role p = 1 then s.portDies p else if s.role p = 3 then s.zwlLoss (zIndex p) else s) (powerDownBegins s cause)

/-- PERST_N_ASSERT (R448, R453): ignored and counted under CHIP_FATAL; a start in progress is abandoned; a flush already
running goes on and PERST_N governs what follows; else the orderly power-down begins. -/
def perstNAssert (s : State) : State :=
  let s1 := { s with boot := { s.boot with perst := false } }
  if s.fatal then ignoredReset s1
  else if s.boot.down != 0 then { s1 with boot := { s1.boot with down := 1 } }
  else if s.boot.starting then rootsLost (chipReset ((s1.portsIdle (List.range 64)).slotsOff) 1 0 0 1)
  else if s.boot.resume != 0 then { s1 with boot := { s1.boot with resume := 1 } }
  else powerDownStarts s1 1

def execPerstNAssert (s : State) : Result := .next (perstNAssert s)

/-- WARM_RST_N_ASSERT (R448, R453): no effect while PERST_N is low or a flush runs. -/
def warmRstNAssert (s : State) : State :=
  let s1 := { s with boot := { s.boot with warm := false } }
  if s.fatal then ignoredReset s1
  else if !s.boot.perst || s.boot.down != 0 || s.boot.resume != 0 then s1
  else powerDownStarts s1 2

def execWarmRstNAssert (s : State) : Result := .next (warmRstNAssert s)

/-- WARM_RST_N_DEASSERT: the start resumes at step 4, once the flush has ended (R447). -/
def warmRstNDeassert (s : State) : State :=
  let s1 := { s with boot := { s.boot with warm := true } }
  if s.fatal then s1 else resumes s1

def execWarmRstNDeassert (s : State) : Result := .next (warmRstNDeassert s)

/-- WARM_RESET_CMD: with KEY 0x5752 a warm reset begins; with another key the write is discarded and counted; under CHIP_FATAL
it is ignored and counted (R451, R453). -/
def warmResetCmd (key : BitVec 16) (s : State) : State :=
  if s.fatal then ignoredReset s
  else if key != 0x5752 then s.discard setCrs
  else if s.boot.down != 0 || s.boot.resume != 0 then s
  else powerDownStarts s 3

def execWarmResetCmd (p : Path) (key : BitVec 16) (s : State) : Result :=
  .next (s.commandListed p true setCrs (warmResetCmd key))

/-- Whether the power-down flush has nothing more to do in a region that runs it. -/
def State.flushDone (s : State) : Bool :=
  s.grn.flush.all (fun x => !x.2.running) && s.grn.writes.isEmpty

/-- PD_FLUSH_END: every issued write has completed (R448 step 4). -/
def pdFlushEnd (ms : Nat) (s : State) : State :=
  if s.boot.down != 0 && s.flag KPR_STS.FLUSHING 0 && s.flushDone then
    powerDownEnds s ms 1 (s.dirtyBlocks (fun _ => true))
  else s

def execPdFlushEnd (ms : Nat) (s : State) : Result := .next (pdFlushEnd ms s)

/-- PD_FLUSH_CUTOFF: the flush is cut off with RESULT TRUNCATED, and the dirty blocks left are counted (R449). -/
def pdFlushCutoff (s : State) : State :=
  if s.boot.down != 0 && s.flag KPR_STS.FLUSHING 0 then powerDownEnds s 190 2 (s.dirtyBlocks (fun _ => true)) else s

def execPdFlushCutoff (s : State) : Result := .next (pdFlushCutoff s)

/-- RGN_RST_N_ASSERT: the pin shows in KPR_STS, and the region raises REGION_FATAL with cause CRS_RGN_PIN; under CHIP_FATAL it
is ignored and counted (R452, R453). -/
def rgnRstNAssert (r : Region) (s : State) : State :=
  let s1 := s.setBits KPR_STS.RGN_PIN 0 (2 ^ r.val)
  if s.fatal then ignoredReset s1 else s1.record (regionOcc r setCrs 4)

def execRgnRstNAssert (r : Region) (s : State) : Result := .next (rgnRstNAssert r s)

/-- POWER_ON: the Keeper starts on AON from nothing but its fuses (R447). -/
def powerOn (s : State) : State := powerLost s

def execPowerOn (s : State) : Result := .next (powerOn s)

/-- KEEPER_POWER_LOSS: the chip behaves as unpowered and the retained SRAM is lost (R445). -/
def keeperPowerLoss (s : State) : State := powerLost s

def execKeeperPowerLoss (s : State) : Result := .next (keeperPowerLoss s)

end Sys2Proof.Machine
end

