-- ==== Sys2Proof/Machine/Boot.lean ====
section
/-! DEFINITION. The start sequence: the slots tried, the sections loaded, the firmware started, and the image's binds (R378–R387,
R390–R399). -/
namespace Sys2Proof.Machine
open Sys2Proof

/-! Steps 1 to 4 (R380, R381). -/

/-- PERST_N_DEASSERT: step 1, once a power-down flush under way has ended (R448); the variant fuses are read (R4), and in
FACTORY TEST_MODE is (R542). -/
def perstNDeassert (fuse : KeeperFuses) (test : Bool) (s : State) : State :=
  if s.boot.perst then s
  else
    let s1 := { s with boot := { s.boot with perst := true, fuseRead := fuse.variant, secretRead := fuse.secret
                                             testHold := test && s.get SEC_LC_STS.STATE 0 == 0 } }
    if s.fatal || s.boot.down != 0 || (s.boot.resume != 1 && s.boot.resume != 2) then s1 else startAnew s1
def execPerstNDeassert (fuse : KeeperFuses) (test : Bool) (s : State) : Result := .next (perstNDeassert fuse test s)

/-- The start is at a step and goes on. -/
def State.startAt (s : State) (step : Nat) : Bool := s.boot.starting && !s.fatal && s.get KPR_STS.STEP 0 == step

/-- The order in which the slots are tried (R380). -/
def slotOrder (a b : Flash) : List Nat :=
  let magic (f : Flash) : Bool := flashN f 0 4 == 0x314D5A44
  let seq (f : Flash) : Nat := flashN f 20 4
  if magic b && (!magic a || Nat.blt (seq a) (seq b)) then [1, 0] else [0, 1]

/-- SUPPLY_CHECK_PASS: step 2, once every rail is within its levels (R445, R446), and the headers give the order of the slots. TEST_MODE
holds the start there (R542). -/
def supplyCheckPass (a b : Flash) (s : State) : State :=
  if s.startAt 1 && !s.boot.testHold && s.railsGood then
    let order := slotOrder a b
    { s.set KPR_STS.STEP 0 2 with boot := { s.boot with order := order, toTry := order } }
  else s
def execSupplyCheckPass (slotA slotB : Flash) (s : State) : Result := .next (supplyCheckPass slotA slotB s)

/-- AON as measured against REFCLK after the first ROOT lock (R440, R456). -/
def aonMeasured (ppm : Int) (s : State) : State :=
  if s.flag KPR_AON.CAL 0 then s
  else
    let held := max (-32768) (min 32767 ppm)
    let s1 := (s.set KPR_AON.PPM 0 (ofSigned 16 held)).set KPR_AON.CAL 0 1
    if ppm.natAbs > 30000 then s1.record (blockOcc setCrs 6) else s1

/-- ROOT_LOCK: step 3 in all four regions; fabric time starts at 0 (R231) and supervision takes its source (R441). -/
def rootLock (ppm : Int) (s : State) : State :=
  if s.startAt 2 then
    let s1 := (((s.set CRS_CLK_STS.ROOT_LOCK 0 0xF).set CRS_CLK_STS.REFCLK_OK 0 1).setTime 0).set KPR_STS.STEP 0 3
    aonMeasured ppm (hkSourceSwitch s1)
  else s
def execRootLock (ppm : Int) (s : State) : Result := .next (rootLock ppm s)

/-- SRAM_WIPED: step 4. -/
def sramWiped (s : State) : State := if s.startAt 3 then s.set KPR_STS.STEP 0 4 else s
def execSramWiped (s : State) : Result := .next (sramWiped s)

/-! A slot that is rejected (R385–R387). -/

/-- A slot's result in SEC_BOOT_STS. -/
def State.slotResult (s : State) (slot result : Nat) : State :=
  if slot = 0 then s.set SEC_BOOT_STS.A_RESULT 0 result else s.set SEC_BOOT_STS.B_RESULT 0 result

/-- A slot is rejected: its result, its first failing field where it has one, and SEC_SLOT_REJECTED. -/
def State.slotRejected (s : State) (slot : Nat) (why : Reject) : State :=
  let s1 := s.slotResult slot why.result
  let s2 := if why.result = 10 then s1 else (s1.set SEC_BOOT_FAIL.SECT 0 why.sect).set SEC_BOOT_FAIL.OFFSET 0 why.off
  s2.record (blockOcc setSec 0)

/-- No slot is left: SEC_NO_IMAGE, CHIP_FATAL, and the start ends (R386). -/
def noImage (s : State) : State :=
  let s1 := s.record (blockOcc setSec 1)
  { s1 with boot := { s1.boot with starting := false, toTry := [] } }

/-- What the results of the slots show, from before an internal restart or its like (R385, R387). -/
def keepResults (old new : State) : State :=
  [SEC_BOOT_STS.A_RESULT, SEC_BOOT_STS.B_RESULT, SEC_BOOT_STS.RESTARTS, SEC_BOOT_FAIL.SECT, SEC_BOOT_FAIL.OFFSET].foldl
    (fun n f => keepField old n f 0) new

/-- A late section fails with no other slot to try: as an internal restart, but the start is not resumed (R387). -/
def lateNoImage (s : State) : State :=
  let s1 := (s.portsIdle (List.range 64)).slotsOff
  let s2 := keepField s (keepResults s (rootsKept s1 (chipWiped s1))) KPR_STS.STEP 0
  noImage { s2 with boot := { s2.boot with resume := 0 } }

/-- The running slot fails after its early sections were loaded: an internal restart with the other slot, or none is left (R385,
R387). -/
def lateRejected (why : Reject) (s : State) : State :=
  let s1 := s.slotRejected (s.get SEC_BOOT_STS.SLOT 0) why
  if s1.boot.toTry = [] || s1.get SEC_BOOT_STS.RESTARTS 0 ≥ 1 then lateNoImage s1
  else
    let rest := s1.boot.toTry
    let s2 := (keepResults s1 (internalRestart s1 5)).bump SEC_BOOT_STS.RESTARTS 0 1
    { s2 with boot := { s2.boot with toTry := rest } }

/-! Step 5: the early sections are loaded (R381, R390–R392, R399). -/

/-- The registers of port p that its entry gives (R390), and the link state from which it starts (R252). -/
def loadPort (s : State) (p : Nat) : State :=
  let e (lo w : Nat) : Nat := s.plan p lo w
  let role := e 0 2
  let s1 := (s.set LNK_CTL.LOCK p 1).set PRT_PORT_STS.ROLE p role
  let s2 := if p % 16 ≥ 14 then
      (((s1.set ZWL_CTL.LOCK (zIndex p) 1).set ZWL_CTL.EXP_UNIT (zIndex p) (e 16 2)).set ZWL_CTL.EXP_EN (zIndex p) (e 15 1)) else s1
  if role = 0 then s2
  else
    let s3 := ((((s2.set PRT_PORT_CTL.MAX_RATE p (e 4 3)).set PRT_PORT_CTL.L0P_EN p (e 7 1)).set PRT_PORT_CTL.REVERSAL_EN p (e 8 1)).set
      PRT_PORT_CTL.SRIS p (e 9 1)).set PRT_PORT_CTL.WIDTH_MASK p (e 32 8)
    let s4 := ((s3.set PRT_PORT_CTL.LANE_THR p (e 40 8)).set PRT_PORT_CTL.RETRY_MAX p (e 48 3)).set PRT_PORT_EVT.CAP p (e 4 3)
    let s5 := (s4.set PRT_DN_TMR.PVPERL_MS p (e 64 10)).set PRT_DN_TMR.DETECT_MS p (e 74 14)
    let s6 := ((s5.set LNK_CTL.IDE_REQ p (e 10 1)).set LNK_CTL.FLIT68_EN p (e 11 1)).set LNK_CTL.PCIE_UP_EN p (e 12 1)
    (s6.set PRT_PORT_STS.GANGED p (e 2 1)).setLink p (if role = 2 then stOff else stDetect)

/-- The settings and the calibration of channel c, which is then enabled as its entry says; a sled already inserted begins its
debounce (R391, R399, R414, R418). -/
def loadSlot (s : State) (c : Nat) : State :=
  let v (off n : Nat) : Nat := s.sect 1 (2048 + 32 * c + off) n
  let s1 := (((s.set SPW_CFG0.EN c (v 0 1 % 2)).set SPW_CFG0.DIODE c (v 0 1 / 2 % 2)).set SPW_CFG0.SENSE_UOHM c (v 2 2)).set SPW_CFG0.THRESH c (v 4 2)
  let s2 := ((s1.set SPW_CFG1.SLEW c (v 6 2)).set SPW_CFG1.FAULT_TMR c (v 8 2)).set SPW_CFG1.RAMP_WIN c (v 10 2)
  let s3 := ((s2.set SPW_CFG2.DEBOUNCE_MS c (v 12 2)).set SPW_CFG2.RETRIES c (v 14 1)).set SPW_CFG2.TRIP_C c (v 15 1)
  let s4 := ((s3.set SPW_CAL0.SENSE_OFS c (s.sect 10 (8 * c) 2)).set SPW_CAL0.SENSE_GAIN c (s.sect 10 (8 * c + 2) 2)).set SPW_CAL1.DIODE_N c
    (s.sect 10 (8 * c + 4) 2)
  let s5 := s4.set SPW_SOA_AMB.LOCK c 1
  if v 0 1 % 2 = 1 then
    s5.setSp c (if s.flag SPW_STS.PRSNT_S c && s.flag SPW_STS.PRSNT_L c then spDebounce else spEmpty)
  else s5

/-- The registers that the chip entry gives, of the chip and of every region (R391). -/
def loadChip (s : State) : State :=
  let v (off n : Nat) : Nat := s.sect 1 (3072 + off) n
  let s1 := (((s.set TFC_TIME_CTL.SRC 0 (v 1 1)).set TFC_TIME_CTL.ZL_PORT 0 (v 2 1)).set TFC_TIME_CTL.PERIOD_MS 0 (v 4 2)).set
    TFC_TIME_CTL.STEP_NS 0 (v 6 2)
  (List.range 4).foldl (fun s r =>
    (((s.set CAT_TXN_TMO.TMO_MS r (v 8 2)).set CAT_LOSS_HOLD.HOLD_MS r (v 10 2)).set GRN_DCAP.CAP r (v 16 1)).set
      GRN_SCRUB.PERIOD_H r (v 17 1)) s1

/-- The locks that the start sequence sets at step 5 (R190, R247, R326, R414, R513). -/
def setLocks (s : State) : State :=
  ((List.range 4).foldl (fun s r =>
    ((s.set PRT_LOCK.LOCK r 1).set SWC_VOQ_LOCK.LOCK r 1).set DMV_LOCK.LOCK r 1) s).set SPW_LOCK.LOCK 0 1

/-- A tiller starts its built-in program (R398). -/
def startBuiltIn (s : State) (t : Nat) : State := (s.setTiller t { s.tiller t with script0 := true }).tilStart t 0

/-- The tiller of a port, of a slot channel (R377). -/
def slotTiller (c : Nat) : Nat := 193 + c

/-- The early sections are loaded, the locks set, the slot channels enabled and UP and ZL ports enter Detect: steps 5 and 6. -/
def loadEarly (slot : Nat) (f : Flash) (s : State) : State :=
  let s0 := { s with boot := { s.boot with image := f, early := true } }
  let s1 := (s0.set SEC_BOOT_STS.SLOT 0 slot).set SEC_LC_STS.RB_IMAGE 0 (flashN f 12 1)
  let s2 := (List.range 64).foldl loadPort s1
  let s3 := (List.range 520).foldl (fun s n => s.setWord .PRT_LANE_CTL n
    (putBits (s.word .PRT_LANE_CTL n) 0 12 (s.sect 2 (4 * n) 4))) s2
  let s4 := (List.range 512).foldl (fun s n => s.set SWC_VOQ_LIM.LIMIT n (s.sect 3 (2 * n) 2)) s3
  let s5 := (List.range 64).foldl (fun s c => s.set DMV_CH_CTL.LIB_RSV c (cut (s.sect 1 (3072 + 24) 8) c 1)) (loadChip s4)
  let s6 := setLocks ((List.range 32).foldl loadSlot s5)
  let s7 := ((List.range 64).filter (fun p => s6.role p != 0)).foldl (fun s p => startBuiltIn s (portTiller p)) s6
  let s8 := (List.range 32).foldl (fun s c => startBuiltIn s (slotTiller c)) s7
  let ready := (List.range 4).all (fun r => s8.rgn r == 2 || s8.flag GRN_CTL.READY r)
  s8.set KPR_STS.STEP 0 (if ready then 7 else 6)

/-- The slots are tried in their order, from the header to the last early section; nothing is loaded from a slot until all have
passed. -/
def trySlots (a b : Flash) : List Nat → State → State
  | [], s => noImage s
  | slot :: rest, s =>
    let f := if slot = 0 then a else b
    match earlyCheck s f with
    | none => loadEarly slot f { s with boot := { s.boot with toTry := rest } }
    | some why => trySlots a b rest (s.slotRejected slot why)

/-- The slots still to be tried at this start: a start that resumed at step 4 without an order of its own takes the one read before. -/
def State.candidates (s : State) : List Nat := if s.boot.toTry = [] then s.boot.order else s.boot.toTry

/-- EARLY_SECTIONS_VERIFIED: steps 5 and 6. -/
def earlySectionsVerified (a b : Flash) (s : State) : State := if s.startAt 4 then trySlots a b s.candidates s else s
def execEarlySectionsVerified (slotA slotB : Flash) (s : State) : Result := .next (earlySectionsVerified slotA slotB s)

/-! Steps 8 and 9: the late sections (R393–R399). -/

/-- The groups that the image defines, in every region's copy (R393). -/
def loadGroups (s : State) : State :=
  (List.range (s.sect 4 4 4)).foldl (fun s i =>
    s.putGroup (s.sect 4 (s.groupAt i) 2) (BitVec.ofNat 256 (s.sect 4 (s.groupAt i + 8) 32))) s

/-- The gate list of port p, in bank 0 with the image's BASE (R235, R396). -/
def loadGates (s : State) (p : Nat) : State :=
  let n := s.gateN p
  let base := s.sect 7 (16 * p + 8) 8
  let s1 := (((s.set TFC_GATE_CTL.EN p (s.sect 7 (16 * p) 1)).set TFC_GATE_CTL.ACTIVE p 0).set TFC_GATE_CTL.LEN0 p (n - 1)).setWord
    .TFC_GATE_BASE_LO p (BitVec.ofNat 32 base)
  let s2 := s1.setWord .TFC_GATE_BASE_HI p (BitVec.ofNat 32 (base / 2 ^ 32))
  let s3 := { s2 with tfc := { s2.tfc with base := Tab.put 0 s2.tfc.base p base } }
  (List.range n).foldl (fun s k =>
    let v := s.sect 7 (s.gateAt p + 8 * k) 8
    (s.set TFC_GATE_DUR.DUR_NS (gateKey p 0 k) (cut v 0 30)).set TFC_GATE_MASK.OPEN (gateKey p 0 k) (cut v 32 8)) s3

/-- Program k in the program memory of tiller t. -/
def loadProgram (s : State) (t k : Nat) : State :=
  { s with lib := { s.lib with prog := (List.range (s.progLast k + 1)).foldl (fun m i =>
      Tab.put 0 m (2048 * t + i) (BitVec.ofNat 32 (s.sect 8 (s.progAt k + 4 * i) 4))) s.lib.prog } }

/-- A tiller that the image names is stopped and started at its program's entry; its pending events stay (R398). -/
def startScript (s : State) (t k : Nat) : State :=
  if k = 0 then s
  else
    let s1 := loadProgram s t k
    (s1.setTiller t { s1.tiller t with script0 := false }).tilStart t 0

/-- The program and the entry of handler entry k. -/
def loadHandler (s : State) (k : Nat) : State :=
  (loadProgram s (s.handlerTil k) (s.handler k 2 1)).set TIL_CTL.ENTRY (s.handlerTil k) (s.handler k 4 2)

/-- The late bytes of an image beside the header and the early sections already held. -/
def joinImage (held late : Flash) : Flash :=
  let edge := [4, 5, 6, 7, 8, 9].foldl (fun m ty => min m (sectOff held ty)) (2 ^ 32)
  held.filter (fun (e : Nat × BitVec 8) => e.1 < edge) ++ late.filter (fun (e : Nat × BitVec 8) => edge ≤ e.1)

/-- The late sections are loaded: groups, gate lists, programs, and the version of the firmware. -/
def loadLate (f : Flash) (s : State) : State :=
  let s0 := { s with boot := { s.boot with image := f, late := true } }
  let s1 := (List.range 64).foldl loadGates (loadGroups s0)
  let s2 := (List.range 64).foldl (fun s p => if s.role p = 0 then s else startScript s (portTiller p) (s.plan p 24 7)) s1
  let s3 := (List.range 32).foldl (fun s c => startScript s (slotTiller c) (s.sect 1 (2048 + 32 * c + 1) 1)) s2
  let s4 := (List.range s3.handlers).foldl loadHandler s3
  let s5 := (List.range 4).foldl (fun s r => s.set LIB_CORE_STS.FW_VER r (s.sect 9 4 2)) s4
  (s5.slotResult (s.get SEC_BOOT_STS.SLOT 0) 1).set KPR_STS.STEP 0 8

/-- The early sections are loaded and the late ones are not. -/
def State.awaitsLate (s : State) : Bool := s.boot.starting && !s.fatal && s.boot.early && !s.boot.late

/-- LATE_SECTIONS_CHECKED: step 8, or the slot is rejected (R385). -/
def lateSectionsChecked (flash : Flash) (s : State) : State :=
  if s.awaitsLate then
    let f := joinImage s.boot.image flash
    match lateCheck s f with
    | none => loadLate f s
    | some why => lateRejected why s
  else s
def execLateSectionsChecked (flash : Flash) (s : State) : Result := .next (lateSectionsChecked flash s)

/-- FLASH_READ_TIMEOUT: the slot being read is rejected with FLASH_TIMEOUT (R379). -/
def flashReadTimeout (s : State) : State :=
  if s.startAt 4 then
    match s.candidates with
    | [] => noImage s
    | slot :: rest =>
      let s1 := s.slotRejected slot ⟨10, 0, 0⟩
      if rest = [] then noImage s1 else { s1 with boot := { s1.boot with toTry := rest } }
  else if s.awaitsLate then lateRejected ⟨10, 0, 0⟩ s
  else s
def execFlashReadTimeout (s : State) : Result := .next (flashReadTimeout s)

/-- The regions that are not isolated. -/
def State.regionStays (s : State) (r : Nat) : Bool := s.rgn r != 2

/-- FIRMWARE_STARTED: firmware runs on every core, that of the first running region leads, the handlers start at their entries, and
program memory is locked (R353, R381 step 9, R397). -/
def firmwareStarted (s : State) : State :=
  if s.startAt 8 then
    let run := (List.range 4).filter s.regionStays
    let s1 := run.foldl (fun s r => s.set LIB_CORE_STS.STATE r 1) s
    let s2 := match run with
      | [] => s1
      | r :: _ => s1.set LIB_CORE_STS.LEAD r 1
    let s3 := (List.range 5).foldl (fun s u => s.set TIL_LOCK.LOCK u 1) s2
    let s4 := (List.range s3.handlers).foldl (fun s k =>
      if s.regionStays (s.handlerTil k / 48) then s.tilStart (s.handlerTil k) (s.handler k 4 2) else s) s3
    s4.set KPR_STS.STEP 0 9
  else s
def execFirmwareStarted (s : State) : Result := .next (firmwareStarted s)

/-- The conditions of R383. -/
def State.readyNow (s : State) : Bool :=
  let run := (List.range 4).filter s.regionStays
  s.boot.late && run.all (fun r => s.get LIB_CORE_STS.STATE r == 1 && s.flag GRN_CTL.READY r) &&
    run.all (fun a => run.all (fun b => a == b || s.spray a b == 0))

/-- READY: step 10. FAULT reads (1,0), unless a region has raised REGION_FATAL (R383, R474). -/
def ready (ms : Nat) (s : State) : State :=
  if s.startAt 9 && s.readyNow then
    let s1 := ((s.set KPR_STS.STEP 0 10).set SEC_BOOT_STS.READY 0 1).set SEC_BOOT_STS.READY_MS 0 (min ms 65535)
    { s1 with boot := { s1.boot with starting := false }, flt := { s1.flt with pins := if s1.flt.pins = 1 then 1 else 2 } }
  else s
def execReady (ms : Nat) (s : State) : Result := .next (ready ms s)

/-! The image's binds (R384). -/

/-- Bind entry i is carried out: its record is BOUND, unless its device shelf is withheld or a host would pass its extents (R53, R74);
every host that it names is told after the barrier (R66). -/
def imageBind (s : State) (i : Nat) : State :=
  let x := s.bindShelf i
  let tagged (s : State) : State := { s with bnd := { s.bnd with tag := Tab.put 0 s.bnd.tag x (s.bindTag i) } }
  if rget (s.srec x) rState != 0 || s.windowGone (x % 4) || s.isWithheld x (s.bindRec i) ||
      extentsBreak s (tagged (s.putSrec x (s.bindRec i))) then s
  else
    let s2 := tagged (s.srecCommit x (s.bindRec i))
    ((List.range 64).filter (s.bindNames i)).foldl (fun s h =>
      { s with bnd := { s.bnd with addWait := s.bnd.addWait ++ [(⟨h, x, 1, s.bindTag i, 0⟩ : AddPend)] } }) s2

/-- POOL_DEVICE_ENUMERATED: the Device Serial Number is known, and the binds of the port follow (R150, R384). -/
def poolDeviceEnumerated (port : Port) (serial : BitVec 64) (s : State) : State :=
  if s.flag SEC_BOOT_STS.READY 0 && s.role port = 2 && s.leadRuns && !s.boot.enumerated.contains port.val then
    let s1 := { s with bnd := { s.bnd with serial := Tab.put none s.bnd.serial port (some serial) }
                       boot := { s.boot with enumerated := s.boot.enumerated ++ [port.val] } }
    ((List.range (s1.sect 4 8 4)).filter (fun i => rget (s1.bindRec i) rPort == port.val)).foldl imageBind s1 |>.bindStep
  else s
def execPoolDeviceEnumerated (port : Port) (serial : BitVec 64) (s : State) : Result := .next (poolDeviceEnumerated port serial s)

end Sys2Proof.Machine
end

