-- ==== Sys2Proof/Machine/DmvOps.lean ====
section
/-! DEFINITION. Data-mover channels: the descriptor's fields, CRCs, completion records and their commitment, in-flight
descriptors, and containment at carrel scope (R327, R331, R333, R335, R336, R342, R345, R350). -/
namespace Sys2Proof.Machine
open Sys2Proof

/-! The descriptor's fields (R327). -/
def dOp : CtxFld := (0, 4)
def dSrcFixed : CtxFld := (4, 1)
def dDstFixed : CtxFld := (5, 1)
def dSrcSpace : CtxFld := (6, 2)
def dDstSpace : CtxFld := (8, 2)
def dCrc : CtxFld := (10, 2)
def dAppend : CtxFld := (12, 1)
def dPrio : CtxFld := (13, 1)
def dHint : CtxFld := (14, 2)
def dLen : CtxFld := (32, 32)
def dSrc : CtxFld := (64, 64)
def dDst : CtxFld := (128, 64)
def dSt : CtxFld := (192, 16)
def dSrcPort : CtxFld := (208, 6)
def dSrcLd : CtxFld := (214, 4)
def dDstPort : CtxFld := (218, 6)
def dDstLd : CtxFld := (224, 4)
def dCmdId : CtxFld := (256, 32)

/-- OP values COPY, FILL, CHECK, NOP. -/
def opCopy : Nat := 0
def opFill : Nat := 1
def opCheck : Nat := 2
def opNop : Nat := 3
/-- Whether an OP reads a source, and whether it writes a destination. -/
def opReads (o : Nat) : Bool := o == 0 || o == 2
def opWrites (o : Nat) : Bool := o == 0 || o == 1

/-- Bytes that follow the data: the appended CRC (R331). -/
def crcSize (d : BitVec 512) : Nat := if cget d dCrc = 1 then 4 else 8
def appendLen (d : BitVec 512) : Nat := if cget d dAppend = 1 then crcSize d else 0

/-! CRCs (R331). -/

/-- A polynomial of w bits reflected. -/
def reflect (w p : Nat) : Nat := (List.range w).foldl (fun n k => n + (p / 2 ^ k % 2) * 2 ^ (w - 1 - k)) 0
def crcWidth (mode : Nat) : Nat := if mode = 1 then 32 else 64
def crcPoly (mode : Nat) : Nat := if mode = 1 then reflect 32 0x1EDC6F41 else reflect 64 0xAD93D23594C93659
/-- The initial value, and what the final XOR takes. -/
def crcOnes (mode : Nat) : Nat := 2 ^ crcWidth mode - 1
/-- One byte more. -/
def crcByte (poly c : Nat) (b : Byte) : Nat :=
  (List.range 8).foldl (fun c _ => if c % 2 = 1 then (c / 2) ^^^ poly else c / 2) (c ^^^ b.toNat)
/-- The running CRC over more bytes. -/
def crcRun (mode c : Nat) (bs : List Byte) : Nat := if mode = 0 then c else bs.foldl (crcByte (crcPoly mode)) c

/-- What has come back in sequence is performed: the bytes and the running CRC (R331). -/
def Active.feed : Nat → Active → Active
  | 0, a => a
  | n + 1, a => match a.came.find? (fun e => e.1 == a.bytes) with
    | none => a
    | some e => Active.feed n { a with
        came := a.came.filter (fun x => x.1 != e.1), bytes := a.bytes + e.2.length, crc := crcRun (cget a.desc dCrc) a.crc e.2 }

def Active.feedAll (a : Active) : Active := Active.feed a.came.length a

/-! Channels. -/
def State.dchan (s : State) (c : Nat) : DmvChan := Tab.get {} s.dmv.chan c
def State.setDchan (s : State) (c : Nat) (v : DmvChan) : State := { s with dmv := { s.dmv with chan := Tab.put {} s.dmv.chan c v } }

/-- Bursts outstanding (R326): reads, and writes whose cells have all been issued. -/
def Active.reads (a : Active) : Nat := (a.out.filter (fun e => !e.2.2)).length
def Active.writes (a : Active) : Nat := (a.out.filter (fun e => e.2.2 && !a.wq.any (fun x => x.off == e.1))).length

/-- DMV_CH_STS and DMV_CH_PROG show a channel as it stands. -/
def State.showChan (s : State) (c : Nat) : State :=
  match (s.dchan c).active with
  | none =>
    ((s.set DMV_CH_STS.STATE c (if s.flag DMV_CH_CTL.EN c then 0 else 3)).set DMV_CH_STS.RD_OUT c 0).set DMV_CH_STS.WR_OUT c 0
  | some a =>
    let rd := a.reads
    let s1 := (s.set DMV_CH_STS.STATE c (if a.phase == .held then 2 else 1)).set DMV_CH_STS.SHADOW c (if a.ring.isNone then 1 else 0)
    let s2 := s1.set DMV_CH_STS.ENTRY c (match a.ring with | some (e, _) => e | none => 0)
    let s3 := s2.set DMV_CH_STS.RD_OUT c rd
    (s3.set DMV_CH_STS.WR_OUT c a.writes).set DMV_CH_PROG.DONE_BYTES c (min a.bytes (cget a.desc dLen))

/-- A channel's descriptor as it stands now, shown. -/
def State.setActive (s : State) (c : Nat) (a : Option Active) : State :=
  (s.setDchan c { s.dchan c with active := a }).showChan c

/-- The channel share of a carrel holds channel c (R339). -/
def State.inShare (s : State) (k c : Nat) : Bool :=
  if c < 32 then (s.get CRL_CHAN_LO.MASK_LO k).testBit c else (s.get CRL_CHAN_HI.MASK_HI k).testBit (c - 32)

/-- Ring-table entries of channel c that name rings of carrel k are cleared (R342, R344). -/
def State.clearRings (s : State) (k c : Nat) : State :=
  (List.range 64).foldl (fun s e =>
    let n := 64 * c + e
    if s.flag DMV_CH_RING.V n then
      let x := s.ctx (s.get DMV_CH_RING.QID n)
      if cget x cOwner = 2 && cget x cCarrel = k then s.setWord .DMV_CH_RING n 0 else s
    else s) s

/-! The end of a descriptor. -/

/-- A descriptor is over: its carrel's counters, LAST_STATUS and the completed descriptors, and the channel is free (R324, R335, R343,
R491). A channel removed from
the carrel's share gives up the carrel's rings (R342). -/
def State.conclude' (s : State) (c : Nat) (a : Active) (counted : Bool) : State :=
  let status := a.record / 2 ^ 32 % 256
  let s1 := if counted then s.set DMV_CH_STS.LAST_STATUS c status else s
  let s2 := match a.carrel, counted with
    | some k, true => (s1.carrelCount k (if status = 0 then 0 else 1) 1).carrelCount k 2 (a.record / 2 ^ 128 % 2 ^ 32)
    | _, _ => s1
  let s2 := if counted then s2.count (c / 16) 0x12 (c % 16) 1 else s2
  let s3 := s2.setActive c none
  match a.carrel with
  | some k => if s3.inShare k c then s3 else s3.clearRings k c
  | none => s3

/-- The completion ring of a descriptor: that of its SUBMIT ring's LINK_QID, or of DMV_CH_CTL for a shadow descriptor (R325,
R337). -/
def State.cqOf (s : State) (c : Nat) (a : Active) : Option Nat :=
  match a.ring with
  | some (_, q) => if cget (s.ctx q) cLinkV = 1 then some (cget (s.ctx q) cLinkQid) else none
  | none => if s.flag DMV_CH_CTL.CQ_V c then some (s.get DMV_CH_CTL.CQ_QID c) else none

/-- A completion ring that data movers may use (R335). -/
def isCq (x : BitVec 512) : Bool := isRing x && cget x cUse == 1 && cget x cEsize == 1

/-- An earlier descriptor of the same SUBMIT ring is still performed by another channel: records of one ring are written in
descriptor order (R335). -/
def State.mustWait (s : State) (c : Nat) (a : Active) : Bool :=
  match a.ring, a.seq with
  | some (_, q), some n => s.dmv.chan.any (fun e => e.1 != c && (match e.2.active with
      | some b => !b.abort && !b.freeze && (match b.ring, b.seq with
          | some (_, q2), some m => q2 == q && below32 m n
          | _, _ => false)
      | none => false))
  | _, _ => false

/-- Commit the completion record of a channel (R309, R335, R336): it waits for its turn or for the ring's context, is written, or
is held while the ring is full. A ring that data movers may not use takes no record. -/
def State.tryCommit (s : State) (c : Nat) : State :=
  match (s.dchan c).active with
  | none => s
  | some a =>
    if !(a.phase == .order || a.phase == .wait || a.phase == .held) then s
    else if s.mustWait c a then s
    else match s.cqOf c a with
      | none => s.conclude' c a true
      | some q =>
        let bytes := (List.range 32).map (fun k => BitVec.ofNat 8 (a.record / 256 ^ k))
        if !s.cached q then
          if a.phase == .wait then s else (s.waitCtx q (.item q bytes (.channel c))).setActive c (some { a with phase := .wait })
        else
          let s1 := s.useCtx q
          if !isCq (s1.ctx q) || s1.rgn (qidRegion q) == 2 then s1.conclude' c a true
          else match s1.ringWrite q bytes with
            | (s2, true) => s2.conclude' c a true
            | (s2, false) => (s2.qmgError q 3 1).setActive c (some { a with phase := .held })

/-- Records that waited for an earlier descriptor of their ring take their turn (R335). -/
def State.nextRecords (s : State) : State :=
  (List.range 64).foldl (fun s _ =>
    (s.dmv.chan.filter (fun e => match e.2.active with
      | some a => a.phase == .order
      | none => false)).foldl (fun s e => s.tryCommit e.1) s) s

/-- A descriptor ends without a record (R333 race, R345, R468). -/
def State.dropActive (s : State) (c : Nat) : State :=
  match (s.dchan c).active with
  | none => s
  | some a => (s.conclude' c a false).nextRecords

/-- The completion record of a status (R335). With CRC_VALID 0 and a CRC_MODE, the spec gives CRC no value: a free value. -/
def State.makeRecord (s : State) (a : Active) (status done fa : Nat) : Nat × State :=
  let d := a.desc
  let mode := cget d dCrc
  let valid := mode != 0 && cget d dOp != opNop && (status = 0 || status = 7)
  let crc := if mode = 0 then 0
    else if valid then a.crc ^^^ crcOnes mode
    else Config.freeValue s.free % 2 ^ crcWidth mode
  let sq := match a.ring with | some (_, q) => q | none => 0xFFFFF
  (cget d dCmdId + status * 2 ^ 32 + sq * 2 ^ 40 + (if valid then 2 ^ 60 else 0) + crc * 2 ^ 64
      + done % 2 ^ 32 * 2 ^ 128 + fa % 2 ^ 64 * 2 ^ 160,
    if mode != 0 && !valid then { s with free := s.free + 1 } else s)

/-! Sanitizing (R73, R74). -/

/-- The RELEASING shelf that a descriptor sanitizes: a FILL of zeros over its whole device shelf. -/
def State.sanitizes (s : State) (d : BitVec 512) : Option Nat :=
  if cget d dOp = opFill && cget d dSrc = 0 && cget d dDstSpace = 2 && cget d dDstFixed = 0 && cget d dLen = 2 ^ 28 then
    (s.bnd.shelf.find? (fun e => rget e.2 rState == 2 && rget e.2 rSanitize == 1 && rget e.2 rPort == cget d dDstPort &&
      rget e.2 rLd == cget d dDstLd && rget e.2 rDev * 2 ^ 28 == cget d dDst)).map (fun e => e.1)
  else none

/-- A sanitize attempt ends (R74): after the fourth that failed, the record is written FREE with its other fields kept (R57), the device shelf is withheld from
every later bind and recorded, and SANITIZE_FAILED is raised. -/
def State.sanitizeEnd (s : State) (d : BitVec 512) (status : Nat) : State :=
  match s.sanitizes d with
  | none => s
  | some x =>
    let n := if status = 0 then 0 else Tab.get 0 s.bnd.sanit x + 1
    let s1 := { s with bnd := { s.bnd with sanit := Tab.put 0 s.bnd.sanit x (n % 4) } }
    if n < 4 then s1
    else
      let o := s1.srec x
      let s2 := { s1 with bnd := { s1.bnd with withheld := s1.bnd.withheld ++ [(rget o rPort, rget o rLd, rget o rDev)] } }
      let free := rput (rput o rState 0) rLost 0
      (((s2.commitSrec x free).owes x 2 0).record (occ (bndSet (x % 4)) 4 3 x)).archive (x % 4) 0x312 3 x (rget o rPort * 2 ^ 32 + rget o rDev) 0

/-- A descriptor completes with a status, DONE_BYTES and FAULT_ADDR (R333, R335): its record is to be committed. -/
def State.finish (s : State) (c : Nat) (a : Active) (status done fa : Nat) : State :=
  let (v, s1) := s.makeRecord a status done fa
  let s2 := s1.sanitizeEnd a.desc status
  ((s2.setActive c (some { a with phase := .order, record := v })).tryCommit c).nextRecords

/-! In-flight descriptors (R345). -/

/-- In-flight descriptors of a carrel, those of one ring in descriptor order. -/
def keepIn (x : Inflight) : List Inflight → List Inflight
  | [] => [x]
  | y :: ys => match x.seq, y.seq with
    | some n, some m => if x.ring.2 = y.ring.2 && below32 n m then x :: y :: ys else y :: keepIn x ys
    | _, _ => y :: keepIn x ys

/-- A descriptor that stopped at a burst boundary is kept for its carrel, without a record. -/
def State.keepActive (s : State) (c k : Nat) (a : Active) : State :=
  let x : Inflight :=
    { desc := a.desc, bytes := a.bytes, crc := a.crc, chan := c, ring := a.ring.getD (0, 0)
      poison := a.poison, last := a.last, lastP := a.lastP, seq := a.seq }
  let s1 := { s with dmv := { s.dmv with kept := Tab.put [] s.dmv.kept k (keepIn x (Tab.get [] s.dmv.kept k)) } }
  s1.dropActive c

/-- In-flight descriptors handed to channels and not yet resumed go back to their carrel. -/
def State.takeBack (s : State) (k : Nat) : State :=
  s.dmv.chan.foldl (fun s e =>
    let mine := (e.2.resume.filter (fun x => x.1 == k)).map (fun x => x.2)
    if mine = [] then s
    else
      let s1 := s.setDchan e.1 { s.dchan e.1 with resume := (s.dchan e.1).resume.filter (fun x => x.1 != k) }
      { s1 with dmv := { s1.dmv with kept := Tab.put [] s1.dmv.kept k (mine.foldl (fun l x => keepIn x l) (Tab.get [] s1.dmv.kept k)) } }) s

/-! Carrels. -/

/-- The valid queue contexts (R300), by the first byte of each context. -/
def State.contexts (s : State) : List Nat :=
  (s.hbm.filter (fun e =>
    let o := e.1 % 2 ^ 35
    0x500000000 ≤ o && o < 0x500800000 && o % 64 == 0 && e.2.getLsbD 0)).map
    (fun e => e.1 / 2 ^ 35 * 2 ^ 17 + (e.1 % 2 ^ 35 - 0x500000000) / 64)
/-- Those of a carrel. -/
def State.carrelQueues (s : State) (k : Nat) : List Nat :=
  s.contexts.filter (fun q => cget (s.ctx q) cOwner == 2 && cget (s.ctx q) cCarrel == k)

/-- A carrel's FREEZE has come to an end: RESULT of the command that gave it, LATE after 100 µs (R345). -/
def State.frozen (s : State) (k : Nat) : State :=
  let late := s.timeOf 4 > Tab.get 0 s.dmv.froze k + 100000
  let s1 := s.set CRL_CFG.STATE k 3
  let s2 := if s1.dmv.freezing = some k then
      let t := (s1.set CRL_CMD.RESULT 0 (if late then 3 else 0)).set CRL_CMD.BUSY 0 0
      { t with dmv := { t.dmv with freezing := none } }
    else s1
  let s3 := { s2 with dmv := { s2.dmv with froze := Tab.put 0 s2.dmv.froze k 0 } }
  if late then s3.record (occ setCrl 0 2 k) else s3

/-- A descriptor of a carrel completes with CARREL_RESET where its ring takes the record, and without one otherwise (R350). -/
def State.resetActive (s : State) (c : Nat) (a : Active) : State :=
  let done := min a.bytes (cget a.desc dLen)
  let s1 := s.finish c a 8 done 0
  match (s1.dchan c).active with
  | some b => if b.phase == .held then s1.dropActive c else s1
  | none => s1

/-- The owner is interrupted once for every valid context with IRQ_EN, and ARMED of the carrel's rings clears (R350). -/
def State.carrelIrqs (s : State) (k : Nat) : State :=
  (s.carrelQueues k).foldl (fun s q =>
    let x := s.ctx q
    let s1 := if cget x cIrqEn = 1 then s.ownerIrq q x else s
    if cget x cDisc = 0 then s1.setCtx q (cput x cArmed 0) else s1) s

/-- CONTAINED at carrel scope (R350, R467): the carrel is frozen at once with ERROR. A descriptor that is still being read completes
with CARREL_RESET when it arrives, since its record needs its CMD_ID. -/
def State.carrelContained (s : State) (k : Nat) : State :=
  if s.get CRL_CFG.STATE k = 0 then s
  else
    let s1 := (s.takeBack k).dmv.chan.foldl (fun s e => match e.2.active with
      | some a =>
        if a.carrel = some k && a.phase == .fetch then s.setActive e.1 (some { a with reset := true })
        else if a.carrel = some k && (a.phase == .run || a.phase == .readback) then s.resetActive e.1 a else s
      | none => s) (s.takeBack k)
    let s2 := if s1.get CRL_CFG.STATE k = 2 then s1.frozen k else s1.set CRL_CFG.STATE k 3
    (s2.set CRL_CFG.ERROR k 1).carrelIrqs k

/-- A host access for a context fails (R322): CONTAINED at the scope of its carrel, or of its port. -/
def State.hostAccessFail (s : State) (q : Nat) : State :=
  let x := s.ctx q
  let r := qidRegion q
  let s1 := s.qmgCapture r q 3
  if cget x cOwner = 2 then (s1.record (occ (qmgSet r) 5 2 (cget x cCarrel))).carrelContained (cget x cCarrel)
  else (s1.record (occ (qmgSet r) 5 1 (cget x cPort))).portContained (cget x cPort)

end Sys2Proof.Machine
end

