-- ==== Sys2Proof/Machine/Movers.lean ====
section
/-! DEFINITION. The commands of the data movers: descriptors taken and checked, bursts, read-backs, held records, aborts, and the
ring table (chapter Data Movers, Carrels and Migration). -/
namespace Sys2Proof.Machine
open Sys2Proof

/-! Taking a descriptor (R324, R326, R337, R547). -/

/-- A ring-table entry of a channel may be served now. -/
def State.servable (s : State) (c e : Nat) : Bool :=
  let n := 64 * c + e
  let q := s.get DMV_CH_RING.QID n
  let x := s.ctx q
  s.flag DMV_CH_RING.V n && isRing x && cget x cUse == 0 && cget x cProd != cget x cCons && s.rgn (qidRegion q) != 2
    && (cget x cOwner != 2 || s.get CRL_CFG.STATE (cget x cCarrel) == 1)
    && (!s.flag DMV_CH_CTL.LIB_RSV c || cget x cOwner == 0)

/-- The shadow set's 64 bytes. -/
def State.shadow (s : State) (c : Nat) : BitVec 512 :=
  BitVec.ofNat 512 (((List.range 16).map (fun k => (s.word .DMV_SHD_D (16 * c + k)).toNat * 2 ^ (32 * k))).sum)

/-- An output takes nothing from a channel in a class: it is gated closed, or its class is held (R185, R195, R229). -/
def State.feedShut (s : State) (p tc : Nat) : Bool := !s.gateOpen p tc || s.get SWC_OVF_STS.CELLS p ≥ 524288

/-- The ring entry at CONS is read from host memory, and CONS advances (R325, R547): a read of 64 bytes that the channel's shaper charges
(R229), on TC1. The spec gives the read of a descriptor no priority field: bulk (DESIGN CHOICE, log entry 85). -/
def State.takeEntry (s : State) (c e : Nat) : State :=
  let q := s.get DMV_CH_RING.QID (64 * c + e)
  match if s.feedShut (cget (s.ctx q) cPort) 1 then none else s.charge c 64 with
  | none => s.showChan c
  | some s =>
    let s0 := (if s.cached q then s else (s.bump QMG_CACHE_STS.MISSES (qidRegion q) 1).count (qidRegion q) 0x10 0 1).useCtx q
    let x := s0.ctx q
    let s1 := s0.send (c / 16) s0.unit (cget x cPort) 1 [9]
      (.hostRead (cget x cPort) (cget x cPasid) (cget x cBase + entryOff x (cget x cCons)) 64)
    let s2 := (s1.setCtx q (cput x cCons (cget x cCons + 1))).indexDue q x
    let a : Active := { ring := some (e, q), carrel := if cget x cOwner = 2 then some (cget x cCarrel) else none
                        seq := some (cget x cCons) }
    (s2.setDchan c { s2.dchan c with last := e + 1 }).setActive c (some a)

/-- DESCRIPTOR_FETCH: at a descriptor boundary a channel that is enabled takes an in-flight descriptor of a thawed carrel, else
its armed shadow set, else the next ring entry in rotation. A parity error in the table entry of the ring's carrel is CONTAINED at its
scope, and nothing is taken (R349). -/
def descriptorFetch (x : FetchLook) (s : State) : State :=
  let c := x.chan.val
  let ch := s.dchan c
  if ch.active.isSome || !s.flag DMV_CH_CTL.EN c || s.rgn (c / 16) == 2 || s.boot.down != 0 then s
  else match ch.resume with
    | (k, x) :: rest =>
      let a : Active :=
        { desc := x.desc, ring := some x.ring, carrel := some k, phase := .run, issued := x.bytes, bytes := x.bytes
          crc := x.crc, poison := x.poison, last := x.last, lastP := x.lastP, seq := x.seq }
      (s.setDchan c { ch with resume := rest }).setActive c (some a)
    | [] =>
      if s.flag DMV_SHD_CTL.ARM c then
        let s1 := (s.set DMV_SHD_CTL.ARM c 0).set DMV_SHD_CTL.TAKEN c (s.get DMV_SHD_CTL.TAKEN c + 1)
        s1.setActive c (some { desc := s.shadow c })
      else match ((List.range 64).map (fun i => (ch.last + i) % 64)).find? (fun e => s.servable c e) with
        | some e =>
          let y := s.ctx (s.get DMV_CH_RING.QID (64 * c + e))
          if x.bad && cget y cOwner = 2 then (s.record (occ setCrl 2 2 (cget y cCarrel))).carrelContained (cget y cCarrel)
          else s.takeEntry c e
        | none => s.showChan c
def execDescriptorFetch (c : FetchLook) (s : State) : Result := .next (descriptorFetch c s)

/-- DESCRIPTOR_READ_ERROR: the descriptor ends without a record, and QMG_HOST_ACCESS_FAIL is raised on its ring (R322, R547). -/
def descriptorReadError (c : Chan) (s : State) : State :=
  match (s.dchan c).active with
  | some a => (match a.phase, a.ring with
    | .fetch, some (_, q) => (s.dropActive c).hostAccessFail q
    | _, _ => s)
  | none => s
def execDescriptorReadError (c : Chan) (s : State) : Result := .next (descriptorReadError c s)

/-! The check of a descriptor (R327–R329). -/

/-- The role that a port of a space has: UP for HOST, DN for DEVICE. -/
def spaceRole (space : Nat) : Nat := if space = 0 then 1 else 2

/-- One side breaks R329: its SPACE, its port, its zero bits, or its alignment; `used` when the OP has that side. -/
def State.sideBad (s : State) (c : Nat) (carrel : Bool) (used : Bool) (space port ld fixed addr len : Nat) : Bool :=
  space == 3
    || (space == 2 && !s.flag DMV_CH_CTL.LIB_RSV c)
    || (space != 2 && ld != 0)
    || (port != 0 && (space == 1 || (space == 0 && carrel)))
    || (used && (space == 2 || (space == 0 && !carrel)) && s.role port != spaceRole space)
    || (used && fixed == 1 && (addr % 64 != 0 || len % 64 != 0))

/-- The channel completes a descriptor with BAD_DESC (R329). A carrel's descriptor names POOL only where its template permits it
(R341, R395). -/
def State.badDesc (s : State) (c : Nat) (a : Active) : Bool :=
  let d := a.desc
  let o := cget d dOp
  let carrel := a.carrel.isSome
  bits d 16 16 != 0 || bits d 228 28 != 0 || bits d 288 224 != 0 || o > 3 || cget d dCrc == 3 || cget d dHint == 3
    || cget d dLen == 0
    || s.sideBad c carrel (opReads o) (cget d dSrcSpace) (cget d dSrcPort) (cget d dSrcLd) (cget d dSrcFixed) (cget d dSrc) (cget d dLen)
    || s.sideBad c carrel (opWrites o) (cget d dDstSpace) (cget d dDstPort) (cget d dDstLd) (cget d dDstFixed) (cget d dDst)
      (cget d dLen)
    || (cget d dAppend == 1 && (cget d dDstFixed == 1 || o == opCheck || cget d dCrc == 0))
    || (cget d dHint == 1 && cget d dDstSpace != 1) || (cget d dHint == 2 && cget d dDstSpace != 0)
    || (cget d dHint != 2 && cget d dSt != 0)
    || (match a.carrel with
        | some k => s.tplOf k 19 1 == 0 && ((opReads o && cget d dSrcSpace == 1) || (opWrites o && cget d dDstSpace == 1))
        | none => false)

/-- A descriptor arrives at its channel: the one that was read, or the shadow contents that were taken. One outside the listed
OPs comes as DMV_COPY. It is checked, and a NOP completes at once (R327, R329). -/
def arrive (op : Nat) (c : Nat) (desc : BitVec 512) (s : State) : State :=
  match (s.dchan c).active with
  | none => s
  | some a =>
    if a.phase != .fetch then s
    else
      let d := if a.ring.isSome then desc else a.desc
      let o := cget d dOp
      if (if o > 3 then opCopy else o) != op then s
      else
        let b := { a with desc := d, phase := DmvPhase.run, crc := crcOnes (cget d dCrc) }
        match a.carrel with
        | some k =>
          if a.reset then s.finish c b 8 0 0
          else if a.freeze then s.keepActive c k b
          else if s.badDesc c b then s.finish c b 6 0 0
          else if o = opNop then s.finish c b 0 (cget d dLen) 0
          else s.setActive c (some b)
        | none =>
          if s.badDesc c b then s.finish c b 6 0 0
          else if o = opNop then s.finish c b 0 (cget d dLen) 0
          else s.setActive c (some b)

def dmvCopy (c : Chan) (desc : BitVec 512) (s : State) : State := arrive opCopy c desc s
def execDmvCopy (c : Chan) (desc : BitVec 512) (s : State) : Result := .next (dmvCopy c desc s)
def dmvFill (c : Chan) (desc : BitVec 512) (s : State) : State := arrive opFill c desc s
def execDmvFill (c : Chan) (desc : BitVec 512) (s : State) : Result := .next (dmvFill c desc s)
def dmvCheck (c : Chan) (desc : BitVec 512) (s : State) : State := arrive opCheck c desc s
def execDmvCheck (c : Chan) (desc : BitVec 512) (s : State) : Result := .next (dmvCheck c desc s)
def dmvNop (c : Chan) (desc : BitVec 512) (s : State) : State := arrive opNop c desc s
def execDmvNop (c : Chan) (desc : BitVec 512) (s : State) : Result := .next (dmvNop c desc s)

/-! Accesses (R59, R61, R80, R328). -/

/-- Where a side of a descriptor reaches: space, port, and PASID or logical device. -/
def State.sideOf (s : State) (a : Active) (dst : Bool) : Nat × Nat × Nat :=
  let d := a.desc
  let space := if dst then cget d dDstSpace else cget d dSrcSpace
  let port := if dst then cget d dDstPort else cget d dSrcPort
  let ld := if dst then cget d dDstLd else cget d dSrcLd
  match space, a.carrel with
  | 0, some k => (0, s.carrelPort k, s.get CRL_CFG.PASID k)
  | 0, none => (0, port, 0)
  | 1, _ => (1, 0, 0)
  | _, _ => (2, port, ld)

/-- The parts of an access that one 4 KiB page each holds (R80). -/
def pageParts (addr n : Nat) : List (Nat × Nat) :=
  if n ≤ 4096 - addr % 4096 then [(addr, n)] else [(addr, 4096 - addr % 4096), (addr + (4096 - addr % 4096), n - (4096 - addr % 4096))]

/-- A part of a pool access as the home checks it (R61). For an access of the manager or the Librarian the spec names no agent:
a free value. -/
def State.poolAccess (s : State) (a : Active) (fa : Nat) : Access × State :=
  let hint := cget a.desc dHint == 1
  match a.carrel with
  | some k => ({ agent := agentId s.unit (s.carrelPort k) 0, tag := 0, addr := BitVec.ofNat 48 fa, port := 0, src := .carrel (BitVec.ofNat 12 k) hint, rep := false }, s)
  | none => ({ agent := BitVec.ofNat 10 (Config.freeValue s.free), tag := 0, addr := BitVec.ofNat 48 fa, port := 0, src := .owner hint, rep := false },
      { s with free := s.free + 1 })

/-- The first refused byte of a pool access, if any, with its refusal recorded and counted (R60, R80, R343, R468). -/
def State.poolRefused (s : State) (a : Active) (addr n : Nat) (rd wr : Bool) : Option Nat × State :=
  let check (s : State) (fa : Nat) : Option (Nat × Nat) × Access × State :=
    let (x, t) := s.poolAccess a fa
    (t.lookup x (fa % 2 ^ 48) rd wr, x, t)
  (pageParts addr n).foldl (fun (acc : Option Nat × State) part =>
    match acc with
    | (some f, s) => (some f, s)
    | (none, s) =>
      let fa := part.1 % 2 ^ 48
      let fault (s : State) : State := match a.carrel with
        | some k => s.carrelCount k 3 1
        | none => s
      if s.rgn (homeOf fa) == 2 then (some part.1, fault s)
      else match check s fa with
        | (some why, x, t) => (some part.1, fault (t.refuse x fa why))
        | (none, _, t) => (none, if a.carrel.isNone then s else t)) (none, s)

/-- The first error of a descriptor stands (R333): its status, FAULT_ADDR, and DONE_BYTES below every failed burst, or LEN where
the last burst fails. -/
def Active.fail (a : Active) (status off n fa : Nat) : Active :=
  let done := if off + n ≥ cget a.desc dLen then cget a.desc dLen else off
  match a.err with
  | none => { a with err := some (status, done, fa) }
  | some (st, d, f) => { a with err := some (st, min d done, f) }

/-- The address of a side at an offset. -/
def sideAddr (d : BitVec 512) (dst : Bool) (off : Nat) : Nat :=
  if dst then cget d dDst + (if cget d dDstFixed = 1 then 0 else off)
  else cget d dSrc + (if cget d dSrcFixed = 1 then 0 else off)

/-- The first byte of the line that holds the last byte written (R332). -/
def lastLine (d : BitVec 512) : Nat :=
  if cget d dDstFixed = 1 then cget d dDst / 64 * 64 else (cget d dDst + cget d dLen + appendLen d - 1) / 64 * 64

/-- Bytes written at an address are noted where they fall in the last line. -/
def Active.noteLast (a : Active) (addr off : Nat) (bs : List Byte) (poison : Bool) : Active :=
  let line := lastLine a.desc
  if cget a.desc dDstFixed = 1 && off + bs.length < cget a.desc dLen then a
  else
    let mine := (bs.zipIdx.map (fun e => (addr + e.2, e.1))).filter (fun e => line ≤ e.1 && e.1 < line + 64)
    { a with last := mine.foldl (fun t e => Tab.insert t (e.1 - line) e.2) a.last, lastP := a.lastP || (poison && mine != []) }

/-- The class of a descriptor's cells (R220, R327). -/
def dmvClass (d : BitVec 512) : Nat := if cget d dPrio = 0 then 1 else 0

/-- The credits of an access of n bytes at the port of a side (R268): a posted or non-posted TLP at a host, one request for each line at
a device of DEVICE space. -/
def dmvNeed (space n : Nat) (write : Bool) : List Nat :=
  if space = 0 then (if write then 8 :: List.replicate ((n + 15) / 16) 11 else [9])
  else List.replicate ((n + 63) / 64) (if write then 1 else 0)

/-- A message of a channel toward a side: to a port as a cell of the region's internal source, to the pool as an access that its home
takes (R185, R220, R328). -/
def State.dmvSend (s : State) (c : Nat) (d : BitVec 512) (space port n : Nat) (write : Bool) (m : Msg) (bytes : List Byte) : State :=
  if space = 1 then s.emit m else s.send (c / 16) s.unit port (dmvClass d) (dmvNeed space n write) m bytes

/-- A read of a channel (R229, R330): from a device of DEVICE space it goes in requests for at most four lines. -/
def State.dmvAsk (s : State) (c : Nat) (d : BitVec 512) (side : Nat × Nat × Nat) (addr n : Nat) : State :=
  let (space, port, sub) := side
  if space = 2 then
    (List.range ((n + 255) / 256)).foldl (fun s i =>
      let m := min 256 (n - 256 * i)
      s.dmvSend c d space port m false (.dmvRead c space port sub (addr + 256 * i) m) []) s
  else s.dmvSend c d space port n false (.dmvRead c space port sub addr n) []

/-- The write cells of consecutive bytes: 256 bytes each (R184). -/
def dmvCells (off addr : Nat) (bs : List Byte) (poison : Bool) : List DmvCell :=
  let n := (bs.length + 255) / 256
  (List.range n).map (fun i => ⟨off, addr + 256 * i, (bs.drop (256 * i)).take 256, poison, i + 1 == n⟩)

/-- A write of a descriptor (R328, R330): checked part by part, the parts before the first refused one put in the channel's staging. -/
def State.dmvPut (s : State) (a : Active) (off : Nat) (bs : List Byte) (poison : Bool) : State × Active :=
  let d := a.desc
  let addr := sideAddr d true off
  let (bad, s1) := if (s.sideOf a true).1 = 1 then s.poolRefused a addr bs.length false true else (none, s)
  let good := match bad with | some f => bs.take (f - addr) | none => bs
  let a1 := { a.noteLast addr off good poison with
    wq := a.wq ++ dmvCells off addr good poison
    out := if good = [] then a.out else a.out ++ [(off, good.length, true)] }
  match bad with
  | some f => (s1, a1.fail 1 (off + good.length) (bs.length - good.length) f)
  | none => (s1, a1)

/-! Bursts (R330). -/

/-- The length of the burst at an offset. -/
def burstLen (d : BitVec 512) (off : Nat) : Nat :=
  let o := cget d dOp
  let left := cget d dLen - off
  if (opReads o && cget d dSrcFixed = 1) || (opWrites o && cget d dDstFixed = 1) then min 64 left
  else
    let addr := (if o = opCheck then cget d dSrc else cget d dDst) + off
    min (4096 - addr % 4096) left

/-- The bytes of a FILL at an offset: the pattern repeats from destination byte 0. -/
def fillBytes (d : BitVec 512) (off n : Nat) : List Byte :=
  (List.range n).map (fun i => BitVec.ofNat 8 (cget d dSrc / 256 ^ ((off + i) % 8)))

/-- A channel waits while its class is held or gated closed at an output that it feeds (R185, R195, R229). -/
def State.outputShut (s : State) (a : Active) (dst : Bool) : Bool :=
  match s.sideOf a dst with
  | (1, _, _) => false
  | (_, p, _) => s.feedShut p (dmvClass a.desc)

/-- A channel begins to wait, on its shaper, a gate or a full area; one that waits goes on waiting. -/
def State.dmvWaits (s : State) (c : Nat) (a : Active) : Active := { a with since := some (a.since.getD (s.timeOf (c / 16))) }

/-- Waiting has ended: the time is counted in µs (TFC_SHP_STS, R343). -/
def State.shaperWaited (s : State) (c : Nat) (a : Active) : State :=
  match a.since with
  | none => s
  | some t0 =>
    let us := (s.timeOf (c / 16) - t0) / 1000
    let s1 := s.bump TFC_SHP_STS.WAIT_US c us
    match a.carrel with
    | some k => s1.carrelCount k 10 us
    | none => s1

/-- A charge of n bytes toward a side (R229): none when the channel must wait. -/
def State.dmvCharge (s : State) (c : Nat) (a : Active) (dst : Bool) (n : Nat) : Option State :=
  if s.outputShut a dst then none else (s.charge c n).map (fun t => t.shaperWaited c a)

/-- The write of a burst is performed: to a host once its cells are issued, to the pool or a device when it completes (R330, R332). -/
def State.dmvWritten (s : State) (c : Nat) (a : Active) (off n : Nat) : State × Active :=
  let b := { a with out := a.out.filter (fun e => e.1 != off) }
  if cget a.desc dOp = opFill && off < cget a.desc dLen then
    (s.count (c / 16) 0x11 (c % 16) n, Active.feedAll { b with came := b.came ++ [(off, fillBytes a.desc off n)] })
  else (s, b)

/-- The cells in a channel's staging are issued in order, each charged 256 bytes, while at most 64 writes are outstanding (R185, R229,
R326). -/
def issueWrites : Nat → State → Nat → Active → State × Active
  | 0, s, _, a => (s, a)
  | k + 1, s, c, a => match a.wq with
    | [] => (s, a)
    | x :: rest => match if a.writes ≥ 64 then none else s.dmvCharge c a true 256 with
      | none => (s, if a.writes ≥ 64 then a else s.dmvWaits c a)
      | some t =>
        let d := a.desc
        let (space, port, sub) := t.sideOf a true
        let t1 := t.dmvSend c d space port x.bytes.length true
          (.dmvWrite c space port sub x.addr x.bytes x.poison (cget d dHint) (cget d dSt)) x.bytes
        let b := { a with since := none, wq := rest }
        let n := ((b.out.find? (fun e => e.1 == x.off)).map (fun e => e.2.1)).getD 0
        let (t2, b2) := if x.last && space = 0 then t1.dmvWritten c b x.off n else (t1, b)
        issueWrites k t2 c b2

def State.dmvIssue (s : State) (c : Nat) (a : Active) : State × Active := issueWrites a.wq.length s c a

/-- A DEVICE side of a descriptor names a port whose link is down (R334). -/
def State.deviceDown (s : State) (a : Active) : Bool :=
  let o := cget a.desc dOp
  let down (dst : Bool) : Bool := match s.sideOf a dst with
    | (2, p, _) => !s.inService p
    | _ => false
  (opReads o && down false) || (opWrites o && down true)

/-- The re-shelvings whose copy a descriptor performs at an offset: from the source of the record to its target (R83). -/
def State.copied (s : State) (d : BitVec 512) (off : Nat) : List (Nat × RshSlot) :=
  if cget d dOp = opCopy && cget d dSrcSpace = 2 && cget d dDstSpace = 2 then
    s.bnd.rsh.filter (fun e =>
      let x := s.srec e.2.shelf
      e.2.active && rget x rPort == cget d dSrcPort && rget x rLd == cget d dSrcLd &&
        rget x rDev == sideAddr d false off / 2 ^ 28 &&
        rget x rAltPort == cget d dDstPort && rget x rAltLd == cget d dDstLd && rget x rAltDev == sideAddr d true off / 2 ^ 28)
  else []

/-- The copier of a re-shelving clears the mark of a page before it reads the page from the source (R83). -/
def State.clearMarks (s : State) (d : BitVec 512) (off n : Nat) : State :=
  (s.copied d off).foldl (fun s e =>
    (pageParts (sideAddr d false off) n).foldl (fun s p => s.markPage e.1 (p.1 % 2 ^ 28 / 4096) false) s) s

/-- An error that the target of a re-shelving's copy returns ends the re-shelving with TARGET_FAIL (R86). -/
def State.targetFails (s : State) (d : BitVec 512) (off : Nat) : State :=
  (s.copied d off).foldl (fun s e => s.rshAbort e.1 1) s

/-- A descriptor that waits for nothing goes on (R332, R333, R345): an abort or a freeze takes effect, an error completes it, and
once every byte is performed its last line is read back, which the shaper charges (R229), or a CHECK completes. -/
def State.settleDmv (s : State) (c : Nat) : State :=
  match (s.dchan c).active with
  | none => s
  | some a =>
    let d := a.desc
    if a.phase != .run || a.out != [] || a.wq != [] then s
    else if a.abort then
      (((s.dropActive c).set DMV_CH_CMD.RESULT c 0).set DMV_CH_CMD.BUSY c 0).set DMV_CH_CMD.DONE c 1
    else match a.err with
      | some (st, done, fa) => s.finish c a st done (if st = 1 then fa else 0)
      | none =>
        if a.freeze && a.issued < cget d dLen then
          match a.carrel with
          | some k => s.keepActive c k a
          | none => s
        else if a.issued < cget d dLen + appendLen d then s
        else if cget d dOp = opCheck then s.finish c a (if a.poison then 2 else 0) (cget d dLen) 0
        else
          let line := lastLine d
          let (bad, s1) := if (s.sideOf a true).1 = 1 then s.poolRefused a line 64 true false else (none, s)
          match bad with
          | some f => s1.finish c a 1 (cget d dLen) f
          | none => match s1.dmvCharge c a true 64 with
            | none => s.setActive c (some (s.dmvWaits c a))
            | some t => (t.setActive c (some { a with since := none, phase := .readback })).dmvAsk c d (t.sideOf a true) line 64

/-- The source data of a COPY burst are in hand: they are written, and the write stays outstanding (R330). -/
def State.dmvData (s : State) (c : Nat) (a : Active) (off : Nat) (bs : List Byte) (poison : Bool) : State × Active :=
  let a1 := { a with poison := a.poison || poison, out := a.out.filter (fun e => e.1 != off) }
  if opWrites (cget a.desc dOp) then
    let (s1, a2) := s.dmvPut a1 off bs poison
    s1.dmvIssue c (if a2.err.isSome then a2 else Active.feedAll { a2 with came := a2.came ++ [(off, bs)] })
  else (s, if a1.err.isSome then a1 else Active.feedAll { a1 with came := a1.came ++ [(off, bs)] })

/-- The next burst of a descriptor, at its first byte not yet issued (R330): a FILL writes, and COPY and CHECK read, the parts before the
first refused one (R80). -/
def State.nextBurst (s : State) (c : Nat) (a : Active) : State :=
  let d := a.desc
  let o := cget d dOp
  let off := a.issued
  let n := burstLen d off
  if s.deviceDown a then (s.setActive c (some ({ a with issued := off + n }.fail 4 off n 0))).settleDmv c
  else if o = opFill then
    let (s1, b) := s.dmvPut { a with issued := off + n } off (fillBytes d off n) false
    let (s2, b2) := s1.dmvIssue c b
    (s2.setActive c (some b2)).settleDmv c
  else match s.dmvCharge c a false n with
    | none => s.setActive c (some (s.dmvWaits c a))
    | some t =>
      let b := { a with since := none, issued := off + n }
      let addr := sideAddr d false off
      let (bad, s2) := if (t.sideOf a false).1 = 1 then t.poolRefused a addr n true false else (none, t)
      let good := match bad with | some f => f - addr | none => n
      let b1 := match bad with | some f => b.fail 1 (off + good) (n - good) f | none => b
      if good = 0 then (s2.setActive c (some b1)).settleDmv c
      else ((s2.clearMarks d off good).setActive c (some { b1 with out := b1.out ++ [(off, good, false)] })).dmvAsk c d
        (t.sideOf a false) addr good

/-- The appended CRC of a descriptor whose every byte is performed is written (R331). -/
def State.writeCrc (s : State) (c : Nat) (a : Active) : State :=
  let d := a.desc
  let v := a.crc ^^^ crcOnes (cget d dCrc)
  let bs := (List.range (crcSize d)).map (fun k => BitVec.ofNat 8 (v / 256 ^ k))
  let (s1, b) := s.dmvPut { a with issued := cget d dLen + appendLen d } (cget d dLen) bs false
  let (s2, b2) := s1.dmvIssue c b
  (s2.setActive c (some b2)).settleDmv c

/-- DMV_BURST_ISSUE: the cells that wait, then the next burst, once the output, the channel's shaper and its limits allow (R229, R330);
after the last one has come back, the appended CRC (R331), and the read-back (R332); none while a power-down flush runs (R448). A parity error in the channel's state resets it: the
descriptor completes with CHANNEL_RESET and no read-back (R349). -/
def dmvBurstIssue (x : IssueLook) (s0 : State) : State :=
  let c := x.chan.val
  let s := if x.bad then s0.record (occ (dmvSet (c / 16)) 3 5 c) else s0
  match (s.dchan c).active with
  | none => s
  | some a =>
    let len := cget a.desc dLen
    let crc := a.issued == len && appendLen a.desc != 0 && a.bytes == len
    if x.bad && (a.phase == .run || a.phase == .readback) then s.finish c { a with out := [], wq := [] } 9 (min a.bytes len) 0
    else if a.phase != .run || s.rgn (c / 16) == 2 || s.boot.down != 0 then s
    else if a.wq != [] then
      let (s1, b) := s.dmvIssue c a
      (s1.setActive c (some b)).settleDmv c
    else if a.err.isSome || a.abort || (a.freeze && !crc) || a.reads ≥ 64 then s.settleDmv c
    else if a.issued < len then s.nextBurst c a
    else if crc then s.writeCrc c a
    else s.settleDmv c
def execDmvBurstIssue (c : IssueLook) (s : State) : Result := .next (dmvBurstIssue c s)

/-- The status of a burst's error response (R334). -/
def rspStatus (r : BurstRsp) : Nat := match r with
  | .poolLinkDown => 4
  | .timeout => 5
  | .hostError => 3
  | .deviceError | .targetError => 10
  | .refused => 1
  | _ => 0

/-- DMV_BURST_COMPLETE: the read or the write of the burst at an offset completes (R331, R333, R334): data read are summed, and by COPY
written; an error stops the descriptor; bytes are counted (R491). An error of the destination ends the re-shelving that the
descriptor copies for (R86). An error of the channel's buffer is corrected, or poisons the data (R349). -/
def dmvBurstComplete (c : Chan) (off : Nat) (rsp : BurstRsp) (data : List Byte) (s : State) : State :=
  match (s.dchan c).active with
  | none => s
  | some a =>
    match a.out.find? (fun e => e.1 == off) with
    | none => s
    | some (_, n, write) =>
      let d := a.desc
      let bad := rspStatus rsp
      if write && a.wq.any (fun x => x.off == off) then s
      else if bad != 0 then
        let b := { a with out := a.out.filter (fun e => e.1 != off) }
        let s1 := (s.setActive c (some (b.fail bad off n (sideAddr d write off)))).settleDmv c
        if rsp == .targetError then s1.targetFails d off else s1
      else if write then
        let (s1, b) := s.dmvWritten c a off n
        (s1.setActive c (some b)).settleDmv c
      else
        let s0 := if rsp == .bufCorrected then s.record (occ (dmvSet (c / 16)) 0 5 c)
          else if rsp == .bufLost then s.record (occ (dmvSet (c / 16)) 1 5 c) else s
        let (s1, b) := (s0.count (c / 16) 0x11 (c % 16) n).dmvData c a off (padTo n data) (rsp == .poison || rsp == .bufLost)
        (s1.setActive c (some b)).settleDmv c
def execDmvBurstComplete (c : Chan) (off : Nat) (rsp : BurstRsp) (data : List Byte) (s : State) : Result :=
  .next (dmvBurstComplete c off rsp data s)

/-- READBACK_COMPLETE: the bytes that the descriptor wrote are compared, poison included, and it completes (R332, R333). -/
def readbackComplete (c : Chan) (rsp : BurstRsp) (data : List Byte) (s : State) : State :=
  match (s.dchan c).active with
  | none => s
  | some a =>
    if a.phase != .readback then s
    else
      let len := cget a.desc dLen
      let bad := rspStatus rsp
      if bad != 0 then
        let s1 := s.finish c a bad len (if bad = 1 then lastLine a.desc else 0)
        if bad = 10 then s1.targetFails a.desc (len - 1) else s1
      else if a.last.any (fun e => data.getD e.1 0 != e.2) || (rsp == .poison) != a.lastP then s.finish c a 7 len 0
      else s.finish c a (if a.poison then 2 else 0) len 0
def execReadbackComplete (c : Chan) (rsp : BurstRsp) (data : List Byte) (s : State) : Result := .next (readbackComplete c rsp data s)

/-- DMV_CQ_HOLD_TMO: the held record is dropped and counted in its ring's DROPS, and the channel proceeds: CONTAINED at carrel
scope for a carrel's ring, CORRECTED otherwise (R336, R349). -/
def dmvCqHoldTmo (c : Chan) (s : State) : State :=
  match (s.dchan c).active with
  | none => s
  | some a =>
    if a.phase != .held then s
    else match s.cqOf c a with
      | none => s
      | some q =>
        let x := s.ctx q
        let s1 := ((s.setCtx q (cbump x cDrops 1)).conclude' c a true).nextRecords
        let set := dmvSet (c / 16)
        if cget x cOwner = 2 then
          (s1.record ⟨set, 2, 2, 2, cget x cCarrel, 0⟩).carrelContained (cget x cCarrel)
        else s1.record ⟨set, 2, 0, 5, c, 0⟩
def execDmvCqHoldTmo (c : Chan) (s : State) : Result := .next (dmvCqHoldTmo c s)

/-- SHADOW_ARM: the shadow set is armed (R337). -/
def shadowArm (p : Path) (c : Chan) (s : State) : State := s.command p (dmvSet (c / 16)) fun s => s.set DMV_SHD_CTL.ARM c 1
def execShadowArm (p : Path) (c : Chan) (s : State) : Result := .next (shadowArm p c s)

/-- DMV_ABORT: a descriptor whose record is not committed stops without one, once the bursts already issued have ended (the abort
race of R336). -/
def dmvAbort (p : Path) (c : Chan) (s : State) : State :=
  s.start p (dmvSet (c / 16)) (s.flag DMV_CH_CMD.BUSY c) fun s =>
    match (s.dchan c).active with
    | none => (s.set DMV_CH_CMD.RESULT c 1).set DMV_CH_CMD.DONE c 1
    | some a =>
      if a.phase == .run && (a.out != [] || a.wq != []) then (s.setActive c (some { a with abort := true })).set DMV_CH_CMD.BUSY c 1
      else ((s.dropActive c).set DMV_CH_CMD.RESULT c 0).set DMV_CH_CMD.DONE c 1
def execDmvAbort (p : Path) (c : Chan) (s : State) : Result := .next (dmvAbort p c s)

/-- A ring-table entry may name a context (R325). -/
def State.mayServe (s : State) (c q : Nat) : Bool :=
  let x := s.ctx q
  isRing x && cget x cUse == 0 && cget x cEsize == 3 &&
    (match cget x cOwner with
     | 2 => s.inShare (cget x cCarrel) c
     | 1 => !s.flag DMV_CH_CTL.LIB_RSV c
     | _ => true)

/-- RING_TABLE_WRITE: an entry that breaks R325 is discarded and counted. -/
def ringTableWrite (p : Path) (n : Fin 4096) (v : Word) (s : State) : State :=
  s.command p (dmvSet (n / 1024)) fun s =>
    if bit v 20 && !s.mayServe (n / 64) (bits v 0 20) then s.discard (dmvSet (n / 1024))
    else s.setWord .DMV_CH_RING n v
def execRingTableWrite (p : Path) (n : Fin 4096) (v : Word) (s : State) : Result := .next (ringTableWrite p n v s)

end Sys2Proof.Machine
end

