-- ==== Sys2Proof/Machine/Queues.lean ====
section
/-! DEFINITION. The commands of the queue manager: context commands, doorbells, index words, context fills, the read window of
NOTICE FIFOs, and slips at their receive rings (chapter Queue Contexts, Rings and Notice FIFOs). -/
namespace Sys2Proof.Machine
open Sys2Proof

/-! Firmware commands (R302–R304, R321). -/

/-- Bits that must be written 0 (R302). -/
def ctxZeros (v : BitVec 512) : Bool :=
  bits v 48 16 == 0 && bits v 310 10 == 0 && bits v 341 11 == 0 && bits v 400 16 == 0 && bits v 480 32 == 0

/-- A context keeps within R301 to R303. -/
def State.ctxGood (s : State) (v : BitVec 512) : Bool :=
  let notice := cget v cDisc == 1
  let use_ := cget v cUse
  let host := cget v cLoc == 1
  let own := cget v cOwner
  let cap := ctxCap v
  let base := cget v cBase
  ctxZeros v && own != 3 && 4 ≤ cget v cDepth && cget v cDepth ≤ 20 && base % 64 == 0
    && (if notice then use_ != 3 && !host && own != 2 && cget v cLevel ≤ cap
        else cget v cLevel == 0 && (if use_ == 3 then !host && own == 0 else host && own != 0))
    && (own == 2 || cget v cCarrel == 0)
    && (cget v cSlipGrp == 0 || (!notice && use_ == 2))
    && (if host then s.role (cget v cPort) == 1 && (own != 2 || s.carrelPort (cget v cCarrel) == cget v cPort)
        else cget v cPort == 0 && cget v cPasid == 0 && base + cap * ctxSize v ≤ 0x3F800000)

/-- The live fields of a context. -/
def ctxLive : List CtxFld := [cValid, cArmed, cProd, cCons, cRd, cMark, cMarkLost, cDrops, cPoisoned, cLastTime]
/-- What MODIFY may change. -/
def ctxMay : List CtxFld := [cPin, cIrqEn, cVector, cLevel, cLinkQid, cLinkV]
/-- The configuration that MODIFY may not change. -/
def ctxFixed : List CtxFld :=
  [cDisc, cUse, cLoc, cEsize, cDepth, cOwner, cCarrel, cPort, cBase, cPasid, cSlipGrp]

/-- A valid context that is pinned. -/
def pinned (v : BitVec 512) : Bool := cget v cValid == 1 && cget v cPin == 1
/-- The pinned contexts of a queue ID's cache set (R321). -/
def State.pinnedIn (s : State) (q : Nat) : Nat :=
  (s.contexts.filter (fun x => cacheSet x == cacheSet q && pinned (s.ctx x))).length

/-- Store a context, with the region's count of pinned contexts following it. -/
def State.putCtx (s : State) (q : Nat) (v : BitVec 512) : State :=
  let r := qidRegion q
  let n := s.get QMG_CACHE_STS.PINNED r
  let m := n + (if pinned v then 1 else 0) - (if pinned (s.ctx q) then 1 else 0)
  (s.setCtx q v).set QMG_CACHE_STS.PINNED r m

/-- A context as CREATE makes it: the live fields zero, VALID set, ARMED from IRQ_EN. -/
def ctxMade (v : BitVec 512) : BitVec 512 :=
  cput (cput (ctxLive.foldl (fun v f => cput v f 0) v) cValid 1) cArmed (cget v cIrqEn)

/-- Create a context whose fields are good, with its read window at rest. -/
def State.makeCtx (s : State) (q : Nat) (v : BitVec 512) : State := (s.putCtx q v).setWord .QMG_WIN_STS q (resetWord .QMG_WIN_STS q)

/-- The result of CREATE: 0 OK, 2 BAD_FIELD, 3 BAD_TRANSITION, 4 PIN_FULL. -/
def State.createResult (s : State) (q : Nat) (v : BitVec 512) : Nat :=
  if cget (s.ctx q) cValid = 1 then 3
  else if !s.ctxGood v then 2
  else if cget v cPin = 1 && s.pinnedIn q ≥ 8 then 4
  else 0

/-- The result of MODIFY. -/
def State.modifyResult (s : State) (q : Nat) (v : BitVec 512) : Nat :=
  let o := s.ctx q
  if cget o cValid = 0 then 3
  else if ctxFixed.any (fun f => cget v f != cget o f) then 3
  else if !ctxZeros v || cget v cLevel > (if cget o cDisc = 1 then ctxCap o else 0) then 2
  else if cget v cPin = 1 && cget o cPin = 0 && s.pinnedIn q ≥ 8 then 4
  else 0

/-- Load a context into the data registers (R304). -/
def State.loadCtx (s : State) (r q : Nat) : State :=
  (List.range 16).foldl (fun t k => t.setWord .QMG_CTX_D (16 * r + k) (BitVec.ofNat 32 (bits (s.ctx q) (32 * k) 32))) s

/-- What is staged in QMG_CTX_D0–D15. -/
def ctxStaged (s : State) (r : Nat) : BitVec 512 :=
  BitVec.ofNat 512 (((List.range 16).map (fun k => (s.word .QMG_CTX_D (16 * r + k)).toNat * 2 ^ (32 * k))).sum)

/-- A firmware command meets its context (R304): 0 READ, 1 CREATE, 2 MODIFY, 3 DESTROY. -/
def State.ctxPerform (s : State) (r q op : Nat) (v : BitVec 512) : State :=
  let s0 := s.useCtx q
  let (res, s1) : Nat × State := match op with
    | 0 => (0, s0.loadCtx r q)
    | 1 => let res := s0.createResult q v; (res, if res = 0 then s0.makeCtx q (ctxMade v) else s0)
    | 2 => let res := s0.modifyResult q v
           (res, if res = 0 then s0.putCtx q (ctxMay.foldl (fun x f => cput x f (cget v f)) (s0.ctx q)) else s0)
    | _ => if cget (s0.ctx q) cValid = 1 then (0, s0.putCtx q (cput (s0.ctx q) cValid 0)) else (3, s0)
  (s1.set QMG_CTX_CMD.RESULT r res).set QMG_CTX_CMD.BUSY r 0

/-- A QMG_CTX_CMD with GO: WRONG_REGION at once; a context that is not cached is read from HBM first (R300, R304, R320). -/
def ctxCommand (p : Path) (r q op : Nat) (s : State) : State :=
  let store (s : State) : State := (s.set QMG_CTX_CMD.QID r q).set QMG_CTX_CMD.OP r op
  s.startWith p (qmgSet r) (s.flag QMG_CTX_CMD.BUSY r) store fun s =>
    let s1 := store s
    if qidRegion q != r then s1.set QMG_CTX_CMD.RESULT r 1
    else if s1.cached q then s1.ctxPerform r q op (ctxStaged s r)
    else (s1.set QMG_CTX_CMD.BUSY r 1).waitCtx q (.cmd r q op (ctxStaged s r))

def ctxRead (p : Path) (r : Region) (q : Qid) (s : State) : State := ctxCommand p r q.toNat 0 s
def execCtxRead (p : Path) (r : Region) (q : Qid) (s : State) : Result := .next (ctxRead p r q s)
def ctxCreate (p : Path) (r : Region) (q : Qid) (s : State) : State := ctxCommand p r q.toNat 1 s
def execCtxCreate (p : Path) (r : Region) (q : Qid) (s : State) : Result := .next (ctxCreate p r q s)
def ctxModify (p : Path) (r : Region) (q : Qid) (s : State) : State := ctxCommand p r q.toNat 2 s
def execCtxModify (p : Path) (r : Region) (q : Qid) (s : State) : Result := .next (ctxModify p r q s)
def ctxDestroy (p : Path) (r : Region) (q : Qid) (s : State) : State := ctxCommand p r q.toNat 3 s
def execCtxDestroy (p : Path) (r : Region) (q : Qid) (s : State) : Result := .next (ctxDestroy p r q s)

/-! Doorbells (R306–R308, R311). -/

/-- The region whose queue manager records an error of a doorbell: the context's home, or the ingress region while the home is
isolated (R468). -/
def State.doorRegion (s : State) (q ingress : Nat) : Nat := if s.rgn (qidRegion q) == 2 then ingress else qidRegion q

/-- A doorbell is discarded or refused, with its error (R306–R308, R322): bit 2 QMG_DB_BAD, bit 3 QMG_RING_OVF. -/
def State.doorError (s : State) (q ingress bit cause : Nat) : State :=
  let r := s.doorRegion q ingress
  (s.qmgCapture r q cause).record (occ (qmgSet r) bit 6 q)

/-- A doorbell refused under R308 counts in its carrel (R343). -/
def State.doorRefused (s : State) (carrel : Option Nat) : State :=
  match carrel with
  | some k => s.carrelCount k 8 1
  | none => s

/-- Held completion records of a ring are tried again (R336). -/
def State.retryHeld (s : State) (q : Nat) : State :=
  (s.dmv.chan.foldl (fun s e => match e.2.active with
    | some a => if a.phase == .held && s.cqOf e.1 a == some q then s.tryCommit e.1 else s
    | none => s) s).nextRecords

/-- A doorbell may set a count of a context: a ring's, the one that its owner sets, and for a carrel only its own context's
(R303, R307). -/
def doorMay (c : BitVec 512) (cons : Bool) (carrel : Option Nat) : Bool :=
  isRing c && (cons == (cget c cUse != 0)) &&
    (match carrel with
     | some k => cget c cOwner == 2 && cget c cCarrel == k
     | none => true)

/-- A doorbell meets its context (R307, R308, R311). -/
def State.doorPerform (s0 : State) (q idx : Nat) (cons arm : Bool) (carrel : Option Nat) (ingress : Nat) : State :=
  let s := s0.useCtx q
  let c := s.ctx q
  if !doorMay c cons carrel then s.doorError q ingress 2 0
  else
    let d := sub32 idx (cget c cCons)
    if !cons then
      if ctxOcc c ≤ d && d ≤ ctxCap c then
        s.setCtx q (cput (cput c cProd idx) cLastTime (s.timeOf (qidRegion q)))
      else if sub32 idx (cget c cProd) < 2 ^ 31 && d > ctxCap c then
        ((s.setCtx q (cbump c cDrops 1)).doorError q ingress 3 1).doorRefused carrel
      else (s.doorError q ingress 2 0).doorRefused carrel
    else if d ≤ ctxOcc c then
      let c1 := cput c cCons idx
      let s1 := if arm && cget c1 cIrqEn = 1 && cget c1 cProd != cget c1 cCons then
          let c2 := cput c1 cArmed 0
          let t := s.setCtx q c2
          (if t.qmg.index.contains q then t.indexWord q c2 else t).ownerIrq q c2
        else s.setCtx q (if arm then cput c1 cArmed 1 else c1)
      s1.retryHeld q
    else (s.doorError q ingress 2 0).doorRefused carrel

/-- A doorbell for a context: discarded while the home region is isolated (R468), performed, or waiting for the context's fill
(R320). -/
def State.door (s : State) (q : Nat) (b : Doorbell) (cons : Bool) (carrel : Option Nat) (ingress : Nat) : State :=
  if b.size != 8 || b.extra || s.rgn (qidRegion q) == 2 then s.doorError q ingress 2 0
  else if s.cached q then s.doorPerform q b.index.toNat cons b.arm carrel ingress
  else s.waitCtx q (.door q b.index.toNat cons b.arm carrel ingress)

/-- A doorbell through a carrel's slot is accepted only on the owning port with the carrel's PASID, while the carrel is not FREE
and the slot is valid (R340). -/
def State.slotTakes (s : State) (port : Nat) (pasid : Option (BitVec 20)) (k slot : Nat) : Bool :=
  s.get CRL_CFG.PORT k == port && pasid.map (fun x => x.toNat) == some (s.get CRL_CFG.PASID k) && s.get CRL_CFG.STATE k != 0 &&
    s.flag CRL_SLOT.V (64 * k + slot)

/-- A doorbell arrives by one of the three ways of R307. Before ready, the UP ports discard posted writes (R382). -/
def doorbell (via : DoorVia) (b : Doorbell) (cons : Bool) (s : State) : State :=
  match via with
  | .endpoint q => if !s.flag SEC_BOOT_STS.READY 0 then s else s.door q.toNat b cons none ((s.managerPort.getD 0) / 16)
  | .librarian r q => if s.windowGone r then s else s.door q.toNat b cons none r
  | .slot port pasid k x =>
    let q := s.get CRL_SLOT.QID (64 * k.toNat + x)
    if !s.flag SEC_BOOT_STS.READY 0 then s
    else if s.slotTakes port pasid k.toNat x then s.door q b cons (some k.toNat) (port / 16)
    else (s.doorError q (port / 16) 2 0).carrelCount k.toNat 8 1

/-- PRODUCER_DOORBELL: WHICH 0. -/
def producerDoorbell (via : DoorVia) (b : Doorbell) (s : State) : State := doorbell via b false s
def execProducerDoorbell (via : DoorVia) (b : Doorbell) (s : State) : Result := .next (producerDoorbell via b s)
/-- CONSUMER_DOORBELL: WHICH 1. -/
def consumerDoorbell (via : DoorVia) (b : Doorbell) (s : State) : State := doorbell via b true s
def execConsumerDoorbell (via : DoorVia) (b : Doorbell) (s : State) : Result := .next (consumerDoorbell via b s)

/-- INDEX_WORD_WRITE: the index word of a ring whose count has changed (R310). -/
def indexWordWrite (q : Qid) (s : State) : State :=
  let c := s.ctx q.toNat
  if s.qmg.index.contains q.toNat then
    if isRing c && cget c cLoc = 1 then s.indexWord q.toNat c
    else { s with qmg := { s.qmg with index := s.qmg.index.filter (fun x => x != q.toNat) } }
  else s
def execIndexWordWrite (q : Qid) (s : State) : Result := .next (indexWordWrite q s)

/-! Slips (R312–R314). -/

/-- The first 8 bytes of a slip entry's header (R312). -/
def slipHead (carrel port unit : Nat) (tag : Word) (len : Nat) (poison : Bool) : List Byte :=
  let h := carrel % 4096 + port % 64 * 2 ^ 12 + unit % 4 * 2 ^ 18 + len % 256 * 2 ^ 20 + (if poison then 2 ^ 28 else 0)
    + tag.toNat * 2 ^ 32
  (List.range 8).map (fun k => BitVec.ofNat 8 (h / 256 ^ k))

/-- A slip is refused: counted in its sending carrel, when that is of this unit (R60, R314). -/
def State.slipRefuse (s : State) (head : Nat) : State :=
  if head / 2 ^ 18 % 4 = s.unit then s.carrelCount (head % 4096) 5 1 else s

/-- A slip meets its ring (R313, R314, R345): the head of its entry and its payload. -/
def State.slipWrite (s0 : State) (q : Nat) (item : List Byte) : State :=
  let s := s0.useCtx q
  let c := s.ctx q
  let h := leNat (item.take 8)
  let owner := cget c cCarrel
  let sender := 64 * (h / 2 ^ 18 % 4) + h / 2 ^ 12 % 64
  if !(isRing c && cget c cUse == 2) then s.slipRefuse h
  else if !s.inGroup (qidRegion q) (cget c cSlipGrp) sender || item.length + 8 > ctxSize c then s.slipRefuse h
  else if cget c cOwner = 2 && s.get CRL_CFG.STATE owner ≥ 2 then (s.setCtx q (cbump c cDrops 1)).slipRefuse h
  else
    let time := (List.range 8).map (fun k => BitVec.ofNat 8 (s.timeOf (qidRegion q) / 256 ^ k))
    match s.ringWrite q (item.take 8 ++ time ++ item.drop 8) with
    | (s1, true) => if cget c cOwner = 2 then s1.carrelCount owner 6 1 else s1
    | (s1, false) => s1.slipRefuse h

/-- SLIP_DELIVER: a slip reaches its receive ring; one to a ring of an isolated region is refused (R468). -/
def slipDeliver (q : Qid) (carrel : Carrel) (srcPort : Port) (srcUnit : Fin 4) (tag : Word) (data : List Byte) (poison : Bool)
    (s : State) : State :=
  let item := slipHead carrel.toNat srcPort srcUnit tag data.length poison ++ data
  if data.length > 240 || s.rgn (qidRegion q.toNat) == 2 then s.slipRefuse (leNat (item.take 8))
  else if s.cached q.toNat then s.slipWrite q.toNat item
  else s.waitCtx q.toNat (.item q.toNat item (.slip carrel.toNat))
def execSlipDeliver (q : Qid) (carrel : Carrel) (srcPort : Port) (srcUnit : Fin 4) (tag : Word) (data : List Byte)
    (poison : Bool) (s : State) : Result := .next (slipDeliver q carrel srcPort srcUnit tag data poison s)

/-! The context cache (R320). -/

/-- An operation that waited for a fill is performed. -/
def State.performOp (s : State) (op : QOp) : State :=
  match op with
  | .door q idx cons arm carrel u => s.doorPerform q idx cons arm carrel u
  | .cmd r q o v => s.ctxPerform r q o v
  | .item q data src => match src with
    | .gleaner n => s.sampleWrite (n % 64) q (n < 64) data
    | .slip _ => s.slipWrite q data
    | .channel c => (s.tryCommit c).nextRecords

/-- The order of operations presented together: consumer, then producer, then firmware commands (R305). -/
def opRank (op : QOp) : Nat := match op with
  | .door _ _ cons _ _ _ => if cons then 0 else 1
  | .item _ _ _ => 1
  | .cmd _ _ _ _ => 2

/-- A queue context that HBM has lost (R322): carrel scope for a carrel's, else VALID 0 with its owner interrupted. -/
def State.ctxLost (s : State) (q : Nat) : State :=
  let x := s.ctx q
  let r := qidRegion q
  let s1 := s.qmgCapture r q 4
  if cget x cValid = 1 && cget x cOwner = 2 then
    (s1.record (occ (qmgSet r) 1 2 (cget x cCarrel))).carrelContained (cget x cCarrel)
  else
    let s2 := s1.record (occ (qmgSet r) 1 6 q)
    if cget x cValid = 1 then (s2.putCtx q (cput x cValid 0)).ownerIrq q x else s2

/-- CTX_CACHE_FILL: the context read from HBM is in the cache, and the operations that waited proceed; an error that its check word
shows is corrected, or loses the context (R177, R322). A parity error in the cache's tags is fatal to the region (R322). -/
def ctxCacheFill (x : CtxRead) (s0 : State) : State :=
  let q := x.qid.toNat
  let r := qidRegion q
  match s0.qmg.fills.find? (fun f => f.1 == q) with
  | none => s0
  | some f =>
    if x.tags then s0.record (regionOcc r (qmgSet r) 6)
    else
      let s0 := s0.columns (ctxAt q / 2 ^ 35) 1
      let s := match x.found with
        | .corrected => (keyCorrected s0 (ctxAt q)).record (occ (qmgSet r) 0 6 q)
        | .uncorrectable => (keyLost s0 (ctxAt q)).ctxLost q
        | _ => s0
      let s1 := ({ s with qmg := { s.qmg with fills := s.qmg.fills.filter (fun x => x.1 != q) } }).useCtx q
      [0, 1, 2].foldl (fun s k => (f.2.filter (fun op => opRank op == k)).foldl (fun s op => s.performOp op) s) s1
def execCtxCacheFill (q : CtxRead) (s : State) : Result := .next (ctxCacheFill q s)

/-! The read window of NOTICE FIFOs (R317, R318, R323). -/

/-- A window access uses its context: a miss is counted, and the access proceeds with the fill. -/
def State.windowCtx (s : State) (q : Nat) : State :=
  if s.cached q then s.useCtx q
  else (((s.bump QMG_CACHE_STS.MISSES (qidRegion q) 1).count (qidRegion q) 0x10 0 1)).useCtx q

/-- The word at the read position of a FIFO: item RD, word WORD; none at the end. -/
def State.windowWord (s : State) (q : Nat) : Option Nat :=
  let c := s.ctx q
  if cget c cRd = cget c cProd then none
  else some (peekN s.hbm (bodyAt q c + entryOff c (cget c cRd) + 8 * s.get QMG_WIN_STS.WORD q) 8)

/-- The word at the read position fails its parity or its HBM check word (R315, R317). -/
def State.windowBad (s : State) (q w : Nat) : Bool :=
  let c := s.ctx q
  let i := cget c cRd
  let p := parityAt q c i (s.get QMG_WIN_STS.WORD q)
  bits (peek s.hbm p.1) p.2 1 != noticeParity c i w ||
    Tab.get false s.grn.poison ((bodyAt q c + entryOff c i + 8 * s.get QMG_WIN_STS.WORD q) / 64)

/-- NOTICE_WORD_LATCH: the low word, with the high word latched for the path, poisoned where the word fails its checks; nothing
advances, and the word is counted only as it is passed (DEDUCED, log entry 92). -/
def windowLatch (p : Path) (q : Nat) (s : State) : (Word × Bool) × State :=
  let s1 := if isNotice (s.ctx q) then s.windowCtx q else s
  let found := if isNotice (s.ctx q) then s.windowWord q else none
  let w := found.getD 0
  let bad := match found with
    | some v => s1.windowBad q v
    | none => false
  let s2 := if bad then s1.set QMG_WIN_STS.POISON q 1 else s1
  ((BitVec.ofNat 32 w, bad), s2.latch p (fun l => { l with winHi := BitVec.ofNat 32 (w / 2 ^ 32), winQid := some q }))

/-- A read of the window that may deliver poison (R317, R503). -/
def State.windowReply (s : State) (p : Path) (q : Nat) (f : State → (Word × Bool) × State) : State :=
  let r := qidRegion q
  if s.unheard p || s.windowGone r || !s.mayRead p false then s.readWith p r false (fun t => (0, t))
  else (f s).2.emit (if (f s).1.2 then .readPoison p (f s).1.1 else .readData p (f s).1.1)

def noticeWordLatch (p : Path) (q : Qid) (s : State) : State := s.windowReply p q.toNat (windowLatch p q.toNat)
def execNoticeWordLatch (p : Path) (q : Qid) (s : State) : Result := .next (noticeWordLatch p q s)

/-- The read position advances by a word (R317). -/
def State.windowNext (s : State) (q : Nat) : State :=
  let c := s.ctx q
  let w := s.get QMG_WIN_STS.WORD q + 1
  if 8 * w < ctxSize c then s.set QMG_WIN_STS.WORD q w
  else (s.setCtx q (cput c cRd (cget c cRd + 1))).set QMG_WIN_STS.WORD q 0

/-- The latched high word with whether it carries poison, and the advance (R317): a word that fails its checks is delivered with
poison and counted. -/
def windowTake (p : Path) (q : Nat) (s : State) : (Word × Bool) × State :=
  let hi := (s.lat.of p).winHi
  if !isNotice (s.ctx q) then ((0, false), s)
  else
    let s1 := s.windowCtx q
    match s1.windowWord q with
    | none => ((0, false), s1)
    | some w =>
      if s1.windowBad q w then
        let t := (s1.setCtx q (cbump (s1.ctx q) cPoisoned 1)).set QMG_WIN_STS.POISON q 1
        ((hi, true), (t.qmgError q 4 2).windowNext q)
      else ((hi, false), (s1.set QMG_WIN_STS.POISON q 0).windowNext q)

/-- NOTICE_WORD_READ: the latched word is returned, checked and the position advances (R317). -/
def noticeWordRead (p : Path) (q : Qid) (s : State) : State := s.windowReply p q.toNat (windowTake p q.toNat)
def execNoticeWordRead (p : Path) (q : Qid) (s : State) : Result := .next (noticeWordRead p q s)

/-- A write of QMG_WIN_OP: discarded and counted where the queue is no valid NOTICE FIFO (R323). -/
def State.windowOp (s : State) (p : Path) (q : Nat) (f : State → BitVec 512 → State) : State :=
  s.command p (qmgSet (qidRegion q)) fun s =>
    if isNotice (s.ctx q) then
      let s1 := s.windowCtx q
      f s1 (s1.ctx q)
    else s.discard (qmgSet (qidRegion q))

/-- NOTICE_MARK: MARK becomes RD, and MARK_LOST clears. -/
def noticeMark (p : Path) (q : Qid) (s : State) : State :=
  s.windowOp p q.toNat fun s c => s.setCtx q.toNat (cput (cput c cMark (cget c cRd)) cMarkLost 0)
def execNoticeMark (p : Path) (q : Qid) (s : State) : Result := .next (noticeMark p q s)

/-- NOTICE_REWIND: RD becomes MARK, and WORD 0. -/
def noticeRewind (p : Path) (q : Qid) (s : State) : State :=
  s.windowOp p q.toNat fun s c => (s.setCtx q.toNat (cput c cRd (cget c cMark))).set QMG_WIN_STS.WORD q.toNat 0
def execNoticeRewind (p : Path) (q : Qid) (s : State) : Result := .next (noticeRewind p q s)

/-- NOTICE_RELEASE: CONS advances by COUNT, or to RD for 0, and never past RD; a MARK below it is raised to it. -/
def noticeRelease (p : Path) (q : Qid) (count : BitVec 20) (s : State) : State :=
  s.windowOp p q.toNat fun s c =>
    let read := sub32 (cget c cRd) (cget c cCons)
    let n := if count.toNat = 0 then read else min count.toNat read
    let c1 := cput c cCons (cget c cCons + n)
    let c2 := if below32 (cget c1 cMark) (cget c1 cCons) then cput c1 cMark (cget c1 cCons) else c1
    s.setCtx q.toNat c2
def execNoticeRelease (p : Path) (q : Qid) (count : BitVec 20) (s : State) : Result := .next (noticeRelease p q count s)

/-- NOTICE_SKIP: RD advances by an item that it has not passed. -/
def noticeSkip (p : Path) (q : Qid) (s : State) : State :=
  s.windowOp p q.toNat fun s c =>
    if cget c cRd = cget c cProd then s
    else (s.setCtx q.toNat (cput c cRd (cget c cRd + 1))).set QMG_WIN_STS.WORD q.toNat 0
def execNoticeSkip (p : Path) (q : Qid) (s : State) : Result := .next (noticeSkip p q s)

end Sys2Proof.Machine
end

