-- ==== Sys2Proof/Machine/Carrels.lean ====
section
/-! DEFINITION. Carrels: creation, freezing, thawing, migration records, and destruction (chapter Data Movers, Carrels and
Migration). -/
namespace Sys2Proof.Machine
open Sys2Proof

/-- A CRL_CMD command with GO on carrel k, from the state that its table row names; any other state is refused with BAD_STATE
(R344). -/
def crlCmd (p : Path) (k op dest src : Nat) (s : State) (f : State → State) : State :=
  let store (s : State) : State := ((s.set CRL_CMD.CARREL 0 k).set CRL_CMD.OP 0 op).set CRL_CMD.DEST 0 dest
  s.startWith p setCrl (s.flag CRL_CMD.BUSY 0) store fun s =>
    let s1 := store s
    if s1.get CRL_CFG.STATE k = src then f (s1.set CRL_CMD.RESULT 0 0) else s1.set CRL_CMD.RESULT 0 2

/-- The carrels that are not FREE. -/
def State.liveCarrels (s : State) : List Nat :=
  (s.regs.filter (fun e => e.1 / 2 ^ 24 == Reg.CRL_CFG.ctorIdx && bits e.2 26 2 != 0)).map (fun e => e.1 % 2 ^ 24)

/-- The staged owner of carrel k may own it: an UP port, and a (port, PASID) pair that no other carrel has (R339). -/
def State.ownerGood (s : State) (k : Nat) : Bool :=
  s.role (s.carrelPort k) == 1 && !s.liveCarrels.any (fun j => j != k && s.carrelPort j == s.carrelPort k &&
    s.get CRL_CFG.PASID j == s.get CRL_CFG.PASID k)

/-- Set words 0 to 31 of a carrel's counter page. -/
def State.setCounters (s : State) (k : Nat) (f : Nat → Nat) : State :=
  { s with dmv := { s.dmv with ctr := (List.range 32).foldl (fun t w => Tab.put 0 t (32 * k + w) (BitVec.ofNat 48 (f w))) s.dmv.ctr } }

/-- CRL_CREATE (R339, R344). -/
def crlCreate (p : Path) (carrel : Carrel) (s : State) : State :=
  let k := carrel.toNat
  crlCmd p k 1 (s.get CRL_CMD.DEST 0) 0 s fun s =>
    if s.ownerGood k then
      (((s.set CRL_CFG.STATE k 1).set CRL_CFG.ERROR k 0).set CRL_TPL.USER_CTR k (s.tplOf k 21 1)).setCounters k (fun _ => 0)
    else s.set CRL_CMD.RESULT 0 1
def execCrlCreate (p : Path) (carrel : Carrel) (s : State) : Result := .next (crlCreate p carrel s)

/-- FREEZE stops a carrel's channels at their next burst boundary (R345). -/
def State.freezeCarrel (s : State) (k : Nat) : State :=
  let s1 := s.takeBack k
  s1.dmv.chan.foldl (fun s e => match e.2.active with
    | some a =>
      if a.carrel = some k && (a.phase == .fetch || a.phase == .run) then
        (s.setActive e.1 (some { a with freeze := true })).settleDmv e.1
      else s
    | none => s) s1

/-- CRL_FREEZE: ACTIVE to FREEZING; BUSY until the carrel is FROZEN (R345). -/
def crlFreeze (p : Path) (carrel : Carrel) (s : State) : State :=
  let k := carrel.toNat
  crlCmd p k 2 (s.get CRL_CMD.DEST 0) 1 s fun s =>
    let s1 := (s.set CRL_CFG.STATE k 2).set CRL_CMD.BUSY 0 1
    ({ s1 with dmv := { s1.dmv with freezing := some k, froze := Tab.put 0 s1.dmv.froze k (s1.timeOf 4) } }).freezeCarrel k
def execCrlFreeze (p : Path) (carrel : Carrel) (s : State) : Result := .next (crlFreeze p carrel s)

/-- A channel performs a descriptor of a carrel, or holds its record. -/
def State.carrelBusy (s : State) (k : Nat) : Bool :=
  s.dmv.chan.any (fun e => match e.2.active with
    | some a => a.carrel == some k
    | none => false)

/-- CARREL_FROZEN: no channel performs a descriptor of the carrel, and none of its records is held (R345). -/
def carrelFrozen (carrel : Carrel) (s : State) : State :=
  let k := carrel.toNat
  if s.get CRL_CFG.STATE k = 2 && !s.carrelBusy k then s.frozen k else s

/-- The channels of a carrel's share, in ascending order. -/
def State.shareOf (s : State) (k : Nat) : List Nat := (List.range 64).filter (fun c => s.inShare k c)

/-- The in-flight descriptors of a carrel go to their channels, to be resumed first (R344, R348). -/
def State.resumeKept (s : State) (k : Nat) : State :=
  let s1 := (Tab.get [] s.dmv.kept k).foldl (fun s x =>
    let c := if s.inShare k x.chan then x.chan else (s.shareOf k).headD x.chan
    s.setDchan c { s.dchan c with resume := (s.dchan c).resume ++ [(k, x)] }) s
  { s1 with dmv := { s1.dmv with kept := Tab.put [] s1.dmv.kept k [] } }

/-- CRL_THAW: FROZEN to ACTIVE, ERROR cleared; refused while the share holds a channel of an isolated region (R344, R350,
R468). -/
def crlThaw (p : Path) (carrel : Carrel) (s : State) : State :=
  let k := carrel.toNat
  crlCmd p k 3 (s.get CRL_CMD.DEST 0) 3 s fun s =>
    if (s.shareOf k).any (fun c => s.rgn (c / 16) == 2) then s.set CRL_CMD.RESULT 0 1
    else ((s.set CRL_CFG.STATE k 1).set CRL_CFG.ERROR k 0).resumeKept k
def execCrlThaw (p : Path) (carrel : Carrel) (s : State) : Result := .next (crlThaw p carrel s)

/-! Migration records (R346). -/

/-- The policers of a carrel: attached to it, or to its SLIP_RX rings (R339). -/
def State.carrelPolicers (s : State) (k : Nat) : List Nat :=
  let rings := s.carrelQueues k
  (s.regs.filter (fun e => e.1 / 2 ^ 24 == Reg.TFC_POL_ATT.ctorIdx && bits e.2 0 1 == 1 &&
    ((bits e.2 1 2 == 1 && bits e.2 3 20 == k) || (bits e.2 1 2 == 2 && rings.contains (bits e.2 3 20))))).map (fun e => e.1 % 2 ^ 24)

/-- The channel whose ring table names a queue. -/
def State.serving (s : State) (q : Nat) : Option Nat :=
  (List.range 64).find? (fun c => (List.range 64).any (fun e =>
    s.flag DMV_CH_RING.V (64 * c + e) && s.get DMV_CH_RING.QID (64 * c + e) == q))

/-- Word w of a carrel's counter page (R343): GRN_BLOCKS is counted in the Granary. -/
def State.counterWord (s : State) (k w : Nat) : Nat :=
  if w = 9 then Tab.countIf s.grn.ways (fun _ e => e.valid && e.carrelV && e.carrel == k)
  else (Tab.get 0 s.dmv.ctr (32 * k + w)).toNat

/-- Word w of the page as carrel k's host reads it in BAR2: 0 unless the template allows user counters (R343). -/
def State.hostCounterWord (s : State) (k w : Nat) : Nat :=
  if s.flag CRL_TPL.USER_CTR k && Nat.blt w 32 then s.counterWord k w % 2 ^ 48 else 0

/-- A number over the words of the share mask. -/
def State.shareMask (s : State) (k : Nat) : Nat := s.get CRL_CHAN_LO.MASK_LO k + 2 ^ 32 * s.get CRL_CHAN_HI.MASK_HI k

/-- The sections after the header. -/
def State.recordBody (s : State) (k : Nat) : List Byte :=
  let qs := (s.carrelQueues k).take 64
  let slots := (List.range 64).flatMap (fun i =>
    let n := 64 * k + i
    if s.flag CRL_SLOT.V n then
      let q := s.get CRL_SLOT.QID n
      let ch := if cget (s.ctx q) cUse = 0 && cget (s.ctx q) cDisc = 0 then s.serving q else none
      leBytes 4 (qs.idxOf q % 64 + 2 ^ 6 + (match ch with | some c => c * 2 ^ 7 + 2 ^ 13 | none => 0))
    else leBytes 4 0)
  let queues := qs.flatMap (fun q => leBytes 64 (s.ctx q).toNat)
  let pols := (s.carrelPolicers k).flatMap (fun n =>
    leBytes 16 ((s.word .TFC_POL_CFG n).toNat + (s.word .TFC_POL_ATT n).toNat * 2 ^ 32
      + ofSigned 24 (s.policer n).tokens * 2 ^ 64 + n / 2048 * 2 ^ 88))
  let quota := (List.range 4).flatMap (fun r => leBytes 4 (s.word .GRN_CRL_QUOTA (4096 * r + k)).toNat) ++ List.replicate 48 0
  let ctrs := (List.range 32).flatMap (fun w => leBytes 8 (s.counterWord k w))
  let fly := (Tab.get [] s.dmv.kept k).flatMap (fun x =>
    leBytes 64 x.desc.toNat ++ leBytes 4 x.bytes ++ leBytes 8 x.crc ++ [BitVec.ofNat 8 x.chan, BitVec.ofNat 8 (qs.idxOf x.ring.2)]
      ++ List.replicate 50 0)
  slots ++ queues ++ pols ++ quota ++ ctrs ++ fly

/-- The migration record of a carrel, with its digest. -/
def State.record_ (s : State) (k : Nat) : List Byte :=
  let body := s.recordBody k
  let head := leBytes 4 0x4D4C5243 ++ leBytes 2 1 ++ leBytes 2 0 ++ leBytes 4 (128 + body.length)
    ++ leBytes 2 ((s.carrelQueues k).take 64).length ++ leBytes 2 (s.carrelPolicers k).length
    ++ leBytes 2 (Tab.get [] s.dmv.kept k).length ++ leBytes 2 0 ++ leBytes 2 k ++ leBytes 1 (s.carrelPort k) ++ leBytes 1 s.unit
    ++ leBytes 4 (s.get CRL_CFG.PASID k) ++ leBytes 1 (s.get CRL_TPL.TEMPLATE k) ++ leBytes 3 0 ++ leBytes 8 (s.timeOf 4)
    ++ leBytes 8 (s.shareMask k) ++ List.replicate 16 0
  head ++ leBytes 64 (Config.shake256 (head ++ body)).toNat ++ body

/-- The HBM key of the record slot of a carrel in the region of a port (R346). -/
def recordAt (port k : Nat) : Nat := hbmAt (2 * (port / 16) + k % 2) (0x5A0100000 + 0x8000 * (k / 2))

/-- CRL_SAVE: the record is made, and its bytes are on their way to HBM or to the host, where its last line is read back (R346). -/
def crlSave (p : Path) (carrel : Carrel) (host : Bool) (s : State) : State :=
  let k := carrel.toNat
  crlCmd p k 4 (if host then 1 else 0) 3 s fun s =>
    let bytes := s.record_ k
    let s1 := s.set CRL_CMD.BUSY 0 1
    let s2 := { s1 with dmv := { s1.dmv with saving := some (k, host, bytes) } }
    let a := (s.word .CRL_ADDR_LO 0).toNat + 2 ^ 32 * (s.word .CRL_ADDR_HI 0).toNat
    if host then
      (s2.emit (.hostWrite (s.get CRL_ARG0.PORT 0) (s.get CRL_ARG0.PASID 0) a bytes)).emit
        (.hostRead (s.get CRL_ARG0.PORT 0) (s.get CRL_ARG0.PASID 0) ((a + bytes.length - 1) / 64 * 64) 64)
    else s2
def execCrlSave (p : Path) (carrel : Carrel) (host : Bool) (s : State) : Result := .next (crlSave p carrel host s)

/-- SAVE_DONE: the record's last byte is placed, and LEN and INFLIGHT are shown; or a host access failed (R346). -/
def saveDone (good : Bool) (s : State) : State :=
  match s.dmv.saving with
  | none => s
  | some (k, host, bytes) =>
    let s1 := { s.set CRL_CMD.BUSY 0 0 with dmv := { s.dmv with saving := none } }
    if host && !good then s1.set CRL_CMD.RESULT 0 8
    else
      let s2 := if host then s1 else s1.writeHbm (recordAt (s.carrelPort k) k) bytes
      (s2.set CRL_CMD_STS.LEN 0 bytes.length).set CRL_CMD_STS.INFLIGHT 0 (Tab.get [] s.dmv.kept k).length

/-! RESTORE (R347, R348). -/

/-- n bytes of a record from a, as a number. -/
def recN (b : List Byte) (a n : Nat) : Nat := leNat ((b.drop a).take n)

/-- The sections of a record: counts and offsets. -/
structure RecMap where
  bytes : List Byte
  nq : Nat
  np : Nat
  nf : Nat
  chan : Nat

def recMap (b : List Byte) : RecMap := ⟨b, recN b 12 2, recN b 14 2, recN b 16 2, recN b 40 8⟩
def RecMap.queues (_ : RecMap) : Nat := 384
def RecMap.pols (m : RecMap) : Nat := 384 + 64 * m.nq
def RecMap.quota (m : RecMap) : Nat := m.pols + 16 * m.np
def RecMap.ctrs (m : RecMap) : Nat := m.quota + 64
def RecMap.fly (m : RecMap) : Nat := m.ctrs + 256
def RecMap.size (m : RecMap) : Nat := m.fly + 128 * m.nf
/-- Slot entry i, queue j, policer i, and in-flight descriptor i. -/
def RecMap.slot (m : RecMap) (i : Nat) : Nat := recN m.bytes (128 + 4 * i) 4
def RecMap.ctx (m : RecMap) (j : Nat) : BitVec 512 := BitVec.ofNat 512 (recN m.bytes (384 + 64 * j) 64)
def RecMap.pol (m : RecMap) (i : Nat) : Nat := recN m.bytes (m.pols + 16 * i) 16
def RecMap.desc (m : RecMap) (i : Nat) : BitVec 512 := BitVec.ofNat 512 (recN m.bytes (m.fly + 128 * i) 64)
def RecMap.flyDmc (m : RecMap) (i : Nat) : Nat := recN m.bytes (m.fly + 128 * i + 76) 1
def RecMap.flyQ (m : RecMap) (i : Nat) : Nat := recN m.bytes (m.fly + 128 * i + 77) 1
/-- The saved mask's channels, in ascending order. -/
def RecMap.chans (m : RecMap) : List Nat := (List.range 64).filter (fun c => m.chan.testBit c)

/-- The digest over all but the digest's own bytes. -/
def RecMap.digestGood (m : RecMap) : Bool :=
  let len := recN m.bytes 8 4
  128 ≤ len && len ≤ 17104 && len ≤ m.bytes.length &&
    recN m.bytes 64 64 == (Config.shake256 (m.bytes.take 64 ++ (m.bytes.take len).drop 128)).toNat

/-- A number put into a rising list that does not hold it yet. -/
def insertNat (n : Nat) : List Nat → List Nat
  | [] => [n]
  | x :: xs => if n < x then n :: x :: xs else if n = x then x :: xs else x :: insertNat n xs

/-- Where LINK_QID of a saved context points among the record's queues: by the source carrel's own queues where this chip still
holds them, else in the order of the record's COMPLETE rings. -/
def State.linkIndex (s : State) (m : RecMap) (link : Nat) : Option Nat :=
  let own := (s.carrelQueues (recN m.bytes 20 2)).idxOf? link
  match own with
  | some j => if j < m.nq then some j else none
  | none =>
    let links := (((List.range m.nq).filter (fun j => cget (m.ctx j) cLinkV == 1)).map (fun j => cget (m.ctx j) cLinkQid)).foldr insertNat []
    let rings := (List.range m.nq).filter (fun j => cget (m.ctx j) cDisc == 0 && cget (m.ctx j) cUse == 1)
    match links.idxOf? link with
    | some i => rings[i]?
    | none => none

/-- Queue j as it is created in carrel k from queue base: CARREL, PORT, PASID and LINK_QID rewritten, its counts as saved. -/
def State.newCtx (s : State) (m : RecMap) (k base j : Nat) : BitVec 512 :=
  let c := m.ctx j
  let c1 := cput (cput (cput c cCarrel k) cPort (s.carrelPort k)) cPasid (if cget c cLoc = 1 then s.get CRL_CFG.PASID k else 0)
  if cget c cLinkV = 1 then cput c1 cLinkQid (base + (s.linkIndex m (cget c cLinkQid)).getD 0) else c1

/-- Every field of a record is within its values, for carrel k and queues from base (R347). -/
def State.recordGood (s : State) (m : RecMap) (k base : Nat) : Bool :=
  m.nq ≤ 64 && m.np ≤ 257 && m.nf ≤ 64 && recN m.bytes 8 4 == m.size && base + m.nq ≤ 2 ^ 20
    && recN m.bytes 6 2 == 0 && recN m.bytes 18 2 == 0 && recN m.bytes 20 2 < 4096 && recN m.bytes 22 1 < 64
    && recN m.bytes 23 1 < 4 && recN m.bytes 24 4 < 2 ^ 20 && recN m.bytes 29 3 == 0 && recN m.bytes 48 16 == 0
    && m.chans.length ≤ (s.shareOf k).length && s.ownerGood k
    && (List.range 64).all (fun i =>
      let v := m.slot i
      v < 2 ^ 14 && (v / 2 ^ 6 % 2 == 0 || v % 64 < m.nq) && (v / 2 ^ 13 == 0 || m.chan.testBit (v / 2 ^ 7 % 64)))
    && (List.range m.nq).all (fun j =>
      let c := s.newCtx m k base j
      cget c cValid == 1 && cget c cOwner == 2 && s.ctxGood c && ctxOcc c ≤ ctxCap c
        && (cget c cLinkV == 0 || (s.linkIndex m (cget (m.ctx j) cLinkQid)).isSome)
        && (cget c cPin == 0 || s.pinnedIn (base + j)
          + ((List.range j).filter (fun i => cacheSet (base + i) == cacheSet (base + j) && cget (m.ctx i) cPin == 1)).length < 8))
    && (List.range m.np).all (fun i =>
      let v := m.pol i
      v / 2 ^ 90 == 0 && v / 2 ^ 16 % 2 ^ 16 != 0 && v / 2 ^ 32 % 2 == 1 && (v / 2 ^ 33 % 4 == 1 || v / 2 ^ 33 % 4 == 2)
        && v / 2 ^ 55 % 2 ^ 9 == 0)
    && (List.range 4).all (fun r => recN m.bytes (m.quota + 4 * r) 4 < 2 ^ 20) && recN m.bytes (m.quota + 16) 48 == 0
    && (List.range 32).all (fun w => recN m.bytes (m.ctrs + 8 * w) 8 < 2 ^ 48 && (w < 12 || recN m.bytes (m.ctrs + 8 * w) 8 == 0))
    && (List.range m.nf).all (fun i =>
      m.chan.testBit (m.flyDmc i) && m.flyQ i < m.nq && cget (m.ctx (m.flyQ i)) cDisc == 0 && cget (m.ctx (m.flyQ i)) cUse == 0
        && recN m.bytes (m.fly + 128 * i + 64) 4 ≤ cget (m.desc i) dLen && recN m.bytes (m.fly + 128 * i + 78) 50 == 0)

/-- How many bits of a mask are set. -/
def bitCount (v : Nat) : Nat := ((List.range 64).filter (fun c => v.testBit c)).length

/-- A record keeps within the template of carrel k (R341, R348, R395). -/
def State.recordAllowed (s : State) (m : RecMap) (k : Nat) (host : Bool) : Bool :=
  let share := s.shareMask k
  m.nq ≤ s.tplOf k 0 7 && bitCount share ≤ s.tplOf k 12 7 && share &&& s.tplOf k 64 64 == share
    && (!host || s.tplOf k 22 1 == 1)
    && (List.range m.nq).all (fun j =>
      let c := m.ctx j
      cget c cDepth ≤ s.tplOf k 7 5 && (!(cget c cDisc == 0 && cget c cUse == 2) || s.tplOf k 20 1 == 1))
    && (List.range m.np).all (fun i => m.pol i % 2 ^ 16 ≤ s.tplOf k 160 16 && m.pol i / 2 ^ 16 % 2 ^ 16 ≤ s.tplOf k 176 16)
    && (List.range 4).all (fun r => recN m.bytes (m.quota + 4 * r) 4 ≤ s.tplOf k 128 20)
    && (List.range m.nf).all (fun i => s.tplOf k 19 1 == 1 || (cget (m.desc i) dSrcSpace != 1 && cget (m.desc i) dDstSpace != 1))

/-- RESULT of a RESTORE (R348): BAD_DIGEST, BAD_VERSION, QID_BUSY, BAD_FIELD or POLICY. -/
def State.restoreResult (s : State) (m : RecMap) (k base : Nat) (host : Bool) : Nat :=
  if !m.digestGood then 4
  else if recN m.bytes 0 4 != 0x4D4C5243 || recN m.bytes 4 2 != 1 then 5
  else if (List.range (min m.nq 64)).any (fun j => cget (s.ctx (base + j)) cValid == 1) then 6
  else if !s.recordGood m k base then 1
  else if !s.recordAllowed m k host then 7
  else 0

/-- The channel to which a channel of the saved mask maps: the n-th to the n-th (R348 step 2). -/
def State.mapChan (s : State) (m : RecMap) (k c : Nat) : Nat := (s.shareOf k).getD (m.chans.idxOf c) 0

/-- A SUBMIT ring takes the first free ring-table entry of its channel. -/
def State.addRing (s : State) (c q : Nat) : State :=
  match (List.range 64).find? (fun e => !s.flag DMV_CH_RING.V (64 * c + e)) with
  | some e => (s.set DMV_CH_RING.QID (64 * c + e) q).set DMV_CH_RING.V (64 * c + e) 1
  | none => s

/-- A saved policer is attached in its region with its tokens, in the first free place (R348 step 3); one that another already
serves is not (R228). -/
def State.addPolicer (s : State) (k base : Nat) (m : RecMap) (v : Nat) : State :=
  let kind := v / 2 ^ 33 % 4
  let old := v / 2 ^ 35 % 2 ^ 20
  let r := if kind = 1 then s.carrelPort k / 16 else v / 2 ^ 88 % 4
  let slips := (List.range m.nq).filter (fun j => cget (m.ctx j) cDisc == 0 && cget (m.ctx j) cUse == 2)
  let olds := (((List.range m.np).map (fun i => m.pol i)).filter (fun v => v / 2 ^ 33 % 4 == 2)).map (fun v => v / 2 ^ 35 % 2 ^ 20)
  let ident := if kind = 1 then k
    else base + ((s.carrelQueues (recN m.bytes 20 2)).idxOf? old).getD (slips.getD ((olds.foldr insertNat []).idxOf old) 0)
  match s.policerOf r kind ident, (List.range 2048).find? (fun i => !s.flag TFC_POL_ATT.EN (2048 * r + i)) with
  | none, some i =>
    let n := 2048 * r + i
    let s1 := (s.setWord .TFC_POL_CFG n (BitVec.ofNat 32 v)).setWord .TFC_POL_ATT n (BitVec.ofNat 32 (1 + kind * 2 + ident * 8))
    s1.setPolicer n ⟨signedOf 24 (v / 2 ^ 64 % 2 ^ 24), 0, s1.timeOf r⟩
  | _, _ => s

/-- In-flight descriptor i of a record, on its mapped channel. -/
def State.newFly (s : State) (m : RecMap) (k base i : Nat) : Inflight :=
  let q := m.flyQ i
  let cons := cget (m.ctx q) cCons
  let later := ((List.range m.nf).filter (fun x => i ≤ x && m.flyQ x == q)).length
  { desc := m.desc i, bytes := recN m.bytes (m.fly + 128 * i + 64) 4, crc := recN m.bytes (m.fly + 128 * i + 68) 8
    chan := s.mapChan m k (m.flyDmc i), ring := (0, base + q), seq := some (sub32 cons later) }

/-- Build carrel k from a record that passed (R348 steps 1 to 5). -/
def State.restoreCarrel (s : State) (m : RecMap) (k base : Nat) : State :=
  let s1 := (List.range m.nq).foldl (fun t j => t.makeCtx (base + j) (s.newCtx m k base j)) s
  let s2 := (List.range 64).foldl (fun t i =>
    let v := m.slot i
    if v / 2 ^ 6 % 2 = 1 then
      let t1 := t.setWord .CRL_SLOT (64 * k + i) (BitVec.ofNat 32 (base + v % 64 + 2 ^ 20))
      if v / 2 ^ 13 = 1 then t1.addRing (s.mapChan m k (v / 2 ^ 7 % 64)) (base + v % 64) else t1
    else t.setWord .CRL_SLOT (64 * k + i) 0) s1
  let s3 := (List.range m.np).foldl (fun t i => t.addPolicer k base m (m.pol i)) s2
  let s4 := (List.range 4).foldl (fun t r => t.set GRN_CRL_QUOTA.QUOTA (4096 * r + k) (recN m.bytes (m.quota + 4 * r) 4)) s3
  let s5 := s4.setCounters k (fun w => if w = 9 then 0 else recN m.bytes (m.ctrs + 8 * w) 8 + (if w = 11 then 1 else 0))
  let s6 := { s5 with dmv := { s5.dmv with kept := Tab.put [] s5.dmv.kept k ((List.range m.nf).map (fun i => s.newFly m k base i)) } }
  ((s6.set CRL_CFG.STATE k 3).set CRL_CFG.ERROR k 0).set CRL_TPL.USER_CTR k (s.tplOf k 21 1)

/-- A RESTORE by CRL_CMD reads the record from host memory, BUSY until it has come (R346, R546). -/
def crlRestoreRead (p : Path) (carrel : Carrel) (s : State) : State :=
  let k := carrel.toNat
  crlCmd p k 5 1 0 s fun s =>
    let s1 := { s.set CRL_CMD.BUSY 0 1 with dmv := { s.dmv with restoring := some k } }
    s1.emit (.hostRead (s.get CRL_ARG0.PORT 0) (s.get CRL_ARG0.PASID 0)
      (s.get CRL_ADDR_LO.ADDR_LO 0 + 2 ^ 32 * s.get CRL_ADDR_HI.ADDR_HI 0) 17104)

/-- CRL_RESTORE: a record from HBM, or the bytes that the host returned, is checked and a FROZEN carrel built; a refusal changes
nothing and records CRL_RECORD_BAD, and a host read that failed ends with HOST_FAIL (R348, R349, R351). -/
def crlRestore (p : Path) (carrel : Carrel) (src : RecordFrom) (s0 : State) : State :=
  let k := carrel.toNat
  -- the record that a RESTORE by CRL_CMD asked for has come
  let s := if src != .hbm && s0.dmv.restoring == some k then
      { s0.set CRL_CMD.BUSY 0 0 with dmv := { s0.dmv with restoring := none } } else s0
  crlCmd p k 5 (if src != .hbm then 1 else 0) 0 s fun s =>
    let bytes := match src with
      | .host b => b
      | _ => peeks s.hbm (recordAt (s.get CRL_ARG0.PORT 0) (s.get CRL_ARG1.SRC_CARREL 0)) 17104
    let m := recMap bytes
    let base := s.get CRL_ARG1.QID_BASE 0
    let res := s.restoreResult m k base (src != .hbm)
    if src == .hostFail then s.set CRL_CMD.RESULT 0 8
    else if res = 0 then
      ((s.restoreCarrel m k base).set CRL_CMD_STS.LEN 0 m.size).set CRL_CMD_STS.INFLIGHT 0 m.nf
    else (s.set CRL_CMD.RESULT 0 res).record (occ setCrl 1 2 k)
def execCrlRestore (p : Path) (carrel : Carrel) (src : RecordFrom) (s : State) : Result :=
  .next (crlRestore p carrel src s)

/-- A FROZEN carrel's contexts, policers, slots, ring entries, quota and in-flight descriptors go, and it is FREE (R344). -/
def State.destroyCarrel (s : State) (k : Nat) : State :=
  let s0 := s.dmv.chan.foldl (fun s e => match e.2.active with
    | some a => if a.carrel = some k then s.dropActive e.1 else s
    | none => s) s
  let s1 := (s0.carrelPolicers k).foldl (fun s n => s.setWord .TFC_POL_ATT n 0) s0
  let s2 := (List.range 64).foldl (fun s c => s.clearRings k c) s1
  let s3 := (s2.carrelQueues k).foldl (fun s q => s.putCtx q (cput (s.ctx q) cValid 0)) s2
  let s4 := (List.range 64).foldl (fun s i => s.setWord .CRL_SLOT (64 * k + i) 0) s3
  let s5 := (List.range 4).foldl (fun s r => s.set GRN_CRL_QUOTA.QUOTA (4096 * r + k) 0) s4
  let s6 := { s5 with dmv := { s5.dmv with kept := Tab.put [] s5.dmv.kept k [] } }
  (s6.set CRL_CFG.STATE k 0).set CRL_CFG.ERROR k 0

/-- CRL_DESTROY. -/
def crlDestroy (p : Path) (carrel : Carrel) (s : State) : State :=
  crlCmd p carrel.toNat 6 (s.get CRL_CMD.DEST 0) 3 s fun s => s.destroyCarrel carrel.toNat
def execCrlDestroy (p : Path) (carrel : Carrel) (s : State) : Result := .next (crlDestroy p carrel s)

/-! Slots and the channel share (R342). -/

/-- CARREL_SLOT_WRITE: a slot may name only a valid context of the carrel. -/
def carrelSlotWrite (p : Path) (carrel : Carrel) (slot : Fin 64) (v : Word) (s : State) : State :=
  s.command p setCrl fun s =>
    let k := carrel.toNat
    let x := s.ctx (bits v 0 20)
    if bit v 20 && !(cget x cValid == 1 && cget x cOwner == 2 && cget x cCarrel == k) then s.discard setCrl
    else s.setWord .CRL_SLOT (64 * k + slot) v
def execCarrelSlotWrite (p : Path) (carrel : Carrel) (slot : Fin 64) (v : Word) (s : State) : Result :=
  .next (carrelSlotWrite p carrel slot v s)

/-- A channel that performs a descriptor of a carrel. -/
def State.runs (s : State) (c k : Nat) : Bool := match (s.dchan c).active with
  | some a => a.carrel == some k
  | none => false

/-- CARREL_SHARE_WRITE: bits outside the template's channels are discarded; a channel removed from the share of a carrel that is
not FREE gives up the carrel's rings, once its current descriptor of the carrel is over. -/
def carrelShareWrite (p : Path) (carrel : Carrel) (hi : Bool) (v : Word) (s : State) : State :=
  s.command p setCrl fun s =>
    let k := carrel.toNat
    let lo := if hi then 32 else 0
    let old := s.shareMask k / 2 ^ lo % 2 ^ 32
    let may := s.tplOf k (64 + lo) 32
    let new := v.toNat &&& may
    let s1 := if new = v.toNat then s else s.discard setCrl
    let s2 := if hi then s1.set CRL_CHAN_HI.MASK_HI k new else s1.set CRL_CHAN_LO.MASK_LO k new
    if s.get CRL_CFG.STATE k = 0 then s2
    else ((List.range 32).filter (fun i => old.testBit i && !new.testBit i)).foldl (fun s i =>
      if s.runs (lo + i) k then s else s.clearRings k (lo + i)) s2
def execCarrelShareWrite (p : Path) (carrel : Carrel) (hi : Bool) (v : Word) (s : State) : Result :=
  .next (carrelShareWrite p carrel hi v s)

end Sys2Proof.Machine
end

