-- ==== Sys2Proof/Machine/Hbm.lean ====
section
/-! DEFINITION. What the columns of an HBM row hold: the ciphertext of data and tag sectors, way entries with their two copies, and
check words (R159–R161, R164). State keeps each column's plain bytes, its POISON bit and the way entries once; what a stack
stores follows from them here. The cipher and the codes are constants without a body: the spec names them and does not give their
tables (log entry 76). -/
namespace Sys2Proof.Machine
open Sys2Proof

/-- The pseudo-channel of a row (R159). -/
def pseudoChannelOf (row : Nat) : Nat := row % 32

/-! Way entries (R164). -/

/-- The payload of a way entry (Table: Way entry payload). -/
def Way.payload (w : Way) : BitVec 42 :=
  BitVec.ofNat 42 (w.tag % 2 ^ 13 + w.valid.toNat * 2 ^ 13 + w.svalid.toNat * 2 ^ 14 + w.dirty.toNat * 2 ^ 18
    + w.gclass % 8 * 2 ^ 22 + w.hinted.toNat * 2 ^ 25 + w.pinned.toNat * 2 ^ 26 + w.age % 4 * 2 ^ 27
    + w.carrelV.toNat * 2 ^ 29 + w.carrel % 4096 * 2 ^ 30)

/-- The way that a payload describes. -/
def wayOf (p : BitVec 42) : Way :=
  { tag := bits p 0 13, valid := p.getLsbD 13, svalid := BitVec.ofNat 4 (bits p 14 4), dirty := BitVec.ofNat 4 (bits p 18 4)
    gclass := bits p 22 3, hinted := p.getLsbD 25, pinned := p.getLsbD 26, age := bits p 27 2
    carrelV := p.getLsbD 29, carrel := bits p 30 12 }

/-- The check of a copy; the all-zero entry is a valid codeword (R164). -/
def payloadCheck (p : BitVec 42) : BitVec 8 := if p = 0 then 0 else Config.secDed p

/-- A way entry: its payload twice, each copy with its own check, and zero above (Table: Granary way entry). -/
def Way.stored (w : Way) : BitVec 128 :=
  BitVec.ofNat 128 (w.payload.toNat + (payloadCheck w.payload).toNat * 2 ^ 42 + w.payload.toNat * 2 ^ 50
    + (payloadCheck w.payload).toNat * 2 ^ 92)

/-- A copy of an entry, when it checks good. -/
def goodCopy (e : BitVec 128) (lo : Nat) : Option (BitVec 42) :=
  let p := BitVec.ofNat 42 (bits e lo 42)
  if payloadCheck p = BitVec.ofNat 8 (bits e (lo + 42) 8) then some p else none

/-- An entry as it is read: the first copy that checks good, and what the check says of the entry (R164, R182). -/
def entryRead (e : BitVec 128) : Option Way × ColRead :=
  match goodCopy e 0, goodCopy e 50 with
  | some p, some _ => (some (wayOf p), .good)
  | some p, none => (some (wayOf p), .tagCopy)
  | none, some p => (some (wayOf p), .tagCopy)
  | none, none => (none, .tagBoth)

/-- Four way entries as a tag sector. -/
def sectorBits (ways : List Way) : BitVec 512 :=
  BitVec.ofNat 512 (((List.range 4).map (fun v => (ways.getD v {}).stored.toNat * 2 ^ (128 * v))).sum)

/-! Columns as they are stored (R160, R161). -/

/-- Plain bytes of a column of a stack 0–7 under the key pair of this start; S0 and S1 are columns 32 and 33. -/
def State.cipher (s : State) (stack row col : Nat) (plain : BitVec 512) : BitVec 512 :=
  Config.xts (Config.hbmKey s.grn.key) stack row col plain

/-- A data column. -/
def State.dataColumn (s : State) (stack row col : Nat) : BitVec 512 :=
  s.cipher stack row col (s.hbmLine (hbmAt stack (2048 * row + 64 * col))).data

/-- S0 or S1: the tag sector of a half row of the Granary area, and zeros in every other row (R160, R163, R166). -/
def State.tagColumn (s : State) (stack row half : Nat) : BitVec 512 :=
  s.cipher stack row (32 + half)
    (if row < 2 ^ 23 then sectorBits (s.sideWays (stack / 2) (4 * row + 2 * half + stack % 2)) else 0)

/-- The check word of a data column, over its ciphertext (Table: Check word of one data column). -/
def State.checkWord (s : State) (stack row col : Nat) : BitVec 32 :=
  let p := Tab.get false s.grn.poison (hbmAt stack (2048 * row + 64 * col) / 64)
  let high := BitVec.ofNat 8 (p.toNat + (Config.addrParity stack row col).toNat * 2)
  BitVec.ofNat 32 ((Config.rsCheck (s.dataColumn stack row col) high).toNat + high.toNat * 2 ^ 24)

/-- S2 or S3: the check words of 16 data columns. -/
def State.checkColumn (s : State) (stack row half : Nat) : BitVec 512 :=
  BitVec.ofNat 512 (((List.range 16).map (fun k => (s.checkWord stack row (16 * half + k)).toNat * 2 ^ (32 * k))).sum)

/-- A column of a row, 0–31 data and 32–35 S0–S3. -/
def State.column (s : State) (stack row col : Nat) : BitVec 512 :=
  if col < 32 then s.dataColumn stack row col
  else if col < 34 then s.tagColumn stack row (col - 32)
  else s.checkColumn stack row (col - 34)

end Sys2Proof.Machine
end

