-- ==== Sys2Proof/Machine/Granary.lean ====
section
/-! DEFINITION. The commands of the Granary: pool fills and writes, flush walks, and what the check code of a column says
(R168–R177, R182). -/
namespace Sys2Proof.Machine
open Sys2Proof

/-- GRANARY_DATA_READY: the data is in the tracker, by what its column read found (R104, R177). -/
def granaryDataReady (r : Region) (t : Nat) (found : ColRead) (s : State) : State :=
  let k := 8192 * r.val + t % 8192
  match s.trk k with
  | none => s
  | some x =>
    if x.phase != .data then s
    else
      let go (s : State) (x : Tracker) : State := (s.setTrk k (some { x with phase := .work })).work [.settle k]
      match s.findWay r x.line with
      | none => go s x
      | some w =>
        let g := grnIndex x.line
        let s := s.columns (2 * r.val + g % 2) 1
        let wk := wayKey r g w
        let i := sectorOf x.line
        let key := sectorKey r g w i
        let row := key % 2 ^ 35 / 2048
        let col := key / 64 % 32
        match found with
        | .good => go s x
        | .corrected => go (columnCorrected s r (g % 2) row col 0) x
        | .uncorrectable =>
          if (s.way wk).dirty.getLsbD i then
            let (d, s1) := sectorLostDirty s r wk i row col
            go s1 { x with held := some d }
          else
            let s1 := sectorLostClean s r wk i row col
            match x.req with
            | none => go s1 x
            | some q =>
              if s1.held (rget q.srec rPort) then
                let (d, s2) := s1.openLine
                go s2 { x with held := some d, reason := 2 }
              else (s1.fetch q.srec x.line).setTrk k (some { x with held := none, phase := .pool })
        | .tagCopy => go (rowRepair ((eccCapture s r (g % 2) row (g / 2 % 2) 1).record (blockOcc (grnSet r) 3)) (2 * r.val + g % 2) row) x
        | .tagBoth => go (rowRepair ((eccCapture s r (g % 2) row (g / 2 % 2) 1).record (regionOcc r (grnSet r) 4)) (2 * r.val + g % 2) row) x

def execGranaryDataReady (r : Region) (t : Nat) (found : ColRead) (s : State) : Result := .next (granaryDataReady r t found s)

/-! Pool devices (R168, R172). -/

/-- POOL_FILL_ARRIVE: the line goes to the tracker that waits for it and into its sector of the Granary (R168, R169). -/
def poolFillArrive (r : Region) (addr : FAddr) (d : LineData) (s : State) : State :=
  let line := lineOf addr.toNat
  if homeOf line != r.val then s
  else
    let kept := (s.findWay r line).isSome
    let s1 := s.fillSector r line d
    match s1.cat.trk.find? (fun e => e.1 / 8192 == r.val && (match e.2 with
      | some t => t.line == line && t.phase == .pool
      | none => false)) with
    | some (k, some t) =>
      let reason := if d.poison && !kept then 6 else t.reason
      (s1.setTrk k (some { t with held := some d, reason := reason, phase := .work })).work [.settle k]
    | _ => s1

def execPoolFillArrive (r : Region) (addr : FAddr) (d : LineData) (s : State) : Result := .next (poolFillArrive r addr d s)

/-- What the completion of a write means to who sent it (R170, R172): a block of a retired set that is clean goes (R180). -/
def writeDone (s : State) (w : PoolWr) : State :=
  match w.from_ with
  | .stale => s
  | .tracker k => (match s.trk k with
    | some t =>
      if t.phase = .poolWrite then
        let t1 := if t.taken.isSome && !t.stored then { t with stored := true } else { t with wrote := true }
        (s.setTrk k (some { t1 with phase := .work })).work [.settle k]
      else s
    | none => s)
  | .buffer => (match s.grn.wbuf.find? (fun e => e.issued && e.block == w.line / 256 * 256) with
    | none => s
    | some e =>
      let left := e.dirty &&& ~~~ (BitVec.ofNat 4 (2 ^ sectorOf w.line))
      if left = 0 then (s.dropWb (fun x => x == e)).work []
      else { s with grn := { s.grn with wbuf := s.grn.wbuf.map (fun x => if x = e then { e with dirty := left } else x) } })
  | _ => (match s.findWay w.region w.line with
    | none => s
    | some v =>
      let k := wayKey w.region (grnIndex w.line) v
      let x := s.way k
      let left := x.dirty &&& ~~~ (BitVec.ofNat 4 (2 ^ sectorOf w.line))
      s.setWay k (if left = 0 && s.grn.retired.contains (k / 4) then {} else { x with dirty := left, pinned := x.pinned && left != 0 }))

/-- POOL_WRITE_COMPLETE: the oldest write of the line completes; a re-shelving page of its source is marked (R82, R172). -/
def poolWriteComplete (r : Region) (addr : FAddr) (s : State) : State :=
  match s.grn.writes.find? (fun w => w.region == r.val && w.line == lineOf addr.toNat && w.held.isNone) with
  | none => s
  | some w => writeDone ({ s with grn := { s.grn with writes := s.grn.writes.erase w } }.sourceWritten w.line w.port) w

def execPoolWriteComplete (r : Region) (addr : FAddr) (s : State) : Result := .next (poolWriteComplete r addr s)

/-! Flush walks (R174, R176). -/

def flushOf (s : State) (r : Nat) : Flush := Tab.get {} s.grn.flush r
def setFlush (s : State) (r : Nat) (f : Flush) : State := { s with grn := { s.grn with flush := Tab.put {} s.grn.flush r f } }

/-- GRN_FLUSH_CMD GO with an operation (R174, R176): BUSY until the walk ends; INVALIDATE cancels the shelf's buffer entries that
are not yet issued, and ALL_CLEAN counts SKIPPED anew. -/
def flushStart (p : Path) (r : Nat) (op x : Nat) (s : State) : State :=
  s.startWith p (grnSet r) (s.flag GRN_FLUSH_CMD.BUSY r)
      (fun s => (s.set GRN_FLUSH_CMD.SHELF r x).set GRN_FLUSH_CMD.OP r op) fun s =>
    let s1 := (s.set GRN_FLUSH_CMD.SHELF r x).set GRN_FLUSH_CMD.OP r op
    if op < 2 && x % 4 != r then s1.set GRN_FLUSH_CMD.RESULT r 1
    else
      let s2 := ((s1.set GRN_FLUSH_CMD.RESULT r 0).set GRN_FLUSH_CMD.BUSY r 1).set GRN_FLUSH_STS.WRITTEN r 0
      if op = 0 then
        let s3 := s2.dropWb (fun e => !e.issued && shelfOf e.block == x)
        let s4 := { s3 with grn := { s3.grn with waitPut := s3.grn.waitPut.filter (fun (e : Nat × LineData) => shelfOf e.1 != x) } }
        (setFlush s4 r { running := true, op := op, shelf := x }).work []
      else
        setFlush (if op = 2 then s2.set GRN_FLUSH_STS.SKIPPED r 0 else s2) r { running := true, op := op, shelf := x }

def execGrnInvalidate (p : Path) (r : Region) (shelf : Shelf) (s : State) : Result := .next (flushStart p r 0 shelf.toNat s)
def execGrnCleanInvalidate (p : Path) (r : Region) (shelf : Shelf) (s : State) : Result := .next (flushStart p r 1 shelf.toNat s)
/-- GRN_ALL_CLEAN: SHELF is ignored and kept (R176). -/
def execGrnAllClean (p : Path) (r : Region) (s : State) : Result := .next (flushStart p r 2 (s.get GRN_FLUSH_CMD.SHELF r) s)

/-- The position of a way in a walk: the block's place in its shelf, or its set for ALL_CLEAN; none when the walk has nothing to
do there. -/
def flushPos (f : Flush) (r k : Nat) (w : Way) : Option Nat :=
  if wayRegion k != r || !w.valid then none
  else if f.op = 2 then (if w.dirty != 0 && waySet k ≥ f.pos then some (waySet k) else none)
  else
    let b := wayBlock k w
    if shelfOf b == f.shelf && b % 2 ^ 28 / 256 ≥ f.pos then some (b % 2 ^ 28 / 256) else none

/-- The next position at which a walk has something to do. -/
def flushNext (s : State) (f : Flush) (r : Nat) : Option Nat := (s.grn.ways.filterMap (fun e => flushPos f r e.1 e.2)).min?

/-- One way at a walk's position (R174, R176), for a walk of a shelf or of the region. A cleaning reads the way's columns. -/
def flushWay (s0 : State) (r k : Nat) (found : List ColRead) : State :=
  let f := flushOf s0 r
  let port := s0.poolOf (wayBlock k (s0.way k))
  if f.op = 2 then
    if s0.held port then setFlush s0 r { f with skipped := if f.skipped.contains port then f.skipped else port :: f.skipped }
    else
      let s := s0.wayRead k found
      let w := s.way k
      let s1 := (List.range 4).foldl (fun s i =>
        if w.dirty.getLsbD i then
          let line := wayBlock k w + 64 * i
          s.sendWrite line .way (s.hbmLine (sectorKey r (waySet k) (k % 4) i))
        else s) s
      (setFlush s1 r { f with written := f.written + 1 }).count r 0x0A r 1
  else if f.op = 1 && (s0.way k).dirty != 0 then
    (setFlush (s0.toBuffer k found) r { f with written := f.written + 1 }).setWay k {}
  else s0.setWay k {}

/-- FLUSH_WALK_STEP: the walk visits the next set at which it has something to do, through the tag cache (R165); a cleaning waits while
its buffer is full (R172, R174, R176). Sets at which it has nothing to do are passed over (log entry 37). -/
def flushWalkStep (r : Region) (found : List ColRead) (s : State) : State :=
  let f := flushOf s r
  if !f.running then s
  else match flushNext s f r with
    | none => s
    | some n =>
      let here := s.grn.ways.filter (fun e => flushPos f r e.1 e.2 == some n)
      if f.op = 1 && here.any (fun e => e.2.dirty != 0 && !s.bufferRoom (grnStack r (waySet e.1))) then s
      else
        let s0 := (here.map (fun e => waySet e.1)).dedup.foldl (fun s g => s.tagLookup r g) s
        let s1 := here.foldl (fun s e => flushWay s r e.1 found) s0
        let f1 := flushOf s1 r
        let s2 := (setFlush s1 r { f1 with pos := n + 1 }).set GRN_FLUSH_STS.WRITTEN r (min f1.written (2 ^ 24 - 1))
        if f.op = 2 then s2.set GRN_FLUSH_STS.SKIPPED r f1.skipped.length else s2

def execFlushWalkStep (r : WalkRead) (s : State) : Result := .next (flushWalkStep r.region r.found s)

/-- The modified sets of a region's Catalogue cache go to HBM (R100). -/
def State.setsBack (s : State) (r : Nat) : State :=
  s.cat.cache.foldl (fun s e => match e.2 with
    | some c => if e.1 / 2 ^ 26 == r && c.modified then
        (s.putBacking r (e.1 % 2 ^ 26) c.ways).inCat fun t => { t with cache := Tab.put none t.cache e.1 (some { c with modified := false }) }
      else s
    | none => s) s

/-- FLUSH_WALK_DONE: the walk is over and the writes it waits for have completed (R174, R176); with the power-down flush the modified
tag sectors and Catalogue sets have gone to HBM too (R100, R165). -/
def flushWalkDone (r : Region) (s : State) : State :=
  let f := flushOf s r
  let open_ := s.grn.writes.any (fun w => w.region == r.val && (f.op == 2 || shelfOf w.line == f.shelf)) ||
    s.grn.waitPut.any (fun (e : Nat × LineData) => homeOf e.1 == r.val && (f.op == 2 || shelfOf e.1 == f.shelf))
  if f.running && (flushNext s f r).isNone && !open_ then
    let s1 := if f.power then (s.tagsBack r).setsBack r else s
    ((setFlush s1 r {}).set GRN_FLUSH_CMD.BUSY r 0).set GRN_FLUSH_STS.DONE r 1
  else s

def execFlushWalkDone (r : Region) (s : State) : Result := .next (flushWalkDone r s)

/-- PSEUDO_CHANNEL_FAIL: GRN_PC_FAIL isolates the region; nothing reads or writes the rows of the pseudo-channel again (R159, R182). -/
def pseudoChannelFail (r : Region) (s : State) : State := s.record (regionOcc r (grnSet r) 6)

def execPseudoChannelFail (r : PseudoChannel) (s : State) : Result := .next (pseudoChannelFail r.region s)

end Sys2Proof.Machine
end

