-- ==== Sys2Proof/Machine/Home.lean ====
section
/-! DEFINITION. The commands of the Catalogue and the Loan desk (chapter Coherence Home: Catalogue and Loan Desk). -/
namespace Sys2Proof.Machine
open Sys2Proof

/-! Requests at the bank (R91, R101). -/

/-- CAT_REQ_PROTOCOL: a request that fits no kind is discarded, and its ingress port is contained (R91). -/
def catReqProtocol (a : Access) (s : State) : State :=
  (s.record (portOcc a.port (catSet (homeOf a.addr.toNat)) 12)).portContained a.port

def execCatReqProtocol (a : Access) (s : State) : Result := .next (catReqProtocol a s)

/-- The fabric address of an address below a DN port, when it falls in the port's window (R391). -/
def State.planWindow (s : State) (p a : Nat) : Option Nat :=
  let base := s.plan p 128 64
  if base ≤ a && a < base + s.plan p 224 20 * 2 ^ 28 then some (a - base + s.plan p 192 20 * 2 ^ 28) else none

/-- An access with its fabric address: that of a device below a DN port of this unit is mapped by the port's window, for a device cache
only where the plan enables one (R119, R120, R391). An address outside the window addresses no pool memory. -/
def State.mapped (s : State) (a : Access) : Option Access :=
  let at_ (fa : Nat) : Access := { a with addr := BitVec.ofNat 48 fa }
  if agentUnit a.agent != s.unit then some a
  else match a.src with
  | .devCache => if s.plan a.port 14 1 = 1 then (s.planWindow a.port a.dev.toNat).map at_ else none
  | .pcieDev _ => (s.planWindow a.port a.dev.toNat).map at_
  | _ => some a

/-- The request kinds of a source (Table: Request kinds at the home). -/
def kindFits (src : Source) (k : ReqKind) (m : WbMeta) : Bool :=
  match src with
  | .host => k != .wb || m != .dirtyEvict
  | .devCache => k != .wb || m == .dirtyEvict
  | .slip _ => k == .wr
  | _ => k == .wr || k == .rdCur

/-- A request to a coherent line fits no row of the table (R91): its source has no such request, or the owner of the line writes part
of it. -/
def State.misfits (s : State) (q : Request) : Bool :=
  let fa := q.a.addr.toNat
  let e := s.entry (lineOf fa)
  rget (s.srec (shelfOf fa)) rMode == 1 && (!kindFits q.a.src q.kind q.m ||
    (q.a.src == .host && q.kind == .wr && q.be != BitVec.allOnes 64 && eState e == 3 && ePtrs e == (s.cacher q.a).toList))

/-- The class of a request at its port (Table: Traffic classes). -/
def requestClass (src : Source) (k : ReqKind) : Nat :=
  let writes := k == .wb || k == .wr
  match src with
  | .host => if writes then 6 else 5
  | .devCache => if writes then 6 else 4
  | _ => 3

/-- A request that a port of this unit admits counts toward its latency samples (R484). -/
def State.admitted (s : State) (q : Request) : State :=
  match q.a.src with
  | .host | .devCache | .pcieDev _ =>
    if agentUnit q.a.agent = s.unit then s.latMark q.a.port (requestClass q.a.src q.kind) q.a.agent.toNat q.a.tag.toNat else s
  | _ => s

/-- A request arrives at its bank: discarded where it fits no kind, else presented (R91). -/
def State.atBank (s : State) (a : Access) (f : Access → Request) : State :=
  match s.mapped a with
  | none => s
  | some b => if s.misfits (f b) then catReqProtocol b s else (s.admitted (f b)).work [.present (f b)]

def execRdShared (a : Access) (s : State) : Result := .next (s.atBank a fun a => { kind := .rdShared, a := a })
def execRdOwn (a : Access) (s : State) : Result := .next (s.atBank a fun a => { kind := .rdOwn, a := a })
def execRdCur (a : Access) (s : State) : Result := .next (s.atBank a fun a => { kind := .rdCur, a := a })
def execOwnNodata (a : Access) (s : State) : Result := .next (s.atBank a fun a => { kind := .ownNodata, a := a })
def execCleanEvict (a : Access) (s : State) : Result := .next (s.atBank a fun a => { kind := .cleanEvict, a := a })
def execWb (a : Access) (d : LineData) (m : WbMeta) (s : State) : Result :=
  .next (s.atBank a fun a => { kind := .wb, a := a, d := d, be := BitVec.allOnes 64, m := m })
def execWr (a : Access) (d : LineData) (be : BitVec 64) (s : State) : Result :=
  .next (s.atBank a fun a => { kind := .wr, a := a, d := d, be := be })

/-- The port through which an agent answers: its own, or that of a Zwius link to its unit. -/
def State.portOf (s : State) (agent : Nat) : Nat :=
  if agent / 256 == s.unit then agent / 4 % 64
  else match (List.range 8).find? (fun z => Tab.get 0 s.cat.peer z == agent / 256 + 1) with
    | some z => zPort z
    | none => agent / 4 % 64

/-- The responses that a snoop permits (R103). DESIGN CHOICE: the spec names examples for BISnpInv only. BISnpData asks the owner to
keep at most a shared copy, so it permits I and S; BISnpCur asks for no change, so it permits every response (log entry 69). -/
def permits (k : SnpKind) (rsp : SnpRsp) : Bool :=
  match k, rsp with
  | .inv, .i => true
  | .inv, _ => false
  | .data, .e => false
  | .data, _ => true
  | .cur, _ => true

/-- An answer to a snoop arrives at tracker k, with data that a device cache forwards (R101, R103, R115, R116, R121). -/
def snoopAnswer (s : State) (k agent : Nat) (rsp : SnpRsp) (d : Option LineData) : State :=
  match s.trk k with
  | none => s
  | some t =>
    match t.await.find? (fun e => e.1 == agent) with
    | none => s
    | some e =>
      if permits e.2 rsp then
        let t1 := { t with await := t.await.filter (fun x => x.1 != agent), answers := (agent, rsp) :: t.answers
                           taken := if d.isSome then d else t.taken, stored := t.stored && d.isNone }
        (s.setTrk k (some t1)).work [.settle k]
      else
        let p := s.portOf agent
        let s1 := (s.record (portOcc p (catSet (k / 8192)) 6)).deadAnswer k agent 5
        (s1.work [.settle k]).portContained p

/-- BIRSP (R116). -/
def biRsp (r : Region) (t : Nat) (agent : Agent) (rsp : SnpRsp) (s : State) : State :=
  snoopAnswer s (8192 * r.val + t % 8192) agent.toNat rsp none

def execBiRsp (r : Region) (t : Nat) (agent : Agent) (rsp : SnpRsp) (s : State) : Result := .next (biRsp r t agent rsp s)

/-- D2H_SNOOP_RESPONSE (R121). -/
def d2hSnoopResponse (r : Region) (t : Nat) (agent : Agent) (rsp : SnpRsp) (d : Option LineData) (s : State) : State :=
  snoopAnswer s (8192 * r.val + t % 8192) agent.toNat rsp d

def execD2hSnoopResponse (r : Region) (t : Nat) (agent : Agent) (rsp : SnpRsp) (d : Option LineData) (s : State) : Result :=
  .next (d2hSnoopResponse r t agent rsp d s)

/-- A request named in a BIConflict has been served, taken, or waits in the chain (R137 steps 3 to 5); or it is the one that the
tracker itself serves. A later use of the tag is not the request that was served. -/
def reached (s : State) (t : Tracker) (agent : Nat) (tag : BitVec 16) (later : Bool) : Bool :=
  let same (q : Request) : Bool := s.cacher q.a == some agent && q.a.tag == tag
  t.took.contains (agent, tag) || (!later && Tab.get 0 s.cat.served (agent * 2 ^ 16 + tag.toNat) == t.line + 1) ||
    (match t.req with | some q => same q | none => false) ||
    t.chain.any (fun h => match s.trk h with
      | some w => (match w.req with | some q => same q | none => false)
      | none => false)

/-- BIConflictAck to an agent, on the channel of completions, S2M NDR or H2D Rsp (R137). -/
def State.sendAck (s : State) (r : Nat) (agent : Agent) (tag : BitVec 16) : State :=
  s.send r (agentUnit agent) (agentPort agent) 6 (if s.role (agentPort agent) = 2 then [6] else [3]) (.conflictAck agent tag)

/-- BICONFLICT: BIConflictAck is sent, and the tracker stays BUSY for a named request that has not reached the bank (R137). -/
def biConflict (r : Region) (t : Nat) (agent : Agent) (tag : BitVec 16) (later : Bool) (s : State) : State :=
  let k := 8192 * r.val + t % 8192
  match s.trk k with
  | none => s
  | some x =>
    if !(x.await.any (fun e => e.1 == agent.toNat)) then s
    else
      let s1 := s.sendAck r agent tag
      if reached s x agent.toNat tag later then s1 else s1.setTrk k (some { x with named := (agent.toNat, tag) :: x.named })

def execBiConflict (r : Region) (t : Nat) (agent : Agent) (tag : NamedTag) (s : State) : Result :=
  .next (biConflict r t agent tag.tag tag.later s)

/-- CATALOGUE_FILL_DONE: every lookup that waits on the fill completes (R99); a corrected column counts as one (R177), and a set that
cannot be read isolates the region (R125). -/
def catalogueFillDone (r : Region) (index : BitVec 26) (found : ColRead) (s : State) : State :=
  let key := catKey r index.toNat
  match s.cat.fills.find? (fun f => f.1 == key) with
  | none => s
  | some f =>
    let s0 := if found = .corrected then keyCorrected s (catAt r index.toNat) else s
    if found = .uncorrectable then (keyLost s0 (catAt r index.toNat)).record (regionOcc r (catSet r) 3)
    else
      let s1 := s0.inCat fun c => { c with fills := c.fills.filter (fun x => x.1 != key) }
      (s1.catFill r index.toNat).work (f.2.map Work.decide)

def execCatalogueFillDone (r : Region) (index : SetRead) (s : State) : Result :=
  .next (catalogueFillDone r index.index index.found s)

/-- CHAIN_RETRY_DELAY: the oldest request of the region refused from a full chain is presented again (R114). -/
def chainRetryDelay (r : Region) (s : State) : State :=
  match s.cat.retry.find? (fun e => e.1 == r.val) with
  | none => s
  | some e => (s.inCat fun c => { c with retry := c.retry.erase e }).work [.present e.2]

def execChainRetryDelay (r : Region) (s : State) : Result := .next (chainRetryDelay r s)

/-- DEDUPE_RETIRE: the entry whose completion left first retires, and a write that waited for room enters (R122, R124). -/
def dedupeRetire (r : Region) (s : State) : State :=
  let done := s.cat.ddp.filter (fun e => e.region == r.val && e.done)
  match done.find? (fun e => done.all (fun x => e.fin ≤ x.fin)) with
  | none => s
  | some e =>
    let s1 := (s.inCat fun c => { c with ddp := c.ddp.erase e }).noteDdp r
    match s1.cat.ddpWait.find? (fun w => w.1 == r.val) with
    | none => s1
    | some w => ((s1.inCat fun c => { c with ddpWait := c.ddpWait.erase w }).ddpEnter w.2).work [.present w.2]

def execDedupeRetire (r : Region) (s : State) : Result := .next (dedupeRetire r s)

/-- CAT_ENTRY_LOOKUP: the entry of the line in CAT_ENT_ADDR, unchanged (R126). -/
def catEntryLookup (p : Path) (r : Region) (s : State) : State :=
  s.start p (catSet r) (s.flag CAT_ENT_CMD.BUSY r) fun s =>
    let fa := (s.word .CAT_ENT_ADDR_LO r).toNat / 64 * 64 + s.get CAT_ENT_ADDR_HI.LINE_HI r * 2 ^ 32
    let e := s.entry fa
    let res := if homeOf fa != r.val then 3 else if eState e = 0 then 2
      else if (s.cachedSet r (catIndex fa)).isSome then 0 else 1
    let v : Entry := if res < 2 then e else 0
    ((s.set CAT_ENT_CMD.RESULT r res).setWord .CAT_ENT_D0 r (BitVec.ofNat 32 (bits v 0 32))).setWord .CAT_ENT_D1 r
      (BitVec.ofNat 32 (bits v 32 32))

def execCatEntryLookup (p : Path) (r : Region) (s : State) : Result := .next (catEntryLookup p r s)

/-- POISON_LEDGER_READ (R143, R158). -/
def poisonLedgerRead (p : Path) (r : Region) (shelf : Shelf) (s : State) : State :=
  s.startWith p (catSet r) (s.flag CAT_PLG_CMD.BUSY r) (fun s => s.set CAT_PLG_CMD.SHELF r shelf.toNat) fun s =>
    let s1 := s.set CAT_PLG_CMD.SHELF r shelf.toNat
    if shelf.toNat % 4 != r.val then (s1.set CAT_PLG_CMD.WRONG_REGION r 1).setWord .CAT_PLG_D r 0
    else (s1.set CAT_PLG_CMD.WRONG_REGION r 0).setWord .CAT_PLG_D r (BitVec.ofNat 32 (peekN s.hbm (ledgerAt shelf.toNat) 4))

def execPoisonLedgerRead (p : Path) (r : Region) (shelf : Shelf) (s : State) : Result := .next (poisonLedgerRead p r shelf s)

end Sys2Proof.Machine
end

