-- ==== Sys2Proof/Machine/Traffic.lean ====
section
/-! DEFINITION. The commands of traffic control: slips at admission, policers, fabric time, gates and depth samples
(chapter Priorities, Policing and Time Gates). -/
namespace Sys2Proof.Machine
open Sys2Proof

/-! Slips (R227). -/

/-- A carrel is ACTIVE (CRL_CFG.STATE 1). -/
def State.carrelActive (s : State) (k : Nat) : Bool := s.get CRL_CFG.STATE k == 1

/-- A slip is refused: counted in the sending carrel (R60). -/
def slipRefused (s : State) (k : Nat) : State := s.carrelCount k 5 1

/-- A Zwius port whose link is up to a peer unit (R153, R295). -/
def State.zPortTo (s : State) (unit : Nat) : Option Nat :=
  ((List.range 8).find? (fun z => (s.get ZWL_STS.STATE z == 2 || s.get ZWL_STS.STATE z == 4) && s.flag ZWL_PEER.VALID z &&
    s.get ZWL_PEER.UNIT z == unit)).map zPort

/-- The cell of a slip toward another unit: class TC2, from the sender's UP port, where slips enter, to the home region of the ring
(R184, R220, R312). -/
def slipCell (src out : Nat) (ring : Nat) (data : List Byte) : Cell :=
  { source := src, out := out, dest := 64 + qidRegion ring, tc := 2, data := data, slip := some ring }

/-- A policer's token count that shows a parity error is refilled, and the error recorded (R239). -/
def refilled (s : State) (n : Nat) : State :=
  (s.record (blockOcc (tfcSet (n / 2048)) 0)).setPolicer n ⟨(256 * s.get TFC_POL_CFG.BURST n : Nat), 0, s.timeOf (n / 2048)⟩

/-- The checks of a slip at admission: the policer of its carrel, which is one of the region of the carrel's owning UP port, and that
of its ring in the region that it enters (R224, R227). The spec gives a ring of another unit no different number; a slip bound for
it meets the policer of its QID (DESIGN CHOICE, log entry 82). -/
def slipPolicers (s : State) (r k ring : Nat) : List (Option Nat) :=
  [s.policerOf (s.carrelPort k / 16) 1 k, s.policerOf r 2 ring]

/-- SLIP_ADMIT: a slip passes its carrel's policer and then its flow's, taking tokens from both only when it conforms to both
(R227); a slip of a carrel that is not ACTIVE, or whose template does not permit slips, is refused (R345, R395). One for another unit
goes out on a Zwius link. -/
def slipAdmit (r : Region) (carrel : Carrel) (unit : Fin 4) (ring : Qid) (_tag : BitVec 32) (data : List Byte) (chk : SlipCheck)
    (s0 : State) : State :=
  let k := carrel.toNat
  let pols := (slipPolicers s0 r k ring.toNat).filterMap id
  let s := if chk.parity then pols.foldl refilled s0 else s0
  let a := (slipPolicers s r k ring.toNat).headD none
  if !s.carrelActive k || s.tplOf k 20 1 = 0 then slipRefused s k
  else match pols.find? (fun n => !s.conforms n) with
    | some n =>
      let t := slipRefused (s.chaff n) k
      if a = some n then t.carrelCount k 7 1 else t
    | none =>
      let s1 := (pols.foldl State.takeTokens s).carrelCount k 4 1
      if unit.val = s.unit then s1
      else match s1.zPortTo unit with
        | some p => s1.arrive (s1.carrelPort k) (slipCell (s1.carrelPort k) p ring.toNat data)
        | none => s1

def execSlipAdmit (r : Region) (carrel : Carrel) (unit : Fin 4) (ring : Qid) (tag : BitVec 32) (data : List Byte)
    (poison : SlipCheck) (s : State) : Result := .next (slipAdmit r carrel unit ring tag data poison s)

/-! Policers (R228). -/

/-- POLICER_CFG_WRITE: RATE, and BURST unless it is 0; the token count is clipped to the new size (R228). -/
def policerCfgWrite (p : Path) (n : Fin 8192) (v : Word) (s : State) : State :=
  s.command p (tfcSet (n / 2048)) fun s =>
    let b := s.policer n
    let s1 := s.set TFC_POL_CFG.RATE n (bits v 0 16)
    let s2 := if bits v 16 16 = 0 then s1.discard (tfcSet (n / 2048)) else s1.set TFC_POL_CFG.BURST n (bits v 16 16)
    let size : Int := (256 * s2.get TFC_POL_CFG.BURST n : Nat)
    s2.setPolicer n (if b.tokens ≥ size then { b with tokens := size, frac := 0 } else b)

def execPolicerCfgWrite (p : Path) (n : Fin 8192) (v : Word) (s : State) : Result := .next (policerCfgWrite p n v s)

/-- POLICER_ATTACH: a second policer of the region for one KIND and ID is discarded and counted. An ID out of range for its KIND
leaves ID as it is and is counted, and the other fields are taken (R44). EN from 0 to 1 fills the bucket (R228). -/
def policerAttach (p : Path) (n : Fin 8192) (v : Word) (s : State) : State :=
  s.command p (tfcSet (n / 2048)) fun s =>
    let en := bits v 0 1
    let kind := bits v 1 2
    let range := (kind = 1 && bits v 3 20 ≥ 4096) || (kind = 3 && bits v 3 20 ≥ 16)
    let ident := if range then s.get TFC_POL_ATT.ID n else bits v 3 20
    let twice := match s.policerOf (n / 2048) kind ident with
      | some m => en = 1 && kind != 0 && m != n.val
      | none => false
    if twice then s.discard (tfcSet (n / 2048))
    else
      let was := s.flag TFC_POL_ATT.EN n
      let s0 := if range then s.discard (tfcSet (n / 2048)) else s
      let s1 := ((s0.set TFC_POL_ATT.EN n en).set TFC_POL_ATT.KIND n kind).set TFC_POL_ATT.ID n ident
      if !was && en = 1 then
        s1.setPolicer n ⟨(256 * s1.get TFC_POL_CFG.BURST n : Nat), 0, s1.timeOf (n / 2048)⟩
      else s1

def execPolicerAttach (p : Path) (n : Fin 8192) (v : Word) (s : State) : Result := .next (policerAttach p n v s)

/-! Fabric time (R231–R233). -/

/-- PTM_REQUEST: a request on the manager port, under SRC PTM (R232). -/
def ptmRequest (s : State) : State :=
  match s.managerPort with
  | some p => if s.get TFC_TIME_CTL.SRC 0 = 1 && s.inL0 p then s.emit (.timeRequest p) else s
  | none => s

def execPtmRequest (s : State) : Result := .next (ptmRequest s)

/-- A measured offset is corrected (R231, R232): the first result of a source and an offset above STEP_NS by one step, which is
counted and recorded; any other by rate. -/
def State.timeResult (s : State) (offset : Int) : State :=
  let shown := ofSigned 16 (max (-32767) (min 32767 offset))
  let s1 := ((s.set TFC_TIME_STS.OFFSET 0 shown).set TFC_TIME_STS.LOCKED 0 1).set TFC_TIME_STS.HOLDOVER 0 0
  if !s1.tfc.first || offset.natAbs > s1.get TFC_TIME_CTL.STEP_NS 0 then
    let now := (((s1.timeOf 0 : Nat) : Int) + offset) % (2 ^ 64 : Int)
    let s2 := (s1.setTime now.toNat).bump TFC_TIME_STS.STEPS 0 1
    let s3 := { s2 with tfc := { s2.tfc with first := true, slew := 0, lastAt := now.toNat } }
    s3.archive 4 0x319 0 0 (ofSigned 64 offset) (s3.get TFC_TIME_CTL.SRC 0)
  else { s1 with tfc := { s1.tfc with slew := offset, lastAt := s1.timeOf 0 } }

/-- PTM_RESULT: the offset to the root port's time is corrected (R231, R232). -/
def ptmResult (master : BitVec 64) (s : State) : State :=
  if s.get TFC_TIME_CTL.SRC 0 = 1 then s.timeResult ((master.toNat : Int) - (s.timeOf 0 : Nat)) else s

def execPtmResult (master : BitVec 64) (s : State) : Result := .next (ptmResult master s)

/-- Under SRC ZL, another Zwius link that is up to the unit that the link on ZL_PORT last reached, while that link is down (R233). -/
def State.otherTimeLink (s : State) : Option Nat :=
  let z := zIndex (s.get TFC_TIME_CTL.ZL_PORT 0)
  if s.get ZWL_STS.STATE z = 2 || s.get ZWL_STS.STATE z = 4 then some z
  else match Tab.get 0 s.cat.lastPeer z with
    | 0 => none
    | u + 1 => (List.range 8).find? (fun x => x != z && (s.get ZWL_STS.STATE x == 2 || s.get ZWL_STS.STATE x == 4) &&
        s.get ZWL_PEER.UNIT x == u)

/-- HOLDOVER_ENTRY: the regions count on at the last corrected rate, and TFC_TIME_SRC_LOST is recorded (R233). The spec does not say
what rate that is: the offset last measured is still removed, and the count then goes on at the nominal rate (DESIGN CHOICE, log entry
80). -/
def holdoverEntry (s : State) : State :=
  let src := s.get TFC_TIME_CTL.SRC 0
  if src = 0 || s.flag TFC_TIME_STS.HOLDOVER 0 then s
  else ((s.set TFC_TIME_STS.HOLDOVER 0 1).set TFC_TIME_STS.LOCKED 0 0).record (blockOcc setTfc4 4)

def execHoldoverEntry (s : State) : Result := .next (holdoverEntry s)

/-- TIME_REGION_SKEW: CONTAINED at port scope on every port whose gates are enabled, and the Keeper realigns the copies to
region A's (R231, R239). -/
def timeRegionSkew (s : State) : State :=
  let ports := (List.range 64).filter (fun p => s.flag TFC_GATE_CTL.EN p)
  let s1 := if ports = [] then s.record (blockOcc setTfc4 5)
    else ports.foldl (fun s p => (s.record (portOcc p setTfc4 5)).portContained p) s
  s1.setTime (s1.timeOf 0)

def execTimeRegionSkew (s : State) : Result := .next (timeRegionSkew s)

/-! Gates (R234, R237). -/

/-- GATE_GO: refused with BUSY while PENDING, with LATE when BASE is past, else armed (R237). -/
def gateGo (p : Path) (port : Port) (s : State) : State :=
  s.command p (tfcSet (port / 16)) fun s =>
    let base := s.get TFC_GATE_BASE_LO.BASE_LO port + 2 ^ 32 * s.get TFC_GATE_BASE_HI.BASE_HI port
    if s.flag TFC_GATE_CTL.PENDING port then s.set TFC_GATE_CTL.RESULT port 2
    else if base < s.timeOf (port / 16) then s.set TFC_GATE_CTL.RESULT port 1
    else (s.set TFC_GATE_CTL.RESULT port 0).set TFC_GATE_CTL.PENDING port 1

def execGateGo (p : Path) (port : Port) (s : State) : Result := .next (gateGo p port s)

/-- The entry applied now is shown in TFC_GATE_CUR. -/
def showEntry (s : State) (port : Nat) : State := s.set TFC_GATE_CUR.ENTRY port (s.gateEntryAt port (s.timeOf (port / 16)))

/-- GATE_BANK_SWITCH: at the first cycle whose fabric time is at least BASE, the standby bank becomes active with that BASE
(R237). A BASE written while the switch is PENDING is the one that counts (DESIGN CHOICE, log entry 81). -/
def gateBankSwitch (port : Port) (s : State) : State :=
  let base := s.get TFC_GATE_BASE_LO.BASE_LO port + 2 ^ 32 * s.get TFC_GATE_BASE_HI.BASE_HI port
  if s.flag TFC_GATE_CTL.PENDING port && base ≤ s.timeOf (port / 16) then
    let s1 := (s.set TFC_GATE_CTL.ACTIVE port (1 - s.gateBank port)).set TFC_GATE_CTL.PENDING port 0
    showEntry { s1 with tfc := { s1.tfc with base := Tab.put 0 s1.tfc.base port base
                                             gateLost := Tab.put false s1.tfc.gateLost port false } } port
  else s

def execGateBankSwitch (port : Port) (s : State) : Result := .next (gateBankSwitch port s)

/-- The active bank of a port takes no entry writes (R237). -/
def State.gateHeld (s : State) (i : Nat) : Bool := i / 64 % 2 == s.gateBank (i / 128)

/-- GATE_ENTRY_CHANGE: the entry in which fabric time falls is applied (R234). -/
def gateEntryChange (port : Port) (s : State) : State := showEntry s port
def execGateEntryChange (port : Port) (s : State) : Result := .next (gateEntryChange port s)

/-! Depth samples (R238). -/

/-- With EN, the depth of every VOQ, SRAM and HBM together, and of every output class of region r, its merge stage and
resequencer window together (R238). -/
def State.sampleDepths (s : State) (r : Nat) : State :=
  if !s.flag TFC_HIST_CTL.EN r then s
  else
    let s1 := (List.range 16).foldl (fun s i => (List.range 64).foldl (fun s out => (List.range 8).foldl (fun s tc =>
      let p := 16 * r + i
      let k := voqKey p out tc
      s.sample r .voqDepth p out tc
        (log2Bin ((Tab.get [] s.swc.voq k).length + (Tab.get [] s.swc.ovf k).length))) s) s) s
    (List.range 16).foldl (fun s i => (List.range 8).foldl (fun s tc =>
      let p := 16 * r + i
      let n := (([0, 1, 2, 3, 4, 5].flatMap (fun k => Tab.get [] s.swc.merge (8 * p + k)) ++ Tab.get [] s.swc.window p).filter
        (fun c => c.tc == tc)).length
      s.sample r .outDepth 0 p tc (log2Bin n)) s) s1

/-- The Loan desk trackers in use, and each Granary class's hit ratio of the period, where it had accesses (R484). -/
def State.samplePeriod (s : State) (r : Nat) : State :=
  let s1 := s.sample r .ldOcc 0 0 0 (log2Bin (s.get CAT_LD_OCC.CURRENT r))
  (List.range 8).foldl (fun s c =>
    match Tab.get (0, 0) s.grn.band (8 * r + c) with
    | (0, 0) => s
    | (h, m) =>
      let s2 := s.sample r .grnBand c 0 0 (min 15 (16 * h / (h + m)))
      { s2 with grn := { s2.grn with band := Tab.put (0, 0) s2.grn.band (8 * r + c) (0, 0) } }) s1

/-- HIST_DEPTH_SAMPLE: PERIOD_US has passed (R238, R484). -/
def histDepthSample (r : Region) (s : State) : State := (s.sampleDepths r).samplePeriod r

def execHistDepthSample (r : Region) (s : State) : Result := .next (histDepthSample r s)

end Sys2Proof.Machine
end

