-- ==== Sys2Proof/Machine/Links.lean ====
section
/-! DEFINITION. The commands of the link layers (chapter Link Layers), and of CXL.io routing (R211). -/
namespace Sys2Proof.Machine
open Sys2Proof

/-- The link layer of a UP or DN port, and its replacement. -/
def State.lnk (s : State) (p : Nat) : LnkState := Tab.get {} s.ll.lnk p
def State.setLnk (s : State) (p : Nat) (v : LnkState) : State := { s with ll := { s.ll with lnk := Tab.put {} s.ll.lnk p v } }

/-! Messages, classes and credits (R220, R268). -/

/-- The class of a message (R220). -/
def kindClass (k : MsgKind) : Nat :=
  match k with
  | .m2sReq => 5
  | .m2sRwD => 6
  | .m2sBiRsp => 6
  | .s2mNdr => 6
  | .s2mDrs => 6
  | .d2hReq => 4
  | .d2hRsp => 6
  | .d2hData => 6
  | .posted _ => 3
  | .nonPosted _ => 3
  | .completion _ => 3

/-- The credits of a message by channel (R268): channels 0–7 are the CXL.mem and CXL.cache channels in the order of its table,
8–10 the posted, non-posted and completion headers, and 11–13 their data in 16-byte units. -/
def kindCredits (k : MsgKind) : List Nat :=
  match k with
  | .m2sReq => [0]
  | .m2sRwD => [1]
  | .m2sBiRsp => [2]
  | .s2mNdr => [3]
  | .s2mDrs => [4]
  | .d2hReq => [5]
  | .d2hRsp => [6]
  | .d2hData => [7]
  | .posted n => 8 :: List.replicate n 11
  | .nonPosted n => 9 :: List.replicate n 12
  | .completion n => 10 :: List.replicate n 13

/-- A message is CXL.io. -/
def kindIo (k : MsgKind) : Bool :=
  match k with
  | .posted _ => true
  | .nonPosted _ => true
  | .completion _ => true
  | _ => false

/-- The receive credits that the KZ64 advertises at a port, by channel (R268): on each channel of the protocols that the link carries, to
the roles of the table. -/
def advertised (s : State) (p ch : Nat) : Nat :=
  let up := s.role p == 1
  let dn := s.role p == 2
  let mem := s.flag LNK_STS.MEM p
  let runs :=
    if ch ≤ 1 then up && mem
    else if ch = 2 then up && s.flag LNK_STS.BI p
    else if ch ≤ 4 then dn && mem
    else if ch ≤ 7 then dn && s.flag LNK_STS.CACHE p
    else s.flag LNK_STS.IO p
  if runs then [128, 64, 128, 128, 128, 64, 128, 64, 64, 64, 64, 512, 512, 512].getD ch 0 else 0

/-- The peer holds the credits that a message needs (R269). -/
def creditHeld (s : State) (p : Nat) (need : List Nat) : Bool :=
  (List.range 14).all (fun ch => need.count ch = 0 || Tab.get 0 (s.lnk p).spent ch + need.count ch ≤ advertised s p ch)

/-- They are spent. -/
def creditSpent (l : LnkState) (need : List Nat) : LnkState :=
  { l with spent := need.foldl (fun t ch => Tab.put 0 t ch (Tab.get 0 t ch + 1)) l.spent }

/-- A message goes to a cell's flow (R267). -/
def sameFlow (m : LinkMsg) (c : Cell) : Bool := c.out == m.dest && c.tc == kindClass m.kind && c.dest == m.far

/-- Messages of one flow are packed into cells of at most 256 bytes (R267): a message joins the last cell of its flow, where it has room. -/
def packCell (p : Nat) (m : LinkMsg) : List Cell → List Cell
  | [] => [{ source := p, out := m.dest, dest := m.far, tc := kindClass m.kind, need := kindCredits m.kind, data := m.data
             reqs := m.req.toList, ecc := m.ecc }]
  | c :: cs =>
    if sameFlow m c && !cs.any (sameFlow m) && c.data.length + m.data.length ≤ 256 then
      { c with data := c.data ++ m.data, need := c.need ++ kindCredits m.kind, reqs := c.reqs ++ m.req.toList
               ecc := if c.ecc == .good then m.ecc else c.ecc } :: cs
    else c :: packCell p m cs

/-- A message is held back by R275: answered with Retry Status, or discarded without its credit. -/
def gatedMsg (s : State) (p : Nat) (m : LinkMsg) : State :=
  match m.cfg with
  | .other => (s.emit (.ioCompletion (agentId s.unit p 0) 0 2)).creditBack p (kindCredits m.kind)
  | _ => s

/-- The messages of a delivered flit, in order (R267, R269, R275, R298): the cells for outputs are packed; CXL.io waits for its
routing (R211) and messages for internal sinks return their credits as the sink takes them. -/
def flitMsgs (p : Nat) : List LinkMsg → List Cell → State → State × List Cell
  | [], cells, s => (s, cells)
  | m :: ms, cells, s =>
    let need := kindCredits m.kind
    if !creditHeld s p need then
      flitMsgs p ms cells ((s.record (portOcc p (lnkSet p) 2)).portContained p)
    else
      let s1 := s.setLnk p (creditSpent (s.lnk p) need)
      if m.bad then flitMsgs p ms cells ((s1.record (portOcc p (lnkSet p) 3)).portContained p)
      else if s1.flag LNK_STS.IDE_GATED p && m.cfg != .doe then flitMsgs p ms cells (gatedMsg s1 p m)
      else if kindIo m.kind then flitMsgs p ms cells s1
      else if m.dest ≥ 64 then flitMsgs p ms cells (s1.creditBack p need)
      else flitMsgs p ms (packCell p m cells) s1

/-- A flit is delivered: its cells arrive at the switch core (R267). -/
def flitDelivered (s : State) (p : Nat) (ms : List LinkMsg) : State :=
  let (s1, cells) := flitMsgs p ms [] s
  cells.foldl (fun s c => s.arrive p c) s1

/-- Deliver the held flits that follow in unbroken sequence (R271). -/
def flitDrain (fuel : Nat) (s : State) (p : Nat) : State :=
  match fuel with
  | 0 => s
  | n + 1 =>
    let l := s.lnk p
    match l.held.find? (fun h => h.1 == l.next) with
    | none => s
    | some h =>
      let s1 := s.setLnk p { l with held := l.held.filter (fun x => x.1 != l.next), next := l.next + 1 }
      flitDrain n (flitDelivered s1 p h.2) p

/-- A standard NAK is requested: every flit from the bad one comes again, and those held are given up (R271). -/
def stdNak (s : State) (p : Nat) : State :=
  let l := s.lnk p
  ((s.bump LNK_ERR.STD_NAKS p 1).setLnk p { l with std := true, held := [], naks := [], top := l.next }).emit (.link p 2 l.next)

/-- A flit in place `num` fails its CRC (R271): a selective NAK, up to two for one flit, else a standard NAK, which is requested again
when the replayed flit fails too. -/
def flitBad (s : State) (p num : Nat) : State :=
  let s1 := ((s.bump LNK_ERR.CRC_FLITS p 1).count (p / 16) 0x1D (p % 16) 1).record (portOcc p (lnkSet p) 0)
  let l := s1.lnk p
  if num < l.next then s1
  else if l.std then (if num = l.next then stdNak s1 p else s1)
  else
    let n := ((l.naks.find? (fun x => x.1 == num)).map (fun x => x.2)).getD 0 + 1
    if !s1.flag LNK_CTL.SEL_NAK_EN p || n ≥ 3 then stdNak s1 p
    else
      ((s1.bump LNK_ERR.SEL_NAKS p 1).setLnk p
        { l with naks := l.naks.filter (fun x => x.1 != num) ++ [(num, n)], top := max l.top (num + 1) }).emit (.link p 1 num)

/-- A good flit in place `num` (R271): delivered in order, held behind a hole, or discarded as a duplicate or under a standard
NAK. -/
def flitGood (s : State) (p num : Nat) (ms : List LinkMsg) : State :=
  let l := s.lnk p
  if num < l.next then s
  else if num = l.next then
    let s1 := s.setLnk p { l with next := num + 1, top := max l.top (num + 1), std := false,
                                  naks := l.naks.filter (fun x => x.1 != num) }
    flitDrain 32 (flitDelivered s1 p ms) p
  else if l.std || l.held.any (fun h => h.1 == num) then s
  else
    let l1 := { l with held := l.held ++ [(num, ms)], top := max l.top (num + 1), naks := l.naks.filter (fun x => x.1 != num) }
    if l1.held.length ≥ 32 then stdNak (s.setLnk p l1) p else s.setLnk p l1

/-- FLIT_RECEIVE: corrected symbols are counted by lane; the flit is checked, and its messages sorted, packed and admitted
(R253, R267, R269, R271, R298); a MAC failure takes the link down, and what the flit held has already taken effect (R276). -/
def flitReceive (port : Port) (num : Nat) (body : Option (List LinkMsg)) (mac : Bool) (fec : List (Fin 9)) (s : State) :
    State :=
  if (s.role port != 1 && s.role port != 2) || s.link port != stL0 then s
  else
    let s1 := s.symbols port fec
    match body with
    | none => flitBad s1 port num
    | some ms =>
      let s2 := flitGood s1 port num ms
      if mac then s2
      else ((s2.bump LNK_IDE_STS.MAC_FAIL port 1).record (portOcc port (lnkSet port) 4)).portContained port

def execFlitReceive (port : Port) (num : Nat) (body : Option (List LinkMsg)) (mac : Bool) (fec : List (Fin 9)) (s : State) :
    Result := .next (flitReceive port num body mac fec s)

/-- FLIT_ACK_RECEIVE: acknowledged flits leave the replay buffer (R270). -/
def flitAckReceive (port : Port) (num : Nat) (s : State) : State :=
  let l := s.lnk port
  s.setLnk port { l with replay := l.replay.filter (fun e => e.1 > num), again := l.again.filter (fun n => n > num) }

def execFlitAckReceive (port : Port) (num : Nat) (s : State) : Result := .next (flitAckReceive port num s)

/-- FLIT_NAK_RECEIVE: the flit, or every flit from it on, is sent again, takes no credit, and goes under the key sets of its first sending
(R271, R272, R274); a rollover of the replay count starts Recovery (R270). An uncorrectable error in the replay buffer takes the link
down (R298). -/
def flitNakReceive (port : Port) (num : Nat) (sel : Bool) (x : NakLoad) (s : State) : State :=
  let l := s.lnk port
  let again := l.replay.filter (fun e => if sel then e.1 == num else e.1 ≥ num)
  if x.ecc && again != [] then (s.record (portOcc port (lnkSet port) 5)).portContained port
  else
    let s0 := s.setLnk port { l with again := (l.again ++ again.map (fun e => e.1)).dedup }
    let s1 := again.foldl (fun s e => (s.emit (.link port 5 e.1)).emit (.link port 6 e.2.kset)) ((s0.countPort port 22 again.length).countPort port 1 again.length)
    if x.rollover then
      let s2 := s1.record (portOcc port (lnkSet port) 1)
      if s2.link port = stL0 then s2.onLink port (fun s q => s.setLink q stRecovery) else s2
    else s1

def execFlitNakReceive (port : Port) (num : Nat) (sel : Bool) (load : NakLoad) (s : State) : Result :=
  .next (flitNakReceive port num sel load s)

/-- CREDIT_UPDATE: returned credits are counted once, by the update that returns them (R272). -/
def creditUpdate (port : Port) (chan : Fin 14) (count : Nat) (s : State) : State :=
  let l := s.lnk port
  s.setLnk port { l with credit := Tab.put 0 l.credit chan (Tab.get 0 l.credit chan + count) }

def execCreditUpdate (port : Port) (chan : Fin 14) (count : Nat) (s : State) : Result := .next (creditUpdate port chan count s)

/-! Link encryption (R274, R275). -/

/-- The place of a key set: stream (0 IO, 1 cachemem), direction (0 transmit, 1 receive) and set. -/
def keySlot (cm rx : Bool) (kset : Nat) : Nat := (if cm then 4 else 0) + (if rx then 2 else 0) + kset

/-- The traffic hold of R275 ends once IDE is active on every protocol the port carries. -/
def gateUpdate (s : State) (p : Nat) : State :=
  let io := !s.flag LNK_STS.IO p || s.flag LNK_STS.IDE_IO p
  let cm := !(s.flag LNK_STS.MEM p || s.flag LNK_STS.CACHE p) || s.flag LNK_STS.IDE_CM p
  if io && cm then s.set LNK_STS.IDE_GATED p 0 else s

/-- K_SET_GO: the transmitter takes the first key set loaded and IDE becomes active, or switches to the other set, which must be
loaded (R274). -/
def kSetGo (port : Port) (cm : Bool) (s : State) : State :=
  let active := if cm then s.flag LNK_STS.IDE_CM port else s.flag LNK_STS.IDE_IO port
  let now := if cm then s.get LNK_IDE_STS.KSET_CM port else s.get LNK_IDE_STS.KSET_IO port
  let set := if active then 1 - now else now
  let loaded := ((s.lnk port).keys.any (fun e => e.1 == keySlot cm false set))
  if s.link port = stL0 && loaded then
    let s1 := if cm then (s.set LNK_IDE_STS.KSET_CM port set).set LNK_STS.IDE_CM port 1
      else (s.set LNK_IDE_STS.KSET_IO port set).set LNK_STS.IDE_IO port 1
    gateUpdate (if active then s1.bump LNK_IDE_STS.REFRESHES port 1 else s1) port
  else s

def execKSetGo (port : Port) (cm : Bool) (s : State) : Result := .next (kSetGo port cm s)

/-- IDE_KEY_PROG: a key set is loaded, inside an SPDM secured session (R274): on a UP port one that its host has opened. -/
def ideKeyProg (port : Port) (cm rx : Bool) (kset : Fin 2) (key : BitVec 256) (session : Nat) (s : State) : State :=
  if (s.role port = 1 && s.boot.spdm.contains session) || s.role port = 2 then
    let l := s.lnk port
    s.setLnk port { l with keys := Tab.insert l.keys (keySlot cm rx kset) key }
  else s

def execIdeKeyProg (port : Port) (cm rx : Bool) (kset : Fin 2) (key : BitVec 256) (session : Nat) (s : State) : Result :=
  .next (ideKeyProg port cm rx kset key session s)

/-! CXL.io routing (R211). -/

/-- A UP port has an agent in the dead set, with any scope, or one on its way there with scope ALL (R127, R135). -/
def State.deadAll (s : State) (p : Nat) : Bool :=
  s.deadPort s.unit p || s.cat.dying.any (fun e => e.1 / 4 == 64 * s.unit + p && e.2 == .all)

/-- The lowest-numbered enabled entry of a VCS that matches (R211): a completion follows the bus number of its Requester ID. -/
def routeOf (s : State) (p : Nat) (route : IoRoute) : Option Nat :=
  let byBus (x : BitVec 128) (bus : BitVec 8) : Bool := rtKind x == 0 && bits x 32 8 ≤ bus.toNat && bus.toNat ≤ bits x 40 8
  (List.range 2048).find? (fun e =>
    let x := s.rtEntry (p / 16) e
    rtEn x && rtVcs x == p && (match route with
      | .byId bus => byBus x bus
      | .byAddr a => rtKind x == 1 && bits x 32 44 ≤ a.toNat / 2 ^ 20 && a.toNat / 2 ^ 20 ≤ bits x 76 44
      | .completion bus _ => byBus x bus
      | .fromDn _ => false))

/-- The entry by which a VCS owns a DN port's logical device: the first enabled one that leaves by it (R211), as 2048r + e. -/
def vcsOf (s : State) (p ld : Nat) : Option Nat :=
  (s.swc.rt.find? (fun e => rtEn e.2 && rtEgress e.2 == p && rtLd e.2 == ld)).map (fun e => e.1)

/-- A CXL.io cell on TC3, stamped with the epoch of the region r whose table routed it (R212, R220). -/
def ioCell (s : State) (r p out ld : Nat) (kind : MsgKind) (data : List Byte) : Cell :=
  { source := p, out := out, tc := 3, epoch := some (r, s.get SWC_RT_BAR.EPOCH r), need := kindCredits kind, data := data, ld := ld }

/-- A CXL.io request ends in a completion with a status, and its credits return: 1 Unsupported Request, 2 Configuration Request
Retry Status. -/
def ioAnswer (s : State) (p : Nat) (tag : BitVec 16) (kind : MsgKind) (status : Nat) : State :=
  (s.emit (.ioCompletion (agentId s.unit p 0) tag status)).creditBack p (kindCredits kind)

/-- A packet that no entry routes: a request ends with Unsupported Request (R211). Of a completion the spec says nothing; it is
discarded, and its credits return (DESIGN CHOICE, log entry 86). -/
def ioUnrouted (s : State) (p : Nat) (tag : BitVec 16) (kind : MsgKind) : State :=
  match kind with
  | .completion _ => s.creditBack p (kindCredits kind)
  | _ => ioAnswer s p tag kind 1

/-- CXL.io at a UP port follows its VCS's entries, completions by the bus number of their Requester ID; the cell carries the entry's
logical device (R211). -/
def ioFromUp (s : State) (p : Nat) (tag : BitVec 16) (kind : MsgKind) (x : IoLookup) (data : List Byte) : State :=
  match routeOf s p x.route with
  | none => ioUnrouted s p tag kind
  | some e =>
    if x.bad then ioUnrouted (rtLost s (p / 16) e) p tag kind
    else
      let out := rtEgress (s.rtEntry (p / 16) e)
      if s.role out = 2 then s.arrive p (ioCell s (p / 16) p out (rtLd (s.rtEntry (p / 16) e)) kind data)
      else ioUnrouted s p tag kind

/-- CXL.io of a logical device below a DN port, requests and completions alike, is routed only to the UP port of the VCS that owns the
device (R211). -/
def ioFromDn (s : State) (p : Nat) (tag : BitVec 16) (kind : MsgKind) (ld : Nat) (bad : Bool) (data : List Byte) : State :=
  match vcsOf s p ld with
  | none => ioUnrouted s p tag kind
  | some n =>
    if bad then ioUnrouted (rtLost s (n / 2048) (n % 2048)) p tag kind
    else s.arrive p (ioCell s (n / 2048) p (rtVcs (s.rtEntry (n / 2048) (n % 2048))) ld kind data)

/-- CXLIO_REQUEST: routed by the ingress region's table, or from a DN port to the VCS that owns its logical device (R211); a
configuration request meets Retry Status before the machine is ready, while the port's agents are dead, and while R275 holds
the port (R135, R275, R382); before ready, other non-posted requests on a UP port are refused and posted ones discarded. What else comes
while R275 holds the port is not let in: it is discarded without its credit (DESIGN CHOICE for CXL.io, log entry 91). CXL.io never crosses a Zwius link (R266). -/
def cxlioRequest (port : Port) (tag : BitVec 16) (kind : MsgKind) (cfg : CfgKind) (x : IoLookup) (data : List Byte)
    (s : State) : State :=
  let early := cfg == .none && !s.flag SEC_BOOT_STS.READY 0
  let wait := cfg != .none && (!s.flag SEC_BOOT_STS.READY 0 || s.deadAll port || (s.flag LNK_STS.IDE_GATED port && cfg != .doe))
  if !s.inService port || (s.flag LNK_STS.IDE_GATED port && cfg == .none) then s
  else if s.role port = 1 then
    if wait then ioAnswer s port tag kind 2
    else if early then (match kind with
      | .nonPosted _ => ioAnswer s port tag kind 1
      | _ => s.creditBack port (kindCredits kind))
    else ioFromUp s port tag kind x data
  else if s.role port = 2 then
    match x.route with
    | .completion _ ld => ioFromDn s port tag kind ld x.bad data
    | .fromDn ld => ioFromDn s port tag kind ld x.bad data
    | _ => ioUnrouted s port tag kind
  else s

def execCxlioRequest (port : Port) (tag : BitVec 16) (kind : MsgKind) (cfg : CfgKind) (route : IoLookup) (data : List Byte)
    (s : State) : Result := .next (cxlioRequest port tag kind cfg route data s)

/-! The Zwius link (R278–R297). -/

/-- a − b modulo 2^24. -/
def sub24 (a b : Nat) : Nat := (a + 2 ^ 24 - b % 2 ^ 24) % 2 ^ 24

/-- A Zwius link carries flow units: UP or SWAPPING. -/
def State.zwlUp (s : State) (z : Nat) : Bool := s.get ZWL_STS.STATE z == 2 || s.get ZWL_STS.STATE z == 4

/-- A unit is counted in the error window, and the sum of the current sub-window and the 15 before it is shown (R293). -/
def zwlWindow (s : State) (z : Nat) (bad : Bool) : State :=
  let l := s.zwl z
  let cur := l.bad.headD 0 + (if bad then 1 else 0)
  let size := 2 ^ (s.get ZWL_CTL.WIN_LOG2 z - 4)
  let list := cur :: l.bad.tail
  let s1 := s.set ZWL_ERR.WIN_BAD z (min list.sum 4095)
  s1.setZwl z (if l.units + 1 ≥ size then { l with bad := (0 :: list).take 16, units := 0 }
    else { l with bad := list, units := l.units + 1 })

/-- A NAK for a unit, with its TRY, which its hole keeps (R290). -/
def zwlSendNak (s : State) (z num tries : Nat) : State :=
  (s.setZwl z { s.zwl z with holes := (s.zwl z).holes.filter (fun h => h.1 != num) ++ [(num, tries)] }).zwlCtl z 0x02 num tries

/-- A hole is open at a unit (R290). -/
def zwlHole (l : ZwlState) (num : Nat) : Bool := l.holes.any (fun h => h.1 == num)

/-- A slip that enters over a Zwius link meets the policer of its ring in the region that it enters (R224): taken, or dropped as chaff. -/
def slipEnters (s : State) (z : Nat) (c : Cell) : Option State :=
  match c.slip with
  | none => some s
  | some ring => match s.policerOf (z / 2) 2 ring with
    | none => some s
    | some n => if s.conforms n then some (s.takeTokens n) else none

/-- A flow's unit is delivered within its grant: its cell enters the switch core, or an internal sink takes it (R286); a slip that its
policer drops goes no further (R225). -/
def zwlDeliver (s : State) (z : Nat) (c : Option Cell) : State :=
  let l := s.zwl z
  let s0 := s.setZwl z { l with next := (l.next + 1) % 2 ^ 24, sinceAck := l.sinceAck + 1 }
  match c with
  | none => s0
  | some c =>
    let f := 8 * c.dest + c.tc
    let l0 := s0.zwl z
    let s1 := s0.setZwl z { l0 with came := Tab.put 0 l0.came f ((Tab.get 0 l0.came f + 1) % 2 ^ 16) }
    match slipEnters s1 z c with
    | none => match c.slip.bind (s1.policerOf (z / 2) 2) with
      | some n => s1.chaff n
      | none => s1
    | some s2 => if c.dest < 64 then s2.arrive (zPort z) { c with out := c.dest, dest := 0 } else s2

/-- A unit lies beyond its flow's grant (R287). -/
def zwlBeyond (l : ZwlState) (c : Option Cell) : Bool :=
  match c with
  | none => false
  | some c => Tab.get 0 l.came (8 * c.dest + c.tc) == Tab.get 0 l.gave (8 * c.dest + c.tc)

/-- A unit whose turn has come: delivered, or where it lies beyond its flow's grant discarded, with the link declared down (R287). -/
def zwlTake (s : State) (z : Nat) (c : Option Cell) : State :=
  if zwlBeyond (s.zwl z) c then (s.record (portOcc (zPort z) (zwlSet z) 3)).zwlDown z else zwlDeliver s z c

/-- Deliver the held units that follow in unbroken sequence (R290). -/
def zwlDrain (fuel : Nat) (s : State) (z : Nat) : State :=
  match fuel with
  | 0 => s
  | n + 1 =>
    let l := s.zwl z
    match l.held.find? (fun h => h.1 == l.next) with
    | none => s
    | some h => zwlDrain n (zwlTake (s.setZwl z { l with held := l.held.filter (fun x => x.1 != l.next) }) z h.2) z

/-- A unit that the receiver waits for and has not NAKed, while held units or a discarded one stand behind it, is NAKed (R290). -/
def zwlNextHole (s : State) (z : Nat) : State :=
  let l := s.zwl z
  if !zwlHole l l.next && (l.held != [] || l.lost == some l.next) then
    zwlSendNak (s.setZwl z { l with lost := if l.lost == some l.next then none else l.lost }) z l.next 1
  else s

/-- The cell of a flow unit, its destination kept as the unit names it (R280, R281). -/
def unitCell (z : Nat) (u : FlowUnit) : Option Cell :=
  match u with
  | .idle => none
  | .data tc dest _ data ring => some { source := zPort z, out := 0, dest := dest, tc := tc, data := data, slip := ring.map BitVec.toNat }

/-- Good units from S on count toward the end of a swap; after 16 the receiving end sends SWAP_DONE (R297). -/
def swapProgress (s : State) (z num : Nat) : State :=
  let p := zPort z
  match Tab.get none s.prt.swap p with
  | some w =>
    match w.start with
    | some first =>
      if sub24 num first ≥ 2 ^ 23 then s
      else if w.good + 1 ≥ 16 then
        ({ s with prt := { s.prt with swap := Tab.put none s.prt.swap p none } }.set ZWL_STS.STATE z 2).zwlCtl z 0x06 3 w.lane
      else { s with prt := { s.prt with swap := Tab.put none s.prt.swap p (some { w with good := w.good + 1 }) } }
    | none => s
  | none => s

/-- A bad unit: counted in the window, which may take the link down, and NAKed unless its hole is open (R290, R293). -/
def unitBad (s : State) (z num : Nat) : State :=
  let s1 := (zwlWindow s z true).record (portOcc (zPort z) (zwlSet z) 0)
  if s1.get ZWL_ERR.WIN_BAD z > s1.get ZWL_CTL.THR z then s1.zwlDown z
  else if sub24 num (s1.zwl z).next ≥ 2 ^ 23 || zwlHole (s1.zwl z) num then s1
  else zwlSendNak s1 z num 1

/-- A good unit: delivered in sequence, or held behind a hole, where 32 are; one more is discarded, and so is a copy (R287, R290). -/
def unitGood (s : State) (z num : Nat) (u : FlowUnit) : State :=
  let s1 := zwlWindow s z false
  let l := s1.zwl z
  let d := sub24 num l.next
  let c := unitCell z u
  let l1 := { l with holes := l.holes.filter (fun h => h.1 != num) }
  if d = 0 then swapProgress (zwlNextHole (zwlDrain 32 (zwlTake (s1.setZwl z l1) z c) z) z) z num
  else if d ≥ 2 ^ 23 then s1
  else if l.held.any (fun h => h.1 == num) then swapProgress s1 z num
  else
    let s2 := s1.setZwl z (if l.held.length < 32 then { l1 with held := l.held ++ [(num, c)] } else { l with lost := some (l.lost.getD num) })
    swapProgress (zwlNextHole s2 z) z num

/-- FLOW_UNIT_RECEIVE: a unit is checked in its place of the sequence; a bad one is counted and NAKed; a good one is delivered in
sequence, held behind a hole, or discarded (R278, R282, R283, R287, R290, R293). A held link takes nothing but IDLE units (R296). An INIT
unit takes no number (R283). -/
def flowUnitReceive (z : ZPort) (x : UnitPlace) (body : WireUnit) (s : State) : State :=
  if !s.zwlUp z then s
  else
    let s1 := s.symbols (zPort z) x.fec
    match unitReceived x.num.toNat body with
    | none => unitBad s1 z x.num.toNat
    | some none => s1
    | some (some u) => unitGood s1 z x.num.toNat u

def execFlowUnitReceive (z : ZPort) (num : UnitPlace) (body : WireUnit) (s : State) : Result := .next (flowUnitReceive z num body s)

/-- ZWL_INIT: the peer's identity is shown; a peer of the own unit, or of another than the plan expects, holds the link, and else
the link is up after one more INIT (R295, R296). -/
def zwlInit (z : ZPort) (unit : Fin 4) (peer : Port) (ganged : Bool) (s : State) : State :=
  if s.get ZWL_STS.STATE z != 1 then s
  else
    let s1 := (((s.set ZWL_PEER.UNIT z unit).set ZWL_PEER.PORT z peer).set ZWL_PEER.GANGED z (if ganged then 1 else 0)).set
      ZWL_PEER.VALID z 1
    if unit.val = s.unit || (s.flag ZWL_CTL.EXP_EN z && s.get ZWL_CTL.EXP_UNIT z != unit.val) then
      (s1.set ZWL_STS.STATE z 3).record (portOcc (zPort z) (zwlSet z) 4)
    else
      let s2 := (((s1.set ZWL_STS.STATE z 2).set ZWL_STS.TX_SEQ z 0).setZwl z { tx := (s1.zwl z).tx }).sendUnit z none false (s1.initUnit z) |>.emit
        (.zwl z 0x13 s.unit (zPort z))
      s2.inCat fun c => { c with peer := Tab.put 0 c.peer z (unit + 1), lastPeer := Tab.put 0 c.lastPeer z (unit + 1) }

def execZwlInit (z : ZPort) (unit : Fin 4) (peer : Port) (ganged : Bool) (s : State) : Result :=
  .next (zwlInit z unit peer ganged s)

/-- ZWL_ACK: every unit up to the acknowledged one leaves the replay buffer (R284, R292). -/
def zwlAck (z : ZPort) (num : BitVec 24) (s : State) : State :=
  let l := s.zwl z
  let covered (n : Nat) : Bool := sub24 num.toNat n < 2 ^ 23
  s.setZwl z { l with
    replay := l.replay.filter (fun e => !covered e.1)
    again := l.again.filter (fun n => !covered n)
    goback := match l.goback with
      | some g => if covered g then none else some g
      | none => none }

def execZwlAck (z : ZPort) (num : BitVec 24) (s : State) : Result := .next (zwlAck z num s)

/-- A unit is sent again, ahead of new units: a DATA unit of the replay buffer, or an IDLE unit of the same number (R291). -/
def zwlResend (s : State) (z n : Nat) : State :=
  match (s.zwl z).replay.find? (fun e => e.1 == n) with
  | some e =>
    let s1 := (s.setZwl z { s.zwl z with again := (n :: (s.zwl z).again).dedup }).sendUnit z (some n) true (s.dataUnit n e.2.1)
    ((s1.emit (.zwl z 0x11 n 0)).countPort (zPort z) 22 1).countPort (zPort z) 1 1
  | none => (s.sendUnit z (some n) true (idleUnit n)).emit (.zwl z 0x12 n 0)

/-- A go-back is under way from a unit: units from it on still wait to be sent again. -/
def zwlGoback (l : ZwlState) : Option Nat :=
  match l.goback with
  | none => none
  | some g => if l.units_.any (fun u => u.again && (match u.num with | some m => sub24 m g < 2 ^ 23 | none => false)) then some g else none

/-- ZWL_NAK: a single-unit replay, or a go-back, which sends every unit from the NAKed one again in order. A NAK within a go-back under way
is ignored, one before it restarts it from there; one for a unit already sent again counts only with a higher TRY; an IDLE unit is
answered with an IDLE of its number (R291). -/
def zwlNak (z : ZPort) (num : BitVec 24) (tries : Fin 16) (s : State) : State :=
  let l := s.zwl z
  let n := num.toNat
  let next := s.get ZWL_STS.TX_SEQ z
  let later := match zwlGoback l with
    | some g => n != g && sub24 n g < 2 ^ 23
    | none => false
  if !s.zwlUp z || later || sub24 next n = 0 || sub24 next n ≥ 2 ^ 23 then s
  else match l.replay.find? (fun e => e.1 == n) with
    | none => zwlResend s z n
    | some e =>
      if tries.val ≤ e.2.2 then s
      else
        let l1 := { l with replay := l.replay.map (fun x => if x.1 == n then (x.1, x.2.1, tries.val) else x) }
        if sub24 next n - 1 < 32 && s.flag ZWL_CTL.SEL_EN z && tries.val < 3 && (zwlGoback l).isNone then
          zwlResend ((s.setZwl z l1).bump ZWL_RPL.SELECTIVE z 1) z n
        else
          let early (u : ZwlUnit) : Bool := match u.num with
            | some m => sub24 m n ≥ 2 ^ 23
            | none => true
          let s1 := (s.setZwl z { l1 with goback := some n, units_ := l.units_.filter early }).bump ZWL_RPL.GOBACK z 1
          (List.range (sub24 next n)).foldl (fun s k => zwlResend s z ((n + k) % 2 ^ 24)) s1

def execZwlNak (z : ZPort) (num : BitVec 24) (tries : Fin 16) (s : State) : Result := .next (zwlNak z num tries s)

/-- The cells that a Zwius input port may still grant in a class: SRAM space within its limit, and HBM overflow space for
TC0–TC2, less what is granted and on its way (R286). -/
def grantRoom (s : State) (z tc : Nat) : Nat :=
  let p := zPort z
  let l := s.zwl z
  let coming := ((List.range 68).map (fun d =>
    (Tab.get 0 l.gave (8 * d + tc) + 2 ^ 16 - Tab.get 0 l.came (8 * d + tc)) % 2 ^ 16)).sum
  let held := ((Tab.get [] s.swc.held p).filter (fun c => c.tc == tc)).length
  let room := s.get SWC_VOQ_LIM.LIMIT (8 * p + tc) - s.get SWC_VOQ_OCC.CELLS (8 * p + tc) +
    (if tc ≤ 2 then 524288 - s.get SWC_OVF_STS.CELLS p else 0)
  room - coming - held

/-- The receiver grants what a flow asks for and the port has room for, and sends GRANT (R286, R288). -/
def zwlRegrant (s : State) (z dest tc : Nat) : State :=
  let l := s.zwl z
  let f := 8 * dest + tc
  let asked := (Tab.get 0 l.wanted f + 2 ^ 16 - Tab.get 0 l.gave f) % 2 ^ 16
  let n := min asked (grantRoom s z tc)
  let total := (Tab.get 0 l.gave f + n) % 2 ^ 16
  (s.setZwl z { l with gave := Tab.put 0 l.gave f total }).zwlCtl z 0x04 f total

/-- ZWL_REQ: the flow's total at the receiver, and a grant for it (R286, R288). -/
def zwlReq (z : ZPort) (dest : Fin 68) (tc : Tc) (count : BitVec 16) (s : State) : State :=
  if s.zwlUp z then
    let l := s.zwl z
    let f := 8 * dest.val + tc.val
    if (count.toNat + 2 ^ 16 - Tab.get 0 l.wanted f) % 2 ^ 16 < 2 ^ 15 then
      zwlRegrant (s.setZwl z { l with wanted := Tab.put 0 l.wanted f count.toNat }) z dest tc
    else s
  else s

def execZwlReq (z : ZPort) (dest : Fin 68) (tc : Tc) (count : BitVec 16) (s : State) : Result := .next (zwlReq z dest tc count s)

/-- ZWL_GRANT: the flow's grant at the sender; a running total that is behind changes nothing (R286). -/
def zwlGrant (z : ZPort) (dest : Fin 68) (tc : Tc) (count : BitVec 16) (s : State) : State :=
  if s.zwlUp z then
    let l := s.zwl z
    let f := 8 * dest.val + tc.val
    if (count.toNat + 2 ^ 16 - Tab.get 0 l.granted f) % 2 ^ 16 < 2 ^ 15 then
      s.setZwl z { l with granted := Tab.put 0 l.granted f count.toNat }
    else s
  else s

def execZwlGrant (z : ZPort) (dest : Fin 68) (tc : Tc) (count : BitVec 16) (s : State) : Result :=
  .next (zwlGrant z dest tc count s)

/-- ZWL_TIME_REQUEST: a RESPONSE with this unit's fabric time and TURN (R285). -/
def zwlTimeRequest (z : ZPort) (ident : BitVec 6) (turn : BitVec 32) (s : State) : State :=
  if s.zwlUp z then
    s.zwlCtl z 0x05 (1 + 4 * ident.toNat) (s.timeOf (z / 2) % 2 ^ 64 + 2 ^ 64 * turn.toNat)
  else s

def execZwlTimeRequest (z : ZPort) (ident : BitVec 6) (turn : BitVec 32) (s : State) : Result :=
  .next (zwlTimeRequest z ident turn s)

/-- ZWL_TIME_RESPONSE: round trip (T4 − T1) − TURN, offset T3 + round trip ÷ 2 − T4, corrected as R232 says (R285). -/
def zwlTimeResponse (z : ZPort) (ident : BitVec 6) (t3 : BitVec 64) (turn : BitVec 32) (s : State) : State :=
  match (s.zwl z).t1 with
  | none => s
  | some (t1, i) =>
    if i != ident.toNat || s.get TFC_TIME_CTL.SRC 0 != 2 then s
    else
      let t4 : Int := (s.timeOf (z / 2) : Nat)
      let trip : Int := (t4 - (t1 : Nat)) - (turn.toNat : Nat)
      (s.setZwl z { s.zwl z with t1 := none }).timeResult ((t3.toNat : Nat) + trip / 2 - t4)

def execZwlTimeResponse (z : ZPort) (ident : BitVec 6) (t3 : BitVec 64) (turn : BitVec 32) (s : State) : Result :=
  .next (zwlTimeResponse z ident t3 turn s)

/-- ZWL_TIME_EXCHANGE: a TIME REQUEST on the link that time is taken from (R232, R233, R285). -/
def zwlTimeExchange (s : State) : State :=
  if s.get TFC_TIME_CTL.SRC 0 != 2 then s
  else match s.otherTimeLink with
    | none => s
    | some z =>
      let i := match (s.zwl z).t1 with
        | some (_, i) => (i + 1) % 64
        | none => 0
      (s.setZwl z { s.zwl z with t1 := some (s.timeOf (z / 2), i) }).zwlCtl z 0x05 (4 * i) 0

def execZwlTimeExchange (s : State) : Result := .next (zwlTimeExchange s)

/-- SWAP_REQ: the sending end puts lane k on the spare as well from its next unit on, and answers with that unit's number
(R297). -/
def swapReq (z : ZPort) (lane : Fin 8) (s : State) : State :=
  if s.zwlUp z then
    let p := zPort z
    ({ s with prt := { s.prt with dup := Tab.put none s.prt.dup p (some lane.val) } }.emit (.lane p 6 lane)).zwlCtl
      z 0x06 2 (lane + 16 * s.get ZWL_STS.TX_SEQ z)
  else s

def execSwapReq (z : ZPort) (lane : Fin 8) (s : State) : Result := .next (swapReq z lane s)

/-- SWAP_ACK: from unit S the spare carries the lane: SPARE_USED, SWAP_LANE and WIDTH_CHANGE (R297). -/
def swapAck (z : ZPort) (lane : Fin 8) (num : BitVec 24) (s : State) : State :=
  let p := zPort z
  match Tab.get none s.prt.swap p with
  | none => s
  | some w =>
    if w.lane != lane.val || w.start != none then s
    else
      let s1 := { s with prt := { s.prt with swap := Tab.put none s.prt.swap p (some { w with start := some num.toNat }) } }
      let s2 := (s1.set PRT_PORT_STS.SPARE_USED p 1).set ZWL_STS.SWAP_LANE z lane
      (((s2.record (portOcc p (zwlSet z) 5)).portEvent p 4).portEvt p 5).portEvt p 6

def execSwapAck (z : ZPort) (lane : Fin 8) (num : BitVec 24) (s : State) : Result := .next (swapAck z lane num s)

/-- SWAP_DONE: the sending end stops duplicating (R297). -/
def swapDone (z : ZPort) (lane : Fin 8) (s : State) : State :=
  if Tab.get none s.prt.dup (zPort z) = some lane.val then
    { s with prt := { s.prt with dup := Tab.put none s.prt.dup (zPort z) none } }.emit (.lane (zPort z) 6 (16 + lane))
  else s

def execSwapDone (z : ZPort) (lane : Fin 8) (s : State) : Result := .next (swapDone z lane s)

/-- SWAP_ACK_TIMEOUT: the request is sent again once, and then the link is declared down (R297). -/
def swapAckTimeout (z : ZPort) (s : State) : State :=
  match Tab.get none s.prt.swap (zPort z) with
  | none => s
  | some w =>
    if w.start != none then s
    else if w.sent < 2 then
      { s with prt := { s.prt with swap := Tab.put none s.prt.swap (zPort z) (some { w with sent := 2 }) } }.zwlCtl
        z 0x06 1 w.lane
    else s.zwlDown z

def execSwapAckTimeout (z : ZPort) (s : State) : Result := .next (swapAckTimeout z s)

/-- ZWL_ACK_TIMER: ACK for the last unit delivered in sequence, once one has been (R289). -/
def zwlAckTimer (z : ZPort) (s : State) : State :=
  if s.zwlUp z && (s.zwl z).sinceAck != 0 then
    (s.setZwl z { s.zwl z with sinceAck := 0 }).zwlCtl z 0x01 (sub24 (s.zwl z).next 1) 0
  else s

def execZwlAckTimer (z : ZPort) (s : State) : Result := .next (zwlAckTimer z s)

/-- ZWL_NAK_REPEAT: the NAK of each open hole is sent again with TRY raised (R290). -/
def zwlNakRepeat (z : ZPort) (s : State) : State :=
  if s.zwlUp z then (s.zwl z).holes.foldl (fun s h => zwlSendNak s z h.1 (min (h.2 + 1) 15)) s else s

def execZwlNakRepeat (z : ZPort) (s : State) : Result := .next (zwlNakRepeat z s)

/-- ZWL_REQ_REPEAT: REQ is sent again while cells of the flow wait without a grant (R288). -/
def zwlReqRepeat (z : ZPort) (dest : Fin 68) (tc : Tc) (s : State) : State :=
  let l := s.zwl z
  let f := 8 * dest.val + tc.val
  if s.zwlUp z && Tab.get 0 l.queued f != Tab.get 0 l.granted f then s.zwlCtl z 0x03 f (Tab.get 0 l.queued f) else s

def execZwlReqRepeat (z : ZPort) (dest : Fin 68) (tc : Tc) (s : State) : Result := .next (zwlReqRepeat z dest tc s)

/-- ZWL_GRANT_REPEAT: the flow is granted what there is room for by now, and its GRANT is sent again, while its requests exceed
its grants (R286, R288). -/
def zwlGrantRepeat (z : ZPort) (dest : Fin 68) (tc : Tc) (s : State) : State :=
  let l := s.zwl z
  let f := 8 * dest.val + tc.val
  if s.zwlUp z && Tab.get 0 l.wanted f != Tab.get 0 l.gave f then zwlRegrant s z dest tc else s

def execZwlGrantRepeat (z : ZPort) (dest : Fin 68) (tc : Tc) (s : State) : Result := .next (zwlGrantRepeat z dest tc s)

/-- ZWL_CTRL_DISCARD: counted in CTRL_BAD (R284, R298). -/
def zwlCtrlDiscard (z : ZPort) (s : State) : State :=
  (s.bump ZWL_ERR.CTRL_BAD z 1).record (portOcc (zPort z) (zwlSet z) 1)

def execZwlCtrlDiscard (z : ZPort) (s : State) : Result := .next (zwlCtrlDiscard z s)

end Sys2Proof.Machine
end

