-- ==== Sys2Proof/Machine/Mailbox.lean ====
section
/-! DEFINITION. The mailboxes of the management endpoint and of the carrel endpoints, and their commands (R341, R370–R372). -/
namespace Sys2Proof.Machine
open Sys2Proof

/-! The registers and payload of a mailbox: endpoint functions 0–63, and the management endpoint 64 (R370). -/

def State.mailbox (s : State) (ep : Nat) : Mailbox := Tab.get {} s.lib.mbx ep
def State.setMailbox (s : State) (ep : Nat) (m : Mailbox) : State := { s with lib := { s.lib with mbx := Tab.put {} s.lib.mbx ep m } }
def State.mbxCtl (s : State) (ep : Nat) : Word := if ep = 64 then s.word .LIB_MBX_CTL 0 else (s.mailbox ep).ctl
def State.mbxCmd (s : State) (ep : Nat) : Word := if ep = 64 then s.word .LIB_MBX_CMD 0 else (s.mailbox ep).cmd
def State.setMbxCtl (s : State) (ep : Nat) (v : Word) : State :=
  if ep = 64 then s.setWord .LIB_MBX_CTL 0 v else s.setMailbox ep { s.mailbox ep with ctl := v }
def State.setMbxCmd (s : State) (ep : Nat) (v : Word) : State :=
  if ep = 64 then s.setWord .LIB_MBX_CMD 0 v else s.setMailbox ep { s.mailbox ep with cmd := v }
def State.setMbxSts (s : State) (ep : Nat) (v : Word) : State :=
  if ep = 64 then s.setWord .LIB_MBX_STS 0 v else s.setMailbox ep { s.mailbox ep with sts := v }
/-- DOORBELL. -/
def State.mbxRings (s : State) (ep : Nat) : Bool := (s.mbxCtl ep).getLsbD 0
/-- n bytes of the payload as a number. -/
def State.mbxGet (s : State) (ep off : Nat) : Nat → Nat
  | 0 => 0
  | n + 1 => (Tab.get (0 : Byte) (s.mailbox ep).payload off).toNat + 256 * s.mbxGet ep (off + 1) n
/-- Write bytes into the payload from its start. -/
def State.mbxPut (s : State) (ep : Nat) (bytes : List Byte) : State :=
  let m := s.mailbox ep
  s.setMailbox ep { m with payload := bytes.zipIdx.foldl (fun t e => Tab.put 0 t e.2 e.1) m.payload }

/-- The port that a mailbox's link is on. -/
def State.mbxLink (s : State) (ep : Nat) : Option Nat := if ep < 64 then some ep else s.managerPort

/-- A command completes (R370): response, STS and DOORBELL, then the vector; with the link down the response is discarded. -/
def State.mbxDone (s : State) (ep ret : Nat) (out : List Byte) : State :=
  let up := match s.mbxLink ep with | some p => s.inL0 p | none => true
  let ctl := s.mbxCtl ep
  let s1 := { s with lib := { s.lib with mbxRun := s.lib.mbxRun.filter (fun (e : Nat × Nat × Nat) => e.1 != ep) } }.setMbxCtl ep (putBits ctl 0 1 0)
  if up then
    let s2 := (s1.mbxPut ep out).setMbxSts ep (BitVec.ofNat 32 (ret + out.length * 65536))
    if bit ctl 1 then s2.emit (.msix ep (bits ctl 2 11)) else s2
  else s1

/-! The commands (R371). -/

/-- The carrel of a port that has a PASID. -/
def State.carrelOf (s : State) (port pasid : Nat) : Option Nat :=
  s.liveCarrels.find? (fun k => s.carrelPort k == port && s.get CRL_CFG.PASID k == pasid)

/-- RETURN for a CRL_CMD.RESULT: POLICY and HOST_FAIL have their codes, LATE is a success, the rest are INVALID. -/
def crlReturn (res : Nat) : Nat := if res = 0 || res = 3 then 0 else if res = 7 then 3 else if res = 8 then 5 else 1

/-- A carrel that firmware gives out: the first FREE one from an open place on, none when all are taken. -/
def State.freeCarrel (s : State) : Option Nat :=
  ((List.range (s.liveCarrels.length + 1)).map (fun i => (Config.freeValue s.free + i) % 4096)).find? (fun k => s.get CRL_CFG.STATE k == 0)
/-- A queue that firmware gives out: the first without a valid context from an open place on, in a running region. -/
def State.freeQueue (s : State) : Option Nat :=
  ((List.range (4 * s.contexts.length + 4)).map (fun i => (Config.freeValue s.free + i) % 2 ^ 20)).find? (fun q =>
    cget (s.ctx q) cValid == 0 && s.rgn (qidRegion q) != 2)

/-- The template that the image names for a port (R341, R390). -/
def State.portTemplate (s : State) (p : Nat) : Nat := s.plan p 88 8

/-- The share mask of a carrel set whole. -/
def State.setShare (s : State) (k mask : Nat) : State := (s.set CRL_CHAN_LO.MASK_LO k mask).set CRL_CHAN_HI.MASK_HI k (mask / 2 ^ 32)

/-- A mask keeps within a template. -/
def State.shareAllowed (s : State) (t mask : Nat) : Bool := mask &&& s.template t 64 64 == mask && bitCount mask ≤ s.template t 12 7

/-- The lowest n channels of a mask. -/
def lowestOf (mask n : Nat) : Nat := (((List.range 64).filter (fun c => mask.testBit c)).take n).foldl (fun m c => m ||| 2 ^ c) 0

/-- CARREL_CREATE: a carrel within the port's template. -/
def State.mbxCreate (s : State) (port pasid t mask : Nat) : State × Nat × List Byte :=
  if t != s.portTemplate port || !s.shareAllowed t mask then (s, 3, [])
  else match s.freeCarrel with
  | none => (s, 4, [])
  | some k =>
    let s1 := { s with free := s.free + 1 }
    let s2 := (((s1.set CRL_CFG.PORT k port).set CRL_CFG.PASID k pasid).set CRL_TPL.TEMPLATE k t).setShare k mask
    let s3 := crlCreate .librarian (BitVec.ofNat 12 k) s2
    let ret := crlReturn (s3.get CRL_CMD.RESULT 0)
    (s3, ret, if ret = 0 then leBytes 2 k else [])

/-- CARREL_CHANGE: the share, a slot, the quota in a region, or a policer of the carrel. -/
def State.mbxChange (s : State) (port k item v idx : Nat) : State × Nat × List Byte :=
  let t := s.get CRL_TPL.TEMPLATE k
  if item = 0 then
    if s.shareAllowed t v then
      (carrelShareWrite .librarian (BitVec.ofNat 12 k) true (BitVec.ofNat 32 (v / 2 ^ 32))
        (carrelShareWrite .librarian (BitVec.ofNat 12 k) false (BitVec.ofNat 32 v) s), 0, [])
    else (s, 3, [])
  else if item = 1 then
    let x := s.ctx (v % 2 ^ 20)
    if idx < 64 && (v / 2 ^ 20 % 2 == 0 || (cget x cValid == 1 && cget x cOwner == 2 && cget x cCarrel == k)) then
      (s.setWord .CRL_SLOT (64 * k + idx) (BitVec.ofNat 32 v), 0, [])
    else (s, 1, [])
  else if item = 2 then
    if idx ≥ 4 then (s, 1, [])
    else if v ≤ s.template t 128 20 then (s.set GRN_CRL_QUOTA.QUOTA (4096 * idx + k) v, 0, []) else (s, 3, [])
  else if item = 3 then
    let n := 2048 * (port / 16) + idx
    if idx ≥ 2048 || !s.flag TFC_POL_ATT.EN n || s.get TFC_POL_ATT.KIND n != 1 || s.get TFC_POL_ATT.ID n != k then (s, 1, [])
    else if v % 2 ^ 16 ≤ s.template t 160 16 && v / 2 ^ 16 % 2 ^ 16 ≤ s.template t 176 16 then
      (policerCfgWrite .librarian ⟨n % 8192, Nat.mod_lt _ (by decide)⟩ (BitVec.ofNat 32 v) s, 0, [])
    else (s, 3, [])
  else (s, 1, [])

/-- A SUBMIT ring of a carrel is given to one of the channels of its share, at an open place. -/
def State.giveRing (s : State) (k q : Nat) : State :=
  match s.shareOf k with
  | [] => s
  | cs => { s with free := s.free + 1 }.addRing (cs.getD (Config.freeValue s.free % cs.length) 0) q

/-- QUEUE_CREATE: a queue of the carrel within the template, named by a slot. -/
def State.mbxQueue (s : State) (port pasid k slot : Nat) (image : BitVec 512) : State × Nat × List Byte :=
  let host := cget image cLoc = 1
  let c := cput (cput (cput (cput image cOwner 2) cCarrel k) cPort (if host then port else cget image cPort)) cPasid
    (if host then pasid else cget image cPasid)
  let slips := cget c cDisc == 0 && cget c cUse == 2
  if slot ≥ 64 then (s, 1, [])
  else if (s.carrelQueues k).length + 1 > s.tplOf k 0 7 || cget c cDepth > s.tplOf k 7 5 || (slips && s.tplOf k 20 1 == 0) then (s, 3, [])
  else match s.freeQueue with
  | none => (s, 4, [])
  | some q =>
    let s0 := { s with free := s.free + 1 }
    if s0.createResult q c = 0 then
      let s1 := (s0.makeCtx q (ctxMade c)).setWord .CRL_SLOT (64 * k + slot) (BitVec.ofNat 32 (q + 2 ^ 20))
      (if cget c cDisc = 0 && cget c cUse = 0 then s1.giveRing k q else s1, 0, leBytes 4 q)
    else (s0, 1, [])

/-- QUEUE_DESTROY: the slot's queue goes, and the slot with it. -/
def State.mbxUnqueue (s : State) (k slot : Nat) : State × Nat × List Byte :=
  let n := 64 * k + slot
  if slot ≥ 64 || !s.flag CRL_SLOT.V n then (s, 1, [])
  else
    let q := s.get CRL_SLOT.QID n
    ((s.putCtx q (cput (s.ctx q) cValid 0)).setWord .CRL_SLOT n 0, 0, [])

/-- CARREL_RESTORE: a FROZEN carrel with a new PASID, its share the lowest channels of the template. -/
def State.mbxRestore (s : State) (port pasid src base : Nat) (host : Option (List Byte)) : State × Nat × List Byte :=
  let t := s.portTemplate port
  if host.isSome && s.template t 22 1 == 0 then (s, 3, [])
  else match s.freeCarrel with
  | none => (s, 4, [])
  | some k =>
    let s1 := { s with free := s.free + 1 }
    let s2 := (((s1.set CRL_CFG.PORT k port).set CRL_CFG.PASID k pasid).set CRL_TPL.TEMPLATE k t).setShare k
      (lowestOf (s.template t 64 64) (s.template t 12 7))
    let s3 := ((s2.set CRL_ARG0.PORT 0 port).set CRL_ARG1.SRC_CARREL 0 src).set CRL_ARG1.QID_BASE 0 base
    let s4 := crlRestore .librarian (BitVec.ofNat 12 k) (match host with | some b => .host b | none => .hbm) s3
    let ret := crlReturn (s4.get CRL_CMD.RESULT 0)
    (s4, ret, if ret = 0 then leBytes 2 k else [])

/-- A carrel command that goes through CRL_CMD: it ends at once, or runs on while BUSY (R372). -/
def State.mbxCarrel (s : State) (ep op k : Nat) (f : State → State) : State × Option (Nat × List Byte) :=
  if s.flag CRL_CMD.BUSY 0 then (s, some (4, []))
  else
    let s1 := f s
    if s1.flag CRL_CMD.BUSY 0 then ({ s1 with lib := { s1.lib with mbxRun := s1.lib.mbxRun ++ [(ep, op, k)] } }, none)
    else (s1, some (crlReturn (s1.get CRL_CMD.RESULT 0), []))

/-- What the staged command does; none when it runs on. -/
def State.mbxPerform (s : State) (ep : Nat) (host : Option (List Byte)) : State × Option (Nat × List Byte) :=
  let op := bits (s.mbxCmd ep) 0 16
  let port := if ep < 64 then ep else s.mbxGet ep 3 1 % 64
  let pasid := if ep < 64 then s.mbxGet ep 0 4 else s.mbxGet ep 0 3 % 2 ^ 20
  let wrap (x : State × Nat × List Byte) : State × Option (Nat × List Byte) := (x.1, some x.2)
  if !s.isUp port then (s, some (1, []))
  else if op = 0xC010 then
    let n := s.mbxGet ep 0 (if ep < 64 then 4 else 3)
    if n = 0 || s.mbxGet ep 4 1 ≥ 3 || s.mbxGet ep 5 1 ≥ 8 || s.mbxGet ep 8 2 ≥ 4096 then (s, some (1, []))
    else
      let x := s.bindRequest (.mailbox ep) 1 port n (s.mbxGet ep 4 1) (s.mbxGet ep 5 1) (s.mbxGet ep 8 2) 0
      (x.1, some (x.2, []))
  else if pasid ≥ 2 ^ 20 then (s, some (1, []))
  else if op = 0xC000 then
    if s.flag CRL_CMD.BUSY 0 then (s, some (4, [])) else wrap (s.mbxCreate port pasid (s.mbxGet ep 4 1) (s.mbxGet ep 8 8))
  else if op = 0xC004 then
    if s.flag CRL_CMD.BUSY 0 then (s, some (4, []))
    else if s.mbxGet ep 4 1 != 0 && host.isNone then
      let s1 := s.emit (.hostRead port pasid (s.mbxGet ep 8 8) 17104)
      ({ s1 with lib := { s1.lib with mbxRun := s1.lib.mbxRun ++ [(ep, 0xC004, 0)] } }, none)
    else wrap (s.mbxRestore port pasid (s.mbxGet ep 8 2) (s.mbxGet ep 16 4 % 2 ^ 20) host)
  else match s.carrelOf port pasid with
  | none => (s, some (if [0xC001, 0xC002, 0xC003, 0xC005, 0xC006, 0xC008, 0xC009].contains op then 1 else 2, []))
  | some k =>
    let kk := BitVec.ofNat 12 k
    if op = 0xC001 then wrap (s.mbxChange port k (s.mbxGet ep 4 1) (s.mbxGet ep 8 8) (s.mbxGet ep 16 2))
    else if op = 0xC002 then s.mbxCarrel ep op k (crlFreeze .librarian kk)
    else if op = 0xC003 then
      let toHost := s.mbxGet ep 4 1 != 0
      if toHost && s.tplOf k 22 1 == 0 then (s, some (3, []))
      else s.mbxCarrel ep op k (fun s =>
        let s1 := (s.set CRL_ARG0.PORT 0 port).set CRL_ARG0.PASID 0 pasid
        crlSave .librarian kk toHost ((s1.setWord .CRL_ADDR_LO 0 (BitVec.ofNat 32 (s.mbxGet ep 8 4))).setWord .CRL_ADDR_HI 0
          (BitVec.ofNat 32 (s.mbxGet ep 12 4))))
    else if op = 0xC005 then s.mbxCarrel ep op k (crlThaw .librarian kk)
    else if op = 0xC006 then s.mbxCarrel ep op k (crlDestroy .librarian kk)
    else if op = 0xC008 then wrap (s.mbxQueue port pasid k (s.mbxGet ep 4 2) (BitVec.ofNat 512 (s.mbxGet ep 8 64)))
    else if op = 0xC009 then wrap (s.mbxUnqueue k (s.mbxGet ep 4 2))
    else (s, some (2, []))

/-- The staged command meets the lead core; a core that does not run leaves DOORBELL set (R353). -/
def State.mbxStart (s : State) (ep : Nat) (host : Option (List Byte)) : State :=
  let s1 := s.setMbxCtl ep (putBits (s.mbxCtl ep) 0 1 1)
  if s1.leadRuns then
    let x := s1.mbxPerform ep host
    match x.2 with
    | some r => x.1.mbxDone ep r.1 r.2
    | none => x.1
  else s1

/-- Software stages a payload and CMD, and sets DOORBELL; while DOORBELL is 1 the writes are discarded and counted (R370),
and before ready they do not arrive (R382). -/
def mbxSubmit (ep op : Nat) (payload : List Byte) (host : Option (List Byte)) (s : State) : State :=
  if !s.flag SEC_BOOT_STS.READY 0 || (ep < 64 && !s.isUp ep) then s
  else if s.mbxRings ep then s.discard (libSet s.lead)
  else ((s.mbxPut ep payload).setMbxCmd ep (BitVec.ofNat 32 (op + payload.length * 65536))).mbxStart ep host

/-- The first four bytes of a request that names a carrel (R371). -/
def mbxWho (ep : Nat) (port : Port) (pasid : BitVec 20) : List Byte :=
  if ep < 64 then leBytes 4 pasid.toNat else leBytes 3 pasid.toNat ++ leBytes 1 port

def carrelCreate (ep : Fin 65) (port : Port) (pasid : BitVec 20) (template : BitVec 8) (mask : BitVec 64) (s : State) : State :=
  mbxSubmit ep 0xC000 (mbxWho ep port pasid ++ leBytes 4 template.toNat ++ leBytes 8 mask.toNat) none s
def execCarrelCreate (ep : Fin 65) (port : Port) (pasid : BitVec 20) (template : BitVec 8) (mask : BitVec 64) (s : State) : Result :=
  .next (carrelCreate ep port pasid template mask s)
def carrelChange (ep : Fin 65) (port : Port) (pasid : BitVec 20) (item : Fin 4) (value : BitVec 64) (idx : BitVec 16) (s : State) : State :=
  mbxSubmit ep 0xC001 (mbxWho ep port pasid ++ leBytes 4 item ++ leBytes 8 value.toNat ++ leBytes 2 idx.toNat) none s
def execCarrelChange (ep : Fin 65) (port : Port) (pasid : BitVec 20) (item : Fin 4) (value : BitVec 64) (idx : BitVec 16) (s : State) :
    Result := .next (carrelChange ep port pasid item value idx s)
def carrelFreeze (ep : Fin 65) (port : Port) (pasid : BitVec 20) (s : State) : State := mbxSubmit ep 0xC002 (mbxWho ep port pasid) none s
def execCarrelFreeze (ep : Fin 65) (port : Port) (pasid : BitVec 20) (s : State) : Result := .next (carrelFreeze ep port pasid s)
def carrelSave (ep : Fin 65) (port : Port) (pasid : BitVec 20) (host : Bool) (addr : BitVec 64) (s : State) : State :=
  mbxSubmit ep 0xC003 (mbxWho ep port pasid ++ leBytes 4 (if host then 1 else 0) ++ leBytes 8 addr.toNat) none s
def execCarrelSave (ep : Fin 65) (port : Port) (pasid : BitVec 20) (host : Bool) (addr : BitVec 64) (s : State) : Result :=
  .next (carrelSave ep port pasid host addr s)
/-- A RESTORE by a mailbox waits for a record that it has asked a host for (R372). -/
def State.mbxReads (s : State) (ep : Nat) : Bool := s.lib.mbxRun.any (fun (e : Nat × Nat × Nat) => e.1 == ep && e.2.1 == 0xC004)

/-- The host answers the read of a record: the command goes on with the bytes, or ends with the return code of HOST_FAIL. -/
def State.mbxRecord (s : State) (ep : Nat) (src : RecordFrom) : State :=
  let s1 := { s with lib := { s.lib with mbxRun := s.lib.mbxRun.filter (fun (e : Nat × Nat × Nat) => e.1 != ep) } }
  match src with
  | .host b => s1.mbxStart ep (some b)
  | .hostFail => s1.mbxDone ep (crlReturn 8) []
  | .hbm => s

/-- CARREL_RESTORE: from HBM; or from a host, which is read, and whose answer the command carries (R348, R372). -/
def carrelRestore (ep : Fin 65) (port : Port) (pasid : BitVec 20) (rec_ : RecordFrom) (src : BitVec 64) (base : Qid) (s : State) : State :=
  let body := mbxWho ep port pasid ++ leBytes 4 (if rec_ != .hbm then 1 else 0) ++ leBytes 8 src.toNat ++ leBytes 4 base.toNat
  if rec_ == .hbm then mbxSubmit ep 0xC004 body none s
  else
    let s1 := if s.mbxReads ep then s else mbxSubmit ep 0xC004 body none s
    if s1.mbxReads ep then s1.mbxRecord ep rec_ else s1
def execCarrelRestore (ep : Fin 65) (port : Port) (pasid : BitVec 20) (rec_ : RecordFrom) (src : BitVec 64) (base : Qid) (s : State) :
    Result := .next (carrelRestore ep port pasid rec_ src base s)
def carrelThaw (ep : Fin 65) (port : Port) (pasid : BitVec 20) (s : State) : State := mbxSubmit ep 0xC005 (mbxWho ep port pasid) none s
def execCarrelThaw (ep : Fin 65) (port : Port) (pasid : BitVec 20) (s : State) : Result := .next (carrelThaw ep port pasid s)
def carrelDestroy (ep : Fin 65) (port : Port) (pasid : BitVec 20) (s : State) : State := mbxSubmit ep 0xC006 (mbxWho ep port pasid) none s
def execCarrelDestroy (ep : Fin 65) (port : Port) (pasid : BitVec 20) (s : State) : Result := .next (carrelDestroy ep port pasid s)
def queueCreate (ep : Fin 65) (port : Port) (pasid : BitVec 20) (slot : Fin 64) (ctx : BitVec 512) (s : State) : State :=
  mbxSubmit ep 0xC008 (mbxWho ep port pasid ++ leBytes 4 slot ++ leBytes 64 ctx.toNat) none s
def execQueueCreate (ep : Fin 65) (port : Port) (pasid : BitVec 20) (slot : Fin 64) (ctx : BitVec 512) (s : State) : Result :=
  .next (queueCreate ep port pasid slot ctx s)
def queueDestroy (ep : Fin 65) (port : Port) (pasid : BitVec 20) (slot : Fin 64) (s : State) : State :=
  mbxSubmit ep 0xC009 (mbxWho ep port pasid ++ leBytes 2 slot) none s
def execQueueDestroy (ep : Fin 65) (port : Port) (pasid : BitVec 20) (slot : Fin 64) (s : State) : Result :=
  .next (queueDestroy ep port pasid slot s)
/-- REQUEST_CAPACITY: at the management endpoint the port is in byte 3, with 24 bits of shelves. -/
def requestCapacity (ep : Fin 65) (port : Port) (shelves : Word) (mode : Fin 4) (gclass : Fin 8) (group : BitVec 12) (s : State) : State :=
  mbxSubmit ep 0xC010 ((if ep.val < 64 then leBytes 4 shelves.toNat else leBytes 3 shelves.toNat ++ leBytes 1 port) ++ leBytes 1 mode
    ++ leBytes 3 gclass ++ leBytes 2 group.toNat) none s
def execRequestCapacity (ep : Fin 65) (port : Port) (shelves : Word) (mode : Fin 4) (gclass : Fin 8) (group : BitVec 12) (s : State) : Result :=
  .next (requestCapacity ep port shelves mode gclass group s)

/-! Commands that run on (R372). -/

/-- A command of the mailbox whose CRL_CMD has ended completes; SAVE returns LEN and INFLIGHT. -/
def State.mbxSettle (s : State) (e : Nat × Nat × Nat) : State :=
  let over_ := if e.2.1 = 0xC004 then false else if e.2.1 = 0xC002 then s.dmv.freezing != some e.2.2
    else (match s.dmv.saving with | some x => x.1 != e.2.2 | none => true)
  if over_ then
    let ret := crlReturn (s.get CRL_CMD.RESULT 0)
    s.mbxDone e.1 ret (if ret = 0 && e.2.1 = 0xC003 then
      leBytes 2 (s.get CRL_CMD_STS.LEN 0) ++ leBytes 1 (s.get CRL_CMD_STS.INFLIGHT 0) else [])
  else s
def State.mbxSettleAll (s : State) : State := s.lib.mbxRun.foldl (fun s e => s.mbxSettle e) s

def execCarrelFrozen (carrel : Carrel) (s : State) : Result := .next (carrelFrozen carrel s).mbxSettleAll
def execSaveDone (good : Bool) (s : State) : Result := .next (saveDone good s).mbxSettleAll

/-- MBX_COMMAND_TIMEOUT: the command completes with TIMEOUT, and the operation goes on to its own end. -/
def mbxCommandTimeout (ep : Fin 65) (s : State) : State :=
  match s.lib.mbxRun.find? (fun (e : Nat × Nat × Nat) => e.1 == ep.val) with
  | some _ => s.mbxDone ep 6 []
  | none => s
def execMbxCommandTimeout (ep : Fin 65) (s : State) : Result := .next (mbxCommandTimeout ep s)

end Sys2Proof.Machine
end

