-- ==== Sys2Proof/Machine/Recovery.lean ====
section
/-! DEFINITION. The commands of dead agents, reclaim walks, transaction timers, shelf-loss holds and Zwius failover (chapter
Coherence Races, Dead Agents and Recovery). -/
namespace Sys2Proof.Machine
open Sys2Proof

/-! Dead sets (R127–R129). -/

/-- Trackers of an agent that is dead for their line complete what it owes (R129). -/
def deadTrackers (s : State) (agent : Nat) : State :=
  let ks := (s.cat.trk.filter (fun e => match e.2 with
    | some t => (t.await.any (fun x => x.1 == agent) || t.named.any (fun x => x.1 == agent)) && s.deadFor agent t.line
    | none => false)).map (fun e => e.1)
  ks.foldl (fun s k =>
    let s1 := s.deadAnswer k agent 1
    let s2 := match s1.trk k with
      | some t => s1.setTrk k (some { t with named := t.named.filter (fun x => x.1 != agent) })
      | none => s1
    s2.work [.settle k]) s

/-- The regions whose dead sets count: those not isolated. -/
def liveRegions (s : State) : List Nat := [0, 1, 2, 3].filter (fun r => s.rgn r != 2)

/-- The dead-set status of every region (CAT_DEAD_STS). -/
def deadStatus (s : State) : State :=
  (liveRegions s).foldl (fun s r => s.set CAT_DEAD_STS.COUNT r s.cat.dead.length) s

/-- Scope codes of CAT_DEAD_STS and CAT_RCL_CMD. -/
def scopeCode (d : DeadScope) : Nat := match d with | .all => 0 | .group _ => 1 | .shelf _ => 2

/-- CAT_RCL_STS.BUSY of a region: its walk runs, or a second scoped death waits for the first (R128, R158). -/
def showRcl (s : State) (r : Nat) : State :=
  let w : Walk := Tab.get {} s.cat.walk r
  s.set CAT_RCL_STS.BUSY r (if w.running || s.cat.deadWait != [] then 1 else 0)

/-- The walks of every region run and cover the agent (R132, R133). DESIGN CHOICE: the spec gives the order of a walk and its wrap, and
no set at which a new walk begins; it goes on from where the region's last walk stood (log entry 37). -/
def startWalks (s : State) : State :=
  (liveRegions s).foldl (fun s r =>
    let w : Walk := Tab.get {} s.cat.walk r
    let s1 := if w.running then s else s.set CAT_RCL_STS.POISONED r 0
    showRcl (s1.inCat fun c => { c with walk := Tab.put {} c.walk r { w with running := true } }) r) s

/-- An agent enters the dead set of every region with a scope (R127, R128): ALL replaces a scoped entry, and a second scoped
death waits for the walk of the first, which every region shows as BUSY. -/
def enterDead (s : State) (agent : Nat) (sc : DeadScope) : State :=
  let put (s : State) : State :=
    let s1 := s.inCat fun c => { c with dead := Tab.put none c.dead agent (some ⟨sc, liveRegions s⟩) }
    let s2 := (liveRegions s1).foldl (fun s r =>
      (s.set CAT_DEAD_STS.LAST_AGENT r agent).set CAT_DEAD_STS.LAST_SCOPE r (scopeCode sc)) (deadStatus s1)
    deadTrackers (startWalks s2) agent
  match Tab.get none s.cat.dead agent with
  | none => put s
  | some e =>
    if sc = .all then put s
    else if e.scope = .all then s
    else (liveRegions s).foldl showRcl (s.inCat fun c => { c with deadWait := c.deadWait ++ [(agent, sc)] })

/-- DEAD_SET_ENTRY: an agent made dead is entered in every region's dead set (R127). -/
def deadSetEntry (agent : Agent) (s : State) : State :=
  let mine := s.cat.dying.filter (fun e => e.1 == agent.toNat)
  let s1 := s.inCat fun c => { c with dying := c.dying.filter (fun e => e.1 != agent.toNat) }
  mine.foldl (fun s e => enterDead s e.1 e.2) s1

def execDeadSetEntry (agent : Agent) (s : State) : Result := .next (deadSetEntry agent s)

/-- RECLAIM_START: the agent of CAT_RCL_CMD enters every dead set with its scope, and the walks start (R127, R158). -/
def reclaimStart (p : Path) (r : Region) (s : State) : State :=
  s.start p (catSet r) (s.flag CAT_RCL_STS.BUSY r) fun s =>
    let arg := s.get CAT_RCL_ARG.ARG r
    enterDead s (s.get CAT_RCL_CMD.AGENT r)
      (match s.get CAT_RCL_CMD.SCOPE r with | 0 => .all | 1 => .group arg | _ => .shelf arg)

def execReclaimStart (p : Path) (r : Region) (s : State) : Result := .next (reclaimStart p r s)

/-! The reclaim walk (R131–R133). -/

/-- An entry that the walk changes: not BUSY, with a pointer to an agent dead for its line. -/
def walkChanges (s : State) (r i : Nat) (e : Entry) : Bool :=
  !eBusy e && (ePtrs e).any (fun a => s.deadFor a (catLine r i (eTag e)))

/-- A set is flagged in the filter of an agent in the dead set (R131, R132). -/
def flagged (s : State) (r i : Nat) : Bool :=
  s.cat.dead.any (fun e => (Tab.get 0 s.cat.filter (1024 * r + e.1)).getLsbD (i / 2 ^ 16))

/-- The flagged sets of region r that the walk still changes: others are passed over (log entry 37). -/
def walkSets (s : State) (r : Nat) : List Nat :=
  (s.catSets r).filter (fun i => flagged s r i && (s.catWays r i).any (walkChanges s r i))

/-- One entry of a visited set (R132): the state with a poisoned line stored where its owner is dead, and the new entry. -/
def walkEntry (s : State) (r i : Nat) (e : Entry) : State × Entry :=
  if !walkChanges s r i e then (s, e)
  else
    let line := catLine r i (eTag e)
    if eState e = 3 then (((s.grnPoison line 1 ((ePtrs e).getD 0 0)).2.bump CAT_RCL_STS.POISONED r 1), 0)
    else
      let keep := (ePtrs e).filter (fun a => !s.deadFor a line)
      (s, if keep = [] then 0 else mkEntry (eTag e) 1 false keep)

/-- A visited set with its dead pointers removed: in the cache where it is cached, else straight back to HBM (R100, R132). -/
def walkVisit (s : State) (r i : Nat) : State :=
  let (s1, ways) := (s.catWays r i).foldl (fun (x : State × List Entry) e =>
    let (t, e1) := walkEntry x.1 r i e
    (t, x.2 ++ [e1])) (s, [])
  match s1.cachedSet r i with
  | some c => s1.inCat fun t => { t with cache := Tab.put none t.cache (catKey r i) (some { c with ways := ways, modified := true }) }
  | none => s1.putBacking r i ways

/-- RECLAIM_SET_VISIT: the walk visits its next flagged set in ascending order, wrapping at the last; a set whose fill is in
flight is left until the fill ends (R100, R132). -/
def reclaimSetVisit (r : Region) (s : State) : State :=
  let w : Walk := Tab.get {} s.cat.walk r
  if !w.running then s
  else
    let sets := (walkSets s r).filter (fun i => !(s.cat.fills.any (fun f => f.1 == catKey r i)))
    let next := match (sets.filter (fun i => i ≥ w.pos)).min? with
      | some i => some i
      | none => sets.min?
    match next with
    | none => s
    | some i => (walkVisit s r i).inCat fun c => { c with walk := Tab.put {} c.walk r ⟨true, (i + 1) % 2 ^ 26⟩ }

def execReclaimSetVisit (r : Region) (s : State) : Result := .next (reclaimSetVisit r s)

/-- A region is covered for every agent in the dead set: those that no region has left leave it, with scope ALL clearing the
region's filter, and second scoped deaths enter (R128, R131, R135). -/
def regionCovered (s : State) (r : Nat) : State :=
  let all := s.cat.dead.filter (fun e => match e.2 with
    | some d => d.scope == .all && d.left.contains r
    | none => false)
  let s1 := s.inCat fun c =>
    { c with filter := all.foldl (fun f e => Tab.put 0 f (1024 * r + e.1) 0) c.filter
             dead := c.dead.map (fun e => (e.1, e.2.map (fun d => { d with left := d.left.filter (fun x => x != r) }))) }
  let out := (s1.cat.dead.filter (fun e => match e.2 with | some d => d.left == [] | none => true)).map (fun e => e.1)
  let s2 := deadStatus (s1.inCat fun c => { c with dead := c.dead.filter (fun e => !(out.contains e.1)) })
  let wait := s2.cat.deadWait.filter (fun e => out.contains e.1)
  (liveRegions s2).foldl showRcl
    (wait.foldl (fun s e => enterDead s e.1 e.2) (s2.inCat fun c => { c with deadWait := c.deadWait.filter (fun e => !(out.contains e.1)) }))

/-- A walk stops with a result. -/
def walkStops (s : State) (r res : Nat) : State :=
  let w : Walk := Tab.get {} s.cat.walk r
  ((showRcl (s.inCat fun c => { c with walk := Tab.put {} c.walk r { w with running := false } }) r).set
    CAT_RCL_STS.DONE r 1).set CAT_RCL_STS.RESULT r res

/-- RECLAIM_WALK_END: no set is left to change, and the region is covered (R128, R132, R135). -/
def reclaimWalkEnd (r : Region) (s : State) : State :=
  let w : Walk := Tab.get {} s.cat.walk r
  if w.running && walkSets s r == [] then regionCovered (walkStops s r 0) r else s

def execReclaimWalkEnd (r : Region) (s : State) : Result := .next (reclaimWalkEnd r s)

/-- RECLAIM_WALK_TMO: RESULT TIMEOUT, and CAT_RCL_TIMEOUT isolates the region (R133). -/
def reclaimWalkTmo (r : Region) (s : State) : State :=
  let w : Walk := Tab.get {} s.cat.walk r
  if w.running then (walkStops s r 1).record (regionOcc r (catSet r) 10) else s

def execReclaimWalkTmo (r : Region) (s : State) : Result := .next (reclaimWalkTmo r s)

/-! Transaction timers (R144–R146). -/

/-- The ports from which a tracker still awaits a response: of another unit, that of the Zwius link. -/
def owing (s : State) (t : Tracker) : List Nat :=
  ((t.await.map (fun e => s.portOf e.1)) ++ (t.named.map (fun e => s.portOf e.1)) ++
    (match t.purpose with
     | .remote a tag => (s.cat.zreq.filter (fun q => q.q.agent == a && q.q.tag == tag)).map (fun q => zPort q.z)
     | _ => []) ++
    (if t.phase == TrkPhase.pool || t.phase == TrkPhase.poolWrite then
      (match t.req with | some q => [rget q.srec rPort] | none => [s.poolOf t.line]) else [])).dedup

/-- A link is retraining, or in replay: what it sends again is not yet acknowledged, or what it received is held back behind a
unit or flit that is being sent again (R145). -/
def linkRecovers (s : State) (p : Nat) : Bool :=
  s.get PRT_PORT_STS.STATE p == 5 || s.inReplay p

/-- A tracker's timer pauses while a port that it waits for has its link in replay or retraining (R145). -/
def timerPaused (s : State) (t : Tracker) : Bool := !t.capped && (owing s t).any (linkRecovers s)

/-- TXN_TIMEOUT: one CAT_TXN_TIMEOUT for each silent port, whose links go down; snoops complete as from dead agents, a pool read
with poison of reason TXN_TIMEOUT, and a request to another unit as for a lost path (R146). -/
def txnTimeout (r : Region) (t : Nat) (s : State) : State :=
  let k := 8192 * r.val + t % 8192
  match s.trk k with
  | none => s
  | some x =>
    let ports := owing s x
    if ports = [] || timerPaused s x then s
    else
      let s1 := ports.foldl (fun s p => s.record (portOcc p (catSet r) 7)) (s.bump CAT_TMR_STS.TIMEOUTS r 1)
      let s2 := x.await.foldl (fun s e => s.deadAnswer k e.1 1) s1
      let s3 := match x.purpose with
        | .remote a tag =>
          (match s2.cat.zreq.find? (fun q => q.q.agent == a && q.q.tag == tag) with
           | some z => (s2.inCat fun c => { c with zreq := c.zreq.erase z }).pathLost z.q (Tab.get 0 s2.cat.lastPeer z.z - 1)
           | none => s2)
        | _ => match s2.trk k with
          | none => s2
          | some y =>
            let y1 : Tracker := { y with named := [] }
            let u := if y1.phase == TrkPhase.pool then
                let (d, u) := s2.openLine
                u.setTrk k (some { y1 with held := some d, reason := 4, phase := .work })
              else s2.setTrk k (some y1)
            u.work [.settle k]
      ports.foldl (fun s p => s.portContained p) s3

def execTxnTimeout (r : Region) (t : Nat) (s : State) : Result := .next (txnTimeout r t s)

/-- TXN_PAUSE_CAP: the paused time reaches one period and the timer runs again (R145). -/
def txnPauseCap (r : Region) (t : Nat) (s : State) : State :=
  let k := 8192 * r.val + t % 8192
  match s.trk k with
  | none => s
  | some x =>
    if timerPaused s x then (s.setTrk k (some { x with capped := true })).bump CAT_TMR_STS.PAUSE_CAPPED r 1 else s

def execTxnPauseCap (r : Region) (t : Nat) (s : State) : Result := .next (txnPauseCap r t s)

/-! Links (R147–R156). -/

/-- UP_LINK_DOWN (R147). -/
def upLinkDown (p : Port) (s : State) : State := if s.role p = 1 && s.inService p then s.linkDown p 1 else s
def execUpLinkDown (p : Port) (s : State) : Result := .next (upLinkDown p s)

/-- POOL_LINK_DOWN (R148). -/
def poolLinkDown (p : Port) (s : State) : State :=
  if s.role p = 2 && s.inService p then (s.linkDown p 1).poolDown p else s
def execPoolLinkDown (p : Port) (s : State) : Result := .next (poolLinkDown p s)

/-- DN_LINK_DOWN: a link to a device that is no pool device (R127, R192). -/
def dnLinkDown (p : Port) (s : State) : State := if s.role p = 2 && s.inService p then s.linkDown p 1 else s
def execDnLinkDown (p : Port) (s : State) : Result := .next (dnLinkDown p s)

/-- HOT_RESET_RECEIVED: every agent of the UP port is dead (R127). A hot reset takes the link from L0 to Hot Reset, so that the output
is out of service and LINK_DOWN is posted (R192, R249). -/
def hotResetReceived (x : PortReset) (s : State) : State :=
  if s.role x.port != 1 then s
  else if x.hot && s.inService x.port then s.linkDown x.port 8
  else s.portDies x.port
def execHotResetReceived (p : PortReset) (s : State) : Result := .next (hotResetReceived p s)

/-- The hold of a port expires (R151): every shelf of the port that is not yet lost is declared lost. -/
def holdExpires (s : State) (p : Nat) : State :=
  let s1 := (s.clearBits CAT_HOLD_STS.HOLD (p / 16) (2 ^ (p % 16))).setBits CAT_HOLD_STS.LOST (p / 16) (2 ^ (p % 16))
  let shelves := (s.bnd.shelf.filter (fun e => rget e.2 rState != 0 && rget e.2 rLost == 0 && rget e.2 rPort == p)).map (fun e => e.1)
  (shelves.foldl (fun s x => s.shelfLost x) s1).work []

/-- HOLD_EXPIRY (R151). -/
def holdExpiry (p : Port) (s : State) : State := if s.held p then holdExpires s p else s
def execHoldExpiry (p : Port) (s : State) : Result := .next (holdExpiry p s)

/-- The hold of a port ends by return (R150): pinned lines are written back and unpinned, and misses are served again. -/
def holdReturns (s : State) (p : Nat) : State :=
  let s1 := s.clearBits CAT_HOLD_STS.HOLD (p / 16) (2 ^ (p % 16))
  let mine := s1.grn.ways.filter (fun e => e.2.valid && e.2.pinned && s1.poolOf (wayBlock e.1 e.2) == p)
  let s2 := mine.foldl (fun s e =>
    let t := (List.range 4).foldl (fun s i =>
      if e.2.dirty.getLsbD i then
        s.sendWrite (wayBlock e.1 e.2 + 64 * i) .way (s.hbmLine (sectorKey (wayRegion e.1) (waySet e.1) (e.1 % 4) i)) else s) s
    t.setWay e.1 { e.2 with pinned := false }) s1
  s2.drainBuffers

/-- HOLD_RETURN: the link is back and its device's serial number is read; another device is the hold's expiry (R150). -/
def holdReturn (p : Port) (serial : BitVec 64) (s : State) : State :=
  if !s.held p || !s.inL0 p then s
  else if Tab.get 0 s.cat.serial p = serial then holdReturns s p
  else holdExpires s p

def execHoldReturn (p : Port) (serial : BitVec 64) (s : State) : Result := .next (holdReturn p serial s)

/-- ZWIUS_LINK_DOWN (R153, R156, R294). -/
def zwiusLinkDown (z : ZPort) (s : State) : State :=
  if s.role (zPort z) = 3 && s.inService (zPort z) then s.zwlDown z else s
def execZwiusLinkDown (z : ZPort) (s : State) : Result := .next (zwiusLinkDown z s)

/-- ZWIUS_UNACK_TIMEOUT: a unit stays unacknowledged for 4 µs, and the link is declared down (R152). -/
def zwiusUnackTimeout (z : ZPort) (s : State) : State :=
  if s.role (zPort z) = 3 && s.inService (zPort z) && (s.zwl z).replay != [] then s.zwlDown z else s
def execZwiusUnackTimeout (z : ZPort) (s : State) : Result := .next (zwiusUnackTimeout z s)

/-- ZWIUS_RESPONSE: the first response for a tag is delivered with its grant, and later ones are discarded and counted (R155). -/
def zwiusResponse (tag : BitVec 16) (agent : Agent) (g : GrantKind) (d : Option LineData) (s : State) : State :=
  match s.cat.zreq.find? (fun z => z.q.agent == agent && z.q.tag == tag) with
  | some z =>
    let s1 := (s.inCat fun c => { c with zreq := c.zreq.erase z }).remoteOver z.q
    match g, d with
    | .none, none => s1.backTo z.q (.complete agent tag) none
    | _, _ => s1.backTo z.q (.grant agent tag g d) d
  | none => s.bump CAT_DROP_STS.DUP_RSP (agentPort agent / 16) 1

def execZwiusResponse (_z : ZPort) (tag : BitVec 16) (agent : Agent) (d : Answer) (s : State) : Result :=
  .next (zwiusResponse tag agent d.grant d.d s)

end Sys2Proof.Machine
end

