-- ==== Sys2Proof/Machine/Security.lean ====
section
/-! DEFINITION. The commands of the root of trust (chapter Fabric Image, Start-up and Trust): rollback, nonces, tokens,
life-cycle fuses, SPDM and boundary scan. -/
namespace Sys2Proof.Machine
open Sys2Proof

/-- A DBG violation: counted and recorded (R3, R409). -/
def dbgViolation (s : State) : State := (s.bump SEC_DBG_STS.VIOLATIONS 0 1).record (blockOcc setSec 4)

/-- A write of SEC_RB_CMD: only from the Librarian, or from the debug master in FACTORY; the debug master meets a locked
region in every other state (R409, R497). -/
def rbAdmit (p : Path) (f : State → State) (s : State) : State :=
  match p with
  | .librarian _ => f s
  | .debug =>
    if s.get SEC_LC_STS.STATE 0 != 0 then (dbgViolation s).discard setSec
    else if s.mayWrite .debug then f s else s.discard setSec
  | .manager => if s.unheard .manager then s else s.discard setSec
  | .i3c => s

/-- ROLLBACK_COMMIT: the fuses start to be written up to the running image's ROLLBACK, or the command ends at once with
NOT_READY or NOTHING (R402); a commit while BUSY is discarded (R546). -/
def rollbackCommit (s : State) : State :=
  if s.flag SEC_RB_CMD.BUSY 0 then s.discard setSec
  else if !s.flag SEC_BOOT_STS.READY 0 then s.set SEC_RB_CMD.RESULT 0 1
  else if s.get SEC_LC_STS.RB_OTP 0 ≥ s.get SEC_LC_STS.RB_IMAGE 0 then s.set SEC_RB_CMD.RESULT 0 2
  else s.set SEC_RB_CMD.BUSY 0 1

def execRollbackCommit (p : Path) (s : State) : Result := .next (rbAdmit p rollbackCommit s)

/-- ROLLBACK_FUSE_DONE: the counter reads the image's ROLLBACK; after a failure it reads an open value between the old one
and that (R402, R411). -/
def rollbackFuseDone (good : Bool) (s : State) : State :=
  if !s.flag SEC_RB_CMD.BUSY 0 then s
  else
    let s1 := s.set SEC_RB_CMD.BUSY 0 0
    let old := s.get SEC_LC_STS.RB_OTP 0
    let new := s.get SEC_LC_STS.RB_IMAGE 0
    if good then (s1.set SEC_RB_CMD.RESULT 0 0).set SEC_LC_STS.RB_OTP 0 new
    else
      let s2 := (s1.set SEC_RB_CMD.RESULT 0 3).set SEC_LC_STS.RB_OTP 0 (old + Config.freeValue s.free % (new - old + 1))
      { s2 with free := s.free + 1 }.record (blockOcc setSec 3)

def execRollbackFuseDone (good : Bool) (s : State) : Result := .next (rollbackFuseDone good s)

/-- NONCE_READ: a new nonce is made and voids the one before it; its upper half is latched for the path (R406, R507). -/
def nonceRead (p : Path) (s : State) : Word × State :=
  let v := Config.nonce s.boot.nonces
  let s1 := { s with boot := { s.boot with nonce := some v, nonces := s.boot.nonces + 1 } }
  (v.setWidth 32, s1.latch p (fun l => { l with nonceHi := BitVec.ofNat 32 (bits v 32 32) }))

def execNonceRead (p : Path) (s : State) : Result := .next (s.readWith p 4 true (nonceRead p))

/-- Byte i of the token in SEC_TOKEN_D (R406). -/
def State.tokenByte (s : State) (i : Nat) : Byte := BitVec.ofNat 8 (bits (s.word .SEC_TOKEN_D (i / 4)) (8 * (i % 4)) 8)
/-- n bytes of the token from i. -/
def State.tokenBytes (s : State) (i n : Nat) : List Byte := (List.range n).map (fun k => s.tokenByte (i + k))
/-- n bytes of the token as a little-endian number. -/
def State.tokenNum (s : State) (i n : Nat) : Nat :=
  (s.tokenBytes i n).foldr (fun b acc => b.toNat + 256 * acc) 0

/-- The format of a token of a kind (Table: Token layout). -/
def State.tokenFormat (s : State) (kind : Nat) : Bool :=
  s.tokenNum 0 4 == 0x4B4F544B && s.tokenNum 4 1 == kind && s.tokenNum 5 1 == 0
    && (kind == 4 || s.tokenNum 6 2 == 0) && (kind == 1 || s.tokenNum 80 64 == 0)
    && s.tokenNum 201 7 == 0 && s.tokenNum 322 62 == 0

/-- Whether a kind of token is on a row of R405, or, for KIND 4, accepted under R2; and the signer's hash it needs. -/
def State.tokenSigner (s : State) (kind : Nat) : Option (BitVec 512) :=
  let st := s.get SEC_LC_STS.STATE 0
  let owner := s.boot.ownerHash
  match kind with
  | 1 => if st = 0 then some Config.vrootHash else none
  | 2 => if st = 1 then some owner else none
  | 3 => if st = 0 || st = 2 then some Config.vrootHash else if st = 1 then some owner else none
  | 4 =>
    if st = 0 then some Config.vrootHash
    else if st = 1 && s.get CHIP_IDENT.VARIANT 0 = 0 then some owner
    else none
  | _ => none

/-- The result of a token's checks (R406): 0 OK, else the RESULT code of SEC_TOKEN_CMD. -/
def State.tokenCheck (s : State) (kind : Nat) : Nat :=
  if !s.tokenFormat kind then 1
  else if s.boot.nonce != some (BitVec.ofNat 64 (s.tokenNum 8 8)) then 4
  else if BitVec.ofNat 512 (s.tokenNum 16 64) != Config.deviceId then 5
  else match s.tokenSigner kind with
  | none => 6
  | some h =>
    if Config.shake256 (s.tokenBytes 144 57) != h then 3
    else if !Config.ed448ph 2 (s.tokenBytes 144 57) (s.tokenBytes 0 208) (s.tokenBytes 208 114) then 2
    else 0

/-- A refused token changes nothing but its report; a refused unlock is also a DBG violation (R3, R411). -/
def tokenRefused (kind code : Nat) (s : State) : State :=
  let s1 := (s.set SEC_TOKEN_CMD.RESULT 0 code).record (blockOcc setSec 2)
  if kind = 4 then dbgViolation s1 else s1

/-- A token is submitted: refused while another is being checked or fused; its nonce is used up; then it is refused with
its code, or accepted (R405, R406). -/
def submit (kind : Nat) (accept : State → State) (s : State) : State :=
  if s.flag SEC_TOKEN_CMD.BUSY 0 then tokenRefused kind 8 s
  else
    let code := s.tokenCheck kind
    let s1 := s.set SEC_TOKEN_CMD.KIND 0 (s.tokenNum 4 1)
    let used := s.boot.nonce == some (BitVec.ofNat 64 (s.tokenNum 8 8))
    let s2 := if used then { s1 with boot := { s1.boot with nonce := none } } else s1
    if code = 0 then accept (s2.set SEC_TOKEN_CMD.RESULT 0 0) else tokenRefused kind code s2

/-- A life-cycle change starts writing its fuses (R407). -/
def fuseStarts (st : Nat) (h : BitVec 512) (s : State) : State :=
  let s1 := s.set SEC_TOKEN_CMD.BUSY 0 1
  { s1 with boot := { s1.boot with fusing := some (st, h) } }

/-- LC_OWN: FACTORY to OWNED, with OWNER_HASH from PAYLOAD (R405). -/
def lcOwn (s : State) : State := submit 1 (fuseStarts 1 (BitVec.ofNat 512 (s.tokenNum 80 64))) s
def execLcOwn (p : Path) (s : State) : Result := .next (s.commandListed p true setSec lcOwn)

/-- LC_RETURN: OWNED to RETURNED (R405). -/
def lcReturn (s : State) : State := submit 2 (fuseStarts 2 s.boot.ownerHash) s
def execLcReturn (p : Path) (s : State) : Result := .next (s.commandListed p true setSec lcReturn)

/-- LC_SCRAP: FACTORY, OWNED or RETURNED to SCRAPPED (R405). -/
def lcScrap (s : State) : State := submit 3 (fuseStarts 3 s.boot.ownerHash) s
def execLcScrap (p : Path) (s : State) : Result := .next (s.commandListed p true setSec lcScrap)

/-- The scope that an accepted unlock grants: bits 3 and 4 only in FACTORY (R408). -/
def State.grantedScope (s : State) : Nat :=
  if s.get SEC_LC_STS.STATE 0 = 0 then s.tokenNum 6 2 % 32 else s.tokenNum 6 2 % 8

/-- DBG_UNLOCK: the debug master is unlocked with the token's scope (R408). -/
def dbgUnlock (s : State) : State :=
  submit 4 (fun t => (t.set SEC_DBG_STS.UNLOCKED 0 1).set SEC_DBG_STS.SCOPE 0 s.grantedScope) s
def execDbgUnlock (p : Path) (s : State) : Result := .next (s.commandListed p true setSec dbgUnlock)

/-- LC_FUSE_DONE: the part restarts in the new state, with the retained SRAM and the wear ledger wiped; a failed fuse
abandons the transition with an open number of fuses blown (R404, R407, R411). -/
def lcFuseDone (good : Bool) (s : State) : State :=
  match s.boot.fusing with
  | none => s
  | some (st, h) =>
    if good then
      let s1 := s.set SEC_LC_STS.STATE 0 st
      let s2 := { s1 with boot := { s1.boot with ownerHash := h, fusing := none }, ret := [] }
      let s3 := { s2 with arc := { s2.arc with wear := [], counts := [], ext := [] }, flt := { s2.flt with retPend := [] } }
      let s4 := internalRestart ((s3.set KPR_RET_STS.VALID 0 0).set KPR_RET_STS.MISSED 0 0) 6
      { s4 with boot := { s4.boot with toTry := s4.boot.order } }
    else
      let s1 := (s.set SEC_TOKEN_CMD.BUSY 0 0).set SEC_TOKEN_CMD.RESULT 0 7
      { s1 with free := s.free + 1
                boot := { s1.boot with fusing := none, fuses := some (st, h, Config.freeValue s.free % 9) } }.record
        (blockOcc setSec 3)

def execLcFuseDone (good : Bool) (s : State) : Result := .next (lcFuseDone good s)

/-- The bytes of a digest. -/
def digestBytes (d : BitVec 512) : List Byte := (List.range 64).map (fun k => BitVec.ofNat 8 (bits d (8 * k) 8))

/-- Bytes of the image in use. -/
def State.imageBytes (s : State) (a n : Nat) : List Byte := peeks s.boot.image a n

/-- A value of the measurement log (Table: Measurement log). -/
def State.measurement (s : State) (i : Nat) : BitVec 512 :=
  if i = 1 then Config.romDigest
  else if i = 2 then
    Config.shake256 ([BitVec.ofNat 8 (s.get SEC_LC_STS.STATE 0), BitVec.ofNat 8 (s.get CHIP_IDENT.VARIANT 0),
      BitVec.ofNat 8 (s.get SEC_LC_STS.RB_OTP 0)] ++ digestBytes s.boot.ownerHash)
  else if i = 3 then Config.shake256 (s.imageBytes 0 3968)
  else if 4 ≤ i && i ≤ 13 then BitVec.ofNat 512 (flashN s.boot.image (128 + 80 * (i - 4) + 16) 64)
  else if i = 14 then Config.shake256 [BitVec.ofNat 8 (s.get SEC_DBG_STS.SCOPE 0)]
  else 0

/-- The SHAKE256 digest of measurement indices 1–13, from which the alias key comes (R403). -/
def State.measured (s : State) : BitVec 512 :=
  Config.shake256 ((List.range 13).flatMap (fun k => digestBytes (s.measurement (k + 1))))

/-- The three certificates of slot 0: Volpiholt's root, the identity certificate and the alias certificate (R403). -/
def State.certChain (s : State) : List (List Byte) := [Config.certificate 0, Config.certificate 1, Config.aliasCertificate s.measured]

/-- Bytes as a little-endian number. -/
def bytesNat (l : List Byte) : Nat := l.foldr (fun b n => b.toNat + 256 * n) 0

/-- Table: SPDM responder as SPDM numbers it (log entry 95): the capability flags, and signature, hash, key exchange and AEAD. -/
def spdmCaps : Nat := 0x62D6
def spdmAlgs : List Nat := [0x800, 0x20, 0x10, 0x2]

/-- A response with the alias key's signature over it (R403). -/
def State.spdmSigned (s : State) (l : List Nat) : List Nat := l ++ [(Config.aliasSign s.measured l).toNat]

/-- SPDM request codes and their responses: response code and payload (R403). Error responses are 0x7F with a code. A part that cannot
read its secret offers no identity (R411). -/
def spdmAnswer (op : SpdmOp) (s : State) : Nat × List Nat × List Nat :=
  let live := s.boot.spdm
  let known (code : Nat) (l : List Nat) : Nat × List Nat × List Nat := (code, if s.boot.secretRead then l else [0x7F, 0x05], live)
  match op with
  | .getVersion => (0x84, [0x12, 0x13], live)
  | .getCapabilities => (0xE1, [spdmCaps], live)
  | .negotiateAlgorithms => (0xE3, spdmAlgs, live)
  | .getDigests => known 0x81 (s.certChain.map (fun c => (Config.shake256 c).toNat))
  | .getCertificate => known 0x82 (s.certChain.map bytesNat)
  | .challenge => known 0x83 (s.spdmSigned [0x83])
  | .getMeasurements i =>
    if 1 ≤ i && i ≤ 14 then known 0xE0 (s.spdmSigned [i, (s.measurement i).toNat]) else (0xE0, [0x7F, 0x01], live)
  | .keyExchange n =>
    if !s.boot.secretRead then (0xE4, [0x7F, 0x05], live)
    else if live.length ≥ 16 then (0xE4, [0x7F, 0x03], live) else (0xE4, s.spdmSigned [n], n :: live)
  | .finish n => if live.contains n then (0xE5, [n], live) else (0xE5, [0x7F, 0x02], live)
  | .heartbeat n => if live.contains n then (0xE8, [n], live) else (0xE8, [0x7F, 0x02], live)
  | .keyUpdate n => if live.contains n then (0xE9, [n], live) else (0xE9, [0x7F, 0x02], live)
  | .endSession n => if live.contains n then (0xEC, [n], live.erase n) else (0xEC, [0x7F, 0x02], live)
  | .other c => (c, [0x7F, 0x07], live)

/-- SPDM_REQUEST: the responder answers over the request's transport, the I3C target at any time and the others once the
KZ64 is ready (R386, R403); an answer over I3C waits with in-band interrupt 0x03 (R375). -/
def spdmRequest (endpoint : Nat) (op : SpdmOp) (s : State) : State :=
  if endpoint = 66 || s.flag SEC_BOOT_STS.READY 0 then
    let a := spdmAnswer op s
    let s1 := { s with boot := { s.boot with spdm := a.2.2 } }.emit (.response endpoint a.1 0 a.2.1)
    (if endpoint = 66 then s1.ibiPend 2 else s1).countChip 0x49 0xFF 1
  else s

def execSpdmRequest (endpoint : Nat) (op : SpdmOp) (s : State) : Result := .next (spdmRequest endpoint op s)

/-- Instructions that drive the pins (R410). -/
def scanDrives : ScanOp → Bool
  | .extest => true
  | .extestPulse => true
  | .extestTrain => true
  | _ => false

/-- What the instruction in the boundary-scan register acts as. -/
def State.scanActs (s : State) : ScanOp := if scanDrives s.boot.scan && s.boot.perst then .bypass else s.boot.scan

/-- BOUNDARY_SCAN: EXTEST and the AC-coupled tests act as BYPASS while PERST_N is high (R410). -/
def boundaryScan (op : ScanOp) (s : State) : State :=
  let t := { s with boot := { s.boot with scan := op } }
  t.emit (.jtag 0 t.scanActs.ctorIdx)

def execBoundaryScan (op : ScanOp) (s : State) : Result := .next (boundaryScan op s)

end Sys2Proof.Machine
end

