-- ==== Sys2Proof/Machine/RegFind.lean ====
section
/-! DEFINITION. What an offset of BAR0 reaches, which common error set counts its discards, and which paths may read or write it
(R497–R504, R512–R515). -/
namespace Sys2Proof.Machine
open Sys2Proof

/-! Placement (R500, R501, R514, R515). -/

/-- What an aligned offset of BAR0 reaches: a register instance, word w of a common error set (R478), an instruction of a tiller's
program memory, a word of the management mailbox's payload, the Archive window, the retained window, half of a carrel counter
(R343), or nothing. -/
inductive Target where
  | reg (r : Reg) (i : Nat)
  | ces (set w : Nat)
  | prog (t x : Nat)
  | payload (off : Nat)
  | archive (off : Nat)
  | retained (off : Nat)
  | counter (k w : Nat) (hi : Bool)
  | unmapped
deriving DecidableEq, Repr

/-- The index of the instance at an offset from a place, through its nested levels. -/
def placeIndex : List (Nat × Nat × Nat) → Nat → Option Nat
  | [], o => if o = 0 then some 0 else none
  | (n, stride, step) :: ls, o => if o / stride < n then (placeIndex ls (o % stride)).map (· + step * (o / stride)) else none

/-- The instance of a register at a BAR0 offset. -/
def Reg.at (r : Reg) (a : Nat) : Option Nat :=
  r.places.findSome? (fun p => if p.base ≤ a then (placeIndex p.levels (a - p.base)).map (· + p.idx0) else none)

/-- The register instance at a BAR0 offset. -/
def findReg (a : Nat) : Option (Reg × Nat) := Reg.all.findSome? (fun r => (r.at a).map (fun i => (r, i)))

/-- The window offset of a region window, and its region. -/
def windowOf (a : Nat) : Option (Nat × Nat) := if 0x1000000 ≤ a && a < 0x5000000 then some (a / 2 ^ 24 - 1, a % 2 ^ 24) else none

/-- How many instances block b of a region has (R459). -/
def rgnInstances (b : Nat) : Nat := if b < 2 then 16 else if b = 2 then 2 else if b < 14 then 1 else 0

/-- The common error set and word at an offset (R478). -/
def cesAt (a : Nat) : Option (Nat × Nat) :=
  match windowOf a with
  | some (r, o) =>
    let b := (o - 0xF00000) / 0x400
    let i := o % 0x400 / 0x40
    if 0xF00000 ≤ o && i < rgnInstances b then some (rgnSet r b i, o % 0x40 / 4) else none
  | none => if 0x150000 ≤ a && a < 0x150280 then some (chipSet ((a - 0x150000) / 0x40), a % 0x40 / 4) else none

/-- The tiller and instruction index at an offset of program memory; SP8's lies whole at 0x11_0000, and its last 4 KiB also at
0xD_1000 (R501). -/
def progAt (a : Nat) : Option (Nat × Nat) :=
  match windowOf a with
  | some (r, o) => if 0xB10000 ≤ o && o < 0xB70000 then some (48 * r + (o - 0xB10000) / 0x2000, o % 0x2000 / 4) else none
  | none =>
    if 0x110000 ≤ a && a < 0x112000 then some (201, a % 0x2000 / 4)
    else if 0xC0000 ≤ a && a < 0x100000 && a / 0x1000 != 0xD0 then some (193 + (a - 0xC0000) / 0x2000, a % 0x2000 / 4)
    else none

/-- The half of a carrel's counter at an offset (R343, R515). -/
def counterAt (a : Nat) : Option (Nat × Nat × Bool) :=
  let o := a % 0x1000
  if 0x7000000 ≤ a && a < 0x8000000 && 0x800 ≤ o && o < 0x900 then
    some ((a - 0x7000000) / 0x1000, (o - 0x800) / 8, o % 8 == 4) else none

/-- What an offset reaches. -/
def target (a : Nat) : Target :=
  match findReg a with
  | some (r, i) => .reg r i
  | none => match cesAt a with
    | some (set, w) => .ces set w
    | none => match progAt a with
      | some (t, x) => .prog t x
      | none => match counterAt a with
        | some (k, w, hi) => .counter k w hi
        | none =>
          if 0xA1000 ≤ a && a < 0xA2000 then .payload (a - 0xA1000)
          else if 0x200000 ≤ a && a < 0x300000 then .archive (a - 0x200000)
          else if 0xE00000 ≤ a && a < 0x1000000 then .retained (a - 0xE00000)
          else .unmapped

/-! The set that counts the discards of an access (R497, R504). -/

/-- The set of a register instance's block: the instance's own port or Zwius link in the PRT_, LNK_ and ZWL_ blocks, the region's
in the other blocks of a region window, and the chip-scope sets elsewhere. PRT_LOCK counts with the region's first port (log
entry 38). -/
def regSet (s : State) (r : Reg) (i a : Nat) : Nat :=
  match windowOf a with
  | some (g, o) =>
    let b := o / 0x100000
    if b = 1 then
      (match r with
       | .PRT_LOCK => prtSet (16 * g)
       | .PRT_PORT_CTL => prtSet i
       | .PRT_PORT_STS => prtSet i
       | .PRT_PORT_EVT => prtSet i
       | .PRT_DN_TMR => prtSet i
       | _ => prtSet (lanePort i))
    else if b = 7 then (if o < 0x780000 then lnkSet i else zwlSet i)
    else rgnSet g ([15, 0, 3, 6, 7, 4, 5, 1, 8, 9, 10, 11, 12, 13].getD b 15)
  | none =>
    if 0x5000000 ≤ a && a < 0x7000000 then qmgSet (qidRegion i)
    else if 0x7000000 ≤ a then setCrl
    else
      let b := a / 0x10000
      if b = 8 then setTfc4 else if b = 9 then setCrl else if b = 0xA then libSet s.lead else if b = 0xB then chipSet 9
      else if b = 0xD then setSec else if b = 0x12 then setSpw else if b = 0x13 then setCrs else if b = 0x14 then setKpr
      else if b = 0x16 || b = 0x18 then setArc else if b = 0x17 then setPmc else setChip

/-- The set that counts a discarded write at an offset. -/
def State.setAt (s : State) (a : Nat) : Nat :=
  match target a with
  | .reg r i => regSet s r i a
  | .ces set _ => set
  | .prog t _ => tilSet (tillerUnit t)
  | .payload _ => libSet s.lead
  | .archive _ => setArc
  | .retained _ => setKpr
  | .counter _ _ _ => setCrl
  | .unmapped => setChip

/-- The window of an isolated region: reads give all ones and writes nothing (R469). -/
def State.addrGone (s : State) (a : Nat) : Bool :=
  match windowOf a with
  | some (g, _) => s.windowGone g
  | none => if 0x5000000 ≤ a && a < 0x7000000 then s.windowGone (qidRegion ((a - 0x5000000) / 32)) else false

/-! The paths (R497, R408, R409, R512). -/

/-- The Keeper-held ranges that I3C reaches before an image is loaded (R512). -/
def keeperHeld (a : Nat) : Bool := a < 0x1000 || (0xB0000 ≤ a && a < 0x161000) || (0xE00000 ≤ a && a < 0x1000000)

/-- The registers that I3C may write (R512). -/
def i3cListed (t : Target) : Bool :=
  match t with
  | .reg r _ => [Reg.SEC_TOKEN_D, .SEC_TOKEN_CMD, .KPR_RET_STS, .CRS_RST_CMD, .ARC_WIN_SEL, .ARC_FRZ, .ARC_CODE_CFG, .ARC_WEAR_CMD,
      .ARC_WEAR_LO, .ARC_WEAR_HI, .CHIP_CHG_SUM].contains r
  | .ces _ w => w < 4
  | _ => false

/-- The TIL_ registers, which the debug scope TILLER reaches (R408). -/
def isTilReg (t : Target) : Bool :=
  match t with
  | .reg r _ => [Reg.TIL_LOCK, .TIL_CTL, .TIL_STS, .TIL_EVT, .TIL_ARG, .TIL_FADDR, .TIL_T].contains r
  | _ => false

/-- The debug master is unlocked with a scope that reaches a target: REG, or TILLER for the TIL_ registers (R408). -/
def State.debugReaches (s : State) (t : Target) : Bool :=
  s.flag SEC_DBG_STS.UNLOCKED 0 &&
    ((s.get SEC_DBG_STS.SCOPE 0).testBit 0 || ((s.get SEC_DBG_STS.SCOPE 0).testBit 2 && isTilReg t))

/-- A page of BAR0 that one of the eight DBG_LOCK entries, when valid, of the chip entry names (R391, R409). -/
def State.dbgLocked (s : State) (a : Nat) : Bool :=
  s.boot.early && (List.range 8).any (fun k =>
    let v := s.sect 1 (3072 + 64 + 8 * k) 8
    v.testBit 15 && v % 2 ^ 15 ≤ a / 4096 && a / 4096 ≤ v / 2 ^ 16 % 2 ^ 15)

/-- A region locked to the debug master: SEC_RB_CMD and the DBG_LOCK pages, in every state but FACTORY (R409). -/
def State.debugLocked (s : State) (t : Target) (a : Nat) : Bool :=
  s.get SEC_LC_STS.STATE 0 != 0 && (t == .reg .SEC_RB_CMD 0 || s.dbgLocked a)

/-- Whether a path may read an offset. -/
def State.pathReads (s : State) (p : Path) (a : Nat) : Bool :=
  match p with
  | .debug => s.debugReaches (target a)
  | q => s.mayRead q (keeperHeld a)

/-- Whether a path may write a target (R497, R512). -/
def State.pathWrites (s : State) (p : Path) (t : Target) (a : Nat) : Bool :=
  match p with
  | .librarian core => (match t with
    | .reg .LIB_MPU_BASE n => n / 16 == core.val
    | .reg .LIB_MPU_LIMIT n => n / 16 == core.val
    | _ => true)
  | .manager => s.flag SEC_BOOT_STS.READY 0 && (match t with
    | .reg r _ => !([Reg.LIB_MPU_BASE, .LIB_MPU_LIMIT, .SEC_RB_CMD].contains r)
    | .prog _ _ => false
    | _ => true)
  | .i3c => i3cListed t && s.mayRead .i3c (keeperHeld a)
  | .debug => s.debugReaches t && (match t with
    | .reg r _ => !([Reg.LIB_MPU_BASE, .LIB_MPU_LIMIT].contains r)
    | _ => true)

end Sys2Proof.Machine
end

