-- ==== Sys2Proof/Machine/RegRead.lean ====
section
/-! DEFINITION. Reads of BAR0: plain registers, computed views, latches and windows (R240, R261, R323, R343, R465, R471, R478, R490,
R496, R503–R508). -/
namespace Sys2Proof.Machine
open Sys2Proof

/-- PATTERN_COUNT_READ: the low word of a checker's counter, with the upper bits latched for the path (R261, R507). -/
def patternLoRead (p : Path) (n : Nat) (s : State) : Word × State :=
  let v := Tab.get 0 s.prt.pat n
  (v.setWidth 32, s.latch p (fun l => { l with patHi := BitVec.ofNat 32 (bits v 32 16) }))

def execPatternCountRead (p : Path) (n : Lane) (s : State) : Result :=
  .next (s.readWith p (n / 130) false (patternLoRead p n))

/-- A word of a common error set (R478). -/
def cesWord (c : CesSet) (set w : Nat) : Word :=
  match w with
  | 0 => c.sts
  | 1 => c.mask
  | 2 => c.route
  | 3 => c.first
  | 4 => c.time
  | 5 => c.count
  | _ => if 8 ≤ w && w < 12 then sevWord set (w - 8) else 0

/-- Block b of region k, or of chip scope for k = 4, has an STS bit set in some instance. -/
def State.blockShows (s : State) (k b : Nat) : Bool :=
  if k < 4 then (List.range (rgnInstances b)).any (fun i => (s.cesSet (rgnSet k b i)).sts != 0) else (s.cesSet (chipSet b)).sts != 0

/-- CHIP_CES_SUM[k] (R465). -/
def State.cesSum (s : State) (k : Nat) : Nat :=
  if k < 4 && s.rgn k == 2 then 0
  else (List.range (if k < 4 then 14 else 10)).foldl (fun n b => if s.blockShows k b then n + 2 ^ b else n) 0

/-- QMG_WIN_STS of a valid NOTICE FIFO (R323). -/
def State.windowSts (s : State) (q : Nat) : Word :=
  let c := s.ctx q
  let avail := sub32 (cget c cProd) (cget c cRd)
  putBits (putBits (putBits (s.word .QMG_WIN_STS q) 0 21 avail) 21 1 (if avail = 0 then 1 else 0)) 24 1 (cget c cMarkLost)

/-- A read of the window of a NOTICE FIFO (R323); QMG_WIN_LOST clears as it is read. -/
def windowRead (p : Path) (r : Reg) (q : Nat) (s0 : State) : (Word × Bool) × State :=
  if !isNotice (s0.ctx q) then ((0, false), s0)
  else
    let s := s0.windowCtx q
    let c := s.ctx q
    match r with
    | .QMG_WIN_DATA_LO => windowLatch p q s0
    | .QMG_WIN_DATA_HI => windowTake p q s0
    | .QMG_WIN_STS => ((s.windowSts q, false), s.set QMG_WIN_STS.SKIPPED q 0)
    | .QMG_WIN_LOST => ((BitVec.ofNat 32 (cget c cDrops), false), s.setCtx q (cput c cDrops 0))
    | .QMG_WIN_PROD => ((BitVec.ofNat 32 (cget c cProd), false), s)
    | .QMG_WIN_CONS => ((BitVec.ofNat 32 (cget c cCons), false), s)
    | .QMG_WIN_RD => ((BitVec.ofNat 32 (cget c cRd), false), s)
    | _ => ((0, false), s)

/-- The RC fields of a register are cleared by its read (R508); a peak since the last read starts from what it is the peak of, which
it never lies below (R158, R219; DEDUCED, log entry 84). -/
def State.readClears (s : State) (r : Reg) (i : Nat) : State :=
  let s1 := r.rows.foldl (fun s row => if row.acc = .rc then s.set ⟨r, row.lo, row.w⟩ i 0 else s) s
  match r with
  | .SWC_VOQ_OCC => s1.set SWC_VOQ_OCC.PEAK i (s.get SWC_VOQ_OCC.CELLS i)
  | .CAT_LD_OCC => s1.set CAT_LD_OCC.PEAK i (s.get CAT_LD_OCC.CURRENT i)
  | _ => s1

/-- A read of a register instance by a path: its word and whether it is delivered with poison, with the read's effects. -/
def readReg (p : Path) (r : Reg) (i : Nat) (s : State) : (Word × Bool) × State :=
  let l := s.lat.of p
  let plain (w : Word) : (Word × Bool) × State := ((w, false), s)
  let latched (x : Word × State) : (Word × Bool) × State := ((x.1, false), x.2)
  match r with
  | .TFC_TIME_LO => latched (timeLoRead p s)
  | .TFC_TIME_HI => plain l.timeHi
  | .PMC_CNT_LO => latched (counterLoRead p i s)
  | .PMC_CNT_HI => plain l.pmcHi
  | .PRT_PAT_CNT_LO => latched (patternLoRead p i s)
  | .PRT_PAT_CNT_HI => plain l.patHi
  | .SEC_NONCE_LO => latched (nonceRead p s)
  | .SEC_NONCE_HI => plain l.nonceHi
  | .SEC_MEAS_D => plain (BitVec.ofNat 32 (bits (s.measurement (s.get SEC_MEAS_IDX.INDEX 0)) (32 * i) 32))
  | .TFC_POL_STS => plain (putBits (s.word .TFC_POL_STS i) 0 24 (min (s.policer i).tokens.toNat (2 ^ 24 - 1)))
  | .TFC_GATE_CUR =>
    ((putBits (s.word .TFC_GATE_CUR i) 0 6 (s.gateEntryAt i (s.timeOf (i / 16))), false), s.readClears r i)
  | .CHIP_CES_SUM => plain (putBits (s.word .CHIP_CES_SUM i) 0 14 (s.cesSum i))
  | .ARC_WIN_SEL => plain l.winSel
  | .QMG_WIN_DATA_LO => windowRead p r i s
  | .QMG_WIN_DATA_HI => windowRead p r i s
  | .QMG_WIN_STS => windowRead p r i s
  | .QMG_WIN_LOST => windowRead p r i s
  | .QMG_WIN_PROD => windowRead p r i s
  | .QMG_WIN_CONS => windowRead p r i s
  | .QMG_WIN_RD => windowRead p r i s
  | _ => ((s.word r i, false), s.readClears r i)

/-- The 8 bytes of a code's count entry, and the 16 of an extreme (R481, R486). -/
def State.countEntry (s : State) (u code : Nat) : Nat :=
  let c := Tab.get (0, 0) s.arc.counts (4096 * u + code)
  c.1 + 2 ^ 40 * c.2
def State.extremeEntry (s : State) (u e : Nat) : Nat :=
  match Tab.get none s.arc.ext (128 * u + e) with
  | none => 0
  | some (v, t) => v.toNat + 2 ^ 64 * (t % 2 ^ 64)

/-- A word of the Archive window under a selection: live counts and extremes, or HBM (R490). -/
def archiveWord (s : State) (sel : Word) (off : Nat) : Word :=
  let u := bits sel 0 2
  let page := bits sel 3 9
  if s.rgn u == 2 then 0xFFFFFFFF
  else if bits sel 2 1 = 0 && page = 0 && off < 0x8000 then
    BitVec.ofNat 32 (s.countEntry u (off / 8) / 2 ^ (8 * (off % 8)))
  else if bits sel 2 1 = 0 && page = 0 && off < 0xC000 then
    BitVec.ofNat 32 (s.extremeEntry u ((off - 0x8000) / 16) / 2 ^ (8 * (off % 16)))
  else BitVec.ofNat 32 (s.hbmRead (2 * u + bits sel 2 1) (0x580000000 + page * 2 ^ 20 + off) 4)

/-- A word of the retained SRAM window (R471): the Keeper's extremes, wear ledger and per-code counts, else what was copied or
recorded there. -/
def State.retainedWord (s : State) (off : Nat) : Word :=
  if 0x1000 ≤ off && off < 0x1800 then
    BitVec.ofNat 32 (s.extremeEntry 4 ((off - 0x1000) / 16) / 2 ^ (8 * (off % 16)))
  else if 0x3000 ≤ off && off < 0x3680 then
    BitVec.ofNat 32 (Tab.get 0 s.arc.wear (16 * ((off - 0x3000) / 128) + off / 8 % 16) / 2 ^ (8 * (off % 8)))
  else if 0x8000 ≤ off && off < 0x10000 then
    BitVec.ofNat 32 (s.countEntry 4 ((off - 0x8000) / 8) / 2 ^ (8 * (off % 8)))
  else BitVec.ofNat 32 (peekN s.ret off 4)

/-- A read of a target by a path that may make it. -/
def readTarget (p : Path) (t : Target) (s : State) : (Word × Bool) × State :=
  match t with
  | .reg r i => readReg p r i s
  | .ces set w =>
    let c := s.cesSet set
    ((cesWord c set w, false), if w = 5 then s.setCes set { c with count := 0 } else s)
  | .prog t x => ((Tab.get 0 s.lib.prog (2048 * t + x), false), s)
  | .payload off =>
    let m := (Tab.get ({} : Mailbox) s.lib.mbx 64).payload
    ((BitVec.ofNat 32 ((List.range 4).foldr (fun k n => (Tab.get (0 : Byte) m (off + k)).toNat + 256 * n) 0), false), s)
  | .archive off => ((archiveWord s (s.lat.of p).winSel off, false), s)
  | .retained off => ((s.retainedWord off, false), s)
  | .counter k w hi => ((BitVec.ofNat 32 (s.counterWord k w / 2 ^ (if hi then 32 else 0)), false), s)
  | .unmapped => ((0, false), s)

/-- A read of an offset of BAR0 by a path (R469, R497, R409, R503). -/
def regRead (p : Path) (addr : Nat) (s : State) : (Word × Bool) × State :=
  let a := addr / 4 * 4
  if s.addrGone a then ((0xFFFFFFFF, false), s)
  else if p = .debug && s.debugLocked (target a) a then ((0, false), dbgViolation s)
  else if s.pathReads p a then readTarget p (target a) s
  else ((deniedRead p, false), s)

/-- REGISTER_READ_CLEAR: a register is read by a path, and its RC fields clear (R508); before ready, one through the
manager port is refused (R382). -/
def registerReadClear (p : Path) (addr : BitVec 32) (s : State) : State :=
  let x := regRead p addr.toNat s
  if s.unheard p then s.emit (.readRefused p)
  else x.2.emit (if x.1.2 then .readPoison p x.1.1 else .readData p x.1.1)

def execRegisterReadClear (p : Path) (addr : BitVec 32) (s : State) : Result := .next (registerReadClear p addr s)

end Sys2Proof.Machine
end

