-- ==== Sys2Proof/Machine/RegFields.lean ====
section
/-! DEFINITION. A write of a register word: the range, lock and access-code rules of its fields (R19–R21, R44, R513). -/
namespace Sys2Proof.Machine
open Sys2Proof

/-! Locks (R513). -/

/-- The lock that governs the RWL fields of a register instance is set. -/
def State.lockedReg (s : State) (r : Reg) (i : Nat) : Bool :=
  match r with
  | .PRT_PORT_CTL => s.flag PRT_LOCK.LOCK (i / 16)
  | .PRT_LANE_CTL => s.flag PRT_LOCK.LOCK (i / 130)
  | .LNK_CTL => s.flag LNK_CTL.LOCK i
  | .ZWL_CTL => s.flag ZWL_CTL.LOCK i
  | .SWC_VOQ_LIM => s.flag SWC_VOQ_LOCK.LOCK (i / 128)
  | .DMV_CH_CTL => s.flag DMV_LOCK.LOCK (i / 16)
  | .SPW_CFG0 => s.flag SPW_LOCK.LOCK 0
  | .SPW_CFG1 => s.flag SPW_LOCK.LOCK 0
  | .SPW_CFG2 => s.flag SPW_LOCK.LOCK 0
  | .SPW_CAL0 => s.flag SPW_LOCK.LOCK 0
  | .SPW_CAL1 => s.flag SPW_LOCK.LOCK 0
  | .SPW_BUS_CTL => s.flag SPW_LOCK.LOCK 0
  | .SPW_SOA_AMB => s.flag SPW_SOA_AMB.LOCK i
  | .SPW_SOA => s.flag SPW_SOA_AMB.LOCK (i / 4)
  | _ => false

/-- A write that itself sets a register's lock bit finds its other fields locked (the lock race of R21 and R513). -/
def locksItself (r : Reg) (v : Word) : Bool := r.rows.any (fun row => row.acc = .lk && bit v row.lo)

/-! Ranges that depend on other state (R44). -/

/-- An EVT that a counter accepts (R491): 0, or an event of its list. -/
def evtTaken (n v : Nat) : Bool := v = 0 || (if n ≥ 2688 then 0x40 ≤ v && v ≤ 0x49 else 1 ≤ v && v ≤ 0x1D)

/-- A region would grant user access at 0x2000_0000 or above (R355). -/
def grantsHigh (base limit : Word) : Bool :=
  bit base 0 && (bit base 1 || bit base 2) && bits limit 12 20 ≥ 0x20000 && bits base 12 20 ≤ bits limit 12 20

/-- The bus levels that a write of SPW_BUS_CTL would leave: OFF_LVL must stay below WARN (R434). -/
def busLevelsGood (old v : Word) : Bool :=
  let warn := if 800 ≤ bits v 0 11 && bits v 0 11 ≤ 1400 then bits v 0 11 else bits old 0 11
  let off := if 700 ≤ bits v 11 11 && bits v 11 11 ≤ 1300 then bits v 11 11 else bits old 11 11
  off < warn

/-- A value of a field whose range is special, written in word v to instance i. -/
def State.takesSpecial (s : State) (r : Reg) (i lo nv : Nat) (v : Word) : Bool :=
  match r with
  | .TFC_GATE_CTL => s.gateBank i != (if lo = 2 then 0 else 1)
  | .TFC_GATE_DUR => 10 ≤ nv && nv ≤ 1000000000
  | .TFC_GATE_MASK => nv / 64 = 3
  | .CRL_CFG => s.get CRL_CFG.STATE i = 0
  | .CRL_TPL => s.get CRL_CFG.STATE i = 0
  | .LIB_MPU_BASE => !grantsHigh v (s.word .LIB_MPU_LIMIT i)
  | .LIB_MPU_LIMIT => !grantsHigh (s.word .LIB_MPU_BASE i) v
  | .SPW_BUS_CTL => busLevelsGood (s.word .SPW_BUS_CTL i) v &&
      (if lo = 0 then 800 ≤ nv && nv ≤ 1400 else 700 ≤ nv && nv ≤ 1300)
  | .SPW_CFG0 => if i < 28 then 50 ≤ nv && nv ≤ 1000 else 200 ≤ nv && nv ≤ 2000
  | .SPW_CFG1 =>
    if i ≥ 28 then nv = 0
    else if lo = 0 then 10 ≤ nv && nv ≤ 1000 else if lo = 10 then 5 ≤ nv && nv ≤ 5000 else 1 ≤ nv && nv ≤ 100
  | .SPW_CAL0 => (signedOf 16 nv).natAbs ≤ (if lo = 0 then 2000 else 20000)
  | .PMC_CFG => if lo = 0 then evtTaken i nv else nv = 0 || !lastOfGroup i
  | _ => true

/-- A field accepts a value (R44). -/
def State.takes (s : State) (r : Reg) (i : Nat) (row : FieldRow) (nv : Nat) (v : Word) : Bool :=
  match row.rng with
  | .any => true
  | .within lo hi => lo ≤ nv && nv ≤ hi
  | .among vs => vs.contains nv
  | .special => s.takesSpecial r i row.lo nv v

/-- The access code of a field of an instance: EVT of a fixed port counter is read-only (R491, R496). -/
def accOf (r : Reg) (i : Nat) (row : FieldRow) : Acc :=
  if r = .PMC_CFG && row.lo = 0 && i < 2688 && i % 672 < 512 && i % 32 < 26 then .ro else row.acc

/-- What a write leaves in one field, and whether it is a discarded write that counts (R19–R21, R44). The spec does not say which RSV
fields are live test controls, nor what one does: every value written to an RSV field is stored and does nothing further (R20; DESIGN
CHOICE, log entry 98). -/
def State.fieldWrite (s : State) (r : Reg) (i : Nat) (locked : Bool) (v : Word) (row : FieldRow) : Nat × Bool :=
  let o := bits (s.word r i) row.lo row.w
  let n := bits v row.lo row.w
  let ok := n == o || s.takes r i row n v
  match accOf r i row with
  | .rw => if ok then (n, false) else (o, true)
  | .rwl => if locked then (o, n != o) else if ok then (n, false) else (o, true)
  | .rsv => (n, false)
  | .w1c => (o - (o &&& n), false)
  | .w1s => (o ||| n, false)
  | .lk => (o ||| n, false)
  | .ro => (o, false)
  | .wo => (o, false)
  | .rc => (o, false)

/-- Every field of a register instance takes its part of a written word; one access counts at most one discard. -/
def State.storeFields (s : State) (r : Reg) (i : Nat) (v : Word) (set : Nat) : State :=
  let locked := s.lockedReg r i || locksItself r v
  let x := r.rows.foldl (fun (x : Word × Bool) row =>
    let f := s.fieldWrite r i locked v row
    (putBits x.1 row.lo row.w f.1, x.2 || f.2)) (s.word r i, false)
  let s1 := s.setWord r i x.1
  if x.2 then s1.discard set else s1

end Sys2Proof.Machine
end

