-- ==== Sys2Proof/Machine/RegWrite.lean ====
section
/-! DEFINITION. Writes of BAR0: the fields of the register, and the command or the change that its bits start (R497–R505, R513). -/
namespace Sys2Proof.Machine
open Sys2Proof

/-- An index as a region, and as the other bounded numbers of the commands. -/
def ixRegion (i : Nat) : Region := Fin.ofNat 4 i

/-- A discarded start counts in a set once with what the same access discards in other fields (R21, R546): s is the state before
the access, st with the other fields stored. -/
def startDiscarded (set : Nat) (s st : State) : State := if st.cesSet set = s.cesSet set then st.discard set else st

/-- A command bit in a register whose other fields are stored in st: not written, discarded while BUSY (R546), or performed. -/
def goes (go busy : Bool) (set : Nat) (s st : State) (f : State → State) : State :=
  if go then (if busy then startDiscarded set s st else f st) else st

/-- A command bit written 1 acts once. -/
def acts (on : Bool) (f : State → State) (s : State) : State := if on then f s else s

/-! Common error sets (R459–R463). -/

/-- A MASK word is written: each bit cleared while its STS bit is 1 is an interrupt event, toward the manager and the BMC and to the
block's core (R463, R464). -/
def cesMask (set : Nat) (v : Word) (s : State) : State :=
  let c := s.cesSet set
  let s1 := s.setCes set { c with mask := v }
  let core := if setUnit set < 4 then setUnit set else s.lead
  ((List.range 32).filter (fun e => bit c.mask e && !bit v e && bit c.sts e)).foldl (fun s e =>
    (s.interrupt set).emit (.coreIrq core set e)) s1

/-- A set that exists (R459). -/
def setExists (set : Nat) : Bool :=
  if set < 1024 then set % 16 < rgnInstances (setBlock set) else set % 16 = 0 && set < chipSet 10

/-- CES_MASK_WRITE (R463). -/
def cesMaskWrite (p : Path) (set : Nat) (mask : Word) (s : State) : State :=
  if setExists set then s.commandListed p (setUnit set == 4) set (cesMask set mask) else s
def execCesMaskWrite (p : Path) (set : Nat) (mask : Word) (s : State) : Result := .next (cesMaskWrite p set mask s)

/-- A write of word w of a set (Table: Common error set field maps). -/
def writeCes (set w : Nat) (v : Word) (s : State) : State :=
  let c := s.cesSet set
  match w with
  | 0 => s.setCes set { c with sts := c.sts &&& ~~~ v }
  | 1 => cesMask set v s
  | 2 => s.setCes set { c with route := v }
  | 3 => if bit v 31 then s.setCes set { c with first := 0, time := 0 } else s
  | _ => if w < 6 || (8 ≤ w && w < 12) then s else s.discard setChip

/-! Registers whose bits start something. -/

/-- The BND_ commands (R89). DESIGN CHOICE: where the KZ64 refuses OP 3 of BND_RSH_CTL, and the spec names no code, the model stores
the field and counts a GO with it as a write discard (log entry 71). -/
def writeBnd (p : Path) (r : Reg) (i : Nat) (v : Word) (set : Nat) (s st : State) : State :=
  let g := ixRegion i
  match r with
  | .BND_SREC_CMD =>
    let x := BitVec.ofNat 20 (bits v 0 20)
    goes (bit v 24) (s.flag BND_SREC_CMD.BUSY i) set s st (if bit v 20 then srecWrite p g x else srecRead p g x)
  | .BND_GRP_CMD =>
    let x := BitVec.ofNat 12 (bits v 0 12)
    goes (bit v 24) (s.flag BND_GRP_CMD.BUSY i) set s st (if bit v 12 then grpWrite p g x else grpRead p g x)
  | .BND_RULE_CMD =>
    let x := BitVec.ofNat 12 (bits v 0 12)
    goes (bit v 24) (s.flag BND_RULE_CMD.BUSY i) set s st (match bits v 12 2 with
      | 0 => ruleRead p g x
      | 1 => ruleWrite p g x
      | 2 => ruleClear p g x
      | _ => fun s => s.set BND_RULE_CMD.RESULT i 2)
  | .BND_BAR_CMD =>
    let x := BitVec.ofNat 20 (bits v 0 20)
    acts (bit v 24) (if bit v 21 then ruleBarrierStart p g (bit v 20) x else bindingBarrierStart p g (bit v 20) x) st
  | .BND_FAULT_INFO => acts (bit v 31) (fun s => s.set BND_FAULT_INFO.COUNT i 0) st
  | .BND_RSH_CTL =>
    let k : Fin 16 := Fin.ofNat 16 i
    let g := ixRegion (i / 16)
    acts (bit v 27) (match bits v 25 2 with
      | 0 => reshelveAbort p g k
      | 1 => reshelveStart p g k (BitVec.ofNat 20 (bits v 0 20)) (BitVec.ofNat 5 (st.get BND_RSH_CTL.THRESH i))
      | 2 => reshelveSwitch p g k
      | _ => fun s => s.discard set) st
  | _ => st

/-- The CAT_, GRN_ and SWC_ commands (R126, R158, R174, R219). -/
def writeHome (p : Path) (r : Reg) (i : Nat) (v : Word) (set : Nat) (s st : State) : State :=
  let g := ixRegion i
  match r with
  | .CAT_ENT_CMD => goes (bit v 0) (s.flag CAT_ENT_CMD.BUSY i) set s st (catEntryLookup p g)
  | .CAT_RCL_CMD => goes (bit v 16) (s.flag CAT_RCL_STS.BUSY i) set s st (reclaimStart p g)
  | .CAT_PLG_CMD => goes (bit v 20) (s.flag CAT_PLG_CMD.BUSY i) set s st (poisonLedgerRead p g (BitVec.ofNat 20 (bits v 0 20)))
  | .GRN_FLUSH_CMD => goes (bit v 22) (s.flag GRN_FLUSH_CMD.BUSY i) set s st
      (if bits v 20 2 = 3 then fun s => s.set GRN_FLUSH_CMD.RESULT i 2 else flushStart p i (bits v 20 2) (bits v 0 20))
  | .SWC_SPN_CTL =>
    (List.range 4).foldl (fun t d =>
      if bit v d && !bit (s.word .SWC_SPN_CTL i) d then forceSprayEntry p g (ixRegion d) t
      else if !bit v d && bit (s.word .SWC_SPN_CTL i) d then forceSprayExit p g (ixRegion d) (t.setBits SWC_SPN_CTL.FORCE_SPRAY i (2 ^ d))
      else t) st
  | .SWC_RT_CMD =>
    let e := BitVec.ofNat 11 (bits v 0 11)
    goes (bit v 13) (s.flag SWC_RT_CMD.BUSY i) set s st (match bits v 11 2 with
      | 0 => rtRead p g ⟨e, false⟩
      | 1 => rtWrite p g e
      | 2 => rtClear p g e
      | _ => fun s => s.set SWC_RT_CMD.RESULT i 2)
  | .SWC_RT_BAR => goes (bit v 0) (s.flag SWC_RT_BAR.BUSY i) set s st (rtBarrierStart p g)
  | .SWC_GLN_CTL => if bit v 18 then st else st.sw fun w => { w with glnCnt := Tab.put 0 w.glnCnt i 0 }
  | _ => st

/-- The TFC_, PRT_ and QMG_ registers (R228–R237, R257–R261, R304–R318). -/
def writePath (p : Path) (r : Reg) (i : Nat) (v : Word) (set : Nat) (s st : State) : State :=
  match r with
  | .TFC_TIME_CTL =>
    let was := s.get TFC_TIME_CTL.SRC 0
    let now := st.get TFC_TIME_CTL.SRC 0
    let other := now = 2 && st.get TFC_TIME_CTL.ZL_PORT 0 != s.get TFC_TIME_CTL.ZL_PORT 0
    let s1 := if now != was then st.set TFC_TIME_STS.LOCKED 0 0 else st
    if now != was || other then { s1 with tfc := { s1.tfc with first := false } } else s1
  | .TFC_GATE_CTL => acts (bit v 14) (gateGo p (Fin.ofNat 64 i)) st
  | .PRT_PORT_CTL =>
    let q : Port := Fin.ofNat 64 i
    let s0 := (st.set PRT_PORT_CTL.DISABLE i (s.get PRT_PORT_CTL.DISABLE i)).set PRT_PORT_CTL.TEST i (s.get PRT_PORT_CTL.TEST i)
    let s1 := acts (bit v 6 != s.flag PRT_PORT_CTL.DISABLE i) (disable p q (bit v 6)) s0
    let s2 := acts (bit v 8 != s.flag PRT_PORT_CTL.TEST i) (test p q (bit v 8)) s1
    acts (bit v 7) (retrain p q) s2
  | .PRT_PAT_CTL =>
    let n : Lane := Fin.ofNat 520 i
    if laneUnderTest s i then
      let s1 := if bit v 4 && !s.flag PRT_PAT_CTL.CHK_EN i then checkerEnable p n st else st
      acts (bit v 6) (injBurst p n) (acts (bit v 5) (injOne p n) s1)
    else
      let s1 := (st.set PRT_PAT_CTL.GEN_EN i (s.get PRT_PAT_CTL.GEN_EN i)).set PRT_PAT_CTL.CHK_EN i (s.get PRT_PAT_CTL.CHK_EN i)
      let s2 := if bit v 3 != s.flag PRT_PAT_CTL.GEN_EN i || bit v 4 != s.flag PRT_PAT_CTL.CHK_EN i then s1.discard set else s1
      acts (bit v 6) (injBurst p n) (acts (bit v 5) (injOne p n) s2)
  | .QMG_CTX_CMD =>
    goes (bit v 24) (s.flag QMG_CTX_CMD.BUSY i) set s st (ctxCommand p i (bits v 0 20) (bits v 20 2))
  | .QMG_DB_HI =>
    doorbell (.librarian (ixRegion i) (BitVec.ofNat 20 (bits v 0 20)))
      { size := 8, extra := false, index := st.word .QMG_DB_LO i, arm := bit v 21 } (bit v 20) st
  | .QMG_ERR_CAP => acts (bit v 31) (fun s => s.set QMG_ERR_CAP.COUNT i 0) st
  | .QMG_WIN_OP =>
    let q := BitVec.ofNat 20 i
    (match bits v 0 2 with
     | 0 => noticeMark p q st
     | 1 => noticeRewind p q st
     | 2 => noticeRelease p q (BitVec.ofNat 20 (bits v 2 20)) st
     | _ => noticeSkip p q st)
  | _ => st

/-- Carrel commands with GO (R344): OP 0 and 7 are refused with BAD_FIELD. A RESTORE from a host asks for the record; CRL_RESTORE
performs it with the bytes that return (log entry 39). -/
def carrelGo (p : Path) (v : Word) (st : State) : State :=
  let k := BitVec.ofNat 12 (bits v 0 12)
  match bits v 12 3 with
  | 1 => crlCreate p k st
  | 2 => crlFreeze p k st
  | 3 => crlThaw p k st
  | 4 => crlSave p k (bit v 15) st
  | 5 => if bit v 15 then crlRestoreRead p k st else crlRestore p k .hbm st
  | 6 => crlDestroy p k st
  | _ => st.set CRL_CMD.RESULT 0 1

/-- The DMV_, CRL_, LIB_ and TIL_ registers (R326–R344, R357, R370, R377). -/
def writeWork (p : Path) (r : Reg) (i : Nat) (v : Word) (set : Nat) (s st : State) : State :=
  match r with
  | .DMV_CH_CTL => st.showChan i
  | .DMV_CH_CMD => goes (bit v 0) (s.flag DMV_CH_CMD.BUSY i) set s st (dmvAbort p (Fin.ofNat 64 i))
  | .CRL_CMD => goes (bit v 16) (s.flag CRL_CMD.BUSY 0) set s st (carrelGo p v)
  | .LIB_MPU_BAR => goes (bit v 0) (s.flag LIB_MPU_BAR.BUSY i) set s st (mpuBarrier p (ixRegion i))
  | .LIB_MBX_CTL => if bit v 0 && !s.mbxRings 64 then st.mbxStart 64 none else st
  | .TIL_CTL =>
    acts (bit v 13) (postCmd p i) (acts (bit v 12) (tillerStop p i) (acts (bit v 11) (tillerRun p i) st))
  | _ => st

/-- A token is submitted by the KIND that it carries (R406). -/
def tokenGo (s : State) : State :=
  match s.tokenNum 4 1 with
  | 1 => lcOwn s
  | 2 => lcReturn s
  | 3 => lcScrap s
  | 4 => dbgUnlock s
  | k => submit k (fun t => t) s

/-- The SEC_, SPW_, CRS_, ARC_ and PMC_ registers (R402, R406, R420, R451, R482–R496). -/
def writeKeeper (p : Path) (r : Reg) (i : Nat) (v : Word) (set : Nat) (s st : State) : State :=
  match r with
  | .SEC_RB_CMD => acts (bit v 0) (rbAdmit p rollbackCommit) st
  | .SEC_TOKEN_CMD => acts (bit v 0) tokenGo st
  | .SPW_CMD =>
    let c : Slot := Fin.ofNat 32 i
    acts (bit v 2) (slotClear c) (acts (bit v 1) (slotOff c) (acts (bit v 0) (slotStart c) st))
  | .CRS_RST_CMD => acts (bit v 16) (warmResetCmd (BitVec.ofNat 16 (bits v 0 16))) st
  | .ARC_CTL => acts (bit v 1) (extremesClear i) st
  | .ARC_FRZ =>
    if bit v 14 && bit v 15 then s.discard set
    else acts (bit v 15) (arcUnfreeze i) (acts (bit v 14) (arcFreeze i) st)
  | .ARC_REC => acts (bit v 25) (recordAreaRelease i) st
  | .ARC_HIST => acts (bit v 19 && i < 4) (histAreaRelease i) st
  | .ARC_WEAR_CMD => acts (bit v 9) wearSeal (acts (bit v 8) wearLoad st)
  | .PMC_CFG => acts (bit v 19) (counterClear i) st
  | .PMC_SNAP_CTL => acts (bit v 21) capture st
  | _ => st

/-- The block whose writes start what a register's bits start. -/
def writeEffect (p : Path) (r : Reg) (i : Nat) (v : Word) (set : Nat) (s st : State) : State :=
  writeKeeper p r i v set s (writeWork p r i v set s (writePath p r i v set s (writeHome p r i v set s (writeBnd p r i v set s st))))

/-- A write of a register instance by a path that may make it. Some registers take their word whole. -/
def writeReg (p : Path) (r : Reg) (i : Nat) (v : Word) (set : Nat) (s : State) : State :=
  match r with
  | .TFC_POL_CFG => policerCfgWrite p (Fin.ofNat 8192 i) v s
  | .TFC_POL_ATT => (policerAttach p (Fin.ofNat 8192 i) v s).set ⟨.TFC_POL_ATT, 23, 9⟩ i (bits v 23 9)
  | .TFC_SHP_CFG => s.settleShapers.storeFields r i v set
  | .CRS_SUP_CTL => s.settleShapers.storeFields r i v set
  | .TFC_GATE_DUR => if s.gateHeld i then s.discard set else s.storeFields r i v set
  | .TFC_GATE_MASK => if s.gateHeld i then s.discard set else s.storeFields r i v set
  | .DMV_CH_RING => ringTableWrite p (Fin.ofNat 4096 i) v s
  | .CRL_SLOT => carrelSlotWrite p (BitVec.ofNat 12 (i / 64)) (Fin.ofNat 64 i) v s
  | .CRL_CHAN_LO => carrelShareWrite p (BitVec.ofNat 12 i) false v s
  | .CRL_CHAN_HI => carrelShareWrite p (BitVec.ofNat 12 i) true v s
  | .LIB_MPU_BASE => if (v != s.word r i) && grantsHigh v (s.word .LIB_MPU_LIMIT i) then s.discard set else s.storeFields r i v set
  | .LIB_MPU_LIMIT => if (v != s.word r i) && grantsHigh (s.word .LIB_MPU_BASE i) v then s.discard set else s.storeFields r i v set
  | .LIB_MBX_CMD => if s.mbxRings 64 then s.discard set else s.storeFields r i v set
  | .ARC_WIN_SEL => s.latch p (fun l => { l with winSel := v })
  | _ => writeEffect p r i v set s (s.storeFields r i v set)

/-- A register of a NOTICE FIFO's read window, for a QID that is no valid NOTICE FIFO: writes are discarded and counted (R323). -/
def State.noWindow (s : State) (r : Reg) (i : Nat) : Bool :=
  [Reg.QMG_WIN_DATA_LO, .QMG_WIN_DATA_HI, .QMG_WIN_STS, .QMG_WIN_OP, .QMG_WIN_LOST, .QMG_WIN_PROD, .QMG_WIN_CONS, .QMG_WIN_RD].contains r &&
    !isNotice (s.ctx i)

/-- A write of a target by a path that may make it. The Archive window counts it (R490); the retained window and the counter pages
are read only. -/
def writeTarget (p : Path) (t : Target) (a : Nat) (v : Word) (s : State) : State :=
  match t with
  | .reg r i => if s.noWindow r i then s.discard (regSet s r i a) else writeReg p r i v (regSet s r i a) s
  | .ces set w => writeCes set w v s
  | .prog t x =>
    let k := 2048 * t + x
    if s.flag TIL_LOCK.LOCK (tillerUnit t) then (if Tab.get 0 s.lib.prog k = v then s else s.discard (tilSet (tillerUnit t)))
    else { s with lib := { s.lib with prog := Tab.put 0 s.lib.prog k v } }
  | .payload off =>
    if s.mbxRings 64 then s.discard (libSet s.lead)
    else
      let m := s.mailbox 64
      let bytes := (List.range 4).map (fun k => BitVec.ofNat 8 (bits v (8 * k) 8))
      let held := bytes.zipIdx.foldl (fun t e => Tab.put 0 t (off + e.2) e.1) m.payload
      s.setMailbox 64 { m with payload := held }
  | .archive _ => s.discard setArc
  | .retained _ => s
  | .counter _ _ _ => s
  | .unmapped => s.discard setChip

/-- A write of an aligned offset of BAR0 by a path (R469, R497, R409, R512). -/
def regWrite (p : Path) (a : Nat) (v : Word) (s : State) : State :=
  if s.addrGone a then s
  else if p = .debug && s.debugLocked (target a) a then (dbgViolation s).discard (s.setAt a)
  else if s.pathWrites p (target a) a then writeTarget p (target a) a v s
  else if p = .i3c && !s.mayRead .i3c (keeperHeld a) then s
  else s.discard (s.setAt a)

/-- REGISTER_WRITE: 4 aligned bytes reach one register, 8 aligned bytes two, the lower first; any other write is discarded and
counted (R503), and before ready so is every write through the manager port, uncounted (R382). -/
def registerWrite (p : Path) (addr : BitVec 32) (data : BitVec 64) (size : Nat) (s : State) : State :=
  let a := addr.toNat
  if s.unheard p then s
  else if size = 4 && a % 4 = 0 then regWrite p a (data.setWidth 32) s
  else if size = 8 && a % 8 = 0 then
    regWrite p (a + 4) (BitVec.ofNat 32 (bits data 32 32)) (regWrite p a (data.setWidth 32) s)
  else if s.addrGone (a / 4 * 4) then s
  else s.discard (s.setAt (a / 4 * 4))

def execRegisterWrite (p : Path) (addr : BitVec 32) (data : BitVec 64) (size : Nat) (s : State) : Result :=
  .next (registerWrite p addr data size s)

end Sys2Proof.Machine
end

