-- ==== Sys2Proof/Machine/I3c.lean ====
section
/-! DEFINITION. The I3C target's register path and in-band interrupts (R374, R375, R510–R512), and the debug master's accesses
(R408, R409). -/
namespace Sys2Proof.Machine
open Sys2Proof

/-! The I3C target. -/

/-- The target responds: not from an orderly power-down to the next start (R448, R512). -/
def State.i3cResponds (s : State) : Bool := s.boot.down == 0 && s.boot.resume == 0

/-- A private transfer to the target's dynamic address. -/
def State.i3cHears (s : State) : Bool := s.i3cResponds && s.i3c.dynAddr.isSome

/-- A command's result is held for the next private read, in place of one not read (R511). -/
def State.i3cHold (s : State) (data : Word) (status : Nat) : State := { s with i3c := { s.i3c with reply := some (data, status) } }

/-- The same with data that the spec leaves open (log entry 4). -/
def State.i3cOpen (s : State) (status : Nat) : State :=
  { s with free := s.free + 1 }.i3cHold (BitVec.ofNat 32 (Config.freeValue s.free)) status

/-- A register command is counted and performed (R491, R510). -/
def i3cCommand (s : State) (f : State → State) : State := if s.i3cHears then f (s.countChip 0x48 0xFF 1) else s

/-- An address that a register command can name: a multiple of 4 in BAR0 (R510). -/
def i3cAddress (a : Nat) : Bool := a % 4 == 0 && a < 0x8000000

/-- The part is SCRAPPED: every register command returns DENIED (R512). -/
def State.isScrapped (s : State) : Bool := s.get SEC_LC_STS.STATE 0 == 3

/-- I3C_REG_READ (R510, R512). -/
def i3cRegRead (addr : BitVec 32) (s : State) : State :=
  i3cCommand s fun s =>
    let a := addr.toNat
    if s.isScrapped then s.i3cOpen 1
    else if !i3cAddress a then s.i3cOpen 2
    else if !s.mayRead .i3c (keeperHeld a) then s.i3cHold 0xFFFFFFFF 3
    else
      let x := regRead .i3c a s
      x.2.i3cHold x.1.1 0
def execI3cRegRead (addr : BitVec 32) (s : State) : Result := .next (i3cRegRead addr s)

/-- I3C_REG_WRITE (R510, R512): the reply's data bytes are 0. -/
def i3cRegWrite (addr : BitVec 32) (data : Word) (s : State) : State :=
  i3cCommand s fun s =>
    let a := addr.toNat
    if s.isScrapped then s.i3cHold 0 1
    else if !i3cAddress a then s.i3cHold 0 2
    else if !s.mayRead .i3c (keeperHeld a) then s.i3cHold 0 3
    else (regWrite .i3c a data s).i3cHold 0 (if i3cListed (target a) then 0 else 1)
def execI3cRegWrite (addr : BitVec 32) (data : Word) (s : State) : Result := .next (i3cRegWrite addr data s)

/-- I3C_REPLY_READ: a reply is read once; with none held the status is NO_CMD. Within 10 µs of the command the target may still
answer with a NACK (R511; log entry 4). -/
def i3cReplyRead (s : State) : State :=
  if !s.i3cHears then s.emit .i3cNack
  else
    let f := Config.freeValue s.free
    let s1 := { s with free := s.free + 1 }
    match s.i3c.reply with
    | none => s1.emit (.i3cReply (BitVec.ofNat 32 f) 4)
    | some (d, st) =>
      if f % 2 = 1 then s1.emit .i3cNack
      else { s1 with i3c := { s1.i3c with reply := none } }.emit (.i3cReply d st)
def execI3cReplyRead (s : State) : Result := .next (i3cReplyRead s)

/-- What the BMC sets in the target with common commands (R374, R375). -/
def i3cSet (s : State) (f : I3cState → I3cState) : State := if s.i3cResponds then { s with i3c := f s.i3c } else s

def execI3cEnec (s : State) : Result := .next (i3cSet s fun i => { i with enabled := true })
def execI3cDisec (s : State) : Result := .next (i3cSet s fun i => { i with enabled := false })
def execI3cDaa (addr : BitVec 7) (s : State) : Result := .next (i3cSet s fun i => { i with dynAddr := some addr })

/-- IBI_SEND: one interrupt for the pending kind of the lowest data byte (R375). -/
def ibiSend (s : State) : State :=
  if s.i3cHears && s.i3c.enabled then
    match [0, 1, 2].find? (fun k => s.i3c.pend.getLsbD k) with
    | some k => { s with i3c := { s.i3c with pend := s.i3c.pend &&& ~~~ BitVec.ofNat 3 (2 ^ k) } }.emit (.ibi (k + 1))
    | none => s
  else s
def execIbiSend (s : State) : Result := .next (ibiSend s)

/-! The debug master (R408, R409). -/

/-- The debug master is unlocked with a scope bit. -/
def State.debugScope (s : State) (b : Nat) : Bool := s.flag SEC_DBG_STS.UNLOCKED 0 && (s.get SEC_DBG_STS.SCOPE 0).testBit b

/-- What an access answers through JTAG whose data the spec does not give (log entry 4), and a refused one, which reads zeros. -/
def State.jtagOpen (s : State) (kind : Nat) : State := { s with free := s.free + 1 }.emit (.jtag kind (Config.freeValue s.free))
def State.jtagNone (s : State) (kind : Nat) : State := s.emit (.jtag kind 0)

/-- DEBUG_ACCESS. -/
def debugAccess (op : DebugOp) (s : State) : State :=
  let factory := s.get SEC_LC_STS.STATE 0 = 0
  match op with
  | .regRead a => registerReadClear .debug a s
  | .regWrite a v => registerWrite .debug a (v.setWidth 64) 4 s
  | .core _ a =>
    if 0x20000000 ≤ a.toNat && a.toNat < 0x20200000 && !factory then (dbgViolation s).jtagNone 1
    else if s.debugScope 1 then s.jtagOpen 1 else s.jtagNone 1
  | .scan => if s.debugScope 3 then s.jtagOpen 2 else s.jtagNone 2
  | .hbmRaw n a =>
    if s.debugScope 4 && a + 4 ≤ 2 ^ 35 && !s.windowGone (n / 2) then s.emit (.jtag 3 (s.hbmRead n a 4)) else s.jtagNone 3
  | .secretStore => if factory then s.jtagOpen 4 else (dbgViolation s).jtagNone 4
def execDebugAccess (op : DebugOp) (s : State) : Result := .next (debugAccess op s)

end Sys2Proof.Machine
end

