-- ==== Sys2Proof/Machine/Isolation.lean ====
section
/-! DEFINITION. What isolating a region does, self-resets of blocks, the retained copies, the FAULT pins, and the end of an
instance's merge window (chapter Faults and Containment). -/
namespace Sys2Proof.Machine
open Sys2Proof

/-! Isolation (R468, R470). -/

/-- The region's ports reach electrical idle with DN_PERST_N low: their agents die, their pool shelves enter the hold, and their
Zwius links fail over (R127, R148, R153, R156). -/
def State.portsLost (s : State) (r : Nat) : State :=
  let ps := ((List.range 16).map (fun i => 16 * r + i)).filter (fun p => s.role p != 0)
  (ps.foldl (fun s p => (((s.linkDown p 0).lossOf p).linkCleared p 0).emptyInput p) s).portsIdle ps

/-- The requests that the region's Loan desk held of agents elsewhere are answered by their ingress regions (R468). -/
def State.deskLost (s : State) (r : Nat) : State :=
  let open_ := s.stamped r ++ ((s.cat.voq ++ s.cat.ddpWait).filter (fun (e : Nat × Request) => e.1 == r)).map (fun e => e.2)
    ++ ((s.bnd.rsh.filter (fun e => e.1 / 16 == r)).flatMap (fun e => e.2.held))
  let there := open_.filter (fun q => (s.checkedAs q.a).toNat / 4 % 64 / 16 != r)
  let s1 := s.inCat fun c =>
    { c with trk := c.trk.filter (fun e => e.1 / 8192 != r), voq := c.voq.filter (fun e => e.1 != r)
             retry := c.retry.filter (fun e => e.1 != r), ddpWait := c.ddpWait.filter (fun e => e.1 != r)
             ddp := c.ddp.filter (fun e => e.region != r), fills := c.fills.filter (fun e => e.1 / 2 ^ 26 != r)
             walk := Tab.put {} c.walk r {} }
  let s2 := { s1 with bnd := { s1.bnd with rsh := s1.bnd.rsh.filter (fun e => e.1 / 16 != r)
                                           bar := s1.bnd.bar.filter (fun e => e.1 / 16 != r) } }
  let s3 := (s.lib.svcBar.filter (fun e => e.2.1 == r)).foldl (fun s e => s.svcBarEnds r e.2.2 6) s2
  there.foldl (fun s q => s.answerLost q) s3

/-- Descriptors on the region's channels end without records, and the lead core freezes each carrel whose share holds one. -/
def State.carrelsLost (s : State) (r : Nat) : State :=
  let s1 := (List.range 16).foldl (fun s i => s.dropActive (16 * r + i)) s
  (s1.liveCarrels.filter (fun k => (s1.shareOf k).any (fun c => c / 16 == r))).foldl (fun s k => s.carrelContained k) s1

/-- Fabric time taken through a port of the region is lost (R233). -/
def State.timeLost (s : State) (r : Nat) : State :=
  let there := match s.get TFC_TIME_CTL.SRC 0 with
    | 1 => s.managerPort.any (fun p => p / 16 == r)
    | 2 => s.get TFC_TIME_CTL.ZL_PORT 0 / 16 == r && s.otherTimeLink.isNone
    | _ => false
  if there then holdoverEntry s else s

/-- FORCED_RELEASE: every extent that holds a shelf homed in the region has been taken from its host's DCD, which its host and the fabric
manager are told (R470). -/
def State.forcedReleases (s : State) (r : Nat) : State :=
  (List.range 64).foldl (fun s h =>
    if s.role h == 1 then
      ((s.shelfRuns h).filter (fun e => runMeets e (· == r) && !runMeets e (fun q => q != r && s.windowGone q))).foldl
        (fun s e => (s.emit (.dcdEvent h 2 e.1 e.2.1)).emit (.dcdEvent (64 + h) 2 e.1 e.2.1)) s
    else s) s

/-- REGION_ISOLATED: the region that is ISOLATING is ISOLATED, with the effects of Table: Effects of isolating a region. -/
def regionIsolated (r : Region) (s : State) : State :=
  if s.rgn r != 1 then s
  else
    let s1 := (s.portsLost r).setRgn r 2
    let s2 := (s1.set CHIP_RGN_CAUSE.VALID r 1).set CHIP_RGN_CAUSE.TIME_MS r (s1.timeOf 4 / 1000000)
    let s3 := regionCovered (s2.set LIB_CORE_STS.STATE r 3) r
    ((((s3.deskLost r).carrelsLost r).timeLost r).forcedReleases r)
def execRegionIsolated (r : Region) (s : State) : Result := .next (regionIsolated r s)

/-! Self-resets of blocks (R41, R447, R466, R467). -/

/-- BLK_WAIT_TMO: the expiry is recorded, and the block resets itself (R41, R466, R467). An MPU barrier that waits in the block
ends with it (R45); the spec states no code for such an end, so DONE is set as at every end of the barrier (DESIGN CHOICE, log entry 72). -/
def blkWaitTmo (set : Nat) (s : State) : State :=
  if setExists set && !s.windowGone (setUnit set) then
    let s1 := s.record (blockOcc set 30)
    if setUnit set < 4 && set == libSet (setUnit set) && s1.flag LIB_MPU_BAR.BUSY (setUnit set) then
      (s1.set LIB_MPU_BAR.BUSY (setUnit set) 0).set LIB_MPU_BAR.DONE (setUnit set) 1
    else s1
  else s
def execBlkWaitTmo (set : Nat) (s : State) : Result := .next (blkWaitTmo set s)

/-- SELF_RESET_TMO: REGION_FATAL or CHIP_FATAL (R41, R466). -/
def selfResetTmo (set : Nat) (s : State) : State :=
  if s.flt.resetting.contains set && !s.windowGone (setUnit set) then s.record (blockOcc set 31) else s
def execSelfResetTmo (set : Nat) (s : State) : Result := .next (selfResetTmo set s)

/-- The cells of a region's switch core are gone: VOQs, overflow areas, merge stages, windows, and what is on its way out of the
region. Sequence numbers go on. -/
def State.switchCleared (s : State) (r : Nat) : State :=
  let s1 := (List.range 16).foldl (fun s i => s.emptyInput (16 * r + i)) s
  (List.range 16).foldl (fun s i => s.set SWC_RSQ_STS.WINDOW (16 * r + i) 0) (s1.sw fun w =>
    { w with merge := w.merge.filter (fun e => e.1 / 128 != r), window := w.window.filter (fun e => e.1 / 16 != r)
             cross := w.cross.filter (fun c => sourceRegion c.source != r)
             spine := w.spine.filter (fun e => e.1 / 4 != r), resend := w.resend.filter (fun e => e.1 / 4 != r)
             replay := w.replay.filter (fun e => e.1 / 8 != r) })

/-- A block's cell state and buffers are cleared; its register fields keep their values (R447). The blocks that hold cells are the
switch core and the link layers. -/
def State.blockCleared (s : State) (set : Nat) : State :=
  let r := set / 256
  let i := set % 16
  if r < 4 then
    match setBlock set with
    | 1 =>
      let l : LnkState := Tab.get {} s.ll.lnk (16 * r + i)
      { s with ll := { s.ll with lnk := Tab.put {} s.ll.lnk (16 * r + i) { l with held := [], replay := [] } } }
    | 2 => s.setZwl (2 * r + i) { s.zwl (2 * r + i) with held := [], replay := [] }
    | 4 => s.switchCleared r
    | _ => s
  else s

/-- BLOCK_RESET_DONE: the self-reset has cleared the block's cell state and buffers (R41, R447). -/
def blockResetDone (set : Nat) (s : State) : State :=
  if s.flt.resetting.contains set then
    let s1 := if s.windowGone (setUnit set) then s else s.blockCleared set
    { s1 with flt := { s1.flt with resetting := s1.flt.resetting.filter (fun x => x != set) } }
  else s
def execBlockResetDone (set : Nat) (s : State) : Result := .next (blockResetDone set s)

/-! The retained copies (R471). -/

/-- Where an area begins in the retained SRAM, and how many bytes a copy into it may hold. -/
def areaAt (a : Nat) : Nat := if a < 4 then 0x40000 + 0x70000 * a else 0
def areaSize (a : Nat) : Nat := if a < 4 then 0x70000 else 0x380

/-- The header of an area (Table: Retained area header). -/
def retHeader (e : RetPend) (copied : Nat) : List Byte :=
  leBytes 4 0x54455243 ++ leBytes 1 e.trigger ++ leBytes 1 e.block ++ leBytes 1 e.bit ++ leBytes 1 0 ++ leBytes 8 e.time
    ++ leBytes 4 copied ++ leBytes 4 e.resets

/-- The 64 bytes of a common error set. -/
def State.setBytes (s : State) (set : Nat) : List Byte :=
  (List.range 16).flatMap (fun w => leBytes 4 (cesWord (s.cesSet set) set w).toNat)

/-- The most recent records of region r, oldest first: those in its record area, and those still staged. -/
def State.latestRecords (s : State) (r : Nat) : List Nat :=
  let n := s.get ARC_REC.COUNT r
  let staged := (Tab.get [] s.arc.stage r).map BitVec.toNat
  let from_ := n - 12288
  let all := (List.range (n - from_)).map (fun k => s.hbmRead (2 * r) (0x590000000 + 32 * (from_ + k)) 32) ++ staged
  all.drop (all.length - 12288)

/-- What an area takes after its header, as offsets within the area and bytes. -/
def State.areaParts (s : State) (a : Nat) : List (Nat × List Byte) :=
  if a < 4 then
    (List.range 14).flatMap (fun b => (List.range (rgnInstances b)).map (fun i => (0x40 + 0x40 * (16 * b + i), s.setBytes (rgnSet a b i))))
      ++ (s.arc.counts.filter (fun x => x.1 / 4096 == a)).map (fun x => (0x4000 + 8 * (x.1 % 4096), leBytes 8 (s.countEntry a (x.1 % 4096))))
      ++ (List.range 15).map (fun e => (0xC000 + 16 * e, leBytes 16 (s.extremeEntry a e)))
      ++ [(0x10000, (s.latestRecords a).flatMap (leBytes 32))]
  else (List.range 10).map (fun b => (0x100 + 0x40 * b, s.setBytes (chipSet b)))

/-- RETAINED_COPY_DONE: the oldest copy asked for is in its area, up to the bytes read, and is valid (R471). A word of the retained SRAM
that its ECC corrected meanwhile is recorded (R477). -/
def retainedCopyDone (x : RetCopy) (s : State) : State :=
  match s.flt.retPend with
  | [] => s
  | e :: rest =>
    let at_ := areaAt e.area
    let n := min x.copied (areaSize e.area)
    let old := wipeRange s.ret at_ (at_ + areaSize e.area)
    let full := (s.areaParts e.area).foldl (fun m y => pokes m (at_ + y.1) y.2) old
    let cut := wipeRange full (at_ + n) (at_ + areaSize e.area)
    let s1 := { s with ret := pokes cut at_ (retHeader e n), flt := { s.flt with retPend := rest } }
    let s2 := s1.setBits KPR_RET_STS.VALID 0 (2 ^ e.area)
    if x.corrected then s2.record (blockOcc setKpr 1) else s2
def execRetainedCopyDone (copied : RetCopy) (s : State) : Result := .next (retainedCopyDone copied s)

/-- FAULT_PIN_MISMATCH: recorded, and the code is driven on (R476). -/
def faultPinMismatch (s : State) : State := s.record (blockOcc setKpr 0)
def execFaultPinMismatch (s : State) : Result := .next (faultPinMismatch s)

/-- MSIX_MERGE_END: 1 µs after the instance's last message, events merged since are sent as one (R463). -/
def msixMergeEnd (set : Nat) (s : State) : State :=
  let c := s.cesSet set
  if !c.window then s
  else if c.merge && c.route.getLsbD 0 && s.managerPort.any (fun p => s.inL0 p) && !s.windowGone (setUnit set) then
    (s.setCes set { c with merge := false }).emit (.msix 64 (bits c.route 2 11))
  else s.setCes set { c with window := false, merge := false }
def execMsixMergeEnd (set : Nat) (s : State) : Result := .next (msixMergeEnd set s)

end Sys2Proof.Machine
end

