-- ==== Sys2Proof/Machine/Scrub.lean ====
section
/-! DEFINITION. The Thresher's patrol and row repair (R177–R182). -/
namespace Sys2Proof.Machine
open Sys2Proof

/-- Rows of a stack (24 GiB of 2 KiB), columns of a row with its side-band columns, and rows of the Granary area (R159, R166). -/
def stackRows : Nat := 12582912
def rowColumns : Nat := 36
def granaryRows : Nat := 2 ^ 23

/-- Free OTP repair-log entries of a stack 0–7 (R179). -/
def State.logFree (s : State) (stack : Nat) : Nat := 512 - (s.grn.otpLog.filter (fun e => e.1 == stack)).length
/-- GRN_REPAIR_STS.LOG_FREE of region r: the stack with fewer. -/
def State.showLog (s : State) (r : Nat) : State :=
  s.set GRN_REPAIR_STS.LOG_FREE r (min 255 (min (s.logFree (2 * r)) (s.logFree (2 * r + 1))))

/-- The ways of the two sets of a row of stack 0–7. -/
def rowWays (stack row : Nat) : List Nat :=
  [0, 1].flatMap (fun h => (List.range 4).map (fun w => wayKey (stack / 2) (4 * row + 2 * h + stack % 2) w))

/-- A Granary row is retired once the buffer takes its dirty blocks (R180): its sets are cleaned and invalidated and counted, each
once, and a full OTP log is recorded. Otherwise it waits. Blocks of a port in its hold stay, as R176 leaves them. -/
def State.retireRow (s : State) (stack row : Nat) : State :=
  let r := stack / 2
  let mine := (rowWays stack row).filter (fun k => !((s.way k).valid && (s.way k).dirty != 0 && s.held (s.poolOf (wayBlock k (s.way k)))))
  let dirty := mine.filter (fun k => (s.way k).valid && (s.way k).dirty != 0)
  if (s.grn.wbuf.filter (fun e => e.ctrl == stack)).length + dirty.length > 64 then rowRepair s stack row
  else
    let s1 := dirty.foldl (fun s k => s.toBuffer k) s
    let s2 := mine.foldl (fun s k => s.setWay k {}) s1
    let sets := [0, 1].map (fun h => 2 ^ 25 * r + 4 * row + 2 * h + stack % 2)
    let more := sets.filter (fun (g : Nat) => !s2.grn.retired.contains g)
    let left := (Tab.get [] s2.grn.repair stack).filter (fun (x : Nat) => x != row)
    let s3 : State := { s2 with grn := { s2.grn with retired := s2.grn.retired ++ more, repair := Tab.put [] s2.grn.repair stack left } }
    if more = [] then s3
    else
    let s4 := (s3.bump GRN_REPAIR_STS.RETIRED_SETS r more.length).record (blockOcc (grnSet r) 5)
    if s4.logFree stack = 0 then s4.archive r 0x313 0 r (stack * 2 ^ 24 + row) 0 else s4

/-- A row that the patrol found to fail, in a bank without a spare row (R180): retired in the Granary area, else it stays in use
with correction. -/
def State.noSpare (s : State) (stack row : Nat) : State :=
  if (Tab.get [] s.grn.repair stack).contains row then
    let s1 := { s with grn := { s.grn with repair := Tab.put [] s.grn.repair stack ((Tab.get [] s.grn.repair stack).filter (fun x => x != row)) } }
    if row < granaryRows then s1.retireRow stack row else s1
  else s

/-- Where a stack's queue contexts, the other records and the overflow areas begin and end (R159). -/
def ctxBase : Nat := 0x500000000
def ctxEnd : Nat := 0x500800000
def ovfBase : Nat := 0x540000000
def ovfEnd : Nat := 0x580000000

/-- Whether a stack address lies in an overflow area, and the port whose area it is (R159). -/
def colInOvf (a : Nat) : Bool := Nat.ble ovfBase a && Nat.blt a ovfEnd
def colInCat (a : Nat) : Bool := Nat.blt a ctxBase
def colInCtx (a : Nat) : Bool := Nat.ble ctxBase a && Nat.blt a ctxEnd
def colPort (r stack a : Nat) : Nat := 16 * r + 2 * ((a - ovfBase) / 0x8000000) + stack % 2
def colCtx (stack a : Nat) : Nat := stack * 131072 + (a - ctxBase) / 64

/-- A column of a context record, other record or overflow area that is lost: it reads poisoned from now on (R125). -/
def State.columnPoisoned (s : State) (stack a : Nat) : State :=
  { s with grn := { s.grn with poison := Tab.put false s.grn.poison (hbmAt stack a / 64) true } }

/-- A lost column of an overflow area contains the port whose cells lie there (R218). -/
def State.overflowLost (s : State) (p : Nat) : State :=
  if s.get SWC_OVF_STS.CELLS p = 0 then s else (s.record (portOcc p (swcSet (p / 16)) 2)).portContained p

/-- The area a lost column lies in classes it (R125, R218, R322). -/
def State.areaClass (s : State) (r stack a : Nat) : State :=
  if colInCat a then s.record (regionOcc r (catSet r) 3)
  else if colInCtx a then s.ctxLost (colCtx stack a)
  else if colInOvf a then (s.columnPoisoned stack a).overflowLost (colPort r stack a)
  else s.columnPoisoned stack a

/-- An uncorrectable column outside the Granary area, at a stack byte address: it is counted, its row is to be repaired, and the
block that owns the area classes it (R177). -/
def State.areaLost (s : State) (r stack a : Nat) : State :=
  (keyLost s (hbmAt stack a)).areaClass r stack a

/-- The column at the patrol's position, by what its check says (R177–R179). DESIGN CHOICE: check words and the zeros of a row outside
the Granary area belong to no block, and an uncorrectable one is counted and its row repaired (log entry 75). -/
def State.scrubColumn (s : State) (r stack row col : Nat) (found : ColRead) : State :=
  let granary := row < granaryRows
  if col < 32 then
    match found with
    | .corrected => columnCorrected s r (stack % 2) row col 0
    | .uncorrectable =>
      if granary then
        let k := wayKey r (4 * row + 2 * (col / 16) + stack % 2) (col / 4 % 4)
        if (s.way k).dirty.getLsbD (col % 4) then (sectorLostDirty s r k (col % 4) row col).2
        else sectorLostClean s r k (col % 4) row col
      else s.areaLost r stack (2048 * row + 64 * col)
    | _ => s
  else
    let s1 := eccCapture s r (stack % 2) row (col - 32) 1
    match found with
    | .corrected => columnCorrected s r (stack % 2) row (col - 32) 1
    | .good => s
    | .tagCopy => if col < 34 && granary then rowRepair (s1.record (blockOcc (grnSet r) 3)) stack row else s
    | _ =>
      if col < 34 && granary then rowRepair (s1.record (regionOcc r (grnSet r) 4)) stack row
      else rowRepair (s1.bump GRN_ECC_STS.UE_DIRTY r 1) stack row

/-- PATROL_SCRUB_STEP: the next column of a stack is read and handled, and a lap is counted when both stacks have made it; the
patrol pauses during a reclaim walk and while EN is 0 (R178). -/
def patrolScrubStep (r : Region) (stack : Fin 2) (found : ColRead) (spare : Bool) (s : State) : State :=
  let st := 2 * r.val + stack
  let pos := Tab.get 0 s.grn.patrol st
  let row := pos / rowColumns % stackRows
  if !s.flag GRN_SCRUB.EN r || !s.flag GRN_CTL.READY r || (Tab.get {} s.cat.walk r).running || s.rgn r == 2 then s
  else
    let s1 := (s.columns st 1).scrubColumn r st row (pos % rowColumns) found
    let s2 := if spare then s1 else s1.noSpare st row
    let s3 := { s2 with grn := { s2.grn with patrol := Tab.put 0 s2.grn.patrol st (pos + 1) } }
    let lap (k : Nat) : Nat := Tab.get 0 s3.grn.patrol (2 * r.val + k) / (rowColumns * stackRows)
    s3.set GRN_SCRUB.LAPS r (min 65535 (min (lap 0) (lap 1)))
def execPatrolScrubStep (r : Region) (stack : Fin 2) (found : ColRead) (spare : Bool) (s : State) : Result :=
  .next (patrolScrubStep r stack found spare s)

/-- ROW_REPAIR_DONE: the row in the row buffer has its spare row, and the Keeper logs it while the log has room; without a spare
row it is retired or stays in use (R179, R180). -/
def rowRepairDone (r : Region) (stack : Fin 2) (spare : Bool) (s : State) : State :=
  let st := 2 * r.val + stack
  match Tab.get [] s.grn.repair st with
  | [] => s
  | row :: rest =>
    if spare then
      let s1 := { s with grn := { s.grn with
        repair := Tab.put [] s.grn.repair st rest
        rowErr := Tab.put [] s.grn.rowErr (2 ^ 24 * st + row) []
        otpLog := if s.logFree st = 0 then s.grn.otpLog else s.grn.otpLog ++ [(st, row, false)] } }
      (s1.bump GRN_REPAIR_STS.SOFT r 1).showLog r
    else s.noSpare st row
def execRowRepairDone (r : Region) (stack : Fin 2) (spare : Bool) (s : State) : Result := .next (rowRepairDone r stack spare s)

/-- Every row of a region's stacks is written with zeros, which leaves every way empty, and its tag cache is cleared (R164, R181). -/
def State.stacksWiped (s : State) (r : Nat) : State :=
  { s with hbm := wipeRange s.hbm (hbmAt (2 * r) 0) (hbmAt (2 * r + 2) 0)
           grn := { s.grn with
             ways := s.grn.ways.filter (fun e => wayRegion e.1 != r)
             tags := s.grn.tags.filter (fun e => e.1 / 8192 != r)
             poison := s.grn.poison.filter (fun e => e.1 / 2 ^ 30 != r) } }

/-- HBM_START_DONE: both stacks of a region are trained, pending hard repairs made and marked, and every row wiped: READY, and the
step of the start once every region is ready; a stack that fails training raises GRN_TRAIN_FAIL, and a key that the Keeper does not
deliver GRN_KEY_FAIL (R179, R181, R182, R381). -/
def hbmStartDone (r : Region) (trained : HbmStart) (s0 : State) : State :=
  if trained == .trainFail then s0.record (regionOcc r (grnSet r) 7)
  else if trained == .keyFail then s0.record (blockOcc (grnSet r) 8)
  else
    let s := if s0.flag GRN_CTL.READY r then s0 else s0.stacksWiped r
    let log : List (Nat × Nat × Bool) := s.grn.otpLog.map (fun (e : Nat × Nat × Bool) => if e.1 / 2 == r.val then (e.1, e.2.1, true) else e)
    let s1 : State := { s with grn := { s.grn with otpLog := log } }
    let s2 := (s1.set GRN_CTL.READY r 1).showLog r
    if s2.get KPR_STS.STEP 0 = 6 && (List.range 4).all (fun q => s2.rgn q == 2 || s2.flag GRN_CTL.READY q) then s2.set KPR_STS.STEP 0 7
    else s2
def execHbmStartDone (r : Region) (trained : HbmStart) (s : State) : Result := .next (hbmStartDone r trained s)

end Sys2Proof.Machine
end

