-- ==== Sys2Proof/Machine/Tillers.lean ====
section
/-! DEFINITION. The tiller instruction set, its waits, loads and stores (R354–R356, R358–R365, R482). An instruction acts on the
operands that its command names; the image's program memory is what the image check covers. -/
namespace Sys2Proof.Machine
open Sys2Proof

/-! When a tiller executes, and what every instruction does. -/

/-- A tiller executes its next instruction: RUNNING, no load or store held up, not due to stop as RUNAWAY, and a hosted handler only
while its core runs it (R365, R369). -/
def State.tilReady (s : State) (t : Nat) : Bool :=
  s.get TIL_STS.STATE t == 1 && (s.tiller t).wait == .none && Nat.blt (s.tiller t).ran (2 ^ 20) && !s.windowGone (tillerUnit t)
    && (!isHosted t || (s.coreRuns (t / 48) && Tab.get 0 s.lib.running (t / 48) == t + 1))

/-- An instruction, where the tiller executes. -/
def tilStep (t : Nat) (s : State) (f : State → State) : State := if s.tilReady t then f s else s

/-- What else happens at a tiller, unless its region is isolated. -/
def tilLive (t : Nat) (s : State) (f : State → State) : State := if s.windowGone (tillerUnit t) then s else f s

/-- A completed instruction is counted: towards RUNAWAY, and as a slot RETIRED (R365, R491, R493). -/
def State.retire (s : State) (t : Nat) : State :=
  let s1 := s.setTiller t { s.tiller t with ran := (s.tiller t).ran + 1 }
  if t < 192 then s1.count (t / 48) 0x18 (t % 48) 1 else s1.countChip 0x44 (t - 192) 1

/-- Register T[i] of a tiller. -/
def State.tReg (s : State) (t i : Nat) : Word := s.word .TIL_T (16 * t + i)
def State.setTReg (s : State) (t i : Nat) (v : Word) : State := s.setWord .TIL_T (16 * t + i) v

/-- An instruction completes and execution goes on at an index. -/
def State.tilDone (s : State) (t next : Nat) : State := (s.retire t).set TIL_STS.PC t (next % 2048)
/-- Execution goes on at the next index. -/
def State.tilNext (s : State) (t : Nat) : State := s.tilDone t (s.get TIL_STS.PC t + 1)

/-- An instruction that only writes T[d]. -/
def tilAlu (t d : Nat) (v : State → Word) (s : State) : State := tilStep t s fun s => (s.setTReg t d (v s)).tilNext t

/-- The fetch of an instruction (R365, R376): an uncorrectable error in the program memory stops the tiller with PROG_ECC; a word that
is corrected is rewritten and recorded, in a region's Librarian set. -/
def tilFetch (x : TilAt) (s : State) (f : State → State) : State :=
  match x.mem with
  | .good => f s
  | .corrected => f (if x.til < 192 then tilStep x.til s fun s => s.record ⟨libSet (x.til / 48), 0, 0, 4, x.til, 0⟩ else s)
  | .uncorrectable => tilStep x.til s fun s => s.tilStops x.til 8

/-! What the image check rejects faults as ILLEGAL (R363, R365). -/

/-- The number of the program that a tiller of the image runs, 0 for a built-in one (R390, R391, R397, R398). -/
def State.progOf (s : State) (t : Nat) : Nat :=
  if !s.boot.late || (s.tiller t).script0 then 0
  else match tilKind t with
    | .port p => s.plan p 24 7
    | .slot c => s.sect 1 (2048 + 32 * c + 1) 1
    | .boot => 0
    | .hosted _ => (match s.handlerEntry t with
      | some k => s.handler k 2 1
      | none => 0)

/-- The index of a program's last instruction (R397); a built-in program may fill its memory. -/
def State.lastIndex (s : State) (t : Nat) : Nat :=
  match s.progOf t with
  | 0 => 2047
  | k + 1 => (s.sect 8 (16 + 8 * k) 8 >>> 32) % 2048

/-- The length of a wait in ns; none for a UNIT of 3 or a COUNT of 0. -/
def waitNs (unit count : Nat) : Option Nat :=
  if unit = 3 || count = 0 then none else some (count * 1000 ^ (unit + 1))

/-- T[A] + OFF, with OFF signed, modulo 2^32. -/
def tilAddr (a : Word) (off : BitVec 18) : Word := a + off.signExtend 32

/-! What an access may reach (R354, R356, R358, R362). -/

/-- A context offset that a program may read or write. -/
def contextReads (hosted : Bool) (o : Nat) : Bool := o < 0x140 || (hosted && ((0x200 ≤ o && o < 0x228) || o == 0x22C))
def contextWrites (hosted : Bool) (o : Nat) : Bool := o < 0x100 || (hosted && 0x200 ≤ o && o ≤ 0x228)

/-- Registers whose names lie between two others in the order of the register index. -/
def Reg.between (lo hi r : Reg) : Bool := lo.ctorIdx ≤ r.ctorIdx && r.ctorIdx ≤ hi.ctorIdx

/-- A register of port p, of its lanes, its link layer or its Zwius link, or a common error set of these. -/
def portOwn (s : State) (p : Nat) (g : Target) : Bool :=
  let z := 2 * (p / 16) + p % 16 - 14
  let isZl := p % 16 ≥ 14 && s.role p == 3
  match g with
  | .reg r i =>
    if Reg.between .PRT_PORT_CTL .PRT_DN_TMR r then i == p
    else if Reg.between .PRT_LANE_CTL .PRT_PAT_CNT_HI r then lanePort i == p
    else if Reg.between .LNK_CTL .LNK_IDE_STS r then i == p
    else Reg.between .ZWL_CTL .ZWL_PEER r && isZl && i == z
  | .ces set _ => set == prtSet p || set == lnkSet p || (isZl && set == zwlSet z)
  | _ => false

/-- A register of slot channel c. -/
def slotOwn (c : Nat) (g : Target) : Bool :=
  match g with
  | .reg .SPW_SOA i => i / 4 == c
  | .reg r i => Reg.between .SPW_CFG0 .SPW_SOA_AMB r && i == c
  | _ => false

/-- The registers of channel c that a port tiller may read as its slot's status. -/
def slotStatus (c : Nat) (g : Target) : Bool :=
  match g with
  | .reg r i => Reg.between .SPW_STS .SPW_TRIP r && i == c
  | _ => false

/-- The CHIP_, KPR_, CRS_ and SPW_ registers, which the boot tiller reads and writes, and the SEC_ ones, which it reads. -/
def bootOwn (g : Target) : Bool :=
  match g with
  | .reg r _ => r == .CHIP_IDENT || r == .CHIP_CHG_SUM || Reg.between .SPW_LOCK .CHIP_RGN_CAUSE r
  | .ces set _ => set == setChip || set == setKpr || set == setCrs || set == setSpw
  | _ => false
def bootReads (g : Target) : Bool :=
  match g with
  | .reg r _ => Reg.between .SEC_LC_STS .SEC_MEAS_D r
  | .ces set _ => set == setSec
  | _ => false

/-- The highest-numbered enabled MPU region of core r that holds an address (R355). -/
def State.mpuRegion (s : State) (r a : Nat) : Option Nat :=
  ((List.range 16).reverse.map (fun m => 16 * r + m)).find? (fun n =>
    s.flag LIB_MPU_BASE.EN n && Nat.ble (s.get LIB_MPU_BASE.BASE n) (a / 4096) && Nat.ble (a / 4096) (s.get LIB_MPU_LIMIT.LIMIT n))

/-- A tiller may access an offset of the register space (R358). -/
def State.tilReaches (s : State) (t a : Nat) (write : Bool) : Bool :=
  a < 0x8000000 &&
    match tilKind t with
    | .port p => portOwn s p (target a) || (!write && s.plan p 23 1 == 1 && slotStatus (s.plan p 18 5) (target a))
    | .slot c => slotOwn c (target a)
    | .boot => bootOwn (target a) || (!write && bootReads (target a))
    | .hosted r => (match s.mpuRegion r a with
      | some n => if write then s.flag LIB_MPU_BASE.U_W n else s.flag LIB_MPU_BASE.U_R n
      | none => false)

/-- Where an access goes: a fault, the context, or the register space. -/
inductive Reach where
  | fault (cause : Nat)
  | context (off : Nat)
  | register
deriving DecidableEq, Repr

/-- The check of an access (R354, R358, R362, R365). -/
def State.reach (s : State) (t a : Nat) (write : Bool) : Reach :=
  if a % 4 != 0 then .fault 5
  else if 0x10000000 ≤ a && a < 0x10000400 then
    let o := a - 0x10000000
    if (if write then contextWrites (isHosted t) o else contextReads (isHosted t) o) then .context o else .fault 3
  else if s.tilReaches t a write then .register else .fault 3

/-! Events (R359, R360). -/

/-- The lowest bit of a mask among the pending events. -/
def State.eventBit (s : State) (t mask : Nat) : Option Nat :=
  (List.range 8).find? (fun b => (s.get TIL_EVT.PENDING t).testBit b && mask.testBit b)

/-- The arguments of the current event: those that it carries; the spec leaves the other words open (log entry 4). -/
def State.giveArgs (s : State) (t : Nat) (args : List Nat) : State :=
  let ctx := (List.range 16).foldl (fun c k =>
    Tab.put 0 c (64 + k) (args.getD k (Config.freeValue (s.free + k)) % 2 ^ 32)) (s.tiller t).ctx
  { s with free := s.free + 16 }.setTiller t { s.tiller t with ctx := ctx }

/-- An event is taken: its bit is cleared, or its first queued one of a handler removed, and its arguments stand in the context. -/
def State.takeEvent (s : State) (t b : Nat) : State :=
  let x := s.tiller t
  if isHosted t then
    match x.events.find? (fun (e : Nat × List Nat) => e.1 == b) with
    | some e => ((s.setTiller t { x with events := x.events.erase e }).showEvents t).giveArgs t e.2
    | none => s
  else
    (s.clearBits TIL_EVT.PENDING t (2 ^ b)).giveArgs t (if b = 7 then [0, (s.word .TIL_ARG t).toNat] else [])

/-- A wait begins: the tiller waits, and a handler gives up its core (R359, R365, R369). -/
def State.tilWait (s : State) (t : Nat) (w : TWait) (mask : Nat) : State :=
  let s1 := s.setTiller t { s.tiller t with wait := w, ran := 0 }
  ((s1.set TIL_STS.STATE t 2).set TIL_EVT.MASK t mask).giveUp t

/-- A wait that has been met or has timed out: the tiller runs on behind it. -/
def State.tilResume (s : State) (t : Nat) : State :=
  let s1 := (s.tilNext t).setTiller t { (s.tilNext t).tiller t with wait := .none, ran := 0 }
  ((s1.set TIL_STS.STATE t 1).set TIL_EVT.MASK t 0).handlerWoken t

/-! Register operations (R363). -/

def execHalt (t : TilAt) (s : State) : Result :=
  .next (tilFetch t s fun s => tilStep t.til s fun s => (s.retire t.til).tilStops t.til 1)
def execLdi (t : TilAt) (d : Fin 16) (imm : BitVec 16) (s : State) : Result :=
  .next (tilFetch t s (tilAlu t.til d (fun _ => imm.setWidth 32)))
def execLuh (t : TilAt) (d : Fin 16) (imm : BitVec 16) (s : State) : Result :=
  .next (tilFetch t s (tilAlu t.til d (fun s => putBits (s.tReg t.til d) 16 16 imm.toNat)))
def execAdd (t : TilAt) (d a b : Fin 16) (s : State) : Result :=
  .next (tilFetch t s (tilAlu t.til d (fun s => s.tReg t.til a + s.tReg t.til b)))
def execSub (t : TilAt) (d a b : Fin 16) (s : State) : Result :=
  .next (tilFetch t s (tilAlu t.til d (fun s => s.tReg t.til a - s.tReg t.til b)))
def execAddi (t : TilAt) (d a : Fin 16) (imm : BitVec 18) (s : State) : Result :=
  .next (tilFetch t s (tilAlu t.til d (fun s => s.tReg t.til a + imm.signExtend 32)))
def execAnd (t : TilAt) (d a b : Fin 16) (s : State) : Result :=
  .next (tilFetch t s (tilAlu t.til d (fun s => s.tReg t.til a &&& s.tReg t.til b)))
def execOr (t : TilAt) (d a b : Fin 16) (s : State) : Result :=
  .next (tilFetch t s (tilAlu t.til d (fun s => s.tReg t.til a ||| s.tReg t.til b)))
def execXor (t : TilAt) (d a b : Fin 16) (s : State) : Result :=
  .next (tilFetch t s (tilAlu t.til d (fun s => s.tReg t.til a ^^^ s.tReg t.til b)))
def execAndi (t : TilAt) (d a : Fin 16) (imm : BitVec 18) (s : State) : Result :=
  .next (tilFetch t s (tilAlu t.til d (fun s => s.tReg t.til a &&& imm.setWidth 32)))
def execShli (t : TilAt) (d a : Fin 16) (sh : Fin 32) (s : State) : Result :=
  .next (tilFetch t s (tilAlu t.til d (fun s => s.tReg t.til a <<< sh.val)))
def execShri (t : TilAt) (d a : Fin 16) (sh : Fin 32) (s : State) : Result :=
  .next (tilFetch t s (tilAlu t.til d (fun s => s.tReg t.til a >>> sh.val)))

/-! Branches, calls and stops (R363, R365). -/

/-- A condition of CBR. -/
def condMet (cond : Nat) (a b : Word) : Bool :=
  match cond with
  | 0 => a == b
  | 1 => a != b
  | 2 => a.ult b
  | 3 => !a.ult b
  | 4 => a.slt b
  | 5 => !a.slt b
  | _ => true

/-- CBR. -/
def cbr (t : Nat) (a b : Nat) (cond tgt : Nat) (s : State) : State :=
  tilStep t s fun s =>
    if cond = 7 || s.lastIndex t < tgt then s.tilStops t 4
    else if condMet cond (s.tReg t a) (s.tReg t b) then s.tilDone t tgt
    else s.tilNext t
def execCbr (t : TilAt) (a b : Fin 16) (cond : Fin 8) (tgt : BitVec 11) (s : State) : Result :=
  .next (tilFetch t s (cbr t.til a b cond tgt.toNat))

/-- A return stack with its depth shown. -/
def State.setStack (s : State) (t : Nat) (k : List Nat) : State :=
  (s.setTiller t { s.tiller t with stack := k }).set TIL_STS.DEPTH t k.length

/-- CALL: eight return addresses at most. -/
def call (t tgt : Nat) (s : State) : State :=
  tilStep t s fun s =>
    let k := (s.tiller t).stack
    if s.lastIndex t < tgt then s.tilStops t 4
    else if k.length ≥ 8 then s.tilStops t 6
    else (s.setStack t ((s.get TIL_STS.PC t + 1) % 2048 :: k)).tilDone t tgt
def execCall (t : TilAt) (tgt : BitVec 11) (s : State) : Result :=
  .next (tilFetch t s (call t.til tgt.toNat))

/-- RET. -/
def ret (t : Nat) (s : State) : State :=
  tilStep t s fun s =>
    match (s.tiller t).stack with
    | [] => s.tilStops t 6
    | x :: k => (s.setStack t k).tilDone t x
def execRet (t : TilAt) (s : State) : Result :=
  .next (tilFetch t s (ret t.til))

/-- TRAP. -/
def trap (t code : Nat) (s : State) : State :=
  tilStep t s fun s => ((s.retire t).set TIL_STS.TRAP_CODE t code).tilStops t 2
def execTrap (t : TilAt) (code : BitVec 8) (s : State) : Result :=
  .next (tilFetch t s (trap t.til code.toNat))

/-- YIELD: another ready handler runs; on a dedicated tiller it has no effect. -/
def tilYield (t : Nat) (s : State) : State := tilStep t s fun s => (s.tilNext t).giveUp t
def execYield (t : TilAt) (s : State) : Result :=
  .next (tilFetch t s (tilYield t.til))

/-- EVENT: an Archive event of origin 1, with T[A] as its argument (R480, R482). -/
def tilEvent (t a code : Nat) (s : State) : State :=
  tilStep t s fun s =>
    let u := tillerUnit t
    let x := s.event u code 1 4 t t (s.tReg t a).toNat 0
    (if x.2 then (x.1.note (occ (arcSet u) 4 0 u)).1 else x.1).tilNext t
def execEvent (t : TilAt) (a : Fin 16) (code : BitVec 12) (s : State) : Result :=
  .next (tilFetch t s (tilEvent t.til a code.toNat))

/-- The requester's status for a REPLY value (R368). -/
def replyStatus (v : Nat) : Nat := match v with
  | 0 => 0
  | 1 => 3
  | 2 => 4
  | _ => 5

/-- REPLY: the open request of the handle is answered; a handle that is not open is discarded (R368). -/
def reply (t a b : Nat) (s : State) : State :=
  tilStep t s fun s =>
    if !isHosted t then s.tilStops t 4
    else
      let h := (s.tReg t a).toNat
      let st := replyStatus (s.tReg t b).toNat
      let s1 := s.tilNext t
      let s2 := match s1.lib.opens.find? (fun (q : OpenReq) => q.handle == h) with
        | some q => s1.answerReq q st
        | none => s1
      s2.giveUp t
def execReply (t : TilAt) (a b : Fin 16) (s : State) : Result :=
  .next (tilFetch t s (reply t.til a b))

/-! Loads and stores (R354, R362, R364). -/

/-- LD: from the context at once, from the register space with LD_RETURN. -/
def ld (t d a : Nat) (off : BitVec 18) (s : State) : State :=
  tilStep t s fun s =>
    let x := (tilAddr (s.tReg t a) off).toNat
    if off.toNat % 4 != 0 then s.tilStops t 4
    else match s.reach t x false with
      | .fault c => s.tilFault t c x
      | .context o => (s.setTReg t d (BitVec.ofNat 32 (s.ctxWord t o))).tilNext t
      | .register => s.setTiller t { s.tiller t with wait := .load d x }
def execLd (t : TilAt) (d a : Fin 16) (off : BitVec 18) (s : State) : Result :=
  .next (tilFetch t s (ld t.til d a off))

/-- A write of SVC_OP starts a service operation; a start while BUSY is discarded and counted (R367, R546), and a number that names no
operation ends with BAD_FIELD. -/
def State.svcGo (s : State) (t op : Nat) : State :=
  if s.svcBusy t then s.discard (tilSet (tillerUnit t))
  else if op > 7 then s.svcEnd t 2
  else (s.setCtxWord t 0x228 op).setCtxWord t 0x22C 1

/-- A store leaves the tiller, and completes later. -/
def State.issueStore (s : State) (t x v : Nat) : State :=
  s.setTiller t { s.tiller t with stores := (s.tiller t).stores ++ [(x, v)] }

/-- ST: to the context at once, to the register space among at most eight outstanding stores. -/
def st (t d a : Nat) (off : BitVec 18) (s : State) : State :=
  tilStep t s fun s =>
    let x := (tilAddr (s.tReg t a) off).toNat
    let v := (s.tReg t d).toNat
    if off.toNat % 4 != 0 then s.tilStops t 4
    else match s.reach t x true with
      | .fault c => s.tilFault t c x
      | .context o => (if o = 0x228 then s.svcGo t v else s.setCtxWord t o v).tilNext t
      | .register =>
        if (s.tiller t).stores.length ≥ 8 then s.setTiller t { s.tiller t with wait := .store x v }
        else (s.issueStore t x v).tilNext t
def execSt (t : TilAt) (d a : Fin 16) (off : BitVec 18) (s : State) : Result :=
  .next (tilFetch t s (st t.til d a off))

/-- LD_RETURN: the word comes back once the tiller's earlier stores to the same block have taken effect, and fewer than eight stores
are outstanding (R364, R506). -/
def ldReturn (t : Nat) (s : State) : State :=
  tilLive t s fun s =>
  match (s.tiller t).wait with
  | .load d x =>
    let q := (s.tiller t).stores
    if q.length ≥ 8 || q.any (fun (e : Nat × Nat) => s.setAt e.1 == s.setAt x) then s
    else
      let v := regRead .librarian x s
      let s1 := v.2.setTiller t { v.2.tiller t with wait := .none }
      (s1.setTReg t d v.1.1).tilNext t
  | _ => s
def execLdReturn (t : TillerIx) (s : State) : Result := .next (ldReturn t s)

/-- A program's write: it is no access at privileged level, so an MPU register is not written (R355). -/
def tilWrite (x v : Nat) (s : State) : State :=
  match target x with
  | .reg .LIB_MPU_BASE _ => if s.addrGone x then s else s.discard (s.setAt x)
  | .reg .LIB_MPU_LIMIT _ => if s.addrGone x then s else s.discard (s.setAt x)
  | _ => regWrite .librarian x (BitVec.ofNat 32 v) s

/-- A port script's request for a rate (R249, R251): one above MAX_RATE is counted as a write discard, and one below lowers the port's
cap, which for a ZL port never falls below 64 GT/s. The spec names no register for it: it is MAX_RATE in a store of the port's own
tiller to PRT_PORT_CTL (DESIGN CHOICE, log entry 88). -/
def rateAsked (t x v : Nat) (s : State) : State :=
  match tilKind t, target x with
  | .port p, .reg .PRT_PORT_CTL i =>
    if i = p && v % 8 < s.get PRT_PORT_CTL.MAX_RATE p && s.role p != 3 then
      s.set PRT_PORT_EVT.CAP p (min (s.get PRT_PORT_EVT.CAP p) (v % 8))
    else s
  | _, _ => s

/-- What a store carries on: a script's request for a rate leaves MAX_RATE itself as it is. -/
def rateKept (t x v : Nat) (s : State) : Nat :=
  match tilKind t, target x with
  | .port p, .reg .PRT_PORT_CTL i =>
    if i = p && v % 8 < s.get PRT_PORT_CTL.MAX_RATE p then v / 8 * 8 + s.get PRT_PORT_CTL.MAX_RATE p else v
  | _, _ => v

/-- STORE_COMPLETE: the oldest store takes effect, and a store that waited for room leaves the tiller (R364). -/
def storeComplete (t : Nat) (s : State) : State :=
  tilLive t s fun s =>
  match (s.tiller t).stores with
  | [] => s
  | (x, v) :: q =>
    let s0 := rateAsked t x v (s.setTiller t { s.tiller t with stores := q })
    let s1 := tilWrite x (rateKept t x v s0) s0
    match (s1.tiller t).wait with
    | .store x2 v2 =>
      let s2 := s1.issueStore t x2 v2
      (s2.setTiller t { s2.tiller t with wait := .none }).tilNext t
    | _ => s1
def execStoreComplete (t : TillerIx) (s : State) : Result := .next (storeComplete t s)

/-! Waits (R359, R363, R364). -/

/-- A WAIT returns with the event of bit b. -/
def State.wakes (s : State) (t d b : Nat) : State :=
  ((s.takeEvent t b).setTReg t d (BitVec.ofNat 32 (b + 1))).tilResume t

/-- WAIT: a pending event of MASK returns at once, the lowest first. -/
def wait (t d mask unit count : Nat) (s : State) : State :=
  tilStep t s fun s =>
    match waitNs unit count with
    | none => s.tilStops t 4
    | some n => match s.eventBit t mask with
      | some b => (s.wakes t d b).giveUp t
      | none => s.tilWait t (.event d mask n) mask
def execWait (t : TilAt) (d : Fin 16) (mask : BitVec 8) (unit : TUnit) (count : BitVec 12) (s : State) : Result :=
  .next (tilFetch t s (wait t.til d mask.toNat unit count.toNat))

/-- WAITB: a context word is sampled at once; a register word is sampled by WAITB_MATCH. -/
def waitb (t d a bit : Nat) (val : Bool) (unit count : Nat) (s : State) : State :=
  tilStep t s fun s =>
    let x := (s.tReg t a).toNat
    match waitNs unit count with
    | none => s.tilStops t 4
    | some n => match s.reach t x false with
      | .fault c => s.tilFault t c x
      | .context o =>
        if (s.ctxWord t o).testBit bit = val then ((s.setTReg t d 1).tilResume t).giveUp t
        else s.tilWait t (.bitAt d x bit val n) 0
      | .register => s.tilWait t (.bitAt d x bit val n) 0
def execWaitb (t : TilAt) (d a : Fin 16) (bit : Fin 32) (val : Bool) (unit : TUnit) (count : BitVec 10) (s : State) : Result :=
  .next (tilFetch t s (waitb t.til d a bit val unit count.toNat))

/-- DELAY. -/
def delay (t unit count : Nat) (s : State) : State :=
  tilStep t s fun s =>
    match waitNs unit count with
    | none => s.tilStops t 4
    | some n => s.tilWait t (.delay n) 0
def execDelay (t : TilAt) (unit : TUnit) (count : BitVec 12) (s : State) : Result :=
  .next (tilFetch t s (delay t.til unit count.toNat))

/-- WAIT_WAKE: an awaited event is pending. -/
def waitWake (t : Nat) (s : State) : State :=
  tilLive t s fun s =>
  match (s.tiller t).wait with
  | .event d mask _ => (match s.eventBit t mask with
    | some b => s.wakes t d b
    | none => s)
  | _ => s
def execWaitWake (t : TillerIx) (s : State) : Result := .next (waitWake t s)

/-- A timeout is counted, and the program sees 0 (R376). -/
def State.timesOut (s : State) (t d : Nat) : State :=
  (((s.bump TIL_EVT.TMO t 1).record (tilOcc t 2)).setTReg t d 0).tilResume t

/-- WAIT_TIMEOUT: COUNT units have passed. An event that is pending wins. -/
def waitTimeout (t : Nat) (s : State) : State :=
  tilLive t s fun s =>
  match (s.tiller t).wait with
  | .event d mask _ => (match s.eventBit t mask with
    | some b => s.wakes t d b
    | none => s.timesOut t d)
  | .bitAt d _ _ _ _ => s.timesOut t d
  | .delay _ => s.tilResume t
  | _ => s
def execWaitTimeout (t : TillerIx) (s : State) : Result := .next (waitTimeout t s)

/-- The word that a WAITB samples, with the effects of its read. -/
def State.tilSample (s : State) (t x : Nat) : Nat × State :=
  if 0x10000000 ≤ x then (s.ctxWord t (x - 0x10000000), s)
  else
    let v := regRead .librarian x s
    (v.1.1.toNat, v.2)

/-- WAITB_MATCH: a sample; the tiller resumes where it finds the bit at VAL. -/
def waitbMatch (t : Nat) (s : State) : State :=
  tilLive t s fun s =>
  match (s.tiller t).wait with
  | .bitAt d x bit val _ =>
    let v := s.tilSample t x
    if v.1.testBit bit = val then (v.2.setTReg t d 1).tilResume t else v.2
  | _ => s
def execWaitbMatch (t : TillerIx) (s : State) : Result := .next (waitbMatch t s)

/-- TILLER_RUNAWAY: 2^20 instructions without a wait stop the tiller (R365). -/
def tillerRunaway (t : Nat) (s : State) : State :=
  tilLive t s fun s =>
  if s.tilRuns t && (s.tiller t).ran ≥ 2 ^ 20 then s.tilStops t 7 else s
def execTillerRunaway (t : TillerIx) (s : State) : Result := .next (tillerRunaway t s)

end Sys2Proof.Machine
end

