-- ==== Sys2Proof/Machine/Dispatch.lean ====
section
/-! DEFINITION. The dispatch: one arm per command, in the order of the chapters. -/
namespace Sys2Proof.Machine
open Sys2Proof

def exec (i : Instr) (s : State) : Host.Outcome State Fault Refusal :=
  match i with
  | .registerWrite p addr data size => Sys2Proof.Machine.execRegisterWrite p addr data size s
  | .srecRead p r shelf => Sys2Proof.Machine.execSrecRead p r shelf s
  | .srecWrite p r shelf => Sys2Proof.Machine.execSrecWrite p r shelf s
  | .grpRead p r group => Sys2Proof.Machine.execGrpRead p r group s
  | .grpWrite p r group => Sys2Proof.Machine.execGrpWrite p r group s
  | .grpCopiesDone r => Sys2Proof.Machine.execGrpCopiesDone r s
  | .ruleRead p r slot => Sys2Proof.Machine.execRuleRead p r slot s
  | .ruleWrite p r slot => Sys2Proof.Machine.execRuleWrite p r slot s
  | .ruleClear p r slot => Sys2Proof.Machine.execRuleClear p r slot s
  | .bindingBarrierStart p r all shelf => Sys2Proof.Machine.execBindingBarrierStart p r all shelf s
  | .ruleBarrierStart p r all shelf => Sys2Proof.Machine.execRuleBarrierStart p r all shelf s
  | .barrierComplete r k => Sys2Proof.Machine.execBarrierComplete r k s
  | .barrierTimeout r k => Sys2Proof.Machine.execBarrierTimeout r k s
  | .barrierSlotFree p r mask => Sys2Proof.Machine.execBarrierSlotFree p r mask s
  | .reshelveStart p r k shelf thresh => Sys2Proof.Machine.execReshelveStart p r k shelf thresh s
  | .reshelveSwitch p r k => Sys2Proof.Machine.execReshelveSwitch p r k s
  | .reshelveAbort p r k => Sys2Proof.Machine.execReshelveAbort p r k s
  | .switchoverDrained r k => Sys2Proof.Machine.execSwitchoverDrained r k s
  | .switchoverStallTmo r k => Sys2Proof.Machine.execSwitchoverStallTmo r k s
  | .addDcResponse port accept => Sys2Proof.Machine.execAddDcResponse port accept s
  | .addTimeout port => Sys2Proof.Machine.execAddTimeout port s
  | .releaseDynamicCapacity port shelf count => Sys2Proof.Machine.execReleaseDynamicCapacity port shelf count s
  | .rdShared a => Sys2Proof.Machine.execRdShared a s
  | .rdOwn a => Sys2Proof.Machine.execRdOwn a s
  | .rdCur a => Sys2Proof.Machine.execRdCur a s
  | .ownNodata a => Sys2Proof.Machine.execOwnNodata a s
  | .cleanEvict a => Sys2Proof.Machine.execCleanEvict a s
  | .wb a d m => Sys2Proof.Machine.execWb a d m s
  | .wr a d be => Sys2Proof.Machine.execWr a d be s
  | .catReqProtocol a => Sys2Proof.Machine.execCatReqProtocol a s
  | .biRsp r t agent rsp => Sys2Proof.Machine.execBiRsp r t agent rsp s
  | .d2hSnoopResponse r t agent rsp d => Sys2Proof.Machine.execD2hSnoopResponse r t agent rsp d s
  | .biConflict r t agent tag => Sys2Proof.Machine.execBiConflict r t agent tag s
  | .catalogueFillDone r index => Sys2Proof.Machine.execCatalogueFillDone r index s
  | .granaryDataReady r t found => Sys2Proof.Machine.execGranaryDataReady r t found s
  | .chainRetryDelay r => Sys2Proof.Machine.execChainRetryDelay r s
  | .dedupeRetire r => Sys2Proof.Machine.execDedupeRetire r s
  | .catEntryLookup p r => Sys2Proof.Machine.execCatEntryLookup p r s
  | .reclaimStart p r => Sys2Proof.Machine.execReclaimStart p r s
  | .poisonLedgerRead p r shelf => Sys2Proof.Machine.execPoisonLedgerRead p r shelf s
  | .deadSetEntry agent => Sys2Proof.Machine.execDeadSetEntry agent s
  | .reclaimWalkEnd r => Sys2Proof.Machine.execReclaimWalkEnd r s
  | .reclaimWalkTmo r => Sys2Proof.Machine.execReclaimWalkTmo r s
  | .txnTimeout r t => Sys2Proof.Machine.execTxnTimeout r t s
  | .txnPauseCap r t => Sys2Proof.Machine.execTxnPauseCap r t s
  | .upLinkDown p => Sys2Proof.Machine.execUpLinkDown p s
  | .poolLinkDown p => Sys2Proof.Machine.execPoolLinkDown p s
  | .holdReturn p serial => Sys2Proof.Machine.execHoldReturn p serial s
  | .holdExpiry p => Sys2Proof.Machine.execHoldExpiry p s
  | .zwiusLinkDown z => Sys2Proof.Machine.execZwiusLinkDown z s
  | .zwiusUnackTimeout z => Sys2Proof.Machine.execZwiusUnackTimeout z s
  | .zwiusResponse z tag agent d => Sys2Proof.Machine.execZwiusResponse z tag agent d s
  | .hotResetReceived p => Sys2Proof.Machine.execHotResetReceived p s
  | .dnLinkDown p => Sys2Proof.Machine.execDnLinkDown p s
  | .reclaimSetVisit r => Sys2Proof.Machine.execReclaimSetVisit r s
  | .poolFillArrive r addr d => Sys2Proof.Machine.execPoolFillArrive r addr d s
  | .poolWriteComplete r addr => Sys2Proof.Machine.execPoolWriteComplete r addr s
  | .grnInvalidate p r shelf => Sys2Proof.Machine.execGrnInvalidate p r shelf s
  | .grnCleanInvalidate p r shelf => Sys2Proof.Machine.execGrnCleanInvalidate p r shelf s
  | .grnAllClean p r => Sys2Proof.Machine.execGrnAllClean p r s
  | .flushWalkDone r => Sys2Proof.Machine.execFlushWalkDone r s
  | .patrolScrubStep r stack found spare => Sys2Proof.Machine.execPatrolScrubStep r stack found spare s
  | .rowRepairDone r stack spare => Sys2Proof.Machine.execRowRepairDone r stack spare s
  | .hbmStartDone r trained => Sys2Proof.Machine.execHbmStartDone r trained s
  | .pseudoChannelFail r => Sys2Proof.Machine.execPseudoChannelFail r s
  | .flushWalkStep r => Sys2Proof.Machine.execFlushWalkStep r s
  | .flitReceive port num body mac fec => Sys2Proof.Machine.execFlitReceive port num body mac fec s
  | .cxlioRequest port tag kind cfg route data => Sys2Proof.Machine.execCxlioRequest port tag kind cfg route data s
  | .overflowDrain port out tc => Sys2Proof.Machine.execOverflowDrain port out tc s
  | .outputCellStart port => Sys2Proof.Machine.execOutputCellStart port s
  | .spineCellReceive r d k good => Sys2Proof.Machine.execSpineCellReceive r d k good s
  | .spineAckReceive r d k => Sys2Proof.Machine.execSpineAckReceive r d k s
  | .spineAckTimeout r d k => Sys2Proof.Machine.execSpineAckTimeout r d k s
  | .resendAcked r d => Sys2Proof.Machine.execResendAcked r d s
  | .sprayEntryAnswer r d => Sys2Proof.Machine.execSprayEntryAnswer r d s
  | .exitMarkArrive r d k => Sys2Proof.Machine.execExitMarkArrive r d k s
  | .holeTimeout port source tc => Sys2Proof.Machine.execHoleTimeout port source tc s
  | .spineCheckPassed r d => Sys2Proof.Machine.execSpineCheckPassed r d s
  | .forceSprayEntry p r d => Sys2Proof.Machine.execForceSprayEntry p r d s
  | .forceSprayExit p r d => Sys2Proof.Machine.execForceSprayExit p r d s
  | .rtRead p r entry => Sys2Proof.Machine.execRtRead p r entry s
  | .rtWrite p r entry => Sys2Proof.Machine.execRtWrite p r entry s
  | .rtClear p r entry => Sys2Proof.Machine.execRtClear p r entry s
  | .rtBarrierStart p r => Sys2Proof.Machine.execRtBarrierStart p r s
  | .rtBarrierDone r => Sys2Proof.Machine.execRtBarrierDone r s
  | .rtBarrierTimeout r => Sys2Proof.Machine.execRtBarrierTimeout r s
  | .schedulerSlot => Sys2Proof.Machine.execSchedulerSlot s
  | .spineArbitration r d k => Sys2Proof.Machine.execSpineArbitration r d k s
  | .slipAdmit r carrel unit ring tag data poison => Sys2Proof.Machine.execSlipAdmit r carrel unit ring tag data poison s
  | .policerCfgWrite p n v => Sys2Proof.Machine.execPolicerCfgWrite p n v s
  | .policerAttach p n v => Sys2Proof.Machine.execPolicerAttach p n v s
  | .ptmRequest => Sys2Proof.Machine.execPtmRequest s
  | .ptmResult master => Sys2Proof.Machine.execPtmResult master s
  | .holdoverEntry => Sys2Proof.Machine.execHoldoverEntry s
  | .gateGo p port => Sys2Proof.Machine.execGateGo p port s
  | .gateBankSwitch port => Sys2Proof.Machine.execGateBankSwitch port s
  | .gateEntryChange port => Sys2Proof.Machine.execGateEntryChange port s
  | .histDepthSample r => Sys2Proof.Machine.execHistDepthSample r s
  | .timeRegionSkew => Sys2Proof.Machine.execTimeRegionSkew s
  | .linkUp port rate width proto flit l0p reversed => Sys2Proof.Machine.execLinkUp port rate width proto flit l0p reversed s
  | .linkTrainFail port rate cxl => Sys2Proof.Machine.execLinkTrainFail port rate cxl s
  | .detectTimeout port => Sys2Proof.Machine.execDetectTimeout port s
  | .recoveryTimeout port => Sys2Proof.Machine.execRecoveryTimeout port s
  | .pvperlExpiry port => Sys2Proof.Machine.execPvperlExpiry port s
  | .wakeNAssert scan => Sys2Proof.Machine.execWakeNAssert scan s
  | .laneFault port lane cfg => Sys2Proof.Machine.execLaneFault port lane cfg s
  | .widthChange port width => Sys2Proof.Machine.execWidthChange port width s
  | .l0pPeerRequest port width => Sys2Proof.Machine.execL0pPeerRequest port width s
  | .retrain p port => Sys2Proof.Machine.execRetrain p port s
  | .disable p port on => Sys2Proof.Machine.execDisable p port on s
  | .test p port on => Sys2Proof.Machine.execTest p port on s
  | .injOne p n => Sys2Proof.Machine.execInjOne p n s
  | .injBurst p n => Sys2Proof.Machine.execInjBurst p n s
  | .checkerEnable p n => Sys2Proof.Machine.execCheckerEnable p n s
  | .lanePllUnlock port => Sys2Proof.Machine.execLanePllUnlock port s
  | .lanePllRelock port => Sys2Proof.Machine.execLanePllRelock port s
  | .receiverDetect port found => Sys2Proof.Machine.execReceiverDetect port found s
  | .linkRecoveryEntry port => Sys2Proof.Machine.execLinkRecoveryEntry port s
  | .linkRecoveryExit port => Sys2Proof.Machine.execLinkRecoveryExit port s
  | .laneMarginingCommand port m => Sys2Proof.Machine.execLaneMarginingCommand port m s
  | .spareLaneBad port => Sys2Proof.Machine.execSpareLaneBad port s
  | .patternCheckerSync n errors => Sys2Proof.Machine.execPatternCheckerSync n errors s
  | .flitAckReceive port num => Sys2Proof.Machine.execFlitAckReceive port num s
  | .flitNakReceive port num sel load => Sys2Proof.Machine.execFlitNakReceive port num sel load s
  | .creditUpdate port chan count => Sys2Proof.Machine.execCreditUpdate port chan count s
  | .kSetGo port cm => Sys2Proof.Machine.execKSetGo port cm s
  | .ideKeyProg port cm rx kset key session => Sys2Proof.Machine.execIdeKeyProg port cm rx kset key session s
  | .flowUnitReceive z num body => Sys2Proof.Machine.execFlowUnitReceive z num body s
  | .zwlInit z unit peer ganged => Sys2Proof.Machine.execZwlInit z unit peer ganged s
  | .zwlAck z num => Sys2Proof.Machine.execZwlAck z num s
  | .zwlNak z num tries => Sys2Proof.Machine.execZwlNak z num tries s
  | .zwlReq z dest tc count => Sys2Proof.Machine.execZwlReq z dest tc count s
  | .zwlGrant z dest tc count => Sys2Proof.Machine.execZwlGrant z dest tc count s
  | .zwlTimeRequest z ident turn => Sys2Proof.Machine.execZwlTimeRequest z ident turn s
  | .zwlTimeResponse z ident t3 turn => Sys2Proof.Machine.execZwlTimeResponse z ident t3 turn s
  | .swapReq z lane => Sys2Proof.Machine.execSwapReq z lane s
  | .swapAck z lane num => Sys2Proof.Machine.execSwapAck z lane num s
  | .swapDone z lane => Sys2Proof.Machine.execSwapDone z lane s
  | .swapAckTimeout z => Sys2Proof.Machine.execSwapAckTimeout z s
  | .zwlAckTimer z => Sys2Proof.Machine.execZwlAckTimer z s
  | .zwlNakRepeat z => Sys2Proof.Machine.execZwlNakRepeat z s
  | .zwlReqRepeat z dest tc => Sys2Proof.Machine.execZwlReqRepeat z dest tc s
  | .zwlGrantRepeat z dest tc => Sys2Proof.Machine.execZwlGrantRepeat z dest tc s
  | .zwlTimeExchange => Sys2Proof.Machine.execZwlTimeExchange s
  | .zwlCtrlDiscard z => Sys2Proof.Machine.execZwlCtrlDiscard z s
  | .ctxRead p r q => Sys2Proof.Machine.execCtxRead p r q s
  | .ctxCreate p r q => Sys2Proof.Machine.execCtxCreate p r q s
  | .ctxModify p r q => Sys2Proof.Machine.execCtxModify p r q s
  | .ctxDestroy p r q => Sys2Proof.Machine.execCtxDestroy p r q s
  | .producerDoorbell via b => Sys2Proof.Machine.execProducerDoorbell via b s
  | .consumerDoorbell via b => Sys2Proof.Machine.execConsumerDoorbell via b s
  | .indexWordWrite q => Sys2Proof.Machine.execIndexWordWrite q s
  | .ctxCacheFill q => Sys2Proof.Machine.execCtxCacheFill q s
  | .noticeWordLatch p q => Sys2Proof.Machine.execNoticeWordLatch p q s
  | .noticeWordRead p q => Sys2Proof.Machine.execNoticeWordRead p q s
  | .noticeMark p q => Sys2Proof.Machine.execNoticeMark p q s
  | .noticeRewind p q => Sys2Proof.Machine.execNoticeRewind p q s
  | .noticeRelease p q count => Sys2Proof.Machine.execNoticeRelease p q count s
  | .noticeSkip p q => Sys2Proof.Machine.execNoticeSkip p q s
  | .slipDeliver q carrel srcPort srcUnit tag data poison => Sys2Proof.Machine.execSlipDeliver q carrel srcPort srcUnit tag data poison s
  | .descriptorFetch c => Sys2Proof.Machine.execDescriptorFetch c s
  | .descriptorReadError c => Sys2Proof.Machine.execDescriptorReadError c s
  | .dmvCopy c desc => Sys2Proof.Machine.execDmvCopy c desc s
  | .dmvFill c desc => Sys2Proof.Machine.execDmvFill c desc s
  | .dmvCheck c desc => Sys2Proof.Machine.execDmvCheck c desc s
  | .dmvNop c desc => Sys2Proof.Machine.execDmvNop c desc s
  | .dmvBurstIssue c => Sys2Proof.Machine.execDmvBurstIssue c s
  | .dmvBurstComplete c off rsp data => Sys2Proof.Machine.execDmvBurstComplete c off rsp data s
  | .readbackComplete c rsp data => Sys2Proof.Machine.execReadbackComplete c rsp data s
  | .dmvCqHoldTmo c => Sys2Proof.Machine.execDmvCqHoldTmo c s
  | .shadowArm p c => Sys2Proof.Machine.execShadowArm p c s
  | .dmvAbort p c => Sys2Proof.Machine.execDmvAbort p c s
  | .ringTableWrite p n v => Sys2Proof.Machine.execRingTableWrite p n v s
  | .crlCreate p k => Sys2Proof.Machine.execCrlCreate p k s
  | .crlFreeze p k => Sys2Proof.Machine.execCrlFreeze p k s
  | .carrelFrozen k => Sys2Proof.Machine.execCarrelFrozen k s
  | .crlThaw p k => Sys2Proof.Machine.execCrlThaw p k s
  | .crlSave p k host => Sys2Proof.Machine.execCrlSave p k host s
  | .saveDone good => Sys2Proof.Machine.execSaveDone good s
  | .crlRestore p k src => Sys2Proof.Machine.execCrlRestore p k src s
  | .crlDestroy p k => Sys2Proof.Machine.execCrlDestroy p k s
  | .carrelSlotWrite p k slot v => Sys2Proof.Machine.execCarrelSlotWrite p k slot v s
  | .carrelShareWrite p k hi v => Sys2Proof.Machine.execCarrelShareWrite p k hi v s
  | .leadTakeover => Sys2Proof.Machine.execLeadTakeover s
  | .mpuBarrier p r => Sys2Proof.Machine.execMpuBarrier p r s
  | .mpuBarrierDone r => Sys2Proof.Machine.execMpuBarrierDone r s
  | .halt t => Sys2Proof.Machine.execHalt t s
  | .ldi t d imm => Sys2Proof.Machine.execLdi t d imm s
  | .luh t d imm => Sys2Proof.Machine.execLuh t d imm s
  | .ld t d a off => Sys2Proof.Machine.execLd t d a off s
  | .st t d a off => Sys2Proof.Machine.execSt t d a off s
  | .add t d a b => Sys2Proof.Machine.execAdd t d a b s
  | .sub t d a b => Sys2Proof.Machine.execSub t d a b s
  | .addi t d a imm => Sys2Proof.Machine.execAddi t d a imm s
  | .and t d a b => Sys2Proof.Machine.execAnd t d a b s
  | .or t d a b => Sys2Proof.Machine.execOr t d a b s
  | .xor t d a b => Sys2Proof.Machine.execXor t d a b s
  | .andi t d a imm => Sys2Proof.Machine.execAndi t d a imm s
  | .shli t d a sh => Sys2Proof.Machine.execShli t d a sh s
  | .shri t d a sh => Sys2Proof.Machine.execShri t d a sh s
  | .cbr t a b cond tgt => Sys2Proof.Machine.execCbr t a b cond tgt s
  | .call t tgt => Sys2Proof.Machine.execCall t tgt s
  | .ret t => Sys2Proof.Machine.execRet t s
  | .wait t d mask unit count => Sys2Proof.Machine.execWait t d mask unit count s
  | .waitb t d a bit val unit count => Sys2Proof.Machine.execWaitb t d a bit val unit count s
  | .delay t unit count => Sys2Proof.Machine.execDelay t unit count s
  | .event t a code => Sys2Proof.Machine.execEvent t a code s
  | .reply t a b => Sys2Proof.Machine.execReply t a b s
  | .yield t => Sys2Proof.Machine.execYield t s
  | .trap t code => Sys2Proof.Machine.execTrap t code s
  | .waitWake t => Sys2Proof.Machine.execWaitWake t s
  | .waitTimeout t => Sys2Proof.Machine.execWaitTimeout t s
  | .waitbMatch t => Sys2Proof.Machine.execWaitbMatch t s
  | .ldReturn t => Sys2Proof.Machine.execLdReturn t s
  | .storeComplete t => Sys2Proof.Machine.execStoreComplete t s
  | .tillerRunaway t => Sys2Proof.Machine.execTillerRunaway t s
  | .tillerRun p t => Sys2Proof.Machine.execTillerRun p t s
  | .tillerStop p t => Sys2Proof.Machine.execTillerStop p t s
  | .postCmd p t => Sys2Proof.Machine.execPostCmd p t s
  | .handlerRestart t => Sys2Proof.Machine.execHandlerRestart t s
  | .readRecord t => Sys2Proof.Machine.execReadRecord t s
  | .writeRecord t => Sys2Proof.Machine.execWriteRecord t s
  | .writeGroup t => Sys2Proof.Machine.execWriteGroup t s
  | .barrier t => Sys2Proof.Machine.execBarrier t s
  | .postAdd t => Sys2Proof.Machine.execPostAdd t s
  | .reshelve t => Sys2Proof.Machine.execReshelve t s
  | .svcRuleWrite t => Sys2Proof.Machine.execSvcRuleWrite t s
  | .setTimer t => Sys2Proof.Machine.execSetTimer t s
  | .requestDeadline handle => Sys2Proof.Machine.execRequestDeadline handle s
  | .handlerTimeslice r => Sys2Proof.Machine.execHandlerTimeslice r s
  | .timerDue t => Sys2Proof.Machine.execTimerDue t s
  | .carrelCreate ep port pasid template mask => Sys2Proof.Machine.execCarrelCreate ep port pasid template mask s
  | .carrelChange ep port pasid item value idx => Sys2Proof.Machine.execCarrelChange ep port pasid item value idx s
  | .carrelFreeze ep port pasid => Sys2Proof.Machine.execCarrelFreeze ep port pasid s
  | .carrelSave ep port pasid host addr => Sys2Proof.Machine.execCarrelSave ep port pasid host addr s
  | .carrelRestore ep port pasid rec_ src base => Sys2Proof.Machine.execCarrelRestore ep port pasid rec_ src base s
  | .carrelThaw ep port pasid => Sys2Proof.Machine.execCarrelThaw ep port pasid s
  | .carrelDestroy ep port pasid => Sys2Proof.Machine.execCarrelDestroy ep port pasid s
  | .queueCreate ep port pasid slot ctx => Sys2Proof.Machine.execQueueCreate ep port pasid slot ctx s
  | .queueDestroy ep port pasid slot => Sys2Proof.Machine.execQueueDestroy ep port pasid slot s
  | .requestCapacity ep port shelves mode gclass group => Sys2Proof.Machine.execRequestCapacity ep port shelves mode gclass group s
  | .mbxCommandTimeout ep => Sys2Proof.Machine.execMbxCommandTimeout ep s
  | .identifySwitchDevice via => Sys2Proof.Machine.execIdentifySwitchDevice via s
  | .getPhysicalPortState via ports => Sys2Proof.Machine.execGetPhysicalPortState via ports s
  | .physicalPortControl via port op => Sys2Proof.Machine.execPhysicalPortControl via port op s
  | .sendPpbCxlioConfigRequest via port write reg data => Sys2Proof.Machine.execSendPpbCxlioConfigRequest via port write reg data s
  | .getVirtualCxlSwitchInfo via vcs => Sys2Proof.Machine.execGetVirtualCxlSwitchInfo via vcs s
  | .bindVppb via vcs vppb port ld => Sys2Proof.Machine.execBindVppb via vcs vppb port ld s
  | .unbindVppb via vcs vppb => Sys2Proof.Machine.execUnbindVppb via vcs vppb s
  | .generateAerEvent via vcs vppb => Sys2Proof.Machine.execGenerateAerEvent via vcs vppb s
  | .tunnelManagementCommand via port payload => Sys2Proof.Machine.execTunnelManagementCommand via port payload s
  | .sendLdCxlioConfigRequest via port ld write reg data => Sys2Proof.Machine.execSendLdCxlioConfigRequest via port ld write reg data s
  | .sendLdCxlioMemoryRequest via port ld write addr data => Sys2Proof.Machine.execSendLdCxlioMemoryRequest via port ld write addr data s
  | .getDcdInfo via => Sys2Proof.Machine.execGetDcdInfo via s
  | .getHostDcRegionConfiguration via host => Sys2Proof.Machine.execGetHostDcRegionConfiguration via host s
  | .getDcRegionExtentLists via host => Sys2Proof.Machine.execGetDcRegionExtentLists via host s
  | .initiateDynamicCapacityAdd via host shelves mode gclass group tag => Sys2Proof.Machine.execInitiateDynamicCapacityAdd via host shelves mode gclass group tag s
  | .initiateDynamicCapacityRelease via host shelf count => Sys2Proof.Machine.execInitiateDynamicCapacityRelease via host shelf count s
  | .setDcRegionConfiguration via => Sys2Proof.Machine.execSetDcRegionConfiguration via s
  | .i3cRegRead addr => Sys2Proof.Machine.execI3cRegRead addr s
  | .i3cRegWrite addr data => Sys2Proof.Machine.execI3cRegWrite addr data s
  | .i3cReplyRead => Sys2Proof.Machine.execI3cReplyRead s
  | .i3cEnec => Sys2Proof.Machine.execI3cEnec s
  | .i3cDisec => Sys2Proof.Machine.execI3cDisec s
  | .i3cDaa addr => Sys2Proof.Machine.execI3cDaa addr s
  | .ibiSend => Sys2Proof.Machine.execIbiSend s
  | .libWatchdog r => Sys2Proof.Machine.execLibWatchdog r s
  | .perstNDeassert fuse test => Sys2Proof.Machine.execPerstNDeassert fuse test s
  | .supplyCheckPass slotA slotB => Sys2Proof.Machine.execSupplyCheckPass slotA slotB s
  | .rootLock ppm => Sys2Proof.Machine.execRootLock ppm s
  | .sramWiped => Sys2Proof.Machine.execSramWiped s
  | .earlySectionsVerified slotA slotB => Sys2Proof.Machine.execEarlySectionsVerified slotA slotB s
  | .lateSectionsChecked flash => Sys2Proof.Machine.execLateSectionsChecked flash s
  | .flashReadTimeout => Sys2Proof.Machine.execFlashReadTimeout s
  | .firmwareStarted => Sys2Proof.Machine.execFirmwareStarted s
  | .ready ms => Sys2Proof.Machine.execReady ms s
  | .poolDeviceEnumerated port serial => Sys2Proof.Machine.execPoolDeviceEnumerated port serial s
  | .rollbackCommit p => Sys2Proof.Machine.execRollbackCommit p s
  | .rollbackFuseDone good => Sys2Proof.Machine.execRollbackFuseDone good s
  | .nonceRead p => Sys2Proof.Machine.execNonceRead p s
  | .lcOwn p => Sys2Proof.Machine.execLcOwn p s
  | .lcReturn p => Sys2Proof.Machine.execLcReturn p s
  | .lcScrap p => Sys2Proof.Machine.execLcScrap p s
  | .dbgUnlock p => Sys2Proof.Machine.execDbgUnlock p s
  | .lcFuseDone good => Sys2Proof.Machine.execLcFuseDone good s
  | .spdmRequest endpoint op => Sys2Proof.Machine.execSpdmRequest endpoint op s
  | .debugAccess op => Sys2Proof.Machine.execDebugAccess op s
  | .boundaryScan op => Sys2Proof.Machine.execBoundaryScan op s
  | .slotConversion c v => Sys2Proof.Machine.execSlotConversion c v s
  | .diodeMeasure c dv => Sys2Proof.Machine.execDiodeMeasure c dv s
  | .slotInsert c long => Sys2Proof.Machine.execSlotInsert c long s
  | .slotRemoval c long => Sys2Proof.Machine.execSlotRemoval c long s
  | .debounceEnd c => Sys2Proof.Machine.execDebounceEnd c s
  | .slotStart p c => Sys2Proof.Machine.execSlotStart p c s
  | .slotOff p c => Sys2Proof.Machine.execSlotOff p c s
  | .slotClear p c => Sys2Proof.Machine.execSlotClear p c s
  | .precheckTimeout c => Sys2Proof.Machine.execPrecheckTimeout c s
  | .faultTimer c => Sys2Proof.Machine.execFaultTimer c s
  | .rampWindow c => Sys2Proof.Machine.execRampWindow c s
  | .fastTrip c => Sys2Proof.Machine.execFastTrip c s
  | .passFetCheck c vgs => Sys2Proof.Machine.execPassFetCheck c vgs s
  | .powerGood c => Sys2Proof.Machine.execPowerGood c s
  | .coolEnd c => Sys2Proof.Machine.execCoolEnd c s
  | .tripCountReset c => Sys2Proof.Machine.execTripCountReset c s
  | .busWarnClear => Sys2Proof.Machine.execBusWarnClear s
  | .hkSourceSwitch => Sys2Proof.Machine.execHkSourceSwitch s
  | .refclkLoss => Sys2Proof.Machine.execRefclkLoss s
  | .rootUnlock r => Sys2Proof.Machine.execRootUnlock r s
  | .railConversion m v => Sys2Proof.Machine.execRailConversion m v s
  | .railWarnClear m => Sys2Proof.Machine.execRailWarnClear m s
  | .brownoutResume => Sys2Proof.Machine.execBrownoutResume s
  | .perstNAssert => Sys2Proof.Machine.execPerstNAssert s
  | .warmRstNAssert => Sys2Proof.Machine.execWarmRstNAssert s
  | .warmRstNDeassert => Sys2Proof.Machine.execWarmRstNDeassert s
  | .warmResetCmd p key => Sys2Proof.Machine.execWarmResetCmd p key s
  | .pdFlushEnd ms => Sys2Proof.Machine.execPdFlushEnd ms s
  | .pdFlushCutoff => Sys2Proof.Machine.execPdFlushCutoff s
  | .rgnRstNAssert r => Sys2Proof.Machine.execRgnRstNAssert r s
  | .powerOn => Sys2Proof.Machine.execPowerOn s
  | .keeperPowerLoss => Sys2Proof.Machine.execKeeperPowerLoss s
  | .regionIsolated r => Sys2Proof.Machine.execRegionIsolated r s
  | .blockResetDone set => Sys2Proof.Machine.execBlockResetDone set s
  | .selfResetTmo set => Sys2Proof.Machine.execSelfResetTmo set s
  | .blkWaitTmo set => Sys2Proof.Machine.execBlkWaitTmo set s
  | .retainedCopyDone copied => Sys2Proof.Machine.execRetainedCopyDone copied s
  | .faultPinMismatch => Sys2Proof.Machine.execFaultPinMismatch s
  | .cesMaskWrite p set mask => Sys2Proof.Machine.execCesMaskWrite p set mask s
  | .msixMergeEnd set => Sys2Proof.Machine.execMsixMergeEnd set s
  | .recordWrite u => Sys2Proof.Machine.execRecordWrite u s
  | .histFrame r => Sys2Proof.Machine.execHistFrame r s
  | .wearSample temps => Sys2Proof.Machine.execWearSample temps s
  | .wearLoad p => Sys2Proof.Machine.execWearLoad p s
  | .wearSeal p => Sys2Proof.Machine.execWearSeal p s
  | .arcFreeze p u => Sys2Proof.Machine.execArcFreeze p u s
  | .arcUnfreeze p u => Sys2Proof.Machine.execArcUnfreeze p u s
  | .freezeExpired u => Sys2Proof.Machine.execFreezeExpired u s
  | .recordAreaRelease p u => Sys2Proof.Machine.execRecordAreaRelease p u s
  | .histAreaRelease p r => Sys2Proof.Machine.execHistAreaRelease p r s
  | .extremesClear p u => Sys2Proof.Machine.execExtremesClear p u s
  | .counterClear p n => Sys2Proof.Machine.execCounterClear p n s
  | .counterLoRead p n => Sys2Proof.Machine.execCounterLoRead p n s
  | .timeLoRead p => Sys2Proof.Machine.execTimeLoRead p s
  | .patternCountRead p n => Sys2Proof.Machine.execPatternCountRead p n s
  | .snapshotCapture => Sys2Proof.Machine.execSnapshotCapture s
  | .snapshotNow p => Sys2Proof.Machine.execSnapshotNow p s
  | .snapshotWritten => Sys2Proof.Machine.execSnapshotWritten s
  | .pulseIgnored pin ns => Sys2Proof.Machine.execPulseIgnored pin ns s
  | .registerReadClear p addr => Sys2Proof.Machine.execRegisterReadClear p addr s

end Sys2Proof.Machine
end

