-- ==== Sys2Proof/Machine/Tick.lean ====
section
/-! DEFINITION. What happens when no command waits: a nanosecond of fabric time (R231, R232). -/
namespace Sys2Proof.Machine
open Sys2Proof

/-- How far an offset that is removed by rate moves fabric time in this nanosecond: one in 5,000, which is 200 ppm (R232). -/
def slewStep (slew : Int) (n : Nat) : Int :=
  if slew = 0 || n < 5000 then 0 else if slew > 0 then 1 else -1

/-- A word time of every Zwius link that is not down (R278). DESIGN CHOICE: it is a nanosecond, where 66 bits on a lane of 64 GT/s take 1.03
ns (log entry 90). -/
def State.wordTimes (s : State) : State := (List.range 8).foldl State.wordTime s

/-- Every region's copy of fabric time whose ROOT is locked counts on (R231), and firmware goes on with what waited for barriers
(R66, R68, R71); Zwius links carry their blocks. -/
def tick (sz : State) : State :=
  let s0 := if (List.range 8).all (fun z => sz.get ZWL_STS.STATE z == 0) then sz else sz.wordTimes
  let s := if s0.bnd.toRelease = [] && s0.bnd.addWait = [] && s0.bnd.taken = [] && s0.lib.heldReply = [] then s0 else s0.bindStep
  let n := s.tfc.slewNs + 1
  let d := slewStep s.tfc.slew n
  let count (m : Tab Nat) (r : Nat) : Tab Nat :=
    if (s.get CRS_CLK_STS.ROOT_LOCK 0).testBit r then Tab.put 0 m r (((Tab.get 0 m r + 1 : Nat) + d).toNat % 2 ^ 64) else m
  { s with
    time := [0, 1, 2, 3].foldl count s.time
    tfc := { s.tfc with slew := s.tfc.slew - d, slewNs := if s.tfc.slew = 0 || 5000 ≤ n then 0 else n } }

end Sys2Proof.Machine
end

