-- ==== Sys2Proof/Safety.lean ====
section
/-! DEFINITION. The terms in which the statements speak of a step: what admits a register command, what a command leaves
unchanged, and the invariant that every step keeps. -/
namespace Sys2Proof.Machine
open Sys2Proof

/-- A command in a register of a common error set's block is admitted: the block's window answers (R469) and the path may write
(R382, R497). -/
abbrev State.admits (s : State) (p : Path) (set : Nat) : Prop := s.windowGone (setUnit set) = false ∧ s.mayWrite p = true

/-- Firmware has nothing to do for barriers: no shelf to release, no add or reply that waits, no barrier of its own or of a service
operation (R66, R68, R71, R367). -/
abbrev State.bindQuiet (s : State) : Prop := s.bnd.toRelease = [] ∧ s.bnd.addWait = [] ∧ s.bnd.taken = [] ∧ s.bnd.fwBar = [] ∧
  s.lib.heldReply = [] ∧ s.lib.svcBar = []

/-- Every register but those of a list keeps its words. -/
def wordsKept (s t : State) (rs : List Reg) : Prop := ∀ r i, r ∉ rs → t.word r i = s.word r i

/-- Every register word but those of a list keeps its value; the OVF bits of the performance counters are not looked at, since a
counted event may set them (R492). -/
def wordsAt (s t : State) (l : List (Reg × Nat)) : Prop := ∀ r i, r ≠ .PMC_CFG → i < 2 ^ 24 → (r, i) ∉ l → t.word r i = s.word r i

/-- Tiller t goes on at an index, with x beside its registers; of the machine nothing changes but the words of a list, the tiller's
status word, x, and what the performance counters count (R363, R365). -/
def State.tilWent (s u : State) (t : Nat) (x : Tiller) (pc : Nat) (l : List (Reg × Nat)) : Prop :=
  u.get TIL_STS.PC t = pc % 2048 ∧ u.get TIL_STS.STATE t = 1 ∧ wordsAt s u ((.TIL_STS, t) :: l) ∧
    { u with regs := s.regs, arc := s.arc } = s.setTiller t x

/-- A tiller beside its registers after one more instruction. -/
def State.ranOne (s : State) (t : Nat) : Tiller := { s.tiller t with ran := (s.tiller t).ran + 1 }

/-- An instruction wrote T[d] and nothing else, and the tiller is at the next index. -/
def State.tilWrote (s u : State) (t d : Nat) (v : Word) : Prop :=
  u.tReg t d = v ∧ s.tilWent u t (s.ranOne t) (s.get TIL_STS.PC t + 1) [(.TIL_T, 16 * t + d)]

/-- A tiller waits; a dedicated tiller's wait changes nothing else (R359, R369). -/
def State.tilAwaits (s u : State) (t : Nat) (w : TWait) (mask : Nat) : Prop :=
  u.get TIL_STS.STATE t = 2 ∧ u.get TIL_STS.PC t = s.get TIL_STS.PC t ∧ u.get TIL_EVT.MASK t = mask ∧ (u.tiller t).wait = w ∧
    (isHosted t = false → wordsAt s u [(.TIL_STS, t), (.TIL_EVT, t)] ∧
      { u with regs := s.regs } = s.setTiller t { s.tiller t with wait := w, ran := 0 })

/-- A mailbox whose software has staged a command with its payload and set DOORBELL (R370). -/
def State.mbxGiven (s : State) (ep op : Nat) (payload : List Byte) : State :=
  let s1 := (s.mbxPut ep payload).setMbxCmd ep (BitVec.ofNat 32 (op + payload.length * 65536))
  s1.setMbxCtl ep (putBits (s1.mbxCtl ep) 0 1 1)

/-- A service operation of number op is under way that firmware performs now: the home core's window answers, and no barrier of the
handler is awaited (R362, R367, R469). -/
abbrev State.serves (s : State) (t op : Nat) : Prop := isHosted t = true ∧ s.svcBusy t = true ∧ s.ctxWord t 0x228 = op ∧
  s.windowGone (t / 48) = false ∧ s.lib.svcBar.any (fun e => e.1 == t) = false

/-- A mailbox's staging writes arrive: the machine is ready, and an endpoint function's port is an UP port (R370, R382). -/
abbrev State.mbxComes (s : State) (ep : Nat) : Prop := s.flag SEC_BOOT_STS.READY 0 = true ∧ (ep < 64 → s.isUp ep = true)

/-- The lead core performs an FM API command that comes by this transport at once (R353, R373, R382). -/
abbrev State.fmHears (s : State) (via : FmVia) : Prop :=
  s.leadRuns = true ∧ (via = .i3c ∨ ((s.managerPort.map s.inL0) = some true ∧ s.flag SEC_BOOT_STS.READY 0 = true)) ∧ s.fmBusy = false

/-- Nothing but register words differs. -/
abbrev onlyRegs (s t : State) : Prop := { t with regs := s.regs } = s

/-- A state without what an error or event report changes: register words, common error sets, messages, pending in-band
interrupts, the Archive, and the fault outputs (R460–R472). -/
def State.quiet (s : State) : State :=
  { s with regs := [], ces := [], out := [], i3c := {}, arc := {}, flt := {}, fatal := false }

/-- Nothing is in the way of a request at its home: the region answers, no switch-over stalls the shelf, no agent is dead, the
checks of R59 pass for reading and writing, the requester's host is this unit's and its address falls in its window, the machine is
ready, the desk is idle, and no store that the request meets has an error. -/
abbrev State.openFor (s : State) (a : Access) : Prop :=
  s.rgn (homeOf a.addr.toNat) ≠ 2 ∧ s.stalled (shelfOf a.addr.toNat) = false ∧ s.cat.dead = [] ∧ s.cat.trk = [] ∧ s.cat.voq = [] ∧
    s.lookup a a.addr.toNat true true = none ∧ agentUnit a.agent = s.unit ∧
    s.flag SEC_BOOT_STS.READY 0 = true ∧ s.mapped a = some a ∧ a.chk = {}

/-- The cells of t, and the messages that have left, are those of v. -/
abbrev State.sends (t v : State) : Prop := t.swc = v.swc ∧ t.out = v.out

/-- The backing set of an address is cached with contents c, and its cache set has room (R98). -/
abbrev State.setReady (s : State) (fa : Nat) (c : CatSet) : Prop :=
  s.cachedSet (homeOf fa) (catIndex fa) = some c ∧ (Tab.get [] s.cat.lru (2 ^ 14 * homeOf fa + catIndex fa % 2 ^ 14)).length < 12

/-- The ways of a cached backing set. -/
abbrev State.waysAre (s : State) (fa : Nat) (l : List Entry) : Prop :=
  (s.cachedSet (homeOf fa) (catIndex fa)).map (fun c => c.ways) = some l

/-- A tracker holds the data of its line and waits for the check of its column (R104). -/
abbrev State.reading (s : State) (k line : Nat) (d : LineData) : Prop :=
  (s.trk k).map (fun t => (t.line, t.phase, t.held)) = some (line, TrkPhase.data, some d)

/-- Bit e of a common error set's STS is set. -/
abbrev State.stsBit (s : State) (set e : Nat) : Prop := (s.cesSet set).sts.getLsbD e = true

/-- A message answers a read with poison. -/
def poisonTo (a : Agent) (tag : BitVec 16) (m : Msg) : Bool :=
  match m with
  | .grant b g _ (some d) => b == a && g == tag && d.poison
  | _ => false

/-- Every byte of the stacks outside n bytes from a key reads as before. -/
abbrev hbmKept (s t : State) (a n : Nat) : Prop := ∀ k, (k < a ∨ a + n ≤ k) → peek t.hbm k = peek s.hbm k

/-- A doorbell that comes by one of the ways of R307 names queue ID q, for a carrel where it came through the carrel's slot: the
machine is ready for a port's write (R382), the region's window answers, and the slot is the writer's (R340). -/
def State.doorComes (s : State) (via : DoorVia) (q : Nat) (carrel : Option Nat) : Bool :=
  match via with
  | .endpoint x => s.flag SEC_BOOT_STS.READY 0 && q == x.toNat && carrel == none
  | .librarian r x => !s.windowGone r && q == x.toNat && carrel == none
  | .slot port pasid k x => s.flag SEC_BOOT_STS.READY 0 && s.slotTakes port pasid k.toNat x &&
      q == s.get CRL_SLOT.QID (64 * k.toNat + x) && carrel == some k.toNat

/-- Word n of a carrel's counters counted once more (R343). -/
abbrev State.counted (s t : State) (k n : Nat) : Prop :=
  Tab.get 0 t.dmv.ctr (32 * k + n) = BitVec.ofNat 48 ((Tab.get 0 s.dmv.ctr (32 * k + n)).toNat + 1) ∧
    ∀ j, j ≠ 32 * k + n → Tab.get 0 t.dmv.ctr j = Tab.get 0 s.dmv.ctr j

/-- A write of an aligned offset by a path reaches a target (R382, R469, R409, R497). -/
abbrev State.writeReaches (s : State) (p : Path) (a : BitVec 32) (t : Target) : Prop :=
  target a.toNat = t ∧ a.toNat % 4 = 0 ∧ s.unheard p = false ∧ s.addrGone a.toNat = false ∧
    (p = .debug → s.debugLocked t a.toNat = false) ∧ s.pathWrites p t a.toNat = true

/-- A read by a path reaches a target: the aligned offset that holds the address (R382, R469, R409, R497). -/
abbrev State.readReaches (s : State) (p : Path) (a : BitVec 32) (t : Target) : Prop :=
  target (a.toNat / 4 * 4) = t ∧ s.unheard p = false ∧ s.addrGone (a.toNat / 4 * 4) = false ∧
    (p = .debug → s.debugLocked t (a.toNat / 4 * 4) = false) ∧ s.pathReads p (a.toNat / 4 * 4) = true

/-- A byte of the management mailbox's payload (R370). -/
def State.payloadByte (s : State) (k : Nat) : Byte := Tab.get 0 (Tab.get ({} : Mailbox) s.lib.mbx 64).payload k

/-- A register with the written fields taken (R19–R21, R44), the discard counted in the set of its block. -/
abbrev State.stored (s : State) (r : Reg) (i : Nat) (d : BitVec 64) (a : BitVec 32) : State :=
  s.storeFields r i (d.setWidth 32) (regSet s r i a.toNat)

/-- A register whose bits start something when they are written, or that takes its word whole. -/
def Reg.acting : List Reg :=
  [.BND_SREC_CMD, .BND_GRP_CMD, .BND_RULE_CMD, .BND_BAR_CMD, .BND_FAULT_INFO, .BND_RSH_CTL, .CAT_ENT_CMD, .CAT_RCL_CMD, .CAT_PLG_CMD,
   .GRN_FLUSH_CMD, .SWC_SPN_CTL, .SWC_RT_CMD, .SWC_RT_BAR, .SWC_GLN_CTL, .TFC_TIME_CTL, .TFC_GATE_CTL, .PRT_PORT_CTL, .PRT_PAT_CTL,
   .QMG_CTX_CMD, .QMG_DB_HI, .QMG_ERR_CAP, .QMG_WIN_OP, .DMV_CH_CTL, .DMV_CH_CMD, .CRL_CMD, .LIB_MPU_BAR, .LIB_MBX_CTL, .TIL_CTL,
   .SEC_RB_CMD, .SEC_TOKEN_CMD, .SPW_CMD, .CRS_RST_CMD, .ARC_CTL, .ARC_FRZ, .ARC_REC, .ARC_HIST, .ARC_WEAR_CMD, .PMC_CFG, .PMC_SNAP_CTL,
   .TFC_POL_CFG, .TFC_POL_ATT, .TFC_SHP_CFG, .CRS_SUP_CTL, .TFC_GATE_DUR, .TFC_GATE_MASK, .DMV_CH_RING, .CRL_SLOT, .CRL_CHAN_LO,
   .CRL_CHAN_HI, .LIB_MPU_BASE, .LIB_MPU_LIMIT, .LIB_MBX_CMD, .ARC_WIN_SEL]

/-- A register whose read returns more than its stored word. -/
def Reg.views : List Reg :=
  [.TFC_TIME_LO, .TFC_TIME_HI, .PMC_CNT_LO, .PMC_CNT_HI, .PRT_PAT_CNT_LO, .PRT_PAT_CNT_HI, .SEC_NONCE_LO, .SEC_NONCE_HI, .SEC_MEAS_D,
   .TFC_POL_STS, .TFC_GATE_CUR, .CHIP_CES_SUM, .ARC_WIN_SEL, .QMG_WIN_DATA_LO, .QMG_WIN_DATA_HI, .QMG_WIN_STS, .QMG_WIN_LOST,
   .QMG_WIN_PROD, .QMG_WIN_CONS, .QMG_WIN_RD, .SWC_VOQ_OCC, .CAT_LD_OCC]

/-- What holds of the machine at reset and after every step: both memories are in canonical form, and so is the table of
register words. -/
abbrev State.Inv (s : State) : Prop := Memory.wf s.hbm ∧ Memory.wf s.ret ∧ Tab.sorted s.regs = true

end Sys2Proof.Machine
end

