-- ==== Sys2Proof/Certificates/Slice0/Obligations.lean ====
section
/-! DEFINITION. The statements for the provers. -/
open Sys2Proof Sys2Proof.Machine

/-- For every command c and queue rest, a step of the state with c in front is exec of c on the state with the rest. On an empty queue, with no offset to remove, no Zwius link up and no release, add or reply waiting for a barrier, each region's fabric time whose ROOT is locked is one more, the others stand, and nothing else but the count of the slew changes. That an idle step is one nanosecond is the model's choice (log entry 6). -/
def Obligations.StepRunsTheFrontCommand : Prop :=
  (∀ (s : State) (c : Instr) (rest : List Instr),
    step { s with pending := c :: rest } = exec c { s with pending := rest } ∧ step (State.withCommand { s with pending := rest } c) = exec c { s with pending := rest }) ∧
  (∀ (s : State),
    s.pending = [] →
    s.tfc.slew = 0 →
    ∀ z < 8, s.get ZWL_STS.STATE z = 0 →
    s.bindQuiet →
    ∃ t, step s = .next t ∧ (∀ r : Region, Tab.get 0 t.time r = if (s.get CRS_CLK_STS.ROOT_LOCK 0).testBit r then (Tab.get 0 s.time r + 1) % 2 ^ 64 else Tab.get 0 s.time r) ∧
      t.tfc.slewNs = 0 ∧ { t with time := s.time, tfc := s.tfc } = s)

/-- In the reset state: every register word is the word of its Reset column; the queue is empty; every shelf record is FREE; every carrel is FREE; every queue context is invalid; the chip is not under CHIP_FATAL and every region is RUNNING; the invariant of every step holds. Register values for which the spec gives no Reset value, and bytes that read 0, are the model's (log entries 2 and 3). -/
def Obligations.ResetState : Prop :=
  State.reset.pending = [] ∧ State.reset.fatal = false ∧ (∀ r : Region, State.reset.rgn r = 0) ∧
    (∀ r i, State.reset.word r i = resetWord r i) ∧ (∀ x, rget (State.reset.srec x) rState = 0) ∧
    (∀ k, k < 4096 → State.reset.get CRL_CFG.STATE k = 0) ∧ (∀ q, cget (State.reset.ctx q) cValid = 0) ∧ State.reset.Inv

/-- For every command and every state, exec answers a next state, never a fault or a refusal, and the queue of waiting commands is as it was. -/
def Obligations.EveryCommandCompletes : Prop :=
  ∀ (c : Instr) (s : State),
    ∃ t, exec c s = .next t ∧ t.pending = s.pending

/-- If the stacks' memory and the retained SRAM are in canonical form and the register words are listed in order, each once, then so they are after a step, whichever command is in front, and also on an empty queue. -/
def Obligations.StepKeepsInvariant : Prop :=
  ∀ (s t : State),
    s.Inv →
    step s = .next t →
    t.Inv

/-- For every command but POWER_ON, KEEPER_POWER_LOSS and a conversion of VDD_KPR, rail 6: a machine under CHIP_FATAL is under CHIP_FATAL after it. A conversion of rail 6 within its levels leaves it too. -/
def Obligations.ChipFatalStays : Prop :=
  (∀ (c : Instr) (s t : State),
    s.fatal = true →
    c ≠ .powerOn →
    c ≠ .keeperPowerLoss →
    ∀ v, c ≠ .railConversion 6 v →
    exec c s = .next t →
    t.fatal = true) ∧
  (∀ (s t : State) (v : RailReading),
    s.fatal = true →
    v.bad = false →
    s.get CRS_RAIL_LO.RESET 6 ≤ railLowest v →
    exec (.railConversion 6 v) s = .next t →
    t.fatal = true)

/-- For a write of n bytes at an address of a stack: each byte reads back, the number of its low 8n bits reads back whole, every byte outside the written ones reads as before, in this stack and in every other, and nothing but the stacks' memory changes. -/
def Obligations.StackMemoryReadsBack : Prop :=
  ∀ (s : State) (st a n v : Nat),
    (∀ i < n, peek (s.hbmWrite st a n v).hbm (hbmAt st a + i) = BitVec.ofNat 8 (v / 256 ^ i)) ∧ (s.hbmWrite st a n v).hbmRead st a n = v % 256 ^ n ∧
    hbmKept s (s.hbmWrite st a n v) (hbmAt st a) n ∧ { s.hbmWrite st a n v with hbm := s.hbm } = s ∧
    (Memory.wf s.hbm → Memory.wf (s.hbmWrite st a n v).hbm)

/-- With BUSY 0, SREC_READ of a shelf of the region loads the four data words and RESULT 0 and changes nothing else; of a shelf of another region it reads RESULT 1 and loads nothing. SREC_WRITE of a record that passes every check commits it with EPOCH plus 1 and leaves every other shelf record alone; where the shelf was re-shelved by a running slot, the record returns to BOUND on its source and the slot ends ABORTED. One that fails a check sets RESULT to the first failing check and changes nothing else, but that a HOME field that names another region also counts as a write discard. While BUSY, either command stores SHELF and OP and is discarded. Which RESULT an ended slot shows is free (log entry 36). A write of a register of the group that reaches it stores the fields and does what the written bits start: the same as the command. Given by a path that may not write its register, a command is counted as a discard and does nothing else; in the window of an isolated region, or through the manager port before ready, it does nothing. -/
def Obligations.ShelfRecordCommands : Prop :=
  (∀ (s : State) (p : Path) (r : Region) (x : Shelf),
    s.admits p (bndSet r) →
    s.flag BND_SREC_CMD.BUSY r = false →
    x.toNat % 4 = r.val →
    ∃ t, exec (.srecRead p r x) s = .next t ∧
      (∀ k < 4, t.word .BND_SREC_D (4 * r.val + k) = BitVec.ofNat 32 (bits (s.srec x.toNat) (32 * k) 32)) ∧
      t.get BND_SREC_CMD.RESULT r = 0 ∧ onlyRegs s t ∧ wordsKept s t [.BND_SREC_CMD, .BND_SREC_D]) ∧
  (∀ (s : State) (p : Path) (r : Region) (x : Shelf),
    s.admits p (bndSet r) →
    s.flag BND_SREC_CMD.BUSY r = false →
    x.toNat % 4 ≠ r.val →
    ∃ t, exec (.srecRead p r x) s = .next t ∧ t.get BND_SREC_CMD.RESULT r = 1 ∧ t.get BND_SREC_CMD.SHELF r = x.toNat ∧
      t.get BND_SREC_CMD.OP r = 0 ∧ onlyRegs s t ∧ wordsKept s t [.BND_SREC_CMD]) ∧
  (∀ (s : State) (p : Path) (r : Region) (x : Shelf),
    s.admits p (bndSet r) →
    s.flag BND_SREC_CMD.BUSY r = true →
    (∃ t, exec (.srecRead p r x) s = .next t ∧ t = (srecCmd s r x.toNat 0).discard (bndSet r)) ∧
    (∃ t, exec (.srecWrite p r x) s = .next t ∧ t = (srecCmd s r x.toNat 1).discard (bndSet r))) ∧
  (∀ (s : State) (p : Path) (r : Region) (x : Shelf),
    s.admits p (bndSet r) →
    s.flag BND_SREC_CMD.BUSY r = false →
    srecResult s r x.toNat (srecStaged s r) = 0 →
    rget (s.srec x.toNat) rState = 3 →
    s.rshSlot x.toNat = none →
    ∃ t, exec (.srecWrite p r x) s = .next t ∧
      t.srec x.toNat = rput (srecTaken (s.srec x.toNat) (srecStaged s r)) rEpoch (rget (s.srec x.toNat) rEpoch + 1) ∧
      (∀ y, y ≠ x.toNat → t.srec y = s.srec y) ∧ t.get BND_SREC_CMD.RESULT r = 0 ∧ wordsKept s t [.BND_SREC_CMD] ∧
      { t with regs := s.regs, bnd := s.bnd } = s) ∧
  (∀ (s : State) (p : Path) (r : Region) (x : Shelf) (k : Nat),
    s.admits p (bndSet r) →
    s.flag BND_SREC_CMD.BUSY r = false →
    srecResult s r x.toNat (srecStaged s r) = 0 →
    rget (s.srec x.toNat) rState = 3 →
    s.rshSlot x.toNat = some k →
    (Tab.get ({} : RshSlot) s.bnd.rsh k) = ⟨true, x.toNat, false, []⟩ →
    s.handlerOf (k / 16) 5 = none →
    s.grn.wbuf = [] →
    ∃ t, exec (.srecWrite p r x) s = .next t ∧ rget (t.srec x.toNat) rState = 1 ∧ rget (t.srec x.toNat) rPort = rget (s.srec x.toNat) rPort ∧
      rget (t.srec x.toNat) rLd = rget (s.srec x.toNat) rLd ∧ rget (t.srec x.toNat) rDev = rget (s.srec x.toNat) rDev ∧
      rget (t.srec x.toNat) rAltPort = 0 ∧ rget (t.srec x.toNat) rAltLd = 0 ∧ rget (t.srec x.toNat) rAltDev = 0 ∧
      rget (t.srec x.toNat) rEpoch = (rget (s.srec x.toNat) rEpoch + 1) % 2 ^ 16 ∧ t.get BND_RSH_STS.PHASE k = 4 ∧
      (Tab.get ({} : RshSlot) t.bnd.rsh k).active = false ∧ (∀ y, y ≠ x.toNat → t.srec y = s.srec y) ∧ t.get BND_SREC_CMD.RESULT r = 0 ∧
      wordsKept s t [.BND_SREC_CMD, .BND_RSH_STS]) ∧
  (∀ (s : State) (p : Path) (r : Region) (x : Shelf),
    s.admits p (bndSet r) →
    s.flag BND_SREC_CMD.BUSY r = false →
    srecResult s r x.toNat (srecStaged s r) = 0 →
    rget (s.srec x.toNat) rState ≠ 3 →
    ∃ t, exec (.srecWrite p r x) s = .next t ∧
      t.srec x.toNat = rput (srecTaken (s.srec x.toNat) (srecStaged s r)) rEpoch (rget (s.srec x.toNat) rEpoch + 1) ∧
      (∀ y, y ≠ x.toNat → t.srec y = s.srec y) ∧ t.get BND_SREC_CMD.RESULT r = 0 ∧ wordsKept s t [.BND_SREC_CMD] ∧
      { t with regs := s.regs, bnd := s.bnd, hbm := s.hbm, cat := s.cat } = s) ∧
  (∀ (s : State) (p : Path) (r : Region) (x : Shelf),
    s.admits p (bndSet r) →
    s.flag BND_SREC_CMD.BUSY r = false →
    srecResult s r x.toNat (srecStaged s r) ≠ 0 →
    srecResult s r x.toNat (srecStaged s r) = 2 → rget (srecStaged s r) rHome = x.toNat % 4 →
    ∃ t, exec (.srecWrite p r x) s = .next t ∧ t.get BND_SREC_CMD.RESULT r = srecResult s r x.toNat (srecStaged s r) ∧
      onlyRegs s t ∧ wordsKept s t [.BND_SREC_CMD]) ∧
  (∀ (s : State) (p : Path) (r : Region) (x : Shelf),
    s.admits p (bndSet r) →
    s.flag BND_SREC_CMD.BUSY r = false →
    x.toNat % 4 = r.val →
    rget (srecStaged s r) rHome ≠ r.val →
    ∃ t, exec (.srecWrite p r x) s = .next t ∧ t.get BND_SREC_CMD.RESULT r = 2 ∧ t.ces = (s.discard (bndSet r)).ces ∧
      { t with regs := s.regs, ces := s.ces } = s ∧ wordsKept s t [.BND_SREC_CMD]) ∧
  (∀ (s : State) (p : Path) (a : BitVec 32) (d : BitVec 64) (i : Nat),
    s.writeReaches p a (.reg .BND_SREC_CMD i) →
    exec (.registerWrite p a d 4) s = if d.getLsbD 24 then (if s.flag BND_SREC_CMD.BUSY i then .next (if (s.stored .BND_SREC_CMD i d a).cesSet (regSet s .BND_SREC_CMD i a.toNat) = s.cesSet (regSet s .BND_SREC_CMD i a.toNat) then (s.stored .BND_SREC_CMD i d a).discard (regSet s .BND_SREC_CMD i a.toNat) else (s.stored .BND_SREC_CMD i d a)) else if d.getLsbD 20 then exec (.srecWrite p (ixRegion i) (BitVec.ofNat 20 (bits (d.setWidth 32) 0 20))) (s.stored .BND_SREC_CMD i d a) else exec (.srecRead p (ixRegion i) (BitVec.ofNat 20 (bits (d.setWidth 32) 0 20))) (s.stored .BND_SREC_CMD i d a)) else .next (s.stored .BND_SREC_CMD i d a)) ∧
  (∀ (s : State) (p : Path) (r : Region) (x : Shelf),
    s.mayWrite p = false →
    exec (.srecRead p r x) s = .next (if s.windowGone (setUnit (bndSet r)) || s.unheard p then s else s.discard (bndSet r)) ∧
    exec (.srecWrite p r x) s = .next (if s.windowGone (setUnit (bndSet r)) || s.unheard p then s else s.discard (bndSet r)))

/-- GRP_READ loads the eight data words from the region copy of the group. GRP_WRITE sets BUSY and holds the staged bitmap. While BUSY, either stores GROUP and OP and is discarded. GRP_COPIES_DONE writes it to all four copies, counts the write in each region, clears BUSY and leaves every other group alone; with no write in progress it changes nothing. That the four copies change together is the choice of log entry 33. A write of a register of the group that reaches it stores the fields and does what the written bits start: the same as the command. Given by a path that may not write its register, a command is counted as a discard and does nothing else; in the window of an isolated region, or through the manager port before ready, it does nothing. -/
def Obligations.GroupCommands : Prop :=
  (∀ (s : State) (p : Path) (r : Region) (g : BitVec 12),
    s.admits p (bndSet r) →
    s.flag BND_GRP_CMD.BUSY r = true →
    (∃ t, exec (.grpRead p r g) s = .next t ∧ t = (grpCmd s r g.toNat 0).discard (bndSet r)) ∧
      (∃ t, exec (.grpWrite p r g) s = .next t ∧ t = (grpCmd s r g.toNat 1).discard (bndSet r))) ∧
  (∀ (s : State) (r : Region),
    (Tab.get (0, 0) s.bnd.grpPend r).1 = 0 →
    exec (.grpCopiesDone r) s = .next s) ∧
  (∀ (s : State) (p : Path) (r : Region) (g : BitVec 12),
    s.admits p (bndSet r) →
    s.flag BND_GRP_CMD.BUSY r = false →
    ∃ t, exec (.grpRead p r g) s = .next t ∧
      (∀ k < 8, t.word .BND_GRP_D (8 * r.val + k) =
        BitVec.ofNat 32 (bits (Tab.get 0 s.bnd.group (4096 * r.val + g.toNat)) (32 * k) 32)) ∧
      onlyRegs s t ∧ wordsKept s t [.BND_GRP_CMD, .BND_GRP_D]) ∧
  (∀ (s : State) (p : Path) (r : Region) (g : BitVec 12),
    s.admits p (bndSet r) →
    s.flag BND_GRP_CMD.BUSY r = false →
    ∃ t, exec (.grpWrite p r g) s = .next t ∧ t.get BND_GRP_CMD.BUSY r = 1 ∧
      Tab.get (0, 0) t.bnd.grpPend r = (g.toNat + 1, grpStaged s r) ∧ t.bnd.group = s.bnd.group ∧
      wordsKept s t [.BND_GRP_CMD] ∧ { t with regs := s.regs, bnd := s.bnd } = s) ∧
  (∀ (s : State) (r : Region) (g : Nat) (b : BitVec 256),
    Tab.get (0, 0) s.bnd.grpPend r = (g + 1, b) →
    g < 4096 →
    ∃ t, exec (.grpCopiesDone r) s = .next t ∧ (∀ q < 4, Tab.get 0 t.bnd.group (4096 * q + g) = b) ∧
      (∀ q < 4, Tab.get 0 t.bnd.grpSeq q = Tab.get 0 s.bnd.grpSeq q + 1) ∧
      (∀ k, (∀ q < 4, k ≠ 4096 * q + g) → Tab.get 0 t.bnd.group k = Tab.get 0 s.bnd.group k) ∧
      t.get BND_GRP_CMD.BUSY r = 0 ∧ Tab.get (0, 0) t.bnd.grpPend r = (0, 0) ∧ wordsKept s t [.BND_GRP_CMD] ∧
      { t with regs := s.regs, bnd := s.bnd } = s) ∧
  (∀ (s : State) (p : Path) (a : BitVec 32) (d : BitVec 64) (i : Nat),
    s.writeReaches p a (.reg .BND_GRP_CMD i) →
    exec (.registerWrite p a d 4) s = if d.getLsbD 24 then (if s.flag BND_GRP_CMD.BUSY i then .next (if (s.stored .BND_GRP_CMD i d a).cesSet (regSet s .BND_GRP_CMD i a.toNat) = s.cesSet (regSet s .BND_GRP_CMD i a.toNat) then (s.stored .BND_GRP_CMD i d a).discard (regSet s .BND_GRP_CMD i a.toNat) else (s.stored .BND_GRP_CMD i d a)) else if d.getLsbD 12 then exec (.grpWrite p (ixRegion i) (BitVec.ofNat 12 (bits (d.setWidth 32) 0 12))) (s.stored .BND_GRP_CMD i d a) else exec (.grpRead p (ixRegion i) (BitVec.ofNat 12 (bits (d.setWidth 32) 0 12))) (s.stored .BND_GRP_CMD i d a)) else .next (s.stored .BND_GRP_CMD i d a)) ∧
  (∀ (s : State) (p : Path) (r : Region) (x : BitVec 12),
    s.mayWrite p = false →
    exec (.grpRead p r x) s = .next (if s.windowGone (setUnit (bndSet r)) || s.unheard p then s else s.discard (bndSet r)) ∧
    exec (.grpWrite p r x) s = .next (if s.windowGone (setUnit (bndSet r)) || s.unheard p then s else s.discard (bndSet r)))

/-- READ loads a slot; WRITE stores the staged rule where it is in range, and reads BAD_FIELD and stores nothing where it is not; CLEAR writes zero; each leaves every other slot alone. A slot whose rule has LOCK set keeps it, and RESULT reads LOCKED. While BUSY, each stores SLOT and OP and is discarded. That LOCKED comes before BAD_FIELD is the choice of log entry 34. A write of a register of the group that reaches it stores the fields and does what the written bits start: the same as the command. Given by a path that may not write its register, a command is counted as a discard and does nothing else; in the window of an isolated region, or through the manager port before ready, it does nothing. -/
def Obligations.AccessRuleCommands : Prop :=
  (∀ (s : State) (p : Path) (r : Region) (n : BitVec 12),
    s.admits p (bndSet r) →
    s.flag BND_RULE_CMD.BUSY r = false →
    ruleLock (s.ruleOf r n.toNat) = false →
    ruleGood (ruleStaged s r) r = false →
    ∃ t, exec (.ruleWrite p r n) s = .next t ∧ t.get BND_RULE_CMD.RESULT r = 2 ∧ onlyRegs s t ∧ wordsKept s t [.BND_RULE_CMD]) ∧
  (∀ (s : State) (p : Path) (r : Region) (n : BitVec 12),
    s.admits p (bndSet r) →
    s.flag BND_RULE_CMD.BUSY r = true →
    exec (.ruleRead p r n) s = .next ((ruleCmd s r n.toNat 0).discard (bndSet r)) ∧
      exec (.ruleWrite p r n) s = .next ((ruleCmd s r n.toNat 1).discard (bndSet r)) ∧
      exec (.ruleClear p r n) s = .next ((ruleCmd s r n.toNat 2).discard (bndSet r))) ∧
  (∀ (s : State) (p : Path) (r : Region) (n : BitVec 12),
    s.admits p (bndSet r) →
    s.flag BND_RULE_CMD.BUSY r = false →
    ∃ t, exec (.ruleRead p r n) s = .next t ∧
      (∀ k < 4, t.word .BND_RULE_D (4 * r.val + k) = BitVec.ofNat 32 (bits (s.ruleOf r n.toNat) (32 * k) 32)) ∧
      t.get BND_RULE_CMD.RESULT r = 0 ∧ onlyRegs s t ∧ wordsKept s t [.BND_RULE_CMD, .BND_RULE_D]) ∧
  (∀ (s : State) (p : Path) (r : Region) (n : BitVec 12),
    s.admits p (bndSet r) →
    s.flag BND_RULE_CMD.BUSY r = false →
    ruleLock (s.ruleOf r n.toNat) = false →
    ruleGood (ruleStaged s r) r = true →
    ∃ t, exec (.ruleWrite p r n) s = .next t ∧ t.ruleOf r n.toNat = ruleStaged s r ∧
      (∀ k, k ≠ 4096 * r.val + n.toNat → Tab.get 0 t.bnd.rule k = Tab.get 0 s.bnd.rule k) ∧
      t.get BND_RULE_CMD.RESULT r = 0 ∧ wordsKept s t [.BND_RULE_CMD] ∧ { t with regs := s.regs, bnd := s.bnd } = s) ∧
  (∀ (s : State) (p : Path) (r : Region) (n : BitVec 12),
    s.admits p (bndSet r) →
    s.flag BND_RULE_CMD.BUSY r = false →
    ruleLock (s.ruleOf r n.toNat) = false →
    ∃ t, exec (.ruleClear p r n) s = .next t ∧ t.ruleOf r n.toNat = 0 ∧
      (∀ k, k ≠ 4096 * r.val + n.toNat → Tab.get 0 t.bnd.rule k = Tab.get 0 s.bnd.rule k) ∧
      t.get BND_RULE_CMD.RESULT r = 0 ∧ wordsKept s t [.BND_RULE_CMD] ∧ { t with regs := s.regs, bnd := s.bnd } = s) ∧
  (∀ (s : State) (p : Path) (r : Region) (n : BitVec 12),
    s.admits p (bndSet r) →
    s.flag BND_RULE_CMD.BUSY r = false →
    ruleLock (s.ruleOf r n.toNat) = true →
    ∃ t u, exec (.ruleWrite p r n) s = .next t ∧ exec (.ruleClear p r n) s = .next u ∧ t.get BND_RULE_CMD.RESULT r = 5 ∧
      u.get BND_RULE_CMD.RESULT r = 5 ∧ onlyRegs s t ∧ onlyRegs s u ∧ wordsKept s t [.BND_RULE_CMD] ∧
      wordsKept s u [.BND_RULE_CMD]) ∧
  (∀ (s : State) (p : Path) (a : BitVec 32) (d : BitVec 64) (i : Nat),
    s.writeReaches p a (.reg .BND_RULE_CMD i) →
    exec (.registerWrite p a d 4) s = if d.getLsbD 24 then (if s.flag BND_RULE_CMD.BUSY i then .next (if (s.stored .BND_RULE_CMD i d a).cesSet (regSet s .BND_RULE_CMD i a.toNat) = s.cesSet (regSet s .BND_RULE_CMD i a.toNat) then (s.stored .BND_RULE_CMD i d a).discard (regSet s .BND_RULE_CMD i a.toNat) else (s.stored .BND_RULE_CMD i d a)) else if (bits (d.setWidth 32) 12 2) = 0 then exec (.ruleRead p (ixRegion i) (BitVec.ofNat 12 (bits (d.setWidth 32) 0 12))) (s.stored .BND_RULE_CMD i d a) else if (bits (d.setWidth 32) 12 2) = 1 then exec (.ruleWrite p (ixRegion i) (BitVec.ofNat 12 (bits (d.setWidth 32) 0 12))) (s.stored .BND_RULE_CMD i d a) else if (bits (d.setWidth 32) 12 2) = 2 then exec (.ruleClear p (ixRegion i) (BitVec.ofNat 12 (bits (d.setWidth 32) 0 12))) (s.stored .BND_RULE_CMD i d a) else .next ((s.stored .BND_RULE_CMD i d a).set BND_RULE_CMD.RESULT i 2)) else .next (s.stored .BND_RULE_CMD i d a)) ∧
  (∀ (s : State) (p : Path) (a : BitVec 32) (d : BitVec 64) (i : Nat),
    s.writeReaches p a (.reg .BND_FAULT_INFO i) →
    exec (.registerWrite p a d 4) s = .next (if d.getLsbD 31 then (s.stored .BND_FAULT_INFO i d a).set BND_FAULT_INFO.COUNT i 0 else (s.stored .BND_FAULT_INFO i d a))) ∧
  (∀ (s : State) (p : Path) (r : Region) (x : BitVec 12),
    s.mayWrite p = false →
    exec (.ruleRead p r x) s = .next (if s.windowGone (setUnit (bndSet r)) || s.unheard p then s else s.discard (bndSet r)) ∧
    exec (.ruleWrite p r x) s = .next (if s.windowGone (setUnit (bndSet r)) || s.unheard p then s else s.discard (bndSet r)) ∧
    exec (.ruleClear p r x) s = .next (if s.windowGone (setUnit (bndSet r)) || s.unheard p then s else s.discard (bndSet r)))

/-- Both barrier starts take the lowest slot that neither runs nor shows DONE, wait for exactly the stamped requests of their kind and scope, cover exactly the record writes of their scope that no barrier has covered (a rule barrier none), and change only that slot; with no such slot they read NO_SLOT and start nothing. BARRIER_COMPLETE frees a slot that waits for nothing and shows DONE, and the record writes that it covered are owed no barrier; of a slot that still waits, or that does not run, it changes nothing. BARRIER_TIMEOUT of a running slot, of either kind, reads TIMEOUT and declares lost the one shelf of scope SHELF, or every shelf that still holds a request it waits for with scope ALL, and no other; of a slot that does not run it changes nothing. BARRIER_SLOT_FREE clears exactly the DONE bits written 1. The lowest free slot, and the same end of a rule barrier that outlives the bound, are the model's choices (log entries 50 and 16). A write of a register of the group that reaches it stores the fields and does what the written bits start: the same as the command. Given by a path that may not write its register, a command is counted as a discard and does nothing else; in the window of an isolated region, or through the manager port before ready, it does nothing. -/
def Obligations.BarrierSlots : Prop :=
  (∀ (s : State) (p : Path) (r : Region) (all : Bool) (x : Shelf) (k : Nat),
    s.admits p (bndSet r) →
    k < 16 →
    ∀ j < k, (s.barSlot r j).busy = true ∨ (s.get BND_BAR_STS.DONE r).testBit j = true →
    (s.barSlot r k).busy = false →
    (s.get BND_BAR_STS.DONE r).testBit k = false →
    ∃ t, exec (.bindingBarrierStart p r all x) s = .next t ∧
      (t.barSlot r k).busy = true ∧ (t.barSlot r k).kind = 0 ∧ (t.barSlot r k).all = all ∧ (t.barSlot r k).shelf = x.toNat ∧
      (t.barSlot r k).waits = ((s.stamped r).filter (fun q => s.barWaits r 0 all x.toNat q)).map
        (fun q => (q.ticket, shelfOf q.a.addr.toNat)) ∧
      (t.barSlot r k).covers = s.bnd.owed.filter (fun o => o.1 % 4 == r.val && (all || o.1 == x.toNat)) ∧ (t.barSlot r k).coversAll = (if all then s.bnd.owedAll.filter (fun y => y % 4 == r.val) else []) ∧
      t.get BND_BAR_CMD.RESULT r = 0 ∧ t.get BND_BAR_CMD.SLOT r = k ∧ (t.get BND_BAR_STS.BUSY r).testBit k = true ∧
      (∀ j, j ≠ 16 * r.val + k → Tab.get {} t.bnd.bar j = Tab.get {} s.bnd.bar j) ∧
      wordsKept s t [.BND_BAR_CMD, .BND_BAR_STS] ∧ { t with regs := s.regs, bnd := s.bnd } = s) ∧
  (∀ (s : State) (p : Path) (r : Region) (all : Bool) (x : Shelf) (k : Nat),
    s.admits p (bndSet r) →
    k < 16 →
    ∀ j < k, (s.barSlot r j).busy = true ∨ (s.get BND_BAR_STS.DONE r).testBit j = true →
    (s.barSlot r k).busy = false →
    (s.get BND_BAR_STS.DONE r).testBit k = false →
    ∃ t, exec (.ruleBarrierStart p r all x) s = .next t ∧
      (t.barSlot r k).busy = true ∧ (t.barSlot r k).kind = 1 ∧ (t.barSlot r k).all = all ∧ (t.barSlot r k).shelf = x.toNat ∧
      (t.barSlot r k).waits = ((s.stamped r).filter (fun q => s.barWaits r 1 all x.toNat q)).map
        (fun q => (q.ticket, shelfOf q.a.addr.toNat)) ∧
      (t.barSlot r k).covers = [] ∧ (t.barSlot r k).coversAll = [] ∧
      t.get BND_BAR_CMD.RESULT r = 0 ∧ t.get BND_BAR_CMD.SLOT r = k ∧ (t.get BND_BAR_STS.BUSY r).testBit k = true ∧
      (∀ j, j ≠ 16 * r.val + k → Tab.get {} t.bnd.bar j = Tab.get {} s.bnd.bar j) ∧
      wordsKept s t [.BND_BAR_CMD, .BND_BAR_STS] ∧ { t with regs := s.regs, bnd := s.bnd } = s) ∧
  (∀ (s : State) (p : Path) (r : Region) (all : Bool) (x : Shelf),
    s.admits p (bndSet r) →
    ∀ j < 16, (s.barSlot r j).busy = true ∨ (s.get BND_BAR_STS.DONE r).testBit j = true →
    (∃ t, exec (.bindingBarrierStart p r all x) s = .next t ∧ t.get BND_BAR_CMD.RESULT r = 1 ∧ t.get BND_BAR_CMD.KIND r = 0 ∧
      onlyRegs s t ∧ wordsKept s t [.BND_BAR_CMD]) ∧
    (∃ t, exec (.ruleBarrierStart p r all x) s = .next t ∧ t.get BND_BAR_CMD.RESULT r = 1 ∧ t.get BND_BAR_CMD.KIND r = 1 ∧
      onlyRegs s t ∧ wordsKept s t [.BND_BAR_CMD])) ∧
  (∀ (s : State) (r : Region) (k : Fin 16),
    (s.barSlot r k).busy = true →
    (s.barSlot r k).waits = [] →
    s.bindQuiet →
    ∀ o ∈ (s.barSlot r k).covers, rget (s.srec o.1) rState ≠ 2 ∨ rget (s.srec o.1) rMode ≠ 1 →
    ∃ t, exec (.barrierComplete r k) s = .next t ∧ t.barSlot r k = {} ∧ (t.get BND_BAR_STS.BUSY r).testBit k = false ∧
      (t.get BND_BAR_STS.DONE r).testBit k = true ∧ t.bnd.owed = s.bnd.owed.filter (fun o => !(s.barSlot r k).covers.contains o) ∧
      t.bnd.owedAll = s.bnd.owedAll.filter (fun y => !(s.barSlot r k).coversAll.contains y) ∧ t.bnd.shelf = s.bnd.shelf ∧
      (∀ j, j ≠ 16 * r.val + k.val → Tab.get {} t.bnd.bar j = Tab.get {} s.bnd.bar j) ∧
      wordsKept s t [.BND_BAR_STS] ∧ { t with regs := s.regs, bnd := s.bnd } = s) ∧
  (∀ (s : State) (r : Region) (k : Fin 16),
    (s.barSlot r k).busy = false ∨ (s.barSlot r k).waits ≠ [] →
    s.bindQuiet →
    exec (.barrierComplete r k) s = .next s) ∧
  (∀ (s : State) (r : Region) (k : Fin 16),
    (s.barSlot r k).busy = false →
    s.bindQuiet →
    exec (.barrierTimeout r k) s = .next s) ∧
  (∀ (s : State) (r : Region) (k : Fin 16) (xs : List Nat),
    (s.barSlot r k).busy = true →
    (s.barSlot r k).covers = [] →
    (xs = if (s.barSlot r k).all then ((s.barSlot r k).waits.map (fun x => x.2)).dedup else [(s.barSlot r k).shelf]) →
    s.bindQuiet →
    s.handlerOf r 4 = none →
    xs ≠ [] →
    ∃ t, exec (.barrierTimeout r k) s = .next t ∧ t.barSlot r k = {} ∧ (t.get BND_BAR_STS.BUSY r).testBit k = false ∧
      (t.get BND_BAR_STS.DONE r).testBit k = true ∧ t.get BND_BAR_CMD.RESULT r = 2 ∧ t.stsBit (bndSet r) 3 ∧
      (∀ x ∈ xs, rget (s.srec x) rState ≠ 0 → t.srec x = rput (s.srec x) rLost 1) ∧
      (∀ y, y ∉ xs → t.srec y = s.srec y) ∧ { t.quiet with bnd := s.bnd } = s.quiet) ∧
  (∀ (s : State) (p : Path) (r : Region) (m : BitVec 16),
    s.admits p (bndSet r) →
    ∃ t, exec (.barrierSlotFree p r m) s = .next t ∧
      (∀ k < 16, (t.get BND_BAR_STS.DONE r).testBit k = ((s.get BND_BAR_STS.DONE r).testBit k && !m.getLsbD k)) ∧
      t.get BND_BAR_STS.BUSY r = s.get BND_BAR_STS.BUSY r ∧ onlyRegs s t ∧ wordsKept s t [.BND_BAR_STS]) ∧
  (∀ (s : State) (p : Path) (a : BitVec 32) (d : BitVec 64) (i : Nat),
    s.writeReaches p a (.reg .BND_BAR_CMD i) →
    exec (.registerWrite p a d 4) s = if d.getLsbD 24 then (if d.getLsbD 21 then exec (.ruleBarrierStart p (ixRegion i) (d.getLsbD 20) (BitVec.ofNat 20 (bits (d.setWidth 32) 0 20))) (s.stored .BND_BAR_CMD i d a) else exec (.bindingBarrierStart p (ixRegion i) (d.getLsbD 20) (BitVec.ofNat 20 (bits (d.setWidth 32) 0 20))) (s.stored .BND_BAR_CMD i d a)) else .next (s.stored .BND_BAR_CMD i d a)) ∧
  (∀ (s : State) (p : Path) (r : Region) (all : Bool) (x : Shelf) (m : BitVec 16),
    s.mayWrite p = false →
    exec (.bindingBarrierStart p r all x) s = .next (if s.windowGone (setUnit (bndSet r)) || s.unheard p then s else s.discard (bndSet r)) ∧
    exec (.ruleBarrierStart p r all x) s = .next (if s.windowGone (setUnit (bndSet r)) || s.unheard p then s else s.discard (bndSet r)) ∧
    exec (.barrierSlotFree p r m) s = .next (if s.windowGone (setUnit (bndSet r)) || s.unheard p then s else s.discard (bndSet r)))

/-- An accepted START makes the record RESHELVING with the staged target, marks all 65,536 pages and begins MARKING; a refused one stores SHELF, OP and THRESH and shows the cause; a THRESH above 16 is a counted discard of that field alone. SWITCH of a marking slot with at most THRESH marked pages stalls the shelf, or reads EPOCH_BUSY while older requests remain; of any other slot it only stores OP. ABORT returns the record to BOUND on its source; of an idle slot it only stores OP. SWITCHOVER_DRAINED with no write to the source outstanding copies the marked pages and makes the record BOUND on the target; else it changes nothing. SWITCHOVER_STALL_TMO leaves the pages that were copied copied and unmarked, and before the fourth attempt returns the slot to MARKING; the fourth ends the re-shelving with ATTEMPT_LIMIT. Which RESULT an ABORT shows is free (log entry 36). A write of a register of the group that reaches it stores the fields and does what the written bits start: the same as the command. Given by a path that may not write its register, a command is counted as a discard and does nothing else; in the window of an isolated region, or through the manager port before ready, it does nothing. -/
def Obligations.ReshelvingSlots : Prop :=
  (∀ (s : State) (p : Path) (r : Region) (k : Fin 16) (x : Shelf) (th : BitVec 5) (e : Nat),
    s.admits p (bndSet r) →
    th.toNat ≤ 16 →
    rshRefused s r (16 * r.val + k.val) x.toNat = some e →
    ∃ t, exec (.reshelveStart p r k x th) s = .next t ∧ t.get BND_RSH_STS.RESULT (16 * r.val + k.val) = e ∧ t.get BND_RSH_CTL.SHELF (16 * r.val + k.val) = x.toNat ∧
      t.get BND_RSH_CTL.THRESH (16 * r.val + k.val) = th.toNat ∧ onlyRegs s t ∧ wordsKept s t [.BND_RSH_CTL, .BND_RSH_STS]) ∧
  (∀ (s : State) (p : Path) (r : Region) (k : Fin 16) (x : Shelf) (th : BitVec 5),
    s.admits p (bndSet r) →
    16 < th.toNat →
    rshRefused s r (16 * r.val + k.val) x.toNat = none →
    ∃ t, exec (.reshelveStart p r k x th) s = .next t ∧ rget (t.srec x.toNat) rState = 3 ∧ t.get BND_RSH_STS.PHASE (16 * r.val + k.val) = 1 ∧
      t.get BND_RSH_CTL.THRESH (16 * r.val + k.val) = s.get BND_RSH_CTL.THRESH (16 * r.val + k.val) ∧ t.ces = (s.discard (bndSet r)).ces ∧ wordsKept s t [.BND_RSH_CTL, .BND_RSH_STS]) ∧
  (∀ (s : State) (p : Path) (r : Region) (k : Fin 16),
    s.admits p (bndSet r) →
    (Tab.get ({} : RshSlot) s.bnd.rsh (16 * r.val + k.val)).active = true →
    s.get BND_RSH_STS.PHASE (16 * r.val + k.val) = 1 →
    s.get BND_RSH_STS.MARKED (16 * r.val + k.val) ≤ s.get BND_RSH_CTL.THRESH (16 * r.val + k.val) →
    s.olderRemain (Tab.get ({} : RshSlot) s.bnd.rsh (16 * r.val + k.val)).shelf = true →
    ∃ t, exec (.reshelveSwitch p r k) s = .next t ∧ t.get BND_RSH_STS.RESULT (16 * r.val + k.val) = 6 ∧ t.get BND_RSH_STS.PHASE (16 * r.val + k.val) = 1 ∧ onlyRegs s t ∧
      wordsKept s t [.BND_RSH_CTL, .BND_RSH_STS]) ∧
  (∀ (s : State) (p : Path) (r : Region) (k : Fin 16),
    s.admits p (bndSet r) →
    (Tab.get ({} : RshSlot) s.bnd.rsh (16 * r.val + k.val)).active = false ∨ s.get BND_RSH_STS.PHASE (16 * r.val + k.val) ≠ 1 ∨ s.get BND_RSH_CTL.THRESH (16 * r.val + k.val) < s.get BND_RSH_STS.MARKED (16 * r.val + k.val) →
    exec (.reshelveSwitch p r k) s = .next (s.set BND_RSH_CTL.OP (16 * r.val + k.val) 2)) ∧
  (∀ (s : State) (p : Path) (r : Region) (k : Fin 16),
    s.admits p (bndSet r) →
    (Tab.get ({} : RshSlot) s.bnd.rsh (16 * r.val + k.val)).active = false →
    exec (.reshelveAbort p r k) s = .next (s.set BND_RSH_CTL.OP (16 * r.val + k.val) 0)) ∧
  (∀ (s : State) (r : Region) (k : Fin 16),
    (Tab.get ({} : RshSlot) s.bnd.rsh (16 * r.val + k.val)).active = false ∨ (Tab.get ({} : RshSlot) s.bnd.rsh (16 * r.val + k.val)).stall = false ∨ s.grn.writes.any (fun x => x.held.isNone && shelfOf x.line == (Tab.get ({} : RshSlot) s.bnd.rsh (16 * r.val + k.val)).shelf) = true →
    exec (.switchoverDrained r k) s = .next s) ∧
  (∀ (s : State) (r : Region) (k : StallEnd),
    (Tab.get ({} : RshSlot) s.bnd.rsh (16 * r.val + k.slot.val)).active = false ∨ (Tab.get ({} : RshSlot) s.bnd.rsh (16 * r.val + k.slot.val)).stall = false →
    exec (.switchoverStallTmo r k) s = .next s) ∧
  (∀ (s : State) (r : Region) (k : StallEnd) (x n : Nat),
    n = 16 * r.val + k.slot.val →
    Tab.get ({} : RshSlot) s.bnd.rsh n = ⟨true, x, true, []⟩ →
    rget (s.srec x) rState = 3 →
    s.grn.wbuf = [] →
    s.handlerOf (n / 16) 5 = none →
    s.get BND_RSH_STS.ATTEMPTS n = 3 →
    ∃ t, exec (.switchoverStallTmo r k) s = .next t ∧ t.get BND_RSH_STS.PHASE n = 4 ∧ t.get BND_RSH_STS.RESULT n = 4 ∧ t.get BND_RSH_STS.ATTEMPTS n = 4 ∧
      rget (t.srec x) rState = 1 ∧ rget (t.srec x) rPort = rget (s.srec x) rPort ∧ rget (t.srec x) rDev = rget (s.srec x) rDev ∧
      (Tab.get ({} : RshSlot) t.bnd.rsh n).active = false ∧ (∀ y, y ≠ x → t.srec y = s.srec y)) ∧
  (∀ (s : State) (p : Path) (r : Region) (k : Fin 16) (x : Shelf) (th : BitVec 5),
    s.admits p (bndSet r) →
    th.toNat ≤ 16 →
    rshRefused s r (16 * r.val + k.val) x.toNat = none →
    ∃ t, exec (.reshelveStart p r k x th) s = .next t ∧ rget (t.srec x.toNat) rState = 3 ∧
      rget (t.srec x.toNat) rPort = rget (s.srec x.toNat) rPort ∧ rget (t.srec x.toNat) rAltPort = rget (srecStaged s r) rAltPort ∧
      rget (t.srec x.toNat) rAltLd = rget (srecStaged s r) rAltLd ∧ rget (t.srec x.toNat) rAltDev = rget (srecStaged s r) rAltDev ∧
      rget (t.srec x.toNat) rEpoch = (rget (s.srec x.toNat) rEpoch + 1) % 2 ^ 16 ∧
      t.get BND_RSH_STS.PHASE (16 * r.val + k.val) = 1 ∧ t.get BND_RSH_STS.RESULT (16 * r.val + k.val) = 0 ∧
      t.get BND_RSH_STS.MARKED (16 * r.val + k.val) = 65536 ∧ t.get BND_RSH_STS.ATTEMPTS (16 * r.val + k.val) = 0 ∧
      (∀ y, y ≠ x.toNat → t.srec y = s.srec y) ∧ wordsKept s t [.BND_RSH_CTL, .BND_RSH_STS] ∧
      { t with regs := s.regs, bnd := s.bnd, hbm := s.hbm } = s) ∧
  (∀ (s : State) (p : Path) (r : Region) (k : Fin 16),
    s.admits p (bndSet r) →
    (Tab.get ({} : RshSlot) s.bnd.rsh (16 * r.val + k.val)).active = true →
    s.get BND_RSH_STS.PHASE (16 * r.val + k.val) = 1 →
    s.get BND_RSH_STS.MARKED (16 * r.val + k.val) ≤ s.get BND_RSH_CTL.THRESH (16 * r.val + k.val) →
    s.olderRemain (Tab.get ({} : RshSlot) s.bnd.rsh (16 * r.val + k.val)).shelf = false →
    ∃ t, exec (.reshelveSwitch p r k) s = .next t ∧ (Tab.get ({} : RshSlot) t.bnd.rsh (16 * r.val + k.val)).stall = true ∧
      t.get BND_RSH_STS.PHASE (16 * r.val + k.val) = 2 ∧ t.bnd.shelf = s.bnd.shelf ∧ wordsKept s t [.BND_RSH_CTL, .BND_RSH_STS] ∧
      { t with regs := s.regs, bnd := s.bnd } = s) ∧
  (∀ (s : State) (p : Path) (r : Region) (k : Fin 16) (x : Nat),
    s.admits p (bndSet r) →
    Tab.get ({} : RshSlot) s.bnd.rsh (16 * r.val + k.val) = ⟨true, x, false, []⟩ →
    rget (s.srec x) rState = 3 →
    s.handlerOf r 5 = none →
    s.grn.wbuf = [] →
    ∃ t, exec (.reshelveAbort p r k) s = .next t ∧ rget (t.srec x) rState = 1 ∧ rget (t.srec x) rPort = rget (s.srec x) rPort ∧
      rget (t.srec x) rDev = rget (s.srec x) rDev ∧ rget (t.srec x) rAltPort = 0 ∧ rget (t.srec x) rAltDev = 0 ∧
      rget (t.srec x) rEpoch = (rget (s.srec x) rEpoch + 1) % 2 ^ 16 ∧ t.get BND_RSH_STS.PHASE (16 * r.val + k.val) = 4 ∧
      (Tab.get ({} : RshSlot) t.bnd.rsh (16 * r.val + k.val)).active = false ∧ (∀ y, y ≠ x → t.srec y = s.srec y)) ∧
  (∀ (s : State) (r : Region) (k : Fin 16) (x : Nat),
    Tab.get ({} : RshSlot) s.bnd.rsh (16 * r.val + k.val) = ⟨true, x, true, []⟩ →
    s.grn.writes.any (fun x_ => x_.held.isNone && shelfOf x_.line == x) = false →
    s.grn.wbuf = [] →
    s.handlerOf r 5 = none →
    ∃ t, exec (.switchoverDrained r k) s = .next t ∧ rget (t.srec x) rState = 1 ∧
      rget (t.srec x) rPort = rget (s.srec x) rAltPort ∧ rget (t.srec x) rLd = rget (s.srec x) rAltLd ∧
      rget (t.srec x) rDev = rget (s.srec x) rAltDev ∧ rget (t.srec x) rEpoch = (rget (s.srec x) rEpoch + 1) % 2 ^ 16 ∧
      t.get BND_RSH_STS.PHASE (16 * r.val + k.val) = 3 ∧ t.get BND_RSH_STS.RESULT (16 * r.val + k.val) = 0 ∧
      (Tab.get ({} : RshSlot) t.bnd.rsh (16 * r.val + k.val)).active = false ∧ (∀ y, y ≠ x → t.srec y = s.srec y) ∧
      t.out = (s.markedPages (16 * r.val + k.val)).reverse.map (fun j => .pageCopy (rget (s.srec x) rPort) (rget (s.srec x) rLd) (rget (s.srec x) rDev * 2 ^ 28 + 4096 * j) (rget (s.srec x) rAltPort) (rget (s.srec x) rAltLd) (rget (s.srec x) rAltDev * 2 ^ 28 + 4096 * j)) ++ s.out) ∧
  (∀ (s : State) (r : Region) (k : StallEnd) (x n : Nat),
    n = 16 * r.val + k.slot.val →
    Tab.get ({} : RshSlot) s.bnd.rsh n = ⟨true, x, true, []⟩ →
    s.grn.wbuf = [] →
    s.get BND_RSH_STS.ATTEMPTS n < 3 →
    ∃ t, exec (.switchoverStallTmo r k) s = .next t ∧ t.get BND_RSH_STS.PHASE n = 1 ∧
      t.get BND_RSH_STS.ATTEMPTS n = s.get BND_RSH_STS.ATTEMPTS n + 1 ∧
      (Tab.get ({} : RshSlot) t.bnd.rsh n).stall = false ∧ (Tab.get ({} : RshSlot) t.bnd.rsh n).active = true ∧ t.bnd.shelf = s.bnd.shelf ∧
      t.out = (if s.grn.writes.any (fun x_ => x_.held.isNone && shelfOf x_.line == x) then [] else
        ((s.markedPages n).take k.copied).reverse.map (fun j => .pageCopy (rget (s.srec x) rPort) (rget (s.srec x) rLd) (rget (s.srec x) rDev * 2 ^ 28 + 4096 * j) (rget (s.srec x) rAltPort) (rget (s.srec x) rAltLd) (rget (s.srec x) rAltDev * 2 ^ 28 + 4096 * j))) ++ s.out) ∧
  (∀ (s : State) (p : Path) (a : BitVec 32) (d : BitVec 64) (i : Nat),
    s.writeReaches p a (.reg .BND_RSH_CTL i) →
    exec (.registerWrite p a d 4) s = if d.getLsbD 27 then (if (bits (d.setWidth 32) 25 2) = 0 then exec (.reshelveAbort p (ixRegion (i / 16)) (Fin.ofNat 16 i)) (s.stored .BND_RSH_CTL i d a) else if (bits (d.setWidth 32) 25 2) = 1 then exec (.reshelveStart p (ixRegion (i / 16)) (Fin.ofNat 16 i) (BitVec.ofNat 20 (bits (d.setWidth 32) 0 20)) (BitVec.ofNat 5 ((s.stored .BND_RSH_CTL i d a).get BND_RSH_CTL.THRESH i))) (s.stored .BND_RSH_CTL i d a) else if (bits (d.setWidth 32) 25 2) = 2 then exec (.reshelveSwitch p (ixRegion (i / 16)) (Fin.ofNat 16 i)) (s.stored .BND_RSH_CTL i d a) else .next ((s.stored .BND_RSH_CTL i d a).discard (regSet s .BND_RSH_CTL i a.toNat))) else .next (s.stored .BND_RSH_CTL i d a)) ∧
  (∀ (s : State) (p : Path) (r : Region) (k : Fin 16) (x : Shelf) (th : BitVec 5),
    s.mayWrite p = false →
    exec (.reshelveStart p r k x th) s = .next (if s.windowGone (setUnit (bndSet r)) || s.unheard p then s else s.discard (bndSet r)) ∧
    exec (.reshelveSwitch p r k) s = .next (if s.windowGone (setUnit (bndSet r)) || s.unheard p then s else s.discard (bndSet r)) ∧
    exec (.reshelveAbort p r k) s = .next (if s.windowGone (setUnit (bndSet r)) || s.unheard p then s else s.discard (bndSet r)))

/-- Accepting the oldest Add Capacity event of a port ends it and keeps the shelf; the handler of ADD_RESP, where there is one, hears of it. Declining it, or the add timeout, ends it and writes the record of its bound shelf RELEASING; where requests of an older epoch remain, firmware keeps the shelf to release it later; a further host of a shared extent leaves its group by a group write. With no event of the port open, neither answer nor timeout changes anything. A release of bound shelves by their host is posted to the release handler as an open request; one of no shelf or of a shelf not bound to the host is answered with status 1, and one that the policy does not take with status 3, and neither releases anything. -/
def Obligations.DynamicCapacityAnswers : Prop :=
  (∀ (s : State) (port : Port) (l r : List AddPend) (a : AddPend),
    s.bnd.adds = l ++ a :: r →
    a.port = port.val →
    l.all (fun a => a.port != port.val) = true →
    s.handlerOf s.lead 2 = none →
    s.bnd.addWait = [] →
    s.bnd.taken = [] →
    s.lib.heldReply = [] →
    ∃ t, exec (.addDcResponse port true) s = .next t ∧ t = { s with bnd := { s.bnd with adds := l ++ r } }) ∧
  (∀ (s : State) (port : Port) (a : AddPend) (h : Nat),
    s.bnd.adds = [a] →
    a.port = port.val →
    s.handlerOf s.lead 2 = some h →
    s.bnd.addWait = [] →
    s.bnd.taken = [] →
    s.lib.heldReply = [] →
    s.windowGone (tillerUnit h) = false →
    (s.tiller h).spent = false →
    (s.tiller h).events.length < 64 →
    ∃ t, exec (.addDcResponse port true) s = .next t ∧ t.bnd = { s.bnd with adds := [] } ∧
      (t.tiller h).events = (s.tiller h).events ++ [(2, [a.handle, s.unit * 64 + a.port, a.tag, 0])] ∧ wordsKept s t [.TIL_EVT] ∧
      { t with regs := s.regs, bnd := s.bnd, lib := s.lib } = s) ∧
  (∀ (s : State) (port : Port) (b : Bool),
    s.bnd.adds.all (fun a => a.port != port.val) = true →
    exec (.addDcResponse port b) s = .next s ∧ exec (.addTimeout port) s = .next s) ∧
  (∀ (s : State) (port : Port) (x h : Nat),
    s.bnd.adds = [⟨port.val, x, 1, 0, h⟩] →
    s.handlerOf s.lead 2 = none →
    s.boundTo port.val x = true →
    s.bnd.addWait = [] →
    s.bnd.taken = [] →
    s.bnd.toRelease = [] →
    s.lib.heldReply = [] →
    Tab.get 0 s.bnd.tag x = 0 →
    srecResult s (x % 4) x (rput (s.srec x) rState 2) = 0 →
    rget (s.srec x) rState = 1 →
    ∃ t, exec (.addTimeout port) s = .next t ∧ exec (.addDcResponse port false) s = .next t ∧ t.bnd.adds = [] ∧ t.bnd.taken = [x] ∧
      rget (t.srec x) rState = 2 ∧ rget (t.srec x) rEpoch = (rget (s.srec x) rEpoch + 1) % 2 ^ 16 ∧ (∀ y, y ≠ x → t.srec y = s.srec y) ∧
      wordsKept s t [.BND_BAR_CMD, .BND_BAR_STS] ∧ { t with regs := s.regs, bnd := s.bnd } = s) ∧
  (∀ (s : State) (port : Port) (x h : Nat),
    s.bnd.adds = [⟨port.val, x, 1, 0, h⟩] →
    s.handlerOf s.lead 2 = none →
    s.boundTo port.val x = true →
    s.bnd.addWait = [] →
    s.bnd.taken = [] →
    s.bnd.toRelease = [] →
    s.lib.heldReply = [] →
    srecResult s (x % 4) x (rput (s.srec x) rState 2) = 4 →
    ∃ t, exec (.addTimeout port) s = .next t ∧ exec (.addDcResponse port false) s = .next t ∧ t.bnd.adds = [] ∧ t.bnd.shelf = s.bnd.shelf ∧
      t.bnd.toRelease = [(port.val, 0, x)] ∧ { t with bnd := s.bnd } = s) ∧
  (∀ (s : State) (port : Port) (x g h : Nat),
    s.bnd.adds = [⟨port.val, x, 1, g, h⟩] →
    g ≠ 0 →
    s.handlerOf s.lead 2 = none →
    s.boundTo port.val x = true →
    s.bnd.addWait = [] →
    s.bnd.taken = [] →
    s.lib.heldReply = [] →
    rget (s.srec x) rMode ≠ 0 →
    putBits (Tab.get (0 : BitVec 256) s.bnd.group (4096 * (x % 4) + rget (s.srec x) rGroup)) (s.unit * 64 + port.val) 1 0 ≠ 0 →
    ∃ t, exec (.addTimeout port) s = .next t ∧ exec (.addDcResponse port false) s = .next t ∧ t.bnd.adds = [] ∧ t.bnd.shelf = s.bnd.shelf ∧
      (∀ q < 4, Tab.get 0 t.bnd.group (4096 * q + rget (s.srec x) rGroup) =
        putBits (Tab.get (0 : BitVec 256) s.bnd.group (4096 * (x % 4) + rget (s.srec x) rGroup)) (s.unit * 64 + port.val) 1 0)) ∧
  (∀ (s : State) (port : Port) (x : Shelf) (n h : Nat),
    s.leadRuns = true →
    s.isUp port = true →
    0 < n →
    ∀ i < n, s.boundTo port.val (x.toNat + i) = true →
    s.policyTakes port.val 0 = true →
    s.handlerOf s.lead 1 = some h →
    (s.tiller h).spent = false →
    s.windowGone (tillerUnit h) = false →
    (s.tiller h).events.length < 64 →
    ∃ t, exec (.releaseDynamicCapacity port x n) s = .next t ∧
      (t.tiller h).events = (s.tiller h).events ++ [(1, [s.lib.handles + 1, s.reqSource 1 port.val, x.toNat, n])] ∧
      t.lib.opens = s.lib.opens ++ [⟨s.lib.handles + 1, .dcd port.val, port.val, h, s.timeOf s.lead + 1000000000, (List.range n).map (fun i => x.toNat + i)⟩] ∧
      wordsKept s t [.TIL_EVT] ∧ { t with regs := s.regs, lib := s.lib } = s) ∧
  (∀ (s : State) (port : Port) (x : Shelf) (n : Nat),
    s.leadRuns = true →
    s.isUp port = true →
    n = 0 ∨ ∃ i < n, s.boundTo port.val (x.toNat + i) = false →
    exec (.releaseDynamicCapacity port x n) s = .next (s.emit (.response (128 + port.val) 0 1 []))) ∧
  (∀ (s : State) (port : Port) (x : Shelf) (n : Nat),
    s.leadRuns = true →
    s.isUp port = true →
    0 < n →
    ∀ i < n, s.boundTo port.val (x.toNat + i) = true →
    s.policyTakes port.val 0 = false →
    ∃ t, exec (.releaseDynamicCapacity port x n) s = .next t ∧ Msg.response (128 + port.val) 0 3 [] ∈ t.out ∧ t.lib.opens = s.lib.opens ∧ t.bnd = s.bnd) ∧
  (∀ (s : State) (port : Port) (x : Shelf) (n : Nat),
    s.leadRuns = false ∨ s.isUp port = false →
    exec (.releaseDynamicCapacity port x n) s = .next s)

/-- With the desk idle, every check of R59 passed, the shelf coherent and the backing set cached: to a line without an entry, of which the Granary holds the data and with a free way, RD_SHARED and RD_OWN reserve the way BUSY, take the first general tracker, and have the Granary data in it; RD_CUR does the same and reserves no way; OWN_NODATA makes the requester the owner at once, sends it the grant, and the desk is idle again. To a line that another agent owns, each of the four makes the entry BUSY and sends that agent its snoop, and the tracker waits for the answer. RD_SHARED of an agent that already shares a line, and any kind but a read or a write from a source without a cache: the first takes a tracker and reads, the second is discarded as CAT_REQ_PROTOCOL says. A request whose address no window maps has no effect. -/
def Obligations.HomeRequestsReading : Prop :=
  (∀ (s : State) (a : Access) (c : CatSet) (d : LineData) (k : Nat),
    s.openFor a →
    kindFits a.src .rdOwn .noOp = true →
    rget (s.srec (shelfOf a.addr.toNat)) rMode = 1 →
    s.setReady a.addr.toNat c →
    entryWay c.ways (catTag a.addr.toNat) = none →
    (List.range 16).find? (fun j => eFree (c.ways.getD j 0)) = some k →
    c.ways.length = 16 →
    s.cachedLine (homeOf a.addr.toNat) a.addr.toNat = some d →
    (∃ t, exec (.rdShared a) s = .next t ∧ t.reading (8192 * homeOf a.addr.toNat) (lineOf a.addr.toNat) d ∧
      t.waysAre a.addr.toNat (c.ways.set k (mkEntry (catTag a.addr.toNat) 0 true [])) ∧ t.bnd.ticket = s.bnd.ticket + 1 ∧
      t.bnd.shelf = s.bnd.shelf ∧ t.cachedLine (homeOf a.addr.toNat) a.addr.toNat = some d) ∧
    (∃ t, exec (.rdOwn a) s = .next t ∧ t.reading (8192 * homeOf a.addr.toNat) (lineOf a.addr.toNat) d ∧
      t.waysAre a.addr.toNat (c.ways.set k (mkEntry (catTag a.addr.toNat) 0 true [])) ∧ t.bnd.ticket = s.bnd.ticket + 1 ∧
      t.bnd.shelf = s.bnd.shelf ∧ t.cachedLine (homeOf a.addr.toNat) a.addr.toNat = some d)) ∧
  (∀ (s : State) (a : Access) (c : CatSet) (d : LineData),
    s.openFor a →
    rget (s.srec (shelfOf a.addr.toNat)) rMode = 1 →
    s.setReady a.addr.toNat c →
    entryWay c.ways (catTag a.addr.toNat) = none →
    s.cachedLine (homeOf a.addr.toNat) a.addr.toNat = some d →
    kindFits a.src .rdCur .noOp = true →
    ∃ t, exec (.rdCur a) s = .next t ∧ t.reading (8192 * homeOf a.addr.toNat) (lineOf a.addr.toNat) d ∧ t.waysAre a.addr.toNat c.ways ∧ t.bnd.shelf = s.bnd.shelf) ∧
  (∀ (s : State) (a : Access) (c : CatSet) (k x : Nat),
    s.openFor a →
    rget (s.srec (shelfOf a.addr.toNat)) rMode = 1 →
    s.setReady a.addr.toNat c →
    entryWay c.ways (catTag a.addr.toNat) = none →
    (List.range 16).find? (fun j => eFree (c.ways.getD j 0)) = some k →
    c.ways.length = 16 →
    s.cacher a = some x →
    ∃ t, exec (.ownNodata a) s = .next t ∧ t.waysAre a.addr.toNat (c.ways.set k (mkEntry (catTag a.addr.toNat) 3 false [x])) ∧
      t.cat.trk = [] ∧ t.sends (s.toAgent { kind := .ownNodata, a := a } (.grant a.agent a.tag .e none) none) ∧ t.bnd.shelf = s.bnd.shelf ∧ t.grn = s.grn ∧ t.hbm = s.hbm) ∧
  (∀ (s : State) (a : Access) (c : CatSet) (k x y : Nat),
    s.openFor a →
    rget (s.srec (shelfOf a.addr.toNat)) rMode = 1 →
    s.setReady a.addr.toNat c →
    entryWay c.ways (catTag a.addr.toNat) = some k →
    c.ways.getD k 0 = mkEntry (catTag a.addr.toNat) 3 false [y] →
    c.ways.length = 16 →
    s.cacher a = some x →
    y ≠ x →
    y < 1024 →
    (∃ t, exec (.rdShared a) s = .next t ∧ (t.trk (8192 * homeOf a.addr.toNat)).map (fun z => (z.line, z.phase, z.await)) = some ((lineOf a.addr.toNat), .work, [(y, .data)]) ∧
      t.waysAre a.addr.toNat (c.ways.set k (busyEntry (lineOf a.addr.toNat) (c.ways.getD k 0) true)) ∧ t.sends (s.sendSnoop (homeOf a.addr.toNat) y .data (lineOf a.addr.toNat)) ∧ t.bnd.shelf = s.bnd.shelf) ∧
    (∃ t, exec (.rdOwn a) s = .next t ∧ (t.trk (8192 * homeOf a.addr.toNat)).map (fun z => (z.line, z.phase, z.await)) = some ((lineOf a.addr.toNat), .work, [(y, .inv)]) ∧
      t.waysAre a.addr.toNat (c.ways.set k (busyEntry (lineOf a.addr.toNat) (c.ways.getD k 0) true)) ∧ t.sends (s.sendSnoop (homeOf a.addr.toNat) y .inv (lineOf a.addr.toNat)) ∧ t.bnd.shelf = s.bnd.shelf) ∧
    (∃ t, exec (.ownNodata a) s = .next t ∧ (t.trk (8192 * homeOf a.addr.toNat)).map (fun z => (z.line, z.phase, z.await)) = some ((lineOf a.addr.toNat), .work, [(y, .inv)]) ∧
      t.waysAre a.addr.toNat (c.ways.set k (busyEntry (lineOf a.addr.toNat) (c.ways.getD k 0) true)) ∧ t.sends (s.sendSnoop (homeOf a.addr.toNat) y .inv (lineOf a.addr.toNat)) ∧ t.bnd.shelf = s.bnd.shelf) ∧
    (∃ t, exec (.rdCur a) s = .next t ∧ (t.trk (8192 * homeOf a.addr.toNat)).map (fun z => (z.line, z.phase, z.await)) = some ((lineOf a.addr.toNat), .work, [(y, .cur)]) ∧
      t.waysAre a.addr.toNat (c.ways.set k (busyEntry (lineOf a.addr.toNat) (c.ways.getD k 0) true)) ∧ t.sends (s.sendSnoop (homeOf a.addr.toNat) y .cur (lineOf a.addr.toNat)) ∧ t.bnd.shelf = s.bnd.shelf)) ∧
  (∀ (s : State) (a : Access) (c : CatSet) (d : LineData) (k x : Nat),
    s.openFor a →
    rget (s.srec (shelfOf a.addr.toNat)) rMode = 1 →
    s.setReady a.addr.toNat c →
    entryWay c.ways (catTag a.addr.toNat) = some k →
    eState (c.ways.getD k 0) = 1 →
    eBusy (c.ways.getD k 0) = false →
    c.ways.length = 16 →
    s.cacher a = some x →
    s.cachedLine (homeOf a.addr.toNat) a.addr.toNat = some d →
    ∃ t, exec (.rdShared a) s = .next t ∧ t.reading (8192 * homeOf a.addr.toNat) (lineOf a.addr.toNat) d ∧ t.waysAre a.addr.toNat (c.ways.set k (busyEntry (lineOf a.addr.toNat) (c.ways.getD k 0) true)) ∧ t.sends s) ∧
  (∀ (s : State) (a : Access) (d : LineData) (m : WbMeta) (be : BitVec 64),
    s.mapped a = none →
    exec (.rdShared a) s = .next s ∧ exec (.rdOwn a) s = .next s ∧ exec (.rdCur a) s = .next s ∧ exec (.ownNodata a) s = .next s ∧
    exec (.cleanEvict a) s = .next s ∧ exec (.wb a d m) s = .next s ∧ exec (.wr a d be) s = .next s) ∧
  (∀ (s : State) (a b : Access) (d : LineData) (m : WbMeta),
    s.mapped a = some b →
    rget (s.srec (shelfOf b.addr.toNat)) rMode = 1 →
    kindFits b.src .rdOwn .noOp = false →
    exec (.rdShared a) s = .next (catReqProtocol b s) ∧ exec (.rdOwn a) s = .next (catReqProtocol b s) ∧ exec (.ownNodata a) s = .next (catReqProtocol b s) ∧
    exec (.cleanEvict a) s = .next (catReqProtocol b s) ∧ exec (.wb a d m) s = .next (catReqProtocol b s))

/-- With the desk idle, every check of R59 passed and the line in the Granary: WR merges the enabled bytes into the line and is completed. On a coherent shelf WB of the owner stores its line; when it gave the line up the entry is freed, with MetaValue S it is SHARED by it, and with A or No-Op it stays its owner; CLEAN_EVICT of the owner frees the entry and stores nothing, and of one of two sharers removes it from the entry. A WR to a line that another agent owns makes the entry BUSY and snoops that agent first. -/
def Obligations.HomeRequestsWriting : Prop :=
  (∀ (s : State) (a : Access) (c : CatSet) (b d : LineData) (be : BitVec 64),
    s.openFor a →
    s.setReady a.addr.toNat c →
    entryWay c.ways (catTag a.addr.toNat) = none →
    s.cachedLine (homeOf a.addr.toNat) a.addr.toNat = some b →
    ∃ t, exec (.wr a d be) s = .next t ∧ t.cachedLine (homeOf a.addr.toNat) a.addr.toNat = some (mergeLine b d be) ∧
      t.waysAre a.addr.toNat c.ways ∧ t.cat.trk = [] ∧ t.bnd.shelf = s.bnd.shelf ∧ t.sends (s.answer { kind := .wr, a := a } .none none)) ∧
  (∀ (s : State) (a : Access) (c : CatSet) (b d : LineData) (m : WbMeta) (k x : Nat),
    s.openFor a →
    rget (s.srec (shelfOf a.addr.toNat)) rMode = 1 →
    s.setReady a.addr.toNat c →
    entryWay c.ways (catTag a.addr.toNat) = some k →
    c.ways.getD k 0 = mkEntry (catTag a.addr.toNat) 3 false [x] →
    c.ways.length = 16 →
    s.cacher a = some x →
    s.cachedLine (homeOf a.addr.toNat) a.addr.toNat = some b →
    kindFits a.src .wb m = true →
    ∃ t, exec (.wb a d m) s = .next t ∧ t.cachedLine (homeOf a.addr.toNat) a.addr.toNat = some d ∧ t.waysAre a.addr.toNat (c.ways.set k
        (if m = .i ∨ m = .dirtyEvict then 0 else mkEntry (catTag a.addr.toNat) (if m = .s then 1 else 3) false [x])) ∧
      t.cat.trk = [] ∧ t.bnd.shelf = s.bnd.shelf ∧ t.sends (s.toAgent { kind := .wb, a := a } (.complete a.agent a.tag) none)) ∧
  (∀ (s : State) (a : Access) (c : CatSet) (k x : Nat),
    s.openFor a →
    rget (s.srec (shelfOf a.addr.toNat)) rMode = 1 →
    s.setReady a.addr.toNat c →
    entryWay c.ways (catTag a.addr.toNat) = some k →
    c.ways.getD k 0 = mkEntry (catTag a.addr.toNat) 3 false [x] →
    c.ways.length = 16 →
    s.cacher a = some x →
    ∃ t, exec (.cleanEvict a) s = .next t ∧ t.waysAre a.addr.toNat (c.ways.set k 0) ∧
      t.cat.trk = [] ∧ t.bnd.shelf = s.bnd.shelf ∧ t.grn = s.grn ∧ t.hbm = s.hbm ∧ t.sends (s.toAgent { kind := .cleanEvict, a := a } (.complete a.agent a.tag) none)) ∧
  (∀ (s : State) (a : Access) (c : CatSet) (k x y : Nat),
    s.openFor a →
    rget (s.srec (shelfOf a.addr.toNat)) rMode = 1 →
    s.setReady a.addr.toNat c →
    entryWay c.ways (catTag a.addr.toNat) = some k →
    c.ways.getD k 0 = mkEntry (catTag a.addr.toNat) 1 false [x, y] →
    x ≠ y →
    c.ways.length = 16 →
    s.cacher a = some x →
    y < 1024 →
    ∃ t, exec (.cleanEvict a) s = .next t ∧ t.waysAre a.addr.toNat (c.ways.set k (mkEntry (catTag a.addr.toNat) 1 false [y])) ∧
      t.cat.trk = [] ∧ t.bnd.shelf = s.bnd.shelf ∧ t.grn = s.grn ∧ t.hbm = s.hbm ∧ t.sends (s.toAgent { kind := .cleanEvict, a := a } (.complete a.agent a.tag) none)) ∧
  (∀ (s : State) (a : Access) (c : CatSet) (d : LineData) (be : BitVec 64) (k y : Nat),
    s.openFor a →
    rget (s.srec (shelfOf a.addr.toNat)) rMode = 1 →
    s.setReady a.addr.toNat c →
    entryWay c.ways (catTag a.addr.toNat) = some k →
    c.ways.getD k 0 = mkEntry (catTag a.addr.toNat) 3 false [y] →
    c.ways.length = 16 →
    s.cacher a ≠ some y →
    y < 1024 →
    (∃ t, exec (.wr a d be) s = .next t ∧ (t.trk (8192 * homeOf a.addr.toNat + if a.src = .host then 7680 else 0)).map (fun z => (z.line, z.phase, z.await)) = some ((lineOf a.addr.toNat), .work, [(y, .inv)]) ∧
      t.waysAre a.addr.toNat (c.ways.set k (busyEntry (lineOf a.addr.toNat) (c.ways.getD k 0) true)) ∧ t.sends (s.sendSnoop (homeOf a.addr.toNat) y .inv (lineOf a.addr.toNat)) ∧ t.bnd.shelf = s.bnd.shelf))

/-- A response that the snoop permits, of the first of two or more agents awaited, is recorded in the tracker and changes nothing else; a BIRSP and a D2H response are taken alike, and data that a device cache forwards is kept as the line's value. The last response that an eviction awaits frees its tracker and its way. A response that the snoop does not permit is recorded, and its port is contained. A response of an agent that is not awaited changes nothing. A BICONFLICT of an agent awaited is acknowledged on TC6, and a request that has not reached the bank is named in the tracker; one of an agent not awaited changes nothing. CAT_REQ_PROTOCOL is recorded and contains the port; of a UP port in service all four agents start to die. Which responses BISnpData and BISnpCur permit is the model's choice (log entry 69). -/
def Obligations.SnoopResponses : Prop :=
  (∀ (s : State) (r : Region) (n : Nat) (x : Tracker) (agent : Agent) (k : SnpKind) (rsp : SnpRsp) (e : Nat × SnpKind) (rest : List (Nat × SnpKind)),
    s.trk (8192 * r.val + n % 8192) = some x →
    x.await = (agent.toNat, k) :: e :: rest →
    ∀ y ∈ e :: rest, y.1 ≠ agent.toNat →
    permits k rsp = true →
    s.grn.roomed = [] →
    (∃ t, exec (.biRsp r n agent rsp) s = .next t ∧ exec (.d2hSnoopResponse r n agent rsp none) s = .next t ∧
      t = s.setTrk (8192 * r.val + n % 8192) (some { x with await := e :: rest, answers := (agent.toNat, rsp) :: x.answers })) ∧
    (∀ d : LineData, ∃ t, exec (.d2hSnoopResponse r n agent rsp (some d)) s = .next t ∧
      t = s.setTrk (8192 * r.val + n % 8192)
        (some { x with await := e :: rest, answers := (agent.toNat, rsp) :: x.answers, taken := some d, stored := false }))) ∧
  (∀ (s : State) (r : Region) (x : Tracker) (agent : Agent) (c : CatSet) (j : Nat),
    s.cat.trk = [(8192 * r.val + 7680, some x)] →
    x.purpose = .evict →
    x.phase = .work →
    x.await = [(agent.toNat, .inv)] →
    x.named = [] →
    x.chain = [] →
    x.taken = none →
    homeOf x.line = r.val →
    s.setReady x.line c →
    entryWay c.ways (catTag x.line) = some j →
    c.ways.length = 16 →
    s.cat.voq = [] →
    s.cat.inval = [] →
    s.grn.roomed = [] →
    ∃ t, exec (.biRsp r 7680 agent .i) s = .next t ∧ exec (.d2hSnoopResponse r 7680 agent .i none) s = .next t ∧ t.cat.trk = [] ∧
      t.waysAre x.line (c.ways.set j 0) ∧ t.out = s.out ∧ t.swc = s.swc ∧ t.bnd = s.bnd ∧ t.grn = s.grn ∧ t.hbm = s.hbm) ∧
  (∀ (s : State) (r : Region) (n : Nat) (x : Tracker) (agent : Agent) (k : SnpKind) (rsp : SnpRsp) (e : Nat × SnpKind) (rest : List (Nat × SnpKind)),
    s.trk (8192 * r.val + n % 8192) = some x →
    x.await = (agent.toNat, k) :: e :: rest →
    ∀ y ∈ e :: rest, y.1 ≠ agent.toNat →
    permits k rsp = false →
    s.rgn r ≠ 2 →
    ePtrs x.entry ≠ [agent.toNat] →
    agentUnit agent = s.unit →
    s.role (agent.toNat / 4 % 64) ≠ 0 →
    s.get PRT_PORT_STS.STATE (agent.toNat / 4 % 64) = 4 →
    s.flag PRT_PORT_STS.GANGED (agent.toNat / 4 % 64) = false →
    (∃ t, exec (.biRsp r n agent rsp) s = .next t ∧ t.stsBit (catSet r) 6 ∧ t.get PRT_PORT_STS.STATE (agent.toNat / 4 % 64) = 1) ∧
    (∀ d : LineData, ∃ t, exec (.d2hSnoopResponse r n agent rsp (some d)) s = .next t ∧ t.stsBit (catSet r) 6 ∧ t.get PRT_PORT_STS.STATE (agent.toNat / 4 % 64) = 1)) ∧
  (∀ (s : State) (r : Region) (n : Nat) (agent : Agent) (rsp : SnpRsp) (d : Option LineData) (tag : NamedTag),
    (s.trk (8192 * r.val + n % 8192)).all (fun x => x.await.all (fun e => e.1 != agent.toNat)) = true →
    exec (.biRsp r n agent rsp) s = .next s ∧ exec (.d2hSnoopResponse r n agent rsp d) s = .next s ∧ exec (.biConflict r n agent tag) s = .next s) ∧
  (∀ (s : State) (r : Region) (n : Nat) (x : Tracker) (agent : Agent) (tag : NamedTag),
    s.trk (8192 * r.val + n % 8192) = some x →
    x.await.any (fun e => e.1 == agent.toNat) = true →
    reached s x agent.toNat tag.tag tag.later = false →
    ∃ t, exec (.biConflict r n agent tag) s = .next t ∧
      t = (s.sendAck r agent tag.tag).setTrk (8192 * r.val + n % 8192) (some { x with named := (agent.toNat, tag.tag) :: x.named })) ∧
  (∀ (s : State) (r : Region) (n : Nat) (x : Tracker) (agent : Agent) (tag : NamedTag),
    s.trk (8192 * r.val + n % 8192) = some x →
    x.await.any (fun e => e.1 == agent.toNat) = true →
    reached s x agent.toNat tag.tag tag.later = true →
    exec (.biConflict r n agent tag) s = .next (s.sendAck r agent tag.tag)) ∧
  (∀ (s : State) (a : Access),
    s.rgn (homeOf a.addr.toNat) ≠ 2 →
    s.get PRT_PORT_STS.STATE a.port = 4 →
    s.flag PRT_PORT_STS.GANGED a.port = false →
    s.role a.port = 1 →
    s.cat.dead = [] →
    s.cat.dying = [] →
    ∃ t, exec (.catReqProtocol a) s = .next t ∧ t.stsBit (catSet (homeOf a.addr.toNat)) 12 ∧ t.get PRT_PORT_STS.STATE a.port = 1 ∧
      (∀ i < 4, ((agentId s.unit a.port i).toNat, DeadScope.all) ∈ t.cat.dying)) ∧
  (∀ (s : State) (a : Access),
    s.rgn (homeOf a.addr.toNat) ≠ 2 →
    s.get PRT_PORT_STS.STATE a.port = 4 →
    s.flag PRT_PORT_STS.GANGED a.port = false →
    s.role a.port ≠ 0 →
    ∃ t, exec (.catReqProtocol a) s = .next t ∧ t.stsBit (catSet (homeOf a.addr.toNat)) 12 ∧ t.get PRT_PORT_STS.STATE a.port = 1) ∧
  (∀ (s : State) (a : Access),
    s.rgn (homeOf a.addr.toNat) ≠ 2 →
    s.role a.port = 0 →
    s.flag PRT_PORT_STS.GANGED a.port = false →
    ∃ t, exec (.catReqProtocol a) s = .next t ∧ t.stsBit (catSet (homeOf a.addr.toNat)) 12 ∧ t.prt = s.prt ∧ t.cat = s.cat)

/-- CATALOGUE_FILL_DONE caches the set with the entries that HBM holds and ends the fill, also where a column was corrected; a set that cannot be read raises REGION_FATAL and is not cached; with no fill under way for the set it changes nothing. CHAIN_RETRY_DELAY presents the oldest refused request of the region again, and with none it changes nothing. DEDUPE_RETIRE removes exactly the completed entry of the region whose completion left first, and OCC follows; with no completed entry it changes nothing. A write of a register of the group that reaches it stores the fields and does what the written bits start: the same as the command. Given by a path that may not write its register, a command is counted as a discard and does nothing else; in the window of an isolated region, or through the manager port before ready, it does nothing. CAT_ENTRY_LOOKUP of a line homed in the region reads RESULT 0 for an entry in a cached set, 1 for one in the backing store and 2 for an UNCACHED line, and its data words hold the entry (zero for an UNCACHED line); of a line homed elsewhere it reads RESULT 3 and zeros. POISON_LEDGER_READ reads the four bytes of the entry of a shelf of the region, and for a shelf of another region sets WRONG_REGION and reads zero. While BUSY either is discarded, the second with its SHELF stored. -/
def Obligations.DeskQueues : Prop :=
  (∀ (s : State) (r : Region) (i : SetRead) (f : Nat × List Nat),
    s.cat.fills.find? (fun x => x.1 == catKey r i.index.toNat) = some f →
    f.2 = [] →
    s.cachedSet r i.index.toNat = none →
    (Tab.get [] s.cat.lru (2 ^ 14 * r.val + i.index.toNat % 2 ^ 14)).length < 12 →
    i.found = .good →
    s.grn.roomed = [] →
    ∃ t, exec (.catalogueFillDone r i) s = .next t ∧ t.cachedSet r i.index.toNat = some ⟨s.backing r i.index.toNat, List.range 16, false⟩ ∧
      t.cat.fills = s.cat.fills.filter (fun x => x.1 != catKey r i.index.toNat) ∧ { t with cat := s.cat } = s) ∧
  (∀ (s : State) (r : Region) (i : SetRead) (f : Nat × List Nat),
    s.cat.fills.find? (fun x => x.1 == catKey r i.index.toNat) = some f →
    f.2 = [] →
    s.cachedSet r i.index.toNat = none →
    (Tab.get [] s.cat.lru (2 ^ 14 * r.val + i.index.toNat % 2 ^ 14)).length < 12 →
    i.found = .corrected →
    s.grn.roomed = [] →
    ∃ t, exec (.catalogueFillDone r i) s = .next t ∧ t.cachedSet r i.index.toNat = some ⟨s.backing r i.index.toNat, List.range 16, false⟩ ∧
      t.cat.fills = s.cat.fills.filter (fun x => x.1 != catKey r i.index.toNat) ∧ t.hbm = s.hbm ∧
      t.get GRN_ECC_STS.CE r = (s.bump GRN_ECC_STS.CE r 1).get GRN_ECC_STS.CE r) ∧
  (∀ (s : State) (r : Region) (i : SetRead),
    (s.cat.fills.find? (fun x => x.1 == catKey r i.index.toNat)).isSome = true →
    i.found = .uncorrectable →
    s.rgn r ≠ 2 →
    ∃ t, exec (.catalogueFillDone r i) s = .next t ∧ t.stsBit (catSet r) 3 ∧ t.cachedSet r i.index.toNat = s.cachedSet r i.index.toNat) ∧
  (∀ (s : State) (r : Region) (i : SetRead),
    s.cat.fills.find? (fun x => x.1 == catKey r i.index.toNat) = none →
    exec (.catalogueFillDone r i) s = .next s) ∧
  (∀ (s : State) (r : Region) (e : Nat × Request),
    s.cat.retry.find? (fun x => x.1 == r.val) = some e →
    s.grn.roomed = [] →
    exec (.chainRetryDelay r) s = .next ((s.inCat fun c => { c with retry := c.retry.erase e }).work [.present e.2])) ∧
  (∀ (s : State) (r : Region) (e : Nat × Request),
    s.cat.retry.find? (fun x => x.1 == r.val) = some e →
    e.2.ticket = 0 →
    s.early e.2.a = false →
    s.rgn (homeOf e.2.a.addr.toNat) = 2 →
    e.2.kind = .wr →
    e.2.a.src = .host →
    s.grn.roomed = [] →
    ∃ t, exec (.chainRetryDelay r) s = .next t ∧ t.cat.retry = s.cat.retry.erase e ∧ t.sends (s.answer e.2 .none none)) ∧
  (∀ (s : State) (r : Region),
    s.cat.retry.all (fun x => x.1 != r.val) = true →
    exec (.chainRetryDelay r) s = .next s) ∧
  (∀ (s : State) (r : Region) (e : DdpEntry),
    e ∈ s.cat.ddp →
    e.region = r.val →
    e.done = true →
    ∀ x ∈ s.cat.ddp, x.region = r.val → x.done = true → x ≠ e → e.fin < x.fin →
    s.cat.ddpWait.all (fun x => x.1 != r.val) = true →
    ∃ t, exec (.dedupeRetire r) s = .next t ∧ t.cat.ddp = s.cat.ddp.erase e ∧
      t.get CAT_DDP_STS.OCC r = ((s.cat.ddp.erase e).filter (fun x => x.region == r.val)).length % 2 ^ 15 ∧
      wordsKept s t [.CAT_DDP_STS] ∧ { t with regs := s.regs, cat := s.cat } = s) ∧
  (∀ (s : State) (r : Region),
    s.cat.ddp.all (fun x => x.region != r.val || !x.done) = true →
    exec (.dedupeRetire r) s = .next s) ∧
  (∀ (s : State) (p : Path) (a : BitVec 32) (d : BitVec 64) (i : Nat),
    s.writeReaches p a (.reg .CAT_ENT_CMD i) →
    exec (.registerWrite p a d 4) s = if d.getLsbD 0 then (if s.flag CAT_ENT_CMD.BUSY i then .next (if (s.stored .CAT_ENT_CMD i d a).cesSet (regSet s .CAT_ENT_CMD i a.toNat) = s.cesSet (regSet s .CAT_ENT_CMD i a.toNat) then (s.stored .CAT_ENT_CMD i d a).discard (regSet s .CAT_ENT_CMD i a.toNat) else (s.stored .CAT_ENT_CMD i d a)) else exec (.catEntryLookup p (ixRegion i)) (s.stored .CAT_ENT_CMD i d a)) else .next (s.stored .CAT_ENT_CMD i d a)) ∧
  (∀ (s : State) (p : Path) (a : BitVec 32) (d : BitVec 64) (i : Nat),
    s.writeReaches p a (.reg .CAT_PLG_CMD i) →
    exec (.registerWrite p a d 4) s = if d.getLsbD 20 then (if s.flag CAT_PLG_CMD.BUSY i then .next (if (s.stored .CAT_PLG_CMD i d a).cesSet (regSet s .CAT_PLG_CMD i a.toNat) = s.cesSet (regSet s .CAT_PLG_CMD i a.toNat) then (s.stored .CAT_PLG_CMD i d a).discard (regSet s .CAT_PLG_CMD i a.toNat) else (s.stored .CAT_PLG_CMD i d a)) else exec (.poisonLedgerRead p (ixRegion i) (BitVec.ofNat 20 (bits (d.setWidth 32) 0 20))) (s.stored .CAT_PLG_CMD i d a)) else .next (s.stored .CAT_PLG_CMD i d a)) ∧
  (∀ (s : State) (p : Path) (r : Region) (x : Shelf),
    s.mayWrite p = false →
    exec (.catEntryLookup p r) s = .next (if s.windowGone (setUnit (catSet r)) || s.unheard p then s else s.discard (catSet r)) ∧
    exec (.poisonLedgerRead p r x) s = .next (if s.windowGone (setUnit (catSet r)) || s.unheard p then s else s.discard (catSet r))) ∧
  (∀ (s : State) (p : Path) (r : Region) (x : Shelf),
    s.admits p (catSet r) →
    (s.flag CAT_ENT_CMD.BUSY r = true → exec (.catEntryLookup p r) s = .next (s.discard (catSet r))) ∧
      (s.flag CAT_PLG_CMD.BUSY r = true → exec (.poisonLedgerRead p r x) s = .next ((s.set CAT_PLG_CMD.SHELF r x.toNat).discard (catSet r)))) ∧
  (∀ (s : State) (p : Path) (r : Region) (fa : Nat),
    s.admits p (catSet r) →
    s.flag CAT_ENT_CMD.BUSY r = false →
    fa = (s.word .CAT_ENT_ADDR_LO r).toNat / 64 * 64 + s.get CAT_ENT_ADDR_HI.LINE_HI r * 2 ^ 32 →
    homeOf fa ≠ r.val →
    ∃ t, exec (.catEntryLookup p r) s = .next t ∧ t.get CAT_ENT_CMD.RESULT r = 3 ∧ t.word .CAT_ENT_D0 r = 0 ∧ t.word .CAT_ENT_D1 r = 0 ∧
      onlyRegs s t ∧ wordsKept s t [.CAT_ENT_CMD, .CAT_ENT_D0, .CAT_ENT_D1]) ∧
  (∀ (s : State) (p : Path) (r : Region) (x : Shelf),
    s.admits p (catSet r) →
    s.flag CAT_PLG_CMD.BUSY r = false →
    x.toNat % 4 ≠ r.val →
    ∃ t, exec (.poisonLedgerRead p r x) s = .next t ∧ t.word .CAT_PLG_D r = 0 ∧ t.get CAT_PLG_CMD.WRONG_REGION r = 1 ∧ t.get CAT_PLG_CMD.SHELF r = x.toNat ∧
      onlyRegs s t ∧ wordsKept s t [.CAT_PLG_CMD, .CAT_PLG_D]) ∧
  (∀ (s : State) (p : Path) (r : Region) (fa : Nat),
    s.admits p (catSet r) →
    s.flag CAT_ENT_CMD.BUSY r = false →
    fa = (s.word .CAT_ENT_ADDR_LO r).toNat / 64 * 64 + s.get CAT_ENT_ADDR_HI.LINE_HI r * 2 ^ 32 →
    homeOf fa = r.val →
    ∃ t, exec (.catEntryLookup p r) s = .next t ∧
      t.get CAT_ENT_CMD.RESULT r = (if eState (s.entry fa) = 0 then 2 else if (s.cachedSet r (catIndex fa)).isSome then 0 else 1) ∧
      (eState (s.entry fa) ≠ 0 → t.word .CAT_ENT_D0 r = BitVec.ofNat 32 (bits (s.entry fa) 0 32) ∧
        t.word .CAT_ENT_D1 r = BitVec.ofNat 32 (bits (s.entry fa) 32 32)) ∧
      (eState (s.entry fa) = 0 → t.word .CAT_ENT_D0 r = 0 ∧ t.word .CAT_ENT_D1 r = 0) ∧
      onlyRegs s t ∧ wordsKept s t [.CAT_ENT_CMD, .CAT_ENT_D0, .CAT_ENT_D1]) ∧
  (∀ (s : State) (p : Path) (r : Region) (x : Shelf),
    s.admits p (catSet r) →
    s.flag CAT_PLG_CMD.BUSY r = false →
    x.toNat % 4 = r.val →
    ∃ t, exec (.poisonLedgerRead p r x) s = .next t ∧ t.word .CAT_PLG_D r = BitVec.ofNat 32 (peekN s.hbm (ledgerAt x.toNat) 4) ∧
      t.get CAT_PLG_CMD.WRONG_REGION r = 0 ∧ onlyRegs s t ∧ wordsKept s t [.CAT_PLG_CMD, .CAT_PLG_D])

/-- Where no tracker waits for the agent, DEAD_SET_ENTRY and RECLAIM_START put an agent that is not yet dead in the dead set with its scope, set LAST_AGENT and COUNT, and start the walk of every region that is not isolated; a tracker that waits for it and for another agent takes its response as I. With no death waiting to be entered DEAD_SET_ENTRY changes nothing; of an agent that is dead with ALL, RECLAIM_START with another scope changes nothing, and a second scoped death waits, shown as BUSY. A start while BUSY is a counted discard. RECLAIM_SET_VISIT of a cached set without an OWNED entry removes exactly the dead pointers and moves on, and an OWNED entry of a dead agent is freed, counted in POISONED and its line stored poisoned; it, RECLAIM_WALK_END and RECLAIM_WALK_TMO do nothing when no walk runs. RECLAIM_WALK_END of the last region takes the agent out and clears its filter, and does nothing while a set is left. RECLAIM_WALK_TMO ends the walk with TIMEOUT and begins the isolation of the region. A write of a register of the group that reaches it stores the fields and does what the written bits start: the same as the command. Given by a path that may not write its register, a command is counted as a discard and does nothing else; in the window of an isolated region, or through the manager port before ready, it does nothing. TXN_TIMEOUT of a tracker whose pool read a port outside the plan owes answers the read with poison and frees the tracker; of one that waits for a snooped agent of an UP port in L0, the agent is taken to answer I and the port goes to Detect; of one that stands for a request to another unit, the request ends. Each counts the timeout and raises CAT_TXN_TIMEOUT. With no tracker, none owing, or its timer paused, TXN_TIMEOUT changes nothing. TXN_PAUSE_CAP of a paused timer counts it, and the timer runs again; of any other it changes nothing. -/
def Obligations.DeadAgents : Prop :=
  (∀ (s : State) (agent : Agent) (sc : DeadScope),
    s.cat.dying = [(agent.toNat, sc)] →
    Tab.get none s.cat.dead agent.toNat = none →
    s.cat.trk.all (fun e => match e.2 with | some x => x.await.all (fun e => e.1 != agent.toNat) && x.named.all (fun e => e.1 != agent.toNat) | none => true) = true →
    ∃ t, exec (.deadSetEntry agent) s = .next t ∧ t.cat.dying = [] ∧ Tab.get none t.cat.dead agent.toNat = some ⟨sc, liveRegions s⟩ ∧
      (∀ r < 4, s.rgn r ≠ 2 → (Tab.get {} t.cat.walk r : Walk).running = true ∧ t.get CAT_RCL_STS.BUSY r = 1 ∧
        t.get CAT_DEAD_STS.LAST_AGENT r = agent.toNat ∧ t.get CAT_DEAD_STS.LAST_SCOPE r = scopeCode sc ∧ t.get CAT_DEAD_STS.COUNT r = t.cat.dead.length % 2 ^ CAT_DEAD_STS.COUNT.w) ∧
      t.cat.trk = s.cat.trk ∧ wordsKept s t [.CAT_DEAD_STS, .CAT_RCL_STS] ∧ { t with regs := s.regs, cat := s.cat } = s) ∧
  (∀ (s : State) (agent : Agent),
    s.cat.dying.all (fun e => e.1 != agent.toNat) = true →
    exec (.deadSetEntry agent) s = .next s) ∧
  (∀ (s : State) (agent : Agent) (k b : Nat) (x : Tracker) (q : Request) (j i : SnpKind),
    s.cat.dying = [(agent.toNat, .all)] →
    Tab.get none s.cat.dead agent.toNat = none →
    s.cat.trk = [(k, some x)] →
    x.await = [(agent.toNat, j), (b, i)] →
    x.named = [] →
    eState x.entry = 1 →
    b ≠ agent.toNat →
    x.purpose = .request q →
    x.phase = .work →
    ∃ t, exec (.deadSetEntry agent) s = .next t ∧ t.trk k = some { x with await := [(b, i)], answers := (agent.toNat, .i) :: x.answers }) ∧
  (∀ (s : State) (p : Path) (r : Region) (sc : DeadScope),
    s.admits p (catSet r) →
    s.flag CAT_RCL_STS.BUSY r = false →
    s.get CAT_RCL_CMD.SCOPE r = 0 ∧ sc = .all ∨ s.get CAT_RCL_CMD.SCOPE r = 1 ∧ sc = .group (s.get CAT_RCL_ARG.ARG r) ∨ s.get CAT_RCL_CMD.SCOPE r = 2 ∧ sc = .shelf (s.get CAT_RCL_ARG.ARG r) →
    Tab.get none s.cat.dead (s.get CAT_RCL_CMD.AGENT r) = none →
    s.cat.trk.all (fun e => match e.2 with | some x => x.await.all (fun e => e.1 != s.get CAT_RCL_CMD.AGENT r) && x.named.all (fun e => e.1 != s.get CAT_RCL_CMD.AGENT r) | none => true) = true →
    ∃ t, exec (.reclaimStart p r) s = .next t ∧ Tab.get none t.cat.dead (s.get CAT_RCL_CMD.AGENT r) = some ⟨sc, liveRegions s⟩ ∧
      (∀ q < 4, s.rgn q ≠ 2 → (Tab.get {} t.cat.walk q : Walk).running = true ∧ t.get CAT_RCL_STS.BUSY q = 1 ∧ t.get CAT_DEAD_STS.LAST_AGENT q = s.get CAT_RCL_CMD.AGENT r) ∧
      t.cat.trk = s.cat.trk ∧ wordsKept s t [.CAT_DEAD_STS, .CAT_RCL_STS] ∧ { t with regs := s.regs, cat := s.cat } = s) ∧
  (∀ (s : State) (p : Path) (r : Region),
    s.admits p (catSet r) →
    s.flag CAT_RCL_STS.BUSY r = true →
    exec (.reclaimStart p r) s = .next (s.discard (catSet r))) ∧
  (∀ (s : State) (p : Path) (r : Region) (e : DeadEntry),
    s.admits p (catSet r) →
    s.flag CAT_RCL_STS.BUSY r = false →
    Tab.get none s.cat.dead (s.get CAT_RCL_CMD.AGENT r) = some e →
    s.get CAT_RCL_CMD.SCOPE r = 2 →
    ∃ t, exec (.reclaimStart p r) s = .next t ∧ t.cat.dead = s.cat.dead ∧ t.cat.walk = s.cat.walk ∧ (e.scope = .all → t = s) ∧
      (e.scope ≠ .all → t.cat.deadWait = s.cat.deadWait ++ [(s.get CAT_RCL_CMD.AGENT r, .shelf (s.get CAT_RCL_ARG.ARG r))] ∧
        (∀ q < 4, s.rgn q ≠ 2 → t.get CAT_RCL_STS.BUSY q = 1)) ∧ wordsKept s t [.CAT_RCL_STS] ∧ { t with regs := s.regs, cat := s.cat } = s) ∧
  (∀ (s : State) (r : Region) (i : Nat) (c : CatSet),
    (Tab.get {} s.cat.walk r : Walk).running = true →
    walkSets s r = [i] →
    s.cat.fills = [] →
    s.cachedSet r i = some c →
    c.ways.all (fun e => eState e != 3) = true →
    ∃ t, exec (.reclaimSetVisit r) s = .next t ∧ Tab.get {} t.cat.walk r = (⟨true, (i + 1) % 2 ^ 26⟩ : Walk) ∧
      t.cachedSet r i = some { c with modified := true, ways := c.ways.map (fun e =>
        if !eBusy e && (ePtrs e).any (fun a => s.deadFor a (catLine r i (eTag e))) then
          (if (ePtrs e).filter (fun a => !s.deadFor a (catLine r i (eTag e))) = [] then 0
           else mkEntry (eTag e) 1 false ((ePtrs e).filter (fun a => !s.deadFor a (catLine r i (eTag e))))) else e) } ∧
      { t with cat := s.cat } = s) ∧
  (∀ (s : State) (r : Region) (i a : Nat) (c : CatSet) (e : Entry),
    (Tab.get {} s.cat.walk r : Walk).running = true →
    walkSets s r = [i] →
    s.cat.fills = [] →
    s.cachedSet r i = some c →
    c.ways = e :: List.replicate 15 0 →
    e = mkEntry (eTag e) 3 false [a] →
    a < 1024 →
    (s.cachedLine r (catLine r i (eTag e))).isSome = true →
    ∃ t, exec (.reclaimSetVisit r) s = .next t ∧ Tab.get {} t.cat.walk r = (⟨true, (i + 1) % 2 ^ 26⟩ : Walk) ∧
      (t.cachedSet r i).map (fun x => x.ways) = some (List.replicate 16 0) ∧ ((t.cachedLine r (catLine r i (eTag e))).map (fun d => d.poison)) = some true ∧
      t.get CAT_RCL_STS.POISONED r = satAdd CAT_RCL_STS.POISONED.w (s.get CAT_RCL_STS.POISONED r) 1) ∧
  (∀ (s : State) (r : Region),
    (Tab.get {} s.cat.walk r : Walk).running = false →
    exec (.reclaimSetVisit r) s = .next s ∧ exec (.reclaimWalkEnd r) s = .next s ∧ exec (.reclaimWalkTmo r) s = .next s) ∧
  (∀ (s : State) (r : Region) (a : Nat),
    (Tab.get {} s.cat.walk r : Walk).running = true →
    walkSets s r = [] →
    s.cat.dead = [(a, some ⟨.all, [r.val]⟩)] →
    s.cat.deadWait = [] →
    s.rgn r ≠ 2 →
    ∃ t, exec (.reclaimWalkEnd r) s = .next t ∧ t.cat.dead = [] ∧ Tab.get 0 t.cat.filter (1024 * r.val + a) = 0 ∧
      (Tab.get {} t.cat.walk r : Walk).running = false ∧ t.get CAT_RCL_STS.BUSY r = 0 ∧ t.get CAT_RCL_STS.DONE r = 1 ∧
      t.get CAT_RCL_STS.RESULT r = 0 ∧ t.get CAT_DEAD_STS.COUNT r = 0 ∧ wordsKept s t [.CAT_DEAD_STS, .CAT_RCL_STS] ∧
      { t with regs := s.regs, cat := s.cat } = s) ∧
  (∀ (s : State) (r : Region),
    walkSets s r ≠ [] →
    exec (.reclaimWalkEnd r) s = .next s) ∧
  (∀ (s : State) (r : Region),
    (Tab.get {} s.cat.walk r : Walk).running = true →
    s.rgn r = 0 →
    [0, 1, 2, 3].any (fun q => q != r.val && s.rgn q == 0) = true →
    s.fatal = false →
    ∃ t, exec (.reclaimWalkTmo r) s = .next t ∧ (Tab.get {} t.cat.walk r : Walk).running = false ∧
      t.get CAT_RCL_STS.DONE r = 1 ∧ t.get CAT_RCL_STS.RESULT r = 1 ∧ t.stsBit (catSet r) 10 ∧ t.rgn r = 1) ∧
  (∀ (s : State) (p : Path) (a : BitVec 32) (d : BitVec 64) (i : Nat),
    s.writeReaches p a (.reg .CAT_RCL_CMD i) →
    exec (.registerWrite p a d 4) s = if d.getLsbD 16 then (if s.flag CAT_RCL_STS.BUSY i then .next (if (s.stored .CAT_RCL_CMD i d a).cesSet (regSet s .CAT_RCL_CMD i a.toNat) = s.cesSet (regSet s .CAT_RCL_CMD i a.toNat) then (s.stored .CAT_RCL_CMD i d a).discard (regSet s .CAT_RCL_CMD i a.toNat) else (s.stored .CAT_RCL_CMD i d a)) else exec (.reclaimStart p (ixRegion i)) (s.stored .CAT_RCL_CMD i d a)) else .next (s.stored .CAT_RCL_CMD i d a)) ∧
  (∀ (s : State) (p : Path) (r : Region),
    s.mayWrite p = false →
    exec (.reclaimStart p r) s = .next (if s.windowGone (setUnit (catSet r)) || s.unheard p then s else s.discard (catSet r))) ∧
  (∀ (s : State) (r : Region) (n : Nat) (x : Tracker) (q : Request) (p : Nat),
    s.rgn r ≠ 2 →
    s.cat.trk = [(8192 * r.val + n % 8192, some x)] →
    x.purpose = .request q →
    x.phase = .pool →
    x.await = [] →
    x.named = [] →
    x.chain = [] →
    x.taken = none →
    q.kind = .rdCur →
    rget q.srec rMode = 0 →
    rget q.srec rPort = p →
    s.role p = 0 →
    linkRecovers s p = false →
    s.flag PRT_PORT_STS.GANGED p = false →
    s.cat.voq = [] →
    s.cat.dead = [] →
    ∃ t, exec (.txnTimeout r n) s = .next t ∧ t.cat.trk = [] ∧ t.stsBit (catSet r) 7 ∧ t.get CAT_TMR_STS.TIMEOUTS r = satAdd CAT_TMR_STS.TIMEOUTS.w (s.get CAT_TMR_STS.TIMEOUTS r) 1) ∧
  (∀ (s : State) (r : Region) (n a p : Nat) (x : Tracker) (q : Request) (i : SnpKind),
    s.rgn r ≠ 2 →
    s.trk (8192 * r.val + n % 8192) = some x →
    x.purpose = .request q →
    x.phase = .data →
    x.await = [(a, i)] →
    x.named = [] →
    eState x.entry = 1 →
    s.portOf a = p →
    s.role p = 1 →
    s.get PRT_PORT_STS.STATE p = 4 →
    linkRecovers s p = false →
    s.flag PRT_PORT_STS.GANGED p = false →
    ∃ t, exec (.txnTimeout r n) s = .next t ∧ t.trk (8192 * r.val + n % 8192) = some { x with await := [], answers := (a, .i) :: x.answers } ∧ t.get PRT_PORT_STS.STATE p = 1 ∧ t.stsBit (catSet r) 7 ∧ t.get CAT_TMR_STS.TIMEOUTS r = satAdd CAT_TMR_STS.TIMEOUTS.w (s.get CAT_TMR_STS.TIMEOUTS r) 1) ∧
  (∀ (s : State) (r : Region) (n : Nat) (x : Tracker) (q : ReqOut) (z : Nat),
    z < 8 →
    r.val = agentPort q.agent / 16 →
    s.rgn r ≠ 2 →
    s.cat.trk = [(8192 * r.val + n % 8192, some x)] →
    x.purpose = .remote q.agent q.tag →
    x.await = [] →
    x.named = [] →
    x.phase = .work →
    s.cat.zreq = [⟨z, q, false⟩] →
    q.write = true →
    s.role (zPort z) = 3 →
    s.get PRT_PORT_STS.STATE (zPort z) = 4 →
    linkRecovers s (zPort z) = false →
    s.flag PRT_PORT_STS.GANGED (zPort z) = false →
    s.cat.voq = [] →
    ∃ t, exec (.txnTimeout r n) s = .next t ∧ t.trk (8192 * r.val + n % 8192) = none ∧ t.cat.zreq = [] ∧ t.get PRT_PORT_STS.STATE (zPort z) = 1 ∧ t.stsBit (catSet r) 7 ∧ t.get CAT_TMR_STS.TIMEOUTS r = satAdd CAT_TMR_STS.TIMEOUTS.w (s.get CAT_TMR_STS.TIMEOUTS r) 1) ∧
  (∀ (s : State) (r : Region) (n : Nat),
    (match s.trk (8192 * r.val + n % 8192) with | none => true | some x => owing s x == [] || timerPaused s x) = true →
    exec (.txnTimeout r n) s = .next s) ∧
  (∀ (s : State) (r : Region) (n : Nat),
    (match s.trk (8192 * r.val + n % 8192) with | none => true | some x => !timerPaused s x) = true →
    exec (.txnPauseCap r n) s = .next s) ∧
  (∀ (s : State) (r : Region) (n : Nat) (x : Tracker),
    s.trk (8192 * r.val + n % 8192) = some x →
    x.capped = false →
    (owing s x).any (linkRecovers s) = true →
    ∃ t, exec (.txnPauseCap r n) s = .next t ∧ t.trk (8192 * r.val + n % 8192) = some { x with capped := true } ∧
      t.get CAT_TMR_STS.PAUSE_CAPPED r = satAdd CAT_TMR_STS.PAUSE_CAPPED.w (s.get CAT_TMR_STS.PAUSE_CAPPED r) 1 ∧
      wordsKept s t [.CAT_TMR_STS] ∧ { t with regs := s.regs, cat := s.cat } = s)

/-- UP_LINK_DOWN and DN_LINK_DOWN of a port in L0 or Recovery leave it in Detect with no rate and width; every agent of the UP port waits to enter the dead sets. HOT_RESET_RECEIVED does the same of a CXL or secondary bus reset and leaves the link, and a hot reset takes the link to Hot Reset. POOL_LINK_DOWN starts the hold. Of a port of another role, or whose link is not in service, each of the three link losses changes nothing. HOLD_RETURN with the serial number recorded at bind ends the hold; another device, or HOLD_EXPIRY, ends it with the port's LOST bit; for a port without a hold neither has an effect. ZWIUS_LINK_DOWN, and ZWIUS_UNACK_TIMEOUT of a link with an unacknowledged unit, count DOWNS, raise ZWL_LINK_DOWN and leave the port in Detect; of a port of another role or out of service, or of the timeout of a link that has none, nothing changes. The first ZWIUS_RESPONSE of an open request is delivered with its grant and closes it; one for no open request is counted in DUP_RSP. -/
def Obligations.LinkLoss : Prop :=
  (∀ (s : State) (p : Port),
    s.role p = 1 →
    s.get PRT_PORT_STS.STATE p = 4 ∨ s.get PRT_PORT_STS.STATE p = 5 →
    s.cat.dead = [] →
    s.cat.dying = [] →
    (∃ t, exec (.upLinkDown p) s = .next t ∧ t.get PRT_PORT_STS.STATE p = 1 ∧ t.get PRT_PORT_STS.RATE p = 0 ∧ t.get PRT_PORT_STS.WIDTH p = 0 ∧ t.get PRT_PORT_STS.PROTO p = 3 ∧ (∀ i < 4, ((agentId s.unit p i).toNat, DeadScope.all) ∈ t.cat.dying)) ∧
    (∃ t, exec (.hotResetReceived ⟨p, true⟩) s = .next t ∧ t.get PRT_PORT_STS.STATE p = 8 ∧ (∀ i < 4, ((agentId s.unit p i).toNat, DeadScope.all) ∈ t.cat.dying))) ∧
  (∀ (s : State) (p : Port) (h : Bool),
    s.role p = 1 →
    h = false ∨ s.get PRT_PORT_STS.STATE p ≠ 4 ∧ s.get PRT_PORT_STS.STATE p ≠ 5 →
    s.cat.dead = [] →
    s.cat.dying = [] →
    exec (.hotResetReceived ⟨p, h⟩) s = .next { s with cat := { s.cat with
        dying := (List.range 4).map (fun i => ((agentId s.unit p i).toNat, DeadScope.all)) } }) ∧
  (∀ (s : State) (p : Port) (h : Bool),
    s.role p ≠ 1 →
    exec (.hotResetReceived ⟨p, h⟩) s = .next s ∧ exec (.upLinkDown p) s = .next s) ∧
  (∀ (s : State) (p : Port),
    s.role p ≠ 2 →
    exec (.dnLinkDown p) s = .next s ∧ exec (.poolLinkDown p) s = .next s) ∧
  (∀ (s : State) (p : Port),
    s.get PRT_PORT_STS.STATE p ≠ 4 ∧ s.get PRT_PORT_STS.STATE p ≠ 5 →
    exec (.upLinkDown p) s = .next s ∧ exec (.dnLinkDown p) s = .next s ∧ exec (.poolLinkDown p) s = .next s) ∧
  (∀ (s : State) (p : Port),
    s.role p = 2 →
    s.get PRT_PORT_STS.STATE p = 4 ∨ s.get PRT_PORT_STS.STATE p = 5 →
    s.plan p 14 1 = 0 →
    s.poolPort p = false →
    ∃ t, exec (.dnLinkDown p) s = .next t ∧ t.get PRT_PORT_STS.STATE p = 1 ∧ t.get PRT_PORT_STS.RATE p = 0 ∧ t.get PRT_PORT_STS.WIDTH p = 0 ∧ t.get PRT_PORT_STS.PROTO p = 3 ∧ t.cat.dying = s.cat.dying ∧ t.cat.dead = s.cat.dead ∧ t.bnd = s.bnd ∧ t.grn = s.grn) ∧
  (∀ (s : State) (p : Port),
    s.role p = 2 →
    s.get PRT_PORT_STS.STATE p = 4 ∨ s.get PRT_PORT_STS.STATE p = 5 →
    s.plan p 14 1 = 1 →
    s.poolPort p = false →
    s.cat.dead = [] →
    s.cat.dying = [] →
    ∃ t, exec (.dnLinkDown p) s = .next t ∧ t.get PRT_PORT_STS.STATE p = 1 ∧ t.get PRT_PORT_STS.RATE p = 0 ∧ t.get PRT_PORT_STS.WIDTH p = 0 ∧ t.get PRT_PORT_STS.PROTO p = 3 ∧ t.cat.dying = [((agentId s.unit p 0).toNat, .all)] ∧ t.bnd = s.bnd ∧ t.grn = s.grn) ∧
  (∀ (s : State) (p : Port),
    s.role p = 2 →
    s.get PRT_PORT_STS.STATE p = 4 ∨ s.get PRT_PORT_STS.STATE p = 5 →
    s.plan p 14 1 = 0 →
    s.poolPort p = true →
    s.held p = false →
    s.cat.trk = [] →
    s.bnd.rsh = [] →
    ∃ t, exec (.poolLinkDown p) s = .next t ∧ t.get PRT_PORT_STS.STATE p = 1 ∧ t.get PRT_PORT_STS.RATE p = 0 ∧ t.get PRT_PORT_STS.WIDTH p = 0 ∧ t.get PRT_PORT_STS.PROTO p = 3 ∧ t.held p = true ∧ (∀ x ∈ t.grn.writes, x.port ≠ p.val) ∧ t.bnd.shelf = s.bnd.shelf) ∧
  (∀ (s : State) (p : Port) (n : BitVec 64),
    s.held p = true →
    s.get PRT_PORT_STS.STATE p = 4 →
    s.grn.ways = [] →
    s.grn.wbuf = [] →
    s.bnd.shelf = [] →
    (Tab.get 0 s.cat.serial p = n → ∃ t, exec (.holdReturn p n) s = .next t ∧ t.held p = false ∧
      t.get CAT_HOLD_STS.LOST (p / 16) = s.get CAT_HOLD_STS.LOST (p / 16)) ∧
    (Tab.get 0 s.cat.serial p ≠ n → ∃ t, exec (.holdReturn p n) s = .next t ∧ t.held p = false ∧
      (t.get CAT_HOLD_STS.LOST (p / 16)).testBit (p % 16) = true ∧ exec (.holdExpiry p) s = .next t)) ∧
  (∀ (s : State) (p : Port) (n : BitVec 64),
    s.held p = false ∨ s.get PRT_PORT_STS.STATE p ≠ 4 →
    exec (.holdReturn p n) s = .next s ∧ (s.held p = false → exec (.holdExpiry p) s = .next s)) ∧
  (∀ (s : State) (z : ZPort) (p : Nat),
    p = zPort z →
    s.rgn (z.val / 2) ≠ 2 →
    s.role p = 3 →
    s.get PRT_PORT_STS.STATE p = 4 ∨ s.get PRT_PORT_STS.STATE p = 5 →
    s.flag PRT_PORT_STS.GANGED p = false →
    Tab.get 0 s.cat.peer z = 0 →
    ∃ t, exec (.zwiusLinkDown z) s = .next t ∧ t.get PRT_PORT_STS.STATE p = 1 ∧ t.get PRT_PORT_STS.RATE p = 0 ∧ t.get PRT_PORT_STS.WIDTH p = 0 ∧ t.get PRT_PORT_STS.PROTO p = 3 ∧ t.stsBit (zwlSet z) 2 ∧
      t.get ZWL_ERR.DOWNS z = satAdd ZWL_ERR.DOWNS.w (s.get ZWL_ERR.DOWNS z) 1 ∧ t.zwl z = {} ∧ ((s.zwl z).replay ≠ [] → exec (.zwiusUnackTimeout z) s = .next t)) ∧
  (∀ (s : State) (z : ZPort) (y p : Nat) (q : ReqOut),
    p = zPort z →
    s.rgn (z.val / 2) ≠ 2 →
    s.role p = 3 →
    s.get PRT_PORT_STS.STATE p = 4 ∨ s.get PRT_PORT_STS.STATE p = 5 →
    s.flag PRT_PORT_STS.GANGED p = false →
    Tab.get 0 s.cat.peer z ≠ 0 →
    y < 8 →
    y ≠ z.val →
    Tab.get 0 s.cat.peer y = Tab.get 0 s.cat.peer z →
    s.inService (zPort y) = true →
    ∀ x < y, x ≠ z.val → Tab.get 0 s.cat.peer x ≠ Tab.get 0 s.cat.peer z →
    s.cat.zreq = [⟨z.val, q, false⟩] →
    ∃ t, exec (.zwiusLinkDown z) s = .next t ∧ t.get PRT_PORT_STS.STATE p = 1 ∧ t.get PRT_PORT_STS.RATE p = 0 ∧ t.get PRT_PORT_STS.WIDTH p = 0 ∧ t.get PRT_PORT_STS.PROTO p = 3 ∧ t.cat.zreq = [⟨y, q, true⟩] ∧ t.cat.dying = s.cat.dying) ∧
  (∀ (s : State) (z : ZPort) (p : Nat),
    p = zPort z →
    s.role p ≠ 3 ∨ s.get PRT_PORT_STS.STATE p ≠ 4 ∧ s.get PRT_PORT_STS.STATE p ≠ 5 →
    exec (.zwiusLinkDown z) s = .next s ∧ exec (.zwiusUnackTimeout z) s = .next s) ∧
  (∀ (s : State) (z : ZPort),
    (s.zwl z).replay = [] →
    exec (.zwiusUnackTimeout z) s = .next s) ∧
  (∀ (s : State) (z : ZPort) (tag : BitVec 16) (agent : Agent) (q : ZReq) (g : GrantKind) (d : Option LineData),
    s.cat.zreq.find? (fun x => x.q.agent == agent && x.q.tag == tag) = some q →
    s.remoteTrk agent tag = none →
    g ≠ .none ∨ d ≠ none →
    ∃ t, exec (.zwiusResponse z tag agent ⟨g, d⟩) s = .next t ∧ t.cat.zreq = s.cat.zreq.erase q ∧ t.sends (s.backTo q.q (.grant agent tag g d) d) ∧
      t.bnd = s.bnd ∧ t.grn = s.grn ∧ t.hbm = s.hbm) ∧
  (∀ (s : State) (z : ZPort) (tag : BitVec 16) (agent : Agent) (q : ZReq),
    s.cat.zreq.find? (fun x => x.q.agent == agent && x.q.tag == tag) = some q →
    s.remoteTrk agent tag = none →
    ∃ t, exec (.zwiusResponse z tag agent ⟨.none, none⟩) s = .next t ∧ t.cat.zreq = s.cat.zreq.erase q ∧ t.sends (s.backTo q.q (.complete agent tag) none)) ∧
  (∀ (s : State) (z : ZPort) (tag : BitVec 16) (agent : Agent) (d : Answer),
    s.cat.zreq.find? (fun x => x.q.agent == agent && x.q.tag == tag) = none →
    exec (.zwiusResponse z tag agent d) s = .next (s.bump CAT_DROP_STS.DUP_RSP (agentPort agent / 16) 1))

/-- GRANARY_DATA_READY with a good column answers a read of a private or software shelf with the data and frees the tracker; a corrected column does the same and is counted in CE; an uncorrectable one of a clean sector is counted in UE_CLEAN, invalidates the sector, and the tracker fetches the line; for no tracker with data on its way nothing changes. On a coherent shelf, RD_SHARED of an UNCACHED line leaves the requester its only sharer and grants S where GRANT_E_SOLE is 0. POOL_FILL_ARRIVE for a sector that a way lacks stores the line there clean, and the tracker that waits for it answers its request; of a line of another region it has no effect. -/
def Obligations.GranaryReads : Prop :=
  (∀ (s : State) (r : Region) (n : Nat) (x : Tracker) (q : Request) (d : LineData),
    s.cat.trk = [((8192 * r.val + n % 8192), some x)] →
    x.purpose = .request q →
    x.phase = .data →
    x.held = some d →
    x.taken = none →
    x.await = [] →
    x.named = [] →
    x.chain = [] →
    x.reason = 0 →
    q.kind = .rdCur ∨ q.kind = .rdShared ∨ q.kind = .rdOwn →
    rget q.srec rMode ≠ 1 →
    s.cat.voq = [] →
    s.cat.dead = [] →
    s.bindQuiet →
    s.grn.roomed = [] →
    ∃ t, exec (.granaryDataReady r n .good) s = .next t ∧ t.cat.trk = [] ∧ t.sends (s.answer q .none (some d)) ∧
      t.hbm = s.hbm ∧ t.bnd.shelf = s.bnd.shelf ∧ t.cat.cache = s.cat.cache ∧ t.grn.ways = s.grn.ways) ∧
  (∀ (s : State) (r : Region) (n v : Nat) (x : Tracker) (q : Request) (d : LineData),
    s.cat.trk = [((8192 * r.val + n % 8192), some x)] →
    x.purpose = .request q →
    x.phase = .data →
    x.held = some d →
    x.taken = none →
    x.await = [] →
    x.named = [] →
    x.chain = [] →
    x.reason = 0 →
    q.kind = .rdCur →
    rget q.srec rMode ≠ 1 →
    s.rgn r = 0 →
    s.findWay r x.line = some v →
    (s.way (wayKey r (grnIndex x.line) v)).svalid.getLsbD (sectorOf x.line) = true →
    s.cat.voq = [] →
    s.cat.dead = [] →
    s.bindQuiet →
    s.grn.roomed = [] →
    ∃ t, exec (.granaryDataReady r n .corrected) s = .next t ∧ t.cat.trk = [] ∧ t.swc = (s.answer q .none (some d)).swc ∧
      t.bnd.shelf = s.bnd.shelf ∧ t.cat.cache = s.cat.cache ∧ t.grn.ways = s.grn.ways ∧ t.stsBit (grnSet r) 0 ∧
      t.get GRN_ECC_STS.CE r = satAdd GRN_ECC_STS.CE.w (s.get GRN_ECC_STS.CE r) 1) ∧
  (∀ (s : State) (r : Region) (n v : Nat) (x : Tracker) (q : Request) (d : LineData),
    s.cat.trk = [((8192 * r.val + n % 8192), some x)] →
    x.purpose = .request q →
    x.phase = .data →
    x.held = some d →
    x.taken = none →
    x.await = [] →
    x.named = [] →
    x.chain = [] →
    x.reason = 0 →
    s.rgn r = 0 →
    s.held (rget q.srec rPort) = false →
    homeOf x.line = r.val →
    (s.way (wayKey r (grnIndex x.line) v)).dirty.getLsbD (sectorOf x.line) = false →
    s.findWay r x.line = some v →
    (s.way (wayKey r (grnIndex x.line) v)).svalid.getLsbD (sectorOf x.line) = true →
    ∃ t, exec (.granaryDataReady r n .uncorrectable) s = .next t ∧ t.trk (8192 * r.val + n % 8192) = some { x with held := none, phase := .pool } ∧ t.stsBit (grnSet r) 1 ∧
      t.get GRN_ECC_STS.UE_CLEAN r = satAdd GRN_ECC_STS.UE_CLEAN.w (s.get GRN_ECC_STS.UE_CLEAN r) 1 ∧
      (t.way (wayKey r (grnIndex x.line) v)).svalid.getLsbD (sectorOf x.line) = false ∧ t.hbm = s.hbm) ∧
  (∀ (s : State) (r : Region) (n : Nat) (e : ColRead),
    (match s.trk (8192 * r.val + n % 8192) with | none => true | some x => x.phase != .data) = true →
    exec (.granaryDataReady r n e) s = .next s) ∧
  (∀ (s : State) (r : Region) (n : Nat) (x : Tracker) (q : Request) (d : LineData) (c : CatSet) (k y : Nat),
    s.cat.trk = [((8192 * r.val + n % 8192), some x)] →
    x.purpose = .request q →
    x.phase = .data →
    x.held = some d →
    x.taken = none →
    x.await = [] →
    x.named = [] →
    x.chain = [] →
    x.reason = 0 →
    x.entry = 0 →
    q.kind = .rdShared →
    rget q.srec rMode = 1 →
    s.cacher q.a = some y →
    homeOf x.line = r.val →
    s.setReady x.line c →
    entryWay c.ways (catTag x.line) = some k →
    c.ways.length = 16 →
    s.flag CAT_CTL.GRANT_E_SOLE r = false →
    s.cat.voq = [] →
    s.cat.dead = [] →
    s.bindQuiet →
    s.grn.roomed = [] →
    ∃ t, exec (.granaryDataReady r n .good) s = .next t ∧ t.cat.trk = [] ∧ t.sends (s.answer q .s (some d)) ∧
      t.waysAre x.line (c.ways.set k (mkEntry (catTag x.line) 1 false [y])) ∧ t.grn.ways = s.grn.ways ∧ t.hbm = s.hbm) ∧
  (∀ (s : State) (r : Region) (a : FAddr) (d : LineData) (v : Nat),
    homeOf (lineOf a.toNat) = r.val →
    s.findWay r (lineOf a.toNat) = some v →
    (s.way (wayKey r (grnIndex (lineOf a.toNat)) v)).svalid.getLsbD (sectorOf (lineOf a.toNat)) = false →
    d.poison = false →
    s.cat.trk = [] →
    s.waiting (lineOf a.toNat) = none →
    ∃ t, exec (.poolFillArrive r a d) s = .next t ∧ t.cachedLine r (lineOf a.toNat) = some d ∧
      (t.way (wayKey r (grnIndex (lineOf a.toNat)) v)).dirty = (s.way (wayKey r (grnIndex (lineOf a.toNat)) v)).dirty ∧
      { t with hbm := s.hbm, grn := s.grn, regs := s.regs, arc := s.arc } = s) ∧
  (∀ (s : State) (r : Region) (n : Nat) (a : FAddr) (x : Tracker) (q : Request) (d : LineData),
    homeOf (lineOf a.toNat) = r.val →
    n < 8192 →
    s.cat.trk = [(8192 * r.val + n, some x)] →
    x.purpose = .request q →
    x.line = lineOf a.toNat →
    x.phase = .pool →
    x.taken = none →
    x.await = [] →
    x.named = [] →
    x.chain = [] →
    x.reason = 0 →
    q.kind = .rdCur →
    rget q.srec rMode ≠ 1 →
    s.findWay r (lineOf a.toNat) = none →
    d.poison = false →
    s.cat.voq = [] →
    s.cat.dead = [] →
    s.bindQuiet →
    s.grn.roomed = [] →
    ∃ t, exec (.poolFillArrive r a d) s = .next t ∧ t.cat.trk = [] ∧ t.sends (s.answer q .none (some d)) ∧ t.hbm = s.hbm ∧ t.grn.ways = s.grn.ways) ∧
  (∀ (s : State) (r : Region) (a : FAddr) (d : LineData),
    homeOf (lineOf a.toNat) ≠ r.val →
    exec (.poolFillArrive r a d) s = .next s)

/-- GRN_INVALIDATE, GRN_CLEAN_INVALIDATE (of a shelf of the region) and GRN_ALL_CLEAN set BUSY and start a walk with their operation; GRN_INVALIDATE also removes the buffer entries of the shelf that are not issued. For a shelf of another region RESULT is 1 and no walk starts; while BUSY each stores SHELF and OP and is a counted discard. A step of an INVALIDATE walk drops the only way at its next position; of a CLEAN_INVALIDATE walk it moves a dirty way to the write-back buffer; of an ALL_CLEAN walk it sends the dirty sectors to the pool and keeps the way. FLUSH_WALK_DONE with nothing left and no write outstanding sets DONE and clears BUSY; while something is left, or with no walk, neither does anything. A write of a register of the group that reaches it stores the fields and does what the written bits start: the same as the command. Given by a path that may not write its register, a command is counted as a discard and does nothing else; in the window of an isolated region, or through the manager port before ready, it does nothing. POOL_WRITE_COMPLETE for a line completes its oldest write: one whose sender needs nothing more is only removed; one written back from a way, or written through, clears that sector's dirty bit and leaves the others; the last of a buffer entry frees the entry. With no write of the line outstanding it changes nothing. -/
def Obligations.FlushWalks : Prop :=
  (∀ (s : State) (p : Path) (r : Region) (x : Shelf),
    s.admits p (grnSet r) →
    s.flag GRN_FLUSH_CMD.BUSY r = false →
    x.toNat % 4 = r.val →
    s.grn.waitPut = [] →
    s.grn.roomed = [] →
    s.grn.wbuf.all (fun e => e.issued || shelfOf e.block != x.toNat) = true →
    (∃ t, exec (.grnInvalidate p r x) s = .next t ∧ t.get GRN_FLUSH_CMD.BUSY r = 1 ∧ t.get GRN_FLUSH_CMD.RESULT r = 0 ∧
      t.get GRN_FLUSH_CMD.OP r = 0 ∧ t.get GRN_FLUSH_CMD.SHELF r = x.toNat ∧ flushOf t r = { running := true, op := 0, shelf := x.toNat } ∧ t.grn.ways = s.grn.ways ∧
      t.get GRN_FLUSH_STS.WRITTEN r = 0 ∧ wordsKept s t [.GRN_FLUSH_CMD, .GRN_FLUSH_STS] ∧ { t with regs := s.regs, grn := s.grn } = s) ∧
    (∃ t, exec (.grnCleanInvalidate p r x) s = .next t ∧ t.get GRN_FLUSH_CMD.BUSY r = 1 ∧ t.get GRN_FLUSH_CMD.RESULT r = 0 ∧
      t.get GRN_FLUSH_CMD.OP r = 1 ∧ t.get GRN_FLUSH_CMD.SHELF r = x.toNat ∧ flushOf t r = { running := true, op := 1, shelf := x.toNat } ∧ t.grn.ways = s.grn.ways ∧
      t.get GRN_FLUSH_STS.WRITTEN r = 0 ∧ wordsKept s t [.GRN_FLUSH_CMD, .GRN_FLUSH_STS] ∧ { t with regs := s.regs, grn := s.grn } = s) ∧
    (∃ t, exec (.grnAllClean p r) s = .next t ∧ t.get GRN_FLUSH_CMD.BUSY r = 1 ∧ t.get GRN_FLUSH_CMD.RESULT r = 0 ∧
      t.get GRN_FLUSH_CMD.OP r = 2 ∧ t.get GRN_FLUSH_CMD.SHELF r = s.get GRN_FLUSH_CMD.SHELF r ∧ flushOf t r = { running := true, op := 2, shelf := s.get GRN_FLUSH_CMD.SHELF r } ∧ t.grn.ways = s.grn.ways ∧
      t.get GRN_FLUSH_STS.WRITTEN r = 0 ∧ wordsKept s t [.GRN_FLUSH_CMD, .GRN_FLUSH_STS] ∧ { t with regs := s.regs, grn := s.grn } = s)) ∧
  (∀ (s : State) (p : Path) (r : Region) (x : Shelf) (e : WbEntry),
    s.admits p (grnSet r) →
    s.flag GRN_FLUSH_CMD.BUSY r = false →
    x.toNat % 4 = r.val →
    s.grn.waitPut = [] →
    s.grn.roomed = [] →
    s.cat.trk = [] →
    s.grn.wbuf = [e] →
    e.issued = false →
    shelfOf e.block = x.toNat →
    ∃ t, exec (.grnInvalidate p r x) s = .next t ∧ t.grn.wbuf = [] ∧ t.get GRN_FLUSH_CMD.BUSY r = 1 ∧ flushOf t r = { running := true, op := 0, shelf := x.toNat } ∧ t.sends s ∧ t.hbm = s.hbm) ∧
  (∀ (s : State) (p : Path) (r : Region) (x : Shelf),
    s.admits p (grnSet r) →
    s.flag GRN_FLUSH_CMD.BUSY r = false →
    x.toNat % 4 ≠ r.val →
    exec (.grnInvalidate p r x) s = .next ((((s.set GRN_FLUSH_CMD.SHELF r x.toNat).set GRN_FLUSH_CMD.OP r 0).set GRN_FLUSH_CMD.RESULT r 1)) ∧
    exec (.grnCleanInvalidate p r x) s = .next ((((s.set GRN_FLUSH_CMD.SHELF r x.toNat).set GRN_FLUSH_CMD.OP r 1).set GRN_FLUSH_CMD.RESULT r 1))) ∧
  (∀ (s : State) (p : Path) (r : Region) (x : Shelf),
    s.admits p (grnSet r) →
    s.flag GRN_FLUSH_CMD.BUSY r = true →
    exec (.grnInvalidate p r x) s = .next ((((s.set GRN_FLUSH_CMD.SHELF r x.toNat).set GRN_FLUSH_CMD.OP r 0).discard (grnSet r))) ∧
    exec (.grnCleanInvalidate p r x) s = .next ((((s.set GRN_FLUSH_CMD.SHELF r x.toNat).set GRN_FLUSH_CMD.OP r 1).discard (grnSet r))) ∧
    exec (.grnAllClean p r) s = .next ((((s.set GRN_FLUSH_CMD.SHELF r (s.get GRN_FLUSH_CMD.SHELF r)).set GRN_FLUSH_CMD.OP r 2).discard (grnSet r)))) ∧
  (∀ (s : State) (r : Region) (l : List ColRead) (f : Flush) (n : Nat) (e : Nat × Way),
    flushOf s r = f →
    f.running = true →
    f.op = 0 →
    flushNext s f r = some n →
    s.grn.ways.filter (fun e => flushPos f r e.1 e.2 == some n) = [e] →
    ∃ t, exec (.flushWalkStep ⟨r, l⟩) s = .next t ∧ t.way e.1 = {} ∧ (∀ k, k ≠ e.1 → t.way k = s.way k) ∧ (flushOf t r).pos = n + 1 ∧
      t.hbm = s.hbm ∧ t.grn.writes = s.grn.writes ∧ t.sends s) ∧
  (∀ (s : State) (r : Region) (f : Flush) (n : Nat) (e : Nat × Way),
    flushOf s r = f →
    f.running = true →
    f.op = 1 →
    flushNext s f r = some n →
    s.grn.ways.filter (fun e => flushPos f r e.1 e.2 == some n) = [e] →
    e.2.dirty ≠ 0 →
    s.grn.wbuf = [] →
    s.grn.writes = [] →
    s.held (s.poolOf (wayBlock e.1 e.2)) = false →
    s.stalled (shelfOf (wayBlock e.1 e.2)) = false →
    wayRegion e.1 = r.val →
    s.way e.1 = e.2 →
    ∃ t, exec (.flushWalkStep ⟨r, []⟩) s = .next t ∧ t.way e.1 = {} ∧ (∀ k, k ≠ e.1 → t.way k = s.way k) ∧ (flushOf t r).pos = n + 1 ∧ (flushOf t r).written = f.written + 1 ∧
      t.hbm = s.hbm ∧ t.grn.wbuf.map (fun b => (b.block, b.valid, b.dirty, b.issued)) = [(wayBlock e.1 e.2, e.2.svalid, e.2.dirty, true)]) ∧
  (∀ (s : State) (r : Region) (f : Flush) (n : Nat) (e : Nat × Way),
    flushOf s r = f →
    f.running = true →
    f.op = 2 →
    flushNext s f r = some n →
    s.grn.ways.filter (fun e => flushPos f r e.1 e.2 == some n) = [e] →
    s.held (s.poolOf (wayBlock e.1 e.2)) = false →
    s.stalled (shelfOf (wayBlock e.1 e.2)) = false →
    wayRegion e.1 = r.val →
    s.way e.1 = e.2 →
    ∃ t, exec (.flushWalkStep ⟨r, []⟩) s = .next t ∧ (∀ k, t.way k = s.way k) ∧ (flushOf t r).pos = n + 1 ∧ (flushOf t r).written = f.written + 1 ∧ t.hbm = s.hbm ∧
      t.grn.writes.map (fun x => x.line) = s.grn.writes.map (fun x => x.line) ++ ((List.range 4).filter (fun i => e.2.dirty.getLsbD i)).map (fun i => wayBlock e.1 e.2 + 64 * i)) ∧
  (∀ (s : State) (r : Region) (l : List ColRead),
    (flushOf s r).running = false →
    exec (.flushWalkStep ⟨r, l⟩) s = .next s ∧ exec (.flushWalkDone r) s = .next s) ∧
  (∀ (s : State) (r : Region) (l : List ColRead),
    flushNext s (flushOf s r) r = none →
    exec (.flushWalkStep ⟨r, l⟩) s = .next s) ∧
  (∀ (s : State) (r : Region),
    flushNext s (flushOf s r) r ≠ none →
    exec (.flushWalkDone r) s = .next s) ∧
  (∀ (s : State) (r : Region),
    (flushOf s r).running = true →
    flushNext s (flushOf s r) r = none →
    (flushOf s r).power = false →
    s.grn.writes.all (fun w => w.region != r.val || (flushOf s r).op != 2 && shelfOf w.line != (flushOf s r).shelf) = true →
    s.grn.waitPut.all (fun e => homeOf e.1 != r.val || (flushOf s r).op != 2 && shelfOf e.1 != (flushOf s r).shelf) = true →
    ∃ t, exec (.flushWalkDone r) s = .next t ∧ flushOf t r = {} ∧ t.get GRN_FLUSH_CMD.BUSY r = 0 ∧ t.get GRN_FLUSH_STS.DONE r = 1 ∧
      wordsKept s t [.GRN_FLUSH_CMD, .GRN_FLUSH_STS] ∧ { t with regs := s.regs, grn := s.grn } = s) ∧
  (∀ (s : State) (p : Path) (a : BitVec 32) (d : BitVec 64) (i : Nat),
    s.writeReaches p a (.reg .GRN_FLUSH_CMD i) →
    exec (.registerWrite p a d 4) s = if d.getLsbD 22 then (if s.flag GRN_FLUSH_CMD.BUSY i then .next (if (s.stored .GRN_FLUSH_CMD i d a).cesSet (regSet s .GRN_FLUSH_CMD i a.toNat) = s.cesSet (regSet s .GRN_FLUSH_CMD i a.toNat) then (s.stored .GRN_FLUSH_CMD i d a).discard (regSet s .GRN_FLUSH_CMD i a.toNat) else (s.stored .GRN_FLUSH_CMD i d a)) else .next (if (bits (d.setWidth 32) 20 2) = 3 then (s.stored .GRN_FLUSH_CMD i d a).set GRN_FLUSH_CMD.RESULT i 2 else flushStart p i (bits (d.setWidth 32) 20 2) (bits (d.setWidth 32) 0 20) (s.stored .GRN_FLUSH_CMD i d a))) else .next (s.stored .GRN_FLUSH_CMD i d a)) ∧
  (∀ (s : State) (p : Path) (r : Region) (x : Shelf),
    s.mayWrite p = false →
    exec (.grnInvalidate p r x) s = .next (if s.windowGone (setUnit (grnSet r)) || s.unheard p then s else s.discard (grnSet r)) ∧
    exec (.grnCleanInvalidate p r x) s = .next (if s.windowGone (setUnit (grnSet r)) || s.unheard p then s else s.discard (grnSet r)) ∧
    exec (.grnAllClean p r) s = .next (if s.windowGone (setUnit (grnSet r)) || s.unheard p then s else s.discard (grnSet r))) ∧
  (∀ (s : State) (r : Region) (a : FAddr) (x : PoolWr),
    s.grn.writes.find? (fun y => y.region == r.val && y.line == lineOf a.toNat && y.held.isNone) = some x →
    s.bnd.rsh = [] →
    x.from_ = .stale →
    ∃ t, exec (.poolWriteComplete r a) s = .next t ∧ t = { s with grn := { s.grn with writes := s.grn.writes.erase x } }) ∧
  (∀ (s : State) (r : Region) (a : FAddr) (x : PoolWr) (v : Nat),
    s.grn.writes.find? (fun y => y.region == r.val && y.line == lineOf a.toNat && y.held.isNone) = some x →
    s.bnd.rsh = [] →
    x.from_ = .way ∨ x.from_ = .through →
    s.findWay r x.line = some v →
    s.grn.retired = [] →
    ∃ t, exec (.poolWriteComplete r a) s = .next t ∧ t.grn.writes = s.grn.writes.erase x ∧
      (∀ i < 4, (t.way (wayKey r (grnIndex x.line) v)).dirty.getLsbD i =
        ((s.way (wayKey r (grnIndex x.line) v)).dirty.getLsbD i && i != sectorOf x.line)) ∧
      (∀ k, k ≠ wayKey r (grnIndex x.line) v → t.way k = s.way k) ∧ { t with grn := s.grn } = s) ∧
  (∀ (s : State) (r : Region) (a : FAddr) (x : PoolWr) (e : WbEntry),
    s.grn.writes.find? (fun y => y.region == r.val && y.line == lineOf a.toNat && y.held.isNone) = some x →
    s.bnd.rsh = [] →
    x.from_ = .buffer →
    s.grn.wbuf = [e] →
    e.issued = true →
    e.block = x.line / 256 * 256 →
    e.dirty = BitVec.ofNat 4 (2 ^ sectorOf x.line) →
    s.cat.trk = [] →
    s.grn.waitPut = [] →
    s.grn.roomed = [] →
    ∃ t, exec (.poolWriteComplete r a) s = .next t ∧ t = { s with grn := { s.grn with writes := s.grn.writes.erase x, wbuf := [] } }) ∧
  (∀ (s : State) (r : Region) (a : FAddr),
    s.grn.writes.find? (fun y => y.region == r.val && y.line == lineOf a.toNat && y.held.isNone) = none →
    exec (.poolWriteComplete r a) s = .next s)

/-- PATROL_SCRUB_STEP over a good column only moves the position and the lap count and is counted; over a corrected one it also counts CE; with EN 0, before READY, or during a reclaim walk it does nothing. ROW_REPAIR_DONE with a spare row takes the row from the queue and logs it; without one, a row outside the Granary area leaves the queue and stays in use; with an empty queue it does nothing. HBM_START_DONE with trained stacks sets READY, empties the region's stacks and ways, and marks its logged rows repaired for good; a stack that fails training or a key that is not delivered raises its error and sets no READY. PSEUDO_CHANNEL_FAIL raises GRN_PC_FAIL and begins isolation. -/
def Obligations.HbmUpkeep : Prop :=
  (∀ (s : State) (r : Region) (k : Fin 2),
    s.flag GRN_SCRUB.EN r = true →
    s.flag GRN_CTL.READY r = true →
    (Tab.get {} s.cat.walk r : Walk).running = false →
    s.rgn r ≠ 2 →
    ∃ t, exec (.patrolScrubStep r k .good true) s = .next t ∧ Tab.get 0 t.grn.patrol (2 * r.val + k.val) = Tab.get 0 s.grn.patrol (2 * r.val + k.val) + 1 ∧
      wordsAt s t [(.GRN_SCRUB, r.val)] ∧ { t with regs := s.regs, grn := s.grn, arc := s.arc } = s ∧ { t.grn with patrol := s.grn.patrol } = s.grn) ∧
  (∀ (s : State) (r : Region) (k : Fin 2),
    s.flag GRN_SCRUB.EN r = true →
    s.flag GRN_CTL.READY r = true →
    (Tab.get {} s.cat.walk r : Walk).running = false →
    s.rgn r = 0 →
    ∃ t, exec (.patrolScrubStep r k .corrected true) s = .next t ∧ Tab.get 0 t.grn.patrol (2 * r.val + k.val) = Tab.get 0 s.grn.patrol (2 * r.val + k.val) + 1 ∧ t.stsBit (grnSet r) 0 ∧
      t.get GRN_ECC_STS.CE r = satAdd GRN_ECC_STS.CE.w (s.get GRN_ECC_STS.CE r) 1 ∧ t.hbm = s.hbm ∧ t.grn.ways = s.grn.ways) ∧
  (∀ (s : State) (r : Region) (k : Fin 2) (e : ColRead) (b : Bool),
    s.flag GRN_SCRUB.EN r = false ∨ s.flag GRN_CTL.READY r = false ∨ (Tab.get {} s.cat.walk r : Walk).running = true ∨ s.rgn r = 2 →
    exec (.patrolScrubStep r k e b) s = .next s) ∧
  (∀ (s : State) (r : Region) (k : Fin 2) (row : Nat) (rest : List Nat),
    Tab.get [] s.grn.repair (2 * r.val + k.val) = row :: rest →
    s.logFree (2 * r.val + k.val) ≠ 0 →
    ∃ t, exec (.rowRepairDone r k true) s = .next t ∧ Tab.get [] t.grn.repair (2 * r.val + k.val) = rest ∧ t.grn.otpLog = s.grn.otpLog ++ [((2 * r.val + k.val), row, false)] ∧
      t.get GRN_REPAIR_STS.SOFT r = satAdd GRN_REPAIR_STS.SOFT.w (s.get GRN_REPAIR_STS.SOFT r) 1 ∧ wordsKept s t [.GRN_REPAIR_STS] ∧
      { t with regs := s.regs, grn := s.grn } = s) ∧
  (∀ (s : State) (r : Region) (k : Fin 2) (row : Nat) (rest : List Nat),
    Tab.get [] s.grn.repair (2 * r.val + k.val) = row :: rest →
    granaryRows ≤ row →
    ∃ t, exec (.rowRepairDone r k false) s = .next t ∧ Tab.get [] t.grn.repair (2 * r.val + k.val) = rest.filter (fun x => x != row) ∧ { t with grn := s.grn } = s ∧ { t.grn with repair := s.grn.repair } = s.grn) ∧
  (∀ (s : State) (r : Region) (k : Fin 2) (b : Bool),
    Tab.get [] s.grn.repair (2 * r.val + k.val) = [] →
    exec (.rowRepairDone r k b) s = .next s) ∧
  (∀ (s : State) (r : Region),
    s.get KPR_STS.STEP 0 ≠ 6 →
    s.flag GRN_CTL.READY r = false →
    ∃ t, exec (.hbmStartDone r .done) s = .next t ∧ t.get GRN_CTL.READY r = 1 ∧ (∀ k, hbmAt (2 * r) 0 ≤ k ∧ k < hbmAt (2 * r + 2) 0 → peek t.hbm k = 0) ∧
      (∀ e ∈ t.grn.ways, wayRegion e.1 ≠ r.val) ∧ (∀ e ∈ t.grn.otpLog, e.1 / 2 = r.val → e.2.2 = true) ∧ wordsKept s t [.GRN_CTL, .GRN_REPAIR_STS] ∧
      { t with regs := s.regs, grn := s.grn, hbm := s.hbm } = s) ∧
  (∀ (s : State) (r : Region),
    s.get KPR_STS.STEP 0 = 6 →
    ∀ q < 4, q ≠ r.val → s.flag GRN_CTL.READY q = true →
    ∃ t, exec (.hbmStartDone r .done) s = .next t ∧ t.get GRN_CTL.READY r = 1 ∧ t.get KPR_STS.STEP 0 = 7) ∧
  (∀ (s : State) (r : Region),
    s.rgn r = 0 →
    [0, 1, 2, 3].any (fun q => q != r.val && s.rgn q == 0) = true →
    s.fatal = false →
    (∃ t, exec (.hbmStartDone r .trainFail) s = .next t ∧ t.stsBit (grnSet r) 7 ∧ t.rgn r = 1 ∧ t.get GRN_CTL.READY r = s.get GRN_CTL.READY r ∧ t.quiet = s.quiet) ∧
    (∃ t, exec (.hbmStartDone r .keyFail) s = .next t ∧ t.stsBit (grnSet r) 8 ∧ t.get GRN_CTL.READY r = s.get GRN_CTL.READY r)) ∧
  (∀ (s : State) (r : Region) (k : Fin 2) (c : Fin 32),
    s.rgn r = 0 →
    [0, 1, 2, 3].any (fun q => q != r.val && s.rgn q == 0) = true →
    s.fatal = false →
    ∃ t, exec (.pseudoChannelFail ⟨r, k, c⟩) s = .next t ∧ t.stsBit (grnSet r) 6 ∧ t.rgn r = 1 ∧ t.get CHIP_RGN_CAUSE.BLOCK r = 7 ∧
      t.get CHIP_RGN_CAUSE.BIT r = 6 ∧ (∀ q < 4, q ≠ r.val → t.rgn q = s.rgn q) ∧ t.quiet = s.quiet)

/-- With one cell in one VOQ, of an output whose gate is open, SCHEDULER_SLOT takes it out of the VOQ and moves the pointers past its input and output: for its own region's output to cross in the next slot, and for another region that grants it to wait for the spine. A cell whose read is uncorrectable does not cross, and its input port is contained. A cell that crosses enters its output's merge stage when the output is in service, and is counted in SWC_DOWN_DROP when it is not. With nothing waiting the slot changes nothing. OUTPUT_CELL_START of a DN or UP port with credit and replay space sends the cell of the highest open class and keeps it in the replay buffer; of a ZL port it uses a grant and the next number. With no cell that can go it changes nothing but counters; an uncorrectable gate entry opens the gates and contains the port. OVERFLOW_DRAIN moves the oldest HBM cell of a VOQ to SRAM; with none, or no space, it changes nothing, and a lost column contains the port. -/
def Obligations.SchedulerAndOutputs : Prop :=
  (∀ (s : State) (i o tc : Nat) (c : Cell),
    i < 64 →
    o < 64 →
    tc < 8 →
    s.swc.voq = [(voqKey i o tc, [c])] →
    s.gateOpen o tc = true →
    s.rgn (o / 16) ≠ 2 →
    s.rgn (i / 16) ≠ 2 →
    s.swc.cross = [] →
    s.swc.held = [] →
    i / 16 = o / 16 →
    c.ecc = .good →
    ∃ t, exec .schedulerSlot s = .next t ∧ t.swc.voq = [] ∧ t.swc.cross = [c] ∧ Tab.get 0 t.swc.grant o = i + 1 ∧ Tab.get 0 t.swc.accept i = o + 1 ∧
      t.get SWC_VOQ_OCC.CELLS (8 * i + tc) = s.get SWC_VOQ_OCC.CELLS (8 * i + tc) - 1 ∧ wordsKept s t [.SWC_VOQ_OCC] ∧
      { t with regs := s.regs, swc := s.swc } = s) ∧
  (∀ (s : State) (i o tc : Nat) (c : Cell),
    i < 64 →
    o < 64 →
    tc < 8 →
    s.swc.voq = [(voqKey i o tc, [c])] →
    s.gateOpen o tc = true →
    s.rgn (o / 16) ≠ 2 →
    s.rgn (i / 16) ≠ 2 →
    s.swc.cross = [] →
    s.swc.held = [] →
    i / 16 ≠ o / 16 →
    c.ecc = .good →
    s.spineGrants (i / 16) o = true →
    ∃ t, exec .schedulerSlot s = .next t ∧ t.swc.voq = [] ∧ t.swc.cross = [] ∧ Tab.get 0 t.swc.grant o = i + 1 ∧ Tab.get 0 t.swc.accept i = o + 1 ∧
      t.get SWC_VOQ_OCC.CELLS (8 * i + tc) = s.get SWC_VOQ_OCC.CELLS (8 * i + tc) - 1 ∧
      Tab.get [] t.swc.spine (pairKey (i / 16) (o / 16)) = Tab.get [] s.swc.spine (pairKey (i / 16) (o / 16)) ++ [c] ∧ wordsKept s t [.SWC_VOQ_OCC] ∧
      { t with regs := s.regs, swc := s.swc } = s) ∧
  (∀ (s : State) (i o tc : Nat) (c : Cell),
    i < 64 →
    o < 64 →
    tc < 8 →
    s.swc.voq = [(voqKey i o tc, [c])] →
    s.gateOpen o tc = true →
    s.rgn (o / 16) ≠ 2 →
    s.rgn (i / 16) ≠ 2 →
    s.swc.cross = [] →
    s.swc.held = [] →
    i / 16 = o / 16 →
    c.ecc = .uncorrectable →
    s.role i = 1 →
    s.get PRT_PORT_STS.STATE i = 4 →
    s.flag PRT_PORT_STS.GANGED i = false →
    ∃ t, exec .schedulerSlot s = .next t ∧ t.swc.voq = [] ∧ t.swc.cross = [] ∧ t.stsBit (swcSet (i / 16)) 1 ∧ t.get PRT_PORT_STS.STATE i = 1) ∧
  (∀ (s : State) (c : Cell),
    s.swc.cross = [c] →
    s.swc.voq = [] →
    c.item = none →
    (s.inService c.out = true → ∃ t, exec .schedulerSlot s = .next t ∧ t.swc.cross = [] ∧ Tab.get [] t.swc.merge (8 * c.out) = Tab.get [] s.swc.merge (8 * c.out) ++ [c] ∧
      (∀ k, k ≠ 8 * c.out → Tab.get [] t.swc.merge k = Tab.get [] s.swc.merge k)) ∧
    (s.inService c.out = false → c.source < 64 → c.reqs = [] → ∃ t, exec .schedulerSlot s = .next t ∧ t.swc.cross = [] ∧ t.swc.merge = s.swc.merge ∧
      t.get SWC_DOWN_DROP.CELLS c.out = satAdd SWC_DOWN_DROP.CELLS.w (s.get SWC_DOWN_DROP.CELLS c.out) 1)) ∧
  (∀ (s : State),
    s.swc.cross = [] →
    s.swc.voq = [] →
    exec .schedulerSlot s = .next s) ∧
  (∀ (s : State) (p : Port) (i : Nat) (c : Cell),
    s.get PRT_PORT_STS.STATE p = 4 →
    s.role p ≠ 3 →
    mergePick s p = some (i, c) →
    c.msg = [] →
    ∃ t, exec (.outputCellStart ⟨p, .good⟩) s = .next t ∧ Tab.get [] t.swc.merge (8 * p + i) = (Tab.get [] s.swc.merge (8 * p + i)).erase c ∧
      Tab.get 0 t.swc.served (8 * p + c.tc) = i + 1 ∧
      (Tab.get {} t.ll.lnk p : LnkState).replay.dropLast = (Tab.get {} s.ll.lnk p : LnkState).replay ∧ ((Tab.get {} t.ll.lnk p : LnkState).replay.getLast?).map (fun e => (e.1, { e.2 with kset := c.kset })) = some ((Tab.get {} s.ll.lnk p : LnkState).txNext, c) ∧
      (Tab.get {} t.ll.lnk p : LnkState).txNext = (Tab.get {} s.ll.lnk p : LnkState).txNext + 1 ∧
      t.out = .link p 4 (Tab.get {} s.ll.lnk p : LnkState).txNext :: .cell p c.source c.tc c.nat :: s.out) ∧
  (∀ (s : State) (p : Port) (i : Nat) (c : Cell),
    s.get PRT_PORT_STS.STATE p = 4 →
    s.role p = 3 →
    mergePick s p = some (i, c) →
    c.msg = [] →
    c.reqs = [] →
    ∃ t, exec (.outputCellStart ⟨p, .good⟩) s = .next t ∧ Tab.get [] t.swc.merge (8 * p + i) = (Tab.get [] s.swc.merge (8 * p + i)).erase c ∧
      Tab.get 0 t.swc.served (8 * p + c.tc) = i + 1 ∧ (t.zwl (zIndex p)).replay.map (fun e => e.1) = (s.zwl (zIndex p)).replay.map (fun e => e.1) ++ [s.get ZWL_STS.TX_SEQ (zIndex p)] ∧
      Tab.get 0 (t.zwl (zIndex p)).sent (8 * c.dest + c.tc) = (Tab.get 0 (s.zwl (zIndex p)).sent (8 * c.dest + c.tc) + 1) % 2 ^ 16 ∧
      t.get ZWL_STS.TX_SEQ (zIndex p) = (s.get ZWL_STS.TX_SEQ (zIndex p) + 1) % 2 ^ 24) ∧
  (∀ (s : State) (p : Port),
    s.get PRT_PORT_STS.STATE p ≠ 4 ∨ mergePick s p = none →
    ∃ t, exec (.outputCellStart ⟨p, .good⟩) s = .next t ∧ t.swc = s.swc ∧ wordsAt s t [] ∧ { t with regs := s.regs, arc := s.arc } = s) ∧
  (∀ (s : State) (p : Port),
    s.role p = 1 →
    s.get PRT_PORT_STS.STATE p = 4 →
    s.flag PRT_PORT_STS.GANGED p = false →
    s.rgn (p / 16) ≠ 2 →
    ∃ t, exec (.outputCellStart ⟨p, .uncorrectable⟩) s = .next t ∧ t.stsBit (tfcSet (p / 16)) 3 ∧ t.get PRT_PORT_STS.STATE p = 1 ∧ Tab.get false t.tfc.gateLost p = true) ∧
  (∀ (s : State) (p o : Port) (tc : Tc) (c : Cell) (cs : List Cell),
    Tab.get [] s.swc.ovf (voqKey p o tc) = c :: cs →
    c.out = o.val →
    c.tc = tc.val →
    s.get SWC_VOQ_OCC.CELLS (8 * p + tc) < s.get SWC_VOQ_LIM.LIMIT (8 * p + tc) →
    Tab.get [] s.swc.held p = [] →
    ∃ t, exec (.overflowDrain p o ⟨tc, .good⟩) s = .next t ∧ Tab.get [] t.swc.ovf (voqKey p o tc) = cs ∧
      Tab.get [] t.swc.voq (voqKey p o tc) = Tab.get [] s.swc.voq (voqKey p o tc) ++ [{ c with data := s.ovfBytes p c }] ∧
      t.get SWC_OVF_STS.CELLS p = s.get SWC_OVF_STS.CELLS p - 1 ∧
      t.get SWC_VOQ_OCC.CELLS (8 * p + tc) = (s.get SWC_VOQ_OCC.CELLS (8 * p + tc) + 1) % 2 ^ SWC_VOQ_OCC.CELLS.w ∧
      wordsKept s t [.SWC_OVF_STS, .SWC_VOQ_OCC] ∧ { t with regs := s.regs, swc := s.swc } = s) ∧
  (∀ (s : State) (p o : Port) (tc : Tc) (c : Cell) (cs : List Cell),
    Tab.get [] s.swc.ovf (voqKey p o tc) = c :: cs →
    s.get SWC_VOQ_OCC.CELLS (8 * p + tc) < s.get SWC_VOQ_LIM.LIMIT (8 * p + tc) →
    s.role p = 1 →
    s.get PRT_PORT_STS.STATE p = 4 →
    s.flag PRT_PORT_STS.GANGED p = false →
    s.rgn (p / 16) ≠ 2 →
    ∃ t, exec (.overflowDrain p o ⟨tc, .uncorrectable⟩) s = .next t ∧ Tab.get [] t.swc.ovf (voqKey p o tc) = [] ∧ t.stsBit (swcSet (p / 16)) 2 ∧ t.get PRT_PORT_STS.STATE p = 1) ∧
  (∀ (s : State) (p o : Port) (tc : Tc) (f : ColRead),
    Tab.get [] s.swc.ovf (voqKey p o tc) = [] ∨ s.get SWC_VOQ_LIM.LIMIT (8 * p + tc) ≤ s.get SWC_VOQ_OCC.CELLS (8 * p + tc) →
    exec (.overflowDrain p o ⟨tc, f⟩) s = .next s)

/-- SPINE_ARBITRATION sends the cell that the source region presents: in ORDERED service a new cell with the next number of its flow, and one to be sent again with the number it had, counted in RESENT. With no request, within one region, over a failed path or from an isolated region it changes nothing; a parity error isolates the region. SPINE_CELL_RECEIVE delivers a good cell to its output and expects the next number; a bad one stays in flight and is counted; with no cell at the head of the path it changes nothing. SPINE_ACK_RECEIVE frees what was received. SPINE_ACK_TIMEOUT of a working path whose pair has its other path marks it failed in both directions, and the pair is SPRAYED with the cells to be sent again; of a failed path, or within one region, it changes nothing. -/
def Obligations.SpinePaths : Prop :=
  (∀ (s : State) (r d : Region) (k : Fin 2) (c : Cell),
    r ≠ d →
    s.pathUp r d k = true →
    s.rgn r ≠ 2 →
    s.spray r d = 0 →
    presented (s.timeOf r) (spineRequests s r d k) = some (c, false) →
    ∃ t, exec (.spineArbitration r d ⟨k, false⟩) s = .next t ∧ Tab.get [] t.swc.spine (pairKey r d) = (Tab.get [] s.swc.spine (pairKey r d)).erase c ∧
      Tab.get [] t.swc.flight (pathKey r d k) = Tab.get [] s.swc.flight (pathKey r d k) ++ [some { c with seq := Tab.get 0 s.swc.txseq c.flow }] ∧
      Tab.get [] t.swc.replay (pathKey r d k) = Tab.get [] s.swc.replay (pathKey r d k) ++ [({ c with seq := Tab.get 0 s.swc.txseq c.flow }, false)] ∧
      Tab.get 0 t.swc.txseq c.flow = (Tab.get 0 s.swc.txseq c.flow + 1) % 2 ^ 16) ∧
  (∀ (s : State) (r d : Region) (k : Fin 2) (c : Cell),
    r ≠ d →
    s.pathUp r d k = true →
    s.rgn r ≠ 2 →
    presented (s.timeOf r) (spineRequests s r d k) = some (c, true) →
    ∃ t, exec (.spineArbitration r d ⟨k, false⟩) s = .next t ∧ Tab.get [] t.swc.resend (pairKey r d) = (Tab.get [] s.swc.resend (pairKey r d)).erase c ∧
      Tab.get [] t.swc.flight (pathKey r d k) = Tab.get [] s.swc.flight (pathKey r d k) ++ [some c] ∧ Tab.get [] t.swc.replay (pathKey r d k) = Tab.get [] s.swc.replay (pathKey r d k) ++ [(c, true)] ∧
      t.swc.txseq = s.swc.txseq ∧ t.get SWC_SPN_STS.RESENT r = satAdd SWC_SPN_STS.RESENT.w (s.get SWC_SPN_STS.RESENT r) 1) ∧
  (∀ (s : State) (r d : Region) (k : Fin 2),
    r = d ∨ s.pathUp r d k = false ∨ s.rgn r = 2 ∨ spineRequests s r d k = [] →
    exec (.spineArbitration r d ⟨k, false⟩) s = .next s) ∧
  (∀ (s : State) (r d : Region) (k : Fin 2),
    s.rgn r = 0 →
    [0, 1, 2, 3].any (fun q => q != r.val && s.rgn q == 0) = true →
    s.fatal = false →
    ∃ t, exec (.spineArbitration r d ⟨k, true⟩) s = .next t ∧ t.stsBit (swcSet r) 9 ∧ t.rgn r = 1 ∧ t.swc = s.swc) ∧
  (∀ (s : State) (r d : Region) (k : Fin 2) (c : Cell) (rest : List (Option Cell)),
    Tab.get [] s.swc.flight (pathKey r d k) = some c :: rest →
    s.spray r d = 0 →
    s.inService c.out = true →
    c.item = none →
    ∃ t, exec (.spineCellReceive r d k true) s = .next t ∧ Tab.get [] t.swc.flight (pathKey r d k) = rest ∧
      Tab.get 0 t.swc.got (pathKey r d k) = Tab.get 0 s.swc.got (pathKey r d k) + 1 ∧ Tab.get 0 t.swc.rxseq c.flow = (c.seq + 1) % 2 ^ 16 ∧
      Tab.get [] t.swc.merge (8 * c.out + 1 + r.val) = Tab.get [] s.swc.merge (8 * c.out + 1 + r.val) ++ [c]) ∧
  (∀ (s : State) (r d : Region) (k : Fin 2) (c : Cell) (rest : List (Option Cell)),
    Tab.get [] s.swc.flight (pathKey r d k) = some c :: rest →
    s.spray r d = 2 →
    s.inService c.out = true →
    c.item = none →
    0 < (c.seq + 65536 - Tab.get 0 s.swc.rxseq c.flow) % 65536 ∧ (c.seq + 65536 - Tab.get 0 s.swc.rxseq c.flow) % 65536 < 32768 →
    (Tab.get [] s.swc.window c.out).length < 4096 →
    (Tab.get [] s.swc.window c.out).all (fun x => !(x.flow == c.flow && x.seq == c.seq)) = true →
    ∃ t, exec (.spineCellReceive r d k true) s = .next t ∧ Tab.get [] t.swc.flight (pathKey r d k) = rest ∧ t.swc.rxseq = s.swc.rxseq ∧ t.swc.merge = s.swc.merge ∧
      Tab.get [] t.swc.window c.out = Tab.get [] s.swc.window c.out ++ [c]) ∧
  (∀ (s : State) (r d : Region) (k : Fin 2) (c : Cell) (rest : List (Option Cell)),
    Tab.get [] s.swc.flight (pathKey r d k) = some c :: rest →
    s.rgn d ≠ 2 →
    (Tab.get [] s.swc.crc (pathKey r d k)).length < 15 →
    ∃ t, exec (.spineCellReceive r d k false) s = .next t ∧ Tab.get [] t.swc.flight (pathKey r d k) = some c :: rest ∧ t.swc.merge = s.swc.merge ∧
      t.stsBit (swcSet d) 3 ∧ (Tab.get [] t.swc.crc (pathKey r d k)).getLast? = some (Tab.get 0 s.swc.rx (pathKey r d k) + 1)) ∧
  (∀ (s : State) (r d : Region) (k : Fin 2) (g : Bool),
    (match Tab.get [] s.swc.flight (pathKey r d k) with | some _ :: _ => false | _ => true) = true →
    exec (.spineCellReceive r d k g) s = .next s) ∧
  (∀ (s : State) (r d : Region) (k : Fin 2),
    ∃ t, exec (.spineAckReceive r d k) s = .next t ∧ Tab.get [] t.swc.replay (pathKey r d k) = (Tab.get [] s.swc.replay (pathKey r d k)).drop (Tab.get 0 s.swc.got (pathKey r d k)) ∧
      Tab.get 0 t.swc.got (pathKey r d k) = 0 ∧ (s.spray r d ≠ 3 → { t with swc := s.swc } = s)) ∧
  (∀ (s : State) (r d : Region) (k : Fin 2),
    r ≠ d →
    s.pathUp r d k = true →
    s.pathUp r d (1 - k.val) = true →
    s.rgn r ≠ 2 →
    s.spray r d = 0 →
    s.spray d r = 0 →
    ∃ t, exec (.spineAckTimeout r d k) s = .next t ∧ t.pathUp r d k = false ∧ t.pathUp d r k = false ∧ t.spray r d = 2 ∧ t.spray d r = 2 ∧
      Tab.get [] t.swc.resend (pairKey r d) = Tab.get [] s.swc.resend (pairKey r d) ++ (Tab.get [] s.swc.replay (pathKey r d k)).map (fun e => e.1) ∧
      Tab.get [] t.swc.replay (pathKey r d k) = [] ∧ Tab.get [] t.swc.flight (pathKey r d k) = [] ∧ t.stsBit (swcSet r) 4) ∧
  (∀ (s : State) (r d : Region) (k : Fin 2),
    r = d ∨ s.pathUp r d k = false →
    exec (.spineAckTimeout r d k) s = .next s)

/-- FORCE_SPRAY_ENTRY sets the bit and moves an ORDERED pair to SPRAY_ENTRY, and leaves another pair's mode; SPRAY_ENTRY_ANSWER then to SPRAYED, or on to SPRAY_EXIT where the bit was cleared meanwhile. FORCE_SPRAY_EXIT clears the bit and starts SPRAY_EXIT of a SPRAYED pair with nothing to send again, as RESEND_ACKED does with a failed path and SPINE_CHECK_PASSED after reset; where its condition does not hold each of the three starts nothing. An EXIT mark that arrives is taken, and the last one makes the pair ORDERED. HOLE_TIMEOUT skips the missing numbers and captures the hole; with no cell of the flow held it changes nothing. A write of a register of the group that reaches it stores the fields and does what the written bits start: the same as the command. Given by a path that may not write its register, a command is counted as a discard and does nothing else; in the window of an isolated region, or through the manager port before ready, it does nothing. -/
def Obligations.SprayModes : Prop :=
  (∀ (s : State) (p : Path) (r d : Region),
    s.admits p (swcSet r) →
    r ≠ d →
    s.spray r d = 0 →
    ∃ t, exec (.forceSprayEntry p r d) s = .next t ∧ (t.get SWC_SPN_CTL.FORCE_SPRAY r).testBit d = true ∧ t.spray r d = 1 ∧
      (∀ q < 4, q ≠ d.val → t.spray r q = s.spray r q) ∧ wordsKept s t [.SWC_SPN_CTL, .SWC_SPN_STS, .SWC_RSQ_STS] ∧ onlyRegs s t) ∧
  (∀ (s : State) (p : Path) (r d : Region),
    s.admits p (swcSet r) →
    r = d ∨ s.spray r d ≠ 0 →
    ∃ t, exec (.forceSprayEntry p r d) s = .next t ∧ (t.get SWC_SPN_CTL.FORCE_SPRAY r).testBit d = true ∧ (∀ q < 4, t.spray r q = s.spray r q) ∧ wordsKept s t [.SWC_SPN_CTL] ∧ onlyRegs s t) ∧
  (∀ (s : State) (r d : Region),
    s.spray r d = 1 →
    (s.get SWC_SPN_CTL.FORCE_SPRAY r).testBit d = true →
    ∃ t, exec (.sprayEntryAnswer r d) s = .next t ∧ t.spray r d = 2 ∧ (∀ q < 4, q ≠ d.val → t.spray r q = s.spray r q) ∧
      wordsKept s t [.SWC_SPN_STS, .SWC_RSQ_STS] ∧ onlyRegs s t) ∧
  (∀ (s : State) (r d : Region),
    s.spray r d = 1 →
    (s.get SWC_SPN_CTL.FORCE_SPRAY r).testBit d = false →
    ∃ t, exec (.sprayEntryAnswer r d) s = .next t ∧ t.spray r d = 3 ∧ (∀ q < 4, q ≠ d.val → t.spray r q = s.spray r q) ∧
      (∀ k < 2, s.pathUp r d k = true → Tab.get [] t.swc.flight (pathKey r d k) = Tab.get [] s.swc.flight (pathKey r d k) ++ [none])) ∧
  (∀ (s : State) (r d : Region),
    s.spray r d ≠ 1 →
    exec (.sprayEntryAnswer r d) s = .next s) ∧
  (∀ (s : State) (p : Path) (r d : Region),
    s.admits p (swcSet r) →
    r ≠ d →
    (s.get SWC_SPN_CTL.FORCE_SPRAY r).testBit d = true →
    s.spray r d = 2 →
    s.resendOver r d = true →
    ∃ t, exec (.forceSprayExit p r d) s = .next t ∧ (t.get SWC_SPN_CTL.FORCE_SPRAY r).testBit d = false ∧ t.spray r d = 3 ∧
      (∀ k < 2, s.pathUp r d k = true → Tab.get [] t.swc.flight (pathKey r d k) = Tab.get [] s.swc.flight (pathKey r d k) ++ [none]) ∧
      wordsKept s t [.SWC_SPN_CTL, .SWC_SPN_STS, .SWC_RSQ_STS]) ∧
  (∀ (s : State) (p : Path) (r d : Region),
    s.admits p (swcSet r) →
    r = d ∨ (s.get SWC_SPN_CTL.FORCE_SPRAY r).testBit d = false ∨ s.spray r d ≠ 2 ∨ s.resendOver r d = false →
    ∃ t, exec (.forceSprayExit p r d) s = .next t ∧ (t.get SWC_SPN_CTL.FORCE_SPRAY r).testBit d = false ∧ (∀ q < 4, t.spray r q = s.spray r q) ∧ wordsKept s t [.SWC_SPN_CTL] ∧ onlyRegs s t) ∧
  (∀ (s : State) (r d : Region),
    s.spray r d = 2 →
    s.resendOver r d = true →
    s.pathUp r d 0 = false ∨ s.pathUp r d 1 = false →
    ∃ t, exec (.resendAcked r d) s = .next t ∧ t.spray r d = 3 ∧ t.get SWC_SPN_CTL.FORCE_SPRAY r = s.get SWC_SPN_CTL.FORCE_SPRAY r ∧ wordsKept s t [.SWC_SPN_STS, .SWC_RSQ_STS]) ∧
  (∀ (s : State) (r d : Region),
    s.spray r d ≠ 2 ∨ s.resendOver r d = false ∨ s.pathUp r d 0 = true ∧ s.pathUp r d 1 = true →
    exec (.resendAcked r d) s = .next s) ∧
  (∀ (s : State) (r d : Region),
    r ≠ d →
    s.spray r d = 2 →
    s.pathUp r d 0 = true →
    s.pathUp r d 1 = true →
    Tab.get false s.swc.checked (pairKey r d) = false →
    ∃ t, exec (.spineCheckPassed r d) s = .next t ∧ t.spray r d = 3 ∧ t.get SWC_SPN_CTL.FORCE_SPRAY r = s.get SWC_SPN_CTL.FORCE_SPRAY r ∧ Tab.get false t.swc.checked (pairKey r d) = true ∧ wordsKept s t [.SWC_SPN_STS, .SWC_RSQ_STS]) ∧
  (∀ (s : State) (r d : Region),
    r = d ∨ s.spray r d ≠ 2 ∨ s.pathUp r d 0 = false ∨ s.pathUp r d 1 = false ∨ Tab.get false s.swc.checked (pairKey r d) = true →
    exec (.spineCheckPassed r d) s = .next s) ∧
  (∀ (s : State) (r d : Region) (k : Fin 2) (rest : List (Option Cell)),
    Tab.get [] s.swc.flight (pathKey r d k) = none :: rest →
    s.spray r d ≠ 3 →
    ∃ t, exec (.exitMarkArrive r d k) s = .next t ∧ Tab.get [] t.swc.flight (pathKey r d k) = rest ∧
      Tab.get [] t.swc.marks (pairKey r d) = k.val :: Tab.get [] s.swc.marks (pairKey r d) ∧ { t with swc := s.swc } = s) ∧
  (∀ (s : State) (r d : Region) (k : Fin 2) (rest : List (Option Cell)),
    Tab.get [] s.swc.flight (pathKey r d k) = none :: rest →
    s.spray r d = 3 →
    s.pathUp r d (1 - k.val) = false ∨ (1 - k.val) ∈ Tab.get [] s.swc.marks (pairKey r d) →
    s.resendOver r d = true →
    s.swc.window = [] →
    (s.get SWC_SPN_CTL.FORCE_SPRAY r).testBit d = false →
    ∃ t, exec (.exitMarkArrive r d k) s = .next t ∧ Tab.get [] t.swc.flight (pathKey r d k) = rest ∧ t.spray r d = 0 ∧ (∀ q < 4, q ≠ d.val → t.spray r q = s.spray r q) ∧ wordsKept s t [.SWC_SPN_STS, .SWC_RSQ_STS]) ∧
  (∀ (s : State) (r d : Region) (k : Fin 2),
    (match Tab.get [] s.swc.flight (pathKey r d k) with | none :: _ => false | _ => true) = true →
    exec (.exitMarkArrive r d k) s = .next s) ∧
  (∀ (s : State) (p : Port) (src : Fin 68) (tc : Tc) (c : Cell),
    s.role p = 0 →
    s.flag PRT_PORT_STS.GANGED p = false →
    s.rgn (p / 16) ≠ 2 →
    s.inService p = false →
    s.spray (sourceRegion src) (p / 16) ≠ 3 →
    Tab.get [] s.swc.window p = [c] →
    c.source = src.val →
    c.out = p.val →
    c.tc = tc.val →
    c.seq < 65536 →
    c.item = none →
    s.swc.skipped = [] →
    s.flag SWC_RSQ_HOLE.VALID p = false →
    ∃ t, exec (.holeTimeout p src tc) s = .next t ∧ Tab.get [] t.swc.window p = [] ∧ Tab.get 0 t.swc.rxseq c.flow = (c.seq + 1) % 2 ^ 16 ∧
      t.get SWC_RSQ_HOLE.VALID p = 1 ∧ t.get SWC_RSQ_HOLE.SEQ p = Tab.get 0 s.swc.rxseq c.flow % 2 ^ 16 ∧ t.get SWC_RSQ_HOLE.SOURCE p = src.val ∧
      t.get SWC_RSQ_HOLE.TC p = tc.val ∧ t.stsBit (swcSet (p / 16)) 6) ∧
  (∀ (s : State) (p : Port) (src : Fin 68) (tc : Tc),
    (Tab.get [] s.swc.window p).all (fun c => c.flow != flowKey src p tc) = true →
    exec (.holeTimeout p src tc) s = .next s) ∧
  (∀ (s : State) (p : Path) (a : BitVec 32) (d : BitVec 64) (i : Nat),
    s.writeReaches p a (.reg .SWC_SPN_CTL i) →
    exec (.registerWrite p a d 4) s = .next ([0, 1, 2, 3].foldl (fun t k => if d.getLsbD k && !(s.word .SWC_SPN_CTL i).getLsbD k then forceSprayEntry p (ixRegion i) (ixRegion k) t
      else if !d.getLsbD k && (s.word .SWC_SPN_CTL i).getLsbD k then forceSprayExit p (ixRegion i) (ixRegion k) (t.setBits SWC_SPN_CTL.FORCE_SPRAY i (2 ^ k)) else t) (s.stored .SWC_SPN_CTL i d a))) ∧
  (∀ (s : State) (p : Path) (a : BitVec 32) (d : BitVec 64) (i : Nat),
    s.writeReaches p a (.reg .SWC_GLN_CTL i) →
    exec (.registerWrite p a d 4) s = .next (if d.getLsbD 18 then (s.stored .SWC_GLN_CTL i d a) else (s.stored .SWC_GLN_CTL i d a).sw fun w => { w with glnCnt := Tab.put 0 w.glnCnt i 0 })) ∧
  (∀ (s : State) (p : Path) (r k : Region),
    s.mayWrite p = false →
    exec (.forceSprayEntry p r k) s = .next (if s.windowGone (setUnit (swcSet r)) || s.unheard p then s else s.discard (swcSet r)) ∧
    exec (.forceSprayExit p r k) s = .next (if s.windowGone (setUnit (swcSet r)) || s.unheard p then s else s.discard (swcSet r)))

/-- RT_READ loads the entry; one whose read is uncorrectable is cleared and reads zero. RT_WRITE of a good staged entry of the region, with no cell of an older epoch left, stores it and advances EPOCH; RT_CLEAR stores zero likewise; both leave every other entry alone. An entry of another region's VCS port reads WRONG_REGION, a bad field BAD_FIELD, and older cells EPOCH_BUSY, with nothing stored. While BUSY each stores ENTRY and OP and is a counted discard. RT_BARRIER_START sets BUSY, and is discarded while BUSY; RT_BARRIER_DONE without older cells ends it; RT_BARRIER_TIMEOUT ends it with TIMEOUT, and contains the output of a cell that remains; with no barrier, neither has an effect. A write of a register of the group that reaches it stores the fields and does what the written bits start: the same as the command. Given by a path that may not write its register, a command is counted as a discard and does nothing else; in the window of an isolated region, or through the manager port before ready, it does nothing. -/
def Obligations.RoutingTable : Prop :=
  (∀ (s : State) (p : Path) (r : Region) (n : BitVec 11),
    s.admits p (swcSet r) →
    s.flag SWC_RT_CMD.BUSY r = false →
    ∃ t, exec (.rtRead p r ⟨n, false⟩) s = .next t ∧ (∀ k < 4, t.word .SWC_RT_D (4 * r.val + k) = BitVec.ofNat 32 (bits (s.rtEntry r n.toNat) (32 * k) 32)) ∧
      t.get SWC_RT_CMD.RESULT r = 0 ∧ t.get SWC_RT_CMD.ENTRY r = n.toNat ∧ t.get SWC_RT_CMD.OP r = 0 ∧ onlyRegs s t ∧ wordsKept s t [.SWC_RT_D, .SWC_RT_CMD]) ∧
  (∀ (s : State) (p : Path) (r : Region) (n : BitVec 11) (q : Nat),
    s.admits p (swcSet r) →
    s.flag SWC_RT_CMD.BUSY r = false →
    rtVcs (s.rtEntry r n.toNat) = q →
    s.role q = 1 →
    s.get PRT_PORT_STS.STATE q = 4 →
    s.flag PRT_PORT_STS.GANGED q = false →
    s.rgn (q / 16) ≠ 2 →
    s.rgn r ≠ 2 →
    ∃ t, exec (.rtRead p r ⟨n, true⟩) s = .next t ∧ (∀ k < 4, t.word .SWC_RT_D (4 * r.val + k) = 0) ∧ t.rtEntry r n.toNat = 0 ∧ t.stsBit (swcSet r) 7 ∧ t.get PRT_PORT_STS.STATE q = 1) ∧
  (∀ (s : State) (p : Path) (r : Region) (n : BitVec 11),
    s.admits p (swcSet r) →
    s.flag SWC_RT_CMD.BUSY r = true →
    (∀ b, exec (.rtRead p r ⟨n, b⟩) s = .next ((rtCmd s r n.toNat 0).discard (swcSet r))) ∧ exec (.rtWrite p r n) s = .next ((rtCmd s r n.toNat 1).discard (swcSet r)) ∧
    exec (.rtClear p r n) s = .next ((rtCmd s r n.toNat 2).discard (swcSet r))) ∧
  (∀ (s : State) (p : Path) (r : Region) (n : BitVec 11),
    s.admits p (swcSet r) →
    s.flag SWC_RT_CMD.BUSY r = false →
    rtVcs (rtStaged s r) / 16 = r.val →
    rtGood (rtStaged s r) = true →
    s.anyOld r = false →
    ∃ t, exec (.rtWrite p r n) s = .next t ∧ t.rtEntry r n.toNat = rtStaged s r ∧ (∀ k, k ≠ 2048 * r.val + n.toNat → Tab.get 0 t.swc.rt k = Tab.get 0 s.swc.rt k) ∧
      t.get SWC_RT_BAR.EPOCH r = (s.get SWC_RT_BAR.EPOCH r + 1) % 2 ^ 16 ∧ t.get SWC_RT_CMD.RESULT r = 0 ∧ t.get SWC_RT_CMD.ENTRY r = n.toNat ∧ t.get SWC_RT_CMD.OP r = 1 ∧
      wordsKept s t [.SWC_RT_CMD, .SWC_RT_BAR] ∧ { t with regs := s.regs, swc := s.swc } = s) ∧
  (∀ (s : State) (p : Path) (r : Region) (n : BitVec 11),
    s.admits p (swcSet r) →
    s.flag SWC_RT_CMD.BUSY r = false →
    (s.anyOld r = false → ∃ t, exec (.rtClear p r n) s = .next t ∧ t.rtEntry r n.toNat = 0 ∧ (∀ k, k ≠ 2048 * r.val + n.toNat → Tab.get 0 t.swc.rt k = Tab.get 0 s.swc.rt k) ∧
      t.get SWC_RT_BAR.EPOCH r = (s.get SWC_RT_BAR.EPOCH r + 1) % 2 ^ 16 ∧ t.get SWC_RT_CMD.RESULT r = 0 ∧ t.get SWC_RT_CMD.ENTRY r = n.toNat ∧ t.get SWC_RT_CMD.OP r = 2 ∧
      wordsKept s t [.SWC_RT_CMD, .SWC_RT_BAR] ∧ { t with regs := s.regs, swc := s.swc } = s) ∧ (s.anyOld r = true → exec (.rtClear p r n) s = .next ((rtCmd s r n.toNat 2).set SWC_RT_CMD.RESULT r 4))) ∧
  (∀ (s : State) (p : Path) (r : Region) (n : BitVec 11),
    s.admits p (swcSet r) →
    s.flag SWC_RT_CMD.BUSY r = false →
    (rtVcs (rtStaged s r) / 16 ≠ r.val → exec (.rtWrite p r n) s = .next ((rtCmd s r n.toNat 1).set SWC_RT_CMD.RESULT r 1)) ∧ (rtVcs (rtStaged s r) / 16 = r.val → rtGood (rtStaged s r) = false → exec (.rtWrite p r n) s = .next ((rtCmd s r n.toNat 1).set SWC_RT_CMD.RESULT r 2)) ∧
    (rtVcs (rtStaged s r) / 16 = r.val → rtGood (rtStaged s r) = true → s.anyOld r = true → exec (.rtWrite p r n) s = .next ((rtCmd s r n.toNat 1).set SWC_RT_CMD.RESULT r 4))) ∧
  (∀ (s : State) (p : Path) (r : Region),
    s.admits p (swcSet r) →
    (s.flag SWC_RT_BAR.BUSY r = false → ∃ t, exec (.rtBarrierStart p r) s = .next t ∧ t.get SWC_RT_BAR.BUSY r = 1 ∧ t.get SWC_RT_BAR.EPOCH r = s.get SWC_RT_BAR.EPOCH r ∧ onlyRegs s t ∧ wordsKept s t [.SWC_RT_BAR]) ∧
    (s.flag SWC_RT_BAR.BUSY r = true → exec (.rtBarrierStart p r) s = .next (s.discard (swcSet r)))) ∧
  (∀ (s : State) (r : Region),
    s.flag SWC_RT_BAR.BUSY r = true →
    s.anyOld r = false →
    (∃ t, exec (.rtBarrierDone r) s = .next t ∧ t.get SWC_RT_BAR.BUSY r = 0 ∧ t.get SWC_RT_BAR.DONE r = 1 ∧ t.get SWC_RT_BAR.TIMEOUT r = 0 ∧ onlyRegs s t ∧ wordsKept s t [.SWC_RT_BAR]) ∧
    (∃ t, exec (.rtBarrierTimeout r) s = .next t ∧ t.get SWC_RT_BAR.BUSY r = 0 ∧ t.get SWC_RT_BAR.DONE r = 1 ∧ t.get SWC_RT_BAR.TIMEOUT r = 1 ∧ onlyRegs s t ∧ wordsKept s t [.SWC_RT_BAR])) ∧
  (∀ (s : State) (r : Region) (c : Cell),
    s.flag SWC_RT_BAR.BUSY r = true →
    s.allCells = [c] →
    s.oldCell r c = true →
    s.role c.out = 1 →
    s.get PRT_PORT_STS.STATE c.out = 4 →
    s.flag PRT_PORT_STS.GANGED c.out = false →
    s.rgn r ≠ 2 →
    ∃ t, exec (.rtBarrierTimeout r) s = .next t ∧ t.get SWC_RT_BAR.BUSY r = 0 ∧ t.get SWC_RT_BAR.DONE r = 1 ∧ t.get SWC_RT_BAR.TIMEOUT r = 1 ∧ t.stsBit (swcSet r) 8 ∧ t.get PRT_PORT_STS.STATE c.out = 1) ∧
  (∀ (s : State) (r : Region),
    (s.flag SWC_RT_BAR.BUSY r = false ∨ s.anyOld r = true → exec (.rtBarrierDone r) s = .next s) ∧ (s.flag SWC_RT_BAR.BUSY r = false → exec (.rtBarrierTimeout r) s = .next s)) ∧
  (∀ (s : State) (p : Path) (a : BitVec 32) (d : BitVec 64) (i : Nat),
    s.writeReaches p a (.reg .SWC_RT_CMD i) →
    exec (.registerWrite p a d 4) s = if d.getLsbD 13 then (if s.flag SWC_RT_CMD.BUSY i then .next (if (s.stored .SWC_RT_CMD i d a).cesSet (regSet s .SWC_RT_CMD i a.toNat) = s.cesSet (regSet s .SWC_RT_CMD i a.toNat) then (s.stored .SWC_RT_CMD i d a).discard (regSet s .SWC_RT_CMD i a.toNat) else (s.stored .SWC_RT_CMD i d a)) else if (bits (d.setWidth 32) 11 2) = 0 then exec (.rtRead p (ixRegion i) ⟨(BitVec.ofNat 11 (bits (d.setWidth 32) 0 11)), false⟩) (s.stored .SWC_RT_CMD i d a) else if (bits (d.setWidth 32) 11 2) = 1 then exec (.rtWrite p (ixRegion i) (BitVec.ofNat 11 (bits (d.setWidth 32) 0 11))) (s.stored .SWC_RT_CMD i d a) else if (bits (d.setWidth 32) 11 2) = 2 then exec (.rtClear p (ixRegion i) (BitVec.ofNat 11 (bits (d.setWidth 32) 0 11))) (s.stored .SWC_RT_CMD i d a) else .next ((s.stored .SWC_RT_CMD i d a).set SWC_RT_CMD.RESULT i 2)) else .next (s.stored .SWC_RT_CMD i d a)) ∧
  (∀ (s : State) (p : Path) (a : BitVec 32) (d : BitVec 64) (i : Nat),
    s.writeReaches p a (.reg .SWC_RT_BAR i) →
    exec (.registerWrite p a d 4) s = if d.getLsbD 0 then (if s.flag SWC_RT_BAR.BUSY i then .next (if (s.stored .SWC_RT_BAR i d a).cesSet (regSet s .SWC_RT_BAR i a.toNat) = s.cesSet (regSet s .SWC_RT_BAR i a.toNat) then (s.stored .SWC_RT_BAR i d a).discard (regSet s .SWC_RT_BAR i a.toNat) else (s.stored .SWC_RT_BAR i d a)) else exec (.rtBarrierStart p (ixRegion i)) (s.stored .SWC_RT_BAR i d a)) else .next (s.stored .SWC_RT_BAR i d a)) ∧
  (∀ (s : State) (p : Path) (r : Region) (e : BitVec 11) (x : EntryRead),
    s.mayWrite p = false →
    exec (.rtRead p r x) s = .next (if s.windowGone (setUnit (swcSet r)) || s.unheard p then s else s.discard (swcSet r)) ∧
    exec (.rtWrite p r e) s = .next (if s.windowGone (setUnit (swcSet r)) || s.unheard p then s else s.discard (swcSet r)) ∧
    exec (.rtClear p r e) s = .next (if s.windowGone (setUnit (swcSet r)) || s.unheard p then s else s.discard (swcSet r)) ∧
    exec (.rtBarrierStart p r) s = .next (if s.windowGone (setUnit (swcSet r)) || s.unheard p then s else s.discard (swcSet r)))

/-- SLIP_ADMIT of an ACTIVE carrel whose template permits slips, with every attached policer conforming and its ring on this unit, takes its tokens and counts one slip sent; one for another unit enters the switch core as a cell of class TC2. A slip that a policer refuses, or of a carrel that may not send, is counted as refused. POLICER_CFG_WRITE sets RATE and a BURST that is not 0, and clips the tokens; a BURST of 0 is a counted discard of that field. POLICER_ATTACH takes EN, KIND and ID where no other policer has them, and an EN that turns on fills the bucket; a second policer of a KIND and ID is discarded and counted; an ID out of range is discarded alone. A write of a register of the group that reaches it stores the fields and does what the written bits start: the same as the command. Given by a path that may not write its register, a command is counted as a discard and does nothing else; in the window of an isolated region, or through the manager port before ready, it does nothing. -/
def Obligations.Policers : Prop :=
  (∀ (s : State) (r : Region) (k : Carrel) (u : Fin 4) (q : Qid) (tag : BitVec 32) (d : List Byte) (b : Bool),
    s.carrelActive k.toNat = true →
    s.tplOf k.toNat 20 1 = 1 →
    (slipPolicers s r k.toNat q.toNat).filterMap id = [] →
    u.val = s.unit →
    exec (.slipAdmit r k u q tag d ⟨b, false⟩) s = .next (s.carrelCount k.toNat 4 1)) ∧
  (∀ (s : State) (r : Region) (k : Carrel) (u : Fin 4) (q : Qid) (tag : BitVec 32) (d : List Byte) (b : Bool) (n : Nat),
    s.carrelActive k.toNat = true →
    s.tplOf k.toNat 20 1 = 1 →
    (slipPolicers s r k.toNat q.toNat).filterMap id = [n] →
    s.conforms n = true →
    u.val = s.unit →
    exec (.slipAdmit r k u q tag d ⟨b, false⟩) s = .next ((s.takeTokens n).carrelCount k.toNat 4 1)) ∧
  (∀ (s : State) (r : Region) (k : Carrel) (u : Fin 4) (q : Qid) (tag : BitVec 32) (d : List Byte) (b : Bool) (n : Nat),
    s.carrelActive k.toNat = true →
    s.tplOf k.toNat 20 1 = 1 →
    (slipPolicers s r k.toNat q.toNat).filterMap id = [n] →
    s.conforms n = false →
    s.policerOf (s.carrelPort k.toNat / 16) 1 k.toNat = none →
    exec (.slipAdmit r k u q tag d ⟨b, false⟩) s = .next ((s.chaff n).carrelCount k.toNat 5 1)) ∧
  (∀ (s : State) (r : Region) (k : Carrel) (u : Fin 4) (q : Qid) (tag : BitVec 32) (d : List Byte) (b : Bool),
    s.carrelActive k.toNat = false ∨ s.tplOf k.toNat 20 1 = 0 →
    exec (.slipAdmit r k u q tag d ⟨b, false⟩) s = .next (s.carrelCount k.toNat 5 1)) ∧
  (∀ (s : State) (r : Region) (k : Carrel) (u : Fin 4) (q : Qid) (tag : BitVec 32) (d : List Byte) (b : Bool) (p : Nat),
    s.carrelActive k.toNat = true →
    s.tplOf k.toNat 20 1 = 1 →
    (slipPolicers s r k.toNat q.toNat).filterMap id = [] →
    u.val ≠ s.unit →
    s.zPortTo u.val = some p →
    exec (.slipAdmit r k u q tag d ⟨b, false⟩) s =
      .next ((s.carrelCount k.toNat 4 1).arrive (s.carrelPort k.toNat) (slipCell (s.carrelPort k.toNat) p q.toNat d))) ∧
  (∀ (s : State) (p : Path) (n : Fin 8192) (v : Word),
    s.admits p (tfcSet (n / 2048)) →
    bits v 16 16 ≠ 0 →
    ∃ t, exec (.policerCfgWrite p n v) s = .next t ∧ t.get TFC_POL_CFG.RATE n = bits v 0 16 ∧ t.get TFC_POL_CFG.BURST n = bits v 16 16 ∧
      (Tab.get {} t.tfc.pol n).tokens = min (s.policer n).tokens (256 * bits v 16 16 : Nat) ∧ wordsKept s t [.TFC_POL_CFG] ∧
      { t with regs := s.regs, tfc := s.tfc } = s) ∧
  (∀ (s : State) (p : Path) (n : Fin 8192) (v : Word),
    s.admits p (tfcSet (n / 2048)) →
    bits v 16 16 = 0 →
    ∃ t, exec (.policerCfgWrite p n v) s = .next t ∧ t.get TFC_POL_CFG.RATE n = bits v 0 16 ∧ t.get TFC_POL_CFG.BURST n = s.get TFC_POL_CFG.BURST n ∧
      t.ces = (s.discard (tfcSet (n / 2048))).ces) ∧
  (∀ (s : State) (p : Path) (n : Fin 8192) (v : Word),
    s.admits p (tfcSet (n / 2048)) →
    bits v 0 1 = 1 →
    s.flag TFC_POL_ATT.EN n = false →
    ¬(bits v 1 2 = 1 ∧ 4096 ≤ bits v 3 20) ∧ ¬(bits v 1 2 = 3 ∧ 16 ≤ bits v 3 20) →
    (bits v 1 2 = 0 ∨ s.policerOf (n / 2048) (bits v 1 2) (bits v 3 20) = none ∨ s.policerOf (n / 2048) (bits v 1 2) (bits v 3 20) = some n.val) →
    ∃ t, exec (.policerAttach p n v) s = .next t ∧ t.get TFC_POL_ATT.EN n = 1 ∧ t.get TFC_POL_ATT.KIND n = bits v 1 2 ∧ t.get TFC_POL_ATT.ID n = bits v 3 20 ∧
      (Tab.get {} t.tfc.pol n).tokens = (256 * s.get TFC_POL_CFG.BURST n : Nat) ∧ wordsKept s t [.TFC_POL_ATT] ∧
      { t with regs := s.regs, tfc := s.tfc } = s) ∧
  (∀ (s : State) (p : Path) (n : Fin 8192) (v : Word),
    s.admits p (tfcSet (n / 2048)) →
    ¬(bits v 1 2 = 1 ∧ 4096 ≤ bits v 3 20) ∧ ¬(bits v 1 2 = 3 ∧ 16 ≤ bits v 3 20) →
    (bits v 1 2 = 0 ∨ s.policerOf (n / 2048) (bits v 1 2) (bits v 3 20) = none ∨ s.policerOf (n / 2048) (bits v 1 2) (bits v 3 20) = some n.val) →
    bits v 0 1 = 0 ∨ s.flag TFC_POL_ATT.EN n = true →
    ∃ t, exec (.policerAttach p n v) s = .next t ∧ t.get TFC_POL_ATT.EN n = bits v 0 1 ∧ t.get TFC_POL_ATT.KIND n = bits v 1 2 ∧ t.get TFC_POL_ATT.ID n = bits v 3 20 ∧
      wordsKept s t [.TFC_POL_ATT] ∧ onlyRegs s t) ∧
  (∀ (s : State) (p : Path) (n : Fin 8192) (v : Word) (m : Nat),
    s.admits p (tfcSet (n / 2048)) →
    ¬(bits v 1 2 = 1 ∧ 4096 ≤ bits v 3 20) ∧ ¬(bits v 1 2 = 3 ∧ 16 ≤ bits v 3 20) →
    bits v 0 1 = 1 →
    bits v 1 2 ≠ 0 →
    s.policerOf (n / 2048) (bits v 1 2) (bits v 3 20) = some m →
    m ≠ n.val →
    exec (.policerAttach p n v) s = .next (s.discard (tfcSet (n / 2048)))) ∧
  (∀ (s : State) (p : Path) (n : Fin 8192) (v : Word),
    s.admits p (tfcSet (n / 2048)) →
    bits v 1 2 = 1 ∧ 4096 ≤ bits v 3 20 ∨ bits v 1 2 = 3 ∧ 16 ≤ bits v 3 20 →
    bits v 0 1 = 0 →
    ∃ t, exec (.policerAttach p n v) s = .next t ∧ t.get TFC_POL_ATT.EN n = 0 ∧ t.get TFC_POL_ATT.KIND n = bits v 1 2 ∧ t.get TFC_POL_ATT.ID n = s.get TFC_POL_ATT.ID n ∧
      t.ces = (s.discard (tfcSet (n / 2048))).ces) ∧
  (∀ (s : State) (p : Path) (a : BitVec 32) (d : BitVec 64) (i : Nat),
    s.writeReaches p a (.reg .TFC_POL_CFG i) →
    exec (.registerWrite p a d 4) s = exec (.policerCfgWrite p (Fin.ofNat 8192 i) (d.setWidth 32)) s) ∧
  (∀ (s : State) (p : Path) (a : BitVec 32) (d : BitVec 64) (i : Nat),
    s.writeReaches p a (.reg .TFC_POL_ATT i) →
    exec (.registerWrite p a d 4) s = .next ((policerAttach p (Fin.ofNat 8192 i) (d.setWidth 32) s).set ⟨.TFC_POL_ATT, 23, 9⟩ i (bits (d.setWidth 32) 23 9))) ∧
  (∀ (s : State) (p : Path) (a : BitVec 32) (d : BitVec 64) (i : Nat),
    s.writeReaches p a (.reg .TFC_SHP_CFG i) →
    exec (.registerWrite p a d 4) s = .next (s.settleShapers.stored .TFC_SHP_CFG i d a)) ∧
  (∀ (s : State) (p : Path) (n : Fin 8192) (v : Word),
    s.mayWrite p = false →
    exec (.policerCfgWrite p n v) s = .next (if s.windowGone (setUnit (tfcSet (n / 2048))) || s.unheard p then s else s.discard (tfcSet (n / 2048))) ∧
    exec (.policerAttach p n v) s = .next (if s.windowGone (setUnit (tfcSet (n / 2048))) || s.unheard p then s else s.discard (tfcSet (n / 2048))))

/-- PTM_REQUEST leaves on the manager port in L0 under SRC PTM, and otherwise nothing leaves. A first PTM_RESULT, or one with an offset above STEP_NS, sets every region's time to the root port's and counts a step; a later one within STEP_NS is left to be removed by rate; under another SRC it has no effect. HOLDOVER_ENTRY sets HOLDOVER, clears LOCKED and raises TFC_TIME_SRC_LOST; with no source, or in holdover, it does nothing. TIME_REGION_SKEW gives every region the time of region A, and contains the port whose gates are enabled. A write of a register of the group that reaches it stores the fields and does what the written bits start: the same as the command. -/
def Obligations.FabricTimeSources : Prop :=
  (∀ (s : State) (p : Nat),
    s.managerPort = some p →
    (s.get TFC_TIME_CTL.SRC 0 = 1 → s.get PRT_PORT_STS.STATE p = 4 → exec .ptmRequest s = .next (s.emit (.timeRequest p))) ∧
    (s.get TFC_TIME_CTL.SRC 0 ≠ 1 ∨ s.get PRT_PORT_STS.STATE p ≠ 4 → exec .ptmRequest s = .next s)) ∧
  (∀ (s : State),
    s.managerPort = none →
    exec .ptmRequest s = .next s) ∧
  (∀ (s : State) (m : BitVec 64),
    s.get TFC_TIME_CTL.SRC 0 = 1 →
    s.tfc.first = false ∨ s.get TFC_TIME_CTL.STEP_NS 0 < ((m.toNat : Int) - (s.timeOf 0 : Nat)).natAbs →
    s.timeOf 0 < 2 ^ 64 →
    ∃ t, exec (.ptmResult m) s = .next t ∧ (∀ r < 4, t.timeOf r = m.toNat) ∧ t.get TFC_TIME_STS.LOCKED 0 = 1 ∧ t.get TFC_TIME_STS.HOLDOVER 0 = 0 ∧
      t.get TFC_TIME_STS.STEPS 0 = satAdd TFC_TIME_STS.STEPS.w (s.get TFC_TIME_STS.STEPS 0) 1 ∧ t.tfc.first = true ∧ t.tfc.slew = 0) ∧
  (∀ (s : State) (m : BitVec 64),
    s.get TFC_TIME_CTL.SRC 0 = 1 →
    s.tfc.first = true →
    ((m.toNat : Int) - (s.timeOf 0 : Nat)).natAbs ≤ s.get TFC_TIME_CTL.STEP_NS 0 →
    ∃ t, exec (.ptmResult m) s = .next t ∧ t.time = s.time ∧ t.tfc.slew = (m.toNat : Int) - (s.timeOf 0 : Nat) ∧ t.get TFC_TIME_STS.LOCKED 0 = 1 ∧
      t.get TFC_TIME_STS.STEPS 0 = s.get TFC_TIME_STS.STEPS 0 ∧ wordsKept s t [.TFC_TIME_STS] ∧ { t with regs := s.regs, tfc := s.tfc } = s) ∧
  (∀ (s : State) (m : BitVec 64),
    s.get TFC_TIME_CTL.SRC 0 ≠ 1 →
    exec (.ptmResult m) s = .next s) ∧
  (∀ (s : State),
    s.get TFC_TIME_CTL.SRC 0 ≠ 0 →
    s.flag TFC_TIME_STS.HOLDOVER 0 = false →
    ∃ t, exec .holdoverEntry s = .next t ∧ t.get TFC_TIME_STS.HOLDOVER 0 = 1 ∧ t.get TFC_TIME_STS.LOCKED 0 = 0 ∧ t.stsBit setTfc4 4 ∧ t.time = s.time ∧ t.tfc = s.tfc) ∧
  (∀ (s : State),
    s.get TFC_TIME_CTL.SRC 0 = 0 ∨ s.flag TFC_TIME_STS.HOLDOVER 0 = true →
    exec .holdoverEntry s = .next s) ∧
  (∀ (s : State),
    (List.range 64).filter (fun p => s.flag TFC_GATE_CTL.EN p) = [] →
    ∃ t, exec .timeRegionSkew s = .next t ∧ (∀ r < 4, t.timeOf r = s.timeOf 0) ∧ t.stsBit setTfc4 5 ∧ { t.quiet with time := s.time } = s.quiet) ∧
  (∀ (s : State) (p : Port),
    (List.range 64).filter (fun p => s.flag TFC_GATE_CTL.EN p) = [p.val] →
    s.role p = 1 →
    s.get PRT_PORT_STS.STATE p = 4 →
    s.flag PRT_PORT_STS.GANGED p = false →
    ∃ t, exec .timeRegionSkew s = .next t ∧ (∀ r < 4, t.timeOf r = s.timeOf 0) ∧ t.stsBit setTfc4 5 ∧ t.get PRT_PORT_STS.STATE p = 1) ∧
  (∀ (s : State) (p : Path) (a : BitVec 32) (d : BitVec 64) (i : Nat),
    s.writeReaches p a (.reg .TFC_TIME_CTL i) →
    i = 0 →
    exec (.registerWrite p a d 4) s = .next (if (s.stored .TFC_TIME_CTL i d a).get TFC_TIME_CTL.SRC 0 ≠ s.get TFC_TIME_CTL.SRC 0 then { (s.stored .TFC_TIME_CTL i d a).set TFC_TIME_STS.LOCKED 0 0 with tfc := { s.tfc with first := false } }
      else if (s.stored .TFC_TIME_CTL i d a).get TFC_TIME_CTL.SRC 0 = 2 ∧ (s.stored .TFC_TIME_CTL i d a).get TFC_TIME_CTL.ZL_PORT 0 ≠ s.get TFC_TIME_CTL.ZL_PORT 0 then { (s.stored .TFC_TIME_CTL i d a) with tfc := { s.tfc with first := false } } else (s.stored .TFC_TIME_CTL i d a)))

/-- GATE_GO while PENDING reads BUSY, with a past BASE reads LATE, and else arms the switch. GATE_BANK_SWITCH at BASE makes the standby bank active with that BASE; before BASE, or with no switch PENDING, it changes nothing. GATE_ENTRY_CHANGE shows the entry in which fabric time falls. HIST_DEPTH_SAMPLE with EN set adds one to the bin of every VOQ's depth, cells in SRAM and HBM together, and changes nothing but bins. A write of a register of the group that reaches it stores the fields and does what the written bits start: the same as the command. Given by a path that may not write its register, a command is counted as a discard and does nothing else; in the window of an isolated region, or through the manager port before ready, it does nothing. -/
def Obligations.GatesAndDepth : Prop :=
  (∀ (s : State) (p : Path) (port : Port),
    s.admits p (tfcSet (port / 16)) →
    ∃ t, exec (.gateGo p port) s = .next t ∧ onlyRegs s t ∧ wordsKept s t [.TFC_GATE_CTL] ∧
      (s.flag TFC_GATE_CTL.PENDING port = true → t.get TFC_GATE_CTL.RESULT port = 2 ∧ t.flag TFC_GATE_CTL.PENDING port = true) ∧
      (s.flag TFC_GATE_CTL.PENDING port = false → (s.word .TFC_GATE_BASE_LO port).toNat + 2 ^ 32 * (s.word .TFC_GATE_BASE_HI port).toNat < s.timeOf (port / 16) →
        t.get TFC_GATE_CTL.RESULT port = 1 ∧ t.flag TFC_GATE_CTL.PENDING port = false) ∧
      (s.flag TFC_GATE_CTL.PENDING port = false → s.timeOf (port / 16) ≤ (s.word .TFC_GATE_BASE_LO port).toNat + 2 ^ 32 * (s.word .TFC_GATE_BASE_HI port).toNat →
        t.get TFC_GATE_CTL.RESULT port = 0 ∧ t.flag TFC_GATE_CTL.PENDING port = true)) ∧
  (∀ (s : State) (port : Port),
    s.flag TFC_GATE_CTL.PENDING port = true →
    (s.word .TFC_GATE_BASE_LO port).toNat + 2 ^ 32 * (s.word .TFC_GATE_BASE_HI port).toNat ≤ s.timeOf (port / 16) →
    ∃ t, exec (.gateBankSwitch port) s = .next t ∧ t.get TFC_GATE_CTL.ACTIVE port = 1 - s.get TFC_GATE_CTL.ACTIVE port ∧ t.get TFC_GATE_CTL.PENDING port = 0 ∧
      Tab.get 0 t.tfc.base port = (s.word .TFC_GATE_BASE_LO port).toNat + 2 ^ 32 * (s.word .TFC_GATE_BASE_HI port).toNat ∧ Tab.get false t.tfc.gateLost port = false ∧
      wordsKept s t [.TFC_GATE_CTL, .TFC_GATE_CUR] ∧ { t with regs := s.regs, tfc := s.tfc } = s) ∧
  (∀ (s : State) (port : Port),
    s.flag TFC_GATE_CTL.PENDING port = false ∨ s.timeOf (port / 16) < (s.word .TFC_GATE_BASE_LO port).toNat + 2 ^ 32 * (s.word .TFC_GATE_BASE_HI port).toNat →
    exec (.gateBankSwitch port) s = .next s) ∧
  (∀ (s : State) (port : Port),
    ∃ t, exec (.gateEntryChange port) s = .next t ∧ t.get TFC_GATE_CUR.ENTRY port = s.gateEntryAt port (s.timeOf (port / 16)) % 2 ^ TFC_GATE_CUR.ENTRY.w ∧
      onlyRegs s t ∧ wordsKept s t [.TFC_GATE_CUR]) ∧
  (∀ (s : State) (r : Region) (i : Fin 16) (o : Port) (tc : Tc) (n : Nat),
    s.flag TFC_HIST_CTL.EN r = true →
    s.arcStopped r = false →
    s.rgn r ≠ 2 →
    n = 16 * histKey r .voqDepth (16 * r.val + i) o tc + log2Bin ((Tab.get [] s.swc.voq (voqKey (16 * r.val + i) o tc)).length + (Tab.get [] s.swc.ovf (voqKey (16 * r.val + i) o tc)).length) % 16 →
    ∃ t, exec (.histDepthSample r) s = .next t ∧ Tab.get 0 t.arc.bins n = satAdd 32 (Tab.get 0 s.arc.bins n) 1 ∧ (∀ c < 8, Tab.get (0, 0) t.grn.band (8 * r.val + c) = (0, 0)) ∧
      { t with arc := s.arc, grn := { t.grn with band := s.grn.band } } = s) ∧
  (∀ (s : State) (r : Region) (n : Nat),
    s.flag TFC_HIST_CTL.EN r = false →
    s.arcStopped r = false →
    s.rgn r ≠ 2 →
    n = 16 * histKey r .ldOcc 0 0 0 + log2Bin (s.get CAT_LD_OCC.CURRENT r) % 16 →
    ∀ c < 8, Tab.get (0, 0) s.grn.band (8 * r.val + c) = (0, 0) →
    ∃ t, exec (.histDepthSample r) s = .next t ∧ Tab.get 0 t.arc.bins n = satAdd 32 (Tab.get 0 s.arc.bins n) 1 ∧ { t with arc := s.arc } = s) ∧
  (∀ (s : State) (p : Path) (a : BitVec 32) (d : BitVec 64) (i : Nat),
    s.writeReaches p a (.reg .TFC_GATE_CTL i) →
    exec (.registerWrite p a d 4) s = if d.getLsbD 14 then exec (.gateGo p (Fin.ofNat 64 i)) (s.stored .TFC_GATE_CTL i d a) else .next (s.stored .TFC_GATE_CTL i d a)) ∧
  (∀ (s : State) (p : Path) (a : BitVec 32) (d : BitVec 64) (i : Nat),
    s.writeReaches p a (.reg .TFC_GATE_DUR i) →
    exec (.registerWrite p a d 4) s = .next (if s.gateHeld i then s.discard (regSet s .TFC_GATE_DUR i a.toNat) else (s.stored .TFC_GATE_DUR i d a))) ∧
  (∀ (s : State) (p : Path) (a : BitVec 32) (d : BitVec 64) (i : Nat),
    s.writeReaches p a (.reg .TFC_GATE_MASK i) →
    exec (.registerWrite p a d 4) s = .next (if s.gateHeld i then s.discard (regSet s .TFC_GATE_MASK i a.toNat) else (s.stored .TFC_GATE_MASK i d a))) ∧
  (∀ (s : State) (p : Path) (q : Port),
    s.mayWrite p = false →
    exec (.gateGo p q) s = .next (if s.windowGone (setUnit (tfcSet (q / 16))) || s.unheard p then s else s.discard (tfcSet (q / 16))))

/-- RECEIVER_DETECT with a partner takes a port from Detect to Polling, and both ports of a ganged link together; without one, in another state or with the chip in CHIP_FATAL it changes nothing. LINK_UP of a link within its caps and widths shows L0, the rate, width and protocol, and posts LINK_UP: of a DN port as PCIe or CXL, of a UP port as CXL, and of a ZL port at 64 GT/s, which then starts its initialisation; a UP port whose peer declines CXL stays in Detect where PCIE_UP_EN is 0; a link that the roles, caps or lanes do not permit does not come up. LINK_TRAIN_FAIL of a step from Polling on leaves the port in Detect with one failure counted, TRAIN_FAIL posted and its error; RECOVERY_TIMEOUT in Recovery does the same for a DN port without a pool device. DETECT_TIMEOUT of a DN port posts DETECT_TMO and counts a failure. PVPERL_EXPIRY with power-good raises DN_PERST_N into Detect, or Disabled. WAKE_N_ASSERT of three scans restarts the detect interval. In another state each of these changes nothing. -/
def Obligations.PortBringUp : Prop :=
  (∀ (s : State) (p : Port),
    s.role p ≠ 0 →
    s.flag PRT_PORT_STS.GANGED p = false →
    s.get PRT_PORT_STS.STATE p = 1 →
    s.prt.pllOff.contains p.val = false →
    s.fatal = false →
    ∃ t, exec (.receiverDetect p true) s = .next t ∧ t.get PRT_PORT_STS.STATE p = 2 ∧ t.get PRT_PORT_STS.FAULTED p = lanesKeptOut s p ∧
      Tab.get false t.prt.detect p = false ∧ (Tab.get false s.prt.detect p = true → t.get PRT_PORT_EVT.CAP p = s.get PRT_PORT_CTL.MAX_RATE p) ∧
      wordsKept s t [.PRT_PORT_STS, .PRT_LANE_STS, .PRT_PORT_EVT] ∧ { t with regs := s.regs, prt := s.prt } = s) ∧
  (∀ (s : State) (p q : Port),
    p.val = q.val / 2 * 2 →
    s.role q ≠ 0 →
    s.flag PRT_PORT_STS.GANGED q = true →
    s.get PRT_PORT_STS.STATE p = 1 →
    s.get PRT_PORT_STS.STATE (p + 1 : Nat) = 1 →
    s.prt.pllOff = [] →
    s.fatal = false →
    ∃ t, exec (.receiverDetect q true) s = .next t ∧ t.get PRT_PORT_STS.STATE p = 2 ∧ t.get PRT_PORT_STS.STATE (p + 1 : Nat) = 2) ∧
  (∀ (s : State) (p : Port) (b : Bool),
    b = false ∨ s.role p = 0 ∨ s.get PRT_PORT_STS.STATE p ≠ 1 ∨ s.fatal = true →
    s.flag PRT_PORT_STS.GANGED p = false →
    exec (.receiverDetect p b) s = .next s) ∧
  (∀ (s : State) (p : Port) (rate : Fin 6) (width : Fin 17) (flit : Fin 4) (l rev : Bool),
    s.role p = 2 →
    s.flag PRT_PORT_STS.GANGED p = false →
    s.get PRT_PORT_STS.STATE p = 2 ∨ s.get PRT_PORT_STS.STATE p = 3 ∨ s.get PRT_PORT_STS.STATE p = 5 →
    rate.val ≤ s.get PRT_PORT_EVT.CAP p →
    rate.val ≤ s.get PRT_PORT_CTL.MAX_RATE p →
    widthTrains s p width rev = true →
    flit.val = 3 ∨ flit.val = 1 ∧ rate.val ≤ 4 →
    ∃ t, exec (.linkUp p rate width 0 flit l rev) s = .next t ∧ t.get PRT_PORT_STS.STATE p = 4 ∧ t.get PRT_PORT_STS.RATE p = rate.val ∧
      t.get PRT_PORT_STS.WIDTH p = width.val % 2 ^ PRT_PORT_STS.WIDTH.w ∧ t.get PRT_PORT_STS.PROTO p = 0 ∧ (t.get PRT_PORT_EVT.EVENTS p).testBit 0 = true ∧ Tab.get 0 t.prt.fails (8 * p + rate) = 0 ∧
      t.get LNK_STS.IO p = 1 ∧ t.get LNK_STS.MEM p = 0) ∧
  (∀ (s : State) (p : Port) (rate : Fin 6) (width : Fin 17) (flit : Fin 4) (l rev : Bool),
    s.role p = 1 ∨ s.role p = 2 →
    s.flag PRT_PORT_STS.GANGED p = false →
    s.get PRT_PORT_STS.STATE p = 2 ∨ s.get PRT_PORT_STS.STATE p = 3 ∨ s.get PRT_PORT_STS.STATE p = 5 →
    rate.val ≤ s.get PRT_PORT_EVT.CAP p →
    rate.val ≤ s.get PRT_PORT_CTL.MAX_RATE p →
    widthTrains s p width rev = true →
    flit.val = 3 →
    4 ≤ rate.val →
    ∃ t, exec (.linkUp p rate width 1 flit l rev) s = .next t ∧ t.get PRT_PORT_STS.STATE p = 4 ∧ t.get PRT_PORT_STS.RATE p = rate.val ∧
      t.get PRT_PORT_STS.WIDTH p = width.val % 2 ^ PRT_PORT_STS.WIDTH.w ∧ t.get PRT_PORT_STS.PROTO p = 1 ∧ (t.get PRT_PORT_EVT.EVENTS p).testBit 0 = true ∧ Tab.get 0 t.prt.fails (8 * p + rate) = 0 ∧
      t.get LNK_STS.IO p = 1 ∧ t.get LNK_STS.MEM p = 1 ∧ t.get LNK_STS.BI p = (if s.role p = 1 then 1 else 0)) ∧
  (∀ (s : State) (p : Port) (rate : Fin 6) (width : Fin 17) (flit : Fin 4) (l rev : Bool),
    s.role p = 3 →
    s.flag PRT_PORT_STS.GANGED p = false →
    s.get PRT_PORT_STS.STATE p = 2 ∨ s.get PRT_PORT_STS.STATE p = 3 ∨ s.get PRT_PORT_STS.STATE p = 5 →
    rate.val ≤ s.get PRT_PORT_EVT.CAP p →
    rate.val ≤ s.get PRT_PORT_CTL.MAX_RATE p →
    widthTrains s p width rev = true →
    rate.val = 5 →
    s.get ZWL_STS.STATE (zIndex p) = 0 →
    ∃ t, exec (.linkUp p rate width 2 flit l rev) s = .next t ∧ t.get PRT_PORT_STS.STATE p = 4 ∧ t.get PRT_PORT_STS.RATE p = rate.val ∧
      t.get PRT_PORT_STS.WIDTH p = width.val % 2 ^ PRT_PORT_STS.WIDTH.w ∧ t.get PRT_PORT_STS.PROTO p = 2 ∧ (t.get PRT_PORT_EVT.EVENTS p).testBit 0 = true ∧ Tab.get 0 t.prt.fails (8 * p + rate) = 0 ∧ t.get ZWL_STS.STATE (zIndex p) = 1) ∧
  (∀ (s : State) (p : Port) (rate : Fin 6) (width : Fin 17) (flit : Fin 4) (l rev : Bool),
    s.role p = 1 →
    s.flag LNK_CTL.PCIE_UP_EN p = false →
    flit.val = 3 →
    2 ≤ rate.val →
    s.flag PRT_PORT_STS.GANGED p = false →
    s.get PRT_PORT_STS.STATE p = 2 ∨ s.get PRT_PORT_STS.STATE p = 3 ∨ s.get PRT_PORT_STS.STATE p = 5 →
    rate.val ≤ s.get PRT_PORT_EVT.CAP p →
    rate.val ≤ s.get PRT_PORT_CTL.MAX_RATE p →
    widthTrains s p width rev = true →
    ∃ t, exec (.linkUp p rate width 0 flit l rev) s = .next t ∧ t.get PRT_PORT_STS.STATE p = 1 ∧ onlyRegs s t ∧ wordsKept s t [.PRT_PORT_STS]) ∧
  (∀ (s : State) (p : Port) (rate : Fin 6) (width : Fin 17) (flit : Fin 4) (l rev : Bool) (proto : Fin 3),
    s.role p = 0 ∨ s.get PRT_PORT_STS.STATE p = 1 ∨ s.get PRT_PORT_STS.STATE p = 6 ∨ s.get PRT_PORT_EVT.CAP p < rate.val ∨ s.get PRT_PORT_CTL.MAX_RATE p < rate.val ∨ protoRuns (s.role p) proto flit rate = false ∨ widthTrains s p width rev = false →
    exec (.linkUp p rate width proto flit l rev) s = .next s) ∧
  (∀ (s : State) (p : Port) (rate : Fin 6) (x : Option Bool),
    s.role p ≠ 0 →
    s.get PRT_PORT_STS.STATE p = 2 ∨ s.get PRT_PORT_STS.STATE p = 3 →
    s.flag PRT_PORT_STS.GANGED p = false →
    s.rgn (p / 16) ≠ 2 →
    ∃ t, exec (.linkTrainFail p rate x) s = .next t ∧ t.get PRT_PORT_STS.STATE p = 1 ∧ t.stsBit (prtSet p) 2 ∧ (t.get PRT_PORT_EVT.EVENTS p).testBit 2 = true ∧ t.get PRT_PORT_EVT.FAILS p = satAdd PRT_PORT_EVT.FAILS.w (s.get PRT_PORT_EVT.FAILS p) 1 ∧
      (Tab.get 0 s.prt.fails (8 * p + rate) + 1 < s.get PRT_PORT_CTL.RETRY_MAX p → Tab.get 0 t.prt.fails (8 * p + rate) = Tab.get 0 s.prt.fails (8 * p + rate) + 1 ∧
        t.get PRT_PORT_EVT.CAP p = s.get PRT_PORT_EVT.CAP p) ∧
      (s.get PRT_PORT_CTL.RETRY_MAX p ≤ Tab.get 0 s.prt.fails (8 * p + rate) + 1 → capFloor s p x < rate.val → Tab.get 0 t.prt.fails (8 * p + rate) = 0 ∧
        t.get PRT_PORT_EVT.CAP p = min (s.get PRT_PORT_EVT.CAP p) (rate.val - 1))) ∧
  (∀ (s : State) (p : Port) (rate : Fin 6) (x : Option Bool),
    s.role p = 0 ∨ s.get PRT_PORT_STS.STATE p ≠ 2 ∧ s.get PRT_PORT_STS.STATE p ≠ 3 ∧ s.get PRT_PORT_STS.STATE p ≠ 5 →
    exec (.linkTrainFail p rate x) s = .next s) ∧
  (∀ (s : State) (p : Port),
    s.role p = 2 →
    s.get PRT_PORT_STS.STATE p = 5 →
    s.flag PRT_PORT_STS.GANGED p = false →
    s.plan p 14 1 = 0 →
    s.poolPort p = false →
    s.rgn (p / 16) ≠ 2 →
    ∃ t, exec (.recoveryTimeout p) s = .next t ∧ t.get PRT_PORT_STS.STATE p = 1 ∧ t.get PRT_PORT_STS.RATE p = 0 ∧ t.get PRT_PORT_STS.WIDTH p = 0 ∧ t.stsBit (prtSet p) 4 ∧ (t.get PRT_PORT_EVT.EVENTS p).testBit 2 = true ∧ t.get PRT_PORT_EVT.FAILS p = satAdd PRT_PORT_EVT.FAILS.w (s.get PRT_PORT_EVT.FAILS p) 1) ∧
  (∀ (s : State) (p : Port),
    s.get PRT_PORT_STS.STATE p ≠ 5 →
    s.get PRT_PORT_STS.STATE p ≠ 4 ∨ s.inReplay p = false →
    exec (.recoveryTimeout p) s = .next s) ∧
  (∀ (s : State) (p : Port),
    s.role p = 2 →
    s.get PRT_PORT_STS.STATE p = 1 →
    ∃ t, exec (.detectTimeout p) s = .next t ∧ (t.get PRT_PORT_EVT.EVENTS p).testBit 7 = true ∧ (t.get PRT_PORT_EVT.EVENTS p).testBit 2 = true ∧ t.get PRT_PORT_EVT.FAILS p = satAdd PRT_PORT_EVT.FAILS.w (s.get PRT_PORT_EVT.FAILS p) 1 ∧ t.get PRT_PORT_STS.STATE p = 1 ∧ t.quiet = s.quiet) ∧
  (∀ (s : State) (p : Port) (n : Nat),
    (s.role p = 2 → s.get PRT_PORT_STS.STATE p = 1 → 3 ≤ n → exec (.wakeNAssert ⟨p, n⟩) s = .next (s.emit (.lane p 0 0))) ∧
    (s.role p ≠ 2 ∨ s.get PRT_PORT_STS.STATE p ≠ 1 → exec (.wakeNAssert ⟨p, n⟩) s = .next s ∧ exec (.detectTimeout p) s = .next s) ∧ (n < 3 → exec (.wakeNAssert ⟨p, n⟩) s = .next s)) ∧
  (∀ (s : State) (p : Port),
    s.role p = 2 →
    s.plan p 23 1 = 0 ∨ s.flag SPW_STS.PG (s.plan p 18 5) = true →
    s.flag PRT_DN_TMR.PERST_OUT p = false →
    s.fatal = false →
    ∃ t, exec (.pvperlExpiry p) s = .next t ∧ t.get PRT_DN_TMR.PERST_OUT p = 1 ∧ t.get PRT_PORT_STS.STATE p = (if s.flag PRT_PORT_CTL.DISABLE p then 6 else 1) ∧ onlyRegs s t ∧ wordsKept s t [.PRT_DN_TMR, .PRT_PORT_STS]) ∧
  (∀ (s : State) (p : Port),
    s.role p ≠ 2 ∨ s.plan p 23 1 ≠ 0 ∧ s.flag SPW_STS.PG (s.plan p 18 5) = false ∨ s.flag PRT_DN_TMR.PERST_OUT p = true ∨ s.fatal = true →
    exec (.pvperlExpiry p) s = .next s)

/-- LANE_FAULT in service that lost CDR lock counts the fault and marks the lane: a port without L0p goes to Recovery where a narrower width can be configured, one with L0p asks for the widest width without excluded lanes, and a ZL port asks its peer to swap in the spare. A lane not in service, or without a cause, is no fault. WIDTH_CHANGE to the width asked for shows it, and of any other width changes nothing. L0P_PEER_REQUEST is accepted where no excluded lane lies in the width, and declined elsewhere. LANE_MARGINING_COMMAND at 16 GT/s and above is answered by the table of R248; below, or on a ZL port, it is not. SPARE_LANE_BAD marks an unused spare, once. -/
def Obligations.LanesInService : Prop :=
  (∀ (s : State) (p : Port) (k : Fin 9),
    laneInService s p k = true →
    s.role p = 1 ∨ s.role p = 2 →
    s.flag PRT_PORT_STS.L0P_NEG p = false →
    s.rgn (p / 16) ≠ 2 →
    ∃ t, exec (.laneFault p k ⟨true, true⟩) s = .next t ∧ t.get PRT_PORT_STS.STATE p = 5 ∧ (t.get PRT_PORT_STS.FAULTED p).testBit k = true ∧
      t.get PRT_LANE_STS.FAULT (laneOf p k) = 1 ∧ t.get PRT_LANE_STS.FAULTS (laneOf p k) = satAdd PRT_LANE_STS.FAULTS.w (s.get PRT_LANE_STS.FAULTS (laneOf p k)) 1 ∧
      t.get PRT_LANE_STS.CDR_LOCK (laneOf p k) = 0 ∧ t.stsBit (prtSet p) 0 ∧ (t.get PRT_PORT_EVT.EVENTS p).testBit 4 = true ∧ t.quiet = s.quiet) ∧
  (∀ (s : State) (p : Port) (k : Fin 9) (b : Bool) (wd : Nat),
    laneInService s p k = true →
    s.role p = 1 ∨ s.role p = 2 →
    s.flag PRT_PORT_STS.L0P_NEG p = true →
    s.rgn (p / 16) ≠ 2 →
    Tab.get 0 s.prt.l0p p = 0 →
    wd = widthFree (s.setBits PRT_PORT_STS.FAULTED p (2 ^ k.val)) p →
    wd ≠ 0 →
    ∃ t, exec (.laneFault p k ⟨b, true⟩) s = .next t ∧ t.get PRT_PORT_STS.STATE p = 4 ∧ Tab.get 0 t.prt.l0p p = wd ∧ t.get PRT_LANE_STS.FAULT (laneOf p k) = 1 ∧ t.get PRT_LANE_STS.FAULTS (laneOf p k) = satAdd PRT_LANE_STS.FAULTS.w (s.get PRT_LANE_STS.FAULTS (laneOf p k)) 1 ∧
      t.get PRT_LANE_STS.CDR_LOCK (laneOf p k) = 0 ∧ t.stsBit (prtSet p) 0 ∧ (t.get PRT_PORT_EVT.EVENTS p).testBit 4 = true ∧ Msg.lane p 1 wd ∈ t.out) ∧
  (∀ (s : State) (p : Port) (k : Fin 9) (b : Bool),
    laneInService s p k = true →
    s.role p = 3 →
    s.rgn (p / 16) ≠ 2 →
    Tab.get none s.prt.swap p = none →
    s.flag PRT_PORT_STS.SPARE_USED p = false →
    s.flag PRT_PORT_STS.SPARE_BAD p = false →
    k.val < 8 →
    ∃ t, exec (.laneFault p k ⟨b, true⟩) s = .next t ∧ Tab.get none t.prt.swap p = some ⟨k, 1, none, 0⟩ ∧ t.get ZWL_STS.STATE (zIndex p) = 4 ∧ t.get PRT_LANE_STS.FAULT (laneOf p k) = 1 ∧ t.get PRT_LANE_STS.FAULTS (laneOf p k) = satAdd PRT_LANE_STS.FAULTS.w (s.get PRT_LANE_STS.FAULTS (laneOf p k)) 1 ∧
      t.get PRT_LANE_STS.CDR_LOCK (laneOf p k) = 0 ∧ t.stsBit (prtSet p) 0 ∧ (t.get PRT_PORT_EVT.EVENTS p).testBit 4 = true) ∧
  (∀ (s : State) (p : Port) (k : Fin 9) (x : LaneLoss),
    laneInService s p k = false ∨ x.cdr = false ∧ s.symbolsOver p k = false →
    exec (.laneFault p k x) s = .next s) ∧
  (∀ (s : State) (p : Port) (wd : Fin 9),
    s.get PRT_PORT_STS.STATE p = 4 →
    wd = 1 ∨ wd = 2 ∨ wd = 4 ∨ wd = 8 →
    Tab.get 0 s.prt.l0p p = wd.val →
    Tab.get 0 s.prt.l0pNext p = 0 →
    ∃ t, exec (.widthChange p wd) s = .next t ∧ t.get PRT_PORT_STS.WIDTH p = wd.val ∧ Tab.get 0 t.prt.l0p p = 0 ∧ (t.get PRT_PORT_EVT.EVENTS p).testBit 5 = true ∧
      { t.quiet with prt := s.prt } = s.quiet) ∧
  (∀ (s : State) (p : Port) (wd : Fin 9),
    s.get PRT_PORT_STS.STATE p ≠ 4 ∨ Tab.get 0 s.prt.l0p p ≠ wd.val →
    exec (.widthChange p wd) s = .next s) ∧
  (∀ (s : State) (p : Port) (wd : Fin 9),
    s.get PRT_PORT_STS.STATE p = 4 →
    s.flag PRT_PORT_STS.L0P_NEG p = true →
    ((wd = 1 ∨ wd = 2 ∨ wd = 4 ∨ wd = 8) ∧ (lanesUsed wd (s.flag PRT_PORT_STS.REVERSED p)).all (laneOffered s p) = true ∧ Tab.get 0 s.prt.l0p p = 0 →
      ∃ t, exec (.l0pPeerRequest p wd) s = .next t ∧ Tab.get 0 t.prt.l0p p = wd.val ∧ t.out = .lane p 2 1 :: s.out ∧ { t with out := s.out, prt := s.prt } = s) ∧
    ((lanesUsed wd (s.flag PRT_PORT_STS.REVERSED p)).all (laneOffered s p) = false → exec (.l0pPeerRequest p wd) s = .next (s.emit (.lane p 2 0)))) ∧
  (∀ (s : State) (p : Port) (wd : Fin 9),
    s.get PRT_PORT_STS.STATE p ≠ 4 ∨ s.flag PRT_PORT_STS.L0P_NEG p = false →
    exec (.l0pPeerRequest p wd) s = .next s) ∧
  (∀ (s : State) (p : Port) (m : Margin),
    ((s.role p = 1 ∨ s.role p = 2) ∧ s.get PRT_PORT_STS.STATE p = 4 ∧ 3 ≤ s.get PRT_PORT_STS.RATE p → exec (.laneMarginingCommand p m) s =
      .next (s.emit (.lane p 5 (if laneInService s p m.lane && !(s.get PRT_PORT_STS.FAULTED p).testBit m.lane then marginAnswer (s.get PRT_PORT_STS.RATE p) m.cmd else 0)))) ∧
    (s.role p = 0 ∨ s.role p = 3 ∨ s.get PRT_PORT_STS.STATE p ≠ 4 ∨ s.get PRT_PORT_STS.RATE p < 3 → exec (.laneMarginingCommand p m) s = .next s)) ∧
  (∀ (s : State) (p : Port),
    s.rgn (p / 16) ≠ 2 →
    (s.role p = 3 → s.flag PRT_PORT_STS.SPARE_USED p = false → s.flag PRT_PORT_STS.SPARE_BAD p = false →
      ∃ t, exec (.spareLaneBad p) s = .next t ∧ t.get PRT_PORT_STS.SPARE_BAD p = 1 ∧ t.stsBit (prtSet p) 1 ∧ t.quiet = s.quiet) ∧
    (s.role p ≠ 3 ∨ s.flag PRT_PORT_STS.SPARE_USED p = true ∨ s.flag PRT_PORT_STS.SPARE_BAD p = true → exec (.spareLaneBad p) s = .next s))

/-- RETRAIN in L0 starts Recovery and at other times is discarded. DISABLE and TEST of 1 on a DN port without a pool device set their bit and take the link from L0 or Recovery to Disabled and TEST, and so one that trains; 0 there restarts the port from Detect, a DN port with DN_PERST_N high and neither bit left; elsewhere 0 only clears the bit. Recovery entry and exit move between L0 and Recovery, and change nothing in another state. LANE_PLL_UNLOCK raises PRT_LANE_PLL and holds the port until LANE_PLL_RELOCK; of a port outside the plan it changes nothing. A write of a register of the group that reaches it stores the fields and does what the written bits start: the same as the command. Given by a path that may not write its register, a command is counted as a discard and does nothing else; in the window of an isolated region, or through the manager port before ready, it does nothing. On a lane under test, or in service in L0, INJ_ONE inverts one bit and INJ_BURST the programmed number; on another lane neither has an effect. CHECKER_ENABLE on a lane under test clears the counter and SYNC, and elsewhere is a counted discard. PATTERN_CHECKER_SYNC of an enabled checker sets SYNC and adds the errors counted after it, and of another changes nothing. -/
def Obligations.PortControls : Prop :=
  (∀ (s : State) (q : Path) (p : Port),
    s.admits q (prtSet p) →
    s.flag PRT_PORT_STS.GANGED p = false →
    ∃ t, exec (.retrain q p) s = .next t ∧ (s.get PRT_PORT_STS.STATE p = 4 → t.get PRT_PORT_STS.STATE p = 5 ∧ onlyRegs s t ∧ wordsKept s t [.PRT_PORT_STS]) ∧
      (s.get PRT_PORT_STS.STATE p ≠ 4 → t = s.discard (prtSet p))) ∧
  (∀ (s : State) (q : Path) (p : Port),
    s.admits q (prtSet p) →
    s.flag PRT_PORT_STS.GANGED p = false →
    s.role p = 2 →
    s.get PRT_PORT_STS.STATE p = 4 ∨ s.get PRT_PORT_STS.STATE p = 5 →
    s.plan p 14 1 = 0 →
    s.poolPort p = false →
    (∃ t, exec (.disable q p true) s = .next t ∧ t.get PRT_PORT_CTL.DISABLE p = 1 ∧ t.get PRT_PORT_STS.STATE p = 6 ∧ t.get PRT_PORT_STS.RATE p = 0 ∧ t.get PRT_PORT_STS.WIDTH p = 0) ∧
    (∃ t, exec (.test q p true) s = .next t ∧ t.get PRT_PORT_CTL.TEST p = 1 ∧ t.get PRT_PORT_STS.STATE p = 9 ∧ t.get PRT_PORT_STS.RATE p = 0 ∧ t.get PRT_PORT_STS.WIDTH p = 0)) ∧
  (∀ (s : State) (q : Path) (p : Port),
    s.admits q (prtSet p) →
    s.flag PRT_PORT_STS.GANGED p = false →
    s.role p ≠ 0 →
    s.get PRT_PORT_STS.STATE p ≠ 4 →
    s.get PRT_PORT_STS.STATE p ≠ 5 →
    s.get PRT_PORT_STS.STATE p ≠ 0 →
    (∃ t, exec (.disable q p true) s = .next t ∧ t.get PRT_PORT_CTL.DISABLE p = 1 ∧ t.get PRT_PORT_STS.STATE p = 6 ∧ onlyRegs s t ∧ wordsKept s t [.PRT_PORT_CTL, .PRT_PORT_STS]) ∧
    (∃ t, exec (.test q p true) s = .next t ∧ t.get PRT_PORT_CTL.TEST p = 1 ∧ t.get PRT_PORT_STS.STATE p = 9 ∧ onlyRegs s t ∧ wordsKept s t [.PRT_PORT_CTL, .PRT_PORT_STS])) ∧
  (∀ (s : State) (q : Path) (p : Port),
    s.admits q (prtSet p) →
    s.flag PRT_PORT_STS.GANGED p = false →
    s.role p ≠ 0 →
    s.role p = 2 → s.flag PRT_DN_TMR.PERST_OUT p = true →
    (s.get PRT_PORT_STS.STATE p = 6 → s.flag PRT_PORT_CTL.TEST p = false → ∃ t, exec (.disable q p false) s = .next t ∧ t.get PRT_PORT_CTL.DISABLE p = 0 ∧ t.get PRT_PORT_STS.STATE p = 1 ∧ onlyRegs s t ∧
      wordsKept s t [.PRT_PORT_CTL, .PRT_PORT_STS]) ∧
    (s.get PRT_PORT_STS.STATE p = 9 → s.flag PRT_PORT_CTL.DISABLE p = false → ∃ t, exec (.test q p false) s = .next t ∧ t.get PRT_PORT_CTL.TEST p = 0 ∧ t.get PRT_PORT_STS.STATE p = 1 ∧ onlyRegs s t ∧
      wordsKept s t [.PRT_PORT_CTL, .PRT_PORT_STS])) ∧
  (∀ (s : State) (q : Path) (p : Port),
    s.admits q (prtSet p) →
    (s.get PRT_PORT_STS.STATE p ≠ 6 → exec (.disable q p false) s = .next (s.set PRT_PORT_CTL.DISABLE p 0)) ∧ (s.get PRT_PORT_STS.STATE p ≠ 9 → exec (.test q p false) s = .next (s.set PRT_PORT_CTL.TEST p 0)) ∧
    (s.role p = 0 → s.flag PRT_PORT_STS.GANGED p = false → exec (.disable q p true) s = .next (s.set PRT_PORT_CTL.DISABLE p 1) ∧ exec (.test q p true) s = .next (s.set PRT_PORT_CTL.TEST p 1))) ∧
  (∀ (s : State) (p : Port),
    s.flag PRT_PORT_STS.GANGED p = false →
    (s.get PRT_PORT_STS.STATE p = 4 → ∃ t, exec (.linkRecoveryEntry p) s = .next t ∧ t.get PRT_PORT_STS.STATE p = 5 ∧ onlyRegs s t ∧ wordsKept s t [.PRT_PORT_STS]) ∧
    (s.get PRT_PORT_STS.STATE p = 5 → widthTrains s p (s.get PRT_PORT_STS.WIDTH p) (s.flag PRT_PORT_STS.REVERSED p) = true →
      ∃ t, exec (.linkRecoveryExit p) s = .next t ∧ t.get PRT_PORT_STS.STATE p = 4 ∧ onlyRegs s t ∧ wordsKept s t [.PRT_PORT_STS]) ∧
    (s.get PRT_PORT_STS.STATE p ≠ 4 → exec (.linkRecoveryEntry p) s = .next s) ∧ (s.get PRT_PORT_STS.STATE p ≠ 5 → exec (.linkRecoveryExit p) s = .next s) ∧
    (widthTrains s p (s.get PRT_PORT_STS.WIDTH p) (s.flag PRT_PORT_STS.REVERSED p) = false → exec (.linkRecoveryExit p) s = .next s)) ∧
  (∀ (s : State) (p : Port),
    s.role p = 2 →
    s.get PRT_PORT_STS.STATE p = 4 →
    s.flag PRT_PORT_STS.GANGED p = false →
    s.plan p 14 1 = 0 →
    s.poolPort p = false →
    s.rgn (p / 16) ≠ 2 →
    ∃ t, exec (.lanePllUnlock p) s = .next t ∧ t.get PRT_PORT_STS.STATE p = 1 ∧ t.get PRT_PORT_STS.RATE p = 0 ∧ t.get PRT_PORT_STS.WIDTH p = 0 ∧ p.val ∈ t.prt.pllOff ∧ t.stsBit (prtSet p) 5) ∧
  (∀ (s : State) (p : Port),
    s.role p = 0 →
    exec (.lanePllUnlock p) s = .next s) ∧
  (∀ (s : State) (p : Port),
    ∃ t, exec (.lanePllRelock p) s = .next t ∧ p.val ∉ t.prt.pllOff ∧ (∀ q, q ≠ p.val → (q ∈ t.prt.pllOff ↔ q ∈ s.prt.pllOff)) ∧ { t with prt := s.prt } = s) ∧
  (∀ (s : State) (p : Path) (a : BitVec 32) (d : BitVec 64) (i : Nat),
    s.writeReaches p a (.reg .PRT_PORT_CTL i) →
    exec (.registerWrite p a d 4) s = .next ((fun s0 : State => (fun s1 : State => (fun s2 : State => if d.getLsbD 7 then retrain p (Fin.ofNat 64 i) s2 else s2)
      (if (d.getLsbD 8) != s.flag PRT_PORT_CTL.TEST i then test p (Fin.ofNat 64 i) (d.getLsbD 8) s1 else s1)) (if (d.getLsbD 6) != s.flag PRT_PORT_CTL.DISABLE i then disable p (Fin.ofNat 64 i) (d.getLsbD 6) s0 else s0))
      (((s.stored .PRT_PORT_CTL i d a).set PRT_PORT_CTL.DISABLE i (s.get PRT_PORT_CTL.DISABLE i)).set PRT_PORT_CTL.TEST i (s.get PRT_PORT_CTL.TEST i)))) ∧
  (∀ (s : State) (p : Path) (a : BitVec 32) (d : BitVec 64) (i : Nat),
    s.writeReaches p a (.reg .PRT_PAT_CTL i) →
    laneUnderTest s i = true →
    exec (.registerWrite p a d 4) s = .next ((fun t : State => (fun u : State => if d.getLsbD 6 then injBurst p (Fin.ofNat 520 i) u else u) (if d.getLsbD 5 then injOne p (Fin.ofNat 520 i) t else t))
      (if (d.getLsbD 4) && !s.flag PRT_PAT_CTL.CHK_EN i then checkerEnable p (Fin.ofNat 520 i) (s.stored .PRT_PAT_CTL i d a) else (s.stored .PRT_PAT_CTL i d a)))) ∧
  (∀ (s : State) (p : Path) (a : BitVec 32) (d : BitVec 64) (i : Nat),
    s.writeReaches p a (.reg .PRT_PAT_CTL i) →
    laneUnderTest s i = false →
    exec (.registerWrite p a d 4) s = .next ((fun t : State => (fun u : State => if d.getLsbD 6 then injBurst p (Fin.ofNat 520 i) u else u) (if d.getLsbD 5 then injOne p (Fin.ofNat 520 i) t else t))
      ((fun t : State => if (d.getLsbD 3) != s.flag PRT_PAT_CTL.GEN_EN i || (d.getLsbD 4) != s.flag PRT_PAT_CTL.CHK_EN i then t.discard (regSet s .PRT_PAT_CTL i a.toNat) else t)
        (((s.stored .PRT_PAT_CTL i d a).set PRT_PAT_CTL.GEN_EN i (s.get PRT_PAT_CTL.GEN_EN i)).set PRT_PAT_CTL.CHK_EN i (s.get PRT_PAT_CTL.CHK_EN i))))) ∧
  (∀ (s : State) (p : Path) (q : Port) (on : Bool) (n : Lane),
    s.mayWrite p = false →
    exec (.retrain p q) s = .next (if s.windowGone (setUnit (prtSet q)) || s.unheard p then s else s.discard (prtSet q)) ∧
    exec (.disable p q on) s = .next (if s.windowGone (setUnit (prtSet q)) || s.unheard p then s else s.discard (prtSet q)) ∧
    exec (.test p q on) s = .next (if s.windowGone (setUnit (prtSet q)) || s.unheard p then s else s.discard (prtSet q)) ∧
    exec (.injOne p n) s = .next (if s.windowGone (setUnit (prtSet (lanePort n))) || s.unheard p then s else s.discard (prtSet (lanePort n))) ∧
    exec (.injBurst p n) s = .next (if s.windowGone (setUnit (prtSet (lanePort n))) || s.unheard p then s else s.discard (prtSet (lanePort n))) ∧
    exec (.checkerEnable p n) s = .next (if s.windowGone (setUnit (prtSet (lanePort n))) || s.unheard p then s else s.discard (prtSet (lanePort n)))) ∧
  (∀ (s : State) (q : Path) (n : Lane),
    s.admits q (prtSet (lanePort n)) →
    (laneUnderTest s n || laneInService s (lanePort n) (laneIndex n)) = true →
    exec (.injOne q n) s = .next (s.emit (.lane (lanePort n) 3 (64 * n + 1))) ∧
    exec (.injBurst q n) s = .next (s.emit (.lane (lanePort n) 4 (64 * n + s.get PRT_PAT_CTL.BURST_LEN n)))) ∧
  (∀ (s : State) (q : Path) (n : Lane),
    s.admits q (prtSet (lanePort n)) →
    ((laneUnderTest s n || laneInService s (lanePort n) (laneIndex n)) = false → exec (.injOne q n) s = .next s ∧ exec (.injBurst q n) s = .next s) ∧
    (laneUnderTest s n = false → exec (.checkerEnable q n) s = .next (s.discard (prtSet (lanePort n))))) ∧
  (∀ (s : State) (q : Path) (n : Lane),
    s.admits q (prtSet (lanePort n)) →
    laneUnderTest s n = true →
    ∃ t, exec (.checkerEnable q n) s = .next t ∧ t.get PRT_PAT_CTL.CHK_EN n = 1 ∧ t.get PRT_PAT_CTL.SYNC n = 0 ∧ Tab.get 0 t.prt.pat n = 0 ∧
      (∀ m, m ≠ n.val → Tab.get 0 t.prt.pat m = Tab.get 0 s.prt.pat m) ∧ wordsKept s t [.PRT_PAT_CTL] ∧ { t with regs := s.regs, prt := s.prt } = s) ∧
  (∀ (s : State) (n : Lane) (e : BitVec 48),
    s.flag PRT_PAT_CTL.CHK_EN n = true →
    ∃ t, exec (.patternCheckerSync n e) s = .next t ∧ t.get PRT_PAT_CTL.SYNC n = 1 ∧
      (Tab.get 0 t.prt.pat n).toNat = min ((Tab.get 0 s.prt.pat n).toNat + e.toNat) (2 ^ 48 - 1) ∧ wordsKept s t [.PRT_PAT_CTL] ∧
      { t with regs := s.regs, prt := s.prt } = s) ∧
  (∀ (s : State) (n : Lane) (e : BitVec 48),
    s.flag PRT_PAT_CTL.CHK_EN n = false →
    exec (.patternCheckerSync n e) s = .next s)

/-- FLIT_RECEIVE of the expected flit with one message for an output in service puts its cell in the VOQ and returns its credit; one for an internal sink returns its credit; a flit with no message only advances; a copy of an earlier flit, or a flit on a port of another role or out of L0, changes nothing; a MAC failure takes the link down. A first flit that fails its CRC is counted, raises LNK_CRC_FLIT and is NAKed, selectively or, where that is off, by a standard NAK. FLIT_ACK_RECEIVE frees the acknowledged flits. FLIT_NAK_RECEIVE sends the flit again, and with a replay-count rollover starts Recovery; an uncorrectable replay buffer takes the link down; for a flit no longer held nothing changes. CREDIT_UPDATE adds the credits once. -/
def Obligations.FlitsAndCredits : Prop :=
  (∀ (s : State) (p : Port) (num : Nat) (m : LinkMsg),
    s.role p = 2 →
    s.flag LNK_STS.MEM p = true →
    s.get PRT_PORT_STS.STATE p = 4 →
    s.lnk p = { next := num, top := num } →
    m.kind = .s2mNdr →
    m.dest < 64 →
    m.bad = false →
    s.flag LNK_STS.IDE_GATED p = false →
    s.inService m.dest = true →
    s.get SWC_VOQ_OCC.CELLS (8 * p.val + 6) < s.get SWC_VOQ_LIM.LIMIT (8 * p.val + 6) →
    s.swc.ovf = [] →
    s.swc.held = [] →
    s.flag TFC_HIST_CTL.EN (p / 16) = false →
    (List.range 64).all (fun n => !s.flag SWC_GLN_CTL.EN n) = true →
    ∃ t, exec (.flitReceive p num (some [m]) true []) s = .next t ∧ (t.lnk p).next = num + 1 ∧ Tab.get 0 (t.lnk p).spent 3 = 0 ∧
      Tab.get [] t.swc.voq (voqKey p m.dest 6) = Tab.get [] s.swc.voq (voqKey p m.dest 6) ++
        [{ source := p.val, out := m.dest, dest := m.far, tc := 6, need := [3], data := m.data, reqs := m.req.toList, ecc := m.ecc, since := s.timeOf (p / 16) }] ∧
      t.out = .link p 3 3 :: s.out ∧ t.get SWC_VOQ_OCC.CELLS (8 * p.val + 6) = s.get SWC_VOQ_OCC.CELLS (8 * p.val + 6) + 1) ∧
  (∀ (s : State) (p : Port) (num : Nat) (m : LinkMsg),
    s.role p = 1 →
    s.flag LNK_STS.MEM p = true →
    s.get PRT_PORT_STS.STATE p = 4 →
    s.lnk p = { next := num, top := num } →
    m.kind = .m2sReq →
    64 ≤ m.dest →
    m.bad = false →
    s.flag LNK_STS.IDE_GATED p = false →
    ∃ t, exec (.flitReceive p num (some [m]) true []) s = .next t ∧ (t.lnk p).next = num + 1 ∧ Tab.get 0 (t.lnk p).spent 0 = 0 ∧ t.swc = s.swc ∧ t.out = .link p 3 0 :: s.out) ∧
  (∀ (s : State) (p : Port) (num : Nat),
    s.role p = 1 ∨ s.role p = 2 →
    s.get PRT_PORT_STS.STATE p = 4 →
    s.lnk p = { next := num, top := num } →
    (∃ t, exec (.flitReceive p num (some []) true []) s = .next t ∧ t.lnk p = { next := num + 1, top := num + 1 } ∧ (∀ q, q ≠ p.val → t.lnk q = s.lnk q) ∧
      { t with ll := s.ll, prt := s.prt } = s) ∧
    (s.flag PRT_PORT_STS.GANGED p = false → s.role p = 1 → s.rgn (p / 16) ≠ 2 → ∃ t, exec (.flitReceive p num (some []) false []) s = .next t ∧ t.get PRT_PORT_STS.STATE p = 1 ∧
      t.get LNK_IDE_STS.MAC_FAIL p = satAdd LNK_IDE_STS.MAC_FAIL.w (s.get LNK_IDE_STS.MAC_FAIL p) 1 ∧ t.stsBit (lnkSet p) 4)) ∧
  (∀ (s : State) (p : Port) (num : Nat) (ms : List LinkMsg),
    s.role p = 1 ∨ s.role p = 2 →
    s.get PRT_PORT_STS.STATE p = 4 →
    num < (s.lnk p).next →
    ∃ t, exec (.flitReceive p num (some ms) true []) s = .next t ∧ { t with prt := s.prt } = s) ∧
  (∀ (s : State) (p : Port) (num : Nat) (b : Option (List LinkMsg)) (m : Bool) (f : List (Fin 9)),
    s.role p = 0 ∨ s.role p = 3 ∨ s.get PRT_PORT_STS.STATE p ≠ 4 →
    exec (.flitReceive p num b m f) s = .next s) ∧
  (∀ (s : State) (p : Port) (num : Nat),
    s.role p = 1 ∨ s.role p = 2 →
    s.get PRT_PORT_STS.STATE p = 4 →
    s.lnk p = { next := num, top := num } →
    s.rgn (p / 16) ≠ 2 →
    (s.flag LNK_CTL.SEL_NAK_EN p = true → ∃ t, exec (.flitReceive p num none true []) s = .next t ∧ t.lnk p = { next := num, top := num + 1, naks := [(num, 1)] } ∧
      t.get LNK_ERR.CRC_FLITS p = satAdd LNK_ERR.CRC_FLITS.w (s.get LNK_ERR.CRC_FLITS p) 1 ∧ t.get LNK_ERR.SEL_NAKS p = satAdd LNK_ERR.SEL_NAKS.w (s.get LNK_ERR.SEL_NAKS p) 1 ∧
      t.stsBit (lnkSet p) 0 ∧ t.swc = s.swc ∧ Msg.link p 1 num ∈ t.out) ∧
    (s.flag LNK_CTL.SEL_NAK_EN p = false → ∃ t, exec (.flitReceive p num none true []) s = .next t ∧ t.lnk p = { next := num, top := num, std := true } ∧
      t.get LNK_ERR.CRC_FLITS p = satAdd LNK_ERR.CRC_FLITS.w (s.get LNK_ERR.CRC_FLITS p) 1 ∧ t.get LNK_ERR.STD_NAKS p = satAdd LNK_ERR.STD_NAKS.w (s.get LNK_ERR.STD_NAKS p) 1 ∧
      t.stsBit (lnkSet p) 0 ∧ t.swc = s.swc ∧ Msg.link p 2 num ∈ t.out)) ∧
  (∀ (s : State) (p : Port) (n : Nat),
    (∃ t, exec (.flitAckReceive p n) s = .next t ∧ (t.lnk p).replay = (s.lnk p).replay.filter (fun e => e.1 > n) ∧ (t.lnk p).again = (s.lnk p).again.filter (fun m => m > n) ∧
      { t.lnk p with replay := (s.lnk p).replay, again := (s.lnk p).again } = s.lnk p ∧ (∀ q, q ≠ p.val → t.lnk q = s.lnk q) ∧ { t with ll := s.ll } = s) ∧
    (∀ c k, ∃ t, exec (.creditUpdate p c k) s = .next t ∧ Tab.get 0 (t.lnk p).credit c = Tab.get 0 (s.lnk p).credit c + k ∧
      (∀ d, d ≠ c.val → Tab.get 0 (t.lnk p).credit d = Tab.get 0 (s.lnk p).credit d) ∧ (∀ q, q ≠ p.val → t.lnk q = s.lnk q) ∧ { t with ll := s.ll } = s)) ∧
  (∀ (s : State) (p : Port) (n : Nat) (c : Cell),
    (s.lnk p).replay.filter (fun e => e.1 == n) = [(n, c)] →
    ∃ t, exec (.flitNakReceive p n true ⟨false, false⟩) s = .next t ∧ t.out = .link p 6 c.kset :: .link p 5 n :: s.out ∧ n ∈ (t.lnk p).again ∧
      { t.lnk p with again := (s.lnk p).again } = s.lnk p ∧ { t.quiet with ll := s.ll } = s.quiet) ∧
  (∀ (s : State) (p : Port) (n : Nat),
    (s.lnk p).replay.all (fun e => e.1 < n) = true →
    (s.lnk p).again.dedup = (s.lnk p).again →
    ∀ sel ecc, ∃ t, exec (.flitNakReceive p n sel ⟨false, ecc⟩) s = .next t ∧ t.out = s.out ∧ t.lnk p = s.lnk p) ∧
  (∀ (s : State) (p : Port) (n : Nat) (sel : Bool),
    s.rgn (p / 16) ≠ 2 →
    s.flag PRT_PORT_STS.GANGED p = false →
    s.role p = 1 →
    s.get PRT_PORT_STS.STATE p = 4 →
    (∃ t, exec (.flitNakReceive p n sel ⟨true, false⟩) s = .next t ∧ t.get PRT_PORT_STS.STATE p = 5 ∧ t.stsBit (lnkSet p) 1) ∧
    ((s.lnk p).replay.any (fun e => e.1 == n) = true → ∃ t, exec (.flitNakReceive p n sel ⟨false, true⟩) s = .next t ∧ t.get PRT_PORT_STS.STATE p = 1 ∧ t.stsBit (lnkSet p) 5))

/-- IDE_KEY_PROG of a DN port, or inside an open SPDM session of an UP port, loads the key set, and elsewhere loads nothing. K_SET_GO makes IDE active on its stream with its first loaded set, or switches to the other loaded set and counts a refresh; without a loaded set it changes nothing. CXLIO_REQUEST of an UP port before READY, when it is a configuration request, is answered with Retry Status, another non-posted one with Unsupported Request, and a posted one is discarded with its credits returned; once ready, one that an entry of its VCS matches leaves for the entry's DN port with the entry's logical device and the epoch, one that no entry matches is answered Unsupported Request, and a configuration request while an agent of the port is dead with Retry Status. From a DN port it goes to the VCS that owns the logical device. On another port, or out of service, it changes nothing. -/
def Obligations.LinkEncryptionAndIo : Prop :=
  (∀ (s : State) (p : Port) (cm rx : Bool) (k : Fin 2) (key : BitVec 256) (n : Nat),
    (s.role p = 1 ∧ s.boot.spdm.contains n = true ∨ s.role p = 2 → ∃ t, exec (.ideKeyProg p cm rx k key n) s = .next t ∧ (t.lnk p).keys = Tab.insert (s.lnk p).keys (keySlot cm rx k) key ∧
      (∀ q, q ≠ p.val → t.lnk q = s.lnk q) ∧ { t with ll := s.ll } = s) ∧
    (s.role p ≠ 2 → s.role p ≠ 1 ∨ s.boot.spdm.contains n = false → exec (.ideKeyProg p cm rx k key n) s = .next s)) ∧
  (∀ (s : State) (p : Port),
    s.get PRT_PORT_STS.STATE p = 4 →
    (s.flag LNK_STS.IDE_CM p = false → (s.lnk p).keys.any (fun e => e.1 == keySlot true false (s.get LNK_IDE_STS.KSET_CM p)) = true →
      ∃ t, exec (.kSetGo p true) s = .next t ∧ t.get LNK_STS.IDE_CM p = 1 ∧ t.get LNK_IDE_STS.KSET_CM p = s.get LNK_IDE_STS.KSET_CM p ∧
        t.get LNK_IDE_STS.REFRESHES p = s.get LNK_IDE_STS.REFRESHES p ∧ onlyRegs s t ∧ wordsKept s t [.LNK_STS, .LNK_IDE_STS]) ∧
    (s.flag LNK_STS.IDE_IO p = false → (s.lnk p).keys.any (fun e => e.1 == keySlot false false (s.get LNK_IDE_STS.KSET_IO p)) = true →
      ∃ t, exec (.kSetGo p false) s = .next t ∧ t.get LNK_STS.IDE_IO p = 1 ∧ t.get LNK_IDE_STS.KSET_IO p = s.get LNK_IDE_STS.KSET_IO p ∧
        onlyRegs s t ∧ wordsKept s t [.LNK_STS, .LNK_IDE_STS]) ∧
    (s.flag LNK_STS.IDE_CM p = true → (s.lnk p).keys.any (fun e => e.1 == keySlot true false (1 - s.get LNK_IDE_STS.KSET_CM p)) = true →
      ∃ t, exec (.kSetGo p true) s = .next t ∧ t.get LNK_IDE_STS.KSET_CM p = 1 - s.get LNK_IDE_STS.KSET_CM p ∧
        t.get LNK_IDE_STS.REFRESHES p = satAdd LNK_IDE_STS.REFRESHES.w (s.get LNK_IDE_STS.REFRESHES p) 1 ∧ onlyRegs s t ∧ wordsKept s t [.LNK_STS, .LNK_IDE_STS]) ∧
    (s.flag LNK_STS.IDE_IO p = true → (s.lnk p).keys.any (fun e => e.1 == keySlot false false (1 - s.get LNK_IDE_STS.KSET_IO p)) = true →
      ∃ t, exec (.kSetGo p false) s = .next t ∧ t.get LNK_IDE_STS.KSET_IO p = 1 - s.get LNK_IDE_STS.KSET_IO p ∧
        t.get LNK_IDE_STS.REFRESHES p = satAdd LNK_IDE_STS.REFRESHES.w (s.get LNK_IDE_STS.REFRESHES p) 1 ∧ onlyRegs s t ∧ wordsKept s t [.LNK_STS, .LNK_IDE_STS])) ∧
  (∀ (s : State) (p : Port),
    s.get PRT_PORT_STS.STATE p ≠ 4 ∨ (s.lnk p).keys = [] →
    exec (.kSetGo p true) s = .next s ∧ exec (.kSetGo p false) s = .next s) ∧
  (∀ (s : State) (p : Port) (tag : BitVec 16) (d : List Byte) (n : Nat) (kind : MsgKind) (x : IoRoute),
    s.role p = 1 →
    s.flag SEC_BOOT_STS.READY 0 = false →
    s.inService p = true →
    s.flag LNK_STS.IDE_GATED p = false →
    exec (.cxlioRequest p tag kind .other ⟨x, false⟩ d) s = .next (ioAnswer s p tag kind 2) ∧
    exec (.cxlioRequest p tag (.nonPosted n) .none ⟨x, false⟩ d) s = .next (ioAnswer s p tag (.nonPosted n) 1) ∧
    exec (.cxlioRequest p tag (.posted n) .none ⟨x, false⟩ d) s = .next (s.creditBack p (kindCredits (.posted n)))) ∧
  (∀ (s : State) (p : Port) (tag : BitVec 16) (d : List Byte) (n : Nat) (bus : BitVec 8),
    s.role p = 1 →
    s.flag SEC_BOOT_STS.READY 0 = true →
    s.swc.rt = [] →
    s.inService p = true →
    s.flag LNK_STS.IDE_GATED p = false →
    exec (.cxlioRequest p tag (.nonPosted n) .none ⟨(.byId bus), false⟩ d) s = .next (ioAnswer s p tag (.nonPosted n) 1) ∧ exec (.cxlioRequest p tag (.posted n) .none ⟨(.byId bus), false⟩ d) s = .next (ioAnswer s p tag (.posted n) 1) ∧
    exec (.cxlioRequest p tag (.completion n) .none ⟨(.completion bus 0), false⟩ d) s = .next (s.creditBack p (kindCredits (.completion n)))) ∧
  (∀ (s : State) (p : Port) (tag : BitVec 16) (d : List Byte) (kind : MsgKind) (x : IoRoute) (e : Nat),
    s.role p = 1 →
    s.flag SEC_BOOT_STS.READY 0 = true →
    routeOf s p x = some e →
    s.role (rtEgress (s.rtEntry (p / 16) e)) = 2 →
    s.inService p = true →
    s.flag LNK_STS.IDE_GATED p = false →
    exec (.cxlioRequest p tag kind .none ⟨x, false⟩ d) s = .next (s.arrive p { source := p, out := rtEgress (s.rtEntry (p / 16) e), tc := 3, epoch := some (p / 16, s.get SWC_RT_BAR.EPOCH (p / 16)), need := kindCredits kind, data := d, ld := rtLd (s.rtEntry (p / 16) e) })) ∧
  (∀ (s : State) (p : Port) (tag : BitVec 16) (d : List Byte) (kind : MsgKind) (x : IoRoute) (e : Nat),
    s.role p = 1 →
    s.flag SEC_BOOT_STS.READY 0 = true →
    routeOf s p x = some e →
    s.rgn (p / 16) ≠ 2 →
    s.inService p = true →
    s.flag LNK_STS.IDE_GATED p = false →
    ∃ t, exec (.cxlioRequest p tag kind .none ⟨x, true⟩ d) s = .next t ∧ t.rtEntry (p / 16) e = 0 ∧ t.stsBit (swcSet (p / 16)) 7) ∧
  (∀ (s : State) (p : Port) (tag : BitVec 16) (d : List Byte) (kind : MsgKind) (x : IoRoute),
    s.role p = 1 →
    s.flag SEC_BOOT_STS.READY 0 = true →
    s.deadAll p = true →
    s.inService p = true →
    s.flag LNK_STS.IDE_GATED p = false →
    exec (.cxlioRequest p tag kind .other ⟨x, false⟩ d) s = .next (ioAnswer s p tag kind 2)) ∧
  (∀ (s : State) (p : Port) (tag : BitVec 16) (d : List Byte) (kind : MsgKind) (ld : Fin 16) (m : Nat),
    s.role p = 2 →
    vcsOf s p ld = some m →
    s.inService p = true →
    s.flag LNK_STS.IDE_GATED p = false →
    exec (.cxlioRequest p tag kind .none ⟨(.fromDn ld), false⟩ d) s = .next (s.arrive p { source := p, out := rtVcs (s.rtEntry (m / 2048) (m % 2048)), tc := 3, epoch := some (m / 2048, s.get SWC_RT_BAR.EPOCH (m / 2048)), need := kindCredits kind, data := d, ld := ld })) ∧
  (∀ (s : State) (p : Port) (tag : BitVec 16) (d : List Byte) (kind : MsgKind) (ld : Fin 16),
    s.role p = 2 →
    s.swc.rt = [] →
    ∀ n, kind ≠ .completion n →
    s.inService p = true →
    s.flag LNK_STS.IDE_GATED p = false →
    exec (.cxlioRequest p tag kind .none ⟨(.fromDn ld), false⟩ d) s = .next (ioAnswer s p tag kind 1)) ∧
  (∀ (s : State) (p : Port) (tag : BitVec 16) (d : List Byte) (kind : MsgKind) (c : CfgKind) (x : IoLookup),
    s.inService p = false ∨ s.role p = 0 ∨ s.role p = 3 →
    exec (.cxlioRequest p tag kind c x d) s = .next s)

/-- An IDLE unit of a number, cut into blocks whose lanes say FLOW, is received as that IDLE unit, and so is a DATA unit with its class, destination and slots. ZWL_INIT from another unit that the plan allows brings the link up with its sequences cleared; a peer of the own unit holds it; a link not in initialisation takes none. FLOW_UNIT_RECEIVE of the expected IDLE unit advances the sequence; a DATA unit within its flow's grant is counted as come, and beyond it takes the link down; a bad unit opens a hole and is NAKed. ZWL_ACK frees the units up to its number. ZWL_NAK of a recent unit sends it again alone, with a higher TRY in a go-back, and a TRY that is no higher sends nothing. ZWL_REQ and ZWL_GRANT set their running totals, and the timers repeat ACK, NAK, REQ and GRANT; with nothing to repeat they change nothing. A link that carries no flow units takes none of these. ZWL_CTRL_DISCARD is counted. -/
def Obligations.ZwiusSequence : Prop :=
  (∀ (n : Nat),
    unitReceived n { blocks := (quarters (idleUnit n)).map (fun b => ⟨[1, 1, 1], b⟩) } = some (some .idle)) ∧
  (∀ (n : Nat) (tc : Fin 8) (dest : Fin 68) (slot data : List Byte),
    slot.length = 16 →
    data.length = 224 →
    unitReceived n { blocks := (quarters (unitBytes n (unitBody unitData tc dest slot data))).map (fun b => ⟨[1, 1, 1], b⟩) } =
      some (some (.data tc dest (slot.headD 0) data))) ∧
  (∀ (s : State) (z : ZPort) (u : Fin 4) (peer : Port) (g : Bool),
    s.get ZWL_STS.STATE z = 1 →
    u.val ≠ s.unit →
    s.flag ZWL_CTL.EXP_EN z = false ∨ s.get ZWL_CTL.EXP_UNIT z = u.val →
    ∃ t, exec (.zwlInit z u peer g) s = .next t ∧ t.get ZWL_STS.STATE z = 2 ∧ t.get ZWL_STS.TX_SEQ z = 0 ∧
      { t.zwl z with tx := [], units_ := [], ctl := [] } = {} ∧ t.get ZWL_PEER.UNIT z = u.val ∧
      t.get ZWL_PEER.PORT z = peer.val ∧ t.get ZWL_PEER.GANGED z = g.toNat ∧ t.get ZWL_PEER.VALID z = 1 ∧ Tab.get 0 t.cat.peer z = u.val + 1 ∧ wordsKept s t [.ZWL_STS, .ZWL_PEER]) ∧
  (∀ (s : State) (z : ZPort) (u : Fin 4) (peer : Port) (g : Bool),
    s.get ZWL_STS.STATE z = 1 →
    u.val = s.unit ∨ s.flag ZWL_CTL.EXP_EN z = true ∧ s.get ZWL_CTL.EXP_UNIT z ≠ u.val →
    s.rgn (z.val / 2) ≠ 2 →
    ∃ t, exec (.zwlInit z u peer g) s = .next t ∧ t.get ZWL_STS.STATE z = 3 ∧ t.stsBit (zwlSet z) 4 ∧ t.zwl z = s.zwl z ∧ t.get ZWL_PEER.UNIT z = u.val) ∧
  (∀ (s : State) (z : ZPort) (u : Fin 4) (peer : Port) (g : Bool),
    s.get ZWL_STS.STATE z ≠ 1 →
    exec (.zwlInit z u peer g) s = .next s) ∧
  (∀ (s : State) (z : ZPort) (num : BitVec 24) (u : WireUnit),
    s.zwlUp z = true →
    (s.zwl z).next = num.toNat →
    (s.zwl z).held = [] →
    (s.zwl z).lost = none →
    Tab.get none s.prt.swap (zPort z) = none →
    unitReceived num.toNat u = some (some .idle) →
    ∃ t, exec (.flowUnitReceive z ⟨num, []⟩ u) s = .next t ∧ (t.zwl z).next = (num.toNat + 1) % 2 ^ 24 ∧ (t.zwl z).sinceAck = (s.zwl z).sinceAck + 1 ∧
      (∀ h ∈ (t.zwl z).holes, h.1 ≠ num.toNat) ∧ (∀ y, y ≠ z.val → t.zwl y = s.zwl y) ∧ { t with regs := s.regs, ll := s.ll, prt := s.prt } = s ∧ wordsKept s t [.ZWL_ERR]) ∧
  (∀ (s : State) (z : ZPort) (num : BitVec 24) (u : WireUnit) (tc : Fin 8) (dest : Fin 68) (b : Byte) (d : List Byte),
    s.zwlUp z = true →
    (s.zwl z).next = num.toNat →
    (s.zwl z).held = [] →
    (s.zwl z).lost = none →
    Tab.get none s.prt.swap (zPort z) = none →
    unitReceived num.toNat u = some (some (.data tc dest b d none)) →
    (64 ≤ dest.val → Tab.get 0 (s.zwl z).came (8 * dest.val + tc.val) ≠ Tab.get 0 (s.zwl z).gave (8 * dest.val + tc.val) →
      ∃ t, exec (.flowUnitReceive z ⟨num, []⟩ u) s = .next t ∧ (t.zwl z).next = (num.toNat + 1) % 2 ^ 24 ∧
        Tab.get 0 (t.zwl z).came (8 * dest.val + tc.val) = (Tab.get 0 (s.zwl z).came (8 * dest.val + tc.val) + 1) % 2 ^ 16) ∧
    (Tab.get 0 (s.zwl z).came (8 * dest.val + tc.val) = Tab.get 0 (s.zwl z).gave (8 * dest.val + tc.val) → s.role (zPort z) = 3 → s.inService (zPort z) = true →
      s.flag PRT_PORT_STS.GANGED (zPort z) = false → s.rgn (z / 2) ≠ 2 →
      ∃ t, exec (.flowUnitReceive z ⟨num, []⟩ u) s = .next t ∧ t.get PRT_PORT_STS.STATE (zPort z) = 1 ∧ t.stsBit (zwlSet z) 3)) ∧
  (∀ (s : State) (z : ZPort) (num : BitVec 24) (u : WireUnit) (b n : Nat),
    s.zwlUp z = true →
    unitReceived num.toNat u = none →
    s.rgn (z.val / 2) ≠ 2 →
    (s.zwl z).bad = [b] →
    b < s.get ZWL_CTL.THR z →
    (s.zwl z).holes = [] →
    n = (s.zwl z).next →
    sub24 num.toNat n < 2 ^ 23 →
    ∃ t, exec (.flowUnitReceive z ⟨num, []⟩ u) s = .next t ∧ (t.zwl z).holes = [(num.toNat, 1)] ∧ (t.zwl z).next = n ∧ t.stsBit (zwlSet z) 0 ∧
      Msg.zwl z 0x02 num.toNat 1 ∈ t.out ∧ t.swc = s.swc) ∧
  (∀ (s : State) (z : ZPort) (num : BitVec 24),
    ∃ t, exec (.zwlAck z num) s = .next t ∧ (t.zwl z).replay = (s.zwl z).replay.filter (fun e => !(sub24 num.toNat e.1 < 2 ^ 23)) ∧ (t.zwl z).sent = (s.zwl z).sent ∧
      (t.zwl z).again = (s.zwl z).again.filter (fun n => !(sub24 num.toNat n < 2 ^ 23)) ∧ (∀ y, y ≠ z.val → t.zwl y = s.zwl y) ∧ { t with ll := s.ll, out := s.out } = s) ∧
  (∀ (s : State) (z : ZPort) (num : BitVec 24) (c : Cell),
    s.zwlUp z = true →
    (s.zwl z).goback = none →
    (s.zwl z).replay = [(num.toNat, c, 0)] →
    s.get ZWL_STS.TX_SEQ z = (num.toNat + 1) % 2 ^ 24 →
    (s.flag ZWL_CTL.SEL_EN z = true → ∃ t, exec (.zwlNak z num 1) s = .next t ∧ (t.zwl z).replay = [(num.toNat, c, 1)] ∧ (t.zwl z).goback = none ∧ t.out = .zwl z 0x11 num.toNat 0 :: s.out ∧
      t.get ZWL_RPL.SELECTIVE z = satAdd ZWL_RPL.SELECTIVE.w (s.get ZWL_RPL.SELECTIVE z) 1 ∧ (∀ y, y ≠ z.val → t.zwl y = s.zwl y)) ∧
    (∃ t, exec (.zwlNak z num 3) s = .next t ∧ (t.zwl z).replay = [(num.toNat, c, 3)] ∧ (t.zwl z).goback = some num.toNat ∧ t.out = .zwl z 0x11 num.toNat 0 :: s.out ∧
      t.get ZWL_RPL.GOBACK z = satAdd ZWL_RPL.GOBACK.w (s.get ZWL_RPL.GOBACK z) 1 ∧ (∀ y, y ≠ z.val → t.zwl y = s.zwl y)) ∧
    exec (.zwlNak z num 0) s = .next s) ∧
  (∀ (s : State) (z : ZPort) (num : BitVec 24) (k : Fin 16),
    s.zwlUp z = true →
    (s.zwl z).goback = none →
    0 < sub24 (s.get ZWL_STS.TX_SEQ z) num.toNat ∧ sub24 (s.get ZWL_STS.TX_SEQ z) num.toNat < 2 ^ 23 →
    (s.zwl z).replay.all (fun e => e.1 != num.toNat) = true →
    ∃ t, exec (.zwlNak z num k) s = .next t ∧ t.out = .zwl z 0x12 num.toNat 0 :: s.out ∧ (∀ y, y ≠ z.val → t.zwl y = s.zwl y) ∧ { t with ll := s.ll, out := s.out } = s) ∧
  (∀ (s : State) (z : ZPort) (d : Fin 68) (tc : Tc) (n : BitVec 16),
    s.zwlUp z = true →
    ((n.toNat + 2 ^ 16 - Tab.get 0 (s.zwl z).wanted (8 * d.val + tc.val)) % 2 ^ 16 < 2 ^ 15 →
      ∃ t, exec (.zwlReq z d tc n) s = .next t ∧ Tab.get 0 (t.zwl z).wanted (8 * d.val + tc.val) = n.toNat ∧ (t.zwl z).granted = (s.zwl z).granted ∧
        (∀ f, f ≠ 8 * d.val + tc.val → Tab.get 0 (t.zwl z).gave f = Tab.get 0 (s.zwl z).gave f) ∧
        t.out = .zwl z 0x04 (8 * d.val + tc.val) (Tab.get 0 (t.zwl z).gave (8 * d.val + tc.val)) :: s.out ∧ (∀ y, y ≠ z.val → t.zwl y = s.zwl y) ∧ { t with ll := s.ll, out := s.out } = s) ∧
    (2 ^ 15 ≤ (n.toNat + 2 ^ 16 - Tab.get 0 (s.zwl z).wanted (8 * d.val + tc.val)) % 2 ^ 16 → exec (.zwlReq z d tc n) s = .next s) ∧
    ((n.toNat + 2 ^ 16 - Tab.get 0 (s.zwl z).granted (8 * d.val + tc.val)) % 2 ^ 16 < 2 ^ 15 →
      ∃ t, exec (.zwlGrant z d tc n) s = .next t ∧ Tab.get 0 (t.zwl z).granted (8 * d.val + tc.val) = n.toNat ∧ (t.zwl z).gave = (s.zwl z).gave ∧ (∀ y, y ≠ z.val → t.zwl y = s.zwl y) ∧ { t with ll := s.ll, out := s.out } = s) ∧
    (2 ^ 15 ≤ (n.toNat + 2 ^ 16 - Tab.get 0 (s.zwl z).granted (8 * d.val + tc.val)) % 2 ^ 16 → exec (.zwlGrant z d tc n) s = .next s)) ∧
  (∀ (s : State) (z : ZPort) (d : Fin 68) (tc : Tc) (f h k : Nat),
    s.zwlUp z = true →
    f = 8 * d.val + tc.val →
    (s.zwl z).sinceAck ≠ 0 →
    (s.zwl z).holes = [(h, k)] →
    k < 15 →
    Tab.get 0 (s.zwl z).queued f ≠ Tab.get 0 (s.zwl z).granted f →
    Tab.get 0 (s.zwl z).wanted f ≠ Tab.get 0 (s.zwl z).gave f →
    (∃ t, exec (.zwlAckTimer z) s = .next t ∧ (t.zwl z).sinceAck = 0 ∧ t.out = .zwl z 0x01 (sub24 (s.zwl z).next 1) 0 :: s.out ∧ (∀ y, y ≠ z.val → t.zwl y = s.zwl y) ∧ { t with ll := s.ll, out := s.out } = s) ∧
    (∃ t, exec (.zwlNakRepeat z) s = .next t ∧ (t.zwl z).holes = [(h, k + 1)] ∧ t.out = .zwl z 0x02 h (k + 1) :: s.out ∧ (∀ y, y ≠ z.val → t.zwl y = s.zwl y) ∧ { t with ll := s.ll, out := s.out } = s) ∧
    (∃ t, exec (.zwlReqRepeat z d tc) s = .next t ∧ t.out = .zwl z 0x03 f (Tab.get 0 (s.zwl z).queued f) :: s.out ∧ (∀ y, y ≠ z.val → t.zwl y = s.zwl y) ∧ { t with ll := s.ll, out := s.out } = s) ∧
    (∃ t, exec (.zwlGrantRepeat z d tc) s = .next t ∧ t.out = .zwl z 0x04 f (Tab.get 0 (t.zwl z).gave f) :: s.out ∧ (∀ y, y ≠ z.val → t.zwl y = s.zwl y) ∧ { t with ll := s.ll, out := s.out } = s)) ∧
  (∀ (s : State) (z : ZPort) (d : Fin 68) (tc : Tc),
    ((s.zwl z).sinceAck = 0 → exec (.zwlAckTimer z) s = .next s) ∧ ((s.zwl z).holes = [] → exec (.zwlNakRepeat z) s = .next s) ∧
    (Tab.get 0 (s.zwl z).queued (8 * d.val + tc.val) = Tab.get 0 (s.zwl z).granted (8 * d.val + tc.val) → exec (.zwlReqRepeat z d tc) s = .next s) ∧
    (Tab.get 0 (s.zwl z).wanted (8 * d.val + tc.val) = Tab.get 0 (s.zwl z).gave (8 * d.val + tc.val) → exec (.zwlGrantRepeat z d tc) s = .next s)) ∧
  (∀ (s : State) (z : ZPort) (d : Fin 68) (tc : Tc) (n : BitVec 16) (num : BitVec 24) (u : WireUnit) (x : UnitPlace) (k : Fin 16) (i : BitVec 6) (turn : BitVec 32) (l : Fin 8),
    s.zwlUp z = false →
    exec (.flowUnitReceive z x u) s = .next s ∧ exec (.zwlNak z num k) s = .next s ∧ exec (.zwlReq z d tc n) s = .next s ∧ exec (.zwlGrant z d tc n) s = .next s ∧
    exec (.zwlTimeRequest z i turn) s = .next s ∧ exec (.swapReq z l) s = .next s ∧ exec (.zwlAckTimer z) s = .next s ∧ exec (.zwlNakRepeat z) s = .next s ∧
    exec (.zwlReqRepeat z d tc) s = .next s ∧ exec (.zwlGrantRepeat z d tc) s = .next s) ∧
  (∀ (s : State) (z : ZPort),
    s.rgn (z.val / 2) ≠ 2 →
    ∃ t, exec (.zwlCtrlDiscard z) s = .next t ∧ t.get ZWL_ERR.CTRL_BAD z = satAdd ZWL_ERR.CTRL_BAD.w (s.get ZWL_ERR.CTRL_BAD z) 1 ∧
      t.stsBit (zwlSet z) 1 ∧ t.quiet = s.quiet)

/-- ZWL_TIME_EXCHANGE under SRC ZL sends a request with the next ID and keeps T1, and otherwise sends nothing; ZWL_TIME_REQUEST is answered with this unit's time and TURN; the first ZWL_TIME_RESPONSE to the open request steps every region's time by the measured offset, and one to no open request changes nothing. SWAP_REQ duplicates the lane and answers, SWAP_ACK shows the spare in use, SWAP_DONE ends the duplication, and SWAP_ACK_TIMEOUT sends the request once more and then takes the link down; with no swap of that lane under way each of the last three changes nothing. -/
def Obligations.ZwiusTimeAndSpare : Prop :=
  (∀ (s : State) (z : ZPort) (i : Nat),
    s.get TFC_TIME_CTL.SRC 0 = 2 →
    s.otherTimeLink = some z.val →
    i = (match (s.zwl z).t1 with | some (_, i) => (i + 1) % 64 | none => 0) →
    ∃ t, exec .zwlTimeExchange s = .next t ∧ (t.zwl z).t1 = some (s.timeOf (z / 2), i) ∧ t.out = .zwl z 0x05 (4 * i) 0 :: s.out ∧ (∀ y, y ≠ z.val → t.zwl y = s.zwl y) ∧ { t with ll := s.ll, out := s.out } = s) ∧
  (∀ (s : State),
    s.get TFC_TIME_CTL.SRC 0 ≠ 2 ∨ s.otherTimeLink = none →
    exec .zwlTimeExchange s = .next s) ∧
  (∀ (s : State) (z : ZPort) (i : BitVec 6) (turn : BitVec 32),
    s.zwlUp z = true →
    ∃ t, exec (.zwlTimeRequest z i turn) s = .next t ∧ t.out = .zwl z 0x05 (1 + 4 * i.toNat) (s.timeOf (z / 2) % 2 ^ 64 + 2 ^ 64 * turn.toNat) :: s.out ∧ (∀ y, y ≠ z.val → t.zwl y = s.zwl y) ∧ { t with ll := s.ll, out := s.out } = s) ∧
  (∀ (s : State) (z : ZPort) (i : BitVec 6) (t3 : BitVec 64) (turn : BitVec 32) (t1 : Nat),
    (s.zwl z).t1 = some (t1, i.toNat) →
    s.get TFC_TIME_CTL.SRC 0 = 2 →
    s.tfc.first = false →
    ∃ t, exec (.zwlTimeResponse z i t3 turn) s = .next t ∧ (t.zwl z).t1 = none ∧ t.tfc.first = true ∧
      (∀ r < 4, (t.timeOf r : Int) = ((s.timeOf 0 : Nat) + ((t3.toNat : Nat) + (((s.timeOf (z / 2) : Nat) - (t1 : Nat) : Int) - (turn.toNat : Nat)) / 2 - (s.timeOf (z / 2) : Nat))) % 2 ^ 64)) ∧
  (∀ (s : State) (z : ZPort) (i : BitVec 6) (t3 : BitVec 64) (turn : BitVec 32),
    (s.zwl z).t1.all (fun e => e.2 != i.toNat) = true ∨ s.get TFC_TIME_CTL.SRC 0 ≠ 2 →
    exec (.zwlTimeResponse z i t3 turn) s = .next s) ∧
  (∀ (s : State) (z : ZPort) (k : Fin 8),
    s.zwlUp z = true →
    ∃ t, exec (.swapReq z k) s = .next t ∧ Tab.get none t.prt.dup (zPort z) = some k.val ∧
      t.out = .zwl z 0x06 2 (k + 16 * s.get ZWL_STS.TX_SEQ z) :: .lane (zPort z) 6 k :: s.out ∧ (∀ y, y ≠ z.val → t.zwl y = s.zwl y) ∧ { t with prt := s.prt, ll := s.ll, out := s.out } = s) ∧
  (∀ (s : State) (z : ZPort) (k : Fin 8) (num : BitVec 24),
    Tab.get none s.prt.swap (zPort z) = some ⟨k.val, 1, none, 0⟩ →
    (∃ t, exec (.swapAck z k num) s = .next t ∧ Tab.get none t.prt.swap (zPort z) = some ⟨k.val, 1, some num.toNat, 0⟩ ∧ t.get PRT_PORT_STS.SPARE_USED (zPort z) = 1 ∧
      t.get ZWL_STS.SWAP_LANE z = k.val ∧ { t.quiet with prt := s.prt } = s.quiet) ∧
    (∃ t, exec (.swapAckTimeout z) s = .next t ∧ Tab.get none t.prt.swap (zPort z) = some ⟨k.val, 2, none, 0⟩ ∧ t.out = .zwl z 0x06 1 k :: s.out ∧
      (∀ y, y ≠ z.val → t.zwl y = s.zwl y) ∧ { t with prt := s.prt, ll := s.ll, out := s.out } = s)) ∧
  (∀ (s : State) (z : ZPort) (k : Fin 8),
    Tab.get none s.prt.swap (zPort z) = some ⟨k.val, 2, none, 0⟩ →
    s.role (zPort z) = 3 →
    s.inService (zPort z) = true →
    s.flag PRT_PORT_STS.GANGED (zPort z) = false →
    s.rgn (z.val / 2) ≠ 2 →
    ∃ t, exec (.swapAckTimeout z) s = .next t ∧ t.get PRT_PORT_STS.STATE (zPort z) = 1 ∧ t.stsBit (zwlSet z) 2) ∧
  (∀ (s : State) (z : ZPort) (k : Fin 8) (num : BitVec 24),
    Tab.get none s.prt.swap (zPort z) = none →
    exec (.swapAck z k num) s = .next s ∧ exec (.swapAckTimeout z) s = .next s) ∧
  (∀ (s : State) (z : ZPort) (k : Fin 8),
    (Tab.get none s.prt.dup (zPort z) = some k.val → ∃ t, exec (.swapDone z k) s = .next t ∧ Tab.get none t.prt.dup (zPort z) = none ∧ t.out = .lane (zPort z) 6 (16 + k) :: s.out ∧ { t with prt := s.prt, out := s.out } = s) ∧
    (Tab.get none s.prt.dup (zPort z) ≠ some k.val → exec (.swapDone z k) s = .next s))

/-- For a cached context of the region: CTX_READ loads the sixteen data words; CTX_CREATE of an accepted staged context stores it with its live fields zero, VALID set and ARMED from IRQ_EN; CTX_MODIFY changes the fields that it may and no other; CTX_DESTROY clears VALID; each leaves every byte outside the context alone and ends with RESULT 0 and BUSY 0. A CREATE, MODIFY or DESTROY that a check refuses ends with its RESULT and changes no context. While BUSY, a command stores QID and OP and is discarded; for a queue ID of another region it ends with WRONG_REGION. A command for a context that is not cached is counted as a miss, is BUSY and waits. CTX_CACHE_FILL caches the context and performs what waited; with a corrected error it raises QMG_CTX_ECC_CORRECTED, with an uncorrectable one a context that no carrel owns is set VALID 0, with a tag parity error it raises QMG_CACHE_TAG_PARITY, and with no fill in flight it changes nothing. A write of a register of the group that reaches it stores the fields and does what the written bits start: the same as the command. Given by a path that may not write its register, a command is counted as a discard and does nothing else; in the window of an isolated region, or through the manager port before ready, it does nothing. -/
def Obligations.QueueContexts : Prop :=
  (∀ (s : State) (p : Path) (r : Region) (q : Qid),
    s.admits p (qmgSet r) →
    s.flag QMG_CTX_CMD.BUSY r = false →
    qidRegion q.toNat = r.val →
    s.cached q.toNat = true →
    ∃ t, exec (.ctxRead p r q) s = .next t ∧ (∀ k < 16, t.word .QMG_CTX_D (16 * r.val + k) = BitVec.ofNat 32 (bits (s.ctx q.toNat) (32 * k) 32)) ∧
      t.get QMG_CTX_CMD.RESULT r = 0 ∧ t.get QMG_CTX_CMD.BUSY r = 0 ∧ t.hbm = s.hbm ∧ wordsKept s t [.QMG_CTX_CMD, .QMG_CTX_D] ∧
      { t with regs := s.regs, qmg := s.qmg } = s) ∧
  (∀ (s : State) (p : Path) (r : Region) (q : Qid),
    s.admits p (qmgSet r) →
    s.flag QMG_CTX_CMD.BUSY r = false →
    qidRegion q.toNat = r.val →
    s.cached q.toNat = true →
    s.createResult q.toNat (ctxStaged s r) = 0 →
    ∃ t, exec (.ctxCreate p r q) s = .next t ∧ t.ctx q.toNat = ctxMade (ctxStaged s r) ∧ t.get QMG_CTX_CMD.RESULT r = 0 ∧ t.get QMG_CTX_CMD.BUSY r = 0 ∧
      t.word .QMG_WIN_STS q.toNat = resetWord .QMG_WIN_STS q.toNat ∧ wordsKept s t [.QMG_CTX_CMD, .QMG_CACHE_STS, .QMG_WIN_STS] ∧ hbmKept s t (ctxAt q.toNat) 64 ∧ { t with regs := s.regs, hbm := s.hbm, qmg := s.qmg } = s) ∧
  (∀ (s : State) (p : Path) (r : Region) (q : Qid),
    s.admits p (qmgSet r) →
    s.flag QMG_CTX_CMD.BUSY r = false →
    qidRegion q.toNat = r.val →
    s.cached q.toNat = true →
    s.modifyResult q.toNat (ctxStaged s r) = 0 →
    ∃ t, exec (.ctxModify p r q) s = .next t ∧ (∀ f ∈ ctxMay, cget (t.ctx q.toNat) f = cget (ctxStaged s r) f) ∧
      (∀ f ∈ ctxFixed ++ ctxLive, cget (t.ctx q.toNat) f = cget (s.ctx q.toNat) f) ∧ t.get QMG_CTX_CMD.RESULT r = 0 ∧
      t.get QMG_CTX_CMD.BUSY r = 0 ∧ wordsKept s t [.QMG_CTX_CMD, .QMG_CACHE_STS] ∧ hbmKept s t (ctxAt q.toNat) 64 ∧ { t with regs := s.regs, hbm := s.hbm, qmg := s.qmg } = s) ∧
  (∀ (s : State) (p : Path) (r : Region) (q : Qid),
    s.admits p (qmgSet r) →
    s.flag QMG_CTX_CMD.BUSY r = false →
    qidRegion q.toNat = r.val →
    s.cached q.toNat = true →
    cget (s.ctx q.toNat) cValid = 1 →
    ∃ t, exec (.ctxDestroy p r q) s = .next t ∧ t.ctx q.toNat = cput (s.ctx q.toNat) cValid 0 ∧ t.get QMG_CTX_CMD.RESULT r = 0 ∧
      t.get QMG_CTX_CMD.BUSY r = 0 ∧ wordsKept s t [.QMG_CTX_CMD, .QMG_CACHE_STS] ∧ hbmKept s t (ctxAt q.toNat) 64 ∧ { t with regs := s.regs, hbm := s.hbm, qmg := s.qmg } = s) ∧
  (∀ (s : State) (p : Path) (r : Region) (q : Qid),
    s.admits p (qmgSet r) →
    s.flag QMG_CTX_CMD.BUSY r = false →
    qidRegion q.toNat = r.val →
    s.cached q.toNat = true →
    (s.createResult q.toNat (ctxStaged s r) ≠ 0 → ∃ t, exec (.ctxCreate p r q) s = .next t ∧ t.get QMG_CTX_CMD.RESULT r = s.createResult q.toNat (ctxStaged s r) ∧ t.get QMG_CTX_CMD.BUSY r = 0 ∧ t.qmg = (s.useCtx q.toNat).qmg ∧ wordsKept s t [.QMG_CTX_CMD] ∧ { t with regs := s.regs, qmg := s.qmg } = s) ∧
    (s.modifyResult q.toNat (ctxStaged s r) ≠ 0 → ∃ t, exec (.ctxModify p r q) s = .next t ∧ t.get QMG_CTX_CMD.RESULT r = s.modifyResult q.toNat (ctxStaged s r) ∧ t.get QMG_CTX_CMD.BUSY r = 0 ∧ t.qmg = (s.useCtx q.toNat).qmg ∧ wordsKept s t [.QMG_CTX_CMD] ∧ { t with regs := s.regs, qmg := s.qmg } = s) ∧
    (cget (s.ctx q.toNat) cValid = 0 → ∃ t, exec (.ctxDestroy p r q) s = .next t ∧ t.get QMG_CTX_CMD.RESULT r = 3 ∧ t.get QMG_CTX_CMD.BUSY r = 0 ∧ t.qmg = (s.useCtx q.toNat).qmg ∧ wordsKept s t [.QMG_CTX_CMD] ∧ { t with regs := s.regs, qmg := s.qmg } = s)) ∧
  (∀ (s : State) (p : Path) (r : Region) (q : Qid),
    s.admits p (qmgSet r) →
    s.flag QMG_CTX_CMD.BUSY r = true →
    exec (.ctxRead p r q) s = .next (((s.set QMG_CTX_CMD.QID r q.toNat).set QMG_CTX_CMD.OP r 0).discard (qmgSet r)) ∧
    exec (.ctxCreate p r q) s = .next (((s.set QMG_CTX_CMD.QID r q.toNat).set QMG_CTX_CMD.OP r 1).discard (qmgSet r)) ∧
    exec (.ctxModify p r q) s = .next (((s.set QMG_CTX_CMD.QID r q.toNat).set QMG_CTX_CMD.OP r 2).discard (qmgSet r)) ∧
    exec (.ctxDestroy p r q) s = .next (((s.set QMG_CTX_CMD.QID r q.toNat).set QMG_CTX_CMD.OP r 3).discard (qmgSet r))) ∧
  (∀ (s : State) (p : Path) (r : Region) (q : Qid),
    s.admits p (qmgSet r) →
    s.flag QMG_CTX_CMD.BUSY r = false →
    qidRegion q.toNat ≠ r.val →
    exec (.ctxRead p r q) s = .next (((s.set QMG_CTX_CMD.QID r q.toNat).set QMG_CTX_CMD.OP r 0).set QMG_CTX_CMD.RESULT r 1) ∧
    exec (.ctxCreate p r q) s = .next (((s.set QMG_CTX_CMD.QID r q.toNat).set QMG_CTX_CMD.OP r 1).set QMG_CTX_CMD.RESULT r 1) ∧
    exec (.ctxModify p r q) s = .next (((s.set QMG_CTX_CMD.QID r q.toNat).set QMG_CTX_CMD.OP r 2).set QMG_CTX_CMD.RESULT r 1) ∧
    exec (.ctxDestroy p r q) s = .next (((s.set QMG_CTX_CMD.QID r q.toNat).set QMG_CTX_CMD.OP r 3).set QMG_CTX_CMD.RESULT r 1)) ∧
  (∀ (s : State) (p : Path) (r : Region) (q : Qid),
    s.admits p (qmgSet r) →
    s.flag QMG_CTX_CMD.BUSY r = false →
    qidRegion q.toNat = r.val →
    s.cached q.toNat = false →
    (∃ t, exec (.ctxRead p r q) s = .next t ∧ t.get QMG_CTX_CMD.BUSY r = 1 ∧ t.get QMG_CTX_CMD.OP r = 0 ∧ t.get QMG_CTX_CMD.QID r = q.toNat ∧
      t.qmg.fills.any (fun f => f.1 == q.toNat && f.2.contains (.cmd r q.toNat 0 (ctxStaged s r))) = true ∧
      t.get QMG_CACHE_STS.MISSES r = satAdd QMG_CACHE_STS.MISSES.w (s.get QMG_CACHE_STS.MISSES r) 1 ∧
      wordsAt s t [(.QMG_CTX_CMD, r), (.QMG_CACHE_STS, r)] ∧ { t with regs := s.regs, qmg := s.qmg, arc := s.arc } = s) ∧
    (∃ t, exec (.ctxCreate p r q) s = .next t ∧ t.get QMG_CTX_CMD.BUSY r = 1 ∧ t.get QMG_CTX_CMD.OP r = 1 ∧ t.get QMG_CTX_CMD.QID r = q.toNat ∧
      t.qmg.fills.any (fun f => f.1 == q.toNat && f.2.contains (.cmd r q.toNat 1 (ctxStaged s r))) = true ∧
      t.get QMG_CACHE_STS.MISSES r = satAdd QMG_CACHE_STS.MISSES.w (s.get QMG_CACHE_STS.MISSES r) 1 ∧
      wordsAt s t [(.QMG_CTX_CMD, r), (.QMG_CACHE_STS, r)] ∧ { t with regs := s.regs, qmg := s.qmg, arc := s.arc } = s) ∧
    (∃ t, exec (.ctxModify p r q) s = .next t ∧ t.get QMG_CTX_CMD.BUSY r = 1 ∧ t.get QMG_CTX_CMD.OP r = 2 ∧ t.get QMG_CTX_CMD.QID r = q.toNat ∧
      t.qmg.fills.any (fun f => f.1 == q.toNat && f.2.contains (.cmd r q.toNat 2 (ctxStaged s r))) = true ∧
      t.get QMG_CACHE_STS.MISSES r = satAdd QMG_CACHE_STS.MISSES.w (s.get QMG_CACHE_STS.MISSES r) 1 ∧
      wordsAt s t [(.QMG_CTX_CMD, r), (.QMG_CACHE_STS, r)] ∧ { t with regs := s.regs, qmg := s.qmg, arc := s.arc } = s) ∧
    (∃ t, exec (.ctxDestroy p r q) s = .next t ∧ t.get QMG_CTX_CMD.BUSY r = 1 ∧ t.get QMG_CTX_CMD.OP r = 3 ∧ t.get QMG_CTX_CMD.QID r = q.toNat ∧
      t.qmg.fills.any (fun f => f.1 == q.toNat && f.2.contains (.cmd r q.toNat 3 (ctxStaged s r))) = true ∧
      t.get QMG_CACHE_STS.MISSES r = satAdd QMG_CACHE_STS.MISSES.w (s.get QMG_CACHE_STS.MISSES r) 1 ∧
      wordsAt s t [(.QMG_CTX_CMD, r), (.QMG_CACHE_STS, r)] ∧ { t with regs := s.regs, qmg := s.qmg, arc := s.arc } = s)) ∧
  (∀ (s : State) (q : Qid),
    s.qmg.fills = [(q.toNat, [.cmd (qidRegion q.toNat) q.toNat 0 0])] →
    ∃ t, exec (.ctxCacheFill ⟨q, .good, false⟩) s = .next t ∧ t.cached q.toNat = true ∧ t.qmg.fills = [] ∧ t.get QMG_CTX_CMD.BUSY (qidRegion q.toNat) = 0 ∧
      (∀ k < 16, t.word .QMG_CTX_D (16 * qidRegion q.toNat + k) = BitVec.ofNat 32 (bits (s.ctx q.toNat) (32 * k) 32)) ∧
      { t with regs := s.regs, qmg := s.qmg, arc := s.arc } = s) ∧
  (∀ (s : State) (q : Qid) (idx : Nat),
    s.qmg.fills = [(q.toNat, [.door q.toNat idx true false none 0])] →
    isRing (s.ctx q.toNat) = true →
    cget (s.ctx q.toNat) cUse ≠ 0 →
    sub32 idx (cget (s.ctx q.toNat) cCons) ≤ ctxOcc (s.ctx q.toNat) →
    s.dmv.chan = [] →
    ∃ t, exec (.ctxCacheFill ⟨q, .good, false⟩) s = .next t ∧ t.cached q.toNat = true ∧ t.qmg.fills = [] ∧ t.ctx q.toNat = cput (s.ctx q.toNat) cCons idx ∧
      hbmKept s t (ctxAt q.toNat) 64 ∧ wordsAt s t [] ∧ { t with regs := s.regs, qmg := s.qmg, arc := s.arc, hbm := s.hbm } = s) ∧
  (∀ (s : State) (q : Qid) (f : ColRead) (b : Bool),
    s.qmg.fills.any (fun f => f.1 == q.toNat) = false →
    exec (.ctxCacheFill ⟨q, f, b⟩) s = .next s) ∧
  (∀ (s : State) (q : Qid) (n : Nat) (v : BitVec 512) (f : ColRead),
    s.qmg.fills = [(q.toNat, [.cmd (qidRegion q.toNat) q.toNat n v])] →
    s.rgn (qidRegion q.toNat) ≠ 2 →
    exec (.ctxCacheFill ⟨q, f, true⟩) s = .next (s.record (regionOcc (qidRegion q.toNat) (qmgSet (qidRegion q.toNat)) 6)) ∧
    (∃ t, exec (.ctxCacheFill ⟨q, .corrected, false⟩) s = .next t ∧ t.cached q.toNat = true ∧ t.qmg.fills = [] ∧ t.stsBit (qmgSet (qidRegion q.toNat)) 0 ∧
      t.get QMG_CTX_CMD.BUSY (qidRegion q.toNat) = 0)) ∧
  (∀ (s : State) (q : Qid),
    s.qmg.fills = [(q.toNat, [.cmd (qidRegion q.toNat) q.toNat 0 0])] →
    s.rgn (qidRegion q.toNat) ≠ 2 →
    cget (s.ctx q.toNat) cOwner ≠ 2 →
    ∃ t, exec (.ctxCacheFill ⟨q, .uncorrectable, false⟩) s = .next t ∧ t.cached q.toNat = true ∧ t.qmg.fills = [] ∧ t.stsBit (qmgSet (qidRegion q.toNat)) 1 ∧
      (cget (s.ctx q.toNat) cValid = 1 → t.ctx q.toNat = cput (s.ctx q.toNat) cValid 0) ∧ (cget (s.ctx q.toNat) cValid = 0 → t.hbm = s.hbm)) ∧
  (∀ (s : State) (p : Path) (a : BitVec 32) (d : BitVec 64) (i : Nat) (r : Region),
    s.writeReaches p a (.reg .QMG_CTX_CMD i) →
    r.val = i →
    exec (.registerWrite p a d 4) s = if d.getLsbD 24 then (if s.flag QMG_CTX_CMD.BUSY i then .next (if (s.stored .QMG_CTX_CMD i d a).cesSet (regSet s .QMG_CTX_CMD i a.toNat) = s.cesSet (regSet s .QMG_CTX_CMD i a.toNat) then (s.stored .QMG_CTX_CMD i d a).discard (regSet s .QMG_CTX_CMD i a.toNat) else (s.stored .QMG_CTX_CMD i d a))
      else if (bits (d.setWidth 32) 20 2) = 0 then exec (.ctxRead p (ixRegion i) (BitVec.ofNat 20 (bits (d.setWidth 32) 0 20))) (s.stored .QMG_CTX_CMD i d a) else if (bits (d.setWidth 32) 20 2) = 1 then exec (.ctxCreate p (ixRegion i) (BitVec.ofNat 20 (bits (d.setWidth 32) 0 20))) (s.stored .QMG_CTX_CMD i d a) else if (bits (d.setWidth 32) 20 2) = 2 then exec (.ctxModify p (ixRegion i) (BitVec.ofNat 20 (bits (d.setWidth 32) 0 20))) (s.stored .QMG_CTX_CMD i d a) else exec (.ctxDestroy p (ixRegion i) (BitVec.ofNat 20 (bits (d.setWidth 32) 0 20))) (s.stored .QMG_CTX_CMD i d a)) else .next (s.stored .QMG_CTX_CMD i d a)) ∧
  (∀ (s : State) (p : Path) (a : BitVec 32) (d : BitVec 64) (i : Nat),
    s.writeReaches p a (.reg .QMG_ERR_CAP i) →
    exec (.registerWrite p a d 4) s = .next (if d.getLsbD 31 then (s.stored .QMG_ERR_CAP i d a).set QMG_ERR_CAP.COUNT i 0 else (s.stored .QMG_ERR_CAP i d a))) ∧
  (∀ (s : State) (p : Path) (r : Region) (q : Qid),
    s.mayWrite p = false →
    exec (.ctxRead p r q) s = .next (if s.windowGone (setUnit (qmgSet r)) || s.unheard p then s else s.discard (qmgSet r)) ∧
    exec (.ctxCreate p r q) s = .next (if s.windowGone (setUnit (qmgSet r)) || s.unheard p then s else s.discard (qmgSet r)) ∧
    exec (.ctxModify p r q) s = .next (if s.windowGone (setUnit (qmgSet r)) || s.unheard p then s else s.discard (qmgSet r)) ∧
    exec (.ctxDestroy p r q) s = .next (if s.windowGone (setUnit (qmgSet r)) || s.unheard p then s else s.discard (qmgSet r)))

/-- By any of the three ways: a PRODUCER_DOORBELL of a SUBMIT ring within its capacity sets PROD and the time and nothing else of the context; beyond it, it counts in DROPS with QMG_RING_OVF; a CONSUMER_DOORBELL of another ring up to its occupancy sets CONS, and with ARM arms the ring, or interrupts at once where it is not empty. Any other doorbell, one of another size or with a bit of [63:34], and one of an isolated region change no context and raise QMG_DB_BAD; one of a context that is not cached waits for its fill; before ready those of a port are dropped. INDEX_WORD_WRITE of a due SUBMIT ring writes CONS, of another PROD, to the 8 bytes after its body; of a ring that is not due it changes nothing. SLIP_DELIVER of a member of the ring's slip group puts the slip in the ring, in HBM or at the host; to a full ring it counts in DROPS too; a refused slip only counts in its sending carrel, where that is of this unit; one for a context that is not cached waits. A write of a register of the group that reaches it stores the fields and does what the written bits start: the same as the command. -/
def Obligations.DoorbellsAndSlips : Prop :=
  (∀ (s : State) (via : DoorVia) (q : Nat) (k : Option Nat) (b : Doorbell) (c : BitVec 512),
    s.doorComes via q k = true →
    q < 2 ^ 20 →
    s.rgn (qidRegion q) ≠ 2 →
    s.cached q = true →
    b.size = 8 →
    b.extra = false →
    c = s.ctx q →
    doorMay c false k = true →
    ctxOcc c ≤ sub32 b.index.toNat (cget c cCons) →
    sub32 b.index.toNat (cget c cCons) ≤ ctxCap c →
    ∃ t, exec (.producerDoorbell via b) s = .next t ∧ t.ctx q = cput (cput c cProd b.index.toNat) cLastTime (s.timeOf (qidRegion q)) ∧ hbmKept s t (ctxAt q) 64 ∧ { t with hbm := s.hbm, qmg := s.qmg } = s) ∧
  (∀ (s : State) (via : DoorVia) (q : Nat) (k : Option Nat) (b : Doorbell) (c : BitVec 512),
    s.doorComes via q k = true →
    q < 2 ^ 20 →
    s.rgn (qidRegion q) ≠ 2 →
    s.cached q = true →
    b.size = 8 →
    b.extra = false →
    c = s.ctx q →
    doorMay c false k = true →
    sub32 b.index.toNat (cget c cProd) < 2 ^ 31 →
    sub32 b.index.toNat (cget c cCons) > ctxCap c →
    ∃ t, exec (.producerDoorbell via b) s = .next t ∧ t.ctx q = cbump c cDrops 1 ∧ t.stsBit (qmgSet (qidRegion q)) 3 ∧ hbmKept s t (ctxAt q) 64 ∧
      (∀ n, k = some n → s.counted t n 8) ∧ (k = none → t.dmv = s.dmv)) ∧
  (∀ (s : State) (via : DoorVia) (q : Nat) (k : Option Nat) (b : Doorbell) (c : BitVec 512),
    s.doorComes via q k = true →
    q < 2 ^ 20 →
    s.rgn (qidRegion q) ≠ 2 →
    s.cached q = true →
    b.size = 8 →
    b.extra = false →
    c = s.ctx q →
    doorMay c true k = true →
    sub32 b.index.toNat (cget c cCons) ≤ ctxOcc c →
    s.dmv.chan = [] →
    (b.arm = false → ∃ t, exec (.consumerDoorbell via b) s = .next t ∧ t.ctx q = cput c cCons b.index.toNat ∧ hbmKept s t (ctxAt q) 64 ∧ { t with hbm := s.hbm, qmg := s.qmg } = s) ∧
    (b.arm = true → (cget c cIrqEn = 0 ∨ cget c cProd = b.index.toNat) → ∃ t, exec (.consumerDoorbell via b) s = .next t ∧
      t.ctx q = cput (cput c cCons b.index.toNat) cArmed 1 ∧ hbmKept s t (ctxAt q) 64 ∧ { t with hbm := s.hbm, qmg := s.qmg } = s) ∧
    (b.arm = true → cget c cIrqEn = 1 → cget c cProd ≠ b.index.toNat → s.qmg.index.contains q = false → ∃ t, exec (.consumerDoorbell via b) s = .next t ∧
      t.ctx q = cput (cput c cCons b.index.toNat) cArmed 0 ∧ t.out = (s.ownerIrq q c).out ∧ hbmKept s t (ctxAt q) 64 ∧
      { t with hbm := s.hbm, qmg := s.qmg, out := s.out } = s)) ∧
  (∀ (s : State) (via : DoorVia) (q : Nat) (k : Option Nat) (b : Doorbell) (c : BitVec 512),
    s.doorComes via q k = true →
    q < 2 ^ 20 →
    s.rgn (qidRegion q) ≠ 2 →
    s.cached q = true →
    b.size = 8 →
    b.extra = false →
    c = s.ctx q →
    (doorMay c false k = false → ∃ t, exec (.producerDoorbell via b) s = .next t ∧ t.hbm = s.hbm ∧ t.dmv = s.dmv ∧ t.stsBit (qmgSet (qidRegion q)) 2) ∧
    (doorMay c true k = false → ∃ t, exec (.consumerDoorbell via b) s = .next t ∧ t.hbm = s.hbm ∧ t.dmv = s.dmv ∧ t.stsBit (qmgSet (qidRegion q)) 2) ∧
    (doorMay c false k = true → sub32 b.index.toNat (cget c cCons) < ctxOcc c → 2 ^ 31 ≤ sub32 b.index.toNat (cget c cProd) →
      ∃ t, exec (.producerDoorbell via b) s = .next t ∧ t.hbm = s.hbm ∧ t.stsBit (qmgSet (qidRegion q)) 2 ∧ (∀ n, k = some n → s.counted t n 8) ∧ (k = none → t.dmv = s.dmv)) ∧
    (doorMay c true k = true → ctxOcc c < sub32 b.index.toNat (cget c cCons) →
      ∃ t, exec (.consumerDoorbell via b) s = .next t ∧ t.hbm = s.hbm ∧ t.stsBit (qmgSet (qidRegion q)) 2 ∧ (∀ n, k = some n → s.counted t n 8) ∧ (k = none → t.dmv = s.dmv))) ∧
  (∀ (s : State) (via : DoorVia) (q : Nat) (k : Option Nat) (b : Doorbell),
    s.doorComes via q k = true →
    q < 2 ^ 20 →
    s.rgn (qidRegion q) ≠ 2 →
    (b.size ≠ 8 ∨ b.extra = true → (∃ t, exec (.producerDoorbell via b) s = .next t ∧ t.hbm = s.hbm ∧ t.qmg = s.qmg ∧ t.stsBit (qmgSet (qidRegion q)) 2) ∧
      ∃ t, exec (.consumerDoorbell via b) s = .next t ∧ t.hbm = s.hbm ∧ t.qmg = s.qmg ∧ t.stsBit (qmgSet (qidRegion q)) 2) ∧
    (b.size = 8 → b.extra = false → s.cached q = false → (∃ t, exec (.producerDoorbell via b) s = .next t ∧ t.hbm = s.hbm ∧
        t.qmg.fills.any (fun f => f.1 == q && f.2.any (fun o => match o with | .door x i n a y _ => x == q && i == b.index.toNat && !n && a == b.arm && y == k | _ => false)) = true) ∧
      ∃ t, exec (.consumerDoorbell via b) s = .next t ∧ t.hbm = s.hbm ∧
        t.qmg.fills.any (fun f => f.1 == q && f.2.any (fun o => match o with | .door x i n a y _ => x == q && i == b.index.toNat && n && a == b.arm && y == k | _ => false)) = true)) ∧
  (∀ (s : State) (via : DoorVia) (q : Nat) (k : Option Nat) (b : Doorbell),
    s.doorComes via q k = true →
    s.rgn (qidRegion q) = 2 →
    (∃ t, exec (.producerDoorbell via b) s = .next t ∧ t.hbm = s.hbm ∧ t.qmg = s.qmg) ∧ ∃ t, exec (.consumerDoorbell via b) s = .next t ∧ t.hbm = s.hbm ∧ t.qmg = s.qmg) ∧
  (∀ (s : State) (b : Doorbell) (q : Qid) (r : Region) (p : Port) (a : Option (BitVec 20)) (k : Carrel) (x : Fin 64),
    (s.flag SEC_BOOT_STS.READY 0 = false → exec (.producerDoorbell (.endpoint q) b) s = .next s ∧ exec (.consumerDoorbell (.endpoint q) b) s = .next s ∧
      exec (.producerDoorbell (.slot p a k x) b) s = .next s ∧ exec (.consumerDoorbell (.slot p a k x) b) s = .next s) ∧
    (s.windowGone r = true → exec (.producerDoorbell (.librarian r q) b) s = .next s ∧ exec (.consumerDoorbell (.librarian r q) b) s = .next s) ∧
    (s.flag SEC_BOOT_STS.READY 0 = true → s.slotTakes p a k.toNat x = false →
      (∃ t, exec (.producerDoorbell (.slot p a k x) b) s = .next t ∧ t.hbm = s.hbm ∧ t.qmg = s.qmg ∧ s.counted t k.toNat 8) ∧
      ∃ t, exec (.consumerDoorbell (.slot p a k x) b) s = .next t ∧ t.hbm = s.hbm ∧ t.qmg = s.qmg ∧ s.counted t k.toNat 8)) ∧
  (∀ (s : State) (q : Qid) (c : BitVec 512),
    c = s.ctx q.toNat →
    (s.qmg.index.contains q.toNat = false → exec (.indexWordWrite q) s = .next s) ∧
    (s.qmg.index.contains q.toNat = true → ∃ t, exec (.indexWordWrite q) s = .next t ∧ t.qmg.index = s.qmg.index.filter (fun x => x != q.toNat) ∧
      (isRing c = true → cget c cLoc = 1 → t.out = .hostWrite (cget c cPort) (cget c cPasid) (cget c cBase + ctxCap c * ctxSize c)
        ((List.range 8).map (fun k => BitVec.ofNat 8 ((if cget c cUse = 0 then cget c cCons else cget c cProd) / 256 ^ k))) :: s.out) ∧
      (isRing c = false ∨ cget c cLoc = 0 → t.out = s.out) ∧ { t.qmg with index := s.qmg.index } = s.qmg ∧ { t with out := s.out, qmg := s.qmg } = s)) ∧
  (∀ (s : State) (q : Qid) (k : Carrel) (sp : Port) (u : Fin 4) (tag : Word) (d : List Byte) (b : Bool) (c : BitVec 512),
    c = s.ctx q.toNat →
    d.length ≤ 240 →
    s.rgn (qidRegion q.toNat) ≠ 2 →
    s.cached q.toNat = true →
    isRing c = true →
    cget c cUse = 2 →
    s.inGroup (qidRegion q.toNat) (cget c cSlipGrp) (64 * u.val + sp.val) = true →
    d.length + 16 ≤ ctxSize c →
    cget c cLoc = 0 →
    cget c cOwner ≠ 2 →
    cget c cIrqEn = 0 ∨ cget c cArmed = 0 →
    ctxOcc c < ctxCap c →
    cget c cBase + ctxCap c * ctxSize c ≤ 0x3F800000 →
    ∃ t, exec (.slipDeliver q k sp u tag d b) s = .next t ∧ cget (t.ctx q.toNat) cProd = (cget c cProd + 1) % 2 ^ 32 ∧ cget (t.ctx q.toNat) cCons = cget c cCons ∧
      cget (t.ctx q.toNat) cDrops = cget c cDrops ∧ (∀ i < d.length, peek t.hbm (bodyAt q.toNat c + entryOff c (cget c cProd) + 16 + i) = d.getD i 0) ∧
      (∀ i < 8, peek t.hbm (bodyAt q.toNat c + entryOff c (cget c cProd) + i) = (slipHead k.toNat sp u tag d.length b).getD i 0) ∧
      (∀ i < 8, peek t.hbm (bodyAt q.toNat c + entryOff c (cget c cProd) + 8 + i) = BitVec.ofNat 8 (s.timeOf (qidRegion q.toNat) / 256 ^ i)) ∧
      (∀ i < ctxSize c - d.length - 16, peek t.hbm (bodyAt q.toNat c + entryOff c (cget c cProd) + 16 + d.length + i) = 0) ∧
      wordsAt s t [] ∧ { t with hbm := s.hbm, qmg := s.qmg, regs := s.regs, arc := s.arc, grn := s.grn } = s) ∧
  (∀ (s : State) (q : Qid) (k : Carrel) (sp : Port) (u : Fin 4) (tag : Word) (d : List Byte) (b : Bool) (c : BitVec 512),
    c = s.ctx q.toNat →
    d.length ≤ 240 →
    s.rgn (qidRegion q.toNat) ≠ 2 →
    s.cached q.toNat = true →
    isRing c = true →
    cget c cUse = 2 →
    s.inGroup (qidRegion q.toNat) (cget c cSlipGrp) (64 * u.val + sp.val) = true →
    d.length + 16 ≤ ctxSize c →
    cget c cLoc = 0 →
    cget c cOwner = 2 →
    s.get CRL_CFG.STATE (cget c cCarrel) < 2 →
    ctxOcc c < ctxCap c →
    ∃ t, exec (.slipDeliver q k sp u tag d b) s = .next t ∧ cget (t.ctx q.toNat) cProd = (cget c cProd + 1) % 2 ^ 32 ∧ s.counted t (cget c cCarrel) 6 ∧
      (cget c cIrqEn = 1 → cget c cArmed = 1 → cget (t.ctx q.toNat) cArmed = 0 ∧ t.out = .msix (cget c cPort) (cget c cVector) :: s.out)) ∧
  (∀ (s : State) (q : Qid) (k : Carrel) (sp : Port) (u : Fin 4) (tag : Word) (d : List Byte) (b : Bool) (c : BitVec 512),
    c = s.ctx q.toNat →
    d.length ≤ 240 →
    s.rgn (qidRegion q.toNat) ≠ 2 →
    s.cached q.toNat = true →
    isRing c = true →
    cget c cUse = 2 →
    s.inGroup (qidRegion q.toNat) (cget c cSlipGrp) (64 * u.val + sp.val) = true →
    d.length + 16 ≤ ctxSize c →
    cget c cLoc = 1 →
    cget c cOwner ≠ 2 →
    ctxOcc c < ctxCap c →
    (cget c cIrqEn = 0 ∨ cget c cArmed = 0 → ∃ t, exec (.slipDeliver q k sp u tag d b) s = .next t ∧ t.ctx q.toNat = cput (cput c cProd (cget c cProd + 1)) cLastTime (s.timeOf (qidRegion q.toNat)) ∧ t.qmg.index.contains q.toNat = true ∧
      (t.out.map (fun m => match m with | .hostWrite a b x _ => (a, b, x) | _ => (64, 0, 0))).head? = some (cget c cPort, cget c cPasid, cget c cBase + entryOff c (cget c cProd)) ∧
      hbmKept s t (ctxAt q.toNat) 64 ∧ { t with hbm := s.hbm, qmg := s.qmg, out := s.out } = s) ∧
    (cget c cIrqEn = 1 → cget c cArmed = 1 → ∃ t, exec (.slipDeliver q k sp u tag d b) s = .next t ∧ t.ctx q.toNat = cput (cput (cput c cProd (cget c cProd + 1)) cLastTime (s.timeOf (qidRegion q.toNat))) cArmed 0 ∧
      t.qmg.index.contains q.toNat = false ∧ t.out.head? = (s.ownerIrq q.toNat c).out.head? ∧
      hbmKept s t (ctxAt q.toNat) 64 ∧ { t with hbm := s.hbm, qmg := s.qmg, out := s.out } = s)) ∧
  (∀ (s : State) (q : Qid) (k : Carrel) (sp : Port) (u : Fin 4) (tag : Word) (d : List Byte) (b : Bool) (c : BitVec 512),
    c = s.ctx q.toNat →
    d.length ≤ 240 →
    s.rgn (qidRegion q.toNat) ≠ 2 →
    s.cached q.toNat = true →
    isRing c = true →
    cget c cUse = 2 →
    s.inGroup (qidRegion q.toNat) (cget c cSlipGrp) (64 * u.val + sp.val) = true →
    d.length + 16 ≤ ctxSize c →
    ctxOcc c ≥ ctxCap c →
    cget c cOwner ≠ 2 →
    ∃ t, exec (.slipDeliver q k sp u tag d b) s = .next t ∧ t.ctx q.toNat = cbump c cDrops 1 ∧ (u.val = s.unit → s.counted t k.toNat 5) ∧ (u.val ≠ s.unit → t.dmv = s.dmv) ∧ hbmKept s t (ctxAt q.toNat) 64 ∧ { t with hbm := s.hbm, qmg := s.qmg, dmv := s.dmv } = s) ∧
  (∀ (s : State) (q : Qid) (k : Carrel) (sp : Port) (u : Fin 4) (tag : Word) (d : List Byte) (b : Bool) (c : BitVec 512),
    c = s.ctx q.toNat →
    d.length ≤ 240 →
    s.rgn (qidRegion q.toNat) ≠ 2 →
    s.cached q.toNat = true →
    isRing c = true →
    cget c cUse = 2 →
    s.inGroup (qidRegion q.toNat) (cget c cSlipGrp) (64 * u.val + sp.val) = true →
    d.length + 16 ≤ ctxSize c →
    cget c cOwner = 2 →
    2 ≤ s.get CRL_CFG.STATE (cget c cCarrel) →
    ∃ t, exec (.slipDeliver q k sp u tag d b) s = .next t ∧ t.ctx q.toNat = cbump c cDrops 1 ∧ (u.val = s.unit → s.counted t k.toNat 5) ∧ (u.val ≠ s.unit → t.dmv = s.dmv) ∧ hbmKept s t (ctxAt q.toNat) 64 ∧ { t with hbm := s.hbm, qmg := s.qmg, dmv := s.dmv } = s) ∧
  (∀ (s : State) (q : Qid) (k : Carrel) (sp : Port) (u : Fin 4) (tag : Word) (d : List Byte) (b : Bool) (c : BitVec 512),
    c = s.ctx q.toNat →
    d.length ≤ 240 →
    s.rgn (qidRegion q.toNat) ≠ 2 →
    s.cached q.toNat = true →
    isRing c = false ∨ cget c cUse ≠ 2 ∨ s.inGroup (qidRegion q.toNat) (cget c cSlipGrp) (64 * u.val + sp.val) = false ∨ ctxSize c < d.length + 16 →
    ∃ t, exec (.slipDeliver q k sp u tag d b) s = .next t ∧ (u.val = s.unit → s.counted t k.toNat 5) ∧ (u.val ≠ s.unit → t.dmv = s.dmv) ∧ { t with qmg := s.qmg, dmv := s.dmv } = s) ∧
  (∀ (s : State) (q : Qid) (k : Carrel) (sp : Port) (u : Fin 4) (tag : Word) (d : List Byte) (b : Bool) (c : BitVec 512),
    240 < d.length ∨ s.rgn (qidRegion q.toNat) = 2 →
    ∃ t, exec (.slipDeliver q k sp u tag d b) s = .next t ∧ (u.val = s.unit → s.counted t k.toNat 5) ∧ (u.val ≠ s.unit → t.dmv = s.dmv) ∧ { t with dmv := s.dmv } = s) ∧
  (∀ (s : State) (q : Qid) (k : Carrel) (sp : Port) (u : Fin 4) (tag : Word) (d : List Byte) (b : Bool),
    d.length ≤ 240 →
    s.rgn (qidRegion q.toNat) ≠ 2 →
    s.cached q.toNat = false →
    ∃ t, exec (.slipDeliver q k sp u tag d b) s = .next t ∧ t.qmg.fills.any (fun f => f.1 == q.toNat && f.2.contains (.item q.toNat (slipHead k.toNat sp u tag d.length b ++ d) (.slip k.toNat))) = true ∧
      t.hbm = s.hbm ∧ { t with qmg := s.qmg, regs := s.regs, arc := s.arc } = s) ∧
  (∀ (s : State) (p : Path) (a : BitVec 32) (d : BitVec 64) (i : Nat),
    s.writeReaches p a (.reg .QMG_DB_HI i) →
    exec (.registerWrite p a d 4) s = .next (doorbell (.librarian (ixRegion i) (BitVec.ofNat 20 (bits (d.setWidth 32) 0 20))) { size := 8, extra := false, index := (s.stored .QMG_DB_HI i d a).word .QMG_DB_LO i, arm := d.getLsbD 21 } (d.getLsbD 20) (s.stored .QMG_DB_HI i d a)))

/-- For a NOTICE FIFO: a latch of the low word returns it and latches the high word, and nothing advances; a read returns the latched word and advances WORD within the item, or RD past its last word; a word that fails its checks is delivered with poison and sets POISON, and its read counts it in POISONED and raises QMG_NOTICE_PARITY; at the end of the FIFO, and for a queue that is no NOTICE FIFO, 0 is read and nothing advances. MARK takes RD; REWIND puts RD back to MARK with WORD 0; RELEASE moves CONS up by COUNT, for 0 up to RD, never past RD, and raises a lower MARK; SKIP moves RD past an item and at the end changes nothing; for a queue that is no NOTICE FIFO each is discarded. A context that is not cached counts as a miss and the access proceeds. That a word is counted only as it is passed is the reading of log entry 92. A write of a register of the group that reaches it stores the fields and does what the written bits start: the same as the command. A read of a register of the group returns what the command returns. Given by a path that may not write its register, a command is counted as a discard and does nothing else; in the window of an isolated region, or through the manager port before ready, it does nothing. -/
def Obligations.NoticeWindow : Prop :=
  (∀ (s : State) (p : Path) (q : Qid) (c : BitVec 512) (x : Nat),
    s.admits p (qmgSet (qidRegion q.toNat)) →
    isNotice c = true →
    c = s.ctx q.toNat →
    s.cached q.toNat = true →
    s.mayRead p false = true →
    s.windowWord q.toNat = some x →
    (s.windowBad q.toNat x = false → ∃ t, exec (.noticeWordLatch p q) s = .next t ∧ t.out = .readData p (BitVec.ofNat 32 x) :: s.out ∧ t.regs = s.regs ∧ (t.lat.of p).winHi = BitVec.ofNat 32 (x / 2 ^ 32) ∧ t.hbm = s.hbm ∧ { t with out := s.out, lat := s.lat, qmg := s.qmg, regs := s.regs } = s) ∧
    (s.windowBad q.toNat x = true → ∃ t, exec (.noticeWordLatch p q) s = .next t ∧ t.out = .readPoison p (BitVec.ofNat 32 x) :: s.out ∧
      t.get QMG_WIN_STS.POISON q.toNat = 1 ∧ wordsKept s t [.QMG_WIN_STS] ∧ (t.lat.of p).winHi = BitVec.ofNat 32 (x / 2 ^ 32) ∧ t.hbm = s.hbm ∧ { t with out := s.out, lat := s.lat, qmg := s.qmg, regs := s.regs } = s)) ∧
  (∀ (s : State) (p : Path) (q : Qid) (c : BitVec 512) (x : Nat),
    s.admits p (qmgSet (qidRegion q.toNat)) →
    isNotice c = true →
    c = s.ctx q.toNat →
    s.cached q.toNat = true →
    s.mayRead p false = true →
    s.windowWord q.toNat = some x →
    s.windowBad q.toNat x = false →
    (8 * (s.get QMG_WIN_STS.WORD q.toNat + 1) < ctxSize c → ∃ t, exec (.noticeWordRead p q) s = .next t ∧ t.out = .readData p (s.lat.of p).winHi :: s.out ∧
      t.get QMG_WIN_STS.WORD q.toNat = (s.get QMG_WIN_STS.WORD q.toNat + 1) % 2 ^ QMG_WIN_STS.WORD.w ∧ t.get QMG_WIN_STS.POISON q.toNat = 0 ∧
      t.hbm = s.hbm ∧ wordsKept s t [.QMG_WIN_STS] ∧ { t with regs := s.regs, out := s.out, qmg := s.qmg } = s) ∧
    (ctxSize c ≤ 8 * (s.get QMG_WIN_STS.WORD q.toNat + 1) → ∃ t, exec (.noticeWordRead p q) s = .next t ∧ t.out = .readData p (s.lat.of p).winHi :: s.out ∧
      t.ctx q.toNat = cput c cRd (cget c cRd + 1) ∧ t.get QMG_WIN_STS.WORD q.toNat = 0 ∧ t.get QMG_WIN_STS.POISON q.toNat = 0 ∧
      hbmKept s t (ctxAt q.toNat) 64 ∧ wordsKept s t [.QMG_WIN_STS] ∧ { t with regs := s.regs, out := s.out, qmg := s.qmg, hbm := s.hbm } = s)) ∧
  (∀ (s : State) (p : Path) (q : Qid) (c : BitVec 512) (x : Nat),
    s.admits p (qmgSet (qidRegion q.toNat)) →
    isNotice c = true →
    c = s.ctx q.toNat →
    s.cached q.toNat = true →
    s.mayRead p false = true →
    s.windowWord q.toNat = some x →
    s.windowBad q.toNat x = true →
    ∃ t, exec (.noticeWordRead p q) s = .next t ∧ t.out.head? = some (.readPoison p (s.lat.of p).winHi) ∧ t.get QMG_WIN_STS.POISON q.toNat = 1 ∧
      cget (t.ctx q.toNat) cPoisoned = satAdd cPoisoned.2 (cget c cPoisoned) 1 ∧ t.stsBit (qmgSet (qidRegion q.toNat)) 4 ∧
      (8 * (s.get QMG_WIN_STS.WORD q.toNat + 1) < ctxSize c → cget (t.ctx q.toNat) cRd = cget c cRd ∧ t.get QMG_WIN_STS.WORD q.toNat = (s.get QMG_WIN_STS.WORD q.toNat + 1) % 2 ^ QMG_WIN_STS.WORD.w) ∧
      (ctxSize c ≤ 8 * (s.get QMG_WIN_STS.WORD q.toNat + 1) → cget (t.ctx q.toNat) cRd = (cget c cRd + 1) % 2 ^ 32 ∧ t.get QMG_WIN_STS.WORD q.toNat = 0) ∧
      hbmKept s t (ctxAt q.toNat) 64) ∧
  (∀ (s : State) (p : Path) (q : Qid) (c : BitVec 512),
    s.admits p (qmgSet (qidRegion q.toNat)) →
    s.mayRead p false = true →
    s.unheard p = false →
    c = s.ctx q.toNat →
    isNotice c = false ∨ s.windowWord q.toNat = none →
    (∃ t, exec (.noticeWordLatch p q) s = .next t ∧ t.out = .readData p 0 :: s.out ∧ (t.lat.of p).winHi = 0 ∧ t.hbm = s.hbm ∧ wordsAt s t [(.QMG_CACHE_STS, qidRegion q.toNat)] ∧
      { t with out := s.out, lat := s.lat, qmg := s.qmg, regs := s.regs, arc := s.arc } = s) ∧
    ∃ t, exec (.noticeWordRead p q) s = .next t ∧ t.out = .readData p 0 :: s.out ∧ t.hbm = s.hbm ∧ wordsAt s t [(.QMG_CACHE_STS, qidRegion q.toNat)] ∧
      { t with out := s.out, qmg := s.qmg, regs := s.regs, arc := s.arc } = s) ∧
  (∀ (s : State) (p : Path) (q : Qid) (c : BitVec 512) (x : Nat),
    s.admits p (qmgSet (qidRegion q.toNat)) →
    s.mayRead p false = true →
    s.unheard p = false →
    isNotice c = true →
    c = s.ctx q.toNat →
    s.cached q.toNat = false →
    s.windowWord q.toNat = some x →
    s.windowBad q.toNat x = false →
    ∃ t, exec (.noticeWordLatch p q) s = .next t ∧ t.out = .readData p (BitVec.ofNat 32 x) :: s.out ∧ (t.lat.of p).winHi = BitVec.ofNat 32 (x / 2 ^ 32) ∧ t.cached q.toNat = true ∧
      t.get QMG_CACHE_STS.MISSES (qidRegion q.toNat) = satAdd QMG_CACHE_STS.MISSES.w (s.get QMG_CACHE_STS.MISSES (qidRegion q.toNat)) 1 ∧ t.hbm = s.hbm) ∧
  (∀ (s : State) (p : Path) (q : Qid),
    (s.unheard p = true → exec (.noticeWordLatch p q) s = .next (s.emit (.readRefused p)) ∧ exec (.noticeWordRead p q) s = .next (s.emit (.readRefused p))) ∧
    (s.unheard p = false → s.windowGone (qidRegion q.toNat) = true → exec (.noticeWordLatch p q) s = .next (s.emit (.readData p 0xFFFFFFFF)) ∧
      exec (.noticeWordRead p q) s = .next (s.emit (.readData p 0xFFFFFFFF))) ∧
    (s.unheard p = false → s.windowGone (qidRegion q.toNat) = false → s.mayRead p false = false →
      exec (.noticeWordLatch p q) s = .next (s.emit (.readData p (deniedRead p))) ∧ exec (.noticeWordRead p q) s = .next (s.emit (.readData p (deniedRead p))))) ∧
  (∀ (s : State) (p : Path) (q : Qid) (c : BitVec 512),
    s.admits p (qmgSet (qidRegion q.toNat)) →
    isNotice c = true →
    c = s.ctx q.toNat →
    s.cached q.toNat = true →
    (∃ t, exec (.noticeMark p q) s = .next t ∧ t.ctx q.toNat = cput (cput c cMark (cget c cRd)) cMarkLost 0 ∧ hbmKept s t (ctxAt q.toNat) 64 ∧ { t with hbm := s.hbm, qmg := s.qmg } = s) ∧
    (∃ t, exec (.noticeRewind p q) s = .next t ∧ t.ctx q.toNat = cput c cRd (cget c cMark) ∧ t.get QMG_WIN_STS.WORD q.toNat = 0 ∧ hbmKept s t (ctxAt q.toNat) 64 ∧ wordsKept s t [.QMG_WIN_STS] ∧ { t with regs := s.regs, hbm := s.hbm, qmg := s.qmg } = s) ∧
    (cget c cRd ≠ cget c cProd → ∃ t, exec (.noticeSkip p q) s = .next t ∧ t.ctx q.toNat = cput c cRd (cget c cRd + 1) ∧
      t.get QMG_WIN_STS.WORD q.toNat = 0 ∧ hbmKept s t (ctxAt q.toNat) 64 ∧ wordsKept s t [.QMG_WIN_STS] ∧ { t with regs := s.regs, hbm := s.hbm, qmg := s.qmg } = s) ∧
    (cget c cRd = cget c cProd → ∃ t, exec (.noticeSkip p q) s = .next t ∧ { t with qmg := s.qmg } = s)) ∧
  (∀ (s : State) (p : Path) (q : Qid) (c : BitVec 512) (n : BitVec 20) (m e : Nat),
    s.admits p (qmgSet (qidRegion q.toNat)) →
    isNotice c = true →
    c = s.ctx q.toNat →
    s.cached q.toNat = true →
    m = (if n.toNat = 0 then sub32 (cget c cRd) (cget c cCons) else min n.toNat (sub32 (cget c cRd) (cget c cCons))) →
    e = (cget c cCons + m) % 2 ^ 32 →
    ∃ t, exec (.noticeRelease p q n) s = .next t ∧ cget (t.ctx q.toNat) cCons = e ∧ cget (t.ctx q.toNat) cRd = cget c cRd ∧
      cget (t.ctx q.toNat) cMark = (if below32 (cget c cMark) e then e else cget c cMark) ∧ cget (t.ctx q.toNat) cMarkLost = cget c cMarkLost ∧ hbmKept s t (ctxAt q.toNat) 64 ∧ { t with hbm := s.hbm, qmg := s.qmg } = s) ∧
  (∀ (s : State) (p : Path) (q : Qid) (n : BitVec 20),
    s.admits p (qmgSet (qidRegion q.toNat)) →
    isNotice (s.ctx q.toNat) = false →
    exec (.noticeMark p q) s = .next (s.discard (qmgSet (qidRegion q.toNat))) ∧
    exec (.noticeRewind p q) s = .next (s.discard (qmgSet (qidRegion q.toNat))) ∧
    exec (.noticeRelease p q n) s = .next (s.discard (qmgSet (qidRegion q.toNat))) ∧
    exec (.noticeSkip p q) s = .next (s.discard (qmgSet (qidRegion q.toNat)))) ∧
  (∀ (s : State) (p : Path) (a : BitVec 32) (d : BitVec 64) (i : Nat),
    s.writeReaches p a (.reg .QMG_WIN_OP i) →
    s.noWindow .QMG_WIN_OP i = false →
    exec (.registerWrite p a d 4) s = if (bits (d.setWidth 32) 0 2) = 0 then exec (.noticeMark p (BitVec.ofNat 20 i)) (s.stored .QMG_WIN_OP i d a) else if (bits (d.setWidth 32) 0 2) = 1 then exec (.noticeRewind p (BitVec.ofNat 20 i)) (s.stored .QMG_WIN_OP i d a) else if (bits (d.setWidth 32) 0 2) = 2 then exec (.noticeRelease p (BitVec.ofNat 20 i) (BitVec.ofNat 20 (bits (d.setWidth 32) 2 20))) (s.stored .QMG_WIN_OP i d a) else exec (.noticeSkip p (BitVec.ofNat 20 i)) (s.stored .QMG_WIN_OP i d a)) ∧
  (∀ (s : State) (p : Path) (q : Qid) (n : BitVec 20),
    s.mayWrite p = false →
    exec (.noticeMark p q) s = .next (if s.windowGone (setUnit (qmgSet (qidRegion q.toNat))) || s.unheard p then s else s.discard (qmgSet (qidRegion q.toNat))) ∧
    exec (.noticeRewind p q) s = .next (if s.windowGone (setUnit (qmgSet (qidRegion q.toNat))) || s.unheard p then s else s.discard (qmgSet (qidRegion q.toNat))) ∧
    exec (.noticeRelease p q n) s = .next (if s.windowGone (setUnit (qmgSet (qidRegion q.toNat))) || s.unheard p then s else s.discard (qmgSet (qidRegion q.toNat))) ∧
    exec (.noticeSkip p q) s = .next (if s.windowGone (setUnit (qmgSet (qidRegion q.toNat))) || s.unheard p then s else s.discard (qmgSet (qidRegion q.toNat)))) ∧
  (∀ (s : State) (p : Path) (a : BitVec 32) (i : Nat),
    s.readReaches p a (.reg .QMG_WIN_DATA_LO i) →
    s.noWindow .QMG_WIN_DATA_LO i = false →
    exec (.registerReadClear p a) s = .next ((windowLatch p i s).2.emit (if (windowLatch p i s).1.2 then .readPoison p (windowLatch p i s).1.1 else .readData p (windowLatch p i s).1.1))) ∧
  (∀ (s : State) (p : Path) (a : BitVec 32) (i : Nat),
    s.readReaches p a (.reg .QMG_WIN_DATA_HI i) →
    s.noWindow .QMG_WIN_DATA_HI i = false →
    exec (.registerReadClear p a) s = .next ((windowTake p i s).2.emit (if (windowTake p i s).1.2 then .readPoison p (windowTake p i s).1.1 else .readData p (windowTake p i s).1.1))) ∧
  (∀ (s : State) (p : Path) (a : BitVec 32) (i : Nat),
    s.readReaches p a (.reg .QMG_WIN_STS i) →
    s.noWindow .QMG_WIN_STS i = false →
    exec (.registerReadClear p a) s = .next (((s.windowCtx i).set QMG_WIN_STS.SKIPPED i 0).emit (.readData p ((s.windowCtx i).windowSts i)))) ∧
  (∀ (s : State) (p : Path) (a : BitVec 32) (i : Nat),
    s.readReaches p a (.reg .QMG_WIN_LOST i) →
    s.noWindow .QMG_WIN_LOST i = false →
    exec (.registerReadClear p a) s = .next (((s.windowCtx i).setCtx i (cput ((s.windowCtx i).ctx i) cDrops 0)).emit (.readData p (BitVec.ofNat 32 (cget ((s.windowCtx i).ctx i) cDrops))))) ∧
  (∀ (s : State) (p : Path) (a : BitVec 32) (i : Nat),
    s.readReaches p a (.reg .QMG_WIN_PROD i) →
    s.noWindow .QMG_WIN_PROD i = false →
    exec (.registerReadClear p a) s = .next ((s.windowCtx i).emit (.readData p (BitVec.ofNat 32 (cget ((s.windowCtx i).ctx i) cProd))))) ∧
  (∀ (s : State) (p : Path) (a : BitVec 32) (i : Nat),
    s.readReaches p a (.reg .QMG_WIN_CONS i) →
    s.noWindow .QMG_WIN_CONS i = false →
    exec (.registerReadClear p a) s = .next ((s.windowCtx i).emit (.readData p (BitVec.ofNat 32 (cget ((s.windowCtx i).ctx i) cCons))))) ∧
  (∀ (s : State) (p : Path) (a : BitVec 32) (i : Nat),
    s.readReaches p a (.reg .QMG_WIN_RD i) →
    s.noWindow .QMG_WIN_RD i = false →
    exec (.registerReadClear p a) s = .next ((s.windowCtx i).emit (.readData p (BitVec.ofNat 32 (cget ((s.windowCtx i).ctx i) cRd)))))

/-- DESCRIPTOR_FETCH on a free, enabled channel resumes a thawed descriptor, else takes an armed shadow set, else the ring entry at CONS, which it reads from the host once its shaper allows it; otherwise it changes nothing but what the channel shows. A descriptor that arrives and passes its check runs, a NOP completes at once with status 0, one that breaks the check completes with BAD_DESC, one of a frozen carrel is kept, and one of a contained carrel completes with CARREL_RESET. DMV_BURST_ISSUE reads the next burst or fills it; it waits while the shaper or the output holds it; a burst to a device whose link is down fails; a refused pool access fails from its first refused byte; the appended CRC follows, and the read-back; an error, an abort or a freeze ends the descriptor when nothing is outstanding; a parity error completes it with CHANNEL_RESET. DMV_BURST_COMPLETE feeds the CRC and writes what was read; an error stops the descriptor, and one of a re-shelving's target ends that. READBACK_COMPLETE compares the last line and completes. A completed descriptor writes its record to its ring, or is held. DMV_CQ_HOLD_TMO drops a held record. SHADOW_ARM, DMV_ABORT and RING_TABLE_WRITE act on their channel alone, or are discarded. That a descriptor is read on TC1 is the choice of log entry 85. A write of a register of the group that reaches it stores the fields and does what the written bits start: the same as the command. Given by a path that may not write its register, a command is counted as a discard and does nothing else; in the window of an isolated region, or through the manager port before ready, it does nothing. -/
def Obligations.MoverDescriptors : Prop :=
  (∀ (s : State) (c : Chan) (b : Bool),
    (s.dchan c).active.isSome = true ∨ s.flag DMV_CH_CTL.EN c = false ∨ s.rgn (c / 16) = 2 ∨ s.boot.down ≠ 0 →
    exec (.descriptorFetch ⟨c, b⟩) s = .next s) ∧
  (∀ (s : State) (c : Chan) (b : Bool) (k : Nat) (x : Inflight) (l : List (Nat × Inflight)),
    (s.dchan c).active = none →
    s.flag DMV_CH_CTL.EN c = true →
    s.rgn (c / 16) ≠ 2 →
    s.boot.down = 0 →
    (s.dchan c).resume = (k, x) :: l →
    ∃ t, exec (.descriptorFetch ⟨c, b⟩) s = .next t ∧ (t.dchan c).resume = l ∧ (t.dchan c).active = some { desc := x.desc, ring := some x.ring, carrel := some k, phase := .run, issued := x.bytes, bytes := x.bytes, crc := x.crc, poison := x.poison, last := x.last, lastP := x.lastP, seq := x.seq } ∧ wordsKept s t [.DMV_CH_STS, .DMV_CH_PROG] ∧ (∀ e : Chan, e ≠ c → t.dchan e = s.dchan e) ∧ { t with regs := s.regs, dmv := s.dmv } = s) ∧
  (∀ (s : State) (c : Chan) (b : Bool),
    (s.dchan c).active = none →
    s.flag DMV_CH_CTL.EN c = true →
    s.rgn (c / 16) ≠ 2 →
    s.boot.down = 0 →
    (s.dchan c).resume = [] →
    s.flag DMV_SHD_CTL.ARM c = true →
    ∃ t, exec (.descriptorFetch ⟨c, b⟩) s = .next t ∧ (t.dchan c).active = some { desc := s.shadow c } ∧ t.flag DMV_SHD_CTL.ARM c = false ∧
      t.get DMV_SHD_CTL.TAKEN c = (s.get DMV_SHD_CTL.TAKEN c + 1) % 2 ^ DMV_SHD_CTL.TAKEN.w ∧ t.get DMV_CH_STS.STATE c = 1 ∧ t.get DMV_CH_STS.SHADOW c = 1 ∧
      wordsKept s t [.DMV_SHD_CTL, .DMV_CH_STS, .DMV_CH_PROG] ∧ (∀ e : Chan, e ≠ c → t.dchan e = s.dchan e) ∧ { t with regs := s.regs, dmv := s.dmv } = s) ∧
  (∀ (s u : State) (c : Chan) (e : Fin 64) (q : Qid) (x : BitVec 512) (b : Bool),
    (s.dchan c).active = none →
    s.flag DMV_CH_CTL.EN c = true →
    s.rgn (c / 16) ≠ 2 →
    s.boot.down = 0 →
    (s.dchan c).resume = [] →
    s.flag DMV_SHD_CTL.ARM c = false →
    ((List.range 64).map (fun i => ((s.dchan c).last + i) % 64)).find? (fun e => s.servable c e) = some e.val →
    s.get DMV_CH_RING.QID (64 * c + e) = q.toNat →
    s.cached q.toNat = true →
    x = s.ctx q.toNat →
    b = false ∨ cget x cOwner ≠ 2 →
    s.feedShut (cget x cPort) 1 = false →
    s.charge c 64 = some u →
    ∃ t, exec (.descriptorFetch ⟨c, b⟩) s = .next t ∧ (t.dchan c).active = some { ring := some (e.val, q.toNat), carrel := (if cget x cOwner = 2 then some (cget x cCarrel) else none), seq := some (cget x cCons) } ∧
      (t.dchan c).last = e.val + 1 ∧ t.ctx q.toNat = cput x cCons (cget x cCons + 1) ∧
      t.sends (u.send (c / 16) s.unit (cget x cPort) 1 [9] (.hostRead (cget x cPort) (cget x cPasid) (cget x cBase + entryOff x (cget x cCons)) 64)) ∧
      (cget x cLoc = 1 → t.qmg.index.contains q.toNat = true) ∧ t.get DMV_CH_STS.STATE c = 1 ∧ t.get DMV_CH_STS.ENTRY c = e.val ∧ hbmKept s t (ctxAt q.toNat) 64) ∧
  (∀ (s : State) (c : Chan) (e : Fin 64) (q : Qid) (x : BitVec 512),
    (s.dchan c).active = none →
    s.flag DMV_CH_CTL.EN c = true →
    s.rgn (c / 16) ≠ 2 →
    s.boot.down = 0 →
    (s.dchan c).resume = [] →
    s.flag DMV_SHD_CTL.ARM c = false →
    ((List.range 64).map (fun i => ((s.dchan c).last + i) % 64)).find? (fun e => s.servable c e) = some e.val →
    s.get DMV_CH_RING.QID (64 * c + e) = q.toNat →
    x = s.ctx q.toNat →
    (s.feedShut (cget x cPort) 1 = true ∨ s.charge c 64 = none → exec (.descriptorFetch ⟨c, false⟩) s = .next (s.showChan c)) ∧
    (s.feedShut (cget x cPort) 1 = false → s.charge c 64 ≠ none → s.cached q.toNat = false → ∃ t, exec (.descriptorFetch ⟨c, false⟩) s = .next t ∧ t.cached q.toNat = true ∧
      t.ctx q.toNat = cput x cCons (cget x cCons + 1) ∧ (t.dchan c).active = some { ring := some (e.val, q.toNat), carrel := (if cget x cOwner = 2 then some (cget x cCarrel) else none), seq := some (cget x cCons) }) ∧
    (cget x cOwner = 2 → exec (.descriptorFetch ⟨c, true⟩) s = .next ((s.record (occ setCrl 2 2 (cget x cCarrel))).carrelContained (cget x cCarrel)))) ∧
  (∀ (s : State) (c : Chan) (b : Bool),
    (s.dchan c).active = none →
    s.flag DMV_CH_CTL.EN c = true →
    s.rgn (c / 16) ≠ 2 →
    s.boot.down = 0 →
    (s.dchan c).resume = [] →
    s.flag DMV_SHD_CTL.ARM c = false →
    ((List.range 64).map (fun i => ((s.dchan c).last + i) % 64)).find? (fun e => s.servable c e) = none →
    exec (.descriptorFetch ⟨c, b⟩) s = .next (s.showChan c)) ∧
  (∀ (s : State) (c : Chan) (a : Active),
    (s.dchan c).active = some a →
    (∀ e q, a.phase = .fetch → a.ring = some (e, q) → exec (.descriptorReadError c) s = .next ((s.dropActive c).hostAccessFail q)) ∧
    (a.phase ≠ .fetch ∨ a.ring = none → exec (.descriptorReadError c) s = .next s)) ∧
  (∀ (s : State) (c : Chan) (d e : BitVec 512) (a b : Active),
    (s.dchan c).active = some a →
    a.phase = .fetch →
    e = (if a.ring.isSome then d else a.desc) →
    b = { a with desc := e, phase := .run, crc := crcOnes (cget e dCrc) } →
    cget e dOp = 0 →
    a.carrel = none ∨ (a.freeze = false ∧ a.reset = false) →
    s.badDesc c b = false →
    ∃ t, exec (.dmvCopy c d) s = .next t ∧ (t.dchan c).active = some b ∧ t.get DMV_CH_STS.STATE c = 1 ∧ wordsKept s t [.DMV_CH_STS, .DMV_CH_PROG] ∧ (∀ e : Chan, e ≠ c → t.dchan e = s.dchan e) ∧ { t with regs := s.regs, dmv := s.dmv } = s) ∧
  (∀ (s : State) (c : Chan) (d e : BitVec 512) (a b : Active),
    (s.dchan c).active = some a →
    a.phase = .fetch →
    e = (if a.ring.isSome then d else a.desc) →
    b = { a with desc := e, phase := .run, crc := crcOnes (cget e dCrc) } →
    cget e dOp = 1 →
    a.carrel = none ∨ (a.freeze = false ∧ a.reset = false) →
    s.badDesc c b = false →
    ∃ t, exec (.dmvFill c d) s = .next t ∧ (t.dchan c).active = some b ∧ t.get DMV_CH_STS.STATE c = 1 ∧ wordsKept s t [.DMV_CH_STS, .DMV_CH_PROG] ∧ (∀ e : Chan, e ≠ c → t.dchan e = s.dchan e) ∧ { t with regs := s.regs, dmv := s.dmv } = s) ∧
  (∀ (s : State) (c : Chan) (d e : BitVec 512) (a b : Active),
    (s.dchan c).active = some a →
    a.phase = .fetch →
    e = (if a.ring.isSome then d else a.desc) →
    b = { a with desc := e, phase := .run, crc := crcOnes (cget e dCrc) } →
    cget e dOp = 2 →
    a.carrel = none ∨ (a.freeze = false ∧ a.reset = false) →
    s.badDesc c b = false →
    ∃ t, exec (.dmvCheck c d) s = .next t ∧ (t.dchan c).active = some b ∧ t.get DMV_CH_STS.STATE c = 1 ∧ wordsKept s t [.DMV_CH_STS, .DMV_CH_PROG] ∧ (∀ e : Chan, e ≠ c → t.dchan e = s.dchan e) ∧ { t with regs := s.regs, dmv := s.dmv } = s) ∧
  (∀ (s : State) (c : Chan) (d e : BitVec 512) (a b : Active) (x : BitVec 512) (q : Nat),
    (s.dchan c).active = some a →
    a.phase = .fetch →
    e = (if a.ring.isSome then d else a.desc) →
    b = { a with desc := e, phase := .run, crc := crcOnes (cget e dCrc) } →
    s.dmv.chan.all (fun e => e.1 == c.val) = true →
    a.carrel = none →
    cget e dOp = 3 →
    cget e dCrc = 0 →
    s.badDesc c b = false →
    (s.cqOf c b = none → ∃ t, exec (.dmvNop c d) s = .next t ∧ (t.dchan c).active = none ∧ t.get DMV_CH_STS.LAST_STATUS c = 0 ∧ t.hbm = s.hbm) ∧
    (s.cqOf c b = some q → x = s.ctx q → s.cached q = true → isCq x = true → s.rgn (qidRegion q) ≠ 2 → cget x cLoc = 0 → cget x cIrqEn = 0 ∨ cget x cArmed = 0 →
      cget x cBase + ctxCap x * ctxSize x ≤ 0x3F800000 → q < 2 ^ 20 →
      (ctxOcc x < ctxCap x → ∃ t, exec (.dmvNop c d) s = .next t ∧ (t.dchan c).active = none ∧ t.get DMV_CH_STS.LAST_STATUS c = 0 ∧ cget (t.ctx q) cProd = (cget x cProd + 1) % 2 ^ 32 ∧
        peekN t.hbm (bodyAt q x + entryOff x (cget x cProd)) 32 = cget e dCmdId + (match a.ring with | some (_, n) => n | none => 0xFFFFF) * 2 ^ 40 + cget e dLen * 2 ^ 128) ∧
      (ctxOcc x ≥ ctxCap x → ∃ t, exec (.dmvNop c d) s = .next t ∧ (t.dchan c).active.map (fun y => y.phase) = some .held ∧ t.get DMV_CH_STS.STATE c = 2 ∧
        t.ctx q = cbump x cDrops 1 ∧ t.stsBit (qmgSet (qidRegion q)) 3))) ∧
  (∀ (s : State) (c : Chan) (d e : BitVec 512) (a b : Active) (k : Nat),
    (s.dchan c).active = some a →
    a.phase = .fetch →
    e = (if a.ring.isSome then d else a.desc) →
    b = { a with desc := e, phase := .run, crc := crcOnes (cget e dCrc) } →
    ((cget e dOp = 0 ∨ 3 < cget e dOp) →
      (a.carrel = some k → a.reset = true → exec (.dmvCopy c d) s = .next (s.finish c b 8 0 0)) ∧ (a.carrel = some k → a.reset = false → a.freeze = true → exec (.dmvCopy c d) s = .next (s.keepActive c k b)) ∧
      (a.carrel = none ∨ (a.freeze = false ∧ a.reset = false) → s.badDesc c b = true → exec (.dmvCopy c d) s = .next (s.finish c b 6 0 0))) ∧
    ((cget e dOp = 1) →
      (a.carrel = some k → a.reset = true → exec (.dmvFill c d) s = .next (s.finish c b 8 0 0)) ∧ (a.carrel = some k → a.reset = false → a.freeze = true → exec (.dmvFill c d) s = .next (s.keepActive c k b)) ∧
      (a.carrel = none ∨ (a.freeze = false ∧ a.reset = false) → s.badDesc c b = true → exec (.dmvFill c d) s = .next (s.finish c b 6 0 0))) ∧
    ((cget e dOp = 2) →
      (a.carrel = some k → a.reset = true → exec (.dmvCheck c d) s = .next (s.finish c b 8 0 0)) ∧ (a.carrel = some k → a.reset = false → a.freeze = true → exec (.dmvCheck c d) s = .next (s.keepActive c k b)) ∧
      (a.carrel = none ∨ (a.freeze = false ∧ a.reset = false) → s.badDesc c b = true → exec (.dmvCheck c d) s = .next (s.finish c b 6 0 0))) ∧
    ((cget e dOp = 3) →
      (a.carrel = some k → a.reset = true → exec (.dmvNop c d) s = .next (s.finish c b 8 0 0)) ∧ (a.carrel = some k → a.reset = false → a.freeze = true → exec (.dmvNop c d) s = .next (s.keepActive c k b)) ∧
      (a.carrel = none ∨ (a.freeze = false ∧ a.reset = false) → s.badDesc c b = true → exec (.dmvNop c d) s = .next (s.finish c b 6 0 0))) ∧
    (a.carrel = none ∨ (a.freeze = false ∧ a.reset = false) → s.badDesc c b = false → cget e dOp = 3 → exec (.dmvNop c d) s = .next (s.finish c b 0 (cget e dLen) 0))) ∧
  (∀ (s : State) (c : Chan) (d : BitVec 512),
    (s.dchan c).active.all (fun a => a.phase != .fetch || cget (if a.ring.isSome then d else a.desc) dOp == 1) = true →
    exec (.dmvCopy c d) s = .next s ∧ exec (.dmvCheck c d) s = .next s ∧ exec (.dmvNop c d) s = .next s ∧ ((s.dchan c).active.all (fun a => a.phase != .fetch) = true → exec (.dmvFill c d) s = .next s)) ∧
  (∀ (s u : State) (c : Chan) (a : Active),
    (s.dchan c).active = some a →
    a.phase = .run →
    s.rgn (c / 16) ≠ 2 →
    s.boot.down = 0 →
    a.wq = [] →
    a.err = none →
    a.abort = false →
    a.freeze = false →
    a.reads < 64 →
    a.issued < (cget a.desc dLen) →
    s.deviceDown a = false →
    opReads (cget a.desc dOp) = true →
    cget a.desc dSrcSpace ≠ 1 →
    s.dmvCharge c a false (burstLen a.desc a.issued) = some u →
    ∃ t, exec (.dmvBurstIssue ⟨c, false⟩) s = .next t ∧ t = ((u.clearMarks a.desc a.issued (burstLen a.desc a.issued)).setActive c
        (some { a with since := none, issued := a.issued + burstLen a.desc a.issued, out := a.out ++ [(a.issued, burstLen a.desc a.issued, false)] })).dmvAsk c a.desc (u.sideOf a false) (sideAddr a.desc false a.issued) (burstLen a.desc a.issued)) ∧
  (∀ (s u v : State) (c : Chan) (a : Active) (f : Nat),
    (s.dchan c).active = some a →
    a.phase = .run →
    s.rgn (c / 16) ≠ 2 →
    s.boot.down = 0 →
    a.wq = [] →
    a.err = none →
    a.abort = false →
    a.freeze = false →
    a.reads < 64 →
    a.issued < (cget a.desc dLen) →
    s.deviceDown a = false →
    opReads (cget a.desc dOp) = true →
    cget a.desc dSrcSpace = 1 →
    s.dmvCharge c a false (burstLen a.desc a.issued) = some u →
    u.poolRefused a (sideAddr a.desc false a.issued) (burstLen a.desc a.issued) true false = (some f, v) →
    f = sideAddr a.desc false a.issued →
    exec (.dmvBurstIssue ⟨c, false⟩) s = .next ((v.setActive c (some ({ a with since := none, issued := a.issued + burstLen a.desc a.issued }.fail 1 a.issued (burstLen a.desc a.issued) f))).settleDmv c)) ∧
  (∀ (s : State) (c : Chan) (a : Active),
    (s.dchan c).active = some a →
    a.phase = .run →
    s.rgn (c / 16) ≠ 2 →
    s.boot.down = 0 →
    a.wq = [] →
    a.err = none →
    a.abort = false →
    a.freeze = false →
    a.reads < 64 →
    a.issued < (cget a.desc dLen) →
    (s.deviceDown a = true → exec (.dmvBurstIssue ⟨c, false⟩) s = .next ((s.setActive c (some ({ a with issued := a.issued + burstLen a.desc a.issued }.fail 4 a.issued (burstLen a.desc a.issued) 0))).settleDmv c)) ∧
    (s.deviceDown a = false → opReads (cget a.desc dOp) = true → s.dmvCharge c a false (burstLen a.desc a.issued) = none → exec (.dmvBurstIssue ⟨c, false⟩) s = .next (s.setActive c (some (s.dmvWaits c a))))) ∧
  (∀ (s u : State) (c : Chan) (a : Active) (n : Nat) (bs : List Byte),
    (s.dchan c).active = some a →
    a.phase = .run →
    s.rgn (c / 16) ≠ 2 →
    s.boot.down = 0 →
    a.wq = [] →
    a.err = none →
    a.abort = false →
    a.freeze = false →
    a.reads < 64 →
    n = burstLen a.desc a.issued →
    a.issued + n < (cget a.desc dLen) →
    n ≤ 256 →
    cget a.desc dOp = 1 →
    cget a.desc dDstSpace = 0 →
    a.writes < 64 →
    a.out.all (fun e => e.1 != a.issued) = true →
    s.dmvCharge c a true 256 = some u →
    bs = fillBytes a.desc a.issued n →
    ∃ t, exec (.dmvBurstIssue ⟨c, false⟩) s = .next t ∧ t.sends (u.dmvSend c a.desc 0 (u.sideOf a true).2.1 n true (.dmvWrite c 0 (u.sideOf a true).2.1 (u.sideOf a true).2.2 (sideAddr a.desc true a.issued) bs false (cget a.desc dHint) (cget a.desc dSt)) bs) ∧
      (t.dchan c).active = some (Active.feedAll { a.noteLast (sideAddr a.desc true a.issued) a.issued bs false with issued := a.issued + n, since := none, came := a.came ++ [(a.issued, bs)] })) ∧
  (∀ (s : State) (c : Chan) (a : Active) (x : DmvCell) (l : List DmvCell),
    (s.dchan c).active = some a →
    a.phase = .run →
    s.rgn (c / 16) ≠ 2 →
    s.boot.down = 0 →
    a.wq = x :: l →
    (a.writes ≥ 64 ∨ s.dmvCharge c a true 256 = none → ∃ t, exec (.dmvBurstIssue ⟨c, false⟩) s = .next t ∧ t.out = s.out ∧ (t.dchan c).active = some (if a.writes ≥ 64 then a else s.dmvWaits c a)) ∧
    (a.writes < 64 → s.dmvCharge c a true 256 ≠ none → ∃ t, exec (.dmvBurstIssue ⟨c, false⟩) s = .next t ∧ t = ((s.dmvIssue c a).1.setActive c (some (s.dmvIssue c a).2)).settleDmv c)) ∧
  (∀ (s u : State) (c : Chan) (a : Active),
    (s.dchan c).active = some a →
    a.phase = .run →
    s.rgn (c / 16) ≠ 2 →
    s.boot.down = 0 →
    a.wq = [] →
    a.out = [] →
    a.err = none →
    a.abort = false →
    a.issued = (cget a.desc dLen) + appendLen a.desc →
    (cget a.desc dOp = 2 → appendLen a.desc = 0 → exec (.dmvBurstIssue ⟨c, false⟩) s = .next (s.finish c a (if a.poison then 2 else 0) (cget a.desc dLen) 0)) ∧
    (cget a.desc dOp ≠ 2 → (s.sideOf a true).1 ≠ 1 → s.dmvCharge c a true 64 = some u →
      exec (.dmvBurstIssue ⟨c, false⟩) s = .next ((u.setActive c (some { a with since := none, phase := .readback })).dmvAsk c a.desc (u.sideOf a true) (lastLine a.desc) 64)) ∧
    (cget a.desc dOp ≠ 2 → (s.sideOf a true).1 ≠ 1 → s.dmvCharge c a true 64 = none → exec (.dmvBurstIssue ⟨c, false⟩) s = .next (s.setActive c (some (s.dmvWaits c a))))) ∧
  (∀ (s : State) (c : Chan) (a : Active),
    (s.dchan c).active = some a →
    a.phase = .run →
    s.rgn (c / 16) ≠ 2 →
    s.boot.down = 0 →
    a.wq = [] →
    a.err = none →
    a.abort = false →
    a.reads < 64 →
    a.issued = (cget a.desc dLen) →
    appendLen a.desc ≠ 0 →
    a.bytes = (cget a.desc dLen) →
    exec (.dmvBurstIssue ⟨c, false⟩) s = .next (s.writeCrc c a)) ∧
  (∀ (s : State) (c : Chan) (a : Active),
    (s.dchan c).active = some a →
    a.phase = .run →
    s.rgn (c / 16) ≠ 2 →
    s.boot.down = 0 →
    a.wq = [] →
    (∀ st n fa, a.out = [] → a.abort = false → a.err = some (st, n, fa) → exec (.dmvBurstIssue ⟨c, false⟩) s = .next (s.finish c a st n (if st = 1 then fa else 0))) ∧
    (a.out = [] → a.abort = true → ∃ t, exec (.dmvBurstIssue ⟨c, false⟩) s = .next t ∧ t = (((s.dropActive c).set DMV_CH_CMD.RESULT c 0).set DMV_CH_CMD.BUSY c 0).set DMV_CH_CMD.DONE c 1) ∧
    (∀ k, a.out = [] → a.abort = false → a.err = none → a.freeze = true → a.carrel = some k → a.issued < (cget a.desc dLen) → exec (.dmvBurstIssue ⟨c, false⟩) s = .next (s.keepActive c k a)) ∧
    (a.out ≠ [] → a.err.isSome = true ∨ a.abort = true → exec (.dmvBurstIssue ⟨c, false⟩) s = .next s)) ∧
  (∀ (s : State) (c : Chan) (a : Active),
    ((s.dchan c).active.all (fun a => a.phase != .run) = true ∨ s.rgn (c / 16) = 2 ∨ s.boot.down ≠ 0 → exec (.dmvBurstIssue ⟨c, false⟩) s = .next s) ∧
    ((s.dchan c).active = some a → a.phase = .run ∨ a.phase = .readback → exec (.dmvBurstIssue ⟨c, true⟩) s =
      .next ((s.record (occ (dmvSet (c / 16)) 3 5 c)).finish c { a with out := [], wq := [] } 9 (min a.bytes (cget a.desc dLen)) 0)) ∧
    ((s.dchan c).active = none → exec (.dmvBurstIssue ⟨c, true⟩) s = .next (s.record (occ (dmvSet (c / 16)) 3 5 c)))) ∧
  (∀ (s : State) (c : Chan) (a : Active) (off n : Nat) (bs : List Byte),
    (s.dchan c).active = some a →
    a.phase = .run →
    a.err = none →
    a.abort = false →
    a.freeze = false →
    a.issued < (cget a.desc dLen) →
    cget a.desc dOp = 2 →
    a.out.find? (fun e => e.1 == off) = some (off, n, false) →
    (∃ t, exec (.dmvBurstComplete c off .ok bs) s = .next t ∧ (t.dchan c).active =
        some (Active.feedAll { a with out := a.out.filter (fun e => e.1 != off), came := a.came ++ [(off, padTo n bs)] }) ∧
      wordsAt s t [(.DMV_CH_STS, c), (.DMV_CH_PROG, c)] ∧ (∀ e : Chan, e ≠ c → t.dchan e = s.dchan e) ∧ { t with regs := s.regs, dmv := s.dmv, arc := s.arc } = s) ∧
    (∃ t, exec (.dmvBurstComplete c off .poison bs) s = .next t ∧ (t.dchan c).active =
        some (Active.feedAll { a with poison := true, out := a.out.filter (fun e => e.1 != off), came := a.came ++ [(off, padTo n bs)] }) ∧
      wordsAt s t [(.DMV_CH_STS, c), (.DMV_CH_PROG, c)] ∧ (∀ e : Chan, e ≠ c → t.dchan e = s.dchan e) ∧ { t with regs := s.regs, dmv := s.dmv, arc := s.arc } = s) ∧
    (s.rgn (c / 16) ≠ 2 → (∃ t, exec (.dmvBurstComplete c off .bufCorrected bs) s = .next t ∧ t.stsBit (dmvSet (c / 16)) 0 ∧ (t.dchan c).active =
        some (Active.feedAll { a with out := a.out.filter (fun e => e.1 != off), came := a.came ++ [(off, padTo n bs)] })) ∧
      (∃ t, exec (.dmvBurstComplete c off .bufLost bs) s = .next t ∧ t.stsBit (dmvSet (c / 16)) 1 ∧ (t.dchan c).active =
        some (Active.feedAll { a with poison := true, out := a.out.filter (fun e => e.1 != off), came := a.came ++ [(off, padTo n bs)] })))) ∧
  (∀ (s u v : State) (c : Chan) (a : Active) (off n : Nat) (bs : List Byte),
    (s.dchan c).active = some a →
    a.phase = .run →
    a.err = none →
    a.abort = false →
    a.freeze = false →
    a.wq = [] →
    a.issued < (cget a.desc dLen) →
    cget a.desc dOp = 0 →
    cget a.desc dDstSpace = 0 →
    0 < n →
    n ≤ 256 →
    bs.length = n →
    a.out.filter (fun e => e.1 == off) = [(off, n, false)] →
    a.writes < 64 →
    u = s.count (c / 16) 0x11 (c % 16) n →
    u.dmvCharge c a true 256 = some v →
    ∃ t, exec (.dmvBurstComplete c off .ok bs) s = .next t ∧
      t.sends (v.dmvSend c a.desc 0 (v.sideOf a true).2.1 n true (.dmvWrite c 0 (v.sideOf a true).2.1 (v.sideOf a true).2.2 (sideAddr a.desc true off) bs a.poison (cget a.desc dHint) (cget a.desc dSt)) bs) ∧
      (t.dchan c).active = some { Active.feedAll { a.noteLast (sideAddr a.desc true off) off bs a.poison with out := a.out.filter (fun e => e.1 != off), came := a.came ++ [(off, bs)] } with since := none }) ∧
  (∀ (s : State) (c : Chan) (a : Active) (off n : Nat) (wr : Bool) (bs : List Byte) (r : BurstRsp),
    (s.dchan c).active = some a →
    a.out.find? (fun e => e.1 == off) = some (off, n, wr) →
    (wr = true → a.wq.any (fun x => x.off == off) = true → exec (.dmvBurstComplete c off r bs) s = .next s) ∧
    (wr = false ∨ a.wq.any (fun x => x.off == off) = false → rspStatus r ≠ 0 → ∃ t, exec (.dmvBurstComplete c off r bs) s = .next t ∧
      (r ≠ .targetError → t = (s.setActive c (some ({ a with out := a.out.filter (fun e => e.1 != off) }.fail (rspStatus r) off n (sideAddr a.desc wr off)))).settleDmv c) ∧
      (r = .targetError → t = ((s.setActive c (some ({ a with out := a.out.filter (fun e => e.1 != off) }.fail 10 off n (sideAddr a.desc wr off)))).settleDmv c).targetFails a.desc off)) ∧
    (wr = true → a.wq.any (fun x => x.off == off) = false → rspStatus r = 0 → exec (.dmvBurstComplete c off r bs) s =
      .next (((s.dmvWritten c a off n).1.setActive c (some (s.dmvWritten c a off n).2)).settleDmv c))) ∧
  (∀ (s : State) (c : Chan) (off : Nat) (bs : List Byte) (r : BurstRsp),
    (s.dchan c).active.all (fun a => a.out.all (fun e => e.1 != off)) = true →
    exec (.dmvBurstComplete c off r bs) s = .next s) ∧
  (∀ (s : State) (c : Chan) (a : Active) (bs : List Byte) (r : BurstRsp),
    (s.dchan c).active = some a →
    a.phase = .readback →
    (rspStatus r = 0 → a.lastP = (r == .poison) → a.last.all (fun e => bs.getD e.1 0 == e.2) = true → exec (.readbackComplete c r bs) s = .next (s.finish c a (if a.poison then 2 else 0) (cget a.desc dLen) 0)) ∧
    (rspStatus r = 0 → a.lastP ≠ (r == .poison) ∨ a.last.any (fun e => bs.getD e.1 0 != e.2) = true → exec (.readbackComplete c r bs) s = .next (s.finish c a 7 (cget a.desc dLen) 0)) ∧
    (rspStatus r ≠ 0 → rspStatus r ≠ 10 → exec (.readbackComplete c r bs) s = .next (s.finish c a (rspStatus r) (cget a.desc dLen) (if rspStatus r = 1 then lastLine a.desc else 0))) ∧
    (rspStatus r = 10 → exec (.readbackComplete c r bs) s = .next ((s.finish c a 10 (cget a.desc dLen) 0).targetFails a.desc ((cget a.desc dLen) - 1)))) ∧
  (∀ (s : State) (c : Chan) (bs : List Byte) (r : BurstRsp),
    (s.dchan c).active.all (fun a => a.phase != .readback) = true →
    exec (.readbackComplete c r bs) s = .next s) ∧
  (∀ (s : State) (c : Chan) (a : Active) (q : Nat),
    (s.dchan c).active = some a →
    a.phase = .held →
    s.cqOf c a = some q →
    (cget (s.ctx q) cOwner ≠ 2 → exec (.dmvCqHoldTmo c) s = .next ((((s.setCtx q (cbump (s.ctx q) cDrops 1)).conclude' c a true).nextRecords).record ⟨dmvSet (c / 16), 2, 0, 5, c, 0⟩)) ∧
    (cget (s.ctx q) cOwner = 2 → exec (.dmvCqHoldTmo c) s = .next (((((s.setCtx q (cbump (s.ctx q) cDrops 1)).conclude' c a true).nextRecords).record ⟨dmvSet (c / 16), 2, 2, 2, cget (s.ctx q) cCarrel, 0⟩).carrelContained (cget (s.ctx q) cCarrel)))) ∧
  (∀ (s : State) (c : Chan),
    (s.dchan c).active.all (fun a => a.phase != .held) = true →
    exec (.dmvCqHoldTmo c) s = .next s) ∧
  (∀ (s : State) (p : Path) (c : Chan),
    s.admits p (dmvSet (c / 16)) →
    ∃ t, exec (.shadowArm p c) s = .next t ∧ t.flag DMV_SHD_CTL.ARM c = true ∧ t.get DMV_SHD_CTL.TAKEN c = s.get DMV_SHD_CTL.TAKEN c ∧ wordsKept s t [.DMV_SHD_CTL] ∧ onlyRegs s t) ∧
  (∀ (s : State) (p : Path) (c : Chan) (a : Active),
    s.admits p (dmvSet (c / 16)) →
    s.flag DMV_CH_CMD.BUSY c = false →
    (s.dchan c).active = some a →
    (a.phase = .run → a.out ≠ [] ∨ a.wq ≠ [] → ∃ t, exec (.dmvAbort p c) s = .next t ∧ t.flag DMV_CH_CMD.BUSY c = true ∧ (t.dchan c).active = some { a with abort := true } ∧
      wordsKept s t [.DMV_CH_CMD, .DMV_CH_STS, .DMV_CH_PROG] ∧ (∀ e : Chan, e ≠ c → t.dchan e = s.dchan e) ∧ { t with regs := s.regs, dmv := s.dmv } = s) ∧
    (a.phase ≠ .run ∨ (a.out = [] ∧ a.wq = []) → exec (.dmvAbort p c) s = .next (((s.dropActive c).set DMV_CH_CMD.RESULT c 0).set DMV_CH_CMD.DONE c 1))) ∧
  (∀ (s : State) (p : Path) (c : Chan),
    s.admits p (dmvSet (c / 16)) →
    (s.flag DMV_CH_CMD.BUSY c = true → exec (.dmvAbort p c) s = .next (s.discard (dmvSet (c / 16)))) ∧
    (s.flag DMV_CH_CMD.BUSY c = false → (s.dchan c).active = none → exec (.dmvAbort p c) s = .next ((s.set DMV_CH_CMD.RESULT c 1).set DMV_CH_CMD.DONE c 1))) ∧
  (∀ (s : State) (p : Path) (n : Fin 4096) (v : Word),
    s.admits p (dmvSet (n / 1024)) →
    ((bit v 20 = true → s.mayServe (n / 64) (bits v 0 20) = true) → ∃ t, exec (.ringTableWrite p n v) s = .next t ∧ t.word .DMV_CH_RING n = v ∧ (∀ m : Fin 4096, m ≠ n → t.word .DMV_CH_RING m = s.word .DMV_CH_RING m) ∧
      wordsKept s t [.DMV_CH_RING] ∧ onlyRegs s t) ∧
    (bit v 20 = true → s.mayServe (n / 64) (bits v 0 20) = false → exec (.ringTableWrite p n v) s = .next (s.discard (dmvSet (n / 1024))))) ∧
  (∀ (s : State) (p : Path) (a : BitVec 32) (d : BitVec 64) (i : Nat),
    s.writeReaches p a (.reg .DMV_CH_CTL i) →
    exec (.registerWrite p a d 4) s = .next ((s.stored .DMV_CH_CTL i d a).showChan i)) ∧
  (∀ (s : State) (p : Path) (a : BitVec 32) (d : BitVec 64) (i : Nat),
    s.writeReaches p a (.reg .DMV_CH_CMD i) →
    exec (.registerWrite p a d 4) s = if d.getLsbD 0 then (if s.flag DMV_CH_CMD.BUSY i then .next (if (s.stored .DMV_CH_CMD i d a).cesSet (regSet s .DMV_CH_CMD i a.toNat) = s.cesSet (regSet s .DMV_CH_CMD i a.toNat) then (s.stored .DMV_CH_CMD i d a).discard (regSet s .DMV_CH_CMD i a.toNat) else (s.stored .DMV_CH_CMD i d a)) else exec (.dmvAbort p (Fin.ofNat 64 i)) (s.stored .DMV_CH_CMD i d a)) else .next (s.stored .DMV_CH_CMD i d a)) ∧
  (∀ (s : State) (p : Path) (a : BitVec 32) (d : BitVec 64) (i : Nat),
    s.writeReaches p a (.reg .DMV_CH_RING i) →
    exec (.registerWrite p a d 4) s = exec (.ringTableWrite p (Fin.ofNat 4096 i) (d.setWidth 32)) s) ∧
  (∀ (s : State) (p : Path) (c : Chan) (n : Fin 4096) (v : Word),
    s.mayWrite p = false →
    exec (.shadowArm p c) s = .next (if s.windowGone (setUnit (dmvSet (c / 16))) || s.unheard p then s else s.discard (dmvSet (c / 16))) ∧
    exec (.dmvAbort p c) s = .next (if s.windowGone (setUnit (dmvSet (c / 16))) || s.unheard p then s else s.discard (dmvSet (c / 16))) ∧
    exec (.ringTableWrite p n v) s = .next (if s.windowGone (setUnit (dmvSet (n / 1024))) || s.unheard p then s else s.discard (dmvSet (n / 1024))))

/-- CRL_CREATE of a FREE carrel with a good owner makes it ACTIVE with its counters zero, with another owner ends with RESULT 1; CRL_FREEZE makes an ACTIVE one FREEZING and stops its channels; CARREL_FROZEN makes it FROZEN with RESULT 0, or LATE after 100 µs; CRL_SAVE makes its record, and SAVE_DONE places it in HBM or at the host with LEN, or ends with HOST_FAIL; CRL_RESTORE of a record that passes every check builds a FROZEN carrel from it, and one that does not changes nothing but RESULT and raises CRL_RECORD_BAD; CRL_THAW makes a FROZEN one ACTIVE with ERROR 0 and hands its descriptors back, or is refused while its share lies in an isolated region; CRL_DESTROY frees it with its queues, slots and quota. From any other state each ends with BAD_STATE, and while BUSY each stores its fields and is discarded. A slot takes a context of its carrel only, and a share word takes channels of the template only; a channel removed gives up the carrel's rings. A write of a register of the group that reaches it stores the fields and does what the written bits start: the same as the command. Given by a path that may not write its register, a command is counted as a discard and does nothing else; in the window of an isolated region, or through the manager port before ready, it does nothing. -/
def Obligations.CarrelLifeCycle : Prop :=
  (∀ (s : State) (p : Path) (k : Carrel) (h : Bool),
    s.admits p setCrl →
    s.flag CRL_CMD.BUSY 0 = true →
    exec (.crlCreate p k) s = .next ((((s.set CRL_CMD.CARREL 0 k.toNat).set CRL_CMD.OP 0 1).set CRL_CMD.DEST 0 (s.get CRL_CMD.DEST 0)).discard setCrl) ∧
    exec (.crlFreeze p k) s = .next ((((s.set CRL_CMD.CARREL 0 k.toNat).set CRL_CMD.OP 0 2).set CRL_CMD.DEST 0 (s.get CRL_CMD.DEST 0)).discard setCrl) ∧
    exec (.crlThaw p k) s = .next ((((s.set CRL_CMD.CARREL 0 k.toNat).set CRL_CMD.OP 0 3).set CRL_CMD.DEST 0 (s.get CRL_CMD.DEST 0)).discard setCrl) ∧
    exec (.crlSave p k h) s = .next ((((s.set CRL_CMD.CARREL 0 k.toNat).set CRL_CMD.OP 0 4).set CRL_CMD.DEST 0 (if h then 1 else 0)).discard setCrl) ∧
    exec (.crlRestore p k .hbm) s = .next ((((s.set CRL_CMD.CARREL 0 k.toNat).set CRL_CMD.OP 0 5).set CRL_CMD.DEST 0 0).discard setCrl) ∧
    exec (.crlDestroy p k) s = .next ((((s.set CRL_CMD.CARREL 0 k.toNat).set CRL_CMD.OP 0 6).set CRL_CMD.DEST 0 (s.get CRL_CMD.DEST 0)).discard setCrl)) ∧
  (∀ (s : State) (p : Path) (k : Carrel) (h : Bool),
    s.admits p setCrl →
    s.flag CRL_CMD.BUSY 0 = false →
    (s.get CRL_CFG.STATE k.toNat ≠ 0 → exec (.crlCreate p k) s = .next ((((s.set CRL_CMD.CARREL 0 k.toNat).set CRL_CMD.OP 0 1).set CRL_CMD.DEST 0 (s.get CRL_CMD.DEST 0)).set CRL_CMD.RESULT 0 2)) ∧
    (s.get CRL_CFG.STATE k.toNat ≠ 1 → exec (.crlFreeze p k) s = .next ((((s.set CRL_CMD.CARREL 0 k.toNat).set CRL_CMD.OP 0 2).set CRL_CMD.DEST 0 (s.get CRL_CMD.DEST 0)).set CRL_CMD.RESULT 0 2)) ∧
    (s.get CRL_CFG.STATE k.toNat ≠ 3 → exec (.crlThaw p k) s = .next ((((s.set CRL_CMD.CARREL 0 k.toNat).set CRL_CMD.OP 0 3).set CRL_CMD.DEST 0 (s.get CRL_CMD.DEST 0)).set CRL_CMD.RESULT 0 2)) ∧
    (s.get CRL_CFG.STATE k.toNat ≠ 3 → exec (.crlSave p k h) s = .next ((((s.set CRL_CMD.CARREL 0 k.toNat).set CRL_CMD.OP 0 4).set CRL_CMD.DEST 0 (if h then 1 else 0)).set CRL_CMD.RESULT 0 2)) ∧
    (s.get CRL_CFG.STATE k.toNat ≠ 0 → exec (.crlRestore p k .hbm) s = .next ((((s.set CRL_CMD.CARREL 0 k.toNat).set CRL_CMD.OP 0 5).set CRL_CMD.DEST 0 0).set CRL_CMD.RESULT 0 2)) ∧
    (s.get CRL_CFG.STATE k.toNat ≠ 3 → exec (.crlDestroy p k) s = .next ((((s.set CRL_CMD.CARREL 0 k.toNat).set CRL_CMD.OP 0 6).set CRL_CMD.DEST 0 (s.get CRL_CMD.DEST 0)).set CRL_CMD.RESULT 0 2))) ∧
  (∀ (s : State) (p : Path) (k : Carrel),
    s.admits p setCrl →
    s.flag CRL_CMD.BUSY 0 = false →
    s.get CRL_CFG.STATE k.toNat = 0 →
    (s.ownerGood k.toNat = true → ∃ t, exec (.crlCreate p k) s = .next t ∧ t.get CRL_CFG.STATE k.toNat = 1 ∧ t.get CRL_CFG.ERROR k.toNat = 0 ∧ t.get CRL_CMD.RESULT 0 = 0 ∧
      t.get CRL_TPL.USER_CTR k.toNat = s.tplOf k.toNat 21 1 ∧ (∀ i < 32, Tab.get 0 t.dmv.ctr (32 * k.toNat + i) = 0) ∧ wordsKept s t [.CRL_CMD, .CRL_CFG, .CRL_TPL] ∧ { t with regs := s.regs, dmv := s.dmv } = s) ∧
    (s.ownerGood k.toNat = false → exec (.crlCreate p k) s = .next (((((s.set CRL_CMD.CARREL 0 k.toNat).set CRL_CMD.OP 0 1).set CRL_CMD.DEST 0 (s.get CRL_CMD.DEST 0)).set CRL_CMD.RESULT 0 0).set CRL_CMD.RESULT 0 1))) ∧
  (∀ (s : State) (p : Path) (k : Carrel),
    s.admits p setCrl →
    s.flag CRL_CMD.BUSY 0 = false →
    s.get CRL_CFG.STATE k.toNat = 1 →
    s.carrelBusy k.toNat = false →
    s.dmv.chan.all (fun e => e.2.resume == []) = true →
    ∃ t, exec (.crlFreeze p k) s = .next t ∧ t.get CRL_CFG.STATE k.toNat = 2 ∧ t.flag CRL_CMD.BUSY 0 = true ∧ t.dmv.freezing = some k.toNat ∧
      Tab.get 0 t.dmv.froze k.toNat = s.timeOf 4 ∧ t.dmv.chan = s.dmv.chan ∧ wordsKept s t [.CRL_CMD, .CRL_CFG] ∧ { t with regs := s.regs, dmv := s.dmv } = s) ∧
  (∀ (s : State) (p : Path) (k : Carrel) (c : Chan) (a : Active),
    s.admits p setCrl →
    s.flag CRL_CMD.BUSY 0 = false →
    s.get CRL_CFG.STATE k.toNat = 1 →
    s.dmv.chan = [(c.val, { active := some a })] →
    a.carrel = some k.toNat →
    a.phase = .fetch ∨ (a.phase = .run ∧ a.out ≠ []) →
    ∃ t, exec (.crlFreeze p k) s = .next t ∧ t.get CRL_CFG.STATE k.toNat = 2 ∧ t.flag CRL_CMD.BUSY 0 = true ∧ t.dmv.freezing = some k.toNat ∧ (t.dchan c).active = some { a with freeze := true } ∧
      wordsKept s t [.CRL_CMD, .CRL_CFG, .DMV_CH_STS, .DMV_CH_PROG] ∧ { t with regs := s.regs, dmv := s.dmv } = s) ∧
  (∀ (s : State) (k : Carrel),
    s.lib.mbxRun = [] →
    s.get CRL_CFG.STATE k.toNat = 2 →
    s.carrelBusy k.toNat = false →
    s.dmv.freezing = some k.toNat →
    (s.timeOf 4 ≤ Tab.get 0 s.dmv.froze k.toNat + 100000 → ∃ t, exec (.carrelFrozen k) s = .next t ∧ t.get CRL_CFG.STATE k.toNat = 3 ∧ t.get CRL_CMD.RESULT 0 = 0 ∧ t.flag CRL_CMD.BUSY 0 = false ∧ t.dmv.freezing = none ∧
      wordsKept s t [.CRL_CMD, .CRL_CFG] ∧ { t with regs := s.regs, dmv := s.dmv } = s) ∧
    (Tab.get 0 s.dmv.froze k.toNat + 100000 < s.timeOf 4 → ∃ t, exec (.carrelFrozen k) s = .next t ∧ t.get CRL_CFG.STATE k.toNat = 3 ∧ t.get CRL_CMD.RESULT 0 = 3 ∧ t.flag CRL_CMD.BUSY 0 = false ∧ t.dmv.freezing = none ∧
      t.stsBit setCrl 0)) ∧
  (∀ (s : State) (k : Carrel),
    s.lib.mbxRun = [] →
    (s.get CRL_CFG.STATE k.toNat ≠ 2 ∨ s.carrelBusy k.toNat = true → exec (.carrelFrozen k) s = .next s) ∧
    (s.get CRL_CFG.STATE k.toNat = 2 → s.carrelBusy k.toNat = false → s.dmv.freezing ≠ some k.toNat → s.timeOf 4 ≤ Tab.get 0 s.dmv.froze k.toNat + 100000 →
      ∃ t, exec (.carrelFrozen k) s = .next t ∧ t.get CRL_CFG.STATE k.toNat = 3 ∧ wordsKept s t [.CRL_CFG] ∧ { t with regs := s.regs, dmv := s.dmv } = s)) ∧
  (∀ (s : State) (p : Path) (k : Carrel) (x : Inflight),
    s.admits p setCrl →
    s.flag CRL_CMD.BUSY 0 = false →
    s.get CRL_CFG.STATE k.toNat = 3 →
    ((s.shareOf k.toNat).all (fun c => s.rgn (c / 16) != 2) = true → Tab.get [] s.dmv.kept k.toNat = [] → ∃ t, exec (.crlThaw p k) s = .next t ∧ t.get CRL_CFG.STATE k.toNat = 1 ∧ t.get CRL_CFG.ERROR k.toNat = 0 ∧
      t.get CRL_CMD.RESULT 0 = 0 ∧ t.dmv.chan = s.dmv.chan ∧ wordsKept s t [.CRL_CMD, .CRL_CFG] ∧ { t with regs := s.regs, dmv := s.dmv } = s) ∧
    ((s.shareOf k.toNat).all (fun c => s.rgn (c / 16) != 2) = true → Tab.get [] s.dmv.kept k.toNat = [x] → s.inShare k.toNat x.chan = true → ∃ t, exec (.crlThaw p k) s = .next t ∧ t.get CRL_CFG.STATE k.toNat = 1 ∧
      (t.dchan x.chan).resume = (s.dchan x.chan).resume ++ [(k.toNat, x)] ∧ Tab.get [] t.dmv.kept k.toNat = [] ∧ wordsKept s t [.CRL_CMD, .CRL_CFG] ∧ { t with regs := s.regs, dmv := s.dmv } = s) ∧
    ((s.shareOf k.toNat).any (fun c => s.rgn (c / 16) == 2) = true → exec (.crlThaw p k) s = .next (((((s.set CRL_CMD.CARREL 0 k.toNat).set CRL_CMD.OP 0 3).set CRL_CMD.DEST 0 (s.get CRL_CMD.DEST 0)).set CRL_CMD.RESULT 0 0).set CRL_CMD.RESULT 0 1))) ∧
  (∀ (s : State) (p : Path) (k : Carrel) (n : Nat),
    s.admits p setCrl →
    s.flag CRL_CMD.BUSY 0 = false →
    s.get CRL_CFG.STATE k.toNat = 3 →
    n = (s.word .CRL_ADDR_LO 0).toNat + 2 ^ 32 * (s.word .CRL_ADDR_HI 0).toNat →
    (∃ t, exec (.crlSave p k false) s = .next t ∧ t.flag CRL_CMD.BUSY 0 = true ∧ t.get CRL_CMD.RESULT 0 = 0 ∧ t.dmv.saving = some (k.toNat, false, s.record_ k.toNat) ∧
      wordsKept s t [.CRL_CMD] ∧ { t with regs := s.regs, dmv := s.dmv } = s) ∧
    (∃ t, exec (.crlSave p k true) s = .next t ∧ t.flag CRL_CMD.BUSY 0 = true ∧ t.get CRL_CMD.RESULT 0 = 0 ∧ t.dmv.saving = some (k.toNat, true, s.record_ k.toNat) ∧
      t.out = .hostRead (s.get CRL_ARG0.PORT 0) (s.get CRL_ARG0.PASID 0) ((n + (s.record_ k.toNat).length - 1) / 64 * 64) 64 ::
        .hostWrite (s.get CRL_ARG0.PORT 0) (s.get CRL_ARG0.PASID 0) n (s.record_ k.toNat) :: s.out ∧ wordsKept s t [.CRL_CMD] ∧ { t with regs := s.regs, dmv := s.dmv, out := s.out } = s)) ∧
  (∀ (s : State) (k : Carrel) (bs : List Byte) (b : Bool),
    s.lib.mbxRun = [] →
    (s.dmv.saving = some (k.toNat, false, bs) → ∃ t, exec (.saveDone b) s = .next t ∧ t.flag CRL_CMD.BUSY 0 = false ∧ t.dmv.saving = none ∧ t.get CRL_CMD_STS.LEN 0 = bs.length % 2 ^ CRL_CMD_STS.LEN.w ∧
      (∀ i < bs.length, peek t.hbm (recordAt (s.carrelPort k.toNat) k.toNat + i) = bs.getD i 0) ∧ hbmKept s t (recordAt (s.carrelPort k.toNat) k.toNat) bs.length ∧
      wordsAt s t [(.CRL_CMD, 0), (.CRL_CMD_STS, 0)] ∧ { t with regs := s.regs, dmv := s.dmv, hbm := s.hbm, grn := s.grn, arc := s.arc } = s) ∧
    (s.dmv.saving = some (k.toNat, true, bs) → (∃ t, exec (.saveDone true) s = .next t ∧ t.flag CRL_CMD.BUSY 0 = false ∧ t.dmv.saving = none ∧ t.get CRL_CMD_STS.LEN 0 = bs.length % 2 ^ CRL_CMD_STS.LEN.w ∧
        wordsKept s t [.CRL_CMD, .CRL_CMD_STS] ∧ { t with regs := s.regs, dmv := s.dmv } = s) ∧
      ∃ t, exec (.saveDone false) s = .next t ∧ t.flag CRL_CMD.BUSY 0 = false ∧ t.dmv.saving = none ∧ t.get CRL_CMD.RESULT 0 = 8 ∧ wordsKept s t [.CRL_CMD] ∧ { t with regs := s.regs, dmv := s.dmv } = s) ∧
    (s.dmv.saving = none → exec (.saveDone b) s = .next s)) ∧
  (∀ (s u : State) (p : Path) (k : Carrel) (b : List Byte),
    s.admits p setCrl →
    s.flag CRL_CMD.BUSY 0 = false →
    s.get CRL_CFG.STATE k.toNat = 0 →
    s.dmv.restoring = none →
    u = (((s.set CRL_CMD.CARREL 0 k.toNat).set CRL_CMD.OP 0 5).set CRL_CMD.DEST 0 1).set CRL_CMD.RESULT 0 0 →
    u.restoreResult (recMap b) k.toNat (u.get CRL_ARG1.QID_BASE 0) true = 0 →
    ∃ t, exec (.crlRestore p k (.host b)) s = .next t ∧ t.get CRL_CFG.STATE k.toNat = 3 ∧ t.get CRL_CFG.ERROR k.toNat = 0 ∧
      t = ((u.restoreCarrel (recMap b) k.toNat (u.get CRL_ARG1.QID_BASE 0)).set CRL_CMD_STS.LEN 0 (recMap b).size).set CRL_CMD_STS.INFLIGHT 0 (recMap b).nf) ∧
  (∀ (s u : State) (p : Path) (k : Carrel) (b : List Byte),
    s.admits p setCrl →
    s.flag CRL_CMD.BUSY 0 = false →
    s.get CRL_CFG.STATE k.toNat = 0 →
    s.dmv.restoring = none →
    u = (((s.set CRL_CMD.CARREL 0 k.toNat).set CRL_CMD.OP 0 5).set CRL_CMD.DEST 0 0).set CRL_CMD.RESULT 0 0 →
    b = peeks u.hbm (recordAt (u.get CRL_ARG0.PORT 0) (u.get CRL_ARG1.SRC_CARREL 0)) 17104 →
    u.restoreResult (recMap b) k.toNat (u.get CRL_ARG1.QID_BASE 0) false = 0 →
    ∃ t, exec (.crlRestore p k .hbm) s = .next t ∧ t.get CRL_CFG.STATE k.toNat = 3 ∧ t.get CRL_CFG.ERROR k.toNat = 0 ∧
      t = ((u.restoreCarrel (recMap b) k.toNat (u.get CRL_ARG1.QID_BASE 0)).set CRL_CMD_STS.LEN 0 (recMap b).size).set CRL_CMD_STS.INFLIGHT 0 (recMap b).nf) ∧
  (∀ (s u : State) (p : Path) (k : Carrel) (b : List Byte) (v : Nat),
    s.admits p setCrl →
    s.get CRL_CFG.STATE k.toNat = 0 →
    s.dmv.restoring = some k.toNat →
    u = (((({ s.set CRL_CMD.BUSY 0 0 with dmv := { s.dmv with restoring := none } } : State).set CRL_CMD.CARREL 0 k.toNat).set CRL_CMD.OP 0 5).set CRL_CMD.DEST 0 1).set CRL_CMD.RESULT 0 0 →
    v = u.restoreResult (recMap b) k.toNat (u.get CRL_ARG1.QID_BASE 0) true →
    (v ≠ 0 → exec (.crlRestore p k (.host b)) s = .next ((u.set CRL_CMD.RESULT 0 v).record (occ setCrl 1 2 k.toNat))) ∧ exec (.crlRestore p k .hostFail) s = .next (u.set CRL_CMD.RESULT 0 8) ∧ u.flag CRL_CMD.BUSY 0 = false) ∧
  (∀ (s u : State) (p : Path) (k : Carrel) (b : List Byte) (v : Nat),
    s.admits p setCrl →
    s.flag CRL_CMD.BUSY 0 = false →
    s.get CRL_CFG.STATE k.toNat = 0 →
    u = (((s.set CRL_CMD.CARREL 0 k.toNat).set CRL_CMD.OP 0 5).set CRL_CMD.DEST 0 0).set CRL_CMD.RESULT 0 0 →
    b = peeks u.hbm (recordAt (u.get CRL_ARG0.PORT 0) (u.get CRL_ARG1.SRC_CARREL 0)) 17104 →
    v = u.restoreResult (recMap b) k.toNat (u.get CRL_ARG1.QID_BASE 0) false →
    v ≠ 0 →
    exec (.crlRestore p k .hbm) s = .next ((u.set CRL_CMD.RESULT 0 v).record (occ setCrl 1 2 k.toNat))) ∧
  (∀ (s : State) (p : Path) (k : Carrel),
    s.admits p setCrl →
    s.flag CRL_CMD.BUSY 0 = false →
    s.get CRL_CFG.STATE k.toNat = 3 →
    ∃ t, exec (.crlDestroy p k) s = .next t ∧ t.get CRL_CFG.STATE k.toNat = 0 ∧ t.get CRL_CFG.ERROR k.toNat = 0 ∧ (∀ i < 64, t.word .CRL_SLOT (64 * k.toNat + i) = 0) ∧
      (∀ r < 4, t.get GRN_CRL_QUOTA.QUOTA (4096 * r + k.toNat) = 0) ∧ Tab.get [] t.dmv.kept k.toNat = [] ∧ t.carrelQueues k.toNat = []) ∧
  (∀ (s : State) (p : Path) (k : Carrel) (i : Fin 64) (v : Word) (x : BitVec 512),
    s.admits p setCrl →
    x = s.ctx (bits v 0 20) →
    (bit v 20 = false ∨ (cget x cValid = 1 ∧ cget x cOwner = 2 ∧ cget x cCarrel = k.toNat) →
      ∃ t, exec (.carrelSlotWrite p k i v) s = .next t ∧ t.word .CRL_SLOT (64 * k.toNat + i) = v ∧ wordsAt s t [(.CRL_SLOT, 64 * k.toNat + i)] ∧ wordsKept s t [.CRL_SLOT] ∧ onlyRegs s t) ∧
    (bit v 20 = true → cget x cValid ≠ 1 ∨ cget x cOwner ≠ 2 ∨ cget x cCarrel ≠ k.toNat → exec (.carrelSlotWrite p k i v) s = .next (s.discard setCrl))) ∧
  (∀ (s : State) (p : Path) (k : Carrel) (v : Word) (m n : Nat),
    s.admits p setCrl →
    s.get CRL_CFG.STATE k.toNat = 0 →
    m = v.toNat &&& s.tplOf k.toNat 64 32 →
    n = v.toNat &&& s.tplOf k.toNat 96 32 →
    exec (.carrelShareWrite p k false v) s = .next ((if m = v.toNat then s else s.discard setCrl).set CRL_CHAN_LO.MASK_LO k.toNat m) ∧
    exec (.carrelShareWrite p k true v) s = .next ((if n = v.toNat then s else s.discard setCrl).set CRL_CHAN_HI.MASK_HI k.toNat n)) ∧
  (∀ (s : State) (p : Path) (k : Carrel) (v : Word) (hi : Bool) (m lo : Nat),
    s.admits p setCrl →
    s.get CRL_CFG.STATE k.toNat ≠ 0 →
    lo = (if hi then 32 else 0) →
    m = v.toNat &&& s.tplOf k.toNat (64 + lo) 32 →
    ∃ t, exec (.carrelShareWrite p k hi v) s = .next t ∧ t.shareMask k.toNat / 2 ^ lo % 2 ^ 32 = m ∧ t.shareMask k.toNat / 2 ^ (32 - lo) % 2 ^ 32 = s.shareMask k.toNat / 2 ^ (32 - lo) % 2 ^ 32 ∧
      (∀ i < 32, (s.shareMask k.toNat).testBit (lo + i) = true → m.testBit i = false → s.runs (lo + i) k.toNat = false → ∀ e < 64, t.flag DMV_CH_RING.V (64 * (lo + i) + e) = true →
        cget (t.ctx (t.get DMV_CH_RING.QID (64 * (lo + i) + e))) cOwner ≠ 2 ∨ cget (t.ctx (t.get DMV_CH_RING.QID (64 * (lo + i) + e))) cCarrel ≠ k.toNat) ∧
      wordsKept s t [.CRL_CHAN_LO, .CRL_CHAN_HI, .DMV_CH_RING] ∧ { t with regs := s.regs, ces := s.ces } = s ∧ (m = v.toNat → t.ces = s.ces)) ∧
  (∀ (s : State) (p : Path) (a : BitVec 32) (d : BitVec 64) (i : Nat),
    s.writeReaches p a (.reg .CRL_CMD i) →
    exec (.registerWrite p a d 4) s = if d.getLsbD 16 then (if s.flag CRL_CMD.BUSY 0 then .next (if (s.stored .CRL_CMD i d a).cesSet (regSet s .CRL_CMD i a.toNat) = s.cesSet (regSet s .CRL_CMD i a.toNat) then (s.stored .CRL_CMD i d a).discard (regSet s .CRL_CMD i a.toNat) else (s.stored .CRL_CMD i d a))
      else if (bits (d.setWidth 32) 12 3) = 1 then exec (.crlCreate p (BitVec.ofNat 12 (bits (d.setWidth 32) 0 12))) (s.stored .CRL_CMD i d a) else if (bits (d.setWidth 32) 12 3) = 2 then exec (.crlFreeze p (BitVec.ofNat 12 (bits (d.setWidth 32) 0 12))) (s.stored .CRL_CMD i d a) else if (bits (d.setWidth 32) 12 3) = 3 then exec (.crlThaw p (BitVec.ofNat 12 (bits (d.setWidth 32) 0 12))) (s.stored .CRL_CMD i d a)
      else if (bits (d.setWidth 32) 12 3) = 4 then exec (.crlSave p (BitVec.ofNat 12 (bits (d.setWidth 32) 0 12)) (d.getLsbD 15)) (s.stored .CRL_CMD i d a) else if (bits (d.setWidth 32) 12 3) = 5 then (if d.getLsbD 15 then .next (crlRestoreRead p (BitVec.ofNat 12 (bits (d.setWidth 32) 0 12)) (s.stored .CRL_CMD i d a)) else exec (.crlRestore p (BitVec.ofNat 12 (bits (d.setWidth 32) 0 12)) .hbm) (s.stored .CRL_CMD i d a))
      else if (bits (d.setWidth 32) 12 3) = 6 then exec (.crlDestroy p (BitVec.ofNat 12 (bits (d.setWidth 32) 0 12))) (s.stored .CRL_CMD i d a) else .next ((s.stored .CRL_CMD i d a).set CRL_CMD.RESULT 0 1)) else .next (s.stored .CRL_CMD i d a)) ∧
  (∀ (s : State) (p : Path) (a : BitVec 32) (d : BitVec 64) (i : Nat),
    s.writeReaches p a (.reg .CRL_SLOT i) →
    exec (.registerWrite p a d 4) s = exec (.carrelSlotWrite p (BitVec.ofNat 12 (i / 64)) (Fin.ofNat 64 i) (d.setWidth 32)) s) ∧
  (∀ (s : State) (p : Path) (a : BitVec 32) (d : BitVec 64) (i : Nat),
    s.writeReaches p a (.reg .CRL_CHAN_LO i) →
    exec (.registerWrite p a d 4) s = exec (.carrelShareWrite p (BitVec.ofNat 12 i) false (d.setWidth 32)) s) ∧
  (∀ (s : State) (p : Path) (a : BitVec 32) (d : BitVec 64) (i : Nat),
    s.writeReaches p a (.reg .CRL_CHAN_HI i) →
    exec (.registerWrite p a d 4) s = exec (.carrelShareWrite p (BitVec.ofNat 12 i) true (d.setWidth 32)) s) ∧
  (∀ (s : State) (p : Path) (k : Carrel) (on : Bool) (x : Fin 64) (v : Word),
    s.mayWrite p = false →
    exec (.crlCreate p k) s = .next (if s.windowGone (setUnit setCrl) || s.unheard p then s else s.discard setCrl) ∧
    exec (.crlFreeze p k) s = .next (if s.windowGone (setUnit setCrl) || s.unheard p then s else s.discard setCrl) ∧
    exec (.crlThaw p k) s = .next (if s.windowGone (setUnit setCrl) || s.unheard p then s else s.discard setCrl) ∧
    exec (.crlDestroy p k) s = .next (if s.windowGone (setUnit setCrl) || s.unheard p then s else s.discard setCrl) ∧
    exec (.crlSave p k on) s = .next (if s.windowGone (setUnit setCrl) || s.unheard p then s else s.discard setCrl) ∧
    exec (.crlRestore p k .hbm) s = .next (if s.windowGone (setUnit setCrl) || s.unheard p then s else s.discard setCrl) ∧
    exec (.carrelSlotWrite p k x v) s = .next (if s.windowGone (setUnit setCrl) || s.unheard p then s else s.discard setCrl) ∧
    exec (.carrelShareWrite p k on v) s = .next (if s.windowGone (setUnit setCrl) || s.unheard p then s else s.discard setCrl))

/-- LDI, LUH, ADD, SUB, ADDI, AND, OR, XOR, ANDI, SHLI and SHRI write their value to T[D] and nothing else, whichever T registers are named; CBR goes to TGT where its condition holds, else on; CALL pushes the next index, to a depth of 8, and RET pops it; PC is taken modulo 2,048. A COND of 7 and a target beyond the program stop the tiller as ILLEGAL, a CALL beyond 8 and a RET with nothing on the stack as STACK. No instruction does anything while its tiller does not execute. An uncorrectable error of the program memory stops the tiller with PROG_ECC in place of any instruction; before one that is corrected, the error is recorded in a region's set. -/
def Obligations.TillerArithmetic : Prop :=
  (∀ (s : State) (t : TillerIx) (d a b : Fin 16) (i : BitVec 16) (j : BitVec 18) (n : Fin 32),
    s.tilReady t = true →
    (∃ u, exec (.ldi ⟨t, .good⟩ d i) s = .next u ∧ s.tilWrote u t d (i.setWidth 32)) ∧
    (∃ u, exec (.luh ⟨t, .good⟩ d i) s = .next u ∧ s.tilWrote u t d (i ++ (s.tReg t d).extractLsb' 0 16)) ∧
    (∃ u, exec (.add ⟨t, .good⟩ d a b) s = .next u ∧ s.tilWrote u t d (s.tReg t a + s.tReg t b)) ∧
    (∃ u, exec (.sub ⟨t, .good⟩ d a b) s = .next u ∧ s.tilWrote u t d (s.tReg t a - s.tReg t b)) ∧
    (∃ u, exec (.addi ⟨t, .good⟩ d a j) s = .next u ∧ s.tilWrote u t d (s.tReg t a + j.signExtend 32)) ∧
    (∃ u, exec (.and ⟨t, .good⟩ d a b) s = .next u ∧ s.tilWrote u t d (s.tReg t a &&& s.tReg t b)) ∧
    (∃ u, exec (.or ⟨t, .good⟩ d a b) s = .next u ∧ s.tilWrote u t d (s.tReg t a ||| s.tReg t b)) ∧
    (∃ u, exec (.xor ⟨t, .good⟩ d a b) s = .next u ∧ s.tilWrote u t d (s.tReg t a ^^^ s.tReg t b)) ∧
    (∃ u, exec (.andi ⟨t, .good⟩ d a j) s = .next u ∧ s.tilWrote u t d (s.tReg t a &&& j.setWidth 32)) ∧
    (∃ u, exec (.shli ⟨t, .good⟩ d a n) s = .next u ∧ s.tilWrote u t d (s.tReg t a <<< n.val)) ∧
    (∃ u, exec (.shri ⟨t, .good⟩ d a n) s = .next u ∧ s.tilWrote u t d (s.tReg t a >>> n.val))) ∧
  (∀ (s : State) (t : TillerIx) (a b : Fin 16) (cond : Fin 8) (tgt : BitVec 11),
    s.tilReady t = true →
    (cond ≠ 7 → tgt.toNat ≤ s.lastIndex t → ∃ u, exec (.cbr ⟨t, .good⟩ a b cond tgt) s = .next u ∧
      s.tilWent u t (s.ranOne t) (if condMet cond (s.tReg t a) (s.tReg t b) then tgt.toNat else s.get TIL_STS.PC t + 1) []) ∧
    (cond = 7 ∨ s.lastIndex t < tgt.toNat → (exec (.cbr ⟨t, .good⟩ a b cond tgt) s = .next (s.tilStops t 4) ∧ (isHosted t = false → ∃ u, exec (.cbr ⟨t, .good⟩ a b cond tgt) s = .next u ∧ u.get TIL_STS.STATE t = 3 ∧ u.get TIL_STS.CAUSE t = 4 ∧ u.get TIL_EVT.MASK t = 0 ∧ u.get TIL_STS.PC t = s.get TIL_STS.PC t ∧ u.stsBit (tilSet (tillerUnit t)) 0)))) ∧
  (∀ (s : State) (t : TillerIx) (tgt : BitVec 11),
    s.tilReady t = true →
    (tgt.toNat ≤ s.lastIndex t → (s.tiller t).stack.length < 8 → ∃ u, exec (.call ⟨t, .good⟩ tgt) s = .next u ∧ u.get TIL_STS.DEPTH t = (s.tiller t).stack.length + 1 ∧
      s.tilWent u t { s.ranOne t with stack := (s.get TIL_STS.PC t + 1) % 2048 :: (s.tiller t).stack } tgt.toNat []) ∧
    (s.lastIndex t < tgt.toNat → (exec (.call ⟨t, .good⟩ tgt) s = .next (s.tilStops t 4) ∧ (isHosted t = false → ∃ u, exec (.call ⟨t, .good⟩ tgt) s = .next u ∧ u.get TIL_STS.STATE t = 3 ∧ u.get TIL_STS.CAUSE t = 4 ∧ u.get TIL_EVT.MASK t = 0 ∧ u.get TIL_STS.PC t = s.get TIL_STS.PC t ∧ u.stsBit (tilSet (tillerUnit t)) 0))) ∧
    (tgt.toNat ≤ s.lastIndex t → 8 ≤ (s.tiller t).stack.length → (exec (.call ⟨t, .good⟩ tgt) s = .next (s.tilStops t 6) ∧ (isHosted t = false → ∃ u, exec (.call ⟨t, .good⟩ tgt) s = .next u ∧ u.get TIL_STS.STATE t = 3 ∧ u.get TIL_STS.CAUSE t = 6 ∧ u.get TIL_EVT.MASK t = 0 ∧ u.get TIL_STS.PC t = s.get TIL_STS.PC t ∧ u.stsBit (tilSet (tillerUnit t)) 0)))) ∧
  (∀ (s : State) (t : TillerIx) (n : Nat) (k : List Nat),
    s.tilReady t = true →
    ((s.tiller t).stack = n :: k → ∃ u, exec (.ret ⟨t, .good⟩) s = .next u ∧ u.get TIL_STS.DEPTH t = k.length % 2 ^ TIL_STS.DEPTH.w ∧ s.tilWent u t { s.ranOne t with stack := k } n []) ∧
    ((s.tiller t).stack = [] → (exec (.ret ⟨t, .good⟩) s = .next (s.tilStops t 6) ∧ (isHosted t = false → ∃ u, exec (.ret ⟨t, .good⟩) s = .next u ∧ u.get TIL_STS.STATE t = 3 ∧ u.get TIL_STS.CAUSE t = 6 ∧ u.get TIL_EVT.MASK t = 0 ∧ u.get TIL_STS.PC t = s.get TIL_STS.PC t ∧ u.stsBit (tilSet (tillerUnit t)) 0)))) ∧
  (∀ (s : State) (t : TillerIx) (d a b : Fin 16) (i : BitVec 16) (j : BitVec 18) (n : Fin 32) (c : Fin 8) (g : BitVec 11) (k : BitVec 8) (u : TUnit) (e : BitVec 12) (f : BitVec 10) (v : Bool) (m : EccRead),
    s.tilReady t = false →
    exec (.halt ⟨t, m⟩) s = .next s ∧
    exec (.ldi ⟨t, m⟩ d i) s = .next s ∧
    exec (.luh ⟨t, m⟩ d i) s = .next s ∧
    exec (.ld ⟨t, m⟩ d a j) s = .next s ∧
    exec (.st ⟨t, m⟩ d a j) s = .next s ∧
    exec (.add ⟨t, m⟩ d a b) s = .next s ∧
    exec (.sub ⟨t, m⟩ d a b) s = .next s ∧
    exec (.addi ⟨t, m⟩ d a j) s = .next s ∧
    exec (.and ⟨t, m⟩ d a b) s = .next s ∧
    exec (.or ⟨t, m⟩ d a b) s = .next s ∧
    exec (.xor ⟨t, m⟩ d a b) s = .next s ∧
    exec (.andi ⟨t, m⟩ d a j) s = .next s ∧
    exec (.shli ⟨t, m⟩ d a n) s = .next s ∧
    exec (.shri ⟨t, m⟩ d a n) s = .next s ∧
    exec (.cbr ⟨t, m⟩ a b c g) s = .next s ∧
    exec (.call ⟨t, m⟩ g) s = .next s ∧
    exec (.ret ⟨t, m⟩) s = .next s ∧
    exec (.wait ⟨t, m⟩ d k u e) s = .next s ∧
    exec (.waitb ⟨t, m⟩ d a n v u f) s = .next s ∧
    exec (.delay ⟨t, m⟩ u e) s = .next s ∧
    exec (.event ⟨t, m⟩ a e) s = .next s ∧
    exec (.reply ⟨t, m⟩ a b) s = .next s ∧
    exec (.yield ⟨t, m⟩) s = .next s ∧
    exec (.trap ⟨t, m⟩ k) s = .next s) ∧
  (∀ (s : State) (t : TillerIx) (d a b : Fin 16) (i : BitVec 16) (j : BitVec 18) (n : Fin 32) (c : Fin 8) (g : BitVec 11) (k : BitVec 8) (u : TUnit) (e : BitVec 12) (f : BitVec 10) (v : Bool),
    s.tilReady t = true →
    exec (.halt ⟨t, .uncorrectable⟩) s = .next (s.tilStops t 8) ∧
    exec (.ldi ⟨t, .uncorrectable⟩ d i) s = .next (s.tilStops t 8) ∧
    exec (.luh ⟨t, .uncorrectable⟩ d i) s = .next (s.tilStops t 8) ∧
    exec (.ld ⟨t, .uncorrectable⟩ d a j) s = .next (s.tilStops t 8) ∧
    exec (.st ⟨t, .uncorrectable⟩ d a j) s = .next (s.tilStops t 8) ∧
    exec (.add ⟨t, .uncorrectable⟩ d a b) s = .next (s.tilStops t 8) ∧
    exec (.sub ⟨t, .uncorrectable⟩ d a b) s = .next (s.tilStops t 8) ∧
    exec (.addi ⟨t, .uncorrectable⟩ d a j) s = .next (s.tilStops t 8) ∧
    exec (.and ⟨t, .uncorrectable⟩ d a b) s = .next (s.tilStops t 8) ∧
    exec (.or ⟨t, .uncorrectable⟩ d a b) s = .next (s.tilStops t 8) ∧
    exec (.xor ⟨t, .uncorrectable⟩ d a b) s = .next (s.tilStops t 8) ∧
    exec (.andi ⟨t, .uncorrectable⟩ d a j) s = .next (s.tilStops t 8) ∧
    exec (.shli ⟨t, .uncorrectable⟩ d a n) s = .next (s.tilStops t 8) ∧
    exec (.shri ⟨t, .uncorrectable⟩ d a n) s = .next (s.tilStops t 8) ∧
    exec (.cbr ⟨t, .uncorrectable⟩ a b c g) s = .next (s.tilStops t 8) ∧
    exec (.call ⟨t, .uncorrectable⟩ g) s = .next (s.tilStops t 8) ∧
    exec (.ret ⟨t, .uncorrectable⟩) s = .next (s.tilStops t 8) ∧
    exec (.wait ⟨t, .uncorrectable⟩ d k u e) s = .next (s.tilStops t 8) ∧
    exec (.waitb ⟨t, .uncorrectable⟩ d a n v u f) s = .next (s.tilStops t 8) ∧
    exec (.delay ⟨t, .uncorrectable⟩ u e) s = .next (s.tilStops t 8) ∧
    exec (.event ⟨t, .uncorrectable⟩ a e) s = .next (s.tilStops t 8) ∧
    exec (.reply ⟨t, .uncorrectable⟩ a b) s = .next (s.tilStops t 8) ∧
    exec (.yield ⟨t, .uncorrectable⟩) s = .next (s.tilStops t 8) ∧
    exec (.trap ⟨t, .uncorrectable⟩ k) s = .next (s.tilStops t 8)) ∧
  (∀ (s : State) (t : TillerIx) (d a b : Fin 16) (i : BitVec 16) (j : BitVec 18) (n : Fin 32) (c : Fin 8) (g : BitVec 11) (k : BitVec 8) (u : TUnit) (e : BitVec 12) (f : BitVec 10) (v : Bool),
    s.tilReady t = true →
    exec (.halt ⟨t, .corrected⟩) s = exec (.halt ⟨t, .good⟩) (if t.val < 192 then s.record ⟨libSet (t / 48), 0, 0, 4, t, 0⟩ else s) ∧
    exec (.ldi ⟨t, .corrected⟩ d i) s = exec (.ldi ⟨t, .good⟩ d i) (if t.val < 192 then s.record ⟨libSet (t / 48), 0, 0, 4, t, 0⟩ else s) ∧
    exec (.luh ⟨t, .corrected⟩ d i) s = exec (.luh ⟨t, .good⟩ d i) (if t.val < 192 then s.record ⟨libSet (t / 48), 0, 0, 4, t, 0⟩ else s) ∧
    exec (.ld ⟨t, .corrected⟩ d a j) s = exec (.ld ⟨t, .good⟩ d a j) (if t.val < 192 then s.record ⟨libSet (t / 48), 0, 0, 4, t, 0⟩ else s) ∧
    exec (.st ⟨t, .corrected⟩ d a j) s = exec (.st ⟨t, .good⟩ d a j) (if t.val < 192 then s.record ⟨libSet (t / 48), 0, 0, 4, t, 0⟩ else s) ∧
    exec (.add ⟨t, .corrected⟩ d a b) s = exec (.add ⟨t, .good⟩ d a b) (if t.val < 192 then s.record ⟨libSet (t / 48), 0, 0, 4, t, 0⟩ else s) ∧
    exec (.sub ⟨t, .corrected⟩ d a b) s = exec (.sub ⟨t, .good⟩ d a b) (if t.val < 192 then s.record ⟨libSet (t / 48), 0, 0, 4, t, 0⟩ else s) ∧
    exec (.addi ⟨t, .corrected⟩ d a j) s = exec (.addi ⟨t, .good⟩ d a j) (if t.val < 192 then s.record ⟨libSet (t / 48), 0, 0, 4, t, 0⟩ else s) ∧
    exec (.and ⟨t, .corrected⟩ d a b) s = exec (.and ⟨t, .good⟩ d a b) (if t.val < 192 then s.record ⟨libSet (t / 48), 0, 0, 4, t, 0⟩ else s) ∧
    exec (.or ⟨t, .corrected⟩ d a b) s = exec (.or ⟨t, .good⟩ d a b) (if t.val < 192 then s.record ⟨libSet (t / 48), 0, 0, 4, t, 0⟩ else s) ∧
    exec (.xor ⟨t, .corrected⟩ d a b) s = exec (.xor ⟨t, .good⟩ d a b) (if t.val < 192 then s.record ⟨libSet (t / 48), 0, 0, 4, t, 0⟩ else s) ∧
    exec (.andi ⟨t, .corrected⟩ d a j) s = exec (.andi ⟨t, .good⟩ d a j) (if t.val < 192 then s.record ⟨libSet (t / 48), 0, 0, 4, t, 0⟩ else s) ∧
    exec (.shli ⟨t, .corrected⟩ d a n) s = exec (.shli ⟨t, .good⟩ d a n) (if t.val < 192 then s.record ⟨libSet (t / 48), 0, 0, 4, t, 0⟩ else s) ∧
    exec (.shri ⟨t, .corrected⟩ d a n) s = exec (.shri ⟨t, .good⟩ d a n) (if t.val < 192 then s.record ⟨libSet (t / 48), 0, 0, 4, t, 0⟩ else s) ∧
    exec (.cbr ⟨t, .corrected⟩ a b c g) s = exec (.cbr ⟨t, .good⟩ a b c g) (if t.val < 192 then s.record ⟨libSet (t / 48), 0, 0, 4, t, 0⟩ else s) ∧
    exec (.call ⟨t, .corrected⟩ g) s = exec (.call ⟨t, .good⟩ g) (if t.val < 192 then s.record ⟨libSet (t / 48), 0, 0, 4, t, 0⟩ else s) ∧
    exec (.ret ⟨t, .corrected⟩) s = exec (.ret ⟨t, .good⟩) (if t.val < 192 then s.record ⟨libSet (t / 48), 0, 0, 4, t, 0⟩ else s) ∧
    exec (.wait ⟨t, .corrected⟩ d k u e) s = exec (.wait ⟨t, .good⟩ d k u e) (if t.val < 192 then s.record ⟨libSet (t / 48), 0, 0, 4, t, 0⟩ else s) ∧
    exec (.waitb ⟨t, .corrected⟩ d a n v u f) s = exec (.waitb ⟨t, .good⟩ d a n v u f) (if t.val < 192 then s.record ⟨libSet (t / 48), 0, 0, 4, t, 0⟩ else s) ∧
    exec (.delay ⟨t, .corrected⟩ u e) s = exec (.delay ⟨t, .good⟩ u e) (if t.val < 192 then s.record ⟨libSet (t / 48), 0, 0, 4, t, 0⟩ else s) ∧
    exec (.event ⟨t, .corrected⟩ a e) s = exec (.event ⟨t, .good⟩ a e) (if t.val < 192 then s.record ⟨libSet (t / 48), 0, 0, 4, t, 0⟩ else s) ∧
    exec (.reply ⟨t, .corrected⟩ a b) s = exec (.reply ⟨t, .good⟩ a b) (if t.val < 192 then s.record ⟨libSet (t / 48), 0, 0, 4, t, 0⟩ else s) ∧
    exec (.yield ⟨t, .corrected⟩) s = exec (.yield ⟨t, .good⟩) (if t.val < 192 then s.record ⟨libSet (t / 48), 0, 0, 4, t, 0⟩ else s) ∧
    exec (.trap ⟨t, .corrected⟩ k) s = exec (.trap ⟨t, .good⟩ k) (if t.val < 192 then s.record ⟨libSet (t / 48), 0, 0, 4, t, 0⟩ else s))

/-- LD of a context word loads it, and of a register waits for LD_RETURN, which brings the word that a read of the register gives, once no earlier store to its block is outstanding; ST of a context word writes it, and of a register leaves the tiller as one of at most eight stores, the oldest of which STORE_COMPLETE performs, letting a ninth leave; a write of SVC_OP starts a service operation, is discarded while one runs, or names none; a store to an MPU register is discarded, and one of MAX_RATE by the port's own script asks for a rate, which is the choice of log entry 88. WAIT, WAITB and DELAY wait, or go on at once; WAIT_WAKE, WAITB_MATCH and WAIT_TIMEOUT end the wait with the lowest awaited event plus 1, with 1, and with 0 and a count; without such a wait they change nothing. An access beyond what a tiller reaches stops it as ADDR, a misaligned one as ALIGN, and an offset, UNIT or COUNT that the image check rejects as ILLEGAL. -/
def Obligations.TillerWaits : Prop :=
  (∀ (s : State) (t : TillerIx) (d a : Fin 16) (off : BitVec 18) (o c : Nat),
    s.tilReady t = true →
    (off.toNat % 4 ≠ 0 → (exec (.ld ⟨t, .good⟩ d a off) s = .next (s.tilStops t 4) ∧ (isHosted t = false → ∃ u, exec (.ld ⟨t, .good⟩ d a off) s = .next u ∧ u.get TIL_STS.STATE t = 3 ∧ u.get TIL_STS.CAUSE t = 4 ∧ u.get TIL_EVT.MASK t = 0 ∧ u.get TIL_STS.PC t = s.get TIL_STS.PC t ∧ u.stsBit (tilSet (tillerUnit t)) 0))) ∧
    (off.toNat % 4 = 0 → s.reach t (tilAddr (s.tReg t a) off).toNat false = .context o → ∃ u, exec (.ld ⟨t, .good⟩ d a off) s = .next u ∧ s.tilWrote u t d (BitVec.ofNat 32 (s.ctxWord t o))) ∧
    (off.toNat % 4 = 0 → s.reach t (tilAddr (s.tReg t a) off).toNat false = .fault c → (exec (.ld ⟨t, .good⟩ d a off) s = .next (s.tilFault t c (tilAddr (s.tReg t a) off).toNat) ∧ (isHosted t = false → ∃ u, exec (.ld ⟨t, .good⟩ d a off) s = .next u ∧ u.get TIL_STS.STATE t = 3 ∧ u.get TIL_STS.CAUSE t = c ∧ u.word .TIL_FADDR t = BitVec.ofNat 32 (tilAddr (s.tReg t a) off).toNat ∧ u.stsBit (tilSet (tillerUnit t)) 0))) ∧
    (off.toNat % 4 = 0 → s.reach t (tilAddr (s.tReg t a) off).toNat false = .register → exec (.ld ⟨t, .good⟩ d a off) s = .next (s.setTiller t { s.tiller t with wait := .load d (tilAddr (s.tReg t a) off).toNat }))) ∧
  (∀ (s : State) (t : TillerIx) (d x : Nat),
    s.windowGone (tillerUnit t) = false →
    (s.tiller t).wait = .load d x →
    (s.tiller t).stores.length < 8 →
    (s.tiller t).stores.any (fun e => s.setAt e.1 == s.setAt x) = false →
    ∃ u, exec (.ldReturn t) s = .next u ∧ u.tReg t d = (regRead .librarian x s).1.1 ∧
      u.get TIL_STS.PC t = ((regRead .librarian x s).2.get TIL_STS.PC t + 1) % 2048 ∧ (u.tiller t).wait = .none) ∧
  (∀ (s : State) (t : TillerIx) (d x : Nat) (w : TWait),
    (s.tiller t).wait = w →
    (s.windowGone (tillerUnit t) = true ∨ (w = .load d x ∧ (8 ≤ (s.tiller t).stores.length ∨ (s.tiller t).stores.any (fun e => s.setAt e.1 == s.setAt x) = true)) → exec (.ldReturn t) s = .next s) ∧
    (w = .none → exec (.ldReturn t) s = .next s)) ∧
  (∀ (s : State) (t : TillerIx) (d a : Fin 16) (off : BitVec 18) (o c : Nat),
    s.tilReady t = true →
    (off.toNat % 4 ≠ 0 → (exec (.st ⟨t, .good⟩ d a off) s = .next (s.tilStops t 4) ∧ (isHosted t = false → ∃ u, exec (.st ⟨t, .good⟩ d a off) s = .next u ∧ u.get TIL_STS.STATE t = 3 ∧ u.get TIL_STS.CAUSE t = 4 ∧ u.get TIL_EVT.MASK t = 0 ∧ u.get TIL_STS.PC t = s.get TIL_STS.PC t ∧ u.stsBit (tilSet (tillerUnit t)) 0))) ∧
    (off.toNat % 4 = 0 → s.reach t (tilAddr (s.tReg t a) off).toNat true = .fault c → (exec (.st ⟨t, .good⟩ d a off) s = .next (s.tilFault t c (tilAddr (s.tReg t a) off).toNat) ∧ (isHosted t = false → ∃ u, exec (.st ⟨t, .good⟩ d a off) s = .next u ∧ u.get TIL_STS.STATE t = 3 ∧ u.get TIL_STS.CAUSE t = c ∧ u.word .TIL_FADDR t = BitVec.ofNat 32 (tilAddr (s.tReg t a) off).toNat ∧ u.stsBit (tilSet (tillerUnit t)) 0))) ∧
    (off.toNat % 4 = 0 → s.reach t (tilAddr (s.tReg t a) off).toNat true = .context o → o ≠ 0x228 → ∃ u, exec (.st ⟨t, .good⟩ d a off) s = .next u ∧
      s.tilWent u t { s.ranOne t with ctx := Tab.put 0 (s.tiller t).ctx (o / 4) (s.tReg t d).toNat } (s.get TIL_STS.PC t + 1) []) ∧
    (off.toNat % 4 = 0 → s.reach t (tilAddr (s.tReg t a) off).toNat true = .context 0x228 → s.svcBusy t = true → exec (.st ⟨t, .good⟩ d a off) s = .next ((s.discard (tilSet (tillerUnit t))).tilNext t)) ∧
    (off.toNat % 4 = 0 → s.reach t (tilAddr (s.tReg t a) off).toNat true = .context 0x228 → s.svcBusy t = false → (s.tReg t d).toNat ≤ 7 → ∃ u, exec (.st ⟨t, .good⟩ d a off) s = .next u ∧ u.svcBusy t = true ∧
      u.ctxWord t 0x228 = (s.tReg t d).toNat ∧ u.get TIL_STS.PC t = (s.get TIL_STS.PC t + 1) % 2048) ∧
    (off.toNat % 4 = 0 → s.reach t (tilAddr (s.tReg t a) off).toNat true = .context 0x228 → s.svcBusy t = false → 7 < (s.tReg t d).toNat → ∃ u, exec (.st ⟨t, .good⟩ d a off) s = .next u ∧ u.ctxWord t 0x22C = 4 ∧
      u.get TIL_STS.PC t = (s.get TIL_STS.PC t + 1) % 2048) ∧
    (off.toNat % 4 = 0 → s.reach t (tilAddr (s.tReg t a) off).toNat true = .register → (s.tiller t).stores.length < 8 → ∃ u, exec (.st ⟨t, .good⟩ d a off) s = .next u ∧
      s.tilWent u t { s.ranOne t with stores := (s.tiller t).stores ++ [((tilAddr (s.tReg t a) off).toNat, (s.tReg t d).toNat)] } (s.get TIL_STS.PC t + 1) []) ∧
    (off.toNat % 4 = 0 → s.reach t (tilAddr (s.tReg t a) off).toNat true = .register → 8 ≤ (s.tiller t).stores.length →
      exec (.st ⟨t, .good⟩ d a off) s = .next (s.setTiller t { s.tiller t with wait := .store (tilAddr (s.tReg t a) off).toNat (s.tReg t d).toNat }))) ∧
  (∀ (s u : State) (t : TillerIx) (x v : Nat) (q : List (Nat × Nat)),
    s.windowGone (tillerUnit t) = false →
    (s.tiller t).stores = (x, v) :: q →
    u = rateAsked t x v (s.setTiller t { s.tiller t with stores := q }) →
    ((tilWrite x (rateKept t x v u) u).tiller t).wait = .none →
    exec (.storeComplete t) s = .next (tilWrite x (rateKept t x v u) u) ∧ (t.val ≥ 192 ∨ isHosted t = true → exec (.storeComplete t) s = .next (tilWrite x v (s.setTiller t { s.tiller t with stores := q })))) ∧
  (∀ (s : State) (t : TillerIx) (p : Port) (v x : Nat),
    s.windowGone (tillerUnit t) = false →
    tilKind t = .port p →
    (s.tiller t).stores = [(x, v)] →
    target x = .reg .PRT_PORT_CTL p →
    s.role p = 1 ∨ s.role p = 2 →
    v % 8 < s.get PRT_PORT_CTL.MAX_RATE p →
    (s.tiller t).wait = .none →
    ∃ u, exec (.storeComplete t) s = .next u ∧ u.get PRT_PORT_EVT.CAP p = min (s.get PRT_PORT_EVT.CAP p) (v % 8) ∧ u.get PRT_PORT_CTL.MAX_RATE p = s.get PRT_PORT_CTL.MAX_RATE p) ∧
  (∀ (s : State) (t : TillerIx) (n v x : Nat) (q : List (Nat × Nat)),
    s.windowGone (tillerUnit t) = false →
    (s.tiller t).stores = (x, v) :: q →
    (s.tiller t).wait = .none →
    target x = .reg .LIB_MPU_BASE n ∨ target x = .reg .LIB_MPU_LIMIT n →
    s.addrGone x = false →
    exec (.storeComplete t) s = .next ((s.setTiller t { s.tiller t with stores := q }).discard (s.setAt x))) ∧
  (∀ (s u : State) (t : TillerIx) (x v x2 v2 : Nat) (q : List (Nat × Nat)),
    s.windowGone (tillerUnit t) = false →
    (s.tiller t).stores = (x, v) :: q →
    t.val ≥ 192 ∨ isHosted t = true →
    u = tilWrite x v (s.setTiller t { s.tiller t with stores := q }) →
    (u.tiller t).wait = .store x2 v2 →
    ∃ w, exec (.storeComplete t) s = .next w ∧ (w.tiller t).wait = .none ∧ (w.tiller t).stores = (u.tiller t).stores ++ [(x2, v2)] ∧ w.get TIL_STS.PC t = (u.get TIL_STS.PC t + 1) % 2048) ∧
  (∀ (s : State) (t : TillerIx),
    s.windowGone (tillerUnit t) = true ∨ (s.tiller t).stores = [] →
    exec (.storeComplete t) s = .next s) ∧
  (∀ (s : State) (t : TillerIx) (d : Fin 16) (mask : BitVec 8) (u : TUnit) (n : BitVec 12) (k b : Nat),
    s.tilReady t = true →
    (waitNs u n.toNat = none → (exec (.wait ⟨t, .good⟩ d mask u n) s = .next (s.tilStops t 4) ∧ (isHosted t = false → ∃ y, exec (.wait ⟨t, .good⟩ d mask u n) s = .next y ∧ y.get TIL_STS.STATE t = 3 ∧ y.get TIL_STS.CAUSE t = 4 ∧ y.get TIL_EVT.MASK t = 0 ∧ y.get TIL_STS.PC t = s.get TIL_STS.PC t ∧ y.stsBit (tilSet (tillerUnit t)) 0))) ∧
    (waitNs u n.toNat = some k → s.eventBit t mask.toNat = none → ∃ v, exec (.wait ⟨t, .good⟩ d mask u n) s = .next v ∧ s.tilAwaits v t (.event d mask.toNat k) mask.toNat) ∧
    (waitNs u n.toNat = some k → s.eventBit t mask.toNat = some b → exec (.wait ⟨t, .good⟩ d mask u n) s = .next ((s.wakes t d b).giveUp t))) ∧
  (∀ (s : State) (t : TillerIx) (d a : Fin 16) (b : Fin 32) (v : Bool) (u : TUnit) (n : BitVec 10) (k o c : Nat),
    s.tilReady t = true →
    (waitNs u n.toNat = none → exec (.waitb ⟨t, .good⟩ d a b v u n) s = .next (s.tilStops t 4)) ∧
    (waitNs u n.toNat = some k → s.reach t (s.tReg t a).toNat false = .fault c → exec (.waitb ⟨t, .good⟩ d a b v u n) s = .next (s.tilFault t c (s.tReg t a).toNat)) ∧
    (waitNs u n.toNat = some k → s.reach t (s.tReg t a).toNat false = .register ∨ (s.reach t (s.tReg t a).toNat false = .context o ∧ (s.ctxWord t o).testBit b ≠ v) →
      ∃ w, exec (.waitb ⟨t, .good⟩ d a b v u n) s = .next w ∧ s.tilAwaits w t (.bitAt d (s.tReg t a).toNat b v k) 0) ∧
    (waitNs u n.toNat = some k → s.reach t (s.tReg t a).toNat false = .context o → (s.ctxWord t o).testBit b = v →
      exec (.waitb ⟨t, .good⟩ d a b v u n) s = .next (((s.setTReg t d 1).tilResume t).giveUp t))) ∧
  (∀ (s : State) (t : TillerIx) (u : TUnit) (n : BitVec 12) (k : Nat),
    s.tilReady t = true →
    (waitNs u n.toNat = some k → ∃ w, exec (.delay ⟨t, .good⟩ u n) s = .next w ∧ s.tilAwaits w t (.delay k) 0) ∧ (waitNs u n.toNat = none → exec (.delay ⟨t, .good⟩ u n) s = .next (s.tilStops t 4))) ∧
  (∀ (s : State) (t : TillerIx) (d : Fin 16) (m k b : Nat),
    s.windowGone (tillerUnit t) = false →
    (s.tiller t).wait = .event d m k →
    s.eventBit t m = some b →
    b < 8 →
    (∃ u, exec (.waitWake t) s = .next u ∧ (isHosted t = false → (u.get TIL_EVT.PENDING t).testBit b = false ∧ (b = 7 → Tab.get 0 (u.tiller t).ctx 64 = 0 ∧ Tab.get 0 (u.tiller t).ctx 65 = (s.word .TIL_ARG t).toNat)) ∧ u.tReg t d = BitVec.ofNat 32 (b + 1) ∧ u.get TIL_STS.STATE t = 1 ∧ u.get TIL_STS.PC t = (s.get TIL_STS.PC t + 1) % 2048 ∧ u.get TIL_EVT.MASK t = 0 ∧ (u.tiller t).wait = .none ∧ (u.tiller t).ran = 0) ∧
    exec (.waitTimeout t) s = exec (.waitWake t) s) ∧
  (∀ (s : State) (t : TillerIx) (d m k : Nat) (w : TWait),
    (s.tiller t).wait = w →
    (s.windowGone (tillerUnit t) = true ∨ w = .none ∨ w = .delay k ∨ (w = .event d m k ∧ s.eventBit t m = none) → exec (.waitWake t) s = .next s) ∧
    (s.windowGone (tillerUnit t) = true ∨ w = .none ∨ w = .delay k ∨ w = .event d m k → exec (.waitbMatch t) s = .next s) ∧
    (s.windowGone (tillerUnit t) = true ∨ w = .none ∨ w = .load d m ∨ w = .store d m → exec (.waitTimeout t) s = .next s)) ∧
  (∀ (s : State) (t : TillerIx) (d : Fin 16) (x b k : Nat) (v : Bool),
    s.windowGone (tillerUnit t) = false →
    (s.tiller t).wait = .bitAt d x b v k →
    (0x10000000 ≤ x → (s.ctxWord t (x - 0x10000000)).testBit b = v → ∃ u, exec (.waitbMatch t) s = .next u ∧ u.tReg t d = 1 ∧ u.get TIL_STS.STATE t = 1 ∧ u.get TIL_STS.PC t = (s.get TIL_STS.PC t + 1) % 2048 ∧ u.get TIL_EVT.MASK t = 0 ∧ (u.tiller t).wait = .none ∧ (u.tiller t).ran = 0) ∧
    (0x10000000 ≤ x → (s.ctxWord t (x - 0x10000000)).testBit b ≠ v → exec (.waitbMatch t) s = .next s) ∧
    (x < 0x10000000 → (regRead .librarian x s).1.1.toNat.testBit b = v → exec (.waitbMatch t) s = .next (((regRead .librarian x s).2.setTReg t d 1).tilResume t)) ∧
    (x < 0x10000000 → (regRead .librarian x s).1.1.toNat.testBit b ≠ v → exec (.waitbMatch t) s = .next (regRead .librarian x s).2)) ∧
  (∀ (s : State) (t : TillerIx) (d : Fin 16) (m k x : Nat) (v : Bool),
    s.windowGone (tillerUnit t) = false →
    ((s.tiller t).wait = .delay k → ∃ u, exec (.waitTimeout t) s = .next u ∧ u.get TIL_STS.STATE t = 1 ∧ u.get TIL_STS.PC t = (s.get TIL_STS.PC t + 1) % 2048 ∧ (u.tiller t).wait = .none) ∧
    (((s.tiller t).wait = .event d m k ∧ s.eventBit t m = none) ∨ (s.tiller t).wait = .bitAt d x m v k → ∃ u, exec (.waitTimeout t) s = .next u ∧
      u.get TIL_EVT.TMO t = satAdd TIL_EVT.TMO.w (s.get TIL_EVT.TMO t) 1 ∧ u.stsBit (tilSet (tillerUnit t)) 2 ∧ u.tReg t d = 0 ∧ u.get TIL_STS.STATE t = 1 ∧ u.get TIL_STS.PC t = (s.get TIL_STS.PC t + 1) % 2048 ∧ u.get TIL_EVT.MASK t = 0 ∧ (u.tiller t).wait = .none ∧ (u.tiller t).ran = 0))

/-- HALT stops with cause 1; TRAP stops a tiller with cause 2 and its code and records the trap; 2^20 instructions without a wait stop it as RUNAWAY; STOP stops it with cause 9 and RUN starts it at ENTRY with cleared registers and stack, or the built-in program at 0, while RUN of a running one is discarded and of an OFF port's does nothing; POST_CMD sets the CMD event, is merged and counted where it is pending, and is queued for a handler while there is room; a stopped handler restarts at its entry unless it is spent; EVENT appends an Archive event; REPLY answers the open request, discards another handle, and stops a dedicated tiller; YIELD goes on. A write of a register of the group that reaches it stores the fields and does what the written bits start: the same as the command. -/
def Obligations.TillerStops : Prop :=
  (∀ (s : State) (t : TillerIx),
    s.tilReady t = true →
    exec (.halt ⟨t, .good⟩) s = .next ((s.retire t).tilStops t 1) ∧ (isHosted t = false → ∃ u, exec (.halt ⟨t, .good⟩) s = .next u ∧ u.get TIL_STS.STATE t = 0 ∧ u.get TIL_STS.CAUSE t = 1 ∧ u.get TIL_EVT.MASK t = 0 ∧
      wordsAt s u [(.TIL_STS, t), (.TIL_EVT, t)] ∧ u.ces = s.ces)) ∧
  (∀ (s : State) (t : TillerIx) (code : BitVec 8),
    s.tilReady t = true →
    (exec (.trap ⟨t, .good⟩ code) s = .next (((s.retire t).set TIL_STS.TRAP_CODE t code.toNat).tilStops t 2)) ∧
    (isHosted t = false → ∃ u, exec (.trap ⟨t, .good⟩ code) s = .next u ∧ u.get TIL_STS.STATE t = 0 ∧ u.get TIL_STS.CAUSE t = 2 ∧ u.get TIL_EVT.MASK t = 0 ∧ u.get TIL_STS.TRAP_CODE t = code.toNat ∧ u.stsBit (tilSet (tillerUnit t)) 1)) ∧
  (∀ (s : State) (t : TillerIx),
    s.windowGone (tillerUnit t) = false →
    s.tilRuns t = true →
    2 ^ 20 ≤ (s.tiller t).ran →
    (exec (.tillerRunaway t) s = .next (s.tilStops t 7) ∧ (isHosted t = false → ∃ u, exec (.tillerRunaway t) s = .next u ∧ u.get TIL_STS.STATE t = 3 ∧ u.get TIL_STS.CAUSE t = 7 ∧ u.get TIL_EVT.MASK t = 0 ∧ u.get TIL_STS.PC t = s.get TIL_STS.PC t ∧ u.stsBit (tilSet (tillerUnit t)) 0))) ∧
  (∀ (s : State) (t : TillerIx),
    s.windowGone (tillerUnit t) = true ∨ s.tilRuns t = false ∨ (s.tiller t).ran < 2 ^ 20 →
    exec (.tillerRunaway t) s = .next s) ∧
  (∀ (s : State) (p : Path) (t : TillerIx),
    s.windowGone (tillerUnit t) = false →
    (p = .debug ∧ s.flag SEC_DBG_STS.UNLOCKED 0 = true ∧ (s.get SEC_DBG_STS.SCOPE 0).testBit 2 = true) ∨ s.mayWrite p = true →
    (s.tilRuns t = true → (exec (.tillerStop p t) s = .next (s.tilStops t 9) ∧ (isHosted t = false → ∃ u, exec (.tillerStop p t) s = .next u ∧ u.get TIL_STS.STATE t = 0 ∧ u.get TIL_STS.CAUSE t = 9 ∧ u.get TIL_EVT.MASK t = 0 ∧ u.get TIL_STS.PC t = s.get TIL_STS.PC t))) ∧ (s.tilRuns t = true → isHosted t = false → ∃ u, exec (.tillerStop p t) s = .next u ∧ wordsKept s u [.TIL_STS, .TIL_EVT] ∧ u.ces = s.ces) ∧
    (s.tilRuns t = false → exec (.tillerStop p t) s = .next s)) ∧
  (∀ (s : State) (p : Path) (t : TillerIx),
    s.windowGone (tillerUnit t) = true ∨ (s.mayWrite p = false ∧ (p ≠ .debug ∨ s.flag SEC_DBG_STS.UNLOCKED 0 = false ∨ (s.get SEC_DBG_STS.SCOPE 0).testBit 2 = false)) →
    (s.windowGone (tillerUnit t) = true ∨ s.unheard p = true → exec (.tillerStop p t) s = .next s ∧ exec (.tillerRun p t) s = .next s ∧ exec (.postCmd p t) s = .next s) ∧
    (s.windowGone (tillerUnit t) = false → s.unheard p = false → exec (.tillerStop p t) s = .next (s.discard (tilSet (tillerUnit t))) ∧ exec (.tillerRun p t) s = .next (s.discard (tilSet (tillerUnit t))) ∧
      exec (.postCmd p t) s = .next (s.discard (tilSet (tillerUnit t))))) ∧
  (∀ (s : State) (p : Path) (t : TillerIx) (e : Nat) (b : Bool),
    s.windowGone (tillerUnit t) = false →
    (p = .debug ∧ s.flag SEC_DBG_STS.UNLOCKED 0 = true ∧ (s.get SEC_DBG_STS.SCOPE 0).testBit 2 = true) ∨ s.mayWrite p = true →
    s.tilGoverns t = true →
    s.tilRuns t = false →
    b = (!isHosted t && ((s.tiller t).script0 || (isCore p && (s.tiller t).relapsed))) →
    e = (if b then 0 else s.get TIL_CTL.ENTRY t % 2 ^ TIL_STS.PC.w) →
    ∃ u, exec (.tillerRun p t) s = .next u ∧ u.get TIL_STS.STATE t = 1 ∧ u.get TIL_STS.PC t = e ∧ u.get TIL_STS.DEPTH t = 0 ∧ (u.tiller t).script0 = b ∧
      (∀ i : Fin 16, u.tReg t i = 0) ∧ (u.tiller t).stack = [] ∧ (u.tiller t).wait = .none ∧ (isHosted t = false → t.val < 193 ∨ b = false → wordsKept s u [.TIL_STS, .TIL_EVT, .TIL_T])) ∧
  (∀ (s : State) (p : Path) (t : TillerIx),
    s.windowGone (tillerUnit t) = false →
    (p = .debug ∧ s.flag SEC_DBG_STS.UNLOCKED 0 = true ∧ (s.get SEC_DBG_STS.SCOPE 0).testBit 2 = true) ∨ s.mayWrite p = true →
    (s.tilGoverns t = false → exec (.tillerRun p t) s = .next s) ∧ (s.tilGoverns t = true → s.tilRuns t = true → exec (.tillerRun p t) s = .next (s.discard (tilSet (tillerUnit t))))) ∧
  (∀ (s : State) (p : Path) (t : TillerIx),
    s.windowGone (tillerUnit t) = false →
    (p = .debug ∧ s.flag SEC_DBG_STS.UNLOCKED 0 = true ∧ (s.get SEC_DBG_STS.SCOPE 0).testBit 2 = true) ∨ s.mayWrite p = true →
    isHosted t = true →
    ((s.get TIL_STS.STATE t % 3 ≠ 0 ∨ (s.tiller t).spent = false) → (s.tiller t).events.length < 64 → ∃ u, exec (.postCmd p t) s = .next u ∧
      u.tiller t = { s.tiller t with events := (s.tiller t).events ++ [(7, [0, (s.word .TIL_ARG t).toNat])] } ∧ (u.get TIL_EVT.PENDING t).testBit 7 = true ∧ wordsKept s u [.TIL_EVT]) ∧
    ((s.get TIL_STS.STATE t % 3 = 0 ∧ (s.tiller t).spent = true) ∨ 64 ≤ (s.tiller t).events.length → exec (.postCmd p t) s = .next s)) ∧
  (∀ (s : State) (p : Path) (t : TillerIx),
    s.windowGone (tillerUnit t) = false →
    (p = .debug ∧ s.flag SEC_DBG_STS.UNLOCKED 0 = true ∧ (s.get SEC_DBG_STS.SCOPE 0).testBit 2 = true) ∨ s.mayWrite p = true →
    isHosted t = false →
    ((s.get TIL_EVT.PENDING t).testBit 7 = false → ∃ u, exec (.postCmd p t) s = .next u ∧ (u.get TIL_EVT.PENDING t).testBit 7 = true ∧ (∀ b < 7, (u.get TIL_EVT.PENDING t).testBit b = (s.get TIL_EVT.PENDING t).testBit b) ∧
      wordsKept s u [.TIL_EVT] ∧ onlyRegs s u) ∧
    ((s.get TIL_EVT.PENDING t).testBit 7 = true → ∃ u, exec (.postCmd p t) s = .next u ∧ u.get TIL_EVT.PENDING t = s.get TIL_EVT.PENDING t ∧
      u.get TIL_EVT.LOST t = satAdd TIL_EVT.LOST.w (s.get TIL_EVT.LOST t) 1 ∧ u.stsBit (tilSet (tillerUnit t)) 3)) ∧
  (∀ (s : State) (t : TillerIx),
    isHosted t = true →
    s.tilRuns t = false →
    (s.tiller t).stops ≠ [] →
    (s.tiller t).spent = false →
    s.coreRuns (t / 48) = true →
    ∃ u, exec (.handlerRestart t) s = .next u ∧ u.get TIL_STS.STATE t = 1 ∧ u.get TIL_STS.PC t = s.get TIL_CTL.ENTRY t % 2 ^ TIL_STS.PC.w ∧
      (∀ i : Fin 16, u.tReg t i = 0) ∧ (u.tiller t).stack = []) ∧
  (∀ (s : State) (t : TillerIx),
    isHosted t = false ∨ s.tilRuns t = true ∨ (s.tiller t).stops = [] ∨ (s.tiller t).spent = true ∨ s.coreRuns (t / 48) = false →
    exec (.handlerRestart t) s = .next s) ∧
  (∀ (s v : State) (t : TillerIx) (a : Fin 16) (code : BitVec 12) (b : Bool),
    s.tilReady t = true →
    s.event (tillerUnit t) code.toNat 1 4 t t (s.tReg t a).toNat 0 = (v, b) →
    (b = false → exec (.event ⟨t, .good⟩ a code) s = .next (v.tilNext t)) ∧
    (b = true → exec (.event ⟨t, .good⟩ a code) s = .next ((v.note (occ (arcSet (tillerUnit t)) 4 0 (tillerUnit t))).1.tilNext t))) ∧
  (∀ (s : State) (t : TillerIx) (a b : Fin 16) (q : OpenReq),
    s.tilReady t = true →
    (isHosted t = true → (s.tilNext t).lib.opens.find? (fun q => q.handle == (s.tReg t a).toNat) = some q →
      exec (.reply ⟨t, .good⟩ a b) s = .next (((s.tilNext t).answerReq q (replyStatus (s.tReg t b).toNat)).giveUp t)) ∧
    (isHosted t = true → (s.tilNext t).lib.opens.find? (fun q => q.handle == (s.tReg t a).toNat) = none → exec (.reply ⟨t, .good⟩ a b) s = .next ((s.tilNext t).giveUp t)) ∧
    (isHosted t = false → (exec (.reply ⟨t, .good⟩ a b) s = .next (s.tilStops t 4) ∧ (isHosted t = false → ∃ u, exec (.reply ⟨t, .good⟩ a b) s = .next u ∧ u.get TIL_STS.STATE t = 3 ∧ u.get TIL_STS.CAUSE t = 4 ∧ u.get TIL_EVT.MASK t = 0 ∧ u.get TIL_STS.PC t = s.get TIL_STS.PC t ∧ u.stsBit (tilSet (tillerUnit t)) 0)))) ∧
  (∀ (s : State) (t : TillerIx),
    s.tilReady t = true →
    exec (.yield ⟨t, .good⟩) s = .next ((s.tilNext t).giveUp t) ∧
    (isHosted t = false → ∃ u, exec (.yield ⟨t, .good⟩) s = .next u ∧ s.tilWent u t (s.ranOne t) (s.get TIL_STS.PC t + 1) [])) ∧
  (∀ (s : State) (p : Path) (a : BitVec 32) (d : BitVec 64) (i : Nat),
    s.writeReaches p a (.reg .TIL_CTL i) →
    exec (.registerWrite p a d 4) s = .next ((fun t : State => (fun u : State => if d.getLsbD 13 then postCmd p i u else u) (if d.getLsbD 12 then tillerStop p i t else t)) (if d.getLsbD 11 then tillerRun p i (s.stored .TIL_CTL i d a) else (s.stored .TIL_CTL i d a))))

/-- READ_RECORD returns the record of shelf SVC_ARG in D0 to D3; WRITE_RECORD commits D0 to D3 or ends with the result that says why not; WRITE_GROUP writes D0 to D7 to all four copies; BARRIER starts a barrier and runs on, or ends with NO_SLOT; POST_ADD keeps the tags and posts the Add Capacity event once no barrier is owed; RESHELVE performs the op of D0; RULE_WRITE writes the rule; SET_TIMER sets the period or refuses it. An operation that would break a policy bound ends with POLICY and is recorded. Where the operation is not under way, or its region's window is gone, or its barrier is awaited, nothing changes. -/
def Obligations.HandlerServices : Prop :=
  (∀ (s : State) (t : TillerIx),
    (¬ s.serves t 0 → exec (.readRecord t) s = .next s) ∧
    (¬ s.serves t 1 → exec (.writeRecord t) s = .next s) ∧
    (¬ s.serves t 2 → exec (.writeGroup t) s = .next s) ∧
    (¬ s.serves t 3 → exec (.barrier t) s = .next s) ∧
    (¬ s.serves t 4 → exec (.postAdd t) s = .next s) ∧
    (¬ s.serves t 5 → exec (.reshelve t) s = .next s) ∧
    (¬ s.serves t 6 → exec (.svcRuleWrite t) s = .next s) ∧
    (¬ s.serves t 7 → exec (.setTimer t) s = .next s)) ∧
  (∀ (s : State) (t : TillerIx),
    s.serves t 0 →
    ∃ u, exec (.readRecord t) s = .next u ∧ (∀ k < 4, u.ctxWord t (0x200 + 4 * k) = bits (s.srec (s.svcArg t % 2 ^ 20)) (32 * k) 32) ∧ u.svcBusy t = false ∧ u.ctxWord t 0x22C = 0 ∧ { u with lib := s.lib } = s) ∧
  (∀ (s : State) (t : TillerIx) (x b : Nat) (v : BitVec 128),
    s.serves t 1 →
    x = s.svcArg t % 2 ^ 20 →
    v = BitVec.ofNat 128 (s.svcData t 4) →
    (s.recordBreaks (s.svcHost t) x v = none → s.windowGone (x % 4) = false → srecResult s (x % 4) x v = 0 → extentsBreak s (s.putSrec x v) = false →
      ∃ u, exec (.writeRecord t) s = .next u ∧ u = ((s.srecCommit x v).forRequest t x).svcEnd t 0 ∧ u.svcBusy t = false ∧ u.ctxWord t 0x22C = 0) ∧
    (s.recordBreaks (s.svcHost t) x v = none → s.windowGone (x % 4) = false → srecResult s (x % 4) x v = 0 → extentsBreak s (s.putSrec x v) = true →
      exec (.writeRecord t) s = .next ((s.archive (t / 48) 0x311 0 0 (s.ctxWord t 0x220) 0 2).svcEnd t 1)) ∧
    (s.recordBreaks (s.svcHost t) x v = some b → exec (.writeRecord t) s = .next ((s.archive (t / 48) 0x311 0 0 (s.ctxWord t 0x220) b 2).svcEnd t 1)) ∧
    (s.recordBreaks (s.svcHost t) x v = none → s.windowGone (x % 4) = true → exec (.writeRecord t) s = .next (s.svcEnd t 6)) ∧
    (s.recordBreaks (s.svcHost t) x v = none → s.windowGone (x % 4) = false → srecResult s (x % 4) x v = 2 →
      exec (.writeRecord t) s = .next ((if rget v rHome = x % 4 then s else s.discard (bndSet (x % 4))).svcEnd t 2)) ∧
    (s.recordBreaks (s.svcHost t) x v = none → s.windowGone (x % 4) = false → 3 ≤ srecResult s (x % 4) x v →
      exec (.writeRecord t) s = .next (s.svcEnd t (srecResult s (x % 4) x v)))) ∧
  (∀ (s : State) (t : TillerIx) (g b : Nat) (v : BitVec 256),
    s.serves t 2 →
    g = s.svcArg t % 2 ^ 12 →
    v = BitVec.ofNat 256 (s.svcData t 8) →
    (s.groupBreaks (s.svcHost t) g v = none → extentsBreak s (s.putGroup g v) = false →
      ∃ u, exec (.writeGroup t) s = .next u ∧ (∀ q < 4, Tab.get 0 u.bnd.group (4096 * q + g) = v) ∧
      (∀ k, (∀ q < 4, k ≠ 4096 * q + g) → Tab.get 0 u.bnd.group k = Tab.get 0 s.bnd.group k) ∧ u.svcBusy t = false ∧ u.ctxWord t 0x22C = 0 ∧ { u with lib := s.lib, bnd := s.bnd } = s) ∧
    (s.groupBreaks (s.svcHost t) g v = none → extentsBreak s (s.putGroup g v) = true → exec (.writeGroup t) s = .next ((s.archive (t / 48) 0x311 0 0 (s.ctxWord t 0x220) 0 2).svcEnd t 1)) ∧
    (s.groupBreaks (s.svcHost t) g v = some b → exec (.writeGroup t) s = .next ((s.archive (t / 48) 0x311 0 0 (s.ctxWord t 0x220) b 2).svcEnd t 1))) ∧
  (∀ (s v : State) (t : TillerIx) (a : Nat),
    s.serves t 3 →
    a = s.svcArg t →
    v = barStart s (a % 4) (a / 2 ^ 21 % 2) (a / 2 ^ 20 % 2 == 1) (a % 2 ^ 20) →
    (v.get BND_BAR_CMD.RESULT (a % 4) = 1 → exec (.barrier t) s = .next (v.svcEnd t 5)) ∧
    (v.get BND_BAR_CMD.RESULT (a % 4) ≠ 1 → ∃ u, exec (.barrier t) s = .next u ∧ u.lib.svcBar = v.lib.svcBar ++ [(t.val, a % 4, v.get BND_BAR_CMD.SLOT (a % 4))] ∧
      u.svcBusy t = v.svcBusy t ∧ { u with lib := s.lib } = { v with lib := s.lib })) ∧
  (∀ (s v : State) (t : TillerIx) (h tag x n b : Nat),
    s.serves t 4 →
    h = s.ctxWord t 0x200 % 64 →
    tag = s.ctxWord t 0x204 →
    x = (s.ctxWord t 0x208 + s.ctxWord t 0x20C * 2 ^ 32) / 2 ^ 28 →
    n = s.ctxWord t 0x210 →
    v = { s with bnd := { s.bnd with tag := (List.range n).foldl (fun m i => Tab.put 0 m (x + i) tag) s.bnd.tag } } →
    (s.isUp h = false ∨ n = 0 ∨ 2 ^ 20 < x + n → exec (.postAdd t) s = .next (s.svcEnd t 2)) ∧
    (s.isUp h = true → n ≠ 0 → x + n ≤ 2 ^ 20 → s.svcHost t = none → exec (.postAdd t) s = .next ((s.archive (t / 48) 0x311 0 0 (s.ctxWord t 0x220) 4 2).svcEnd t 1)) ∧
    (s.isUp h = true → n ≠ 0 → x + n ≤ 2 ^ 20 → (s.svcHost t).isSome = true → v.addBreaks h = some b → exec (.postAdd t) s = .next ((s.archive (t / 48) 0x311 0 0 (s.ctxWord t 0x220) b 2).svcEnd t 1)) ∧
    (s.isUp h = true → n ≠ 0 → x + n ≤ 2 ^ 20 → (s.svcHost t).isSome = true → v.addBreaks h = none → s.bindQuiet → (∀ i < n, s.bnd.owedAll.contains (x + i) = false) →
      ∃ u, exec (.postAdd t) s = .next u ∧ u.bnd.adds = s.bnd.adds ++ [⟨h, x, n, tag, s.ctxWord t 0x220⟩] ∧ u.out = .dcdEvent h 0 x n :: s.out ∧
      (∀ i < n, Tab.get 0 u.bnd.tag (x + i) = tag) ∧ u.svcBusy t = false ∧ u.ctxWord t 0x22C = 0 ∧ { u with lib := s.lib, bnd := s.bnd, out := s.out } = s) ∧
    (s.isUp h = true → n ≠ 0 → x + n ≤ 2 ^ 20 → (s.svcHost t).isSome = true → v.addBreaks h = none →
      exec (.postAdd t) s = .next (({ v with bnd := { v.bnd with addWait := v.bnd.addWait ++ [⟨h, x, n, tag, s.ctxWord t 0x220⟩] } } : State).bindStep.svcEnd t 0))) ∧
  (∀ (s : State) (t : TillerIx) (x n : Nat),
    s.serves t 5 →
    x = s.svcArg t % 2 ^ 20 →
    s.ctxWord t 0x200 = 2 →
    s.svcSlot x 2 = some n →
    (Tab.get ({} : RshSlot) s.bnd.rsh n).active = true →
    s.get BND_RSH_STS.PHASE n = 1 →
    s.get BND_RSH_STS.MARKED n ≤ s.get BND_RSH_CTL.THRESH n →
    s.olderRemain (Tab.get ({} : RshSlot) s.bnd.rsh n).shelf = false →
    ∃ u, exec (.reshelve t) s = .next u ∧ u = (rshSwitch (s.set BND_RSH_CTL.OP n 2) n).svcEnd t 0 ∧
      (Tab.get ({} : RshSlot) u.bnd.rsh n).stall = true ∧ u.get BND_RSH_STS.PHASE n = 2 ∧ u.svcBusy t = false) ∧
  (∀ (s u : State) (t : TillerIx) (x n h : Nat),
    s.serves t 5 →
    x = s.svcArg t % 2 ^ 20 →
    s.ctxWord t 0x200 = 1 →
    s.svcSlot x 1 = some n →
    u = rshStart ((((List.range 4).foldl (fun s k => s.setWord .BND_SREC_D (4 * (x % 4) + k) (BitVec.ofNat 32 (s.ctxWord t (0x200 + 4 * k)))) s).set BND_RSH_CTL.SHELF n x).set BND_RSH_CTL.OP n 1) (x % 4) n x →
    (s.svcHost t = none ∨ (s.svcHost t = some h ∧ s.policyPool h (rget (BitVec.ofNat 128 (s.svcData t 4)) rAltPort) = true) →
      exec (.reshelve t) s = .next (u.svcEnd t (rshSvcResult (u.get BND_RSH_STS.RESULT n)))) ∧
    (s.svcHost t = some h ∧ s.policyPool h (rget (BitVec.ofNat 128 (s.svcData t 4)) rAltPort) = false → exec (.reshelve t) s = .next ((s.archive (t / 48) 0x311 0 0 (s.ctxWord t 0x220) 2 2).svcEnd t 1))) ∧
  (∀ (s : State) (t : TillerIx) (x n op : Nat),
    s.serves t 5 →
    x = s.svcArg t % 2 ^ 20 →
    op = s.ctxWord t 0x200 →
    s.svcSlot x op = some n →
    (op = 2 → exec (.reshelve t) s = .next ((rshSwitch (s.set BND_RSH_CTL.OP n 2) n).svcEnd t (rshSvcResult ((rshSwitch (s.set BND_RSH_CTL.OP n 2) n).get BND_RSH_STS.RESULT n)))) ∧
    (op = 0 → exec (.reshelve t) s = .next ((reshelveAbort .librarian ⟨x % 4, Nat.mod_lt _ (by decide)⟩ ⟨n % 16, Nat.mod_lt _ (by decide)⟩ s).svcEnd t 0)) ∧
    (2 < op → exec (.reshelve t) s = .next (s.svcEnd t 2))) ∧
  (∀ (s : State) (t : TillerIx) (op : Nat),
    s.serves t 5 →
    op = s.ctxWord t 0x200 →
    s.svcSlot (s.svcArg t % 2 ^ 20) op = none →
    exec (.reshelve t) s = .next (s.svcEnd t (if op = 1 then 5 else 3))) ∧
  (∀ (s : State) (t : TillerIx) (r n : Nat) (v : BitVec 128),
    s.serves t 6 →
    v = BitVec.ofNat 128 (s.svcData t 4) →
    r = ruleBase v / 2 ^ 16 % 4 →
    n = s.svcArg t % 2 ^ 12 →
    (ruleResult s r n v = 0 → ∃ u, exec (.svcRuleWrite t) s = .next u ∧ u.ruleOf r n = v ∧ (∀ k, k ≠ 4096 * r + n → Tab.get 0 u.bnd.rule k = Tab.get 0 s.bnd.rule k) ∧ u.svcBusy t = false ∧ u.ctxWord t 0x22C = 0 ∧
      { u with lib := s.lib, bnd := s.bnd } = s) ∧
    (ruleResult s r n v = 2 → exec (.svcRuleWrite t) s = .next (s.svcEnd t 2)) ∧
    (ruleResult s r n v = 5 → exec (.svcRuleWrite t) s = .next (({ s with free := s.free + 1 } : State).svcEnd t (1 + Config.freeValue s.free % 6)))) ∧
  (∀ (s : State) (t : TillerIx),
    s.serves t 7 →
    (s.svcArg t ≤ 60000 → ∃ u, exec (.setTimer t) s = .next u ∧ (u.tiller t).period = some (s.svcArg t) ∧ (∀ x : TillerIx, x ≠ t → u.tiller x = s.tiller x) ∧ u.svcBusy t = false ∧ u.ctxWord t 0x22C = 0 ∧ { u with lib := s.lib } = s) ∧
    (60000 < s.svcArg t → exec (.setTimer t) s = .next (s.svcEnd t 2)))

/-- LEAD_TAKEOVER makes the first running region the lead and drops what the old lead had accepted; MPU_BARRIER is BUSY until MPU_BARRIER_DONE shows DONE, and a GO while BUSY is discarded and counted; HANDLER_TIMESLICE takes up the next ready handler in rotation, and an error of the core's memory is recorded; TIMER_DUE posts one TIMER event with its time, merged into one that is queued; REQUEST_DEADLINE answers with INTERNAL; a first watchdog restarts the core and is recorded, a second within 1 s is recorded as REGION_FATAL. A write of a register of the group that reaches it stores the fields and does what the written bits start: the same as the command. Given by a path that may not write its register, a command is counted as a discard and does nothing else; in the window of an isolated region, or through the manager port before ready, it does nothing. -/
def Obligations.CoresAndTimers : Prop :=
  (∀ (s : State) (r : Nat),
    s.leadRuns = false →
    (List.range 4).find? s.coreRuns = some r →
    ∃ t, exec .leadTakeover s = .next t ∧ (∀ q < 4, t.get LIB_CORE_STS.LEAD q = if q = r then 1 else 0) ∧ t.lib.opens = [] ∧ t.lib.fm = [] ∧ t.lib.mbxRun = [] ∧ t.lib.heldReply = [] ∧
      (∀ q < 4, t.get LIB_CORE_STS.STATE q = s.get LIB_CORE_STS.STATE q) ∧ wordsKept s t [.LIB_CORE_STS] ∧ { t with regs := s.regs, lib := s.lib } = s) ∧
  (∀ (s : State),
    s.leadRuns = true ∨ (∀ r < 4, s.coreRuns r = false) → exec .leadTakeover s = .next s) ∧
  (∀ (s : State) (p : Path) (r : Region),
    s.admits p (libSet r) →
    (s.flag LIB_MPU_BAR.BUSY r = false → ∃ t, exec (.mpuBarrier p r) s = .next t ∧ t.flag LIB_MPU_BAR.BUSY r = true ∧ wordsKept s t [.LIB_MPU_BAR] ∧ onlyRegs s t) ∧
    (s.flag LIB_MPU_BAR.BUSY r = true → exec (.mpuBarrier p r) s = .next (s.discard (libSet r)))) ∧
  (∀ (s : State) (r : Region),
    (s.flag LIB_MPU_BAR.BUSY r = true → ∃ t, exec (.mpuBarrierDone r) s = .next t ∧ t.flag LIB_MPU_BAR.BUSY r = false ∧ t.flag LIB_MPU_BAR.DONE r = true ∧ wordsKept s t [.LIB_MPU_BAR] ∧ onlyRegs s t) ∧
    (s.flag LIB_MPU_BAR.BUSY r = false → exec (.mpuBarrierDone r) s = .next s)) ∧
  (∀ (s : State) (r : Region) (t : TillerIx) (u : Nat),
    Tab.get 0 s.lib.running r = t.val + 1 →
    isHosted t = true →
    t.val / 48 = r.val →
    ((List.range 32).map (fun i => 48 * r.val + 16 + (t.val % 48 - 16 + 1 + i) % 32)).find? s.handlerReady = some u →
    ∃ v, exec (.handlerTimeslice ⟨r, .good⟩) s = .next v ∧ Tab.get 0 v.lib.running r = u + 1 ∧ v.lib.til = s.lib.til ∧
      wordsKept s v [.LIB_MPU_BASE, .LIB_MPU_LIMIT]) ∧
  (∀ (s : State) (r : Region) (m : EccRead),
    Tab.get 0 s.lib.running r = 0 →
    (m = .good ∨ s.coreRuns r = false → exec (.handlerTimeslice ⟨r, m⟩) s = .next s) ∧
    (s.coreRuns r = true → m ≠ .good → ∃ v, exec (.handlerTimeslice ⟨r, m⟩) s = .next v ∧ v.stsBit (libSet r) (if m = .corrected then 0 else 1))) ∧
  (∀ (s : State) (t : TillerIx) (p m : Nat),
    p = s.timerPeriod t →
    m = s.timeOf (t / 48) / (p * 1000000) →
    (isHosted t = true → p ≠ 0 → (s.tiller t).due < m → s.coreRuns (t / 48) = true → s.windowGone (tillerUnit t) = false → s.get TIL_STS.STATE t % 3 ≠ 0 → (s.tiller t).events = [] →
      ∃ u, exec (.timerDue t) s = .next u ∧ u.tiller t = { s.tiller t with due := m, events := [(6, [0, m * p * 1000 % 2 ^ 32])] } ∧ wordsKept s u [.TIL_EVT]) ∧
    (isHosted t = true → p ≠ 0 → (s.tiller t).due < m → s.coreRuns (t / 48) = true →
      exec (.timerDue t) s = .next ((s.setTiller t { s.tiller t with due := m }).postTimer t (m * p * 1000 % 2 ^ 32))) ∧
    (isHosted t = false ∨ p = 0 ∨ m ≤ (s.tiller t).due ∨ s.coreRuns (t / 48) = false → exec (.timerDue t) s = .next s)) ∧
  (∀ (s : State) (t : TillerIx) (m a : Nat),
    isHosted t = true →
    s.timerPeriod t ≠ 0 →
    m = s.timeOf (t / 48) / (s.timerPeriod t * 1000000) →
    (s.tiller t).due < m →
    s.coreRuns (t / 48) = true →
    (s.tiller t).events = [(6, [0, a])] →
    ∃ u, exec (.timerDue t) s = .next u ∧ u.tiller t = { s.tiller t with due := m, events := [(6, [0, m * s.timerPeriod t * 1000 % 2 ^ 32])] } ∧
      u.get TIL_EVT.LOST t = (s.bump TIL_EVT.LOST t 1).get TIL_EVT.LOST t ∧ wordsKept s u [.TIL_EVT]) ∧
  (∀ (s : State) (n : Nat) (q : OpenReq),
    s.lib.opens.find? (fun q => q.handle == n) = some q →
    exec (.requestDeadline n) s = .next (s.answerReq q 5) ∧
    (∀ e, q.asker = .mailbox e → s.lib.fm = [] → exec (.requestDeadline n) s = .next { s with lib := { s.lib with opens := s.lib.opens.filter (fun x => x != q), heldReply := s.lib.heldReply.filter (fun x => x.1 != q.handle), fm := [] } })) ∧
  (∀ (s : State) (n : Nat),
    s.lib.opens.find? (fun q => q.handle == n) = none →
    exec (.requestDeadline n) s = .next s) ∧
  (∀ (s : State) (r : Region),
    s.coreRuns r = true →
    Tab.get none s.lib.dog r = none →
    (List.range 32).all (fun j => !s.tilRuns (48 * r.val + 16 + j)) = true →
    ∃ t, exec (.libWatchdog r) s = .next t ∧ Tab.get none t.lib.dog r = some (s.timeOf r) ∧ t.stsBit (libSet r) 2 ∧
      t.get LIB_CORE_STS.RESTARTS r = (s.bump LIB_CORE_STS.RESTARTS r 1).get LIB_CORE_STS.RESTARTS r) ∧
  (∀ (s : State) (r : Region) (n : Nat),
    (s.coreRuns r = false → exec (.libWatchdog r) s = .next s) ∧
    (s.coreRuns r = true → Tab.get none s.lib.dog r = some n → s.timeOf r - n ≤ 1000000000 → exec (.libWatchdog r) s =
      .next (({ s with lib := { s.lib with dog := Tab.put none s.lib.dog r (some (s.timeOf r)) } } : State).record ⟨libSet r, 2, 3, 7, r, 0⟩))) ∧
  (∀ (s : State) (p : Path) (a : BitVec 32) (d : BitVec 64) (i : Nat),
    s.writeReaches p a (.reg .LIB_MPU_BAR i) →
    exec (.registerWrite p a d 4) s = if d.getLsbD 0 then (if s.flag LIB_MPU_BAR.BUSY i then .next (if (s.stored .LIB_MPU_BAR i d a).cesSet (regSet s .LIB_MPU_BAR i a.toNat) = s.cesSet (regSet s .LIB_MPU_BAR i a.toNat) then (s.stored .LIB_MPU_BAR i d a).discard (regSet s .LIB_MPU_BAR i a.toNat) else (s.stored .LIB_MPU_BAR i d a)) else exec (.mpuBarrier p (ixRegion i)) (s.stored .LIB_MPU_BAR i d a)) else .next (s.stored .LIB_MPU_BAR i d a)) ∧
  (∀ (s : State) (p : Path) (a : BitVec 32) (d : BitVec 64) (i : Nat),
    s.writeReaches p a (.reg .LIB_MPU_BASE i) →
    exec (.registerWrite p a d 4) s = .next (if (d.setWidth 32) ≠ s.word .LIB_MPU_BASE i ∧ grantsHigh (d.setWidth 32) (s.word .LIB_MPU_LIMIT i) = true then s.discard (regSet s .LIB_MPU_BASE i a.toNat) else (s.stored .LIB_MPU_BASE i d a))) ∧
  (∀ (s : State) (p : Path) (a : BitVec 32) (d : BitVec 64) (i : Nat),
    s.writeReaches p a (.reg .LIB_MPU_LIMIT i) →
    exec (.registerWrite p a d 4) s = .next (if (d.setWidth 32) ≠ s.word .LIB_MPU_LIMIT i ∧ grantsHigh (s.word .LIB_MPU_BASE i) (d.setWidth 32) = true then s.discard (regSet s .LIB_MPU_LIMIT i a.toNat) else (s.stored .LIB_MPU_LIMIT i d a))) ∧
  (∀ (s : State) (p : Path) (r : Region),
    s.mayWrite p = false →
    exec (.mpuBarrier p r) s = .next (if s.windowGone (setUnit (libSet r)) || s.unheard p then s else s.discard (libSet r)))

/-- With DOORBELL clear and the lead core running, a command is staged and performed: CARREL_CREATE, CHANGE, RESTORE, QUEUE_CREATE and QUEUE_DESTROY complete with their code and response; CARREL_THAW and CARREL_DESTROY complete with the result of CRL_CMD; CARREL_FREEZE and CARREL_SAVE run on while CRL_CMD is BUSY; RESTORE from a host reads the record first and goes on with what the host returns; REQUEST_CAPACITY is a bind request of the port's host. A port without a host, or a PASID without a carrel, is INVALID; a carrel command while CRL_CMD is BUSY returns BUSY; a command that runs on too long completes with TIMEOUT. Staging while DOORBELL is set is discarded and counted; without a running lead core DOORBELL stays set; before the machine is ready nothing arrives. A write of a register of the group that reaches it stores the fields and does what the written bits start: the same as the command. -/
def Obligations.MailboxCommands : Prop :=
  (∀ (s : State) (ep : Fin 65) (port : Port) (pasid : BitVec 20) (tp : BitVec 8) (m a src v : BitVec 64) (it : Fin 4) (i : BitVec 16) (hs : Bool) (base : Qid) (slot : Fin 64) (c : BitVec 512) (r : RecordFrom),
    s.flag SEC_BOOT_STS.READY 0 = false ∨ (ep.val < 64 ∧ s.isUp ep = false) →
    (exec (.carrelCreate ep port pasid tp m) s = .next s) ∧
    (exec (.carrelChange ep port pasid it v i) s = .next s) ∧
    (exec (.carrelFreeze ep port pasid) s = .next s) ∧
    (exec (.carrelSave ep port pasid hs a) s = .next s) ∧
    ((r = .hbm ∨ s.mbxReads ep = false) → exec (.carrelRestore ep port pasid r src base) s = .next s) ∧
    (exec (.carrelThaw ep port pasid) s = .next s) ∧
    (exec (.carrelDestroy ep port pasid) s = .next s) ∧
    (exec (.queueCreate ep port pasid slot c) s = .next s) ∧
    (exec (.queueDestroy ep port pasid slot) s = .next s)) ∧
  (∀ (s : State) (ep : Fin 65) (port : Port) (pasid : BitVec 20) (tp : BitVec 8) (m a src v : BitVec 64) (it : Fin 4) (i : BitVec 16) (hs : Bool) (base : Qid) (slot : Fin 64) (c : BitVec 512) (r : RecordFrom),
    s.mbxComes ep →
    s.mbxRings ep = true →
    (exec (.carrelCreate ep port pasid tp m) s = .next (s.discard (libSet s.lead))) ∧
    (exec (.carrelChange ep port pasid it v i) s = .next (s.discard (libSet s.lead))) ∧
    (exec (.carrelFreeze ep port pasid) s = .next (s.discard (libSet s.lead))) ∧
    (exec (.carrelSave ep port pasid hs a) s = .next (s.discard (libSet s.lead))) ∧
    ((r = .hbm ∨ s.mbxReads ep = false) → exec (.carrelRestore ep port pasid r src base) s = .next (s.discard (libSet s.lead))) ∧
    (exec (.carrelThaw ep port pasid) s = .next (s.discard (libSet s.lead))) ∧
    (exec (.carrelDestroy ep port pasid) s = .next (s.discard (libSet s.lead))) ∧
    (exec (.queueCreate ep port pasid slot c) s = .next (s.discard (libSet s.lead))) ∧
    (exec (.queueDestroy ep port pasid slot) s = .next (s.discard (libSet s.lead)))) ∧
  (∀ (s : State) (ep : Fin 65) (port : Port) (pasid : BitVec 20) (tp : BitVec 8) (m a src v : BitVec 64) (it : Fin 4) (i : BitVec 16) (hs : Bool) (base : Qid) (slot : Fin 64) (c : BitVec 512) (r : RecordFrom),
    s.mbxComes ep →
    s.mbxRings ep = false →
    s.leadRuns = false →
    (exec (.carrelCreate ep port pasid tp m) s = .next (s.mbxGiven ep 0xC000 (mbxWho ep port pasid ++ (leBytes 4 tp.toNat ++ leBytes 8 m.toNat)))) ∧
    (exec (.carrelChange ep port pasid it v i) s = .next (s.mbxGiven ep 0xC001 (mbxWho ep port pasid ++ (leBytes 4 it ++ leBytes 8 v.toNat ++ leBytes 2 i.toNat)))) ∧
    (exec (.carrelFreeze ep port pasid) s = .next (s.mbxGiven ep 0xC002 (mbxWho ep port pasid ++ []))) ∧
    (exec (.carrelSave ep port pasid hs a) s = .next (s.mbxGiven ep 0xC003 (mbxWho ep port pasid ++ (leBytes 4 (if hs then 1 else 0) ++ leBytes 8 a.toNat)))) ∧
    ((r = .hbm ∨ s.mbxReads ep = false) → exec (.carrelRestore ep port pasid r src base) s = .next (s.mbxGiven ep 0xC004 (mbxWho ep port pasid ++ (leBytes 4 (if r != .hbm then 1 else 0) ++ leBytes 8 src.toNat ++ leBytes 4 base.toNat)))) ∧
    (exec (.carrelThaw ep port pasid) s = .next (s.mbxGiven ep 0xC005 (mbxWho ep port pasid ++ []))) ∧
    (exec (.carrelDestroy ep port pasid) s = .next (s.mbxGiven ep 0xC006 (mbxWho ep port pasid ++ []))) ∧
    (exec (.queueCreate ep port pasid slot c) s = .next (s.mbxGiven ep 0xC008 (mbxWho ep port pasid ++ (leBytes 4 slot ++ leBytes 64 c.toNat)))) ∧
    (exec (.queueDestroy ep port pasid slot) s = .next (s.mbxGiven ep 0xC009 (mbxWho ep port pasid ++ (leBytes 2 slot))))) ∧
  (∀ (s : State) (ep : Fin 65) (port : Port) (pasid : BitVec 20) (tp : BitVec 8) (m a src v : BitVec 64) (it : Fin 4) (i : BitVec 16) (hs : Bool) (base : Qid) (slot : Fin 64) (c : BitVec 512) (r : RecordFrom),
    s.mbxComes ep →
    s.mbxRings ep = false →
    s.leadRuns = true →
    s.isUp (if ep.val < 64 then ep.val else port.val) = false →
    (exec (.carrelCreate ep port pasid tp m) s = .next ((s.mbxGiven ep 0xC000 (mbxWho ep port pasid ++ (leBytes 4 tp.toNat ++ leBytes 8 m.toNat))).mbxDone ep 1 [])) ∧
    (exec (.carrelChange ep port pasid it v i) s = .next ((s.mbxGiven ep 0xC001 (mbxWho ep port pasid ++ (leBytes 4 it ++ leBytes 8 v.toNat ++ leBytes 2 i.toNat))).mbxDone ep 1 [])) ∧
    (exec (.carrelFreeze ep port pasid) s = .next ((s.mbxGiven ep 0xC002 (mbxWho ep port pasid ++ [])).mbxDone ep 1 [])) ∧
    (exec (.carrelSave ep port pasid hs a) s = .next ((s.mbxGiven ep 0xC003 (mbxWho ep port pasid ++ (leBytes 4 (if hs then 1 else 0) ++ leBytes 8 a.toNat))).mbxDone ep 1 [])) ∧
    ((r = .hbm ∨ s.mbxReads ep = false) → exec (.carrelRestore ep port pasid r src base) s = .next ((s.mbxGiven ep 0xC004 (mbxWho ep port pasid ++ (leBytes 4 (if r != .hbm then 1 else 0) ++ leBytes 8 src.toNat ++ leBytes 4 base.toNat))).mbxDone ep 1 [])) ∧
    (exec (.carrelThaw ep port pasid) s = .next ((s.mbxGiven ep 0xC005 (mbxWho ep port pasid ++ [])).mbxDone ep 1 [])) ∧
    (exec (.carrelDestroy ep port pasid) s = .next ((s.mbxGiven ep 0xC006 (mbxWho ep port pasid ++ [])).mbxDone ep 1 [])) ∧
    (exec (.queueCreate ep port pasid slot c) s = .next ((s.mbxGiven ep 0xC008 (mbxWho ep port pasid ++ (leBytes 4 slot ++ leBytes 64 c.toNat))).mbxDone ep 1 [])) ∧
    (exec (.queueDestroy ep port pasid slot) s = .next ((s.mbxGiven ep 0xC009 (mbxWho ep port pasid ++ (leBytes 2 slot))).mbxDone ep 1 []))) ∧
  (∀ (s : State) (ep : Fin 65) (port : Port) (pasid : BitVec 20) (h : Nat) (tp : BitVec 8) (m a src v : BitVec 64) (it : Fin 4) (i : BitVec 16) (hs : Bool) (base : Qid) (slot : Fin 64) (c : BitVec 512) (r : RecordFrom),
    (h = if ep.val < 64 then ep.val else port.val) →
    s.mbxComes ep →
    s.isUp h = true →
    s.mbxRings ep = false →
    s.leadRuns = true →
    s.carrelOf h pasid.toNat = none →
    exec (.carrelChange ep port pasid it v i) s = .next ((s.mbxGiven ep 0xC001 (mbxWho ep port pasid ++ (leBytes 4 it ++ leBytes 8 v.toNat ++ leBytes 2 i.toNat))).mbxDone ep 1 []) ∧
    exec (.carrelFreeze ep port pasid) s = .next ((s.mbxGiven ep 0xC002 (mbxWho ep port pasid ++ [])).mbxDone ep 1 []) ∧
    exec (.carrelSave ep port pasid hs a) s = .next ((s.mbxGiven ep 0xC003 (mbxWho ep port pasid ++ (leBytes 4 (if hs then 1 else 0) ++ leBytes 8 a.toNat))).mbxDone ep 1 []) ∧
    exec (.carrelThaw ep port pasid) s = .next ((s.mbxGiven ep 0xC005 (mbxWho ep port pasid ++ [])).mbxDone ep 1 []) ∧
    exec (.carrelDestroy ep port pasid) s = .next ((s.mbxGiven ep 0xC006 (mbxWho ep port pasid ++ [])).mbxDone ep 1 []) ∧
    exec (.queueCreate ep port pasid slot c) s = .next ((s.mbxGiven ep 0xC008 (mbxWho ep port pasid ++ (leBytes 4 slot ++ leBytes 64 c.toNat))).mbxDone ep 1 []) ∧
    exec (.queueDestroy ep port pasid slot) s = .next ((s.mbxGiven ep 0xC009 (mbxWho ep port pasid ++ (leBytes 2 slot))).mbxDone ep 1 [])) ∧
  (∀ (s : State) (ep : Fin 65) (port : Port) (pasid : BitVec 20) (h k : Nat) (tp : BitVec 8) (m a src v : BitVec 64) (it : Fin 4) (i : BitVec 16) (hs : Bool) (base : Qid) (slot : Fin 64) (c : BitVec 512) (r : RecordFrom),
    (h = if ep.val < 64 then ep.val else port.val) →
    s.mbxComes ep →
    s.isUp h = true →
    s.mbxRings ep = false →
    s.leadRuns = true →
    s.flag CRL_CMD.BUSY 0 = true →
    s.carrelOf h pasid.toNat = some k →
    (exec (.carrelCreate ep port pasid tp m) s = .next ((s.mbxGiven ep 0xC000 (mbxWho ep port pasid ++ (leBytes 4 tp.toNat ++ leBytes 8 m.toNat))).mbxDone ep 4 [])) ∧
    (exec (.carrelFreeze ep port pasid) s = .next ((s.mbxGiven ep 0xC002 (mbxWho ep port pasid ++ [])).mbxDone ep 4 [])) ∧
    ((hs = true → s.tplOf k 22 1 = 1) → exec (.carrelSave ep port pasid hs a) s = .next ((s.mbxGiven ep 0xC003 (mbxWho ep port pasid ++ (leBytes 4 (if hs then 1 else 0) ++ leBytes 8 a.toNat))).mbxDone ep 4 [])) ∧
    ((r = .hbm ∨ s.mbxReads ep = false) → exec (.carrelRestore ep port pasid r src base) s = .next ((s.mbxGiven ep 0xC004 (mbxWho ep port pasid ++ (leBytes 4 (if r != .hbm then 1 else 0) ++ leBytes 8 src.toNat ++ leBytes 4 base.toNat))).mbxDone ep 4 [])) ∧
    (exec (.carrelThaw ep port pasid) s = .next ((s.mbxGiven ep 0xC005 (mbxWho ep port pasid ++ [])).mbxDone ep 4 [])) ∧
    (exec (.carrelDestroy ep port pasid) s = .next ((s.mbxGiven ep 0xC006 (mbxWho ep port pasid ++ [])).mbxDone ep 4 []))) ∧
  (∀ (s x : State) (ep : Fin 65) (port : Port) (pasid : BitVec 20) (h : Nat) (tp : BitVec 8) (m : BitVec 64),
    (h = if ep.val < 64 then ep.val else port.val) →
    s.mbxComes ep →
    s.isUp h = true →
    s.mbxRings ep = false →
    s.leadRuns = true →
    x = s.mbxGiven ep 0xC000 (mbxWho ep port pasid ++ (leBytes 4 tp.toNat ++ leBytes 8 m.toNat)) →
    x.flag CRL_CMD.BUSY 0 = false →
    exec (.carrelCreate ep port pasid tp m) s = .next ((x.mbxCreate h pasid.toNat tp.toNat m.toNat).1.mbxDone ep (x.mbxCreate h pasid.toNat tp.toNat m.toNat).2.1 (x.mbxCreate h pasid.toNat tp.toNat m.toNat).2.2)) ∧
  (∀ (s x : State) (ep : Fin 65) (port : Port) (pasid : BitVec 20) (h : Nat) (it : Fin 4) (v : BitVec 64) (i : BitVec 16) (k : Nat),
    (h = if ep.val < 64 then ep.val else port.val) →
    s.mbxComes ep →
    s.isUp h = true →
    s.mbxRings ep = false →
    s.leadRuns = true →
    x = s.mbxGiven ep 0xC001 (mbxWho ep port pasid ++ (leBytes 4 it ++ leBytes 8 v.toNat ++ leBytes 2 i.toNat)) →
    x.carrelOf h pasid.toNat = some k →
    exec (.carrelChange ep port pasid it v i) s = .next ((x.mbxChange h k it.val v.toNat i.toNat).1.mbxDone ep (x.mbxChange h k it.val v.toNat i.toNat).2.1 (x.mbxChange h k it.val v.toNat i.toNat).2.2)) ∧
  (∀ (s x : State) (ep : Fin 65) (port : Port) (pasid : BitVec 20) (h : Nat) (k : Nat) (y : State),
    (h = if ep.val < 64 then ep.val else port.val) →
    s.mbxComes ep →
    s.isUp h = true →
    s.mbxRings ep = false →
    s.leadRuns = true →
    x = s.mbxGiven ep 0xC002 (mbxWho ep port pasid ++ []) →
    x.flag CRL_CMD.BUSY 0 = false →
    x.carrelOf h pasid.toNat = some k →
    y = crlFreeze .librarian (BitVec.ofNat 12 k) x →
    (y.flag CRL_CMD.BUSY 0 = true → exec (.carrelFreeze ep port pasid) s = .next { y with lib := { y.lib with mbxRun := y.lib.mbxRun ++ [(ep.val, 0xC002, k)] } }) ∧
    (y.flag CRL_CMD.BUSY 0 = false → exec (.carrelFreeze ep port pasid) s = .next (y.mbxDone ep (crlReturn (y.get CRL_CMD.RESULT 0)) []))) ∧
  (∀ (s x : State) (ep : Fin 65) (port : Port) (pasid : BitVec 20) (h : Nat) (k : Nat) (hs : Bool) (a : BitVec 64) (y : State),
    (h = if ep.val < 64 then ep.val else port.val) →
    s.mbxComes ep →
    s.isUp h = true →
    s.mbxRings ep = false →
    s.leadRuns = true →
    x = s.mbxGiven ep 0xC003 (mbxWho ep port pasid ++ (leBytes 4 (if hs then 1 else 0) ++ leBytes 8 a.toNat)) →
    x.carrelOf h pasid.toNat = some k →
    y = crlSave .librarian (BitVec.ofNat 12 k) hs ((((x.set CRL_ARG0.PORT 0 h).set CRL_ARG0.PASID 0 pasid.toNat).setWord .CRL_ADDR_LO 0 (BitVec.ofNat 32 a.toNat)).setWord .CRL_ADDR_HI 0 (BitVec.ofNat 32 (a.toNat / 2 ^ 32))) →
    (hs = true → x.tplOf k 22 1 = 0 → exec (.carrelSave ep port pasid hs a) s = .next (x.mbxDone ep 3 [])) ∧
    ((hs = true → x.tplOf k 22 1 = 1) → x.flag CRL_CMD.BUSY 0 = false → y.flag CRL_CMD.BUSY 0 = true →
      exec (.carrelSave ep port pasid hs a) s = .next { y with lib := { y.lib with mbxRun := y.lib.mbxRun ++ [(ep.val, 0xC003, k)] } }) ∧
    ((hs = true → x.tplOf k 22 1 = 1) → x.flag CRL_CMD.BUSY 0 = false → y.flag CRL_CMD.BUSY 0 = false →
      exec (.carrelSave ep port pasid hs a) s = .next (y.mbxDone ep (crlReturn (y.get CRL_CMD.RESULT 0)) []))) ∧
  (∀ (s x : State) (ep : Fin 65) (port : Port) (pasid : BitVec 20) (h : Nat) (src : BitVec 64) (base : Qid),
    (h = if ep.val < 64 then ep.val else port.val) →
    s.mbxComes ep →
    s.isUp h = true →
    s.mbxRings ep = false →
    s.leadRuns = true →
    x = s.mbxGiven ep 0xC004 (mbxWho ep port pasid ++ (leBytes 4 0 ++ leBytes 8 src.toNat ++ leBytes 4 base.toNat)) →
    x.flag CRL_CMD.BUSY 0 = false →
    exec (.carrelRestore ep port pasid .hbm src base) s = .next ((x.mbxRestore h pasid.toNat (src.toNat % 2 ^ 16) base.toNat none).1.mbxDone ep (x.mbxRestore h pasid.toNat (src.toNat % 2 ^ 16) base.toNat none).2.1 (x.mbxRestore h pasid.toNat (src.toNat % 2 ^ 16) base.toNat none).2.2)) ∧
  (∀ (s x : State) (ep : Fin 65) (port : Port) (pasid : BitVec 20) (h : Nat) (b : List Byte) (src : BitVec 64) (base : Qid) (y : State),
    (h = if ep.val < 64 then ep.val else port.val) →
    s.mbxComes ep →
    s.isUp h = true →
    s.mbxRings ep = false →
    s.leadRuns = true →
    x = s.mbxGiven ep 0xC004 (mbxWho ep port pasid ++ (leBytes 4 1 ++ leBytes 8 src.toNat ++ leBytes 4 base.toNat)) →
    x.flag CRL_CMD.BUSY 0 = false →
    s.mbxReads ep = false →
    y = { x.emit (.hostRead h pasid.toNat src.toNat 17104) with lib := { x.lib with mbxRun := x.lib.mbxRun ++ [(ep.val, 0xC004, 0)] } } →
    exec (.carrelRestore ep port pasid (.host b) src base) s = .next (y.mbxRecord ep (.host b)) ∧
    exec (.carrelRestore ep port pasid .hostFail src base) s = .next (y.mbxDone ep 5 [])) ∧
  (∀ (s x : State) (ep : Fin 65) (port : Port) (pasid : BitVec 20) (h : Nat) (b : List Byte) (src : BitVec 64) (base : Qid) (u : Nat) (y : State),
    (h = if ep.val < 64 then ep.val else s.mbxGet ep 3 1 % 64) →
    (u = if ep.val < 64 then s.mbxGet ep 0 4 else s.mbxGet ep 0 3 % 2 ^ 20) →
    s.mbxReads ep = true →
    bits (s.mbxCmd ep) 0 16 = 0xC004 →
    s.leadRuns = true →
    s.isUp h = true →
    u < 2 ^ 20 →
    s.flag CRL_CMD.BUSY 0 = false →
    x = { s with lib := { s.lib with mbxRun := s.lib.mbxRun.filter (fun e => e.1 != ep.val) } } →
    y = x.setMbxCtl ep (putBits (x.mbxCtl ep) 0 1 1) →
    exec (.carrelRestore ep port pasid (.host b) src base) s = .next ((y.mbxRestore h u (s.mbxGet ep 8 2) (s.mbxGet ep 16 4 % 2 ^ 20) (some b)).1.mbxDone ep (y.mbxRestore h u (s.mbxGet ep 8 2) (s.mbxGet ep 16 4 % 2 ^ 20) (some b)).2.1 (y.mbxRestore h u (s.mbxGet ep 8 2) (s.mbxGet ep 16 4 % 2 ^ 20) (some b)).2.2) ∧
    exec (.carrelRestore ep port pasid .hostFail src base) s = .next (x.mbxDone ep 5 [])) ∧
  (∀ (s x : State) (ep : Fin 65) (port : Port) (pasid : BitVec 20) (h : Nat) (k : Nat) (y : State),
    (h = if ep.val < 64 then ep.val else port.val) →
    s.mbxComes ep →
    s.isUp h = true →
    s.mbxRings ep = false →
    s.leadRuns = true →
    x = s.mbxGiven ep 0xC005 (mbxWho ep port pasid ++ []) →
    x.flag CRL_CMD.BUSY 0 = false →
    x.carrelOf h pasid.toNat = some k →
    y = crlThaw .librarian (BitVec.ofNat 12 k) x →
    (y.flag CRL_CMD.BUSY 0 = false → exec (.carrelThaw ep port pasid) s = .next (y.mbxDone ep (crlReturn (y.get CRL_CMD.RESULT 0)) [])) ∧
    (y.flag CRL_CMD.BUSY 0 = true → exec (.carrelThaw ep port pasid) s = .next { y with lib := { y.lib with mbxRun := y.lib.mbxRun ++ [(ep.val, 0xC005, k)] } })) ∧
  (∀ (s x : State) (ep : Fin 65) (port : Port) (pasid : BitVec 20) (h : Nat) (k : Nat) (y : State),
    (h = if ep.val < 64 then ep.val else port.val) →
    s.mbxComes ep →
    s.isUp h = true →
    s.mbxRings ep = false →
    s.leadRuns = true →
    x = s.mbxGiven ep 0xC006 (mbxWho ep port pasid ++ []) →
    x.flag CRL_CMD.BUSY 0 = false →
    x.carrelOf h pasid.toNat = some k →
    y = crlDestroy .librarian (BitVec.ofNat 12 k) x →
    (y.flag CRL_CMD.BUSY 0 = false → exec (.carrelDestroy ep port pasid) s = .next (y.mbxDone ep (crlReturn (y.get CRL_CMD.RESULT 0)) [])) ∧
    (y.flag CRL_CMD.BUSY 0 = true → exec (.carrelDestroy ep port pasid) s = .next { y with lib := { y.lib with mbxRun := y.lib.mbxRun ++ [(ep.val, 0xC006, k)] } })) ∧
  (∀ (s x : State) (ep : Fin 65) (port : Port) (pasid : BitVec 20) (h : Nat) (slot : Fin 64) (c : BitVec 512) (k : Nat),
    (h = if ep.val < 64 then ep.val else port.val) →
    s.mbxComes ep →
    s.isUp h = true →
    s.mbxRings ep = false →
    s.leadRuns = true →
    x = s.mbxGiven ep 0xC008 (mbxWho ep port pasid ++ (leBytes 4 slot ++ leBytes 64 c.toNat)) →
    x.carrelOf h pasid.toNat = some k →
    exec (.queueCreate ep port pasid slot c) s = .next ((x.mbxQueue h pasid.toNat k slot.val c).1.mbxDone ep (x.mbxQueue h pasid.toNat k slot.val c).2.1 (x.mbxQueue h pasid.toNat k slot.val c).2.2)) ∧
  (∀ (s x : State) (ep : Fin 65) (port : Port) (pasid : BitVec 20) (h : Nat) (slot : Fin 64) (k : Nat),
    (h = if ep.val < 64 then ep.val else port.val) →
    s.mbxComes ep →
    s.isUp h = true →
    s.mbxRings ep = false →
    s.leadRuns = true →
    x = s.mbxGiven ep 0xC009 (mbxWho ep port pasid ++ (leBytes 2 slot)) →
    x.carrelOf h pasid.toNat = some k →
    exec (.queueDestroy ep port pasid slot) s = .next ((x.mbxUnqueue k slot.val).1.mbxDone ep (x.mbxUnqueue k slot.val).2.1 (x.mbxUnqueue k slot.val).2.2)) ∧
  (∀ (s x : State) (ep : Fin 65) (port : Port) (h : Nat) (n : Word) (mode : Fin 4) (g : Fin 8) (grp : BitVec 12),
    (h = if ep.val < 64 then ep.val else port.val) →
    x = s.mbxGiven ep 0xC010 ((if ep.val < 64 then leBytes 4 n.toNat else leBytes 3 n.toNat ++ leBytes 1 port) ++ leBytes 1 mode ++ leBytes 3 g ++ leBytes 2 grp.toNat) →
    (s.flag SEC_BOOT_STS.READY 0 = false ∨ (ep.val < 64 ∧ s.isUp ep = false) → exec (.requestCapacity ep port n mode g grp) s = .next s) ∧
    (s.mbxComes ep → s.mbxRings ep = true → exec (.requestCapacity ep port n mode g grp) s = .next (s.discard (libSet s.lead))) ∧
    (s.mbxComes ep → s.mbxRings ep = false → s.leadRuns = false → exec (.requestCapacity ep port n mode g grp) s = .next x) ∧
    (s.mbxComes ep → s.mbxRings ep = false → s.leadRuns = true → s.isUp h = true → (if ep.val < 64 then n.toNat else n.toNat % 2 ^ 24) ≠ 0 → mode.val < 3 →
      exec (.requestCapacity ep port n mode g grp) s = .next ((x.bindRequest (.mailbox ep) 1 h (if ep.val < 64 then n.toNat else n.toNat % 2 ^ 24) mode.val g.val grp.toNat 0).1.mbxDone ep
        (x.bindRequest (.mailbox ep) 1 h (if ep.val < 64 then n.toNat else n.toNat % 2 ^ 24) mode.val g.val grp.toNat 0).2 [])) ∧
    (s.mbxComes ep → s.mbxRings ep = false → s.leadRuns = true → s.isUp h = false ∨ (if ep.val < 64 then n.toNat else n.toNat % 2 ^ 24) = 0 ∨ 3 ≤ mode.val →
      exec (.requestCapacity ep port n mode g grp) s = .next (x.mbxDone ep 1 []))) ∧
  (∀ (s : State) (ep : Fin 65) (e : Nat × Nat × Nat),
    s.lib.mbxRun.find? (fun e => e.1 == ep.val) = some e →
    (s.mbxLink ep).all s.inL0 = true →
    bit (s.mbxCtl ep) 1 = false →
    ∃ t, exec (.mbxCommandTimeout ep) s = .next t ∧ t.mbxRings ep = false ∧ t.lib.mbxRun = s.lib.mbxRun.filter (fun e => e.1 != ep.val) ∧
      (if ep.val = 64 then t.word .LIB_MBX_STS 0 else (t.mailbox ep).sts) = 6 ∧ wordsKept s t [.LIB_MBX_CTL, .LIB_MBX_STS] ∧ { t with regs := s.regs, lib := s.lib } = s) ∧
  (∀ (s : State) (ep : Fin 65),
    (s.lib.mbxRun.find? (fun e => e.1 == ep.val) = none → exec (.mbxCommandTimeout ep) s = .next s) ∧
    ((s.lib.mbxRun.find? (fun e => e.1 == ep.val)).isSome = true → exec (.mbxCommandTimeout ep) s = .next (s.mbxDone ep 6 []))) ∧
  (∀ (s : State) (p : Path) (a : BitVec 32) (d : BitVec 64) (i : Nat),
    s.writeReaches p a (.reg .LIB_MBX_CTL i) →
    exec (.registerWrite p a d 4) s = .next (if d.getLsbD 0 && !s.mbxRings 64 then (s.stored .LIB_MBX_CTL i d a).mbxStart 64 none else (s.stored .LIB_MBX_CTL i d a))) ∧
  (∀ (s : State) (p : Path) (a : BitVec 32) (d : BitVec 64) (i : Nat),
    s.writeReaches p a (.reg .LIB_MBX_CMD i) →
    exec (.registerWrite p a d 4) s = .next (if s.mbxRings 64 then s.discard (regSet s .LIB_MBX_CMD i a.toNat) else (s.stored .LIB_MBX_CMD i d a)))

/-- With the lead core running and no command before it, each query answers Success with what the state holds; Bind vPPB and Unbind vPPB change the binding of a bindable logical device; requests for a port's logical device are forwarded to it; an add or release of capacity is opened with its handler and not answered yet; Set DC Region Configuration is answered Unsupported; a command outside its bound is answered Invalid Input. While a command is being decided, a further one waits in order, and is answered Busy when 16 are queued. Without a running lead core, or by a manager port that is not up and ready, a command is lost. The response carries the command's place in the list of R373. -/
def Obligations.FabricManagerApi : Prop :=
  (∀ (s : State) (via : FmVia) (ps : List Port) (p h : Port) (ld : Fin 16) (op rg b n : Nat) (wr : Bool) (v tag : Word) (bs : List Byte) (m : Fin 4) (g : Fin 8) (grp : BitVec 12) (x : Shelf),
    s.leadRuns = false ∨ (via = .vdm ∧ (s.flag SEC_BOOT_STS.READY 0 = false ∨ (s.managerPort.map s.inL0) ≠ some true)) →
    exec (.identifySwitchDevice via) s = .next s ∧
    exec (.getPhysicalPortState via ps) s = .next s ∧
    exec (.physicalPortControl via p op) s = .next s ∧
    exec (.sendPpbCxlioConfigRequest via p wr rg v) s = .next s ∧
    exec (.getVirtualCxlSwitchInfo via ps) s = .next s ∧
    exec (.bindVppb via h b p ld) s = .next s ∧
    exec (.unbindVppb via h b) s = .next s ∧
    exec (.generateAerEvent via h b) s = .next s ∧
    exec (.tunnelManagementCommand via p bs) s = .next s ∧
    exec (.sendLdCxlioConfigRequest via p ld wr rg v) s = .next s ∧
    exec (.sendLdCxlioMemoryRequest via p ld wr rg bs) s = .next s ∧
    exec (.getDcdInfo via) s = .next s ∧
    exec (.getHostDcRegionConfiguration via h) s = .next s ∧
    exec (.getDcRegionExtentLists via h) s = .next s ∧
    exec (.initiateDynamicCapacityAdd via h n m g grp tag) s = .next s ∧
    exec (.initiateDynamicCapacityRelease via h x n) s = .next s ∧
    exec (.setDcRegionConfiguration via) s = .next s) ∧
  (∀ (s : State) (via : FmVia) (ps : List Port) (p h : Port) (ld : Fin 16) (op rg b n : Nat) (wr : Bool) (v tag : Word) (bs : List Byte) (m : Fin 4) (g : Fin 8) (grp : BitVec 12) (x : Shelf),
    s.leadRuns = true →
    via = .i3c ∨ ((s.managerPort.map s.inL0) = some true ∧ s.flag SEC_BOOT_STS.READY 0 = true) →
    s.fmBusy = true →
    (s.lib.fm.length < 16 → exec (.identifySwitchDevice via) s = .next { s with lib := { s.lib with fm := s.lib.fm ++ [(via, .identify)] } }) ∧ (16 ≤ s.lib.fm.length → exec (.identifySwitchDevice via) s = .next (s.respond (fmEndpoint via) 0 4 [])) ∧
    (s.lib.fm.length < 16 → exec (.getPhysicalPortState via ps) s = .next { s with lib := { s.lib with fm := s.lib.fm ++ [(via, (.portState ps))] } }) ∧ (16 ≤ s.lib.fm.length → exec (.getPhysicalPortState via ps) s = .next (s.respond (fmEndpoint via) 1 4 [])) ∧
    (s.lib.fm.length < 16 → exec (.physicalPortControl via p op) s = .next { s with lib := { s.lib with fm := s.lib.fm ++ [(via, (.portControl p op))] } }) ∧ (16 ≤ s.lib.fm.length → exec (.physicalPortControl via p op) s = .next (s.respond (fmEndpoint via) 2 4 [])) ∧
    (s.lib.fm.length < 16 → exec (.sendPpbCxlioConfigRequest via p wr rg v) s = .next { s with lib := { s.lib with fm := s.lib.fm ++ [(via, (.ppbConfig p wr rg v))] } }) ∧ (16 ≤ s.lib.fm.length → exec (.sendPpbCxlioConfigRequest via p wr rg v) s = .next (s.respond (fmEndpoint via) 3 4 [])) ∧
    (s.lib.fm.length < 16 → exec (.getVirtualCxlSwitchInfo via ps) s = .next { s with lib := { s.lib with fm := s.lib.fm ++ [(via, (.vcsInfo ps))] } }) ∧ (16 ≤ s.lib.fm.length → exec (.getVirtualCxlSwitchInfo via ps) s = .next (s.respond (fmEndpoint via) 4 4 [])) ∧
    (s.lib.fm.length < 16 → exec (.bindVppb via h b p ld) s = .next { s with lib := { s.lib with fm := s.lib.fm ++ [(via, (.bindVppb h b p ld))] } }) ∧ (16 ≤ s.lib.fm.length → exec (.bindVppb via h b p ld) s = .next (s.respond (fmEndpoint via) 5 4 [])) ∧
    (s.lib.fm.length < 16 → exec (.unbindVppb via h b) s = .next { s with lib := { s.lib with fm := s.lib.fm ++ [(via, (.unbindVppb h b))] } }) ∧ (16 ≤ s.lib.fm.length → exec (.unbindVppb via h b) s = .next (s.respond (fmEndpoint via) 6 4 [])) ∧
    (s.lib.fm.length < 16 → exec (.generateAerEvent via h b) s = .next { s with lib := { s.lib with fm := s.lib.fm ++ [(via, (.aerEvent h b))] } }) ∧ (16 ≤ s.lib.fm.length → exec (.generateAerEvent via h b) s = .next (s.respond (fmEndpoint via) 7 4 [])) ∧
    (s.lib.fm.length < 16 → exec (.tunnelManagementCommand via p bs) s = .next { s with lib := { s.lib with fm := s.lib.fm ++ [(via, (.tunnel p bs))] } }) ∧ (16 ≤ s.lib.fm.length → exec (.tunnelManagementCommand via p bs) s = .next (s.respond (fmEndpoint via) 8 4 [])) ∧
    (s.lib.fm.length < 16 → exec (.sendLdCxlioConfigRequest via p ld wr rg v) s = .next { s with lib := { s.lib with fm := s.lib.fm ++ [(via, (.ldConfig p ld wr rg v))] } }) ∧ (16 ≤ s.lib.fm.length → exec (.sendLdCxlioConfigRequest via p ld wr rg v) s = .next (s.respond (fmEndpoint via) 9 4 [])) ∧
    (s.lib.fm.length < 16 → exec (.sendLdCxlioMemoryRequest via p ld wr rg bs) s = .next { s with lib := { s.lib with fm := s.lib.fm ++ [(via, (.ldMemory p ld wr rg bs))] } }) ∧ (16 ≤ s.lib.fm.length → exec (.sendLdCxlioMemoryRequest via p ld wr rg bs) s = .next (s.respond (fmEndpoint via) 10 4 [])) ∧
    (s.lib.fm.length < 16 → exec (.getDcdInfo via) s = .next { s with lib := { s.lib with fm := s.lib.fm ++ [(via, .dcdInfo)] } }) ∧ (16 ≤ s.lib.fm.length → exec (.getDcdInfo via) s = .next (s.respond (fmEndpoint via) 11 4 [])) ∧
    (s.lib.fm.length < 16 → exec (.getHostDcRegionConfiguration via h) s = .next { s with lib := { s.lib with fm := s.lib.fm ++ [(via, (.dcRegion h))] } }) ∧ (16 ≤ s.lib.fm.length → exec (.getHostDcRegionConfiguration via h) s = .next (s.respond (fmEndpoint via) 12 4 [])) ∧
    (s.lib.fm.length < 16 → exec (.getDcRegionExtentLists via h) s = .next { s with lib := { s.lib with fm := s.lib.fm ++ [(via, (.extents h))] } }) ∧ (16 ≤ s.lib.fm.length → exec (.getDcRegionExtentLists via h) s = .next (s.respond (fmEndpoint via) 13 4 [])) ∧
    (s.lib.fm.length < 16 → exec (.initiateDynamicCapacityAdd via h n m g grp tag) s = .next { s with lib := { s.lib with fm := s.lib.fm ++ [(via, (.dcAdd h n m g grp tag))] } }) ∧ (16 ≤ s.lib.fm.length → exec (.initiateDynamicCapacityAdd via h n m g grp tag) s = .next (s.respond (fmEndpoint via) 14 4 [])) ∧
    (s.lib.fm.length < 16 → exec (.initiateDynamicCapacityRelease via h x n) s = .next { s with lib := { s.lib with fm := s.lib.fm ++ [(via, (.dcRelease h x n))] } }) ∧ (16 ≤ s.lib.fm.length → exec (.initiateDynamicCapacityRelease via h x n) s = .next (s.respond (fmEndpoint via) 15 4 [])) ∧
    (s.lib.fm.length < 16 → exec (.setDcRegionConfiguration via) s = .next { s with lib := { s.lib with fm := s.lib.fm ++ [(via, .setRegion)] } }) ∧ (16 ≤ s.lib.fm.length → exec (.setDcRegionConfiguration via) s = .next (s.respond (fmEndpoint via) 16 4 []))) ∧
  (∀ (s : State) (via : FmVia),
    s.fmHears via →
    exec (.identifySwitchDevice via) s = .next (s.respond (fmEndpoint via) 0 0 ([s.managerPort.getD 64, ((List.range 64).filter (fun p => s.role p != 0)).length, ((List.range 64).filter s.isUp).length] ++ (List.range 64).filter s.inL0)) ∧
    exec (.getDcdInfo via) s = .next (s.respond (fmEndpoint via) 11 0 [1, ((List.range 64).filter s.isUp).length, 2 ^ 28]) ∧
    exec (.setDcRegionConfiguration via) s = .next (s.respond (fmEndpoint via) 16 2 [])) ∧
  (∀ (s : State) (via : FmVia) (ps : List Port),
    s.fmHears via →
    exec (.getPhysicalPortState via ps) s = .next (s.respond (fmEndpoint via) 1 0 (ps.flatMap (fun p => s.portState p.val))) ∧
    exec (.getVirtualCxlSwitchInfo via ps) s = .next (s.respond (fmEndpoint via) 4 0 (ps.flatMap (fun v => (s.lib.vppb.filter (fun e => e.1 == v.val)).flatMap (fun e => [e.1, e.2.1, e.2.2.1, e.2.2.2]))))) ∧
  (∀ (s : State) (via : FmVia) (p : Port) (ld : Fin 16) (wr : Bool) (rg : Nat) (v : Word) (bs : List Byte),
    s.fmHears via →
    (s.role p = 2 → exec (.sendLdCxlioConfigRequest via p ld wr rg v) s = .next ((s.emit (.forward p ld 1 [if wr then 1 else 0, rg, v.toNat])).respond (fmEndpoint via) 9 0 []) ∧
      exec (.sendLdCxlioMemoryRequest via p ld wr rg bs) s = .next ((s.emit (.forward p ld 2 ([if wr then 1 else 0, rg] ++ bs.map BitVec.toNat))).respond (fmEndpoint via) 10 0 []) ∧
      exec (.tunnelManagementCommand via p bs) s = .next ((s.emit (.forward p 0 0 (bs.map BitVec.toNat))).respond (fmEndpoint via) 8 0 [])) ∧
    (s.role p ≠ 2 → exec (.sendLdCxlioConfigRequest via p ld wr rg v) s = .next (s.respond (fmEndpoint via) 9 1 []) ∧ exec (.sendLdCxlioMemoryRequest via p ld wr rg bs) s = .next (s.respond (fmEndpoint via) 10 1 []) ∧
      exec (.tunnelManagementCommand via p bs) s = .next (s.respond (fmEndpoint via) 8 1 []))) ∧
  (∀ (s : State) (via : FmVia) (p : Port) (op rg : Nat) (v : Word),
    s.fmHears via →
    (s.role p = 2 → s.plan p 13 1 = 1 → op < 3 → exec (.physicalPortControl via p op) s = .next ((s.portControl p op).respond (fmEndpoint via) 2 0 [])) ∧
    (s.role p ≠ 2 ∨ s.plan p 13 1 = 0 ∨ 3 ≤ op → exec (.physicalPortControl via p op) s = .next (s.respond (fmEndpoint via) 2 1 [])) ∧
    (s.role p ≠ 0 → exec (.sendPpbCxlioConfigRequest via p true rg v) s = .next ((s.emit (.forward p 0 3 [1, rg, v.toNat])).respond (fmEndpoint via) 3 0 [])) ∧
    (s.role p ≠ 0 → exec (.sendPpbCxlioConfigRequest via p false rg v) s = .next (({ s.emit (.forward p 0 3 [0, rg, v.toNat]) with free := s.free + 1 } : State).respond
      (fmEndpoint via) 3 0 [Config.freeValue s.free % 2 ^ 32])) ∧
    (s.role p = 0 → exec (.sendPpbCxlioConfigRequest via p true rg v) s = .next (s.respond (fmEndpoint via) 3 1 []) ∧ exec (.sendPpbCxlioConfigRequest via p false rg v) s = .next (s.respond (fmEndpoint via) 3 1 []))) ∧
  (∀ (s : State) (via : FmVia) (v p : Port) (b : Nat) (ld : Fin 16),
    s.fmHears via →
    (s.isUp v = true → s.fmBindable p ld = true → s.lib.vppb.any (fun e => (e.1 == v.val && e.2.1 == b) || (e.2.2.1 == p.val && e.2.2.2 == ld.val)) = false →
      exec (.bindVppb via v b p ld) s = .next (({ s with lib := { s.lib with vppb := s.lib.vppb ++ [(v.val, b, p.val, ld.val)] } } : State).respond (fmEndpoint via) 5 0 [])) ∧
    (s.isUp v = false ∨ s.fmBindable p ld = false ∨ s.lib.vppb.any (fun e => (e.1 == v.val && e.2.1 == b) || (e.2.2.1 == p.val && e.2.2.2 == ld.val)) = true →
      exec (.bindVppb via v b p ld) s = .next (s.respond (fmEndpoint via) 5 1 [])) ∧
    (s.fmBindable p ld = true → s.lib.vppb.find? (fun e => e.1 == v.val && e.2.1 == b) = some (v.val, b, p.val, ld.val) →
      exec (.unbindVppb via v b) s = .next (({ s with lib := { s.lib with vppb := s.lib.vppb.filter (fun x => x != (v.val, b, p.val, ld.val)) } } : State).respond (fmEndpoint via) 6 0 [])) ∧
    (s.lib.vppb.find? (fun e => e.1 == v.val && e.2.1 == b) = none ∨ (s.fmBindable p ld = false ∧ s.lib.vppb.find? (fun e => e.1 == v.val && e.2.1 == b) = some (v.val, b, p.val, ld.val)) →
      exec (.unbindVppb via v b) s = .next (s.respond (fmEndpoint via) 6 1 [])) ∧
    (s.isUp v = true → exec (.generateAerEvent via v b) s = .next ((s.emit (.forward v b 4 [])).respond (fmEndpoint via) 7 0 [])) ∧
    (s.isUp v = false → exec (.generateAerEvent via v b) s = .next (s.respond (fmEndpoint via) 7 1 []))) ∧
  (∀ (s : State) (via : FmVia) (h : Port),
    s.fmHears via →
    (s.isUp h = true → exec (.getHostDcRegionConfiguration via h) s = .next (s.respond (fmEndpoint via) 12 0 [0, 2 ^ 48, 2 ^ 28]) ∧
      exec (.getDcRegionExtentLists via h) s = .next (s.respond (fmEndpoint via) 13 0 ((s.extents h).flatMap (fun e => [e.1 * 2 ^ 28, e.2.1 * 2 ^ 28, e.2.2])))) ∧
    (s.isUp h = false → exec (.getHostDcRegionConfiguration via h) s = .next (s.respond (fmEndpoint via) 12 1 []) ∧ exec (.getDcRegionExtentLists via h) s = .next (s.respond (fmEndpoint via) 13 1 []))) ∧
  (∀ (s : State) (via : FmVia) (h : Port) (n : Nat) (m : Fin 4) (g : Fin 8) (grp : BitVec 12) (tag : Word) (t : Nat),
    s.fmHears via →
    s.isUp h = true →
    m.val < 3 →
    0 < n →
    s.policyTakes h 1 = true →
    s.bindBreaks h n m.val grp.toNat = none →
    s.handlerOf s.lead 0 = some t →
    (s.tiller t).spent = false →
    s.windowGone (tillerUnit t) = false →
    (s.tiller t).events = [] →
    ∃ u, exec (.initiateDynamicCapacityAdd via h n m g grp tag) s = .next u ∧
      (u.tiller t).events = [(0, [s.lib.handles + 1, s.reqSource 0 h.val, n, m.val + g.val * 4 + grp.toNat * 32, tag.toNat])] ∧
      (u.lib.opens.map (fun q => (q.handle, q.asker, q.host, q.til))) = (s.lib.opens.map (fun q => (q.handle, q.asker, q.host, q.til))) ++ [(s.lib.handles + 1, .fm (fmEndpoint via) 14, h.val, t)] ∧
      u.out = s.out ∧ wordsKept s u [.TIL_EVT]) ∧
  (∀ (s : State) (via : FmVia) (h : Port) (n : Nat) (m : Fin 4) (g : Fin 8) (grp : BitVec 12) (tag : Word) (x : State × Nat),
    s.fmHears via →
    x = s.bindRequest (.fm (fmEndpoint via) 14) 0 h n m g grp.toNat tag.toNat →
    (s.isUp h = false ∨ 3 ≤ m.val ∨ n = 0 → exec (.initiateDynamicCapacityAdd via h n m g grp tag) s = .next (s.respond (fmEndpoint via) 14 1 [])) ∧
    (s.isUp h = true → m.val < 3 → 0 < n →
      exec (.initiateDynamicCapacityAdd via h n m g grp tag) s = .next (if x.2 = 0 then x.1 else x.1.tell (.fm (fmEndpoint via) 14) x.2))) ∧
  (∀ (s : State) (via : FmVia) (h : Port) (x : Shelf) (t : Nat),
    s.fmHears via →
    s.isUp h = true →
    s.boundTo h.val x.toNat = true →
    s.policyTakes h 1 = true →
    s.handlerOf s.lead 1 = some t →
    (s.tiller t).spent = false →
    s.windowGone (tillerUnit t) = false →
    (s.tiller t).events = [] →
    ∃ u, exec (.initiateDynamicCapacityRelease via h x 1) s = .next u ∧ (u.tiller t).events = [(1, [s.lib.handles + 1, s.reqSource 0 h.val, x.toNat, 1])] ∧
      u.lib.opens = s.lib.opens ++ [⟨s.lib.handles + 1, .fm (fmEndpoint via) 15, h.val, t, s.timeOf s.lead + 1000000000, [x.toNat]⟩] ∧ u.out = s.out ∧ wordsKept s u [.TIL_EVT]) ∧
  (∀ (s : State) (via : FmVia) (h : Port) (x : Shelf) (n : Nat) (y : State × Nat),
    s.fmHears via →
    y = s.releaseRequest (.fm (fmEndpoint via) 15) 0 h x.toNat n →
    (s.isUp h = false ∨ n = 0 ∨ (List.range n).all (fun i => s.boundTo h (x.toNat + i)) = false → exec (.initiateDynamicCapacityRelease via h x n) s = .next (s.respond (fmEndpoint via) 15 1 [])) ∧
    (s.isUp h = true →
      exec (.initiateDynamicCapacityRelease via h x n) s = .next (if y.2 = 0 then y.1 else y.1.tell (.fm (fmEndpoint via) 15) y.2)))

/-- A register read or write at a word of BAR0 is performed and its reply held with status 0; a scrapped part and an unlisted write have status 1, an address outside BAR0 or not a multiple of 4 status 2, an access that is not permitted status 3; a private read returns the held reply once, with status 4 when none is held, or is not acknowledged and keeps it; ENEC, DISEC and DAA set what they name; IBI_SEND sends the lowest pending kind and clears it. A target that does not respond takes nothing. -/
def Obligations.I3cTarget : Prop :=
  (∀ (s : State) (a : BitVec 32) (v : Word),
    s.i3cHears = true →
    s.isScrapped = false →
    i3cAddress a.toNat = true →
    s.mayRead .i3c (keeperHeld a.toNat) = true →
    (∃ t, exec (.i3cRegRead a) s = .next t ∧ t.i3c.reply = some ((regRead .i3c a.toNat (s.countChip 0x48 0xFF 1)).1.1, 0)) ∧
    ∃ t, exec (.i3cRegWrite a v) s = .next t ∧ t = (regWrite .i3c a.toNat v (s.countChip 0x48 0xFF 1)).i3cHold 0 (if i3cListed (target a.toNat) then 0 else 1)) ∧
  (∀ (s u : State) (a : BitVec 32) (v : Word),
    s.i3cHears = true →
    u = (s.countChip 0x48 0xFF 1) →
    (s.isScrapped = true → exec (.i3cRegRead a) s = .next (u.i3cOpen 1) ∧ exec (.i3cRegWrite a v) s = .next (u.i3cHold 0 1)) ∧
    (s.isScrapped = false → i3cAddress a.toNat = false → exec (.i3cRegRead a) s = .next (u.i3cOpen 2) ∧ exec (.i3cRegWrite a v) s = .next (u.i3cHold 0 2)) ∧
    (s.isScrapped = false → i3cAddress a.toNat = true → s.mayRead .i3c (keeperHeld a.toNat) = false →
      exec (.i3cRegRead a) s = .next (u.i3cHold 0xFFFFFFFF 3) ∧ exec (.i3cRegWrite a v) s = .next (u.i3cHold 0 3))) ∧
  (∀ (s : State) (a : BitVec 32) (v : Word),
    s.i3cHears = false →
    exec (.i3cRegRead a) s = .next s ∧ exec (.i3cRegWrite a v) s = .next s ∧ exec .i3cReplyRead s = .next (s.emit .i3cNack) ∧ exec .ibiSend s = .next s) ∧
  (∀ (s : State) (d : Word) (st : Nat),
    s.i3cHears = true →
    s.i3c.reply = some (d, st) →
    ∃ t, exec .i3cReplyRead s = .next t ∧ ((t.i3c.reply = none ∧ t.out = .i3cReply d st :: s.out) ∨ (t.i3c.reply = s.i3c.reply ∧ t.out = .i3cNack :: s.out)) ∧
      { t with i3c := s.i3c, out := s.out, free := s.free } = s) ∧
  (∀ (s : State),
    s.i3cHears = true →
    s.i3c.reply = none →
    exec .i3cReplyRead s = .next (({ s with free := s.free + 1 } : State).emit (.i3cReply (BitVec.ofNat 32 (Config.freeValue s.free)) 4))) ∧
  (∀ (s : State) (a : BitVec 7),
    (s.i3cResponds = true → exec .i3cEnec s = .next { s with i3c := { s.i3c with enabled := true } } ∧ exec .i3cDisec s = .next { s with i3c := { s.i3c with enabled := false } } ∧
      exec (.i3cDaa a) s = .next { s with i3c := { s.i3c with dynAddr := some a } }) ∧
    (s.i3cResponds = false → exec .i3cEnec s = .next s ∧ exec .i3cDisec s = .next s ∧ exec (.i3cDaa a) s = .next s)) ∧
  (∀ (s : State) (k : Fin 3),
    s.i3cHears = true →
    s.i3c.enabled = true →
    s.i3c.pend.getLsbD k = true →
    s.i3c.pend.toNat % 2 ^ k.val = 0 →
    ∃ t, exec .ibiSend s = .next t ∧ t.out = .ibi (k.val + 1) :: s.out ∧ t.i3c.pend.getLsbD k = false ∧
      (∀ j : Fin 3, j ≠ k → t.i3c.pend.getLsbD j = s.i3c.pend.getLsbD j) ∧ { t with i3c := s.i3c, out := s.out } = s) ∧
  (∀ (s : State),
    s.i3c.enabled = false ∨ s.i3c.pend = 0 →
    exec .ibiSend s = .next s)

/-- Each step moves STEP from its own value to the next and no other step does: PERST_N begins the start, with VARIANT 0xE and an event where its fuses cannot be read, and TEST_MODE holds it at step 1 in FACTORY; with every rail within its levels the headers give the order of the slots; ROOT lock sets the clocks and fabric time 0 and has AON measured; the wipe gives step 4. A slot whose early sections pass is loaded, which gives step 6 or 7; one that fails or times out is rejected and the next is tried, and with no slot left the start ends. Late sections that pass give step 8, others reject the slot; then firmware runs on every region that stays, and ready shows with FAULT (1,0), unless a region has failed. An enumerated pool device has its serial number kept and its binds carried out: a shelf that is free and whose device shelf is not withheld has an add waiting for each host named. -/
def Obligations.StartSequence : Prop :=
  (∀ (s u : State) (f : KeeperFuses) (test : Bool),
    s.boot.perst = false →
    u = { s with boot := { s.boot with perst := true, fuseRead := f.variant, secretRead := f.secret, testHold := test && s.get SEC_LC_STS.STATE 0 == 0 } } →
    (s.fatal = true ∨ s.boot.down ≠ 0 ∨ (s.boot.resume ≠ 1 ∧ s.boot.resume ≠ 2) → exec (.perstNDeassert f test) s = .next u) ∧
    (s.fatal = false → s.boot.down = 0 → s.boot.resume = 1 ∨ s.boot.resume = 2 → exec (.perstNDeassert f test) s = .next (startAnew u) ∧
      ∃ t, exec (.perstNDeassert f test) s = .next t ∧ (f.variant = false → t.stsBit setChip 0 ∧ t.get CHIP_IDENT.VARIANT 0 = 0xE) ∧ (f.secret = false → t.stsBit setSec 6))) ∧
  (∀ (s : State) (f : KeeperFuses) (test : Bool),
    s.boot.perst = true →
    exec (.perstNDeassert f test) s = .next s) ∧
  (∀ (s : State) (test : Bool),
    s.boot.perst = false →
    s.fatal = false →
    s.boot.down = 0 →
    s.boot.resume = 1 →
    s.boot.fuses = none →
    s.get SEC_LC_STS.STATE 0 ≠ 3 →
    ∃ t, exec (.perstNDeassert ⟨true, true⟩ test) s = .next t ∧ t.boot.perst = true ∧ t.boot.starting = true ∧ t.boot.resume = 0 ∧ t.get KPR_STS.STEP 0 = 1 ∧
      t.get CHIP_IDENT.VARIANT 0 = s.boot.variant.toNat % 2 ^ CHIP_IDENT.VARIANT.w ∧ wordsKept s t [.KPR_STS, .SEC_BOOT_STS, .CHIP_IDENT] ∧ { t with regs := s.regs, boot := s.boot } = s) ∧
  (∀ (s : State) (f : KeeperFuses) (a b : Flash),
    s.boot.perst = false →
    s.fatal = false →
    s.boot.down = 0 →
    s.boot.resume = 1 →
    f = {} →
    s.boot.fuses = none →
    s.get SEC_LC_STS.STATE 0 = 0 →
    ∃ t, exec (.perstNDeassert f true) s = .next t ∧ t.boot.starting = true ∧ t.get KPR_STS.STEP 0 = 1 ∧ exec (.supplyCheckPass a b) t = .next t) ∧
  (∀ (s : State) (a b : Flash),
    s.boot.starting = true →
    s.fatal = false →
    s.get KPR_STS.STEP 0 = 1 →
    s.boot.testHold = false →
    s.railsGood = true →
    ∃ t, exec (.supplyCheckPass a b) s = .next t ∧ t.get KPR_STS.STEP 0 = 2 ∧ t.boot.order = slotOrder a b ∧ t.boot.toTry = slotOrder a b ∧ wordsKept s t [.KPR_STS] ∧ { t with regs := s.regs, boot := s.boot } = s) ∧
  (∀ (s : State) (a b late : Flash) (ppm : Int) (ms : Nat),
    (s.startAt 1 = false ∨ s.boot.testHold = true ∨ s.railsGood = false → exec (.supplyCheckPass a b) s = .next s) ∧ (s.startAt 2 = false → exec (.rootLock ppm) s = .next s) ∧
    (s.startAt 3 = false → exec .sramWiped s = .next s) ∧ (s.startAt 4 = false → exec (.earlySectionsVerified a b) s = .next s) ∧
    (s.startAt 4 = false → s.awaitsLate = false → exec .flashReadTimeout s = .next s) ∧ (s.awaitsLate = false → exec (.lateSectionsChecked late) s = .next s) ∧
    (s.startAt 8 = false → exec .firmwareStarted s = .next s) ∧ (s.startAt 9 = false ∨ s.readyNow = false → exec (.ready ms) s = .next s)) ∧
  (∀ (s : State) (ppm : Int),
    s.boot.starting = true →
    s.fatal = false →
    s.get KPR_STS.STEP 0 = 2 →
    s.flag KPR_AON.CAL 0 = true →
    ∃ t, exec (.rootLock ppm) s = .next t ∧ t.get KPR_STS.STEP 0 = 3 ∧ t.get CRS_CLK_STS.ROOT_LOCK 0 = 15 ∧ t.get CRS_CLK_STS.REFCLK_OK 0 = 1 ∧ t.get CRS_CLK_STS.HK_SRC 0 = 1 ∧
      (∀ r < 5, t.timeOf r = 0) ∧ wordsKept s t [.KPR_STS, .CRS_CLK_STS]) ∧
  (∀ (s : State) (ppm : Int),
    s.boot.starting = true →
    s.fatal = false →
    s.get KPR_STS.STEP 0 = 2 →
    s.flag KPR_AON.CAL 0 = false →
    ∃ t, exec (.rootLock ppm) s = .next t ∧ t.get KPR_STS.STEP 0 = 3 ∧ t.get KPR_AON.CAL 0 = 1 ∧ t.get KPR_AON.PPM 0 = ofSigned 16 (max (-32768) (min 32767 ppm)) ∧
      (30000 < ppm.natAbs → t.stsBit setCrs 6) ∧ (ppm.natAbs ≤ 30000 → wordsKept s t [.KPR_STS, .CRS_CLK_STS, .KPR_AON])) ∧
  (∀ (s : State),
    s.boot.starting = true →
    s.fatal = false →
    s.get KPR_STS.STEP 0 = 3 →
    ∃ t, exec .sramWiped s = .next t ∧ t.get KPR_STS.STEP 0 = 4 ∧ wordsKept s t [.KPR_STS] ∧ onlyRegs s t) ∧
  (∀ (s : State) (a b f : Flash) (slot : Nat) (rest : List Nat),
    s.boot.starting = true →
    s.fatal = false →
    s.get KPR_STS.STEP 0 = 4 →
    s.candidates = slot :: rest →
    (f = if slot = 0 then a else b) →
    (earlyCheck s f = none → exec (.earlySectionsVerified a b) s = .next (loadEarly slot f { s with boot := { s.boot with toTry := rest } }) ∧
      ∃ t, exec (.earlySectionsVerified a b) s = .next t ∧ (t.get KPR_STS.STEP 0 = 6 ∨ t.get KPR_STS.STEP 0 = 7)) ∧
    (∀ why, earlyCheck s f = some why → exec (.earlySectionsVerified a b) s = .next (trySlots a b rest (s.slotRejected slot why)))) ∧
  (∀ (s : State) (a b : Flash),
    s.boot.starting = true →
    s.fatal = false →
    s.get KPR_STS.STEP 0 = 4 →
    s.candidates = [] →
    exec (.earlySectionsVerified a b) s = .next (noImage s) ∧ exec .flashReadTimeout s = .next (noImage s)) ∧
  (∀ (s : State) (late : Flash),
    s.awaitsLate = true →
    (lateCheck s (joinImage s.boot.image late) = none → ∃ t, exec (.lateSectionsChecked late) s = .next t ∧ t = loadLate (joinImage s.boot.image late) s ∧ t.get KPR_STS.STEP 0 = 8) ∧
    (∀ why, lateCheck s (joinImage s.boot.image late) = some why → exec (.lateSectionsChecked late) s = .next (lateRejected why s)) ∧
    (s.startAt 4 = false → exec .flashReadTimeout s = .next (lateRejected ⟨10, 0, 0⟩ s))) ∧
  (∀ (s : State) (slot : Nat) (rest : List Nat),
    s.boot.starting = true →
    s.fatal = false →
    s.get KPR_STS.STEP 0 = 4 →
    s.candidates = slot :: rest →
    (rest ≠ [] → ∃ t, exec .flashReadTimeout s = .next t ∧ t.get (if slot = 0 then SEC_BOOT_STS.A_RESULT else SEC_BOOT_STS.B_RESULT) 0 = 10 ∧ t.boot.toTry = rest ∧ t.stsBit setSec 0 ∧
      t.get KPR_STS.STEP 0 = 4) ∧
    (rest = [] → exec .flashReadTimeout s = .next (noImage (s.slotRejected slot ⟨10, 0, 0⟩)))) ∧
  (∀ (s : State) (r : Nat),
    s.boot.starting = true →
    s.fatal = false →
    s.get KPR_STS.STEP 0 = 8 →
    (List.range 4).find? (fun r => s.rgn r != 2) = some r →
    s.handlers = 0 →
    ∃ t, exec .firmwareStarted s = .next t ∧ t.get KPR_STS.STEP 0 = 9 ∧ (∀ q < 4, s.rgn q ≠ 2 → t.get LIB_CORE_STS.STATE q = 1) ∧ t.get LIB_CORE_STS.LEAD r = 1 ∧
      (∀ u < 5, t.get TIL_LOCK.LOCK u = 1) ∧ wordsKept s t [.KPR_STS, .LIB_CORE_STS, .TIL_LOCK] ∧ onlyRegs s t) ∧
  (∀ (s : State),
    s.boot.starting = true →
    s.fatal = false →
    s.get KPR_STS.STEP 0 = 8 →
    ∃ t, exec .firmwareStarted s = .next t ∧ t.get KPR_STS.STEP 0 = 9) ∧
  (∀ (s : State) (ms : Nat),
    s.boot.starting = true →
    s.fatal = false →
    s.get KPR_STS.STEP 0 = 9 →
    s.readyNow = true →
    ∃ t, exec (.ready ms) s = .next t ∧ t.get KPR_STS.STEP 0 = 10 ∧ t.get SEC_BOOT_STS.READY 0 = 1 ∧ t.get SEC_BOOT_STS.READY_MS 0 = min ms 65535 ∧ t.boot.starting = false ∧
      t.flt.pins = (if s.flt.pins = 1 then 1 else 2) ∧ wordsKept s t [.KPR_STS, .SEC_BOOT_STS] ∧ { t with regs := s.regs, boot := s.boot, flt := s.flt } = s) ∧
  (∀ (s u : State) (p : Port) (n : BitVec 64),
    u = { s with bnd := { s.bnd with serial := Tab.put none s.bnd.serial p.val (some n) }, boot := { s.boot with enumerated := s.boot.enumerated ++ [p.val] } } →
    (s.flag SEC_BOOT_STS.READY 0 = true → s.role p = 2 → s.leadRuns = true → s.boot.enumerated.contains p.val = false → s.sect 4 8 4 = 0 → s.bindQuiet →
      exec (.poolDeviceEnumerated p n) s = .next u) ∧
    (s.flag SEC_BOOT_STS.READY 0 = true → s.role p = 2 → s.leadRuns = true → s.boot.enumerated.contains p.val = false →
      exec (.poolDeviceEnumerated p n) s = .next (((List.range (u.sect 4 8 4)).filter (fun i => rget (u.bindRec i) rPort == p.val)).foldl imageBind u).bindStep) ∧
    (s.flag SEC_BOOT_STS.READY 0 = false ∨ s.role p ≠ 2 ∨ s.leadRuns = false ∨ s.boot.enumerated.contains p.val = true → exec (.poolDeviceEnumerated p n) s = .next s)) ∧
  (∀ (s : State) (x i h : Nat) (v : BitVec 128),
    x = s.bindShelf i →
    v = s.bindRec i →
    (rget (s.srec x) rState ≠ 0 ∨ s.windowGone (x % 4) = true ∨ s.isWithheld x v = true → imageBind s i = s) ∧
    (rget (s.srec x) rState = 0 → s.windowGone (x % 4) = false → s.isWithheld x v = false →
      extentsBreak s { s.putSrec x v with bnd := { (s.putSrec x v).bnd with tag := Tab.put 0 (s.putSrec x v).bnd.tag x (s.bindTag i) } } = false →
      (s.bindNames i h = true → h < 64 → ⟨h, x, 1, s.bindTag i, 0⟩ ∈ (imageBind s i).bnd.addWait)))

/-- A rollback commit below the image's value is BUSY until its fuses are done, after which the counter reads the image's value, or after a failure one between; a commit that is not ready or has nothing to do shows its result, and from any other path it is refused; a nonce read makes a new nonce and voids the old one; a token that passes every check uses up its nonce and starts its fuses or unlocks the debug master, and one that fails shows its code and changes neither; fuses that are done put the part in the new state and restart it, and a failed fuse ends with its code; SPDM requests are answered, over I3C at any time and else once ready; the debug master reaches what its scope permits and never a secret outside FACTORY; a scan instruction that would drive pins acts as BYPASS while PERST_N is high. A write of a register of the group that reaches it stores the fields and does what the written bits start: the same as the command. A read of a register of the group returns what the command returns. Given by a path that may not write its register, a command does nothing and is counted as a discard, but for I3C, whose refusal is its reply; in the window of an isolated region, or through the manager port before ready, it does nothing. -/
def Obligations.RootOfTrust : Prop :=
  (∀ (s : State) (p : Path),
    isCore p = true ∨ (p = .debug ∧ s.get SEC_LC_STS.STATE 0 = 0 ∧ s.mayWrite p = true) →
    (s.flag SEC_RB_CMD.BUSY 0 = false → s.flag SEC_BOOT_STS.READY 0 = true → s.get SEC_LC_STS.RB_OTP 0 < s.get SEC_LC_STS.RB_IMAGE 0 →
      ∃ t, exec (.rollbackCommit p) s = .next t ∧ t.flag SEC_RB_CMD.BUSY 0 = true ∧ wordsKept s t [.SEC_RB_CMD] ∧ onlyRegs s t) ∧
    (s.flag SEC_RB_CMD.BUSY 0 = false → s.flag SEC_BOOT_STS.READY 0 = false → ∃ t, exec (.rollbackCommit p) s = .next t ∧ t.flag SEC_RB_CMD.BUSY 0 = false ∧ t.get SEC_RB_CMD.RESULT 0 = 1 ∧
      wordsKept s t [.SEC_RB_CMD] ∧ onlyRegs s t) ∧
    (s.flag SEC_RB_CMD.BUSY 0 = false → s.flag SEC_BOOT_STS.READY 0 = true → s.get SEC_LC_STS.RB_IMAGE 0 ≤ s.get SEC_LC_STS.RB_OTP 0 →
      ∃ t, exec (.rollbackCommit p) s = .next t ∧ t.flag SEC_RB_CMD.BUSY 0 = false ∧ t.get SEC_RB_CMD.RESULT 0 = 2 ∧ wordsKept s t [.SEC_RB_CMD] ∧ onlyRegs s t) ∧
    (s.flag SEC_RB_CMD.BUSY 0 = true → exec (.rollbackCommit p) s = .next (s.discard setSec))) ∧
  (∀ (s : State),
    (s.get SEC_LC_STS.STATE 0 ≠ 0 → ∃ t, exec (.rollbackCommit .debug) s = .next t ∧ t = (dbgViolation s).discard setSec ∧ t.stsBit setSec 4) ∧
    (s.get SEC_LC_STS.STATE 0 = 0 → s.mayWrite .debug = false → exec (.rollbackCommit .debug) s = .next (s.discard setSec)) ∧
    (s.unheard .manager = true → exec (.rollbackCommit .manager) s = .next s) ∧ (s.unheard .manager = false → exec (.rollbackCommit .manager) s = .next (s.discard setSec)) ∧
    exec (.rollbackCommit .i3c) s = .next s) ∧
  (∀ (s : State),
    s.flag SEC_RB_CMD.BUSY 0 = true →
    (∃ t, exec (.rollbackFuseDone true) s = .next t ∧ t.flag SEC_RB_CMD.BUSY 0 = false ∧ t.get SEC_RB_CMD.RESULT 0 = 0 ∧ t.get SEC_LC_STS.RB_OTP 0 = s.get SEC_LC_STS.RB_IMAGE 0 ∧
      t.get SEC_LC_STS.STATE 0 = s.get SEC_LC_STS.STATE 0 ∧ wordsKept s t [.SEC_RB_CMD, .SEC_LC_STS] ∧ onlyRegs s t) ∧
    ∃ t, exec (.rollbackFuseDone false) s = .next t ∧ t.flag SEC_RB_CMD.BUSY 0 = false ∧ t.get SEC_RB_CMD.RESULT 0 = 3 ∧ s.get SEC_LC_STS.RB_OTP 0 ≤ t.get SEC_LC_STS.RB_OTP 0 ∧
      t.get SEC_LC_STS.RB_OTP 0 ≤ max (s.get SEC_LC_STS.RB_OTP 0) (s.get SEC_LC_STS.RB_IMAGE 0) ∧ t.stsBit setSec 3) ∧
  (∀ (s : State) (good : Bool),
    (s.flag SEC_RB_CMD.BUSY 0 = false → exec (.rollbackFuseDone good) s = .next s) ∧ (s.boot.fusing = none → exec (.lcFuseDone good) s = .next s)) ∧
  (∀ (s : State) (p : Path),
    s.unheard p = false →
    s.mayRead p true = true →
    ∃ t, exec (.nonceRead p) s = .next t ∧ t.boot.nonce = some (Config.nonce s.boot.nonces) ∧ t.boot.nonces = s.boot.nonces + 1 ∧
      t.out = .readData p ((Config.nonce s.boot.nonces).setWidth 32) :: s.out ∧ (t.lat.of p).nonceHi = BitVec.ofNat 32 (bits (Config.nonce s.boot.nonces) 32 32) ∧
      { t with boot := s.boot, lat := s.lat, out := s.out } = s) ∧
  (∀ (s : State) (p : Path),
    (s.unheard p = true → exec (.nonceRead p) s = .next (s.emit (.readRefused p))) ∧
    (s.unheard p = false → s.mayRead p true = false → exec (.nonceRead p) s = .next (s.emit (.readData p (deniedRead p))))) ∧
  (∀ (s : State) (p : Path),
    s.unheard p = false →
    s.windowGone (setUnit setSec) = false →
    s.mayWriteListed p true = true →
    s.flag SEC_TOKEN_CMD.BUSY 0 = true →
    (∃ t, exec (.lcOwn p) s = .next t ∧ t.get SEC_TOKEN_CMD.RESULT 0 = 8 ∧ t.boot.fusing = s.boot.fusing ∧ t.stsBit setSec 2) ∧
    (∃ t, exec (.lcReturn p) s = .next t ∧ t.get SEC_TOKEN_CMD.RESULT 0 = 8 ∧ t.boot.fusing = s.boot.fusing ∧ t.stsBit setSec 2) ∧
    (∃ t, exec (.lcScrap p) s = .next t ∧ t.get SEC_TOKEN_CMD.RESULT 0 = 8 ∧ t.boot.fusing = s.boot.fusing ∧ t.stsBit setSec 2) ∧
    (∃ t, exec (.dbgUnlock p) s = .next t ∧ t.get SEC_TOKEN_CMD.RESULT 0 = 8 ∧ t.get SEC_DBG_STS.UNLOCKED 0 = s.get SEC_DBG_STS.UNLOCKED 0 ∧ t.stsBit setSec 4)) ∧
  (∀ (s : State) (p : Path),
    s.unheard p = false →
    s.windowGone (setUnit setSec) = false →
    s.mayWriteListed p true = true →
    s.flag SEC_TOKEN_CMD.BUSY 0 = false →
    (s.tokenCheck 1 = 0 → ∃ t, exec (.lcOwn p) s = .next t ∧ t.flag SEC_TOKEN_CMD.BUSY 0 = true ∧ t.get SEC_TOKEN_CMD.RESULT 0 = 0 ∧ t.boot.fusing = some (1, BitVec.ofNat 512 (s.tokenNum 80 64)) ∧ t.boot.nonce = none ∧
      wordsKept s t [.SEC_TOKEN_CMD]) ∧
    (s.tokenCheck 1 ≠ 0 → ∃ t, exec (.lcOwn p) s = .next t ∧ t.get SEC_TOKEN_CMD.RESULT 0 = s.tokenCheck 1 ∧ t.boot.fusing = s.boot.fusing ∧ t.stsBit setSec 2 ∧
      t.get SEC_LC_STS.STATE 0 = s.get SEC_LC_STS.STATE 0)) ∧
  (∀ (s : State) (p : Path),
    s.unheard p = false →
    s.windowGone (setUnit setSec) = false →
    s.mayWriteListed p true = true →
    s.flag SEC_TOKEN_CMD.BUSY 0 = false →
    (s.tokenCheck 2 = 0 → ∃ t, exec (.lcReturn p) s = .next t ∧ t.flag SEC_TOKEN_CMD.BUSY 0 = true ∧ t.get SEC_TOKEN_CMD.RESULT 0 = 0 ∧ t.boot.fusing = some (2, s.boot.ownerHash) ∧ t.boot.nonce = none ∧
      wordsKept s t [.SEC_TOKEN_CMD]) ∧
    (s.tokenCheck 2 ≠ 0 → ∃ t, exec (.lcReturn p) s = .next t ∧ t.get SEC_TOKEN_CMD.RESULT 0 = s.tokenCheck 2 ∧ t.boot.fusing = s.boot.fusing ∧ t.stsBit setSec 2 ∧
      t.get SEC_LC_STS.STATE 0 = s.get SEC_LC_STS.STATE 0)) ∧
  (∀ (s : State) (p : Path),
    s.unheard p = false →
    s.windowGone (setUnit setSec) = false →
    s.mayWriteListed p true = true →
    s.flag SEC_TOKEN_CMD.BUSY 0 = false →
    (s.tokenCheck 3 = 0 → ∃ t, exec (.lcScrap p) s = .next t ∧ t.flag SEC_TOKEN_CMD.BUSY 0 = true ∧ t.get SEC_TOKEN_CMD.RESULT 0 = 0 ∧ t.boot.fusing = some (3, s.boot.ownerHash) ∧ t.boot.nonce = none ∧
      wordsKept s t [.SEC_TOKEN_CMD]) ∧
    (s.tokenCheck 3 ≠ 0 → ∃ t, exec (.lcScrap p) s = .next t ∧ t.get SEC_TOKEN_CMD.RESULT 0 = s.tokenCheck 3 ∧ t.boot.fusing = s.boot.fusing ∧ t.stsBit setSec 2 ∧
      t.get SEC_LC_STS.STATE 0 = s.get SEC_LC_STS.STATE 0)) ∧
  (∀ (s : State) (p : Path),
    s.unheard p = false →
    s.windowGone (setUnit setSec) = false →
    s.mayWriteListed p true = true →
    s.flag SEC_TOKEN_CMD.BUSY 0 = false →
    (s.tokenCheck 4 = 0 → ∃ t, exec (.dbgUnlock p) s = .next t ∧ t.flag SEC_DBG_STS.UNLOCKED 0 = true ∧ t.get SEC_DBG_STS.SCOPE 0 = s.grantedScope ∧ t.boot.nonce = none ∧
      wordsKept s t [.SEC_TOKEN_CMD, .SEC_DBG_STS]) ∧
    (s.tokenCheck 4 ≠ 0 → ∃ t, exec (.dbgUnlock p) s = .next t ∧ t.get SEC_TOKEN_CMD.RESULT 0 = s.tokenCheck 4 ∧ t.get SEC_DBG_STS.UNLOCKED 0 = s.get SEC_DBG_STS.UNLOCKED 0 ∧ t.stsBit setSec 4)) ∧
  (∀ (s : State) (st : Nat) (h : BitVec 512),
    s.boot.fusing = some (st, h) →
    s.boot.fuses = none →
    st < 3 →
    ∃ t, exec (.lcFuseDone true) s = .next t ∧ t.get SEC_LC_STS.STATE 0 = st ∧ t.boot.ownerHash = h ∧ t.boot.fusing = none ∧ t.ret = [] ∧ t.arc.wear = [] ∧
      t.boot.starting = true ∧ t.get KPR_STS.STEP 0 = 3 ∧ t.get KPR_RST_CAUSE.CAUSE 0 = 6) ∧
  (∀ (s : State) (st : Nat) (h : BitVec 512),
    s.boot.fusing = some (st, h) →
    (s.boot.fuses = none → st = 3 → ∃ t, exec (.lcFuseDone true) s = .next t ∧ t.get SEC_LC_STS.STATE 0 = 3 ∧ t.boot.fusing = none ∧ t.ret = [] ∧ t.stsBit setSec 5) ∧
    ∃ t, exec (.lcFuseDone false) s = .next t ∧ t.flag SEC_TOKEN_CMD.BUSY 0 = false ∧ t.get SEC_TOKEN_CMD.RESULT 0 = 7 ∧ t.boot.fusing = none ∧
      t.boot.fuses = some (st, h, Config.freeValue s.free % 9) ∧ t.get SEC_LC_STS.STATE 0 = s.get SEC_LC_STS.STATE 0 ∧ t.stsBit setSec 3) ∧
  (∀ (s : State) (e : Nat) (op : SpdmOp),
    e ≠ 66 →
    s.flag SEC_BOOT_STS.READY 0 = true →
    ∃ t, exec (.spdmRequest e op) s = .next t ∧ t.out = .response e (spdmAnswer op s).1 0 (spdmAnswer op s).2.1 :: s.out ∧ t.boot.spdm = (spdmAnswer op s).2.2 ∧
      wordsAt s t [] ∧ { t with regs := s.regs, arc := s.arc, boot := s.boot, out := s.out } = s) ∧
  (∀ (s : State) (op : SpdmOp),
    ∃ t, exec (.spdmRequest 66 op) s = .next t ∧ t.out = .response 66 (spdmAnswer op s).1 0 (spdmAnswer op s).2.1 :: s.out ∧ t.boot.spdm = (spdmAnswer op s).2.2 ∧
      t.i3c = (s.ibiPend 2).i3c ∧ wordsAt s t [] ∧ { t with regs := s.regs, arc := s.arc, boot := s.boot, out := s.out, i3c := s.i3c } = s) ∧
  (∀ (s : State) (e : Nat) (op : SpdmOp),
    e ≠ 66 →
    s.flag SEC_BOOT_STS.READY 0 = false →
    exec (.spdmRequest e op) s = .next s) ∧
  (∀ (s : State) (a : BitVec 32) (v : Word) (r : Region) (n : Fin 8) (k : Nat),
    exec (.debugAccess (.regRead a)) s = exec (.registerReadClear .debug a) s ∧ exec (.debugAccess (.regWrite a v)) s = exec (.registerWrite .debug a (v.setWidth 64) 4) s ∧
    (s.debugScope 1 = true → (s.get SEC_LC_STS.STATE 0 = 0 ∨ a.toNat < 0x20000000 ∨ 0x20200000 ≤ a.toNat) → exec (.debugAccess (.core r a)) s = .next (s.jtagOpen 1)) ∧
    (s.debugScope 1 = false → (s.get SEC_LC_STS.STATE 0 = 0 ∨ a.toNat < 0x20000000 ∨ 0x20200000 ≤ a.toNat) → exec (.debugAccess (.core r a)) s = .next (s.jtagNone 1)) ∧
    (s.get SEC_LC_STS.STATE 0 ≠ 0 → 0x20000000 ≤ a.toNat → a.toNat < 0x20200000 → exec (.debugAccess (.core r a)) s = .next ((dbgViolation s).jtagNone 1)) ∧
    exec (.debugAccess .scan) s = .next (if s.debugScope 3 then s.jtagOpen 2 else s.jtagNone 2) ∧
    (s.debugScope 4 = true → k + 4 ≤ 2 ^ 35 → s.windowGone (n / 2) = false → exec (.debugAccess (.hbmRaw n k)) s = .next (s.emit (.jtag 3 (s.hbmRead n k 4)))) ∧
    (s.debugScope 4 = false ∨ 2 ^ 35 < k + 4 ∨ s.windowGone (n / 2) = true → exec (.debugAccess (.hbmRaw n k)) s = .next (s.jtagNone 3)) ∧
    (s.get SEC_LC_STS.STATE 0 = 0 → exec (.debugAccess .secretStore) s = .next (s.jtagOpen 4)) ∧
    (s.get SEC_LC_STS.STATE 0 ≠ 0 → exec (.debugAccess .secretStore) s = .next ((dbgViolation s).jtagNone 4) ∧
      ∃ t, exec (.debugAccess .secretStore) s = .next t ∧ t.stsBit setSec 4)) ∧
  (∀ (s : State) (op : ScanOp),
    ∃ t, exec (.boundaryScan op) s = .next t ∧ t.boot.scan = op ∧ t.scanActs = (if scanDrives op = true ∧ s.boot.perst = true then .bypass else op) ∧ t.out = .jtag 0 t.scanActs.ctorIdx :: s.out ∧
      { t with boot := { t.boot with scan := s.boot.scan }, out := s.out } = s) ∧
  (∀ (s : State) (p : Path) (a : BitVec 32) (d : BitVec 64) (i : Nat),
    s.writeReaches p a (.reg .SEC_RB_CMD i) →
    exec (.registerWrite p a d 4) s = if d.getLsbD 0 then exec (.rollbackCommit p) (s.stored .SEC_RB_CMD i d a) else .next (s.stored .SEC_RB_CMD i d a)) ∧
  (∀ (s : State) (p : Path) (a : BitVec 32) (d : BitVec 64) (i : Nat),
    s.writeReaches p a (.reg .SEC_TOKEN_CMD i) →
    exec (.registerWrite p a d 4) s = .next (if d.getLsbD 0 then tokenGo (s.stored .SEC_TOKEN_CMD i d a) else (s.stored .SEC_TOKEN_CMD i d a))) ∧
  (∀ (s : State) (p : Path),
    s.mayWriteListed p true = false →
    exec (.lcOwn p) s = .next (if s.windowGone (setUnit setSec) || s.unheard p then s else if p = .i3c then s else s.discard setSec) ∧
    exec (.lcReturn p) s = .next (if s.windowGone (setUnit setSec) || s.unheard p then s else if p = .i3c then s else s.discard setSec) ∧
    exec (.lcScrap p) s = .next (if s.windowGone (setUnit setSec) || s.unheard p then s else if p = .i3c then s else s.discard setSec) ∧
    exec (.dbgUnlock p) s = .next (if s.windowGone (setUnit setSec) || s.unheard p then s else if p = .i3c then s else s.discard setSec)) ∧
  (∀ (s : State) (p : Path) (a : BitVec 32) (i : Nat),
    s.readReaches p a (.reg .SEC_NONCE_LO i) →
    exec (.registerReadClear p a) s = exec (.nonceRead p) s)

/-- Insertion of both pins takes an EMPTY channel to DEBOUNCE, whose end makes it READY and posts PRESENT, which the built-in program answers with START; START makes a READY channel PRECHECK with RESULT 0, and elsewhere its RESULT says why not; a conversion with V_OUT under a tenth of V_BUS then drives the gate, one out of range or above 18 V trips a channel that drives it, one below OFF_LVL turns it off; 92 % of V_BUS out of limit gives power-good and ON; OFF and removal pull the gate; CLEAR releases a latch but not a damaged one; COOL ends in PRECHECK, or in READY while its tiller is stopped; power-good held for 1 s restarts the trip count. What does not apply changes nothing. A write of a register of the group that reaches it stores the fields and does what the written bits start: the same as the command. Given by a path that may not write its register, a command is counted as a discard and does nothing else; in the window of an isolated region, or through the manager port before ready, it does nothing. A precheck that times out latches with cause 8; the fault timer trips with cause 1, the ramp window with 2, the fast comparator of class F with 3, a pass FET below 4 V at little current with 7. A trip notes its on-time and cause; the channel cools, or latches for class F, at its retry limit, and for causes 7 and 8. The bus warning clears once every enabled channel has recovered, and channels that the bus turned off start again. Where the condition does not hold, nothing changes. -/
def Obligations.SlotSequence : Prop :=
  (∀ (s : State) (c : Slot),
    s.sp c = 1 →
    ∃ t, exec (.slotInsert c true) s = .next t ∧ t.sp c = 2 ∧ t.get SPW_STS.PRSNT_S c = 1 ∧ t.get SPW_STS.PRSNT_L c = 1 ∧ wordsKept s t [.SPW_STS] ∧ onlyRegs s t) ∧
  (∀ (s : State) (c : Slot),
    (s.sp c ≠ 1 → ∃ t, exec (.slotInsert c true) s = .next t ∧ t.sp c = s.sp c ∧ t.get SPW_STS.PRSNT_S c = 1 ∧ t.get SPW_STS.PRSNT_L c = 1 ∧ wordsKept s t [.SPW_STS] ∧ onlyRegs s t) ∧
    ∃ t, exec (.slotInsert c false) s = .next t ∧ t.sp c = s.sp c ∧ t.get SPW_STS.PRSNT_S c = 1 ∧ t.get SPW_STS.PRSNT_L c = 0 ∧ t.stsBit setSpw 6) ∧
  (∀ (s : State) (c : Slot),
    s.sp c = 2 →
    s.flag SPW_STS.PRSNT_S c = true →
    s.flag SPW_STS.PRSNT_L c = true →
    (∃ t, exec (.debounceEnd c) s = .next t ∧ t = builtInStart c ((s.setSp c 3).slotEvent c 0)) ∧
    ((s.tiller (193 + c.val)).script0 = false ∨ s.slotTillerStopped c = true →
      ∃ t, exec (.debounceEnd c) s = .next t ∧ t.sp c = 3 ∧ (t.get TIL_EVT.PENDING (193 + c.val)).testBit 0 = true ∧ (t.get CHIP_CHG_SUM.CHANGED 2).testBit c = true ∧ { t.quiet with lib := s.lib } = s.quiet) ∧
    ((s.tiller (193 + c.val)).script0 = true → s.slotTillerStopped c = false → s.startsPermitted = true → ∃ t, exec (.debounceEnd c) s = .next t ∧ t.sp c = 4 ∧ t.get SPW_CMD.RESULT c = 0)) ∧
  (∀ (s : State) (c : Slot),
    s.sp c ≠ 2 ∨ s.flag SPW_STS.PRSNT_S c = false ∨ s.flag SPW_STS.PRSNT_L c = false →
    exec (.debounceEnd c) s = .next s) ∧
  (∀ (s : State) (p : Path) (c : Slot),
    s.admits p setSpw →
    s.sp c = 3 →
    s.startsPermitted = true →
    ∃ t, exec (.slotStart p c) s = .next t ∧ t.sp c = 4 ∧ t.get SPW_CMD.RESULT c = 0 ∧ (t.chan c).busOff = false ∧ (∀ x : Slot, x ≠ c → t.chan x = s.chan x) ∧ wordsKept s t [.SPW_STS, .SPW_CMD, .SPW_BUS_STS] ∧ { t with regs := s.regs, spw := s.spw } = s) ∧
  (∀ (s : State) (p : Path) (c : Slot),
    s.admits p setSpw →
    s.sp c ≠ 3 ∨ s.startsPermitted = false →
    exec (.slotStart p c) s = .next (s.set SPW_CMD.RESULT c (s.startResult c)) ∧
    s.startResult c = (if s.sp c = 0 then 5 else if s.sp c = 1 ∨ s.sp c = 2 then 1 else if s.sp c = 3 then 4 else if s.sp c = 7 then 2 else if s.sp c = 8 then 3 else 7)) ∧
  (∀ (s : State) (c : Slot) (v : SlotReading),
    s.flag SPW_CFG0.EN c = true →
    v.parity = false →
    s.sp c = 4 →
    s.get SPW_BUS_CTL.OFF_LVL 0 ≤ v.vBus / 10 →
    s.get SPW_BUS_CTL.WARN 0 ≤ v.vBus / 10 →
    v.vOut * 10 < v.vBus →
    ∃ t, exec (.slotConversion c v) s = .next t ∧ t.sp c = 5 ∧ (t.chan c).onUs = 0 ∧ t.get SPW_MEAS0.V_OUT c = min (v.vOut / 10) 4095 ∧ t.get SPW_MEAS1.V_BUS c = min (v.vBus / 10) 4095 ∧
      wordsKept s t [.SPW_STS, .SPW_MEAS0, .SPW_MEAS1] ∧ { t with regs := s.regs, spw := s.spw, arc := s.arc } = s) ∧
  (∀ (s u : State) (c : Slot) (v : SlotReading),
    u = (if s.sp c = 6 then (slotMeasure s c v).countChip 0x40 c 1 else slotMeasure s c v) →
    (s.flag SPW_CFG0.EN c = false → exec (.slotConversion c v) s = .next s) ∧
    (s.flag SPW_CFG0.EN c = true → v.parity = true → s.sp c ≠ 0 → s.sp c ≠ 8 → exec (.slotConversion c v) s = .next (trip s c 12) ∧ ∃ t, exec (.slotConversion c v) s = .next t ∧ t.sp c = 8 ∧ t.get SPW_STS.CAUSE c = 12) ∧
    (s.flag SPW_CFG0.EN c = true → v.parity = false ∨ s.sp c = 0 ∨ s.sp c = 8 → exec (.slotConversion c v) s = .next (busWarn (slotChecks u c v) c v.vBus)) ∧
    (s.flag SPW_CFG0.EN c = true → v.parity = false → s.driven c = true → v.bad = true ∨ 18000 < v.vBus → ∃ t, exec (.slotConversion c v) s = .next t ∧ (t.sp c = 7 ∨ t.sp c = 8) ∧ t.get SPW_STS.CAUSE c = 6) ∧
    (s.flag SPW_CFG0.EN c = true → v.parity = false → s.active c = true → s.driven c = false ∨ (v.bad = false ∧ v.vBus ≤ 18000) → v.vBus / 10 < s.get SPW_BUS_CTL.OFF_LVL 0 →
      ∃ t, exec (.slotConversion c v) s = .next t ∧ t.sp c = 3 ∧ t.get SPW_STS.CAUSE c = 9 ∧ (t.chan c).busOff = true ∧ t.flag SPW_BUS_STS.BUS_OFF 0 = true)) ∧
  (∀ (s : State) (c : Slot) (d : Nat) (b : Bool),
    (s.flag SPW_CFG0.DIODE c = true → ∃ t, exec (.diodeMeasure c ⟨d, false⟩) s = .next t ∧
      t.get SPW_MEAS1.T_DIODE c = min 254 ((d * 418543 / (10 * max 1 (s.get SPW_CAL1.DIODE_N c)) - 273150) / 1000) ∧ wordsKept s t [.SPW_MEAS1] ∧ onlyRegs s t) ∧
    (s.flag SPW_CFG0.DIODE c = true → s.driven c = true → ∃ t, exec (.diodeMeasure c ⟨d, true⟩) s = .next t ∧ t = trip s c 6 ∧ (t.sp c = 7 ∨ t.sp c = 8) ∧ t.get SPW_STS.CAUSE c = 6) ∧
    (s.flag SPW_CFG0.DIODE c = true → s.driven c = false → exec (.diodeMeasure c ⟨d, true⟩) s = .next s) ∧
    (s.flag SPW_CFG0.DIODE c = false → exec (.diodeMeasure c ⟨d, b⟩) s = .next s)) ∧
  (∀ (s : State) (c : Slot),
    s.driven c = true →
    s.flag SPW_STS.PG c = false →
    s.flag SPW_STS.LIMIT c = false →
    s.get SPW_MEAS1.V_BUS c * 92 ≤ s.get SPW_MEAS0.V_OUT c * 100 →
    (∃ t, exec (.powerGood c) s = .next t ∧ t.sp c = 6 ∧ t.flag SPW_STS.PG c = true) ∧
    (s.slotPort c = none → ∃ t, exec (.powerGood c) s = .next t ∧ t.sp c = 6 ∧ t.flag SPW_STS.PG c = true ∧ (t.get TIL_EVT.PENDING (193 + c.val)).testBit 2 = true ∧ { t.quiet with lib := s.lib } = s.quiet)) ∧
  (∀ (s : State) (c : Slot),
    s.driven c = false ∨ s.flag SPW_STS.PG c = true ∨ s.flag SPW_STS.LIMIT c = true ∨ s.get SPW_MEAS0.V_OUT c * 100 < s.get SPW_MEAS1.V_BUS c * 92 →
    exec (.powerGood c) s = .next s) ∧
  (∀ (s : State) (p : Path) (c : Slot),
    s.admits p setSpw →
    (s.active c = true → ∃ t, exec (.slotOff p c) s = .next t ∧ t.sp c = 3 ∧ t.get SPW_STS.CAUSE c = 11 ∧ t.get SPW_CMD.RESULT c = 0 ∧ t.flag SPW_STS.PG c = false ∧ t.flag SPW_STS.TMR_RUN c = false) ∧
    (s.active c = true → s.flag SPW_STS.PG c = false → ∃ t, exec (.slotOff p c) s = .next t ∧ wordsKept s t [.SPW_STS, .SPW_CMD] ∧ { t with regs := s.regs, spw := s.spw } = s) ∧
    (s.active c = false → exec (.slotOff p c) s = .next (s.set SPW_CMD.RESULT c 7))) ∧
  (∀ (s : State) (c : Slot) (l : Bool),
    (s.active c = true → ∃ t, exec (.slotRemoval c l) s = .next t ∧ t.sp c = 1 ∧ t.get SPW_STS.CAUSE c = 10 ∧ t.get SPW_STS.TRIPS c = 0 ∧ t.flag SPW_STS.PG c = false ∧ (t.get TIL_EVT.PENDING (193 + c.val)).testBit 1 = true) ∧
    (s.sp c = 6 → s.flag SPW_STS.PG c = false → ∃ t, exec (.slotRemoval c l) s = .next t ∧ t.get SPW_STS.PRSNT_S c = 0 ∧ { t.quiet with lib := s.lib, spw := s.spw } = s.quiet) ∧
    (s.active c = false → 1 < s.sp c → s.damaged c = false → ∃ t, exec (.slotRemoval c l) s = .next t ∧ t.sp c = 1 ∧ t.get SPW_STS.CAUSE c = s.get SPW_STS.CAUSE c ∧ t.get SPW_STS.TRIPS c = 0) ∧
    (s.damaged c = true → ∃ t, exec (.slotRemoval c l) s = .next t ∧ t.sp c = 8 ∧ t.get SPW_STS.CAUSE c = s.get SPW_STS.CAUSE c ∧ (t.get TIL_EVT.PENDING (193 + c.val)).testBit 1 = true) ∧
    (s.sp c ≤ 1 → exec (.slotRemoval c l) s = .next ((s.set SPW_STS.PRSNT_S c 0).set SPW_STS.PRSNT_L c (if l then 1 else 0)))) ∧
  (∀ (s : State) (p : Path) (c : Slot),
    s.admits p setSpw →
    (s.sp c = 8 → s.get SPW_STS.CAUSE c ≠ 7 → s.get SPW_STS.CAUSE c ≠ 8 →
      ∃ t, exec (.slotClear p c) s = .next t ∧ t.sp c = 3 ∧ t.get SPW_STS.TRIPS c = 0 ∧ t.get SPW_CMD.RESULT c = 0 ∧ wordsKept s t [.SPW_STS, .SPW_CMD] ∧ onlyRegs s t) ∧
    (s.sp c = 8 → s.get SPW_STS.CAUSE c = 7 ∨ s.get SPW_STS.CAUSE c = 8 → exec (.slotClear p c) s = .next (s.set SPW_CMD.RESULT c 6)) ∧
    (s.sp c ≠ 8 → exec (.slotClear p c) s = .next (s.set SPW_CMD.RESULT c 7))) ∧
  (∀ (s : State) (c : Slot),
    s.sp c = 7 →
    s.get SPW_MEAS1.T_MODEL c ≤ s.get SPW_CFG2.TRIP_C c - 20 →
    s.flag SPW_CFG0.DIODE c = true → s.get SPW_MEAS1.T_DIODE c ≤ s.get SPW_CFG2.TRIP_C c - 20 →
    (s.slotTillerStopped c = true ∨ s.startsPermitted = true → ∃ t, exec (.coolEnd c) s = .next t ∧ t.sp c = (if s.slotTillerStopped c then 3 else 4) ∧ wordsKept s t [.SPW_STS] ∧ onlyRegs s t) ∧
    (s.slotTillerStopped c = false → s.startsPermitted = false → exec (.coolEnd c) s = .next s)) ∧
  (∀ (s : State) (c : Slot),
    s.sp c ≠ 7 ∨ s.get SPW_CFG2.TRIP_C c - 20 < s.get SPW_MEAS1.T_MODEL c ∨ (s.flag SPW_CFG0.DIODE c = true ∧ s.get SPW_CFG2.TRIP_C c - 20 < s.get SPW_MEAS1.T_DIODE c) →
    exec (.coolEnd c) s = .next s) ∧
  (∀ (s : State) (c : Slot),
    (s.flag SPW_STS.PG c = true → ∃ t, exec (.tripCountReset c) s = .next t ∧ t.get SPW_STS.TRIPS c = 0 ∧ t.sp c = s.sp c ∧ wordsKept s t [.SPW_STS] ∧ onlyRegs s t) ∧
    (s.flag SPW_STS.PG c = false → exec (.tripCountReset c) s = .next s)) ∧
  (∀ (s : State) (p : Path) (a : BitVec 32) (d : BitVec 64) (i : Nat),
    s.writeReaches p a (.reg .SPW_CMD i) →
    exec (.registerWrite p a d 4) s = .next ((fun t : State => (fun u : State => if d.getLsbD 2 then slotClear (Fin.ofNat 32 i) u else u) (if d.getLsbD 1 then slotOff (Fin.ofNat 32 i) t else t)) (if d.getLsbD 0 then slotStart (Fin.ofNat 32 i) (s.stored .SPW_CMD i d a) else (s.stored .SPW_CMD i d a)))) ∧
  (∀ (s : State) (p : Path) (c : Slot),
    s.mayWrite p = false →
    exec (.slotStart p c) s = .next (if s.windowGone (setUnit setSpw) || s.unheard p then s else s.discard setSpw) ∧
    exec (.slotOff p c) s = .next (if s.windowGone (setUnit setSpw) || s.unheard p then s else s.discard setSpw) ∧
    exec (.slotClear p c) s = .next (if s.windowGone (setUnit setSpw) || s.unheard p then s else s.discard setSpw)) ∧
  (∀ (s : State) (c : Slot),
    (s.sp c = 4 → exec (.precheckTimeout c) s = .next (trip s c 8) ∧ ∃ t, exec (.precheckTimeout c) s = .next t ∧ t.sp c = 8 ∧ t.get SPW_STS.CAUSE c = 8 ∧ t.flag SPW_STS.PG c = false) ∧
    (s.sp c = 4 → s.slotPort c = none → s.flag SPW_STS.PG c = false → ∃ t, exec (.precheckTimeout c) s = .next t ∧
      t.get SPW_TRIP.CAUSE c = 8 ∧ t.get SPW_TRIP.ON_US c = (if s.driven c then min (s.chan c).onUs (2 ^ 24 - 1) else 0) ∧ { t.quiet with lib := s.lib, spw := s.spw } = s.quiet) ∧
    (¬ (s.sp c = 4) → exec (.precheckTimeout c) s = .next s)) ∧
  (∀ (s : State) (c : Slot),
    (s.driven c = true ∧ s.flag SPW_STS.TMR_RUN c = true → exec (.faultTimer c) s = .next (trip s c 1) ∧ ∃ t, exec (.faultTimer c) s = .next t ∧ t.sp c = (if classF c || (s.get SPW_CFG2.RETRIES c != 255 && s.get SPW_STS.TRIPS c ≥ s.get SPW_CFG2.RETRIES c) then 8 else 7) ∧ t.get SPW_STS.CAUSE c = 1 ∧ t.flag SPW_STS.PG c = false) ∧
    (s.driven c = true ∧ s.flag SPW_STS.TMR_RUN c = true → s.slotPort c = none → s.flag SPW_STS.PG c = false → ∃ t, exec (.faultTimer c) s = .next t ∧
      t.get SPW_TRIP.CAUSE c = 1 ∧ t.get SPW_TRIP.ON_US c = (if s.driven c then min (s.chan c).onUs (2 ^ 24 - 1) else 0) ∧ { t.quiet with lib := s.lib, spw := s.spw } = s.quiet) ∧
    (¬ (s.driven c = true ∧ s.flag SPW_STS.TMR_RUN c = true) → exec (.faultTimer c) s = .next s)) ∧
  (∀ (s : State) (c : Slot),
    (s.sp c = 5 ∧ s.get SPW_MEAS0.V_OUT c * 100 < s.get SPW_MEAS1.V_BUS c * 92 → exec (.rampWindow c) s = .next (trip s c 2) ∧ ∃ t, exec (.rampWindow c) s = .next t ∧ t.sp c = (if classF c || (s.get SPW_CFG2.RETRIES c != 255 && s.get SPW_STS.TRIPS c ≥ s.get SPW_CFG2.RETRIES c) then 8 else 7) ∧ t.get SPW_STS.CAUSE c = 2 ∧ t.flag SPW_STS.PG c = false) ∧
    (s.sp c = 5 ∧ s.get SPW_MEAS0.V_OUT c * 100 < s.get SPW_MEAS1.V_BUS c * 92 → s.slotPort c = none → s.flag SPW_STS.PG c = false → ∃ t, exec (.rampWindow c) s = .next t ∧
      t.get SPW_TRIP.CAUSE c = 2 ∧ t.get SPW_TRIP.ON_US c = (if s.driven c then min (s.chan c).onUs (2 ^ 24 - 1) else 0) ∧ { t.quiet with lib := s.lib, spw := s.spw } = s.quiet) ∧
    (¬ (s.sp c = 5 ∧ s.get SPW_MEAS0.V_OUT c * 100 < s.get SPW_MEAS1.V_BUS c * 92) → exec (.rampWindow c) s = .next s)) ∧
  (∀ (s : State) (c : Slot),
    (classF c = true ∧ s.driven c = true → exec (.fastTrip c) s = .next (trip s c 3) ∧ ∃ t, exec (.fastTrip c) s = .next t ∧ t.sp c = 8 ∧ t.get SPW_STS.CAUSE c = 3 ∧ t.flag SPW_STS.PG c = false) ∧
    (classF c = true ∧ s.driven c = true → s.slotPort c = none → s.flag SPW_STS.PG c = false → ∃ t, exec (.fastTrip c) s = .next t ∧
      t.get SPW_TRIP.CAUSE c = 3 ∧ t.get SPW_TRIP.ON_US c = (if s.driven c then min (s.chan c).onUs (2 ^ 24 - 1) else 0) ∧ { t.quiet with lib := s.lib, spw := s.spw } = s.quiet) ∧
    (¬ (classF c = true ∧ s.driven c = true) → exec (.fastTrip c) s = .next s)) ∧
  (∀ (s : State) (c : Slot) (vgs : Nat),
    (s.driven c = true ∧ vgs < 4000 ∧ s.get SPW_MEAS0.CURRENT c * 20 * s.get SPW_CFG0.SENSE_UOHM c < s.get SPW_CFG0.THRESH c * 10000 → exec (.passFetCheck c vgs) s = .next (trip s c 7) ∧ ∃ t, exec (.passFetCheck c vgs) s = .next t ∧ t.sp c = 8 ∧ t.get SPW_STS.CAUSE c = 7 ∧ t.flag SPW_STS.PG c = false) ∧
    (s.driven c = true ∧ vgs < 4000 ∧ s.get SPW_MEAS0.CURRENT c * 20 * s.get SPW_CFG0.SENSE_UOHM c < s.get SPW_CFG0.THRESH c * 10000 → s.slotPort c = none → s.flag SPW_STS.PG c = false → ∃ t, exec (.passFetCheck c vgs) s = .next t ∧
      t.get SPW_TRIP.CAUSE c = 7 ∧ t.get SPW_TRIP.ON_US c = (if s.driven c then min (s.chan c).onUs (2 ^ 24 - 1) else 0) ∧ { t.quiet with lib := s.lib, spw := s.spw } = s.quiet) ∧
    (¬ (s.driven c = true ∧ vgs < 4000 ∧ s.get SPW_MEAS0.CURRENT c * 20 * s.get SPW_CFG0.SENSE_UOHM c < s.get SPW_CFG0.THRESH c * 10000) → exec (.passFetCheck c vgs) s = .next s)) ∧
  (∀ (s : State),
    s.flag SPW_BUS_STS.WARN 0 = true →
    s.busRecovered = true →
    s.spw.chan = [] →
    ∃ t, exec .busWarnClear s = .next t ∧ t.flag SPW_BUS_STS.WARN 0 = false ∧ t.flag SPW_BUS_STS.BUS_OFF 0 = false ∧ t.spw.cleared = some (s.timeOf 4) ∧ (∀ c < 32, t.sp c = s.sp c)) ∧
  (∀ (s : State) (c : Slot),
    (s.flag SPW_BUS_STS.WARN 0 = true → s.busRecovered = true → (s.chan c).busOff = true → s.sp c = 3 → s.slotTillerStopped c = false → s.startsPermitted = true →
      ∃ t, exec .busWarnClear s = .next t ∧ t.flag SPW_BUS_STS.WARN 0 = false ∧ t.sp c = 4 ∧ (t.chan c).busOff = false) ∧
    (s.flag SPW_BUS_STS.WARN 0 = true → s.busRecovered = true → s.slotTillerStopped c = true ∨ s.startsPermitted = false →
      ∃ t, exec .busWarnClear s = .next t ∧ t.flag SPW_BUS_STS.WARN 0 = false ∧ t.sp c = s.sp c ∧ (t.chan c).busOff = (s.chan c).busOff) ∧
    (s.flag SPW_BUS_STS.WARN 0 = false ∨ s.busRecovered = false → exec .busWarnClear s = .next s))

/-- HK_SRC takes the lowest locked ROOT, and a change is counted; REFCLK_LOSS is CHIP_FATAL with FAULT (0,1) and every port and slot off; ROOT_UNLOCK isolates its region; a conversion within its levels only shows its readings, one beyond a warning level sets the rail's bit and a new event is counted and recorded; a second reading beyond a reset level is a brownout reset with its rail, ignored under CHIP_FATAL, and for VDD_KPR below its level a loss of power; a warning clears where the last reading lies within the hysteresis, and its time is kept; after a brownout the start resumes at step 2 once every rail is good. A write of a register of the group that reaches it stores the fields and does what the written bits start: the same as the command. -/
def Obligations.ClocksAndSupplies : Prop :=
  (∀ (s : State),
    s.hkSource ≠ s.get CRS_CLK_STS.HK_SRC 0 →
    ∃ t, exec .hkSourceSwitch s = .next t ∧ t.get CRS_CLK_STS.HK_SRC 0 = s.hkSource ∧ t.get KPR_STS.ON_AON 0 = (if s.hkSource = 0 then 1 else 0) ∧
      t.get CRS_CLK_STS.HK_SWITCHES 0 = (s.bump CRS_CLK_STS.HK_SWITCHES 0 1).get CRS_CLK_STS.HK_SWITCHES 0 ∧ wordsKept s t [.CRS_CLK_STS, .KPR_STS] ∧ onlyRegs s t) ∧
  (∀ (s : State),
    s.hkSource = s.get CRS_CLK_STS.HK_SRC 0 →
    exec .hkSourceSwitch s = .next s) ∧
  (∀ (s : State) (r : Region),
    (∃ t, exec .refclkLoss s = .next t ∧ t.get CRS_CLK_STS.REFCLK_OK 0 = 0 ∧ t.stsBit setCrs 3) ∧
    (∃ t, exec (.rootUnlock r) s = .next t ∧ (t.get CRS_CLK_STS.ROOT_LOCK 0).testBit r = false ∧ t.stsBit setCrs 2) ∧
    (∃ t, exec (.rgnRstNAssert r) s = .next t ∧ (t.get KPR_STS.RGN_PIN 0).testBit r = true ∧ (s.fatal = false → t.stsBit setCrs 4))) ∧
  (∀ (s : State),
    s.fatal = false →
    ∃ t, exec .refclkLoss s = .next t ∧ t.fatal = true ∧ t.flt.pins = 1 ∧ t.flag KPR_STS.CHIP_FATAL 0 = true ∧ t.get CRS_CLK_STS.REFCLK_OK 0 = 0 ∧ t.stsBit setCrs 3 ∧
      (∀ p < 64, t.get PRT_PORT_STS.STATE p = 0 ∧ t.get PRT_DN_TMR.PERST_OUT p = 0) ∧ (∀ c < 32, t.get SPW_STS.STATE c = 0 ∧ t.get SPW_STS.PG c = 0) ∧
      (∀ e ∈ t.flt.retPend, e ∈ s.flt.retPend ∨ e.area = 4)) ∧
  (∀ (s : State) (r q : Region),
    s.fatal = false →
    s.rgn r = 0 →
    q ≠ r →
    s.rgn q = 0 →
    s.flag KPR_STS.FLUSHING 0 = false →
    ∃ t, exec (.rootUnlock r) s = .next t ∧ (t.get CRS_CLK_STS.ROOT_LOCK 0).testBit r = false ∧ t.rgn r = 1 ∧ t.rgn q = 0 ∧ t.fatal = false ∧ t.flt.pins = 1 ∧ t.stsBit setCrs 2) ∧
  (∀ (s : State) (m : Fin 8) (v : RailReading),
    v.bad = false →
    s.get CRS_RAIL_LO.RESET m ≤ railLowest v →
    s.get CRS_RAIL_LO.WARN m ≤ railLowest v →
    railHighest v ≤ s.get CRS_RAIL_HI.WARN m →
    railHighest v ≤ s.get CRS_RAIL_HI.RESET m →
    ∃ t, exec (.railConversion m v) s = .next t ∧ t.get CRS_RAIL_NOW.NOW m = railLowest v ∧ Tab.get 0 t.sup.beyond m = 0 ∧ wordsKept s t [.CRS_RAIL_NOW] ∧
      { t with regs := s.regs, sup := s.sup, arc := s.arc } = s) ∧
  (∀ (s : State) (m : Fin 8) (v : RailReading) (u a : Bool),
    u = (v.bad || decide (railLowest v < s.get CRS_RAIL_LO.RESET m)) →
    a = decide (s.get CRS_RAIL_HI.RESET m < railHighest v) →
    (u || a || decide (railLowest v < s.get CRS_RAIL_LO.WARN m) || decide (s.get CRS_RAIL_HI.WARN m < railHighest v) = true → (u = false ∧ a = false) ∨ Tab.get 0 s.sup.beyond m = 0 →
      ∃ t, exec (.railConversion m v) s = .next t ∧ (t.get CRS_SUP_STS.WARN 0).testBit m = true ∧ t.get CRS_RAIL_NOW.NOW m = railLowest v ∧
        Tab.get 0 t.sup.beyond m = (if u || a then 1 else 0) ∧ t.boot = s.boot ∧ t.fatal = s.fatal) ∧
    (u || a || decide (railLowest v < s.get CRS_RAIL_LO.WARN m) || decide (s.get CRS_RAIL_HI.WARN m < railHighest v) = true → (u = false ∧ a = false) ∨ Tab.get 0 s.sup.beyond m = 0 →
      (s.get CRS_SUP_STS.WARN 0).testBit m = false → Tab.get none s.sup.cleared m = none →
      ∃ t, exec (.railConversion m v) s = .next t ∧ t.stsBit setCrs 0 ∧ t.get CRS_SUP_STS.EVENTS 0 = (s.bump CRS_SUP_STS.EVENTS 0 1).get CRS_SUP_STS.EVENTS 0 ∧ t.get CRS_SUP_STS.REPEAT 0 = 0) ∧
    (u || a = true → 0 < Tab.get 0 s.sup.beyond m → s.fatal = false → m.val ≠ 6 ∨ u = false → ∃ t, exec (.railConversion m v) s = .next t ∧ t.get KPR_RST_CAUSE.CAUSE 0 = 4 ∧
      t.get KPR_RST_CAUSE.RAIL 0 = m.val ∧ t.get KPR_RST_CAUSE.OVER 0 = (if u then 0 else 1) ∧ t.boot.resume = 2 ∧ t.get CRS_CLK_STS.ROOT_LOCK 0 = 0 ∧ t.fatal = false ∧ t.hbm = [] ∧ t.ret = s.ret) ∧
    (0 < Tab.get 0 s.sup.beyond m → m.val = 6 → u = true → ∃ t, exec (.railConversion m v) s = .next t ∧ t.fatal = false ∧ t.hbm = [] ∧ t.ret = [] ∧ t.ces = [] ∧ wordsKept State.reset t [.SEC_LC_STS, .CHIP_IDENT]) ∧
    (u || a = true → 0 < Tab.get 0 s.sup.beyond m → s.fatal = true → m.val ≠ 6 ∨ u = false → ∃ t, exec (.railConversion m v) s = .next t ∧ t.boot = s.boot ∧ t.fatal = true)) ∧
  (∀ (s : State) (m : Fin 8),
    ((s.get CRS_SUP_STS.WARN 0).testBit m = true → s.railGood m = true → ∃ t, exec (.railWarnClear m) s = .next t ∧
      (∀ k < 8, (t.get CRS_SUP_STS.WARN 0).testBit k = ((s.get CRS_SUP_STS.WARN 0).testBit k && k != m.val)) ∧ Tab.get none t.sup.cleared m = some (s.timeOf 4)) ∧
    ((s.get CRS_SUP_STS.WARN 0).testBit m = false ∨ s.railGood m = false → exec (.railWarnClear m) s = .next s)) ∧
  (∀ (s : State),
    s.boot.resume = 2 →
    s.boot.perst = true →
    s.fatal = false →
    s.railsGood = true →
    s.boot.fuses = none →
    s.get SEC_LC_STS.STATE 0 ≠ 3 →
    ∃ t, exec .brownoutResume s = .next t ∧ t.boot.starting = true ∧ t.boot.resume = 0 ∧ t.get KPR_STS.STEP 0 = 1 ∧ wordsKept s t [.KPR_STS] ∧ { t with regs := s.regs, boot := s.boot } = s) ∧
  (∀ (s : State),
    (s.boot.resume ≠ 2 ∨ s.boot.perst = false ∨ s.fatal = true ∨ s.railsGood = false → exec .brownoutResume s = .next s) ∧
    (s.boot.resume = 2 → s.boot.perst = true → s.fatal = false → s.railsGood = true → exec .brownoutResume s = .next (startBegins s 1))) ∧
  (∀ (s : State) (p : Path) (a : BitVec 32) (d : BitVec 64) (i : Nat),
    s.writeReaches p a (.reg .CRS_SUP_CTL i) →
    exec (.registerWrite p a d 4) s = .next (s.settleShapers.stored .CRS_SUP_CTL i d a))

/-- PERST_N and WARM_RST_N asserted, and the command with its key, begin the flush with their cause, but one under way goes on, a start in progress is abandoned at PERST_N, and another key is discarded and counted; its end, or its cutoff, records DONE or TRUNCATED and resets the chip with that cause; WARM_RST_N released resumes a warm start; RGN_RST_N isolates its region; under CHIP_FATAL each assertion is ignored and counted; power lost or applied leaves CHIP_FATAL, and keeps nothing but the fuses. A write of a register of the group that reaches it stores the fields and does what the written bits start: the same as the command. Given by a path that may not write its register, a command does nothing and is counted as a discard, but for I3C, whose refusal is its reply; in the window of an isolated region, or through the manager port before ready, it does nothing. -/
def Obligations.ResetsAndPowerDown : Prop :=
  (∀ (s : State) (p : Path),
    s.fatal = false →
    s.boot.down = 0 →
    s.boot.starting = false →
    s.boot.resume = 0 →
    s.boot.perst = true →
    s.windowGone (setUnit setCrs) = false →
    s.unheard p = false →
    s.mayWriteListed p true = true →
    (∃ t, exec .perstNAssert s = .next t ∧ t.boot.down = 1 ∧ t.boot.perst = false ∧ t.flag KPR_STS.FLUSHING 0 = true ∧ t.flt.pins = 0 ∧ (∀ p < 64, s.role p = 1 ∨ s.role p = 3 → t.get PRT_PORT_STS.STATE p = 0) ∧ (s.cat.zreq = [] → wordsKept s t [.KPR_STS, .PRT_PORT_STS, .GRN_FLUSH_CMD, .GRN_FLUSH_STS] ∧ { t with regs := s.regs, boot := s.boot, flt := s.flt, grn := s.grn, cat := s.cat } = s)) ∧
    (∃ t, exec .warmRstNAssert s = .next t ∧ t.boot.down = 2 ∧ t.boot.warm = false ∧ t.flag KPR_STS.FLUSHING 0 = true ∧ t.flt.pins = 0 ∧ (∀ p < 64, s.role p = 1 ∨ s.role p = 3 → t.get PRT_PORT_STS.STATE p = 0) ∧ (s.cat.zreq = [] → wordsKept s t [.KPR_STS, .PRT_PORT_STS, .GRN_FLUSH_CMD, .GRN_FLUSH_STS] ∧ { t with regs := s.regs, boot := s.boot, flt := s.flt, grn := s.grn, cat := s.cat } = s)) ∧
    (∃ t, exec (.warmResetCmd p 0x5752) s = .next t ∧ t.boot.down = 3 ∧ t.flag KPR_STS.FLUSHING 0 = true ∧ t.flt.pins = 0 ∧ (∀ p < 64, s.role p = 1 ∨ s.role p = 3 → t.get PRT_PORT_STS.STATE p = 0) ∧ (s.cat.zreq = [] → wordsKept s t [.KPR_STS, .PRT_PORT_STS, .GRN_FLUSH_CMD, .GRN_FLUSH_STS] ∧ { t with regs := s.regs, boot := s.boot, flt := s.flt, grn := s.grn, cat := s.cat } = s))) ∧
  (∀ (s : State),
    s.fatal = false →
    (s.boot.down ≠ 0 → exec .perstNAssert s = .next { s with boot := { s.boot with perst := false, down := 1 } }) ∧
    (s.boot.down = 0 → s.boot.starting = true → ∃ t, exec .perstNAssert s = .next t ∧ t.boot.perst = false ∧ t.boot.starting = false ∧ t.boot.resume = 1 ∧ t.get KPR_RST_CAUSE.CAUSE 0 = 1 ∧
      t.get CRS_CLK_STS.ROOT_LOCK 0 = 0 ∧ t.hbm = []) ∧
    (s.boot.down = 0 → s.boot.starting = false → s.boot.resume ≠ 0 → exec .perstNAssert s = .next { s with boot := { s.boot with perst := false, resume := 1 } }) ∧
    (s.boot.perst = false ∨ s.boot.down ≠ 0 ∨ s.boot.resume ≠ 0 → exec .warmRstNAssert s = .next { s with boot := { s.boot with warm := false } })) ∧
  (∀ (s : State) (p : Path) (k : BitVec 16),
    s.windowGone (setUnit setCrs) = false →
    s.unheard p = false →
    s.mayWriteListed p true = true →
    (s.fatal = true → exec (.warmResetCmd p k) s = .next (ignoredReset s)) ∧ (s.fatal = false → k ≠ 0x5752 → exec (.warmResetCmd p k) s = .next (s.discard setCrs)) ∧
    (s.fatal = false → k = 0x5752 → s.boot.down ≠ 0 ∨ s.boot.resume ≠ 0 → exec (.warmResetCmd p k) s = .next s)) ∧
  (∀ (s : State) (r : Region),
    s.fatal = true →
    (∃ t, exec .perstNAssert s = .next t ∧ t.fatal = true ∧ t.get KPR_STS.IGNORED_RESETS 0 = (ignoredReset s).get KPR_STS.IGNORED_RESETS 0 ∧ t.boot.down = s.boot.down ∧ wordsKept s t [.KPR_STS]) ∧
    (∃ t, exec .warmRstNAssert s = .next t ∧ t.fatal = true ∧ t.get KPR_STS.IGNORED_RESETS 0 = (ignoredReset s).get KPR_STS.IGNORED_RESETS 0 ∧ t.boot.down = s.boot.down ∧ wordsKept s t [.KPR_STS]) ∧
    (∃ t, exec (.rgnRstNAssert r) s = .next t ∧ t.fatal = true ∧ t.get KPR_STS.IGNORED_RESETS 0 = (ignoredReset s).get KPR_STS.IGNORED_RESETS 0 ∧ t.boot.down = s.boot.down ∧ wordsKept s t [.KPR_STS])) ∧
  (∀ (s : State),
    s.fatal = false →
    s.boot.resume = 4 →
    s.boot.perst = true →
    s.boot.fuses = none →
    s.get SEC_LC_STS.STATE 0 ≠ 3 →
    ∃ t, exec .warmRstNDeassert s = .next t ∧ t.boot.warm = true ∧ t.boot.starting = true ∧ t.boot.resume = 0 ∧ t.get KPR_STS.STEP 0 = 3 ∧ wordsKept s t [.KPR_STS] ∧ { t with regs := s.regs, boot := s.boot } = s) ∧
  (∀ (s u : State),
    u = { s with boot := { s.boot with warm := true } } →
    (s.fatal = true ∨ s.boot.perst = false ∨ (s.boot.resume ≠ 1 ∧ s.boot.resume ≠ 4) → exec .warmRstNDeassert s = .next u) ∧
    (s.fatal = false → s.boot.perst = true → s.boot.resume = 4 → exec .warmRstNDeassert s = .next (startBegins u 3)) ∧
    (s.fatal = false → s.boot.perst = true → s.boot.resume = 1 → exec .warmRstNDeassert s = .next (startAnew u))) ∧
  (∀ (s : State) (ms : Nat),
    s.flag KPR_STS.FLUSHING 0 = true →
    s.boot.down = 1 →
    s.boot.perst = false →
    (s.flushDone = true → ∃ t, exec (.pdFlushEnd ms) s = .next t ∧ t.get KPR_PD_STS.RESULT 0 = 1 ∧ t.get KPR_PD_STS.FLUSH_MS 0 = min ms 190 ∧ t.flag KPR_STS.FLUSHING 0 = false ∧
      t.get KPR_RST_CAUSE.CAUSE 0 = 1 ∧ t.boot.resume = 1 ∧ t.hbm = [] ∧ t.get CRS_CLK_STS.ROOT_LOCK 0 = 0) ∧
    (∃ t, exec .pdFlushCutoff s = .next t ∧ t.get KPR_PD_STS.RESULT 0 = 2 ∧ t.get KPR_PD_STS.FLUSH_MS 0 = 190 ∧ t.get KPR_PD_STS.UNFLUSHED 0 = min (s.dirtyBlocks (fun _ => true)) (2 ^ 22 - 1) ∧
      t.flag KPR_STS.FLUSHING 0 = false ∧ t.get KPR_RST_CAUSE.CAUSE 0 = 1 ∧ t.boot.resume = 1)) ∧
  (∀ (s : State) (ms d : Nat),
    s.flag KPR_STS.FLUSHING 0 = true →
    s.boot.down = d →
    d = 2 ∨ d = 3 →
    (s.flushDone = true → ∃ t, exec (.pdFlushEnd ms) s = .next t ∧ t.get KPR_PD_STS.RESULT 0 = 1 ∧ t.flag KPR_STS.FLUSHING 0 = false ∧ t.get KPR_RST_CAUSE.CAUSE 0 = d ∧ t.hbm = [] ∧
      (s.boot.warm = false ∨ s.boot.perst = false → t.boot.resume = 4) ∧ (s.boot.warm = true → s.boot.perst = true → t.boot.starting = true ∧ t.get KPR_STS.STEP 0 = 3) ∧
      (s.get CRS_CLK_STS.ROOT_LOCK 0 ≠ 0 → t.get CRS_CLK_STS.ROOT_LOCK 0 = 15)) ∧
    (∃ t, exec .pdFlushCutoff s = .next t ∧ t.get KPR_PD_STS.RESULT 0 = 2 ∧ t.get KPR_PD_STS.FLUSH_MS 0 = 190 ∧ t.flag KPR_STS.FLUSHING 0 = false ∧ t.get KPR_RST_CAUSE.CAUSE 0 = d)) ∧
  (∀ (s : State) (ms : Nat),
    (s.boot.down = 0 ∨ s.flag KPR_STS.FLUSHING 0 = false ∨ s.flushDone = false → exec (.pdFlushEnd ms) s = .next s) ∧
    (s.boot.down = 0 ∨ s.flag KPR_STS.FLUSHING 0 = false → exec .pdFlushCutoff s = .next s)) ∧
  (∀ (s : State) (r q : Region),
    s.fatal = false →
    s.rgn r = 0 →
    q ≠ r →
    s.rgn q = 0 →
    s.flag KPR_STS.FLUSHING 0 = false →
    ∃ t, exec (.rgnRstNAssert r) s = .next t ∧ (t.get KPR_STS.RGN_PIN 0).testBit r = true ∧ t.rgn r = 1 ∧ t.rgn q = 0 ∧ t.fatal = false ∧ t.stsBit setCrs 4) ∧
  (∀ (s : State),
    exec .powerOn s = exec .keeperPowerLoss s ∧ ∃ t, exec .powerOn s = .next t ∧ exec .keeperPowerLoss s = .next t ∧ t.fatal = false ∧ t.hbm = [] ∧ t.ret = [] ∧ t.ces = [] ∧ t.pending = s.pending ∧
      t.boot.ownerHash = s.boot.ownerHash ∧ t.get SEC_LC_STS.STATE 0 = s.get SEC_LC_STS.STATE 0 ∧
      wordsKept State.reset t [.SEC_LC_STS, .CHIP_IDENT]) ∧
  (∀ (s : State) (p : Path) (a : BitVec 32) (d : BitVec 64) (i : Nat),
    s.writeReaches p a (.reg .CRS_RST_CMD i) →
    exec (.registerWrite p a d 4) s = .next (if d.getLsbD 16 then warmResetCmd (BitVec.ofNat 16 (bits (d.setWidth 32) 0 16)) (s.stored .CRS_RST_CMD i d a) else (s.stored .CRS_RST_CMD i d a))) ∧
  (∀ (s : State) (p : Path) (k : BitVec 16),
    s.mayWriteListed p true = false →
    exec (.warmResetCmd p k) s = .next (if s.windowGone (setUnit setCrs) || s.unheard p then s else if p = .i3c then s else s.discard setCrs))

/-- REGION_ISOLATED of an ISOLATING region makes it ISOLATED with its cause valid, its core offline and its ports idle; a wait that expires is bit 30 and starts a self-reset, which ends when its block is cleared, or is bit 31 and fatal, and an MPU barrier that waits in the block ends with it; a copy fills its area with its header and no other area, and shows VALID, and a corrected word of the SRAM is recorded; a pin mismatch is recorded and the code driven on; a MASK write takes its word and leaves STS; a merge window ends with one message or closes. Given by a path that may not write its register, a command does nothing and is counted as a discard, but for I3C, whose refusal is its reply; in the window of an isolated region, or through the manager port before ready, it does nothing. -/
def Obligations.FaultCommands : Prop :=
  (∀ (s : State) (r : Region),
    s.rgn r = 1 →
    ∃ t, exec (.regionIsolated r) s = .next t ∧ t.rgn r = 2 ∧ t.flag CHIP_RGN_CAUSE.VALID r = true ∧ t.get LIB_CORE_STS.STATE r = 3 ∧
      (∀ i < 16, s.role (16 * r.val + i) ≠ 0 → t.get PRT_PORT_STS.STATE (16 * r.val + i) = 0 ∧ t.get PRT_DN_TMR.PERST_OUT (16 * r.val + i) = 0)) ∧
  (∀ (s : State) (r : Region) (x n : Nat) (p : Path) (m : Word),
    (s.rgn r ≠ 1 → exec (.regionIsolated r) s = .next s) ∧ (setExists x = false ∨ s.windowGone (setUnit x) = true → exec (.blkWaitTmo x) s = .next s) ∧
    (s.flt.resetting.contains x = false ∨ s.windowGone (setUnit x) = true → exec (.selfResetTmo x) s = .next s) ∧ (s.flt.resetting.contains x = false → exec (.blockResetDone x) s = .next s) ∧
    (s.flt.resetting.contains x = true → s.windowGone (setUnit x) = true → exec (.blockResetDone x) s = .next { s with flt := { s.flt with resetting := s.flt.resetting.filter (fun y => y != x) } }) ∧
    (s.flt.retPend = [] → exec (.retainedCopyDone ⟨n, false⟩) s = .next s ∧ exec (.retainedCopyDone ⟨n, true⟩) s = .next s) ∧
    (setExists x = false → exec (.cesMaskWrite p x m) s = .next s) ∧ ((s.cesSet x).window = false → exec (.msixMergeEnd x) s = .next s)) ∧
  (∀ (s : State) (r : Region),
    s.windowGone r = false →
    s.flag LIB_MPU_BAR.BUSY r = true →
    ∃ t, exec (.blkWaitTmo (libSet r)) s = .next t ∧ t.stsBit (libSet r) 30 ∧ t.flag LIB_MPU_BAR.BUSY r = false ∧ t.flag LIB_MPU_BAR.DONE r = true) ∧
  (∀ (s : State) (x : Nat),
    setExists x = true →
    s.windowGone (setUnit x) = false →
    s.flt.resetting.contains x = true →
    ∃ t, exec (.blkWaitTmo x) s = .next t ∧ t.stsBit x 30 ∧ t.flt.resetting = s.flt.resetting) ∧
  (∀ (s : State) (x : Nat),
    s.flt.resetting.contains x = true →
    s.windowGone (setUnit x) = false →
    ∃ t, exec (.selfResetTmo x) s = .next t ∧ t = s.record (blockOcc x 31) ∧ t.stsBit x 31) ∧
  (∀ (s : State) (x : Nat),
    setExists x = true →
    s.windowGone (setUnit x) = false →
    s.flt.resetting.contains x = false →
    ∃ t, exec (.blkWaitTmo x) s = .next t ∧ t.stsBit x 30 ∧ t.flt.resetting = s.flt.resetting ++ [x] ∧ t.quiet = s.quiet) ∧
  (∀ (s : State) (x : Nat) (q : Region),
    s.flt.resetting.contains x = true →
    x < 1024 →
    s.rgn (x / 256) = 0 →
    s.fatal = false →
    q.val ≠ x / 256 →
    s.rgn q = 0 →
    ∃ t, exec (.selfResetTmo x) s = .next t ∧ t.stsBit x 31 ∧ t.rgn (x / 256) = 1 ∧ t.rgn q = 0 ∧ t.fatal = false) ∧
  (∀ (s : State) (x : Nat),
    s.flt.resetting.contains x = true →
    1024 ≤ x →
    s.fatal = false →
    ∃ t, exec (.selfResetTmo x) s = .next t ∧ t.stsBit x 31 ∧ t.fatal = true ∧ t.flt.pins = 1) ∧
  (∀ (s : State) (x : Nat),
    s.flt.resetting.contains x = true →
    s.windowGone (setUnit x) = false →
    ∃ t, exec (.blockResetDone x) s = .next t ∧ t.flt.resetting = s.flt.resetting.filter (fun y => y != x) ∧ { t with flt := (s.blockCleared x).flt } = s.blockCleared x) ∧
  (∀ (s : State) (n : Nat) (e : RetPend) (rest : List RetPend),
    s.flt.retPend = e :: rest →
    e.area < 5 →
    (∃ t, exec (.retainedCopyDone ⟨n, true⟩) s = .next t ∧ t.flt.retPend = rest ∧ (t.get KPR_RET_STS.VALID 0).testBit e.area = true ∧ t.stsBit setKpr 1) ∧
    ∃ t, exec (.retainedCopyDone ⟨n, false⟩) s = .next t ∧ t.flt.retPend = rest ∧ (t.get KPR_RET_STS.VALID 0).testBit e.area = true ∧
      (∀ i < 28, peek t.ret (areaAt e.area + i) = (retHeader e (min n (areaSize e.area))).getD i 0) ∧
      (∀ k, (k < areaAt e.area ∨ areaAt e.area + areaSize e.area ≤ k) → peek t.ret k = peek s.ret k) ∧
      wordsKept s t [.KPR_RET_STS] ∧ { t with regs := s.regs, flt := s.flt, ret := s.ret } = s) ∧
  (∀ (s : State),
    ∃ t, exec .faultPinMismatch s = .next t ∧ t.stsBit setKpr 0 ∧ t.flt = s.flt ∧ t.fatal = s.fatal ∧ t.quiet = s.quiet) ∧
  (∀ (s : State) (p : Path) (x : Nat) (m : Word),
    setExists x = true →
    s.windowGone (setUnit x) = false →
    s.unheard p = false →
    s.mayWriteListed p (setUnit x == 4) = true →
    ∃ t, exec (.cesMaskWrite p x m) s = .next t ∧ (t.cesSet x).mask = m ∧ (t.cesSet x).sts = (s.cesSet x).sts ∧ (t.cesSet x).first = (s.cesSet x).first ∧ (t.cesSet x).count = (s.cesSet x).count ∧
      (∀ y, y ≠ x → t.cesSet y = s.cesSet y) ∧ ((s.cesSet x).mask &&& ~~~m &&& (s.cesSet x).sts = 0 → t = s.setCes x { s.cesSet x with mask := m }) ∧
      { t with ces := s.ces, out := s.out, i3c := s.i3c } = s) ∧
  (∀ (s : State) (x : Nat),
    (s.cesSet x).window = true →
    ((s.cesSet x).merge = false → exec (.msixMergeEnd x) s = .next (s.setCes x { s.cesSet x with window := false, merge := false })) ∧
    ((s.cesSet x).merge = true → (s.cesSet x).route.getLsbD 0 = true → s.managerPort.any (fun p => s.inL0 p) = true → s.windowGone (setUnit x) = false →
      exec (.msixMergeEnd x) s = .next ((s.setCes x { s.cesSet x with merge := false }).emit (.msix 64 (bits (s.cesSet x).route 2 11)))) ∧
    ((s.cesSet x).merge = true → (s.cesSet x).route.getLsbD 0 = false ∨ s.managerPort.any (fun p => s.inL0 p) = false ∨ s.windowGone (setUnit x) = true →
      exec (.msixMergeEnd x) s = .next (s.setCes x { s.cesSet x with window := false, merge := false }))) ∧
  (∀ (s : State) (p : Path) (k : Nat) (m : Word),
    setExists k = true →
    s.mayWriteListed p (setUnit k == 4) = false →
    exec (.cesMaskWrite p k m) s = .next (if s.windowGone (setUnit k) || s.unheard p then s else if p = .i3c then s else s.discard k))

/-- For the loss of a region's ROOT, an occurrence of class REGION_FATAL: where another region runs, the region is ISOLATING, its error is recorded, and every other region is as before; where none does, CHIP_FATAL stands, every port is idle, the region keeps showing RUNNING with its cause not valid, its error is recorded, and its retained copy is asked for with TRIGGER 4. -/
def Obligations.LastRegionFatal : Prop :=
  (∀ (s : State) (r q : Region),
    s.fatal = false →
    s.rgn r = 0 →
    q ≠ r →
    s.rgn q = 0 →
    ∃ t, exec (.rootUnlock r) s = .next t ∧ t.rgn r = 1 ∧ (∀ x : Region, x ≠ r → t.rgn x = s.rgn x) ∧ t.fatal = false ∧ t.stsBit setCrs 2) ∧
  (∀ (s : State) (r : Region),
    s.fatal = false →
    s.rgn r = 0 →
    ∀ q : Region, q ≠ r → s.rgn q ≠ 0 →
    (s.get KPR_RET_STS.VALID 0).testBit r = false →
    s.flt.retPend = [] →
    ∃ t, exec (.rootUnlock r) s = .next t ∧ t.fatal = true ∧ t.flt.pins = 1 ∧ t.rgn r = 0 ∧ t.get CHIP_RGN_CAUSE.VALID r = s.get CHIP_RGN_CAUSE.VALID r ∧ t.stsBit setCrs 2 ∧
      ((s.cesSet setCrs).first.getLsbD 31 = false → bits (t.cesSet setCrs).first 5 3 = 3) ∧ (∀ p < 64, t.get PRT_PORT_STS.STATE p = 0) ∧ t.flt.retPend.any (fun e => e.area == r.val && e.trigger == 4) = true)

/-- The oldest staged record goes to its place in the record area and is counted, the last of an area makes it FULL, and one for a full area is lost and counted; an error of the staging is recorded; a histogram frame holds the region's entries, their bins and the time, and clears the bins, and one that does not fit leaves them and the area FULL; FREEZE sets FROZEN, UNFREEZE and the limit clear it, the limit with EXPIRED; RELEASE empties an area; EXT_CLR clears the unit's extremes; LOAD adds to a band unless sealed or past 40 bits, which is discarded and counted; an ignored pulse is one Archive event. A write of a register of the group that reaches it stores the fields and does what the written bits start: the same as the command. Given by a path that may not write its register, a command does nothing and is counted as a discard, but for I3C, whose refusal is its reply; in the window of an isolated region, or through the manager port before ready, it does nothing. Given by a path that may not write its register, a command is counted as a discard and does nothing else; in the window of an isolated region, or through the manager port before ready, it does nothing. -/
def Obligations.ArchiveCommands : Prop :=
  (∀ (s : State) (u : Fin 5) (x : BitVec 256) (q : List (BitVec 256)) (n : Nat),
    s.windowGone u = false →
    Tab.get [] s.arc.stage u = x :: q →
    n = s.get ARC_REC.COUNT u →
    n + 1 < recordRoom u →
    (∃ t, exec (.recordWrite ⟨u, .good⟩) s = .next t ∧ Tab.get [] t.arc.stage u = q ∧ t.get ARC_REC.COUNT u = n + 1 ∧ t.get ARC_REC.FULL u = s.get ARC_REC.FULL u ∧
      (∀ i < 32, (if u.val < 4 then peek t.hbm (hbmAt (2 * u.val) (0x590000000 + 32 * n) + i) else peek t.ret (0x10000 + 32 * n + i)) = BitVec.ofNat 8 (x.toNat / 256 ^ i)) ∧
      wordsAt s t [(.ARC_REC, u)]) ∧
    (∃ t, exec (.recordWrite ⟨u, .corrected⟩) s = .next t ∧ t.get ARC_REC.COUNT u = n + 1 ∧ t.stsBit (arcSet u) 0) ∧
    ∃ t, exec (.recordWrite ⟨u, .uncorrectable⟩) s = .next t ∧ t.get ARC_REC.COUNT u = n ∧ t.stsBit (arcSet u) 1) ∧
  (∀ (s : State) (u : Fin 5) (x : BitVec 256) (q : List (BitVec 256)) (n : Nat),
    s.windowGone u = false →
    Tab.get [] s.arc.stage u = x :: q →
    n = s.get ARC_REC.COUNT u →
    (n + 1 = recordRoom u → ∃ t, exec (.recordWrite ⟨u, .good⟩) s = .next t ∧ t.get ARC_REC.COUNT u = n + 1 ∧ t.get ARC_REC.FULL u = 1 ∧ t.stsBit (arcSet u) 2) ∧
    (recordRoom u ≤ n → ∃ t, exec (.recordWrite ⟨u, .good⟩) s = .next t ∧ Tab.get [] t.arc.stage u = q ∧ t.get ARC_REC.COUNT u = n ∧
      t.get ARC_LOST.FULL_LOST u = (s.bump ARC_LOST.FULL_LOST u 1).get ARC_LOST.FULL_LOST u)) ∧
  (∀ (s : State) (u : Fin 5) (e : EccRead) (r : Region),
    (s.windowGone u = true ∨ Tab.get [] s.arc.stage u = [] → exec (.recordWrite ⟨u, e⟩) s = .next s) ∧ (s.windowGone u = true ∨ s.flag ARC_FRZ.FROZEN u = false → exec (.freezeExpired u) s = .next s) ∧
    (s.rgn r = 2 → exec (.histFrame r) s = .next s)) ∧
  (∀ (s : State) (r : Region) (n : Nat) (es : List Nat),
    s.rgn r ≠ 2 →
    n = Tab.get 0 s.arc.histUsed r →
    es = s.histEntries r →
    n + 64 + 80 * es.length ≤ histRoom →
    ∃ t, exec (.histFrame r) s = .next t ∧ t.hbmRead (2 * r.val) (0x580010000 + n) 4 = 0x4D524648 ∧ t.hbmRead (2 * r.val) (0x580010000 + n + 4) 4 = es.length ∧
      t.hbmRead (2 * r.val) (0x580010000 + n + 16) 8 = s.timeOf r % 2 ^ 64 ∧ t.arc.bins = s.arc.bins.filter (fun x => x.1 / 2 ^ 23 != r.val) ∧
      (∀ e ∈ es.zipIdx, t.hbmRead (2 * r.val) (0x580010000 + n + 64 + 80 * e.2) 4 = histIdent e.1 ∧
        ∀ b < 16, t.hbmRead (2 * r.val) (0x580010000 + n + 80 + 80 * e.2 + 4 * b) 4 = Tab.get 0 s.arc.bins (16 * e.1 + b) % 2 ^ 32) ∧
      Tab.get 0 t.arc.histUsed r = n + 64 + 80 * es.length ∧ Tab.get 0 t.arc.spanStart r = s.timeOf r ∧ wordsKept s t [.ARC_HIST] ∧
      { t with regs := s.regs, arc := s.arc, hbm := s.hbm } = s) ∧
  (∀ (s : State) (r : Region),
    s.rgn r ≠ 2 →
    histRoom < Tab.get 0 s.arc.histUsed r + 64 + 80 * (s.histEntries r).length →
    (s.flag ARC_HIST.FULL r = true → exec (.histFrame r) s = .next s) ∧
    (s.flag ARC_HIST.FULL r = false → ∃ t, exec (.histFrame r) s = .next t ∧ t.flag ARC_HIST.FULL r = true ∧ t.stsBit (arcSet r) 2 ∧ t.arc.bins = s.arc.bins)) ∧
  (∀ (s : State) (p : Path) (u : Fin 5),
    s.windowGone (setUnit (arcSet u)) = false →
    s.mayWriteListed p (u.val == 4) = true →
    s.unheard p = false →
    (s.flag ARC_FRZ.FROZEN u = false → ∃ t, exec (.arcFreeze p u) s = .next t ∧ t.flag ARC_FRZ.FROZEN u = true ∧ wordsKept s t [.ARC_FRZ] ∧ { t with regs := s.regs, hbm := s.hbm } = s) ∧
    (s.flag ARC_FRZ.FROZEN u = true → exec (.arcFreeze p u) s = .next s)) ∧
  (∀ (s : State) (p : Path) (u : Fin 5),
    s.windowGone (setUnit (arcSet u)) = false →
    s.mayWriteListed p (u.val == 4) = true →
    ∃ t, exec (.arcUnfreeze p u) s = .next t ∧ t.flag ARC_FRZ.FROZEN u = false ∧ wordsKept s t [.ARC_FRZ] ∧ onlyRegs s t) ∧
  (∀ (s : State) (u : Fin 5),
    s.windowGone u = false →
    s.flag ARC_FRZ.FROZEN u = true →
    ∃ t, exec (.freezeExpired u) s = .next t ∧ t.flag ARC_FRZ.FROZEN u = false ∧ t.flag ARC_FRZ.EXPIRED u = true ∧ t.stsBit (arcSet u) 3 ∧ t.quiet = s.quiet) ∧
  (∀ (s : State) (p : Path) (u : Fin 5),
    s.admits p (arcSet u) →
    (∃ t, exec (.recordAreaRelease p u) s = .next t ∧ t.get ARC_REC.COUNT u = 0 ∧ t.get ARC_REC.FULL u = 0 ∧ wordsKept s t [.ARC_REC] ∧ onlyRegs s t) ∧
    (∃ t, exec (.extremesClear p u) s = .next t ∧ (∀ e < 128, Tab.get none t.arc.ext (128 * u.val + e) = none) ∧
      (∀ k, k / 128 ≠ u.val → Tab.get none t.arc.ext k = Tab.get none s.arc.ext k) ∧ { t with arc := { t.arc with ext := s.arc.ext } } = s)) ∧
  (∀ (s : State) (p : Path) (r : Region),
    s.admits p (arcSet r) →
    ∃ t, exec (.histAreaRelease p r) s = .next t ∧ Tab.get 0 t.arc.histUsed r = 0 ∧ t.get ARC_HIST.USED_KB r = 0 ∧ t.get ARC_HIST.FULL r = 0 ∧ t.get ARC_HIST.FRAMES r = 0 ∧
      wordsKept s t [.ARC_HIST] ∧ { t with regs := s.regs, arc := s.arc } = s) ∧
  (∀ (s : State) (p : Path) (k n : Nat),
    s.windowGone (setUnit setArc) = false →
    s.mayWriteListed p true = true →
    k = 16 * s.get ARC_WEAR_CMD.DIE 0 + s.get ARC_WEAR_CMD.BAND 0 →
    n = Tab.get 0 s.arc.wear k + s.get ARC_WEAR_LO.SECONDS_LO 0 + 2 ^ 32 * s.get ARC_WEAR_HI.SECONDS_HI 0 →
    (s.flag ARC_WEAR_CMD.SEALED 0 = false → n < 2 ^ 40 → ∃ t, exec (.wearLoad p) s = .next t ∧ Tab.get 0 t.arc.wear k = n ∧ (∀ j, j ≠ k → Tab.get 0 t.arc.wear j = Tab.get 0 s.arc.wear j) ∧
      { t with arc := s.arc } = s) ∧
    (s.flag ARC_WEAR_CMD.SEALED 0 = true ∨ 2 ^ 40 ≤ n → exec (.wearLoad p) s = .next (s.discard setArc)) ∧
    (∃ t, exec (.wearSeal p) s = .next t ∧ t.flag ARC_WEAR_CMD.SEALED 0 = true ∧ wordsKept s t [.ARC_WEAR_CMD] ∧ onlyRegs s t)) ∧
  (∀ (s : State) (pin ns : Nat),
    s.arcStopped 4 = false →
    Tab.get (0, 0) s.arc.counted (4096 * 4 + 0x318) = (0, 0) →
    s.get ARC_CODE_CFG.RATE 0x318 ≠ 0 →
    s.flag ARC_CODE_CFG.LOG 0x318 = true →
    (Tab.get [] s.arc.stage 4).length < 256 →
    ∃ t, exec (.pulseIgnored pin ns) s = .next t ∧ Tab.get [] t.arc.stage 4 = Tab.get [] s.arc.stage 4 ++ [eventRecord (s.timeOf 4) 0x318 3 0 0 0 pin ns] ∧
      { t with arc := s.arc } = s) ∧
  (∀ (s : State) (pin ns : Nat),
    exec (.pulseIgnored pin ns) s = .next (s.archive 4 0x318 0 0 pin ns)) ∧
  (∀ (s : State) (p : Path) (a : BitVec 32) (d : BitVec 64) (i : Nat),
    s.writeReaches p a (.reg .ARC_CTL i) →
    exec (.registerWrite p a d 4) s = .next (if d.getLsbD 1 then extremesClear i (s.stored .ARC_CTL i d a) else (s.stored .ARC_CTL i d a))) ∧
  (∀ (s : State) (p : Path) (a : BitVec 32) (d : BitVec 64) (i : Nat),
    s.writeReaches p a (.reg .ARC_FRZ i) →
    exec (.registerWrite p a d 4) s = .next (if (d.getLsbD 14) && d.getLsbD 15 then s.discard (regSet s .ARC_FRZ i a.toNat) else if d.getLsbD 14 then arcFreeze i (s.stored .ARC_FRZ i d a) else if d.getLsbD 15 then arcUnfreeze i (s.stored .ARC_FRZ i d a) else (s.stored .ARC_FRZ i d a))) ∧
  (∀ (s : State) (p : Path) (a : BitVec 32) (d : BitVec 64) (i : Nat),
    s.writeReaches p a (.reg .ARC_REC i) →
    exec (.registerWrite p a d 4) s = .next (if d.getLsbD 25 then recordAreaRelease i (s.stored .ARC_REC i d a) else (s.stored .ARC_REC i d a))) ∧
  (∀ (s : State) (p : Path) (a : BitVec 32) (d : BitVec 64) (i : Nat),
    s.writeReaches p a (.reg .ARC_HIST i) →
    exec (.registerWrite p a d 4) s = .next (if (d.getLsbD 19) && decide (i < 4) then histAreaRelease i (s.stored .ARC_HIST i d a) else (s.stored .ARC_HIST i d a))) ∧
  (∀ (s : State) (p : Path) (u : Fin 5) (r : Region),
    s.mayWrite p = false →
    exec (.recordAreaRelease p u) s = .next (if s.windowGone (setUnit (arcSet u)) || s.unheard p then s else s.discard (arcSet u)) ∧
    exec (.extremesClear p u) s = .next (if s.windowGone (setUnit (arcSet u)) || s.unheard p then s else s.discard (arcSet u)) ∧
    exec (.histAreaRelease p r) s = .next (if s.windowGone (setUnit (arcSet r)) || s.unheard p then s else s.discard (arcSet r))) ∧
  (∀ (s : State) (p : Path) (u : Fin 5),
    s.mayWriteListed p (u.val == 4) = false →
    exec (.arcFreeze p u) s = .next (if s.windowGone (setUnit (arcSet u)) || s.unheard p then s else if p = .i3c then s else s.discard (arcSet u)) ∧
    exec (.arcUnfreeze p u) s = .next (if s.windowGone (setUnit (arcSet u)) || s.unheard p then s else if p = .i3c then s else s.discard (arcSet u)))

/-- WEAR_SAMPLE of thirteen readings adds 1, up to the 40 bits of a band, to one band of each die 0 to 12 and to no other, a region die's reading being corrected with the image's offset (the model's deduction, log entry 96); in tenths of a degree, band 0 takes below -150, band k from 1 to 14 takes 100k - 250 up to but not including 100k - 150, and band 15 takes 1250 and above; a band reads at retained offset 0x3000 + 128 die + 8 band with its seconds in bits 39 to 0 and zeros above. A write of a register of the group that reaches it stores the fields and does what the written bits start: the same as the command. Given by a path that may not write its register, a command does nothing and is counted as a discard, but for I3C, whose refusal is its reply; in the window of an isolated region, or through the manager port before ready, it does nothing. -/
def Obligations.WearLedger : Prop :=
  (∀ (s : State) (ts : List Int) (k : Nat),
    ∃ t, exec (.wearSample ts) s = .next t ∧ Tab.get 0 t.arc.wear k =
        (if k < 208 ∧ k / 16 < ts.length ∧ k % 16 = wearBand (s.calibrated (k / 16) (ts.getD (k / 16) 0)) then min (Tab.get 0 s.arc.wear k + 1) (2 ^ 40 - 1) else Tab.get 0 s.arc.wear k) ∧
      { t with arc := { t.arc with wear := s.arc.wear, ext := s.arc.ext }, sup := s.sup } = s) ∧
  (∀ (s : State) (die : Nat) (t : Int),
    (4 ≤ die ∨ s.boot.early = false → s.calibrated die t = t) ∧ (die < 4 → s.boot.early = true → s.calibrated die t = t - signedOf 16 (s.sect 10 (256 + 2 * die) 2))) ∧
  (∀ (t : Int) (k : Nat),
    (t < -150 → wearBand t = 0) ∧ (1250 ≤ t → wearBand t = 15) ∧ (1 ≤ k → k ≤ 14 → 100 * k - 250 ≤ t → t < 100 * k - 150 → wearBand t = k)) ∧
  (∀ (s : State) (die band : Nat),
    die < 13 →
    band < 16 →
    (s.retainedWord (0x3000 + 128 * die + 8 * band)).toNat = Tab.get 0 s.arc.wear (16 * die + band) % 2 ^ 32 ∧
    (s.retainedWord (0x3000 + 128 * die + 8 * band + 4)).toNat = Tab.get 0 s.arc.wear (16 * die + band) / 2 ^ 32 % 2 ^ 32) ∧
  (∀ (s : State) (p : Path) (a : BitVec 32) (d : BitVec 64) (i : Nat),
    s.writeReaches p a (.reg .ARC_WEAR_CMD i) →
    exec (.registerWrite p a d 4) s = .next ((fun t : State => if d.getLsbD 9 then wearSeal t else t) (if d.getLsbD 8 then wearLoad (s.stored .ARC_WEAR_CMD i d a) else (s.stored .ARC_WEAR_CMD i d a)))) ∧
  (∀ (s : State) (p : Path),
    s.mayWriteListed p true = false →
    exec (.wearLoad p) s = .next (if s.windowGone (setUnit setArc) || s.unheard p then s else if p = .i3c then s else s.discard setArc) ∧
    exec (.wearSeal p) s = .next (if s.windowGone (setUnit setArc) || s.unheard p then s else if p = .i3c then s else s.discard setArc))

/-- A read of a low word returns it and latches the upper half for that path alone, a region's counter that fails its parity reads 0, and OVF is set, and a read that is refused returns what its path is told; CLEAR sets one counter to 0; a capture holds every counter and the time, or is skipped and counted while one is being written; its writing gives SEQ plus 1 and puts number and time in every running region's slot. A write of a register of the group that reaches it stores the fields and does what the written bits start: the same as the command. Given by a path that may not write its register, a command is counted as a discard and does nothing else; in the window of an isolated region, or through the manager port before ready, it does nothing. -/
def Obligations.CountersAndSnapshots : Prop :=
  (∀ (s : State) (p q : Path) (n : Nat),
    n < 2816 →
    q ≠ p →
    s.unheard p = false →
    s.windowGone (setUnit (pmcSetOf n)) = false →
    s.mayRead p false = true →
    (∃ t, exec (.counterLoRead p ⟨n, false⟩) s = .next t ∧ t.out = .readData p ((Tab.get 0 s.arc.cnt n).setWidth 32) :: s.out ∧
      (t.lat.of p).pmcHi = BitVec.ofNat 32 ((Tab.get 0 s.arc.cnt n).toNat / 2 ^ 32) ∧ ((∀ a b, p ≠ .librarian a ∨ q ≠ .librarian b) → t.lat.of q = s.lat.of q) ∧ { t with lat := s.lat, out := s.out } = s) ∧
    ∃ t, exec (.counterLoRead p ⟨n, true⟩) s = .next t ∧ (n < 2688 → t.out.head? = some (.readData p 0) ∧ Tab.get 0 t.arc.cnt n = 0 ∧ (t.lat.of p).pmcHi = 0) ∧ t.flag PMC_CFG.OVF n = true ∧ t.stsBit (pmcSetOf n) 0) ∧
  (∀ (s : State) (p q : Path),
    q ≠ p →
    s.unheard p = false →
    s.mayRead p false = true →
    ∃ t, exec (.timeLoRead p) s = .next t ∧ t.out = .readData p (BitVec.ofNat 32 (s.timeOf 4)) :: s.out ∧ (t.lat.of p).timeHi = BitVec.ofNat 32 (s.timeOf 4 / 2 ^ 32) ∧
      ((∀ a b, p ≠ .librarian a ∨ q ≠ .librarian b) → t.lat.of q = s.lat.of q) ∧ { t with lat := s.lat, out := s.out } = s) ∧
  (∀ (s : State) (p q : Path) (n : Lane),
    q ≠ p →
    s.unheard p = false →
    s.windowGone (n / 130) = false →
    s.mayRead p false = true →
    ∃ t, exec (.patternCountRead p n) s = .next t ∧ t.out = .readData p ((Tab.get 0 s.prt.pat n).setWidth 32) :: s.out ∧
      (t.lat.of p).patHi = BitVec.ofNat 32 ((Tab.get 0 s.prt.pat n).toNat / 2 ^ 32) ∧ ((∀ a b, p ≠ .librarian a ∨ q ≠ .librarian b) → t.lat.of q = s.lat.of q) ∧ { t with lat := s.lat, out := s.out } = s) ∧
  (∀ (s : State) (p : Path) (n : Nat) (b : Bool) (l : Lane),
    (s.unheard p = true → (n < 2816 → exec (.counterLoRead p ⟨n, b⟩) s = .next (s.emit (.readRefused p))) ∧ exec (.timeLoRead p) s = .next (s.emit (.readRefused p)) ∧
      exec (.patternCountRead p l) s = .next (s.emit (.readRefused p))) ∧
    (s.unheard p = false → (n < 2816 → s.windowGone (setUnit (pmcSetOf n)) = true → exec (.counterLoRead p ⟨n, b⟩) s = .next (s.emit (.readData p 0xFFFFFFFF))) ∧
      (s.windowGone (l / 130) = true → exec (.patternCountRead p l) s = .next (s.emit (.readData p 0xFFFFFFFF)))) ∧
    (s.unheard p = false → s.mayRead p false = false → (n < 2816 → s.windowGone (setUnit (pmcSetOf n)) = false → exec (.counterLoRead p ⟨n, b⟩) s = .next (s.emit (.readData p (deniedRead p)))) ∧
      exec (.timeLoRead p) s = .next (s.emit (.readData p (deniedRead p))) ∧ (s.windowGone (l / 130) = false → exec (.patternCountRead p l) s = .next (s.emit (.readData p (deniedRead p))))) ∧
    (2816 ≤ n → exec (.counterLoRead p ⟨n, b⟩) s = .next s ∧ exec (.counterClear p n) s = .next s)) ∧
  (∀ (s : State) (p : Path) (n : Nat),
    n < 2816 →
    s.admits p (pmcSetOf n) →
    ∃ t, exec (.counterClear p n) s = .next t ∧ Tab.get 0 t.arc.cnt n = 0 ∧ (∀ k, k ≠ n → Tab.get 0 t.arc.cnt k = Tab.get 0 s.arc.cnt k) ∧ { t with arc := { t.arc with cnt := s.arc.cnt } } = s) ∧
  (∀ (s : State) (p : Path),
    s.admits p setPmc →
    (s.arc.snap.isSome = true → ∃ t, exec (.snapshotNow p) s = .next t ∧ t.arc.snap = s.arc.snap ∧ t.stsBit setPmc 1 ∧ t.get PMC_SNAP_MISS.MISSED 0 = (s.bump PMC_SNAP_MISS.MISSED 0 1).get PMC_SNAP_MISS.MISSED 0) ∧
    (s.flag PMC_SNAP_CTL.EN 0 = true → exec .snapshotCapture s = exec (.snapshotNow p) s) ∧ (s.flag PMC_SNAP_CTL.EN 0 = false → exec .snapshotCapture s = .next s) ∧
    (s.arc.snap = none → exec .snapshotWritten s = .next s)) ∧
  (∀ (s : State) (p : Path),
    s.admits p setPmc →
    s.arc.snap = none →
    (∃ t, exec (.snapshotNow p) s = .next t ∧ (t.arc.snap.map (fun n => (n.time, n.cnt))) = some (s.timeOf 4, s.arc.cnt) ∧ { t with arc := { t.arc with snap := none } } = s) ∧
    (s.flag PMC_SNAP_CTL.EN 0 = true → exec .snapshotCapture s = exec (.snapshotNow p) s ∧
      ∃ t, exec .snapshotCapture s = .next t ∧ (t.arc.snap.map (fun n => (n.time, n.cnt))) = some (s.timeOf 4, s.arc.cnt) ∧ { t with arc := { t.arc with snap := none } } = s)) ∧
  (∀ (s : State) (n : Snapshot) (q : Nat),
    s.arc.snap = some n →
    q = (s.get PMC_SNAP_STS.SEQ 0 + 1) % 2 ^ 32 →
    n.cnt.all (fun e => e.1 < 2816) = true →
    n.ovf = [] →
    ∃ t, exec .snapshotWritten s = .next t ∧ t.arc.snap = none ∧ t.get PMC_SNAP_STS.SEQ 0 = q ∧
      (∀ r : Region, s.rgn r ≠ 2 → t.hbmRead (2 * r.val + 1) (0x580000000 + 8192 * (q % 65536)) 4 = q ∧
        t.hbmRead (2 * r.val + 1) (0x580000000 + 8192 * (q % 65536) + 8) 8 = n.time % 2 ^ 64 ∧
        (∀ k, k < 672 → t.hbmRead (2 * r.val + 1) (0x580000000 + 8192 * (q % 65536) + 64 + 8 * k) 8 = (Tab.get 0 n.cnt (672 * r.val + k)).toNat)) ∧
      wordsKept s t [.PMC_SNAP_STS] ∧ { t with regs := s.regs, arc := s.arc, hbm := s.hbm } = s) ∧
  (∀ (s : State) (p : Path) (a : BitVec 32) (d : BitVec 64) (i : Nat),
    s.writeReaches p a (.reg .PMC_CFG i) →
    exec (.registerWrite p a d 4) s = .next (if d.getLsbD 19 then counterClear i (s.stored .PMC_CFG i d a) else (s.stored .PMC_CFG i d a))) ∧
  (∀ (s : State) (p : Path) (a : BitVec 32) (d : BitVec 64) (i : Nat),
    s.writeReaches p a (.reg .PMC_SNAP_CTL i) →
    exec (.registerWrite p a d 4) s = .next (if d.getLsbD 21 then capture (s.stored .PMC_SNAP_CTL i d a) else (s.stored .PMC_SNAP_CTL i d a))) ∧
  (∀ (s : State) (p : Path) (n : Nat),
    s.mayWrite p = false →
    exec (.snapshotNow p) s = .next (if s.windowGone (setUnit setPmc) || s.unheard p then s else s.discard setPmc)) ∧
  (∀ (s : State) (p : Path) (n : Nat),
    n < 2816 →
    s.mayWrite p = false →
    exec (.counterClear p n) s = .next (if s.windowGone (setUnit (pmcSetOf n)) || s.unheard p then s else s.discard (pmcSetOf n)))

/-- For every register and every field with code RWL whose lock is set, or is set by the same write: a write leaves the field unchanged, whatever is written. Where every RWL field is written the value that it holds, and no other field refuses its value, no discard is counted; where some RWL field is written another value, the write is counted once in the block's set. A REGISTER_WRITE that reaches such a register, and starts nothing, answers a next state: the access completes. -/
def Obligations.LockedFields : Prop :=
  (∀ (s : State) (r : Reg) (i x : Nat) (v : Word) (row : FieldRow),
    row ∈ r.rows →
    row.acc = .rwl →
    (s.lockedReg r i || locksItself r v) = true →
    bits ((s.storeFields r i v x).word r i) row.lo row.w = bits (s.word r i) row.lo row.w ∧
    (bits v row.lo row.w ≠ bits (s.word r i) row.lo row.w → (s.storeFields r i v x).ces = (s.discard x).ces)) ∧
  (∀ (s : State) (r : Reg) (i x : Nat) (v : Word),
    (s.lockedReg r i || locksItself r v) = true →
    r.rows.all (fun row => (row.acc != .rwl && row.acc != .rw) || bits v row.lo row.w == bits (s.word r i) row.lo row.w) = true →
    (s.storeFields r i v x).ces = s.ces) ∧
  (∀ (s : State) (p : Path) (a : BitVec 32) (d : BitVec 64) (r : Reg) (i : Nat),
    s.writeReaches p a (.reg r i) →
    s.lockedReg r i = true →
    r ∉ Reg.acting →
    exec (.registerWrite p a d 4) s = .next (s.stored r i d a))

/-- For every register and field: RW, and RWL unlocked, takes an accepted value and keeps its own otherwise, with a discard counted; RO, WO and RC keep theirs; W1C loses exactly the bits written 1; W1S and LK gain exactly the bits written 1; RSV takes what is written. No other register word and no other register instance changes, and nothing but the registers and the discard count. A write of 4 aligned bytes to a register that starts nothing does exactly that; a write of 8 aligned bytes is two of 4, the lower first; a write of another size or alignment, to nothing, or by a path that may not make it changes nothing and is counted; in the window of an isolated region, or by the manager port before ready, nothing changes. A read returns the word, and each RC field of the register then reads 0 while its other fields keep their value; a peak starts again from what it is the peak of; the computed views, the latches and the windows return what their rules say; a refused read returns what its path's rule says. -/
def Obligations.RegisterFields : Prop :=
  (∀ (s : State) (r : Reg) (i x : Nat) (v : Word) (row : FieldRow),
    row ∈ r.rows →
    (accOf r i row = .rw ∨ (accOf r i row = .rwl ∧ (s.lockedReg r i || locksItself r v) = false) → s.takes r i row (bits v row.lo row.w) v = true → bits ((s.storeFields r i v x).word r i) row.lo row.w = bits v row.lo row.w) ∧
    (accOf r i row = .rw ∨ (accOf r i row = .rwl ∧ (s.lockedReg r i || locksItself r v) = false) → s.takes r i row (bits v row.lo row.w) v = false → bits ((s.storeFields r i v x).word r i) row.lo row.w = bits (s.word r i) row.lo row.w ∧ (bits v row.lo row.w ≠ bits (s.word r i) row.lo row.w → (s.storeFields r i v x).ces = (s.discard x).ces)) ∧
    (accOf r i row ∈ [.ro, .wo, .rc] → bits ((s.storeFields r i v x).word r i) row.lo row.w = bits (s.word r i) row.lo row.w) ∧
    (accOf r i row = .w1c → bits ((s.storeFields r i v x).word r i) row.lo row.w = (bits (s.word r i) row.lo row.w) - ((bits (s.word r i) row.lo row.w) &&& (bits v row.lo row.w))) ∧
    (accOf r i row ∈ [.w1s, .lk] → bits ((s.storeFields r i v x).word r i) row.lo row.w = (bits (s.word r i) row.lo row.w) ||| (bits v row.lo row.w)) ∧
    (accOf r i row = .rsv → bits ((s.storeFields r i v x).word r i) row.lo row.w = bits v row.lo row.w)) ∧
  (∀ (s : State) (r : Reg) (i x : Nat) (v : Word),
    wordsAt s (s.storeFields r i v x) [(r, i % 2 ^ 24)] ∧ { (s.storeFields r i v x) with regs := s.regs, ces := s.ces } = s ∧ ((s.storeFields r i v x).ces = s.ces ∨ (s.storeFields r i v x).ces = (s.discard x).ces)) ∧
  (∀ (s : State) (p : Path) (a : BitVec 32) (d : BitVec 64) (r : Reg) (i : Nat),
    s.writeReaches p a (.reg r i) →
    r ∉ Reg.acting →
    s.noWindow r i = false →
    exec (.registerWrite p a d 4) s = .next (s.stored r i d a)) ∧
  (∀ (s : State) (p : Path) (a : BitVec 32) (d : BitVec 64) (r : Reg) (i : Nat),
    s.writeReaches p a (.reg r i) →
    s.noWindow r i = true →
    exec (.registerWrite p a d 4) s = .next (s.discard (regSet s r i a.toNat))) ∧
  (∀ (s : State) (p : Path) (a : BitVec 32) (d : BitVec 64),
    a.toNat % 8 = 0 →
    s.unheard p = false →
    (registerWrite p a (d.setWidth 32 |>.setWidth 64) 4 s).unheard p = false →
    exec (.registerWrite p a d 8) s = exec (.registerWrite p (a + 4) (d >>> 32) 4) (registerWrite p a (d.setWidth 32 |>.setWidth 64) 4 s) ∧
      exec (.registerWrite p a (d.setWidth 32 |>.setWidth 64) 4) s = .next (registerWrite p a (d.setWidth 32 |>.setWidth 64) 4 s)) ∧
  (∀ (s : State) (p : Path) (a : BitVec 32) (d : BitVec 64) (size : Nat),
    s.unheard p = false →
    ¬ (size = 4 ∧ a.toNat % 4 = 0) →
    ¬ (size = 8 ∧ a.toNat % 8 = 0) →
    exec (.registerWrite p a d size) s = .next (if s.addrGone (a.toNat / 4 * 4) then s else s.discard (s.setAt (a.toNat / 4 * 4)))) ∧
  (∀ (s : State) (p : Path) (a : BitVec 32) (d : BitVec 64) (size : Nat),
    s.unheard p = true →
    exec (.registerWrite p a d size) s = .next s ∧ exec (.registerReadClear p a) s = .next (s.emit (.readRefused p))) ∧
  (∀ (s : State) (p : Path) (a : BitVec 32) (d : BitVec 64),
    s.unheard p = false →
    s.addrGone a.toNat = true →
    a.toNat % 4 = 0 →
    exec (.registerWrite p a d 4) s = .next s ∧ exec (.registerReadClear p a) s = .next (s.emit (.readData p 0xFFFFFFFF))) ∧
  (∀ (s : State) (p : Path) (a : BitVec 32) (d : BitVec 64),
    a.toNat % 4 = 0 →
    s.addrGone a.toNat = false →
    s.debugLocked (target a.toNat) a.toNat = true →
    exec (.registerWrite .debug a d 4) s = .next ((dbgViolation s).discard (s.setAt a.toNat)) ∧ exec (.registerReadClear .debug a) s = .next ((dbgViolation s).emit (.readData .debug 0)) ∧
      (dbgViolation s).stsBit setSec 4) ∧
  (∀ (s : State) (p : Path) (a : BitVec 32) (d : BitVec 64),
    a.toNat % 4 = 0 →
    s.unheard p = false →
    s.addrGone a.toNat = false →
    p = .debug → s.debugLocked (target a.toNat) a.toNat = false →
    s.pathWrites p (target a.toNat) a.toNat = false →
    exec (.registerWrite p a d 4) s = .next (if p = .i3c ∧ s.mayRead .i3c (keeperHeld a.toNat) = false then s else s.discard (s.setAt a.toNat))) ∧
  (∀ (s : State) (p : Path) (a : BitVec 32),
    s.unheard p = false →
    s.addrGone (a.toNat / 4 * 4) = false →
    p = .debug → s.debugLocked (target (a.toNat / 4 * 4)) (a.toNat / 4 * 4) = false →
    s.pathReads p (a.toNat / 4 * 4) = false →
    exec (.registerReadClear p a) s = .next (s.emit (.readData p (if p = .i3c then 0xFFFFFFFF else 0)))) ∧
  (∀ (s : State) (p : Path) (a : BitVec 32) (d : BitVec 64) (k : Nat),
    s.writeReaches p a (.ces k 0) →
    exec (.registerWrite p a d 4) s = .next (s.setCes k { s.cesSet k with sts := (s.cesSet k).sts &&& ~~~ (d.setWidth 32) })) ∧
  (∀ (s : State) (p : Path) (a : BitVec 32) (d : BitVec 64) (k : Nat),
    s.writeReaches p a (.ces k 1) →
    exec (.registerWrite p a d 4) s = .next (cesMask k (d.setWidth 32) s)) ∧
  (∀ (s : State) (p : Path) (a : BitVec 32) (d : BitVec 64) (k : Nat),
    s.writeReaches p a (.ces k 2) →
    exec (.registerWrite p a d 4) s = .next (s.setCes k { s.cesSet k with route := (d.setWidth 32) })) ∧
  (∀ (s : State) (p : Path) (a : BitVec 32) (d : BitVec 64) (k : Nat),
    s.writeReaches p a (.ces k 3) →
    exec (.registerWrite p a d 4) s = .next (if d.getLsbD 31 then s.setCes k { s.cesSet k with first := 0, time := 0 } else s)) ∧
  (∀ (s : State) (p : Path) (a : BitVec 32) (d : BitVec 64) (k n : Nat),
    s.writeReaches p a (.ces k n) →
    4 ≤ n →
    exec (.registerWrite p a d 4) s = .next (if n < 6 ∨ (8 ≤ n ∧ n < 12) then s else s.discard setChip)) ∧
  (∀ (s : State) (p : Path) (a : BitVec 32) (d : BitVec 64) (t x : Nat),
    s.writeReaches p a (.prog t x) →
    exec (.registerWrite p a d 4) s = .next (if s.flag TIL_LOCK.LOCK (tillerUnit t) then (if Tab.get 0 s.lib.prog (2048 * t + x) = (d.setWidth 32) then s else s.discard (tilSet (tillerUnit t)))
      else { s with lib := { s.lib with prog := Tab.put 0 s.lib.prog (2048 * t + x) (d.setWidth 32) } })) ∧
  (∀ (s : State) (p : Path) (a : BitVec 32) (d : BitVec 64) (off : Nat),
    s.writeReaches p a (.payload off) →
    (s.mbxRings 64 = true → exec (.registerWrite p a d 4) s = .next (s.discard (libSet s.lead))) ∧
      (s.mbxRings 64 = false → ∃ t, exec (.registerWrite p a d 4) s = .next t ∧ (∀ k < 4, Tab.get 0 (t.mailbox 64).payload (off + k) = BitVec.ofNat 8 (bits (d.setWidth 32) (8 * k) 8)) ∧
        (∀ e, e ≠ 64 → t.mailbox e = s.mailbox e) ∧ { t with lib := s.lib } = s)) ∧
  (∀ (s : State) (p : Path) (a : BitVec 32) (d : BitVec 64) (off : Nat),
    s.writeReaches p a (.archive off) →
    exec (.registerWrite p a d 4) s = .next (s.discard setArc)) ∧
  (∀ (s : State) (p : Path) (a : BitVec 32) (d : BitVec 64) (off : Nat),
    s.writeReaches p a (.retained off) →
    exec (.registerWrite p a d 4) s = .next s) ∧
  (∀ (s : State) (p : Path) (a : BitVec 32) (d : BitVec 64) (k n : Nat) (hi : Bool),
    s.writeReaches p a (.counter k n hi) →
    exec (.registerWrite p a d 4) s = .next s) ∧
  (∀ (s : State) (p : Path) (a : BitVec 32) (d : BitVec 64),
    s.writeReaches p a .unmapped →
    exec (.registerWrite p a d 4) s = .next (s.discard setChip)) ∧
  (∀ (s : State) (p : Path) (a : BitVec 32) (d : BitVec 64),
    s.writeReaches p a (.reg .ARC_WIN_SEL 0) →
    exec (.registerWrite p a d 4) s = .next (s.latch p (fun l => { l with winSel := (d.setWidth 32) }))) ∧
  (∀ (s : State) (p : Path) (a : BitVec 32) (r : Reg) (i : Nat),
    s.readReaches p a (.reg r i) →
    r ∉ Reg.views →
    ∃ t, exec (.registerReadClear p a) s = .next t ∧ t.out = .readData p (s.word r i) :: s.out ∧
      (∀ row ∈ r.rows, bits (t.word r i) row.lo row.w = if row.acc = .rc then 0 else bits (s.word r i) row.lo row.w) ∧ wordsAt s t [(r, i % 2 ^ 24)] ∧
      { t with regs := s.regs, out := s.out } = s) ∧
  (∀ (s : State) (p : Path) (a : BitVec 32) (i : Nat),
    s.readReaches p a (.reg .SWC_VOQ_OCC i) →
    ∃ t, exec (.registerReadClear p a) s = .next t ∧ t.out = .readData p (s.word .SWC_VOQ_OCC i) :: s.out ∧ t.get SWC_VOQ_OCC.PEAK i = s.get SWC_VOQ_OCC.CELLS i ∧
      t.get SWC_VOQ_OCC.CELLS i = s.get SWC_VOQ_OCC.CELLS i ∧ wordsAt s t [(.SWC_VOQ_OCC, i % 2 ^ 24)] ∧ { t with regs := s.regs, out := s.out } = s) ∧
  (∀ (s : State) (p : Path) (a : BitVec 32) (i : Nat),
    s.readReaches p a (.reg .CAT_LD_OCC i) →
    ∃ t, exec (.registerReadClear p a) s = .next t ∧ t.out = .readData p (s.word .CAT_LD_OCC i) :: s.out ∧ t.get CAT_LD_OCC.PEAK i = s.get CAT_LD_OCC.CURRENT i ∧
      t.get CAT_LD_OCC.CURRENT i = s.get CAT_LD_OCC.CURRENT i ∧ wordsAt s t [(.CAT_LD_OCC, i % 2 ^ 24)] ∧ { t with regs := s.regs, out := s.out } = s) ∧
  (∀ (s : State) (p : Path) (a : BitVec 32) (i : Nat),
    s.readReaches p a (.reg .TFC_TIME_HI i) →
    exec (.registerReadClear p a) s = .next (s.emit (.readData p (s.lat.of p).timeHi))) ∧
  (∀ (s : State) (p : Path) (a : BitVec 32) (i : Nat),
    s.readReaches p a (.reg .PMC_CNT_HI i) →
    exec (.registerReadClear p a) s = .next (s.emit (.readData p (s.lat.of p).pmcHi))) ∧
  (∀ (s : State) (p : Path) (a : BitVec 32) (i : Nat),
    s.readReaches p a (.reg .PRT_PAT_CNT_HI i) →
    exec (.registerReadClear p a) s = .next (s.emit (.readData p (s.lat.of p).patHi))) ∧
  (∀ (s : State) (p : Path) (a : BitVec 32) (i : Nat),
    s.readReaches p a (.reg .SEC_NONCE_HI i) →
    exec (.registerReadClear p a) s = .next (s.emit (.readData p (s.lat.of p).nonceHi))) ∧
  (∀ (s : State) (p : Path) (a : BitVec 32) (i : Nat),
    s.readReaches p a (.reg .TFC_TIME_LO i) →
    exec (.registerReadClear p a) s = .next ((s.latch p (fun l => { l with timeHi := BitVec.ofNat 32 (s.timeOf 4 / 2 ^ 32) })).emit (.readData p (BitVec.ofNat 32 (s.timeOf 4))))) ∧
  (∀ (s : State) (p : Path) (a : BitVec 32) (i : Nat),
    s.readReaches p a (.reg .PMC_CNT_LO i) →
    exec (.registerReadClear p a) s = .next ((s.latch p (fun l => { l with pmcHi := BitVec.ofNat 32 (bits (Tab.get 0 s.arc.cnt i) 32 16) })).emit (.readData p ((Tab.get 0 s.arc.cnt i).setWidth 32)))) ∧
  (∀ (s : State) (p : Path) (a : BitVec 32) (i : Nat),
    s.readReaches p a (.reg .PRT_PAT_CNT_LO i) →
    exec (.registerReadClear p a) s = .next ((s.latch p (fun l => { l with patHi := BitVec.ofNat 32 (bits (Tab.get 0 s.prt.pat i) 32 16) })).emit (.readData p ((Tab.get 0 s.prt.pat i).setWidth 32)))) ∧
  (∀ (s : State) (p : Path) (a : BitVec 32) (i : Nat),
    s.readReaches p a (.reg .SEC_MEAS_D i) →
    exec (.registerReadClear p a) s = .next (s.emit (.readData p (BitVec.ofNat 32 (bits (s.measurement (s.get SEC_MEAS_IDX.INDEX 0)) (32 * i) 32))))) ∧
  (∀ (s : State) (p : Path) (a : BitVec 32) (i : Nat),
    s.readReaches p a (.reg .TFC_POL_STS i) →
    exec (.registerReadClear p a) s = .next (s.emit (.readData p (putBits (s.word .TFC_POL_STS i) 0 24 (min (s.policer i).tokens.toNat (2 ^ 24 - 1)))))) ∧
  (∀ (s : State) (p : Path) (a : BitVec 32) (i : Nat),
    s.readReaches p a (.reg .CHIP_CES_SUM i) →
    exec (.registerReadClear p a) s = .next (s.emit (.readData p (putBits (s.word .CHIP_CES_SUM i) 0 14 (s.cesSum i))))) ∧
  (∀ (s : State) (p : Path) (a : BitVec 32) (i : Nat),
    s.readReaches p a (.reg .ARC_WIN_SEL i) →
    exec (.registerReadClear p a) s = .next (s.emit (.readData p (s.lat.of p).winSel))) ∧
  (∀ (s : State) (p : Path) (a : BitVec 32) (i : Nat),
    s.readReaches p a (.reg .TFC_GATE_CUR i) →
    ∃ t, exec (.registerReadClear p a) s = .next t ∧ t.out = .readData p (putBits (s.word .TFC_GATE_CUR i) 0 6 (s.gateEntryAt i (s.timeOf (i / 16)))) :: s.out ∧
      (∀ row ∈ Reg.rows .TFC_GATE_CUR, row.acc = .rc → bits (t.word .TFC_GATE_CUR i) row.lo row.w = 0) ∧ wordsAt s t [(.TFC_GATE_CUR, i % 2 ^ 24)] ∧ { t with regs := s.regs, out := s.out } = s) ∧
  (∀ (s : State) (p : Path) (a : BitVec 32) (r : Reg) (i : Nat),
    s.readReaches p a (.reg r i) →
    s.noWindow r i = true →
    exec (.registerReadClear p a) s = .next (s.emit (.readData p 0))) ∧
  (∀ (s : State) (p : Path) (a : BitVec 32) (k n : Nat),
    s.readReaches p a (.ces k n) →
    exec (.registerReadClear p a) s = .next ((if n = 5 then s.setCes k { s.cesSet k with count := 0 } else s).emit (.readData p (if n = 0 then (s.cesSet k).sts
      else if n = 1 then (s.cesSet k).mask else if n = 2 then (s.cesSet k).route else if n = 3 then (s.cesSet k).first else if n = 4 then (s.cesSet k).time
      else if n = 5 then (s.cesSet k).count else if 8 ≤ n ∧ n < 12 then sevWord k (n - 8) else 0)))) ∧
  (∀ (s : State) (p : Path) (a : BitVec 32) (t x : Nat),
    s.readReaches p a (.prog t x) →
    exec (.registerReadClear p a) s = .next (s.emit (.readData p (Tab.get 0 s.lib.prog (2048 * t + x))))) ∧
  (∀ (s : State) (p : Path) (a : BitVec 32) (off : Nat),
    s.readReaches p a (.payload off) →
    exec (.registerReadClear p a) s = .next (s.emit (.readData p (BitVec.ofNat 32 ((s.payloadByte off).toNat + 2 ^ 8 * (s.payloadByte (off + 1)).toNat +
      2 ^ 16 * (s.payloadByte (off + 2)).toNat + 2 ^ 24 * (s.payloadByte (off + 3)).toNat))))) ∧
  (∀ (s : State) (p : Path) (a : BitVec 32) (off : Nat),
    s.readReaches p a (.archive off) →
    exec (.registerReadClear p a) s = .next (s.emit (.readData p (archiveWord s (s.lat.of p).winSel off)))) ∧
  (∀ (s : State) (p : Path) (a : BitVec 32) (off : Nat),
    s.readReaches p a (.retained off) →
    exec (.registerReadClear p a) s = .next (s.emit (.readData p (s.retainedWord off)))) ∧
  (∀ (s : State) (p : Path) (a : BitVec 32) (k n : Nat) (hi : Bool),
    s.readReaches p a (.counter k n hi) →
    exec (.registerReadClear p a) s = .next (s.emit (.readData p (BitVec.ofNat 32 (s.counterWord k n / 2 ^ (if hi then 32 else 0)))))) ∧
  (∀ (s : State) (p : Path) (a : BitVec 32),
    s.readReaches p a .unmapped →
    exec (.registerReadClear p a) s = .next (s.emit (.readData p 0)))
end

