-- ==== Sys2Proof/Laws/Tab.lean ====
section
/-! SUPPORT. What the table and bit-field operations do, said once. -/
namespace Sys2Proof.Machine

namespace Tab
variable {α : Type}

theorem find_insert_same (t : Tab α) (k : Nat) (v : α) : find (insert t k v) k = some v := by
  induction t with
  | nil => simp [insert, find]
  | cons e t ih =>
    obtain ⟨k', v'⟩ := e
    unfold insert
    split
    · simp [find]
    · split
      · simp [find]
      · simp only [find]; rw [if_neg ‹_›]; exact ih

theorem find_insert_ne (t : Tab α) (k j : Nat) (v : α) (h : j ≠ k) : find (insert t k v) j = find t j := by
  induction t with
  | nil => simp [insert, find, h]
  | cons e t ih =>
    obtain ⟨k', v'⟩ := e
    unfold insert
    split
    · simp [find, h]
    · split
      · rename_i h2; subst h2; simp [find, h]
      · simp only [find]; split
        · rfl
        · exact ih

theorem find_erase_same (t : Tab α) (k : Nat) : find (erase t k) k = none := by
  induction t with
  | nil => rfl
  | cons e t ih =>
    obtain ⟨k', v'⟩ := e
    simp only [erase, List.filter] at *
    split
    · rename_i h; simp only [find]; rw [if_neg]; exact ih
      intro hk; subst hk; simp at h
    · exact ih

theorem find_erase_ne (t : Tab α) (k j : Nat) (h : j ≠ k) : find (erase t k) j = find t j := by
  induction t with
  | nil => rfl
  | cons e t ih =>
    obtain ⟨k', v'⟩ := e
    simp only [erase, List.filter] at *
    split
    · simp only [find]; split
      · rfl
      · exact ih
    · rename_i h2
      have : k' = k := by simpa using h2
      subst this
      simp only [find]; rw [if_neg h]; exact ih

/-- A read after a write to the same key gives the value written. -/
@[simp] theorem get_put_same [DecidableEq α] (d : α) (t : Tab α) (k : Nat) (v : α) : get d (put d t k v) k = v := by
  unfold put get
  split
  · rename_i h; subst h; rw [find_erase_same]; rfl
  · rw [find_insert_same]; rfl

/-- A write leaves every other key alone. -/
theorem get_put_ne [DecidableEq α] (d d' : α) (t : Tab α) (k j : Nat) (v : α) (h : j ≠ k) :
    get d' (put d t k v) j = get d' t j := by
  unfold put get
  split
  · rw [find_erase_ne _ _ _ h]
  · rw [find_insert_ne _ _ _ _ h]

theorem sorted_cons (k : Nat) (v : α) (t : Tab α) :
    sorted ((k, v) :: t) = true ↔ (∀ e ∈ t, k < e.1) ∧ sorted t = true := by
  induction t generalizing k v with
  | nil => simp [sorted]
  | cons e t ih =>
    obtain ⟨k', v'⟩ := e
    simp only [sorted, Bool.and_eq_true, decide_eq_true_eq, List.mem_cons, forall_eq_or_imp]
    constructor
    · rintro ⟨h1, h2⟩
      refine ⟨⟨h1, ?_⟩, h2⟩
      intro e he
      exact lt_trans h1 (((ih k' v').1 h2).1 e he)
    · rintro ⟨⟨h1, _⟩, h2⟩; exact ⟨h1, h2⟩

theorem mem_insert (t : Tab α) (k : Nat) (v : α) (e : Nat × α) (h : e ∈ insert t k v) : e = (k, v) ∨ e ∈ t := by
  induction t with
  | nil => simpa [insert] using h
  | cons e' t ih =>
    obtain ⟨k', v'⟩ := e'
    unfold insert at h
    split at h
    · simpa using h
    · split at h
      · rcases List.mem_cons.1 h with h | h
        · exact .inl h
        · exact .inr (List.mem_cons_of_mem _ h)
      · rcases List.mem_cons.1 h with h | h
        · exact .inr (by simp [h])
        · rcases ih h with h | h
          · exact .inl h
          · exact .inr (List.mem_cons_of_mem _ h)

theorem sorted_insert (t : Tab α) (k : Nat) (v : α) (h : sorted t = true) : sorted (insert t k v) = true := by
  induction t with
  | nil => rfl
  | cons e t ih =>
    obtain ⟨k', v'⟩ := e
    have hc := (sorted_cons k' v' t).1 h
    unfold insert
    split
    · rename_i hk
      refine (sorted_cons _ _ _).2 ⟨?_, h⟩
      intro e he
      rcases List.mem_cons.1 he with he | he
      · subst he; exact hk
      · exact lt_trans hk (hc.1 e he)
    · split
      · rename_i hk; subst hk; exact (sorted_cons _ _ _).2 hc
      · rename_i h1 h2
        refine (sorted_cons _ _ _).2 ⟨?_, ih hc.2⟩
        intro e he
        rcases mem_insert t k v e he with he | he
        · subst he; show k' < k; omega
        · exact hc.1 e he

theorem sorted_filter (t : Tab α) (p : Nat × α → Bool) (h : sorted t = true) : sorted (t.filter p) = true := by
  induction t with
  | nil => rfl
  | cons e t ih =>
    obtain ⟨k', v'⟩ := e
    have hc := (sorted_cons k' v' t).1 h
    simp only [List.filter]
    split
    · refine (sorted_cons _ _ _).2 ⟨?_, ih hc.2⟩
      intro e he
      exact hc.1 e (List.mem_filter.1 he).1
    · exact ih hc.2

/-- A write keeps the canonical form. -/
theorem wf_put [DecidableEq α] (d : α) (t : Tab α) (k : Nat) (v : α) (h : wf d t = true) : wf d (put d t k v) = true := by
  simp only [wf, Bool.and_eq_true, List.all_eq_true, decide_eq_true_eq] at *
  unfold put
  split
  · exact ⟨sorted_filter _ _ h.1, fun e he => h.2 e (List.mem_filter.1 he).1⟩
  · rename_i hv
    refine ⟨sorted_insert _ _ _ h.1, fun e he => ?_⟩
    rcases mem_insert t k v e he with he | he
    · subst he; exact hv
    · exact h.2 e he

@[simp] theorem wf_nil [DecidableEq α] (d : α) : wf d ([] : Tab α) = true := rfl

end Tab

theorem bits_testBit {n : Nat} (x : BitVec n) (lo w i : Nat) :
    (bits x lo w).testBit i = (decide (i < w) && x.getLsbD (lo + i)) := by
  simp [bits, Nat.testBit_mod_two_pow, Nat.testBit_shiftRight, BitVec.getLsbD]

theorem putBits_getLsbD {n : Nat} (x : BitVec n) (lo w v i : Nat) (hi : i < n) :
    (putBits x lo w v).getLsbD i = if lo ≤ i ∧ i < lo + w then v.testBit (i - lo) else x.getLsbD i := by
  simp only [putBits, BitVec.getLsbD_or, BitVec.getLsbD_and, BitVec.getLsbD_not, BitVec.getLsbD_ofNat,
    Nat.testBit_shiftLeft, Nat.testBit_two_pow_sub_one, Nat.testBit_mod_two_pow, hi, decide_true, Bool.true_and]
  by_cases h1 : lo ≤ i
  · by_cases h2 : i < lo + w
    · have : i - lo < w := by omega
      simp [h1, h2, this]
    · have : ¬ (i - lo < w) := by omega
      simp [h1, h2, this]
  · have : ¬ (i ≥ lo) := h1
    simp [h1]

/-- Reading back the field just written. -/
theorem bits_putBits_same {n : Nat} (x : BitVec n) (lo w v : Nat) (h : lo + w ≤ n) :
    bits (putBits x lo w v) lo w = v % 2 ^ w := by
  apply Nat.eq_of_testBit_eq
  intro i
  rw [bits_testBit, Nat.testBit_mod_two_pow]
  by_cases hi : i < w
  · rw [putBits_getLsbD _ _ _ _ _ (by omega)]
    simp [hi]
  · simp [hi]

/-- Writing a field leaves every disjoint field alone. -/
theorem bits_putBits_ne {n : Nat} (x : BitVec n) (lo w v lo' w' : Nat) (h : lo + w ≤ lo' ∨ lo' + w' ≤ lo) :
    bits (putBits x lo w v) lo' w' = bits x lo' w' := by
  apply Nat.eq_of_testBit_eq
  intro i
  rw [bits_testBit, bits_testBit]
  by_cases hi : i < w'
  · by_cases hn : lo' + i < n
    · rw [putBits_getLsbD _ _ _ _ _ hn, if_neg (by omega)]
    · have h1 : ∀ y : BitVec n, y.getLsbD (lo' + i) = false := fun y => BitVec.getLsbD_of_ge y _ (by omega)
      rw [h1, h1]
  · simp [hi]

theorem bits_lt {n : Nat} (x : BitVec n) (lo w : Nat) : bits x lo w < 2 ^ w := Nat.mod_lt _ (Nat.two_pow_pos w)

end Sys2Proof.Machine
end

