-- ==== Sys2Proof/Laws/Memory.lean ====
section
/-! SUPPORT. The two byte memories (the stacks' HBM and the Keeper's retained SRAM): what every memory operation gives, and that each
keeps the canonical form. -/
namespace Sys2Proof.Machine

/-! One byte. -/

@[simp] theorem peek_poke_same (m : List Host.Cell) (a : Nat) (v : Byte) : peek (poke m a v) a = v := Tab.get_put_same 0 m a v

theorem peek_poke_ne (m : List Host.Cell) {a b : Nat} (v : Byte) (h : b ≠ a) : peek (poke m a v) b = peek m b :=
  Tab.get_put_ne 0 0 m a b v h

theorem wf_poke {m : List Host.Cell} (a : Nat) (v : Byte) (h : Memory.wf m) : Memory.wf (poke m a v) := Tab.wf_put 0 m a v h

/-! A number of n bytes. -/

theorem wf_pokeN {m : List Host.Cell} (a n v : Nat) (h : Memory.wf m) : Memory.wf (pokeN m a n v) := by
  induction n generalizing m a v with
  | zero => exact h
  | succ n ih => exact ih _ _ (wf_poke a _ h)

/-- Bytes outside the written ones are as before. -/
theorem peek_pokeN_out (m : List Host.Cell) (a n v b : Nat) (h : b < a ∨ a + n ≤ b) : peek (pokeN m a n v) b = peek m b := by
  induction n generalizing m a v with
  | zero => rfl
  | succ n ih =>
    rw [pokeN, ih _ _ _ (by omega), peek_poke_ne _ _ (by omega)]

/-- A number read where it was just written. -/
theorem peekN_pokeN (m : List Host.Cell) (a n v : Nat) : peekN (pokeN m a n v) a n = v % 256 ^ n := by
  induction n generalizing m a v with
  | zero => simp [peekN, Nat.mod_one]
  | succ n ih =>
    rw [peekN, pokeN, ih, peek_pokeN_out _ _ _ _ _ (.inl (Nat.lt_succ_self a)), peek_poke_same, Nat.pow_succ', Nat.mod_mul]
    simp

/-! A list of bytes. -/

theorem wf_pokes {m : List Host.Cell} (a : Nat) (bs : List Byte) (h : Memory.wf m) : Memory.wf (pokes m a bs) := by
  induction bs generalizing m a with
  | nil => exact h
  | cons b bs ih => exact ih _ (wf_poke a b h)

theorem peek_pokes_out (m : List Host.Cell) (a : Nat) (bs : List Byte) (b : Nat) (h : b < a ∨ a + bs.length ≤ b) :
    peek (pokes m a bs) b = peek m b := by
  induction bs generalizing m a with
  | nil => rfl
  | cons c bs ih =>
    rw [List.length_cons] at h
    rw [pokes, ih _ _ (by omega), peek_poke_ne _ _ (by omega)]

/-! An area wiped. -/

/-- A list of bytes read back from where it was written, with n bytes after it. -/
theorem peeks_pokes (m : List Host.Cell) (a : Nat) (bs : List Byte) (n : Nat) :
    peeks (pokes m a bs) a (bs.length + n) = bs ++ peeks (pokes m a bs) (a + bs.length) n := by
  induction bs generalizing m a with
  | nil => simp [pokes]
  | cons b bs ih =>
    have h : (b :: bs).length + n = bs.length + n + 1 := by simp; omega
    rw [h, peeks, pokes, ih, peek_pokes_out _ _ _ _ (.inl (Nat.lt_succ_self a)), peek_poke_same, List.length_cons, List.cons_append]
    congr 3
    omega

theorem wf_wipeRange {m : List Host.Cell} (lo hi : Nat) (h : Memory.wf m) : Memory.wf (wipeRange m lo hi) := by
  simp only [Memory.wf, Tab.wf, Bool.and_eq_true, List.all_eq_true] at *
  exact ⟨Tab.sorted_filter _ _ h.1, fun e he => h.2 e (List.mem_filter.1 he).1⟩

/-! The operations of State over them, and reset. -/

theorem wf_foldl {β : Type} (l : List β) (f : List Host.Cell → β → List Host.Cell) {m : List Host.Cell} (h : Memory.wf m)
    (hf : ∀ m b, Memory.wf m → Memory.wf (f m b)) : Memory.wf (l.foldl f m) := by
  induction l generalizing m with
  | nil => exact h
  | cons b l ih => exact ih (hf _ _ h)

/-- Counting an event leaves the stacks' bytes alone. -/
@[simp] theorem addCounter_hbm (f : Nat) (s : State) (n k : Nat) : (State.addCounter f s n k).hbm = s.hbm := by
  induction f generalizing s n k with
  | zero => unfold State.addCounter; simp only; split <;> [rfl; split <;> rfl]
  | succ f ih =>
    unfold State.addCounter
    simp only
    split
    · rfl
    · split
      · rw [ih]
      · rfl

@[simp] theorem count_hbm (s : State) (r e q k : Nat) : (s.count r e q k).hbm = s.hbm := by
  unfold State.count
  split
  · rfl
  · refine List.foldlRecOn (motive := fun t : State => t.hbm = s.hbm) _ _ rfl fun t h n _ => ?_
    rw [addCounter_hbm, h]

theorem wf_hbmWrite (s : State) (st a n v : Nat) (h : Memory.wf s.hbm) : Memory.wf (s.hbmWrite st a n v).hbm := wf_pokeN _ _ _ h
theorem wf_retWrite (s : State) (a n v : Nat) (h : Memory.wf s.ret) : Memory.wf (s.retWrite a n v).ret := wf_pokeN _ _ _ h
theorem wf_putHbmLine (s : State) (k : Nat) (d : LineData) (h : Memory.wf s.hbm) : Memory.wf (s.putHbmLine k d).hbm := by
  unfold State.putHbmLine State.columns; rw [count_hbm]; exact wf_pokeN _ _ _ h
theorem wf_writeHbm (s : State) (k : Nat) (bs : List Byte) (h : Memory.wf s.hbm) : Memory.wf (s.writeHbm k bs).hbm := by
  unfold State.writeHbm State.columns; rw [count_hbm]; exact wf_pokes _ _ h
theorem wf_setCtx (s : State) (q : Nat) (c : BitVec 512) (h : Memory.wf s.hbm) : Memory.wf (s.setCtx q c).hbm := wf_pokeN _ _ _ h
theorem wf_noticeStore (s : State) (q : Nat) (c : BitVec 512) (i : Nat) (d : List Byte) (h : Memory.wf s.hbm) :
    Memory.wf (s.noticeStore q c i d).hbm := wf_foldl _ _ (wf_writeHbm _ _ _ h) (fun _ _ g => wf_poke _ _ g)
theorem wf_putBacking (s : State) (r i : Nat) (ways : List Entry) (h : Memory.wf s.hbm) : Memory.wf (s.putBacking r i ways).hbm :=
  wf_foldl _ _ h (fun _ _ g => wf_pokeN _ _ _ g)

theorem reset_memory : Memory.wf State.reset.hbm ∧ Memory.wf State.reset.ret := by decide +kernel

end Sys2Proof.Machine
end

