-- ==== Sys2Proof/Laws/State.lean ====
section
/-! SUPPORT. What each update of the state leaves alone: one lemma for each update and field. -/
namespace Sys2Proof.Machine
variable (s : State)

@[simp] theorem State.setWord_pending (r : Reg) (i : Nat) (v : Word) : (s.setWord r i v).pending = s.pending := rfl
@[simp] theorem State.setWord_ces (r : Reg) (i : Nat) (v : Word) : (s.setWord r i v).ces = s.ces := rfl
@[simp] theorem State.setWord_out (r : Reg) (i : Nat) (v : Word) : (s.setWord r i v).out = s.out := rfl
@[simp] theorem State.setWord_free (r : Reg) (i : Nat) (v : Word) : (s.setWord r i v).free = s.free := rfl
@[simp] theorem State.setWord_fatal (r : Reg) (i : Nat) (v : Word) : (s.setWord r i v).fatal = s.fatal := rfl
@[simp] theorem State.setWord_time (r : Reg) (i : Nat) (v : Word) : (s.setWord r i v).time = s.time := rfl
@[simp] theorem State.setWord_hbm (r : Reg) (i : Nat) (v : Word) : (s.setWord r i v).hbm = s.hbm := rfl
@[simp] theorem State.setWord_ret (r : Reg) (i : Nat) (v : Word) : (s.setWord r i v).ret = s.ret := rfl
@[simp] theorem State.setWord_lat (r : Reg) (i : Nat) (v : Word) : (s.setWord r i v).lat = s.lat := rfl
@[simp] theorem State.setWord_boot (r : Reg) (i : Nat) (v : Word) : (s.setWord r i v).boot = s.boot := rfl
@[simp] theorem State.setWord_sup (r : Reg) (i : Nat) (v : Word) : (s.setWord r i v).sup = s.sup := rfl
@[simp] theorem State.setWord_flt (r : Reg) (i : Nat) (v : Word) : (s.setWord r i v).flt = s.flt := rfl
@[simp] theorem State.setWord_i3c (r : Reg) (i : Nat) (v : Word) : (s.setWord r i v).i3c = s.i3c := rfl
@[simp] theorem State.setWord_spw (r : Reg) (i : Nat) (v : Word) : (s.setWord r i v).spw = s.spw := rfl
@[simp] theorem State.setWord_arc (r : Reg) (i : Nat) (v : Word) : (s.setWord r i v).arc = s.arc := rfl
@[simp] theorem State.setWord_bnd (r : Reg) (i : Nat) (v : Word) : (s.setWord r i v).bnd = s.bnd := rfl
@[simp] theorem State.setWord_cat (r : Reg) (i : Nat) (v : Word) : (s.setWord r i v).cat = s.cat := rfl
@[simp] theorem State.setWord_grn (r : Reg) (i : Nat) (v : Word) : (s.setWord r i v).grn = s.grn := rfl
@[simp] theorem State.setWord_swc (r : Reg) (i : Nat) (v : Word) : (s.setWord r i v).swc = s.swc := rfl
@[simp] theorem State.setWord_tfc (r : Reg) (i : Nat) (v : Word) : (s.setWord r i v).tfc = s.tfc := rfl
@[simp] theorem State.setWord_prt (r : Reg) (i : Nat) (v : Word) : (s.setWord r i v).prt = s.prt := rfl
@[simp] theorem State.setWord_ll (r : Reg) (i : Nat) (v : Word) : (s.setWord r i v).ll = s.ll := rfl
@[simp] theorem State.setWord_qmg (r : Reg) (i : Nat) (v : Word) : (s.setWord r i v).qmg = s.qmg := rfl
@[simp] theorem State.setWord_dmv (r : Reg) (i : Nat) (v : Word) : (s.setWord r i v).dmv = s.dmv := rfl
@[simp] theorem State.setWord_lib (r : Reg) (i : Nat) (v : Word) : (s.setWord r i v).lib = s.lib := rfl

@[simp] theorem State.set_pending (f : Fld) (i v : Nat) : (s.set f i v).pending = s.pending := rfl
@[simp] theorem State.set_ces (f : Fld) (i v : Nat) : (s.set f i v).ces = s.ces := rfl
@[simp] theorem State.set_out (f : Fld) (i v : Nat) : (s.set f i v).out = s.out := rfl
@[simp] theorem State.set_free (f : Fld) (i v : Nat) : (s.set f i v).free = s.free := rfl
@[simp] theorem State.set_fatal (f : Fld) (i v : Nat) : (s.set f i v).fatal = s.fatal := rfl
@[simp] theorem State.set_time (f : Fld) (i v : Nat) : (s.set f i v).time = s.time := rfl
@[simp] theorem State.set_hbm (f : Fld) (i v : Nat) : (s.set f i v).hbm = s.hbm := rfl
@[simp] theorem State.set_ret (f : Fld) (i v : Nat) : (s.set f i v).ret = s.ret := rfl
@[simp] theorem State.set_lat (f : Fld) (i v : Nat) : (s.set f i v).lat = s.lat := rfl
@[simp] theorem State.set_boot (f : Fld) (i v : Nat) : (s.set f i v).boot = s.boot := rfl
@[simp] theorem State.set_sup (f : Fld) (i v : Nat) : (s.set f i v).sup = s.sup := rfl
@[simp] theorem State.set_flt (f : Fld) (i v : Nat) : (s.set f i v).flt = s.flt := rfl
@[simp] theorem State.set_i3c (f : Fld) (i v : Nat) : (s.set f i v).i3c = s.i3c := rfl
@[simp] theorem State.set_spw (f : Fld) (i v : Nat) : (s.set f i v).spw = s.spw := rfl
@[simp] theorem State.set_arc (f : Fld) (i v : Nat) : (s.set f i v).arc = s.arc := rfl
@[simp] theorem State.set_bnd (f : Fld) (i v : Nat) : (s.set f i v).bnd = s.bnd := rfl
@[simp] theorem State.set_cat (f : Fld) (i v : Nat) : (s.set f i v).cat = s.cat := rfl
@[simp] theorem State.set_grn (f : Fld) (i v : Nat) : (s.set f i v).grn = s.grn := rfl
@[simp] theorem State.set_swc (f : Fld) (i v : Nat) : (s.set f i v).swc = s.swc := rfl
@[simp] theorem State.set_tfc (f : Fld) (i v : Nat) : (s.set f i v).tfc = s.tfc := rfl
@[simp] theorem State.set_prt (f : Fld) (i v : Nat) : (s.set f i v).prt = s.prt := rfl
@[simp] theorem State.set_ll (f : Fld) (i v : Nat) : (s.set f i v).ll = s.ll := rfl
@[simp] theorem State.set_qmg (f : Fld) (i v : Nat) : (s.set f i v).qmg = s.qmg := rfl
@[simp] theorem State.set_dmv (f : Fld) (i v : Nat) : (s.set f i v).dmv = s.dmv := rfl
@[simp] theorem State.set_lib (f : Fld) (i v : Nat) : (s.set f i v).lib = s.lib := rfl

@[simp] theorem State.bump_pending (f : Fld) (i n : Nat) : (s.bump f i n).pending = s.pending := rfl
@[simp] theorem State.bump_ces (f : Fld) (i n : Nat) : (s.bump f i n).ces = s.ces := rfl
@[simp] theorem State.bump_out (f : Fld) (i n : Nat) : (s.bump f i n).out = s.out := rfl
@[simp] theorem State.bump_free (f : Fld) (i n : Nat) : (s.bump f i n).free = s.free := rfl
@[simp] theorem State.bump_fatal (f : Fld) (i n : Nat) : (s.bump f i n).fatal = s.fatal := rfl
@[simp] theorem State.bump_time (f : Fld) (i n : Nat) : (s.bump f i n).time = s.time := rfl
@[simp] theorem State.bump_hbm (f : Fld) (i n : Nat) : (s.bump f i n).hbm = s.hbm := rfl
@[simp] theorem State.bump_ret (f : Fld) (i n : Nat) : (s.bump f i n).ret = s.ret := rfl
@[simp] theorem State.bump_lat (f : Fld) (i n : Nat) : (s.bump f i n).lat = s.lat := rfl
@[simp] theorem State.bump_boot (f : Fld) (i n : Nat) : (s.bump f i n).boot = s.boot := rfl
@[simp] theorem State.bump_sup (f : Fld) (i n : Nat) : (s.bump f i n).sup = s.sup := rfl
@[simp] theorem State.bump_flt (f : Fld) (i n : Nat) : (s.bump f i n).flt = s.flt := rfl
@[simp] theorem State.bump_i3c (f : Fld) (i n : Nat) : (s.bump f i n).i3c = s.i3c := rfl
@[simp] theorem State.bump_spw (f : Fld) (i n : Nat) : (s.bump f i n).spw = s.spw := rfl
@[simp] theorem State.bump_arc (f : Fld) (i n : Nat) : (s.bump f i n).arc = s.arc := rfl
@[simp] theorem State.bump_bnd (f : Fld) (i n : Nat) : (s.bump f i n).bnd = s.bnd := rfl
@[simp] theorem State.bump_cat (f : Fld) (i n : Nat) : (s.bump f i n).cat = s.cat := rfl
@[simp] theorem State.bump_grn (f : Fld) (i n : Nat) : (s.bump f i n).grn = s.grn := rfl
@[simp] theorem State.bump_swc (f : Fld) (i n : Nat) : (s.bump f i n).swc = s.swc := rfl
@[simp] theorem State.bump_tfc (f : Fld) (i n : Nat) : (s.bump f i n).tfc = s.tfc := rfl
@[simp] theorem State.bump_prt (f : Fld) (i n : Nat) : (s.bump f i n).prt = s.prt := rfl
@[simp] theorem State.bump_ll (f : Fld) (i n : Nat) : (s.bump f i n).ll = s.ll := rfl
@[simp] theorem State.bump_qmg (f : Fld) (i n : Nat) : (s.bump f i n).qmg = s.qmg := rfl
@[simp] theorem State.bump_dmv (f : Fld) (i n : Nat) : (s.bump f i n).dmv = s.dmv := rfl
@[simp] theorem State.bump_lib (f : Fld) (i n : Nat) : (s.bump f i n).lib = s.lib := rfl

@[simp] theorem State.raise_pending (f : Fld) (i v : Nat) : (s.raise f i v).pending = s.pending := rfl
@[simp] theorem State.raise_ces (f : Fld) (i v : Nat) : (s.raise f i v).ces = s.ces := rfl
@[simp] theorem State.raise_out (f : Fld) (i v : Nat) : (s.raise f i v).out = s.out := rfl
@[simp] theorem State.raise_free (f : Fld) (i v : Nat) : (s.raise f i v).free = s.free := rfl
@[simp] theorem State.raise_fatal (f : Fld) (i v : Nat) : (s.raise f i v).fatal = s.fatal := rfl
@[simp] theorem State.raise_time (f : Fld) (i v : Nat) : (s.raise f i v).time = s.time := rfl
@[simp] theorem State.raise_hbm (f : Fld) (i v : Nat) : (s.raise f i v).hbm = s.hbm := rfl
@[simp] theorem State.raise_ret (f : Fld) (i v : Nat) : (s.raise f i v).ret = s.ret := rfl
@[simp] theorem State.raise_lat (f : Fld) (i v : Nat) : (s.raise f i v).lat = s.lat := rfl
@[simp] theorem State.raise_boot (f : Fld) (i v : Nat) : (s.raise f i v).boot = s.boot := rfl
@[simp] theorem State.raise_sup (f : Fld) (i v : Nat) : (s.raise f i v).sup = s.sup := rfl
@[simp] theorem State.raise_flt (f : Fld) (i v : Nat) : (s.raise f i v).flt = s.flt := rfl
@[simp] theorem State.raise_i3c (f : Fld) (i v : Nat) : (s.raise f i v).i3c = s.i3c := rfl
@[simp] theorem State.raise_spw (f : Fld) (i v : Nat) : (s.raise f i v).spw = s.spw := rfl
@[simp] theorem State.raise_arc (f : Fld) (i v : Nat) : (s.raise f i v).arc = s.arc := rfl
@[simp] theorem State.raise_bnd (f : Fld) (i v : Nat) : (s.raise f i v).bnd = s.bnd := rfl
@[simp] theorem State.raise_cat (f : Fld) (i v : Nat) : (s.raise f i v).cat = s.cat := rfl
@[simp] theorem State.raise_grn (f : Fld) (i v : Nat) : (s.raise f i v).grn = s.grn := rfl
@[simp] theorem State.raise_swc (f : Fld) (i v : Nat) : (s.raise f i v).swc = s.swc := rfl
@[simp] theorem State.raise_tfc (f : Fld) (i v : Nat) : (s.raise f i v).tfc = s.tfc := rfl
@[simp] theorem State.raise_prt (f : Fld) (i v : Nat) : (s.raise f i v).prt = s.prt := rfl
@[simp] theorem State.raise_ll (f : Fld) (i v : Nat) : (s.raise f i v).ll = s.ll := rfl
@[simp] theorem State.raise_qmg (f : Fld) (i v : Nat) : (s.raise f i v).qmg = s.qmg := rfl
@[simp] theorem State.raise_dmv (f : Fld) (i v : Nat) : (s.raise f i v).dmv = s.dmv := rfl
@[simp] theorem State.raise_lib (f : Fld) (i v : Nat) : (s.raise f i v).lib = s.lib := rfl

@[simp] theorem State.setBits_pending (f : Fld) (i m : Nat) : (s.setBits f i m).pending = s.pending := rfl
@[simp] theorem State.setBits_ces (f : Fld) (i m : Nat) : (s.setBits f i m).ces = s.ces := rfl
@[simp] theorem State.setBits_out (f : Fld) (i m : Nat) : (s.setBits f i m).out = s.out := rfl
@[simp] theorem State.setBits_free (f : Fld) (i m : Nat) : (s.setBits f i m).free = s.free := rfl
@[simp] theorem State.setBits_fatal (f : Fld) (i m : Nat) : (s.setBits f i m).fatal = s.fatal := rfl
@[simp] theorem State.setBits_time (f : Fld) (i m : Nat) : (s.setBits f i m).time = s.time := rfl
@[simp] theorem State.setBits_hbm (f : Fld) (i m : Nat) : (s.setBits f i m).hbm = s.hbm := rfl
@[simp] theorem State.setBits_ret (f : Fld) (i m : Nat) : (s.setBits f i m).ret = s.ret := rfl
@[simp] theorem State.setBits_lat (f : Fld) (i m : Nat) : (s.setBits f i m).lat = s.lat := rfl
@[simp] theorem State.setBits_boot (f : Fld) (i m : Nat) : (s.setBits f i m).boot = s.boot := rfl
@[simp] theorem State.setBits_sup (f : Fld) (i m : Nat) : (s.setBits f i m).sup = s.sup := rfl
@[simp] theorem State.setBits_flt (f : Fld) (i m : Nat) : (s.setBits f i m).flt = s.flt := rfl
@[simp] theorem State.setBits_i3c (f : Fld) (i m : Nat) : (s.setBits f i m).i3c = s.i3c := rfl
@[simp] theorem State.setBits_spw (f : Fld) (i m : Nat) : (s.setBits f i m).spw = s.spw := rfl
@[simp] theorem State.setBits_arc (f : Fld) (i m : Nat) : (s.setBits f i m).arc = s.arc := rfl
@[simp] theorem State.setBits_bnd (f : Fld) (i m : Nat) : (s.setBits f i m).bnd = s.bnd := rfl
@[simp] theorem State.setBits_cat (f : Fld) (i m : Nat) : (s.setBits f i m).cat = s.cat := rfl
@[simp] theorem State.setBits_grn (f : Fld) (i m : Nat) : (s.setBits f i m).grn = s.grn := rfl
@[simp] theorem State.setBits_swc (f : Fld) (i m : Nat) : (s.setBits f i m).swc = s.swc := rfl
@[simp] theorem State.setBits_tfc (f : Fld) (i m : Nat) : (s.setBits f i m).tfc = s.tfc := rfl
@[simp] theorem State.setBits_prt (f : Fld) (i m : Nat) : (s.setBits f i m).prt = s.prt := rfl
@[simp] theorem State.setBits_ll (f : Fld) (i m : Nat) : (s.setBits f i m).ll = s.ll := rfl
@[simp] theorem State.setBits_qmg (f : Fld) (i m : Nat) : (s.setBits f i m).qmg = s.qmg := rfl
@[simp] theorem State.setBits_dmv (f : Fld) (i m : Nat) : (s.setBits f i m).dmv = s.dmv := rfl
@[simp] theorem State.setBits_lib (f : Fld) (i m : Nat) : (s.setBits f i m).lib = s.lib := rfl

@[simp] theorem State.clearBits_pending (f : Fld) (i m : Nat) : (s.clearBits f i m).pending = s.pending := rfl
@[simp] theorem State.clearBits_ces (f : Fld) (i m : Nat) : (s.clearBits f i m).ces = s.ces := rfl
@[simp] theorem State.clearBits_out (f : Fld) (i m : Nat) : (s.clearBits f i m).out = s.out := rfl
@[simp] theorem State.clearBits_free (f : Fld) (i m : Nat) : (s.clearBits f i m).free = s.free := rfl
@[simp] theorem State.clearBits_fatal (f : Fld) (i m : Nat) : (s.clearBits f i m).fatal = s.fatal := rfl
@[simp] theorem State.clearBits_time (f : Fld) (i m : Nat) : (s.clearBits f i m).time = s.time := rfl
@[simp] theorem State.clearBits_hbm (f : Fld) (i m : Nat) : (s.clearBits f i m).hbm = s.hbm := rfl
@[simp] theorem State.clearBits_ret (f : Fld) (i m : Nat) : (s.clearBits f i m).ret = s.ret := rfl
@[simp] theorem State.clearBits_lat (f : Fld) (i m : Nat) : (s.clearBits f i m).lat = s.lat := rfl
@[simp] theorem State.clearBits_boot (f : Fld) (i m : Nat) : (s.clearBits f i m).boot = s.boot := rfl
@[simp] theorem State.clearBits_sup (f : Fld) (i m : Nat) : (s.clearBits f i m).sup = s.sup := rfl
@[simp] theorem State.clearBits_flt (f : Fld) (i m : Nat) : (s.clearBits f i m).flt = s.flt := rfl
@[simp] theorem State.clearBits_i3c (f : Fld) (i m : Nat) : (s.clearBits f i m).i3c = s.i3c := rfl
@[simp] theorem State.clearBits_spw (f : Fld) (i m : Nat) : (s.clearBits f i m).spw = s.spw := rfl
@[simp] theorem State.clearBits_arc (f : Fld) (i m : Nat) : (s.clearBits f i m).arc = s.arc := rfl
@[simp] theorem State.clearBits_bnd (f : Fld) (i m : Nat) : (s.clearBits f i m).bnd = s.bnd := rfl
@[simp] theorem State.clearBits_cat (f : Fld) (i m : Nat) : (s.clearBits f i m).cat = s.cat := rfl
@[simp] theorem State.clearBits_grn (f : Fld) (i m : Nat) : (s.clearBits f i m).grn = s.grn := rfl
@[simp] theorem State.clearBits_swc (f : Fld) (i m : Nat) : (s.clearBits f i m).swc = s.swc := rfl
@[simp] theorem State.clearBits_tfc (f : Fld) (i m : Nat) : (s.clearBits f i m).tfc = s.tfc := rfl
@[simp] theorem State.clearBits_prt (f : Fld) (i m : Nat) : (s.clearBits f i m).prt = s.prt := rfl
@[simp] theorem State.clearBits_ll (f : Fld) (i m : Nat) : (s.clearBits f i m).ll = s.ll := rfl
@[simp] theorem State.clearBits_qmg (f : Fld) (i m : Nat) : (s.clearBits f i m).qmg = s.qmg := rfl
@[simp] theorem State.clearBits_dmv (f : Fld) (i m : Nat) : (s.clearBits f i m).dmv = s.dmv := rfl
@[simp] theorem State.clearBits_lib (f : Fld) (i m : Nat) : (s.clearBits f i m).lib = s.lib := rfl

@[simp] theorem State.setRgn_pending (r v : Nat) : (s.setRgn r v).pending = s.pending := rfl
@[simp] theorem State.setRgn_ces (r v : Nat) : (s.setRgn r v).ces = s.ces := rfl
@[simp] theorem State.setRgn_out (r v : Nat) : (s.setRgn r v).out = s.out := rfl
@[simp] theorem State.setRgn_free (r v : Nat) : (s.setRgn r v).free = s.free := rfl
@[simp] theorem State.setRgn_fatal (r v : Nat) : (s.setRgn r v).fatal = s.fatal := rfl
@[simp] theorem State.setRgn_time (r v : Nat) : (s.setRgn r v).time = s.time := rfl
@[simp] theorem State.setRgn_hbm (r v : Nat) : (s.setRgn r v).hbm = s.hbm := rfl
@[simp] theorem State.setRgn_ret (r v : Nat) : (s.setRgn r v).ret = s.ret := rfl
@[simp] theorem State.setRgn_lat (r v : Nat) : (s.setRgn r v).lat = s.lat := rfl
@[simp] theorem State.setRgn_boot (r v : Nat) : (s.setRgn r v).boot = s.boot := rfl
@[simp] theorem State.setRgn_sup (r v : Nat) : (s.setRgn r v).sup = s.sup := rfl
@[simp] theorem State.setRgn_flt (r v : Nat) : (s.setRgn r v).flt = s.flt := rfl
@[simp] theorem State.setRgn_i3c (r v : Nat) : (s.setRgn r v).i3c = s.i3c := rfl
@[simp] theorem State.setRgn_spw (r v : Nat) : (s.setRgn r v).spw = s.spw := rfl
@[simp] theorem State.setRgn_arc (r v : Nat) : (s.setRgn r v).arc = s.arc := rfl
@[simp] theorem State.setRgn_bnd (r v : Nat) : (s.setRgn r v).bnd = s.bnd := rfl
@[simp] theorem State.setRgn_cat (r v : Nat) : (s.setRgn r v).cat = s.cat := rfl
@[simp] theorem State.setRgn_grn (r v : Nat) : (s.setRgn r v).grn = s.grn := rfl
@[simp] theorem State.setRgn_swc (r v : Nat) : (s.setRgn r v).swc = s.swc := rfl
@[simp] theorem State.setRgn_tfc (r v : Nat) : (s.setRgn r v).tfc = s.tfc := rfl
@[simp] theorem State.setRgn_prt (r v : Nat) : (s.setRgn r v).prt = s.prt := rfl
@[simp] theorem State.setRgn_ll (r v : Nat) : (s.setRgn r v).ll = s.ll := rfl
@[simp] theorem State.setRgn_qmg (r v : Nat) : (s.setRgn r v).qmg = s.qmg := rfl
@[simp] theorem State.setRgn_dmv (r v : Nat) : (s.setRgn r v).dmv = s.dmv := rfl
@[simp] theorem State.setRgn_lib (r v : Nat) : (s.setRgn r v).lib = s.lib := rfl

@[simp] theorem State.emit_pending (m : Msg) : (s.emit m).pending = s.pending := rfl
@[simp] theorem State.emit_regs (m : Msg) : (s.emit m).regs = s.regs := rfl
@[simp] theorem State.emit_ces (m : Msg) : (s.emit m).ces = s.ces := rfl
@[simp] theorem State.emit_free (m : Msg) : (s.emit m).free = s.free := rfl
@[simp] theorem State.emit_fatal (m : Msg) : (s.emit m).fatal = s.fatal := rfl
@[simp] theorem State.emit_time (m : Msg) : (s.emit m).time = s.time := rfl
@[simp] theorem State.emit_hbm (m : Msg) : (s.emit m).hbm = s.hbm := rfl
@[simp] theorem State.emit_ret (m : Msg) : (s.emit m).ret = s.ret := rfl
@[simp] theorem State.emit_lat (m : Msg) : (s.emit m).lat = s.lat := rfl
@[simp] theorem State.emit_boot (m : Msg) : (s.emit m).boot = s.boot := rfl
@[simp] theorem State.emit_sup (m : Msg) : (s.emit m).sup = s.sup := rfl
@[simp] theorem State.emit_flt (m : Msg) : (s.emit m).flt = s.flt := rfl
@[simp] theorem State.emit_i3c (m : Msg) : (s.emit m).i3c = s.i3c := rfl
@[simp] theorem State.emit_spw (m : Msg) : (s.emit m).spw = s.spw := rfl
@[simp] theorem State.emit_arc (m : Msg) : (s.emit m).arc = s.arc := rfl
@[simp] theorem State.emit_bnd (m : Msg) : (s.emit m).bnd = s.bnd := rfl
@[simp] theorem State.emit_cat (m : Msg) : (s.emit m).cat = s.cat := rfl
@[simp] theorem State.emit_grn (m : Msg) : (s.emit m).grn = s.grn := rfl
@[simp] theorem State.emit_swc (m : Msg) : (s.emit m).swc = s.swc := rfl
@[simp] theorem State.emit_tfc (m : Msg) : (s.emit m).tfc = s.tfc := rfl
@[simp] theorem State.emit_prt (m : Msg) : (s.emit m).prt = s.prt := rfl
@[simp] theorem State.emit_ll (m : Msg) : (s.emit m).ll = s.ll := rfl
@[simp] theorem State.emit_qmg (m : Msg) : (s.emit m).qmg = s.qmg := rfl
@[simp] theorem State.emit_dmv (m : Msg) : (s.emit m).dmv = s.dmv := rfl
@[simp] theorem State.emit_lib (m : Msg) : (s.emit m).lib = s.lib := rfl

@[simp] theorem State.setCes_pending (k : Nat) (c : CesSet) : (s.setCes k c).pending = s.pending := rfl
@[simp] theorem State.setCes_regs (k : Nat) (c : CesSet) : (s.setCes k c).regs = s.regs := rfl
@[simp] theorem State.setCes_out (k : Nat) (c : CesSet) : (s.setCes k c).out = s.out := rfl
@[simp] theorem State.setCes_free (k : Nat) (c : CesSet) : (s.setCes k c).free = s.free := rfl
@[simp] theorem State.setCes_fatal (k : Nat) (c : CesSet) : (s.setCes k c).fatal = s.fatal := rfl
@[simp] theorem State.setCes_time (k : Nat) (c : CesSet) : (s.setCes k c).time = s.time := rfl
@[simp] theorem State.setCes_hbm (k : Nat) (c : CesSet) : (s.setCes k c).hbm = s.hbm := rfl
@[simp] theorem State.setCes_ret (k : Nat) (c : CesSet) : (s.setCes k c).ret = s.ret := rfl
@[simp] theorem State.setCes_lat (k : Nat) (c : CesSet) : (s.setCes k c).lat = s.lat := rfl
@[simp] theorem State.setCes_boot (k : Nat) (c : CesSet) : (s.setCes k c).boot = s.boot := rfl
@[simp] theorem State.setCes_sup (k : Nat) (c : CesSet) : (s.setCes k c).sup = s.sup := rfl
@[simp] theorem State.setCes_flt (k : Nat) (c : CesSet) : (s.setCes k c).flt = s.flt := rfl
@[simp] theorem State.setCes_i3c (k : Nat) (c : CesSet) : (s.setCes k c).i3c = s.i3c := rfl
@[simp] theorem State.setCes_spw (k : Nat) (c : CesSet) : (s.setCes k c).spw = s.spw := rfl
@[simp] theorem State.setCes_arc (k : Nat) (c : CesSet) : (s.setCes k c).arc = s.arc := rfl
@[simp] theorem State.setCes_bnd (k : Nat) (c : CesSet) : (s.setCes k c).bnd = s.bnd := rfl
@[simp] theorem State.setCes_cat (k : Nat) (c : CesSet) : (s.setCes k c).cat = s.cat := rfl
@[simp] theorem State.setCes_grn (k : Nat) (c : CesSet) : (s.setCes k c).grn = s.grn := rfl
@[simp] theorem State.setCes_swc (k : Nat) (c : CesSet) : (s.setCes k c).swc = s.swc := rfl
@[simp] theorem State.setCes_tfc (k : Nat) (c : CesSet) : (s.setCes k c).tfc = s.tfc := rfl
@[simp] theorem State.setCes_prt (k : Nat) (c : CesSet) : (s.setCes k c).prt = s.prt := rfl
@[simp] theorem State.setCes_ll (k : Nat) (c : CesSet) : (s.setCes k c).ll = s.ll := rfl
@[simp] theorem State.setCes_qmg (k : Nat) (c : CesSet) : (s.setCes k c).qmg = s.qmg := rfl
@[simp] theorem State.setCes_dmv (k : Nat) (c : CesSet) : (s.setCes k c).dmv = s.dmv := rfl
@[simp] theorem State.setCes_lib (k : Nat) (c : CesSet) : (s.setCes k c).lib = s.lib := rfl

@[simp] theorem State.discard_pending (k : Nat) : (s.discard k).pending = s.pending := rfl
@[simp] theorem State.discard_regs (k : Nat) : (s.discard k).regs = s.regs := rfl
@[simp] theorem State.discard_out (k : Nat) : (s.discard k).out = s.out := rfl
@[simp] theorem State.discard_free (k : Nat) : (s.discard k).free = s.free := rfl
@[simp] theorem State.discard_fatal (k : Nat) : (s.discard k).fatal = s.fatal := rfl
@[simp] theorem State.discard_time (k : Nat) : (s.discard k).time = s.time := rfl
@[simp] theorem State.discard_hbm (k : Nat) : (s.discard k).hbm = s.hbm := rfl
@[simp] theorem State.discard_ret (k : Nat) : (s.discard k).ret = s.ret := rfl
@[simp] theorem State.discard_lat (k : Nat) : (s.discard k).lat = s.lat := rfl
@[simp] theorem State.discard_boot (k : Nat) : (s.discard k).boot = s.boot := rfl
@[simp] theorem State.discard_sup (k : Nat) : (s.discard k).sup = s.sup := rfl
@[simp] theorem State.discard_flt (k : Nat) : (s.discard k).flt = s.flt := rfl
@[simp] theorem State.discard_i3c (k : Nat) : (s.discard k).i3c = s.i3c := rfl
@[simp] theorem State.discard_spw (k : Nat) : (s.discard k).spw = s.spw := rfl
@[simp] theorem State.discard_arc (k : Nat) : (s.discard k).arc = s.arc := rfl
@[simp] theorem State.discard_bnd (k : Nat) : (s.discard k).bnd = s.bnd := rfl
@[simp] theorem State.discard_cat (k : Nat) : (s.discard k).cat = s.cat := rfl
@[simp] theorem State.discard_grn (k : Nat) : (s.discard k).grn = s.grn := rfl
@[simp] theorem State.discard_swc (k : Nat) : (s.discard k).swc = s.swc := rfl
@[simp] theorem State.discard_tfc (k : Nat) : (s.discard k).tfc = s.tfc := rfl
@[simp] theorem State.discard_prt (k : Nat) : (s.discard k).prt = s.prt := rfl
@[simp] theorem State.discard_ll (k : Nat) : (s.discard k).ll = s.ll := rfl
@[simp] theorem State.discard_qmg (k : Nat) : (s.discard k).qmg = s.qmg := rfl
@[simp] theorem State.discard_dmv (k : Nat) : (s.discard k).dmv = s.dmv := rfl
@[simp] theorem State.discard_lib (k : Nat) : (s.discard k).lib = s.lib := rfl

@[simp] theorem State.setTime_pending (n : Nat) : (s.setTime n).pending = s.pending := rfl
@[simp] theorem State.setTime_regs (n : Nat) : (s.setTime n).regs = s.regs := rfl
@[simp] theorem State.setTime_ces (n : Nat) : (s.setTime n).ces = s.ces := rfl
@[simp] theorem State.setTime_out (n : Nat) : (s.setTime n).out = s.out := rfl
@[simp] theorem State.setTime_free (n : Nat) : (s.setTime n).free = s.free := rfl
@[simp] theorem State.setTime_fatal (n : Nat) : (s.setTime n).fatal = s.fatal := rfl
@[simp] theorem State.setTime_hbm (n : Nat) : (s.setTime n).hbm = s.hbm := rfl
@[simp] theorem State.setTime_ret (n : Nat) : (s.setTime n).ret = s.ret := rfl
@[simp] theorem State.setTime_lat (n : Nat) : (s.setTime n).lat = s.lat := rfl
@[simp] theorem State.setTime_boot (n : Nat) : (s.setTime n).boot = s.boot := rfl
@[simp] theorem State.setTime_sup (n : Nat) : (s.setTime n).sup = s.sup := rfl
@[simp] theorem State.setTime_flt (n : Nat) : (s.setTime n).flt = s.flt := rfl
@[simp] theorem State.setTime_i3c (n : Nat) : (s.setTime n).i3c = s.i3c := rfl
@[simp] theorem State.setTime_spw (n : Nat) : (s.setTime n).spw = s.spw := rfl
@[simp] theorem State.setTime_arc (n : Nat) : (s.setTime n).arc = s.arc := rfl
@[simp] theorem State.setTime_bnd (n : Nat) : (s.setTime n).bnd = s.bnd := rfl
@[simp] theorem State.setTime_cat (n : Nat) : (s.setTime n).cat = s.cat := rfl
@[simp] theorem State.setTime_grn (n : Nat) : (s.setTime n).grn = s.grn := rfl
@[simp] theorem State.setTime_swc (n : Nat) : (s.setTime n).swc = s.swc := rfl
@[simp] theorem State.setTime_tfc (n : Nat) : (s.setTime n).tfc = s.tfc := rfl
@[simp] theorem State.setTime_prt (n : Nat) : (s.setTime n).prt = s.prt := rfl
@[simp] theorem State.setTime_ll (n : Nat) : (s.setTime n).ll = s.ll := rfl
@[simp] theorem State.setTime_qmg (n : Nat) : (s.setTime n).qmg = s.qmg := rfl
@[simp] theorem State.setTime_dmv (n : Nat) : (s.setTime n).dmv = s.dmv := rfl
@[simp] theorem State.setTime_lib (n : Nat) : (s.setTime n).lib = s.lib := rfl

@[simp] theorem State.hbmWrite_pending (a b n v : Nat) : (s.hbmWrite a b n v).pending = s.pending := rfl
@[simp] theorem State.hbmWrite_regs (a b n v : Nat) : (s.hbmWrite a b n v).regs = s.regs := rfl
@[simp] theorem State.hbmWrite_ces (a b n v : Nat) : (s.hbmWrite a b n v).ces = s.ces := rfl
@[simp] theorem State.hbmWrite_out (a b n v : Nat) : (s.hbmWrite a b n v).out = s.out := rfl
@[simp] theorem State.hbmWrite_free (a b n v : Nat) : (s.hbmWrite a b n v).free = s.free := rfl
@[simp] theorem State.hbmWrite_fatal (a b n v : Nat) : (s.hbmWrite a b n v).fatal = s.fatal := rfl
@[simp] theorem State.hbmWrite_time (a b n v : Nat) : (s.hbmWrite a b n v).time = s.time := rfl
@[simp] theorem State.hbmWrite_ret (a b n v : Nat) : (s.hbmWrite a b n v).ret = s.ret := rfl
@[simp] theorem State.hbmWrite_lat (a b n v : Nat) : (s.hbmWrite a b n v).lat = s.lat := rfl
@[simp] theorem State.hbmWrite_boot (a b n v : Nat) : (s.hbmWrite a b n v).boot = s.boot := rfl
@[simp] theorem State.hbmWrite_sup (a b n v : Nat) : (s.hbmWrite a b n v).sup = s.sup := rfl
@[simp] theorem State.hbmWrite_flt (a b n v : Nat) : (s.hbmWrite a b n v).flt = s.flt := rfl
@[simp] theorem State.hbmWrite_i3c (a b n v : Nat) : (s.hbmWrite a b n v).i3c = s.i3c := rfl
@[simp] theorem State.hbmWrite_spw (a b n v : Nat) : (s.hbmWrite a b n v).spw = s.spw := rfl
@[simp] theorem State.hbmWrite_arc (a b n v : Nat) : (s.hbmWrite a b n v).arc = s.arc := rfl
@[simp] theorem State.hbmWrite_bnd (a b n v : Nat) : (s.hbmWrite a b n v).bnd = s.bnd := rfl
@[simp] theorem State.hbmWrite_cat (a b n v : Nat) : (s.hbmWrite a b n v).cat = s.cat := rfl
@[simp] theorem State.hbmWrite_grn (a b n v : Nat) : (s.hbmWrite a b n v).grn = s.grn := rfl
@[simp] theorem State.hbmWrite_swc (a b n v : Nat) : (s.hbmWrite a b n v).swc = s.swc := rfl
@[simp] theorem State.hbmWrite_tfc (a b n v : Nat) : (s.hbmWrite a b n v).tfc = s.tfc := rfl
@[simp] theorem State.hbmWrite_prt (a b n v : Nat) : (s.hbmWrite a b n v).prt = s.prt := rfl
@[simp] theorem State.hbmWrite_ll (a b n v : Nat) : (s.hbmWrite a b n v).ll = s.ll := rfl
@[simp] theorem State.hbmWrite_qmg (a b n v : Nat) : (s.hbmWrite a b n v).qmg = s.qmg := rfl
@[simp] theorem State.hbmWrite_dmv (a b n v : Nat) : (s.hbmWrite a b n v).dmv = s.dmv := rfl
@[simp] theorem State.hbmWrite_lib (a b n v : Nat) : (s.hbmWrite a b n v).lib = s.lib := rfl

@[simp] theorem State.retWrite_pending (a n v : Nat) : (s.retWrite a n v).pending = s.pending := rfl
@[simp] theorem State.retWrite_regs (a n v : Nat) : (s.retWrite a n v).regs = s.regs := rfl
@[simp] theorem State.retWrite_ces (a n v : Nat) : (s.retWrite a n v).ces = s.ces := rfl
@[simp] theorem State.retWrite_out (a n v : Nat) : (s.retWrite a n v).out = s.out := rfl
@[simp] theorem State.retWrite_free (a n v : Nat) : (s.retWrite a n v).free = s.free := rfl
@[simp] theorem State.retWrite_fatal (a n v : Nat) : (s.retWrite a n v).fatal = s.fatal := rfl
@[simp] theorem State.retWrite_time (a n v : Nat) : (s.retWrite a n v).time = s.time := rfl
@[simp] theorem State.retWrite_hbm (a n v : Nat) : (s.retWrite a n v).hbm = s.hbm := rfl
@[simp] theorem State.retWrite_lat (a n v : Nat) : (s.retWrite a n v).lat = s.lat := rfl
@[simp] theorem State.retWrite_boot (a n v : Nat) : (s.retWrite a n v).boot = s.boot := rfl
@[simp] theorem State.retWrite_sup (a n v : Nat) : (s.retWrite a n v).sup = s.sup := rfl
@[simp] theorem State.retWrite_flt (a n v : Nat) : (s.retWrite a n v).flt = s.flt := rfl
@[simp] theorem State.retWrite_i3c (a n v : Nat) : (s.retWrite a n v).i3c = s.i3c := rfl
@[simp] theorem State.retWrite_spw (a n v : Nat) : (s.retWrite a n v).spw = s.spw := rfl
@[simp] theorem State.retWrite_arc (a n v : Nat) : (s.retWrite a n v).arc = s.arc := rfl
@[simp] theorem State.retWrite_bnd (a n v : Nat) : (s.retWrite a n v).bnd = s.bnd := rfl
@[simp] theorem State.retWrite_cat (a n v : Nat) : (s.retWrite a n v).cat = s.cat := rfl
@[simp] theorem State.retWrite_grn (a n v : Nat) : (s.retWrite a n v).grn = s.grn := rfl
@[simp] theorem State.retWrite_swc (a n v : Nat) : (s.retWrite a n v).swc = s.swc := rfl
@[simp] theorem State.retWrite_tfc (a n v : Nat) : (s.retWrite a n v).tfc = s.tfc := rfl
@[simp] theorem State.retWrite_prt (a n v : Nat) : (s.retWrite a n v).prt = s.prt := rfl
@[simp] theorem State.retWrite_ll (a n v : Nat) : (s.retWrite a n v).ll = s.ll := rfl
@[simp] theorem State.retWrite_qmg (a n v : Nat) : (s.retWrite a n v).qmg = s.qmg := rfl
@[simp] theorem State.retWrite_dmv (a n v : Nat) : (s.retWrite a n v).dmv = s.dmv := rfl
@[simp] theorem State.retWrite_lib (a n v : Nat) : (s.retWrite a n v).lib = s.lib := rfl

@[simp] theorem State.emit_out (m : Msg) : (s.emit m).out = m :: s.out := rfl
@[simp] theorem State.word_emit (m : Msg) (r : Reg) (i : Nat) : (s.emit m).word r i = s.word r i := rfl
@[simp] theorem State.get_emit (m : Msg) (f : Fld) (i : Nat) : (s.emit m).get f i = s.get f i := rfl
@[simp] theorem State.flag_emit (m : Msg) (f : Fld) (i : Nat) : (s.emit m).flag f i = s.flag f i := rfl
@[simp] theorem State.word_setCes (k : Nat) (c : CesSet) (r : Reg) (i : Nat) : (s.setCes k c).word r i = s.word r i := rfl
@[simp] theorem State.get_setCes (k : Nat) (c : CesSet) (f : Fld) (i : Nat) : (s.setCes k c).get f i = s.get f i := rfl
@[simp] theorem State.word_discard (k : Nat) (r : Reg) (i : Nat) : (s.discard k).word r i = s.word r i := rfl
@[simp] theorem State.get_discard (k : Nat) (f : Fld) (i : Nat) : (s.discard k).get f i = s.get f i := rfl
@[simp] theorem State.word_setTime (n : Nat) (r : Reg) (i : Nat) : (s.setTime n).word r i = s.word r i := rfl
@[simp] theorem State.get_setTime (n : Nat) (f : Fld) (i : Nat) : (s.setTime n).get f i = s.get f i := rfl

end Sys2Proof.Machine
end

