-- ==== Sys2Proof/Laws/Regs.lean ====
section
/-! SUPPORT. Registers: what a read gives after a write of a word or a field, said once. The lemmas whose hypotheses are decidable
are for simp with a discharger: `simp (disch := first | assumption | decide | omega) only […]`. -/
namespace Sys2Proof.Machine
variable (s : State)

theorem Reg.ctorIdx_inj {a b : Reg} (h : a.ctorIdx = b.ctorIdx) : a = b := by
  rw [← Reg.ofNat_ctorIdx a, h, Reg.ofNat_ctorIdx]

/-- Instances of two registers, or two instances of one, have different keys. -/
theorem regKey_ne {r r' : Reg} {i j : Nat} (h : r ≠ r' ∨ i % 2 ^ 24 ≠ j % 2 ^ 24) : regKey r i ≠ regKey r' j := by
  unfold regKey
  have h1 := Nat.mod_lt i (show 0 < 2 ^ 24 by decide)
  have h2 := Nat.mod_lt j (show 0 < 2 ^ 24 by decide)
  rcases h with h | h
  · have : r.ctorIdx ≠ r'.ctorIdx := fun e => h (Reg.ctorIdx_inj e)
    omega
  · omega

/-- A read of the word just written. -/
@[simp] theorem State.word_setWord_same (r : Reg) (i : Nat) (v : Word) : (s.setWord r i v).word r i = v := by
  simp [State.word, State.setWord]

/-- A write leaves every other register and instance alone. -/
theorem State.word_setWord_ne {r r' : Reg} {i j : Nat} (v : Word)
    (h : r ≠ r' ∨ i % 2 ^ 24 ≠ j % 2 ^ 24) : (s.setWord r i v).word r' j = s.word r' j := by
  simp only [State.word, State.setWord]
  exact Tab.get_put_ne _ _ _ _ _ _ (regKey_ne h).symm

theorem State.word_setWord_reg {r r' : Reg} {i j : Nat} (v : Word) (h : r' ≠ r) :
    (s.setWord r i v).word r' j = s.word r' j := s.word_setWord_ne v (.inl h.symm)

theorem State.word_setWord_ix {r : Reg} {i j : Nat} (v : Word) (h : i % 2 ^ 24 ≠ j % 2 ^ 24) :
    (s.setWord r i v).word r j = s.word r j := s.word_setWord_ne v (.inr h)

theorem State.word_set_reg {f : Fld} {r : Reg} {i j : Nat} (v : Nat) (h : r ≠ f.reg) :
    (s.set f i v).word r j = s.word r j := s.word_setWord_ne _ (.inl h.symm)

theorem State.word_set_ix {f : Fld} {r : Reg} {i j : Nat} (v : Nat) (h : i % 2 ^ 24 ≠ j % 2 ^ 24) :
    (s.set f i v).word r j = s.word r j := s.word_setWord_ne _ (.inr h)

/-- A read of the field just set. -/
theorem State.get_set_same {f : Fld} (i v : Nat) (h : f.lo + f.w ≤ 32) : (s.set f i v).get f i = v % 2 ^ f.w := by
  simp only [State.get, State.set, State.word_setWord_same]
  exact bits_putBits_same _ _ _ _ h

/-- Setting a field leaves the fields of every other register alone. -/
theorem State.get_set_reg {f g : Fld} {i j : Nat} (v : Nat) (h : g.reg ≠ f.reg) : (s.set f i v).get g j = s.get g j := by
  simp only [State.get, State.word_set_reg s v h]

/-- Setting a field leaves the other instances of its register alone. -/
theorem State.get_set_ix {f g : Fld} {i j : Nat} (v : Nat) (h : i % 2 ^ 24 ≠ j % 2 ^ 24) : (s.set f i v).get g j = s.get g j := by
  simp only [State.get, State.word_set_ix s v h]

/-- Setting a field leaves the other fields of its register alone. -/
theorem State.get_set_field {f g : Fld} {i : Nat} (v : Nat) (hr : g.reg = f.reg) (h : f.lo + f.w ≤ g.lo ∨ g.lo + g.w ≤ f.lo) :
    (s.set f i v).get g i = s.get g i := by
  simp only [State.get, State.set, hr, State.word_setWord_same]
  exact bits_putBits_ne _ _ _ _ _ _ h

theorem State.get_lt (f : Fld) (i : Nat) : s.get f i < 2 ^ f.w := bits_lt _ _ _

/-- A field of a register whose word was just written. -/
theorem State.get_setWord_same {f : Fld} (i : Nat) (v : Word) : (s.setWord f.reg i v).get f i = bits v f.lo f.w := by
  simp [State.get]

theorem State.get_setWord_reg {r : Reg} {g : Fld} {i j : Nat} (v : Word) (h : g.reg ≠ r) :
    (s.setWord r i v).get g j = s.get g j := by
  simp only [State.get, State.word_setWord_reg s v h]

theorem State.get_setWord_ix {r : Reg} {g : Fld} {i j : Nat} (v : Word) (h : i % 2 ^ 24 ≠ j % 2 ^ 24) :
    (s.setWord r i v).get g j = s.get g j := by
  simp only [State.get]
  rw [s.word_setWord_ne v (.inr h)]

end Sys2Proof.Machine
end

