-- ==== Sys2Proof/Laws/Reports.lean ====
section
/-! SUPPORT. Everything that reporting an error or an event can change: `quiet` is kept, and so is every register outside
`reportRegs`. -/
namespace Sys2Proof.Machine
open Sys2Proof

/-- The registers that a report may write: loss counts, overflow bits, and what the fatal outputs show (R481, R483, R491,
R468–R474). -/
def reportRegs : List Reg :=
  [.ARC_LOST, .ARC_FRZ_LOSS, .PMC_CFG, .CHIP_RGN_STS, .CHIP_RGN_CAUSE, .KPR_STS, .KPR_PD_STS, .KPR_RET_STS, .PRT_PORT_STS,
    .PRT_DN_TMR, .SPW_STS]

/-- A change that reporting may make. -/
structure Reports (s t : State) : Prop where
  quiet : t.quiet = s.quiet
  word  : ∀ r i, r ∉ reportRegs → t.word r i = s.word r i

theorem Reports.refl (s : State) : Reports s s := ⟨rfl, fun _ _ _ => rfl⟩

theorem Reports.trans {s t u : State} (h : Reports s t) (g : Reports t u) : Reports s u :=
  ⟨g.quiet.trans h.quiet, fun r i hr => (g.word r i hr).trans (h.word r i hr)⟩

/-- A change of no register word. -/
theorem Reports.of_regs {s t : State} (hq : t.quiet = s.quiet) (hr : t.regs = s.regs) : Reports s t :=
  ⟨hq, fun r i _ => by simp only [State.word, hr]⟩

theorem Reports.set (s : State) (f : Fld) (i v : Nat) (h : f.reg ∈ reportRegs) : Reports s (s.set f i v) :=
  ⟨rfl, fun _ _ hr => s.word_set_reg v (fun e => hr (e ▸ h))⟩

theorem Reports.bump (s : State) (f : Fld) (i n : Nat) (h : f.reg ∈ reportRegs) : Reports s (s.bump f i n) :=
  Reports.set _ _ _ _ h

theorem Reports.foldl {β : Type} (l : List β) (f : State → β → State) (h : ∀ s b, Reports s (f s b)) (s : State) :
    Reports s (l.foldl f s) := by
  induction l generalizing s with
  | nil => exact .refl s
  | cons b l ih => exact (h s b).trans (ih _)

theorem Reports.ite {s a b : State} (c : Prop) [Decidable c] (ha : Reports s a) (hb : Reports s b) :
    Reports s (if c then a else b) := by
  split
  · exact ha
  · exact hb

/-- The same for a change that also answers a Bool. -/
theorem Reports.ite_fst {s : State} {a b : State × Bool} (c : Prop) [Decidable c] (ha : Reports s a.1) (hb : Reports s b.1) :
    Reports s (if c then a else b).1 := by
  split
  · exact ha
  · exact hb

/-! Counters (R491, R492). -/

/-- A change of the Archive's own state. -/
theorem Reports.arc (s : State) (x : ArcState) : Reports s { s with arc := x } := .of_regs rfl rfl
theorem Reports.flt (s : State) (x : FltState) : Reports s { s with flt := x } := .of_regs rfl rfl

theorem Reports.addCounter (fuel : Nat) (s : State) (n k : Nat) : Reports s (State.addCounter fuel s n k) := by
  induction fuel generalizing s n k with
  | zero =>
    unfold State.addCounter
    exact .ite _ (.arc ..) (.ite _ (.arc ..) ((Reports.arc s _).trans (.set _ PMC_CFG.OVF _ _ (by decide))))
  | succ f ih =>
    unfold State.addCounter
    exact .ite _ (.arc ..) (.ite _ ((Reports.arc s _).trans (ih _ _ _)) ((Reports.arc s _).trans (.set _ PMC_CFG.OVF _ _ (by decide))))

theorem Reports.countChip (s : State) (e q k : Nat) : Reports s (s.countChip e q k) :=
  .foldl _ _ (fun _ _ => .addCounter ..) _

theorem Reports.count (s : State) (r e q k : Nat) : Reports s (s.count r e q k) := by
  unfold State.count
  split
  · exact .refl s
  · exact .foldl _ _ (fun _ _ => .addCounter ..) _

theorem Reports.countPort (s : State) (p c k : Nat) : Reports s (s.countPort p c k) := by
  unfold State.countPort
  simp only
  split
  · exact .refl s
  · exact .addCounter ..

/-! Sets and messages (R460–R464). -/

theorem Reports.emit (s : State) (m : Msg) : Reports s (s.emit m) := .of_regs rfl rfl
theorem Reports.setCes (s : State) (k : Nat) (c : CesSet) : Reports s (s.setCes k c) := .of_regs rfl rfl
theorem Reports.discard (s : State) (k : Nat) : Reports s (s.discard k) := .of_regs rfl rfl

theorem Reports.ibiPend (s : State) (k : Nat) : Reports s (s.ibiPend k) := by
  unfold State.ibiPend
  split <;> exact .of_regs rfl rfl

theorem Reports.interrupt (s : State) (k : Nat) : Reports s (s.interrupt k) := by
  unfold State.interrupt
  have h (t : State) (ht : Reports s t) : Reports s (if (s.cesSet k).route.getLsbD 1 then t.ibiPend 0 else t) :=
    .ite _ (ht.trans (.ibiPend ..)) ht
  exact h _ (.ite _ (.ite _ (.setCes ..) ((Reports.setCes s k _).trans (.emit ..))) (.refl s))

theorem Reports.coreIrq (s : State) (o : Occ) (f : Bool) : Reports s (s.coreIrq o f) := by
  unfold State.coreIrq
  simp only
  have h (t : State) (ht : Reports s t) (c : Bool) (m : Msg) : Reports s (if c then t.emit m else t) := by
    split
    · exact ht.trans (.emit ..)
    · exact ht
  apply h
  split
  · exact .emit ..
  · exact .refl s

/-! The Archive (R481, R483, R489). -/

theorem Reports.frozenLoss (s : State) (u : Nat) : Reports s (s.frozenLoss u) :=
  (Reports.bump s ARC_FRZ_LOSS.LOSS u 1 (by decide)).trans (.of_regs rfl rfl)

theorem Reports.stageRecord (s : State) (u : Nat) (x : BitVec 256) : Reports s (s.stageRecord u x).1 := by
  unfold State.stageRecord
  simp only
  split
  · exact .of_regs rfl rfl
  · exact (Reports.bump s ARC_LOST.STAGE_LOST u 1 (by decide)).trans (.of_regs rfl rfl)

theorem Reports.event (s : State) (u code origin kind scope tiller arg0 arg1 : Nat) :
    Reports s (s.event u code origin kind scope tiller arg0 arg1).1 := by
  unfold State.event
  exact .ite_fst _ (.refl s) (.ite_fst _ (.frozenLoss ..) (.ite_fst _
    (.ite_fst _ ((Reports.arc s _).trans (.stageRecord ..)) (.arc ..)) ((Reports.arc s _).trans (.countChip ..))))

theorem Reports.note (s : State) (o : Occ) : Reports s (s.note o).1 := by
  unfold State.note
  refine .ite_fst _ (.refl s) ?_
  have h2 (c : CesSet) (q : Bool) : Reports s (if q then (s.setCes o.set c).interrupt o.set else s.setCes o.set c) :=
    .ite _ ((Reports.setCes s o.set c).trans (.interrupt ..)) (.setCes ..)
  exact .ite_fst _ ((h2 _ _).trans (.coreIrq ..)) (((h2 _ _).trans (.coreIrq ..)).trans (.event ..))

theorem Reports.archive (s : State) (u code kind scope arg0 arg1 : Nat) : Reports s (s.archive u code kind scope arg0 arg1) := by
  unfold State.archive
  exact .ite _ ((Reports.event s _ _ _ _ _ _ _ _).trans (.note ..)) (.event ..)

/-! The fatal outputs (R41, R42, R471, R472). -/

theorem Reports.askCopy (s : State) (a b c d : Nat) : Reports s (s.askCopy a b c d) := by
  unfold State.askCopy
  split
  · exact .bump _ _ _ _ (by decide)
  · exact .of_regs rfl rfl

theorem Reports.slotsOff (s : State) : Reports s s.slotsOff := by
  refine .foldl _ _ (fun s c => ?_) s
  refine Reports.trans (Reports.trans (Reports.trans (Reports.trans (Reports.set _ _ _ _ ?_) (Reports.set _ _ _ _ ?_))
    (Reports.set _ _ _ _ ?_)) (Reports.set _ _ _ _ ?_)) (Reports.set _ _ _ _ ?_) <;> decide

theorem Reports.portsIdle (s : State) (ps : List Nat) : Reports s (s.portsIdle ps) := by
  refine .foldl _ _ (fun s c => ?_) s
  refine Reports.trans (Reports.trans (Reports.trans (Reports.set _ _ _ _ ?_) (Reports.set _ _ _ _ ?_))
    (Reports.set _ _ _ _ ?_)) (Reports.set _ _ _ _ ?_) <;> decide

theorem Reports.flushEnds (s : State) (ms res n : Nat) : Reports s (s.flushEnds ms res n) := by
  refine Reports.trans (Reports.trans (Reports.trans (Reports.set _ _ _ _ ?_) (Reports.set _ _ _ _ ?_))
    (Reports.set _ _ _ _ ?_)) (Reports.set _ _ _ _ ?_) <;> decide

theorem Reports.setRgn (s : State) (r v : Nat) : Reports s (s.setRgn r v) := .set _ _ _ _ (by decide)

theorem Reports.fatal (s : State) (b : Bool) (x : FltState) : Reports s { s with fatal := b, flt := x } := .of_regs rfl rfl

theorem Reports.chipFatal (s : State) (b c : Nat) : Reports s (s.chipFatal b c) := by
  unfold State.chipFatal
  refine .ite _ (.askCopy ..) (Reports.trans ?_ (.foldl _ _ (fun s r => .ite _ (.refl s) (.askCopy ..)) _))
  refine Reports.trans (Reports.trans (Reports.trans (Reports.trans ?_ (.set _ KPR_STS.CHIP_FATAL _ _ (by decide))) (.portsIdle ..))
    (.slotsOff _)) (.askCopy ..)
  exact Reports.trans (.ite _ (.flushEnds ..) (.refl s)) (.fatal ..)

theorem Reports.regionFatal (s : State) (r b c : Nat) : Reports s (s.regionFatal r b c) := by
  unfold State.regionFatal
  have h : Reports s (((s.setRgn r 1).set CHIP_RGN_CAUSE.BLOCK r b).set CHIP_RGN_CAUSE.BIT r c) :=
    ((Reports.setRgn ..).trans (.set _ _ _ _ (by decide))).trans (.set _ _ _ _ (by decide))
  exact .ite _ (.askCopy ..) (.ite _ (.refl s) (.ite _ (Reports.trans (.ite _ h (h.trans (.flt ..))) (.askCopy ..)) (.chipFatal ..)))

/-- Recording an occurrence. -/
theorem Reports.record (s : State) (o : Occ) : Reports s (s.record o) := by
  unfold State.record
  have h (t : State) (ht : Reports s t) : Reports s
      (if o.cls = 3 then t.regionFatal o.region (if setUnit o.set < 4 then setBlock o.set else 15) o.bit
       else if o.cls = 4 then t.chipFatal (setBlock o.set) o.bit
       else if o.cls = 2 && o.kind = 0 then t.selfReset o.set else t) :=
    .ite _ (ht.trans (.regionFatal ..)) (.ite _ (ht.trans (.chipFatal ..)) (.ite _ (ht.trans (.flt t _)) ht))
  exact h _ (.ite _ ((Reports.note s _).trans (.note ..)) (.note ..))

/-- A field outside the reports' registers. -/
theorem Reports.get {s t : State} (h : Reports s t) (f : Fld) (i : Nat) (hf : f.reg ∉ reportRegs) : t.get f i = s.get f i := by
  simp only [State.get, h.word _ _ hf]

end Sys2Proof.Machine
end

