-- ==== Sys2Proof/Machine/Pins.lean ====
section
/-! DEFINITION. What the pins show in each condition of Table: Pins at rest, read from the state (R15, R242, R454). -/
namespace Sys2Proof.Machine
open Sys2Proof

/-- The conditions of Table: Pins at rest, and `running` for none of them. A chip without power has no state (R445). -/
inductive PinCondition where
  | inReset
  | beforeReady
  | noImage
  | running
deriving DecidableEq, Repr

/-- CHIP_FATAL comes first; the flush of a reset runs before the reset (R448, R454). -/
def State.pinCondition (s : State) : PinCondition :=
  if s.fatal then .noImage
  else if s.boot.resume != 0 then .inReset
  else if s.boot.starting then .beforeReady
  else .running

/-- (FAULT_P, FAULT_N) as driven; with (0,0) the driver is released (R474). -/
def State.faultPair (s : State) : Bool × Bool := (s.flt.pins == 2, s.flt.pins == 1)

/-- The lanes of port p are at electrical idle and its receivers are of high impedance: before Detect, and where a port is OFF
or stopped (R242, R252, R381, R472). -/
def State.lanesIdle (s : State) (p : Nat) : Bool :=
  s.pinCondition == .inReset || s.pinCondition == .noImage || s.get PRT_PORT_STS.STATE p == stOff

/-- A chip lane is at electrical idle: with its port, and the spare of a port that is not ZL always (R244). -/
def State.laneIdle (s : State) (n : Nat) : Bool := s.lanesIdle (lanePort n) || (laneIndex n == 8 && s.role (lanePort n) != 3)

/-- The level on DN_PERST_N[p] (R252). -/
def State.dnPerstHigh (s : State) (p : Nat) : Bool :=
  s.flag PRT_DN_TMR.PERST_OUT p && s.pinCondition != .inReset && s.pinCondition != .noImage

/-- SP_GATE[c] is driven; it is pulled low otherwise (R418). -/
def State.gateDriven (s : State) (c : Nat) : Bool :=
  driven s c && s.pinCondition != .inReset && s.pinCondition != .noImage

/-- FLASH_CS_N may be low and the clock may run: the flash is read during the start only (R380, R390). -/
def State.flashActive (s : State) : Bool := s.pinCondition == .beforeReady

/-- The sideband bus is active from step 5 of the start; STEP shows the last completed step (R381). -/
def State.sidebandActive (s : State) : Bool :=
  s.pinCondition == .running || (s.pinCondition == .beforeReady && Nat.ble 4 (s.get KPR_STS.STEP 0))

end Sys2Proof.Machine
end

