-- ==== Sys2Proof/Tests/Slice0.lean ====
section
/-! SUPPORT. The author's tests: states that meet the hypotheses of every statement, ill-formed commands that the check refuses, and
single steps against values worked out from the spec. -/
set_option Elab.async false
set_option linter.unusedVariables false
open Sys2Proof Sys2Proof.Machine

/-- With an open request of handle 7, a mailbox's. -/
def Sys2Proof.Machine.State.openFor7 (s : State) : State :=
  { s with lib := { s.lib with opens := [⟨7, .mailbox 3, 3, 16, 5, []⟩] } }

def Sys2Proof.Machine.State.reshelving5 (s : State) : State :=
  { (s.set BND_RSH_STS.PHASE 17 1) with bnd := { s.bnd with rsh := [(17, ⟨true, 5, false, []⟩)] } }

namespace Sys2Proof.Tests

/-- The machine after reset. -/
abbrev w : State := State.reset

/-- An image whose section of TYPE t lies at 65,536 t, with the given bytes (type, offset, value). -/
def img (l : List (Nat × Nat × Byte)) : Flash :=
  (List.range 9).foldl (fun f k => Tab.put 0 f (128 + 80 * k + 6) (BitVec.ofNat 8 (k + 1)))
    (l.foldl (fun f e => Tab.put 0 f (65536 * e.1 + e.2.1) e.2.2) [])

/-- The machine with all sections of such an image in use. -/
def wImg (l : List (Nat × Nat × Byte)) : State := { w with boot := { w.boot with early := true, late := true, image := img l } }

/-- Shelf 5 is bound, port 7 is a DN port with logical device 0, and it is staged as the target in region 1. -/
def wRsh : State := ((wImg [(1, 224, 2), (4, 0, 1), (4, 16, 7)]).putSrec 5 0x11).setWord .BND_SREC_D 6 0x70000

/-- Port 3 is an UP port whose policy allows everything; handler 0 of core A takes BIND_REQ, RELEASE_REQ, ADD_RESP, FM_REQ and
SHELF_LOST; region A leads. -/
def wFw : State :=
  (((wImg [(1, 96, 1), (5, 1728, 8), (5, 1732, 15), (5, 1733, 3), (5, 1736, 255), (8, 2, 1), (8, 19, 31)]).set LIB_CORE_STS.STATE 0 1).set
    LIB_CORE_STS.LEAD 0 1)

/-- An access of the host of port 3, an UP port, to a line of shelf 5 (region B, port 3's own, mode 1 coherent). -/
def acc (addr : Nat) : Access := { agent := agentId 0 3 0, tag := 7, addr := BitVec.ofNat 48 addr, port := 3, src := .host, rep := false }

/-- A line of shelf 5. -/
def fa5 : Nat := 5 * 2 ^ 28 + 64

/-- Shelf 5 is bound to group 2 of which port 3 is a member, coherent or software; its line lies in the Granary with data 9; the
backing set is cached with the given ways. -/
def wHome (ways : List Entry) : State :=
  let s := ((wImg [(1, 96, 1)]).putSrec 5 0x2015).putGroup 2 8
  let k := wayKey 1 (grnIndex fa5) 0
  ((s.set SEC_BOOT_STS.READY 0 1).setWay k { tag := grnTag fa5, valid := true, svalid := 2 }).putHbmLine (sectorKey 1 (grnIndex fa5) 0 1) ⟨9, false⟩ |>.inCat
    fun c => { c with cache := [(catKey 1 (catIndex fa5), some ⟨ways, List.range 16, false⟩)] }

/-- Port p is an UP port in L0. -/
def wUp (p : Nat) : State := (wImg [(1, 32 * p, 1)]).set PRT_PORT_STS.STATE p 4

/-- Port p is a DN port, or the port of Zwius link z is a ZL port, in L0. -/
def wDn (p : Nat) : State := (wImg [(1, 32 * p, 2)]).set PRT_PORT_STS.STATE p 4
def wZl (z : Nat) : State := (wImg [(1, 32 * zPort z, 3)]).set PRT_PORT_STS.STATE (zPort z) 4

/-- Carrel 4 is ACTIVE with template 0, which permits slips. -/
def wTpl : State := (wImg [(6, 0, 1), (6, 66, 16)]).set CRL_CFG.STATE 4 1

/-- Port 2 is the manager's, in L0, and time comes by PTM. -/
def wMgr : State := ((wImg [(1, 64, 9)]).set PRT_PORT_STS.STATE 2 4).set TFC_TIME_CTL.SRC 0 1

/-- Ports 3 and 5 are UP ports in L0. -/
def wTwo : State := ((wImg [(1, 96, 1), (1, 160, 1)]).set PRT_PORT_STS.STATE 3 4).set PRT_PORT_STS.STATE 5 4

/-- Zwius link z is up. -/
def wZu (z : Nat) : State := (wZl z).set ZWL_STS.STATE z 2

/-- Queue ID 0x40005 (region B) is cached with a context. -/
def wCtx (c : BitVec 512) : State := (w.setCtx 0x40005 c).useCtx 0x40005

/-- A valid SUBMIT ring, host-resident on port 3, of the management endpoint, 16 entries; a valid slip ring of group 2 in the
stack; and a NOTICE FIFO of 16 items. -/
def cSubmit : BitVec 512 := cput (cput (cput (cput (cput 1 cLoc 1) cDepth 4) cOwner 1) cPort 3) cEsize 3
def cSlip : BitVec 512 := cput (cput (cput 9 cDepth 4) cSlipGrp 2) cEsize 15
def cNotice : BitVec 512 := cput (cput (cput 3 cDepth 4) cEsize 3) cProd 2

/-- Channel 3, enabled, performs a descriptor; port 3 is an UP port. -/
def wChan (a : Active) : State := ((wImg [(1, 96, 1)]).set DMV_CH_CTL.EN 3 1).setActive 3 (some a)

/-- A COPY of 128 bytes from port 3 to port 3. -/
def dCopy : BitVec 512 := cput (cput (cput (cput 0 dLen 128) dSrcPort 3) dDstPort 3) dSrc 4096

/-- A migration record without queues, policers or descriptors; carrel 4 is of port 3 with a template that permits migration. -/
def recHead : List Byte := leBytes 4 0x4D4C5243 ++ leBytes 2 1 ++ leBytes 2 0 ++ leBytes 4 704 ++ List.replicate 52 0
def recEmpty : List Byte :=
  recHead ++ leBytes 64 (Config.shake256 (recHead ++ List.replicate 576 0)).toNat ++ List.replicate 576 0
def wRst : State := (wImg [(1, 96, 1), (6, 0, 1), (6, 66, 64)]).set CRL_CFG.PORT 4 3

/-- Tiller t is RUNNING; a handler of a running core A runs. -/
def wTil (t : Nat) : State := w.set TIL_STS.STATE t 1
def wHan (t : Nat) : State :=
  let s := wFw.set TIL_STS.STATE t 1
  { s with lib := { s.lib with running := [(t / 48, t + 1)] } }

/-- The address of KPR_RST_CAUSE in the register space. -/
def aKpr : Word := 0x140004

/-- Handler 0 of core A has a service operation under way with these context words. -/
def wSvc (t : Nat) (ctx : Tab Nat) : State :=
  (wHan t).setTiller t { ctx := ctx.foldl (fun m e => Tab.put 0 m e.1 e.2) [] }

/-- POST_ADD of shelves 5 and 6 with tag 9 to port 3, for the request of handle 7. -/
def wPost : State :=
  (wSvc 16 [(0x228 / 4, 4), (0x22C / 4, 1), (0x200 / 4, 3), (0x204 / 4, 9), (0x208 / 4, 0x50000000), (0x210 / 4, 2), (0x220 / 4, 7)]).openFor7
def wPost2 : State := { wPost with bnd := { wPost.bnd with tag := (List.range 2).foldl (fun m i => Tab.put 0 m (5 + i) 9) wPost.bnd.tag } }

/-- Carrel 4 of port 3 and PASID 7 is FROZEN, and core A leads. -/
def wMbx : State := (((wFw.set SEC_BOOT_STS.READY 0 1).set CRL_CFG.PORT 4 3).set CRL_CFG.PASID 4 7).set CRL_CFG.STATE 4 3

/-- Port 3 is an UP port and port 9 a DN port whose two logical devices are bindable; core A leads. -/
def wFm : State :=
  ((wImg [(1, 96, 1), (1, 288, 2), (1, 289, 32), (1, 300, 3)]).set LIB_CORE_STS.STATE 0 1).set LIB_CORE_STS.LEAD 0 1

/-- The I3C target responds. -/
def wI3c : State := { w with boot := { w.boot with resume := 0 } }

/-- The start is at a step. -/
def wStep (n : Nat) : State := { w.set KPR_STS.STEP 0 n with boot := { w.boot with starting := true } }
def wOrder : State := { w.set KPR_STS.STEP 0 4 with boot := { w.boot with starting := true, order := [0, 1] } }
def wReady : State :=
  let s := (List.range 4).foldl (fun s r => (s.set LIB_CORE_STS.STATE r 1).set GRN_CTL.READY r 1) (wStep 9)
  let s := (List.range 16).foldl (fun s k => s.setWord .SWC_SPN_STS k 0) s
  { s with boot := { s.boot with late := true } }

/-- New starts of slots are permitted. -/
def wPw : State := { w with boot := { w.boot with perst := true, warm := true, down := 0 } }

/-- The addresses of GRN_DCAP[1] and GRN_ECC_STS[1] in the register space. -/
def aGrn : BitVec 32 := 0x2400004
def aEcc : BitVec 32 := 0x2400020

/-- A tracker that snoops two sharers, whose first has died; and an entry whose owner is dead. -/
def qOwn : Request := { kind := .rdOwn, a := acc fa5, srec := 0x7002015, ticket := 1 }
def tTwo : Tracker := { purpose := .request qOwn, line := fa5, phase := .work, entry := mkEntry 1 1 true [20, 24], await := [(20, .inv), (24, .inv)] }
def wDying : State := (w.setTrk 8192 (some tTwo)).inCat fun c => { c with dying := [(20, .all)] }
def wDeadOwner : State := (wHome (mkEntry (catTag fa5) 3 false [12] :: List.replicate 15 0)).inCat fun c =>
  { c with walk := [(1, ⟨true, 5⟩)], dead := [(12, some ⟨.all, [1]⟩)], filter := [(1036, BitVec.ofNat 1024 (2 ^ (catIndex fa5 / 65536)))] }

/-- A write went over Zwius link 2; and links 2 and 5 lead to the same unit. -/
def rOut : ReqOut := { agent := 12, tag := 7, addr := 4096, write := true, d := none }
def wRemote : State := ((wZl 2).setTrk 0 (some { purpose := .remote 12 7, line := 4096, phase := .work })).inCat fun c => { c with zreq := [⟨2, rOut, false⟩] }
def wTwoLinks : State :=
  (((wImg [(1, 32 * zPort 2, 3), (1, 32 * zPort 5, 3)]).set PRT_PORT_STS.STATE (zPort 2) 4).set PRT_PORT_STS.STATE (zPort 5) 4).inCat fun c =>
    { c with peer := [(2, 4), (5, 4)], zreq := [⟨2, rOut, false⟩] }

/-- A flow unit as it is received without an error on a link of three lanes. -/
def wireOf (num : Nat) (body : List Byte) : WireUnit :=
  { blocks := (quarters (unitSummed num body ++ List.replicate 6 0)).map (fun b => ⟨[1, 1, 1], b⟩) }
def wireIdle (num : Nat) : WireUnit := wireOf num (unitBody unitIdle 0 0 [] [])
def wireData (num tc dest : Nat) : WireUnit := wireOf num (unitBody unitData tc dest [7] [])

/-- DN port 3 with CXL.mem, UP port 5 with room in its outputs. -/
def wFlit : State :=
  (((((wImg [(1, 96, 2), (1, 160, 1)]).set PRT_PORT_STS.STATE 3 4).set PRT_PORT_STS.STATE 5 4).set LNK_STS.MEM 3 1).set TFC_HIST_CTL.EN 0 0).set
    SWC_VOQ_LIM.LIMIT 30 4

/-- A VCS of UP port 3 owns logical device 4 of DN port 9 by entry 5 of region A, for buses 1 to 9; the machine is ready. -/
def wVcs : State :=
  ((((wImg [(1, 96, 1), (1, 288, 2)]).set PRT_PORT_STS.STATE 3 4).set PRT_PORT_STS.STATE 9 4).set SEC_BOOT_STS.READY 0 1).sw fun x =>
    { x with rt := [(5, 1 + 3 * 4 + 9 * 256 + 4 * 2 ^ 14 + 1 * 2 ^ 32 + 9 * 2 ^ 40)] }

/-- An empty record for carrel 0 of port 0 lies in HBM. -/
def wRstHbm : State := (wRst.writeHbm (recordAt 0 0) recEmpty).set CRL_CMD.DEST 0 0

/-- The addresses of PRT_PORT_CTL[3] and LIB_MPU_BASE[0]. -/
def aPrt3 : Nat := 0x1100130
def aMpu : Nat := 0x1A00100

/-- The mailbox of port 3 waits for the record that it has asked its host for; and that wait over. -/
def wMbxReads : State :=
  let x := wMbx.mbxGiven 3 0xC004 (mbxWho 3 0 7 ++ (leBytes 4 1 ++ leBytes 8 9 ++ leBytes 4 5))
  { x with lib := { x.lib with mbxRun := [(3, 0xC004, 0)] } }
def wMbxGone : State := { wMbxReads with lib := { wMbxReads.lib with mbxRun := [] } }

/-- Handler 0 of core A asks for the re-shelving of shelf 5 (op START) to port 7. -/
def wRshSvc : State := (wSvc 16 [(0x228 / 4, 5), (0x22C / 4, 1), (0x224 / 4, 5), (0x200 / 4, 1), (0x208 / 4, 0x70000)]).putSrec 5 0x11

/-- Channel 31 is enabled and ON. -/
def wSpOn : State := ((w.set SPW_CFG0.EN 31 1).set SPW_STS.STATE 31 6).set SPW_BUS_CTL.OFF_LVL 0 900

/-! Every statement's hypotheses are met together (the number is the clause). -/

theorem test_meets_StepRunsTheFrontCommand_2 : ∃ (s : State), (s.pending = []) ∧ (s.tfc.slew = 0) ∧ (∀ z < 8, s.get ZWL_STS.STATE z = 0) ∧ (s.bindQuiet) :=
  ⟨{ (w.set CRS_CLK_STS.ROOT_LOCK 0 5) with pending := [], time := [(2, 2 ^ 64 - 1)] }, by decide +kernel⟩
theorem test_meets_ShelfRecordCommands_1 : ∃ (s : State) (p : Path) (r : Region) (x : Shelf), (s.admits p (bndSet r)) ∧ (s.flag BND_SREC_CMD.BUSY r = false) ∧ (x.toNat % 4 = r.val) :=
  ⟨w.putSrec 6 0x123456789ABCDEF0011, .librarian, 2, 6, by decide +kernel⟩
theorem test_meets_ShelfRecordCommands_2 : ∃ (s : State) (p : Path) (r : Region) (x : Shelf), (s.admits p (bndSet r)) ∧ (s.flag BND_SREC_CMD.BUSY r = false) ∧ (x.toNat % 4 ≠ r.val) :=
  ⟨w.putSrec 5 0x11, .librarian, 2, 5, by decide +kernel⟩
theorem test_meets_ShelfRecordCommands_3 : ∃ (s : State) (p : Path) (r : Region) (x : Shelf), (s.admits p (bndSet r)) ∧ (s.flag BND_SREC_CMD.BUSY r = true) :=
  ⟨w.set BND_SREC_CMD.BUSY 3 1, .librarian, 3, 0xFFFFF, by decide +kernel⟩
theorem test_meets_ShelfRecordCommands_4 : ∃ (s : State) (p : Path) (r : Region) (x : Shelf), (s.admits p (bndSet r)) ∧ (s.flag BND_SREC_CMD.BUSY r = false) ∧ (srecResult s r x.toNat (srecStaged s r) = 0) ∧ (rget (s.srec x.toNat) rState = 3) ∧ (s.rshSlot x.toNat = none) :=
  ⟨((wImg []).putSrec 5 0x13).setWord .BND_SREC_D 4 0x11, .librarian, 1, 5, by decide +kernel⟩
theorem test_meets_ShelfRecordCommands_5 : ∃ (s : State) (p : Path) (r : Region) (x : Shelf) (k : Nat), (s.admits p (bndSet r)) ∧ (s.flag BND_SREC_CMD.BUSY r = false) ∧ (srecResult s r x.toNat (srecStaged s r) = 0) ∧ (rget (s.srec x.toNat) rState = 3) ∧ (s.rshSlot x.toNat = some k) ∧ ((Tab.get ({} : RshSlot) s.bnd.rsh k) = ⟨true, x.toNat, false, []⟩) ∧ (s.handlerOf (k / 16) 5 = none) ∧ (s.grn.wbuf = []) :=
  ⟨{ (((wImg []).putSrec 5 0x10013).setWord .BND_SREC_D 4 0x10011) with bnd := { (((wImg []).putSrec 5 0x10013).setWord .BND_SREC_D 4 0x10011).bnd with rsh := [(17, ⟨true, 5, false, []⟩)] } }, .librarian, 1, 5, 17, by decide +kernel⟩
theorem test_meets_ShelfRecordCommands_6 : ∃ (s : State) (p : Path) (r : Region) (x : Shelf), (s.admits p (bndSet r)) ∧ (s.flag BND_SREC_CMD.BUSY r = false) ∧ (srecResult s r x.toNat (srecStaged s r) = 0) ∧ (rget (s.srec x.toNat) rState ≠ 3) :=
  ⟨w.setWord .BND_SREC_D 4 0x11, .librarian, 1, 0xFFFFD, by decide +kernel⟩
theorem test_meets_ShelfRecordCommands_7 : ∃ (s : State) (p : Path) (r : Region) (x : Shelf), (s.admits p (bndSet r)) ∧ (s.flag BND_SREC_CMD.BUSY r = false) ∧ (srecResult s r x.toNat (srecStaged s r) ≠ 0) ∧ (srecResult s r x.toNat (srecStaged s r) = 2 → rget (srecStaged s r) rHome = x.toNat % 4) :=
  ⟨w, .librarian, 3, 0xFFFFC, by decide +kernel⟩
theorem test_meets_ShelfRecordCommands_8 : ∃ (s : State) (p : Path) (r : Region) (x : Shelf), (s.admits p (bndSet r)) ∧ (s.flag BND_SREC_CMD.BUSY r = false) ∧ (x.toNat % 4 = r.val) ∧ (rget (srecStaged s r) rHome ≠ r.val) :=
  ⟨w, .librarian, 3, 0xFFFFF, by decide +kernel⟩
theorem test_meets_ShelfRecordCommands_9 : ∃ (s : State) (p : Path) (a : BitVec 32) (d : BitVec 64) (i : Nat), (s.writeReaches p a (.reg .BND_SREC_CMD i)) :=
  ⟨w, .librarian 0, 18874384, 2 ^ 24 + 5, 0, by decide +kernel⟩
theorem test_meets_ShelfRecordCommands_10 : ∃ (s : State) (p : Path) (r : Region) (x : Shelf), (s.mayWrite p = false) :=
  ⟨wFw, .i3c, 1, 5, by decide +kernel⟩
theorem test_meets_GroupCommands_1 : ∃ (s : State) (p : Path) (r : Region) (g : BitVec 12), (s.admits p (bndSet r)) ∧ (s.flag BND_GRP_CMD.BUSY r = true) :=
  ⟨w.set BND_GRP_CMD.BUSY 0 1, .librarian, 0, 4095, by decide +kernel⟩
theorem test_meets_GroupCommands_2 : ∃ (s : State) (r : Region), ((Tab.get (0, 0) s.bnd.grpPend r).1 = 0) :=
  ⟨w, 3, by decide +kernel⟩
theorem test_meets_GroupCommands_3 : ∃ (s : State) (p : Path) (r : Region) (g : BitVec 12), (s.admits p (bndSet r)) ∧ (s.flag BND_GRP_CMD.BUSY r = false) :=
  ⟨w.putGroup 4095 7, .librarian, 3, 4095, by decide +kernel⟩
theorem test_meets_GroupCommands_4 : ∃ (s : State) (p : Path) (r : Region) (g : BitVec 12), (s.admits p (bndSet r)) ∧ (s.flag BND_GRP_CMD.BUSY r = false) :=
  ⟨w, .librarian, 0, 0, by decide +kernel⟩
theorem test_meets_GroupCommands_5 : ∃ (s : State) (r : Region) (g : Nat) (b : BitVec 256), (Tab.get (0, 0) s.bnd.grpPend r = (g + 1, b)) ∧ (g < 4096) :=
  ⟨{ w with bnd := { w.bnd with grpPend := [(2, (4096, 9))] } }, 2, 4095, 9, by decide +kernel⟩
theorem test_meets_GroupCommands_6 : ∃ (s : State) (p : Path) (a : BitVec 32) (d : BitVec 64) (i : Nat), (s.writeReaches p a (.reg .BND_GRP_CMD i)) :=
  ⟨w, .librarian 0, 18874432, 2 ^ 24 + 5, 0, by decide +kernel⟩
theorem test_meets_GroupCommands_7 : ∃ (s : State) (p : Path) (r : Region) (x : BitVec 12), (s.mayWrite p = false) :=
  ⟨wFw, .i3c, 1, 5, by decide +kernel⟩
theorem test_meets_AccessRuleCommands_1 : ∃ (s : State) (p : Path) (r : Region) (n : BitVec 12), (s.admits p (bndSet r)) ∧ (s.flag BND_RULE_CMD.BUSY r = false) ∧ (ruleLock (s.ruleOf r n.toNat) = false) ∧ (ruleGood (ruleStaged s r) r = false) :=
  ⟨w.setWord .BND_RULE_D 8 0x30, .librarian, 2, 4095, by decide +kernel⟩
theorem test_meets_AccessRuleCommands_2 : ∃ (s : State) (p : Path) (r : Region) (n : BitVec 12), (s.admits p (bndSet r)) ∧ (s.flag BND_RULE_CMD.BUSY r = true) :=
  ⟨w.set BND_RULE_CMD.BUSY 2 1, .librarian, 2, 7, by decide +kernel⟩
theorem test_meets_AccessRuleCommands_3 : ∃ (s : State) (p : Path) (r : Region) (n : BitVec 12), (s.admits p (bndSet r)) ∧ (s.flag BND_RULE_CMD.BUSY r = false) :=
  ⟨w.setRule 0 4095 0xFF, .librarian, 0, 4095, by decide +kernel⟩
theorem test_meets_AccessRuleCommands_4 : ∃ (s : State) (p : Path) (r : Region) (n : BitVec 12), (s.admits p (bndSet r)) ∧ (s.flag BND_RULE_CMD.BUSY r = false) ∧ (ruleLock (s.ruleOf r n.toNat) = false) ∧ (ruleGood (ruleStaged s r) r = true) :=
  ⟨w.setWord .BND_RULE_D 0 0xD, .librarian, 0, 4095, by decide +kernel⟩
theorem test_meets_AccessRuleCommands_5 : ∃ (s : State) (p : Path) (r : Region) (n : BitVec 12), (s.admits p (bndSet r)) ∧ (s.flag BND_RULE_CMD.BUSY r = false) ∧ (ruleLock (s.ruleOf r n.toNat) = false) :=
  ⟨w.setRule 3 0 1, .librarian, 3, 0, by decide +kernel⟩
theorem test_meets_AccessRuleCommands_6 : ∃ (s : State) (p : Path) (r : Region) (n : BitVec 12), (s.admits p (bndSet r)) ∧ (s.flag BND_RULE_CMD.BUSY r = false) ∧ (ruleLock (s.ruleOf r n.toNat) = true) :=
  ⟨w.setRule 3 1 3, .librarian, 3, 1, by decide +kernel⟩
theorem test_meets_AccessRuleCommands_7 : ∃ (s : State) (p : Path) (a : BitVec 32) (d : BitVec 64) (i : Nat), (s.writeReaches p a (.reg .BND_RULE_CMD i)) :=
  ⟨w, .librarian 0, 18874464, 2 ^ 24 + 2 ^ 13 + 5, 0, by decide +kernel⟩
theorem test_meets_AccessRuleCommands_8 : ∃ (s : State) (p : Path) (a : BitVec 32) (d : BitVec 64) (i : Nat), (s.writeReaches p a (.reg .BND_FAULT_INFO i)) :=
  ⟨w, .librarian 0, 18874504, 2 ^ 31, 0, by decide +kernel⟩
theorem test_meets_AccessRuleCommands_9 : ∃ (s : State) (p : Path) (r : Region) (x : BitVec 12), (s.mayWrite p = false) :=
  ⟨wFw, .i3c, 1, 5, by decide +kernel⟩
theorem test_meets_BarrierSlots_1 : ∃ (s : State) (p : Path) (r : Region) (all : Bool) (x : Shelf) (k : Nat), (s.admits p (bndSet r)) ∧ (k < 16) ∧ (∀ j < k, (s.barSlot r j).busy = true ∨ (s.get BND_BAR_STS.DONE r).testBit j = true) ∧ ((s.barSlot r k).busy = false) ∧ ((s.get BND_BAR_STS.DONE r).testBit k = false) :=
  ⟨{ w.setBits BND_BAR_STS.DONE 1 1 with bnd := { w.bnd with owed := [(5, 1), (6, 2)], owedAll := [9] } }, .librarian, 1, true, 5, 1, by decide +kernel⟩
theorem test_meets_BarrierSlots_2 : ∃ (s : State) (p : Path) (r : Region) (all : Bool) (x : Shelf) (k : Nat), (s.admits p (bndSet r)) ∧ (k < 16) ∧ (∀ j < k, (s.barSlot r j).busy = true ∨ (s.get BND_BAR_STS.DONE r).testBit j = true) ∧ ((s.barSlot r k).busy = false) ∧ ((s.get BND_BAR_STS.DONE r).testBit k = false) :=
  ⟨w.setBits BND_BAR_STS.DONE 1 0x7FFF, .librarian, 1, false, 5, 15, by decide +kernel⟩
theorem test_meets_BarrierSlots_3 : ∃ (s : State) (p : Path) (r : Region) (all : Bool) (x : Shelf), (s.admits p (bndSet r)) ∧ (∀ j < 16, (s.barSlot r j).busy = true ∨ (s.get BND_BAR_STS.DONE r).testBit j = true) :=
  ⟨(w.setBits BND_BAR_STS.DONE 1 0xFFFE).setBar 1 0 { busy := true }, .librarian, 1, true, 5, by decide +kernel⟩
theorem test_meets_BarrierSlots_4 : ∃ (s : State) (r : Region) (k : Fin 16), ((s.barSlot r k).busy = true) ∧ ((s.barSlot r k).waits = []) ∧ (s.bindQuiet) ∧ (∀ o ∈ (s.barSlot r k).covers, rget (s.srec o.1) rState ≠ 2 ∨ rget (s.srec o.1) rMode ≠ 1) :=
  ⟨{ (w.setBar 2 15 { busy := true, covers := [(6, 1)] }) with bnd := { (w.setBar 2 15 { busy := true, covers := [(6, 1)] }).bnd with owed := [(6, 1), (10, 2)] } }, 2, 15, by decide +kernel⟩
theorem test_meets_BarrierSlots_5 : ∃ (s : State) (r : Region) (k : Fin 16), ((s.barSlot r k).busy = false ∨ (s.barSlot r k).waits ≠ []) ∧ (s.bindQuiet) :=
  ⟨w.setBar 2 15 { busy := true, waits := [(3, 6)] }, 2, 15, by decide +kernel⟩
theorem test_meets_BarrierSlots_6 : ∃ (s : State) (r : Region) (k : Fin 16), ((s.barSlot r k).busy = false) ∧ (s.bindQuiet) :=
  ⟨w.setBar 2 14 { busy := true, waits := [(3, 6)] }, 2, 15, by decide +kernel⟩
theorem test_meets_BarrierSlots_7 : ∃ (s : State) (r : Region) (k : Fin 16) (xs : List Nat), ((s.barSlot r k).busy = true) ∧ ((s.barSlot r k).covers = []) ∧ ((xs = if (s.barSlot r k).all then ((s.barSlot r k).waits.map (fun x => x.2)).dedup else [(s.barSlot r k).shelf])) ∧ (s.bindQuiet) ∧ (s.handlerOf r 4 = none) ∧ (xs ≠ []) :=
  ⟨((w.setBar 2 0 { busy := true, kind := 1, all := true, waits := [(4, 6), (5, 10), (7, 6)] }).putSrec 6 1).putSrec 10 1, 2, 0, [10, 6], by decide +kernel⟩
theorem test_meets_BarrierSlots_8 : ∃ (s : State) (p : Path) (r : Region) (m : BitVec 16), (s.admits p (bndSet r)) :=
  ⟨w.setBits BND_BAR_STS.DONE 1 0xF0F3, .librarian, 1, 0x8001, by decide +kernel⟩
theorem test_meets_BarrierSlots_9 : ∃ (s : State) (p : Path) (a : BitVec 32) (d : BitVec 64) (i : Nat), (s.writeReaches p a (.reg .BND_BAR_CMD i)) :=
  ⟨w, .librarian 0, 18874480, 2 ^ 24 + 2 ^ 21 + 5, 0, by decide +kernel⟩
theorem test_meets_BarrierSlots_10 : ∃ (s : State) (p : Path) (r : Region) (all : Bool) (x : Shelf) (m : BitVec 16), (s.mayWrite p = false) :=
  ⟨wFw, .i3c, 1, false, 5, 3, by decide +kernel⟩
theorem test_meets_ReshelvingSlots_1 : ∃ (s : State) (p : Path) (r : Region) (k : Fin 16) (x : Shelf) (th : BitVec 5) (e : Nat), (s.admits p (bndSet r)) ∧ (th.toNat ≤ 16) ∧ (rshRefused s r (16 * r.val + k.val) x.toNat = some e) :=
  ⟨wRsh.set BND_RSH_STS.PHASE 31 2, .librarian, 1, 15, 5, 16, 10, by decide +kernel⟩
theorem test_meets_ReshelvingSlots_2 : ∃ (s : State) (p : Path) (r : Region) (k : Fin 16) (x : Shelf) (th : BitVec 5), (s.admits p (bndSet r)) ∧ (16 < th.toNat) ∧ (rshRefused s r (16 * r.val + k.val) x.toNat = none) :=
  ⟨wRsh, .librarian, 1, 15, 5, 31, by decide +kernel⟩
theorem test_meets_ReshelvingSlots_3 : ∃ (s : State) (p : Path) (r : Region) (k : Fin 16), (s.admits p (bndSet r)) ∧ ((Tab.get ({} : RshSlot) s.bnd.rsh (16 * r.val + k.val)).active = true) ∧ (s.get BND_RSH_STS.PHASE (16 * r.val + k.val) = 1) ∧ (s.get BND_RSH_STS.MARKED (16 * r.val + k.val) ≤ s.get BND_RSH_CTL.THRESH (16 * r.val + k.val)) ∧ (s.olderRemain (Tab.get ({} : RshSlot) s.bnd.rsh (16 * r.val + k.val)).shelf = true) :=
  ⟨{ w.set BND_RSH_STS.PHASE 17 1 with bnd := { w.bnd with rsh := [(17, ⟨true, 5, false, []⟩)] }, cat := { w.cat with voq := [(1, { kind := .wr, a := acc fa5, ticket := 3, srec := 0x20000000000000000 })] } }, .librarian, 1, 1, by decide +kernel⟩
theorem test_meets_ReshelvingSlots_4 : ∃ (s : State) (p : Path) (r : Region) (k : Fin 16), (s.admits p (bndSet r)) ∧ ((Tab.get ({} : RshSlot) s.bnd.rsh (16 * r.val + k.val)).active = false ∨ s.get BND_RSH_STS.PHASE (16 * r.val + k.val) ≠ 1 ∨ s.get BND_RSH_CTL.THRESH (16 * r.val + k.val) < s.get BND_RSH_STS.MARKED (16 * r.val + k.val)) :=
  ⟨(w.set BND_RSH_STS.PHASE 17 1).set BND_RSH_STS.MARKED 17 17, .librarian, 1, 1, by decide +kernel⟩
theorem test_meets_ReshelvingSlots_5 : ∃ (s : State) (p : Path) (r : Region) (k : Fin 16), (s.admits p (bndSet r)) ∧ ((Tab.get ({} : RshSlot) s.bnd.rsh (16 * r.val + k.val)).active = false) :=
  ⟨w, .librarian, 1, 1, by decide +kernel⟩
theorem test_meets_ReshelvingSlots_6 : ∃ (s : State) (r : Region) (k : Fin 16), ((Tab.get ({} : RshSlot) s.bnd.rsh (16 * r.val + k.val)).active = false ∨ (Tab.get ({} : RshSlot) s.bnd.rsh (16 * r.val + k.val)).stall = false ∨ s.grn.writes.any (fun x => x.held.isNone && shelfOf x.line == (Tab.get ({} : RshSlot) s.bnd.rsh (16 * r.val + k.val)).shelf) = true) :=
  ⟨{ w with bnd := { w.bnd with rsh := [(17, ⟨true, 5, false, []⟩)] } }, 1, 1, by decide +kernel⟩
theorem test_meets_ReshelvingSlots_7 : ∃ (s : State) (r : Region) (k : StallEnd), ((Tab.get ({} : RshSlot) s.bnd.rsh (16 * r.val + k.slot.val)).active = false ∨ (Tab.get ({} : RshSlot) s.bnd.rsh (16 * r.val + k.slot.val)).stall = false) :=
  ⟨{ w with bnd := { w.bnd with rsh := [(17, ⟨true, 5, false, []⟩)] } }, 1, ⟨1, 3⟩, by decide +kernel⟩
theorem test_meets_ReshelvingSlots_8 : ∃ (s : State) (r : Region) (k : StallEnd) (x n : Nat), (n = 16 * r.val + k.slot.val) ∧ (Tab.get ({} : RshSlot) s.bnd.rsh n = ⟨true, x, true, []⟩) ∧ (rget (s.srec x) rState = 3) ∧ (s.grn.wbuf = []) ∧ (s.handlerOf (n / 16) 5 = none) ∧ (s.get BND_RSH_STS.ATTEMPTS n = 3) :=
  ⟨{ w.set BND_RSH_STS.ATTEMPTS 17 3 with bnd := { w.bnd with rsh := [(17, ⟨true, 5, true, []⟩)], shelf := [(5, 0x10013)] } }, 1, ⟨1, 0⟩, 5, 17, by decide +kernel⟩
theorem test_meets_ReshelvingSlots_9 : ∃ (s : State) (p : Path) (r : Region) (k : Fin 16) (x : Shelf) (th : BitVec 5), (s.admits p (bndSet r)) ∧ (th.toNat ≤ 16) ∧ (rshRefused s r (16 * r.val + k.val) x.toNat = none) :=
  ⟨wRsh, .librarian, 1, 15, 5, 16, by decide +kernel⟩
theorem test_meets_ReshelvingSlots_10 : ∃ (s : State) (p : Path) (r : Region) (k : Fin 16), (s.admits p (bndSet r)) ∧ ((Tab.get ({} : RshSlot) s.bnd.rsh (16 * r.val + k.val)).active = true) ∧ (s.get BND_RSH_STS.PHASE (16 * r.val + k.val) = 1) ∧ (s.get BND_RSH_STS.MARKED (16 * r.val + k.val) ≤ s.get BND_RSH_CTL.THRESH (16 * r.val + k.val)) ∧ (s.olderRemain (Tab.get ({} : RshSlot) s.bnd.rsh (16 * r.val + k.val)).shelf = false) :=
  ⟨{ w.set BND_RSH_STS.PHASE 17 1 with bnd := { w.bnd with rsh := [(17, ⟨true, 5, false, []⟩)] } }, .librarian, 1, 1, by decide +kernel⟩
theorem test_meets_ReshelvingSlots_11 : ∃ (s : State) (p : Path) (r : Region) (k : Fin 16) (x : Nat), (s.admits p (bndSet r)) ∧ (Tab.get ({} : RshSlot) s.bnd.rsh (16 * r.val + k.val) = ⟨true, x, false, []⟩) ∧ (rget (s.srec x) rState = 3) ∧ (s.handlerOf r 5 = none) ∧ (s.grn.wbuf = []) :=
  ⟨{ w with bnd := { w.bnd with rsh := [(17, ⟨true, 5, false, []⟩)], shelf := [(5, 0x10013)] } }, .librarian, 1, 1, 5, by decide +kernel⟩
theorem test_meets_ReshelvingSlots_12 : ∃ (s : State) (r : Region) (k : Fin 16) (x : Nat), (Tab.get ({} : RshSlot) s.bnd.rsh (16 * r.val + k.val) = ⟨true, x, true, []⟩) ∧ (s.grn.writes.any (fun x_ => x_.held.isNone && shelfOf x_.line == x) = false) ∧ (s.grn.wbuf = []) ∧ (s.handlerOf r 5 = none) :=
  ⟨{ w with bnd := { w.bnd with rsh := [(17, ⟨true, 5, true, []⟩)], shelf := [(5, 0x10013)] }, hbm := [(bitmapAt 17 + 3, 0x81)] }, 1, 1, 5, by decide +kernel⟩
theorem test_meets_ReshelvingSlots_13 : ∃ (s : State) (r : Region) (k : StallEnd) (x n : Nat), (n = 16 * r.val + k.slot.val) ∧ (Tab.get ({} : RshSlot) s.bnd.rsh n = ⟨true, x, true, []⟩) ∧ (s.grn.wbuf = []) ∧ (s.get BND_RSH_STS.ATTEMPTS n < 3) :=
  ⟨{ w.set BND_RSH_STS.ATTEMPTS 17 2 with bnd := { w.bnd with rsh := [(17, ⟨true, 5, true, []⟩)], shelf := [(5, 0x10013)] }, hbm := [(bitmapAt 17 + 3, 0x83)] }, 1, ⟨1, 2⟩, 5, 17, by decide +kernel⟩
theorem test_meets_ReshelvingSlots_14 : ∃ (s : State) (p : Path) (a : BitVec 32) (d : BitVec 64) (i : Nat), (s.writeReaches p a (.reg .BND_RSH_CTL i)) :=
  ⟨w, .librarian 0, 18874624, 2 ^ 27 + 2 ^ 26 + 5, 0, by decide +kernel⟩
theorem test_meets_ReshelvingSlots_15 : ∃ (s : State) (p : Path) (r : Region) (k : Fin 16) (x : Shelf) (th : BitVec 5), (s.mayWrite p = false) :=
  ⟨wFw, .i3c, 1, 2, 5, 3, by decide +kernel⟩
theorem test_meets_DynamicCapacityAnswers_1 : ∃ (s : State) (port : Port) (l r : List AddPend) (a : AddPend), (s.bnd.adds = l ++ a :: r) ∧ (a.port = port.val) ∧ (l.all (fun a => a.port != port.val) = true) ∧ (s.handlerOf s.lead 2 = none) ∧ (s.bnd.addWait = []) ∧ (s.bnd.taken = []) ∧ (s.lib.heldReply = []) :=
  ⟨{ w with bnd := { w.bnd with adds := [⟨4, 30, 1, 0, 9⟩, ⟨3, 8, 2, 0, 4⟩, ⟨3, 12, 1, 0, 5⟩] } }, 3, [⟨4, 30, 1, 0, 9⟩], [⟨3, 12, 1, 0, 5⟩], ⟨3, 8, 2, 0, 4⟩, by decide +kernel⟩
theorem test_meets_DynamicCapacityAnswers_2 : ∃ (s : State) (port : Port) (a : AddPend) (h : Nat), (s.bnd.adds = [a]) ∧ (a.port = port.val) ∧ (s.handlerOf s.lead 2 = some h) ∧ (s.bnd.addWait = []) ∧ (s.bnd.taken = []) ∧ (s.lib.heldReply = []) ∧ (s.windowGone (tillerUnit h) = false) ∧ ((s.tiller h).spent = false) ∧ ((s.tiller h).events.length < 64) :=
  ⟨{ wFw with bnd := { wFw.bnd with adds := [⟨3, 5, 1, 0, 4⟩] } }, 3, ⟨3, 5, 1, 0, 4⟩, 16, by decide +kernel⟩
theorem test_meets_DynamicCapacityAnswers_3 : ∃ (s : State) (port : Port) (b : Bool), (s.bnd.adds.all (fun a => a.port != port.val) = true) :=
  ⟨{ w with bnd := { w.bnd with adds := [⟨4, 5, 1, 0, 4⟩] } }, 3, true, by decide +kernel⟩
theorem test_meets_DynamicCapacityAnswers_4 : ∃ (s : State) (port : Port) (x h : Nat), (s.bnd.adds = [⟨port.val, x, 1, 0, h⟩]) ∧ (s.handlerOf s.lead 2 = none) ∧ (s.boundTo port.val x = true) ∧ (s.bnd.addWait = []) ∧ (s.bnd.taken = []) ∧ (s.bnd.toRelease = []) ∧ (s.lib.heldReply = []) ∧ (Tab.get 0 s.bnd.tag x = 0) ∧ (srecResult s (x % 4) x (rput (s.srec x) rState 2) = 0) ∧ (rget (s.srec x) rState = 1) :=
  ⟨{ w with bnd := { w.bnd with adds := [⟨3, 5, 1, 0, 4⟩], shelf := [(5, 0x3011)] } }, 3, 5, 4, by decide +kernel⟩
theorem test_meets_DynamicCapacityAnswers_5 : ∃ (s : State) (port : Port) (x h : Nat), (s.bnd.adds = [⟨port.val, x, 1, 0, h⟩]) ∧ (s.handlerOf s.lead 2 = none) ∧ (s.boundTo port.val x = true) ∧ (s.bnd.addWait = []) ∧ (s.bnd.taken = []) ∧ (s.bnd.toRelease = []) ∧ (s.lib.heldReply = []) ∧ (srecResult s (x % 4) x (rput (s.srec x) rState 2) = 4) :=
  ⟨{ w with bnd := { w.bnd with adds := [⟨3, 5, 1, 0, 4⟩], shelf := [(5, 0x3011)] }, cat := { w.cat with voq := [(1, { kind := .wr, a := acc fa5, ticket := 3, srec := 0x20000000000000000 })] } }, 3, 5, 4, by decide +kernel⟩
theorem test_meets_DynamicCapacityAnswers_6 : ∃ (s : State) (port : Port) (x g h : Nat), (s.bnd.adds = [⟨port.val, x, 1, g, h⟩]) ∧ (g ≠ 0) ∧ (s.handlerOf s.lead 2 = none) ∧ (s.boundTo port.val x = true) ∧ (s.bnd.addWait = []) ∧ (s.bnd.taken = []) ∧ (s.lib.heldReply = []) ∧ (rget (s.srec x) rMode ≠ 0) ∧ (putBits (Tab.get (0 : BitVec 256) s.bnd.group (4096 * (x % 4) + rget (s.srec x) rGroup)) (s.unit * 64 + port.val) 1 0 ≠ 0) :=
  ⟨{ ((w.putSrec 5 0x2015).putGroup 2 24) with bnd := { ((w.putSrec 5 0x2015).putGroup 2 24).bnd with adds := [⟨3, 5, 1, 7, 4⟩] } }, 3, 5, 7, 4, by decide +kernel⟩
theorem test_meets_DynamicCapacityAnswers_7 : ∃ (s : State) (port : Port) (x : Shelf) (n h : Nat), (s.leadRuns = true) ∧ (s.isUp port = true) ∧ (0 < n) ∧ (∀ i < n, s.boundTo port.val (x.toNat + i) = true) ∧ (s.policyTakes port.val 0 = true) ∧ (s.handlerOf s.lead 1 = some h) ∧ ((s.tiller h).spent = false) ∧ (s.windowGone (tillerUnit h) = false) ∧ ((s.tiller h).events.length < 64) :=
  ⟨(wFw.putSrec 5 0x3011).putSrec 6 0x3021, 3, 5, 2, 16, by decide +kernel⟩
theorem test_meets_DynamicCapacityAnswers_8 : ∃ (s : State) (port : Port) (x : Shelf) (n : Nat), (s.leadRuns = true) ∧ (s.isUp port = true) ∧ (n = 0 ∨ ∃ i < n, s.boundTo port.val (x.toNat + i) = false) :=
  ⟨wFw.putSrec 5 0x3011, 3, 5, 2, by decide +kernel⟩
theorem test_meets_DynamicCapacityAnswers_9 : ∃ (s : State) (port : Port) (x : Shelf) (n : Nat), (s.leadRuns = true) ∧ (s.isUp port = true) ∧ (0 < n) ∧ (∀ i < n, s.boundTo port.val (x.toNat + i) = true) ∧ (s.policyTakes port.val 0 = false) :=
  ⟨(wUp 3 |>.set LIB_CORE_STS.STATE 0 1 |>.set LIB_CORE_STS.LEAD 0 1).putSrec 5 0x3011, 3, 5, 1, by decide +kernel⟩
theorem test_meets_DynamicCapacityAnswers_10 : ∃ (s : State) (port : Port) (x : Shelf) (n : Nat), (s.leadRuns = false ∨ s.isUp port = false) :=
  ⟨w, 3, 5, 1, by decide +kernel⟩
theorem test_meets_HomeRequestsReading_1 : ∃ (s : State) (a : Access) (c : CatSet) (d : LineData) (k : Nat), (s.openFor a) ∧ (kindFits a.src .rdOwn .noOp = true) ∧ (rget (s.srec (shelfOf a.addr.toNat)) rMode = 1) ∧ (s.setReady a.addr.toNat c) ∧ (entryWay c.ways (catTag a.addr.toNat) = none) ∧ ((List.range 16).find? (fun j => eFree (c.ways.getD j 0)) = some k) ∧ (c.ways.length = 16) ∧ (s.cachedLine (homeOf a.addr.toNat) a.addr.toNat = some d) :=
  ⟨wHome (List.replicate 16 0), acc fa5, ⟨List.replicate 16 0, List.range 16, false⟩, ⟨9, false⟩, 0, by decide +kernel⟩
theorem test_meets_HomeRequestsReading_2 : ∃ (s : State) (a : Access) (c : CatSet) (d : LineData), (s.openFor a) ∧ (rget (s.srec (shelfOf a.addr.toNat)) rMode = 1) ∧ (s.setReady a.addr.toNat c) ∧ (entryWay c.ways (catTag a.addr.toNat) = none) ∧ (s.cachedLine (homeOf a.addr.toNat) a.addr.toNat = some d) ∧ (kindFits a.src .rdCur .noOp = true) :=
  ⟨wHome (List.replicate 16 0), acc fa5, ⟨List.replicate 16 0, List.range 16, false⟩, ⟨9, false⟩, by decide +kernel⟩
theorem test_meets_HomeRequestsReading_3 : ∃ (s : State) (a : Access) (c : CatSet) (k x : Nat), (s.openFor a) ∧ (rget (s.srec (shelfOf a.addr.toNat)) rMode = 1) ∧ (s.setReady a.addr.toNat c) ∧ (entryWay c.ways (catTag a.addr.toNat) = none) ∧ ((List.range 16).find? (fun j => eFree (c.ways.getD j 0)) = some k) ∧ (c.ways.length = 16) ∧ (s.cacher a = some x) :=
  ⟨wHome (List.replicate 16 0), acc fa5, ⟨List.replicate 16 0, List.range 16, false⟩, 0, 12, by decide +kernel⟩
theorem test_meets_HomeRequestsReading_4 : ∃ (s : State) (a : Access) (c : CatSet) (k x y : Nat), (s.openFor a) ∧ (rget (s.srec (shelfOf a.addr.toNat)) rMode = 1) ∧ (s.setReady a.addr.toNat c) ∧ (entryWay c.ways (catTag a.addr.toNat) = some k) ∧ (c.ways.getD k 0 = mkEntry (catTag a.addr.toNat) 3 false [y]) ∧ (c.ways.length = 16) ∧ (s.cacher a = some x) ∧ (y ≠ x) ∧ (y < 1024) :=
  ⟨wHome ((List.replicate 16 (0 : Entry)).set 3 (mkEntry (catTag fa5) 3 false [20])), acc fa5, ⟨((List.replicate 16 (0 : Entry)).set 3 (mkEntry (catTag fa5) 3 false [20])), List.range 16, false⟩, 3, 12, 20, by decide +kernel⟩
theorem test_meets_HomeRequestsReading_5 : ∃ (s : State) (a : Access) (c : CatSet) (d : LineData) (k x : Nat), (s.openFor a) ∧ (rget (s.srec (shelfOf a.addr.toNat)) rMode = 1) ∧ (s.setReady a.addr.toNat c) ∧ (entryWay c.ways (catTag a.addr.toNat) = some k) ∧ (eState (c.ways.getD k 0) = 1) ∧ (eBusy (c.ways.getD k 0) = false) ∧ (c.ways.length = 16) ∧ (s.cacher a = some x) ∧ (s.cachedLine (homeOf a.addr.toNat) a.addr.toNat = some d) :=
  ⟨wHome ((List.replicate 16 (0 : Entry)).set 3 (mkEntry (catTag fa5) 1 false [12, 20])), acc fa5, ⟨((List.replicate 16 (0 : Entry)).set 3 (mkEntry (catTag fa5) 1 false [12, 20])), List.range 16, false⟩, ⟨9, false⟩, 3, 12, by decide +kernel⟩
theorem test_meets_HomeRequestsReading_6 : ∃ (s : State) (a : Access) (d : LineData) (m : WbMeta) (be : BitVec 64), (s.mapped a = none) :=
  ⟨wDn 7, { acc fa5 with src := .pcieDev true, port := 7, dev := 5 }, ⟨1, false⟩, .i, 3, by decide +kernel⟩
theorem test_meets_HomeRequestsReading_7 : ∃ (s : State) (a b : Access) (d : LineData) (m : WbMeta), (s.mapped a = some b) ∧ (rget (s.srec (shelfOf b.addr.toNat)) rMode = 1) ∧ (kindFits b.src .rdOwn .noOp = false) :=
  ⟨wHome (List.replicate 16 0), { acc fa5 with src := .owner true }, { acc fa5 with src := .owner true }, ⟨1, false⟩, .i, by decide +kernel⟩
theorem test_meets_HomeRequestsWriting_1 : ∃ (s : State) (a : Access) (c : CatSet) (b d : LineData) (be : BitVec 64), (s.openFor a) ∧ (s.setReady a.addr.toNat c) ∧ (entryWay c.ways (catTag a.addr.toNat) = none) ∧ (s.cachedLine (homeOf a.addr.toNat) a.addr.toNat = some b) :=
  ⟨wHome (List.replicate 16 0), acc fa5, ⟨List.replicate 16 0, List.range 16, false⟩, ⟨9, false⟩, ⟨0xABCD, false⟩, 2, by decide +kernel⟩
theorem test_meets_HomeRequestsWriting_2 : ∃ (s : State) (a : Access) (c : CatSet) (b d : LineData) (m : WbMeta) (k x : Nat), (s.openFor a) ∧ (rget (s.srec (shelfOf a.addr.toNat)) rMode = 1) ∧ (s.setReady a.addr.toNat c) ∧ (entryWay c.ways (catTag a.addr.toNat) = some k) ∧ (c.ways.getD k 0 = mkEntry (catTag a.addr.toNat) 3 false [x]) ∧ (c.ways.length = 16) ∧ (s.cacher a = some x) ∧ (s.cachedLine (homeOf a.addr.toNat) a.addr.toNat = some b) ∧ (kindFits a.src .wb m = true) :=
  ⟨wHome ((List.replicate 16 (0 : Entry)).set 3 (mkEntry (catTag fa5) 3 false [12])), acc fa5, ⟨((List.replicate 16 (0 : Entry)).set 3 (mkEntry (catTag fa5) 3 false [12])), List.range 16, false⟩, ⟨9, false⟩, ⟨0xABCD, true⟩, .s, 3, 12, by decide +kernel⟩
theorem test_meets_HomeRequestsWriting_3 : ∃ (s : State) (a : Access) (c : CatSet) (k x : Nat), (s.openFor a) ∧ (rget (s.srec (shelfOf a.addr.toNat)) rMode = 1) ∧ (s.setReady a.addr.toNat c) ∧ (entryWay c.ways (catTag a.addr.toNat) = some k) ∧ (c.ways.getD k 0 = mkEntry (catTag a.addr.toNat) 3 false [x]) ∧ (c.ways.length = 16) ∧ (s.cacher a = some x) :=
  ⟨wHome ((List.replicate 16 (0 : Entry)).set 3 (mkEntry (catTag fa5) 3 false [12])), acc fa5, ⟨((List.replicate 16 (0 : Entry)).set 3 (mkEntry (catTag fa5) 3 false [12])), List.range 16, false⟩, 3, 12, by decide +kernel⟩
theorem test_meets_HomeRequestsWriting_4 : ∃ (s : State) (a : Access) (c : CatSet) (k x y : Nat), (s.openFor a) ∧ (rget (s.srec (shelfOf a.addr.toNat)) rMode = 1) ∧ (s.setReady a.addr.toNat c) ∧ (entryWay c.ways (catTag a.addr.toNat) = some k) ∧ (c.ways.getD k 0 = mkEntry (catTag a.addr.toNat) 1 false [x, y]) ∧ (x ≠ y) ∧ (c.ways.length = 16) ∧ (s.cacher a = some x) ∧ (y < 1024) :=
  ⟨wHome ((List.replicate 16 (0 : Entry)).set 3 (mkEntry (catTag fa5) 1 false [12, 20])), acc fa5, ⟨((List.replicate 16 (0 : Entry)).set 3 (mkEntry (catTag fa5) 1 false [12, 20])), List.range 16, false⟩, 3, 12, 20, by decide +kernel⟩
theorem test_meets_HomeRequestsWriting_5 : ∃ (s : State) (a : Access) (c : CatSet) (d : LineData) (be : BitVec 64) (k y : Nat), (s.openFor a) ∧ (rget (s.srec (shelfOf a.addr.toNat)) rMode = 1) ∧ (s.setReady a.addr.toNat c) ∧ (entryWay c.ways (catTag a.addr.toNat) = some k) ∧ (c.ways.getD k 0 = mkEntry (catTag a.addr.toNat) 3 false [y]) ∧ (c.ways.length = 16) ∧ (s.cacher a ≠ some y) ∧ (y < 1024) :=
  ⟨wHome ((List.replicate 16 (0 : Entry)).set 3 (mkEntry (catTag fa5) 3 false [20])), acc fa5, ⟨((List.replicate 16 (0 : Entry)).set 3 (mkEntry (catTag fa5) 3 false [20])), List.range 16, false⟩, ⟨1, false⟩, 2, 3, 20, by decide +kernel⟩
theorem test_meets_SnoopResponses_1 : ∃ (s : State) (r : Region) (n : Nat) (x : Tracker) (agent : Agent) (k : SnpKind) (rsp : SnpRsp) (e : Nat × SnpKind) (rest : List (Nat × SnpKind)), (s.trk (8192 * r.val + n % 8192) = some x) ∧ (x.await = (agent.toNat, k) :: e :: rest) ∧ (∀ y ∈ e :: rest, y.1 ≠ agent.toNat) ∧ (permits k rsp = true) ∧ (s.grn.roomed = []) :=
  ⟨w.setTrk 16383 (some ({ purpose := .evict, line := fa5, phase := .work, await := [(12, .inv), (16, .data)] } : Tracker)), 1, 8191, ({ purpose := .evict, line := fa5, phase := .work, await := [(12, .inv), (16, .data)] } : Tracker), 12, .inv, .i, (16, .data), [], by decide +kernel⟩
theorem test_meets_SnoopResponses_2 : ∃ (s : State) (r : Region) (x : Tracker) (agent : Agent) (c : CatSet) (j : Nat), (s.cat.trk = [(8192 * r.val + 7680, some x)]) ∧ (x.purpose = .evict) ∧ (x.phase = .work) ∧ (x.await = [(agent.toNat, .inv)]) ∧ (x.named = []) ∧ (x.chain = []) ∧ (x.taken = none) ∧ (homeOf x.line = r.val) ∧ (s.setReady x.line c) ∧ (entryWay c.ways (catTag x.line) = some j) ∧ (c.ways.length = 16) ∧ (s.cat.voq = []) ∧ (s.cat.inval = []) ∧ (s.grn.roomed = []) :=
  ⟨(wHome ((List.replicate 16 (0 : Entry)).set 3 (mkEntry (catTag fa5) 3 false [20]))).setTrk 15872 (some ({ purpose := .evict, line := fa5, phase := .work, await := [(20, .inv)] } : Tracker)), 1, ({ purpose := .evict, line := fa5, phase := .work, await := [(20, .inv)] } : Tracker), 20, ⟨((List.replicate 16 (0 : Entry)).set 3 (mkEntry (catTag fa5) 3 false [20])), List.range 16, false⟩, 3, by decide +kernel⟩
theorem test_meets_SnoopResponses_3 : ∃ (s : State) (r : Region) (n : Nat) (x : Tracker) (agent : Agent) (k : SnpKind) (rsp : SnpRsp) (e : Nat × SnpKind) (rest : List (Nat × SnpKind)), (s.trk (8192 * r.val + n % 8192) = some x) ∧ (x.await = (agent.toNat, k) :: e :: rest) ∧ (∀ y ∈ e :: rest, y.1 ≠ agent.toNat) ∧ (permits k rsp = false) ∧ (s.rgn r ≠ 2) ∧ (ePtrs x.entry ≠ [agent.toNat]) ∧ (agentUnit agent = s.unit) ∧ (s.role (agent.toNat / 4 % 64) ≠ 0) ∧ (s.get PRT_PORT_STS.STATE (agent.toNat / 4 % 64) = 4) ∧ (s.flag PRT_PORT_STS.GANGED (agent.toNat / 4 % 64) = false) :=
  ⟨(wUp 3).setTrk 16383 (some ({ purpose := .evict, line := fa5, phase := .work, await := [(12, .inv), (16, .data)] } : Tracker)), 1, 8191, ({ purpose := .evict, line := fa5, phase := .work, await := [(12, .inv), (16, .data)] } : Tracker), 12, .inv, .s, (16, .data), [], by decide +kernel⟩
theorem test_meets_SnoopResponses_4 : ∃ (s : State) (r : Region) (n : Nat) (agent : Agent) (rsp : SnpRsp) (d : Option LineData) (tag : NamedTag), ((s.trk (8192 * r.val + n % 8192)).all (fun x => x.await.all (fun e => e.1 != agent.toNat)) = true) :=
  ⟨w.setTrk 16383 (some ({ purpose := .evict, line := fa5, phase := .work, await := [(12, .inv), (16, .data)] } : Tracker)), 1, 8191, 13, .i, none, ⟨3, false⟩, by decide +kernel⟩
theorem test_meets_SnoopResponses_5 : ∃ (s : State) (r : Region) (n : Nat) (x : Tracker) (agent : Agent) (tag : NamedTag), (s.trk (8192 * r.val + n % 8192) = some x) ∧ (x.await.any (fun e => e.1 == agent.toNat) = true) ∧ (reached s x agent.toNat tag.tag tag.later = false) :=
  ⟨w.setTrk 8192 (some ({ purpose := .evict, line := fa5, phase := .work, await := [(12, .inv), (16, .data)] } : Tracker)), 1, 0, ({ purpose := .evict, line := fa5, phase := .work, await := [(12, .inv), (16, .data)] } : Tracker), 16, ⟨3, false⟩, by decide +kernel⟩
theorem test_meets_SnoopResponses_6 : ∃ (s : State) (r : Region) (n : Nat) (x : Tracker) (agent : Agent) (tag : NamedTag), (s.trk (8192 * r.val + n % 8192) = some x) ∧ (x.await.any (fun e => e.1 == agent.toNat) = true) ∧ (reached s x agent.toNat tag.tag tag.later = true) :=
  ⟨(w.setTrk 8192 (some ({ purpose := .evict, line := fa5, phase := .work, await := [(12, .inv), (16, .data)] } : Tracker))).inCat (fun c => { c with served := [(16 * 2 ^ 16 + 3, fa5 + 1)] }), 1, 0, ({ purpose := .evict, line := fa5, phase := .work, await := [(12, .inv), (16, .data)] } : Tracker), 16, ⟨3, false⟩, by decide +kernel⟩
theorem test_meets_SnoopResponses_7 : ∃ (s : State) (a : Access), (s.rgn (homeOf a.addr.toNat) ≠ 2) ∧ (s.get PRT_PORT_STS.STATE a.port = 4) ∧ (s.flag PRT_PORT_STS.GANGED a.port = false) ∧ (s.role a.port = 1) ∧ (s.cat.dead = []) ∧ (s.cat.dying = []) :=
  ⟨wUp 3, acc fa5, by decide +kernel⟩
theorem test_meets_SnoopResponses_8 : ∃ (s : State) (a : Access), (s.rgn (homeOf a.addr.toNat) ≠ 2) ∧ (s.get PRT_PORT_STS.STATE a.port = 4) ∧ (s.flag PRT_PORT_STS.GANGED a.port = false) ∧ (s.role a.port ≠ 0) :=
  ⟨wDn 7, { acc fa5 with src := .devCache, port := 7 }, by decide +kernel⟩
theorem test_meets_SnoopResponses_9 : ∃ (s : State) (a : Access), (s.rgn (homeOf a.addr.toNat) ≠ 2) ∧ (s.role a.port = 0) ∧ (s.flag PRT_PORT_STS.GANGED a.port = false) :=
  ⟨w, acc fa5, by decide +kernel⟩
theorem test_meets_DeskQueues_1 : ∃ (s : State) (r : Region) (i : SetRead) (f : Nat × List Nat), (s.cat.fills.find? (fun x => x.1 == catKey r i.index.toNat) = some f) ∧ (f.2 = []) ∧ (s.cachedSet r i.index.toNat = none) ∧ ((Tab.get [] s.cat.lru (2 ^ 14 * r.val + i.index.toNat % 2 ^ 14)).length < 12) ∧ (i.found = .good) ∧ (s.grn.roomed = []) :=
  ⟨{ w with cat := { w.cat with fills := [(catKey 1 0x3FFFFFF, [])] } }, 1, ⟨0x3FFFFFF, .good⟩, (catKey 1 0x3FFFFFF, []), by decide +kernel⟩
theorem test_meets_DeskQueues_2 : ∃ (s : State) (r : Region) (i : SetRead) (f : Nat × List Nat), (s.cat.fills.find? (fun x => x.1 == catKey r i.index.toNat) = some f) ∧ (f.2 = []) ∧ (s.cachedSet r i.index.toNat = none) ∧ ((Tab.get [] s.cat.lru (2 ^ 14 * r.val + i.index.toNat % 2 ^ 14)).length < 12) ∧ (i.found = .corrected) ∧ (s.grn.roomed = []) :=
  ⟨{ w with cat := { w.cat with fills := [(catKey 1 0x3FFFFFF, [])] } }, 1, ⟨0x3FFFFFF, .corrected⟩, (catKey 1 0x3FFFFFF, []), by decide +kernel⟩
theorem test_meets_DeskQueues_3 : ∃ (s : State) (r : Region) (i : SetRead), ((s.cat.fills.find? (fun x => x.1 == catKey r i.index.toNat)).isSome = true) ∧ (i.found = .uncorrectable) ∧ (s.rgn r ≠ 2) :=
  ⟨{ w with cat := { w.cat with fills := [(catKey 1 0x3FFFFFF, [])] } }, 1, ⟨0x3FFFFFF, .uncorrectable⟩, by decide +kernel⟩
theorem test_meets_DeskQueues_4 : ∃ (s : State) (r : Region) (i : SetRead), (s.cat.fills.find? (fun x => x.1 == catKey r i.index.toNat) = none) :=
  ⟨{ w with cat := { w.cat with fills := [(catKey 1 5, [])] } }, 1, ⟨6, .uncorrectable⟩, by decide +kernel⟩
theorem test_meets_DeskQueues_5 : ∃ (s : State) (r : Region) (e : Nat × Request), (s.cat.retry.find? (fun x => x.1 == r.val) = some e) ∧ (s.grn.roomed = []) :=
  ⟨{ w.setRgn 1 2 with cat := { w.cat with retry := [(1, { kind := .wr, a := acc fa5 })] } }, 1, (1, { kind := .wr, a := acc fa5 }), by decide +kernel⟩
theorem test_meets_DeskQueues_6 : ∃ (s : State) (r : Region) (e : Nat × Request), (s.cat.retry.find? (fun x => x.1 == r.val) = some e) ∧ (e.2.ticket = 0) ∧ (s.early e.2.a = false) ∧ (s.rgn (homeOf e.2.a.addr.toNat) = 2) ∧ (e.2.kind = .wr) ∧ (e.2.a.src = .host) ∧ (s.grn.roomed = []) :=
  ⟨{ (wUp 3 |>.set SEC_BOOT_STS.READY 0 1).setRgn 1 2 with cat := { w.cat with retry := [(1, { kind := .wr, a := acc fa5 })] } }, 1, (1, { kind := .wr, a := acc fa5 }), by decide +kernel⟩
theorem test_meets_DeskQueues_7 : ∃ (s : State) (r : Region), (s.cat.retry.all (fun x => x.1 != r.val) = true) :=
  ⟨{ w with cat := { w.cat with retry := [(2, { kind := .wr, a := acc fa5 })] } }, 1, by decide +kernel⟩
theorem test_meets_DeskQueues_8 : ∃ (s : State) (r : Region) (e : DdpEntry), (e ∈ s.cat.ddp) ∧ (e.region = r.val) ∧ (e.done = true) ∧ (∀ x ∈ s.cat.ddp, x.region = r.val → x.done = true → x ≠ e → e.fin < x.fin) ∧ (s.cat.ddpWait.all (fun x => x.1 != r.val) = true) :=
  ⟨{ w with cat := { w.cat with ddp := [{ region := 1, agent := 9, tag := 3, epoch := 0, shelf := 5, done := false }, { region := 1, agent := 9, tag := 5, epoch := 0, shelf := 5, done := true, fin := 4 }, { region := 1, agent := 9, tag := 4, epoch := 0, shelf := 5, done := true, fin := 3 }] } }, 1, { region := 1, agent := 9, tag := 4, epoch := 0, shelf := 5, done := true, fin := 3 }, by decide +kernel⟩
theorem test_meets_DeskQueues_9 : ∃ (s : State) (r : Region), (s.cat.ddp.all (fun x => x.region != r.val || !x.done) = true) :=
  ⟨{ w with cat := { w.cat with ddp := [{ region := 1, agent := 9, tag := 3, epoch := 0, shelf := 5, done := false }] } }, 1, by decide +kernel⟩
theorem test_meets_DeskQueues_10 : ∃ (s : State) (p : Path) (a : BitVec 32) (d : BitVec 64) (i : Nat), (s.writeReaches p a (.reg .CAT_ENT_CMD i)) :=
  ⟨w, .librarian 0, 19922960, 1, 0, by decide +kernel⟩
theorem test_meets_DeskQueues_11 : ∃ (s : State) (p : Path) (a : BitVec 32) (d : BitVec 64) (i : Nat), (s.writeReaches p a (.reg .CAT_PLG_CMD i)) :=
  ⟨w, .librarian 0, 19923048, 2 ^ 20 + 5, 0, by decide +kernel⟩
theorem test_meets_DeskQueues_12 : ∃ (s : State) (p : Path) (r : Region) (x : Shelf), (s.mayWrite p = false) :=
  ⟨wFw, .i3c, 1, 5, by decide +kernel⟩
theorem test_meets_DeskQueues_13 : ∃ (s : State) (p : Path) (r : Region) (x : Shelf), (s.admits p (catSet r)) :=
  ⟨(w.set CAT_ENT_CMD.BUSY 1 1).set CAT_PLG_CMD.BUSY 1 1, .librarian, 1, 5, by decide +kernel⟩
theorem test_meets_DeskQueues_14 : ∃ (s : State) (p : Path) (r : Region) (fa : Nat), (s.admits p (catSet r)) ∧ (s.flag CAT_ENT_CMD.BUSY r = false) ∧ (fa = (s.word .CAT_ENT_ADDR_LO r).toNat / 64 * 64 + s.get CAT_ENT_ADDR_HI.LINE_HI r * 2 ^ 32) ∧ (homeOf fa ≠ r.val) :=
  ⟨w, .librarian, 1, 0, by decide +kernel⟩
theorem test_meets_DeskQueues_15 : ∃ (s : State) (p : Path) (r : Region) (x : Shelf), (s.admits p (catSet r)) ∧ (s.flag CAT_PLG_CMD.BUSY r = false) ∧ (x.toNat % 4 ≠ r.val) :=
  ⟨w, .librarian, 3, 0xFFFFE, by decide +kernel⟩
theorem test_meets_DeskQueues_16 : ∃ (s : State) (p : Path) (r : Region) (fa : Nat), (s.admits p (catSet r)) ∧ (s.flag CAT_ENT_CMD.BUSY r = false) ∧ (fa = (s.word .CAT_ENT_ADDR_LO r).toNat / 64 * 64 + s.get CAT_ENT_ADDR_HI.LINE_HI r * 2 ^ 32) ∧ (homeOf fa = r.val) :=
  ⟨(wHome ((List.replicate 16 (0 : Entry)).set 3 (mkEntry (catTag fa5) 3 false [12]))).setWord .CAT_ENT_ADDR_LO 1 0x50000040, .librarian, 1, fa5, by decide +kernel⟩
theorem test_meets_DeskQueues_17 : ∃ (s : State) (p : Path) (r : Region) (x : Shelf), (s.admits p (catSet r)) ∧ (s.flag CAT_PLG_CMD.BUSY r = false) ∧ (x.toNat % 4 = r.val) :=
  ⟨w.ledgerAdd 0xFFFFF 3, .librarian, 3, 0xFFFFF, by decide +kernel⟩
theorem test_meets_DeadAgents_1 : ∃ (s : State) (agent : Agent) (sc : DeadScope), (s.cat.dying = [(agent.toNat, sc)]) ∧ (Tab.get none s.cat.dead agent.toNat = none) ∧ (s.cat.trk.all (fun e => match e.2 with | some x => x.await.all (fun e => e.1 != agent.toNat) && x.named.all (fun e => e.1 != agent.toNat) | none => true) = true) :=
  ⟨{ w.setRgn 2 2 with cat := { w.cat with dying := [(12, .group 3)] } }, 12, .group 3, by decide +kernel⟩
theorem test_meets_DeadAgents_2 : ∃ (s : State) (agent : Agent), (s.cat.dying.all (fun e => e.1 != agent.toNat) = true) :=
  ⟨{ w with cat := { w.cat with dying := [(12, .group 3)] } }, 13, by decide +kernel⟩
theorem test_meets_DeadAgents_3 : ∃ (s : State) (agent : Agent) (k b : Nat) (x : Tracker) (q : Request) (j i : SnpKind), (s.cat.dying = [(agent.toNat, .all)]) ∧ (Tab.get none s.cat.dead agent.toNat = none) ∧ (s.cat.trk = [(k, some x)]) ∧ (x.await = [(agent.toNat, j), (b, i)]) ∧ (x.named = []) ∧ (eState x.entry = 1) ∧ (b ≠ agent.toNat) ∧ (x.purpose = .request q) ∧ (x.phase = .work) :=
  ⟨wDying, 20, 8192, 24, tTwo, qOwn, .inv, .inv, by decide +kernel⟩
theorem test_meets_DeadAgents_4 : ∃ (s : State) (p : Path) (r : Region) (sc : DeadScope), (s.admits p (catSet r)) ∧ (s.flag CAT_RCL_STS.BUSY r = false) ∧ (s.get CAT_RCL_CMD.SCOPE r = 0 ∧ sc = .all ∨ s.get CAT_RCL_CMD.SCOPE r = 1 ∧ sc = .group (s.get CAT_RCL_ARG.ARG r) ∨ s.get CAT_RCL_CMD.SCOPE r = 2 ∧ sc = .shelf (s.get CAT_RCL_ARG.ARG r)) ∧ (Tab.get none s.cat.dead (s.get CAT_RCL_CMD.AGENT r) = none) ∧ (s.cat.trk.all (fun e => match e.2 with | some x => x.await.all (fun e => e.1 != s.get CAT_RCL_CMD.AGENT r) && x.named.all (fun e => e.1 != s.get CAT_RCL_CMD.AGENT r) | none => true) = true) :=
  ⟨((w.set CAT_RCL_CMD.AGENT 1 1023).set CAT_RCL_CMD.SCOPE 1 2).set CAT_RCL_ARG.ARG 1 77, .librarian, 1, .shelf 77, by decide +kernel⟩
theorem test_meets_DeadAgents_5 : ∃ (s : State) (p : Path) (r : Region), (s.admits p (catSet r)) ∧ (s.flag CAT_RCL_STS.BUSY r = true) :=
  ⟨w.set CAT_RCL_STS.BUSY 1 1, .librarian, 1, by decide +kernel⟩
theorem test_meets_DeadAgents_6 : ∃ (s : State) (p : Path) (r : Region) (e : DeadEntry), (s.admits p (catSet r)) ∧ (s.flag CAT_RCL_STS.BUSY r = false) ∧ (Tab.get none s.cat.dead (s.get CAT_RCL_CMD.AGENT r) = some e) ∧ (s.get CAT_RCL_CMD.SCOPE r = 2) :=
  ⟨{ (w.set CAT_RCL_CMD.AGENT 1 1023).set CAT_RCL_CMD.SCOPE 1 2 with cat := { w.cat with dead := [(1023, some ⟨.group 3, [0]⟩)] } }, .librarian, 1, ⟨.group 3, [0]⟩, by decide +kernel⟩
theorem test_meets_DeadAgents_7 : ∃ (s : State) (r : Region) (i : Nat) (c : CatSet), ((Tab.get {} s.cat.walk r : Walk).running = true) ∧ (walkSets s r = [i]) ∧ (s.cat.fills = []) ∧ (s.cachedSet r i = some c) ∧ (c.ways.all (fun e => eState e != 3) = true) :=
  ⟨{ w with cat := { w.cat with walk := [(1, ⟨true, 5⟩)], dead := [(12, some ⟨.all, [1]⟩)], filter := [(1036, 1)], cache := [(catKey 1 9, some ⟨[0, mkEntry 1 1 false [12, 16], mkEntry 2 1 false [12]], [0], false⟩)] } }, 1, 9, ⟨[0, mkEntry 1 1 false [12, 16], mkEntry 2 1 false [12]], [0], false⟩, by decide +kernel⟩
theorem test_meets_DeadAgents_8 : ∃ (s : State) (r : Region) (i a : Nat) (c : CatSet) (e : Entry), ((Tab.get {} s.cat.walk r : Walk).running = true) ∧ (walkSets s r = [i]) ∧ (s.cat.fills = []) ∧ (s.cachedSet r i = some c) ∧ (c.ways = e :: List.replicate 15 0) ∧ (e = mkEntry (eTag e) 3 false [a]) ∧ (a < 1024) ∧ ((s.cachedLine r (catLine r i (eTag e))).isSome = true) :=
  ⟨wDeadOwner, 1, catIndex fa5, 12, ⟨mkEntry (catTag fa5) 3 false [12] :: List.replicate 15 0, List.range 16, false⟩, mkEntry (catTag fa5) 3 false [12], by decide +kernel⟩
theorem test_meets_DeadAgents_9 : ∃ (s : State) (r : Region), ((Tab.get {} s.cat.walk r : Walk).running = false) :=
  ⟨w, 2, by decide +kernel⟩
theorem test_meets_DeadAgents_10 : ∃ (s : State) (r : Region) (a : Nat), ((Tab.get {} s.cat.walk r : Walk).running = true) ∧ (walkSets s r = []) ∧ (s.cat.dead = [(a, some ⟨.all, [r.val]⟩)]) ∧ (s.cat.deadWait = []) ∧ (s.rgn r ≠ 2) :=
  ⟨{ w with cat := { w.cat with walk := [(3, ⟨true, 5⟩)], dead := [(12, some ⟨.all, [3]⟩)], filter := [(3084, 1)] } }, 3, 12, by decide +kernel⟩
theorem test_meets_DeadAgents_11 : ∃ (s : State) (r : Region), (walkSets s r ≠ []) :=
  ⟨{ w with cat := { w.cat with walk := [(1, ⟨true, 5⟩)], dead := [(12, some ⟨.all, [1]⟩)], filter := [(1036, 1)], cache := [(catKey 1 9, some ⟨[0, mkEntry 1 1 false [12, 16], mkEntry 2 1 false [12]], [0], false⟩)] } }, 1, by decide +kernel⟩
theorem test_meets_DeadAgents_12 : ∃ (s : State) (r : Region), ((Tab.get {} s.cat.walk r : Walk).running = true) ∧ (s.rgn r = 0) ∧ ([0, 1, 2, 3].any (fun q => q != r.val && s.rgn q == 0) = true) ∧ (s.fatal = false) :=
  ⟨{ w with cat := { w.cat with walk := [(3, ⟨true, 5⟩)] } }, 3, by decide +kernel⟩
theorem test_meets_DeadAgents_13 : ∃ (s : State) (p : Path) (a : BitVec 32) (d : BitVec 64) (i : Nat), (s.writeReaches p a (.reg .CAT_RCL_CMD i)) :=
  ⟨w, .librarian 0, 19923008, 2 ^ 16, 0, by decide +kernel⟩
theorem test_meets_DeadAgents_14 : ∃ (s : State) (p : Path) (r : Region), (s.mayWrite p = false) :=
  ⟨wFw, .i3c, 1, by decide +kernel⟩
theorem test_meets_DeadAgents_15 : ∃ (s : State) (r : Region) (n : Nat) (x : Tracker) (q : Request) (p : Nat), (s.rgn r ≠ 2) ∧ (s.cat.trk = [(8192 * r.val + n % 8192, some x)]) ∧ (x.purpose = .request q) ∧ (x.phase = .pool) ∧ (x.await = []) ∧ (x.named = []) ∧ (x.chain = []) ∧ (x.taken = none) ∧ (q.kind = .rdCur) ∧ (rget q.srec rMode = 0) ∧ (rget q.srec rPort = p) ∧ (s.role p = 0) ∧ (linkRecovers s p = false) ∧ (s.flag PRT_PORT_STS.GANGED p = false) ∧ (s.cat.voq = []) ∧ (s.cat.dead = []) :=
  ⟨w.setTrk 8192 (some ({ purpose := .request ({ kind := .rdCur, a := acc fa5, srec := 0x7002011, ticket := 1 } : Request), line := fa5, phase := .pool } : Tracker)), 1, 0, ({ purpose := .request ({ kind := .rdCur, a := acc fa5, srec := 0x7002011, ticket := 1 } : Request), line := fa5, phase := .pool } : Tracker), ({ kind := .rdCur, a := acc fa5, srec := 0x7002011, ticket := 1 } : Request), 7, by decide +kernel⟩
theorem test_meets_DeadAgents_16 : ∃ (s : State) (r : Region) (n a p : Nat) (x : Tracker) (q : Request) (i : SnpKind), (s.rgn r ≠ 2) ∧ (s.trk (8192 * r.val + n % 8192) = some x) ∧ (x.purpose = .request q) ∧ (x.phase = .data) ∧ (x.await = [(a, i)]) ∧ (x.named = []) ∧ (eState x.entry = 1) ∧ (s.portOf a = p) ∧ (s.role p = 1) ∧ (s.get PRT_PORT_STS.STATE p = 4) ∧ (linkRecovers s p = false) ∧ (s.flag PRT_PORT_STS.GANGED p = false) :=
  ⟨(wUp 5).setTrk 8192 (some ({ purpose := .request ({ kind := .rdCur, a := acc fa5, srec := 0x7002011, ticket := 1 } : Request), line := fa5, phase := .data, entry := mkEntry 1 1 true [20], await := [(20, .inv)] } : Tracker)), 1, 0, 20, 5, ({ purpose := .request ({ kind := .rdCur, a := acc fa5, srec := 0x7002011, ticket := 1 } : Request), line := fa5, phase := .data, entry := mkEntry 1 1 true [20], await := [(20, .inv)] } : Tracker), ({ kind := .rdCur, a := acc fa5, srec := 0x7002011, ticket := 1 } : Request), .inv, by decide +kernel⟩
theorem test_meets_DeadAgents_17 : ∃ (s : State) (r : Region) (n : Nat) (x : Tracker) (q : ReqOut) (z : Nat), (z < 8) ∧ (r.val = agentPort q.agent / 16) ∧ (s.rgn r ≠ 2) ∧ (s.cat.trk = [(8192 * r.val + n % 8192, some x)]) ∧ (x.purpose = .remote q.agent q.tag) ∧ (x.await = []) ∧ (x.named = []) ∧ (x.phase = .work) ∧ (s.cat.zreq = [⟨z, q, false⟩]) ∧ (q.write = true) ∧ (s.role (zPort z) = 3) ∧ (s.get PRT_PORT_STS.STATE (zPort z) = 4) ∧ (linkRecovers s (zPort z) = false) ∧ (s.flag PRT_PORT_STS.GANGED (zPort z) = false) ∧ (s.cat.voq = []) :=
  ⟨wRemote, 0, 0, ({ purpose := .remote 12 7, line := 4096, phase := .work } : Tracker), ({ agent := 12, tag := 7, addr := 4096, write := true, d := none } : ReqOut), 2, by decide +kernel⟩
theorem test_meets_DeadAgents_18 : ∃ (s : State) (r : Region) (n : Nat), ((match s.trk (8192 * r.val + n % 8192) with | none => true | some x => owing s x == [] || timerPaused s x) = true) :=
  ⟨(w.set PRT_PORT_STS.STATE 7 5).setTrk 16383 (some ({ purpose := .request ({ kind := .rdCur, a := acc fa5, srec := 0x7002011, ticket := 1 } : Request), line := fa5, phase := .pool } : Tracker)), 1, 8191, by decide +kernel⟩
theorem test_meets_DeadAgents_19 : ∃ (s : State) (r : Region) (n : Nat), ((match s.trk (8192 * r.val + n % 8192) with | none => true | some x => !timerPaused s x) = true) :=
  ⟨w.setTrk 16383 (some ({ purpose := .request ({ kind := .rdCur, a := acc fa5, srec := 0x7002011, ticket := 1 } : Request), line := fa5, phase := .pool } : Tracker)), 1, 8191, by decide +kernel⟩
theorem test_meets_DeadAgents_20 : ∃ (s : State) (r : Region) (n : Nat) (x : Tracker), (s.trk (8192 * r.val + n % 8192) = some x) ∧ (x.capped = false) ∧ ((owing s x).any (linkRecovers s) = true) :=
  ⟨(w.set PRT_PORT_STS.STATE 7 5).setTrk 16383 (some ({ purpose := .request ({ kind := .rdCur, a := acc fa5, srec := 0x7002011, ticket := 1 } : Request), line := fa5, phase := .pool } : Tracker)), 1, 8191, ({ purpose := .request ({ kind := .rdCur, a := acc fa5, srec := 0x7002011, ticket := 1 } : Request), line := fa5, phase := .pool } : Tracker), by decide +kernel⟩
theorem test_meets_LinkLoss_1 : ∃ (s : State) (p : Port), (s.role p = 1) ∧ (s.get PRT_PORT_STS.STATE p = 4 ∨ s.get PRT_PORT_STS.STATE p = 5) ∧ (s.cat.dead = []) ∧ (s.cat.dying = []) :=
  ⟨wUp 3, 3, by decide +kernel⟩
theorem test_meets_LinkLoss_2 : ∃ (s : State) (p : Port) (h : Bool), (s.role p = 1) ∧ (h = false ∨ s.get PRT_PORT_STS.STATE p ≠ 4 ∧ s.get PRT_PORT_STS.STATE p ≠ 5) ∧ (s.cat.dead = []) ∧ (s.cat.dying = []) :=
  ⟨wUp 3, 3, false, by decide +kernel⟩
theorem test_meets_LinkLoss_3 : ∃ (s : State) (p : Port) (h : Bool), (s.role p ≠ 1) :=
  ⟨wDn 7, 7, true, by decide +kernel⟩
theorem test_meets_LinkLoss_4 : ∃ (s : State) (p : Port), (s.role p ≠ 2) :=
  ⟨wUp 7, 7, by decide +kernel⟩
theorem test_meets_LinkLoss_5 : ∃ (s : State) (p : Port), (s.get PRT_PORT_STS.STATE p ≠ 4 ∧ s.get PRT_PORT_STS.STATE p ≠ 5) :=
  ⟨(wUp 7).set PRT_PORT_STS.STATE 7 3, 7, by decide +kernel⟩
theorem test_meets_LinkLoss_6 : ∃ (s : State) (p : Port), (s.role p = 2) ∧ (s.get PRT_PORT_STS.STATE p = 4 ∨ s.get PRT_PORT_STS.STATE p = 5) ∧ (s.plan p 14 1 = 0) ∧ (s.poolPort p = false) :=
  ⟨wDn 7, 7, by decide +kernel⟩
theorem test_meets_LinkLoss_7 : ∃ (s : State) (p : Port), (s.role p = 2) ∧ (s.get PRT_PORT_STS.STATE p = 4 ∨ s.get PRT_PORT_STS.STATE p = 5) ∧ (s.plan p 14 1 = 1) ∧ (s.poolPort p = false) ∧ (s.cat.dead = []) ∧ (s.cat.dying = []) :=
  ⟨(wImg [(1, 224, 2), (1, 225, 64)]).set PRT_PORT_STS.STATE 7 4, 7, by decide +kernel⟩
theorem test_meets_LinkLoss_8 : ∃ (s : State) (p : Port), (s.role p = 2) ∧ (s.get PRT_PORT_STS.STATE p = 4 ∨ s.get PRT_PORT_STS.STATE p = 5) ∧ (s.plan p 14 1 = 0) ∧ (s.poolPort p = true) ∧ (s.held p = false) ∧ (s.cat.trk = []) ∧ (s.bnd.rsh = []) :=
  ⟨(wDn 7).putSrec 5 0x7002011, 7, by decide +kernel⟩
theorem test_meets_LinkLoss_9 : ∃ (s : State) (p : Port) (n : BitVec 64), (s.held p = true) ∧ (s.get PRT_PORT_STS.STATE p = 4) ∧ (s.grn.ways = []) ∧ (s.grn.wbuf = []) ∧ (s.bnd.shelf = []) :=
  ⟨(wDn 63).setBits CAT_HOLD_STS.HOLD 3 0x8000, 63, 0, by decide +kernel⟩
theorem test_meets_LinkLoss_10 : ∃ (s : State) (p : Port) (n : BitVec 64), (s.held p = false ∨ s.get PRT_PORT_STS.STATE p ≠ 4) :=
  ⟨wDn 63, 63, 0, by decide +kernel⟩
theorem test_meets_LinkLoss_11 : ∃ (s : State) (z : ZPort) (p : Nat), (p = zPort z) ∧ (s.rgn (z.val / 2) ≠ 2) ∧ (s.role p = 3) ∧ (s.get PRT_PORT_STS.STATE p = 4 ∨ s.get PRT_PORT_STS.STATE p = 5) ∧ (s.flag PRT_PORT_STS.GANGED p = false) ∧ (Tab.get 0 s.cat.peer z = 0) :=
  ⟨(wZl 7).setZwl 7 { replay := [(0, { source := 0, out := 0, tc := 0 }, 0)] }, 7, zPort 7, by decide +kernel⟩
theorem test_meets_LinkLoss_12 : ∃ (s : State) (z : ZPort) (y p : Nat) (q : ReqOut), (p = zPort z) ∧ (s.rgn (z.val / 2) ≠ 2) ∧ (s.role p = 3) ∧ (s.get PRT_PORT_STS.STATE p = 4 ∨ s.get PRT_PORT_STS.STATE p = 5) ∧ (s.flag PRT_PORT_STS.GANGED p = false) ∧ (Tab.get 0 s.cat.peer z ≠ 0) ∧ (y < 8) ∧ (y ≠ z.val) ∧ (Tab.get 0 s.cat.peer y = Tab.get 0 s.cat.peer z) ∧ (s.inService (zPort y) = true) ∧ (∀ x < y, x ≠ z.val → Tab.get 0 s.cat.peer x ≠ Tab.get 0 s.cat.peer z) ∧ (s.cat.zreq = [⟨z.val, q, false⟩]) :=
  ⟨wTwoLinks, 2, 5, zPort 2, ({ agent := 12, tag := 7, addr := 4096, write := true, d := none } : ReqOut), by decide +kernel⟩
theorem test_meets_LinkLoss_13 : ∃ (s : State) (z : ZPort) (p : Nat), (p = zPort z) ∧ (s.role p ≠ 3 ∨ s.get PRT_PORT_STS.STATE p ≠ 4 ∧ s.get PRT_PORT_STS.STATE p ≠ 5) :=
  ⟨w, 7, zPort 7, by decide +kernel⟩
theorem test_meets_LinkLoss_14 : ∃ (s : State) (z : ZPort), ((s.zwl z).replay = []) :=
  ⟨wZl 7, 7, by decide +kernel⟩
theorem test_meets_LinkLoss_15 : ∃ (s : State) (z : ZPort) (tag : BitVec 16) (agent : Agent) (q : ZReq) (g : GrantKind) (d : Option LineData), (s.cat.zreq.find? (fun x => x.q.agent == agent && x.q.tag == tag) = some q) ∧ (s.remoteTrk agent tag = none) ∧ (g ≠ .none ∨ d ≠ none) :=
  ⟨{ wUp 3 with cat := { w.cat with zreq := [⟨2, ({ agent := 12, tag := 7, addr := 4096, write := true, d := none } : ReqOut), false⟩] } }, 2, 7, 12, ⟨2, ({ agent := 12, tag := 7, addr := 4096, write := true, d := none } : ReqOut), false⟩, .s, some ⟨1, true⟩, by decide +kernel⟩
theorem test_meets_LinkLoss_16 : ∃ (s : State) (z : ZPort) (tag : BitVec 16) (agent : Agent) (q : ZReq), (s.cat.zreq.find? (fun x => x.q.agent == agent && x.q.tag == tag) = some q) ∧ (s.remoteTrk agent tag = none) :=
  ⟨{ wUp 3 with cat := { w.cat with zreq := [⟨2, ({ agent := 12, tag := 7, addr := 4096, write := true, d := none } : ReqOut), false⟩] } }, 2, 7, 12, ⟨2, ({ agent := 12, tag := 7, addr := 4096, write := true, d := none } : ReqOut), false⟩, by decide +kernel⟩
theorem test_meets_LinkLoss_17 : ∃ (s : State) (z : ZPort) (tag : BitVec 16) (agent : Agent) (d : Answer), (s.cat.zreq.find? (fun x => x.q.agent == agent && x.q.tag == tag) = none) :=
  ⟨w, 2, 7, 12, ⟨.s, none⟩, by decide +kernel⟩
theorem test_meets_GranaryReads_1 : ∃ (s : State) (r : Region) (n : Nat) (x : Tracker) (q : Request) (d : LineData), (s.cat.trk = [((8192 * r.val + n % 8192), some x)]) ∧ (x.purpose = .request q) ∧ (x.phase = .data) ∧ (x.held = some d) ∧ (x.taken = none) ∧ (x.await = []) ∧ (x.named = []) ∧ (x.chain = []) ∧ (x.reason = 0) ∧ (q.kind = .rdCur ∨ q.kind = .rdShared ∨ q.kind = .rdOwn) ∧ (rget q.srec rMode ≠ 1) ∧ (s.cat.voq = []) ∧ (s.cat.dead = []) ∧ (s.bindQuiet) ∧ (s.grn.roomed = []) :=
  ⟨(wHome []).setTrk 8192 (some ({ purpose := .request { kind := .rdCur, a := acc fa5, srec := 0x2011, ticket := 1 }, line := fa5, phase := .data, held := some ⟨9, false⟩ } : Tracker)), 1, 0, ({ purpose := .request { kind := .rdCur, a := acc fa5, srec := 0x2011, ticket := 1 }, line := fa5, phase := .data, held := some ⟨9, false⟩ } : Tracker), { kind := .rdCur, a := acc fa5, srec := 0x2011, ticket := 1 }, ⟨9, false⟩, by decide +kernel⟩
theorem test_meets_GranaryReads_2 : ∃ (s : State) (r : Region) (n v : Nat) (x : Tracker) (q : Request) (d : LineData), (s.cat.trk = [((8192 * r.val + n % 8192), some x)]) ∧ (x.purpose = .request q) ∧ (x.phase = .data) ∧ (x.held = some d) ∧ (x.taken = none) ∧ (x.await = []) ∧ (x.named = []) ∧ (x.chain = []) ∧ (x.reason = 0) ∧ (q.kind = .rdCur) ∧ (rget q.srec rMode ≠ 1) ∧ (s.rgn r = 0) ∧ (s.findWay r x.line = some v) ∧ ((s.way (wayKey r (grnIndex x.line) v)).svalid.getLsbD (sectorOf x.line) = true) ∧ (s.cat.voq = []) ∧ (s.cat.dead = []) ∧ (s.bindQuiet) ∧ (s.grn.roomed = []) :=
  ⟨(wHome []).setTrk 8192 (some ({ purpose := .request { kind := .rdCur, a := acc fa5, srec := 0x2011, ticket := 1 }, line := fa5, phase := .data, held := some ⟨9, false⟩ } : Tracker)), 1, 0, 0, ({ purpose := .request { kind := .rdCur, a := acc fa5, srec := 0x2011, ticket := 1 }, line := fa5, phase := .data, held := some ⟨9, false⟩ } : Tracker), { kind := .rdCur, a := acc fa5, srec := 0x2011, ticket := 1 }, ⟨9, false⟩, by decide +kernel⟩
theorem test_meets_GranaryReads_3 : ∃ (s : State) (r : Region) (n v : Nat) (x : Tracker) (q : Request) (d : LineData), (s.cat.trk = [((8192 * r.val + n % 8192), some x)]) ∧ (x.purpose = .request q) ∧ (x.phase = .data) ∧ (x.held = some d) ∧ (x.taken = none) ∧ (x.await = []) ∧ (x.named = []) ∧ (x.chain = []) ∧ (x.reason = 0) ∧ (s.rgn r = 0) ∧ (s.held (rget q.srec rPort) = false) ∧ (homeOf x.line = r.val) ∧ ((s.way (wayKey r (grnIndex x.line) v)).dirty.getLsbD (sectorOf x.line) = false) ∧ (s.findWay r x.line = some v) ∧ ((s.way (wayKey r (grnIndex x.line) v)).svalid.getLsbD (sectorOf x.line) = true) :=
  ⟨(wHome []).setTrk 8192 (some ({ purpose := .request { kind := .rdCur, a := acc fa5, srec := 0x2011, ticket := 1 }, line := fa5, phase := .data, held := some ⟨9, false⟩ } : Tracker)), 1, 0, 0, ({ purpose := .request { kind := .rdCur, a := acc fa5, srec := 0x2011, ticket := 1 }, line := fa5, phase := .data, held := some ⟨9, false⟩ } : Tracker), { kind := .rdCur, a := acc fa5, srec := 0x2011, ticket := 1 }, ⟨9, false⟩, by decide +kernel⟩
theorem test_meets_GranaryReads_4 : ∃ (s : State) (r : Region) (n : Nat) (e : ColRead), ((match s.trk (8192 * r.val + n % 8192) with | none => true | some x => x.phase != .data) = true) :=
  ⟨w, 1, 8191, .corrected, by decide +kernel⟩
theorem test_meets_GranaryReads_5 : ∃ (s : State) (r : Region) (n : Nat) (x : Tracker) (q : Request) (d : LineData) (c : CatSet) (k y : Nat), (s.cat.trk = [((8192 * r.val + n % 8192), some x)]) ∧ (x.purpose = .request q) ∧ (x.phase = .data) ∧ (x.held = some d) ∧ (x.taken = none) ∧ (x.await = []) ∧ (x.named = []) ∧ (x.chain = []) ∧ (x.reason = 0) ∧ (x.entry = 0) ∧ (q.kind = .rdShared) ∧ (rget q.srec rMode = 1) ∧ (s.cacher q.a = some y) ∧ (homeOf x.line = r.val) ∧ (s.setReady x.line c) ∧ (entryWay c.ways (catTag x.line) = some k) ∧ (c.ways.length = 16) ∧ (s.flag CAT_CTL.GRANT_E_SOLE r = false) ∧ (s.cat.voq = []) ∧ (s.cat.dead = []) ∧ (s.bindQuiet) ∧ (s.grn.roomed = []) :=
  ⟨(wHome ((List.replicate 16 (0 : Entry)).set 3 (mkEntry (catTag fa5) 0 true []))).setTrk 8192 (some ({ purpose := .request { kind := .rdShared, a := acc fa5, srec := 0x2015, ticket := 1 }, line := fa5, phase := .data, held := some ⟨9, false⟩ } : Tracker)) |>.set CAT_CTL.GRANT_E_SOLE 1 0, 1, 0, ({ purpose := .request { kind := .rdShared, a := acc fa5, srec := 0x2015, ticket := 1 }, line := fa5, phase := .data, held := some ⟨9, false⟩ } : Tracker), { kind := .rdShared, a := acc fa5, srec := 0x2015, ticket := 1 }, ⟨9, false⟩, ⟨((List.replicate 16 (0 : Entry)).set 3 (mkEntry (catTag fa5) 0 true [])), List.range 16, false⟩, 3, 12, by decide +kernel⟩
theorem test_meets_GranaryReads_6 : ∃ (s : State) (r : Region) (a : FAddr) (d : LineData) (v : Nat), (homeOf (lineOf a.toNat) = r.val) ∧ (s.findWay r (lineOf a.toNat) = some v) ∧ ((s.way (wayKey r (grnIndex (lineOf a.toNat)) v)).svalid.getLsbD (sectorOf (lineOf a.toNat)) = false) ∧ (d.poison = false) ∧ (s.cat.trk = []) ∧ (s.waiting (lineOf a.toNat) = none) :=
  ⟨(wHome []).setWay (wayKey 1 (grnIndex fa5) 0) { tag := grnTag fa5, valid := true, svalid := 13, dirty := 4 }, 1, 0x50000040, ⟨3, false⟩, 0, by decide +kernel⟩
theorem test_meets_GranaryReads_7 : ∃ (s : State) (r : Region) (n : Nat) (a : FAddr) (x : Tracker) (q : Request) (d : LineData), (homeOf (lineOf a.toNat) = r.val) ∧ (n < 8192) ∧ (s.cat.trk = [(8192 * r.val + n, some x)]) ∧ (x.purpose = .request q) ∧ (x.line = lineOf a.toNat) ∧ (x.phase = .pool) ∧ (x.taken = none) ∧ (x.await = []) ∧ (x.named = []) ∧ (x.chain = []) ∧ (x.reason = 0) ∧ (q.kind = .rdCur) ∧ (rget q.srec rMode ≠ 1) ∧ (s.findWay r (lineOf a.toNat) = none) ∧ (d.poison = false) ∧ (s.cat.voq = []) ∧ (s.cat.dead = []) ∧ (s.bindQuiet) ∧ (s.grn.roomed = []) :=
  ⟨(wUp 3).setTrk 8193 (some { ({ purpose := .request { kind := .rdCur, a := acc fa5, srec := 0x2011, ticket := 1 }, line := fa5, phase := .data, held := some ⟨9, false⟩ } : Tracker) with phase := .pool, held := none }), 1, 1, 0x50000040, { ({ purpose := .request { kind := .rdCur, a := acc fa5, srec := 0x2011, ticket := 1 }, line := fa5, phase := .data, held := some ⟨9, false⟩ } : Tracker) with phase := .pool, held := none }, { kind := .rdCur, a := acc fa5, srec := 0x2011, ticket := 1 }, ⟨7, false⟩, by decide +kernel⟩
theorem test_meets_GranaryReads_8 : ∃ (s : State) (r : Region) (a : FAddr) (d : LineData), (homeOf (lineOf a.toNat) ≠ r.val) :=
  ⟨w, 2, 0x50000040, ⟨7, true⟩, by decide +kernel⟩
theorem test_meets_FlushWalks_1 : ∃ (s : State) (p : Path) (r : Region) (x : Shelf), (s.admits p (grnSet r)) ∧ (s.flag GRN_FLUSH_CMD.BUSY r = false) ∧ (x.toNat % 4 = r.val) ∧ (s.grn.waitPut = []) ∧ (s.grn.roomed = []) ∧ (s.grn.wbuf.all (fun e => e.issued || shelfOf e.block != x.toNat) = true) :=
  ⟨w, .librarian, 3, 7, by decide +kernel⟩
theorem test_meets_FlushWalks_2 : ∃ (s : State) (p : Path) (r : Region) (x : Shelf) (e : WbEntry), (s.admits p (grnSet r)) ∧ (s.flag GRN_FLUSH_CMD.BUSY r = false) ∧ (x.toNat % 4 = r.val) ∧ (s.grn.waitPut = []) ∧ (s.grn.roomed = []) ∧ (s.cat.trk = []) ∧ (s.grn.wbuf = [e]) ∧ (e.issued = false) ∧ (shelfOf e.block = x.toNat) :=
  ⟨{ w with grn := { w.grn with wbuf := [{ ctrl := 2 + grnIndex fa5 % 2, block := fa5 - 64, valid := 15, dirty := 2, data := [], issued := false }] } }, .librarian, 1, 5, { ctrl := 2 + grnIndex fa5 % 2, block := fa5 - 64, valid := 15, dirty := 2, data := [], issued := false }, by decide +kernel⟩
theorem test_meets_FlushWalks_3 : ∃ (s : State) (p : Path) (r : Region) (x : Shelf), (s.admits p (grnSet r)) ∧ (s.flag GRN_FLUSH_CMD.BUSY r = false) ∧ (x.toNat % 4 ≠ r.val) :=
  ⟨w, .librarian, 3, 4, by decide +kernel⟩
theorem test_meets_FlushWalks_4 : ∃ (s : State) (p : Path) (r : Region) (x : Shelf), (s.admits p (grnSet r)) ∧ (s.flag GRN_FLUSH_CMD.BUSY r = true) :=
  ⟨w.set GRN_FLUSH_CMD.BUSY 3 1, .librarian, 3, 4, by decide +kernel⟩
theorem test_meets_FlushWalks_5 : ∃ (s : State) (r : Region) (l : List ColRead) (f : Flush) (n : Nat) (e : Nat × Way), (flushOf s r = f) ∧ (f.running = true) ∧ (f.op = 0) ∧ (flushNext s f r = some n) ∧ (s.grn.ways.filter (fun e => flushPos f r e.1 e.2 == some n) = [e]) :=
  ⟨setFlush (wHome []) 1 { running := true, op := 0, shelf := 5 }, 1, [], { running := true, op := 0, shelf := 5 }, 0, (wayKey 1 (grnIndex fa5) 0, { tag := grnTag fa5, valid := true, svalid := 2 }), by decide +kernel⟩
theorem test_meets_FlushWalks_6 : ∃ (s : State) (r : Region) (f : Flush) (n : Nat) (e : Nat × Way), (flushOf s r = f) ∧ (f.running = true) ∧ (f.op = 1) ∧ (flushNext s f r = some n) ∧ (s.grn.ways.filter (fun e => flushPos f r e.1 e.2 == some n) = [e]) ∧ (e.2.dirty ≠ 0) ∧ (s.grn.wbuf = []) ∧ (s.grn.writes = []) ∧ (s.held (s.poolOf (wayBlock e.1 e.2)) = false) ∧ (s.stalled (shelfOf (wayBlock e.1 e.2)) = false) ∧ (wayRegion e.1 = r.val) ∧ (s.way e.1 = e.2) :=
  ⟨setFlush ((wHome []).setWay (wayKey 1 (grnIndex fa5) 0) { tag := grnTag fa5, valid := true, svalid := 2, dirty := 2 }) 1 { running := true, op := 1, shelf := 5 }, 1, { running := true, op := 1, shelf := 5 }, 0, (wayKey 1 (grnIndex fa5) 0, { tag := grnTag fa5, valid := true, svalid := 2, dirty := 2 }), by decide +kernel⟩
theorem test_meets_FlushWalks_7 : ∃ (s : State) (r : Region) (f : Flush) (n : Nat) (e : Nat × Way), (flushOf s r = f) ∧ (f.running = true) ∧ (f.op = 2) ∧ (flushNext s f r = some n) ∧ (s.grn.ways.filter (fun e => flushPos f r e.1 e.2 == some n) = [e]) ∧ (s.held (s.poolOf (wayBlock e.1 e.2)) = false) ∧ (s.stalled (shelfOf (wayBlock e.1 e.2)) = false) ∧ (wayRegion e.1 = r.val) ∧ (s.way e.1 = e.2) :=
  ⟨setFlush ((wHome []).setWay (wayKey 1 (grnIndex fa5) 0) { tag := grnTag fa5, valid := true, svalid := 15, dirty := 10 }) 1 { running := true, op := 2, shelf := 0 }, 1, { running := true, op := 2, shelf := 0 }, grnIndex fa5, (wayKey 1 (grnIndex fa5) 0, { tag := grnTag fa5, valid := true, svalid := 15, dirty := 10 }), by decide +kernel⟩
theorem test_meets_FlushWalks_8 : ∃ (s : State) (r : Region) (l : List ColRead), ((flushOf s r).running = false) :=
  ⟨w, 1, [], by decide +kernel⟩
theorem test_meets_FlushWalks_9 : ∃ (s : State) (r : Region) (l : List ColRead), (flushNext s (flushOf s r) r = none) :=
  ⟨w, 1, [], by decide +kernel⟩
theorem test_meets_FlushWalks_10 : ∃ (s : State) (r : Region), (flushNext s (flushOf s r) r ≠ none) :=
  ⟨setFlush (wHome []) 1 { running := true, op := 0, shelf := 5 }, 1, by decide +kernel⟩
theorem test_meets_FlushWalks_11 : ∃ (s : State) (r : Region), ((flushOf s r).running = true) ∧ (flushNext s (flushOf s r) r = none) ∧ ((flushOf s r).power = false) ∧ (s.grn.writes.all (fun w => w.region != r.val || (flushOf s r).op != 2 && shelfOf w.line != (flushOf s r).shelf) = true) ∧ (s.grn.waitPut.all (fun e => homeOf e.1 != r.val || (flushOf s r).op != 2 && shelfOf e.1 != (flushOf s r).shelf) = true) :=
  ⟨setFlush w 1 { running := true, op := 1, shelf := 5, pos := 3 }, 1, by decide +kernel⟩
theorem test_meets_FlushWalks_12 : ∃ (s : State) (p : Path) (a : BitVec 32) (d : BitVec 64) (i : Nat), (s.writeReaches p a (.reg .GRN_FLUSH_CMD i)) :=
  ⟨w, .librarian 0, 20971536, 2 ^ 22 + 5, 0, by decide +kernel⟩
theorem test_meets_FlushWalks_13 : ∃ (s : State) (p : Path) (r : Region) (x : Shelf), (s.mayWrite p = false) :=
  ⟨wFw, .i3c, 1, 5, by decide +kernel⟩
theorem test_meets_FlushWalks_14 : ∃ (s : State) (r : Region) (a : FAddr) (x : PoolWr), (s.grn.writes.find? (fun y => y.region == r.val && y.line == lineOf a.toNat && y.held.isNone) = some x) ∧ (s.bnd.rsh = []) ∧ (x.from_ = .stale) :=
  ⟨{ w with grn := { w.grn with writes := [{ region := 1, line := fa5, port := 7, from_ := .stale }] } }, 1, 0x50000040, { region := 1, line := fa5, port := 7, from_ := .stale }, by decide +kernel⟩
theorem test_meets_FlushWalks_15 : ∃ (s : State) (r : Region) (a : FAddr) (x : PoolWr) (v : Nat), (s.grn.writes.find? (fun y => y.region == r.val && y.line == lineOf a.toNat && y.held.isNone) = some x) ∧ (s.bnd.rsh = []) ∧ (x.from_ = .way ∨ x.from_ = .through) ∧ (s.findWay r x.line = some v) ∧ (s.grn.retired = []) :=
  ⟨{ w with grn := { w.grn with writes := [{ region := 1, line := fa5, port := 7, from_ := .way }], ways := [(wayKey 1 (grnIndex fa5) 2, { tag := grnTag fa5, valid := true, svalid := 15, dirty := 15 })] } }, 1, 0x50000040, { region := 1, line := fa5, port := 7, from_ := .way }, 2, by decide +kernel⟩
theorem test_meets_FlushWalks_16 : ∃ (s : State) (r : Region) (a : FAddr) (x : PoolWr) (e : WbEntry), (s.grn.writes.find? (fun y => y.region == r.val && y.line == lineOf a.toNat && y.held.isNone) = some x) ∧ (s.bnd.rsh = []) ∧ (x.from_ = .buffer) ∧ (s.grn.wbuf = [e]) ∧ (e.issued = true) ∧ (e.block = x.line / 256 * 256) ∧ (e.dirty = BitVec.ofNat 4 (2 ^ sectorOf x.line)) ∧ (s.cat.trk = []) ∧ (s.grn.waitPut = []) ∧ (s.grn.roomed = []) :=
  ⟨{ w with grn := { w.grn with writes := [{ region := 1, line := fa5, port := 7, from_ := .buffer }], wbuf := [({ ctrl := 2 + grnIndex fa5 % 2, block := fa5 - 64, valid := 15, dirty := 2, data := [], issued := true } : WbEntry)] } }, 1, 0x50000040, { region := 1, line := fa5, port := 7, from_ := .buffer }, ({ ctrl := 2 + grnIndex fa5 % 2, block := fa5 - 64, valid := 15, dirty := 2, data := [], issued := true } : WbEntry), by decide +kernel⟩
theorem test_meets_FlushWalks_17 : ∃ (s : State) (r : Region) (a : FAddr), (s.grn.writes.find? (fun y => y.region == r.val && y.line == lineOf a.toNat && y.held.isNone) = none) :=
  ⟨w, 1, 0x50000040, by decide +kernel⟩
theorem test_meets_HbmUpkeep_1 : ∃ (s : State) (r : Region) (k : Fin 2), (s.flag GRN_SCRUB.EN r = true) ∧ (s.flag GRN_CTL.READY r = true) ∧ ((Tab.get {} s.cat.walk r : Walk).running = false) ∧ (s.rgn r ≠ 2) :=
  ⟨(w.set GRN_SCRUB.EN 3 1).set GRN_CTL.READY 3 1, 3, 1, by decide +kernel⟩
theorem test_meets_HbmUpkeep_2 : ∃ (s : State) (r : Region) (k : Fin 2), (s.flag GRN_SCRUB.EN r = true) ∧ (s.flag GRN_CTL.READY r = true) ∧ ((Tab.get {} s.cat.walk r : Walk).running = false) ∧ (s.rgn r = 0) :=
  ⟨(w.set GRN_SCRUB.EN 3 1).set GRN_CTL.READY 3 1, 3, 1, by decide +kernel⟩
theorem test_meets_HbmUpkeep_3 : ∃ (s : State) (r : Region) (k : Fin 2) (e : ColRead) (b : Bool), (s.flag GRN_SCRUB.EN r = false ∨ s.flag GRN_CTL.READY r = false ∨ (Tab.get {} s.cat.walk r : Walk).running = true ∨ s.rgn r = 2) :=
  ⟨w, 3, 1, .uncorrectable, false, by decide +kernel⟩
theorem test_meets_HbmUpkeep_4 : ∃ (s : State) (r : Region) (k : Fin 2) (row : Nat) (rest : List Nat), (Tab.get [] s.grn.repair (2 * r.val + k.val) = row :: rest) ∧ (s.logFree (2 * r.val + k.val) ≠ 0) :=
  ⟨{ w with grn := { w.grn with repair := [(7, [9, 10])] } }, 3, 1, 9, [10], by decide +kernel⟩
theorem test_meets_HbmUpkeep_5 : ∃ (s : State) (r : Region) (k : Fin 2) (row : Nat) (rest : List Nat), (Tab.get [] s.grn.repair (2 * r.val + k.val) = row :: rest) ∧ (granaryRows ≤ row) :=
  ⟨{ w with grn := { w.grn with repair := [(7, [granaryRows, 10])] } }, 3, 1, granaryRows, [10], by decide +kernel⟩
theorem test_meets_HbmUpkeep_6 : ∃ (s : State) (r : Region) (k : Fin 2) (b : Bool), (Tab.get [] s.grn.repair (2 * r.val + k.val) = []) :=
  ⟨w, 3, 1, true, by decide +kernel⟩
theorem test_meets_HbmUpkeep_7 : ∃ (s : State) (r : Region), (s.get KPR_STS.STEP 0 ≠ 6) ∧ (s.flag GRN_CTL.READY r = false) :=
  ⟨{ w with grn := { w.grn with otpLog := [(6, 9, false)] } }, 3, by decide +kernel⟩
theorem test_meets_HbmUpkeep_8 : ∃ (s : State) (r : Region), (s.get KPR_STS.STEP 0 = 6) ∧ (∀ q < 4, q ≠ r.val → s.flag GRN_CTL.READY q = true) :=
  ⟨(((wStep 6).set GRN_CTL.READY 0 1).set GRN_CTL.READY 1 1).set GRN_CTL.READY 2 1, 3, by decide +kernel⟩
theorem test_meets_HbmUpkeep_9 : ∃ (s : State) (r : Region), (s.rgn r = 0) ∧ ([0, 1, 2, 3].any (fun q => q != r.val && s.rgn q == 0) = true) ∧ (s.fatal = false) :=
  ⟨w.setRgn 0 2, 3, by decide +kernel⟩
theorem test_meets_HbmUpkeep_10 : ∃ (s : State) (r : Region) (k : Fin 2) (c : Fin 32), (s.rgn r = 0) ∧ ([0, 1, 2, 3].any (fun q => q != r.val && s.rgn q == 0) = true) ∧ (s.fatal = false) :=
  ⟨w.setRgn 0 2, 3, 1, 31, by decide +kernel⟩
theorem test_meets_SchedulerAndOutputs_1 : ∃ (s : State) (i o tc : Nat) (c : Cell), (i < 64) ∧ (o < 64) ∧ (tc < 8) ∧ (s.swc.voq = [(voqKey i o tc, [c])]) ∧ (s.gateOpen o tc = true) ∧ (s.rgn (o / 16) ≠ 2) ∧ (s.rgn (i / 16) ≠ 2) ∧ (s.swc.cross = []) ∧ (s.swc.held = []) ∧ (i / 16 = o / 16) ∧ (c.ecc = .good) :=
  ⟨(wUp 5).set SWC_VOQ_OCC.CELLS 30 1 |>.sw fun x => { x with voq := [(voqKey 3 5 6, [({ source := 3, out := 5, tc := 6, data := [1, 2] } : Cell)])] }, 3, 5, 6, ({ source := 3, out := 5, tc := 6, data := [1, 2] } : Cell), by decide +kernel⟩
theorem test_meets_SchedulerAndOutputs_2 : ∃ (s : State) (i o tc : Nat) (c : Cell), (i < 64) ∧ (o < 64) ∧ (tc < 8) ∧ (s.swc.voq = [(voqKey i o tc, [c])]) ∧ (s.gateOpen o tc = true) ∧ (s.rgn (o / 16) ≠ 2) ∧ (s.rgn (i / 16) ≠ 2) ∧ (s.swc.cross = []) ∧ (s.swc.held = []) ∧ (i / 16 ≠ o / 16) ∧ (c.ecc = .good) ∧ (s.spineGrants (i / 16) o = true) :=
  ⟨(wUp 5).set SWC_VOQ_OCC.CELLS 286 1 |>.sw fun x => { x with voq := [(voqKey 35 5 6, [({ source := 3, out := 5, tc := 6, data := [1, 2] } : Cell)])] }, 35, 5, 6, ({ source := 3, out := 5, tc := 6, data := [1, 2] } : Cell), by decide +kernel⟩
theorem test_meets_SchedulerAndOutputs_3 : ∃ (s : State) (i o tc : Nat) (c : Cell), (i < 64) ∧ (o < 64) ∧ (tc < 8) ∧ (s.swc.voq = [(voqKey i o tc, [c])]) ∧ (s.gateOpen o tc = true) ∧ (s.rgn (o / 16) ≠ 2) ∧ (s.rgn (i / 16) ≠ 2) ∧ (s.swc.cross = []) ∧ (s.swc.held = []) ∧ (i / 16 = o / 16) ∧ (c.ecc = .uncorrectable) ∧ (s.role i = 1) ∧ (s.get PRT_PORT_STS.STATE i = 4) ∧ (s.flag PRT_PORT_STS.GANGED i = false) :=
  ⟨wTwo.sw fun x => { x with voq := [(voqKey 3 5 6, [{ source := 3, out := 5, tc := 6, ecc := .uncorrectable }])] }, 3, 5, 6, { source := 3, out := 5, tc := 6, ecc := .uncorrectable }, by decide +kernel⟩
theorem test_meets_SchedulerAndOutputs_4 : ∃ (s : State) (c : Cell), (s.swc.cross = [c]) ∧ (s.swc.voq = []) ∧ (c.item = none) :=
  ⟨(wUp 5).sw fun x => { x with cross := [({ source := 3, out := 5, tc := 6, data := [1, 2] } : Cell)] }, ({ source := 3, out := 5, tc := 6, data := [1, 2] } : Cell), by decide +kernel⟩
theorem test_meets_SchedulerAndOutputs_5 : ∃ (s : State), (s.swc.cross = []) ∧ (s.swc.voq = []) :=
  ⟨w, by decide +kernel⟩
theorem test_meets_SchedulerAndOutputs_6 : ∃ (s : State) (p : Port) (i : Nat) (c : Cell), (s.get PRT_PORT_STS.STATE p = 4) ∧ (s.role p ≠ 3) ∧ (mergePick s p = some (i, c)) ∧ (c.msg = []) :=
  ⟨(wUp 5).sw fun x => { x with merge := [(40, [({ source := 3, out := 5, tc := 6, data := [1, 2] } : Cell)])] }, 5, 0, ({ source := 3, out := 5, tc := 6, data := [1, 2] } : Cell), by decide +kernel⟩
theorem test_meets_SchedulerAndOutputs_7 : ∃ (s : State) (p : Port) (i : Nat) (c : Cell), (s.get PRT_PORT_STS.STATE p = 4) ∧ (s.role p = 3) ∧ (mergePick s p = some (i, c)) ∧ (c.msg = []) ∧ (c.reqs = []) :=
  ⟨(((wZu 2).setZwl 2 { granted := [(78, 1)] }).sw fun x => { x with merge := [(8 * zPort 2, [({ source := 3, out := zPort 2, dest := 9, tc := 6, data := [1, 2] } : Cell)])] }), 30, 0, ({ source := 3, out := zPort 2, dest := 9, tc := 6, data := [1, 2] } : Cell), by decide +kernel⟩
theorem test_meets_SchedulerAndOutputs_8 : ∃ (s : State) (p : Port), (s.get PRT_PORT_STS.STATE p ≠ 4 ∨ mergePick s p = none) :=
  ⟨w, 5, by decide +kernel⟩
theorem test_meets_SchedulerAndOutputs_9 : ∃ (s : State) (p : Port), (s.role p = 1) ∧ (s.get PRT_PORT_STS.STATE p = 4) ∧ (s.flag PRT_PORT_STS.GANGED p = false) ∧ (s.rgn (p / 16) ≠ 2) :=
  ⟨wUp 5, 5, by decide +kernel⟩
theorem test_meets_SchedulerAndOutputs_10 : ∃ (s : State) (p o : Port) (tc : Tc) (c : Cell) (cs : List Cell), (Tab.get [] s.swc.ovf (voqKey p o tc) = c :: cs) ∧ (c.out = o.val) ∧ (c.tc = tc.val) ∧ (s.get SWC_VOQ_OCC.CELLS (8 * p + tc) < s.get SWC_VOQ_LIM.LIMIT (8 * p + tc)) ∧ (Tab.get [] s.swc.held p = []) :=
  ⟨((w.set SWC_OVF_STS.CELLS 3 1).set SWC_VOQ_LIM.LIMIT 26 8).sw fun x => { x with ovf := [(voqKey 3 5 2, [({ source := 3, out := 5, tc := 2, data := [1, 2] } : Cell)])] }, 3, 5, 2, ({ source := 3, out := 5, tc := 2, data := [1, 2] } : Cell), [], by decide +kernel⟩
theorem test_meets_SchedulerAndOutputs_11 : ∃ (s : State) (p o : Port) (tc : Tc) (c : Cell) (cs : List Cell), (Tab.get [] s.swc.ovf (voqKey p o tc) = c :: cs) ∧ (s.get SWC_VOQ_OCC.CELLS (8 * p + tc) < s.get SWC_VOQ_LIM.LIMIT (8 * p + tc)) ∧ (s.role p = 1) ∧ (s.get PRT_PORT_STS.STATE p = 4) ∧ (s.flag PRT_PORT_STS.GANGED p = false) ∧ (s.rgn (p / 16) ≠ 2) :=
  ⟨((wTwo.set SWC_OVF_STS.CELLS 3 1).set SWC_VOQ_LIM.LIMIT 26 8).sw fun x => { x with ovf := [(voqKey 3 5 2, [({ source := 3, out := 5, tc := 2, data := [1, 2] } : Cell)])] }, 3, 5, 2, ({ source := 3, out := 5, tc := 2, data := [1, 2] } : Cell), [], by decide +kernel⟩
theorem test_meets_SchedulerAndOutputs_12 : ∃ (s : State) (p o : Port) (tc : Tc) (f : ColRead), (Tab.get [] s.swc.ovf (voqKey p o tc) = [] ∨ s.get SWC_VOQ_LIM.LIMIT (8 * p + tc) ≤ s.get SWC_VOQ_OCC.CELLS (8 * p + tc)) :=
  ⟨w, 3, 5, 2, .corrected, by decide +kernel⟩
theorem test_meets_SpinePaths_1 : ∃ (s : State) (r d : Region) (k : Fin 2) (c : Cell), (r ≠ d) ∧ (s.pathUp r d k = true) ∧ (s.rgn r ≠ 2) ∧ (s.spray r d = 0) ∧ (presented (s.timeOf r) (spineRequests s r d k) = some (c, false)) :=
  ⟨(w.setWord .SWC_SPN_STS 1 0).sw fun x => { x with spine := [(pairKey 1 0, [({ source := 20, out := 5, tc := 6, seq := 65535, data := [1, 2] } : Cell)])], txseq := [(({ source := 20, out := 5, tc := 6, seq := 65535, data := [1, 2] } : Cell).flow, 65535)] }, 1, 0, 1, ({ source := 20, out := 5, tc := 6, seq := 65535, data := [1, 2] } : Cell), by decide +kernel⟩
theorem test_meets_SpinePaths_2 : ∃ (s : State) (r d : Region) (k : Fin 2) (c : Cell), (r ≠ d) ∧ (s.pathUp r d k = true) ∧ (s.rgn r ≠ 2) ∧ (presented (s.timeOf r) (spineRequests s r d k) = some (c, true)) :=
  ⟨((w.setWord .SWC_SPN_STS 1 0).set SWC_SPN_STS.MODE 1 2).sw fun x => { x with resend := [(pairKey 1 0, [({ source := 20, out := 5, tc := 6, seq := 65535, data := [1, 2] } : Cell)])] }, 1, 0, 1, ({ source := 20, out := 5, tc := 6, seq := 65535, data := [1, 2] } : Cell), by decide +kernel⟩
theorem test_meets_SpinePaths_3 : ∃ (s : State) (r d : Region) (k : Fin 2), (r = d ∨ s.pathUp r d k = false ∨ s.rgn r = 2 ∨ spineRequests s r d k = []) :=
  ⟨w, 2, 2, 1, by decide +kernel⟩
theorem test_meets_SpinePaths_4 : ∃ (s : State) (r d : Region) (k : Fin 2), (s.rgn r = 0) ∧ ([0, 1, 2, 3].any (fun q => q != r.val && s.rgn q == 0) = true) ∧ (s.fatal = false) :=
  ⟨w.setRgn 0 2, 3, 1, 0, by decide +kernel⟩
theorem test_meets_SpinePaths_5 : ∃ (s : State) (r d : Region) (k : Fin 2) (c : Cell) (rest : List (Option Cell)), (Tab.get [] s.swc.flight (pathKey r d k) = some c :: rest) ∧ (s.spray r d = 0) ∧ (s.inService c.out = true) ∧ (c.item = none) :=
  ⟨((wUp 5).setWord .SWC_SPN_STS 1 0).sw fun x => { x with flight := [(pathKey 1 0 1, [some ({ source := 20, out := 5, tc := 6, seq := 65535, data := [1, 2] } : Cell)])] }, 1, 0, 1, ({ source := 20, out := 5, tc := 6, seq := 65535, data := [1, 2] } : Cell), [], by decide +kernel⟩
theorem test_meets_SpinePaths_6 : ∃ (s : State) (r d : Region) (k : Fin 2) (c : Cell) (rest : List (Option Cell)), (Tab.get [] s.swc.flight (pathKey r d k) = some c :: rest) ∧ (s.spray r d = 2) ∧ (s.inService c.out = true) ∧ (c.item = none) ∧ (0 < (c.seq + 65536 - Tab.get 0 s.swc.rxseq c.flow) % 65536 ∧ (c.seq + 65536 - Tab.get 0 s.swc.rxseq c.flow) % 65536 < 32768) ∧ ((Tab.get [] s.swc.window c.out).length < 4096) ∧ ((Tab.get [] s.swc.window c.out).all (fun x => !(x.flow == c.flow && x.seq == c.seq)) = true) :=
  ⟨((wUp 5).set SWC_SPN_STS.MODE 1 2).sw fun x => { x with flight := [(pathKey 1 0 1, [some ({ source := 20, out := 5, tc := 6, seq := 65535, data := [1, 2] } : Cell)])], rxseq := [(({ source := 20, out := 5, tc := 6, seq := 65535, data := [1, 2] } : Cell).flow, 65533)] }, 1, 0, 1, ({ source := 20, out := 5, tc := 6, seq := 65535, data := [1, 2] } : Cell), [], by decide +kernel⟩
theorem test_meets_SpinePaths_7 : ∃ (s : State) (r d : Region) (k : Fin 2) (c : Cell) (rest : List (Option Cell)), (Tab.get [] s.swc.flight (pathKey r d k) = some c :: rest) ∧ (s.rgn d ≠ 2) ∧ ((Tab.get [] s.swc.crc (pathKey r d k)).length < 15) :=
  ⟨(wUp 5).sw fun x => { x with flight := [(pathKey 1 0 1, [some ({ source := 20, out := 5, tc := 6, seq := 65535, data := [1, 2] } : Cell)])] }, 1, 0, 1, ({ source := 20, out := 5, tc := 6, seq := 65535, data := [1, 2] } : Cell), [], by decide +kernel⟩
theorem test_meets_SpinePaths_8 : ∃ (s : State) (r d : Region) (k : Fin 2) (g : Bool), ((match Tab.get [] s.swc.flight (pathKey r d k) with | some _ :: _ => false | _ => true) = true) :=
  ⟨w, 1, 0, 1, true, by decide +kernel⟩
theorem test_meets_SpinePaths_10 : ∃ (s : State) (r d : Region) (k : Fin 2), (r ≠ d) ∧ (s.pathUp r d k = true) ∧ (s.pathUp r d (1 - k.val) = true) ∧ (s.rgn r ≠ 2) ∧ (s.spray r d = 0) ∧ (s.spray d r = 0) :=
  ⟨((w.setWord .SWC_SPN_STS 3 0).setWord .SWC_SPN_STS 0 0).sw fun x => { x with replay := [(pathKey 3 0 1, [(({ source := 20, out := 5, tc := 6, seq := 65535, data := [1, 2] } : Cell), false)])] }, 3, 0, 1, by decide +kernel⟩
theorem test_meets_SpinePaths_11 : ∃ (s : State) (r d : Region) (k : Fin 2), (r = d ∨ s.pathUp r d k = false) :=
  ⟨w, 1, 1, 0, by decide +kernel⟩
theorem test_meets_SprayModes_1 : ∃ (s : State) (p : Path) (r d : Region), (s.admits p (swcSet r)) ∧ (r ≠ d) ∧ (s.spray r d = 0) :=
  ⟨w.setWord .SWC_SPN_STS 3 0, .librarian, 3, 0, by decide +kernel⟩
theorem test_meets_SprayModes_2 : ∃ (s : State) (p : Path) (r d : Region), (s.admits p (swcSet r)) ∧ (r = d ∨ s.spray r d ≠ 0) :=
  ⟨w.set SWC_SPN_STS.MODE 3 2, .librarian, 3, 0, by decide +kernel⟩
theorem test_meets_SprayModes_3 : ∃ (s : State) (r d : Region), (s.spray r d = 1) ∧ ((s.get SWC_SPN_CTL.FORCE_SPRAY r).testBit d = true) :=
  ⟨(w.set SWC_SPN_STS.MODE 3 1).set SWC_SPN_CTL.FORCE_SPRAY 3 1, 3, 0, by decide +kernel⟩
theorem test_meets_SprayModes_4 : ∃ (s : State) (r d : Region), (s.spray r d = 1) ∧ ((s.get SWC_SPN_CTL.FORCE_SPRAY r).testBit d = false) :=
  ⟨w.set SWC_SPN_STS.MODE 3 1, 3, 0, by decide +kernel⟩
theorem test_meets_SprayModes_5 : ∃ (s : State) (r d : Region), (s.spray r d ≠ 1) :=
  ⟨w, 3, 0, by decide +kernel⟩
theorem test_meets_SprayModes_6 : ∃ (s : State) (p : Path) (r d : Region), (s.admits p (swcSet r)) ∧ (r ≠ d) ∧ ((s.get SWC_SPN_CTL.FORCE_SPRAY r).testBit d = true) ∧ (s.spray r d = 2) ∧ (s.resendOver r d = true) :=
  ⟨(w.set SWC_SPN_STS.MODE 3 2).set SWC_SPN_CTL.FORCE_SPRAY 3 1, .librarian, 3, 0, by decide +kernel⟩
theorem test_meets_SprayModes_7 : ∃ (s : State) (p : Path) (r d : Region), (s.admits p (swcSet r)) ∧ (r = d ∨ (s.get SWC_SPN_CTL.FORCE_SPRAY r).testBit d = false ∨ s.spray r d ≠ 2 ∨ s.resendOver r d = false) :=
  ⟨(w.set SWC_SPN_STS.MODE 3 1).set SWC_SPN_CTL.FORCE_SPRAY 3 1, .librarian, 3, 0, by decide +kernel⟩
theorem test_meets_SprayModes_8 : ∃ (s : State) (r d : Region), (s.spray r d = 2) ∧ (s.resendOver r d = true) ∧ (s.pathUp r d 0 = false ∨ s.pathUp r d 1 = false) :=
  ⟨(w.set SWC_SPN_STS.MODE 3 2).set SWC_SPN_STS.PATH_FAIL 3 1, 3, 0, by decide +kernel⟩
theorem test_meets_SprayModes_9 : ∃ (s : State) (r d : Region), (s.spray r d ≠ 2 ∨ s.resendOver r d = false ∨ s.pathUp r d 0 = true ∧ s.pathUp r d 1 = true) :=
  ⟨w.set SWC_SPN_STS.MODE 3 2, 3, 0, by decide +kernel⟩
theorem test_meets_SprayModes_10 : ∃ (s : State) (r d : Region), (r ≠ d) ∧ (s.spray r d = 2) ∧ (s.pathUp r d 0 = true) ∧ (s.pathUp r d 1 = true) ∧ (Tab.get false s.swc.checked (pairKey r d) = false) :=
  ⟨w.set SWC_SPN_STS.MODE 3 2, 3, 0, by decide +kernel⟩
theorem test_meets_SprayModes_11 : ∃ (s : State) (r d : Region), (r = d ∨ s.spray r d ≠ 2 ∨ s.pathUp r d 0 = false ∨ s.pathUp r d 1 = false ∨ Tab.get false s.swc.checked (pairKey r d) = true) :=
  ⟨w, 3, 3, by decide +kernel⟩
theorem test_meets_SprayModes_12 : ∃ (s : State) (r d : Region) (k : Fin 2) (rest : List (Option Cell)), (Tab.get [] s.swc.flight (pathKey r d k) = none :: rest) ∧ (s.spray r d ≠ 3) :=
  ⟨w.sw fun x => { x with flight := [(pathKey 1 0 1, [none])] }, 1, 0, 1, [], by decide +kernel⟩
theorem test_meets_SprayModes_13 : ∃ (s : State) (r d : Region) (k : Fin 2) (rest : List (Option Cell)), (Tab.get [] s.swc.flight (pathKey r d k) = none :: rest) ∧ (s.spray r d = 3) ∧ (s.pathUp r d (1 - k.val) = false ∨ (1 - k.val) ∈ Tab.get [] s.swc.marks (pairKey r d)) ∧ (s.resendOver r d = true) ∧ (s.swc.window = []) ∧ ((s.get SWC_SPN_CTL.FORCE_SPRAY r).testBit d = false) :=
  ⟨(w.set SWC_SPN_STS.MODE 1 3).sw fun x => { x with flight := [(pathKey 1 0 1, [none])], marks := [(pairKey 1 0, [0])] }, 1, 0, 1, [], by decide +kernel⟩
theorem test_meets_SprayModes_14 : ∃ (s : State) (r d : Region) (k : Fin 2), ((match Tab.get [] s.swc.flight (pathKey r d k) with | none :: _ => false | _ => true) = true) :=
  ⟨w, 1, 0, 1, by decide +kernel⟩
theorem test_meets_SprayModes_15 : ∃ (s : State) (p : Port) (src : Fin 68) (tc : Tc) (c : Cell), (s.role p = 0) ∧ (s.flag PRT_PORT_STS.GANGED p = false) ∧ (s.rgn (p / 16) ≠ 2) ∧ (s.inService p = false) ∧ (s.spray (sourceRegion src) (p / 16) ≠ 3) ∧ (Tab.get [] s.swc.window p = [c]) ∧ (c.source = src.val) ∧ (c.out = p.val) ∧ (c.tc = tc.val) ∧ (c.seq < 65536) ∧ (c.item = none) ∧ (s.swc.skipped = []) ∧ (s.flag SWC_RSQ_HOLE.VALID p = false) :=
  ⟨w.sw fun x => { x with window := [(5, [({ source := 20, out := 5, tc := 6, seq := 65535, data := [1, 2] } : Cell)])] }, 5, 20, 6, ({ source := 20, out := 5, tc := 6, seq := 65535, data := [1, 2] } : Cell), by decide +kernel⟩
theorem test_meets_SprayModes_16 : ∃ (s : State) (p : Port) (src : Fin 68) (tc : Tc), ((Tab.get [] s.swc.window p).all (fun c => c.flow != flowKey src p tc) = true) :=
  ⟨w, 5, 20, 6, by decide +kernel⟩
theorem test_meets_SprayModes_17 : ∃ (s : State) (p : Path) (a : BitVec 32) (d : BitVec 64) (i : Nat), (s.writeReaches p a (.reg .SWC_SPN_CTL i)) :=
  ⟨(w.setWord .SWC_SPN_CTL 0 9), .librarian 0, 22020100, 6, 0, by decide +kernel⟩
theorem test_meets_SprayModes_18 : ∃ (s : State) (p : Path) (a : BitVec 32) (d : BitVec 64) (i : Nat), (s.writeReaches p a (.reg .SWC_GLN_CTL i)) :=
  ⟨w, .librarian 0, 22022144, 5, 0, by decide +kernel⟩
theorem test_meets_SprayModes_19 : ∃ (s : State) (p : Path) (r k : Region), (s.mayWrite p = false) :=
  ⟨wFw, .i3c, 1, 2, by decide +kernel⟩
theorem test_meets_RoutingTable_1 : ∃ (s : State) (p : Path) (r : Region) (n : BitVec 11), (s.admits p (swcSet r)) ∧ (s.flag SWC_RT_CMD.BUSY r = false) :=
  ⟨w.sw fun x => { x with rt := [(6145 + 2046, 7)] }, .librarian, 3, 2047, by decide +kernel⟩
theorem test_meets_RoutingTable_2 : ∃ (s : State) (p : Path) (r : Region) (n : BitVec 11) (q : Nat), (s.admits p (swcSet r)) ∧ (s.flag SWC_RT_CMD.BUSY r = false) ∧ (rtVcs (s.rtEntry r n.toNat) = q) ∧ (s.role q = 1) ∧ (s.get PRT_PORT_STS.STATE q = 4) ∧ (s.flag PRT_PORT_STS.GANGED q = false) ∧ (s.rgn (q / 16) ≠ 2) ∧ (s.rgn r ≠ 2) :=
  ⟨(wUp 5).sw fun x => { x with rt := [(2047, 21)] }, .librarian, 0, 2047, 5, by decide +kernel⟩
theorem test_meets_RoutingTable_3 : ∃ (s : State) (p : Path) (r : Region) (n : BitVec 11), (s.admits p (swcSet r)) ∧ (s.flag SWC_RT_CMD.BUSY r = true) :=
  ⟨w.set SWC_RT_CMD.BUSY 2 1, .librarian, 2, 9, by decide +kernel⟩
theorem test_meets_RoutingTable_4 : ∃ (s : State) (p : Path) (r : Region) (n : BitVec 11), (s.admits p (swcSet r)) ∧ (s.flag SWC_RT_CMD.BUSY r = false) ∧ (rtVcs (rtStaged s r) / 16 = r.val) ∧ (rtGood (rtStaged s r) = true) ∧ (s.anyOld r = false) :=
  ⟨(w.setWord .SWC_RT_D 12 0xC1).set SWC_RT_BAR.EPOCH 3 65535, .librarian, 3, 0, by decide +kernel⟩
theorem test_meets_RoutingTable_5 : ∃ (s : State) (p : Path) (r : Region) (n : BitVec 11), (s.admits p (swcSet r)) ∧ (s.flag SWC_RT_CMD.BUSY r = false) :=
  ⟨(w.setWord .SWC_RT_D 12 0xC1).set SWC_RT_BAR.EPOCH 3 65535, .librarian, 3, 0, by decide +kernel⟩
theorem test_meets_RoutingTable_6 : ∃ (s : State) (p : Path) (r : Region) (n : BitVec 11), (s.admits p (swcSet r)) ∧ (s.flag SWC_RT_CMD.BUSY r = false) :=
  ⟨w.setWord .SWC_RT_D 12 0xFFFFFFC1, .librarian, 3, 0, by decide +kernel⟩
theorem test_meets_RoutingTable_7 : ∃ (s : State) (p : Path) (r : Region), (s.admits p (swcSet r)) :=
  ⟨w, .librarian, 2, by decide +kernel⟩
theorem test_meets_RoutingTable_8 : ∃ (s : State) (r : Region), (s.flag SWC_RT_BAR.BUSY r = true) ∧ (s.anyOld r = false) :=
  ⟨w.set SWC_RT_BAR.BUSY 2 1, 2, by decide +kernel⟩
theorem test_meets_RoutingTable_9 : ∃ (s : State) (r : Region) (c : Cell), (s.flag SWC_RT_BAR.BUSY r = true) ∧ (s.allCells = [c]) ∧ (s.oldCell r c = true) ∧ (s.role c.out = 1) ∧ (s.get PRT_PORT_STS.STATE c.out = 4) ∧ (s.flag PRT_PORT_STS.GANGED c.out = false) ∧ (s.rgn r ≠ 2) :=
  ⟨((wUp 5).set SWC_RT_BAR.BUSY 0 1).sw fun x => { x with merge := [(40, [{ source := 3, out := 5, tc := 1, epoch := some (0, 77) }])] }, 0, { source := 3, out := 5, tc := 1, epoch := some (0, 77) }, by decide +kernel⟩
theorem test_meets_RoutingTable_11 : ∃ (s : State) (p : Path) (a : BitVec 32) (d : BitVec 64) (i : Nat), (s.writeReaches p a (.reg .SWC_RT_CMD i)) :=
  ⟨w, .librarian 0, 22020128, 2 ^ 13 + 2 ^ 11 + 5, 0, by decide +kernel⟩
theorem test_meets_RoutingTable_12 : ∃ (s : State) (p : Path) (a : BitVec 32) (d : BitVec 64) (i : Nat), (s.writeReaches p a (.reg .SWC_RT_BAR i)) :=
  ⟨w, .librarian 0, 22020132, 1, 0, by decide +kernel⟩
theorem test_meets_RoutingTable_13 : ∃ (s : State) (p : Path) (r : Region) (e : BitVec 11) (x : EntryRead), (s.mayWrite p = false) :=
  ⟨wFw, .i3c, 1, 5, ⟨5, false⟩, by decide +kernel⟩
theorem test_meets_Policers_1 : ∃ (s : State) (r : Region) (k : Carrel) (u : Fin 4) (q : Qid) (tag : BitVec 32) (d : List Byte) (b : Bool), (s.carrelActive k.toNat = true) ∧ (s.tplOf k.toNat 20 1 = 1) ∧ ((slipPolicers s r k.toNat q.toNat).filterMap id = []) ∧ (u.val = s.unit) :=
  ⟨wTpl, 1, 4, 0, 9, 7, [], false, by decide +kernel⟩
theorem test_meets_Policers_2 : ∃ (s : State) (r : Region) (k : Carrel) (u : Fin 4) (q : Qid) (tag : BitVec 32) (d : List Byte) (b : Bool) (n : Nat), (s.carrelActive k.toNat = true) ∧ (s.tplOf k.toNat 20 1 = 1) ∧ ((slipPolicers s r k.toNat q.toNat).filterMap id = [n]) ∧ (s.conforms n = true) ∧ (u.val = s.unit) :=
  ⟨((((wTpl.set TFC_POL_ATT.EN 5 1).set TFC_POL_ATT.KIND 5 1).set TFC_POL_ATT.ID 5 4).set TFC_POL_CFG.BURST 5 9 |>.set TFC_POL_CFG.RATE 5 1).setPolicer 5 ⟨2000, 0, 0⟩, 0, 4, 0, 9, 7, [], false, 5, by decide +kernel⟩
theorem test_meets_Policers_3 : ∃ (s : State) (r : Region) (k : Carrel) (u : Fin 4) (q : Qid) (tag : BitVec 32) (d : List Byte) (b : Bool) (n : Nat), (s.carrelActive k.toNat = true) ∧ (s.tplOf k.toNat 20 1 = 1) ∧ ((slipPolicers s r k.toNat q.toNat).filterMap id = [n]) ∧ (s.conforms n = false) ∧ (s.policerOf (s.carrelPort k.toNat / 16) 1 k.toNat = none) :=
  ⟨((((wTpl.set TFC_POL_ATT.EN 2053 1).set TFC_POL_ATT.KIND 2053 2).set TFC_POL_ATT.ID 2053 9)).setPolicer 2053 ⟨-1, 0, 0⟩, 1, 4, 0, 9, 7, [], false, 2053, by decide +kernel⟩
theorem test_meets_Policers_4 : ∃ (s : State) (r : Region) (k : Carrel) (u : Fin 4) (q : Qid) (tag : BitVec 32) (d : List Byte) (b : Bool), (s.carrelActive k.toNat = false ∨ s.tplOf k.toNat 20 1 = 0) :=
  ⟨w, 1, 4, 0, 9, 7, [], false, by decide +kernel⟩
theorem test_meets_Policers_5 : ∃ (s : State) (r : Region) (k : Carrel) (u : Fin 4) (q : Qid) (tag : BitVec 32) (d : List Byte) (b : Bool) (p : Nat), (s.carrelActive k.toNat = true) ∧ (s.tplOf k.toNat 20 1 = 1) ∧ ((slipPolicers s r k.toNat q.toNat).filterMap id = []) ∧ (u.val ≠ s.unit) ∧ (s.zPortTo u.val = some p) :=
  ⟨((wTpl.set ZWL_STS.STATE 2 2).set ZWL_PEER.VALID 2 1).set ZWL_PEER.UNIT 2 3, 1, 4, 3, 9, 7, [5], false, zPort 2, by decide +kernel⟩
theorem test_meets_Policers_6 : ∃ (s : State) (p : Path) (n : Fin 8192) (v : Word), (s.admits p (tfcSet (n / 2048))) ∧ (bits v 16 16 ≠ 0) :=
  ⟨w, .librarian, 8191, 0xFFFF0001, by decide +kernel⟩
theorem test_meets_Policers_7 : ∃ (s : State) (p : Path) (n : Fin 8192) (v : Word), (s.admits p (tfcSet (n / 2048))) ∧ (bits v 16 16 = 0) :=
  ⟨w, .librarian, 8191, 0x00000001, by decide +kernel⟩
theorem test_meets_Policers_8 : ∃ (s : State) (p : Path) (n : Fin 8192) (v : Word), (s.admits p (tfcSet (n / 2048))) ∧ (bits v 0 1 = 1) ∧ (s.flag TFC_POL_ATT.EN n = false) ∧ (¬(bits v 1 2 = 1 ∧ 4096 ≤ bits v 3 20) ∧ ¬(bits v 1 2 = 3 ∧ 16 ≤ bits v 3 20)) ∧ ((bits v 1 2 = 0 ∨ s.policerOf (n / 2048) (bits v 1 2) (bits v 3 20) = none ∨ s.policerOf (n / 2048) (bits v 1 2) (bits v 3 20) = some n.val)) :=
  ⟨w, .librarian, 6144, 0x7FFB, by decide +kernel⟩
theorem test_meets_Policers_9 : ∃ (s : State) (p : Path) (n : Fin 8192) (v : Word), (s.admits p (tfcSet (n / 2048))) ∧ (¬(bits v 1 2 = 1 ∧ 4096 ≤ bits v 3 20) ∧ ¬(bits v 1 2 = 3 ∧ 16 ≤ bits v 3 20)) ∧ ((bits v 1 2 = 0 ∨ s.policerOf (n / 2048) (bits v 1 2) (bits v 3 20) = none ∨ s.policerOf (n / 2048) (bits v 1 2) (bits v 3 20) = some n.val)) ∧ (bits v 0 1 = 0 ∨ s.flag TFC_POL_ATT.EN n = true) :=
  ⟨w.set TFC_POL_ATT.EN 6144 1, .librarian, 6144, 0x7FFA, by decide +kernel⟩
theorem test_meets_Policers_10 : ∃ (s : State) (p : Path) (n : Fin 8192) (v : Word) (m : Nat), (s.admits p (tfcSet (n / 2048))) ∧ (¬(bits v 1 2 = 1 ∧ 4096 ≤ bits v 3 20) ∧ ¬(bits v 1 2 = 3 ∧ 16 ≤ bits v 3 20)) ∧ (bits v 0 1 = 1) ∧ (bits v 1 2 ≠ 0) ∧ (s.policerOf (n / 2048) (bits v 1 2) (bits v 3 20) = some m) ∧ (m ≠ n.val) :=
  ⟨((w.set TFC_POL_ATT.EN 6145 1).set TFC_POL_ATT.KIND 6145 1).set TFC_POL_ATT.ID 6145 4095, .librarian, 6144, 0x7FFB, 6145, by decide +kernel⟩
theorem test_meets_Policers_11 : ∃ (s : State) (p : Path) (n : Fin 8192) (v : Word), (s.admits p (tfcSet (n / 2048))) ∧ (bits v 1 2 = 1 ∧ 4096 ≤ bits v 3 20 ∨ bits v 1 2 = 3 ∧ 16 ≤ bits v 3 20) ∧ (bits v 0 1 = 0) :=
  ⟨w.set TFC_POL_ATT.EN 6144 1, .librarian, 6144, 0x8002, by decide +kernel⟩
theorem test_meets_Policers_12 : ∃ (s : State) (p : Path) (a : BitVec 32) (d : BitVec 64) (i : Nat), (s.writeReaches p a (.reg .TFC_POL_CFG i)) :=
  ⟨w, .librarian 0, 23072768, 0x50007, 0, by decide +kernel⟩
theorem test_meets_Policers_13 : ∃ (s : State) (p : Path) (a : BitVec 32) (d : BitVec 64) (i : Nat), (s.writeReaches p a (.reg .TFC_POL_ATT i)) :=
  ⟨w, .librarian 0, 23072772, 7, 0, by decide +kernel⟩
theorem test_meets_Policers_14 : ∃ (s : State) (p : Path) (a : BitVec 32) (d : BitVec 64) (i : Nat), (s.writeReaches p a (.reg .TFC_SHP_CFG i)) :=
  ⟨w, .librarian 0, 23068928, 7, 0, by decide +kernel⟩
theorem test_meets_Policers_15 : ∃ (s : State) (p : Path) (n : Fin 8192) (v : Word), (s.mayWrite p = false) :=
  ⟨wFw, .i3c, 5, 7, by decide +kernel⟩
theorem test_meets_FabricTimeSources_1 : ∃ (s : State) (p : Nat), (s.managerPort = some p) :=
  ⟨wMgr, 2, by decide +kernel⟩
theorem test_meets_FabricTimeSources_2 : ∃ (s : State), (s.managerPort = none) :=
  ⟨w, by decide +kernel⟩
theorem test_meets_FabricTimeSources_3 : ∃ (s : State) (m : BitVec 64), (s.get TFC_TIME_CTL.SRC 0 = 1) ∧ (s.tfc.first = false ∨ s.get TFC_TIME_CTL.STEP_NS 0 < ((m.toNat : Int) - (s.timeOf 0 : Nat)).natAbs) ∧ (s.timeOf 0 < 2 ^ 64) :=
  ⟨wMgr, 0xFFFFFFFFFFFFFFFF, by decide +kernel⟩
theorem test_meets_FabricTimeSources_4 : ∃ (s : State) (m : BitVec 64), (s.get TFC_TIME_CTL.SRC 0 = 1) ∧ (s.tfc.first = true) ∧ (((m.toNat : Int) - (s.timeOf 0 : Nat)).natAbs ≤ s.get TFC_TIME_CTL.STEP_NS 0) :=
  ⟨{ wMgr with tfc := { first := true }, time := [(0, 500)] }, 499, by decide +kernel⟩
theorem test_meets_FabricTimeSources_5 : ∃ (s : State) (m : BitVec 64), (s.get TFC_TIME_CTL.SRC 0 ≠ 1) :=
  ⟨w, 5, by decide +kernel⟩
theorem test_meets_FabricTimeSources_6 : ∃ (s : State), (s.get TFC_TIME_CTL.SRC 0 ≠ 0) ∧ (s.flag TFC_TIME_STS.HOLDOVER 0 = false) :=
  ⟨wMgr, by decide +kernel⟩
theorem test_meets_FabricTimeSources_7 : ∃ (s : State), (s.get TFC_TIME_CTL.SRC 0 = 0 ∨ s.flag TFC_TIME_STS.HOLDOVER 0 = true) :=
  ⟨w, by decide +kernel⟩
theorem test_meets_FabricTimeSources_8 : ∃ (s : State), ((List.range 64).filter (fun p => s.flag TFC_GATE_CTL.EN p) = []) :=
  ⟨{ w with time := [(0, 500), (2, 900)] }, by decide +kernel⟩
theorem test_meets_FabricTimeSources_9 : ∃ (s : State) (p : Port), ((List.range 64).filter (fun p => s.flag TFC_GATE_CTL.EN p) = [p.val]) ∧ (s.role p = 1) ∧ (s.get PRT_PORT_STS.STATE p = 4) ∧ (s.flag PRT_PORT_STS.GANGED p = false) :=
  ⟨{ (wUp 5).set TFC_GATE_CTL.EN 5 1 with time := [(0, 500), (2, 900)] }, 5, by decide +kernel⟩
theorem test_meets_FabricTimeSources_10 : ∃ (s : State) (p : Path) (a : BitVec 32) (d : BitVec 64) (i : Nat), (s.writeReaches p a (.reg .TFC_TIME_CTL i)) ∧ (i = 0) :=
  ⟨w, .librarian 0, 524288, 1, 0, by decide +kernel⟩
theorem test_meets_GatesAndDepth_1 : ∃ (s : State) (p : Path) (port : Port), (s.admits p (tfcSet (port / 16))) :=
  ⟨w, .librarian, 63, by decide +kernel⟩
theorem test_meets_GatesAndDepth_2 : ∃ (s : State) (port : Port), (s.flag TFC_GATE_CTL.PENDING port = true) ∧ ((s.word .TFC_GATE_BASE_LO port).toNat + 2 ^ 32 * (s.word .TFC_GATE_BASE_HI port).toNat ≤ s.timeOf (port / 16)) :=
  ⟨w.set TFC_GATE_CTL.PENDING 63 1, 63, by decide +kernel⟩
theorem test_meets_GatesAndDepth_3 : ∃ (s : State) (port : Port), (s.flag TFC_GATE_CTL.PENDING port = false ∨ s.timeOf (port / 16) < (s.word .TFC_GATE_BASE_LO port).toNat + 2 ^ 32 * (s.word .TFC_GATE_BASE_HI port).toNat) :=
  ⟨w, 63, by decide +kernel⟩
theorem test_meets_GatesAndDepth_5 : ∃ (s : State) (r : Region) (i : Fin 16) (o : Port) (tc : Tc) (n : Nat), (s.flag TFC_HIST_CTL.EN r = true) ∧ (s.arcStopped r = false) ∧ (s.rgn r ≠ 2) ∧ (n = 16 * histKey r .voqDepth (16 * r.val + i) o tc + log2Bin ((Tab.get [] s.swc.voq (voqKey (16 * r.val + i) o tc)).length + (Tab.get [] s.swc.ovf (voqKey (16 * r.val + i) o tc)).length) % 16) :=
  ⟨((w.set TFC_HIST_CTL.EN 3 1).set ARC_CTL.EN 3 1).sw fun x => { x with voq := [(voqKey 63 0 7, [({ source := 3, out := 5, tc := 6, data := [1, 2] } : Cell)])] }, 3, 15, 0, 7, 16 * histKey 3 .voqDepth 63 0 7 + log2Bin 1 % 16, by decide +kernel⟩
theorem test_meets_GatesAndDepth_6 : ∃ (s : State) (r : Region) (n : Nat), (s.flag TFC_HIST_CTL.EN r = false) ∧ (s.arcStopped r = false) ∧ (s.rgn r ≠ 2) ∧ (n = 16 * histKey r .ldOcc 0 0 0 + log2Bin (s.get CAT_LD_OCC.CURRENT r) % 16) ∧ (∀ c < 8, Tab.get (0, 0) s.grn.band (8 * r.val + c) = (0, 0)) :=
  ⟨(w.set ARC_CTL.EN 3 1).set TFC_HIST_CTL.EN 3 0, 3, 16 * histKey 3 .ldOcc 0 0 0, by decide +kernel⟩
theorem test_meets_GatesAndDepth_7 : ∃ (s : State) (p : Path) (a : BitVec 32) (d : BitVec 64) (i : Nat), (s.writeReaches p a (.reg .TFC_GATE_CTL i)) :=
  ⟨w, .librarian 0, 23105536, 2 ^ 14, 0, by decide +kernel⟩
theorem test_meets_GatesAndDepth_8 : ∃ (s : State) (p : Path) (a : BitVec 32) (d : BitVec 64) (i : Nat), (s.writeReaches p a (.reg .TFC_GATE_DUR i)) :=
  ⟨w, .librarian 0, 23117824, 20, 0, by decide +kernel⟩
theorem test_meets_GatesAndDepth_9 : ∃ (s : State) (p : Path) (a : BitVec 32) (d : BitVec 64) (i : Nat), (s.writeReaches p a (.reg .TFC_GATE_MASK i)) :=
  ⟨w, .librarian 0, 23117828, 20, 0, by decide +kernel⟩
theorem test_meets_GatesAndDepth_10 : ∃ (s : State) (p : Path) (q : Port), (s.mayWrite p = false) :=
  ⟨wFw, .i3c, 5, by decide +kernel⟩
theorem test_meets_PortBringUp_1 : ∃ (s : State) (p : Port), (s.role p ≠ 0) ∧ (s.flag PRT_PORT_STS.GANGED p = false) ∧ (s.get PRT_PORT_STS.STATE p = 1) ∧ (s.prt.pllOff.contains p.val = false) ∧ (s.fatal = false) :=
  ⟨{ (wDn 7).set PRT_PORT_STS.STATE 7 1 with prt := { w.prt with detect := [(7, true)] } }, 7, by decide +kernel⟩
theorem test_meets_PortBringUp_2 : ∃ (s : State) (p q : Port), (p.val = q.val / 2 * 2) ∧ (s.role q ≠ 0) ∧ (s.flag PRT_PORT_STS.GANGED q = true) ∧ (s.get PRT_PORT_STS.STATE p = 1) ∧ (s.get PRT_PORT_STS.STATE (p + 1 : Nat) = 1) ∧ (s.prt.pllOff = []) ∧ (s.fatal = false) :=
  ⟨((((wZl 2).set PRT_PORT_STS.STATE 30 1).set PRT_PORT_STS.STATE 31 1).set PRT_PORT_STS.GANGED 30 1), 30, 30, by decide +kernel⟩
theorem test_meets_PortBringUp_3 : ∃ (s : State) (p : Port) (b : Bool), (b = false ∨ s.role p = 0 ∨ s.get PRT_PORT_STS.STATE p ≠ 1 ∨ s.fatal = true) ∧ (s.flag PRT_PORT_STS.GANGED p = false) :=
  ⟨w, 7, true, by decide +kernel⟩
theorem test_meets_PortBringUp_4 : ∃ (s : State) (p : Port) (rate : Fin 6) (width : Fin 17) (flit : Fin 4) (l rev : Bool), (s.role p = 2) ∧ (s.flag PRT_PORT_STS.GANGED p = false) ∧ (s.get PRT_PORT_STS.STATE p = 2 ∨ s.get PRT_PORT_STS.STATE p = 3 ∨ s.get PRT_PORT_STS.STATE p = 5) ∧ (rate.val ≤ s.get PRT_PORT_EVT.CAP p) ∧ (rate.val ≤ s.get PRT_PORT_CTL.MAX_RATE p) ∧ (widthTrains s p width rev = true) ∧ (flit.val = 3 ∨ flit.val = 1 ∧ rate.val ≤ 4) :=
  ⟨((wDn 7).set PRT_PORT_STS.STATE 7 2).set PRT_PORT_EVT.CAP 7 5, 7, 5, 8, 3, true, false, by decide +kernel⟩
theorem test_meets_PortBringUp_5 : ∃ (s : State) (p : Port) (rate : Fin 6) (width : Fin 17) (flit : Fin 4) (l rev : Bool), (s.role p = 1 ∨ s.role p = 2) ∧ (s.flag PRT_PORT_STS.GANGED p = false) ∧ (s.get PRT_PORT_STS.STATE p = 2 ∨ s.get PRT_PORT_STS.STATE p = 3 ∨ s.get PRT_PORT_STS.STATE p = 5) ∧ (rate.val ≤ s.get PRT_PORT_EVT.CAP p) ∧ (rate.val ≤ s.get PRT_PORT_CTL.MAX_RATE p) ∧ (widthTrains s p width rev = true) ∧ (flit.val = 3) ∧ (4 ≤ rate.val) :=
  ⟨((wUp 7).set PRT_PORT_STS.STATE 7 2).set PRT_PORT_EVT.CAP 7 5, 7, 5, 4, 3, true, false, by decide +kernel⟩
theorem test_meets_PortBringUp_6 : ∃ (s : State) (p : Port) (rate : Fin 6) (width : Fin 17) (flit : Fin 4) (l rev : Bool), (s.role p = 3) ∧ (s.flag PRT_PORT_STS.GANGED p = false) ∧ (s.get PRT_PORT_STS.STATE p = 2 ∨ s.get PRT_PORT_STS.STATE p = 3 ∨ s.get PRT_PORT_STS.STATE p = 5) ∧ (rate.val ≤ s.get PRT_PORT_EVT.CAP p) ∧ (rate.val ≤ s.get PRT_PORT_CTL.MAX_RATE p) ∧ (widthTrains s p width rev = true) ∧ (rate.val = 5) ∧ (s.get ZWL_STS.STATE (zIndex p) = 0) :=
  ⟨((wZl 2).set PRT_PORT_STS.STATE 30 2).set PRT_PORT_EVT.CAP 30 5, 30, 5, 8, 0, false, false, by decide +kernel⟩
theorem test_meets_PortBringUp_7 : ∃ (s : State) (p : Port) (rate : Fin 6) (width : Fin 17) (flit : Fin 4) (l rev : Bool), (s.role p = 1) ∧ (s.flag LNK_CTL.PCIE_UP_EN p = false) ∧ (flit.val = 3) ∧ (2 ≤ rate.val) ∧ (s.flag PRT_PORT_STS.GANGED p = false) ∧ (s.get PRT_PORT_STS.STATE p = 2 ∨ s.get PRT_PORT_STS.STATE p = 3 ∨ s.get PRT_PORT_STS.STATE p = 5) ∧ (rate.val ≤ s.get PRT_PORT_EVT.CAP p) ∧ (rate.val ≤ s.get PRT_PORT_CTL.MAX_RATE p) ∧ (widthTrains s p width rev = true) :=
  ⟨(((wUp 7).set PRT_PORT_STS.STATE 7 2).set PRT_PORT_EVT.CAP 7 5).set LNK_CTL.PCIE_UP_EN 7 0, 7, 5, 8, 3, true, false, by decide +kernel⟩
theorem test_meets_PortBringUp_8 : ∃ (s : State) (p : Port) (rate : Fin 6) (width : Fin 17) (flit : Fin 4) (l rev : Bool) (proto : Fin 3), (s.role p = 0 ∨ s.get PRT_PORT_STS.STATE p = 1 ∨ s.get PRT_PORT_STS.STATE p = 6 ∨ s.get PRT_PORT_EVT.CAP p < rate.val ∨ s.get PRT_PORT_CTL.MAX_RATE p < rate.val ∨ protoRuns (s.role p) proto flit rate = false ∨ widthTrains s p width rev = false) :=
  ⟨w, 7, 5, 8, 3, true, false, 0, by decide +kernel⟩
theorem test_meets_PortBringUp_9 : ∃ (s : State) (p : Port) (rate : Fin 6) (x : Option Bool), (s.role p ≠ 0) ∧ (s.get PRT_PORT_STS.STATE p = 2 ∨ s.get PRT_PORT_STS.STATE p = 3) ∧ (s.flag PRT_PORT_STS.GANGED p = false) ∧ (s.rgn (p / 16) ≠ 2) :=
  ⟨(wDn 63).set PRT_PORT_STS.STATE 63 2, 63, 5, none, by decide +kernel⟩
theorem test_meets_PortBringUp_10 : ∃ (s : State) (p : Port) (rate : Fin 6) (x : Option Bool), (s.role p = 0 ∨ s.get PRT_PORT_STS.STATE p ≠ 2 ∧ s.get PRT_PORT_STS.STATE p ≠ 3 ∧ s.get PRT_PORT_STS.STATE p ≠ 5) :=
  ⟨wDn 63, 63, 5, none, by decide +kernel⟩
theorem test_meets_PortBringUp_11 : ∃ (s : State) (p : Port), (s.role p = 2) ∧ (s.get PRT_PORT_STS.STATE p = 5) ∧ (s.flag PRT_PORT_STS.GANGED p = false) ∧ (s.plan p 14 1 = 0) ∧ (s.poolPort p = false) ∧ (s.rgn (p / 16) ≠ 2) :=
  ⟨(wDn 63).set PRT_PORT_STS.STATE 63 5, 63, by decide +kernel⟩
theorem test_meets_PortBringUp_12 : ∃ (s : State) (p : Port), (s.get PRT_PORT_STS.STATE p ≠ 5) ∧ (s.get PRT_PORT_STS.STATE p ≠ 4 ∨ s.inReplay p = false) :=
  ⟨wDn 63, 63, by decide +kernel⟩
theorem test_meets_PortBringUp_13 : ∃ (s : State) (p : Port), (s.role p = 2) ∧ (s.get PRT_PORT_STS.STATE p = 1) :=
  ⟨(wDn 7).set PRT_PORT_STS.STATE 7 1, 7, by decide +kernel⟩
theorem test_meets_PortBringUp_15 : ∃ (s : State) (p : Port), (s.role p = 2) ∧ (s.plan p 23 1 = 0 ∨ s.flag SPW_STS.PG (s.plan p 18 5) = true) ∧ (s.flag PRT_DN_TMR.PERST_OUT p = false) ∧ (s.fatal = false) :=
  ⟨(wDn 7).set PRT_PORT_STS.STATE 7 0, 7, by decide +kernel⟩
theorem test_meets_PortBringUp_16 : ∃ (s : State) (p : Port), (s.role p ≠ 2 ∨ s.plan p 23 1 ≠ 0 ∧ s.flag SPW_STS.PG (s.plan p 18 5) = false ∨ s.flag PRT_DN_TMR.PERST_OUT p = true ∨ s.fatal = true) :=
  ⟨w, 7, by decide +kernel⟩
theorem test_meets_LanesInService_1 : ∃ (s : State) (p : Port) (k : Fin 9), (laneInService s p k = true) ∧ (s.role p = 1 ∨ s.role p = 2) ∧ (s.flag PRT_PORT_STS.L0P_NEG p = false) ∧ (s.rgn (p / 16) ≠ 2) :=
  ⟨(wDn 63).set PRT_PORT_STS.WIDTH 63 8, 63, 7, by decide +kernel⟩
theorem test_meets_LanesInService_2 : ∃ (s : State) (p : Port) (k : Fin 9) (b : Bool) (wd : Nat), (laneInService s p k = true) ∧ (s.role p = 1 ∨ s.role p = 2) ∧ (s.flag PRT_PORT_STS.L0P_NEG p = true) ∧ (s.rgn (p / 16) ≠ 2) ∧ (Tab.get 0 s.prt.l0p p = 0) ∧ (wd = widthFree (s.setBits PRT_PORT_STS.FAULTED p (2 ^ k.val)) p) ∧ (wd ≠ 0) :=
  ⟨((wDn 63).set PRT_PORT_STS.WIDTH 63 8).set PRT_PORT_STS.L0P_NEG 63 1, 63, 6, false, 4, by decide +kernel⟩
theorem test_meets_LanesInService_3 : ∃ (s : State) (p : Port) (k : Fin 9) (b : Bool), (laneInService s p k = true) ∧ (s.role p = 3) ∧ (s.rgn (p / 16) ≠ 2) ∧ (Tab.get none s.prt.swap p = none) ∧ (s.flag PRT_PORT_STS.SPARE_USED p = false) ∧ (s.flag PRT_PORT_STS.SPARE_BAD p = false) ∧ (k.val < 8) :=
  ⟨(wZu 2).set PRT_PORT_STS.WIDTH 30 8, 30, 6, false, by decide +kernel⟩
theorem test_meets_LanesInService_4 : ∃ (s : State) (p : Port) (k : Fin 9) (x : LaneLoss), (laneInService s p k = false ∨ x.cdr = false ∧ s.symbolsOver p k = false) :=
  ⟨w, 7, 8, ⟨true, true⟩, by decide +kernel⟩
theorem test_meets_LanesInService_5 : ∃ (s : State) (p : Port) (wd : Fin 9), (s.get PRT_PORT_STS.STATE p = 4) ∧ (wd = 1 ∨ wd = 2 ∨ wd = 4 ∨ wd = 8) ∧ (Tab.get 0 s.prt.l0p p = wd.val) ∧ (Tab.get 0 s.prt.l0pNext p = 0) :=
  ⟨{ wDn 7 with prt := { w.prt with l0p := [(7, 8)] } }, 7, 8, by decide +kernel⟩
theorem test_meets_LanesInService_6 : ∃ (s : State) (p : Port) (wd : Fin 9), (s.get PRT_PORT_STS.STATE p ≠ 4 ∨ Tab.get 0 s.prt.l0p p ≠ wd.val) :=
  ⟨w, 7, 8, by decide +kernel⟩
theorem test_meets_LanesInService_7 : ∃ (s : State) (p : Port) (wd : Fin 9), (s.get PRT_PORT_STS.STATE p = 4) ∧ (s.flag PRT_PORT_STS.L0P_NEG p = true) :=
  ⟨(wDn 7).set PRT_PORT_STS.L0P_NEG 7 1, 7, 2, by decide +kernel⟩
theorem test_meets_LanesInService_8 : ∃ (s : State) (p : Port) (wd : Fin 9), (s.get PRT_PORT_STS.STATE p ≠ 4 ∨ s.flag PRT_PORT_STS.L0P_NEG p = false) :=
  ⟨w, 7, 2, by decide +kernel⟩
theorem test_meets_LanesInService_10 : ∃ (s : State) (p : Port), (s.rgn (p / 16) ≠ 2) :=
  ⟨wZl 7, 63, by decide +kernel⟩
theorem test_meets_PortControls_1 : ∃ (s : State) (q : Path) (p : Port), (s.admits q (prtSet p)) ∧ (s.flag PRT_PORT_STS.GANGED p = false) :=
  ⟨wDn 63, .librarian, 63, by decide +kernel⟩
theorem test_meets_PortControls_2 : ∃ (s : State) (q : Path) (p : Port), (s.admits q (prtSet p)) ∧ (s.flag PRT_PORT_STS.GANGED p = false) ∧ (s.role p = 2) ∧ (s.get PRT_PORT_STS.STATE p = 4 ∨ s.get PRT_PORT_STS.STATE p = 5) ∧ (s.plan p 14 1 = 0) ∧ (s.poolPort p = false) :=
  ⟨wDn 63, .librarian, 63, by decide +kernel⟩
theorem test_meets_PortControls_3 : ∃ (s : State) (q : Path) (p : Port), (s.admits q (prtSet p)) ∧ (s.flag PRT_PORT_STS.GANGED p = false) ∧ (s.role p ≠ 0) ∧ (s.get PRT_PORT_STS.STATE p ≠ 4) ∧ (s.get PRT_PORT_STS.STATE p ≠ 5) ∧ (s.get PRT_PORT_STS.STATE p ≠ 0) :=
  ⟨(wUp 5).set PRT_PORT_STS.STATE 5 2, .librarian, 5, by decide +kernel⟩
theorem test_meets_PortControls_4 : ∃ (s : State) (q : Path) (p : Port), (s.admits q (prtSet p)) ∧ (s.flag PRT_PORT_STS.GANGED p = false) ∧ (s.role p ≠ 0) ∧ (s.role p = 2 → s.flag PRT_DN_TMR.PERST_OUT p = true) :=
  ⟨((wDn 7).set PRT_PORT_STS.STATE 7 6).set PRT_DN_TMR.PERST_OUT 7 1, .librarian, 7, by decide +kernel⟩
theorem test_meets_PortControls_5 : ∃ (s : State) (q : Path) (p : Port), (s.admits q (prtSet p)) :=
  ⟨w, .librarian, 7, by decide +kernel⟩
theorem test_meets_PortControls_6 : ∃ (s : State) (p : Port), (s.flag PRT_PORT_STS.GANGED p = false) :=
  ⟨(wDn 7).set PRT_PORT_STS.WIDTH 7 8 |>.set PRT_PORT_STS.STATE 7 5, 7, by decide +kernel⟩
theorem test_meets_PortControls_7 : ∃ (s : State) (p : Port), (s.role p = 2) ∧ (s.get PRT_PORT_STS.STATE p = 4) ∧ (s.flag PRT_PORT_STS.GANGED p = false) ∧ (s.plan p 14 1 = 0) ∧ (s.poolPort p = false) ∧ (s.rgn (p / 16) ≠ 2) :=
  ⟨wDn 63, 63, by decide +kernel⟩
theorem test_meets_PortControls_8 : ∃ (s : State) (p : Port), (s.role p = 0) :=
  ⟨w, 63, by decide +kernel⟩
theorem test_meets_PortControls_10 : ∃ (s : State) (p : Path) (a : BitVec 32) (d : BitVec 64) (i : Nat), (s.writeReaches p a (.reg .PRT_PORT_CTL i)) :=
  ⟨w, .librarian 0, 17826048, 2 ^ 6 + 2 ^ 7, 0, by decide +kernel⟩
theorem test_meets_PortControls_11 : ∃ (s : State) (p : Path) (a : BitVec 32) (d : BitVec 64) (i : Nat), (s.writeReaches p a (.reg .PRT_PAT_CTL i)) ∧ (laneUnderTest s i = true) :=
  ⟨w.set PRT_PORT_CTL.TEST 0 1, .librarian 0, 17829900, 2 ^ 4 + 2 ^ 5, 0, by decide +kernel⟩
theorem test_meets_PortControls_12 : ∃ (s : State) (p : Path) (a : BitVec 32) (d : BitVec 64) (i : Nat), (s.writeReaches p a (.reg .PRT_PAT_CTL i)) ∧ (laneUnderTest s i = false) :=
  ⟨w, .librarian 0, 17829900, 2 ^ 4 + 2 ^ 5, 0, by decide +kernel⟩
theorem test_meets_PortControls_13 : ∃ (s : State) (p : Path) (q : Port) (on : Bool) (n : Lane), (s.mayWrite p = false) :=
  ⟨wFw, .i3c, 5, true, 9, by decide +kernel⟩
theorem test_meets_PortControls_14 : ∃ (s : State) (q : Path) (n : Lane), (s.admits q (prtSet (lanePort n))) ∧ ((laneUnderTest s n || laneInService s (lanePort n) (laneIndex n)) = true) :=
  ⟨w.set PRT_PORT_CTL.TEST 63 1, .librarian, 511, by decide +kernel⟩
theorem test_meets_PortControls_15 : ∃ (s : State) (q : Path) (n : Lane), (s.admits q (prtSet (lanePort n))) :=
  ⟨w, .librarian, 519, by decide +kernel⟩
theorem test_meets_PortControls_16 : ∃ (s : State) (q : Path) (n : Lane), (s.admits q (prtSet (lanePort n))) ∧ (laneUnderTest s n = true) :=
  ⟨w.set PRT_PORT_CTL.TEST 63 1, .librarian, 511, by decide +kernel⟩
theorem test_meets_PortControls_17 : ∃ (s : State) (n : Lane) (e : BitVec 48), (s.flag PRT_PAT_CTL.CHK_EN n = true) :=
  ⟨{ w.set PRT_PAT_CTL.CHK_EN 0 1 with prt := { w.prt with pat := [(0, 0xFFFFFFFFFFFE)] } }, 0, 2, by decide +kernel⟩
theorem test_meets_PortControls_18 : ∃ (s : State) (n : Lane) (e : BitVec 48), (s.flag PRT_PAT_CTL.CHK_EN n = false) :=
  ⟨w, 0, 2, by decide +kernel⟩
theorem test_meets_FlitsAndCredits_1 : ∃ (s : State) (p : Port) (num : Nat) (m : LinkMsg), (s.role p = 2) ∧ (s.flag LNK_STS.MEM p = true) ∧ (s.get PRT_PORT_STS.STATE p = 4) ∧ (s.lnk p = { next := num, top := num }) ∧ (m.kind = .s2mNdr) ∧ (m.dest < 64) ∧ (m.bad = false) ∧ (s.flag LNK_STS.IDE_GATED p = false) ∧ (s.inService m.dest = true) ∧ (s.get SWC_VOQ_OCC.CELLS (8 * p.val + 6) < s.get SWC_VOQ_LIM.LIMIT (8 * p.val + 6)) ∧ (s.swc.ovf = []) ∧ (s.swc.held = []) ∧ (s.flag TFC_HIST_CTL.EN (p / 16) = false) ∧ ((List.range 64).all (fun n => !s.flag SWC_GLN_CTL.EN n) = true) :=
  ⟨wFlit.setLnk 3 { next := 9, top := 9 }, 3, 9, ({ kind := .s2mNdr, dest := 5, data := [1] } : LinkMsg), by decide +kernel⟩
theorem test_meets_FlitsAndCredits_2 : ∃ (s : State) (p : Port) (num : Nat) (m : LinkMsg), (s.role p = 1) ∧ (s.flag LNK_STS.MEM p = true) ∧ (s.get PRT_PORT_STS.STATE p = 4) ∧ (s.lnk p = { next := num, top := num }) ∧ (m.kind = .m2sReq) ∧ (64 ≤ m.dest) ∧ (m.bad = false) ∧ (s.flag LNK_STS.IDE_GATED p = false) :=
  ⟨((wUp 3).set LNK_STS.MEM 3 1).setLnk 3 { next := 9, top := 9 }, 3, 9, ({ kind := .m2sReq, dest := 65, data := [] } : LinkMsg), by decide +kernel⟩
theorem test_meets_FlitsAndCredits_3 : ∃ (s : State) (p : Port) (num : Nat), (s.role p = 1 ∨ s.role p = 2) ∧ (s.get PRT_PORT_STS.STATE p = 4) ∧ (s.lnk p = { next := num, top := num }) :=
  ⟨(wUp 3).setLnk 3 { next := 9, top := 9 }, 3, 9, by decide +kernel⟩
theorem test_meets_FlitsAndCredits_4 : ∃ (s : State) (p : Port) (num : Nat) (ms : List LinkMsg), (s.role p = 1 ∨ s.role p = 2) ∧ (s.get PRT_PORT_STS.STATE p = 4) ∧ (num < (s.lnk p).next) :=
  ⟨(wUp 3).setLnk 3 { next := 9, top := 9 }, 3, 8, [({ kind := .s2mNdr, dest := 5, data := [1] } : LinkMsg)], by decide +kernel⟩
theorem test_meets_FlitsAndCredits_5 : ∃ (s : State) (p : Port) (num : Nat) (b : Option (List LinkMsg)) (m : Bool) (f : List (Fin 9)), (s.role p = 0 ∨ s.role p = 3 ∨ s.get PRT_PORT_STS.STATE p ≠ 4) :=
  ⟨w, 3, 8, some [({ kind := .s2mNdr, dest := 5, data := [1] } : LinkMsg)], true, [2], by decide +kernel⟩
theorem test_meets_FlitsAndCredits_6 : ∃ (s : State) (p : Port) (num : Nat), (s.role p = 1 ∨ s.role p = 2) ∧ (s.get PRT_PORT_STS.STATE p = 4) ∧ (s.lnk p = { next := num, top := num }) ∧ (s.rgn (p / 16) ≠ 2) :=
  ⟨((wUp 3).set LNK_CTL.SEL_NAK_EN 3 1).setLnk 3 { next := 9, top := 9 }, 3, 9, by decide +kernel⟩
theorem test_meets_FlitsAndCredits_8 : ∃ (s : State) (p : Port) (n : Nat) (c : Cell), ((s.lnk p).replay.filter (fun e => e.1 == n) = [(n, c)]) :=
  ⟨w.setLnk 3 { replay := [(4, {source := 1, out := 2, tc := 3}), (5, {source := 1, out := 2, tc := 3})] }, 3, 4, {source := 1, out := 2, tc := 3}, by decide +kernel⟩
theorem test_meets_FlitsAndCredits_9 : ∃ (s : State) (p : Port) (n : Nat), ((s.lnk p).replay.all (fun e => e.1 < n) = true) ∧ ((s.lnk p).again.dedup = (s.lnk p).again) :=
  ⟨w.setLnk 3 { replay := [(4, {source := 1, out := 2, tc := 3})] }, 3, 5, by decide +kernel⟩
theorem test_meets_FlitsAndCredits_10 : ∃ (s : State) (p : Port) (n : Nat) (sel : Bool), (s.rgn (p / 16) ≠ 2) ∧ (s.flag PRT_PORT_STS.GANGED p = false) ∧ (s.role p = 1) ∧ (s.get PRT_PORT_STS.STATE p = 4) :=
  ⟨(wUp 3).setLnk 3 { replay := [(4, {source := 1, out := 2, tc := 3})] }, 3, 4, false, by decide +kernel⟩
theorem test_meets_LinkEncryptionAndIo_2 : ∃ (s : State) (p : Port), (s.get PRT_PORT_STS.STATE p = 4) :=
  ⟨((wUp 3).set LNK_STS.IDE_CM 3 1).setLnk 3 { keys := [(keySlot true false 1, 0)] }, 3, by decide +kernel⟩
theorem test_meets_LinkEncryptionAndIo_3 : ∃ (s : State) (p : Port), (s.get PRT_PORT_STS.STATE p ≠ 4 ∨ (s.lnk p).keys = []) :=
  ⟨w, 3, by decide +kernel⟩
theorem test_meets_LinkEncryptionAndIo_4 : ∃ (s : State) (p : Port) (tag : BitVec 16) (d : List Byte) (n : Nat) (kind : MsgKind) (x : IoRoute), (s.role p = 1) ∧ (s.flag SEC_BOOT_STS.READY 0 = false) ∧ (s.inService p = true) ∧ (s.flag LNK_STS.IDE_GATED p = false) :=
  ⟨wUp 3, 3, 7, [], 0, .nonPosted 0, .byId 255, by decide +kernel⟩
theorem test_meets_LinkEncryptionAndIo_5 : ∃ (s : State) (p : Port) (tag : BitVec 16) (d : List Byte) (n : Nat) (bus : BitVec 8), (s.role p = 1) ∧ (s.flag SEC_BOOT_STS.READY 0 = true) ∧ (s.swc.rt = []) ∧ (s.inService p = true) ∧ (s.flag LNK_STS.IDE_GATED p = false) :=
  ⟨(wUp 3).set SEC_BOOT_STS.READY 0 1, 3, 7, [], 0, 255, by decide +kernel⟩
theorem test_meets_LinkEncryptionAndIo_6 : ∃ (s : State) (p : Port) (tag : BitVec 16) (d : List Byte) (kind : MsgKind) (x : IoRoute) (e : Nat), (s.role p = 1) ∧ (s.flag SEC_BOOT_STS.READY 0 = true) ∧ (routeOf s p x = some e) ∧ (s.role (rtEgress (s.rtEntry (p / 16) e)) = 2) ∧ (s.inService p = true) ∧ (s.flag LNK_STS.IDE_GATED p = false) :=
  ⟨wVcs, 3, 7, [], .posted 1, .byId 2, 5, by decide +kernel⟩
theorem test_meets_LinkEncryptionAndIo_7 : ∃ (s : State) (p : Port) (tag : BitVec 16) (d : List Byte) (kind : MsgKind) (x : IoRoute) (e : Nat), (s.role p = 1) ∧ (s.flag SEC_BOOT_STS.READY 0 = true) ∧ (routeOf s p x = some e) ∧ (s.rgn (p / 16) ≠ 2) ∧ (s.inService p = true) ∧ (s.flag LNK_STS.IDE_GATED p = false) :=
  ⟨wVcs, 3, 7, [], .posted 1, .byId 2, 5, by decide +kernel⟩
theorem test_meets_LinkEncryptionAndIo_8 : ∃ (s : State) (p : Port) (tag : BitVec 16) (d : List Byte) (kind : MsgKind) (x : IoRoute), (s.role p = 1) ∧ (s.flag SEC_BOOT_STS.READY 0 = true) ∧ (s.deadAll p = true) ∧ (s.inService p = true) ∧ (s.flag LNK_STS.IDE_GATED p = false) :=
  ⟨wVcs.inCat (fun c => { c with dead := [(13, some ⟨.shelf 5, [0]⟩)] }), 3, 7, [], .nonPosted 1, .byId 2, by decide +kernel⟩
theorem test_meets_LinkEncryptionAndIo_9 : ∃ (s : State) (p : Port) (tag : BitVec 16) (d : List Byte) (kind : MsgKind) (ld : Fin 16) (m : Nat), (s.role p = 2) ∧ (vcsOf s p ld = some m) ∧ (s.inService p = true) ∧ (s.flag LNK_STS.IDE_GATED p = false) :=
  ⟨wVcs, 9, 7, [], .posted 1, 4, 5, by decide +kernel⟩
set_option maxRecDepth 1000000 in
theorem test_meets_LinkEncryptionAndIo_10 : ∃ (s : State) (p : Port) (tag : BitVec 16) (d : List Byte) (kind : MsgKind) (ld : Fin 16), (s.role p = 2) ∧ (s.swc.rt = []) ∧ (∀ n, kind ≠ .completion n) ∧ (s.inService p = true) ∧ (s.flag LNK_STS.IDE_GATED p = false) :=
  ⟨wDn 9, 9, 7, [], .posted 1, 4, by first | decide +kernel | exact Prod.ext (by decide +kernel) rfl | exact fun _ => nofun, by first | decide +kernel | exact Prod.ext (by decide +kernel) rfl | exact fun _ => nofun, by first | decide +kernel | exact Prod.ext (by decide +kernel) rfl | exact fun _ => nofun, by first | decide +kernel | exact Prod.ext (by decide +kernel) rfl | exact fun _ => nofun, by first | decide +kernel | exact Prod.ext (by decide +kernel) rfl | exact fun _ => nofun⟩
theorem test_meets_LinkEncryptionAndIo_11 : ∃ (s : State) (p : Port) (tag : BitVec 16) (d : List Byte) (kind : MsgKind) (c : CfgKind) (x : IoLookup), (s.inService p = false ∨ s.role p = 0 ∨ s.role p = 3) :=
  ⟨w, 3, 7, [], .nonPosted 0, .none, ⟨.byId 1, false⟩, by decide +kernel⟩
set_option maxRecDepth 1000000 in
theorem test_meets_ZwiusSequence_2 : ∃ (n : Nat) (tc : Fin 8) (dest : Fin 68) (slot data : List Byte), (slot.length = 16) ∧ (data.length = 224) :=
  ⟨5, 7, 67, List.replicate 16 3, List.replicate 224 255, by first | decide +kernel | exact Prod.ext (by decide +kernel) rfl | exact fun _ => nofun, by first | decide +kernel | exact Prod.ext (by decide +kernel) rfl | exact fun _ => nofun⟩
theorem test_meets_ZwiusSequence_3 : ∃ (s : State) (z : ZPort) (u : Fin 4) (peer : Port) (g : Bool), (s.get ZWL_STS.STATE z = 1) ∧ (u.val ≠ s.unit) ∧ (s.flag ZWL_CTL.EXP_EN z = false ∨ s.get ZWL_CTL.EXP_UNIT z = u.val) :=
  ⟨(wZl 7).set ZWL_STS.STATE 7 1, 7, 3, 63, true, by decide +kernel⟩
theorem test_meets_ZwiusSequence_4 : ∃ (s : State) (z : ZPort) (u : Fin 4) (peer : Port) (g : Bool), (s.get ZWL_STS.STATE z = 1) ∧ (u.val = s.unit ∨ s.flag ZWL_CTL.EXP_EN z = true ∧ s.get ZWL_CTL.EXP_UNIT z ≠ u.val) ∧ (s.rgn (z.val / 2) ≠ 2) :=
  ⟨(wZl 7).set ZWL_STS.STATE 7 1, 7, 0, 63, true, by decide +kernel⟩
theorem test_meets_ZwiusSequence_5 : ∃ (s : State) (z : ZPort) (u : Fin 4) (peer : Port) (g : Bool), (s.get ZWL_STS.STATE z ≠ 1) :=
  ⟨w, 7, 0, 63, true, by decide +kernel⟩
set_option maxRecDepth 1000000 in
theorem test_meets_ZwiusSequence_6 : ∃ (s : State) (z : ZPort) (num : BitVec 24) (u : WireUnit), (s.zwlUp z = true) ∧ ((s.zwl z).next = num.toNat) ∧ ((s.zwl z).held = []) ∧ ((s.zwl z).lost = none) ∧ (Tab.get none s.prt.swap (zPort z) = none) ∧ (unitReceived num.toNat u = some (some .idle)) :=
  ⟨(wZu 7).setZwl 7 { next := 0xFFFFFF, holes := [(0xFFFFFF, 1)] }, 7, 0xFFFFFF, wireIdle 0xFFFFFF, by first | decide +kernel | exact Prod.ext (by decide +kernel) rfl | exact fun _ => nofun, by first | decide +kernel | exact Prod.ext (by decide +kernel) rfl | exact fun _ => nofun, by first | decide +kernel | exact Prod.ext (by decide +kernel) rfl | exact fun _ => nofun, by first | decide +kernel | exact Prod.ext (by decide +kernel) rfl | exact fun _ => nofun, by first | decide +kernel | exact Prod.ext (by decide +kernel) rfl | exact fun _ => nofun, by first | decide +kernel | exact Prod.ext (by decide +kernel) rfl | exact fun _ => nofun⟩
set_option maxRecDepth 1000000 in
theorem test_meets_ZwiusSequence_7 : ∃ (s : State) (z : ZPort) (num : BitVec 24) (u : WireUnit) (tc : Fin 8) (dest : Fin 68) (b : Byte) (d : List Byte), (s.zwlUp z = true) ∧ ((s.zwl z).next = num.toNat) ∧ ((s.zwl z).held = []) ∧ ((s.zwl z).lost = none) ∧ (Tab.get none s.prt.swap (zPort z) = none) ∧ (unitReceived num.toNat u = some (some (.data tc dest b d none))) :=
  ⟨(wZu 7).setZwl 7 { next := 8 }, 7, 8, wireData 8 5 66, 5, 66, 7, List.replicate 224 0, by first | decide +kernel | exact Prod.ext (by decide +kernel) rfl | exact fun _ => nofun, by first | decide +kernel | exact Prod.ext (by decide +kernel) rfl | exact fun _ => nofun, by first | decide +kernel | exact Prod.ext (by decide +kernel) rfl | exact fun _ => nofun, by first | decide +kernel | exact Prod.ext (by decide +kernel) rfl | exact fun _ => nofun, by first | decide +kernel | exact Prod.ext (by decide +kernel) rfl | exact fun _ => nofun, by first | decide +kernel | exact Prod.ext (by decide +kernel) rfl | exact fun _ => nofun⟩
theorem test_meets_ZwiusSequence_8 : ∃ (s : State) (z : ZPort) (num : BitVec 24) (u : WireUnit) (b n : Nat), (s.zwlUp z = true) ∧ (unitReceived num.toNat u = none) ∧ (s.rgn (z.val / 2) ≠ 2) ∧ ((s.zwl z).bad = [b]) ∧ (b < s.get ZWL_CTL.THR z) ∧ ((s.zwl z).holes = []) ∧ (n = (s.zwl z).next) ∧ (sub24 num.toNat n < 2 ^ 23) :=
  ⟨(wZu 7).set ZWL_CTL.THR 7 3, 7, 9, ⟨[], true, none⟩, 0, 0, by decide +kernel⟩
theorem test_meets_ZwiusSequence_10 : ∃ (s : State) (z : ZPort) (num : BitVec 24) (c : Cell), (s.zwlUp z = true) ∧ ((s.zwl z).goback = none) ∧ ((s.zwl z).replay = [(num.toNat, c, 0)]) ∧ (s.get ZWL_STS.TX_SEQ z = (num.toNat + 1) % 2 ^ 24) :=
  ⟨((wZu 7).set ZWL_CTL.SEL_EN 7 1).setZwl 7 { replay := [(0xFFFFFF, {source := 1, out := 2, tc := 3}, 0)] }, 7, 0xFFFFFF, {source := 1, out := 2, tc := 3}, by decide +kernel⟩
theorem test_meets_ZwiusSequence_11 : ∃ (s : State) (z : ZPort) (num : BitVec 24) (k : Fin 16), (s.zwlUp z = true) ∧ ((s.zwl z).goback = none) ∧ (0 < sub24 (s.get ZWL_STS.TX_SEQ z) num.toNat ∧ sub24 (s.get ZWL_STS.TX_SEQ z) num.toNat < 2 ^ 23) ∧ ((s.zwl z).replay.all (fun e => e.1 != num.toNat) = true) :=
  ⟨(wZu 7).set ZWL_STS.TX_SEQ 7 3, 7, 1, 1, by decide +kernel⟩
theorem test_meets_ZwiusSequence_12 : ∃ (s : State) (z : ZPort) (d : Fin 68) (tc : Tc) (n : BitVec 16), (s.zwlUp z = true) :=
  ⟨(wZu 7).set SWC_VOQ_LIM.LIMIT 504 9, 7, 67, 0, 5, by decide +kernel⟩
theorem test_meets_ZwiusSequence_13 : ∃ (s : State) (z : ZPort) (d : Fin 68) (tc : Tc) (f h k : Nat), (s.zwlUp z = true) ∧ (f = 8 * d.val + tc.val) ∧ ((s.zwl z).sinceAck ≠ 0) ∧ ((s.zwl z).holes = [(h, k)]) ∧ (k < 15) ∧ (Tab.get 0 (s.zwl z).queued f ≠ Tab.get 0 (s.zwl z).granted f) ∧ (Tab.get 0 (s.zwl z).wanted f ≠ Tab.get 0 (s.zwl z).gave f) :=
  ⟨(wZu 7).setZwl 7 { sinceAck := 1, holes := [(3, 2)], queued := [(536, 3)], wanted := [(536, 2)] }, 7, 67, 0, 536, 3, 2, by decide +kernel⟩
theorem test_meets_ZwiusSequence_15 : ∃ (s : State) (z : ZPort) (d : Fin 68) (tc : Tc) (n : BitVec 16) (num : BitVec 24) (u : WireUnit) (x : UnitPlace) (k : Fin 16) (i : BitVec 6) (turn : BitVec 32) (l : Fin 8), (s.zwlUp z = false) :=
  ⟨w, 7, 67, 0, 5, 8, ⟨[], true, none⟩, ⟨3, [1]⟩, 1, 3, 4, 5, by decide +kernel⟩
theorem test_meets_ZwiusSequence_16 : ∃ (s : State) (z : ZPort), (s.rgn (z.val / 2) ≠ 2) :=
  ⟨w, 7, by decide +kernel⟩
theorem test_meets_ZwiusTimeAndSpare_1 : ∃ (s : State) (z : ZPort) (i : Nat), (s.get TFC_TIME_CTL.SRC 0 = 2) ∧ (s.otherTimeLink = some z.val) ∧ (i = (match (s.zwl z).t1 with | some (_, i) => (i + 1) % 64 | none => 0)) :=
  ⟨((wZu 7).set TFC_TIME_CTL.SRC 0 2).set TFC_TIME_CTL.ZL_PORT 0 63, 7, 0, by decide +kernel⟩
theorem test_meets_ZwiusTimeAndSpare_2 : ∃ (s : State), (s.get TFC_TIME_CTL.SRC 0 ≠ 2 ∨ s.otherTimeLink = none) :=
  ⟨w, by decide +kernel⟩
theorem test_meets_ZwiusTimeAndSpare_3 : ∃ (s : State) (z : ZPort) (i : BitVec 6) (turn : BitVec 32), (s.zwlUp z = true) :=
  ⟨wZu 7, 7, 63, 5, by decide +kernel⟩
theorem test_meets_ZwiusTimeAndSpare_4 : ∃ (s : State) (z : ZPort) (i : BitVec 6) (t3 : BitVec 64) (turn : BitVec 32) (t1 : Nat), ((s.zwl z).t1 = some (t1, i.toNat)) ∧ (s.get TFC_TIME_CTL.SRC 0 = 2) ∧ (s.tfc.first = false) :=
  ⟨({ wZu 7 with time := [(0, 900), (3, 900)] } : State).setZwl 7 { t1 := some (800, 5) } |>.set TFC_TIME_CTL.SRC 0 2, 7, 5, 7777, 20, 800, by decide +kernel⟩
theorem test_meets_ZwiusTimeAndSpare_5 : ∃ (s : State) (z : ZPort) (i : BitVec 6) (t3 : BitVec 64) (turn : BitVec 32), ((s.zwl z).t1.all (fun e => e.2 != i.toNat) = true ∨ s.get TFC_TIME_CTL.SRC 0 ≠ 2) :=
  ⟨w, 7, 5, 7777, 20, by decide +kernel⟩
theorem test_meets_ZwiusTimeAndSpare_6 : ∃ (s : State) (z : ZPort) (k : Fin 8), (s.zwlUp z = true) :=
  ⟨wZu 7, 7, 7, by decide +kernel⟩
theorem test_meets_ZwiusTimeAndSpare_7 : ∃ (s : State) (z : ZPort) (k : Fin 8) (num : BitVec 24), (Tab.get none s.prt.swap (zPort z) = some ⟨k.val, 1, none, 0⟩) :=
  ⟨{ wZu 7 with prt := { w.prt with swap := [(zPort 7, some ⟨7, 1, none, 0⟩)] } }, 7, 7, 4, by decide +kernel⟩
theorem test_meets_ZwiusTimeAndSpare_8 : ∃ (s : State) (z : ZPort) (k : Fin 8), (Tab.get none s.prt.swap (zPort z) = some ⟨k.val, 2, none, 0⟩) ∧ (s.role (zPort z) = 3) ∧ (s.inService (zPort z) = true) ∧ (s.flag PRT_PORT_STS.GANGED (zPort z) = false) ∧ (s.rgn (z.val / 2) ≠ 2) :=
  ⟨{ wZu 7 with prt := { w.prt with swap := [(zPort 7, some ⟨7, 2, none, 0⟩)] } }, 7, 7, by decide +kernel⟩
theorem test_meets_ZwiusTimeAndSpare_9 : ∃ (s : State) (z : ZPort) (k : Fin 8) (num : BitVec 24), (Tab.get none s.prt.swap (zPort z) = none) :=
  ⟨w, 7, 7, 4, by decide +kernel⟩
theorem test_meets_QueueContexts_1 : ∃ (s : State) (p : Path) (r : Region) (q : Qid), (s.admits p (qmgSet r)) ∧ (s.flag QMG_CTX_CMD.BUSY r = false) ∧ (qidRegion q.toNat = r.val) ∧ (s.cached q.toNat = true) :=
  ⟨wCtx 0x123456789ABCDEF, .librarian, 1, 0x40005, by decide +kernel⟩
theorem test_meets_QueueContexts_2 : ∃ (s : State) (p : Path) (r : Region) (q : Qid), (s.admits p (qmgSet r)) ∧ (s.flag QMG_CTX_CMD.BUSY r = false) ∧ (qidRegion q.toNat = r.val) ∧ (s.cached q.toNat = true) ∧ (s.createResult q.toNat (ctxStaged s r) = 0) :=
  ⟨(wCtx 0).setWord .QMG_CTX_D 16 0x400D, .librarian, 1, 0x40005, by decide +kernel⟩
theorem test_meets_QueueContexts_3 : ∃ (s : State) (p : Path) (r : Region) (q : Qid), (s.admits p (qmgSet r)) ∧ (s.flag QMG_CTX_CMD.BUSY r = false) ∧ (qidRegion q.toNat = r.val) ∧ (s.cached q.toNat = true) ∧ (s.modifyResult q.toNat (ctxStaged s r) = 0) :=
  ⟨(wCtx 0x400D).setWord .QMG_CTX_D 16 0x402D, .librarian, 1, 0x40005, by decide +kernel⟩
theorem test_meets_QueueContexts_4 : ∃ (s : State) (p : Path) (r : Region) (q : Qid), (s.admits p (qmgSet r)) ∧ (s.flag QMG_CTX_CMD.BUSY r = false) ∧ (qidRegion q.toNat = r.val) ∧ (s.cached q.toNat = true) ∧ (cget (s.ctx q.toNat) cValid = 1) :=
  ⟨wCtx 0x402D, .librarian, 1, 0x40005, by decide +kernel⟩
theorem test_meets_QueueContexts_5 : ∃ (s : State) (p : Path) (r : Region) (q : Qid), (s.admits p (qmgSet r)) ∧ (s.flag QMG_CTX_CMD.BUSY r = false) ∧ (qidRegion q.toNat = r.val) ∧ (s.cached q.toNat = true) :=
  ⟨wCtx 0, .librarian, 1, 0x40005, by decide +kernel⟩
theorem test_meets_QueueContexts_6 : ∃ (s : State) (p : Path) (r : Region) (q : Qid), (s.admits p (qmgSet r)) ∧ (s.flag QMG_CTX_CMD.BUSY r = true) :=
  ⟨w.set QMG_CTX_CMD.BUSY 1 1, .librarian, 1, 0x40005, by decide +kernel⟩
theorem test_meets_QueueContexts_7 : ∃ (s : State) (p : Path) (r : Region) (q : Qid), (s.admits p (qmgSet r)) ∧ (s.flag QMG_CTX_CMD.BUSY r = false) ∧ (qidRegion q.toNat ≠ r.val) :=
  ⟨w, .librarian, 2, 0x40005, by decide +kernel⟩
theorem test_meets_QueueContexts_8 : ∃ (s : State) (p : Path) (r : Region) (q : Qid), (s.admits p (qmgSet r)) ∧ (s.flag QMG_CTX_CMD.BUSY r = false) ∧ (qidRegion q.toNat = r.val) ∧ (s.cached q.toNat = false) :=
  ⟨w, .librarian, 1, 0x40005, by decide +kernel⟩
theorem test_meets_QueueContexts_9 : ∃ (s : State) (q : Qid), (s.qmg.fills = [(q.toNat, [.cmd (qidRegion q.toNat) q.toNat 0 0])]) :=
  ⟨{ w with qmg := { w.qmg with fills := [(0x40005, [.cmd 1 0x40005 0 0])] } }, 0x40005, by decide +kernel⟩
theorem test_meets_QueueContexts_10 : ∃ (s : State) (q : Qid) (idx : Nat), (s.qmg.fills = [(q.toNat, [.door q.toNat idx true false none 0])]) ∧ (isRing (s.ctx q.toNat) = true) ∧ (cget (s.ctx q.toNat) cUse ≠ 0) ∧ (sub32 idx (cget (s.ctx q.toNat) cCons) ≤ ctxOcc (s.ctx q.toNat)) ∧ (s.dmv.chan = []) :=
  ⟨{ wCtx (cput cSlip cProd 2) with qmg := { fills := [(0x40005, [.door 0x40005 1 true false none 0])] } }, 0x40005, 1, by decide +kernel⟩
theorem test_meets_QueueContexts_11 : ∃ (s : State) (q : Qid) (f : ColRead) (b : Bool), (s.qmg.fills.any (fun f => f.1 == q.toNat) = false) :=
  ⟨w, 5, .uncorrectable, true, by decide +kernel⟩
theorem test_meets_QueueContexts_12 : ∃ (s : State) (q : Qid) (n : Nat) (v : BitVec 512) (f : ColRead), (s.qmg.fills = [(q.toNat, [.cmd (qidRegion q.toNat) q.toNat n v])]) ∧ (s.rgn (qidRegion q.toNat) ≠ 2) :=
  ⟨{ w with qmg := { w.qmg with fills := [(0x40005, [.cmd 1 0x40005 0 0])] } }, 0x40005, 0, 0, .good, by decide +kernel⟩
theorem test_meets_QueueContexts_13 : ∃ (s : State) (q : Qid), (s.qmg.fills = [(q.toNat, [.cmd (qidRegion q.toNat) q.toNat 0 0])]) ∧ (s.rgn (qidRegion q.toNat) ≠ 2) ∧ (cget (s.ctx q.toNat) cOwner ≠ 2) :=
  ⟨{ wCtx cSlip with qmg := { fills := [(0x40005, [.cmd 1 0x40005 0 0])] } }, 0x40005, by decide +kernel⟩
theorem test_meets_QueueContexts_14 : ∃ (s : State) (p : Path) (a : BitVec 32) (d : BitVec 64) (i : Nat) (r : Region), (s.writeReaches p a (.reg .QMG_CTX_CMD i)) ∧ (r.val = i) :=
  ⟨w, .librarian 0, 25165888, 2 ^ 24 + 5, 0, 0, by decide +kernel⟩
theorem test_meets_QueueContexts_15 : ∃ (s : State) (p : Path) (a : BitVec 32) (d : BitVec 64) (i : Nat), (s.writeReaches p a (.reg .QMG_ERR_CAP i)) :=
  ⟨w, .librarian 0, 25165908, 2 ^ 31, 0, by decide +kernel⟩
theorem test_meets_QueueContexts_16 : ∃ (s : State) (p : Path) (r : Region) (q : Qid), (s.mayWrite p = false) :=
  ⟨wFw, .i3c, 1, 5, by decide +kernel⟩
theorem test_meets_DoorbellsAndSlips_1 : ∃ (s : State) (via : DoorVia) (q : Nat) (k : Option Nat) (b : Doorbell) (c : BitVec 512), (s.doorComes via q k = true) ∧ (q < 2 ^ 20) ∧ (s.rgn (qidRegion q) ≠ 2) ∧ (s.cached q = true) ∧ (b.size = 8) ∧ (b.extra = false) ∧ (c = s.ctx q) ∧ (doorMay c false k = true) ∧ (ctxOcc c ≤ sub32 b.index.toNat (cget c cCons)) ∧ (sub32 b.index.toNat (cget c cCons) ≤ ctxCap c) :=
  ⟨wCtx cSubmit, .librarian 3 0x40005, 0x40005, none, ⟨16, true, false, 8⟩, cSubmit, by decide +kernel⟩
theorem test_meets_DoorbellsAndSlips_2 : ∃ (s : State) (via : DoorVia) (q : Nat) (k : Option Nat) (b : Doorbell) (c : BitVec 512), (s.doorComes via q k = true) ∧ (q < 2 ^ 20) ∧ (s.rgn (qidRegion q) ≠ 2) ∧ (s.cached q = true) ∧ (b.size = 8) ∧ (b.extra = false) ∧ (c = s.ctx q) ∧ (doorMay c false k = true) ∧ (sub32 b.index.toNat (cget c cProd) < 2 ^ 31) ∧ (sub32 b.index.toNat (cget c cCons) > ctxCap c) :=
  ⟨wCtx cSubmit, .librarian 3 0x40005, 0x40005, none, ⟨17, true, false, 8⟩, cSubmit, by decide +kernel⟩
theorem test_meets_DoorbellsAndSlips_3 : ∃ (s : State) (via : DoorVia) (q : Nat) (k : Option Nat) (b : Doorbell) (c : BitVec 512), (s.doorComes via q k = true) ∧ (q < 2 ^ 20) ∧ (s.rgn (qidRegion q) ≠ 2) ∧ (s.cached q = true) ∧ (b.size = 8) ∧ (b.extra = false) ∧ (c = s.ctx q) ∧ (doorMay c true k = true) ∧ (sub32 b.index.toNat (cget c cCons) ≤ ctxOcc c) ∧ (s.dmv.chan = []) :=
  ⟨wCtx (cput (cput (cput cSlip cProd 2) cCons 0xFFFFFFFF) cIrqEn 1), .librarian 3 0x40005, 0x40005, none, ⟨1, true, false, 8⟩, cput (cput (cput cSlip cProd 2) cCons 0xFFFFFFFF) cIrqEn 1, by decide +kernel⟩
theorem test_meets_DoorbellsAndSlips_4 : ∃ (s : State) (via : DoorVia) (q : Nat) (k : Option Nat) (b : Doorbell) (c : BitVec 512), (s.doorComes via q k = true) ∧ (q < 2 ^ 20) ∧ (s.rgn (qidRegion q) ≠ 2) ∧ (s.cached q = true) ∧ (b.size = 8) ∧ (b.extra = false) ∧ (c = s.ctx q) :=
  ⟨wCtx (cput cSubmit cProd 3), .librarian 3 0x40005, 0x40005, none, ⟨2, false, false, 8⟩, cput cSubmit cProd 3, by decide +kernel⟩
theorem test_meets_DoorbellsAndSlips_5 : ∃ (s : State) (via : DoorVia) (q : Nat) (k : Option Nat) (b : Doorbell), (s.doorComes via q k = true) ∧ (q < 2 ^ 20) ∧ (s.rgn (qidRegion q) ≠ 2) :=
  ⟨w, .librarian 3 0x40005, 0x40005, none, ⟨2, true, false, 8⟩, by decide +kernel⟩
theorem test_meets_DoorbellsAndSlips_6 : ∃ (s : State) (via : DoorVia) (q : Nat) (k : Option Nat) (b : Doorbell), (s.doorComes via q k = true) ∧ (s.rgn (qidRegion q) = 2) :=
  ⟨w.setRgn 1 2, .librarian 3 0x40005, 0x40005, none, ⟨2, false, false, 8⟩, by decide +kernel⟩
theorem test_meets_DoorbellsAndSlips_8 : ∃ (s : State) (q : Qid) (c : BitVec 512), (c = s.ctx q.toNat) :=
  ⟨{ wCtx cSubmit with qmg := { index := [0x40005] } }, 0x40005, cSubmit, by decide +kernel⟩
theorem test_meets_DoorbellsAndSlips_9 : ∃ (s : State) (q : Qid) (k : Carrel) (sp : Port) (u : Fin 4) (tag : Word) (d : List Byte) (b : Bool) (c : BitVec 512), (c = s.ctx q.toNat) ∧ (d.length ≤ 240) ∧ (s.rgn (qidRegion q.toNat) ≠ 2) ∧ (s.cached q.toNat = true) ∧ (isRing c = true) ∧ (cget c cUse = 2) ∧ (s.inGroup (qidRegion q.toNat) (cget c cSlipGrp) (64 * u.val + sp.val) = true) ∧ (d.length + 16 ≤ ctxSize c) ∧ (cget c cLoc = 0) ∧ (cget c cOwner ≠ 2) ∧ (cget c cIrqEn = 0 ∨ cget c cArmed = 0) ∧ (ctxOcc c < ctxCap c) ∧ (cget c cBase + ctxCap c * ctxSize c ≤ 0x3F800000) :=
  ⟨(wCtx cSlip).putGroup 2 8, 0x40005, 4, 3, 0, 7, [1, 2, 3], false, cSlip, by decide +kernel⟩
theorem test_meets_DoorbellsAndSlips_10 : ∃ (s : State) (q : Qid) (k : Carrel) (sp : Port) (u : Fin 4) (tag : Word) (d : List Byte) (b : Bool) (c : BitVec 512), (c = s.ctx q.toNat) ∧ (d.length ≤ 240) ∧ (s.rgn (qidRegion q.toNat) ≠ 2) ∧ (s.cached q.toNat = true) ∧ (isRing c = true) ∧ (cget c cUse = 2) ∧ (s.inGroup (qidRegion q.toNat) (cget c cSlipGrp) (64 * u.val + sp.val) = true) ∧ (d.length + 16 ≤ ctxSize c) ∧ (cget c cLoc = 0) ∧ (cget c cOwner = 2) ∧ (s.get CRL_CFG.STATE (cget c cCarrel) < 2) ∧ (ctxOcc c < ctxCap c) :=
  ⟨(wCtx (cput (cput (cput cSlip cOwner 2) cIrqEn 1) cArmed 1)).putGroup 2 8, 0x40005, 4, 3, 0, 7, [1, 2, 3], false, cput (cput (cput cSlip cOwner 2) cIrqEn 1) cArmed 1, by decide +kernel⟩
theorem test_meets_DoorbellsAndSlips_11 : ∃ (s : State) (q : Qid) (k : Carrel) (sp : Port) (u : Fin 4) (tag : Word) (d : List Byte) (b : Bool) (c : BitVec 512), (c = s.ctx q.toNat) ∧ (d.length ≤ 240) ∧ (s.rgn (qidRegion q.toNat) ≠ 2) ∧ (s.cached q.toNat = true) ∧ (isRing c = true) ∧ (cget c cUse = 2) ∧ (s.inGroup (qidRegion q.toNat) (cget c cSlipGrp) (64 * u.val + sp.val) = true) ∧ (d.length + 16 ≤ ctxSize c) ∧ (cget c cLoc = 1) ∧ (cget c cOwner ≠ 2) ∧ (ctxOcc c < ctxCap c) :=
  ⟨(wCtx (cput (cput (cput (cput cSlip cLoc 1) cOwner 1) cIrqEn 1) cArmed 1)).putGroup 2 8, 0x40005, 4, 3, 0, 7, [1, 2, 3], false, cput (cput (cput (cput cSlip cLoc 1) cOwner 1) cIrqEn 1) cArmed 1, by decide +kernel⟩
theorem test_meets_DoorbellsAndSlips_12 : ∃ (s : State) (q : Qid) (k : Carrel) (sp : Port) (u : Fin 4) (tag : Word) (d : List Byte) (b : Bool) (c : BitVec 512), (c = s.ctx q.toNat) ∧ (d.length ≤ 240) ∧ (s.rgn (qidRegion q.toNat) ≠ 2) ∧ (s.cached q.toNat = true) ∧ (isRing c = true) ∧ (cget c cUse = 2) ∧ (s.inGroup (qidRegion q.toNat) (cget c cSlipGrp) (64 * u.val + sp.val) = true) ∧ (d.length + 16 ≤ ctxSize c) ∧ (ctxOcc c ≥ ctxCap c) ∧ (cget c cOwner ≠ 2) :=
  ⟨(wCtx (cput cSlip cProd 16)).putGroup 2 8, 0x40005, 4, 3, 0, 7, [1, 2, 3], false, cput cSlip cProd 16, by decide +kernel⟩
theorem test_meets_DoorbellsAndSlips_13 : ∃ (s : State) (q : Qid) (k : Carrel) (sp : Port) (u : Fin 4) (tag : Word) (d : List Byte) (b : Bool) (c : BitVec 512), (c = s.ctx q.toNat) ∧ (d.length ≤ 240) ∧ (s.rgn (qidRegion q.toNat) ≠ 2) ∧ (s.cached q.toNat = true) ∧ (isRing c = true) ∧ (cget c cUse = 2) ∧ (s.inGroup (qidRegion q.toNat) (cget c cSlipGrp) (64 * u.val + sp.val) = true) ∧ (d.length + 16 ≤ ctxSize c) ∧ (cget c cOwner = 2) ∧ (2 ≤ s.get CRL_CFG.STATE (cget c cCarrel)) :=
  ⟨((wCtx (cput cSlip cOwner 2)).putGroup 2 8).set CRL_CFG.STATE 0 2, 0x40005, 4, 3, 0, 7, [1, 2, 3], false, cput cSlip cOwner 2, by decide +kernel⟩
theorem test_meets_DoorbellsAndSlips_14 : ∃ (s : State) (q : Qid) (k : Carrel) (sp : Port) (u : Fin 4) (tag : Word) (d : List Byte) (b : Bool) (c : BitVec 512), (c = s.ctx q.toNat) ∧ (d.length ≤ 240) ∧ (s.rgn (qidRegion q.toNat) ≠ 2) ∧ (s.cached q.toNat = true) ∧ (isRing c = false ∨ cget c cUse ≠ 2 ∨ s.inGroup (qidRegion q.toNat) (cget c cSlipGrp) (64 * u.val + sp.val) = false ∨ ctxSize c < d.length + 16) :=
  ⟨wCtx cSlip, 0x40005, 4, 3, 0, 7, [1, 2, 3], false, cSlip, by decide +kernel⟩
theorem test_meets_DoorbellsAndSlips_15 : ∃ (s : State) (q : Qid) (k : Carrel) (sp : Port) (u : Fin 4) (tag : Word) (d : List Byte) (b : Bool) (c : BitVec 512), (240 < d.length ∨ s.rgn (qidRegion q.toNat) = 2) :=
  ⟨w.setRgn 1 2, 0x40005, 4, 3, 0, 7, [1, 2, 3], false, 0, by decide +kernel⟩
theorem test_meets_DoorbellsAndSlips_16 : ∃ (s : State) (q : Qid) (k : Carrel) (sp : Port) (u : Fin 4) (tag : Word) (d : List Byte) (b : Bool), (d.length ≤ 240) ∧ (s.rgn (qidRegion q.toNat) ≠ 2) ∧ (s.cached q.toNat = false) :=
  ⟨w, 0x40005, 4, 3, 0, 7, [1, 2, 3], false, by decide +kernel⟩
theorem test_meets_DoorbellsAndSlips_17 : ∃ (s : State) (p : Path) (a : BitVec 32) (d : BitVec 64) (i : Nat), (s.writeReaches p a (.reg .QMG_DB_HI i)) :=
  ⟨w, .librarian 0, 25165896, 5, 0, by decide +kernel⟩
theorem test_meets_NoticeWindow_1 : ∃ (s : State) (p : Path) (q : Qid) (c : BitVec 512) (x : Nat), (s.admits p (qmgSet (qidRegion q.toNat))) ∧ (isNotice c = true) ∧ (c = s.ctx q.toNat) ∧ (s.cached q.toNat = true) ∧ (s.mayRead p false = true) ∧ (s.windowWord q.toNat = some x) :=
  ⟨wCtx cNotice, .librarian, 0x40005, cNotice, 0, by decide +kernel⟩
theorem test_meets_NoticeWindow_2 : ∃ (s : State) (p : Path) (q : Qid) (c : BitVec 512) (x : Nat), (s.admits p (qmgSet (qidRegion q.toNat))) ∧ (isNotice c = true) ∧ (c = s.ctx q.toNat) ∧ (s.cached q.toNat = true) ∧ (s.mayRead p false = true) ∧ (s.windowWord q.toNat = some x) ∧ (s.windowBad q.toNat x = false) :=
  ⟨wCtx cNotice, .librarian, 0x40005, cNotice, 0, by decide +kernel⟩
theorem test_meets_NoticeWindow_3 : ∃ (s : State) (p : Path) (q : Qid) (c : BitVec 512) (x : Nat), (s.admits p (qmgSet (qidRegion q.toNat))) ∧ (isNotice c = true) ∧ (c = s.ctx q.toNat) ∧ (s.cached q.toNat = true) ∧ (s.mayRead p false = true) ∧ (s.windowWord q.toNat = some x) ∧ (s.windowBad q.toNat x = true) :=
  ⟨wCtx (cput cNotice cRd 1) |>.setCtx 0x41000 0 |> fun s => { s with grn := { s.grn with poison := [((bodyAt 0x40005 cNotice + 64) / 64, true)] } }, .librarian, 0x40005, cput cNotice cRd 1, 0, by decide +kernel⟩
theorem test_meets_NoticeWindow_4 : ∃ (s : State) (p : Path) (q : Qid) (c : BitVec 512), (s.admits p (qmgSet (qidRegion q.toNat))) ∧ (s.mayRead p false = true) ∧ (s.unheard p = false) ∧ (c = s.ctx q.toNat) ∧ (isNotice c = false ∨ s.windowWord q.toNat = none) :=
  ⟨wCtx (cput cNotice cRd 2), .librarian, 0x40005, cput cNotice cRd 2, by decide +kernel⟩
theorem test_meets_NoticeWindow_5 : ∃ (s : State) (p : Path) (q : Qid) (c : BitVec 512) (x : Nat), (s.admits p (qmgSet (qidRegion q.toNat))) ∧ (s.mayRead p false = true) ∧ (s.unheard p = false) ∧ (isNotice c = true) ∧ (c = s.ctx q.toNat) ∧ (s.cached q.toNat = false) ∧ (s.windowWord q.toNat = some x) ∧ (s.windowBad q.toNat x = false) :=
  ⟨w.setCtx 0x40005 cNotice, .librarian, 0x40005, cNotice, 0, by decide +kernel⟩
theorem test_meets_NoticeWindow_7 : ∃ (s : State) (p : Path) (q : Qid) (c : BitVec 512), (s.admits p (qmgSet (qidRegion q.toNat))) ∧ (isNotice c = true) ∧ (c = s.ctx q.toNat) ∧ (s.cached q.toNat = true) :=
  ⟨wCtx (cput (cput cNotice cRd 1) cMark 1), .librarian, 0x40005, cput (cput cNotice cRd 1) cMark 1, by decide +kernel⟩
theorem test_meets_NoticeWindow_8 : ∃ (s : State) (p : Path) (q : Qid) (c : BitVec 512) (n : BitVec 20) (m e : Nat), (s.admits p (qmgSet (qidRegion q.toNat))) ∧ (isNotice c = true) ∧ (c = s.ctx q.toNat) ∧ (s.cached q.toNat = true) ∧ (m = (if n.toNat = 0 then sub32 (cget c cRd) (cget c cCons) else min n.toNat (sub32 (cget c cRd) (cget c cCons)))) ∧ (e = (cget c cCons + m) % 2 ^ 32) :=
  ⟨wCtx (cput (cput cNotice cRd 1) cMark 0), .librarian, 0x40005, cput (cput cNotice cRd 1) cMark 0, 7, 1, 1, by decide +kernel⟩
theorem test_meets_NoticeWindow_9 : ∃ (s : State) (p : Path) (q : Qid) (n : BitVec 20), (s.admits p (qmgSet (qidRegion q.toNat))) ∧ (isNotice (s.ctx q.toNat) = false) :=
  ⟨w, .librarian, 5, 3, by decide +kernel⟩
theorem test_meets_NoticeWindow_10 : ∃ (s : State) (p : Path) (a : BitVec 32) (d : BitVec 64) (i : Nat), (s.writeReaches p a (.reg .QMG_WIN_OP i)) ∧ (s.noWindow .QMG_WIN_OP i = false) :=
  ⟨w.setCtx 0x40005 cNotice, .librarian 0, 92274860, 1, 0x40005, by decide +kernel⟩
theorem test_meets_NoticeWindow_11 : ∃ (s : State) (p : Path) (q : Qid) (n : BitVec 20), (s.mayWrite p = false) :=
  ⟨wFw, .i3c, 5, 7, by decide +kernel⟩
theorem test_meets_NoticeWindow_12 : ∃ (s : State) (p : Path) (a : BitVec 32) (i : Nat), (s.readReaches p a (.reg .QMG_WIN_DATA_LO i)) ∧ (s.noWindow .QMG_WIN_DATA_LO i = false) :=
  ⟨w.setCtx 0x40005 cNotice, .librarian 0, 92274848, 0x40005, by decide +kernel⟩
theorem test_meets_NoticeWindow_13 : ∃ (s : State) (p : Path) (a : BitVec 32) (i : Nat), (s.readReaches p a (.reg .QMG_WIN_DATA_HI i)) ∧ (s.noWindow .QMG_WIN_DATA_HI i = false) :=
  ⟨w.setCtx 0x40005 cNotice, .librarian 0, 92274852, 0x40005, by decide +kernel⟩
theorem test_meets_NoticeWindow_14 : ∃ (s : State) (p : Path) (a : BitVec 32) (i : Nat), (s.readReaches p a (.reg .QMG_WIN_STS i)) ∧ (s.noWindow .QMG_WIN_STS i = false) :=
  ⟨w.setCtx 0x40005 cNotice, .librarian 0, 92274856, 0x40005, by decide +kernel⟩
theorem test_meets_NoticeWindow_15 : ∃ (s : State) (p : Path) (a : BitVec 32) (i : Nat), (s.readReaches p a (.reg .QMG_WIN_LOST i)) ∧ (s.noWindow .QMG_WIN_LOST i = false) :=
  ⟨w.setCtx 0x40005 cNotice, .librarian 0, 92274864, 0x40005, by decide +kernel⟩
theorem test_meets_NoticeWindow_16 : ∃ (s : State) (p : Path) (a : BitVec 32) (i : Nat), (s.readReaches p a (.reg .QMG_WIN_PROD i)) ∧ (s.noWindow .QMG_WIN_PROD i = false) :=
  ⟨w.setCtx 0x40005 cNotice, .librarian 0, 92274868, 0x40005, by decide +kernel⟩
theorem test_meets_NoticeWindow_17 : ∃ (s : State) (p : Path) (a : BitVec 32) (i : Nat), (s.readReaches p a (.reg .QMG_WIN_CONS i)) ∧ (s.noWindow .QMG_WIN_CONS i = false) :=
  ⟨w.setCtx 0x40005 cNotice, .librarian 0, 92274872, 0x40005, by decide +kernel⟩
theorem test_meets_NoticeWindow_18 : ∃ (s : State) (p : Path) (a : BitVec 32) (i : Nat), (s.readReaches p a (.reg .QMG_WIN_RD i)) ∧ (s.noWindow .QMG_WIN_RD i = false) :=
  ⟨w.setCtx 0x40005 cNotice, .librarian 0, 92274876, 0x40005, by decide +kernel⟩
theorem test_meets_MoverDescriptors_1 : ∃ (s : State) (c : Chan) (b : Bool), ((s.dchan c).active.isSome = true ∨ s.flag DMV_CH_CTL.EN c = false ∨ s.rgn (c / 16) = 2 ∨ s.boot.down ≠ 0) :=
  ⟨w, 3, true, by decide +kernel⟩
theorem test_meets_MoverDescriptors_2 : ∃ (s : State) (c : Chan) (b : Bool) (k : Nat) (x : Inflight) (l : List (Nat × Inflight)), ((s.dchan c).active = none) ∧ (s.flag DMV_CH_CTL.EN c = true) ∧ (s.rgn (c / 16) ≠ 2) ∧ (s.boot.down = 0) ∧ ((s.dchan c).resume = (k, x) :: l) :=
  ⟨(w.set DMV_CH_CTL.EN 3 1).setDchan 3 { resume := [(4, ⟨dCopy, 64, 0, 3, (0, 0x40005), false, [], false, none⟩)] }, 3, true, 4, ⟨dCopy, 64, 0, 3, (0, 0x40005), false, [], false, none⟩, [], by decide +kernel⟩
theorem test_meets_MoverDescriptors_3 : ∃ (s : State) (c : Chan) (b : Bool), ((s.dchan c).active = none) ∧ (s.flag DMV_CH_CTL.EN c = true) ∧ (s.rgn (c / 16) ≠ 2) ∧ (s.boot.down = 0) ∧ ((s.dchan c).resume = []) ∧ (s.flag DMV_SHD_CTL.ARM c = true) :=
  ⟨((w.set DMV_CH_CTL.EN 3 1).set DMV_SHD_CTL.ARM 3 1), 3, true, by decide +kernel⟩
theorem test_meets_MoverDescriptors_4 : ∃ (s u : State) (c : Chan) (e : Fin 64) (q : Qid) (x : BitVec 512) (b : Bool), ((s.dchan c).active = none) ∧ (s.flag DMV_CH_CTL.EN c = true) ∧ (s.rgn (c / 16) ≠ 2) ∧ (s.boot.down = 0) ∧ ((s.dchan c).resume = []) ∧ (s.flag DMV_SHD_CTL.ARM c = false) ∧ (((List.range 64).map (fun i => ((s.dchan c).last + i) % 64)).find? (fun e => s.servable c e) = some e.val) ∧ (s.get DMV_CH_RING.QID (64 * c + e) = q.toNat) ∧ (s.cached q.toNat = true) ∧ (x = s.ctx q.toNat) ∧ (b = false ∨ cget x cOwner ≠ 2) ∧ (s.feedShut (cget x cPort) 1 = false) ∧ (s.charge c 64 = some u) :=
  ⟨((((wCtx (cput (cput cSubmit cProd 1) cOwner 0)).set DMV_CH_CTL.EN 3 1).set DMV_CH_RING.QID 194 0x40005).set DMV_CH_RING.V 194 1), ((((wCtx (cput (cput cSubmit cProd 1) cOwner 0)).set DMV_CH_CTL.EN 3 1).set DMV_CH_RING.QID 194 0x40005).set DMV_CH_RING.V 194 1), 3, 2, 0x40005, cput (cput cSubmit cProd 1) cOwner 0, true, by decide +kernel⟩
theorem test_meets_MoverDescriptors_5 : ∃ (s : State) (c : Chan) (e : Fin 64) (q : Qid) (x : BitVec 512), ((s.dchan c).active = none) ∧ (s.flag DMV_CH_CTL.EN c = true) ∧ (s.rgn (c / 16) ≠ 2) ∧ (s.boot.down = 0) ∧ ((s.dchan c).resume = []) ∧ (s.flag DMV_SHD_CTL.ARM c = false) ∧ (((List.range 64).map (fun i => ((s.dchan c).last + i) % 64)).find? (fun e => s.servable c e) = some e.val) ∧ (s.get DMV_CH_RING.QID (64 * c + e) = q.toNat) ∧ (x = s.ctx q.toNat) :=
  ⟨(((((w.setCtx 0x40005 (cput (cput cSubmit cProd 1) cOwner 2)).set DMV_CH_CTL.EN 3 1).set DMV_CH_RING.QID 194 0x40005).set DMV_CH_RING.V 194 1).set CRL_CFG.STATE 0 1), 3, 2, 0x40005, cput (cput cSubmit cProd 1) cOwner 2, by decide +kernel⟩
theorem test_meets_MoverDescriptors_6 : ∃ (s : State) (c : Chan) (b : Bool), ((s.dchan c).active = none) ∧ (s.flag DMV_CH_CTL.EN c = true) ∧ (s.rgn (c / 16) ≠ 2) ∧ (s.boot.down = 0) ∧ ((s.dchan c).resume = []) ∧ (s.flag DMV_SHD_CTL.ARM c = false) ∧ (((List.range 64).map (fun i => ((s.dchan c).last + i) % 64)).find? (fun e => s.servable c e) = none) :=
  ⟨w.set DMV_CH_CTL.EN 3 1, 3, true, by decide +kernel⟩
theorem test_meets_MoverDescriptors_7 : ∃ (s : State) (c : Chan) (a : Active), ((s.dchan c).active = some a) :=
  ⟨wChan { ring := some (0, 0x40005) }, 3, { ring := some (0, 0x40005) }, by decide +kernel⟩
theorem test_meets_MoverDescriptors_8 : ∃ (s : State) (c : Chan) (d e : BitVec 512) (a b : Active), ((s.dchan c).active = some a) ∧ (a.phase = .fetch) ∧ (e = (if a.ring.isSome then d else a.desc)) ∧ (b = { a with desc := e, phase := .run, crc := crcOnes (cget e dCrc) }) ∧ (cget e dOp = 0) ∧ (a.carrel = none ∨ (a.freeze = false ∧ a.reset = false)) ∧ (s.badDesc c b = false) :=
  ⟨wChan { ring := some (0, 0x40005) }, 3, cput (cput (cput (cput (cput 0 dOp 0) dLen 128) dSrcPort 3) dDstPort 3) dSrc 4096, cput (cput (cput (cput (cput 0 dOp 0) dLen 128) dSrcPort 3) dDstPort 3) dSrc 4096, { ring := some (0, 0x40005) }, { ring := some (0, 0x40005), desc := cput (cput (cput (cput (cput 0 dOp 0) dLen 128) dSrcPort 3) dDstPort 3) dSrc 4096, phase := .run, crc := crcOnes 0 }, by decide +kernel⟩
theorem test_meets_MoverDescriptors_9 : ∃ (s : State) (c : Chan) (d e : BitVec 512) (a b : Active), ((s.dchan c).active = some a) ∧ (a.phase = .fetch) ∧ (e = (if a.ring.isSome then d else a.desc)) ∧ (b = { a with desc := e, phase := .run, crc := crcOnes (cget e dCrc) }) ∧ (cget e dOp = 1) ∧ (a.carrel = none ∨ (a.freeze = false ∧ a.reset = false)) ∧ (s.badDesc c b = false) :=
  ⟨wChan { ring := some (0, 0x40005) }, 3, cput (cput (cput (cput (cput 0 dOp 1) dLen 128) dSrcPort 3) dDstPort 3) dSrc 4096, cput (cput (cput (cput (cput 0 dOp 1) dLen 128) dSrcPort 3) dDstPort 3) dSrc 4096, { ring := some (0, 0x40005) }, { ring := some (0, 0x40005), desc := cput (cput (cput (cput (cput 0 dOp 1) dLen 128) dSrcPort 3) dDstPort 3) dSrc 4096, phase := .run, crc := crcOnes 0 }, by decide +kernel⟩
theorem test_meets_MoverDescriptors_10 : ∃ (s : State) (c : Chan) (d e : BitVec 512) (a b : Active), ((s.dchan c).active = some a) ∧ (a.phase = .fetch) ∧ (e = (if a.ring.isSome then d else a.desc)) ∧ (b = { a with desc := e, phase := .run, crc := crcOnes (cget e dCrc) }) ∧ (cget e dOp = 2) ∧ (a.carrel = none ∨ (a.freeze = false ∧ a.reset = false)) ∧ (s.badDesc c b = false) :=
  ⟨wChan { ring := some (0, 0x40005) }, 3, cput (cput (cput (cput (cput 0 dOp 2) dLen 128) dSrcPort 3) dDstPort 3) dSrc 4096, cput (cput (cput (cput (cput 0 dOp 2) dLen 128) dSrcPort 3) dDstPort 3) dSrc 4096, { ring := some (0, 0x40005) }, { ring := some (0, 0x40005), desc := cput (cput (cput (cput (cput 0 dOp 2) dLen 128) dSrcPort 3) dDstPort 3) dSrc 4096, phase := .run, crc := crcOnes 0 }, by decide +kernel⟩
theorem test_meets_MoverDescriptors_11 : ∃ (s : State) (c : Chan) (d e : BitVec 512) (a b : Active) (x : BitVec 512) (q : Nat), ((s.dchan c).active = some a) ∧ (a.phase = .fetch) ∧ (e = (if a.ring.isSome then d else a.desc)) ∧ (b = { a with desc := e, phase := .run, crc := crcOnes (cget e dCrc) }) ∧ (s.dmv.chan.all (fun e => e.1 == c.val) = true) ∧ (a.carrel = none) ∧ (cget e dOp = 3) ∧ (cget e dCrc = 0) ∧ (s.badDesc c b = false) :=
  ⟨((wCtx (cput (cput (cput (cput 1 cUse 1) cDepth 4) cEsize 1) cLoc 0)).set DMV_CH_CTL.CQ_V 3 1).set DMV_CH_CTL.CQ_QID 3 0x40005 |>.setActive 3 (some { desc := cput (cput (cput 0 dOp 3) dLen 8) dCmdId 77 }), 3, 0, cput (cput (cput 0 dOp 3) dLen 8) dCmdId 77, { desc := cput (cput (cput 0 dOp 3) dLen 8) dCmdId 77 }, { desc := cput (cput (cput 0 dOp 3) dLen 8) dCmdId 77, phase := .run, crc := crcOnes 0 }, cput (cput (cput (cput 1 cUse 1) cDepth 4) cEsize 1) cLoc 0, 0x40005, by decide +kernel⟩
theorem test_meets_MoverDescriptors_12 : ∃ (s : State) (c : Chan) (d e : BitVec 512) (a b : Active) (k : Nat), ((s.dchan c).active = some a) ∧ (a.phase = .fetch) ∧ (e = (if a.ring.isSome then d else a.desc)) ∧ (b = { a with desc := e, phase := .run, crc := crcOnes (cget e dCrc) }) :=
  ⟨wChan { ring := some (0, 0x40005) }, 3, cput (cput 0 dOp 3) dLen 8, cput (cput 0 dOp 3) dLen 8, { ring := some (0, 0x40005) }, { ring := some (0, 0x40005), desc := cput (cput 0 dOp 3) dLen 8, phase := .run, crc := crcOnes 0 }, 4, by decide +kernel⟩
theorem test_meets_MoverDescriptors_13 : ∃ (s : State) (c : Chan) (d : BitVec 512), ((s.dchan c).active.all (fun a => a.phase != .fetch || cget (if a.ring.isSome then d else a.desc) dOp == 1) = true) :=
  ⟨wChan { desc := dCopy, ring := some (0, 0x40005), phase := .run }, 3, 0, by decide +kernel⟩
theorem test_meets_MoverDescriptors_14 : ∃ (s u : State) (c : Chan) (a : Active), ((s.dchan c).active = some a) ∧ (a.phase = .run) ∧ (s.rgn (c / 16) ≠ 2) ∧ (s.boot.down = 0) ∧ (a.wq = []) ∧ (a.err = none) ∧ (a.abort = false) ∧ (a.freeze = false) ∧ (a.reads < 64) ∧ (a.issued < (cget a.desc dLen)) ∧ (s.deviceDown a = false) ∧ (opReads (cget a.desc dOp) = true) ∧ (cget a.desc dSrcSpace ≠ 1) ∧ (s.dmvCharge c a false (burstLen a.desc a.issued) = some u) :=
  ⟨wChan { desc := dCopy, ring := some (0, 0x40005), phase := .run }, ((wChan { desc := dCopy, ring := some (0, 0x40005), phase := .run }).dmvCharge 3 { desc := dCopy, ring := some (0, 0x40005), phase := .run } false 128).getD w, 3, { desc := dCopy, ring := some (0, 0x40005), phase := .run }, by decide +kernel⟩
set_option maxRecDepth 1000000 in
theorem test_meets_MoverDescriptors_15 : ∃ (s u v : State) (c : Chan) (a : Active) (f : Nat), ((s.dchan c).active = some a) ∧ (a.phase = .run) ∧ (s.rgn (c / 16) ≠ 2) ∧ (s.boot.down = 0) ∧ (a.wq = []) ∧ (a.err = none) ∧ (a.abort = false) ∧ (a.freeze = false) ∧ (a.reads < 64) ∧ (a.issued < (cget a.desc dLen)) ∧ (s.deviceDown a = false) ∧ (opReads (cget a.desc dOp) = true) ∧ (cget a.desc dSrcSpace = 1) ∧ (s.dmvCharge c a false (burstLen a.desc a.issued) = some u) ∧ (u.poolRefused a (sideAddr a.desc false a.issued) (burstLen a.desc a.issued) true false = (some f, v)) ∧ (f = sideAddr a.desc false a.issued) :=
  ⟨wChan { desc := cput (cput dCopy dSrcSpace 1) dSrcPort 0, phase := .run }, ((wChan { desc := cput (cput dCopy dSrcSpace 1) dSrcPort 0, phase := .run }).dmvCharge 3 { desc := cput (cput dCopy dSrcSpace 1) dSrcPort 0, phase := .run } false 128).getD w, ((((wChan { desc := cput (cput dCopy dSrcSpace 1) dSrcPort 0, phase := .run }).dmvCharge 3 { desc := cput (cput dCopy dSrcSpace 1) dSrcPort 0, phase := .run } false 128).getD w).poolRefused { desc := cput (cput dCopy dSrcSpace 1) dSrcPort 0, phase := .run } 4096 128 true false).2, 3, { desc := cput (cput dCopy dSrcSpace 1) dSrcPort 0, phase := .run }, 4096, by first | decide +kernel | exact Prod.ext (by decide +kernel) rfl | exact fun _ => nofun, by first | decide +kernel | exact Prod.ext (by decide +kernel) rfl | exact fun _ => nofun, by first | decide +kernel | exact Prod.ext (by decide +kernel) rfl | exact fun _ => nofun, by first | decide +kernel | exact Prod.ext (by decide +kernel) rfl | exact fun _ => nofun, by first | decide +kernel | exact Prod.ext (by decide +kernel) rfl | exact fun _ => nofun, by first | decide +kernel | exact Prod.ext (by decide +kernel) rfl | exact fun _ => nofun, by first | decide +kernel | exact Prod.ext (by decide +kernel) rfl | exact fun _ => nofun, by first | decide +kernel | exact Prod.ext (by decide +kernel) rfl | exact fun _ => nofun, by first | decide +kernel | exact Prod.ext (by decide +kernel) rfl | exact fun _ => nofun, by first | decide +kernel | exact Prod.ext (by decide +kernel) rfl | exact fun _ => nofun, by first | decide +kernel | exact Prod.ext (by decide +kernel) rfl | exact fun _ => nofun, by first | decide +kernel | exact Prod.ext (by decide +kernel) rfl | exact fun _ => nofun, by first | decide +kernel | exact Prod.ext (by decide +kernel) rfl | exact fun _ => nofun, by first | decide +kernel | exact Prod.ext (by decide +kernel) rfl | exact fun _ => nofun, by first | decide +kernel | exact Prod.ext (by decide +kernel) rfl | exact fun _ => nofun, by first | decide +kernel | exact Prod.ext (by decide +kernel) rfl | exact fun _ => nofun⟩
theorem test_meets_MoverDescriptors_16 : ∃ (s : State) (c : Chan) (a : Active), ((s.dchan c).active = some a) ∧ (a.phase = .run) ∧ (s.rgn (c / 16) ≠ 2) ∧ (s.boot.down = 0) ∧ (a.wq = []) ∧ (a.err = none) ∧ (a.abort = false) ∧ (a.freeze = false) ∧ (a.reads < 64) ∧ (a.issued < (cget a.desc dLen)) :=
  ⟨wChan { desc := cput (cput dCopy dSrcSpace 2) dSrcPort 5, phase := .run }, 3, { desc := cput (cput dCopy dSrcSpace 2) dSrcPort 5, phase := .run }, by decide +kernel⟩
theorem test_meets_MoverDescriptors_17 : ∃ (s u : State) (c : Chan) (a : Active) (n : Nat) (bs : List Byte), ((s.dchan c).active = some a) ∧ (a.phase = .run) ∧ (s.rgn (c / 16) ≠ 2) ∧ (s.boot.down = 0) ∧ (a.wq = []) ∧ (a.err = none) ∧ (a.abort = false) ∧ (a.freeze = false) ∧ (a.reads < 64) ∧ (n = burstLen a.desc a.issued) ∧ (a.issued + n < (cget a.desc dLen)) ∧ (n ≤ 256) ∧ (cget a.desc dOp = 1) ∧ (cget a.desc dDstSpace = 0) ∧ (a.writes < 64) ∧ (a.out.all (fun e => e.1 != a.issued) = true) ∧ (s.dmvCharge c a true 256 = some u) ∧ (bs = fillBytes a.desc a.issued n) :=
  ⟨wChan { desc := cput (cput (cput (cput 0 dOp 1) dLen 4096) dDstPort 3) dDst 8000, phase := .run }, ((wChan { desc := cput (cput (cput (cput 0 dOp 1) dLen 4096) dDstPort 3) dDst 8000, phase := .run }).dmvCharge 3 { desc := cput (cput (cput (cput 0 dOp 1) dLen 4096) dDstPort 3) dDst 8000, phase := .run } true 256).getD w, 3, { desc := cput (cput (cput (cput 0 dOp 1) dLen 4096) dDstPort 3) dDst 8000, phase := .run }, 192, fillBytes (cput (cput (cput (cput 0 dOp 1) dLen 4096) dDstPort 3) dDst 8000) 0 192, by decide +kernel⟩
theorem test_meets_MoverDescriptors_18 : ∃ (s : State) (c : Chan) (a : Active) (x : DmvCell) (l : List DmvCell), ((s.dchan c).active = some a) ∧ (a.phase = .run) ∧ (s.rgn (c / 16) ≠ 2) ∧ (s.boot.down = 0) ∧ (a.wq = x :: l) :=
  ⟨wChan { desc := dCopy, phase := .run, out := [(0, 8, true)], wq := [⟨0, 4096, [1], false, true⟩] }, 3, { desc := dCopy, phase := .run, out := [(0, 8, true)], wq := [⟨0, 4096, [1], false, true⟩] }, ⟨0, 4096, [1], false, true⟩, [], by decide +kernel⟩
theorem test_meets_MoverDescriptors_19 : ∃ (s u : State) (c : Chan) (a : Active), ((s.dchan c).active = some a) ∧ (a.phase = .run) ∧ (s.rgn (c / 16) ≠ 2) ∧ (s.boot.down = 0) ∧ (a.wq = []) ∧ (a.out = []) ∧ (a.err = none) ∧ (a.abort = false) ∧ (a.issued = (cget a.desc dLen) + appendLen a.desc) :=
  ⟨wChan { desc := dCopy, phase := .run, issued := 128, bytes := 128 }, ((wChan { desc := dCopy, phase := .run, issued := 128, bytes := 128 }).dmvCharge 3 { desc := dCopy, phase := .run, issued := 128, bytes := 128 } true 64).getD w, 3, { desc := dCopy, phase := .run, issued := 128, bytes := 128 }, by decide +kernel⟩
theorem test_meets_MoverDescriptors_20 : ∃ (s : State) (c : Chan) (a : Active), ((s.dchan c).active = some a) ∧ (a.phase = .run) ∧ (s.rgn (c / 16) ≠ 2) ∧ (s.boot.down = 0) ∧ (a.wq = []) ∧ (a.err = none) ∧ (a.abort = false) ∧ (a.reads < 64) ∧ (a.issued = (cget a.desc dLen)) ∧ (appendLen a.desc ≠ 0) ∧ (a.bytes = (cget a.desc dLen)) :=
  ⟨wChan { desc := cput (cput dCopy dAppend 1) dCrc 1, phase := .run, issued := 128, bytes := 128 }, 3, { desc := cput (cput dCopy dAppend 1) dCrc 1, phase := .run, issued := 128, bytes := 128 }, by decide +kernel⟩
theorem test_meets_MoverDescriptors_21 : ∃ (s : State) (c : Chan) (a : Active), ((s.dchan c).active = some a) ∧ (a.phase = .run) ∧ (s.rgn (c / 16) ≠ 2) ∧ (s.boot.down = 0) ∧ (a.wq = []) :=
  ⟨wChan { desc := dCopy, phase := .run, abort := true }, 3, { desc := dCopy, phase := .run, abort := true }, by decide +kernel⟩
theorem test_meets_MoverDescriptors_23 : ∃ (s : State) (c : Chan) (a : Active) (off n : Nat) (bs : List Byte), ((s.dchan c).active = some a) ∧ (a.phase = .run) ∧ (a.err = none) ∧ (a.abort = false) ∧ (a.freeze = false) ∧ (a.issued < (cget a.desc dLen)) ∧ (cget a.desc dOp = 2) ∧ (a.out.find? (fun e => e.1 == off) = some (off, n, false)) :=
  ⟨wChan { desc := cput dCopy dOp 2, phase := .run, issued := 64, out := [(0, 64, false)] }, 3, { desc := cput dCopy dOp 2, phase := .run, issued := 64, out := [(0, 64, false)] }, 0, 64, [1, 2], by decide +kernel⟩
theorem test_meets_MoverDescriptors_24 : ∃ (s u v : State) (c : Chan) (a : Active) (off n : Nat) (bs : List Byte), ((s.dchan c).active = some a) ∧ (a.phase = .run) ∧ (a.err = none) ∧ (a.abort = false) ∧ (a.freeze = false) ∧ (a.wq = []) ∧ (a.issued < (cget a.desc dLen)) ∧ (cget a.desc dOp = 0) ∧ (cget a.desc dDstSpace = 0) ∧ (0 < n) ∧ (n ≤ 256) ∧ (bs.length = n) ∧ (a.out.filter (fun e => e.1 == off) = [(off, n, false)]) ∧ (a.writes < 64) ∧ (u = s.count (c / 16) 0x11 (c % 16) n) ∧ (u.dmvCharge c a true 256 = some v) :=
  ⟨wChan { desc := dCopy, phase := .run, issued := 2, out := [(0, 2, false)] }, wChan { desc := dCopy, phase := .run, issued := 2, out := [(0, 2, false)] }, ((wChan { desc := dCopy, phase := .run, issued := 2, out := [(0, 2, false)] }).dmvCharge 3 { desc := dCopy, phase := .run, issued := 2, out := [(0, 2, false)] } true 256).getD w, 3, { desc := dCopy, phase := .run, issued := 2, out := [(0, 2, false)] }, 0, 2, [1, 2], by decide +kernel⟩
theorem test_meets_MoverDescriptors_25 : ∃ (s : State) (c : Chan) (a : Active) (off n : Nat) (wr : Bool) (bs : List Byte) (r : BurstRsp), ((s.dchan c).active = some a) ∧ (a.out.find? (fun e => e.1 == off) = some (off, n, wr)) :=
  ⟨wChan { desc := dCopy, phase := .run, out := [(0, 64, true)] }, 3, { desc := dCopy, phase := .run, out := [(0, 64, true)] }, 0, 64, true, [], .ok, by decide +kernel⟩
theorem test_meets_MoverDescriptors_26 : ∃ (s : State) (c : Chan) (off : Nat) (bs : List Byte) (r : BurstRsp), ((s.dchan c).active.all (fun a => a.out.all (fun e => e.1 != off)) = true) :=
  ⟨w, 3, 7, [], .ok, by decide +kernel⟩
theorem test_meets_MoverDescriptors_27 : ∃ (s : State) (c : Chan) (a : Active) (bs : List Byte) (r : BurstRsp), ((s.dchan c).active = some a) ∧ (a.phase = .readback) :=
  ⟨wChan { desc := dCopy, phase := .readback, last := [(0, 1)] }, 3, { desc := dCopy, phase := .readback, last := [(0, 1)] }, [1, 2], .ok, by decide +kernel⟩
theorem test_meets_MoverDescriptors_28 : ∃ (s : State) (c : Chan) (bs : List Byte) (r : BurstRsp), ((s.dchan c).active.all (fun a => a.phase != .readback) = true) :=
  ⟨w, 3, [], .ok, by decide +kernel⟩
theorem test_meets_MoverDescriptors_29 : ∃ (s : State) (c : Chan) (a : Active) (q : Nat), ((s.dchan c).active = some a) ∧ (a.phase = .held) ∧ (s.cqOf c a = some q) :=
  ⟨((wChan { desc := dCopy, phase := .held }).set DMV_CH_CTL.CQ_V 3 1).set DMV_CH_CTL.CQ_QID 3 0x40005, 3, { desc := dCopy, phase := .held }, 0x40005, by decide +kernel⟩
theorem test_meets_MoverDescriptors_30 : ∃ (s : State) (c : Chan), ((s.dchan c).active.all (fun a => a.phase != .held) = true) :=
  ⟨w, 3, by decide +kernel⟩
theorem test_meets_MoverDescriptors_31 : ∃ (s : State) (p : Path) (c : Chan), (s.admits p (dmvSet (c / 16))) :=
  ⟨w, .librarian, 3, by decide +kernel⟩
theorem test_meets_MoverDescriptors_32 : ∃ (s : State) (p : Path) (c : Chan) (a : Active), (s.admits p (dmvSet (c / 16))) ∧ (s.flag DMV_CH_CMD.BUSY c = false) ∧ ((s.dchan c).active = some a) :=
  ⟨wChan { desc := dCopy, phase := .run, out := [(0, 64, false)] }, .librarian, 3, { desc := dCopy, phase := .run, out := [(0, 64, false)] }, by decide +kernel⟩
theorem test_meets_MoverDescriptors_33 : ∃ (s : State) (p : Path) (c : Chan), (s.admits p (dmvSet (c / 16))) :=
  ⟨w, .librarian, 3, by decide +kernel⟩
theorem test_meets_MoverDescriptors_34 : ∃ (s : State) (p : Path) (n : Fin 4096) (v : Word), (s.admits p (dmvSet (n / 1024))) :=
  ⟨wCtx (cput cSubmit cOwner 0), .librarian, 4095, 0x140005, by decide +kernel⟩
theorem test_meets_MoverDescriptors_35 : ∃ (s : State) (p : Path) (a : BitVec 32) (d : BitVec 64) (i : Nat), (s.writeReaches p a (.reg .DMV_CH_CTL i)) :=
  ⟨w, .librarian 0, 26214400, 1, 0, by decide +kernel⟩
theorem test_meets_MoverDescriptors_36 : ∃ (s : State) (p : Path) (a : BitVec 32) (d : BitVec 64) (i : Nat), (s.writeReaches p a (.reg .DMV_CH_CMD i)) :=
  ⟨w, .librarian 0, 26214408, 1, 0, by decide +kernel⟩
theorem test_meets_MoverDescriptors_37 : ∃ (s : State) (p : Path) (a : BitVec 32) (d : BitVec 64) (i : Nat), (s.writeReaches p a (.reg .DMV_CH_RING i)) :=
  ⟨w, .librarian 0, 26214656, 5, 0, by decide +kernel⟩
theorem test_meets_MoverDescriptors_38 : ∃ (s : State) (p : Path) (c : Chan) (n : Fin 4096) (v : Word), (s.mayWrite p = false) :=
  ⟨wFw, .i3c, 5, 7, 9, by decide +kernel⟩
theorem test_meets_CarrelLifeCycle_1 : ∃ (s : State) (p : Path) (k : Carrel) (h : Bool), (s.admits p setCrl) ∧ (s.flag CRL_CMD.BUSY 0 = true) :=
  ⟨w.set CRL_CMD.BUSY 0 1, .librarian, 4, true, by decide +kernel⟩
theorem test_meets_CarrelLifeCycle_2 : ∃ (s : State) (p : Path) (k : Carrel) (h : Bool), (s.admits p setCrl) ∧ (s.flag CRL_CMD.BUSY 0 = false) :=
  ⟨w.set CRL_CFG.STATE 4 2, .librarian, 4, true, by decide +kernel⟩
theorem test_meets_CarrelLifeCycle_3 : ∃ (s : State) (p : Path) (k : Carrel), (s.admits p setCrl) ∧ (s.flag CRL_CMD.BUSY 0 = false) ∧ (s.get CRL_CFG.STATE k.toNat = 0) :=
  ⟨(wImg [(1, 96, 1)]).set CRL_CFG.PORT 4 3, .librarian, 4, by decide +kernel⟩
theorem test_meets_CarrelLifeCycle_4 : ∃ (s : State) (p : Path) (k : Carrel), (s.admits p setCrl) ∧ (s.flag CRL_CMD.BUSY 0 = false) ∧ (s.get CRL_CFG.STATE k.toNat = 1) ∧ (s.carrelBusy k.toNat = false) ∧ (s.dmv.chan.all (fun e => e.2.resume == []) = true) :=
  ⟨w.set CRL_CFG.STATE 4 1, .librarian, 4, by decide +kernel⟩
theorem test_meets_CarrelLifeCycle_5 : ∃ (s : State) (p : Path) (k : Carrel) (c : Chan) (a : Active), (s.admits p setCrl) ∧ (s.flag CRL_CMD.BUSY 0 = false) ∧ (s.get CRL_CFG.STATE k.toNat = 1) ∧ (s.dmv.chan = [(c.val, { active := some a })]) ∧ (a.carrel = some k.toNat) ∧ (a.phase = .fetch ∨ (a.phase = .run ∧ a.out ≠ [])) :=
  ⟨{ w.set CRL_CFG.STATE 4 1 with dmv := { w.dmv with chan := [(3, { active := some { carrel := some 4 } })] } }, .librarian, 4, 3, { carrel := some 4 }, by decide +kernel⟩
theorem test_meets_CarrelLifeCycle_6 : ∃ (s : State) (k : Carrel), (s.lib.mbxRun = []) ∧ (s.get CRL_CFG.STATE k.toNat = 2) ∧ (s.carrelBusy k.toNat = false) ∧ (s.dmv.freezing = some k.toNat) :=
  ⟨{ w.set CRL_CFG.STATE 4 2 with dmv := { w.dmv with freezing := some 4 }, time := [] }, 4, by decide +kernel⟩
theorem test_meets_CarrelLifeCycle_7 : ∃ (s : State) (k : Carrel), (s.lib.mbxRun = []) :=
  ⟨w, 4, by decide +kernel⟩
theorem test_meets_CarrelLifeCycle_8 : ∃ (s : State) (p : Path) (k : Carrel) (x : Inflight), (s.admits p setCrl) ∧ (s.flag CRL_CMD.BUSY 0 = false) ∧ (s.get CRL_CFG.STATE k.toNat = 3) :=
  ⟨(w.set CRL_CFG.STATE 4 3).set CRL_CFG.ERROR 4 1, .librarian, 4, ⟨dCopy, 64, 0, 3, (0, 0x40005), false, [], false, none⟩, by decide +kernel⟩
set_option maxRecDepth 1000000 in
theorem test_meets_CarrelLifeCycle_9 : ∃ (s : State) (p : Path) (k : Carrel) (n : Nat), (s.admits p setCrl) ∧ (s.flag CRL_CMD.BUSY 0 = false) ∧ (s.get CRL_CFG.STATE k.toNat = 3) ∧ (n = (s.word .CRL_ADDR_LO 0).toNat + 2 ^ 32 * (s.word .CRL_ADDR_HI 0).toNat) :=
  ⟨w.set CRL_CFG.STATE 4 3, .librarian, 4, 0, by first | decide +kernel | exact Prod.ext (by decide +kernel) rfl | exact fun _ => nofun, by first | decide +kernel | exact Prod.ext (by decide +kernel) rfl | exact fun _ => nofun, by first | decide +kernel | exact Prod.ext (by decide +kernel) rfl | exact fun _ => nofun, by first | decide +kernel | exact Prod.ext (by decide +kernel) rfl | exact fun _ => nofun⟩
theorem test_meets_CarrelLifeCycle_10 : ∃ (s : State) (k : Carrel) (bs : List Byte) (b : Bool), (s.lib.mbxRun = []) :=
  ⟨{ w.set CRL_CFG.STATE 4 3 with dmv := { w.dmv with saving := some (4, false, [1, 2, 3]) } }, 4, [1, 2, 3], true, by decide +kernel⟩
theorem test_meets_CarrelLifeCycle_13 : ∃ (s u : State) (p : Path) (k : Carrel) (b : List Byte) (v : Nat), (s.admits p setCrl) ∧ (s.get CRL_CFG.STATE k.toNat = 0) ∧ (s.dmv.restoring = some k.toNat) ∧ (u = (((({ s.set CRL_CMD.BUSY 0 0 with dmv := { s.dmv with restoring := none } } : State).set CRL_CMD.CARREL 0 k.toNat).set CRL_CMD.OP 0 5).set CRL_CMD.DEST 0 1).set CRL_CMD.RESULT 0 0) ∧ (v = u.restoreResult (recMap b) k.toNat (u.get CRL_ARG1.QID_BASE 0) true) :=
  ⟨{ wRst.set CRL_CMD.BUSY 0 1 with dmv := { wRst.dmv with restoring := some 4 } }, (((({ (({ wRst.set CRL_CMD.BUSY 0 1 with dmv := { wRst.dmv with restoring := some 4 } } : State).set CRL_CMD.BUSY 0 0) with dmv := { wRst.dmv with restoring := none } } : State).set CRL_CMD.CARREL 0 4).set CRL_CMD.OP 0 5).set CRL_CMD.DEST 0 1).set CRL_CMD.RESULT 0 0, .librarian, 4, [], 4, by decide +kernel⟩
set_option maxRecDepth 1000000 in
theorem test_meets_CarrelLifeCycle_14 : ∃ (s u : State) (p : Path) (k : Carrel) (b : List Byte) (v : Nat), (s.admits p setCrl) ∧ (s.flag CRL_CMD.BUSY 0 = false) ∧ (s.get CRL_CFG.STATE k.toNat = 0) ∧ (u = (((s.set CRL_CMD.CARREL 0 k.toNat).set CRL_CMD.OP 0 5).set CRL_CMD.DEST 0 0).set CRL_CMD.RESULT 0 0) ∧ (b = peeks u.hbm (recordAt (u.get CRL_ARG0.PORT 0) (u.get CRL_ARG1.SRC_CARREL 0)) 17104) ∧ (v = u.restoreResult (recMap b) k.toNat (u.get CRL_ARG1.QID_BASE 0) false) ∧ (v ≠ 0) :=
  ⟨wRst, ((((wRst.set CRL_CMD.CARREL 0 4).set CRL_CMD.OP 0 5).set CRL_CMD.DEST 0 0).set CRL_CMD.RESULT 0 0), .librarian, 4, peeks ((((wRst.set CRL_CMD.CARREL 0 4).set CRL_CMD.OP 0 5).set CRL_CMD.DEST 0 0).set CRL_CMD.RESULT 0 0).hbm (recordAt (((((wRst.set CRL_CMD.CARREL 0 4).set CRL_CMD.OP 0 5).set CRL_CMD.DEST 0 0).set CRL_CMD.RESULT 0 0).get CRL_ARG0.PORT 0) (((((wRst.set CRL_CMD.CARREL 0 4).set CRL_CMD.OP 0 5).set CRL_CMD.DEST 0 0).set CRL_CMD.RESULT 0 0).get CRL_ARG1.SRC_CARREL 0)) 17104, 4, by first | decide +kernel | exact Prod.ext (by decide +kernel) rfl | exact fun _ => nofun, by first | decide +kernel | exact Prod.ext (by decide +kernel) rfl | exact fun _ => nofun, by first | decide +kernel | exact Prod.ext (by decide +kernel) rfl | exact fun _ => nofun, rfl, rfl, by first | decide +kernel | exact Prod.ext (by decide +kernel) rfl | exact fun _ => nofun, by first | decide +kernel | exact Prod.ext (by decide +kernel) rfl | exact fun _ => nofun⟩
theorem test_meets_CarrelLifeCycle_15 : ∃ (s : State) (p : Path) (k : Carrel), (s.admits p setCrl) ∧ (s.flag CRL_CMD.BUSY 0 = false) ∧ (s.get CRL_CFG.STATE k.toNat = 3) :=
  ⟨(wCtx (cput (cput cSubmit cOwner 2) cCarrel 4)).set CRL_CFG.STATE 4 3, .librarian, 4, by decide +kernel⟩
theorem test_meets_CarrelLifeCycle_16 : ∃ (s : State) (p : Path) (k : Carrel) (i : Fin 64) (v : Word) (x : BitVec 512), (s.admits p setCrl) ∧ (x = s.ctx (bits v 0 20)) :=
  ⟨wCtx (cput (cput cSubmit cOwner 2) cCarrel 4), .librarian, 4, 63, 0x140005, cput (cput cSubmit cOwner 2) cCarrel 4, by decide +kernel⟩
theorem test_meets_CarrelLifeCycle_17 : ∃ (s : State) (p : Path) (k : Carrel) (v : Word) (m n : Nat), (s.admits p setCrl) ∧ (s.get CRL_CFG.STATE k.toNat = 0) ∧ (m = v.toNat &&& s.tplOf k.toNat 64 32) ∧ (n = v.toNat &&& s.tplOf k.toNat 96 32) :=
  ⟨wImg [(6, 0, 1), (6, 72, 7), (6, 76, 7)], .librarian, 4, 0x105, 5, 5, by decide +kernel⟩
theorem test_meets_CarrelLifeCycle_18 : ∃ (s : State) (p : Path) (k : Carrel) (v : Word) (hi : Bool) (m lo : Nat), (s.admits p setCrl) ∧ (s.get CRL_CFG.STATE k.toNat ≠ 0) ∧ (lo = (if hi then 32 else 0)) ∧ (m = v.toNat &&& s.tplOf k.toNat (64 + lo) 32) :=
  ⟨(((((wImg [(6, 0, 1), (6, 72, 7)]).setCtx 0x40005 (cput (cput cSubmit cOwner 2) cCarrel 4)).set CRL_CFG.STATE 4 1).set CRL_CHAN_LO.MASK_LO 4 7).set DMV_CH_RING.QID 64 0x40005).set DMV_CH_RING.V 64 1, .librarian, 4, 5, false, 5, 0, by decide +kernel⟩
theorem test_meets_CarrelLifeCycle_19 : ∃ (s : State) (p : Path) (a : BitVec 32) (d : BitVec 64) (i : Nat), (s.writeReaches p a (.reg .CRL_CMD i)) :=
  ⟨w, .librarian 0, 589824, 2 ^ 16 + 2 ^ 12 + 4, 0, by decide +kernel⟩
theorem test_meets_CarrelLifeCycle_20 : ∃ (s : State) (p : Path) (a : BitVec 32) (d : BitVec 64) (i : Nat), (s.writeReaches p a (.reg .CRL_SLOT i)) :=
  ⟨w, .librarian 0, 117440768, 5, 0, by decide +kernel⟩
theorem test_meets_CarrelLifeCycle_21 : ∃ (s : State) (p : Path) (a : BitVec 32) (d : BitVec 64) (i : Nat), (s.writeReaches p a (.reg .CRL_CHAN_LO i)) :=
  ⟨w, .librarian 0, 117440520, 5, 0, by decide +kernel⟩
theorem test_meets_CarrelLifeCycle_22 : ∃ (s : State) (p : Path) (a : BitVec 32) (d : BitVec 64) (i : Nat), (s.writeReaches p a (.reg .CRL_CHAN_HI i)) :=
  ⟨w, .librarian 0, 117440524, 5, 0, by decide +kernel⟩
theorem test_meets_CarrelLifeCycle_23 : ∃ (s : State) (p : Path) (k : Carrel) (on : Bool) (x : Fin 64) (v : Word), (s.mayWrite p = false) :=
  ⟨wFw, .i3c, 5, true, 7, 9, by decide +kernel⟩
theorem test_meets_TillerArithmetic_1 : ∃ (s : State) (t : TillerIx) (d a b : Fin 16) (i : BitVec 16) (j : BitVec 18) (n : Fin 32), (s.tilReady t = true) :=
  ⟨(wTil 3).setTReg 3 2 0x80000001, 3, 2, 2, 4, 0x8001, 0x20001, 31, by decide +kernel⟩
theorem test_meets_TillerArithmetic_2 : ∃ (s : State) (t : TillerIx) (a b : Fin 16) (cond : Fin 8) (tgt : BitVec 11), (s.tilReady t = true) :=
  ⟨wTil 3, 3, 2, 4, 4, 2047, by decide +kernel⟩
theorem test_meets_TillerArithmetic_3 : ∃ (s : State) (t : TillerIx) (tgt : BitVec 11), (s.tilReady t = true) :=
  ⟨(wTil 3).set TIL_STS.PC 3 2047, 3, 9, by decide +kernel⟩
theorem test_meets_TillerArithmetic_4 : ∃ (s : State) (t : TillerIx) (n : Nat) (k : List Nat), (s.tilReady t = true) :=
  ⟨(wTil 3).setTiller 3 { stack := [0, 5] }, 3, 0, [5], by decide +kernel⟩
theorem test_meets_TillerArithmetic_5 : ∃ (s : State) (t : TillerIx) (d a b : Fin 16) (i : BitVec 16) (j : BitVec 18) (n : Fin 32) (c : Fin 8) (g : BitVec 11) (k : BitVec 8) (u : TUnit) (e : BitVec 12) (f : BitVec 10) (v : Bool) (m : EccRead), (s.tilReady t = false) :=
  ⟨w, 3, 2, 2, 4, 0x8001, 0x20001, 31, 6, 9, 7, 1, 5, 5, true, .uncorrectable, by decide +kernel⟩
theorem test_meets_TillerArithmetic_6 : ∃ (s : State) (t : TillerIx) (d a b : Fin 16) (i : BitVec 16) (j : BitVec 18) (n : Fin 32) (c : Fin 8) (g : BitVec 11) (k : BitVec 8) (u : TUnit) (e : BitVec 12) (f : BitVec 10) (v : Bool), (s.tilReady t = true) :=
  ⟨wTil 3, 3, 2, 2, 4, 0x8001, 0x20001, 31, 6, 9, 7, 1, 5, 5, true, by decide +kernel⟩
theorem test_meets_TillerArithmetic_7 : ∃ (s : State) (t : TillerIx) (d a b : Fin 16) (i : BitVec 16) (j : BitVec 18) (n : Fin 32) (c : Fin 8) (g : BitVec 11) (k : BitVec 8) (u : TUnit) (e : BitVec 12) (f : BitVec 10) (v : Bool), (s.tilReady t = true) :=
  ⟨wTil 3, 3, 2, 2, 4, 0x8001, 0x20001, 31, 6, 9, 7, 1, 5, 5, true, by decide +kernel⟩
theorem test_meets_TillerWaits_1 : ∃ (s : State) (t : TillerIx) (d a : Fin 16) (off : BitVec 18) (o c : Nat), (s.tilReady t = true) :=
  ⟨(wTil 3).setTReg 3 2 0x10000004, 3, 2, 2, 0x3FFFC, 0, 3, by decide +kernel⟩
theorem test_meets_TillerWaits_2 : ∃ (s : State) (t : TillerIx) (d x : Nat), (s.windowGone (tillerUnit t) = false) ∧ ((s.tiller t).wait = .load d x) ∧ ((s.tiller t).stores.length < 8) ∧ ((s.tiller t).stores.any (fun e => s.setAt e.1 == s.setAt x) = false) :=
  ⟨(wTil 192).setTiller 192 { wait := .load 4 aKpr.toNat }, 192, 4, aKpr.toNat, by decide +kernel⟩
theorem test_meets_TillerWaits_3 : ∃ (s : State) (t : TillerIx) (d x : Nat) (w : TWait), ((s.tiller t).wait = w) :=
  ⟨wTil 3, 3, 4, 4, .none, by decide +kernel⟩
theorem test_meets_TillerWaits_4 : ∃ (s : State) (t : TillerIx) (d a : Fin 16) (off : BitVec 18) (o c : Nat), (s.tilReady t = true) :=
  ⟨(wTil 3).setTReg 3 2 0x10000004, 3, 2, 2, 0, 4, 3, by decide +kernel⟩
theorem test_meets_TillerWaits_5 : ∃ (s u : State) (t : TillerIx) (x v : Nat) (q : List (Nat × Nat)), (s.windowGone (tillerUnit t) = false) ∧ ((s.tiller t).stores = (x, v) :: q) ∧ (u = rateAsked t x v (s.setTiller t { s.tiller t with stores := q })) ∧ (((tilWrite x (rateKept t x v u) u).tiller t).wait = .none) :=
  ⟨(wTil 192).setTiller 192 { stores := [(4, 5)] }, (wTil 192).setTiller 192 {}, 192, 4, 5, [], by decide +kernel⟩
theorem test_meets_TillerWaits_6 : ∃ (s : State) (t : TillerIx) (p : Port) (v x : Nat), (s.windowGone (tillerUnit t) = false) ∧ (tilKind t = .port p) ∧ ((s.tiller t).stores = [(x, v)]) ∧ (target x = .reg .PRT_PORT_CTL p) ∧ (s.role p = 1 ∨ s.role p = 2) ∧ (v % 8 < s.get PRT_PORT_CTL.MAX_RATE p) ∧ ((s.tiller t).wait = .none) :=
  ⟨((((wImg [(1, 96, 1)]).set TIL_STS.STATE 3 1).set PRT_PORT_EVT.CAP 3 5).set PRT_PORT_CTL.MAX_RATE 3 5).setTiller 3 { stores := [(aPrt3, 3)] }, 3, 3, 3, aPrt3, by decide +kernel⟩
theorem test_meets_TillerWaits_7 : ∃ (s : State) (t : TillerIx) (n v x : Nat) (q : List (Nat × Nat)), (s.windowGone (tillerUnit t) = false) ∧ ((s.tiller t).stores = (x, v) :: q) ∧ ((s.tiller t).wait = .none) ∧ (target x = .reg .LIB_MPU_BASE n ∨ target x = .reg .LIB_MPU_LIMIT n) ∧ (s.addrGone x = false) :=
  ⟨(wTil 16).setTiller 16 { stores := [(aMpu, 7)] }, 16, 0, 7, aMpu, [], by decide +kernel⟩
theorem test_meets_TillerWaits_8 : ∃ (s u : State) (t : TillerIx) (x v x2 v2 : Nat) (q : List (Nat × Nat)), (s.windowGone (tillerUnit t) = false) ∧ ((s.tiller t).stores = (x, v) :: q) ∧ (t.val ≥ 192 ∨ isHosted t = true) ∧ (u = tilWrite x v (s.setTiller t { s.tiller t with stores := q })) ∧ ((u.tiller t).wait = .store x2 v2) :=
  ⟨(wTil 192).setTiller 192 { stores := [(4, 5)], wait := .store 8 9 }, tilWrite 4 5 ((wTil 192).setTiller 192 { wait := .store 8 9 }), 192, 4, 5, 8, 9, [], by decide +kernel⟩
theorem test_meets_TillerWaits_9 : ∃ (s : State) (t : TillerIx), (s.windowGone (tillerUnit t) = true ∨ (s.tiller t).stores = []) :=
  ⟨w, 3, by decide +kernel⟩
theorem test_meets_TillerWaits_10 : ∃ (s : State) (t : TillerIx) (d : Fin 16) (mask : BitVec 8) (u : TUnit) (n : BitVec 12) (k b : Nat), (s.tilReady t = true) :=
  ⟨wTil 3, 3, 2, 0x81, 0, 5, 5000, 0, by decide +kernel⟩
theorem test_meets_TillerWaits_11 : ∃ (s : State) (t : TillerIx) (d a : Fin 16) (b : Fin 32) (v : Bool) (u : TUnit) (n : BitVec 10) (k o c : Nat), (s.tilReady t = true) :=
  ⟨(wTil 3).setTReg 3 4 0x10000004, 3, 2, 4, 31, true, 0, 5, 5000, 4, 3, by decide +kernel⟩
theorem test_meets_TillerWaits_12 : ∃ (s : State) (t : TillerIx) (u : TUnit) (n : BitVec 12) (k : Nat), (s.tilReady t = true) :=
  ⟨wTil 3, 3, 2, 5, 5000000000, by decide +kernel⟩
theorem test_meets_TillerWaits_13 : ∃ (s : State) (t : TillerIx) (d : Fin 16) (m k b : Nat), (s.windowGone (tillerUnit t) = false) ∧ ((s.tiller t).wait = .event d m k) ∧ (s.eventBit t m = some b) ∧ (b < 8) :=
  ⟨((wTil 3).setTiller 3 { wait := .event 2 0x81 5000 }).set TIL_EVT.PENDING 3 0x90, 3, 2, 0x81, 5000, 7, by decide +kernel⟩
theorem test_meets_TillerWaits_14 : ∃ (s : State) (t : TillerIx) (d m k : Nat) (w : TWait), ((s.tiller t).wait = w) :=
  ⟨wTil 3, 3, 2, 0x81, 5000, .none, by decide +kernel⟩
theorem test_meets_TillerWaits_15 : ∃ (s : State) (t : TillerIx) (d : Fin 16) (x b k : Nat) (v : Bool), (s.windowGone (tillerUnit t) = false) ∧ ((s.tiller t).wait = .bitAt d x b v k) :=
  ⟨(wTil 3).setTiller 3 { wait := .bitAt 2 0x10000004 31 false 5000 }, 3, 2, 0x10000004, 31, 5000, false, by decide +kernel⟩
theorem test_meets_TillerWaits_16 : ∃ (s : State) (t : TillerIx) (d : Fin 16) (m k x : Nat) (v : Bool), (s.windowGone (tillerUnit t) = false) :=
  ⟨(wTil 3).setTiller 3 { wait := .event 2 0x81 5000 }, 3, 2, 0x81, 5000, 0, false, by decide +kernel⟩
theorem test_meets_TillerStops_1 : ∃ (s : State) (t : TillerIx), (s.tilReady t = true) :=
  ⟨wTil 3, 3, by decide +kernel⟩
theorem test_meets_TillerStops_2 : ∃ (s : State) (t : TillerIx) (code : BitVec 8), (s.tilReady t = true) :=
  ⟨wTil 3, 3, 255, by decide +kernel⟩
theorem test_meets_TillerStops_3 : ∃ (s : State) (t : TillerIx), (s.windowGone (tillerUnit t) = false) ∧ (s.tilRuns t = true) ∧ (2 ^ 20 ≤ (s.tiller t).ran) :=
  ⟨(wTil 3).setTiller 3 { ran := 1048576 }, 3, by decide +kernel⟩
theorem test_meets_TillerStops_4 : ∃ (s : State) (t : TillerIx), (s.windowGone (tillerUnit t) = true ∨ s.tilRuns t = false ∨ (s.tiller t).ran < 2 ^ 20) :=
  ⟨wTil 3, 3, by decide +kernel⟩
theorem test_meets_TillerStops_5 : ∃ (s : State) (p : Path) (t : TillerIx), (s.windowGone (tillerUnit t) = false) ∧ ((p = .debug ∧ s.flag SEC_DBG_STS.UNLOCKED 0 = true ∧ (s.get SEC_DBG_STS.SCOPE 0).testBit 2 = true) ∨ s.mayWrite p = true) :=
  ⟨wTil 3, .librarian, 3, by decide +kernel⟩
theorem test_meets_TillerStops_6 : ∃ (s : State) (p : Path) (t : TillerIx), (s.windowGone (tillerUnit t) = true ∨ (s.mayWrite p = false ∧ (p ≠ .debug ∨ s.flag SEC_DBG_STS.UNLOCKED 0 = false ∨ (s.get SEC_DBG_STS.SCOPE 0).testBit 2 = false))) :=
  ⟨w, .debug, 3, by decide +kernel⟩
theorem test_meets_TillerStops_7 : ∃ (s : State) (p : Path) (t : TillerIx) (e : Nat) (b : Bool), (s.windowGone (tillerUnit t) = false) ∧ ((p = .debug ∧ s.flag SEC_DBG_STS.UNLOCKED 0 = true ∧ (s.get SEC_DBG_STS.SCOPE 0).testBit 2 = true) ∨ s.mayWrite p = true) ∧ (s.tilGoverns t = true) ∧ (s.tilRuns t = false) ∧ (b = (!isHosted t && ((s.tiller t).script0 || (isCore p && (s.tiller t).relapsed)))) ∧ (e = (if b then 0 else s.get TIL_CTL.ENTRY t % 2 ^ TIL_STS.PC.w)) :=
  ⟨((wImg [(1, 96, 1)]).set TIL_CTL.ENTRY 3 9).set TIL_STS.STATE 3 0, .librarian, 3, 9, false, by decide +kernel⟩
theorem test_meets_TillerStops_8 : ∃ (s : State) (p : Path) (t : TillerIx), (s.windowGone (tillerUnit t) = false) ∧ ((p = .debug ∧ s.flag SEC_DBG_STS.UNLOCKED 0 = true ∧ (s.get SEC_DBG_STS.SCOPE 0).testBit 2 = true) ∨ s.mayWrite p = true) :=
  ⟨wTil 3, .librarian, 3, by decide +kernel⟩
theorem test_meets_TillerStops_9 : ∃ (s : State) (p : Path) (t : TillerIx), (s.windowGone (tillerUnit t) = false) ∧ ((p = .debug ∧ s.flag SEC_DBG_STS.UNLOCKED 0 = true ∧ (s.get SEC_DBG_STS.SCOPE 0).testBit 2 = true) ∨ s.mayWrite p = true) ∧ (isHosted t = true) :=
  ⟨wHan 16, .librarian, 16, by decide +kernel⟩
theorem test_meets_TillerStops_10 : ∃ (s : State) (p : Path) (t : TillerIx), (s.windowGone (tillerUnit t) = false) ∧ ((p = .debug ∧ s.flag SEC_DBG_STS.UNLOCKED 0 = true ∧ (s.get SEC_DBG_STS.SCOPE 0).testBit 2 = true) ∨ s.mayWrite p = true) ∧ (isHosted t = false) :=
  ⟨w, .librarian, 3, by decide +kernel⟩
theorem test_meets_TillerStops_11 : ∃ (s : State) (t : TillerIx), (isHosted t = true) ∧ (s.tilRuns t = false) ∧ ((s.tiller t).stops ≠ []) ∧ ((s.tiller t).spent = false) ∧ (s.coreRuns (t / 48) = true) :=
  ⟨(wFw.set TIL_STS.STATE 16 3).setTiller 16 { stops := [5] }, 16, by decide +kernel⟩
theorem test_meets_TillerStops_12 : ∃ (s : State) (t : TillerIx), (isHosted t = false ∨ s.tilRuns t = true ∨ (s.tiller t).stops = [] ∨ (s.tiller t).spent = true ∨ s.coreRuns (t / 48) = false) :=
  ⟨w, 16, by decide +kernel⟩
theorem test_meets_TillerStops_13 : ∃ (s v : State) (t : TillerIx) (a : Fin 16) (code : BitVec 12) (b : Bool), (s.tilReady t = true) ∧ (s.event (tillerUnit t) code.toNat 1 4 t t (s.tReg t a).toNat 0 = (v, b)) :=
  ⟨wTil 3, ((wTil 3).event 0 0x801 1 4 3 3 0 0).1, 3, 2, 0x801, false, by decide +kernel⟩
theorem test_meets_TillerStops_14 : ∃ (s : State) (t : TillerIx) (a b : Fin 16) (q : OpenReq), (s.tilReady t = true) :=
  ⟨((wHan 16).setTReg 16 2 7).openFor7, 16, 2, 4, ⟨7, .mailbox 3, 3, 16, 5, []⟩, by decide +kernel⟩
theorem test_meets_TillerStops_15 : ∃ (s : State) (t : TillerIx), (s.tilReady t = true) :=
  ⟨wTil 3, 3, by decide +kernel⟩
theorem test_meets_TillerStops_16 : ∃ (s : State) (p : Path) (a : BitVec 32) (d : BitVec 64) (i : Nat), (s.writeReaches p a (.reg .TIL_CTL i)) :=
  ⟨w, .librarian 0, 28311552, 2 ^ 11, 0, by decide +kernel⟩
theorem test_meets_HandlerServices_2 : ∃ (s : State) (t : TillerIx), (s.serves t 0) :=
  ⟨(wSvc 16 ([(0x228 / 4, 0), (0x22C / 4, 1)] ++ [(0x224 / 4, 5)])).putSrec 5 0x1122334455667788, 16, by decide +kernel⟩
theorem test_meets_HandlerServices_3 : ∃ (s : State) (t : TillerIx) (x b : Nat) (v : BitVec 128), (s.serves t 1) ∧ (x = s.svcArg t % 2 ^ 20) ∧ (v = BitVec.ofNat 128 (s.svcData t 4)) :=
  ⟨(wSvc 16 ([(0x228 / 4, 1), (0x22C / 4, 1)] ++ [(0x224 / 4, 5), (0x200 / 4, 0x12)])).putSrec 5 0x11, 16, 5, 2, 0x12, by decide +kernel⟩
theorem test_meets_HandlerServices_4 : ∃ (s : State) (t : TillerIx) (g b : Nat) (v : BitVec 256), (s.serves t 2) ∧ (g = s.svcArg t % 2 ^ 12) ∧ (v = BitVec.ofNat 256 (s.svcData t 8)) :=
  ⟨(wSvc 16 ([(0x228 / 4, 2), (0x22C / 4, 1)] ++ [(0x224 / 4, 4095), (0x21C / 4, 8)])).putGroup 4095 (2 ^ 227), 16, 4095, 0, 2 ^ 227, by decide +kernel⟩
theorem test_meets_HandlerServices_5 : ∃ (s v : State) (t : TillerIx) (a : Nat), (s.serves t 3) ∧ (a = s.svcArg t) ∧ (v = barStart s (a % 4) (a / 2 ^ 21 % 2) (a / 2 ^ 20 % 2 == 1) (a % 2 ^ 20)) :=
  ⟨(wSvc 16 ([(0x228 / 4, 3), (0x22C / 4, 1)] ++ [(0x224 / 4, 5)])), barStart ((wSvc 16 ([(0x228 / 4, 3), (0x22C / 4, 1)] ++ [(0x224 / 4, 5)]))) 1 0 false 5, 16, 5, by decide +kernel⟩
theorem test_meets_HandlerServices_6 : ∃ (s v : State) (t : TillerIx) (h tag x n b : Nat), (s.serves t 4) ∧ (h = s.ctxWord t 0x200 % 64) ∧ (tag = s.ctxWord t 0x204) ∧ (x = (s.ctxWord t 0x208 + s.ctxWord t 0x20C * 2 ^ 32) / 2 ^ 28) ∧ (n = s.ctxWord t 0x210) ∧ (v = { s with bnd := { s.bnd with tag := (List.range n).foldl (fun m i => Tab.put 0 m (x + i) tag) s.bnd.tag } }) :=
  ⟨wPost, wPost2, 16, 3, 9, 5, 2, 0, by decide +kernel⟩
theorem test_meets_HandlerServices_7 : ∃ (s : State) (t : TillerIx) (x n : Nat), (s.serves t 5) ∧ (x = s.svcArg t % 2 ^ 20) ∧ (s.ctxWord t 0x200 = 2) ∧ (s.svcSlot x 2 = some n) ∧ ((Tab.get ({} : RshSlot) s.bnd.rsh n).active = true) ∧ (s.get BND_RSH_STS.PHASE n = 1) ∧ (s.get BND_RSH_STS.MARKED n ≤ s.get BND_RSH_CTL.THRESH n) ∧ (s.olderRemain (Tab.get ({} : RshSlot) s.bnd.rsh n).shelf = false) :=
  ⟨(wSvc 16 ([(0x228 / 4, 5), (0x22C / 4, 1)] ++ [(0x224 / 4, 5), (0x200 / 4, 2)])).reshelving5, 16, 5, 17, by decide +kernel⟩
theorem test_meets_HandlerServices_8 : ∃ (s u : State) (t : TillerIx) (x n h : Nat), (s.serves t 5) ∧ (x = s.svcArg t % 2 ^ 20) ∧ (s.ctxWord t 0x200 = 1) ∧ (s.svcSlot x 1 = some n) ∧ (u = rshStart ((((List.range 4).foldl (fun s k => s.setWord .BND_SREC_D (4 * (x % 4) + k) (BitVec.ofNat 32 (s.ctxWord t (0x200 + 4 * k)))) s).set BND_RSH_CTL.SHELF n x).set BND_RSH_CTL.OP n 1) (x % 4) n x) :=
  ⟨wRshSvc, rshStart ((((List.range 4).foldl (fun s k => s.setWord .BND_SREC_D (4 + k) (BitVec.ofNat 32 (wRshSvc.ctxWord 16 (0x200 + 4 * k)))) wRshSvc).set BND_RSH_CTL.SHELF 16 5).set BND_RSH_CTL.OP 16 1) 1 16 5, 16, 5, 16, 3, by decide +kernel⟩
theorem test_meets_HandlerServices_9 : ∃ (s : State) (t : TillerIx) (x n op : Nat), (s.serves t 5) ∧ (x = s.svcArg t % 2 ^ 20) ∧ (op = s.ctxWord t 0x200) ∧ (s.svcSlot x op = some n) :=
  ⟨(wSvc 16 ([(0x228 / 4, 5), (0x22C / 4, 1)] ++ [(0x224 / 4, 5)])).reshelving5, 16, 5, 17, 0, by decide +kernel⟩
theorem test_meets_HandlerServices_10 : ∃ (s : State) (t : TillerIx) (op : Nat), (s.serves t 5) ∧ (op = s.ctxWord t 0x200) ∧ (s.svcSlot (s.svcArg t % 2 ^ 20) op = none) :=
  ⟨(wSvc 16 ([(0x228 / 4, 5), (0x22C / 4, 1)] ++ [(0x224 / 4, 5), (0x200 / 4, 2)])), 16, 2, by decide +kernel⟩
theorem test_meets_HandlerServices_11 : ∃ (s : State) (t : TillerIx) (r n : Nat) (v : BitVec 128), (s.serves t 6) ∧ (v = BitVec.ofNat 128 (s.svcData t 4)) ∧ (r = ruleBase v / 2 ^ 16 % 4) ∧ (n = s.svcArg t % 2 ^ 12) :=
  ⟨(wSvc 16 ([(0x228 / 4, 6), (0x22C / 4, 1)] ++ [(0x224 / 4, 4095), (0x200 / 4, 13)])), 16, 0, 4095, 13, by decide +kernel⟩
theorem test_meets_HandlerServices_12 : ∃ (s : State) (t : TillerIx), (s.serves t 7) :=
  ⟨(wSvc 16 ([(0x228 / 4, 7), (0x22C / 4, 1)] ++ [(0x224 / 4, 60000)])), 16, by decide +kernel⟩
theorem test_meets_CoresAndTimers_1 : ∃ (s : State) (r : Nat), (s.leadRuns = false) ∧ ((List.range 4).find? s.coreRuns = some r) :=
  ⟨(w.set LIB_CORE_STS.STATE 2 1).set LIB_CORE_STS.LEAD 0 0, 2, by decide +kernel⟩
theorem test_meets_CoresAndTimers_3 : ∃ (s : State) (p : Path) (r : Region), (s.admits p (libSet r)) :=
  ⟨w, .librarian, 3, by decide +kernel⟩
theorem test_meets_CoresAndTimers_5 : ∃ (s : State) (r : Region) (t : TillerIx) (u : Nat), (Tab.get 0 s.lib.running r = t.val + 1) ∧ (isHosted t = true) ∧ (t.val / 48 = r.val) ∧ (((List.range 32).map (fun i => 48 * r.val + 16 + (t.val % 48 - 16 + 1 + i) % 32)).find? s.handlerReady = some u) :=
  ⟨(wHan 16).set TIL_STS.STATE 17 1, 0, 16, 17, by decide +kernel⟩
theorem test_meets_CoresAndTimers_6 : ∃ (s : State) (r : Region) (m : EccRead), (Tab.get 0 s.lib.running r = 0) :=
  ⟨wFw, 0, .corrected, by decide +kernel⟩
theorem test_meets_CoresAndTimers_7 : ∃ (s : State) (t : TillerIx) (p m : Nat), (p = s.timerPeriod t) ∧ (m = s.timeOf (t / 48) / (p * 1000000)) :=
  ⟨{ (wHan 16).setTiller 16 { period := some 2 } with time := [(0, 5000001)] }, 16, 2, 2, by decide +kernel⟩
theorem test_meets_CoresAndTimers_8 : ∃ (s : State) (t : TillerIx) (m a : Nat), (isHosted t = true) ∧ (s.timerPeriod t ≠ 0) ∧ (m = s.timeOf (t / 48) / (s.timerPeriod t * 1000000)) ∧ ((s.tiller t).due < m) ∧ (s.coreRuns (t / 48) = true) ∧ ((s.tiller t).events = [(6, [0, a])]) :=
  ⟨{ (wHan 16).setTiller 16 { period := some 2, events := [(6, [0, 9])] } with time := [(0, 5000001)] }, 16, 2, 9, by decide +kernel⟩
theorem test_meets_CoresAndTimers_9 : ∃ (s : State) (n : Nat) (q : OpenReq), (s.lib.opens.find? (fun q => q.handle == n) = some q) :=
  ⟨w.openFor7, 7, ⟨7, .mailbox 3, 3, 16, 5, []⟩, by decide +kernel⟩
theorem test_meets_CoresAndTimers_10 : ∃ (s : State) (n : Nat), (s.lib.opens.find? (fun q => q.handle == n) = none) :=
  ⟨w, 7, by decide +kernel⟩
theorem test_meets_CoresAndTimers_11 : ∃ (s : State) (r : Region), (s.coreRuns r = true) ∧ (Tab.get none s.lib.dog r = none) ∧ ((List.range 32).all (fun j => !s.tilRuns (48 * r.val + 16 + j)) = true) :=
  ⟨wFw, 0, by decide +kernel⟩
theorem test_meets_CoresAndTimers_13 : ∃ (s : State) (p : Path) (a : BitVec 32) (d : BitVec 64) (i : Nat), (s.writeReaches p a (.reg .LIB_MPU_BAR i)) :=
  ⟨w, .librarian 0, 27262984, 1, 0, by decide +kernel⟩
theorem test_meets_CoresAndTimers_14 : ∃ (s : State) (p : Path) (a : BitVec 32) (d : BitVec 64) (i : Nat), (s.writeReaches p a (.reg .LIB_MPU_BASE i)) :=
  ⟨w, .librarian 0, 27263232, 7, 0, by decide +kernel⟩
theorem test_meets_CoresAndTimers_15 : ∃ (s : State) (p : Path) (a : BitVec 32) (d : BitVec 64) (i : Nat), (s.writeReaches p a (.reg .LIB_MPU_LIMIT i)) :=
  ⟨w, .librarian 0, 27263236, 7, 0, by decide +kernel⟩
theorem test_meets_CoresAndTimers_16 : ∃ (s : State) (p : Path) (r : Region), (s.mayWrite p = false) :=
  ⟨wFw, .i3c, 1, by decide +kernel⟩
theorem test_meets_MailboxCommands_1 : ∃ (s : State) (ep : Fin 65) (port : Port) (pasid : BitVec 20) (tp : BitVec 8) (m a src v : BitVec 64) (it : Fin 4) (i : BitVec 16) (hs : Bool) (base : Qid) (slot : Fin 64) (c : BitVec 512) (r : RecordFrom), (s.flag SEC_BOOT_STS.READY 0 = false ∨ (ep.val < 64 ∧ s.isUp ep = false)) :=
  ⟨w, 3, 0, 7, 0, 0, 0, 9, 0, 2, 3, false, 5, 63, 1, .hbm, by decide +kernel⟩
theorem test_meets_MailboxCommands_2 : ∃ (s : State) (ep : Fin 65) (port : Port) (pasid : BitVec 20) (tp : BitVec 8) (m a src v : BitVec 64) (it : Fin 4) (i : BitVec 16) (hs : Bool) (base : Qid) (slot : Fin 64) (c : BitVec 512) (r : RecordFrom), (s.mbxComes ep) ∧ (s.mbxRings ep = true) :=
  ⟨wMbx.setMbxCtl 3 1, 3, 0, 7, 0, 0, 0, 9, 0, 2, 3, false, 5, 63, 1, .hbm, by decide +kernel⟩
theorem test_meets_MailboxCommands_3 : ∃ (s : State) (ep : Fin 65) (port : Port) (pasid : BitVec 20) (tp : BitVec 8) (m a src v : BitVec 64) (it : Fin 4) (i : BitVec 16) (hs : Bool) (base : Qid) (slot : Fin 64) (c : BitVec 512) (r : RecordFrom), (s.mbxComes ep) ∧ (s.mbxRings ep = false) ∧ (s.leadRuns = false) :=
  ⟨wMbx.set LIB_CORE_STS.STATE 0 0, 3, 0, 7, 0, 0, 0, 9, 0, 2, 3, false, 5, 63, 1, .hbm, by decide +kernel⟩
theorem test_meets_MailboxCommands_4 : ∃ (s : State) (ep : Fin 65) (port : Port) (pasid : BitVec 20) (tp : BitVec 8) (m a src v : BitVec 64) (it : Fin 4) (i : BitVec 16) (hs : Bool) (base : Qid) (slot : Fin 64) (c : BitVec 512) (r : RecordFrom), (s.mbxComes ep) ∧ (s.mbxRings ep = false) ∧ (s.leadRuns = true) ∧ (s.isUp (if ep.val < 64 then ep.val else port.val) = false) :=
  ⟨wMbx, 64, 0, 7, 0, 0, 0, 9, 0, 2, 3, false, 5, 63, 1, .hbm, by decide +kernel⟩
theorem test_meets_MailboxCommands_5 : ∃ (s : State) (ep : Fin 65) (port : Port) (pasid : BitVec 20) (h : Nat) (tp : BitVec 8) (m a src v : BitVec 64) (it : Fin 4) (i : BitVec 16) (hs : Bool) (base : Qid) (slot : Fin 64) (c : BitVec 512) (r : RecordFrom), ((h = if ep.val < 64 then ep.val else port.val)) ∧ (s.mbxComes ep) ∧ (s.isUp h = true) ∧ (s.mbxRings ep = false) ∧ (s.leadRuns = true) ∧ (s.carrelOf h pasid.toNat = none) :=
  ⟨wMbx, 3, 0, 8, 3, 0, 0, 0, 9, 0, 2, 3, false, 5, 63, 1, .hbm, by decide +kernel⟩
theorem test_meets_MailboxCommands_6 : ∃ (s : State) (ep : Fin 65) (port : Port) (pasid : BitVec 20) (h k : Nat) (tp : BitVec 8) (m a src v : BitVec 64) (it : Fin 4) (i : BitVec 16) (hs : Bool) (base : Qid) (slot : Fin 64) (c : BitVec 512) (r : RecordFrom), ((h = if ep.val < 64 then ep.val else port.val)) ∧ (s.mbxComes ep) ∧ (s.isUp h = true) ∧ (s.mbxRings ep = false) ∧ (s.leadRuns = true) ∧ (s.flag CRL_CMD.BUSY 0 = true) ∧ (s.carrelOf h pasid.toNat = some k) :=
  ⟨wMbx.set CRL_CMD.BUSY 0 1, 3, 0, 7, 3, 4, 0, 0, 0, 9, 0, 2, 3, false, 5, 63, 1, .hbm, by decide +kernel⟩
theorem test_meets_MailboxCommands_7 : ∃ (s x : State) (ep : Fin 65) (port : Port) (pasid : BitVec 20) (h : Nat) (tp : BitVec 8) (m : BitVec 64), ((h = if ep.val < 64 then ep.val else port.val)) ∧ (s.mbxComes ep) ∧ (s.isUp h = true) ∧ (s.mbxRings ep = false) ∧ (s.leadRuns = true) ∧ (x = s.mbxGiven ep 0xC000 (mbxWho ep port pasid ++ (leBytes 4 tp.toNat ++ leBytes 8 m.toNat))) ∧ (x.flag CRL_CMD.BUSY 0 = false) :=
  ⟨wMbx, (wMbx).mbxGiven 3 0xC000 (mbxWho 3 0 7 ++ (leBytes 4 0 ++ leBytes 8 0)), 3, 0, 7, 3, 0, 0, by decide +kernel⟩
theorem test_meets_MailboxCommands_8 : ∃ (s x : State) (ep : Fin 65) (port : Port) (pasid : BitVec 20) (h : Nat) (it : Fin 4) (v : BitVec 64) (i : BitVec 16) (k : Nat), ((h = if ep.val < 64 then ep.val else port.val)) ∧ (s.mbxComes ep) ∧ (s.isUp h = true) ∧ (s.mbxRings ep = false) ∧ (s.leadRuns = true) ∧ (x = s.mbxGiven ep 0xC001 (mbxWho ep port pasid ++ (leBytes 4 it ++ leBytes 8 v.toNat ++ leBytes 2 i.toNat))) ∧ (x.carrelOf h pasid.toNat = some k) :=
  ⟨wMbx, (wMbx).mbxGiven 3 0xC001 (mbxWho 3 0 7 ++ (leBytes 4 2 ++ leBytes 8 0 ++ leBytes 2 3)), 3, 0, 7, 3, 2, 0, 3, 4, by decide +kernel⟩
theorem test_meets_MailboxCommands_9 : ∃ (s x : State) (ep : Fin 65) (port : Port) (pasid : BitVec 20) (h : Nat) (k : Nat) (y : State), ((h = if ep.val < 64 then ep.val else port.val)) ∧ (s.mbxComes ep) ∧ (s.isUp h = true) ∧ (s.mbxRings ep = false) ∧ (s.leadRuns = true) ∧ (x = s.mbxGiven ep 0xC002 (mbxWho ep port pasid ++ [])) ∧ (x.flag CRL_CMD.BUSY 0 = false) ∧ (x.carrelOf h pasid.toNat = some k) ∧ (y = crlFreeze .librarian (BitVec.ofNat 12 k) x) :=
  ⟨(wMbx.set CRL_CFG.STATE 4 1), ((wMbx.set CRL_CFG.STATE 4 1)).mbxGiven 3 0xC002 (mbxWho 3 0 7 ++ []), 3, 0, 7, 3, 4, crlFreeze .librarian 4 ((wMbx.set CRL_CFG.STATE 4 1).mbxGiven 3 0xC002 (mbxWho 3 0 7 ++ [])), by decide +kernel⟩
set_option maxRecDepth 1000000 in
theorem test_meets_MailboxCommands_10 : ∃ (s x : State) (ep : Fin 65) (port : Port) (pasid : BitVec 20) (h : Nat) (k : Nat) (hs : Bool) (a : BitVec 64) (y : State), ((h = if ep.val < 64 then ep.val else port.val)) ∧ (s.mbxComes ep) ∧ (s.isUp h = true) ∧ (s.mbxRings ep = false) ∧ (s.leadRuns = true) ∧ (x = s.mbxGiven ep 0xC003 (mbxWho ep port pasid ++ (leBytes 4 (if hs then 1 else 0) ++ leBytes 8 a.toNat))) ∧ (x.carrelOf h pasid.toNat = some k) ∧ (y = crlSave .librarian (BitVec.ofNat 12 k) hs ((((x.set CRL_ARG0.PORT 0 h).set CRL_ARG0.PASID 0 pasid.toNat).setWord .CRL_ADDR_LO 0 (BitVec.ofNat 32 a.toNat)).setWord .CRL_ADDR_HI 0 (BitVec.ofNat 32 (a.toNat / 2 ^ 32)))) :=
  ⟨wMbx, (wMbx).mbxGiven 3 0xC003 (mbxWho 3 0 7 ++ (leBytes 4 0 ++ leBytes 8 0)), 3, 0, 7, 3, 4, false, 0, crlSave .librarian 4 false (((((wMbx.mbxGiven 3 0xC003 (mbxWho 3 0 7 ++ (leBytes 4 0 ++ leBytes 8 0))).set CRL_ARG0.PORT 0 3).set CRL_ARG0.PASID 0 7).setWord .CRL_ADDR_LO 0 0).setWord .CRL_ADDR_HI 0 0), by first | decide +kernel | exact Prod.ext (by decide +kernel) rfl | exact fun _ => nofun, by first | decide +kernel | exact Prod.ext (by decide +kernel) rfl | exact fun _ => nofun, by first | decide +kernel | exact Prod.ext (by decide +kernel) rfl | exact fun _ => nofun, by first | decide +kernel | exact Prod.ext (by decide +kernel) rfl | exact fun _ => nofun, by first | decide +kernel | exact Prod.ext (by decide +kernel) rfl | exact fun _ => nofun, rfl, by first | decide +kernel | exact Prod.ext (by decide +kernel) rfl | exact fun _ => nofun, rfl⟩
theorem test_meets_MailboxCommands_11 : ∃ (s x : State) (ep : Fin 65) (port : Port) (pasid : BitVec 20) (h : Nat) (src : BitVec 64) (base : Qid), ((h = if ep.val < 64 then ep.val else port.val)) ∧ (s.mbxComes ep) ∧ (s.isUp h = true) ∧ (s.mbxRings ep = false) ∧ (s.leadRuns = true) ∧ (x = s.mbxGiven ep 0xC004 (mbxWho ep port pasid ++ (leBytes 4 0 ++ leBytes 8 src.toNat ++ leBytes 4 base.toNat))) ∧ (x.flag CRL_CMD.BUSY 0 = false) :=
  ⟨wMbx, (wMbx).mbxGiven 3 0xC004 (mbxWho 3 0 7 ++ (leBytes 4 0 ++ leBytes 8 9 ++ leBytes 4 5)), 3, 0, 7, 3, 9, 5, by decide +kernel⟩
theorem test_meets_MailboxCommands_12 : ∃ (s x : State) (ep : Fin 65) (port : Port) (pasid : BitVec 20) (h : Nat) (b : List Byte) (src : BitVec 64) (base : Qid) (y : State), ((h = if ep.val < 64 then ep.val else port.val)) ∧ (s.mbxComes ep) ∧ (s.isUp h = true) ∧ (s.mbxRings ep = false) ∧ (s.leadRuns = true) ∧ (x = s.mbxGiven ep 0xC004 (mbxWho ep port pasid ++ (leBytes 4 1 ++ leBytes 8 src.toNat ++ leBytes 4 base.toNat))) ∧ (x.flag CRL_CMD.BUSY 0 = false) ∧ (s.mbxReads ep = false) ∧ (y = { x.emit (.hostRead h pasid.toNat src.toNat 17104) with lib := { x.lib with mbxRun := x.lib.mbxRun ++ [(ep.val, 0xC004, 0)] } }) :=
  ⟨wMbx, (wMbx).mbxGiven 3 0xC004 (mbxWho 3 0 7 ++ (leBytes 4 1 ++ leBytes 8 9 ++ leBytes 4 5)), 3, 0, 7, 3, [1], 9, 5, { (wMbx.mbxGiven 3 0xC004 (mbxWho 3 0 7 ++ (leBytes 4 1 ++ leBytes 8 9 ++ leBytes 4 5))).emit (.hostRead 3 7 9 17104) with lib := { (wMbx.mbxGiven 3 0xC004 (mbxWho 3 0 7 ++ (leBytes 4 1 ++ leBytes 8 9 ++ leBytes 4 5))).lib with mbxRun := [(3, 0xC004, 0)] } }, by decide +kernel⟩
theorem test_meets_MailboxCommands_13 : ∃ (s x : State) (ep : Fin 65) (port : Port) (pasid : BitVec 20) (h : Nat) (b : List Byte) (src : BitVec 64) (base : Qid) (u : Nat) (y : State), ((h = if ep.val < 64 then ep.val else s.mbxGet ep 3 1 % 64)) ∧ ((u = if ep.val < 64 then s.mbxGet ep 0 4 else s.mbxGet ep 0 3 % 2 ^ 20)) ∧ (s.mbxReads ep = true) ∧ (bits (s.mbxCmd ep) 0 16 = 0xC004) ∧ (s.leadRuns = true) ∧ (s.isUp h = true) ∧ (u < 2 ^ 20) ∧ (s.flag CRL_CMD.BUSY 0 = false) ∧ (x = { s with lib := { s.lib with mbxRun := s.lib.mbxRun.filter (fun e => e.1 != ep.val) } }) ∧ (y = x.setMbxCtl ep (putBits (x.mbxCtl ep) 0 1 1)) :=
  ⟨wMbxReads, wMbxGone, 3, 0, 7, 3, [1], 9, 5, 7, wMbxGone, by decide +kernel⟩
theorem test_meets_MailboxCommands_14 : ∃ (s x : State) (ep : Fin 65) (port : Port) (pasid : BitVec 20) (h : Nat) (k : Nat) (y : State), ((h = if ep.val < 64 then ep.val else port.val)) ∧ (s.mbxComes ep) ∧ (s.isUp h = true) ∧ (s.mbxRings ep = false) ∧ (s.leadRuns = true) ∧ (x = s.mbxGiven ep 0xC005 (mbxWho ep port pasid ++ [])) ∧ (x.flag CRL_CMD.BUSY 0 = false) ∧ (x.carrelOf h pasid.toNat = some k) ∧ (y = crlThaw .librarian (BitVec.ofNat 12 k) x) :=
  ⟨wMbx, (wMbx).mbxGiven 3 0xC005 (mbxWho 3 0 7 ++ []), 3, 0, 7, 3, 4, crlThaw .librarian 4 (wMbx.mbxGiven 3 0xC005 (mbxWho 3 0 7 ++ [])), by decide +kernel⟩
set_option maxRecDepth 1000000 in
theorem test_meets_MailboxCommands_15 : ∃ (s x : State) (ep : Fin 65) (port : Port) (pasid : BitVec 20) (h : Nat) (k : Nat) (y : State), ((h = if ep.val < 64 then ep.val else port.val)) ∧ (s.mbxComes ep) ∧ (s.isUp h = true) ∧ (s.mbxRings ep = false) ∧ (s.leadRuns = true) ∧ (x = s.mbxGiven ep 0xC006 (mbxWho ep port pasid ++ [])) ∧ (x.flag CRL_CMD.BUSY 0 = false) ∧ (x.carrelOf h pasid.toNat = some k) ∧ (y = crlDestroy .librarian (BitVec.ofNat 12 k) x) :=
  ⟨wMbx, (wMbx).mbxGiven 3 0xC006 (mbxWho 3 0 7 ++ []), 3, 0, 7, 3, 4, crlDestroy .librarian 4 (wMbx.mbxGiven 3 0xC006 (mbxWho 3 0 7 ++ [])), by first | decide +kernel | exact Prod.ext (by decide +kernel) rfl | exact fun _ => nofun, by first | decide +kernel | exact Prod.ext (by decide +kernel) rfl | exact fun _ => nofun, by first | decide +kernel | exact Prod.ext (by decide +kernel) rfl | exact fun _ => nofun, by first | decide +kernel | exact Prod.ext (by decide +kernel) rfl | exact fun _ => nofun, by first | decide +kernel | exact Prod.ext (by decide +kernel) rfl | exact fun _ => nofun, rfl, by first | decide +kernel | exact Prod.ext (by decide +kernel) rfl | exact fun _ => nofun, by first | decide +kernel | exact Prod.ext (by decide +kernel) rfl | exact fun _ => nofun, rfl⟩
theorem test_meets_MailboxCommands_16 : ∃ (s x : State) (ep : Fin 65) (port : Port) (pasid : BitVec 20) (h : Nat) (slot : Fin 64) (c : BitVec 512) (k : Nat), ((h = if ep.val < 64 then ep.val else port.val)) ∧ (s.mbxComes ep) ∧ (s.isUp h = true) ∧ (s.mbxRings ep = false) ∧ (s.leadRuns = true) ∧ (x = s.mbxGiven ep 0xC008 (mbxWho ep port pasid ++ (leBytes 4 slot ++ leBytes 64 c.toNat))) ∧ (x.carrelOf h pasid.toNat = some k) :=
  ⟨wMbx, (wMbx).mbxGiven 3 0xC008 (mbxWho 3 0 7 ++ (leBytes 4 63 ++ leBytes 64 1)), 3, 0, 7, 3, 63, 1, 4, by decide +kernel⟩
theorem test_meets_MailboxCommands_17 : ∃ (s x : State) (ep : Fin 65) (port : Port) (pasid : BitVec 20) (h : Nat) (slot : Fin 64) (k : Nat), ((h = if ep.val < 64 then ep.val else port.val)) ∧ (s.mbxComes ep) ∧ (s.isUp h = true) ∧ (s.mbxRings ep = false) ∧ (s.leadRuns = true) ∧ (x = s.mbxGiven ep 0xC009 (mbxWho ep port pasid ++ (leBytes 2 slot))) ∧ (x.carrelOf h pasid.toNat = some k) :=
  ⟨wMbx, (wMbx).mbxGiven 3 0xC009 (mbxWho 3 0 7 ++ (leBytes 2 63)), 3, 0, 7, 3, 63, 4, by decide +kernel⟩
theorem test_meets_MailboxCommands_18 : ∃ (s x : State) (ep : Fin 65) (port : Port) (h : Nat) (n : Word) (mode : Fin 4) (g : Fin 8) (grp : BitVec 12), ((h = if ep.val < 64 then ep.val else port.val)) ∧ (x = s.mbxGiven ep 0xC010 ((if ep.val < 64 then leBytes 4 n.toNat else leBytes 3 n.toNat ++ leBytes 1 port) ++ leBytes 1 mode ++ leBytes 3 g ++ leBytes 2 grp.toNat)) :=
  ⟨wMbx, wMbx.mbxGiven 3 0xC010 (leBytes 4 2 ++ leBytes 1 1 ++ leBytes 3 7 ++ leBytes 2 4095), 3, 0, 3, 2, 1, 7, 4095, by decide +kernel⟩
theorem test_meets_MailboxCommands_19 : ∃ (s : State) (ep : Fin 65) (e : Nat × Nat × Nat), (s.lib.mbxRun.find? (fun e => e.1 == ep.val) = some e) ∧ ((s.mbxLink ep).all s.inL0 = true) ∧ (bit (s.mbxCtl ep) 1 = false) :=
  ⟨{ wUp 3 with lib := { w.lib with mbxRun := [(3, 0xC002, 4)] } }, 3, (3, 0xC002, 4), by decide +kernel⟩
theorem test_meets_MailboxCommands_21 : ∃ (s : State) (p : Path) (a : BitVec 32) (d : BitVec 64) (i : Nat), (s.writeReaches p a (.reg .LIB_MBX_CTL i)) :=
  ⟨w, .librarian 0, 655360, 1, 0, by decide +kernel⟩
theorem test_meets_MailboxCommands_22 : ∃ (s : State) (p : Path) (a : BitVec 32) (d : BitVec 64) (i : Nat), (s.writeReaches p a (.reg .LIB_MBX_CMD i)) :=
  ⟨w, .librarian 0, 655364, 1, 0, by decide +kernel⟩
theorem test_meets_FabricManagerApi_1 : ∃ (s : State) (via : FmVia) (ps : List Port) (p h : Port) (ld : Fin 16) (op rg b n : Nat) (wr : Bool) (v tag : Word) (bs : List Byte) (m : Fin 4) (g : Fin 8) (grp : BitVec 12) (x : Shelf), (s.leadRuns = false ∨ (via = .vdm ∧ (s.flag SEC_BOOT_STS.READY 0 = false ∨ (s.managerPort.map s.inL0) ≠ some true))) :=
  ⟨w, .i3c, [3], 9, 3, 2, 3, 5, 1, 2, true, 7, 9, [1], 0, 7, 0, 5, by decide +kernel⟩
theorem test_meets_FabricManagerApi_2 : ∃ (s : State) (via : FmVia) (ps : List Port) (p h : Port) (ld : Fin 16) (op rg b n : Nat) (wr : Bool) (v tag : Word) (bs : List Byte) (m : Fin 4) (g : Fin 8) (grp : BitVec 12) (x : Shelf), (s.leadRuns = true) ∧ (via = .i3c ∨ ((s.managerPort.map s.inL0) = some true ∧ s.flag SEC_BOOT_STS.READY 0 = true)) ∧ (s.fmBusy = true) :=
  ⟨{ wFw with lib := { wFw.lib with opens := [⟨7, .fm 66 14, 3, 16, 5, []⟩] } }, .i3c, [3], 9, 3, 2, 3, 5, 1, 2, true, 7, 9, [1], 0, 7, 0, 5, by decide +kernel⟩
theorem test_meets_FabricManagerApi_3 : ∃ (s : State) (via : FmVia), (s.fmHears via) :=
  ⟨wFw, .i3c, by decide +kernel⟩
theorem test_meets_FabricManagerApi_4 : ∃ (s : State) (via : FmVia) (ps : List Port), (s.fmHears via) :=
  ⟨wFw, .i3c, [3, 5], by decide +kernel⟩
theorem test_meets_FabricManagerApi_5 : ∃ (s : State) (via : FmVia) (p : Port) (ld : Fin 16) (wr : Bool) (rg : Nat) (v : Word) (bs : List Byte), (s.fmHears via) :=
  ⟨wFm, .i3c, 9, 1, true, 5, 7, [1, 2], by decide +kernel⟩
theorem test_meets_FabricManagerApi_6 : ∃ (s : State) (via : FmVia) (p : Port) (op rg : Nat) (v : Word), (s.fmHears via) :=
  ⟨wFm, .i3c, 9, 1, 5, 7, by decide +kernel⟩
theorem test_meets_FabricManagerApi_7 : ∃ (s : State) (via : FmVia) (v p : Port) (b : Nat) (ld : Fin 16), (s.fmHears via) :=
  ⟨wFm, .i3c, 3, 9, 2, 1, by decide +kernel⟩
theorem test_meets_FabricManagerApi_8 : ∃ (s : State) (via : FmVia) (h : Port), (s.fmHears via) :=
  ⟨wFw, .i3c, 3, by decide +kernel⟩
theorem test_meets_FabricManagerApi_9 : ∃ (s : State) (via : FmVia) (h : Port) (n : Nat) (m : Fin 4) (g : Fin 8) (grp : BitVec 12) (tag : Word) (t : Nat), (s.fmHears via) ∧ (s.isUp h = true) ∧ (m.val < 3) ∧ (0 < n) ∧ (s.policyTakes h 1 = true) ∧ (s.bindBreaks h n m.val grp.toNat = none) ∧ (s.handlerOf s.lead 0 = some t) ∧ ((s.tiller t).spent = false) ∧ (s.windowGone (tillerUnit t) = false) ∧ ((s.tiller t).events = []) :=
  ⟨wFw, .i3c, 3, 2, 0, 7, 0, 4, 16, by decide +kernel⟩
theorem test_meets_FabricManagerApi_10 : ∃ (s : State) (via : FmVia) (h : Port) (n : Nat) (m : Fin 4) (g : Fin 8) (grp : BitVec 12) (tag : Word) (x : State × Nat), (s.fmHears via) ∧ (x = s.bindRequest (.fm (fmEndpoint via) 14) 0 h n m g grp.toNat tag.toNat) :=
  ⟨wFw, .i3c, 3, 2, 0, 7, 0, 4, wFw.bindRequest (.fm 66 14) 0 3 2 0 7 0 4, by decide +kernel⟩
theorem test_meets_FabricManagerApi_11 : ∃ (s : State) (via : FmVia) (h : Port) (x : Shelf) (t : Nat), (s.fmHears via) ∧ (s.isUp h = true) ∧ (s.boundTo h.val x.toNat = true) ∧ (s.policyTakes h 1 = true) ∧ (s.handlerOf s.lead 1 = some t) ∧ ((s.tiller t).spent = false) ∧ (s.windowGone (tillerUnit t) = false) ∧ ((s.tiller t).events = []) :=
  ⟨wFw.putSrec 5 0x3011, .i3c, 3, 5, 16, by decide +kernel⟩
theorem test_meets_FabricManagerApi_12 : ∃ (s : State) (via : FmVia) (h : Port) (x : Shelf) (n : Nat) (y : State × Nat), (s.fmHears via) ∧ (y = s.releaseRequest (.fm (fmEndpoint via) 15) 0 h x.toNat n) :=
  ⟨wFw, .i3c, 3, 5, 1, wFw.releaseRequest (.fm 66 15) 0 3 5 1, by decide +kernel⟩
theorem test_meets_I3cTarget_1 : ∃ (s : State) (a : BitVec 32) (v : Word), (s.i3cHears = true) ∧ (s.isScrapped = false) ∧ (i3cAddress a.toNat = true) ∧ (s.mayRead .i3c (keeperHeld a.toNat) = true) :=
  ⟨{ wI3c with i3c := { w.i3c with dynAddr := some 9 } }, 0x140004, 7, by decide +kernel⟩
theorem test_meets_I3cTarget_2 : ∃ (s u : State) (a : BitVec 32) (v : Word), (s.i3cHears = true) ∧ (u = (s.countChip 0x48 0xFF 1)) :=
  ⟨{ wI3c with i3c := { w.i3c with dynAddr := some 9 } }, ({ wI3c with i3c := { w.i3c with dynAddr := some 9 } } : State).countChip 0x48 0xFF 1, 0x140004, 7, by decide +kernel⟩
theorem test_meets_I3cTarget_3 : ∃ (s : State) (a : BitVec 32) (v : Word), (s.i3cHears = false) :=
  ⟨w, 0x140004, 7, by decide +kernel⟩
theorem test_meets_I3cTarget_4 : ∃ (s : State) (d : Word) (st : Nat), (s.i3cHears = true) ∧ (s.i3c.reply = some (d, st)) :=
  ⟨{ wI3c with i3c := { w.i3c with dynAddr := some 9, reply := some (7, 3) } }, 7, 3, by decide +kernel⟩
theorem test_meets_I3cTarget_5 : ∃ (s : State), (s.i3cHears = true) ∧ (s.i3c.reply = none) :=
  ⟨{ wI3c with i3c := { w.i3c with dynAddr := some 9 } }, by decide +kernel⟩
theorem test_meets_I3cTarget_7 : ∃ (s : State) (k : Fin 3), (s.i3cHears = true) ∧ (s.i3c.enabled = true) ∧ (s.i3c.pend.getLsbD k = true) ∧ (s.i3c.pend.toNat % 2 ^ k.val = 0) :=
  ⟨{ wI3c with i3c := { w.i3c with dynAddr := some 9, enabled := true, pend := 6 } }, 1, by decide +kernel⟩
theorem test_meets_I3cTarget_8 : ∃ (s : State), (s.i3c.enabled = false ∨ s.i3c.pend = 0) :=
  ⟨wI3c, by decide +kernel⟩
theorem test_meets_StartSequence_1 : ∃ (s u : State) (f : KeeperFuses) (test : Bool), (s.boot.perst = false) ∧ (u = { s with boot := { s.boot with perst := true, fuseRead := f.variant, secretRead := f.secret, testHold := test && s.get SEC_LC_STS.STATE 0 == 0 } }) :=
  ⟨{ w with boot := { w.boot with perst := false, resume := 2 } }, { w with boot := { w.boot with perst := true, resume := 2, fuseRead := false, secretRead := false, testHold := false } }, ⟨false, false⟩, false, by decide +kernel⟩
theorem test_meets_StartSequence_2 : ∃ (s : State) (f : KeeperFuses) (test : Bool), (s.boot.perst = true) :=
  ⟨{ w with boot := { w.boot with perst := true } }, {}, true, by decide +kernel⟩
theorem test_meets_StartSequence_3 : ∃ (s : State) (test : Bool), (s.boot.perst = false) ∧ (s.fatal = false) ∧ (s.boot.down = 0) ∧ (s.boot.resume = 1) ∧ (s.boot.fuses = none) ∧ (s.get SEC_LC_STS.STATE 0 ≠ 3) :=
  ⟨{ w with boot := { w.boot with perst := false, resume := 1 } }, false, by decide +kernel⟩
theorem test_meets_StartSequence_4 : ∃ (s : State) (f : KeeperFuses) (a b : Flash), (s.boot.perst = false) ∧ (s.fatal = false) ∧ (s.boot.down = 0) ∧ (s.boot.resume = 1) ∧ (f = {}) ∧ (s.boot.fuses = none) ∧ (s.get SEC_LC_STS.STATE 0 = 0) :=
  ⟨{ w with boot := { w.boot with perst := false, resume := 1 } }, {}, [], [], by decide +kernel⟩
theorem test_meets_StartSequence_5 : ∃ (s : State) (a b : Flash), (s.boot.starting = true) ∧ (s.fatal = false) ∧ (s.get KPR_STS.STEP 0 = 1) ∧ (s.boot.testHold = false) ∧ (s.railsGood = true) :=
  ⟨wStep 1, [], [(3, 0x31), (2, 0x4D), (1, 0x5A), (0, 0x44)], by decide +kernel⟩
theorem test_meets_StartSequence_7 : ∃ (s : State) (ppm : Int), (s.boot.starting = true) ∧ (s.fatal = false) ∧ (s.get KPR_STS.STEP 0 = 2) ∧ (s.flag KPR_AON.CAL 0 = true) :=
  ⟨(wStep 2).set KPR_AON.CAL 0 1, -5, by decide +kernel⟩
theorem test_meets_StartSequence_8 : ∃ (s : State) (ppm : Int), (s.boot.starting = true) ∧ (s.fatal = false) ∧ (s.get KPR_STS.STEP 0 = 2) ∧ (s.flag KPR_AON.CAL 0 = false) :=
  ⟨wStep 2, -40000, by decide +kernel⟩
theorem test_meets_StartSequence_9 : ∃ (s : State), (s.boot.starting = true) ∧ (s.fatal = false) ∧ (s.get KPR_STS.STEP 0 = 3) :=
  ⟨wStep 3, by decide +kernel⟩
theorem test_meets_StartSequence_10 : ∃ (s : State) (a b f : Flash) (slot : Nat) (rest : List Nat), (s.boot.starting = true) ∧ (s.fatal = false) ∧ (s.get KPR_STS.STEP 0 = 4) ∧ (s.candidates = slot :: rest) ∧ ((f = if slot = 0 then a else b)) :=
  ⟨wOrder, [], [], [], 0, [1], by decide +kernel⟩
theorem test_meets_StartSequence_11 : ∃ (s : State) (a b : Flash), (s.boot.starting = true) ∧ (s.fatal = false) ∧ (s.get KPR_STS.STEP 0 = 4) ∧ (s.candidates = []) :=
  ⟨wStep 4, [], [], by decide +kernel⟩
theorem test_meets_StartSequence_12 : ∃ (s : State) (late : Flash), (s.awaitsLate = true) :=
  ⟨{ w with boot := { w.boot with starting := true, early := true } }, [], by decide +kernel⟩
theorem test_meets_StartSequence_13 : ∃ (s : State) (slot : Nat) (rest : List Nat), (s.boot.starting = true) ∧ (s.fatal = false) ∧ (s.get KPR_STS.STEP 0 = 4) ∧ (s.candidates = slot :: rest) :=
  ⟨wOrder, 0, [1], by decide +kernel⟩
theorem test_meets_StartSequence_14 : ∃ (s : State) (r : Nat), (s.boot.starting = true) ∧ (s.fatal = false) ∧ (s.get KPR_STS.STEP 0 = 8) ∧ ((List.range 4).find? (fun r => s.rgn r != 2) = some r) ∧ (s.handlers = 0) :=
  ⟨wStep 8, 0, by decide +kernel⟩
theorem test_meets_StartSequence_15 : ∃ (s : State), (s.boot.starting = true) ∧ (s.fatal = false) ∧ (s.get KPR_STS.STEP 0 = 8) :=
  ⟨wStep 8, by decide +kernel⟩
theorem test_meets_StartSequence_16 : ∃ (s : State) (ms : Nat), (s.boot.starting = true) ∧ (s.fatal = false) ∧ (s.get KPR_STS.STEP 0 = 9) ∧ (s.readyNow = true) :=
  ⟨wReady, 70000, by decide +kernel⟩
theorem test_meets_StartSequence_17 : ∃ (s u : State) (p : Port) (n : BitVec 64), (u = { s with bnd := { s.bnd with serial := Tab.put none s.bnd.serial p.val (some n) }, boot := { s.boot with enumerated := s.boot.enumerated ++ [p.val] } }) :=
  ⟨wFm.set SEC_BOOT_STS.READY 0 1, { (wFm.set SEC_BOOT_STS.READY 0 1) with bnd := { w.bnd with serial := [(9, some 5)] }, boot := { wFm.boot with enumerated := [9] } }, 9, 5, by decide +kernel⟩
theorem test_meets_StartSequence_18 : ∃ (s : State) (x i h : Nat) (v : BitVec 128), (x = s.bindShelf i) ∧ (v = s.bindRec i) :=
  ⟨wFm, 0, 0, 3, wFm.bindRec 0, by decide +kernel⟩
theorem test_meets_RootOfTrust_1 : ∃ (s : State) (p : Path), (isCore p = true ∨ (p = .debug ∧ s.get SEC_LC_STS.STATE 0 = 0 ∧ s.mayWrite p = true)) :=
  ⟨(w.set SEC_BOOT_STS.READY 0 1).set SEC_LC_STS.RB_IMAGE 0 3, .librarian, by decide +kernel⟩
theorem test_meets_RootOfTrust_3 : ∃ (s : State), (s.flag SEC_RB_CMD.BUSY 0 = true) :=
  ⟨(w.set SEC_RB_CMD.BUSY 0 1).set SEC_LC_STS.RB_IMAGE 0 3, by decide +kernel⟩
theorem test_meets_RootOfTrust_5 : ∃ (s : State) (p : Path), (s.unheard p = false) ∧ (s.mayRead p true = true) :=
  ⟨w, .librarian, by decide +kernel⟩
theorem test_meets_RootOfTrust_7 : ∃ (s : State) (p : Path), (s.unheard p = false) ∧ (s.windowGone (setUnit setSec) = false) ∧ (s.mayWriteListed p true = true) ∧ (s.flag SEC_TOKEN_CMD.BUSY 0 = true) :=
  ⟨w.set SEC_TOKEN_CMD.BUSY 0 1, .librarian, by decide +kernel⟩
theorem test_meets_RootOfTrust_8 : ∃ (s : State) (p : Path), (s.unheard p = false) ∧ (s.windowGone (setUnit setSec) = false) ∧ (s.mayWriteListed p true = true) ∧ (s.flag SEC_TOKEN_CMD.BUSY 0 = false) :=
  ⟨w, .librarian, by decide +kernel⟩
theorem test_meets_RootOfTrust_9 : ∃ (s : State) (p : Path), (s.unheard p = false) ∧ (s.windowGone (setUnit setSec) = false) ∧ (s.mayWriteListed p true = true) ∧ (s.flag SEC_TOKEN_CMD.BUSY 0 = false) :=
  ⟨w, .librarian, by decide +kernel⟩
theorem test_meets_RootOfTrust_10 : ∃ (s : State) (p : Path), (s.unheard p = false) ∧ (s.windowGone (setUnit setSec) = false) ∧ (s.mayWriteListed p true = true) ∧ (s.flag SEC_TOKEN_CMD.BUSY 0 = false) :=
  ⟨w, .librarian, by decide +kernel⟩
theorem test_meets_RootOfTrust_11 : ∃ (s : State) (p : Path), (s.unheard p = false) ∧ (s.windowGone (setUnit setSec) = false) ∧ (s.mayWriteListed p true = true) ∧ (s.flag SEC_TOKEN_CMD.BUSY 0 = false) :=
  ⟨w, .librarian, by decide +kernel⟩
theorem test_meets_RootOfTrust_12 : ∃ (s : State) (st : Nat) (h : BitVec 512), (s.boot.fusing = some (st, h)) ∧ (s.boot.fuses = none) ∧ (st < 3) :=
  ⟨{ w with boot := { w.boot with fusing := some (1, 9) } }, 1, 9, by decide +kernel⟩
theorem test_meets_RootOfTrust_13 : ∃ (s : State) (st : Nat) (h : BitVec 512), (s.boot.fusing = some (st, h)) :=
  ⟨{ w with boot := { w.boot with fusing := some (3, 9) } }, 3, 9, by decide +kernel⟩
theorem test_meets_RootOfTrust_14 : ∃ (s : State) (e : Nat) (op : SpdmOp), (e ≠ 66) ∧ (s.flag SEC_BOOT_STS.READY 0 = true) :=
  ⟨w.set SEC_BOOT_STS.READY 0 1, 64, .keyExchange 5, by decide +kernel⟩
theorem test_meets_RootOfTrust_16 : ∃ (s : State) (e : Nat) (op : SpdmOp), (e ≠ 66) ∧ (s.flag SEC_BOOT_STS.READY 0 = false) :=
  ⟨w, 65, .getVersion, by decide +kernel⟩
theorem test_meets_RootOfTrust_19 : ∃ (s : State) (p : Path) (a : BitVec 32) (d : BitVec 64) (i : Nat), (s.writeReaches p a (.reg .SEC_RB_CMD i)) :=
  ⟨(w.set SEC_BOOT_STS.READY 0 1), .librarian 0, 851980, 1, 0, by decide +kernel⟩
theorem test_meets_RootOfTrust_20 : ∃ (s : State) (p : Path) (a : BitVec 32) (d : BitVec 64) (i : Nat), (s.writeReaches p a (.reg .SEC_TOKEN_CMD i)) :=
  ⟨w, .librarian 0, 851992, 1, 0, by decide +kernel⟩
theorem test_meets_RootOfTrust_21 : ∃ (s : State) (p : Path), (s.mayWriteListed p true = false) :=
  ⟨w, .debug, by decide +kernel⟩
theorem test_meets_RootOfTrust_22 : ∃ (s : State) (p : Path) (a : BitVec 32) (i : Nat), (s.readReaches p a (.reg .SEC_NONCE_LO i)) :=
  ⟨w, .librarian 0, 851984, 0, by decide +kernel⟩
theorem test_meets_SlotSequence_1 : ∃ (s : State) (c : Slot), (s.sp c = 1) :=
  ⟨w.set SPW_STS.STATE 31 1, 31, by decide +kernel⟩
theorem test_meets_SlotSequence_3 : ∃ (s : State) (c : Slot), (s.sp c = 2) ∧ (s.flag SPW_STS.PRSNT_S c = true) ∧ (s.flag SPW_STS.PRSNT_L c = true) :=
  ⟨((w.set SPW_STS.STATE 31 2).set SPW_STS.PRSNT_S 31 1).set SPW_STS.PRSNT_L 31 1, 31, by decide +kernel⟩
theorem test_meets_SlotSequence_4 : ∃ (s : State) (c : Slot), (s.sp c ≠ 2 ∨ s.flag SPW_STS.PRSNT_S c = false ∨ s.flag SPW_STS.PRSNT_L c = false) :=
  ⟨w, 31, by decide +kernel⟩
theorem test_meets_SlotSequence_5 : ∃ (s : State) (p : Path) (c : Slot), (s.admits p setSpw) ∧ (s.sp c = 3) ∧ (s.startsPermitted = true) :=
  ⟨wPw.set SPW_STS.STATE 31 3, .librarian, 31, by decide +kernel⟩
theorem test_meets_SlotSequence_6 : ∃ (s : State) (p : Path) (c : Slot), (s.admits p setSpw) ∧ (s.sp c ≠ 3 ∨ s.startsPermitted = false) :=
  ⟨w.set SPW_STS.STATE 31 7, .librarian, 31, by decide +kernel⟩
theorem test_meets_SlotSequence_7 : ∃ (s : State) (c : Slot) (v : SlotReading), (s.flag SPW_CFG0.EN c = true) ∧ (v.parity = false) ∧ (s.sp c = 4) ∧ (s.get SPW_BUS_CTL.OFF_LVL 0 ≤ v.vBus / 10) ∧ (s.get SPW_BUS_CTL.WARN 0 ≤ v.vBus / 10) ∧ (v.vOut * 10 < v.vBus) :=
  ⟨(w.set SPW_CFG0.EN 31 1).set SPW_STS.STATE 31 4, 31, { sense := 5, vOut := 1000, vBus := 13000, limiting := false, bad := true }, by decide +kernel⟩
theorem test_meets_SlotSequence_8 : ∃ (s u : State) (c : Slot) (v : SlotReading), (u = (if s.sp c = 6 then (slotMeasure s c v).countChip 0x40 c 1 else slotMeasure s c v)) :=
  ⟨wSpOn, (slotMeasure wSpOn 31 { sense := 5, vOut := 1000, vBus := 7000, limiting := false, bad := false }).countChip 0x40 31 1, 31, { sense := 5, vOut := 1000, vBus := 7000, limiting := false, bad := false }, by decide +kernel⟩
theorem test_meets_SlotSequence_10 : ∃ (s : State) (c : Slot), (s.driven c = true) ∧ (s.flag SPW_STS.PG c = false) ∧ (s.flag SPW_STS.LIMIT c = false) ∧ (s.get SPW_MEAS1.V_BUS c * 92 ≤ s.get SPW_MEAS0.V_OUT c * 100) :=
  ⟨(w.set SPW_STS.STATE 31 5).set SPW_MEAS0.V_OUT 31 1200, 31, by decide +kernel⟩
theorem test_meets_SlotSequence_11 : ∃ (s : State) (c : Slot), (s.driven c = false ∨ s.flag SPW_STS.PG c = true ∨ s.flag SPW_STS.LIMIT c = true ∨ s.get SPW_MEAS0.V_OUT c * 100 < s.get SPW_MEAS1.V_BUS c * 92) :=
  ⟨w, 31, by decide +kernel⟩
theorem test_meets_SlotSequence_12 : ∃ (s : State) (p : Path) (c : Slot), (s.admits p setSpw) :=
  ⟨w.set SPW_STS.STATE 31 5, .librarian, 31, by decide +kernel⟩
theorem test_meets_SlotSequence_14 : ∃ (s : State) (p : Path) (c : Slot), (s.admits p setSpw) :=
  ⟨w.set SPW_STS.STATE 31 8, .librarian, 31, by decide +kernel⟩
theorem test_meets_SlotSequence_15 : ∃ (s : State) (c : Slot), (s.sp c = 7) ∧ (s.get SPW_MEAS1.T_MODEL c ≤ s.get SPW_CFG2.TRIP_C c - 20) ∧ (s.flag SPW_CFG0.DIODE c = true → s.get SPW_MEAS1.T_DIODE c ≤ s.get SPW_CFG2.TRIP_C c - 20) :=
  ⟨wPw.set SPW_STS.STATE 31 7, 31, by decide +kernel⟩
theorem test_meets_SlotSequence_16 : ∃ (s : State) (c : Slot), (s.sp c ≠ 7 ∨ s.get SPW_CFG2.TRIP_C c - 20 < s.get SPW_MEAS1.T_MODEL c ∨ (s.flag SPW_CFG0.DIODE c = true ∧ s.get SPW_CFG2.TRIP_C c - 20 < s.get SPW_MEAS1.T_DIODE c)) :=
  ⟨w, 31, by decide +kernel⟩
theorem test_meets_SlotSequence_18 : ∃ (s : State) (p : Path) (a : BitVec 32) (d : BitVec 64) (i : Nat), (s.writeReaches p a (.reg .SPW_CMD i)) :=
  ⟨w, .librarian 0, 1183764, 1, 0, by decide +kernel⟩
theorem test_meets_SlotSequence_19 : ∃ (s : State) (p : Path) (c : Slot), (s.mayWrite p = false) :=
  ⟨wFw, .i3c, 5, by decide +kernel⟩
theorem test_meets_SlotSequence_25 : ∃ (s : State), (s.flag SPW_BUS_STS.WARN 0 = true) ∧ (s.busRecovered = true) ∧ (s.spw.chan = []) :=
  ⟨w.set SPW_BUS_STS.WARN 0 1, by decide +kernel⟩
theorem test_meets_ClocksAndSupplies_1 : ∃ (s : State), (s.hkSource ≠ s.get CRS_CLK_STS.HK_SRC 0) :=
  ⟨w.set CRS_CLK_STS.ROOT_LOCK 0 12, by decide +kernel⟩
theorem test_meets_ClocksAndSupplies_2 : ∃ (s : State), (s.hkSource = s.get CRS_CLK_STS.HK_SRC 0) :=
  ⟨w, by decide +kernel⟩
theorem test_meets_ClocksAndSupplies_4 : ∃ (s : State), (s.fatal = false) :=
  ⟨w.set CRS_CLK_STS.REFCLK_OK 0 1, by decide +kernel⟩
theorem test_meets_ClocksAndSupplies_5 : ∃ (s : State) (r q : Region), (s.fatal = false) ∧ (s.rgn r = 0) ∧ (q ≠ r) ∧ (s.rgn q = 0) ∧ (s.flag KPR_STS.FLUSHING 0 = false) :=
  ⟨w.set CRS_CLK_STS.ROOT_LOCK 0 15, 2, 0, by decide +kernel⟩
theorem test_meets_ClocksAndSupplies_6 : ∃ (s : State) (m : Fin 8) (v : RailReading), (v.bad = false) ∧ (s.get CRS_RAIL_LO.RESET m ≤ railLowest v) ∧ (s.get CRS_RAIL_LO.WARN m ≤ railLowest v) ∧ (railHighest v ≤ s.get CRS_RAIL_HI.WARN m) ∧ (railHighest v ≤ s.get CRS_RAIL_HI.RESET m) :=
  ⟨w, 0, ⟨[750, 751], false⟩, by decide +kernel⟩
theorem test_meets_ClocksAndSupplies_7 : ∃ (s : State) (m : Fin 8) (v : RailReading) (u a : Bool), (u = (v.bad || decide (railLowest v < s.get CRS_RAIL_LO.RESET m))) ∧ (a = decide (s.get CRS_RAIL_HI.RESET m < railHighest v)) :=
  ⟨{ w with sup := { w.sup with beyond := [(3, 1)] } }, 3, ⟨[750], true⟩, true, false, by decide +kernel⟩
theorem test_meets_ClocksAndSupplies_9 : ∃ (s : State), (s.boot.resume = 2) ∧ (s.boot.perst = true) ∧ (s.fatal = false) ∧ (s.railsGood = true) ∧ (s.boot.fuses = none) ∧ (s.get SEC_LC_STS.STATE 0 ≠ 3) :=
  ⟨{ w with boot := { w.boot with perst := true, resume := 2 } }, by decide +kernel⟩
theorem test_meets_ClocksAndSupplies_11 : ∃ (s : State) (p : Path) (a : BitVec 32) (d : BitVec 64) (i : Nat), (s.writeReaches p a (.reg .CRS_SUP_CTL i)) :=
  ⟨w, .librarian 0, 1245192, 1, 0, by decide +kernel⟩
theorem test_meets_ResetsAndPowerDown_1 : ∃ (s : State) (p : Path), (s.fatal = false) ∧ (s.boot.down = 0) ∧ (s.boot.starting = false) ∧ (s.boot.resume = 0) ∧ (s.boot.perst = true) ∧ (s.windowGone (setUnit setCrs) = false) ∧ (s.unheard p = false) ∧ (s.mayWriteListed p true = true) :=
  ⟨{ w with boot := { w.boot with perst := true, resume := 0 } }, .librarian, by decide +kernel⟩
theorem test_meets_ResetsAndPowerDown_2 : ∃ (s : State), (s.fatal = false) :=
  ⟨{ w with boot := { w.boot with starting := true } }, by decide +kernel⟩
theorem test_meets_ResetsAndPowerDown_3 : ∃ (s : State) (p : Path) (k : BitVec 16), (s.windowGone (setUnit setCrs) = false) ∧ (s.unheard p = false) ∧ (s.mayWriteListed p true = true) :=
  ⟨w, .librarian, 7, by decide +kernel⟩
theorem test_meets_ResetsAndPowerDown_4 : ∃ (s : State) (r : Region), (s.fatal = true) :=
  ⟨{ w with fatal := true }, 2, by decide +kernel⟩
theorem test_meets_ResetsAndPowerDown_5 : ∃ (s : State), (s.fatal = false) ∧ (s.boot.resume = 4) ∧ (s.boot.perst = true) ∧ (s.boot.fuses = none) ∧ (s.get SEC_LC_STS.STATE 0 ≠ 3) :=
  ⟨{ w with boot := { w.boot with perst := true, resume := 4 } }, by decide +kernel⟩
theorem test_meets_ResetsAndPowerDown_6 : ∃ (s u : State), (u = { s with boot := { s.boot with warm := true } }) :=
  ⟨w, w, by decide +kernel⟩
theorem test_meets_ResetsAndPowerDown_7 : ∃ (s : State) (ms : Nat), (s.flag KPR_STS.FLUSHING 0 = true) ∧ (s.boot.down = 1) ∧ (s.boot.perst = false) :=
  ⟨{ w.set KPR_STS.FLUSHING 0 1 with boot := { w.boot with perst := false, down := 1 } }, 200, by decide +kernel⟩
theorem test_meets_ResetsAndPowerDown_8 : ∃ (s : State) (ms d : Nat), (s.flag KPR_STS.FLUSHING 0 = true) ∧ (s.boot.down = d) ∧ (d = 2 ∨ d = 3) :=
  ⟨{ w.set KPR_STS.FLUSHING 0 1 with boot := { w.boot with perst := false, warm := false, down := 3 } }, 200, 3, by decide +kernel⟩
theorem test_meets_ResetsAndPowerDown_10 : ∃ (s : State) (r q : Region), (s.fatal = false) ∧ (s.rgn r = 0) ∧ (q ≠ r) ∧ (s.rgn q = 0) ∧ (s.flag KPR_STS.FLUSHING 0 = false) :=
  ⟨w, 2, 0, by decide +kernel⟩
theorem test_meets_ResetsAndPowerDown_12 : ∃ (s : State) (p : Path) (a : BitVec 32) (d : BitVec 64) (i : Nat), (s.writeReaches p a (.reg .CRS_RST_CMD i)) :=
  ⟨w, .librarian 0, 1245188, 0x15752, 0, by decide +kernel⟩
theorem test_meets_ResetsAndPowerDown_13 : ∃ (s : State) (p : Path) (k : BitVec 16), (s.mayWriteListed p true = false) :=
  ⟨w, .debug, 0x5752, by decide +kernel⟩
theorem test_meets_FaultCommands_1 : ∃ (s : State) (r : Region), (s.rgn r = 1) :=
  ⟨(wUp 3).setRgn 0 1, 0, by decide +kernel⟩
theorem test_meets_FaultCommands_3 : ∃ (s : State) (r : Region), (s.windowGone r = false) ∧ (s.flag LIB_MPU_BAR.BUSY r = true) :=
  ⟨w.set LIB_MPU_BAR.BUSY 2 1, 2, by decide +kernel⟩
theorem test_meets_FaultCommands_4 : ∃ (s : State) (x : Nat), (setExists x = true) ∧ (s.windowGone (setUnit x) = false) ∧ (s.flt.resetting.contains x = true) :=
  ⟨{ w with flt := { w.flt with resetting := [catSet 2] } }, catSet 2, by decide +kernel⟩
theorem test_meets_FaultCommands_5 : ∃ (s : State) (x : Nat), (s.flt.resetting.contains x = true) ∧ (s.windowGone (setUnit x) = false) :=
  ⟨{ w with flt := { w.flt with resetting := [catSet 2] } }, catSet 2, by decide +kernel⟩
theorem test_meets_FaultCommands_6 : ∃ (s : State) (x : Nat), (setExists x = true) ∧ (s.windowGone (setUnit x) = false) ∧ (s.flt.resetting.contains x = false) :=
  ⟨w, catSet 2, by decide +kernel⟩
theorem test_meets_FaultCommands_7 : ∃ (s : State) (x : Nat) (q : Region), (s.flt.resetting.contains x = true) ∧ (x < 1024) ∧ (s.rgn (x / 256) = 0) ∧ (s.fatal = false) ∧ (q.val ≠ x / 256) ∧ (s.rgn q = 0) :=
  ⟨{ w with flt := { w.flt with resetting := [catSet 2] } }, catSet 2, 0, by decide +kernel⟩
theorem test_meets_FaultCommands_8 : ∃ (s : State) (x : Nat), (s.flt.resetting.contains x = true) ∧ (1024 ≤ x) ∧ (s.fatal = false) :=
  ⟨{ w with flt := { w.flt with resetting := [setKpr] } }, setKpr, by decide +kernel⟩
theorem test_meets_FaultCommands_9 : ∃ (s : State) (x : Nat), (s.flt.resetting.contains x = true) ∧ (s.windowGone (setUnit x) = false) :=
  ⟨{ w with flt := { w.flt with resetting := [swcSet 2] } }, swcSet 2, by decide +kernel⟩
theorem test_meets_FaultCommands_10 : ∃ (s : State) (n : Nat) (e : RetPend) (rest : List RetPend), (s.flt.retPend = e :: rest) ∧ (e.area < 5) :=
  ⟨{ w with flt := { w.flt with retPend := [⟨4, 4, 3, 3, 9, 1⟩] } }, 896, ⟨4, 4, 3, 3, 9, 1⟩, [], by decide +kernel⟩
theorem test_meets_FaultCommands_12 : ∃ (s : State) (p : Path) (x : Nat) (m : Word), (setExists x = true) ∧ (s.windowGone (setUnit x) = false) ∧ (s.unheard p = false) ∧ (s.mayWriteListed p (setUnit x == 4) = true) :=
  ⟨{ w with ces := [(catSet 1, { sts := 6, mask := 4 })] }, .librarian, catSet 1, 1, by decide +kernel⟩
theorem test_meets_FaultCommands_13 : ∃ (s : State) (x : Nat), ((s.cesSet x).window = true) :=
  ⟨{ wMgr with ces := [(catSet 1, { route := 5, window := true, merge := true })] }, catSet 1, by decide +kernel⟩
theorem test_meets_FaultCommands_14 : ∃ (s : State) (p : Path) (k : Nat) (m : Word), (setExists k = true) ∧ (s.mayWriteListed p (setUnit k == 4) = false) :=
  ⟨w, .debug, 1024, 7, by decide +kernel⟩
theorem test_meets_LastRegionFatal_1 : ∃ (s : State) (r q : Region), (s.fatal = false) ∧ (s.rgn r = 0) ∧ (q ≠ r) ∧ (s.rgn q = 0) :=
  ⟨w, 3, 0, by decide +kernel⟩
theorem test_meets_LastRegionFatal_2 : ∃ (s : State) (r : Region), (s.fatal = false) ∧ (s.rgn r = 0) ∧ (∀ q : Region, q ≠ r → s.rgn q ≠ 0) ∧ ((s.get KPR_RET_STS.VALID 0).testBit r = false) ∧ (s.flt.retPend = []) :=
  ⟨((w.setRgn 0 2).setRgn 1 2).setRgn 2 1, 3, by decide +kernel⟩
theorem test_meets_ArchiveCommands_1 : ∃ (s : State) (u : Fin 5) (x : BitVec 256) (q : List (BitVec 256)) (n : Nat), (s.windowGone u = false) ∧ (Tab.get [] s.arc.stage u = x :: q) ∧ (n = s.get ARC_REC.COUNT u) ∧ (n + 1 < recordRoom u) :=
  ⟨{ w with arc := { w.arc with stage := [(4, [2 ^ 255 + 5, 7])] } }, 4, 2 ^ 255 + 5, [7], 0, by decide +kernel⟩
theorem test_meets_ArchiveCommands_2 : ∃ (s : State) (u : Fin 5) (x : BitVec 256) (q : List (BitVec 256)) (n : Nat), (s.windowGone u = false) ∧ (Tab.get [] s.arc.stage u = x :: q) ∧ (n = s.get ARC_REC.COUNT u) :=
  ⟨{ w.set ARC_REC.COUNT 4 6143 with arc := { w.arc with stage := [(4, [9, 7])] } }, 4, 9, [7], 6143, by decide +kernel⟩
theorem test_meets_ArchiveCommands_4 : ∃ (s : State) (r : Region) (n : Nat) (es : List Nat), (s.rgn r ≠ 2) ∧ (n = Tab.get 0 s.arc.histUsed r) ∧ (es = s.histEntries r) ∧ (n + 64 + 80 * es.length ≤ histRoom) :=
  ⟨{ w with arc := { w.arc with bins := [(2 ^ 23 + 16 * 9 + 3, 5)] } }, 1, 0, [2 ^ 19 + 9], by decide +kernel⟩
theorem test_meets_ArchiveCommands_5 : ∃ (s : State) (r : Region), (s.rgn r ≠ 2) ∧ (histRoom < Tab.get 0 s.arc.histUsed r + 64 + 80 * (s.histEntries r).length) :=
  ⟨{ w with arc := { w.arc with histUsed := [(1, histRoom)] } }, 1, by decide +kernel⟩
theorem test_meets_ArchiveCommands_6 : ∃ (s : State) (p : Path) (u : Fin 5), (s.windowGone (setUnit (arcSet u)) = false) ∧ (s.mayWriteListed p (u.val == 4) = true) ∧ (s.unheard p = false) :=
  ⟨w, .librarian, 4, by decide +kernel⟩
theorem test_meets_ArchiveCommands_7 : ∃ (s : State) (p : Path) (u : Fin 5), (s.windowGone (setUnit (arcSet u)) = false) ∧ (s.mayWriteListed p (u.val == 4) = true) :=
  ⟨w.set ARC_FRZ.FROZEN 4 1, .librarian, 4, by decide +kernel⟩
theorem test_meets_ArchiveCommands_8 : ∃ (s : State) (u : Fin 5), (s.windowGone u = false) ∧ (s.flag ARC_FRZ.FROZEN u = true) :=
  ⟨w.set ARC_FRZ.FROZEN 4 1, 4, by decide +kernel⟩
theorem test_meets_ArchiveCommands_9 : ∃ (s : State) (p : Path) (u : Fin 5), (s.admits p (arcSet u)) :=
  ⟨(w.set ARC_REC.COUNT 4 9).extreme 4 3 9 true, .librarian, 4, by decide +kernel⟩
theorem test_meets_ArchiveCommands_10 : ∃ (s : State) (p : Path) (r : Region), (s.admits p (arcSet r)) :=
  ⟨w.set ARC_HIST.FULL 1 1, .librarian, 1, by decide +kernel⟩
theorem test_meets_ArchiveCommands_11 : ∃ (s : State) (p : Path) (k n : Nat), (s.windowGone (setUnit setArc) = false) ∧ (s.mayWriteListed p true = true) ∧ (k = 16 * s.get ARC_WEAR_CMD.DIE 0 + s.get ARC_WEAR_CMD.BAND 0) ∧ (n = Tab.get 0 s.arc.wear k + s.get ARC_WEAR_LO.SECONDS_LO 0 + 2 ^ 32 * s.get ARC_WEAR_HI.SECONDS_HI 0) :=
  ⟨(w.set ARC_WEAR_LO.SECONDS_LO 0 5).set ARC_WEAR_CMD.DIE 0 12, .librarian, 192, 5, by decide +kernel⟩
theorem test_meets_ArchiveCommands_12 : ∃ (s : State) (pin ns : Nat), (s.arcStopped 4 = false) ∧ (Tab.get (0, 0) s.arc.counted (4096 * 4 + 0x318) = (0, 0)) ∧ (s.get ARC_CODE_CFG.RATE 0x318 ≠ 0) ∧ (s.flag ARC_CODE_CFG.LOG 0x318 = true) ∧ ((Tab.get [] s.arc.stage 4).length < 256) :=
  ⟨{ w.set ARC_CODE_CFG.LOG 0x318 1 with time := [] }, 3, 40, by decide +kernel⟩
theorem test_meets_ArchiveCommands_14 : ∃ (s : State) (p : Path) (a : BitVec 32) (d : BitVec 64) (i : Nat), (s.writeReaches p a (.reg .ARC_CTL i)) :=
  ⟨w, .librarian 0, 29360128, 2, 0, by decide +kernel⟩
theorem test_meets_ArchiveCommands_15 : ∃ (s : State) (p : Path) (a : BitVec 32) (d : BitVec 64) (i : Nat), (s.writeReaches p a (.reg .ARC_FRZ i)) :=
  ⟨w, .librarian 0, 29360132, 2 ^ 14, 0, by decide +kernel⟩
theorem test_meets_ArchiveCommands_16 : ∃ (s : State) (p : Path) (a : BitVec 32) (d : BitVec 64) (i : Nat), (s.writeReaches p a (.reg .ARC_REC i)) :=
  ⟨w, .librarian 0, 29360140, 2 ^ 25, 0, by decide +kernel⟩
theorem test_meets_ArchiveCommands_17 : ∃ (s : State) (p : Path) (a : BitVec 32) (d : BitVec 64) (i : Nat), (s.writeReaches p a (.reg .ARC_HIST i)) :=
  ⟨w, .librarian 0, 29360144, 2 ^ 19, 0, by decide +kernel⟩
theorem test_meets_ArchiveCommands_18 : ∃ (s : State) (p : Path) (u : Fin 5) (r : Region), (s.mayWrite p = false) :=
  ⟨wFw, .i3c, 1, 2, by decide +kernel⟩
theorem test_meets_ArchiveCommands_19 : ∃ (s : State) (p : Path) (u : Fin 5), (s.mayWriteListed p (u.val == 4) = false) :=
  ⟨w, .debug, 1, by decide +kernel⟩
theorem test_meets_WearLedger_4 : ∃ (s : State) (die band : Nat), (die < 13) ∧ (band < 16) :=
  ⟨{ w with arc := { w.arc with wear := [(207, 2 ^ 40 - 1)] } }, 12, 15, by decide +kernel⟩
theorem test_meets_WearLedger_5 : ∃ (s : State) (p : Path) (a : BitVec 32) (d : BitVec 64) (i : Nat), (s.writeReaches p a (.reg .ARC_WEAR_CMD i)) :=
  ⟨w, .librarian 0, 1442064, 2 ^ 8, 0, by decide +kernel⟩
theorem test_meets_WearLedger_6 : ∃ (s : State) (p : Path), (s.mayWriteListed p true = false) :=
  ⟨w, .debug, by decide +kernel⟩
theorem test_meets_CountersAndSnapshots_1 : ∃ (s : State) (p q : Path) (n : Nat), (n < 2816) ∧ (q ≠ p) ∧ (s.unheard p = false) ∧ (s.windowGone (setUnit (pmcSetOf n)) = false) ∧ (s.mayRead p false = true) :=
  ⟨{ w with arc := { w.arc with cnt := [(2815, 2 ^ 47 + 5)] } }, .librarian, .i3c, 2815, by decide +kernel⟩
theorem test_meets_CountersAndSnapshots_2 : ∃ (s : State) (p q : Path), (q ≠ p) ∧ (s.unheard p = false) ∧ (s.mayRead p false = true) :=
  ⟨{ w with time := [(0, 2 ^ 63 + 5)] }, .librarian, .manager, by decide +kernel⟩
theorem test_meets_CountersAndSnapshots_3 : ∃ (s : State) (p q : Path) (n : Lane), (q ≠ p) ∧ (s.unheard p = false) ∧ (s.windowGone (n / 130) = false) ∧ (s.mayRead p false = true) :=
  ⟨{ w with prt := { w.prt with pat := [(519, 2 ^ 47 + 5)] } }, .librarian, .manager, 519, by decide +kernel⟩
theorem test_meets_CountersAndSnapshots_5 : ∃ (s : State) (p : Path) (n : Nat), (n < 2816) ∧ (s.admits p (pmcSetOf n)) :=
  ⟨{ w with arc := { w.arc with cnt := [(5, 7), (9, 2)] } }, .librarian, 5, by decide +kernel⟩
theorem test_meets_CountersAndSnapshots_6 : ∃ (s : State) (p : Path), (s.admits p setPmc) :=
  ⟨{ w with arc := { w.arc with snap := some ⟨9, [], []⟩ } }, .librarian, by decide +kernel⟩
theorem test_meets_CountersAndSnapshots_7 : ∃ (s : State) (p : Path), (s.admits p setPmc) ∧ (s.arc.snap = none) :=
  ⟨{ w.set PMC_SNAP_CTL.EN 0 1 with arc := { w.arc with cnt := [(9, 2)] } }, .librarian, by decide +kernel⟩
theorem test_meets_CountersAndSnapshots_8 : ∃ (s : State) (n : Snapshot) (q : Nat), (s.arc.snap = some n) ∧ (q = (s.get PMC_SNAP_STS.SEQ 0 + 1) % 2 ^ 32) ∧ (n.cnt.all (fun e => e.1 < 2816) = true) ∧ (n.ovf = []) :=
  ⟨{ w with arc := { w.arc with snap := some ⟨9, [(5, 7), (675, 2)], []⟩ } }, ⟨9, [(5, 7), (675, 2)], []⟩, 1, by decide +kernel⟩
theorem test_meets_CountersAndSnapshots_9 : ∃ (s : State) (p : Path) (a : BitVec 32) (d : BitVec 64) (i : Nat), (s.writeReaches p a (.reg .PMC_CFG i)) :=
  ⟨w, .librarian 0, 30408704, 2 ^ 19, 0, by decide +kernel⟩
theorem test_meets_CountersAndSnapshots_10 : ∃ (s : State) (p : Path) (a : BitVec 32) (d : BitVec 64) (i : Nat), (s.writeReaches p a (.reg .PMC_SNAP_CTL i)) :=
  ⟨w, .librarian 0, 1509376, 2 ^ 21, 0, by decide +kernel⟩
theorem test_meets_CountersAndSnapshots_11 : ∃ (s : State) (p : Path) (n : Nat), (s.mayWrite p = false) :=
  ⟨wFw, .i3c, 5, by decide +kernel⟩
theorem test_meets_CountersAndSnapshots_12 : ∃ (s : State) (p : Path) (n : Nat), (n < 2816) ∧ (s.mayWrite p = false) :=
  ⟨wFw, .i3c, 5, by decide +kernel⟩
theorem test_meets_LockedFields_1 : ∃ (s : State) (r : Reg) (i x : Nat) (v : Word) (row : FieldRow), (row ∈ r.rows) ∧ (row.acc = .rwl) ∧ ((s.lockedReg r i || locksItself r v) = true) :=
  ⟨w.set PRT_LOCK.LOCK 1 1, .PRT_LANE_CTL, 130, prtSet 16, 7, (Reg.rows .PRT_LANE_CTL).headD ⟨0, 1, .ro, .any⟩, by decide +kernel⟩
theorem test_meets_LockedFields_2 : ∃ (s : State) (r : Reg) (i x : Nat) (v : Word), ((s.lockedReg r i || locksItself r v) = true) ∧ (r.rows.all (fun row => (row.acc != .rwl && row.acc != .rw) || bits v row.lo row.w == bits (s.word r i) row.lo row.w) = true) :=
  ⟨w.set PRT_LOCK.LOCK 1 1, .PRT_LANE_CTL, 130, prtSet 16, resetWord .PRT_LANE_CTL 130, by decide +kernel⟩
theorem test_meets_LockedFields_3 : ∃ (s : State) (p : Path) (a : BitVec 32) (d : BitVec 64) (r : Reg) (i : Nat), (s.writeReaches p a (.reg r i)) ∧ (s.lockedReg r i = true) ∧ (r ∉ Reg.acting) :=
  ⟨w.set LNK_CTL.LOCK 0 1, .librarian 0, 0x1700000, 7, .LNK_CTL, 0, by decide +kernel⟩
theorem test_meets_RegisterFields_1 : ∃ (s : State) (r : Reg) (i x : Nat) (v : Word) (row : FieldRow), (row ∈ r.rows) :=
  ⟨w, .CAT_TXN_TMO, 1, catSet 1, 7, (Reg.rows .CAT_TXN_TMO).headD ⟨0, 1, .ro, .any⟩, by decide +kernel⟩
theorem test_meets_RegisterFields_3 : ∃ (s : State) (p : Path) (a : BitVec 32) (d : BitVec 64) (r : Reg) (i : Nat), (s.writeReaches p a (.reg r i)) ∧ (r ∉ Reg.acting) ∧ (s.noWindow r i = false) :=
  ⟨w.set SEC_BOOT_STS.READY 0 1, .manager, aGrn, 7, .GRN_DCAP, 1, by decide +kernel⟩
theorem test_meets_RegisterFields_4 : ∃ (s : State) (p : Path) (a : BitVec 32) (d : BitVec 64) (r : Reg) (i : Nat), (s.writeReaches p a (.reg r i)) ∧ (s.noWindow r i = true) :=
  ⟨w, .librarian 0, 0x5000008, 7, .QMG_WIN_STS, 0, by decide +kernel⟩
theorem test_meets_RegisterFields_5 : ∃ (s : State) (p : Path) (a : BitVec 32) (d : BitVec 64), (a.toNat % 8 = 0) ∧ (s.unheard p = false) ∧ ((registerWrite p a (d.setWidth 32 |>.setWidth 64) 4 s).unheard p = false) :=
  ⟨w, .librarian 0, 0x2400000, 2 ^ 33 + 1, by decide +kernel⟩
theorem test_meets_RegisterFields_6 : ∃ (s : State) (p : Path) (a : BitVec 32) (d : BitVec 64) (size : Nat), (s.unheard p = false) ∧ (¬ (size = 4 ∧ a.toNat % 4 = 0)) ∧ (¬ (size = 8 ∧ a.toNat % 8 = 0)) :=
  ⟨w, .librarian 0, 0x2400002, 7, 4, by decide +kernel⟩
theorem test_meets_RegisterFields_7 : ∃ (s : State) (p : Path) (a : BitVec 32) (d : BitVec 64) (size : Nat), (s.unheard p = true) :=
  ⟨w, .manager, 0x2400004, 7, 4, by decide +kernel⟩
theorem test_meets_RegisterFields_8 : ∃ (s : State) (p : Path) (a : BitVec 32) (d : BitVec 64), (s.unheard p = false) ∧ (s.addrGone a.toNat = true) ∧ (a.toNat % 4 = 0) :=
  ⟨w.setRgn 1 2, .librarian 0, 0x2400004, 7, by decide +kernel⟩
theorem test_meets_RegisterFields_9 : ∃ (s : State) (p : Path) (a : BitVec 32) (d : BitVec 64), (a.toNat % 4 = 0) ∧ (s.addrGone a.toNat = false) ∧ (s.debugLocked (target a.toNat) a.toNat = true) :=
  ⟨w.set SEC_LC_STS.STATE 0 1, .debug, 0xD000C, 1, by decide +kernel⟩
theorem test_meets_RegisterFields_10 : ∃ (s : State) (p : Path) (a : BitVec 32) (d : BitVec 64), (a.toNat % 4 = 0) ∧ (s.unheard p = false) ∧ (s.addrGone a.toNat = false) ∧ (p = .debug → s.debugLocked (target a.toNat) a.toNat = false) ∧ (s.pathWrites p (target a.toNat) a.toNat = false) :=
  ⟨wFw, .i3c, 0x2400004, 7, by decide +kernel⟩
theorem test_meets_RegisterFields_11 : ∃ (s : State) (p : Path) (a : BitVec 32), (s.unheard p = false) ∧ (s.addrGone (a.toNat / 4 * 4) = false) ∧ (p = .debug → s.debugLocked (target (a.toNat / 4 * 4)) (a.toNat / 4 * 4) = false) ∧ (s.pathReads p (a.toNat / 4 * 4) = false) :=
  ⟨w, .debug, 0x2400004, by decide +kernel⟩
theorem test_meets_RegisterFields_12 : ∃ (s : State) (p : Path) (a : BitVec 32) (d : BitVec 64) (k : Nat), (s.writeReaches p a (.ces k 0)) :=
  ⟨w, .librarian 0, 0x150000, 7, 1024, by decide +kernel⟩
theorem test_meets_RegisterFields_13 : ∃ (s : State) (p : Path) (a : BitVec 32) (d : BitVec 64) (k : Nat), (s.writeReaches p a (.ces k 1)) :=
  ⟨w, .librarian 0, 0x150004, 7, 1024, by decide +kernel⟩
theorem test_meets_RegisterFields_14 : ∃ (s : State) (p : Path) (a : BitVec 32) (d : BitVec 64) (k : Nat), (s.writeReaches p a (.ces k 2)) :=
  ⟨w, .librarian 0, 0x150008, 7, 1024, by decide +kernel⟩
theorem test_meets_RegisterFields_15 : ∃ (s : State) (p : Path) (a : BitVec 32) (d : BitVec 64) (k : Nat), (s.writeReaches p a (.ces k 3)) :=
  ⟨w, .librarian 0, 0x15000C, 2 ^ 31, 1024, by decide +kernel⟩
theorem test_meets_RegisterFields_16 : ∃ (s : State) (p : Path) (a : BitVec 32) (d : BitVec 64) (k n : Nat), (s.writeReaches p a (.ces k n)) ∧ (4 ≤ n) :=
  ⟨w, .librarian 0, 0x150018, 1, 1024, 6, by decide +kernel⟩
theorem test_meets_RegisterFields_17 : ∃ (s : State) (p : Path) (a : BitVec 32) (d : BitVec 64) (t x : Nat), (s.writeReaches p a (.prog t x)) :=
  ⟨w, .librarian 0, 0x1B12008, 7, 1, 2, by decide +kernel⟩
theorem test_meets_RegisterFields_18 : ∃ (s : State) (p : Path) (a : BitVec 32) (d : BitVec 64) (off : Nat), (s.writeReaches p a (.payload off)) :=
  ⟨w, .librarian 0, 0xA1008, 0x04030201, 8, by decide +kernel⟩
theorem test_meets_RegisterFields_19 : ∃ (s : State) (p : Path) (a : BitVec 32) (d : BitVec 64) (off : Nat), (s.writeReaches p a (.archive off)) :=
  ⟨w, .librarian 0, 0x200008, 7, 8, by decide +kernel⟩
theorem test_meets_RegisterFields_20 : ∃ (s : State) (p : Path) (a : BitVec 32) (d : BitVec 64) (off : Nat), (s.writeReaches p a (.retained off)) :=
  ⟨w, .librarian 0, 0xE00008, 7, 8, by decide +kernel⟩
theorem test_meets_RegisterFields_21 : ∃ (s : State) (p : Path) (a : BitVec 32) (d : BitVec 64) (k n : Nat) (hi : Bool), (s.writeReaches p a (.counter k n hi)) :=
  ⟨w, .librarian 0, 0x7001804, 7, 1, 0, true, by decide +kernel⟩
theorem test_meets_RegisterFields_22 : ∃ (s : State) (p : Path) (a : BitVec 32) (d : BitVec 64), (s.writeReaches p a .unmapped) :=
  ⟨w, .librarian 0, 0x1000, 7, by decide +kernel⟩
theorem test_meets_RegisterFields_23 : ∃ (s : State) (p : Path) (a : BitVec 32) (d : BitVec 64), (s.writeReaches p a (.reg .ARC_WIN_SEL 0)) :=
  ⟨w, .librarian 0, 1442048, 7, by decide +kernel⟩
theorem test_meets_RegisterFields_24 : ∃ (s : State) (p : Path) (a : BitVec 32) (r : Reg) (i : Nat), (s.readReaches p a (.reg r i)) ∧ (r ∉ Reg.views) :=
  ⟨w.setWord .GRN_ECC_STS 1 0xFFFFFFFF, .librarian 0, aEcc, .GRN_ECC_STS, 1, by decide +kernel⟩
theorem test_meets_RegisterFields_25 : ∃ (s : State) (p : Path) (a : BitVec 32) (i : Nat), (s.readReaches p a (.reg .SWC_VOQ_OCC i)) :=
  ⟨w.setWord .SWC_VOQ_OCC 0 0xFFFFFFF, .librarian 0, 22021120, 0, by decide +kernel⟩
theorem test_meets_RegisterFields_26 : ∃ (s : State) (p : Path) (a : BitVec 32) (i : Nat), (s.readReaches p a (.reg .CAT_LD_OCC i)) :=
  ⟨w.setWord .CAT_LD_OCC 0 0xFFFFFFF, .librarian 0, 19922992, 0, by decide +kernel⟩
theorem test_meets_RegisterFields_27 : ∃ (s : State) (p : Path) (a : BitVec 32) (i : Nat), (s.readReaches p a (.reg .TFC_TIME_HI i)) :=
  ⟨w, .librarian 0, 524296, 0, by decide +kernel⟩
theorem test_meets_RegisterFields_28 : ∃ (s : State) (p : Path) (a : BitVec 32) (i : Nat), (s.readReaches p a (.reg .PMC_CNT_HI i)) :=
  ⟨w, .librarian 0, 30408712, 0, by decide +kernel⟩
theorem test_meets_RegisterFields_29 : ∃ (s : State) (p : Path) (a : BitVec 32) (i : Nat), (s.readReaches p a (.reg .PRT_PAT_CNT_HI i)) :=
  ⟨w, .librarian 0, 17829916, 0, by decide +kernel⟩
theorem test_meets_RegisterFields_30 : ∃ (s : State) (p : Path) (a : BitVec 32) (i : Nat), (s.readReaches p a (.reg .SEC_NONCE_HI i)) :=
  ⟨w, .librarian 0, 851988, 0, by decide +kernel⟩
theorem test_meets_RegisterFields_31 : ∃ (s : State) (p : Path) (a : BitVec 32) (i : Nat), (s.readReaches p a (.reg .TFC_TIME_LO i)) :=
  ⟨w, .librarian 0, 524292, 0, by decide +kernel⟩
theorem test_meets_RegisterFields_32 : ∃ (s : State) (p : Path) (a : BitVec 32) (i : Nat), (s.readReaches p a (.reg .PMC_CNT_LO i)) :=
  ⟨w, .librarian 0, 30408708, 0, by decide +kernel⟩
theorem test_meets_RegisterFields_33 : ∃ (s : State) (p : Path) (a : BitVec 32) (i : Nat), (s.readReaches p a (.reg .PRT_PAT_CNT_LO i)) :=
  ⟨w, .librarian 0, 17829912, 0, by decide +kernel⟩
theorem test_meets_RegisterFields_34 : ∃ (s : State) (p : Path) (a : BitVec 32) (i : Nat), (s.readReaches p a (.reg .SEC_MEAS_D i)) :=
  ⟨w, .librarian 0, 852736, 0, by decide +kernel⟩
theorem test_meets_RegisterFields_35 : ∃ (s : State) (p : Path) (a : BitVec 32) (i : Nat), (s.readReaches p a (.reg .TFC_POL_STS i)) :=
  ⟨w, .librarian 0, 23072780, 0, by decide +kernel⟩
theorem test_meets_RegisterFields_36 : ∃ (s : State) (p : Path) (a : BitVec 32) (i : Nat), (s.readReaches p a (.reg .CHIP_CES_SUM i)) :=
  ⟨w, .librarian 0, 1377280, 0, by decide +kernel⟩
theorem test_meets_RegisterFields_37 : ∃ (s : State) (p : Path) (a : BitVec 32) (i : Nat), (s.readReaches p a (.reg .ARC_WIN_SEL i)) :=
  ⟨w, .librarian 0, 1442048, 0, by decide +kernel⟩
theorem test_meets_RegisterFields_38 : ∃ (s : State) (p : Path) (a : BitVec 32) (i : Nat), (s.readReaches p a (.reg .TFC_GATE_CUR i)) :=
  ⟨w, .librarian 0, 23105548, 0, by decide +kernel⟩
theorem test_meets_RegisterFields_39 : ∃ (s : State) (p : Path) (a : BitVec 32) (r : Reg) (i : Nat), (s.readReaches p a (.reg r i)) ∧ (s.noWindow r i = true) :=
  ⟨w, .librarian 0, 0x5000008, .QMG_WIN_STS, 0, by decide +kernel⟩
theorem test_meets_RegisterFields_40 : ∃ (s : State) (p : Path) (a : BitVec 32) (k n : Nat), (s.readReaches p a (.ces k n)) :=
  ⟨w.discard 1024, .librarian 0, 0x150014, 1024, 5, by decide +kernel⟩
theorem test_meets_RegisterFields_41 : ∃ (s : State) (p : Path) (a : BitVec 32) (t x : Nat), (s.readReaches p a (.prog t x)) :=
  ⟨w, .librarian 0, 0x1B12008, 1, 2, by decide +kernel⟩
theorem test_meets_RegisterFields_42 : ∃ (s : State) (p : Path) (a : BitVec 32) (off : Nat), (s.readReaches p a (.payload off)) :=
  ⟨w, .librarian 0, 0xA1008, 8, by decide +kernel⟩
theorem test_meets_RegisterFields_43 : ∃ (s : State) (p : Path) (a : BitVec 32) (off : Nat), (s.readReaches p a (.archive off)) :=
  ⟨w, .librarian 0, 0x200008, 8, by decide +kernel⟩
theorem test_meets_RegisterFields_44 : ∃ (s : State) (p : Path) (a : BitVec 32) (off : Nat), (s.readReaches p a (.retained off)) :=
  ⟨w, .librarian 0, 0xE00008, 8, by decide +kernel⟩
theorem test_meets_RegisterFields_45 : ∃ (s : State) (p : Path) (a : BitVec 32) (k n : Nat) (hi : Bool), (s.readReaches p a (.counter k n hi)) :=
  ⟨w, .librarian 0, 0x7001804, 1, 0, true, by decide +kernel⟩
theorem test_meets_RegisterFields_46 : ∃ (s : State) (p : Path) (a : BitVec 32), (s.readReaches p a .unmapped) :=
  ⟨w, .librarian 0, 0x1000, by decide +kernel⟩

/-- The record whose digest is D. -/
def recOf (D : Nat) : List Byte := recHead ++ leBytes 64 D ++ List.replicate 576 0

theorem recEmpty_eq : recEmpty = recOf (Config.shake256 (recHead ++ List.replicate 576 0)).toNat := rfl

/-- A number of n bytes reads back from its bytes. -/
theorem leNat_bytes (n v : Nat) : leNat (leBytes n v) = v % 256 ^ n := by
  induction n generalizing v with
  | zero => simp [leBytes, leNat, Nat.mod_one]
  | succ n ih =>
    have h : leBytes (n + 1) v = BitVec.ofNat 8 v :: leBytes n (v / 256) := by
      simp [leBytes, List.range_succ_eq_map, Function.comp_def, Nat.pow_succ', Nat.div_div_eq_div_mul]
    have e : leNat (leBytes (n + 1) v) = (BitVec.ofNat 8 v).toNat + 256 * leNat (leBytes n (v / 256)) := by rw [h]; rfl
    rw [e, ih, Nat.pow_succ', Nat.mod_mul]
    simp

theorem leBytes_length (n v : Nat) : (leBytes n v).length = n := by simp [leBytes]

theorem recOf_digest (D : Nat) : recN (recOf D) 64 64 = D % 256 ^ 64 := by
  have h : ((recOf D).drop 64).take 64 = leBytes 64 D := by
    have e : recHead.length = 64 := by decide +kernel
    have f : (leBytes 64 D).length = 64 := leBytes_length 64 D
    simp only [recOf, List.append_assoc]
    rw [List.drop_left' e, List.take_left' f]
  rw [recN, h, leNat_bytes]

/-- What a record says does not depend on what follows it. -/
theorem recN_append (l r : List Byte) (k n : Nat) (h : k + n ≤ l.length) : recN (l ++ r) k n = recN l k n := by
  rw [recN, recN, List.drop_append_of_le_length (by omega), List.take_append_of_le_length (by rw [List.length_drop]; omega)]

theorem recEmpty_length : recEmpty.length = 704 := by decide +kernel

theorem recEmpty_good (r : List Byte) : (recMap (recEmpty ++ r)).digestGood = true := by
  have n := recEmpty_length
  have l : recN (recEmpty ++ r) 8 4 = 704 := by rw [recN_append _ _ _ _ (by rw [n]; decide)]; decide +kernel
  have t : (recEmpty ++ r).take 64 ++ ((recEmpty ++ r).take 704).drop 128 = recHead ++ List.replicate 576 0 := by
    have e : recHead.length = 64 := by decide +kernel
    have f : (leBytes 64 (Config.shake256 (recHead ++ List.replicate 576 0)).toNat).length = 64 := leBytes_length 64 _
    rw [List.take_append_of_le_length (Nat.le_of_eq n.symm), List.take_of_length_le (Nat.le_of_eq n),
      List.take_append_of_le_length (by rw [n]; decide)]
    rw [recEmpty, List.drop_left' (by rw [List.length_append, e, f]), List.append_assoc, List.take_left' e]
  have d : recN (recEmpty ++ r) 64 64 = (Config.shake256 (recHead ++ List.replicate 576 0)).toNat := by
    rw [recN_append _ _ _ _ (by rw [n]; decide), recEmpty_eq, recOf_digest]
    exact Nat.mod_eq_of_lt (Nat.lt_of_lt_of_eq (Config.shake256 _).isLt (by decide +kernel))
  have m : 704 ≤ (recEmpty ++ r).length := by rw [List.length_append, n]; exact Nat.le_add_right _ _
  show (decide (128 ≤ recN (recEmpty ++ r) 8 4) && decide (recN (recEmpty ++ r) 8 4 ≤ 17104) && decide (recN (recEmpty ++ r) 8 4 ≤ (recEmpty ++ r).length) &&
    recN (recEmpty ++ r) 64 64 == (Config.shake256 ((recEmpty ++ r).take 64 ++ ((recEmpty ++ r).take (recN (recEmpty ++ r) 8 4)).drop 128)).toNat) = true
  rw [l, t, d, beq_self_eq_true, decide_eq_true m]
  rfl

/-- The record's fields: no queue, no policer, no descriptor, no channel. -/
theorem recEmpty_map (r : List Byte) : recMap (recEmpty ++ r) = ⟨recEmpty ++ r, 0, 0, 0, 0⟩ := by
  have n := recEmpty_length
  have z (k m : Nat) (h : k + m ≤ 704) : recN (recEmpty ++ r) k m = recN recEmpty k m := recN_append _ _ _ _ (by rw [n]; exact h)
  rw [recMap, z 12 2 (by decide), z 14 2 (by decide), z 16 2 (by decide), z 40 8 (by decide)]
  rfl

/-- The empty record may be restored into carrel 4 of wRst, from the host and from HBM. -/
theorem recEmpty_restores (u : State) (host : Bool) (r : List Byte) (h : u.recordAllowed ⟨recEmpty ++ r, 0, 0, 0, 0⟩ 4 host = true)
    (g : u.recordGood ⟨recEmpty ++ r, 0, 0, 0, 0⟩ 4 (u.get CRL_ARG1.QID_BASE 0) = true) :
    u.restoreResult (recMap (recEmpty ++ r)) 4 (u.get CRL_ARG1.QID_BASE 0) host = 0 := by
  have n := recEmpty_length
  have a : recN (recEmpty ++ r) 0 4 = 0x4D4C5243 := by rw [recN_append _ _ _ _ (by rw [n]; decide)]; decide +kernel
  have b : recN (recEmpty ++ r) 4 2 = 1 := by rw [recN_append _ _ _ _ (by rw [n]; decide)]; decide +kernel
  rw [State.restoreResult, recEmpty_good, recEmpty_map, a, b, h, g]
  rfl

theorem test_meets_CarrelLifeCycle_11 : ∃ (s u : State) (p : Path) (k : Carrel) (b : List Byte), (s.admits p setCrl) ∧ (s.flag CRL_CMD.BUSY 0 = false) ∧
    (s.get CRL_CFG.STATE k.toNat = 0) ∧ (s.dmv.restoring = none) ∧
    (u = (((s.set CRL_CMD.CARREL 0 k.toNat).set CRL_CMD.OP 0 5).set CRL_CMD.DEST 0 1).set CRL_CMD.RESULT 0 0) ∧
    (u.restoreResult (recMap b) k.toNat (u.get CRL_ARG1.QID_BASE 0) true = 0) :=
  ⟨wRst, _, .librarian, 4, recEmpty ++ [], by decide +kernel, by decide +kernel, by decide +kernel, rfl, rfl,
    recEmpty_restores _ true [] (by decide +kernel) (by decide +kernel)⟩

/-- Bytes that all read 0. -/
theorem peeks_zero (m : List Host.Cell) (a n : Nat) (h : ∀ b, a ≤ b → peek m b = 0) : peeks m a n = List.replicate n 0 := by
  induction n generalizing a with
  | zero => rfl
  | succ n ih => rw [peeks, h a (Nat.le_refl a), ih (a + 1) (fun b g => h b (by omega)), List.replicate_succ]

set_option maxRecDepth 1000000 in
theorem test_meets_CarrelLifeCycle_12 : ∃ (s u : State) (p : Path) (k : Carrel) (b : List Byte), (s.admits p setCrl) ∧ (s.flag CRL_CMD.BUSY 0 = false) ∧
    (s.get CRL_CFG.STATE k.toNat = 0) ∧ (s.dmv.restoring = none) ∧
    (u = (((s.set CRL_CMD.CARREL 0 k.toNat).set CRL_CMD.OP 0 5).set CRL_CMD.DEST 0 0).set CRL_CMD.RESULT 0 0) ∧
    (b = peeks u.hbm (recordAt (u.get CRL_ARG0.PORT 0) (u.get CRL_ARG1.SRC_CARREL 0)) 17104) ∧
    (u.restoreResult (recMap b) k.toNat (u.get CRL_ARG1.QID_BASE 0) false = 0) := by
  let u : State := (((wRstHbm.set CRL_CMD.CARREL 0 4).set CRL_CMD.OP 0 5).set CRL_CMD.DEST 0 0).set CRL_CMD.RESULT 0 0
  have k : recordAt (u.get CRL_ARG0.PORT 0) (u.get CRL_ARG1.SRC_CARREL 0) = recordAt 0 0 := by decide +kernel
  have h : u.hbm = pokes wRst.hbm (recordAt 0 0) recEmpty := rfl
  have e : peeks u.hbm (recordAt (u.get CRL_ARG0.PORT 0) (u.get CRL_ARG1.SRC_CARREL 0)) 17104 =
      recEmpty ++ peeks u.hbm (recordAt 0 0 + recEmpty.length) 16400 := by
    have l : 17104 = recEmpty.length + 16400 := by rw [recEmpty_length]
    rw [k, h, l]
    exact peeks_pokes _ _ _ _
  refine ⟨wRstHbm, u, .librarian, 4, _, by decide +kernel, by decide +kernel, by decide +kernel, rfl, rfl, rfl, ?_⟩
  have z : peeks u.hbm (recordAt 0 0 + recEmpty.length) 16400 = List.replicate 16400 0 := peeks_zero _ _ _ (fun b g => by
    rw [h, peek_pokes_out _ _ _ _ (.inr g)]
    rfl)
  rw [e, z]
  exact recEmpty_restores u false _ (by decide +kernel) (by decide +kernel)

theorem test_meets_StepKeepsInvariant_1 : ∃ (s t : State), (s.Inv) ∧ (step s = .next t) := ⟨w, tick w, by decide +kernel, rfl⟩

theorem test_meets_ChipFatalStays_1 : ∃ (c : Instr) (s t : State), (s.fatal = true) ∧ (c ≠ .powerOn) ∧ (c ≠ .keeperPowerLoss) ∧
    (∀ v, c ≠ .railConversion 6 v) ∧ (exec c s = .next t) :=
  ⟨.sramWiped, { w with fatal := true }, _, rfl, nofun, nofun, nofun, rfl⟩

theorem test_meets_ChipFatalStays_2 : ∃ (s t : State) (v : RailReading), (s.fatal = true) ∧ (v.bad = false) ∧ (s.get CRS_RAIL_LO.RESET 6 ≤ railLowest v) ∧
    (exec (.railConversion 6 v) s = .next t) :=
  ⟨{ w with fatal := true }, _, ⟨[2000], false⟩, rfl, rfl, by decide +kernel, rfl⟩

/-! Ill-formed commands, one for each check. -/

theorem test_illformed_register_size : Instr.wf (.registerWrite .manager 0 0 0) = false := by decide +kernel
theorem test_illformed_register_size_over : Instr.wf (.registerWrite .manager 0 0 65) = false := by decide +kernel
theorem test_illformed_release_count : Instr.wf (.releaseDynamicCapacity 3 5 (2 ^ 20)) = false := by decide +kernel
theorem test_illformed_birsp_tracker : Instr.wf (.biRsp 1 8192 0 .i) = false := by decide +kernel
theorem test_illformed_snoop_tracker : Instr.wf (.d2hSnoopResponse 1 8192 0 .s none) = false := by decide +kernel
theorem test_illformed_conflict_tracker : Instr.wf (.biConflict 1 8192 0 ⟨7, false⟩) = false := by decide +kernel
theorem test_illformed_data_ready_tracker : Instr.wf (.granaryDataReady 1 8192 .good) = false := by decide +kernel
theorem test_illformed_timeout_tracker : Instr.wf (.txnTimeout 1 8192) = false := by decide +kernel
theorem test_illformed_pause_tracker : Instr.wf (.txnPauseCap 1 8192) = false := by decide +kernel
theorem test_illformed_flit_destination : Instr.wf (.flitReceive 3 0 (some [{ kind := .m2sReq, dest := 68, data := [] }]) true []) = false := by decide +kernel
theorem test_illformed_slip_length : Instr.wf (.slipAdmit 1 4 0 5 0 (List.replicate 241 0) ⟨false, false⟩) = false := by decide +kernel
theorem test_illformed_margin_step : Instr.wf (.laneMarginingCommand 3 ⟨0, .timing true 128⟩) = false := by decide +kernel
theorem test_illformed_ide_session : Instr.wf (.ideKeyProg 3 true true 0 0 (2 ^ 32)) = false := by decide +kernel
theorem test_illformed_producer_size : Instr.wf (.producerDoorbell (.endpoint 5) ⟨0, false, false, 0⟩) = false := by decide +kernel
theorem test_illformed_consumer_size : Instr.wf (.consumerDoorbell (.endpoint 5) ⟨0, false, false, 65⟩) = false := by decide +kernel
theorem test_illformed_deliver_length : Instr.wf (.slipDeliver 5 4 3 0 0 (List.replicate 241 0) false) = false := by decide +kernel
theorem test_illformed_burst_length : Instr.wf (.dmvBurstComplete 3 0 .ok (List.replicate 257 0)) = false := by decide +kernel
theorem test_illformed_readback_length : Instr.wf (.readbackComplete 3 .ok (List.replicate 257 0)) = false := by decide +kernel
theorem test_illformed_request_handle : Instr.wf (.requestDeadline (2 ^ 32)) = false := by decide +kernel
theorem test_illformed_port_control_op : Instr.wf (.physicalPortControl .i3c 3 256) = false := by decide +kernel
theorem test_illformed_ppb_register : Instr.wf (.sendPpbCxlioConfigRequest .i3c 3 false 4096 0) = false := by decide +kernel
theorem test_illformed_bind_vppb : Instr.wf (.bindVppb .i3c 3 256 4 0) = false := by decide +kernel
theorem test_illformed_unbind_vppb : Instr.wf (.unbindVppb .i3c 3 256) = false := by decide +kernel
theorem test_illformed_aer_vppb : Instr.wf (.generateAerEvent .i3c 3 256) = false := by decide +kernel
theorem test_illformed_ld_register : Instr.wf (.sendLdCxlioConfigRequest .i3c 3 0 false 4096 0) = false := by decide +kernel
theorem test_illformed_ld_address : Instr.wf (.sendLdCxlioMemoryRequest .i3c 3 0 false (2 ^ 64) []) = false := by decide +kernel
theorem test_illformed_add_shelves : Instr.wf (.initiateDynamicCapacityAdd .i3c 3 (2 ^ 20) 0 0 0 0) = false := by decide +kernel
theorem test_illformed_release_shelves : Instr.wf (.initiateDynamicCapacityRelease .i3c 3 5 (2 ^ 20)) = false := by decide +kernel
theorem test_illformed_check_flash : Instr.wf (.supplyCheckPass [(9, 1), (8, 1)] []) = false := by decide +kernel
theorem test_illformed_early_flash : Instr.wf (.earlySectionsVerified [] [(2 ^ 32, 1)]) = false := by decide +kernel
theorem test_illformed_late_flash : Instr.wf (.lateSectionsChecked [(7, 1), (7, 2)]) = false := by decide +kernel
theorem test_illformed_spdm_endpoint : Instr.wf (.spdmRequest 67 .getVersion) = false := by decide +kernel
theorem test_illformed_debug_address : Instr.wf (.debugAccess (.hbmRaw 0 (2 ^ 35))) = false := by decide +kernel
theorem test_illformed_rail_corners : Instr.wf (.railConversion 0 ⟨[1, 2, 3], false⟩) = false := by decide +kernel
theorem test_illformed_rail_single : Instr.wf (.railConversion 6 ⟨[1, 2, 3, 4], false⟩) = false := by decide +kernel
theorem test_illformed_block_set : Instr.wf (.blockResetDone 1184) = false := by decide +kernel
theorem test_illformed_self_reset_set : Instr.wf (.selfResetTmo 1025) = false := by decide +kernel
theorem test_illformed_wait_set : Instr.wf (.blkWaitTmo 1184) = false := by decide +kernel
theorem test_illformed_mask_set : Instr.wf (.cesMaskWrite .manager 1184 0) = false := by decide +kernel
theorem test_illformed_merge_set : Instr.wf (.msixMergeEnd 1184) = false := by decide +kernel
theorem test_illformed_wear_sensors : Instr.wf (.wearSample []) = false := by decide +kernel
theorem test_illformed_counter_clear : Instr.wf (.counterClear .manager 2816) = false := by decide +kernel
theorem test_illformed_counter_read : Instr.wf (.counterLoRead .manager ⟨2816, false⟩) = false := by decide +kernel
theorem test_illformed_pulse_pin : Instr.wf (.pulseIgnored 128 5) = false := by decide +kernel
theorem test_illformed_pulse_width : Instr.wf (.pulseIgnored 3 0) = false := by decide +kernel
theorem test_wellformed_register : Instr.wf (.registerWrite .manager 0 0 4) = true := by decide +kernel

/-! No word spells a command. -/

theorem test_decode_none (n v : Nat) : decodeTableWord n v = none := rfl
theorem test_withFetchWord_same (s : State) (n v : Nat) : s.withFetchWord n v = s := rfl

/-! Single steps against the manual's worked examples. -/

/-- The next state of a meaning, or the state itself. -/
def nextOf (o : Result) (s : State) : State := match o with
  | .next t => t
  | _ => s

/-! Register Space: raising the retry delay of region C. -/

def wCat : State := w.setWord .CAT_CTL 2 0x00100402
theorem test_retry_delay : (nextOf (execRegisterWrite .librarian 0x03300000 0x00100802 4 wCat) w).word .CAT_CTL 2 = 0x00100802 := by decide +kernel
theorem test_retry_delay_out_of_range :
    ((nextOf (execRegisterWrite .librarian 0x03300000 0x00100002 4 wCat) w).word .CAT_CTL 2,
      ((nextOf (execRegisterWrite .librarian 0x03300000 0x00100002 4 wCat) w).cesSet (rgnSet 2 6 0)).count) = (0x00100402, 0x00010000) := by decide +kernel
theorem test_ces_count_clears : ((regRead .librarian 0x03F01814 (nextOf (execRegisterWrite .librarian 0x03300000 0x00100002 4 wCat) w)).1.1,
    ((regRead .librarian 0x03F01814 (nextOf (execRegisterWrite .librarian 0x03300000 0x00100002 4 wCat) w)).2.cesSet (rgnSet 2 6 0)).count) = (0x00010000, 0) := by decide +kernel

/-! Before ready (R382), and a port of 68-byte flits (R265). -/

theorem test_manager_write_before_ready : nextOf (execRegisterWrite .manager 0x03300000 0x00100802 4 wCat) w = wCat := by decide +kernel
theorem test_manager_read_before_ready : (nextOf (execRegisterReadClear .manager 0x03300000 w) w).out = [.readRefused .manager] := by decide +kernel
theorem test_manager_read_ready : (nextOf (execRegisterReadClear .manager 0x03300000 (wCat.set SEC_BOOT_STS.READY 0 1)) w).out =
    [.readData .manager 0x00100402] := by decide +kernel
def wEarly : State := ((wHome []).set SEC_BOOT_STS.READY 0 0).set PRT_PORT_STS.STATE 3 4
theorem test_host_read_before_ready :
    ((nextOf (execRdShared (acc fa5) wEarly) w).swc.spine.any (fun e => e.2.any (fun c => c.msg.any (poisonTo (agentId 0 3 0) 7)))) = true ∧
      (nextOf (execRdShared (acc fa5) wEarly) w).ces = [] := by decide +kernel
theorem test_no_back_invalidation : (wHome []).lookup (acc fa5) fa5 true false = none ∧
    ((wHome []).set LNK_STS.FLIT 3 2).lookup (acc fa5) fa5 true false = some (2, 0) := by decide +kernel

/-! Coherence Home: one line of the analytics pool. -/

theorem test_catalogue_lookup : (catLineNo 0x020000001040, catIndex 0x020000001040, catTag 0x020000001040) = (0x200000041, 0x80041, 0x80) := by decide +kernel
theorem test_entry_shared4 : mkEntry 0x80 1 false [0x000, 0x040, 0x080, 0x0C0] = 0x0C02004000310080 := by decide +kernel
theorem test_entry_owned : mkEntry 0x80 3 false [0x084] = 0x0000000021030080 := by decide +kernel
theorem test_fifth_sharer : (nextEntry { kind := .rdShared, a := acc 0x020000001040 } (some 0x004) 0x80 (0x0C02004000310080 : Entry) false false true).1 =
    (0x0000000000020080 : Entry) := by decide +kernel
theorem test_owner_shares : (nextEntry { kind := .rdShared, a := acc 0x020000001040 } (some 0x0C0) 0x80 (0x0000000021030080 : Entry) false true false).1 =
    (0x000000C021110080 : Entry) := by decide +kernel

/-! Granary: where a block of shelf 8,194 lies. -/

theorem test_granary_place : (grnBlock 0x020020000100, grnTag 0x020020000100, grnIndex 0x020020000100) = (0x80000001, 0x40, 0x40001) := by decide +kernel
theorem test_granary_sector : sectorKey 2 (grnIndex 0x020020000100) 3 0 = hbmAt 5 (0x08000000 + 256 * 3) := by decide +kernel

/-! Binding: the analytics pool's first record. -/

def wBind : State :=
  ((((wImg [(1, 320, 2)]).setWord .BND_SREC_D 0 0x0A005245).setWord .BND_SREC_D 1 0x00000400))
theorem test_record_written : (nextOf (execSrecWrite .librarian 0 8192 wBind) w).srec 8192 = 0x0000000000000001000004000A005245 := by decide +kernel
theorem test_group_written : Tab.get 0 (nextOf (execGrpCopiesDone 0
    (nextOf (execGrpWrite .librarian 0 5 ((w.setWord .BND_GRP_D 0 0x00030003).setWord .BND_GRP_D 1 0x00030003)) w)) w).bnd.group (4096 * 3 + 5) =
    0x0003000300030003 := by decide +kernel

/-! Priorities, Policing and Time Gates: the policer of carrel 37, and a gate list. -/

theorem test_policer : (nextOf (execPolicerCfgWrite .librarian 2053 0x00400C80 w) w).get TFC_POL_CFG.RATE 2053 = 3200 ∧
    ((nextOf (execPolicerCfgWrite .librarian 2053 0x00400C80 w) w).get TFC_POL_CFG.BURST 2053 = 64) := by decide +kernel
theorem test_gate_words : target 0x0160EA00 = .reg .TFC_GATE_DUR 1344 ∧ target 0x0160EA0C = .reg .TFC_GATE_MASK 1345 := by decide +kernel

/-! Queues: the context of QID 0x0_1234 and its window. -/

theorem test_context_place : ctxAt 0x01234 = hbmAt 0 0x500048D00 := by decide +kernel
theorem test_window_place : target 0x05024680 = .reg .QMG_WIN_DATA_LO 0x1234 := by decide +kernel

/-! Data movers: the record slot of carrel 37 in region B, and its staged words. -/

theorem test_record_slot : recordAt 20 37 = hbmAt 3 0x5A0190000 := by decide +kernel
theorem test_staged_carrel : (w.setWord .CRL_CFG 38 0x01803105).get CRL_CFG.PORT 38 = 24 ∧ (w.setWord .CRL_CFG 38 0x01803105).get CRL_CFG.PASID 38 = 0x3105 ∧
    (w.setWord .CRL_ARG1 0 0x02540200).get CRL_ARG1.QID_BASE 0 = 0x40200 := by decide +kernel

/-! Faults: region C isolates itself at 1,000,000 ms. -/

def wHour : State := { w with time := [(0, 1000000000000), (1, 1000000000000), (2, 1000000000000), (3, 1000000000000), (4, 1000000000000)] }
def wIso : State := wHour.record (regionOcc 2 (rgnSet 2 6 0) 8)
theorem test_isolation_first : (wIso.cesSet (rgnSet 2 6 0)).first = 0xF0000268 ∧ (wIso.cesSet (rgnSet 2 6 0)).sts = 0x100 := by decide +kernel
theorem test_isolation_cause : (nextOf (execRegionIsolated 2 wIso) w).word .CHIP_RGN_CAUSE 2 = 0x3D090286 ∧
    (nextOf (execRegionIsolated 2 wIso) w).word .CHIP_RGN_STS 0 = 0x20 := by decide +kernel

/-! Clocks, Resets, Supplies: the flush result. -/

theorem test_flush_result : (w.flushEnds 111 1 0).word .KPR_PD_STS 0 = 0x0000016F := by decide +kernel

/-! Telemetry: the count entry of code 0x300 in region A. -/

def wCount : State := { w with arc := { w.arc with counts := [(0x300, (5000, 8995000))] } }
theorem test_count_entry : (regRead .librarian 0x00201800 wCount).1.1 = 0x00001388 ∧ (regRead .librarian 0x00201804 wCount).1.1 = 0x8940B800 := by decide +kernel

/-! Librarian: the addresses of the watch script. -/

theorem test_port_status_place : target 0x011001A4 = .reg .PRT_PORT_STS 10 ∧ target 0x021001A0 = .reg .PRT_PORT_CTL 26 := by decide +kernel
theorem test_port_status_word : (((((((w.set PRT_PORT_STS.RATE 10 5).set PRT_PORT_STS.WIDTH 10 4).set PRT_PORT_STS.STATE 10 4).set PRT_PORT_STS.ROLE 10 2).set
    PRT_PORT_STS.PROTO 10 1).set PRT_PORT_STS.L0P_NEG 10 1).set PRT_PORT_STS.FAULTED 10 0x20).word .PRT_PORT_STS 10 = 0x20016425 := by decide +kernel

/-! Image: the registers after a start that fell back to slot B. -/

theorem test_boot_status : (((((w.set SEC_BOOT_STS.SLOT 0 1).set SEC_BOOT_STS.A_RESULT 0 8).set SEC_BOOT_STS.B_RESULT 0 1).set SEC_BOOT_STS.RESTARTS 0 1).set
    SEC_BOOT_STS.READY 0 1 |>.set SEC_BOOT_STS.READY_MS 0 96).word .SEC_BOOT_STS 0 = 0x00600A31 := by decide +kernel
theorem test_boot_fail : ((w.set SEC_BOOT_FAIL.SECT 0 7).set SEC_BOOT_FAIL.OFFSET 0 0x404).word .SEC_BOOT_FAIL 0 = 0x00004047 := by decide +kernel

/-! Slot power: the configuration words of SP0. -/

def wSlot : State := ((w.setWord .SPW_CFG0 0 0x01F43E83).setWord .SPW_CFG1 0 0x0503200A).setWord .SPW_CFG2 0 0x00FA0680
theorem test_slot_words : [wSlot.get SPW_CFG0.EN 0, wSlot.get SPW_CFG0.DIODE 0, wSlot.get SPW_CFG0.SENSE_UOHM 0, wSlot.get SPW_CFG0.THRESH 0,
    wSlot.get SPW_CFG1.SLEW 0, wSlot.get SPW_CFG1.FAULT_TMR 0, wSlot.get SPW_CFG1.RAMP_WIN 0, wSlot.get SPW_CFG2.DEBOUNCE_MS 0,
    wSlot.get SPW_CFG2.RETRIES 0, wSlot.get SPW_CFG2.TRIP_C 0] = [1, 1, 2000, 500, 10, 200, 10, 128, 3, 125] := by decide +kernel

/-! Pins at rest (R454). -/

theorem test_pins_in_reset : State.reset.pinCondition = .inReset ∧ State.reset.faultPair = (false, false) ∧ State.reset.lanesIdle 10 = true ∧
    State.reset.dnPerstHigh 10 = false ∧ State.reset.gateDriven 0 = false ∧ State.reset.sidebandActive = false := by decide +kernel
theorem test_pins_no_image : (w.chipFatal 0 0).pinCondition = .noImage ∧ (w.chipFatal 0 0).faultPair = (false, true) := by decide +kernel

end Sys2Proof.Tests
end

section
/-! SUPPORT. What every command keeps: the queue of waiting commands, the canonical forms of the memories and of the register words,
and CHIP_FATAL. `Keeps s₀ s` says that s has kept them since s₀; each function f of the model has one lemma `Keeps.f`, which says that f
keeps what its argument has kept, and is proved from the lemmas of the functions that f calls, branch by branch. -/
namespace Sys2Proof.Machine
open Sys2Proof

/-- A write keeps the order of a table. -/
theorem Tab.sorted_put {α : Type} [DecidableEq α] (d : α) (t : Tab α) (k : Nat) (v : α) (h : Tab.sorted t = true) :
    Tab.sorted (Tab.put d t k v) = true := by
  unfold Tab.put
  split
  · exact Tab.sorted_filter _ _ h
  · exact Tab.sorted_insert _ _ _ h

/-- The queue of waiting commands and the canonical forms. -/
structure KeepsForm (s t : State) : Prop where
  queue : t.pending = s.pending
  form  : s.Inv → t.Inv

theorem KeepsForm.trans {s t u : State} (h : KeepsForm s t) (g : KeepsForm t u) : KeepsForm s u :=
  ⟨g.queue.trans h.queue, fun i => g.form (h.form i)⟩

/-- The same, and CHIP_FATAL, once it stands. -/
structure Keeps (s t : State) : Prop extends KeepsForm s t where
  fatal : s.fatal = true → t.fatal = true

theorem Keeps.refl (s : State) : Keeps s s := ⟨⟨rfl, id⟩, id⟩

variable {s₀ s t : State}

section
variable {ces : Tab CesSet} {out : List Msg} {free : Nat} {time : Tab Nat} {lat : Latches} {boot : BootState} {sup : SupState}
  {flt : FltState} {i3c : I3cState} {spw : SpwState} {arc : ArcState} {bnd : BndState} {cat : CatState} {grn : GrnState} {swc : SwcState}
  {tfc : TfcState} {prt : PrtState} {ll : LlState} {qmg : QmgState} {dmv : DmvState} {lib : LibState}

/-- A change of fields in which none of the three stands. -/
theorem Keeps.fields (h : Keeps s₀ s) :
    Keeps s₀ { s with ces, out, free, time, lat, boot, sup, flt, i3c, spw, arc, bnd, cat, grn, swc, tfc, prt, ll, qmg, dmv, lib } :=
  ⟨⟨h.queue, h.form⟩, h.fatal⟩

theorem Keeps.withHbm {hbm : List Host.Cell} (h : Keeps s₀ s) (hm : Memory.wf s.hbm → Memory.wf hbm) :
    Keeps s₀ { s with hbm, ces, out, free, time, lat, boot, sup, flt, i3c, spw, arc, bnd, cat, grn, swc, tfc, prt, ll, qmg, dmv, lib } :=
  have form i := by
    obtain ⟨hhbm, hret, hregs⟩ := h.form i
    exact ⟨hm hhbm, hret, hregs⟩
  ⟨⟨h.queue, form⟩, h.fatal⟩

theorem Keeps.withRet {ret : List Host.Cell} (h : Keeps s₀ s) (hm : Memory.wf s.ret → Memory.wf ret) :
    Keeps s₀ { s with ret, ces, out, free, time, lat, boot, sup, flt, i3c, spw, arc, bnd, cat, grn, swc, tfc, prt, ll, qmg, dmv, lib } :=
  have form i := by
    obtain ⟨hhbm, hret, hregs⟩ := h.form i
    exact ⟨hhbm, hm hret, hregs⟩
  ⟨⟨h.queue, form⟩, h.fatal⟩

end

theorem Keeps.ite {c : Prop} [Decidable c] {a b : State} (ha : Keeps s₀ a) (hb : Keeps s₀ b) : Keeps s₀ (if c then a else b) := by
  split
  · exact ha
  · exact hb

theorem Keeps.foldl {β : Type} {l : List β} {f : State → β → State} (h : Keeps s₀ s)
    (hf : ∀ {u b}, Keeps s₀ u → Keeps s₀ (f u b)) : Keeps s₀ (l.foldl f s) := by
  induction l generalizing s with
  | nil => exact h
  | cons b l ih => exact ih (hf h)

/-- A function that answers a state with another value keeps, in its state. The predicates are of the pair and not of its part, so
that a pair of two branches is taken apart by `ite` and never computed. -/
def KeepsFst {α : Type} (s₀ : State) (x : State × α) : Prop := Keeps s₀ x.1

/-- The same where the state comes second. -/
def KeepsSnd {α : Type} (s₀ : State) (x : α × State) : Prop := Keeps s₀ x.2

section
variable {α : Type} {a : α} {x y : State × α} {z w : α × State}

theorem KeepsFst.pair (h : Keeps s₀ s) : KeepsFst s₀ (s, a) := h
theorem KeepsSnd.pair (h : Keeps s₀ s) : KeepsSnd s₀ (a, s) := h

theorem KeepsFst.fst (h : KeepsFst s₀ x) : Keeps s₀ x.1 := h
theorem KeepsSnd.snd (h : KeepsSnd s₀ z) : Keeps s₀ z.2 := h

theorem KeepsFst.of (h : KeepsFst s₀ x) (e : x = (t, a)) : Keeps s₀ t := by
  rw [e] at h
  exact h

theorem KeepsSnd.of (h : KeepsSnd s₀ z) (e : z = (a, t)) : Keeps s₀ t := by
  rw [e] at h
  exact h

theorem KeepsFst.ite {c : Prop} [Decidable c] (hx : KeepsFst s₀ x) (hy : KeepsFst s₀ y) : KeepsFst s₀ (if c then x else y) := by
  split
  · exact hx
  · exact hy

theorem KeepsSnd.ite {c : Prop} [Decidable c] (hz : KeepsSnd s₀ z) (hw : KeepsSnd s₀ w) : KeepsSnd s₀ (if c then z else w) := by
  split
  · exact hz
  · exact hw

theorem KeepsFst.foldl {β : Type} {l : List β} {f : State × α → β → State × α} (h : KeepsFst s₀ x)
    (hf : ∀ {u b}, KeepsFst s₀ u → KeepsFst s₀ (f u b)) : KeepsFst s₀ (l.foldl f x) := by
  induction l generalizing x with
  | nil => exact h
  | cons b l ih => exact ih (hf h)

theorem KeepsSnd.foldl {β : Type} {l : List β} {f : α × State → β → α × State} (h : KeepsSnd s₀ z)
    (hf : ∀ {u b}, KeepsSnd s₀ u → KeepsSnd s₀ (f u b)) : KeepsSnd s₀ (l.foldl f z) := by
  induction l generalizing z with
  | nil => exact h
  | cons b l ih => exact ih (hf h)

end

/-! The functions of Sys2Proof/Machine/Ops.lean. -/

theorem Keeps.setWord {r : Reg} {i : Nat} {v : Word} (h : Keeps s₀ s) : Keeps s₀ (s.setWord r i v) where
  queue := h.queue
  form inv := by
    obtain ⟨hhbm, hret, hregs⟩ := h.form inv
    exact ⟨hhbm, hret, Tab.sorted_put _ _ _ _ hregs⟩
  fatal := h.fatal

theorem Keeps.set {f : Fld} {i v : Nat} (h : Keeps s₀ s) : Keeps s₀ (s.set f i v) :=
  h.setWord

theorem Keeps.bump {f : Fld} {i n : Nat} (h : Keeps s₀ s) : Keeps s₀ (s.bump f i n) :=
  h.set

theorem Keeps.raise {f : Fld} {i v : Nat} (h : Keeps s₀ s) : Keeps s₀ (s.raise f i v) :=
  h.set

theorem Keeps.setBits {f : Fld} {i m : Nat} (h : Keeps s₀ s) : Keeps s₀ (s.setBits f i m) :=
  h.set

theorem Keeps.clearBits {f : Fld} {i m : Nat} (h : Keeps s₀ s) : Keeps s₀ (s.clearBits f i m) :=
  h.set

theorem Keeps.emit {m : Msg} (h : Keeps s₀ s) : Keeps s₀ (s.emit m) :=
  h.fields

theorem Keeps.emits {ms : List Msg} (h : Keeps s₀ s) : Keeps s₀ (s.emits ms) := by
  induction ms generalizing s with
  | nil => exact h
  | cons m ms ih => exact ih h.emit

theorem Keeps.hbmWrite {stack a n v : Nat} (h : Keeps s₀ s) : Keeps s₀ (s.hbmWrite stack a n v) :=
  h.withHbm fun hm => wf_pokeN _ _ _ hm

theorem Keeps.retWrite {a n v : Nat} (h : Keeps s₀ s) : Keeps s₀ (s.retWrite a n v) :=
  h.withRet fun hm => wf_pokeN _ _ _ hm

theorem Keeps.setTime {t : Nat} (h : Keeps s₀ s) : Keeps s₀ (s.setTime t) :=
  h.fields

theorem Keeps.setRgn {r v : Nat} (h : Keeps s₀ s) : Keeps s₀ (s.setRgn r v) :=
  h.set

/-! The functions of Sys2Proof/Machine/Count.lean. -/

theorem Keeps.addCounter {fuel n k : Nat} (h : Keeps s₀ s) : Keeps s₀ (s.addCounter fuel n k) := by
  induction fuel generalizing s n k with
  | zero =>
    unfold State.addCounter
    exact .ite h.fields (.ite h.fields h.fields.set)
  | succ f ih =>
    unfold State.addCounter
    exact .ite h.fields (.ite (ih h.fields) h.fields.set)

theorem Keeps.count {r e qual k : Nat} (h : Keeps s₀ s) : Keeps s₀ (s.count r e qual k) :=
  .ite h (h.foldl .addCounter)

theorem Keeps.countChip {e qual k : Nat} (h : Keeps s₀ s) : Keeps s₀ (s.countChip e qual k) :=
  h.foldl .addCounter

theorem Keeps.countPort {p c k : Nat} (h : Keeps s₀ s) : Keeps s₀ (s.countPort p c k) :=
  .ite h h.addCounter

/-! The functions of Sys2Proof/Machine/Faults.lean. -/

theorem Keeps.setCes {set : Nat} {c : CesSet} (h : Keeps s₀ s) : Keeps s₀ (s.setCes set c) :=
  h.fields

theorem Keeps.discard {set : Nat} (h : Keeps s₀ s) : Keeps s₀ (s.discard set) :=
  h.setCes

theorem Keeps.ibiPend {kind : Nat} (h : Keeps s₀ s) : Keeps s₀ (s.ibiPend kind) :=
  .ite h.fields h

theorem Keeps.interrupt {set : Nat} (h : Keeps s₀ s) : Keeps s₀ (s.interrupt set) :=
  .ite (.ibiPend (.ite (.ite h.setCes h.setCes.emit) h)) (.ite (.ite h.setCes h.setCes.emit) h)

theorem Keeps.frozenLoss {u : Nat} (h : Keeps s₀ s) : Keeps s₀ (s.frozenLoss u) :=
  h.bump.fields

theorem Keeps.stageRecord {u : Nat} {rec : BitVec 256} (h : Keeps s₀ s) : KeepsFst s₀ (s.stageRecord u rec) :=
  .ite (.pair h.fields) (.pair h.bump.fields)

theorem Keeps.event {u code origin kind scope tiller arg0 arg1 : Nat} (h : Keeps s₀ s) :
    KeepsFst s₀ (s.event u code origin kind scope tiller arg0 arg1) :=
  .ite (.pair h) (.ite (.pair h.frozenLoss) (.ite (.ite h.fields.stageRecord (.pair h.fields)) (.pair h.fields.countChip)))

theorem Keeps.coreIrq {o : Occ} {fresh : Bool} (h : Keeps s₀ s) : Keeps s₀ (s.coreIrq o fresh) :=
  .ite (.emit (.ite h.emit h)) (.ite h.emit h)

theorem Keeps.note {o : Occ} (h : Keeps s₀ s) : KeepsFst s₀ (s.note o) := by
  unfold State.note
  extract_lets u c fresh captured c1 s1 s2 s3
  have g : Keeps s₀ s3 := .coreIrq (.ite h.setCes.interrupt h.setCes)
  exact .ite (.pair h) (.ite (.pair g) g.event)

theorem Keeps.askCopy {area trigger block bit : Nat} (h : Keeps s₀ s) : Keeps s₀ (s.askCopy area trigger block bit) :=
  .ite h.bump h.fields

theorem Keeps.slotsOff (h : Keeps s₀ s) : Keeps s₀ s.slotsOff :=
  h.foldl fun g => g.set.set.set.set.set

theorem Keeps.portsIdle {ps : List Nat} (h : Keeps s₀ s) : Keeps s₀ (s.portsIdle ps) :=
  h.foldl fun g => g.set.set.set.set

theorem Keeps.flushEnds {ms result unflushed : Nat} (h : Keeps s₀ s) : Keeps s₀ (s.flushEnds ms result unflushed) :=
  h.set.set.set.set

/-- The only change of CHIP_FATAL but a loss of power sets it (R472). -/
theorem Keeps.setFatal {x : FltState} (h : Keeps s₀ s) : Keeps s₀ { s with fatal := true, flt := x } where
  queue := h.queue
  form := h.form
  fatal _ := rfl

theorem Keeps.chipFatal {block bit : Nat} (h : Keeps s₀ s) : Keeps s₀ (s.chipFatal block bit) := by
  unfold State.chipFatal
  refine .ite h.askCopy (.foldl ?_ fun g => .ite g g.askCopy)
  exact .askCopy (.slotsOff (.portsIdle (.set (.setFatal (.ite h.flushEnds h)))))

theorem Keeps.regionFatal {r block bit : Nat} (h : Keeps s₀ s) : Keeps s₀ (s.regionFatal r block bit) :=
  .ite h.askCopy (.ite h (.ite (.askCopy (.ite h.setRgn.set.set h.setRgn.set.set.fields)) h.chipFatal))

theorem Keeps.selfReset {set : Nat} (h : Keeps s₀ s) : Keeps s₀ (s.selfReset set) :=
  h.fields

theorem Keeps.record {o : Occ} (h : Keeps s₀ s) : Keeps s₀ (s.record o) := by
  unfold State.record
  split
  next s1 ovr e =>
  extract_lets u s2
  have g1 : Keeps s₀ s1 := h.note.of e
  have g : Keeps s₀ s2 := .ite g1.note.fst g1
  exact .ite g.regionFatal (.ite g.chipFatal (.ite g.selfReset g))

theorem Keeps.archive {u code kind scope arg0 arg1 origin : Nat} (h : Keeps s₀ s) :
    Keeps s₀ (s.archive u code kind scope arg0 arg1 origin) :=
  .ite h.event.fst.note.fst h.event.fst

theorem Keeps.command {p : Path} {set : Nat} {f : State → State} (h : Keeps s₀ s) (hf : ∀ {u}, Keeps s₀ u → Keeps s₀ (f u)) :
    Keeps s₀ (s.command p set f) :=
  .ite h (.ite (hf h) h.discard)

theorem Keeps.start {p : Path} {set : Nat} {busy : Bool} {f : State → State} (h : Keeps s₀ s) (hf : ∀ {u}, Keeps s₀ u → Keeps s₀ (f u)) :
    Keeps s₀ (s.start p set busy f) :=
  h.command fun g => .ite g.discard (hf g)

theorem Keeps.startWith {p : Path} {set : Nat} {busy : Bool} {store f : State → State} (h : Keeps s₀ s)
    (hstore : ∀ {u}, Keeps s₀ u → Keeps s₀ (store u)) (hf : ∀ {u}, Keeps s₀ u → Keeps s₀ (f u)) :
    Keeps s₀ (s.startWith p set busy store f) :=
  h.command fun g => .ite (.discard (hstore g)) (hf g)

/-! The functions of Sys2Proof/Machine/Counters.lean. -/

theorem Keeps.extreme {u entry : Nat} {v : Int} {low : Bool} (h : Keeps s₀ s) : Keeps s₀ (s.extreme u entry v low) :=
  .ite h (.ite h.fields h)

theorem Keeps.columns {stack k : Nat} (h : Keeps s₀ s) : Keeps s₀ (s.columns stack k) :=
  h.count

theorem Keeps.sample {r src out tc bin : Nat} {h' : Hist} (h : Keeps s₀ s) : Keeps s₀ (s.sample r h' src out tc bin) :=
  .ite h (.ite h.frozenLoss h.fields)

theorem Keeps.latMark {p tc agent tag : Nat} (h : Keeps s₀ s) : Keeps s₀ (s.latMark p tc agent tag) :=
  .ite h (.ite h.fields h.fields)

theorem Keeps.latDone {p : Nat} {m : Msg} (h : Keeps s₀ s) : Keeps s₀ (s.latDone p m) := by
  unfold State.latDone
  split
  · exact h
  · split
    · exact h
    · exact h.fields.sample

/-! The functions of Sys2Proof/Machine/QueueOps.lean. -/

theorem Keeps.setCtx {q : Nat} {c : BitVec 512} (h : Keeps s₀ s) : Keeps s₀ (s.setCtx q c) :=
  h.withHbm fun hm => wf_pokeN _ _ _ hm

theorem Keeps.ownerIrq {q : Nat} {c : BitVec 512} (h : Keeps s₀ s) : Keeps s₀ (s.ownerIrq q c) :=
  .ite h.emit (.ite h.emit h.emit)

theorem Keeps.indexWord {q : Nat} {c : BitVec 512} (h : Keeps s₀ s) : Keeps s₀ (s.indexWord q c) :=
  h.emit.fields

theorem Keeps.indexDue {q : Nat} {c : BitVec 512} (h : Keeps s₀ s) : Keeps s₀ (s.indexDue q c) :=
  .ite h.fields h

theorem Keeps.qmgCapture {r q cause : Nat} (h : Keeps s₀ s) : Keeps s₀ (s.qmgCapture r q cause) :=
  .ite h (.ite h.bump h.set.set.set.set)

theorem Keeps.qmgError {q bit cause : Nat} (h : Keeps s₀ s) : Keeps s₀ (s.qmgError q bit cause) :=
  h.qmgCapture.record

theorem Keeps.carrelCount {k word n : Nat} (h : Keeps s₀ s) : Keeps s₀ (s.carrelCount k word n) :=
  h.fields

theorem Keeps.useCtx {q : Nat} (h : Keeps s₀ s) : Keeps s₀ (s.useCtx q) :=
  h.fields

theorem Keeps.waitCtx {q : Nat} {op : QOp} (h : Keeps s₀ s) : Keeps s₀ (s.waitCtx q op) :=
  h.bump.count.fields

theorem Keeps.writeHbm {key : Nat} {bs : List Byte} (h : Keeps s₀ s) : Keeps s₀ (s.writeHbm key bs) :=
  .columns (h.withHbm fun hm => wf_pokes _ _ hm)

theorem Keeps.ringPut {q : Nat} {c : BitVec 512} {data : List Byte} (h : Keeps s₀ s) : Keeps s₀ (s.ringPut q c data) := by
  unfold State.ringPut
  extract_lets off body c1 s1 c2 s2
  have g : Keeps s₀ s1 := .ite h.writeHbm h.emit
  exact .ite (.ownerIrq (.ite g.setCtx.indexWord g.setCtx)) g.setCtx.indexDue

theorem Keeps.ringWrite {q : Nat} {data : List Byte} (h : Keeps s₀ s) : KeepsFst s₀ (s.ringWrite q data) :=
  .ite (.pair h.ringPut) (.pair h.setCtx)

theorem Keeps.noticeStore {q i : Nat} {c : BitVec 512} {data : List Byte} (h : Keeps s₀ s) :
    Keeps s₀ (s.noticeStore q c i data) :=
  h.writeHbm.withHbm fun hm => wf_foldl _ _ hm fun _ _ g => wf_poke _ _ g

theorem Keeps.noticeWrite {q : Nat} {data : List Byte} (h : Keeps s₀ s) : KeepsFst s₀ (s.noticeWrite q data) := by
  unfold State.noticeWrite
  extract_lets c occ0 full cons c1 skip c2 c3 s1 s2 c4 s3 level
  have g : Keeps s₀ s3 := .setCtx (.ite h.noticeStore.set.set h.noticeStore)
  exact .ite (.pair h) (.pair (.ite g.ownerIrq g))

theorem Keeps.produce {q : Nat} {data : List Byte} (h : Keeps s₀ s) : KeepsFst s₀ (s.produce q data) := by
  unfold State.produce
  refine .ite h.noticeWrite (.ite ?_ (.pair h))
  split
  next s1 ok e =>
  have g : Keeps s₀ s1 := h.ringWrite.of e
  exact .ite (.pair g) (.pair g.qmgError)

/-! The functions of Sys2Proof/Machine/TrafficOps.lean. -/

theorem Keeps.setPolicer {n : Nat} {b : Bucket} (h : Keeps s₀ s) : Keeps s₀ (s.setPolicer n b) :=
  h.fields

theorem Keeps.takeTokens {n : Nat} (h : Keeps s₀ s) : Keeps s₀ (s.takeTokens n) :=
  h.setPolicer

theorem Keeps.chaff {n : Nat} (h : Keeps s₀ s) : Keeps s₀ (s.chaff n) :=
  h.bump.count

theorem Keeps.settleShapers (h : Keeps s₀ s) : Keeps s₀ s.settleShapers :=
  h.foldl .fields

theorem Keeps.charge {c n : Nat} (h : Keeps s₀ s) (e : s.charge c n = some t) : Keeps s₀ t := by
  unfold State.charge at e
  simp only at e
  split at e
  · cases e; exact h
  · split at e
    · cases e; exact h.fields
    · cases e

/-! The functions of Sys2Proof/Machine/Zwius.lean. -/

theorem Keeps.setZwl {z : Nat} {v : ZwlState} (h : Keeps s₀ s) : Keeps s₀ (s.setZwl z v) :=
  h.fields

theorem Keeps.sendUnit {z : Nat} {num : Option Nat} {again : Bool} {bs : List Byte} (h : Keeps s₀ s) :
    Keeps s₀ (s.sendUnit z num again bs) :=
  h.setZwl

theorem Keeps.zwlCtl {z type a b : Nat} (h : Keeps s₀ s) : Keeps s₀ (s.zwlCtl z type a b) :=
  h.setZwl.emit

/-! The functions of Sys2Proof/Machine/SwitchOps.lean. -/

theorem Keeps.sw {f : SwcState → SwcState} (h : Keeps s₀ s) : Keeps s₀ (s.sw f) :=
  h.fields

theorem Keeps.downDrop {p n : Nat} (h : Keeps s₀ s) : Keeps s₀ (s.downDrop p n) :=
  h.bump

theorem Keeps.zwlQueue {c : Cell} (h : Keeps s₀ s) : Keeps s₀ (s.zwlQueue c) :=
  .ite h.setZwl.zwlCtl h

theorem Keeps.mergePut {input : Nat} {c : Cell} (h : Keeps s₀ s) : Keeps s₀ (s.mergePut input c) :=
  h.zwlQueue.sw

theorem Keeps.dropCell {c : Cell} (h : Keeps s₀ s) : Keeps s₀ (s.dropCell c) :=
  .ite h.downDrop.bump h.downDrop

theorem Keeps.sampleLost {n : Nat} (h : Keeps s₀ s) : Keeps s₀ (s.sampleLost n) :=
  h.bump.sw

theorem Keeps.sampleWrite {n q : Nat} {capture : Bool} {data : List Byte} (h : Keeps s₀ s) :
    Keeps s₀ (s.sampleWrite n q capture data) := by
  unfold State.sampleWrite
  extract_lets lost
  split
  next s1 ok e =>
  have g : Keeps s₀ s1 := h.useCtx.produce.of e
  exact .ite g (.ite g.bump.sw g.sampleLost)

theorem Keeps.sampleItem {n q : Nat} {capture : Bool} {data : List Byte} (h : Keeps s₀ s) : Keeps s₀ (s.sampleItem n q capture data) :=
  .ite h.sampleWrite h.waitCtx

theorem Keeps.toMerge {input : Nat} {c : Cell} (h : Keeps s₀ s) : Keeps s₀ (s.toMerge input c) := by
  unfold State.toMerge
  split
  · exact h.sampleItem
  · exact .ite h.mergePut h.dropCell

theorem Keeps.sampleSend {r n q : Nat} {capture : Bool} {data : List Byte} (h : Keeps s₀ s) :
    Keeps s₀ (s.sampleSend r n q capture data) :=
  .ite h.toMerge h.sw

theorem Keeps.sampleOut {n : Nat} {data : List Byte} (h : Keeps s₀ s) : Keeps s₀ (s.sampleOut n data) :=
  .ite h.sampleSend.sampleSend h.sampleSend

theorem Keeps.gleanCell {n p seq : Nat} {c : Cell} {hbm : Bool} (h : Keeps s₀ s) : Keeps s₀ (s.gleanCell n p c hbm seq) := by
  unfold State.gleanCell
  refine .ite h.sw.sampleLost ?_
  split
  · exact .ite h.sw.takeTokens.sampleOut h.sw.chaff.sampleLost
  · exact h.sw.sampleOut

theorem Keeps.glean {p seq : Nat} {c : Cell} {hbm : Bool} (h : Keeps s₀ s) : Keeps s₀ (s.glean p c hbm seq) :=
  h.foldl fun g => .ite (.ite g.sw.gleanCell g.sw) g

theorem Keeps.markDelay {c : Cell} (h : Keeps s₀ s) : KeepsFst s₀ (s.markDelay c) :=
  .ite (.ite (.pair h.fields) (.pair h.fields)) (.pair h)

theorem Keeps.voqPut {p : Nat} {c : Cell} (h : Keeps s₀ s) : Keeps s₀ (s.voqPut p c) := by
  unfold State.voqPut
  exact h.set.raise.sw

theorem Keeps.ovfPut {p : Nat} {c0 : Cell} (h : Keeps s₀ s) : Keeps s₀ (s.ovfPut p c0) := by
  unfold State.ovfPut
  exact .sw (.writeHbm (.ite h.set.count.bump h.set.count))

theorem Keeps.voqAdmit {p : Nat} {c : Cell} (h : Keeps s₀ s) (e : s.voqAdmit p c = some t) : Keeps s₀ t := by
  unfold State.voqAdmit at e
  simp only at e
  split at e
  · cases e; exact h.dropCell
  · split at e
    · cases e
    · cases e
      exact .glean (.ite h.markDelay.fst.countPort.countPort.voqPut h.markDelay.fst.countPort.countPort.ovfPut)

theorem Keeps.creditBack {p : Nat} {need : List Nat} (h : Keeps s₀ s) : Keeps s₀ (s.creditBack p need) :=
  .ite (h.foldl fun g => g.fields.emit) h

theorem Keeps.admitHeld {p : Nat} (h : Keeps s₀ s) : Keeps s₀ (s.admitHeld p) := by
  unfold State.admitHeld
  refine .sw (KeepsFst.fst (.foldl (.pair h) (fun g => .ite (.pair g.fst) ?_)))
  split
  · exact .pair (.creditBack (.voqAdmit g.fst ‹_›))
  · exact .pair g.fst

theorem Keeps.arrive {p : Nat} {c : Cell} (h : Keeps s₀ s) : Keeps s₀ (s.arrive p c) := by
  unfold State.arrive
  refine .ite h.sw ?_
  simp only
  split
  · exact .creditBack (.voqAdmit h ‹_›)
  · exact h.sw

theorem Keeps.voqPop {p out tc : Nat} {c : Cell} (h : Keeps s₀ s) (e : s.voqPop p out tc = some (c, t)) : Keeps s₀ t := by
  unfold State.voqPop at e
  split at e
  · cases e
  · cases e; exact h.set.sw.admitHeld

theorem Keeps.emptyInput {p : Nat} (h : Keeps s₀ s) : Keeps s₀ (s.emptyInput p) := by
  unfold State.emptyInput
  exact .sw (h.set.foldl .set)

theorem Keeps.setSpray {a b v : Nat} (h : Keeps s₀ s) : Keeps s₀ (s.setSpray a b v) :=
  h.set.foldl .set

theorem Keeps.startExit {a b : Nat} (h : Keeps s₀ s) : Keeps s₀ (s.startExit a b) :=
  h.setSpray.sw.foldl fun g => .ite g.sw g

theorem Keeps.exitIfDone {a b : Nat} (h : Keeps s₀ s) : Keeps s₀ (s.exitIfDone a b) :=
  .ite h.setSpray h

theorem Keeps.drainWindow {fuel a f p : Nat} (h : Keeps s₀ s) : Keeps s₀ (State.drainWindow fuel s a f p) := by
  induction fuel generalizing s with
  | zero => exact h
  | succ n ih =>
    unfold State.drainWindow
    refine .ite (ih h.sw) ?_
    split
    · exact h
    · exact ih h.sw.set.toMerge

theorem Keeps.skipSeq {c : Cell} (h : Keeps s₀ s) : Keeps s₀ (s.skipSeq c) :=
  h.sw

theorem Keeps.reseq {a b : Nat} {c : Cell} (h : Keeps s₀ s) : Keeps s₀ (s.reseq a b c) := by
  unfold State.reseq
  refine .ite h.sw.sw.toMerge (.ite h.sw.toMerge.drainWindow (.ite ?_ h.bump))
  exact .ite h.bump (.ite h.dropCell.skipSeq (.ite h.sw.bump.count h))

theorem Keeps.pathFails {a b k : Nat} (h : Keeps s₀ s) : Keeps s₀ (s.pathFails a b k) :=
  .ite h (.ite h.setBits.setBits.record.record (h.setBits.setBits.record.foldl fun g => g.setSpray.sw))

theorem Keeps.dropOutput {p : Nat} (h : Keeps s₀ s) : Keeps s₀ (s.dropOutput p) := by
  unfold State.dropOutput
  extract_lets here voqs ovfs merged windowed mine staged n rsp s1 s2 drop some_ backs s3 s4 s5 s6 s7
  have g2 : Keeps s₀ s2 := (h.foldl .set).foldl .set
  have g4 : Keeps s₀ s4 := g2.set.sw.foldl .creditBack
  have g5 : Keeps s₀ s5 := .ite g4.bump g4
  have g7 : Keeps s₀ s7 := (g5.foldl .skipSeq).foldl .exitIfDone
  exact g7.downDrop.foldl .admitHeld

theorem Keeps.internalCell {a : Nat} {c0 : Cell} (h : Keeps s₀ s) : Keeps s₀ (s.internalCell a c0) :=
  .ite h.dropCell (.ite h.markDelay.fst.mergePut h.markDelay.fst.sw)

theorem Keeps.send {r u p tc : Nat} {need : List Nat} {m : Msg} {data : List Byte} (h : Keeps s₀ s) :
    Keeps s₀ (s.send r u p tc need m data) := by
  unfold State.send
  split
  · exact .ite h.bump h
  · exact h.internalCell

/-! The functions of Sys2Proof/Machine/BindOps.lean. -/

theorem Keeps.putSrec {x : Nat} {v : BitVec 128} (h : Keeps s₀ s) : Keeps s₀ (s.putSrec x v) :=
  h.fields

theorem Keeps.commitSrec {x : Nat} {v : BitVec 128} (h : Keeps s₀ s) : Keeps s₀ (s.commitSrec x v) :=
  h.putSrec

theorem Keeps.refuse {a : Access} {fa : Nat} {why : Nat × Nat} (h : Keeps s₀ s) : Keeps s₀ (s.refuse a fa why) :=
  .count (.archive (.record (.ite h.bump h.setWord.set.set.set.set.set.set)))

theorem Keeps.gone {ticket : Nat} (h : Keeps s₀ s) : Keeps s₀ (s.gone ticket) :=
  h.fields

theorem Keeps.setLost {x : Nat} (h : Keeps s₀ s) : Keeps s₀ (s.setLost x) :=
  .ite h h.putSrec

theorem Keeps.owes {x old new : Nat} (h : Keeps s₀ s) : Keeps s₀ (s.owes x old new) :=
  h.fields

theorem Keeps.groupOwes {g : Nat} (h : Keeps s₀ s) : Keeps s₀ (s.groupOwes g) :=
  h.fields

theorem Keeps.markPage {n j : Nat} {v : Bool} (h : Keeps s₀ s) : Keeps s₀ (s.markPage n j v) :=
  .ite h (.set (h.withHbm fun hm => wf_poke _ _ hm))

theorem Keeps.sourceWritten {fa port : Nat} (h : Keeps s₀ s) : Keeps s₀ (s.sourceWritten fa port) := by
  unfold State.sourceWritten
  simp only
  split
  · exact .ite h.markPage h
  · exact h

/-! The functions of Sys2Proof/Machine/TillerOps.lean. -/

theorem Keeps.setTiller {t : Nat} {x : Tiller} (h : Keeps s₀ s) : Keeps s₀ (s.setTiller t x) :=
  h.fields

theorem Keeps.postEvent {t bit : Nat} (h : Keeps s₀ s) : Keeps s₀ (s.postEvent t bit) :=
  .ite h (.ite h.bump.record h.setBits)

theorem Keeps.showEvents {t : Nat} (h : Keeps s₀ s) : Keeps s₀ (s.showEvents t) :=
  h.set

theorem Keeps.postHosted {t bit : Nat} {args : List Nat} (h : Keeps s₀ s) : KeepsFst s₀ (s.postHosted t bit args) :=
  .ite (.pair h) (.ite (.pair h) (.pair h.setTiller.showEvents))

theorem Keeps.hostedNote {r bit : Nat} {args : List Nat} (h : Keeps s₀ s) : Keeps s₀ (s.hostedNote r bit args) := by
  unfold State.hostedNote
  refine .ite ?_ h
  split
  · exact h.postHosted.fst
  · exact h

theorem Keeps.postTimer {t us : Nat} (h : Keeps s₀ s) : Keeps s₀ (s.postTimer t us) :=
  .ite h.setTiller.bump h.postHosted.fst

theorem Keeps.loadUserMpu {r t : Nat} (h : Keeps s₀ s) : Keeps s₀ (s.loadUserMpu r t) := by
  unfold State.loadUserMpu
  split
  · exact h
  · exact h.foldl fun g => g.setWord.setWord

theorem Keeps.nextHandler {r slot : Nat} (h : Keeps s₀ s) : Keeps s₀ (s.nextHandler r slot) := by
  unfold State.nextHandler
  simp only
  split
  · exact h.fields.loadUserMpu
  · exact h.fields

theorem Keeps.handlerWoken {t : Nat} (h : Keeps s₀ s) : Keeps s₀ (s.handlerWoken t) :=
  .ite h.nextHandler h

theorem Keeps.giveUp {t : Nat} (h : Keeps s₀ s) : Keeps s₀ (s.giveUp t) :=
  .ite h.nextHandler h

theorem Keeps.tilStart {t entry : Nat} (h : Keeps s₀ s) : Keeps s₀ (s.tilStart t entry) :=
  .handlerWoken (.setTiller (.set (.set (.set (.set (.set (h.foldl .setWord)))))))

theorem Keeps.tilHalt {t cause : Nat} (h : Keeps s₀ s) : Keeps s₀ (s.tilHalt t cause) :=
  h.set.set.set.setTiller.giveUp

theorem Keeps.svcEnd {t result : Nat} (h : Keeps s₀ s) : Keeps s₀ (s.svcEnd t result) :=
  h.setTiller

theorem Keeps.svcBarEnds {r k result : Nat} (h : Keeps s₀ s) : Keeps s₀ (s.svcBarEnds r k result) := by
  unfold State.svcBarEnds
  split
  · exact h.fields.svcEnd
  · exact h

/-! The functions of Sys2Proof/Machine/GranaryOps.lean. -/

theorem Keeps.setWay {k : Nat} {w : Way} (h : Keeps s₀ s) : Keeps s₀ (s.setWay k w) :=
  h.fields

theorem Keeps.putHbmLine {key : Nat} {d : LineData} (h : Keeps s₀ s) : Keeps s₀ (s.putHbmLine key d) :=
  .columns (h.withHbm fun hm => wf_pokeN _ _ _ hm)

theorem Keeps.openLine (h : Keeps s₀ s) : KeepsSnd s₀ s.openLine :=
  .pair h.fields

theorem Keeps.tagLookup {r g : Nat} (h : Keeps s₀ s) : Keeps s₀ (s.tagLookup r g) :=
  .ite h.fields h.fields.count

theorem Keeps.tagsBack {r : Nat} (h : Keeps s₀ s) : Keeps s₀ (s.tagsBack r) :=
  h.fields

theorem Keeps.touch {r g w age : Nat} (h : Keeps s₀ s) : Keeps s₀ (s.touch r g w age) :=
  .setWay (h.foldl fun g => .ite g.setWay g)

theorem Keeps.ledgerAdd {x reason : Nat} (h : Keeps s₀ s) : Keeps s₀ (s.ledgerAdd x reason) :=
  h.withHbm fun hm => wf_pokeN _ _ _ hm

theorem Keeps.ledgerClear {x : Nat} (h : Keeps s₀ s) : Keeps s₀ (s.ledgerClear x) :=
  h.withHbm fun hm => wf_pokeN _ _ _ hm

theorem Keeps.poisonStored {line reason arg : Nat} (h : Keeps s₀ s) : Keeps s₀ (s.poisonStored line reason arg) :=
  h.ledgerAdd.archive

theorem Keeps.fetch {x : BitVec 128} {line : Nat} (h : Keeps s₀ s) : Keeps s₀ (s.fetch x line) :=
  h.send

theorem Keeps.writeOut {line : Nat} {d : LineData} (h : Keeps s₀ s) : Keeps s₀ (s.writeOut line d) :=
  h.send

theorem Keeps.sendWrite {line : Nat} {f : WrFrom} {d : LineData} (h : Keeps s₀ s) : Keeps s₀ (s.sendWrite line f d) :=
  .ite h.fields h.writeOut.fields

theorem Keeps.eccCapture {r stack row col side : Nat} (h : Keeps s₀ s) : Keeps s₀ (eccCapture s r stack row col side) :=
  .ite h h.set.set.set.set.set

theorem Keeps.rowRepair {stack row : Nat} (h : Keeps s₀ s) : Keeps s₀ (rowRepair s stack row) :=
  .ite h h.fields

theorem Keeps.columnCorrected {r stack row col side : Nat} (h : Keeps s₀ s) : Keeps s₀ (columnCorrected s r stack row col side) :=
  .ite h.eccCapture.bump.record.fields.rowRepair h.eccCapture.bump.record.fields

theorem Keeps.keyCorrected {key : Nat} (h : Keeps s₀ s) : Keeps s₀ (keyCorrected s key) :=
  h.columnCorrected

theorem Keeps.keyLost {key : Nat} (h : Keeps s₀ s) : Keeps s₀ (keyLost s key) :=
  h.eccCapture.bump.rowRepair

theorem Keeps.sectorLostClean {r k i row col : Nat} (h : Keeps s₀ s) : Keeps s₀ (sectorLostClean s r k i row col) :=
  h.setWay.eccCapture.bump.record.rowRepair

theorem Keeps.sectorLostDirty {r k i row col : Nat} (h : Keeps s₀ s) : KeepsSnd s₀ (sectorLostDirty s r k i row col) :=
  .pair h.openLine.snd.putHbmLine.poisonStored.eccCapture.bump.record.rowRepair

theorem Keeps.sectorRead {k i : Nat} {found : ColRead} (h : Keeps s₀ s) : Keeps s₀ (s.sectorRead k i found) := by
  unfold State.sectorRead
  refine .ite h ?_
  split
  · exact h.columnCorrected
  · exact .ite h.sectorLostDirty.snd h.sectorLostClean
  · exact h

theorem Keeps.wayRead {k : Nat} {found : List ColRead} (h : Keeps s₀ s) : Keeps s₀ (s.wayRead k found) :=
  h.foldl .sectorRead

theorem Keeps.issueEntry {e : WbEntry} (h : Keeps s₀ s) : Keeps s₀ (s.issueEntry e) :=
  .count (h.foldl fun g => .ite g.sendWrite g)

theorem Keeps.drainHeld (h : Keeps s₀ s) : Keeps s₀ s.drainHeld :=
  .fields (h.foldl .writeOut)

theorem Keeps.drainBuffers (h : Keeps s₀ s) : Keeps s₀ s.drainBuffers :=
  .fields (h.drainHeld.foldl .issueEntry)

theorem Keeps.dropWb {p : WbEntry → Bool} (h : Keeps s₀ s) : Keeps s₀ (s.dropWb p) :=
  h.fields

theorem Keeps.toBuffer {k : Nat} {found : List ColRead} (h : Keeps s₀ s) : Keeps s₀ (s.toBuffer k found) :=
  h.wayRead.fields.drainBuffers

theorem Keeps.takeWay {r fa w : Nat} {hinted : Bool} {carrel : Option Nat} {found : List ColRead} (h : Keeps s₀ s) :
    Keeps s₀ (s.takeWay r fa w hinted carrel found) :=
  .touch (.setWay (.ite h.toBuffer h))

theorem Keeps.storeSector {r fa w : Nat} {d : LineData} {dirty : Bool} (h : Keeps s₀ s) : Keeps s₀ (s.storeSector r fa w d dirty) :=
  h.putHbmLine.setWay.fields

theorem Keeps.storeDirty {r fa w : Nat} {d : LineData} (h : Keeps s₀ s) : Keeps s₀ (s.storeDirty r fa w d) :=
  .ite h.storeSector.setWay (.ite h.storeSector h.storeSector.sendWrite)

theorem Keeps.restore {r fa w : Nat} {e : WbEntry} (h : Keeps s₀ s) : Keeps s₀ (s.restore r fa w e) :=
  .ite (.setWay (h.foldl fun g => .ite g.putHbmLine g)) (.dropWb (.setWay (h.foldl fun g => .ite g.putHbmLine g)))

theorem Keeps.shelfLost {x : Nat} (h : Keeps s₀ s) : Keeps s₀ (s.shelfLost x) := by
  unfold State.shelfLost
  extract_lets port s1 mine s2 bufs s3 lost s4
  have g2 : Keeps s₀ s2 := h.setLost.foldl fun g => .setWay (g.foldl fun k => .ite k.poisonStored k)
  have g3 : Keeps s₀ s3 := g2.foldl fun g => g.foldl fun k => .ite k.poisonStored k
  have g4 : Keeps s₀ s4 := (g3.foldl .poisonStored).dropWb
  exact g4.fields.record.hostedNote

theorem Keeps.grnPut {r fa : Nat} {f : WrFrom} {d : LineData} {hinted : Bool} {carrel : Option Nat} {found : List ColRead}
    (h : Keeps s₀ s) :
    KeepsFst s₀ (s.grnPut r fa f d hinted carrel found) := by
  unfold State.grnPut
  simp only
  split
  · exact .pair h.tagLookup.fields.storeDirty.touch
  · split
    · exact .pair h
    · refine .pair (.storeDirty ?_)
      split
      · exact h.tagLookup.fields.takeWay.restore
      · exact h.tagLookup.fields.takeWay
    · split
      · exact .ite (.pair h.tagLookup.fields.sendWrite) (.pair h.tagLookup.fields.fields)
      · exact .ite (.pair h.tagLookup.fields.archive.shelfLost) (.pair h.tagLookup.fields.sendWrite)

theorem Keeps.grnPoison {line reason arg : Nat} (h : Keeps s₀ s) : KeepsSnd s₀ (s.grnPoison line reason arg) := by
  unfold State.grnPoison
  simp only
  split
  · exact .pair (.fields (h.openLine.snd.poisonStored.grnPut.of ‹_›))
  · exact .pair (h.openLine.snd.poisonStored.grnPut.of ‹_›)

theorem Keeps.retryPuts {ctrl : Nat} (h : Keeps s₀ s) : Keeps s₀ (s.retryPuts ctrl) := by
  unfold State.retryPuts
  refine .foldl h (fun g => ?_)
  split
  · exact g
  · exact g.grnPut.of ‹_›

theorem Keeps.countBand {r cls : Nat} {hit : Bool} (h : Keeps s₀ s) : Keeps s₀ (s.countBand r cls hit) :=
  h.count.fields

theorem Keeps.grnRead {x : BitVec 128} {r fa : Nat} {carrel : Option Nat} {found : List ColRead} (h : Keeps s₀ s) :
    KeepsFst s₀ (s.grnRead x r fa carrel found) := by
  unfold State.grnRead
  simp only
  split
  · refine .pair (.countBand ?_)
    split
    · exact h.tagLookup.touch
    · exact h.tagLookup
  · refine .ite (.pair h.tagLookup.countBand) (.ite (.pair h.tagLookup.countBand.fetch) ?_)
    split
    · exact .pair h.tagLookup.countBand.fetch
    · exact .pair h
    · exact .ite (.pair (h.tagLookup.countBand.takeWay.fetch.foldl .fetch)) (.pair h.tagLookup.countBand.takeWay.fetch)

theorem Keeps.fillSector {r fa : Nat} {d : LineData} (h : Keeps s₀ s) : Keeps s₀ (s.fillSector r fa d) := by
  unfold State.fillSector
  split
  · exact .ite h (.ite h.storeSector.poisonStored h.storeSector)
  · exact h

/-! The functions of Sys2Proof/Machine/CatOps.lean. -/

theorem Keeps.putBacking {r i : Nat} {ways : List Entry} (h : Keeps s₀ s) : Keeps s₀ (s.putBacking r i ways) :=
  h.withHbm fun hm => wf_foldl _ _ hm fun _ _ g => wf_pokeN _ _ _ g

theorem Keeps.inCat {f : CatState → CatState} (h : Keeps s₀ s) : Keeps s₀ (s.inCat f) :=
  h.fields

theorem Keeps.catTouch {r i : Nat} (h : Keeps s₀ s) : Keeps s₀ (s.catTouch r i) := by
  unfold State.catTouch
  refine .inCat (.foldl h (fun g => .inCat ?_))
  split
  · exact .ite g.putBacking g
  · exact g

theorem Keeps.catFill {r i : Nat} (h : Keeps s₀ s) : Keeps s₀ (s.catFill r i) := by
  unfold State.catFill
  split
  · exact h.catTouch
  · exact h.inCat.catTouch

theorem Keeps.markPresence {r i : Nat} {ptrs : List Nat} (h : Keeps s₀ s) : Keeps s₀ (s.markPresence r i ptrs) :=
  h.inCat

theorem Keeps.setEntry {line : Nat} {e : Entry} (h : Keeps s₀ s) : Keeps s₀ (s.setEntry line e) := by
  unfold State.setEntry
  simp only
  split
  · exact h.catFill
  · split
    · exact h.catFill
    · exact h.catFill.inCat.markPresence

theorem Keeps.reclaimEntry {line : Nat} (h : Keeps s₀ s) : Keeps s₀ (s.reclaimEntry line) :=
  .ite h (.ite h.grnPoison.snd.bump.setEntry h.setEntry)

/-! The functions of Sys2Proof/Machine/Desk.lean. -/

theorem Keeps.setTrk {k : Nat} {t : Option Tracker} (h : Keeps s₀ s) : Keeps s₀ (s.setTrk k t) :=
  h.inCat

theorem Keeps.noteOcc {r : Nat} (h : Keeps s₀ s) : Keeps s₀ (s.noteOcc r) :=
  h.set.raise

theorem Keeps.markServed {a : Access} (h : Keeps s₀ s) : Keeps s₀ (s.markServed a) :=
  h.inCat

theorem Keeps.toAgent {q : Request} {m : Msg} {d : Option LineData} (h : Keeps s₀ s) : Keeps s₀ (s.toAgent q m d) := by
  unfold State.toAgent
  refine .ite h.send ?_
  split
  · exact h.send
  · exact h.send
  · exact h.send
  · exact h.emit
  · exact h.emit
  · exact h.emit

theorem Keeps.answer {q : Request} {g : GrantKind} {d : Option LineData} (h : Keeps s₀ s) : Keeps s₀ (s.answer q g d) := by
  unfold State.answer
  split
  · exact h
  · split
    · exact h.toAgent
    · exact h.toAgent

theorem Keeps.answerRefused {q : Request} (h : Keeps s₀ s) : Keeps s₀ (s.answerRefused q) := by
  unfold State.answerRefused
  refine .ite (.answer (KeepsSnd.snd (.openLine ?_))) (.answer ?_)
  · split
    · exact h.carrelCount
    · exact h
  · split
    · exact h.carrelCount
    · exact h

theorem Keeps.answerLost {q : Request} (h : Keeps s₀ s) : Keeps s₀ (s.answerLost q) :=
  .ite h.answerRefused.archive h.answerRefused

theorem Keeps.noteDdp {r : Nat} (h : Keeps s₀ s) : Keeps s₀ (s.noteDdp r) :=
  h.set

theorem Keeps.ddpEnter {q : Request} (h : Keeps s₀ s) : Keeps s₀ (s.ddpEnter q) :=
  h.inCat.noteDdp

theorem Keeps.ddpDone {q : Request} (h : Keeps s₀ s) : Keeps s₀ (s.ddpDone q) := by
  unfold State.ddpDone
  simp only
  split
  · exact h
  · exact .ite h.inCat.answer h.inCat

theorem Keeps.requestOver {q : Request} (h : Keeps s₀ s) : Keeps s₀ (s.requestOver q) :=
  .ite h.markServed.gone.ddpDone h.markServed.gone

theorem Keeps.endTrk {k : Nat} {t : Tracker} (h : Keeps s₀ s) : KeepsFst s₀ (s.endTrk k t) := by
  unfold State.endTrk
  refine .pair (.noteOcc (KeepsFst.fst ?_))
  split
  · exact .pair h.setTrk
  · split
    · exact .pair h.setTrk.setTrk
    · exact .pair h.setTrk

theorem Keeps.enter {q : Request} (h : Keeps s₀ s) : KeepsFst s₀ (s.enter q) := by
  unfold State.enter
  simp only
  split
  · split
    · exact .pair h
    · refine .ite (.pair h.setTrk.requestOver.answer) (.ite (.pair h.record.requestOver.answer)
        (.ite (.pair h.bump.count.inCat) ?_))
      split
      · exact .pair h.inCat
      · exact .pair h.setTrk.setTrk.noteOcc.raise
  · split
    · exact .pair h.inCat
    · exact .pair h.setTrk.noteOcc

theorem Keeps.dedupe {q : Request} (h : Keeps s₀ s) : KeepsFst s₀ (s.dedupe q) := by
  unfold State.dedupe
  simp only
  split
  · exact .ite (.pair h.bump.gone.answer) (.pair h.bump.gone.inCat)
  · exact .ite (.pair h.bump.inCat) h.ddpEnter.enter

theorem Keeps.storeChecks {q : Request} (h : Keeps s₀ s) : Keeps s₀ (s.storeChecks q) := by
  unfold State.storeChecks
  extract_lets x r c s1 s2 s3
  have g1 : Keeps s₀ s1 := by
    unfold s1
    split
    · exact h
    · exact h.record
    · exact h.setLost.record
  have g2 : Keeps s₀ s2 := .ite g1.record g1
  have g3 : Keeps s₀ s3 := .ite g2.record g2
  exact .ite g3.record g3

theorem Keeps.bankTurn {q : Request} (h : Keeps s₀ s) : Keeps s₀ (s.bankTurn q) :=
  .ite (.inCat (.ite h h.inCat)) (.ite h h.inCat)

theorem Keeps.stamp {q : Request} (h : Keeps s₀ s) : KeepsFst s₀ (s.stamp q) :=
  .ite h.fields.inCat.dedupe h.fields.inCat.enter

theorem Keeps.present {q : Request} (h : Keeps s₀ s) : KeepsFst s₀ (s.present q) := by
  unfold State.present
  refine .ite h.enter (.ite (.pair h.answerRefused) (.ite (.pair h.answerLost)
    (.ite (.pair h.answerRefused) (.ite h.bankTurn.stamp ?_))))
  simp only
  split
  · exact .pair h.bankTurn.fields
  · refine .ite (.pair h.bankTurn.inCat) ?_
    split
    · exact .pair h.bankTurn.storeChecks.refuse.answerRefused
    · exact h.bankTurn.storeChecks.stamp

theorem Keeps.workHold {k : Nat} (h : Keeps s₀ s) : KeepsFst s₀ (s.workHold k) := by
  unfold State.workHold
  split
  · exact .pair h
  split
  · exact .pair h
  refine .ite (.pair h.setTrk) ?_
  extract_lets r i s1 bad lost s1'
  have g1 : Keeps s₀ s1 := h.count
  have g : Keeps s₀ s1' := .ite (.ite g1.record g1.record.inCat) (.ite g1.record g1)
  split
  · exact .ite (.pair g.setTrk) (.pair g.catTouch.setTrk)
  · exact .pair g.count.setTrk.inCat

theorem Keeps.sendSnoop {r a line : Nat} {k : SnpKind} (h : Keeps s₀ s) : Keeps s₀ (s.sendSnoop r a k line) :=
  h.send

theorem Keeps.sendSnoops {k : Nat} {t : Tracker} {sn : List (Nat × SnpKind)} {bcast : Bool} (h : Keeps s₀ s) :
    Keeps s₀ (s.sendSnoops k t sn bcast) :=
  .setTrk (.ite (.count (h.foldl fun g => g.sendSnoop.count)) (h.foldl fun g => g.sendSnoop.count))

theorem Keeps.startEvict {k victim : Nat} {x : BitVec 128} {chain : List Nat} (h : Keeps s₀ s) :
    KeepsFst s₀ (s.startEvict k victim x chain) :=
  .pair h.reclaimEntry.setEntry.sendSnoops.noteOcc

theorem Keeps.needWay {k : Nat} {t : Tracker} (h : Keeps s₀ s) : KeepsFst s₀ (s.needWay k t) := by
  unfold State.needWay
  refine .ite (.pair h.setTrk) ?_
  simp only
  split
  · split
    · exact .pair h.setTrk
    · exact .startEvict (.count (.ite h.setTrk.record h.setTrk))
  · exact .pair h.setTrk

theorem Keeps.startRead {k : Nat} {t : Tracker} {q : Request} (h : Keeps s₀ s) : KeepsFst s₀ (s.startRead k t q) := by
  unfold State.startRead
  split
  · exact .pair (.setTrk (h.grnRead.of ‹_›))
  · exact .pair (.setTrk (h.grnRead.of ‹_›))
  · exact .pair (.setTrk (h.grnRead.of ‹_›))
  · exact .pair (.setTrk (KeepsSnd.snd (.openLine (h.grnRead.of ‹_›))))

theorem Keeps.reclaimLine {k v : Nat} {t : Tracker} (h : Keeps s₀ s) : KeepsFst s₀ (s.reclaimLine k v t) :=
  .pair h.setTrk.setTrk.noteOcc.raise.setEntry.reclaimEntry.setEntry.setTrk.setTrk.noteOcc

theorem Keeps.workDecide {k : Nat} (h : Keeps s₀ s) : KeepsFst s₀ (s.workDecide k) := by
  unfold State.workDecide
  split
  · exact .pair h
  split
  · exact .pair h
  extract_lets r e x q t evicting fresh ways s2 t1 s3
  have g2 : Keeps s₀ s2 := .ite h h.setEntry
  have g3 : Keeps s₀ s3 := g2.sendSnoops
  refine .ite ?_ (.ite ?_ (.ite h.needWay ?_))
  · split
    · exact .pair h.setTrk
    · exact h.reclaimLine
  · split
    · exact .pair h.setTrk
    · exact .startEvict h.record.setTrk
  · split
    · exact .pair g3
    · exact .ite (.pair g3.startRead.fst) (.pair g3)

theorem Keeps.baseRead {t : Tracker} {q : Request} (h : Keeps s₀ s) : Keeps s₀ (s.baseRead t q) := by
  unfold State.baseRead
  split
  · exact h.sectorRead
  · exact h

theorem Keeps.storeAll {k : Nat} {t : Tracker} (h : Keeps s₀ s) : KeepsFst s₀ (s.storeAll k t) := by
  unfold State.storeAll
  extract_lets r put
  have hput {u t' d hinted c v after} (g : Keeps s₀ u) : KeepsFst s₀ (put u t' d hinted c v after) := by
    unfold put
    split
    next s1 e => exact .pair (g.grnPut.of e)
    next s1 e => exact .pair (g.grnPut.of e).setTrk
    next s1 e => exact .pair (g.grnPut.of e).setTrk
  split
  · exact hput h
  split
  · exact .pair h
  extract_lets hinted s'
  have g : Keeps s₀ s' := h.baseRead
  refine .ite (.pair h) (.ite (hput h) ?_)
  split
  · exact hput (.ite g (.ite g.archive g.poisonStored))
  · exact .ite (.pair g.openLine.snd.setTrk) (.pair g.fetch.setTrk)

theorem Keeps.conclude {k : Nat} {t : Tracker} {q : Request} (h : Keeps s₀ s) : KeepsFst s₀ (s.conclude k t q) := by
  unfold State.conclude
  extract_lets r x y gaveUp sAns iAns data
  split
  next e1 g e =>
  extract_lets keep e2 s1 s2 s3
  have g1 : Keeps s₀ s1 := .ite h h.setEntry
  have g2 : Keeps s₀ s2 := .ite g1.archive g1
  have g3 : Keeps s₀ s3 := .ite g2.bump g2.answer
  exact .pair g3.endTrk.fst.requestOver

theorem Keeps.evicted {k : Nat} {t : Tracker} (h : Keeps s₀ s) : KeepsFst s₀ (s.evicted k t) :=
  h.setEntry.endTrk

theorem Keeps.workSettle {k : Nat} (h : Keeps s₀ s) : KeepsFst s₀ (s.workSettle k) := by
  unfold State.workSettle
  split
  · exact .pair h
  refine .ite (.pair h) ?_
  split
  · split
    next s1 t1 e => exact .evicted (h.storeAll.of e)
    next s1 e => exact .pair (h.storeAll.of e)
  · refine .ite (.pair ?_) (.ite h.startRead ?_)
    · exact .answer (.requestOver (KeepsFst.fst (.endTrk (.ite h.record h.record.setEntry))))
    · split
      next s1 e => exact .pair (h.storeAll.of e)
      next s1 t1 e =>
        have g : Keeps s₀ s1 := h.storeAll.of e
        exact .ite g.conclude (.pair g.setTrk)

theorem Keeps.invalidate {r : Nat} (h : Keeps s₀ s) : KeepsFst s₀ (s.invalidate r) := by
  unfold State.invalidate
  split
  · exact .pair h
  · refine .ite (.pair h.inCat) ?_
    simp only
    split
    · exact .pair h.startEvict.fst
    · exact .pair h

theorem Keeps.roomFreed {ctrl : Nat} (h : Keeps s₀ s) : KeepsFst s₀ (s.roomFreed ctrl) := by
  unfold State.roomFreed
  refine .pair (.foldl h (fun g => ?_))
  split
  · exact g.setTrk
  · exact g

theorem Keeps.act {w : Work} (h : Keeps s₀ s) : KeepsFst s₀ (s.act w) := by
  unfold State.act
  split
  · exact h.present
  · exact h.workHold
  · exact h.workDecide
  · split
    · exact .ite h.workDecide (.pair h)
    · exact .pair h
  · exact h.workSettle
  · exact .pair h
  · split
    · exact .pair h
    · exact .pair h.inCat
  · exact .pair h
  · exact h.invalidate
  · exact h.retryPuts.roomFreed

theorem Keeps.run {n : Nat} {ws : List Work} (h : Keeps s₀ s) : Keeps s₀ (State.run n s ws) := by
  induction n generalizing s ws with
  | zero => exact h
  | succ n ih =>
    cases ws with
    | nil =>
      unfold State.run
      split
      · exact h
      · exact ih h.fields
    | cons w ws => exact ih h.act

theorem Keeps.work {ws : List Work} (h : Keeps s₀ s) : Keeps s₀ (s.work ws) :=
  h.run

theorem Keeps.deadAnswer {k agent reason : Nat} (h : Keeps s₀ s) : Keeps s₀ (s.deadAnswer k agent reason) := by
  unfold State.deadAnswer
  split
  · exact h
  · exact .ite h (.ite h.grnPoison.snd.setTrk h.setTrk)

/-! The functions of Sys2Proof/Machine/LinkLoss.lean. -/

theorem Keeps.die {a : Nat} {sc : DeadScope} (h : Keeps s₀ s) : Keeps s₀ (s.die a sc) :=
  .ite h h.inCat

theorem Keeps.portDies {p : Nat} (h : Keeps s₀ s) : Keeps s₀ (s.portDies p) :=
  h.foldl .die

theorem Keeps.rshEnded {n : Nat} (h : Keeps s₀ s) : Keeps s₀ (s.rshEnded n) :=
  h.hostedNote

theorem Keeps.rshAbort {n result : Nat} (h : Keeps s₀ s) : Keeps s₀ (s.rshAbort n result) :=
  .ite h (.work (.drainBuffers (.rshEnded (.set (.set (.fields (.ite h.commitSrec h)))))))

theorem Keeps.rshPortDown {p : Nat} (h : Keeps s₀ s) : Keeps s₀ (s.rshPortDown p) :=
  h.foldl fun g => .ite g (.ite g.rshAbort (.ite g.rshAbort g))

theorem Keeps.poolDown {p : Nat} (h : Keeps s₀ s) : Keeps s₀ (s.poolDown p) := by
  unfold State.poolDown
  refine .ite h (.rshPortDown (.work (.foldl h.setBits.fields (fun g => ?_))))
  split
  · exact .ite g.openLine.snd.setTrk g.setTrk
  · exact g

theorem Keeps.remoteOver {q : ReqOut} (h : Keeps s₀ s) : Keeps s₀ (s.remoteOver q) := by
  unfold State.remoteOver
  split
  · exact h.setTrk.noteOcc.work
  · exact h

theorem Keeps.backTo {q : ReqOut} {m : Msg} {d : Option LineData} (h : Keeps s₀ s) : Keeps s₀ (s.backTo q m d) :=
  h.send

theorem Keeps.pathLost {q : ReqOut} {u : Nat} (h : Keeps s₀ s) : Keeps s₀ (s.pathLost q u) :=
  .ite h.remoteOver.backTo.archive h.remoteOver.openLine.snd.backTo.archive

theorem Keeps.sendAgain {z : Nat} {q : ReqOut} (h : Keeps s₀ s) : Keeps s₀ (s.sendAgain z q) :=
  h.internalCell

theorem Keeps.zwlLoss {z : Nat} (h : Keeps s₀ s) : Keeps s₀ (s.zwlLoss z) := by
  unfold State.zwlLoss
  refine .ite h ?_
  simp only
  split
  · exact .inCat (h.inCat.foldl .sendAgain)
  · exact .foldl (.inCat (h.inCat.foldl .die)) .pathLost

theorem Keeps.lossOf {p : Nat} (h : Keeps s₀ s) : Keeps s₀ (s.lossOf p) :=
  .ite h.portDies (.ite (.ite (.poolDown (.ite h.die h)) (.ite h.die h)) (.ite h.zwlLoss h))

/-! The functions of Sys2Proof/Machine/Telemetry.lean. -/

theorem Keeps.storeRecord {u n : Nat} {rec : BitVec 256} (h : Keeps s₀ s) : Keeps s₀ (s.storeRecord u n rec) :=
  .ite h.hbmWrite h.retWrite

theorem Keeps.recordWrite {x : StageRead} (h : Keeps s₀ s) : Keeps s₀ (recordWrite x s) := by
  unfold Machine.recordWrite
  extract_lets u
  refine .ite h ?_
  split
  · exact h
  · extract_lets s' s1 n s2
    have g' : Keeps s₀ s' := h.fields
    have g1 : Keeps s₀ s1 := .ite g'.record g'
    have g2 : Keeps s₀ s2 := g1.storeRecord.set.countChip
    exact .ite g'.bump.record (.ite (.ite g2.set.record g2) g1.bump)

theorem Keeps.storeHist {r at_ key : Nat} (h : Keeps s₀ s) : Keeps s₀ (s.storeHist r at_ key) :=
  h.hbmWrite.foldl .hbmWrite

theorem Keeps.histFrame {r : Region} (h : Keeps s₀ s) : Keeps s₀ (histFrame r s) := by
  unfold Machine.histFrame
  extract_lets es used size now base s1 s2 s3 s4 _ s5
  have g3 : Keeps s₀ s3 := h.hbmWrite.hbmWrite.hbmWrite.hbmWrite.hbmWrite.hbmWrite
  have g5 : Keeps s₀ s5 := (g3.foldl .storeHist).fields
  exact .ite h (.ite g5.set.bump (.ite h h.set.record))

theorem Keeps.wearAdd {die band secs : Nat} (h : Keeps s₀ s) : Keeps s₀ (s.wearAdd die band secs) :=
  h.fields

theorem Keeps.wearSample {temps : List Int} (h : Keeps s₀ s) : Keeps s₀ (wearSample temps s) :=
  h.foldl fun g => g.wearAdd.extreme.fields

theorem Keeps.commandListed {p : Path} {keeper : Bool} {set : Nat} {f : State → State} (h : Keeps s₀ s)
    (hf : ∀ {u}, Keeps s₀ u → Keeps s₀ (f u)) :
    Keeps s₀ (s.commandListed p keeper set f) :=
  .ite h (.ite (hf h) (.ite h h.discard))

theorem Keeps.wearLoad (h : Keeps s₀ s) : Keeps s₀ (wearLoad s) :=
  .ite h.discard h.wearAdd

theorem Keeps.wearSeal (h : Keeps s₀ s) : Keeps s₀ (wearSeal s) :=
  h.set

theorem Keeps.copyCounts {u : Nat} (h : Keeps s₀ s) : Keeps s₀ (s.copyCounts u) :=
  .ite (.foldl (h.foldl .hbmWrite) .hbmWrite) h

theorem Keeps.arcFreeze {u : Nat} (h : Keeps s₀ s) : Keeps s₀ (arcFreeze u s) :=
  .ite h h.copyCounts.set

theorem Keeps.arcUnfreeze {u : Nat} (h : Keeps s₀ s) : Keeps s₀ (arcUnfreeze u s) :=
  h.set

theorem Keeps.freezeExpired {u : Nat} (h : Keeps s₀ s) : Keeps s₀ (freezeExpired u s) :=
  .ite h h.set.set.record

theorem Keeps.recordAreaRelease {u : Nat} (h : Keeps s₀ s) : Keeps s₀ (recordAreaRelease u s) :=
  h.set.set

theorem Keeps.histAreaRelease {r : Nat} (h : Keeps s₀ s) : Keeps s₀ (histAreaRelease r s) :=
  h.fields.set.set.set

theorem Keeps.extremesClear {u : Nat} (h : Keeps s₀ s) : Keeps s₀ (extremesClear u s) :=
  h.fields

theorem Keeps.counterClear {n : Nat} (h : Keeps s₀ s) : Keeps s₀ (counterClear n s) :=
  h.fields

theorem Keeps.latch {p : Path} {f : PathLatch → PathLatch} (h : Keeps s₀ s) : Keeps s₀ (s.latch p f) :=
  h.fields

theorem Keeps.readWith {p : Path} {unit : Nat} {keeper : Bool} {f : State → Word × State} (h : Keeps s₀ s)
    (hf : ∀ {u}, Keeps s₀ u → KeepsSnd s₀ (f u)) :
    Keeps s₀ (s.readWith p unit keeper f) :=
  .ite h.emit (.ite h.emit (.ite (.emit (KeepsSnd.snd (hf h))) h.emit))

theorem Keeps.counterLoRead {p : Path} {n : Nat} (h : Keeps s₀ s) : KeepsSnd s₀ (counterLoRead p n s) :=
  .pair h.latch

theorem Keeps.counterBad {n : Nat} (h : Keeps s₀ s) : Keeps s₀ (counterBad n s) :=
  h.counterClear.set.record

theorem Keeps.timeLoRead {p : Path} (h : Keeps s₀ s) : KeepsSnd s₀ (timeLoRead p s) :=
  .pair h.latch

theorem Keeps.capture (h : Keeps s₀ s) : Keeps s₀ (capture s) := by
  unfold Machine.capture
  split
  · exact h.bump.record
  · exact h.fields

theorem Keeps.snapshotCapture (h : Keeps s₀ s) : Keeps s₀ (snapshotCapture s) :=
  .ite h.capture h

theorem Keeps.storeSnapshot {n : Snapshot} {seq r : Nat} (h : Keeps s₀ s) : Keeps s₀ (s.storeSnapshot n seq r) := by
  unfold State.storeSnapshot
  extract_lets base st lead s1 s2 listed s3
  have h1 : Keeps s₀ s1 := h.withHbm fun hm => wf_wipeRange _ _ hm
  have h3 : Keeps s₀ s3 := .foldl h1.hbmWrite.hbmWrite .hbmWrite
  exact .ite (.foldl h3 .hbmWrite) h3

theorem Keeps.snapshotWritten (h : Keeps s₀ s) : Keeps s₀ (snapshotWritten s) := by
  unfold Machine.snapshotWritten
  split
  · exact h
  · exact .fields (.set (h.foldl fun g => .ite g g.storeSnapshot))

theorem Keeps.pulseIgnored {pin ns : Nat} (h : Keeps s₀ s) : Keeps s₀ (pulseIgnored pin ns s) :=
  h.archive

/-! The functions of Sys2Proof/Machine/Reset.lean. -/

theorem Keeps.keepField {old : State} {f : Fld} {i : Nat} (h : Keeps s₀ s) : Keeps s₀ (keepField old s f i) :=
  h.set

theorem Keeps.keepPins {old : State} (h : Keeps s₀ s) : Keeps s₀ (keepPins old s) :=
  h.foldl fun g => g.keepField.keepField

theorem Keeps.wiped (h : Keeps s₀ s) : Keeps s₀ (wiped s) where
  queue := h.queue
  form i₀ := ⟨rfl, (h.form i₀).2.1, rfl⟩
  fatal := h.fatal

theorem Keeps.chipWiped (h : Keeps s₀ s) : Keeps s₀ (chipWiped s) :=
  .keepPins (h.wiped.foldl .keepField)

theorem Keeps.fusesCut (h : Keeps s₀ s) : Keeps s₀ (fusesCut s) := by
  unfold Machine.fusesCut
  simp only
  split
  · exact .ite h.fields.set h
  · exact .fields (.ite h.fields.set h)

theorem Keeps.chipReset {cause rail high resume : Nat} (h : Keeps s₀ s) : Keeps s₀ (chipReset s cause rail high resume) :=
  h.fusesCut.chipWiped.set.set.set.bump.fields

theorem Keeps.rootsLost (h : Keeps s₀ s) : Keeps s₀ (rootsLost s) :=
  .set (.set (.set (.ite h.bump h)))

theorem Keeps.hkSourceSwitch (h : Keeps s₀ s) : Keeps s₀ (hkSourceSwitch s) :=
  .ite h h.set.set.bump

theorem Keeps.rootsKept {old : State} (h : Keeps s₀ s) : Keeps s₀ (rootsKept old s) :=
  .ite h.fields h.fields.set.hkSourceSwitch

theorem Keeps.ignoredReset (h : Keeps s₀ s) : Keeps s₀ (ignoredReset s) :=
  h.bump

theorem Keeps.fusesRead (h : Keeps s₀ s) : Keeps s₀ (fusesRead s) := by
  unfold Machine.fusesRead
  split
  · exact h
  · exact .ite h.set.fields (.ite h.set h)

theorem Keeps.scrappedStop (h : Keeps s₀ s) : Keeps s₀ (scrappedStop s) :=
  .ite h.record h

theorem Keeps.startBegins {step : Nat} (h : Keeps s₀ s) : Keeps s₀ (startBegins s step) :=
  h.set.fusesRead.fields.scrappedStop

theorem Keeps.internalRestart {cause : Nat} (h : Keeps s₀ s) : Keeps s₀ (internalRestart s cause) :=
  h.portsIdle.slotsOff.chipReset.rootsKept.startBegins

theorem Keeps.startAnew (h : Keeps s₀ s) : Keeps s₀ (startAnew s) := by
  unfold Machine.startAnew
  extract_lets s1 s2
  have g1 : Keeps s₀ s1 := h.startBegins.set
  have g2 : Keeps s₀ s2 := .ite g1.set g1.set.record
  exact .ite g2 g2.record

theorem Keeps.resumes (h : Keeps s₀ s) : Keeps s₀ (resumes s) :=
  .ite (.ite h.startAnew h) (.ite (.ite h.startBegins h) h)

theorem Keeps.powerDownEnds {ms result unflushed : Nat} (h : Keeps s₀ s) : Keeps s₀ (powerDownEnds s ms result unflushed) := by
  unfold Machine.powerDownEnds
  extract_lets s1 s2 s3 s4
  have g2 : Keeps s₀ s2 := .ite h.flushEnds.record h.flushEnds
  have g4 : Keeps s₀ s4 := g2.archive.portsIdle.slotsOff
  exact .ite g4.chipReset.rootsLost.resumes g4.chipReset.rootsKept.resumes

theorem Keeps.powerDownBegins {cause : Nat} (h : Keeps s₀ s) : Keeps s₀ (powerDownBegins s cause) :=
  .foldl (.fields (h.fields.set.foldl fun g => .ite g.set.set.set g)) fun g => g.set.set.set

theorem Keeps.brownout {rail high : Nat} (h : Keeps s₀ s) : Keeps s₀ (brownout s rail high) :=
  .rootsLost (.chipReset (.slotsOff (.portsIdle (.ite h.record.flushEnds h.record))))

/-- What a loss of power leaves of the state, before the fields that stand beside the tables (R453). -/
def powerKept (s : State) : State :=
  { pending := s.pending, out := s.out, free := s.free
    boot := { variant := s.boot.variant, nonces := s.boot.nonces, ownerHash := s.boot.ownerHash }
    grn := { key := s.grn.key + 1, otpLog := s.grn.otpLog } }

/-- A loss of power ends CHIP_FATAL; the queue and the canonical forms stand. -/
theorem KeepsForm.powerLost (s : State) : KeepsForm s (powerLost s) := by
  have h : Keeps (powerKept s) (Machine.powerLost s) := .fields (.foldl (.refl _) .keepField)
  exact ⟨h.queue, fun _ => h.form ⟨rfl, rfl, rfl⟩⟩

/-! The functions of Sys2Proof/Machine/Ports.lean. -/

theorem Keeps.portEvent {p bit : Nat} (h : Keeps s₀ s) : Keeps s₀ (s.portEvent p bit) :=
  .ite h.postEvent.setBits.ibiPend.hostedNote h.postEvent

theorem Keeps.portEvt {p bit : Nat} (h : Keeps s₀ s) : Keeps s₀ (s.portEvt p bit) :=
  h.setBits

theorem Keeps.slotEvent {c bit : Nat} (h : Keeps s₀ s) : Keeps s₀ (s.slotEvent c bit) :=
  .ite h.postEvent.setBits.ibiPend h.postEvent

theorem Keeps.linkCleared {p state : Nat} (h : Keeps s₀ s) : Keeps s₀ (s.linkCleared p state) := by
  unfold State.linkCleared
  extract_lets s1 s1' s2 _ _ s3
  have g1 : Keeps s₀ s1' := h.set.set.set.set.foldl .set
  have g3 : Keeps s₀ s3 := g1.set.set.set.setWord.fields
  exact .ite g3.set.setZwl g3

theorem Keeps.linkDown {p state : Nat} (h : Keeps s₀ s) : Keeps s₀ (s.linkDown p state) :=
  .ite h (.ite h.linkCleared.portEvent.portEvt.dropOutput.lossOf (.ite h h.set))

theorem Keeps.portContained {p : Nat} (h : Keeps s₀ s) : Keeps s₀ (s.portContained p) :=
  h.foldl fun g => .ite g (.emptyInput (.ite g.linkDown (.ite g.set.lossOf g.lossOf)))

theorem Keeps.dnPerstLow {p : Nat} (h : Keeps s₀ s) : Keeps s₀ (s.dnPerstLow p) :=
  h.set.linkDown

theorem Keeps.zwlDown {z : Nat} (h : Keeps s₀ s) : Keeps s₀ (s.zwlDown z) :=
  h.bump.record.portContained

/-! The functions of Sys2Proof/Machine/Binding.lean. -/

theorem Keeps.srecCmd {r x op : Nat} (h : Keeps s₀ s) : Keeps s₀ (srecCmd s r x op) :=
  h.set.set

theorem Keeps.onBind {x : Nat} {n : BitVec 128} (h : Keeps s₀ s) : Keeps s₀ (s.onBind x n) := by
  unfold State.onBind
  simp only
  split
  · exact h.ledgerClear.inCat
  · exact h.ledgerClear

theorem Keeps.srecCommit {x : Nat} {n : BitVec 128} (h : Keeps s₀ s) : Keeps s₀ (s.srecCommit x n) := by
  unfold State.srecCommit
  refine .owes (.ite ?_ (.ite h.commitSrec.onBind h.commitSrec))
  split
  · exact h.fields.rshAbort
  · exact h.commitSrec

theorem Keeps.srecRead {p : Path} {r : Region} {shelf : Sys2Proof.Shelf} (h : Keeps s₀ s) : Keeps s₀ (srecRead p r shelf s) :=
  .startWith h .srecCmd (fun g => .ite g.srecCmd.set (.set (g.srecCmd.foldl .setWord)))

theorem Keeps.srecWrite {p : Path} {r : Region} {shelf : Sys2Proof.Shelf} (h : Keeps s₀ s) : Keeps s₀ (srecWrite p r shelf s) :=
  .startWith h .srecCmd (fun g => .ite g.srecCmd.set.srecCommit (.ite g.srecCmd.set.discard g.srecCmd.set))

theorem Keeps.grpCmd {r g op : Nat} (h : Keeps s₀ s) : Keeps s₀ (grpCmd s r g op) :=
  h.set.set

theorem Keeps.grpRead {p : Path} {r : Region} {group : BitVec 12} (h : Keeps s₀ s) : Keeps s₀ (grpRead p r group s) :=
  .startWith h .grpCmd (fun g => g.grpCmd.foldl .setWord)

theorem Keeps.grpWrite {p : Path} {r : Region} {group : BitVec 12} (h : Keeps s₀ s) : Keeps s₀ (grpWrite p r group s) :=
  .startWith h .grpCmd (fun g => g.grpCmd.set.fields)

theorem Keeps.putGroup {g : Nat} {b : BitVec 256} (h : Keeps s₀ s) : Keeps s₀ (s.putGroup g b) :=
  h.fields.groupOwes

theorem Keeps.grpCopiesDone {r : Region} (h : Keeps s₀ s) : Keeps s₀ (grpCopiesDone r s) := by
  unfold Machine.grpCopiesDone
  split
  · exact h
  · exact h.putGroup.set.fields

theorem Keeps.ruleCmd {r n op : Nat} (h : Keeps s₀ s) : Keeps s₀ (ruleCmd s r n op) :=
  h.set.set

theorem Keeps.setRule {r n : Nat} {v : BitVec 128} (h : Keeps s₀ s) : Keeps s₀ (s.setRule r n v) :=
  h.fields

theorem Keeps.ruleRead {p : Path} {r : Region} {slot : BitVec 12} (h : Keeps s₀ s) : Keeps s₀ (ruleRead p r slot s) :=
  .startWith h .ruleCmd (fun g => .set (g.ruleCmd.foldl .setWord))

theorem Keeps.ruleWrite {p : Path} {r : Region} {slot : BitVec 12} (h : Keeps s₀ s) : Keeps s₀ (ruleWrite p r slot s) :=
  .startWith h .ruleCmd (fun g => .ite g.ruleCmd.set.setRule g.ruleCmd.set)

theorem Keeps.ruleClear {p : Path} {r : Region} {slot : BitVec 12} (h : Keeps s₀ s) : Keeps s₀ (ruleClear p r slot s) :=
  .startWith h .ruleCmd (fun g => .ite g.ruleCmd.set g.ruleCmd.setRule.set)

theorem Keeps.setBar {r k : Nat} {b : BarSlot} (h : Keeps s₀ s) : Keeps s₀ (s.setBar r k b) :=
  h.fields

theorem Keeps.barStart {r kind x : Nat} {all : Bool} (h : Keeps s₀ s) : Keeps s₀ (barStart s r kind all x) := by
  unfold Machine.barStart
  simp only
  split
  · exact h.set.set.set.set
  · exact h.set.set.set.setBar.set.set.setBits

theorem Keeps.bindingBarrierStart {p : Path} {r : Region} {all : Bool} {shelf : Sys2Proof.Shelf} (h : Keeps s₀ s) :
    Keeps s₀ (bindingBarrierStart p r all shelf s) :=
  h.command .barStart

theorem Keeps.ruleBarrierStart {p : Path} {r : Region} {all : Bool} {shelf : Sys2Proof.Shelf} (h : Keeps s₀ s) :
    Keeps s₀ (ruleBarrierStart p r all shelf s) :=
  h.command .barStart

theorem Keeps.covered {b : BarSlot} (h : Keeps s₀ s) : Keeps s₀ (s.covered b) :=
  .ite h.fields h.fields.inCat.work

theorem Keeps.barEnds {r k : Nat} (h : Keeps s₀ s) : Keeps s₀ (barEnds s r k) :=
  h.setBar.clearBits.setBits.covered

theorem Keeps.barEndsFor {r k result : Nat} (h : Keeps s₀ s) : Keeps s₀ (barEndsFor s r k result) :=
  .ite (.clearBits (.svcBarEnds (.ite h.barEnds.fields.clearBits h.barEnds))) (.ite h.barEnds.fields.clearBits h.barEnds)

theorem Keeps.barrierComplete {r : Region} {k : Fin 16} (h : Keeps s₀ s) : Keeps s₀ (barrierComplete r k s) :=
  .ite h.barEndsFor h

theorem Keeps.barrierTimeout {r : Region} {k : Fin 16} (h : Keeps s₀ s) : Keeps s₀ (barrierTimeout r k s) :=
  .ite (h.barEndsFor.set.foldl fun g => g.setLost.record.hostedNote) h

theorem Keeps.barrierSlotFree {p : Path} {r : Region} {mask : BitVec 16} (h : Keeps s₀ s) : Keeps s₀ (barrierSlotFree p r mask s) :=
  h.command .clearBits

theorem Keeps.rshStart {r n x : Nat} (h : Keeps s₀ s) : Keeps s₀ (rshStart s r n x) := by
  unfold Machine.rshStart
  split
  · exact h.set
  · exact .set (.set (.set (.set (.withHbm h.commitSrec fun hm => wf_pokes _ _ hm))))

theorem Keeps.reshelveStart {p : Path} {r : Region} {k : Fin 16} {shelf : Sys2Proof.Shelf} {thresh : BitVec 5} (h : Keeps s₀ s) :
    Keeps s₀ (reshelveStart p r k shelf thresh s) :=
  h.command fun g => .rshStart (.set (.set (.ite g.discard g.set)))

theorem Keeps.rshSwitch {n : Nat} (h : Keeps s₀ s) : Keeps s₀ (rshSwitch s n) :=
  .ite h (.ite h.set h.fields.set.set)

theorem Keeps.reshelveSwitch {p : Path} {r : Region} {k : Fin 16} (h : Keeps s₀ s) : Keeps s₀ (reshelveSwitch p r k s) :=
  h.command fun g => g.set.rshSwitch

theorem Keeps.reshelveAbort {p : Path} {r : Region} {k : Fin 16} (h : Keeps s₀ s) : Keeps s₀ (reshelveAbort p r k s) :=
  h.command fun g => .ite g.set.fields.rshAbort g.set

theorem Keeps.copyPages {n : Nat} {x : BitVec 128} {pages : List Nat} (h : Keeps s₀ s) : Keeps s₀ (s.copyPages n x pages) :=
  h.foldl fun g => g.emit.markPage

theorem Keeps.switchoverDrained {r : Region} {k : Fin 16} (h : Keeps s₀ s) : Keeps s₀ (switchoverDrained r k s) :=
  .ite h h.copyPages.commitSrec.fields.set.set.rshEnded.drainBuffers.work

theorem Keeps.switchoverStallTmo {r : Region} {k : Fin 16} {copied : Nat} (h : Keeps s₀ s) :
    Keeps s₀ (switchoverStallTmo r k copied s) :=
  .ite h (.ite (.rshAbort (.bump (.ite h.copyPages h))) (.work (.drainBuffers (.set (.fields (.bump (.ite h.copyPages h)))))))

/-! The functions of Sys2Proof/Machine/Switch.lean. -/

theorem Keeps.voqRead {p : Nat} {c : Cell} (h : Keeps s₀ s) (e : voqRead s p c = some t) : Keeps s₀ t := by
  unfold Machine.voqRead at e
  split at e
  · cases e; exact h
  · cases e; exact h.record
  · cases e

theorem Keeps.voqUncorrected {p : Nat} (h : Keeps s₀ s) : Keeps s₀ (voqUncorrected s p) :=
  h.record.portContained

theorem Keeps.iteration {reqs done : List (Nat × Nat × Nat)} (h : Keeps s₀ s) : KeepsFst s₀ (iteration s reqs done) :=
  .pair (.foldl (h.foldl .sw) .sw)

theorem Keeps.schedulerSlot (h : Keeps s₀ s) : Keeps s₀ (schedulerSlot s) := by
  unfold Machine.schedulerSlot
  refine .foldl (KeepsFst.fst (.iteration (KeepsFst.fst (.iteration (h.sw.foldl .toMerge))))) (fun g => ?_)
  split
  · exact g
  · split
    · exact .voqUncorrected (.voqPop g ‹_›)
    · exact .ite (.sw (.voqRead (.voqPop g ‹_›) ‹_›)) (.sw (.voqRead (.voqPop g ‹_›) ‹_›))

theorem Keeps.sendOn {a b k : Nat} {c : Cell} {again : Bool} (h : Keeps s₀ s) : Keeps s₀ (sendOn s a b k c again) :=
  .count (.sw (.ite h.bump h.sw))

theorem Keeps.spineArbitration {r d : Region} {k : SpinePath} (h : Keeps s₀ s) : Keeps s₀ (spineArbitration r d k s) := by
  unfold Machine.spineArbitration
  refine .ite h.record (.ite h ?_)
  split
  · exact h
  · exact h.sw.sendOn
  · exact h.sw.sendOn

theorem Keeps.spineCellReceive {r d : Region} {k : Fin 2} {good : Bool} (h : Keeps s₀ s) :
    Keeps s₀ (spineCellReceive r d k good s) := by
  unfold Machine.spineCellReceive
  split
  · exact .ite h.sw.sw.reseq.exitIfDone (.ite h.sw.sw.record.pathFails h.sw.sw.record)
  · exact h

theorem Keeps.spineAckReceive {r d : Region} {k : Fin 2} (h : Keeps s₀ s) : Keeps s₀ (spineAckReceive r d k s) :=
  h.sw.exitIfDone

theorem Keeps.spineAckTimeout {r d : Region} {k : Fin 2} (h : Keeps s₀ s) : Keeps s₀ (spineAckTimeout r d k s) :=
  .ite h h.pathFails

theorem Keeps.resendAcked {r d : Region} (h : Keeps s₀ s) : Keeps s₀ (resendAcked r d s) :=
  .ite h.startExit h

theorem Keeps.sprayEntryAnswer {r d : Region} (h : Keeps s₀ s) : Keeps s₀ (sprayEntryAnswer r d s) :=
  .ite (.ite h.setSpray h.setSpray.startExit) h

theorem Keeps.exitMarkArrive {r d : Region} {k : Fin 2} (h : Keeps s₀ s) : Keeps s₀ (exitMarkArrive r d k s) := by
  unfold Machine.exitMarkArrive
  split
  · exact h.sw.exitIfDone
  · exact h

theorem Keeps.holeTimeout {port : Port} {source : Fin 68} {tc : Tc} (h : Keeps s₀ s) : Keeps s₀ (holeTimeout port source tc s) := by
  unfold Machine.holeTimeout
  simp only
  split
  · exact h
  · exact .exitIfDone (.portContained (.record (.ite h.sw.drainWindow.bump h.sw.drainWindow.bump.set.set.set.set)))

theorem Keeps.spineCheckPassed {r d : Region} (h : Keeps s₀ s) : Keeps s₀ (spineCheckPassed r d s) :=
  .ite h.sw.startExit h

theorem Keeps.forceSprayEntry {p : Path} {r d : Region} (h : Keeps s₀ s) : Keeps s₀ (forceSprayEntry p r d s) :=
  h.command fun g => .ite g.setBits.setSpray g.setBits

theorem Keeps.forceSprayExit {p : Path} {r d : Region} (h : Keeps s₀ s) : Keeps s₀ (forceSprayExit p r d s) :=
  h.command fun g => .ite g.clearBits.startExit g.clearBits

theorem Keeps.overflowDrain {port out : Port} {d : DrainRead} (h : Keeps s₀ s) : Keeps s₀ (overflowDrain port out d s) := by
  unfold Machine.overflowDrain
  split
  · exact h
  · exact .ite (.ite h.keyLost.record.portContained (.admitHeld (.voqPut (.sw (.set (.ite h.keyCorrected h)))))) h

theorem Keeps.sentAway {z : Nat} {q : ReqOut} (h : Keeps s₀ s) : Keeps s₀ (s.sentAway z q) := by
  unfold State.sentAway
  simp only
  split
  · exact h.inCat.setTrk.noteOcc
  · exact h.inCat

theorem Keeps.outputCellStart {x : CellStart} (h : Keeps s₀ s) : Keeps s₀ (outputCellStart x s) := by
  unfold Machine.outputCellStart
  extract_lets port _ s1 s' waiting shut now z
  have g' : Keeps s₀ s' := .ite h.record h
  refine .ite h.fields.record.portContained (.ite (.ite g'.countPort g'.countPort) ?_)
  split
  · exact .ite g'.countPort g'.countPort.countPort
  next i c _ =>
  extract_lets u1 u2 u3 u4 u5 u6
  have g2 : Keeps s₀ u2 := g'.sw.countPort.countPort.countPort
  have g3 : Keeps s₀ u3 := .ite g2.countPort g2
  have g4 : Keeps s₀ u4 := by
    unfold u4
    split
    · exact g3
    · exact g3.sample.sample
  have g5 : Keeps s₀ u5 := .ite g4 g4.bump
  have g6 : Keeps s₀ u6 := g5.emit.emits.foldl .latDone
  exact .ite (g6.foldl .sentAway).setZwl.set.sendUnit.emit g6.fields.emit

theorem Keeps.rtCommit {r e : Nat} {v : BitVec 128} (h : Keeps s₀ s) : Keeps s₀ (rtCommit s r e v) :=
  h.sw.set.set

theorem Keeps.rtCmd {r e op : Nat} (h : Keeps s₀ s) : Keeps s₀ (rtCmd s r e op) :=
  h.set.set

theorem Keeps.rtLost {r e : Nat} (h : Keeps s₀ s) : Keeps s₀ (rtLost s r e) :=
  h.sw.record.portContained

theorem Keeps.rtRead {p : Path} {r : Region} {e : EntryRead} (h : Keeps s₀ s) : Keeps s₀ (rtRead p r e s) :=
  .startWith h .rtCmd (fun g => .set (.foldl (.rtCmd (.ite g.rtLost g)) .setWord))

theorem Keeps.rtWrite {p : Path} {r : Region} {entry : BitVec 11} (h : Keeps s₀ s) : Keeps s₀ (rtWrite p r entry s) :=
  .startWith h .rtCmd (fun g => .ite g.rtCmd.set (.ite g.rtCmd.set (.ite g.rtCmd.set g.rtCmd.rtCommit)))

theorem Keeps.rtClear {p : Path} {r : Region} {entry : BitVec 11} (h : Keeps s₀ s) : Keeps s₀ (rtClear p r entry s) :=
  .startWith h .rtCmd (fun g => .ite g.rtCmd.set g.rtCmd.rtCommit)

theorem Keeps.rtBarrierStart {p : Path} {r : Region} (h : Keeps s₀ s) : Keeps s₀ (rtBarrierStart p r s) :=
  h.start .set

theorem Keeps.rtBarrierEnds {r : Nat} {timeout : Bool} (h : Keeps s₀ s) : Keeps s₀ (rtBarrierEnds s r timeout) :=
  h.set.set.set

theorem Keeps.rtBarrierDone {r : Region} (h : Keeps s₀ s) : Keeps s₀ (rtBarrierDone r s) :=
  .ite h.rtBarrierEnds h

theorem Keeps.rtBarrierTimeout {r : Region} (h : Keeps s₀ s) : Keeps s₀ (rtBarrierTimeout r s) :=
  .ite (h.rtBarrierEnds.foldl fun g => g.record.portContained) h

/-! The functions of Sys2Proof/Machine/Lanes.lean. -/

theorem Keeps.setLink {p v : Nat} (h : Keeps s₀ s) : Keeps s₀ (s.setLink p v) :=
  h.set

theorem Keeps.onLink {p : Nat} {f : State → Nat → State} (h : Keeps s₀ s) (hf : ∀ {u x1}, Keeps s₀ u → Keeps s₀ (f u x1)) :
    Keeps s₀ (s.onLink p f) :=
  h.foldl hf

theorem Keeps.laneTrained {n rate : Nat} (h : Keeps s₀ s) : Keeps s₀ (laneTrained s n rate) :=
  h.set.set.set.fields

theorem Keeps.linkCarries {p proto flit : Nat} (h : Keeps s₀ s) : Keeps s₀ (linkCarries s p proto flit) :=
  h.set.set.set.set.set.set

theorem Keeps.linkUpPort {rate width proto flit port : Nat} {l0p reversed : Bool} (h : Keeps s₀ s) :
    Keeps s₀ (linkUpPort rate width proto flit l0p reversed s port) :=
  .portEvt (.portEvent (.fields (.linkCarries (.set (.set (.set (.set (.set (.setLink (h.foldl .laneTrained))))))))))

theorem Keeps.linkUp {port : Port} {rate : Fin 6} {width : Fin 17} {proto : Fin 3} {flit : Fin 4} {l0p reversed : Bool} (h : Keeps s₀ s) :
    Keeps s₀ (linkUp port rate width proto flit l0p reversed s) :=
  .ite h (.ite h.setLink (.ite h (.ite (.emit (.sendUnit (.set (h.onLink .linkUpPort)))) (h.onLink .linkUpPort))))

theorem Keeps.failCounted {p : Nat} (h : Keeps s₀ s) : Keeps s₀ (failCounted s p) :=
  h.bump.portEvent.portEvt

theorem Keeps.trainFails {rate p : Nat} {cxl : Option Bool} (h : Keeps s₀ s) : Keeps s₀ (trainFails rate cxl s p) :=
  .ite h.linkDown.failCounted.fields.fields.set.portEvt h.linkDown.failCounted.fields.fields

theorem Keeps.linkTrainFail {port : Port} {rate : Fin 6} {cxl : Option Bool} (h : Keeps s₀ s) :
    Keeps s₀ (linkTrainFail port rate cxl s) :=
  .ite h (.record (h.onLink .trainFails))

theorem Keeps.detectTimeout {port : Port} (h : Keeps s₀ s) : Keeps s₀ (detectTimeout port s) :=
  .ite h.portEvent.portEvt.failCounted h

theorem Keeps.recoveryTimeout {port : Port} (h : Keeps s₀ s) : Keeps s₀ (recoveryTimeout port s) :=
  .ite (.onLink (.ite h.record.zwlDown h.record.portContained) .failCounted) h

theorem Keeps.pvperlExpiry {port : Port} (h : Keeps s₀ s) : Keeps s₀ (pvperlExpiry port s) :=
  .ite h.set.setLink h

theorem Keeps.wakeNAssert {x : WakeScan} (h : Keeps s₀ s) : Keeps s₀ (wakeNAssert x s) :=
  .ite h.emit h

theorem Keeps.askWidth {p w : Nat} (h : Keeps s₀ s) : Keeps s₀ (askWidth s p w) :=
  .ite h.emit.fields h.fields

theorem Keeps.laneOut {p k : Nat} (h : Keeps s₀ s) : Keeps s₀ (laneOut s p k) :=
  .portEvt (.portEvent (.record (.set (.bump (.ite h.setBits h)))))

theorem Keeps.symbols {p : Nat} {fec : List (Fin 9)} (h : Keeps s₀ s) : Keeps s₀ (s.symbols p fec) :=
  h.fields.foldl fun g => g.bump.fields

theorem Keeps.laneFault {port : Port} {lane : Fin 9} {x : LaneLoss} (h : Keeps s₀ s) : Keeps s₀ (laneFault port lane x s) := by
  unfold Machine.laneFault
  extract_lets s' s1 busy s2
  have g : Keeps s₀ s1 := .laneOut (.ite h.set h)
  refine .ite h (.ite ?_ (.ite g.askWidth (.ite g.setLink g.record.portContained)))
  exact .ite g.zwlDown g.fields.set.zwlCtl

theorem Keeps.widthChange {port : Port} {width : Fin 9} (h : Keeps s₀ s) : Keeps s₀ (widthChange port width s) :=
  .ite (.ite h.set.fields.portEvent.portEvt.askWidth h.set.fields.portEvent.portEvt) h

theorem Keeps.l0pPeerRequest {port : Port} {width : Fin 9} (h : Keeps s₀ s) : Keeps s₀ (l0pPeerRequest port width s) :=
  .ite (.ite h.emit.fields h.emit) h

theorem Keeps.retrain {p : Path} {port : Port} (h : Keeps s₀ s) : Keeps s₀ (retrain p port s) :=
  h.command fun g => .ite (g.onLink .setLink) g.discard

theorem Keeps.restartDetect {port : Nat} (h : Keeps s₀ s) : Keeps s₀ (restartDetect s port) :=
  .ite h (.ite h.setLink h.setLink)

theorem Keeps.disable {p : Path} {port : Port} {on : Bool} (h : Keeps s₀ s) : Keeps s₀ (disable p port on s) :=
  h.command fun g => .ite (g.set.onLink .linkDown) (.ite (g.set.onLink .restartDetect) g.set)

theorem Keeps.test {p : Path} {port : Port} {on : Bool} (h : Keeps s₀ s) : Keeps s₀ (test p port on s) :=
  h.command fun g => .ite (g.set.onLink .linkDown) (.ite (g.set.onLink .restartDetect) g.set)

theorem Keeps.inject {p : Path} {n action arg : Nat} (h : Keeps s₀ s) : Keeps s₀ (inject p n action arg s) :=
  h.command fun g => .ite g.emit g

theorem Keeps.injOne {p : Path} {n : Lane} (h : Keeps s₀ s) : Keeps s₀ (injOne p n s) :=
  h.inject

theorem Keeps.injBurst {p : Path} {n : Lane} (h : Keeps s₀ s) : Keeps s₀ (injBurst p n s) :=
  h.inject

theorem Keeps.checkerEnable {p : Path} {n : Lane} (h : Keeps s₀ s) : Keeps s₀ (checkerEnable p n s) :=
  h.command fun g => .ite g.set.set.fields g.discard

theorem Keeps.patternCheckerSync {n : Lane} {errors : BitVec 48} (h : Keeps s₀ s) : Keeps s₀ (patternCheckerSync n errors s) :=
  .ite h.set.fields h

theorem Keeps.lanePllUnlock {port : Port} (h : Keeps s₀ s) : Keeps s₀ (lanePllUnlock port s) :=
  .ite h h.record.portContained.fields

theorem Keeps.lanePllRelock {port : Port} (h : Keeps s₀ s) : Keeps s₀ (lanePllRelock port s) :=
  h.fields

theorem Keeps.passDetect {port : Nat} (h : Keeps s₀ s) : Keeps s₀ (passDetect s port) :=
  .fields (.ite (.set (h.setLink.set.foldl .set)) (h.setLink.set.foldl .set))

theorem Keeps.receiverDetect {port : Port} {found : Bool} (h : Keeps s₀ s) : Keeps s₀ (receiverDetect port found s) :=
  .ite (h.onLink .passDetect) h

theorem Keeps.linkRecoveryEntry {port : Port} (h : Keeps s₀ s) : Keeps s₀ (linkRecoveryEntry port s) :=
  .ite (h.onLink .setLink) h

theorem Keeps.linkRecoveryExit {port : Port} (h : Keeps s₀ s) : Keeps s₀ (linkRecoveryExit port s) :=
  .ite (h.onLink .setLink) h

theorem Keeps.laneMarginingCommand {port : Port} {m : Margin} (h : Keeps s₀ s) : Keeps s₀ (laneMarginingCommand port m s) :=
  .ite h.emit h

theorem Keeps.spareLaneBad {port : Port} (h : Keeps s₀ s) : Keeps s₀ (spareLaneBad port s) :=
  .ite h.set.record h

/-! The functions of Sys2Proof/Machine/FmApi.lean. -/

theorem Keeps.respond {ep op code : Nat} {payload : List Nat} (h : Keeps s₀ s) : Keeps s₀ (s.respond ep op code payload) :=
  .ite h.emit.ibiPend h.emit

theorem Keeps.tell {a : Asker} {status : Nat} (h : Keeps s₀ s) : Keeps s₀ (s.tell a status) := by
  unfold State.tell
  split
  · exact h.respond
  · exact h.respond
  · exact h
  · exact h

theorem Keeps.openRequest {a : Asker} {host bit : Nat} {args shelves : List Nat} (h : Keeps s₀ s) :
    KeepsFst s₀ (s.openRequest a host bit args shelves) := by
  unfold State.openRequest
  split
  · exact .pair h
  · exact .ite (.pair h.postHosted.fst.fields) (.pair h.postHosted.fst)

theorem Keeps.bindRequest {a : Asker} {src h' n mode gclass group tag : Nat} (h : Keeps s₀ s) :
    KeepsFst s₀ (s.bindRequest a src h' n mode gclass group tag) := by
  unfold State.bindRequest
  simp only
  split
  · exact .pair h.fields.archive
  · exact h.openRequest

theorem Keeps.releaseRequest {a : Asker} {src h' x n : Nat} (h : Keeps s₀ s) : KeepsFst s₀ (s.releaseRequest a src h' x n) :=
  .ite (.pair h) (.ite (.pair h.fields.archive) h.openRequest)

theorem Keeps.portControl {p op : Nat} (h : Keeps s₀ s) : Keeps s₀ (s.portControl p op) :=
  .ite h.dnPerstLow (.ite (.ite h h.set.setLink) (h.foldl .linkDown))

theorem Keeps.fmRun {op : FmOp} (h : Keeps s₀ s) : KeepsFst s₀ (s.fmRun op) := by
  unfold State.fmRun
  split
  · exact .pair h
  · exact .pair h
  · exact .ite (.pair h.portControl) (.pair h)
  · exact .ite (.pair h) (.ite (.pair h.emit) (.pair h.emit.fields))
  · exact .pair h
  · exact .ite (.pair h.fields) (.pair h)
  · split
    · exact .ite (.pair h.fields) (.pair h)
    · exact .pair h
  · exact .ite (.pair h.emit) (.pair h)
  · exact .ite (.pair h.emit) (.pair h)
  · exact .ite (.pair h.emit) (.pair h)
  · exact .ite (.pair h.emit) (.pair h)
  · exact .pair h
  · exact .ite (.pair h) (.pair h)
  · exact .ite (.pair h) (.pair h)
  · exact .pair h
  · exact .pair h
  · exact .pair h

theorem Keeps.fmPerform {via : FmVia} {op : FmOp} (h : Keeps s₀ s) : Keeps s₀ (s.fmPerform via op) := by
  unfold State.fmPerform
  simp only
  split
  · exact .ite (.ite h.bindRequest.fst h.bindRequest.fst.tell) h.respond
  · exact .ite (.ite h.releaseRequest.fst h.releaseRequest.fst.tell) h.respond
  · exact h.fmRun.fst.respond

theorem Keeps.fmDrain {l : List (FmVia × FmOp)} (h : Keeps s₀ s) : Keeps s₀ (s.fmDrain l) := by
  induction l generalizing s with
  | nil => exact h.fields
  | cons x l ih => exact .ite h.fields (ih h.fmPerform)

theorem Keeps.closeReq {q : OpenReq} {status : Nat} (h : Keeps s₀ s) : Keeps s₀ (s.closeReq q status) :=
  h.fields.tell.fmDrain

theorem Keeps.fwBarrier {r x : Nat} {all : Bool} (h : Keeps s₀ s) : Keeps s₀ (s.fwBarrier r all x) :=
  .ite h (.ite h h.barStart.fields)

theorem Keeps.wantBarriers (h : Keeps s₀ s) : Keeps s₀ s.wantBarriers :=
  .foldl (h.foldl .fwBarrier) .fwBarrier

theorem Keeps.postAdds (h : Keeps s₀ s) : Keeps s₀ s.postAdds :=
  h.fields.foldl .emit

theorem Keeps.giveReplies (h : Keeps s₀ s) : Keeps s₀ s.giveReplies := by
  unfold State.giveReplies
  refine .foldl h (fun g => ?_)
  split
  · exact g.closeReq
  · exact g

theorem Keeps.answerReq {q : OpenReq} {status : Nat} (h : Keeps s₀ s) : Keeps s₀ (s.answerReq q status) :=
  .ite h.fields.wantBarriers h.closeReq

theorem Keeps.fmCommand {via : FmVia} {op : FmOp} (h : Keeps s₀ s) : Keeps s₀ (fmCommand via op s) :=
  .ite h (.ite (.ite h.respond h.fields) h.fmPerform)

theorem Keeps.releaseDynamicCapacity {port : Port} {shelf : Sys2Proof.Shelf} {count : Nat} (h : Keeps s₀ s) :
    Keeps s₀ (releaseDynamicCapacity port shelf count s) :=
  .ite (.ite h.releaseRequest.fst h.releaseRequest.fst.tell) h

theorem Keeps.takeShelf {h' tag x : Nat} (h : Keeps s₀ s) : Keeps s₀ (s.takeShelf h' tag x) :=
  .ite h (.ite h.putGroup (.ite h.srecCommit.fields (.ite h.fields h)))

theorem Keeps.bindStep (h : Keeps s₀ s) : Keeps s₀ s.bindStep :=
  .giveReplies (.postAdds (.wantBarriers (.fields (h.fields.foldl .takeShelf))))

theorem Keeps.addEnds {port : Port} {why : Nat} (h : Keeps s₀ s) : Keeps s₀ (addEnds port why s) := by
  unfold Machine.addEnds
  split
  · exact h
  · simp only
    split
    · exact KeepsFst.fst (.postHosted (.wantBarriers (.ite h.fields (h.fields.foldl .takeShelf))))
    · exact .wantBarriers (.ite h.fields (h.fields.foldl .takeShelf))

theorem Keeps.addDcResponse {port : Port} {accept : Bool} (h : Keeps s₀ s) : Keeps s₀ (addDcResponse port accept s) :=
  h.addEnds

theorem Keeps.addTimeout {port : Port} (h : Keeps s₀ s) : Keeps s₀ (addTimeout port s) :=
  h.addEnds

theorem Keeps.requestDeadline {handle : Nat} (h : Keeps s₀ s) : Keeps s₀ (requestDeadline handle s) := by
  unfold Machine.requestDeadline
  split
  · exact h.answerReq
  · exact h

/-! The functions of Sys2Proof/Machine/Slots.lean. -/

theorem Keeps.setChan {c : Nat} {v : SlotChan} (h : Keeps s₀ s) : Keeps s₀ (s.setChan c v) :=
  h.fields

theorem Keeps.setSp {c st : Nat} (h : Keeps s₀ s) : Keeps s₀ (s.setSp c st) :=
  h.set

theorem Keeps.pgDown {c : Nat} (h : Keeps s₀ s) : Keeps s₀ (pgDown s c) := by
  unfold Machine.pgDown
  refine .ite ?_ h
  simp only
  split
  · exact h.set.slotEvent.portEvent.dnPerstLow
  · exact h.set.slotEvent

theorem Keeps.gateOff {c st : Nat} (h : Keeps s₀ s) : Keeps s₀ (gateOff s c st) :=
  h.pgDown.set.set.setSp.setChan

theorem Keeps.spwError {c bit arg1 : Nat} (h : Keeps s₀ s) : Keeps s₀ (spwError s c bit arg1) := by
  unfold Machine.spwError
  split
  · exact .ite h.record.portContained h.record
  · exact h.record

theorem Keeps.trip {c cause : Nat} (h : Keeps s₀ s) : Keeps s₀ (trip s c cause) := by
  unfold Machine.trip
  extract_lets ch drove on latch s1 _ s2 s3 s4 s5 s6
  have g3 : Keeps s₀ s3 := h.gateOff.setChan.set.bump.set.set
  have g5 : Keeps s₀ s5 := g3.spwError.slotEvent.countChip
  exact .ite (.slotEvent (.ite g5 g5.spwError)) g5

theorem Keeps.turnOff {c cause : Nat} (h : Keeps s₀ s) : Keeps s₀ (turnOff s c cause) :=
  h.gateOff.set

theorem Keeps.slotMeasure {c : Nat} {v : SlotReading} (h : Keeps s₀ s) : Keeps s₀ (slotMeasure s c v) :=
  h.setChan.set.set.set.set.extreme.extreme.extreme

theorem Keeps.driveStarts {c : Nat} (h : Keeps s₀ s) : Keeps s₀ (driveStarts s c) :=
  h.setSp.setChan

theorem Keeps.limitStep {c : Nat} {limiting : Bool} (h : Keeps s₀ s) : Keeps s₀ (limitStep s c limiting) :=
  .ite h.pgDown.set.set (.ite h.set.set h)

theorem Keeps.busWarn {c vBus : Nat} (h : Keeps s₀ s) : Keeps s₀ (busWarn s c vBus) :=
  .ite (.ite h.settleShapers.set.bump (h.settleShapers.set.set.bump.spwError.archive.foldl .postEvent)) h

theorem Keeps.showBusOff (h : Keeps s₀ s) : Keeps s₀ s.showBusOff :=
  h.set

theorem Keeps.busOffEnds {c : Nat} (h : Keeps s₀ s) : Keeps s₀ (s.busOffEnds c) :=
  h.setChan.showBusOff

theorem Keeps.slotChecks {c : Nat} {v : SlotReading} (h : Keeps s₀ s) : Keeps s₀ (slotChecks s c v) := by
  unfold Machine.slotChecks
  extract_lets hot _ _ s1
  have g : Keeps s₀ s1 := .ite h.limitStep h
  refine .ite h.trip (.ite h.turnOff.spwError.setChan.showBusOff (.ite h.trip (.ite h.trip ?_)))
  exact .ite (.ite g.driveStarts g) (.ite g.pgDown g)

theorem Keeps.slotConversion {c : Slot} {v : SlotReading} (h : Keeps s₀ s) : Keeps s₀ (slotConversion c v s) :=
  .ite h (.ite h.trip (.busWarn (.slotChecks (.ite h.slotMeasure.countChip h.slotMeasure))))

theorem Keeps.diodeMeasure {c : Slot} {v : DiodeReading} (h : Keeps s₀ s) : Keeps s₀ (diodeMeasure c v s) :=
  .ite h (.ite (.ite h.trip h) h.set)

theorem Keeps.slotInsert {c : Slot} {long : Bool} (h : Keeps s₀ s) : Keeps s₀ (slotInsert c long s) :=
  .ite h.set.set.spwError (.ite h.set.set.setSp h.set.set)

theorem Keeps.slotRemoval {c : Slot} {long : Bool} (h : Keeps s₀ s) : Keeps s₀ (slotRemoval c long s) := by
  unfold Machine.slotRemoval
  extract_lets s1 s2 s3
  have g1 : Keeps s₀ s1 := h.set.set
  have g2 : Keeps s₀ s2 := .ite g1.set g1
  have g3 : Keeps s₀ s3 := g2.gateOff.set.slotEvent
  exact .ite g1 (.ite g1.slotEvent (.ite g3.busOffEnds g3))

theorem Keeps.slotStart {c : Slot} (h : Keeps s₀ s) : Keeps s₀ (slotStart c s) :=
  .ite (.ite h.set.setSp.busOffEnds h.set.setSp) h.set

theorem Keeps.builtInStart {c : Slot} (h : Keeps s₀ s) : Keeps s₀ (builtInStart c s) :=
  .ite h.slotStart h

theorem Keeps.debounceEnd {c : Slot} (h : Keeps s₀ s) : Keeps s₀ (debounceEnd c s) :=
  .ite h.setSp.slotEvent.builtInStart h

theorem Keeps.slotOff {c : Slot} (h : Keeps s₀ s) : Keeps s₀ (slotOff c s) :=
  .ite h.turnOff.set h.set

theorem Keeps.slotClear {c : Slot} (h : Keeps s₀ s) : Keeps s₀ (slotClear c s) :=
  .ite h.set (.ite h.set h.setSp.set.set)

theorem Keeps.precheckTimeout {c : Slot} (h : Keeps s₀ s) : Keeps s₀ (precheckTimeout c s) :=
  .ite h.trip h

theorem Keeps.faultTimer {c : Slot} (h : Keeps s₀ s) : Keeps s₀ (faultTimer c s) :=
  .ite h.trip h

theorem Keeps.rampWindow {c : Slot} (h : Keeps s₀ s) : Keeps s₀ (rampWindow c s) :=
  .ite h.trip h

theorem Keeps.fastTrip {c : Slot} (h : Keeps s₀ s) : Keeps s₀ (fastTrip c s) :=
  .ite h.trip h

theorem Keeps.passFetCheck {c : Slot} {vgs : Nat} (h : Keeps s₀ s) : Keeps s₀ (passFetCheck c vgs s) :=
  .ite h.trip h

theorem Keeps.powerGood {c : Slot} (h : Keeps s₀ s) : Keeps s₀ (powerGood c s) := by
  unfold Machine.powerGood
  refine .ite ?_ h
  simp only
  split
  · exact h.set.setSp.slotEvent.portEvent
  · exact h.set.setSp.slotEvent

theorem Keeps.coolEnd {c : Slot} (h : Keeps s₀ s) : Keeps s₀ (coolEnd c s) :=
  .ite (.ite h.setSp (.ite h.setSp h)) h

theorem Keeps.tripCountReset {c : Slot} (h : Keeps s₀ s) : Keeps s₀ (tripCountReset c s) :=
  .ite h.set h

theorem Keeps.busWarnClear (h : Keeps s₀ s) : Keeps s₀ (busWarnClear s) :=
  .ite (.showBusOff (h.settleShapers.set.fields.foldl fun g => .ite g.setSp.busOffEnds g)) h

/-! The functions of Sys2Proof/Machine/Services.lean. -/

theorem Keeps.setCtxWord {t off v : Nat} (h : Keeps s₀ s) : Keeps s₀ (s.setCtxWord t off v) :=
  h.setTiller

theorem Keeps.svc {t op : Nat} {f : State → State × Option Nat} (h : Keeps s₀ s) (hf : ∀ {u}, Keeps s₀ u → KeepsFst s₀ (f u)) :
    Keeps s₀ (svc t op s f) := by
  unfold Machine.svc
  refine .ite ?_ h
  simp only
  split
  · exact .svcEnd (KeepsFst.fst (hf h))
  · exact KeepsFst.fst (hf h)

theorem Keeps.svcPolicy {t : Nat} {bound : Option Nat} {f : State → State × Option Nat} (h : Keeps s₀ s)
    (hf : ∀ {u}, Keeps s₀ u → KeepsFst s₀ (f u)) :
    KeepsFst s₀ (s.svcPolicy t bound f) := by
  unfold State.svcPolicy
  split
  · exact .pair h.archive
  · exact hf h

theorem Keeps.readRecord {t : Nat} (h : Keeps s₀ s) : Keeps s₀ (readRecord t s) :=
  h.svc fun g => .pair (g.foldl .setCtxWord)

theorem Keeps.svcResult {r : Nat} (h : Keeps s₀ s) : KeepsFst s₀ (s.svcResult r) :=
  .ite (.pair h) (.pair h.fields)

theorem Keeps.forRequest {t x : Nat} (h : Keeps s₀ s) : Keeps s₀ (s.forRequest t x) :=
  h.fields

theorem Keeps.writeRecord {t : Nat} (h : Keeps s₀ s) : Keeps s₀ (writeRecord t s) :=
  h.svc fun g => g.svcPolicy fun k => .ite (.pair k) (.ite (.svcResult (.ite k.discard k))
    (k.svcPolicy fun l => .pair l.srecCommit.forRequest))

theorem Keeps.writeGroup {t : Nat} (h : Keeps s₀ s) : Keeps s₀ (writeGroup t s) :=
  h.svc fun g => g.svcPolicy fun k => .pair k.putGroup

theorem Keeps.barrier {t : Nat} (h : Keeps s₀ s) : Keeps s₀ (barrier t s) :=
  h.svc fun g => .ite (.pair g.barStart) (.pair g.barStart.fields)

theorem Keeps.postAdd {t : Nat} (h : Keeps s₀ s) : Keeps s₀ (postAdd t s) :=
  h.svc fun g => .ite (.pair g) (g.svcPolicy fun _ => .pair g.fields.fields.bindStep)

theorem Keeps.reshelve {t : Nat} (h : Keeps s₀ s) : Keeps s₀ (reshelve t s) := by
  unfold Machine.reshelve
  refine .svc h (fun g => ?_)
  simp only
  split
  · exact .pair g
  · exact g.svcPolicy fun k => .ite (.pair (.rshStart (.set (.set (k.foldl .setWord)))))
      (.ite (.pair k.set.rshSwitch) (.ite (.pair k.reshelveAbort) (.pair k)))

theorem Keeps.svcRuleWrite {t : Nat} (h : Keeps s₀ s) : Keeps s₀ (svcRuleWrite t s) :=
  h.svc fun g => .ite (.pair g.setRule) g.svcResult

theorem Keeps.setTimer {t : Nat} (h : Keeps s₀ s) : Keeps s₀ (setTimer t s) :=
  h.svc fun g => .ite (.pair g) (.pair g.setTiller)

theorem Keeps.timerDue {t : Nat} (h : Keeps s₀ s) : Keeps s₀ (timerDue t s) :=
  .ite h.setTiller.postTimer h

theorem Keeps.handlerDrops {t : Nat} (h : Keeps s₀ s) : Keeps s₀ (s.handlerDrops t) :=
  h.setTiller.showEvents.foldl .answerReq

theorem Keeps.tilStops {t cause : Nat} (h : Keeps s₀ s) : Keeps s₀ (s.tilStops t cause) := by
  unfold State.tilStops
  extract_lets s1 s2
  have g1 : Keeps s₀ s1 := h.tilHalt
  have g2 : Keeps s₀ s2 := .ite g1.record (.ite g1.record g1)
  exact .ite g2.handlerDrops g2

theorem Keeps.tilFault {t cause addr : Nat} (h : Keeps s₀ s) : Keeps s₀ (s.tilFault t cause addr) :=
  h.setWord.tilStops

theorem Keeps.tilCommand {p : Path} {t : Nat} {f : State → State} (h : Keeps s₀ s) (hf : ∀ {u}, Keeps s₀ u → Keeps s₀ (f u)) :
    Keeps s₀ (s.tilCommand p t f) :=
  .ite (hf h) (h.command hf)

theorem Keeps.tillerStop {p : Path} {t : Nat} (h : Keeps s₀ s) : Keeps s₀ (tillerStop p t s) :=
  h.tilCommand fun g => .ite g.tilStops g

theorem Keeps.tillerRun {p : Path} {t : Nat} (h : Keeps s₀ s) : Keeps s₀ (tillerRun p t s) := by
  refine h.tilCommand fun g => .ite g (.ite g.discard ?_)
  simp only
  split
  · split
    · exact .builtInStart g.setTiller.tilStart
    · exact g.setTiller.tilStart
  · exact g.setTiller.tilStart

theorem Keeps.postCmd {p : Path} {t : Nat} (h : Keeps s₀ s) : Keeps s₀ (postCmd p t s) :=
  h.tilCommand fun g => .ite g.postHosted.fst g.postEvent

theorem Keeps.handlerRestart {t : Nat} (h : Keeps s₀ s) : Keeps s₀ (handlerRestart t s) :=
  .ite h.tilStart h

theorem Keeps.handlerTimeslice {x : CoreLook} (h : Keeps s₀ s) : Keeps s₀ (handlerTimeslice x s) := by
  unfold Machine.handlerTimeslice
  simp only
  split
  · exact .ite h h.record
  · exact .giveUp (.ite h h.record)

theorem Keeps.libWatchdog {r : Region} (h : Keeps s₀ s) : Keeps s₀ (libWatchdog r s) :=
  .ite h (.ite h.fields.record (h.fields.bump.record.foldl fun g => .ite g.tilStops g))

theorem Keeps.leadTakeover (h : Keeps s₀ s) : Keeps s₀ (leadTakeover s) := by
  unfold Machine.leadTakeover
  refine .ite h ?_
  split
  · exact h
  · exact .fields (h.foldl .set)

theorem Keeps.mpuBarrier {p : Path} {r : Region} (h : Keeps s₀ s) : Keeps s₀ (mpuBarrier p r s) :=
  h.start .set

theorem Keeps.mpuBarrierDone {r : Region} (h : Keeps s₀ s) : Keeps s₀ (mpuBarrierDone r s) :=
  .ite h.set.set h

/-! The functions of Sys2Proof/Machine/ImageCheck.lean. -/

theorem Keeps.withImage {f : Flash} (h : Keeps s₀ s) : Keeps s₀ (s.withImage f) :=
  h.fields

/-! The functions of Sys2Proof/Machine/Supply.lean. -/

theorem Keeps.refclkLoss (h : Keeps s₀ s) : Keeps s₀ (refclkLoss s) :=
  h.set.record.fields

theorem Keeps.rootUnlock {r : Region} (h : Keeps s₀ s) : Keeps s₀ (rootUnlock r s) :=
  h.clearBits.record

theorem Keeps.railExtremes {m : Nat} {v : RailReading} (h : Keeps s₀ s) : Keeps s₀ (s.railExtremes m v) :=
  .ite (h.foldl fun g => g.extreme.extreme) h.extreme.extreme

theorem Keeps.railWarn {m extremeMv : Nat} (h : Keeps s₀ s) : Keeps s₀ (s.railWarn m extremeMv) :=
  .ite h (.ite h.settleShapers.setBits.bump h.settleShapers.setBits.set.bump.record.archive)

theorem Keeps.railConversion {m : Fin 8} {v : RailReading} (h : Keeps s₀ s) : KeepsForm s₀ (railConversion m v s) := by
  unfold Machine.railConversion
  extract_lets lo hi s1 s1' under above warn n sup s2 s3
  have g2 : Keeps s₀ s2 := .fields (.set (.railExtremes h.set))
  have g3 : Keeps s₀ s3 := .ite g2.railWarn g2
  split
  · split
    · exact g3.toKeepsForm.trans (.powerLost s3)
    · exact (Keeps.ite g3 g3.brownout).toKeepsForm
  · exact g3.toKeepsForm

theorem Keeps.railWarnClear {m : Fin 8} (h : Keeps s₀ s) : Keeps s₀ (railWarnClear m s) :=
  .ite h.settleShapers.clearBits.fields h

theorem Keeps.brownoutResume (h : Keeps s₀ s) : Keeps s₀ (brownoutResume s) :=
  .ite h.startBegins h

theorem Keeps.powerDownStarts {cause : Nat} (h : Keeps s₀ s) : Keeps s₀ (powerDownStarts s cause) :=
  h.powerDownBegins.foldl fun g => .ite g.portDies (.ite g.zwlLoss g)

theorem Keeps.perstNAssert (h : Keeps s₀ s) : Keeps s₀ (perstNAssert s) := by
  unfold Machine.perstNAssert
  extract_lets _ s1
  have g : Keeps s₀ s1 := h.fields
  exact .ite g.ignoredReset (.ite g.fields (.ite g.portsIdle.slotsOff.chipReset.rootsLost (.ite g.fields g.powerDownStarts)))

theorem Keeps.warmRstNAssert (h : Keeps s₀ s) : Keeps s₀ (warmRstNAssert s) :=
  .ite h.fields.ignoredReset (.ite h.fields h.fields.powerDownStarts)

theorem Keeps.warmRstNDeassert (h : Keeps s₀ s) : Keeps s₀ (warmRstNDeassert s) :=
  .ite h.fields h.fields.resumes

theorem Keeps.warmResetCmd {key : BitVec 16} (h : Keeps s₀ s) : Keeps s₀ (warmResetCmd key s) :=
  .ite h.ignoredReset (.ite h.discard (.ite h h.powerDownStarts))

theorem Keeps.pdFlushEnd {ms : Nat} (h : Keeps s₀ s) : Keeps s₀ (pdFlushEnd ms s) :=
  .ite h.powerDownEnds h

theorem Keeps.pdFlushCutoff (h : Keeps s₀ s) : Keeps s₀ (pdFlushCutoff s) :=
  .ite h.powerDownEnds h

theorem Keeps.rgnRstNAssert {r : Region} (h : Keeps s₀ s) : Keeps s₀ (rgnRstNAssert r s) :=
  .ite h.setBits.ignoredReset h.setBits.record





/-! The functions of Sys2Proof/Machine/Boot.lean. -/

theorem Keeps.perstNDeassert {fuse : KeeperFuses} {test : Bool} (h : Keeps s₀ s) : Keeps s₀ (perstNDeassert fuse test s) :=
  .ite h (.ite h.fields h.fields.startAnew)

theorem Keeps.supplyCheckPass {a b : Flash} (h : Keeps s₀ s) : Keeps s₀ (supplyCheckPass a b s) :=
  .ite h.set.fields h

theorem Keeps.aonMeasured {ppm : Int} (h : Keeps s₀ s) : Keeps s₀ (aonMeasured ppm s) :=
  .ite h (.ite h.set.set.record h.set.set)

theorem Keeps.rootLock {ppm : Int} (h : Keeps s₀ s) : Keeps s₀ (rootLock ppm s) :=
  .ite h.set.set.setTime.set.hkSourceSwitch.aonMeasured h

theorem Keeps.sramWiped (h : Keeps s₀ s) : Keeps s₀ (sramWiped s) :=
  .ite h.set h

theorem Keeps.slotResult {slot result : Nat} (h : Keeps s₀ s) : Keeps s₀ (s.slotResult slot result) :=
  .ite h.set h.set

theorem Keeps.slotRejected {slot : Nat} {why : Reject} (h : Keeps s₀ s) : Keeps s₀ (s.slotRejected slot why) := by
  unfold State.slotRejected
  exact .record (.ite h.slotResult h.slotResult.set.set)

theorem Keeps.noImage (h : Keeps s₀ s) : Keeps s₀ (noImage s) :=
  h.record.fields

theorem Keeps.keepResults {old : State} (h : Keeps s₀ s) : Keeps s₀ (keepResults old s) :=
  h.foldl .keepField

theorem Keeps.lateNoImage (h : Keeps s₀ s) : Keeps s₀ (lateNoImage s) :=
  h.portsIdle.slotsOff.chipWiped.rootsKept.keepResults.keepField.fields.noImage

theorem Keeps.lateRejected {why : Reject} (h : Keeps s₀ s) : Keeps s₀ (lateRejected why s) :=
  .ite h.slotRejected.lateNoImage h.slotRejected.internalRestart.keepResults.bump.fields

theorem Keeps.loadPort {p : Nat} (h : Keeps s₀ s) : Keeps s₀ (loadPort s p) := by
  unfold Machine.loadPort
  extract_lets e role s1 s2 s3 s4 s5 s6
  have g1 : Keeps s₀ s1 := h.set.set
  have g2 : Keeps s₀ s2 := .ite g1.set.set.set g1
  have g4 : Keeps s₀ s4 := g2.set.set.set.set.set.set.set.set
  have g6 : Keeps s₀ s6 := g4.set.set.set.set.set
  exact .ite g2 g6.set.setLink

theorem Keeps.loadSlot {c : Nat} (h : Keeps s₀ s) : Keeps s₀ (loadSlot s c) :=
  .ite h.set.set.set.set.set.set.set.set.set.set.set.set.set.set.setSp h.set.set.set.set.set.set.set.set.set.set.set.set.set.set

theorem Keeps.loadChip (h : Keeps s₀ s) : Keeps s₀ (loadChip s) :=
  h.set.set.set.set.foldl fun g => g.set.set.set.set

theorem Keeps.setLocks (h : Keeps s₀ s) : Keeps s₀ (setLocks s) :=
  .set (h.foldl fun g => g.set.set.set)

theorem Keeps.startBuiltIn {t : Nat} (h : Keeps s₀ s) : Keeps s₀ (startBuiltIn s t) :=
  h.setTiller.tilStart

theorem Keeps.loadEarly {slot : Nat} {f : Flash} (h : Keeps s₀ s) : Keeps s₀ (loadEarly slot f s) := by
  unfold Machine.loadEarly
  extract_lets _ s' s1 s2 s3 s4 s5 s6 s7 s8 ready
  have g2 : Keeps s₀ s2 := h.fields.set.set.foldl .loadPort
  have g4 : Keeps s₀ s4 := (g2.foldl .setWord).foldl .set
  have g6 : Keeps s₀ s6 := ((g4.loadChip.foldl .set).foldl .loadSlot).setLocks
  have g8 : Keeps s₀ s8 := (g6.foldl .startBuiltIn).foldl .startBuiltIn
  exact g8.set

theorem Keeps.trySlots {a b : Flash} {l : List Nat} (h : Keeps s₀ s) : Keeps s₀ (trySlots a b l s) := by
  induction l generalizing s with
  | nil => exact h.noImage
  | cons slot l ih =>
    unfold Machine.trySlots
    simp only
    split
    · exact h.fields.loadEarly
    · exact ih h.slotRejected

theorem Keeps.earlySectionsVerified {a b : Flash} (h : Keeps s₀ s) : Keeps s₀ (earlySectionsVerified a b s) :=
  .ite h.trySlots h

theorem Keeps.loadGroups (h : Keeps s₀ s) : Keeps s₀ (loadGroups s) :=
  h.foldl .putGroup

theorem Keeps.loadGates {p : Nat} (h : Keeps s₀ s) : Keeps s₀ (loadGates s p) :=
  h.set.set.set.setWord.setWord.fields.foldl fun g => g.set.set

theorem Keeps.loadProgram {t k : Nat} (h : Keeps s₀ s) : Keeps s₀ (loadProgram s t k) :=
  h.fields

theorem Keeps.startScript {t k : Nat} (h : Keeps s₀ s) : Keeps s₀ (startScript s t k) :=
  .ite h h.loadProgram.setTiller.tilStart

theorem Keeps.loadHandler {k : Nat} (h : Keeps s₀ s) : Keeps s₀ (loadHandler s k) :=
  h.loadProgram.set

theorem Keeps.loadLate {f : Flash} (h : Keeps s₀ s) : Keeps s₀ (loadLate f s) := by
  unfold Machine.loadLate
  extract_lets _ s' s1 s2 s3 s4 s5
  have g1 : Keeps s₀ s1 := h.fields.loadGroups.foldl .loadGates
  have g3 : Keeps s₀ s3 := (g1.foldl fun g => .ite g g.startScript).foldl .startScript
  have g5 : Keeps s₀ s5 := (g3.foldl .loadHandler).foldl .set
  exact g5.slotResult.set

theorem Keeps.lateSectionsChecked {flash : Flash} (h : Keeps s₀ s) : Keeps s₀ (lateSectionsChecked flash s) := by
  unfold Machine.lateSectionsChecked
  refine .ite ?_ h
  simp only
  split
  · exact h.loadLate
  · exact h.lateRejected

theorem Keeps.flashReadTimeout (h : Keeps s₀ s) : Keeps s₀ (flashReadTimeout s) := by
  unfold Machine.flashReadTimeout
  refine .ite ?_ (.ite h.lateRejected h)
  split
  · exact h.noImage
  · exact .ite h.slotRejected.noImage h.slotRejected.fields

theorem Keeps.firmwareStarted (h : Keeps s₀ s) : Keeps s₀ (firmwareStarted s) := by
  unfold Machine.firmwareStarted
  refine .ite (.set (.foldl (.foldl ?_ (fun g => .set g)) (fun g => .ite g.tilStart g))) h
  split
  · exact h.foldl .set
  · exact .set (h.foldl .set)

theorem Keeps.ready {ms : Nat} (h : Keeps s₀ s) : Keeps s₀ (ready ms s) :=
  .ite h.set.set.set.fields h

theorem Keeps.imageBind {i : Nat} (h : Keeps s₀ s) : Keeps s₀ (imageBind s i) :=
  .ite h (h.srecCommit.fields.foldl .fields)

theorem Keeps.poolDeviceEnumerated {port : Port} {serial : BitVec 64} (h : Keeps s₀ s) :
    Keeps s₀ (poolDeviceEnumerated port serial s) :=
  .ite (.bindStep (h.fields.foldl .imageBind)) h

/-! The functions of Sys2Proof/Machine/DmvOps.lean. -/

theorem Keeps.setDchan {c : Nat} {v : DmvChan} (h : Keeps s₀ s) : Keeps s₀ (s.setDchan c v) :=
  h.fields

theorem Keeps.showChan {c : Nat} (h : Keeps s₀ s) : Keeps s₀ (s.showChan c) := by
  unfold State.showChan
  split
  · exact h.set.set.set
  · exact h.set.set.set.set.set.set

theorem Keeps.setActive {c : Nat} {a : Option Active} (h : Keeps s₀ s) : Keeps s₀ (s.setActive c a) :=
  h.setDchan.showChan

theorem Keeps.clearRings {k c : Nat} (h : Keeps s₀ s) : Keeps s₀ (s.clearRings k c) :=
  h.foldl fun g => .ite (.ite g.setWord g) g

theorem Keeps.conclude' {c : Nat} {a : Active} {counted : Bool} (h : Keeps s₀ s) : Keeps s₀ (s.conclude' c a counted) := by
  unfold State.conclude'
  extract_lets status s1 s2 s2' s3
  have g1 : Keeps s₀ s1 := .ite h.set h
  have g2 : Keeps s₀ s2 := by
    unfold s2
    split
    · exact g1.carrelCount.carrelCount
    · exact g1
  have g3 : Keeps s₀ s3 := .setActive (.ite g2.count g2)
  split
  · exact .ite g3 g3.clearRings
  · exact g3

theorem Keeps.tryCommit {c : Nat} (h : Keeps s₀ s) : Keeps s₀ (s.tryCommit c) := by
  unfold State.tryCommit
  split
  · exact h
  · refine .ite h (.ite h ?_)
    split
    · exact h.conclude'
    · refine .ite (.ite h h.waitCtx.setActive) (.ite h.useCtx.conclude' ?_)
      split
      · exact .conclude' (h.useCtx.ringWrite.of ‹_›)
      · exact .setActive (.qmgError (h.useCtx.ringWrite.of ‹_›))

theorem Keeps.nextRecords (h : Keeps s₀ s) : Keeps s₀ s.nextRecords :=
  h.foldl fun g => g.foldl .tryCommit

theorem Keeps.dropActive {c : Nat} (h : Keeps s₀ s) : Keeps s₀ (s.dropActive c) := by
  unfold State.dropActive
  split
  · exact h
  · exact h.conclude'.nextRecords

theorem Keeps.makeRecord {a : Active} {status done fa : Nat} (h : Keeps s₀ s) : KeepsSnd s₀ (s.makeRecord a status done fa) :=
  .pair (.ite h.fields h)

theorem Keeps.sanitizeEnd {d : BitVec 512} {status : Nat} (h : Keeps s₀ s) : Keeps s₀ (s.sanitizeEnd d status) := by
  unfold State.sanitizeEnd
  split
  · exact h
  · exact .ite h.fields h.fields.fields.commitSrec.owes.record.archive

theorem Keeps.finish {c status done fa : Nat} {a : Active} (h : Keeps s₀ s) : Keeps s₀ (s.finish c a status done fa) := by
  unfold State.finish
  simp only
  exact h.makeRecord.snd.sanitizeEnd.setActive.tryCommit.nextRecords

theorem Keeps.keepActive {c k : Nat} {a : Active} (h : Keeps s₀ s) : Keeps s₀ (s.keepActive c k a) :=
  h.fields.dropActive

theorem Keeps.takeBack {k : Nat} (h : Keeps s₀ s) : Keeps s₀ (s.takeBack k) :=
  h.foldl fun g => .ite g g.setDchan.fields

theorem Keeps.frozen {k : Nat} (h : Keeps s₀ s) : Keeps s₀ (s.frozen k) :=
  .ite (.record (.fields (.ite h.set.set.set.fields h.set))) (.fields (.ite h.set.set.set.fields h.set))

theorem Keeps.resetActive {c : Nat} {a : Active} (h : Keeps s₀ s) : Keeps s₀ (s.resetActive c a) := by
  unfold State.resetActive
  simp only
  split
  · exact .ite h.finish.dropActive h.finish
  · exact h.finish

theorem Keeps.carrelIrqs {k : Nat} (h : Keeps s₀ s) : Keeps s₀ (s.carrelIrqs k) :=
  h.foldl fun g => .ite (.setCtx (.ite g.ownerIrq g)) (.ite g.ownerIrq g)

theorem Keeps.carrelContained {k : Nat} (h : Keeps s₀ s) : Keeps s₀ (s.carrelContained k) := by
  unfold State.carrelContained
  refine .ite h (.carrelIrqs (.set (.ite (.frozen (.foldl h.takeBack (fun g => ?_))) (.set (.foldl h.takeBack (fun g => ?_))))))
  · split
    · exact .ite g.setActive (.ite g.resetActive g)
    · exact g
  · split
    · exact .ite g.setActive (.ite g.resetActive g)
    · exact g

theorem Keeps.hostAccessFail {q : Nat} (h : Keeps s₀ s) : Keeps s₀ (s.hostAccessFail q) :=
  .ite h.qmgCapture.record.carrelContained h.qmgCapture.record.portContained

/-! The functions of Sys2Proof/Machine/Movers.lean. -/

theorem Keeps.takeEntry {c e : Nat} (h : Keeps s₀ s) : Keeps s₀ (s.takeEntry c e) := by
  unfold State.takeEntry
  extract_lets q
  split
  · exact h.showChan
  next u hu =>
  have g : Keeps s₀ u := by
    split at hu
    · cases hu
    · exact h.charge hu
  exact .setActive (.setDchan (.indexDue (.setCtx (.send (.useCtx (.ite g g.bump.count))))))

theorem Keeps.descriptorFetch {x : FetchLook} (h : Keeps s₀ s) : Keeps s₀ (descriptorFetch x s) := by
  unfold Machine.descriptorFetch
  refine .ite h ?_
  simp only
  split
  · exact h.setDchan.setActive
  · refine .ite h.set.set.setActive ?_
    split
    · exact .ite h.record.carrelContained h.takeEntry
    · exact h.showChan

theorem Keeps.descriptorReadError {c : Chan} (h : Keeps s₀ s) : Keeps s₀ (descriptorReadError c s) := by
  unfold Machine.descriptorReadError
  split
  · split
    · exact h.dropActive.hostAccessFail
    · exact h
  · exact h

theorem Keeps.dmvArrive {op c : Nat} {desc : BitVec 512} (h : Keeps s₀ s) : Keeps s₀ (Machine.arrive op c desc s) := by
  unfold Machine.arrive
  split
  · exact h
  · refine .ite h (.ite h ?_)
    simp only
    split
    · exact .ite h.finish (.ite h.keepActive (.ite h.finish (.ite h.finish h.setActive)))
    · exact .ite h.finish (.ite h.finish h.setActive)

theorem Keeps.dmvCopy {c : Chan} {desc : BitVec 512} (h : Keeps s₀ s) : Keeps s₀ (dmvCopy c desc s) :=
  h.dmvArrive

theorem Keeps.dmvFill {c : Chan} {desc : BitVec 512} (h : Keeps s₀ s) : Keeps s₀ (dmvFill c desc s) :=
  h.dmvArrive

theorem Keeps.dmvCheck {c : Chan} {desc : BitVec 512} (h : Keeps s₀ s) : Keeps s₀ (dmvCheck c desc s) :=
  h.dmvArrive

theorem Keeps.dmvNop {c : Chan} {desc : BitVec 512} (h : Keeps s₀ s) : Keeps s₀ (dmvNop c desc s) :=
  h.dmvArrive

theorem Keeps.poolAccess {a : Active} {fa : Nat} (h : Keeps s₀ s) : KeepsSnd s₀ (s.poolAccess a fa) := by
  unfold State.poolAccess
  simp only
  split
  · exact .pair h
  · exact .pair h.fields

theorem Keeps.poolRefused {a : Active} {addr n : Nat} {rd wr : Bool} (h : Keeps s₀ s) : KeepsSnd s₀ (s.poolRefused a addr n rd wr) := by
  unfold State.poolRefused
  extract_lets check fault
  have hcheck {u fa} (g : Keeps s₀ u) : Keeps s₀ (check u fa).2.2 := g.poolAccess.snd
  have hfault {u} (g : Keeps s₀ u) : Keeps s₀ (fault u) := by
    unfold fault
    split
    · exact g.carrelCount
    · exact g
  refine .foldl (.pair h) fun {u b} g => ?_
  split
  · exact g
  next v =>
  have gv : Keeps s₀ v := g.snd
  extract_lets fa
  have gc : Keeps s₀ (check v fa).2.2 := hcheck gv
  refine .ite (.pair (hfault gv)) ?_
  split
  next e =>
    rw [e] at gc
    exact .pair (hfault gc.refuse)
  next e =>
    rw [e] at gc
    exact .pair (.ite gv gc)

theorem Keeps.dmvSend {c space port n : Nat} {d : BitVec 512} {write : Bool} {m : Msg} {bytes : List Byte} (h : Keeps s₀ s) :
    Keeps s₀ (s.dmvSend c d space port n write m bytes) :=
  .ite h.emit h.send

theorem Keeps.dmvAsk {c addr n : Nat} {d : BitVec 512} {side : Nat × Nat × Nat} (h : Keeps s₀ s) :
    Keeps s₀ (s.dmvAsk c d side addr n) :=
  .ite (h.foldl .dmvSend) h.dmvSend

theorem Keeps.dmvPut {a : Active} {off : Nat} {bs : List Byte} {poison : Bool} (h : Keeps s₀ s) :
    KeepsFst s₀ (s.dmvPut a off bs poison) := by
  unfold State.dmvPut
  simp only
  split
  · exact .pair (KeepsSnd.snd (.ite h.poolRefused (.pair h)))
  · exact .pair (KeepsSnd.snd (.ite h.poolRefused (.pair h)))

theorem Keeps.shaperWaited {c : Nat} {a : Active} (h : Keeps s₀ s) : Keeps s₀ (s.shaperWaited c a) := by
  unfold State.shaperWaited
  split
  · exact h
  · simp only
    split
    · exact h.bump.carrelCount
    · exact h.bump

theorem Keeps.dmvCharge {c n : Nat} {a : Active} {dst : Bool} (h : Keeps s₀ s) (e : s.dmvCharge c a dst n = some t) : Keeps s₀ t := by
  unfold State.dmvCharge at e
  split at e
  · cases e
  · obtain ⟨u, hu, rfl⟩ := Option.map_eq_some_iff.1 e
    exact (h.charge hu).shaperWaited

theorem Keeps.dmvWritten {c off n : Nat} {a : Active} (h : Keeps s₀ s) : KeepsFst s₀ (s.dmvWritten c a off n) :=
  .ite (.pair h.count) (.pair h)

theorem Keeps.issueWrites {k c : Nat} {a : Active} (h : Keeps s₀ s) : KeepsFst s₀ (issueWrites k s c a) := by
  induction k generalizing s a with
  | zero => exact h
  | succ k ih =>
    unfold Machine.issueWrites
    split
    · exact .pair h
    split
    · exact .pair h
    next u hu =>
    have g : Keeps s₀ u := by
      split at hu
      · cases hu
      · exact h.dmvCharge hu
    extract_lets d
    split
    extract_lets t1
    have g1 : Keeps s₀ t1 := g.dmvSend
    split
    next e =>
    refine ih (KeepsFst.of ?_ e)
    exact .ite g1.dmvWritten (.pair g1)

theorem Keeps.dmvIssue {c : Nat} {a : Active} (h : Keeps s₀ s) : KeepsFst s₀ (s.dmvIssue c a) :=
  h.issueWrites

theorem Keeps.clearMarks {d : BitVec 512} {off n : Nat} (h : Keeps s₀ s) : Keeps s₀ (s.clearMarks d off n) :=
  h.foldl fun g => g.foldl .markPage

theorem Keeps.targetFails {d : BitVec 512} {off : Nat} (h : Keeps s₀ s) : Keeps s₀ (s.targetFails d off) :=
  h.foldl .rshAbort

theorem Keeps.settleDmv {c : Nat} (h : Keeps s₀ s) : Keeps s₀ (s.settleDmv c) := by
  unfold State.settleDmv
  split
  · exact h
  · refine .ite h (.ite h.dropActive.set.set.set ?_)
    simp only
    split
    · exact h.finish
    · refine .ite ?_ (.ite h (.ite h.finish ?_))
      · split
        · exact h.keepActive
        · exact h
      · split
        · exact .finish (KeepsSnd.snd (.ite h.poolRefused (.pair h)))
        · split
          · exact h.setActive
          · exact .dmvAsk (.setActive (.dmvCharge (KeepsSnd.snd (.ite h.poolRefused (.pair h))) ‹_›))

theorem Keeps.dmvData {c off : Nat} {a : Active} {bs : List Byte} {poison : Bool} (h : Keeps s₀ s) :
    KeepsFst s₀ (s.dmvData c a off bs poison) :=
  .ite h.dmvPut.fst.dmvIssue (.pair h)

theorem Keeps.nextBurst {c : Nat} {a : Active} (h : Keeps s₀ s) : Keeps s₀ (s.nextBurst c a) := by
  unfold State.nextBurst
  extract_lets d o off n b addr
  refine .ite h.setActive.settleDmv (.ite h.dmvPut.fst.dmvIssue.fst.setActive.settleDmv ?_)
  split
  · exact h.setActive
  next t e =>
  have g : Keeps s₀ t := h.dmvCharge e
  split
  next bad s2 e2 =>
  have hr : KeepsSnd s₀ (if (t.sideOf a false).1 = 1 then t.poolRefused a addr n true false else (none, t)) :=
    .ite g.poolRefused (.pair g)
  have g2 : Keeps s₀ s2 := hr.of e2
  exact .ite g2.setActive.settleDmv g2.clearMarks.setActive.dmvAsk

theorem Keeps.writeCrc {c : Nat} {a : Active} (h : Keeps s₀ s) : Keeps s₀ (s.writeCrc c a) :=
  h.dmvPut.fst.dmvIssue.fst.setActive.settleDmv

theorem Keeps.dmvBurstIssue {x : IssueLook} (h : Keeps s₀ s) : Keeps s₀ (dmvBurstIssue x s) := by
  unfold Machine.dmvBurstIssue
  extract_lets c s'
  have g : Keeps s₀ s' := .ite h.record h
  split
  · exact g
  · refine .ite g.finish (.ite g (.ite g.dmvIssue.fst.setActive.settleDmv (.ite g.settleDmv ?_)))
    exact .ite g.nextBurst (.ite g.writeCrc g.settleDmv)

theorem Keeps.dmvBurstComplete {c : Chan} {off : Nat} {rsp : BurstRsp} {data : List Byte} (h : Keeps s₀ s) :
    Keeps s₀ (dmvBurstComplete c off rsp data s) := by
  unfold Machine.dmvBurstComplete
  split
  · exact h
  split
  · exact h
  extract_lets d bad b s1 s'
  have g1 : Keeps s₀ s1 := h.setActive.settleDmv
  have g' : Keeps s₀ s' := .ite h.record (.ite h.record h)
  refine .ite h (.ite (.ite g1.targetFails g1) (.ite h.dmvWritten.fst.setActive.settleDmv ?_))
  exact g'.count.dmvData.fst.setActive.settleDmv

theorem Keeps.readbackComplete {c : Chan} {rsp : BurstRsp} {data : List Byte} (h : Keeps s₀ s) :
    Keeps s₀ (readbackComplete c rsp data s) := by
  unfold Machine.readbackComplete
  split
  · exact h
  · exact .ite h (.ite (.ite h.finish.targetFails h.finish) (.ite h.finish h.finish))

theorem Keeps.dmvCqHoldTmo {c : Chan} (h : Keeps s₀ s) : Keeps s₀ (dmvCqHoldTmo c s) := by
  unfold Machine.dmvCqHoldTmo
  split
  · exact h
  · refine .ite h ?_
    split
    · exact h
    · exact .ite h.setCtx.conclude'.nextRecords.record.carrelContained h.setCtx.conclude'.nextRecords.record

theorem Keeps.shadowArm {p : Path} {c : Chan} (h : Keeps s₀ s) : Keeps s₀ (shadowArm p c s) :=
  h.command .set

theorem Keeps.dmvAbort {p : Path} {c : Chan} (h : Keeps s₀ s) : Keeps s₀ (dmvAbort p c s) := by
  unfold Machine.dmvAbort
  refine .start h (fun g => ?_)
  split
  · exact g.set.set
  · exact .ite g.setActive.set g.dropActive.set.set

theorem Keeps.ringTableWrite {p : Path} {n : Fin 4096} {v : Word} (h : Keeps s₀ s) : Keeps s₀ (ringTableWrite p n v s) :=
  h.command fun g => .ite g.discard g.setWord

/-! The functions of Sys2Proof/Machine/Queues.lean. -/

theorem Keeps.putCtx {q : Nat} {v : BitVec 512} (h : Keeps s₀ s) : Keeps s₀ (s.putCtx q v) :=
  h.setCtx.set

theorem Keeps.makeCtx {q : Nat} {v : BitVec 512} (h : Keeps s₀ s) : Keeps s₀ (s.makeCtx q v) :=
  h.putCtx.setWord

theorem Keeps.loadCtx {r q : Nat} (h : Keeps s₀ s) : Keeps s₀ (s.loadCtx r q) :=
  h.foldl .setWord

theorem Keeps.ctxPerform {r q op : Nat} {v : BitVec 512} (h : Keeps s₀ s) : Keeps s₀ (s.ctxPerform r q op v) := by
  unfold State.ctxPerform
  extract_lets s1
  have g : Keeps s₀ s1 := h.useCtx
  split
  next res s2 e =>
  refine .set (.set (KeepsSnd.of ?_ e))
  split
  · exact .pair g.loadCtx
  · exact .pair (.ite g.makeCtx g)
  · exact .pair (.ite g.putCtx g)
  · exact .ite (.pair g.putCtx) (.pair g)

theorem Keeps.ctxCommand {p : Path} {r q op : Nat} (h : Keeps s₀ s) : Keeps s₀ (ctxCommand p r q op s) :=
  .startWith h (fun g => g.set.set) (fun g => .ite g.set.set.set (.ite g.set.set.ctxPerform g.set.set.set.waitCtx))

theorem Keeps.ctxRead {p : Path} {r : Region} {q : Qid} (h : Keeps s₀ s) : Keeps s₀ (ctxRead p r q s) :=
  h.ctxCommand

theorem Keeps.ctxCreate {p : Path} {r : Region} {q : Qid} (h : Keeps s₀ s) : Keeps s₀ (ctxCreate p r q s) :=
  h.ctxCommand

theorem Keeps.ctxModify {p : Path} {r : Region} {q : Qid} (h : Keeps s₀ s) : Keeps s₀ (ctxModify p r q s) :=
  h.ctxCommand

theorem Keeps.ctxDestroy {p : Path} {r : Region} {q : Qid} (h : Keeps s₀ s) : Keeps s₀ (ctxDestroy p r q s) :=
  h.ctxCommand

theorem Keeps.doorError {q ingress bit cause : Nat} (h : Keeps s₀ s) : Keeps s₀ (s.doorError q ingress bit cause) :=
  h.qmgCapture.record

theorem Keeps.doorRefused {carrel : Option Nat} (h : Keeps s₀ s) : Keeps s₀ (s.doorRefused carrel) := by
  unfold State.doorRefused
  split
  · exact h.carrelCount
  · exact h

theorem Keeps.retryHeld {q : Nat} (h : Keeps s₀ s) : Keeps s₀ (s.retryHeld q) := by
  unfold State.retryHeld
  refine .nextRecords (.foldl h (fun g => ?_))
  split
  · exact .ite g.tryCommit g
  · exact g

theorem Keeps.doorPerform {q idx ingress : Nat} {cons arm : Bool} {carrel : Option Nat} (h : Keeps s₀ s) :
    Keeps s₀ (s.doorPerform q idx cons arm carrel ingress) := by
  unfold State.doorPerform
  extract_lets s' c d c1 c2 t s1
  have g : Keeps s₀ s' := h.useCtx
  have gt : Keeps s₀ t := g.setCtx
  have g1 : Keeps s₀ s1 := .ite (.ownerIrq (.ite gt.indexWord gt)) g.setCtx
  refine .ite g.doorError (.ite ?_ (.ite g1.retryHeld g.doorError.doorRefused))
  exact .ite g.setCtx (.ite g.setCtx.doorError.doorRefused g.doorError.doorRefused)

theorem Keeps.door {q ingress : Nat} {b : Doorbell} {cons : Bool} {carrel : Option Nat} (h : Keeps s₀ s) :
    Keeps s₀ (s.door q b cons carrel ingress) :=
  .ite h.doorError (.ite h.doorPerform h.waitCtx)

theorem Keeps.doorbell {via : DoorVia} {b : Doorbell} {cons : Bool} (h : Keeps s₀ s) : Keeps s₀ (doorbell via b cons s) := by
  unfold Machine.doorbell
  split
  · exact .ite h h.door
  · exact .ite h h.door
  · exact .ite h (.ite h.door h.doorError.carrelCount)

theorem Keeps.producerDoorbell {via : DoorVia} {b : Doorbell} (h : Keeps s₀ s) : Keeps s₀ (producerDoorbell via b s) :=
  h.doorbell

theorem Keeps.consumerDoorbell {via : DoorVia} {b : Doorbell} (h : Keeps s₀ s) : Keeps s₀ (consumerDoorbell via b s) :=
  h.doorbell

theorem Keeps.indexWordWrite {q : Qid} (h : Keeps s₀ s) : Keeps s₀ (indexWordWrite q s) :=
  .ite (.ite h.indexWord h.fields) h

theorem Keeps.slipRefuse {head : Nat} (h : Keeps s₀ s) : Keeps s₀ (s.slipRefuse head) :=
  .ite h.carrelCount h

theorem Keeps.slipWrite {q : Nat} {item : List Byte} (h : Keeps s₀ s) : Keeps s₀ (s.slipWrite q item) := by
  unfold State.slipWrite
  refine .ite h.useCtx.slipRefuse (.ite h.useCtx.slipRefuse (.ite h.useCtx.setCtx.slipRefuse ?_))
  simp only
  split
  · exact .ite (.carrelCount (h.useCtx.ringWrite.of ‹_›)) (h.useCtx.ringWrite.of ‹_›)
  · exact .slipRefuse (h.useCtx.ringWrite.of ‹_›)

theorem Keeps.slipDeliver {q : Qid} {carrel : Carrel} {srcPort : Port} {srcUnit : Fin 4} {tag : Word} {data : List Byte} {poison : Bool}
    (h : Keeps s₀ s) :
    Keeps s₀ (slipDeliver q carrel srcPort srcUnit tag data poison s) :=
  .ite h.slipRefuse (.ite h.slipWrite h.waitCtx)

theorem Keeps.performOp {op : QOp} (h : Keeps s₀ s) : Keeps s₀ (s.performOp op) := by
  unfold State.performOp
  split
  · exact h.doorPerform
  · exact h.ctxPerform
  · split
    · exact h.sampleWrite
    · exact h.slipWrite
    · exact h.tryCommit.nextRecords

theorem Keeps.ctxLost {q : Nat} (h : Keeps s₀ s) : Keeps s₀ (s.ctxLost q) := by
  unfold State.ctxLost
  exact .ite h.qmgCapture.record.carrelContained (.ite h.qmgCapture.record.putCtx.ownerIrq h.qmgCapture.record)

theorem Keeps.ctxCacheFill {x : CtxRead} (h : Keeps s₀ s) : Keeps s₀ (ctxCacheFill x s) := by
  unfold Machine.ctxCacheFill
  simp only
  split
  · exact h
  · refine .ite h.record (.foldl (.useCtx (.fields ?_)) (fun g => .foldl g (fun k => .performOp k)))
    split
    · exact h.columns.keyCorrected.record
    · exact h.columns.keyLost.ctxLost
    · exact h.columns

theorem Keeps.windowCtx {q : Nat} (h : Keeps s₀ s) : Keeps s₀ (s.windowCtx q) :=
  .ite h.useCtx h.bump.count.useCtx

theorem Keeps.windowLatch {p : Path} {q : Nat} (h : Keeps s₀ s) : KeepsSnd s₀ (windowLatch p q s) := by
  unfold Machine.windowLatch
  exact .pair (.latch (.ite (.set (.ite h.windowCtx h)) (.ite h.windowCtx h)))

theorem Keeps.windowReply {p : Path} {q : Nat} {f : State → (Word × Bool) × State} (h : Keeps s₀ s)
    (hf : ∀ {u}, Keeps s₀ u → KeepsSnd s₀ (f u)) :
    Keeps s₀ (s.windowReply p q f) :=
  .ite (h.readWith .pair) (.emit (KeepsSnd.snd (hf h)))

theorem Keeps.noticeWordLatch {p : Path} {q : Qid} (h : Keeps s₀ s) : Keeps s₀ (noticeWordLatch p q s) :=
  h.windowReply .windowLatch

theorem Keeps.windowNext {q : Nat} (h : Keeps s₀ s) : Keeps s₀ (s.windowNext q) :=
  .ite h.set h.setCtx.set

theorem Keeps.windowTake {p : Path} {q : Nat} (h : Keeps s₀ s) : KeepsSnd s₀ (windowTake p q s) := by
  unfold Machine.windowTake
  refine .ite (.pair h) ?_
  simp only
  split
  · exact .pair h.windowCtx
  · exact .ite (.pair h.windowCtx.setCtx.set.qmgError.windowNext) (.pair h.windowCtx.set.windowNext)

theorem Keeps.noticeWordRead {p : Path} {q : Qid} (h : Keeps s₀ s) : Keeps s₀ (noticeWordRead p q s) :=
  h.windowReply .windowTake

theorem Keeps.windowOp {p : Path} {q : Nat} {f : State → BitVec 512 → State} (h : Keeps s₀ s)
    (hf : ∀ {u x1}, Keeps s₀ u → Keeps s₀ (f u x1)) :
    Keeps s₀ (s.windowOp p q f) :=
  h.command fun g => .ite (hf g.windowCtx) g.discard

theorem Keeps.noticeMark {p : Path} {q : Qid} (h : Keeps s₀ s) : Keeps s₀ (noticeMark p q s) :=
  h.windowOp .setCtx

theorem Keeps.noticeRewind {p : Path} {q : Qid} (h : Keeps s₀ s) : Keeps s₀ (noticeRewind p q s) :=
  h.windowOp fun g => g.setCtx.set

theorem Keeps.noticeRelease {p : Path} {q : Qid} {count : BitVec 20} (h : Keeps s₀ s) : Keeps s₀ (noticeRelease p q count s) :=
  h.windowOp .setCtx

theorem Keeps.noticeSkip {p : Path} {q : Qid} (h : Keeps s₀ s) : Keeps s₀ (noticeSkip p q s) :=
  h.windowOp fun g => .ite g g.setCtx.set

/-! The functions of Sys2Proof/Machine/Carrels.lean. -/

theorem Keeps.crlCmd {p : Path} {k op dest src : Nat} {f : State → State} (h : Keeps s₀ s) (hf : ∀ {u}, Keeps s₀ u → Keeps s₀ (f u)) :
    Keeps s₀ (crlCmd p k op dest src s f) :=
  .startWith h (fun g => g.set.set.set) (fun g => .ite (hf g.set.set.set.set) g.set.set.set.set)

theorem Keeps.setCounters {k : Nat} {f : Nat → Nat} (h : Keeps s₀ s) : Keeps s₀ (s.setCounters k f) :=
  h.fields

theorem Keeps.crlCreate {p : Path} {carrel : Carrel} (h : Keeps s₀ s) : Keeps s₀ (crlCreate p carrel s) := by
  unfold Machine.crlCreate
  exact h.crlCmd fun g => .ite g.set.set.set.setCounters g.set

theorem Keeps.freezeCarrel {k : Nat} (h : Keeps s₀ s) : Keeps s₀ (s.freezeCarrel k) := by
  unfold State.freezeCarrel
  refine .foldl h.takeBack (fun g => ?_)
  split
  · exact .ite g.setActive.settleDmv g
  · exact g

theorem Keeps.crlFreeze {p : Path} {carrel : Carrel} (h : Keeps s₀ s) : Keeps s₀ (crlFreeze p carrel s) := by
  unfold Machine.crlFreeze
  exact h.crlCmd fun g => g.set.set.fields.freezeCarrel

theorem Keeps.carrelFrozen {carrel : Carrel} (h : Keeps s₀ s) : Keeps s₀ (carrelFrozen carrel s) :=
  .ite h.frozen h

theorem Keeps.resumeKept {k : Nat} (h : Keeps s₀ s) : Keeps s₀ (s.resumeKept k) :=
  .fields (h.foldl .setDchan)

theorem Keeps.crlThaw {p : Path} {carrel : Carrel} (h : Keeps s₀ s) : Keeps s₀ (crlThaw p carrel s) := by
  unfold Machine.crlThaw
  exact h.crlCmd fun g => .ite g.set g.set.set.resumeKept

theorem Keeps.crlSave {p : Path} {carrel : Carrel} {host : Bool} (h : Keeps s₀ s) : Keeps s₀ (crlSave p carrel host s) := by
  unfold Machine.crlSave
  exact h.crlCmd fun g => .ite g.set.fields.emit.emit g.set.fields

theorem Keeps.saveDone {good : Bool} (h : Keeps s₀ s) : Keeps s₀ (saveDone good s) := by
  unfold Machine.saveDone
  split
  · exact h
  · exact .ite h.set.fields.set (.set (.set (.ite h.set.fields h.set.fields.writeHbm)))

theorem Keeps.addRing {c q : Nat} (h : Keeps s₀ s) : Keeps s₀ (s.addRing c q) := by
  unfold State.addRing
  split
  · exact h.set.set
  · exact h

theorem Keeps.addPolicer {k base v : Nat} {m : RecMap} (h : Keeps s₀ s) : Keeps s₀ (s.addPolicer k base m v) := by
  unfold State.addPolicer
  simp only
  split
  · exact h.setWord.setWord.setPolicer
  · exact h

theorem Keeps.restoreCarrel {m : RecMap} {k base : Nat} (h : Keeps s₀ s) : Keeps s₀ (s.restoreCarrel m k base) := by
  unfold State.restoreCarrel
  extract_lets s1 s2 s3 s4 s5 s6
  have g2 : Keeps s₀ s2 := (h.foldl .makeCtx).foldl fun g => .ite (.ite g.setWord.addRing g.setWord) g.setWord
  have g4 : Keeps s₀ s4 := (g2.foldl .addPolicer).foldl .set
  exact g4.setCounters.fields.set.set.set

theorem Keeps.crlRestoreRead {p : Path} {carrel : Carrel} (h : Keeps s₀ s) : Keeps s₀ (crlRestoreRead p carrel s) := by
  unfold Machine.crlRestoreRead
  exact h.crlCmd fun g => g.set.fields.emit

theorem Keeps.crlRestore {p : Path} {carrel : Carrel} {src : RecordFrom} (h : Keeps s₀ s) : Keeps s₀ (crlRestore p carrel src s) := by
  unfold Machine.crlRestore
  exact .crlCmd (.ite h.set.fields h) fun g => .ite g.set (.ite g.restoreCarrel.set.set g.set.record)

theorem Keeps.destroyCarrel {k : Nat} (h : Keeps s₀ s) : Keeps s₀ (s.destroyCarrel k) := by
  unfold State.destroyCarrel
  extract_lets s' s1 s2 s3 s4 s5 s6
  have g' : Keeps s₀ s' := by
    refine h.foldl fun g => ?_
    split
    · exact .ite g.dropActive g
    · exact g
  have g2 : Keeps s₀ s2 := (g'.foldl .setWord).foldl .clearRings
  have g4 : Keeps s₀ s4 := (g2.foldl .putCtx).foldl .setWord
  exact (g4.foldl .set).fields.set.set

theorem Keeps.crlDestroy {p : Path} {carrel : Carrel} (h : Keeps s₀ s) : Keeps s₀ (crlDestroy p carrel s) :=
  h.crlCmd .destroyCarrel

theorem Keeps.carrelSlotWrite {p : Path} {carrel : Carrel} {slot : Fin 64} {v : Word} (h : Keeps s₀ s) :
    Keeps s₀ (carrelSlotWrite p carrel slot v s) :=
  h.command fun g => .ite g.discard g.setWord

theorem Keeps.carrelShareWrite {p : Path} {carrel : Carrel} {hi : Bool} {v : Word} (h : Keeps s₀ s) :
    Keeps s₀ (carrelShareWrite p carrel hi v s) := by
  refine h.command fun g => ?_
  extract_lets k lo old may new s1 s2
  have g1 : Keeps s₀ s1 := .ite g g.discard
  have g2 : Keeps s₀ s2 := .ite g1.set g1.set
  exact .ite g2 (g2.foldl fun k => .ite k k.clearRings)

/-! The functions of Sys2Proof/Machine/Granary.lean. -/

theorem Keeps.granaryDataReady {r : Region} {t : Nat} {found : ColRead} (h : Keeps s₀ s) : Keeps s₀ (granaryDataReady r t found s) := by
  unfold Machine.granaryDataReady
  simp only
  split
  · exact h
  · refine .ite h ?_
    split
    · exact h.setTrk.work
    · split
      · exact h.columns.setTrk.work
      · exact h.columns.columnCorrected.setTrk.work
      · refine .ite h.columns.sectorLostDirty.snd.setTrk.work ?_
        split
        · exact h.columns.sectorLostClean.setTrk.work
        · exact .ite h.columns.sectorLostClean.openLine.snd.setTrk.work h.columns.sectorLostClean.fetch.setTrk
      · exact h.columns.eccCapture.record.rowRepair.setTrk.work
      · exact h.columns.eccCapture.record.rowRepair.setTrk.work

theorem Keeps.poolFillArrive {r : Region} {addr : FAddr} {d : LineData} (h : Keeps s₀ s) : Keeps s₀ (poolFillArrive r addr d s) := by
  unfold Machine.poolFillArrive
  refine .ite h ?_
  simp only
  split
  · exact h.fillSector.setTrk.work
  · exact h.fillSector

theorem Keeps.writeDone {w : PoolWr} (h : Keeps s₀ s) : Keeps s₀ (writeDone s w) := by
  unfold Machine.writeDone
  split
  · exact h
  · split
    · exact .ite h.setTrk.work h
    · exact h
  · split
    · exact h
    · exact .ite h.dropWb.work h.fields
  · split
    · exact h
    · exact h.setWay

theorem Keeps.poolWriteComplete {r : Region} {addr : FAddr} (h : Keeps s₀ s) : Keeps s₀ (poolWriteComplete r addr s) := by
  unfold Machine.poolWriteComplete
  split
  · exact h
  · exact h.fields.sourceWritten.writeDone

theorem Keeps.setFlush {r : Nat} {f : Flush} (h : Keeps s₀ s) : Keeps s₀ (setFlush s r f) :=
  h.fields

theorem Keeps.flushStart {p : Path} {r op x : Nat} (h : Keeps s₀ s) : Keeps s₀ (flushStart p r op x s) := by
  refine .startWith h (fun g => g.set.set) (fun g => ?_)
  extract_lets s1 s2 s3 s4
  have g2 : Keeps s₀ s2 := g.set.set.set.set.set
  exact .ite g.set.set.set (.ite g2.dropWb.fields.setFlush.work (.setFlush (.ite g2.set g2)))

theorem Keeps.flushWay {r k : Nat} {found : List ColRead} (h : Keeps s₀ s) : Keeps s₀ (flushWay s r k found) := by
  unfold Machine.flushWay
  refine .ite (.ite h.setFlush (.count (.setFlush ?_))) (.ite h.toBuffer.setFlush.setWay h.setWay)
  exact h.wayRead.foldl fun g => .ite g.sendWrite g

theorem Keeps.flushWalkStep {r : Region} {found : List ColRead} (h : Keeps s₀ s) : Keeps s₀ (flushWalkStep r found s) := by
  unfold Machine.flushWalkStep
  extract_lets f
  refine .ite h ?_
  split
  · exact h
  · extract_lets here s' s1 f1 s2
    have g1 : Keeps s₀ s1 := (h.foldl .tagLookup).foldl .flushWay
    have g2 : Keeps s₀ s2 := g1.setFlush.set
    exact .ite h (.ite g2.set g2)

theorem Keeps.setsBack {r : Nat} (h : Keeps s₀ s) : Keeps s₀ (s.setsBack r) := by
  unfold State.setsBack
  refine .foldl h (fun g => ?_)
  split
  · exact .ite g.putBacking.inCat g
  · exact g

theorem Keeps.flushWalkDone {r : Region} (h : Keeps s₀ s) : Keeps s₀ (flushWalkDone r s) :=
  .ite (.set (.set (.setFlush (.ite h.tagsBack.setsBack h)))) h

theorem Keeps.pseudoChannelFail {r : Region} (h : Keeps s₀ s) : Keeps s₀ (pseudoChannelFail r s) :=
  h.record

/-! The functions of Sys2Proof/Machine/Home.lean. -/

theorem Keeps.catReqProtocol {a : Access} (h : Keeps s₀ s) : Keeps s₀ (catReqProtocol a s) :=
  h.record.portContained

theorem Keeps.admitted {q : Request} (h : Keeps s₀ s) : Keeps s₀ (s.admitted q) := by
  unfold State.admitted
  split
  · exact .ite h.latMark h
  · exact .ite h.latMark h
  · exact .ite h.latMark h
  · exact h

theorem Keeps.atBank {a : Access} {f : Access → Request} (h : Keeps s₀ s) : Keeps s₀ (s.atBank a f) := by
  unfold State.atBank
  split
  · exact h
  · exact .ite h.catReqProtocol h.admitted.work

theorem Keeps.snoopAnswer {k agent : Nat} {rsp : SnpRsp} {d : Option LineData} (h : Keeps s₀ s) :
    Keeps s₀ (snoopAnswer s k agent rsp d) := by
  unfold Machine.snoopAnswer
  split
  · exact h
  · split
    · exact h
    · exact .ite h.setTrk.work h.record.deadAnswer.work.portContained

theorem Keeps.biRsp {r : Region} {t : Nat} {agent : Agent} {rsp : SnpRsp} (h : Keeps s₀ s) : Keeps s₀ (biRsp r t agent rsp s) :=
  h.snoopAnswer

theorem Keeps.d2hSnoopResponse {r : Region} {t : Nat} {agent : Agent} {rsp : SnpRsp} {d : Option LineData} (h : Keeps s₀ s) :
    Keeps s₀ (d2hSnoopResponse r t agent rsp d s) :=
  h.snoopAnswer

theorem Keeps.sendAck {r : Nat} {agent : Agent} {tag : BitVec 16} (h : Keeps s₀ s) : Keeps s₀ (s.sendAck r agent tag) :=
  h.send

theorem Keeps.biConflict {r : Region} {t : Nat} {agent : Agent} {tag : BitVec 16} {later : Bool} (h : Keeps s₀ s) :
    Keeps s₀ (biConflict r t agent tag later s) := by
  unfold Machine.biConflict
  simp only
  split
  · exact h
  · exact .ite h (.ite h.sendAck h.sendAck.setTrk)

theorem Keeps.catalogueFillDone {r : Region} {index : BitVec 26} {found : ColRead} (h : Keeps s₀ s) :
    Keeps s₀ (catalogueFillDone r index found s) := by
  unfold Machine.catalogueFillDone
  simp only
  split
  · exact h
  · exact .ite (.record (.keyLost (.ite h.keyCorrected h))) (.work (.catFill (.inCat (.ite h.keyCorrected h))))

theorem Keeps.chainRetryDelay {r : Region} (h : Keeps s₀ s) : Keeps s₀ (chainRetryDelay r s) := by
  unfold Machine.chainRetryDelay
  split
  · exact h
  · exact h.inCat.work

theorem Keeps.dedupeRetire {r : Region} (h : Keeps s₀ s) : Keeps s₀ (dedupeRetire r s) := by
  unfold Machine.dedupeRetire
  simp only
  split
  · exact h
  · split
    · exact h.inCat.noteDdp
    · exact h.inCat.noteDdp.inCat.ddpEnter.work

theorem Keeps.catEntryLookup {p : Path} {r : Region} (h : Keeps s₀ s) : Keeps s₀ (catEntryLookup p r s) :=
  h.start fun g => g.set.setWord.setWord

theorem Keeps.poisonLedgerRead {p : Path} {r : Region} {shelf : Sys2Proof.Shelf} (h : Keeps s₀ s) :
    Keeps s₀ (poisonLedgerRead p r shelf s) :=
  .startWith h .set (fun g => .ite g.set.set.setWord g.set.set.setWord)

/-! The functions of Sys2Proof/Machine/Traffic.lean. -/

theorem Keeps.slipRefused {k : Nat} (h : Keeps s₀ s) : Keeps s₀ (slipRefused s k) :=
  h.carrelCount

theorem Keeps.refilled {n : Nat} (h : Keeps s₀ s) : Keeps s₀ (refilled s n) :=
  h.record.setPolicer

theorem Keeps.slipAdmit {r : Region} {carrel : Carrel} {unit : Fin 4} {ring : Qid} {tag : BitVec 32} {data : List Byte}
    {chk : SlipCheck} (h : Keeps s₀ s) : Keeps s₀ (slipAdmit r carrel unit ring tag data chk s) := by
  unfold Machine.slipAdmit
  extract_lets k pols s' a s1
  have g : Keeps s₀ s' := .ite (h.foldl .refilled) h
  refine .ite g.slipRefused ?_
  split
  · exact .ite g.chaff.slipRefused.carrelCount g.chaff.slipRefused
  · have g1 : Keeps s₀ s1 := (g.foldl .takeTokens).carrelCount
    refine .ite g1 ?_
    split
    · exact g1.arrive
    · exact g1

theorem Keeps.policerCfgWrite {p : Path} {n : Fin 8192} {v : Word} (h : Keeps s₀ s) : Keeps s₀ (policerCfgWrite p n v s) :=
  h.command fun g => .setPolicer (.ite g.set.discard g.set.set)

theorem Keeps.policerAttach {p : Path} {n : Fin 8192} {v : Word} (h : Keeps s₀ s) : Keeps s₀ (policerAttach p n v s) := by
  refine h.command fun {u} g => ?_
  extract_lets en kind range ident twice was s1 s2
  have g2 : Keeps s₀ s2 := .set (.set (.set (.ite g.discard g)))
  exact .ite g.discard (.ite g2.setPolicer g2)

theorem Keeps.ptmRequest (h : Keeps s₀ s) : Keeps s₀ (ptmRequest s) := by
  unfold Machine.ptmRequest
  split
  · exact .ite h.emit h
  · exact h

theorem Keeps.timeResult {offset : Int} (h : Keeps s₀ s) : Keeps s₀ (s.timeResult offset) :=
  .ite h.set.set.set.setTime.bump.fields.archive h.set.set.set.fields

theorem Keeps.ptmResult {master : BitVec 64} (h : Keeps s₀ s) : Keeps s₀ (ptmResult master s) :=
  .ite h.timeResult h

theorem Keeps.holdoverEntry (h : Keeps s₀ s) : Keeps s₀ (holdoverEntry s) :=
  .ite h h.set.set.record

theorem Keeps.timeRegionSkew (h : Keeps s₀ s) : Keeps s₀ (timeRegionSkew s) :=
  .setTime (.ite h.record (h.foldl fun g => g.record.portContained))

theorem Keeps.gateGo {p : Path} {port : Port} (h : Keeps s₀ s) : Keeps s₀ (gateGo p port s) :=
  h.command fun g => .ite g.set (.ite g.set g.set.set)

theorem Keeps.showEntry {port : Nat} (h : Keeps s₀ s) : Keeps s₀ (showEntry s port) :=
  h.set

theorem Keeps.gateBankSwitch {port : Port} (h : Keeps s₀ s) : Keeps s₀ (gateBankSwitch port s) :=
  .ite h.set.set.fields.showEntry h

theorem Keeps.gateEntryChange {port : Port} (h : Keeps s₀ s) : Keeps s₀ (gateEntryChange port s) :=
  h.showEntry

theorem Keeps.sampleDepths {r : Nat} (h : Keeps s₀ s) : Keeps s₀ (s.sampleDepths r) :=
  .ite h (.foldl (h.foldl fun g => g.foldl fun k => k.foldl .sample) fun g => g.foldl .sample)

theorem Keeps.samplePeriod {r : Nat} (h : Keeps s₀ s) : Keeps s₀ (s.samplePeriod r) := by
  unfold State.samplePeriod
  refine .foldl h.sample (fun g => ?_)
  split
  · exact g
  · exact g.sample.fields

theorem Keeps.histDepthSample {r : Region} (h : Keeps s₀ s) : Keeps s₀ (histDepthSample r s) :=
  h.sampleDepths.samplePeriod

/-! The functions of Sys2Proof/Machine/Links.lean. -/

theorem Keeps.setLnk {p : Nat} {v : LnkState} (h : Keeps s₀ s) : Keeps s₀ (s.setLnk p v) :=
  h.fields

theorem Keeps.gatedMsg {p : Nat} {m : LinkMsg} (h : Keeps s₀ s) : Keeps s₀ (gatedMsg s p m) := by
  unfold Machine.gatedMsg
  split
  · exact h.emit.creditBack
  · exact h

theorem Keeps.flitMsgs {p : Nat} {ms : List LinkMsg} {cells : List Cell} (h : Keeps s₀ s) : KeepsFst s₀ (flitMsgs p ms cells s) := by
  induction ms generalizing cells s with
  | nil => exact h
  | cons m ms ih =>
    exact .ite (ih h.record.portContained) (.ite (ih h.setLnk.record.portContained) (.ite (ih h.setLnk.gatedMsg)
      (.ite (ih h.setLnk) (.ite (ih h.setLnk.creditBack) (ih h.setLnk)))))

theorem Keeps.flitDelivered {p : Nat} {ms : List LinkMsg} (h : Keeps s₀ s) : Keeps s₀ (flitDelivered s p ms) :=
  h.flitMsgs.fst.foldl .arrive

theorem Keeps.flitDrain {fuel p : Nat} (h : Keeps s₀ s) : Keeps s₀ (flitDrain fuel s p) := by
  induction fuel generalizing s with
  | zero => exact h
  | succ n ih =>
    unfold Machine.flitDrain
    simp only
    split
    · exact h
    · exact ih h.setLnk.flitDelivered

theorem Keeps.stdNak {p : Nat} (h : Keeps s₀ s) : Keeps s₀ (stdNak s p) :=
  h.bump.setLnk.emit

theorem Keeps.flitBad {p num : Nat} (h : Keeps s₀ s) : Keeps s₀ (flitBad s p num) := by
  unfold Machine.flitBad
  extract_lets s1 l n
  have g : Keeps s₀ s1 := h.bump.count.record
  exact .ite g (.ite (.ite g.stdNak g) (.ite g.stdNak g.bump.setLnk.emit))

theorem Keeps.flitGood {p num : Nat} {ms : List LinkMsg} (h : Keeps s₀ s) : Keeps s₀ (flitGood s p num ms) :=
  .ite h (.ite h.setLnk.flitDelivered.flitDrain (.ite h (.ite h.setLnk.stdNak h.setLnk)))

theorem Keeps.flitReceive {port : Port} {num : Nat} {body : Option (List LinkMsg)} {mac : Bool} {fec : List (Fin 9)} (h : Keeps s₀ s) :
    Keeps s₀ (flitReceive port num body mac fec s) := by
  unfold Machine.flitReceive
  refine .ite h ?_
  simp only
  split
  · exact h.symbols.flitBad
  · exact .ite h.symbols.flitGood h.symbols.flitGood.bump.record.portContained

theorem Keeps.flitAckReceive {port : Port} {num : Nat} (h : Keeps s₀ s) : Keeps s₀ (flitAckReceive port num s) :=
  h.setLnk

theorem Keeps.flitNakReceive {port : Port} {num : Nat} {sel : Bool} {x : NakLoad} (h : Keeps s₀ s) :
    Keeps s₀ (flitNakReceive port num sel x s) := by
  unfold Machine.flitNakReceive
  extract_lets l again s' s1 s2
  have g1 : Keeps s₀ s1 := h.setLnk.countPort.countPort.foldl fun g => g.emit.emit
  have g2 : Keeps s₀ s2 := g1.record
  exact .ite h.record.portContained (.ite (.ite (g2.onLink .setLink) g2) g1)

theorem Keeps.creditUpdate {port : Port} {chan : Fin 14} {count : Nat} (h : Keeps s₀ s) : Keeps s₀ (creditUpdate port chan count s) :=
  h.setLnk

theorem Keeps.gateUpdate {p : Nat} (h : Keeps s₀ s) : Keeps s₀ (gateUpdate s p) :=
  .ite h.set h

theorem Keeps.kSetGo {port : Port} {cm : Bool} (h : Keeps s₀ s) : Keeps s₀ (kSetGo port cm s) :=
  .ite (.gateUpdate (.ite (.bump (.ite h.set.set h.set.set)) (.ite h.set.set h.set.set))) h

theorem Keeps.ideKeyProg {port : Port} {cm rx : Bool} {kset : Fin 2} {key : BitVec 256} {session : Nat} (h : Keeps s₀ s) :
    Keeps s₀ (ideKeyProg port cm rx kset key session s) :=
  .ite h.setLnk h

theorem Keeps.ioAnswer {p status : Nat} {tag : BitVec 16} {kind : MsgKind} (h : Keeps s₀ s) : Keeps s₀ (ioAnswer s p tag kind status) :=
  h.emit.creditBack

theorem Keeps.ioUnrouted {p : Nat} {tag : BitVec 16} {kind : MsgKind} (h : Keeps s₀ s) : Keeps s₀ (ioUnrouted s p tag kind) := by
  unfold Machine.ioUnrouted
  split
  · exact h.creditBack
  · exact h.ioAnswer

theorem Keeps.ioFromUp {p : Nat} {tag : BitVec 16} {kind : MsgKind} {x : IoLookup} {data : List Byte} (h : Keeps s₀ s) :
    Keeps s₀ (ioFromUp s p tag kind x data) := by
  unfold Machine.ioFromUp
  split
  · exact h.ioUnrouted
  · exact .ite h.rtLost.ioUnrouted (.ite h.arrive h.ioUnrouted)

theorem Keeps.ioFromDn {p ld : Nat} {tag : BitVec 16} {kind : MsgKind} {bad : Bool} {data : List Byte} (h : Keeps s₀ s) :
    Keeps s₀ (ioFromDn s p tag kind ld bad data) := by
  unfold Machine.ioFromDn
  split
  · exact h.ioUnrouted
  · exact .ite h.rtLost.ioUnrouted h.arrive

theorem Keeps.cxlioRequest {port : Port} {tag : BitVec 16} {kind : MsgKind} {cfg : CfgKind} {x : IoLookup} {data : List Byte}
    (h : Keeps s₀ s) :
    Keeps s₀ (cxlioRequest port tag kind cfg x data s) := by
  unfold Machine.cxlioRequest
  refine .ite h (.ite (.ite h.ioAnswer (.ite ?_ h.ioFromUp)) (.ite ?_ h))
  · split
    · exact h.ioAnswer
    · exact h.creditBack
  · split
    · exact h.ioFromDn
    · exact h.ioFromDn
    · exact h.ioUnrouted

theorem Keeps.zwlWindow {z : Nat} {bad : Bool} (h : Keeps s₀ s) : Keeps s₀ (zwlWindow s z bad) :=
  h.set.setZwl

theorem Keeps.zwlSendNak {z num tries : Nat} (h : Keeps s₀ s) : Keeps s₀ (zwlSendNak s z num tries) :=
  h.setZwl.zwlCtl

theorem Keeps.slipEnters {z : Nat} {c : Cell} (h : Keeps s₀ s) (e : slipEnters s z c = some t) : Keeps s₀ t := by
  unfold Machine.slipEnters at e
  split at e
  · cases e; exact h
  · split at e
    · cases e; exact h
    · split at e
      · cases e; exact h.takeTokens
      · cases e

theorem Keeps.zwlDeliver {z : Nat} {c : Option Cell} (h : Keeps s₀ s) : Keeps s₀ (zwlDeliver s z c) := by
  unfold Machine.zwlDeliver
  simp only
  split
  · exact h.setZwl
  · split
    · split
      · exact h.setZwl.setZwl.chaff
      · exact h.setZwl.setZwl
    · exact .ite (.arrive (.slipEnters h.setZwl.setZwl ‹_›)) (.slipEnters h.setZwl.setZwl ‹_›)

theorem Keeps.zwlTake {z : Nat} {c : Option Cell} (h : Keeps s₀ s) : Keeps s₀ (zwlTake s z c) :=
  .ite h.record.zwlDown h.zwlDeliver

theorem Keeps.zwlDrain {fuel z : Nat} (h : Keeps s₀ s) : Keeps s₀ (zwlDrain fuel s z) := by
  induction fuel generalizing s with
  | zero => exact h
  | succ n ih =>
    unfold Machine.zwlDrain
    simp only
    split
    · exact h
    · exact ih h.setZwl.zwlTake

theorem Keeps.zwlNextHole {z : Nat} (h : Keeps s₀ s) : Keeps s₀ (zwlNextHole s z) :=
  .ite h.setZwl.zwlSendNak h

theorem Keeps.swapProgress {z num : Nat} (h : Keeps s₀ s) : Keeps s₀ (swapProgress s z num) := by
  unfold Machine.swapProgress
  simp only
  split
  · split
    · exact .ite h (.ite h.fields.set.zwlCtl h.fields)
    · exact h
  · exact h

theorem Keeps.unitBad {z num : Nat} (h : Keeps s₀ s) : Keeps s₀ (unitBad s z num) :=
  .ite h.zwlWindow.record.zwlDown (.ite h.zwlWindow.record h.zwlWindow.record.zwlSendNak)

theorem Keeps.unitGood {z num : Nat} {u : FlowUnit} (h : Keeps s₀ s) : Keeps s₀ (unitGood s z num u) := by
  unfold Machine.unitGood
  extract_lets s1 l d c l1 s2
  have g : Keeps s₀ s1 := h.zwlWindow
  refine .ite g.setZwl.zwlTake.zwlDrain.zwlNextHole.swapProgress (.ite g ?_)
  exact .ite g.swapProgress g.setZwl.zwlNextHole.swapProgress

theorem Keeps.flowUnitReceive {z : ZPort} {x : UnitPlace} {body : WireUnit} (h : Keeps s₀ s) :
    Keeps s₀ (flowUnitReceive z x body s) := by
  unfold Machine.flowUnitReceive
  refine .ite h ?_
  simp only
  split
  · exact h.symbols.unitBad
  · exact h.symbols
  · exact h.symbols.unitGood

theorem Keeps.zwlInit {z : ZPort} {unit : Fin 4} {peer : Port} {ganged : Bool} (h : Keeps s₀ s) :
    Keeps s₀ (zwlInit z unit peer ganged s) :=
  .ite h (.ite h.set.set.set.set.set.record h.set.set.set.set.set.set.setZwl.sendUnit.emit.inCat)

theorem Keeps.zwlAck {z : ZPort} {num : BitVec 24} (h : Keeps s₀ s) : Keeps s₀ (zwlAck z num s) :=
  h.setZwl

theorem Keeps.zwlResend {z n : Nat} (h : Keeps s₀ s) : Keeps s₀ (zwlResend s z n) := by
  unfold Machine.zwlResend
  split
  · exact h.setZwl.sendUnit.emit.countPort.countPort
  · exact h.sendUnit.emit

theorem Keeps.zwlNak {z : ZPort} {num : BitVec 24} {tries : Fin 16} (h : Keeps s₀ s) : Keeps s₀ (zwlNak z num tries s) := by
  unfold Machine.zwlNak
  refine .ite h ?_
  simp only
  split
  · exact h.zwlResend
  · exact .ite h (.ite h.setZwl.bump.zwlResend (h.setZwl.bump.foldl .zwlResend))

theorem Keeps.zwlRegrant {z dest tc : Nat} (h : Keeps s₀ s) : Keeps s₀ (zwlRegrant s z dest tc) :=
  h.setZwl.zwlCtl

theorem Keeps.zwlReq {z : ZPort} {dest : Fin 68} {tc : Tc} {count : BitVec 16} (h : Keeps s₀ s) : Keeps s₀ (zwlReq z dest tc count s) :=
  .ite (.ite h.setZwl.zwlRegrant h) h

theorem Keeps.zwlGrant {z : ZPort} {dest : Fin 68} {tc : Tc} {count : BitVec 16} (h : Keeps s₀ s) :
    Keeps s₀ (zwlGrant z dest tc count s) :=
  .ite (.ite h.setZwl h) h

theorem Keeps.zwlTimeRequest {z : ZPort} {ident : BitVec 6} {turn : BitVec 32} (h : Keeps s₀ s) :
    Keeps s₀ (zwlTimeRequest z ident turn s) :=
  .ite h.zwlCtl h

theorem Keeps.zwlTimeResponse {z : ZPort} {ident : BitVec 6} {t3 : BitVec 64} {turn : BitVec 32} (h : Keeps s₀ s) :
    Keeps s₀ (zwlTimeResponse z ident t3 turn s) := by
  unfold Machine.zwlTimeResponse
  split
  · exact h
  · exact .ite h h.setZwl.timeResult

theorem Keeps.zwlTimeExchange (h : Keeps s₀ s) : Keeps s₀ (zwlTimeExchange s) := by
  unfold Machine.zwlTimeExchange
  refine .ite h ?_
  split
  · exact h
  · exact h.setZwl.zwlCtl

theorem Keeps.swapReq {z : ZPort} {lane : Fin 8} (h : Keeps s₀ s) : Keeps s₀ (swapReq z lane s) :=
  .ite h.fields.emit.zwlCtl h

theorem Keeps.swapAck {z : ZPort} {lane : Fin 8} {num : BitVec 24} (h : Keeps s₀ s) : Keeps s₀ (swapAck z lane num s) := by
  unfold Machine.swapAck
  simp only
  split
  · exact h
  · exact .ite h h.fields.set.set.record.portEvent.portEvt.portEvt

theorem Keeps.swapDone {z : ZPort} {lane : Fin 8} (h : Keeps s₀ s) : Keeps s₀ (swapDone z lane s) :=
  .ite h.fields.emit h

theorem Keeps.swapAckTimeout {z : ZPort} (h : Keeps s₀ s) : Keeps s₀ (swapAckTimeout z s) := by
  unfold Machine.swapAckTimeout
  split
  · exact h
  · exact .ite h (.ite h.fields.zwlCtl h.zwlDown)

theorem Keeps.zwlAckTimer {z : ZPort} (h : Keeps s₀ s) : Keeps s₀ (zwlAckTimer z s) :=
  .ite h.setZwl.zwlCtl h

theorem Keeps.zwlNakRepeat {z : ZPort} (h : Keeps s₀ s) : Keeps s₀ (zwlNakRepeat z s) :=
  .ite (h.foldl .zwlSendNak) h

theorem Keeps.zwlReqRepeat {z : ZPort} {dest : Fin 68} {tc : Tc} (h : Keeps s₀ s) : Keeps s₀ (zwlReqRepeat z dest tc s) :=
  .ite h.zwlCtl h

theorem Keeps.zwlGrantRepeat {z : ZPort} {dest : Fin 68} {tc : Tc} (h : Keeps s₀ s) : Keeps s₀ (zwlGrantRepeat z dest tc s) :=
  .ite h.zwlRegrant h

theorem Keeps.zwlCtrlDiscard {z : ZPort} (h : Keeps s₀ s) : Keeps s₀ (zwlCtrlDiscard z s) :=
  h.bump.record

/-! The functions of Sys2Proof/Machine/Mailbox.lean. -/

theorem Keeps.setMailbox {ep : Nat} {m : Mailbox} (h : Keeps s₀ s) : Keeps s₀ (s.setMailbox ep m) :=
  h.fields

theorem Keeps.setMbxCtl {ep : Nat} {v : Word} (h : Keeps s₀ s) : Keeps s₀ (s.setMbxCtl ep v) :=
  .ite h.setWord h.setMailbox

theorem Keeps.setMbxCmd {ep : Nat} {v : Word} (h : Keeps s₀ s) : Keeps s₀ (s.setMbxCmd ep v) :=
  .ite h.setWord h.setMailbox

theorem Keeps.setMbxSts {ep : Nat} {v : Word} (h : Keeps s₀ s) : Keeps s₀ (s.setMbxSts ep v) :=
  .ite h.setWord h.setMailbox

theorem Keeps.mbxPut {ep : Nat} {bytes : List Byte} (h : Keeps s₀ s) : Keeps s₀ (s.mbxPut ep bytes) :=
  h.setMailbox

theorem Keeps.mbxDone {ep ret : Nat} {out : List Byte} (h : Keeps s₀ s) : Keeps s₀ (s.mbxDone ep ret out) :=
  .ite (.ite h.fields.setMbxCtl.mbxPut.setMbxSts.emit h.fields.setMbxCtl.mbxPut.setMbxSts) h.fields.setMbxCtl

theorem Keeps.setShare {k mask : Nat} (h : Keeps s₀ s) : Keeps s₀ (s.setShare k mask) :=
  h.set.set

theorem Keeps.mbxCreate {port pasid t mask : Nat} (h : Keeps s₀ s) : KeepsFst s₀ (s.mbxCreate port pasid t mask) := by
  unfold State.mbxCreate
  refine .ite (.pair h) ?_
  split
  · exact .pair h
  · exact .pair h.fields.set.set.set.setShare.crlCreate

theorem Keeps.mbxChange {port k item v idx : Nat} (h : Keeps s₀ s) : KeepsFst s₀ (s.mbxChange port k item v idx) := by
  unfold State.mbxChange
  refine .ite (.ite (.pair h.carrelShareWrite.carrelShareWrite) (.pair h)) (.ite (.ite (.pair h.setWord) (.pair h)) ?_)
  refine .ite (.ite (.pair h) (.ite (.pair h.set) (.pair h))) (.ite (.ite (.pair h) ?_) (.pair h))
  exact .ite (.pair h.policerCfgWrite) (.pair h)

theorem Keeps.giveRing {k q : Nat} (h : Keeps s₀ s) : Keeps s₀ (s.giveRing k q) := by
  unfold State.giveRing
  split
  · exact h
  · exact h.fields.addRing

theorem Keeps.mbxQueue {port pasid k slot : Nat} {image : BitVec 512} (h : Keeps s₀ s) :
    KeepsFst s₀ (s.mbxQueue port pasid k slot image) := by
  unfold State.mbxQueue
  refine .ite (.pair h) (.ite (.pair h) ?_)
  simp only
  split
  · exact .pair h
  · exact .ite (.pair (.ite h.fields.makeCtx.setWord.giveRing h.fields.makeCtx.setWord)) (.pair h.fields)

theorem Keeps.mbxUnqueue {k slot : Nat} (h : Keeps s₀ s) : KeepsFst s₀ (s.mbxUnqueue k slot) :=
  .ite (.pair h) (.pair h.putCtx.setWord)

theorem Keeps.mbxRestore {port pasid src base : Nat} {host : Option (List Byte)} (h : Keeps s₀ s) :
    KeepsFst s₀ (s.mbxRestore port pasid src base host) := by
  unfold State.mbxRestore
  refine .ite (.pair h) ?_
  simp only
  split
  · exact .pair h
  · exact .pair h.fields.set.set.set.setShare.set.set.set.crlRestore

theorem Keeps.mbxCarrel {ep op k : Nat} {f : State → State} (h : Keeps s₀ s) (hf : ∀ {u}, Keeps s₀ u → Keeps s₀ (f u)) :
    KeepsFst s₀ (s.mbxCarrel ep op k f) :=
  .ite (.pair h) (.ite (.pair (.fields (hf h))) (.pair (hf h)))

theorem Keeps.mbxPerform {ep : Nat} {host : Option (List Byte)} (h : Keeps s₀ s) : KeepsFst s₀ (s.mbxPerform ep host) := by
  unfold State.mbxPerform
  refine .ite (.pair h) (.ite (.ite (.pair h) (.pair h.bindRequest.fst)) (.ite (.pair h) ?_))
  refine .ite (.ite (.pair h) (.pair h.mbxCreate.fst)) (.ite (.ite (.pair h) ?_) ?_)
  · exact .ite (.pair h.emit.fields) (.pair h.mbxRestore.fst)
  simp only
  split
  · exact .pair h
  refine .ite (.pair h.mbxChange.fst) (.ite (h.mbxCarrel .crlFreeze) (.ite (.ite (.pair h) ?_) ?_))
  · exact h.mbxCarrel fun g => g.set.set.setWord.setWord.crlSave
  · refine .ite (h.mbxCarrel .crlThaw) (.ite (h.mbxCarrel .crlDestroy) ?_)
    exact .ite (.pair h.mbxQueue.fst) (.ite (.pair h.mbxUnqueue.fst) (.pair h))

theorem Keeps.mbxStart {ep : Nat} {host : Option (List Byte)} (h : Keeps s₀ s) : Keeps s₀ (s.mbxStart ep host) := by
  unfold State.mbxStart
  refine .ite ?_ h.setMbxCtl
  simp only
  split
  · exact h.setMbxCtl.mbxPerform.fst.mbxDone
  · exact h.setMbxCtl.mbxPerform.fst

theorem Keeps.mbxSubmit {ep op : Nat} {payload : List Byte} {host : Option (List Byte)} (h : Keeps s₀ s) :
    Keeps s₀ (mbxSubmit ep op payload host s) :=
  .ite h (.ite h.discard h.mbxPut.setMbxCmd.mbxStart)

theorem Keeps.carrelCreate {ep : Fin 65} {port : Port} {pasid : BitVec 20} {template : BitVec 8} {mask : BitVec 64} (h : Keeps s₀ s) :
    Keeps s₀ (carrelCreate ep port pasid template mask s) :=
  h.mbxSubmit

theorem Keeps.carrelChange {ep : Fin 65} {port : Port} {pasid : BitVec 20} {item : Fin 4} {value : BitVec 64} {idx : BitVec 16}
    (h : Keeps s₀ s) :
    Keeps s₀ (carrelChange ep port pasid item value idx s) :=
  h.mbxSubmit

theorem Keeps.carrelFreeze {ep : Fin 65} {port : Port} {pasid : BitVec 20} (h : Keeps s₀ s) : Keeps s₀ (carrelFreeze ep port pasid s) :=
  h.mbxSubmit

theorem Keeps.carrelSave {ep : Fin 65} {port : Port} {pasid : BitVec 20} {host : Bool} {addr : BitVec 64} (h : Keeps s₀ s) :
    Keeps s₀ (carrelSave ep port pasid host addr s) :=
  h.mbxSubmit

theorem Keeps.mbxRecord {ep : Nat} {src : RecordFrom} (h : Keeps s₀ s) : Keeps s₀ (s.mbxRecord ep src) := by
  unfold State.mbxRecord
  simp only
  split
  · exact h.fields.mbxStart
  · exact h.fields.mbxDone
  · exact h

theorem Keeps.carrelRestore {ep : Fin 65} {port : Port} {pasid : BitVec 20} {rec_ : RecordFrom} {src : BitVec 64} {base : Qid}
    (h : Keeps s₀ s) :
    Keeps s₀ (carrelRestore ep port pasid rec_ src base s) :=
  .ite h.mbxSubmit (.ite (.mbxRecord (.ite h h.mbxSubmit)) (.ite h h.mbxSubmit))

theorem Keeps.carrelThaw {ep : Fin 65} {port : Port} {pasid : BitVec 20} (h : Keeps s₀ s) : Keeps s₀ (carrelThaw ep port pasid s) :=
  h.mbxSubmit

theorem Keeps.carrelDestroy {ep : Fin 65} {port : Port} {pasid : BitVec 20} (h : Keeps s₀ s) :
    Keeps s₀ (carrelDestroy ep port pasid s) :=
  h.mbxSubmit

theorem Keeps.queueCreate {ep : Fin 65} {port : Port} {pasid : BitVec 20} {slot : Fin 64} {ctx : BitVec 512} (h : Keeps s₀ s) :
    Keeps s₀ (queueCreate ep port pasid slot ctx s) :=
  h.mbxSubmit

theorem Keeps.queueDestroy {ep : Fin 65} {port : Port} {pasid : BitVec 20} {slot : Fin 64} (h : Keeps s₀ s) :
    Keeps s₀ (queueDestroy ep port pasid slot s) :=
  h.mbxSubmit

theorem Keeps.requestCapacity {ep : Fin 65} {port : Port} {shelves : Word} {mode : Fin 4} {gclass : Fin 8} {group : BitVec 12}
    (h : Keeps s₀ s) :
    Keeps s₀ (requestCapacity ep port shelves mode gclass group s) :=
  h.mbxSubmit

theorem Keeps.mbxSettle {e : Nat × Nat × Nat} (h : Keeps s₀ s) : Keeps s₀ (s.mbxSettle e) :=
  .ite h.mbxDone h

theorem Keeps.mbxSettleAll (h : Keeps s₀ s) : Keeps s₀ s.mbxSettleAll :=
  h.foldl .mbxSettle

theorem Keeps.mbxCommandTimeout {ep : Fin 65} (h : Keeps s₀ s) : Keeps s₀ (mbxCommandTimeout ep s) := by
  unfold Machine.mbxCommandTimeout
  split
  · exact h.mbxDone
  · exact h

/-! The functions of Sys2Proof/Machine/Recovery.lean. -/

theorem Keeps.deadTrackers {agent : Nat} (h : Keeps s₀ s) : Keeps s₀ (deadTrackers s agent) := by
  unfold Machine.deadTrackers
  refine .foldl h (fun g => .work ?_)
  split
  · exact g.deadAnswer.setTrk
  · exact g.deadAnswer

theorem Keeps.deadStatus (h : Keeps s₀ s) : Keeps s₀ (deadStatus s) :=
  h.foldl .set

theorem Keeps.showRcl {r : Nat} (h : Keeps s₀ s) : Keeps s₀ (showRcl s r) :=
  h.set

theorem Keeps.startWalks (h : Keeps s₀ s) : Keeps s₀ (startWalks s) :=
  h.foldl fun g => .showRcl (.inCat (.ite g g.set))

theorem Keeps.enterDead {agent : Nat} {sc : DeadScope} (h : Keeps s₀ s) : Keeps s₀ (enterDead s agent sc) := by
  unfold Machine.enterDead
  simp only
  split
  · exact .deadTrackers (.startWalks (h.inCat.deadStatus.foldl fun g => g.set.set))
  · exact .ite (.deadTrackers (.startWalks (h.inCat.deadStatus.foldl fun g => g.set.set))) (.ite h (h.inCat.foldl .showRcl))

theorem Keeps.deadSetEntry {agent : Agent} (h : Keeps s₀ s) : Keeps s₀ (deadSetEntry agent s) :=
  h.inCat.foldl .enterDead

theorem Keeps.reclaimStart {p : Path} {r : Region} (h : Keeps s₀ s) : Keeps s₀ (reclaimStart p r s) :=
  h.start .enterDead

theorem Keeps.walkEntry {r i : Nat} {e : Entry} (h : Keeps s₀ s) : KeepsFst s₀ (walkEntry s r i e) :=
  .ite (.pair h) (.ite (.pair h.grnPoison.snd.bump) (.pair h))

theorem Keeps.walkVisit {r i : Nat} (h : Keeps s₀ s) : Keeps s₀ (walkVisit s r i) := by
  unfold Machine.walkVisit
  simp only
  split
  · exact .inCat (KeepsFst.fst (.foldl (.pair h) fun g => .pair g.fst.walkEntry.fst))
  · exact .putBacking (KeepsFst.fst (.foldl (.pair h) fun g => .pair g.fst.walkEntry.fst))

theorem Keeps.reclaimSetVisit {r : Region} (h : Keeps s₀ s) : Keeps s₀ (reclaimSetVisit r s) := by
  unfold Machine.reclaimSetVisit
  refine .ite h ?_
  simp only
  split
  · exact h
  · exact h.walkVisit.inCat

theorem Keeps.regionCovered {r : Nat} (h : Keeps s₀ s) : Keeps s₀ (regionCovered s r) :=
  .foldl (h.inCat.inCat.deadStatus.inCat.foldl .enterDead) .showRcl

theorem Keeps.walkStops {r res : Nat} (h : Keeps s₀ s) : Keeps s₀ (walkStops s r res) :=
  h.inCat.showRcl.set.set

theorem Keeps.reclaimWalkEnd {r : Region} (h : Keeps s₀ s) : Keeps s₀ (reclaimWalkEnd r s) :=
  .ite h.walkStops.regionCovered h

theorem Keeps.reclaimWalkTmo {r : Region} (h : Keeps s₀ s) : Keeps s₀ (reclaimWalkTmo r s) :=
  .ite h.walkStops.record h

theorem Keeps.txnTimeout {r : Region} {t : Nat} (h : Keeps s₀ s) : Keeps s₀ (txnTimeout r t s) := by
  unfold Machine.txnTimeout
  extract_lets k
  split
  · exact h
  extract_lets ports s1 s2 s3
  have g2 : Keeps s₀ s2 := (h.bump.foldl .record).foldl .deadAnswer
  have g3 : Keeps s₀ s3 := by
    unfold s3
    split
    · split
      · exact g2.inCat.pathLost
      · exact g2
    · split
      · exact g2
      · exact .work (.ite g2.openLine.snd.setTrk g2.setTrk)
  exact .ite h (g3.foldl .portContained)

theorem Keeps.txnPauseCap {r : Region} {t : Nat} (h : Keeps s₀ s) : Keeps s₀ (txnPauseCap r t s) := by
  unfold Machine.txnPauseCap
  simp only
  split
  · exact h
  · exact .ite h.setTrk.bump h

theorem Keeps.upLinkDown {p : Port} (h : Keeps s₀ s) : Keeps s₀ (upLinkDown p s) :=
  .ite h.linkDown h

theorem Keeps.poolLinkDown {p : Port} (h : Keeps s₀ s) : Keeps s₀ (poolLinkDown p s) :=
  .ite h.linkDown.poolDown h

theorem Keeps.dnLinkDown {p : Port} (h : Keeps s₀ s) : Keeps s₀ (dnLinkDown p s) :=
  .ite h.linkDown h

theorem Keeps.hotResetReceived {x : PortReset} (h : Keeps s₀ s) : Keeps s₀ (hotResetReceived x s) :=
  .ite h (.ite h.linkDown h.portDies)

theorem Keeps.holdExpires {p : Nat} (h : Keeps s₀ s) : Keeps s₀ (holdExpires s p) :=
  .work (h.clearBits.setBits.foldl .shelfLost)

theorem Keeps.holdExpiry {p : Port} (h : Keeps s₀ s) : Keeps s₀ (holdExpiry p s) :=
  .ite h.holdExpires h

theorem Keeps.holdReturns {p : Nat} (h : Keeps s₀ s) : Keeps s₀ (holdReturns s p) :=
  .drainBuffers (h.clearBits.foldl fun g => .setWay (g.foldl fun k => .ite k.sendWrite k))

theorem Keeps.holdReturn {p : Port} {serial : BitVec 64} (h : Keeps s₀ s) : Keeps s₀ (holdReturn p serial s) :=
  .ite h (.ite h.holdReturns h.holdExpires)

theorem Keeps.zwiusLinkDown {z : ZPort} (h : Keeps s₀ s) : Keeps s₀ (zwiusLinkDown z s) :=
  .ite h.zwlDown h

theorem Keeps.zwiusUnackTimeout {z : ZPort} (h : Keeps s₀ s) : Keeps s₀ (zwiusUnackTimeout z s) :=
  .ite h.zwlDown h

theorem Keeps.zwiusResponse {tag : BitVec 16} {agent : Agent} {g : GrantKind} {d : Option LineData} (h : Keeps s₀ s) :
    Keeps s₀ (zwiusResponse tag agent g d s) := by
  unfold Machine.zwiusResponse
  split
  · simp only
    split
    · exact h.inCat.remoteOver.backTo
    · exact h.inCat.remoteOver.backTo
  · exact h.bump

/-! The functions of Sys2Proof/Machine/Security.lean. -/

theorem Keeps.dbgViolation (h : Keeps s₀ s) : Keeps s₀ (dbgViolation s) :=
  h.bump.record

theorem Keeps.rbAdmit {p : Path} {f : State → State} (h : Keeps s₀ s) (hf : ∀ {u}, Keeps s₀ u → Keeps s₀ (f u)) :
    Keeps s₀ (rbAdmit p f s) := by
  unfold Machine.rbAdmit
  split
  · exact hf h
  · exact .ite h.dbgViolation.discard (.ite (hf h) h.discard)
  · exact .ite h h.discard
  · exact h

theorem Keeps.rollbackCommit (h : Keeps s₀ s) : Keeps s₀ (rollbackCommit s) :=
  .ite h.discard (.ite h.set (.ite h.set h.set))

theorem Keeps.rollbackFuseDone {good : Bool} (h : Keeps s₀ s) : Keeps s₀ (rollbackFuseDone good s) :=
  .ite h (.ite h.set.set.set h.set.set.set.fields.record)

theorem Keeps.nonceRead {p : Path} (h : Keeps s₀ s) : KeepsSnd s₀ (nonceRead p s) :=
  .pair h.fields.latch

theorem Keeps.tokenRefused {kind code : Nat} (h : Keeps s₀ s) : Keeps s₀ (tokenRefused kind code s) :=
  .ite h.set.record.dbgViolation h.set.record

theorem Keeps.submit {kind : Nat} {accept : State → State} (h : Keeps s₀ s) (hf : ∀ {u}, Keeps s₀ u → Keeps s₀ (accept u)) :
    Keeps s₀ (submit kind accept s) :=
  .ite h.tokenRefused (.ite (hf (.set (.ite h.set.fields h.set))) (.tokenRefused (.ite h.set.fields h.set)))

theorem Keeps.fuseStarts {st : Nat} {h' : BitVec 512} (h : Keeps s₀ s) : Keeps s₀ (fuseStarts st h' s) :=
  h.set.fields

theorem Keeps.lcOwn (h : Keeps s₀ s) : Keeps s₀ (lcOwn s) :=
  h.submit .fuseStarts

theorem Keeps.lcReturn (h : Keeps s₀ s) : Keeps s₀ (lcReturn s) :=
  h.submit .fuseStarts

theorem Keeps.lcScrap (h : Keeps s₀ s) : Keeps s₀ (lcScrap s) :=
  h.submit .fuseStarts

theorem Keeps.dbgUnlock (h : Keeps s₀ s) : Keeps s₀ (dbgUnlock s) :=
  h.submit fun g => g.set.set

theorem Keeps.lcFuseDone {good : Bool} (h : Keeps s₀ s) : Keeps s₀ (lcFuseDone good s) := by
  unfold Machine.lcFuseDone
  split
  · exact h
  · exact .ite (.fields (.internalRestart (.set (.set (.fields (.withRet h.set fun _ => rfl)))))) (.record (.fields h.set.set))

theorem Keeps.spdmRequest {endpoint : Nat} {op : SpdmOp} (h : Keeps s₀ s) : Keeps s₀ (spdmRequest endpoint op s) :=
  .ite (.countChip (.ite h.fields.emit.ibiPend h.fields.emit)) h

theorem Keeps.boundaryScan {op : ScanOp} (h : Keeps s₀ s) : Keeps s₀ (boundaryScan op s) :=
  h.fields.emit

/-! The functions of Sys2Proof/Machine/RegRead.lean. -/

theorem Keeps.patternLoRead {p : Path} {n : Nat} (h : Keeps s₀ s) : KeepsSnd s₀ (patternLoRead p n s) :=
  .pair h.latch

theorem Keeps.windowRead {p : Path} {r : Reg} {q : Nat} (h : Keeps s₀ s) : KeepsSnd s₀ (windowRead p r q s) := by
  unfold Machine.windowRead
  refine .ite (.pair h) ?_
  simp only
  split
  · exact h.windowLatch
  · exact h.windowTake
  · exact .pair h.windowCtx.set
  · exact .pair h.windowCtx.setCtx
  · exact .pair h.windowCtx
  · exact .pair h.windowCtx
  · exact .pair h.windowCtx
  · exact .pair h.windowCtx

theorem Keeps.readClears {r : Reg} {i : Nat} (h : Keeps s₀ s) : Keeps s₀ (s.readClears r i) := by
  unfold State.readClears
  simp only
  split
  · exact .set (h.foldl fun g => .ite g.set g)
  · exact .set (h.foldl fun g => .ite g.set g)
  · exact h.foldl fun g => .ite g.set g

theorem Keeps.readReg {p : Path} {r : Reg} {i : Nat} (h : Keeps s₀ s) : KeepsSnd s₀ (readReg p r i s) := by
  unfold Machine.readReg
  simp only
  split
  · exact .pair h.timeLoRead.snd
  · exact .pair h
  · exact .pair h.counterLoRead.snd
  · exact .pair h
  · exact .pair h.patternLoRead.snd
  · exact .pair h
  · exact .pair h.nonceRead.snd
  · exact .pair h
  · exact .pair h
  · exact .pair h
  · exact .pair h.readClears
  · exact .pair h
  · exact .pair h
  · exact h.windowRead
  · exact h.windowRead
  · exact h.windowRead
  · exact h.windowRead
  · exact h.windowRead
  · exact h.windowRead
  · exact h.windowRead
  · exact .pair h.readClears

theorem Keeps.readTarget {p : Path} {t : Target} (h : Keeps s₀ s) : KeepsSnd s₀ (readTarget p t s) := by
  unfold Machine.readTarget
  split
  · exact h.readReg
  · exact .pair (.ite h.setCes h)
  · exact .pair h
  · exact .pair h
  · exact .pair h
  · exact .pair h
  · exact .pair h
  · exact .pair h

theorem Keeps.regRead {p : Path} {addr : Nat} (h : Keeps s₀ s) : KeepsSnd s₀ (regRead p addr s) :=
  .ite (.pair h) (.ite (.pair h.dbgViolation) (.ite h.readTarget (.pair h)))

theorem Keeps.registerReadClear {p : Path} {addr : BitVec 32} (h : Keeps s₀ s) : Keeps s₀ (registerReadClear p addr s) :=
  .ite h.emit h.regRead.snd.emit

/-! The functions of Sys2Proof/Machine/RegFields.lean. -/

theorem Keeps.storeFields {r : Reg} {i set : Nat} {v : Word} (h : Keeps s₀ s) : Keeps s₀ (s.storeFields r i v set) :=
  .ite h.setWord.discard h.setWord

/-! The functions of Sys2Proof/Machine/RegWrite.lean. -/

theorem Keeps.startDiscarded {set : Nat} {s' : State} (h : Keeps s₀ s) : Keeps s₀ (startDiscarded set s' s) :=
  .ite h.discard h

theorem Keeps.goes {go busy : Bool} {set : Nat} {s' : State} {f : State → State} (h : Keeps s₀ s)
    (hf : ∀ {u}, Keeps s₀ u → Keeps s₀ (f u)) :
    Keeps s₀ (goes go busy set s' s f) :=
  .ite (.ite h.startDiscarded (hf h)) h

theorem Keeps.acts {on : Bool} {f : State → State} (h : Keeps s₀ s) (hf : ∀ {u}, Keeps s₀ u → Keeps s₀ (f u)) :
    Keeps s₀ (acts on f s) :=
  .ite (hf h) h

theorem Keeps.cesMask {set : Nat} {v : Word} (h : Keeps s₀ s) : Keeps s₀ (cesMask set v s) :=
  h.setCes.foldl fun g => g.interrupt.emit

theorem Keeps.cesMaskWrite {p : Path} {set : Nat} {mask : Word} (h : Keeps s₀ s) : Keeps s₀ (cesMaskWrite p set mask s) :=
  .ite (h.commandListed .cesMask) h

theorem Keeps.writeCes {set w : Nat} {v : Word} (h : Keeps s₀ s) : Keeps s₀ (writeCes set w v s) := by
  unfold Machine.writeCes
  simp only
  split
  · exact h.setCes
  · exact h.cesMask
  · exact h.setCes
  · exact .ite h.setCes h
  · exact .ite h h.discard

theorem Keeps.writeBnd {p : Path} {r : Reg} {i set : Nat} {v : Word} {s' : State} (h : Keeps s₀ s) :
    Keeps s₀ (writeBnd p r i v set s' s) := by
  unfold Machine.writeBnd
  extract_lets g
  split
  · refine h.goes fun k => ?_
    split
    · exact k.srecWrite
    · exact k.srecRead
  · refine h.goes fun k => ?_
    split
    · exact k.grpWrite
    · exact k.grpRead
  · refine h.goes fun k => ?_
    rcases bits v 12 2 with _ | _ | _ | _
    · exact k.ruleRead
    · exact k.ruleWrite
    · exact k.ruleClear
    · exact k.set
  · refine h.acts fun k => ?_
    split
    · exact k.ruleBarrierStart
    · exact k.bindingBarrierStart
  · exact h.acts .set
  · refine h.acts fun k => ?_
    rcases bits v 25 2 with _ | _ | _ | _
    · exact k.reshelveAbort
    · exact k.reshelveStart
    · exact k.reshelveSwitch
    · exact k.discard
  · exact h

theorem Keeps.writeHome {p : Path} {r : Reg} {i set : Nat} {v : Word} {s' : State} (h : Keeps s₀ s) :
    Keeps s₀ (writeHome p r i v set s' s) := by
  unfold Machine.writeHome
  extract_lets g
  split
  · exact h.goes .catEntryLookup
  · exact h.goes .reclaimStart
  · exact h.goes .poisonLedgerRead
  · refine h.goes fun k => ?_
    split
    · exact k.set
    · exact k.flushStart
  · exact h.foldl fun k => .ite k.forceSprayEntry (.ite k.setBits.forceSprayExit k)
  · refine h.goes fun k => ?_
    rcases bits v 11 2 with _ | _ | _ | _
    · exact k.rtRead
    · exact k.rtWrite
    · exact k.rtClear
    · exact k.set
  · exact h.goes .rtBarrierStart
  · exact .ite h h.sw
  · exact h

theorem Keeps.writePath {p : Path} {r : Reg} {i set : Nat} {v : Word} {s' : State} (h : Keeps s₀ s) :
    Keeps s₀ (writePath p r i v set s' s) := by
  unfold Machine.writePath
  split
  · extract_lets was now other s1
    have g1 : Keeps s₀ s1 := .ite h.set h
    exact .ite g1.fields g1
  · exact h.acts .gateGo
  · exact .acts (.acts (h.set.set.acts .disable) .test) .retrain
  · extract_lets n s1 s1' s2
    have g1 : Keeps s₀ s1 := .ite h.checkerEnable h
    have g2 : Keeps s₀ s2 := .ite h.set.set.discard h.set.set
    exact .ite (.acts (g1.acts .injOne) .injBurst) (.acts (g2.acts .injOne) .injBurst)
  · exact h.goes .ctxCommand
  · exact h.doorbell
  · exact h.acts .set
  · extract_lets q
    split
    · exact h.noticeMark
    · exact h.noticeRewind
    · exact h.noticeRelease
    · exact h.noticeSkip
  · exact h

theorem Keeps.carrelGo {p : Path} {v : Word} (h : Keeps s₀ s) : Keeps s₀ (carrelGo p v s) := by
  unfold Machine.carrelGo
  simp only
  split
  · exact h.crlCreate
  · exact h.crlFreeze
  · exact h.crlThaw
  · exact h.crlSave
  · exact .ite h.crlRestoreRead h.crlRestore
  · exact h.crlDestroy
  · exact h.set

theorem Keeps.writeWork {p : Path} {r : Reg} {i set : Nat} {v : Word} {s' : State} (h : Keeps s₀ s) :
    Keeps s₀ (writeWork p r i v set s' s) := by
  unfold Machine.writeWork
  split
  · exact h.showChan
  · exact h.goes .dmvAbort
  · exact h.goes .carrelGo
  · exact h.goes .mpuBarrier
  · exact .ite h.mbxStart h
  · exact .acts (.acts (h.acts .tillerRun) .tillerStop) .postCmd
  · exact h

theorem Keeps.tokenGo (h : Keeps s₀ s) : Keeps s₀ (tokenGo s) := by
  unfold Machine.tokenGo
  split
  · exact h.lcOwn
  · exact h.lcReturn
  · exact h.lcScrap
  · exact h.dbgUnlock
  · exact h.submit fun g => g

theorem Keeps.writeKeeper {p : Path} {r : Reg} {i set : Nat} {v : Word} {s st : State} (hs : Keeps s₀ s) (hst : Keeps s₀ st) :
    Keeps s₀ (writeKeeper p r i v set s st) := by
  unfold Machine.writeKeeper
  split
  · exact hst.acts fun g => g.rbAdmit .rollbackCommit
  · exact hst.acts .tokenGo
  · exact .acts (.acts (hst.acts .slotStart) .slotOff) .slotClear
  · exact hst.acts .warmResetCmd
  · exact hst.acts .extremesClear
  · exact .ite hs.discard (.acts (hst.acts .arcFreeze) .arcUnfreeze)
  · exact hst.acts .recordAreaRelease
  · exact hst.acts .histAreaRelease
  · exact .acts (hst.acts .wearLoad) .wearSeal
  · exact hst.acts .counterClear
  · exact hst.acts .capture
  · exact hst

theorem Keeps.writeEffect {p : Path} {r : Reg} {i set : Nat} {v : Word} {s st : State} (hs : Keeps s₀ s) (hst : Keeps s₀ st) :
    Keeps s₀ (writeEffect p r i v set s st) :=
  .writeKeeper hs hst.writeBnd.writeHome.writePath.writeWork

theorem Keeps.writeReg {p : Path} {r : Reg} {i set : Nat} {v : Word} (h : Keeps s₀ s) : Keeps s₀ (writeReg p r i v set s) := by
  unfold Machine.writeReg
  split
  · exact h.policerCfgWrite
  · exact h.policerAttach.set
  · exact h.settleShapers.storeFields
  · exact h.settleShapers.storeFields
  · exact .ite h.discard h.storeFields
  · exact .ite h.discard h.storeFields
  · exact h.ringTableWrite
  · exact h.carrelSlotWrite
  · exact h.carrelShareWrite
  · exact h.carrelShareWrite
  · exact .ite h.discard h.storeFields
  · exact .ite h.discard h.storeFields
  · exact .ite h.discard h.storeFields
  · exact h.latch
  · exact .writeEffect h h.storeFields

theorem Keeps.writeTarget {p : Path} {t : Target} {a : Nat} {v : Word} (h : Keeps s₀ s) : Keeps s₀ (writeTarget p t a v s) := by
  unfold Machine.writeTarget
  split
  · exact .ite h.discard h.writeReg
  · exact h.writeCes
  · exact .ite (.ite h h.discard) h.fields
  · exact .ite h.discard h.setMailbox
  · exact h.discard
  · exact h
  · exact h
  · exact h.discard

theorem Keeps.regWrite {p : Path} {a : Nat} {v : Word} (h : Keeps s₀ s) : Keeps s₀ (regWrite p a v s) :=
  .ite h (.ite h.dbgViolation.discard (.ite h.writeTarget (.ite h h.discard)))

theorem Keeps.registerWrite {p : Path} {addr : BitVec 32} {data : BitVec 64} {size : Nat} (h : Keeps s₀ s) :
    Keeps s₀ (registerWrite p addr data size s) :=
  .ite h (.ite h.regWrite (.ite h.regWrite.regWrite (.ite h h.discard)))

/-! The functions of Sys2Proof/Machine/I3c.lean. -/

theorem Keeps.i3cHold {data : Word} {status : Nat} (h : Keeps s₀ s) : Keeps s₀ (s.i3cHold data status) :=
  h.fields

theorem Keeps.i3cOpen {status : Nat} (h : Keeps s₀ s) : Keeps s₀ (s.i3cOpen status) :=
  h.fields.i3cHold

theorem Keeps.i3cCommand {f : State → State} (h : Keeps s₀ s) (hf : ∀ {u}, Keeps s₀ u → Keeps s₀ (f u)) : Keeps s₀ (i3cCommand s f) :=
  .ite (hf h.countChip) h

theorem Keeps.i3cRegRead {addr : BitVec 32} (h : Keeps s₀ s) : Keeps s₀ (i3cRegRead addr s) :=
  h.i3cCommand fun g => .ite g.i3cOpen (.ite g.i3cOpen (.ite g.i3cHold g.regRead.snd.i3cHold))

theorem Keeps.i3cRegWrite {addr : BitVec 32} {data : Word} (h : Keeps s₀ s) : Keeps s₀ (i3cRegWrite addr data s) :=
  h.i3cCommand fun g => .ite g.i3cHold (.ite g.i3cHold (.ite g.i3cHold g.regWrite.i3cHold))

theorem Keeps.i3cReplyRead (h : Keeps s₀ s) : Keeps s₀ (i3cReplyRead s) := by
  unfold Machine.i3cReplyRead
  refine .ite h.emit ?_
  simp only
  split
  · exact h.fields.emit
  · exact .ite h.fields.emit h.fields.fields.emit

theorem Keeps.i3cSet {f : I3cState → I3cState} (h : Keeps s₀ s) : Keeps s₀ (i3cSet s f) :=
  .ite h.fields h

theorem Keeps.ibiSend (h : Keeps s₀ s) : Keeps s₀ (ibiSend s) := by
  unfold Machine.ibiSend
  refine .ite ?_ h
  split
  · exact h.fields.emit
  · exact h

theorem Keeps.jtagOpen {kind : Nat} (h : Keeps s₀ s) : Keeps s₀ (s.jtagOpen kind) :=
  h.fields.emit

theorem Keeps.jtagNone {kind : Nat} (h : Keeps s₀ s) : Keeps s₀ (s.jtagNone kind) :=
  h.emit

theorem Keeps.debugAccess {op : DebugOp} (h : Keeps s₀ s) : Keeps s₀ (debugAccess op s) := by
  unfold Machine.debugAccess
  simp only
  split
  · exact h.registerReadClear
  · exact h.registerWrite
  · exact .ite h.dbgViolation.jtagNone (.ite h.jtagOpen h.jtagNone)
  · exact .ite h.jtagOpen h.jtagNone
  · exact .ite h.emit h.jtagNone
  · exact .ite h.jtagOpen h.dbgViolation.jtagNone

/-! The functions of Sys2Proof/Machine/Isolation.lean. -/

theorem Keeps.portsLost {r : Nat} (h : Keeps s₀ s) : Keeps s₀ (s.portsLost r) :=
  .portsIdle (h.foldl fun g => g.linkDown.lossOf.linkCleared.emptyInput)

theorem Keeps.deskLost {r : Nat} (h : Keeps s₀ s) : Keeps s₀ (s.deskLost r) :=
  .foldl (h.inCat.fields.foldl .svcBarEnds) .answerLost

theorem Keeps.carrelsLost {r : Nat} (h : Keeps s₀ s) : Keeps s₀ (s.carrelsLost r) :=
  .foldl (h.foldl .dropActive) .carrelContained

theorem Keeps.timeLost {r : Nat} (h : Keeps s₀ s) : Keeps s₀ (s.timeLost r) :=
  .ite h.holdoverEntry h

theorem Keeps.forcedReleases {r : Nat} (h : Keeps s₀ s) : Keeps s₀ (s.forcedReleases r) :=
  h.foldl fun g => .ite (g.foldl fun k => k.emit.emit) g

theorem Keeps.regionIsolated {r : Region} (h : Keeps s₀ s) : Keeps s₀ (regionIsolated r s) :=
  .ite h h.portsLost.setRgn.set.set.set.regionCovered.deskLost.carrelsLost.timeLost.forcedReleases

theorem Keeps.blkWaitTmo {set : Nat} (h : Keeps s₀ s) : Keeps s₀ (blkWaitTmo set s) :=
  .ite (.ite h.record.set.set h.record) h

theorem Keeps.selfResetTmo {set : Nat} (h : Keeps s₀ s) : Keeps s₀ (selfResetTmo set s) :=
  .ite h.record h

theorem Keeps.switchCleared {r : Nat} (h : Keeps s₀ s) : Keeps s₀ (s.switchCleared r) :=
  .foldl (.sw (h.foldl .emptyInput)) .set

theorem Keeps.blockCleared {set : Nat} (h : Keeps s₀ s) : Keeps s₀ (s.blockCleared set) := by
  unfold State.blockCleared
  refine .ite ?_ h
  simp only
  split
  · exact h.fields
  · exact h.setZwl
  · exact h.switchCleared
  · exact h

theorem Keeps.blockResetDone {set : Nat} (h : Keeps s₀ s) : Keeps s₀ (blockResetDone set s) :=
  .ite (.fields (.ite h h.blockCleared)) h

theorem Keeps.retainedCopyDone {x : RetCopy} (h : Keeps s₀ s) : Keeps s₀ (retainedCopyDone x s) := by
  unfold Machine.retainedCopyDone
  split
  · exact h
  next e rest _ =>
  extract_lets base n old full cut
  have hcut (hm : Memory.wf s.ret) : Memory.wf cut :=
    wf_wipeRange _ _ (wf_foldl _ _ (wf_wipeRange _ _ hm) fun _ _ g => wf_pokes _ _ g)
  have g : Keeps s₀ { s with ret := pokes cut base (retHeader e n), flt := { s.flt with retPend := rest } } :=
    h.withRet fun hm => wf_pokes _ _ (hcut hm)
  exact .ite g.setBits.record g.setBits

theorem Keeps.faultPinMismatch (h : Keeps s₀ s) : Keeps s₀ (faultPinMismatch s) :=
  h.record

theorem Keeps.msixMergeEnd {set : Nat} (h : Keeps s₀ s) : Keeps s₀ (msixMergeEnd set s) :=
  .ite h (.ite h.setCes.emit h.setCes)

/-! The functions of Sys2Proof/Machine/Scrub.lean. -/

theorem Keeps.showLog {r : Nat} (h : Keeps s₀ s) : Keeps s₀ (s.showLog r) :=
  h.set

theorem Keeps.retireRow {stack row : Nat} (h : Keeps s₀ s) : Keeps s₀ (s.retireRow stack row) :=
  .ite h.rowRepair (.ite (.fields (.foldl (h.foldl .toBuffer) .setWay))
    (.ite (.archive (.record (.bump (.fields (.foldl (h.foldl .toBuffer) .setWay)))))
      (.record (.bump (.fields (.foldl (h.foldl .toBuffer) .setWay))))))

theorem Keeps.noSpare {stack row : Nat} (h : Keeps s₀ s) : Keeps s₀ (s.noSpare stack row) :=
  .ite (.ite h.fields.retireRow h.fields) h

theorem Keeps.columnPoisoned {stack a : Nat} (h : Keeps s₀ s) : Keeps s₀ (s.columnPoisoned stack a) :=
  h.fields

theorem Keeps.overflowLost {p : Nat} (h : Keeps s₀ s) : Keeps s₀ (s.overflowLost p) :=
  .ite h h.record.portContained

theorem Keeps.areaClass {r stack a : Nat} (h : Keeps s₀ s) : Keeps s₀ (s.areaClass r stack a) :=
  .ite h.record (.ite h.ctxLost (.ite h.columnPoisoned.overflowLost h.columnPoisoned))

theorem Keeps.areaLost {r stack a : Nat} (h : Keeps s₀ s) : Keeps s₀ (s.areaLost r stack a) :=
  h.keyLost.areaClass

theorem Keeps.scrubColumn {r stack row col : Nat} {found : ColRead} (h : Keeps s₀ s) :
    Keeps s₀ (s.scrubColumn r stack row col found) := by
  unfold State.scrubColumn
  refine .ite ?_ ?_
  · simp only
    split
    · exact h.columnCorrected
    · exact .ite (.ite h.sectorLostDirty.snd h.sectorLostClean) h.areaLost
    · exact h
  · simp only
    split
    · exact h.columnCorrected
    · exact h
    · exact .ite h.eccCapture.record.rowRepair h
    · exact .ite h.eccCapture.record.rowRepair h.eccCapture.bump.rowRepair

theorem Keeps.patrolScrubStep {r : Region} {stack : Fin 2} {found : ColRead} {spare : Bool} (h : Keeps s₀ s) :
    Keeps s₀ (patrolScrubStep r stack found spare s) :=
  .ite h (.set (.fields (.ite h.columns.scrubColumn h.columns.scrubColumn.noSpare)))

theorem Keeps.rowRepairDone {r : Region} {stack : Fin 2} {spare : Bool} (h : Keeps s₀ s) :
    Keeps s₀ (rowRepairDone r stack spare s) := by
  unfold Machine.rowRepairDone
  simp only
  split
  · exact h
  · exact .ite h.fields.bump.showLog h.noSpare

theorem Keeps.stacksWiped {r : Nat} (h : Keeps s₀ s) : Keeps s₀ (s.stacksWiped r) :=
  h.withHbm fun hm => wf_wipeRange _ _ hm

theorem Keeps.hbmStartDone {r : Region} {trained : HbmStart} (h : Keeps s₀ s) : Keeps s₀ (hbmStartDone r trained s) :=
  .ite h.record (.ite h.record (.ite (.set (.showLog (.set (.fields (.ite h h.stacksWiped)))))
    (.showLog (.set (.fields (.ite h h.stacksWiped))))))

/-! The functions of Sys2Proof/Machine/Tillers.lean. -/

theorem Keeps.tilStep {t : Nat} {f : State → State} (h : Keeps s₀ s) (hf : ∀ {u}, Keeps s₀ u → Keeps s₀ (f u)) :
    Keeps s₀ (tilStep t s f) :=
  .ite (hf h) h

theorem Keeps.tilLive {t : Nat} {f : State → State} (h : Keeps s₀ s) (hf : ∀ {u}, Keeps s₀ u → Keeps s₀ (f u)) :
    Keeps s₀ (tilLive t s f) :=
  .ite h (hf h)

theorem Keeps.retire {t : Nat} (h : Keeps s₀ s) : Keeps s₀ (s.retire t) :=
  .ite h.setTiller.count h.setTiller.countChip

theorem Keeps.setTReg {t i : Nat} {v : Word} (h : Keeps s₀ s) : Keeps s₀ (s.setTReg t i v) :=
  h.setWord

theorem Keeps.tilDone {t next : Nat} (h : Keeps s₀ s) : Keeps s₀ (s.tilDone t next) :=
  h.retire.set

theorem Keeps.tilNext {t : Nat} (h : Keeps s₀ s) : Keeps s₀ (s.tilNext t) :=
  h.tilDone

theorem Keeps.tilAlu {t d : Nat} {v : State → Word} (h : Keeps s₀ s) : Keeps s₀ (tilAlu t d v s) :=
  h.tilStep fun g => g.setTReg.tilNext

theorem Keeps.tilFetch {x : TilAt} {f : State → State} (h : Keeps s₀ s) (hf : ∀ {u}, Keeps s₀ u → Keeps s₀ (f u)) :
    Keeps s₀ (tilFetch x s f) := by
  unfold Machine.tilFetch
  split
  · exact hf h
  · exact hf (.ite (h.tilStep .record) h)
  · exact h.tilStep .tilStops

theorem Keeps.giveArgs {t : Nat} {args : List Nat} (h : Keeps s₀ s) : Keeps s₀ (s.giveArgs t args) :=
  h.fields.setTiller

theorem Keeps.takeEvent {t b : Nat} (h : Keeps s₀ s) : Keeps s₀ (s.takeEvent t b) := by
  unfold State.takeEvent
  refine .ite ?_ h.clearBits.giveArgs
  split
  · exact h.setTiller.showEvents.giveArgs
  · exact h

theorem Keeps.tilWait {t mask : Nat} {w : TWait} (h : Keeps s₀ s) : Keeps s₀ (s.tilWait t w mask) :=
  h.setTiller.set.set.giveUp

theorem Keeps.tilResume {t : Nat} (h : Keeps s₀ s) : Keeps s₀ (s.tilResume t) :=
  h.tilNext.setTiller.set.set.handlerWoken

theorem Keeps.cbr {t a b cond tgt : Nat} (h : Keeps s₀ s) : Keeps s₀ (cbr t a b cond tgt s) :=
  h.tilStep fun g => .ite g.tilStops (.ite g.tilDone g.tilNext)

theorem Keeps.setStack {t : Nat} {k : List Nat} (h : Keeps s₀ s) : Keeps s₀ (s.setStack t k) :=
  h.setTiller.set

theorem Keeps.call {t tgt : Nat} (h : Keeps s₀ s) : Keeps s₀ (call t tgt s) :=
  h.tilStep fun g => .ite g.tilStops (.ite g.tilStops g.setStack.tilDone)

theorem Keeps.ret {t : Nat} (h : Keeps s₀ s) : Keeps s₀ (ret t s) := by
  unfold Machine.ret
  refine .tilStep h (fun g => ?_)
  split
  · exact g.tilStops
  · exact g.setStack.tilDone

theorem Keeps.trap {t code : Nat} (h : Keeps s₀ s) : Keeps s₀ (trap t code s) :=
  h.tilStep fun g => g.retire.set.tilStops

theorem Keeps.tilYield {t : Nat} (h : Keeps s₀ s) : Keeps s₀ (tilYield t s) :=
  h.tilStep fun g => g.tilNext.giveUp

theorem Keeps.tilEvent {t a code : Nat} (h : Keeps s₀ s) : Keeps s₀ (tilEvent t a code s) :=
  h.tilStep fun g => .tilNext (.ite g.event.fst.note.fst g.event.fst)

theorem Keeps.reply {t a b : Nat} (h : Keeps s₀ s) : Keeps s₀ (reply t a b s) := by
  unfold Machine.reply
  refine .tilStep h (fun g => .ite g.tilStops (.giveUp ?_))
  split
  · exact g.tilNext.answerReq
  · exact g.tilNext

theorem Keeps.ld {t d a : Nat} {off : BitVec 18} (h : Keeps s₀ s) : Keeps s₀ (ld t d a off s) := by
  unfold Machine.ld
  refine .tilStep h (fun g => .ite g.tilStops ?_)
  simp only
  split
  · exact g.tilFault
  · exact g.setTReg.tilNext
  · exact g.setTiller

theorem Keeps.svcGo {t op : Nat} (h : Keeps s₀ s) : Keeps s₀ (s.svcGo t op) :=
  .ite h.discard (.ite h.svcEnd h.setCtxWord.setCtxWord)

theorem Keeps.issueStore {t x v : Nat} (h : Keeps s₀ s) : Keeps s₀ (s.issueStore t x v) :=
  h.setTiller

theorem Keeps.st {t d a : Nat} {off : BitVec 18} (h : Keeps s₀ s) : Keeps s₀ (st t d a off s) := by
  unfold Machine.st
  refine .tilStep h (fun g => .ite g.tilStops ?_)
  simp only
  split
  · exact g.tilFault
  · exact .tilNext (.ite g.svcGo g.setCtxWord)
  · exact .ite g.setTiller g.issueStore.tilNext

theorem Keeps.ldReturn {t : Nat} (h : Keeps s₀ s) : Keeps s₀ (ldReturn t s) := by
  unfold Machine.ldReturn
  refine .tilLive h (fun g => ?_)
  split
  · exact .ite g g.regRead.snd.setTiller.setTReg.tilNext
  · exact g

theorem Keeps.tilWrite {x v : Nat} (h : Keeps s₀ s) : Keeps s₀ (tilWrite x v s) := by
  unfold Machine.tilWrite
  split
  · exact .ite h h.discard
  · exact .ite h h.discard
  · exact h.regWrite

theorem Keeps.rateAsked {t x v : Nat} (h : Keeps s₀ s) : Keeps s₀ (rateAsked t x v s) := by
  unfold Machine.rateAsked
  split
  · exact .ite h.set h
  · exact h

theorem Keeps.storeComplete {t : Nat} (h : Keeps s₀ s) : Keeps s₀ (storeComplete t s) := by
  unfold Machine.storeComplete
  refine .tilLive h (fun g => ?_)
  split
  · exact g
  · simp only
    split
    · exact g.setTiller.rateAsked.tilWrite.issueStore.setTiller.tilNext
    · exact g.setTiller.rateAsked.tilWrite

theorem Keeps.wakes {t d b : Nat} (h : Keeps s₀ s) : Keeps s₀ (s.wakes t d b) :=
  h.takeEvent.setTReg.tilResume

theorem Keeps.wait {t d mask unit count : Nat} (h : Keeps s₀ s) : Keeps s₀ (wait t d mask unit count s) := by
  unfold Machine.wait
  refine .tilStep h (fun g => ?_)
  split
  · exact g.tilStops
  · split
    · exact g.wakes.giveUp
    · exact g.tilWait

theorem Keeps.waitb {t d a bit unit count : Nat} {val : Bool} (h : Keeps s₀ s) : Keeps s₀ (waitb t d a bit val unit count s) := by
  unfold Machine.waitb
  refine .tilStep h (fun g => ?_)
  simp only
  split
  · exact g.tilStops
  · split
    · exact g.tilFault
    · exact .ite g.setTReg.tilResume.giveUp g.tilWait
    · exact g.tilWait

theorem Keeps.delay {t unit count : Nat} (h : Keeps s₀ s) : Keeps s₀ (delay t unit count s) := by
  unfold Machine.delay
  refine .tilStep h (fun g => ?_)
  split
  · exact g.tilStops
  · exact g.tilWait

theorem Keeps.waitWake {t : Nat} (h : Keeps s₀ s) : Keeps s₀ (waitWake t s) := by
  unfold Machine.waitWake
  refine .tilLive h (fun g => ?_)
  split
  · split
    · exact g.wakes
    · exact g
  · exact g

theorem Keeps.timesOut {t d : Nat} (h : Keeps s₀ s) : Keeps s₀ (s.timesOut t d) :=
  h.bump.record.setTReg.tilResume

theorem Keeps.waitTimeout {t : Nat} (h : Keeps s₀ s) : Keeps s₀ (waitTimeout t s) := by
  unfold Machine.waitTimeout
  refine .tilLive h (fun g => ?_)
  split
  · split
    · exact g.wakes
    · exact g.timesOut
  · exact g.timesOut
  · exact g.tilResume
  · exact g

theorem Keeps.tilSample {t x : Nat} (h : Keeps s₀ s) : KeepsSnd s₀ (s.tilSample t x) :=
  .ite (.pair h) (.pair h.regRead.snd)

theorem Keeps.waitbMatch {t : Nat} (h : Keeps s₀ s) : Keeps s₀ (waitbMatch t s) := by
  unfold Machine.waitbMatch
  refine .tilLive h (fun g => ?_)
  split
  · exact .ite g.tilSample.snd.setTReg.tilResume g.tilSample.snd
  · exact g

theorem Keeps.tillerRunaway {t : Nat} (h : Keeps s₀ s) : Keeps s₀ (tillerRunaway t s) :=
  h.tilLive fun g => .ite g.tilStops g

end Sys2Proof.Machine
end

section
/-! SUPPORT. Every command answers a next state: what it keeps, from the lemma of the function that it calls. -/
namespace Sys2Proof.Machine
open Sys2Proof

/-- The commands that can end CHIP_FATAL: power comes, power goes, and the conversion of a rail. -/
def endsFatal : Instr → Bool
  | .powerOn | .keeperPowerLoss | .railConversion _ _ => true
  | _ => false

/-- Every other command answers a next state and keeps the queue, the forms and CHIP_FATAL. -/
theorem exec_keeps (c : Instr) (s : State) (hc : endsFatal c = false) : ∃ t, exec c s = .next t ∧ Keeps s t := by
  have h := Keeps.refl s
  cases c with
  | registerWrite => exact ⟨_, rfl, h.registerWrite⟩
  | srecRead => exact ⟨_, rfl, h.srecRead⟩
  | srecWrite => exact ⟨_, rfl, h.srecWrite⟩
  | grpRead => exact ⟨_, rfl, h.grpRead⟩
  | grpWrite => exact ⟨_, rfl, h.grpWrite⟩
  | grpCopiesDone => exact ⟨_, rfl, h.grpCopiesDone⟩
  | ruleRead => exact ⟨_, rfl, h.ruleRead⟩
  | ruleWrite => exact ⟨_, rfl, h.ruleWrite⟩
  | ruleClear => exact ⟨_, rfl, h.ruleClear⟩
  | bindingBarrierStart => exact ⟨_, rfl, h.bindingBarrierStart⟩
  | ruleBarrierStart => exact ⟨_, rfl, h.ruleBarrierStart⟩
  | barrierComplete => exact ⟨_, rfl, h.barrierComplete.bindStep⟩
  | barrierTimeout => exact ⟨_, rfl, h.barrierTimeout.bindStep⟩
  | barrierSlotFree => exact ⟨_, rfl, h.barrierSlotFree⟩
  | reshelveStart => exact ⟨_, rfl, h.reshelveStart⟩
  | reshelveSwitch => exact ⟨_, rfl, h.reshelveSwitch⟩
  | reshelveAbort => exact ⟨_, rfl, h.reshelveAbort⟩
  | switchoverDrained => exact ⟨_, rfl, h.switchoverDrained⟩
  | switchoverStallTmo => exact ⟨_, rfl, h.switchoverStallTmo⟩
  | addDcResponse => exact ⟨_, rfl, h.addDcResponse⟩
  | addTimeout => exact ⟨_, rfl, h.addTimeout⟩
  | releaseDynamicCapacity => exact ⟨_, rfl, h.releaseDynamicCapacity⟩
  | rdShared => exact ⟨_, rfl, h.atBank⟩
  | rdOwn => exact ⟨_, rfl, h.atBank⟩
  | rdCur => exact ⟨_, rfl, h.atBank⟩
  | ownNodata => exact ⟨_, rfl, h.atBank⟩
  | cleanEvict => exact ⟨_, rfl, h.atBank⟩
  | wb => exact ⟨_, rfl, h.atBank⟩
  | wr => exact ⟨_, rfl, h.atBank⟩
  | catReqProtocol => exact ⟨_, rfl, h.catReqProtocol⟩
  | biRsp => exact ⟨_, rfl, h.biRsp⟩
  | d2hSnoopResponse => exact ⟨_, rfl, h.d2hSnoopResponse⟩
  | biConflict => exact ⟨_, rfl, h.biConflict⟩
  | catalogueFillDone => exact ⟨_, rfl, h.catalogueFillDone⟩
  | granaryDataReady => exact ⟨_, rfl, h.granaryDataReady⟩
  | chainRetryDelay => exact ⟨_, rfl, h.chainRetryDelay⟩
  | dedupeRetire => exact ⟨_, rfl, h.dedupeRetire⟩
  | catEntryLookup => exact ⟨_, rfl, h.catEntryLookup⟩
  | reclaimStart => exact ⟨_, rfl, h.reclaimStart⟩
  | poisonLedgerRead => exact ⟨_, rfl, h.poisonLedgerRead⟩
  | deadSetEntry => exact ⟨_, rfl, h.deadSetEntry⟩
  | reclaimWalkEnd => exact ⟨_, rfl, h.reclaimWalkEnd⟩
  | reclaimWalkTmo => exact ⟨_, rfl, h.reclaimWalkTmo⟩
  | txnTimeout => exact ⟨_, rfl, h.txnTimeout⟩
  | txnPauseCap => exact ⟨_, rfl, h.txnPauseCap⟩
  | upLinkDown => exact ⟨_, rfl, h.upLinkDown⟩
  | poolLinkDown => exact ⟨_, rfl, h.poolLinkDown⟩
  | holdReturn => exact ⟨_, rfl, h.holdReturn⟩
  | holdExpiry => exact ⟨_, rfl, h.holdExpiry⟩
  | zwiusLinkDown => exact ⟨_, rfl, h.zwiusLinkDown⟩
  | zwiusUnackTimeout => exact ⟨_, rfl, h.zwiusUnackTimeout⟩
  | zwiusResponse => exact ⟨_, rfl, h.zwiusResponse⟩
  | hotResetReceived => exact ⟨_, rfl, h.hotResetReceived⟩
  | dnLinkDown => exact ⟨_, rfl, h.dnLinkDown⟩
  | reclaimSetVisit => exact ⟨_, rfl, h.reclaimSetVisit⟩
  | poolFillArrive => exact ⟨_, rfl, h.poolFillArrive⟩
  | poolWriteComplete => exact ⟨_, rfl, h.poolWriteComplete⟩
  | grnInvalidate => exact ⟨_, rfl, h.flushStart⟩
  | grnCleanInvalidate => exact ⟨_, rfl, h.flushStart⟩
  | grnAllClean => exact ⟨_, rfl, h.flushStart⟩
  | flushWalkDone => exact ⟨_, rfl, h.flushWalkDone⟩
  | patrolScrubStep => exact ⟨_, rfl, h.patrolScrubStep⟩
  | rowRepairDone => exact ⟨_, rfl, h.rowRepairDone⟩
  | hbmStartDone => exact ⟨_, rfl, h.hbmStartDone⟩
  | pseudoChannelFail => exact ⟨_, rfl, h.pseudoChannelFail⟩
  | flushWalkStep => exact ⟨_, rfl, h.flushWalkStep⟩
  | flitReceive => exact ⟨_, rfl, h.flitReceive⟩
  | cxlioRequest => exact ⟨_, rfl, h.cxlioRequest⟩
  | overflowDrain => exact ⟨_, rfl, h.overflowDrain⟩
  | outputCellStart => exact ⟨_, rfl, h.outputCellStart⟩
  | spineCellReceive => exact ⟨_, rfl, h.spineCellReceive⟩
  | spineAckReceive => exact ⟨_, rfl, h.spineAckReceive⟩
  | spineAckTimeout => exact ⟨_, rfl, h.spineAckTimeout⟩
  | resendAcked => exact ⟨_, rfl, h.resendAcked⟩
  | sprayEntryAnswer => exact ⟨_, rfl, h.sprayEntryAnswer⟩
  | exitMarkArrive => exact ⟨_, rfl, h.exitMarkArrive⟩
  | holeTimeout => exact ⟨_, rfl, h.holeTimeout⟩
  | spineCheckPassed => exact ⟨_, rfl, h.spineCheckPassed⟩
  | forceSprayEntry => exact ⟨_, rfl, h.forceSprayEntry⟩
  | forceSprayExit => exact ⟨_, rfl, h.forceSprayExit⟩
  | rtRead => exact ⟨_, rfl, h.rtRead⟩
  | rtWrite => exact ⟨_, rfl, h.rtWrite⟩
  | rtClear => exact ⟨_, rfl, h.rtClear⟩
  | rtBarrierStart => exact ⟨_, rfl, h.rtBarrierStart⟩
  | rtBarrierDone => exact ⟨_, rfl, h.rtBarrierDone⟩
  | rtBarrierTimeout => exact ⟨_, rfl, h.rtBarrierTimeout⟩
  | schedulerSlot => exact ⟨_, rfl, h.schedulerSlot⟩
  | spineArbitration => exact ⟨_, rfl, h.spineArbitration⟩
  | slipAdmit => exact ⟨_, rfl, h.slipAdmit⟩
  | policerCfgWrite => exact ⟨_, rfl, h.policerCfgWrite⟩
  | policerAttach => exact ⟨_, rfl, h.policerAttach⟩
  | ptmRequest => exact ⟨_, rfl, h.ptmRequest⟩
  | ptmResult => exact ⟨_, rfl, h.ptmResult⟩
  | holdoverEntry => exact ⟨_, rfl, h.holdoverEntry⟩
  | gateGo => exact ⟨_, rfl, h.gateGo⟩
  | gateBankSwitch => exact ⟨_, rfl, h.gateBankSwitch⟩
  | gateEntryChange => exact ⟨_, rfl, h.gateEntryChange⟩
  | histDepthSample => exact ⟨_, rfl, h.histDepthSample⟩
  | timeRegionSkew => exact ⟨_, rfl, h.timeRegionSkew⟩
  | linkUp => exact ⟨_, rfl, h.linkUp⟩
  | linkTrainFail => exact ⟨_, rfl, h.linkTrainFail⟩
  | detectTimeout => exact ⟨_, rfl, h.detectTimeout⟩
  | recoveryTimeout => exact ⟨_, rfl, h.recoveryTimeout⟩
  | pvperlExpiry => exact ⟨_, rfl, h.pvperlExpiry⟩
  | wakeNAssert => exact ⟨_, rfl, h.wakeNAssert⟩
  | laneFault => exact ⟨_, rfl, h.laneFault⟩
  | widthChange => exact ⟨_, rfl, h.widthChange⟩
  | l0pPeerRequest => exact ⟨_, rfl, h.l0pPeerRequest⟩
  | retrain => exact ⟨_, rfl, h.retrain⟩
  | disable => exact ⟨_, rfl, h.disable⟩
  | test => exact ⟨_, rfl, h.test⟩
  | injOne => exact ⟨_, rfl, h.injOne⟩
  | injBurst => exact ⟨_, rfl, h.injBurst⟩
  | checkerEnable => exact ⟨_, rfl, h.checkerEnable⟩
  | lanePllUnlock => exact ⟨_, rfl, h.lanePllUnlock⟩
  | lanePllRelock => exact ⟨_, rfl, h.lanePllRelock⟩
  | receiverDetect => exact ⟨_, rfl, h.receiverDetect⟩
  | linkRecoveryEntry => exact ⟨_, rfl, h.linkRecoveryEntry⟩
  | linkRecoveryExit => exact ⟨_, rfl, h.linkRecoveryExit⟩
  | laneMarginingCommand => exact ⟨_, rfl, h.laneMarginingCommand⟩
  | spareLaneBad => exact ⟨_, rfl, h.spareLaneBad⟩
  | patternCheckerSync => exact ⟨_, rfl, h.patternCheckerSync⟩
  | flitAckReceive => exact ⟨_, rfl, h.flitAckReceive⟩
  | flitNakReceive => exact ⟨_, rfl, h.flitNakReceive⟩
  | creditUpdate => exact ⟨_, rfl, h.creditUpdate⟩
  | kSetGo => exact ⟨_, rfl, h.kSetGo⟩
  | ideKeyProg => exact ⟨_, rfl, h.ideKeyProg⟩
  | flowUnitReceive => exact ⟨_, rfl, h.flowUnitReceive⟩
  | zwlInit => exact ⟨_, rfl, h.zwlInit⟩
  | zwlAck => exact ⟨_, rfl, h.zwlAck⟩
  | zwlNak => exact ⟨_, rfl, h.zwlNak⟩
  | zwlReq => exact ⟨_, rfl, h.zwlReq⟩
  | zwlGrant => exact ⟨_, rfl, h.zwlGrant⟩
  | zwlTimeRequest => exact ⟨_, rfl, h.zwlTimeRequest⟩
  | zwlTimeResponse => exact ⟨_, rfl, h.zwlTimeResponse⟩
  | swapReq => exact ⟨_, rfl, h.swapReq⟩
  | swapAck => exact ⟨_, rfl, h.swapAck⟩
  | swapDone => exact ⟨_, rfl, h.swapDone⟩
  | swapAckTimeout => exact ⟨_, rfl, h.swapAckTimeout⟩
  | zwlAckTimer => exact ⟨_, rfl, h.zwlAckTimer⟩
  | zwlNakRepeat => exact ⟨_, rfl, h.zwlNakRepeat⟩
  | zwlReqRepeat => exact ⟨_, rfl, h.zwlReqRepeat⟩
  | zwlGrantRepeat => exact ⟨_, rfl, h.zwlGrantRepeat⟩
  | zwlTimeExchange => exact ⟨_, rfl, h.zwlTimeExchange⟩
  | zwlCtrlDiscard => exact ⟨_, rfl, h.zwlCtrlDiscard⟩
  | ctxRead => exact ⟨_, rfl, h.ctxRead⟩
  | ctxCreate => exact ⟨_, rfl, h.ctxCreate⟩
  | ctxModify => exact ⟨_, rfl, h.ctxModify⟩
  | ctxDestroy => exact ⟨_, rfl, h.ctxDestroy⟩
  | producerDoorbell => exact ⟨_, rfl, h.producerDoorbell⟩
  | consumerDoorbell => exact ⟨_, rfl, h.consumerDoorbell⟩
  | indexWordWrite => exact ⟨_, rfl, h.indexWordWrite⟩
  | ctxCacheFill => exact ⟨_, rfl, h.ctxCacheFill⟩
  | noticeWordLatch => exact ⟨_, rfl, h.noticeWordLatch⟩
  | noticeWordRead => exact ⟨_, rfl, h.noticeWordRead⟩
  | noticeMark => exact ⟨_, rfl, h.noticeMark⟩
  | noticeRewind => exact ⟨_, rfl, h.noticeRewind⟩
  | noticeRelease => exact ⟨_, rfl, h.noticeRelease⟩
  | noticeSkip => exact ⟨_, rfl, h.noticeSkip⟩
  | slipDeliver => exact ⟨_, rfl, h.slipDeliver⟩
  | descriptorFetch => exact ⟨_, rfl, h.descriptorFetch⟩
  | descriptorReadError => exact ⟨_, rfl, h.descriptorReadError⟩
  | dmvCopy => exact ⟨_, rfl, h.dmvCopy⟩
  | dmvFill => exact ⟨_, rfl, h.dmvFill⟩
  | dmvCheck => exact ⟨_, rfl, h.dmvCheck⟩
  | dmvNop => exact ⟨_, rfl, h.dmvNop⟩
  | dmvBurstIssue => exact ⟨_, rfl, h.dmvBurstIssue⟩
  | dmvBurstComplete => exact ⟨_, rfl, h.dmvBurstComplete⟩
  | readbackComplete => exact ⟨_, rfl, h.readbackComplete⟩
  | dmvCqHoldTmo => exact ⟨_, rfl, h.dmvCqHoldTmo⟩
  | shadowArm => exact ⟨_, rfl, h.shadowArm⟩
  | dmvAbort => exact ⟨_, rfl, h.dmvAbort⟩
  | ringTableWrite => exact ⟨_, rfl, h.ringTableWrite⟩
  | crlCreate => exact ⟨_, rfl, h.crlCreate⟩
  | crlFreeze => exact ⟨_, rfl, h.crlFreeze⟩
  | carrelFrozen => exact ⟨_, rfl, h.carrelFrozen.mbxSettleAll⟩
  | crlThaw => exact ⟨_, rfl, h.crlThaw⟩
  | crlSave => exact ⟨_, rfl, h.crlSave⟩
  | saveDone => exact ⟨_, rfl, h.saveDone.mbxSettleAll⟩
  | crlRestore => exact ⟨_, rfl, h.crlRestore⟩
  | crlDestroy => exact ⟨_, rfl, h.crlDestroy⟩
  | carrelSlotWrite => exact ⟨_, rfl, h.carrelSlotWrite⟩
  | carrelShareWrite => exact ⟨_, rfl, h.carrelShareWrite⟩
  | leadTakeover => exact ⟨_, rfl, h.leadTakeover⟩
  | mpuBarrier => exact ⟨_, rfl, h.mpuBarrier⟩
  | mpuBarrierDone => exact ⟨_, rfl, h.mpuBarrierDone⟩
  | halt => exact ⟨_, rfl, h.tilFetch fun g => g.tilStep fun k => k.retire.tilStops⟩
  | ldi => exact ⟨_, rfl, h.tilFetch .tilAlu⟩
  | luh => exact ⟨_, rfl, h.tilFetch .tilAlu⟩
  | ld => exact ⟨_, rfl, h.tilFetch .ld⟩
  | st => exact ⟨_, rfl, h.tilFetch .st⟩
  | add => exact ⟨_, rfl, h.tilFetch .tilAlu⟩
  | sub => exact ⟨_, rfl, h.tilFetch .tilAlu⟩
  | addi => exact ⟨_, rfl, h.tilFetch .tilAlu⟩
  | and => exact ⟨_, rfl, h.tilFetch .tilAlu⟩
  | or => exact ⟨_, rfl, h.tilFetch .tilAlu⟩
  | xor => exact ⟨_, rfl, h.tilFetch .tilAlu⟩
  | andi => exact ⟨_, rfl, h.tilFetch .tilAlu⟩
  | shli => exact ⟨_, rfl, h.tilFetch .tilAlu⟩
  | shri => exact ⟨_, rfl, h.tilFetch .tilAlu⟩
  | cbr => exact ⟨_, rfl, h.tilFetch .cbr⟩
  | call => exact ⟨_, rfl, h.tilFetch .call⟩
  | ret => exact ⟨_, rfl, h.tilFetch .ret⟩
  | wait => exact ⟨_, rfl, h.tilFetch .wait⟩
  | waitb => exact ⟨_, rfl, h.tilFetch .waitb⟩
  | delay => exact ⟨_, rfl, h.tilFetch .delay⟩
  | event => exact ⟨_, rfl, h.tilFetch .tilEvent⟩
  | reply => exact ⟨_, rfl, h.tilFetch .reply⟩
  | yield => exact ⟨_, rfl, h.tilFetch .tilYield⟩
  | trap => exact ⟨_, rfl, h.tilFetch .trap⟩
  | waitWake => exact ⟨_, rfl, h.waitWake⟩
  | waitTimeout => exact ⟨_, rfl, h.waitTimeout⟩
  | waitbMatch => exact ⟨_, rfl, h.waitbMatch⟩
  | ldReturn => exact ⟨_, rfl, h.ldReturn⟩
  | storeComplete => exact ⟨_, rfl, h.storeComplete⟩
  | tillerRunaway => exact ⟨_, rfl, h.tillerRunaway⟩
  | tillerRun => exact ⟨_, rfl, h.tillerRun⟩
  | tillerStop => exact ⟨_, rfl, h.tillerStop⟩
  | postCmd => exact ⟨_, rfl, h.postCmd⟩
  | handlerRestart => exact ⟨_, rfl, h.handlerRestart⟩
  | readRecord => exact ⟨_, rfl, h.readRecord⟩
  | writeRecord => exact ⟨_, rfl, h.writeRecord⟩
  | writeGroup => exact ⟨_, rfl, h.writeGroup⟩
  | barrier => exact ⟨_, rfl, h.barrier⟩
  | postAdd => exact ⟨_, rfl, h.postAdd⟩
  | reshelve => exact ⟨_, rfl, h.reshelve⟩
  | svcRuleWrite => exact ⟨_, rfl, h.svcRuleWrite⟩
  | setTimer => exact ⟨_, rfl, h.setTimer⟩
  | requestDeadline => exact ⟨_, rfl, h.requestDeadline⟩
  | handlerTimeslice => exact ⟨_, rfl, h.handlerTimeslice⟩
  | timerDue => exact ⟨_, rfl, h.timerDue⟩
  | carrelCreate => exact ⟨_, rfl, h.carrelCreate⟩
  | carrelChange => exact ⟨_, rfl, h.carrelChange⟩
  | carrelFreeze => exact ⟨_, rfl, h.carrelFreeze⟩
  | carrelSave => exact ⟨_, rfl, h.carrelSave⟩
  | carrelRestore => exact ⟨_, rfl, h.carrelRestore⟩
  | carrelThaw => exact ⟨_, rfl, h.carrelThaw⟩
  | carrelDestroy => exact ⟨_, rfl, h.carrelDestroy⟩
  | queueCreate => exact ⟨_, rfl, h.queueCreate⟩
  | queueDestroy => exact ⟨_, rfl, h.queueDestroy⟩
  | requestCapacity => exact ⟨_, rfl, h.requestCapacity⟩
  | mbxCommandTimeout => exact ⟨_, rfl, h.mbxCommandTimeout⟩
  | identifySwitchDevice => exact ⟨_, rfl, h.fmCommand⟩
  | getPhysicalPortState => exact ⟨_, rfl, h.fmCommand⟩
  | physicalPortControl => exact ⟨_, rfl, h.fmCommand⟩
  | sendPpbCxlioConfigRequest => exact ⟨_, rfl, h.fmCommand⟩
  | getVirtualCxlSwitchInfo => exact ⟨_, rfl, h.fmCommand⟩
  | bindVppb => exact ⟨_, rfl, h.fmCommand⟩
  | unbindVppb => exact ⟨_, rfl, h.fmCommand⟩
  | generateAerEvent => exact ⟨_, rfl, h.fmCommand⟩
  | tunnelManagementCommand => exact ⟨_, rfl, h.fmCommand⟩
  | sendLdCxlioConfigRequest => exact ⟨_, rfl, h.fmCommand⟩
  | sendLdCxlioMemoryRequest => exact ⟨_, rfl, h.fmCommand⟩
  | getDcdInfo => exact ⟨_, rfl, h.fmCommand⟩
  | getHostDcRegionConfiguration => exact ⟨_, rfl, h.fmCommand⟩
  | getDcRegionExtentLists => exact ⟨_, rfl, h.fmCommand⟩
  | initiateDynamicCapacityAdd => exact ⟨_, rfl, h.fmCommand⟩
  | initiateDynamicCapacityRelease => exact ⟨_, rfl, h.fmCommand⟩
  | setDcRegionConfiguration => exact ⟨_, rfl, h.fmCommand⟩
  | i3cRegRead => exact ⟨_, rfl, h.i3cRegRead⟩
  | i3cRegWrite => exact ⟨_, rfl, h.i3cRegWrite⟩
  | i3cReplyRead => exact ⟨_, rfl, h.i3cReplyRead⟩
  | i3cEnec => exact ⟨_, rfl, h.i3cSet⟩
  | i3cDisec => exact ⟨_, rfl, h.i3cSet⟩
  | i3cDaa => exact ⟨_, rfl, h.i3cSet⟩
  | ibiSend => exact ⟨_, rfl, h.ibiSend⟩
  | libWatchdog => exact ⟨_, rfl, h.libWatchdog⟩
  | perstNDeassert => exact ⟨_, rfl, h.perstNDeassert⟩
  | supplyCheckPass => exact ⟨_, rfl, h.supplyCheckPass⟩
  | rootLock => exact ⟨_, rfl, h.rootLock⟩
  | sramWiped => exact ⟨_, rfl, h.sramWiped⟩
  | earlySectionsVerified => exact ⟨_, rfl, h.earlySectionsVerified⟩
  | lateSectionsChecked => exact ⟨_, rfl, h.lateSectionsChecked⟩
  | flashReadTimeout => exact ⟨_, rfl, h.flashReadTimeout⟩
  | firmwareStarted => exact ⟨_, rfl, h.firmwareStarted⟩
  | ready => exact ⟨_, rfl, h.ready⟩
  | poolDeviceEnumerated => exact ⟨_, rfl, h.poolDeviceEnumerated⟩
  | rollbackCommit => exact ⟨_, rfl, h.rbAdmit .rollbackCommit⟩
  | rollbackFuseDone => exact ⟨_, rfl, h.rollbackFuseDone⟩
  | nonceRead => exact ⟨_, rfl, h.readWith .nonceRead⟩
  | lcOwn => exact ⟨_, rfl, h.commandListed .lcOwn⟩
  | lcReturn => exact ⟨_, rfl, h.commandListed .lcReturn⟩
  | lcScrap => exact ⟨_, rfl, h.commandListed .lcScrap⟩
  | dbgUnlock => exact ⟨_, rfl, h.commandListed .dbgUnlock⟩
  | lcFuseDone => exact ⟨_, rfl, h.lcFuseDone⟩
  | spdmRequest => exact ⟨_, rfl, h.spdmRequest⟩
  | debugAccess => exact ⟨_, rfl, h.debugAccess⟩
  | boundaryScan => exact ⟨_, rfl, h.boundaryScan⟩
  | slotConversion => exact ⟨_, rfl, h.slotConversion⟩
  | diodeMeasure => exact ⟨_, rfl, h.diodeMeasure⟩
  | slotInsert => exact ⟨_, rfl, h.slotInsert⟩
  | slotRemoval => exact ⟨_, rfl, h.slotRemoval⟩
  | debounceEnd => exact ⟨_, rfl, h.debounceEnd⟩
  | slotStart => exact ⟨_, rfl, h.command .slotStart⟩
  | slotOff => exact ⟨_, rfl, h.command .slotOff⟩
  | slotClear => exact ⟨_, rfl, h.command .slotClear⟩
  | precheckTimeout => exact ⟨_, rfl, h.precheckTimeout⟩
  | faultTimer => exact ⟨_, rfl, h.faultTimer⟩
  | rampWindow => exact ⟨_, rfl, h.rampWindow⟩
  | fastTrip => exact ⟨_, rfl, h.fastTrip⟩
  | passFetCheck => exact ⟨_, rfl, h.passFetCheck⟩
  | powerGood => exact ⟨_, rfl, h.powerGood⟩
  | coolEnd => exact ⟨_, rfl, h.coolEnd⟩
  | tripCountReset => exact ⟨_, rfl, h.tripCountReset⟩
  | busWarnClear => exact ⟨_, rfl, h.busWarnClear⟩
  | hkSourceSwitch => exact ⟨_, rfl, h.hkSourceSwitch⟩
  | refclkLoss => exact ⟨_, rfl, h.refclkLoss⟩
  | rootUnlock => exact ⟨_, rfl, h.rootUnlock⟩
  | railConversion => cases hc
  | railWarnClear => exact ⟨_, rfl, h.railWarnClear⟩
  | brownoutResume => exact ⟨_, rfl, h.brownoutResume⟩
  | perstNAssert => exact ⟨_, rfl, h.perstNAssert⟩
  | warmRstNAssert => exact ⟨_, rfl, h.warmRstNAssert⟩
  | warmRstNDeassert => exact ⟨_, rfl, h.warmRstNDeassert⟩
  | warmResetCmd => exact ⟨_, rfl, h.commandListed .warmResetCmd⟩
  | pdFlushEnd => exact ⟨_, rfl, h.pdFlushEnd⟩
  | pdFlushCutoff => exact ⟨_, rfl, h.pdFlushCutoff⟩
  | rgnRstNAssert => exact ⟨_, rfl, h.rgnRstNAssert⟩
  | powerOn => cases hc
  | keeperPowerLoss => cases hc
  | regionIsolated => exact ⟨_, rfl, h.regionIsolated⟩
  | blockResetDone => exact ⟨_, rfl, h.blockResetDone⟩
  | selfResetTmo => exact ⟨_, rfl, h.selfResetTmo⟩
  | blkWaitTmo => exact ⟨_, rfl, h.blkWaitTmo⟩
  | retainedCopyDone => exact ⟨_, rfl, h.retainedCopyDone⟩
  | faultPinMismatch => exact ⟨_, rfl, h.faultPinMismatch⟩
  | cesMaskWrite => exact ⟨_, rfl, h.cesMaskWrite⟩
  | msixMergeEnd => exact ⟨_, rfl, h.msixMergeEnd⟩
  | recordWrite => exact ⟨_, rfl, h.recordWrite⟩
  | histFrame => exact ⟨_, rfl, h.histFrame⟩
  | wearSample => exact ⟨_, rfl, h.wearSample⟩
  | wearLoad => exact ⟨_, rfl, h.commandListed .wearLoad⟩
  | wearSeal => exact ⟨_, rfl, h.commandListed .wearSeal⟩
  | arcFreeze => exact ⟨_, rfl, h.commandListed .arcFreeze⟩
  | arcUnfreeze => exact ⟨_, rfl, h.commandListed .arcUnfreeze⟩
  | freezeExpired => exact ⟨_, rfl, h.freezeExpired⟩
  | recordAreaRelease => exact ⟨_, rfl, h.command .recordAreaRelease⟩
  | histAreaRelease => exact ⟨_, rfl, h.command .histAreaRelease⟩
  | extremesClear => exact ⟨_, rfl, h.command .extremesClear⟩
  | counterClear => exact ⟨_, rfl, .ite (h.command .counterClear) h⟩
  | counterLoRead => exact ⟨_, rfl, .ite (h.readWith fun g => .counterLoRead (.ite g.counterBad g)) h⟩
  | timeLoRead => exact ⟨_, rfl, h.readWith .timeLoRead⟩
  | patternCountRead => exact ⟨_, rfl, h.readWith .patternLoRead⟩
  | snapshotCapture => exact ⟨_, rfl, h.snapshotCapture⟩
  | snapshotNow => exact ⟨_, rfl, h.command .capture⟩
  | snapshotWritten => exact ⟨_, rfl, h.snapshotWritten⟩
  | pulseIgnored => exact ⟨_, rfl, h.pulseIgnored⟩
  | registerReadClear => exact ⟨_, rfl, h.registerReadClear⟩

/-- Every command answers a next state and keeps the queue and the forms. -/
theorem exec_keepsForm (c : Instr) (s : State) : ∃ t, exec c s = .next t ∧ KeepsForm s t := by
  cases hc : endsFatal c with
  | false =>
    obtain ⟨t, ht, hk⟩ := exec_keeps c s hc
    exact ⟨t, ht, hk.toKeepsForm⟩
  | true =>
    cases c with
    | powerOn => exact ⟨_, rfl, .powerLost s⟩
    | keeperPowerLoss => exact ⟨_, rfl, .powerLost s⟩
    | railConversion => exact ⟨_, rfl, (Keeps.refl s).railConversion⟩
    | _ => cases hc

/-- Settles O3, by one lemma for each function of the model that says it keeps the queue. -/
theorem everyCommandCompletes : Obligations.EveryCommandCompletes := by
  unfold Obligations.EveryCommandCompletes
  intro c s
  obtain ⟨t, ht, hk⟩ := exec_keepsForm c s
  exact ⟨t, ht, hk.queue⟩

end Sys2Proof.Machine
end

section
/-! SUPPORT. What a write of a register word leaves in each of its fields, and what it counts (R19–R21, R44). -/
namespace Sys2Proof.Machine
open Sys2Proof

/-! The rows of a register. -/

/-- The rows stand low bits first, none over another. -/
theorem Reg.rows_pairwise (r : Reg) : r.rows.Pairwise fun a b => a.lo + a.w ≤ b.lo := by
  cases r <;> decide +kernel

theorem Reg.rows_in_word (r : Reg) : ∀ row ∈ r.rows, row.lo + row.w ≤ 32 := by
  cases r <;> decide +kernel

/-! The word with a field written for each row. -/

/-- A word with the value that f gives of each row written in the row's bits. -/
def putRows (f : FieldRow → Nat) (rows : List FieldRow) (v : Word) : Word :=
  rows.foldl (fun u row => putBits u row.lo row.w (f row)) v

theorem bits_putRows_ne (f : FieldRow → Nat) (rows : List FieldRow) (v : Word) (lo w : Nat)
    (h : ∀ row ∈ rows, lo + w ≤ row.lo) : bits (putRows f rows v) lo w = bits v lo w := by
  induction rows generalizing v with
  | nil => rfl
  | cons a l ih =>
    obtain ⟨ha, hl⟩ := List.forall_mem_cons.1 h
    exact (ih _ hl).trans (bits_putBits_ne _ _ _ _ _ _ (.inr ha))

theorem bits_putRows (f : FieldRow → Nat) (rows : List FieldRow) (v : Word) (hp : rows.Pairwise fun a b => a.lo + a.w ≤ b.lo)
    (row : FieldRow) (hm : row ∈ rows) (hw : row.lo + row.w ≤ 32) : bits (putRows f rows v) row.lo row.w = f row % 2 ^ row.w := by
  induction rows generalizing v with
  | nil => cases hm
  | cons a l ih =>
    obtain ⟨ha, hl⟩ := List.pairwise_cons.1 hp
    rcases List.mem_cons.1 hm with rfl | hm
    · exact (bits_putRows_ne f l _ _ _ ha).trans (bits_putBits_same _ _ _ _ hw)
    · exact ih _ hl hm

/-- The word and the mark of a discard are written apart. -/
theorem foldl_rows_eq (f : FieldRow → Nat × Bool) (rows : List FieldRow) (v : Word) (b : Bool) :
    rows.foldl (fun x row => (putBits x.1 row.lo row.w (f row).1, x.2 || (f row).2)) (v, b) =
      (putRows (fun row => (f row).1) rows v, b || rows.any fun row => (f row).2) := by
  induction rows generalizing v b with
  | nil => simp [putRows]
  | cons a l ih => simp [ih, putRows, Bool.or_assoc]

/-! One field. -/

section
variable (s : State) (r : Reg) (i : Nat) (locked : Bool) (v : Word) (row : FieldRow)

/-- No RWL field is one of those that stand read-only in a fixed counter (R491). -/
theorem accOf_rwl (hm : row ∈ r.rows) (ha : row.acc = .rwl) : accOf r i row = .rwl := by
  have hr : r ≠ .PMC_CFG := by
    rintro rfl
    exact absurd ha ((by decide : ∀ x ∈ Reg.rows .PMC_CFG, x.acc ≠ .rwl) row hm)
  simp [accOf, hr, ha]

theorem accOf_eq_or_ro : accOf r i row = row.acc ∨ accOf r i row = .ro := by
  unfold accOf
  split
  · exact .inr rfl
  · exact .inl rfl

theorem State.fieldWrite_locked (ha : accOf r i row = .rwl) :
    s.fieldWrite r i true v row =
      (bits (s.word r i) row.lo row.w, bits v row.lo row.w != bits (s.word r i) row.lo row.w) := by
  simp [State.fieldWrite, ha]

/-- The value that a field holds is never a discarded write. -/
theorem State.fieldWrite_held (h : bits v row.lo row.w = bits (s.word r i) row.lo row.w) :
    (s.fieldWrite r i locked v row).2 = false := by
  unfold State.fieldWrite
  cases accOf r i row <;> cases locked <;> simp [h]

/-- Only an RW or RWL field discards a write. -/
theorem State.fieldWrite_other (h : row.acc ≠ .rw) (h' : row.acc ≠ .rwl) : (s.fieldWrite r i locked v row).2 = false := by
  unfold State.fieldWrite
  obtain e | e := accOf_eq_or_ro r i row
  · rw [e]
    cases ha : row.acc with
    | rw => exact absurd ha h
    | rwl => exact absurd ha h'
    | _ => rfl
  · rw [e]

end

/-! The whole register. -/

section
variable (s : State) (r : Reg) (i x : Nat) (v : Word)

theorem State.storeFields_eq :
    s.storeFields r i v x =
      let f := s.fieldWrite r i (s.lockedReg r i || locksItself r v) v
      let t := s.setWord r i (putRows (fun row => (f row).1) r.rows (s.word r i))
      if r.rows.any (fun row => (f row).2) then t.discard x else t := by
  unfold State.storeFields
  simp only [foldl_rows_eq, Bool.false_or]

theorem State.bits_storeFields (row : FieldRow) (hm : row ∈ r.rows) :
    bits ((s.storeFields r i v x).word r i) row.lo row.w =
      (s.fieldWrite r i (s.lockedReg r i || locksItself r v) v row).1 % 2 ^ row.w := by
  have hw : (s.storeFields r i v x).word r i =
      putRows (fun row => (s.fieldWrite r i (s.lockedReg r i || locksItself r v) v row).1) r.rows (s.word r i) := by
    rw [State.storeFields_eq]
    dsimp only
    split
    · exact State.word_setWord_same ..
    · exact State.word_setWord_same ..
  rw [hw]
  exact bits_putRows _ _ _ r.rows_pairwise row hm (r.rows_in_word row hm)

theorem State.storeFields_ces :
    (s.storeFields r i v x).ces =
      if r.rows.any (fun row => (s.fieldWrite r i (s.lockedReg r i || locksItself r v) v row).2) then (s.discard x).ces else s.ces := by
  rw [State.storeFields_eq]
  dsimp only
  split
  · rfl
  · rfl

end

/-! Writes that start nothing: every register that one of these functions names is one of the acting ones. -/

section
variable {p : Path} {r : Reg} {i set : Nat} {v : Word} {s st : State} (h : r ∉ Reg.acting)
include h

theorem writeBnd_of_not_acting : writeBnd p r i v set s st = st := by
  unfold writeBnd
  split <;> simp_all [Reg.acting]

theorem writeHome_of_not_acting : writeHome p r i v set s st = st := by
  unfold writeHome
  split <;> simp_all [Reg.acting]

theorem writePath_of_not_acting : writePath p r i v set s st = st := by
  unfold writePath
  split <;> simp_all [Reg.acting]

theorem writeWork_of_not_acting : writeWork p r i v set s st = st := by
  unfold writeWork
  split <;> simp_all [Reg.acting]

theorem writeKeeper_of_not_acting : writeKeeper p r i v set s st = st := by
  unfold writeKeeper
  split <;> simp_all [Reg.acting]

theorem writeEffect_of_not_acting : writeEffect p r i v set s st = st := by
  simp only [writeEffect, writeBnd_of_not_acting h, writeHome_of_not_acting h, writePath_of_not_acting h,
    writeWork_of_not_acting h, writeKeeper_of_not_acting h]

theorem writeReg_of_not_acting : writeReg p r i v set s = s.storeFields r i v set := by
  unfold writeReg
  split <;> simp_all [Reg.acting, writeEffect_of_not_acting]

end

/-- An aligned write that reaches its target is performed. -/
theorem exec_registerWrite_of_reaches {s : State} {p : Path} {a : BitVec 32} {t : Target} (d : BitVec 64)
    (h : s.writeReaches p a t) :
    exec (.registerWrite p a d 4) s = .next (writeTarget p t a.toNat (d.setWidth 32) s) := by
  obtain ⟨rfl, ha, hp, hg, hd, hw⟩ := h
  have hdebug : (p = .debug && s.debugLocked (target a.toNat) a.toNat) = false := by
    by_cases e : p = .debug
    · simp [hd e]
    · simp [e]
  change Host.Outcome.next (registerWrite p a d 4 s) = _
  simp [registerWrite, regWrite, ha, hp, hg, hw, hdebug]

/-- A register with a lock stands in no read window. -/
theorem State.noWindow_of_locked {s : State} {r : Reg} {i : Nat} (h : s.lockedReg r i = true) : s.noWindow r i = false := by
  cases hw : s.noWindow r i with
  | false => rfl
  | true =>
    simp only [State.noWindow, Bool.and_eq_true, List.contains_iff_mem, List.mem_cons, List.not_mem_nil, or_false] at hw
    obtain ⟨rfl | rfl | rfl | rfl | rfl | rfl | rfl | rfl, -⟩ := hw <;> cases h

/-- A write that reaches a register that starts nothing stores its fields. -/
theorem exec_registerWrite_stored {s : State} {p : Path} {a : BitVec 32} {r : Reg} {i : Nat} (d : BitVec 64)
    (h : s.writeReaches p a (.reg r i)) (hw : s.noWindow r i = false) (hr : r ∉ Reg.acting) :
    exec (.registerWrite p a d 4) s = .next (s.stored r i d a) := by
  rw [exec_registerWrite_of_reaches d h]
  simp only [writeTarget, hw, writeReg_of_not_acting hr, Bool.false_eq_true, if_false]

/-- Settles O59, from what a write leaves in one field and counts. -/
theorem lockedFields : Obligations.LockedFields := by
  unfold Obligations.LockedFields
  refine ⟨fun s r i x v row hm ha hl => ?_, fun s r i x v _ hall => ?_, fun s p a d r i hreach hl hr => ?_⟩
  · have hf := s.fieldWrite_locked r i v row (accOf_rwl r i row hm ha)
    rw [← hl] at hf
    refine ⟨?_, fun hne => ?_⟩
    · rw [s.bits_storeFields r i x v row hm, hf]
      exact Nat.mod_eq_of_lt (bits_lt _ _ _)
    · rw [s.storeFields_ces, if_pos]
      exact List.any_eq_true.2 ⟨row, hm, by simp [hf, hne]⟩
  · have hnone : ∀ row ∈ r.rows, (s.fieldWrite r i (s.lockedReg r i || locksItself r v) v row).2 = false := by
      intro row hm
      have hrow := List.all_eq_true.1 hall row hm
      simp only [Bool.or_eq_true, Bool.and_eq_true, bne_iff_ne, beq_iff_eq] at hrow
      obtain ⟨hrwl, hrw⟩ | hv := hrow
      · exact s.fieldWrite_other r i _ v row hrw hrwl
      · exact s.fieldWrite_held r i _ v row hv
    rw [s.storeFields_ces, if_neg]
    simpa using hnone
  · exact exec_registerWrite_stored d hreach (State.noWindow_of_locked hl) hr

end Sys2Proof.Machine
end

section
/-! SUPPORT. What recording an occurrence does, said once: what `note` may change, the bit it sets, and the fatal outputs (R41, R42,
R460–R474). -/
namespace Sys2Proof.Machine
open Sys2Proof

/-! Changes of register words alone. -/

theorem onlyRegs.trans {s t u : State} (h : onlyRegs s t) (g : onlyRegs t u) : onlyRegs s u :=
  (congrArg (fun x : State => { x with regs := s.regs }) g).trans h

theorem onlyRegs.ces {s t : State} (h : onlyRegs s t) : t.ces = s.ces := (congrArg (fun x : State => x.ces) h :)
theorem onlyRegs.fatal {s t : State} (h : onlyRegs s t) : t.fatal = s.fatal := (congrArg (fun x : State => x.fatal) h :)
theorem onlyRegs.flt {s t : State} (h : onlyRegs s t) : t.flt = s.flt := (congrArg (fun x : State => x.flt) h :)
theorem onlyRegs.swc {s t : State} (h : onlyRegs s t) : t.swc = s.swc := (congrArg (fun x : State => x.swc) h :)

theorem onlyRegs.foldl {β : Type} (l : List β) (f : State → β → State) (h : ∀ s b, onlyRegs s (f s b)) (s : State) :
    onlyRegs s (l.foldl f s) := by
  induction l generalizing s with
  | nil => rfl
  | cons b l ih => exact (h s b).trans (ih _)

theorem State.portsIdle_onlyRegs (s : State) (ps : List Nat) : onlyRegs s (s.portsIdle ps) := by
  refine .foldl _ _ (fun s p => ?_) s
  rfl

theorem State.slotsOff_onlyRegs (s : State) : onlyRegs s s.slotsOff := by
  refine .foldl _ _ (fun s c => ?_) s
  rfl

/-! Fields apart from each other. -/

theorem State.word_congr_ix (s : State) (r : Reg) {i j : Nat} (h : i % 2 ^ 24 = j % 2 ^ 24) : s.word r i = s.word r j := by
  simp only [State.word, resetWord, regKey, h]

theorem State.setWord_congr_ix (s : State) (r : Reg) (v : Word) {i j : Nat} (h : i % 2 ^ 24 = j % 2 ^ 24) :
    s.setWord r i v = s.setWord r j v := by
  simp only [State.setWord, resetWord, regKey, h]

/-- Two fields of different registers, or of different bits of one register. -/
def Fld.apart (f g : Fld) : Bool := f.reg != g.reg || decide (f.lo + f.w ≤ g.lo) || decide (g.lo + g.w ≤ f.lo)

/-- Setting a field leaves every field apart from it alone, at every index. -/
theorem State.get_set_apart (s : State) {f g : Fld} {i j : Nat} (v : Nat) (h : f.apart g = true) :
    (s.set f i v).get g j = s.get g j := by
  by_cases hr : g.reg = f.reg
  · by_cases hi : i % 2 ^ 24 = j % 2 ^ 24
    · have hw : f.lo + f.w ≤ g.lo ∨ g.lo + g.w ≤ f.lo := by simpa [Fld.apart, hr] using h
      have hset : s.set f i v = s.set f j v := by
        rw [State.set, State.set, s.setWord_congr_ix _ _ hi, s.word_congr_ix _ hi]
      rw [hset, s.get_set_field v hr hw]
    · exact s.get_set_ix v hi
  · exact s.get_set_reg v hr

/-- A field set to 0 reads 0 wherever it read 0. -/
theorem State.get_set_zero (s : State) {f : Fld} {i j : Nat} (hw : f.lo + f.w ≤ 32) (h : s.get f j = 0) : (s.set f i 0).get f j = 0 := by
  by_cases hi : i % 2 ^ 24 = j % 2 ^ 24
  · rw [State.get, ← State.word_congr_ix _ _ hi, ← State.get, s.get_set_same _ _ hw, Nat.zero_mod]
  · rw [s.get_set_ix 0 hi, h]

theorem State.flag_set_apart (s : State) {f g : Fld} {i j : Nat} (v : Nat) (h : f.apart g = true) :
    (s.set f i v).flag g j = s.flag g j := by
  rw [State.flag, State.flag, s.get_set_apart v h]

/-! A region's state. -/

theorem State.rgn_eq_of_word {s t : State} (h : t.word .CHIP_RGN_STS 0 = s.word .CHIP_RGN_STS 0) (q : Nat) : t.rgn q = s.rgn q := by
  simp only [State.rgn, State.get, h]

theorem State.rgn_set (s : State) {f : Fld} {i : Nat} (v q : Nat) (h : Reg.CHIP_RGN_STS ≠ f.reg) : (s.set f i v).rgn q = s.rgn q :=
  State.rgn_eq_of_word (s.word_set_reg v h) q

/-- The bits of a region after its register was set. -/
theorem State.rgn_setRgn (s : State) (r v q : Nat) :
    (s.setRgn r v).rgn q = bits (putBits (BitVec.ofNat 8 (s.get CHIP_RGN_STS.STATE 0)) (2 * r) 2 v) (2 * q) 2 := by
  have hlt : (putBits (BitVec.ofNat 8 (s.get CHIP_RGN_STS.STATE 0)) (2 * r) 2 v).toNat < 2 ^ 8 := BitVec.isLt _
  rw [State.rgn, State.setRgn, s.get_set_same _ _ (by decide), Nat.mod_eq_of_lt hlt, BitVec.ofNat_toNat, BitVec.setWidth_eq]

theorem State.rgn_setRgn_same (s : State) {r v : Nat} (hr : r < 4) (hv : v < 4) : (s.setRgn r v).rgn r = v := by
  rw [s.rgn_setRgn, bits_putBits_same _ _ _ _ (by omega)]
  omega

theorem State.rgn_setRgn_ne (s : State) {r v q : Nat} (h : q ≠ r) : (s.setRgn r v).rgn q = s.rgn q := by
  rw [s.rgn_setRgn, bits_putBits_ne _ _ _ _ _ _ (by omega)]
  rfl

/-! Common error sets. -/

@[simp] theorem State.cesSet_setCes_same (s : State) (k : Nat) (c : CesSet) : (s.setCes k c).cesSet k = c := by
  simp [State.cesSet, State.setCes]

theorem State.cesSet_setCes_ne (s : State) {k j : Nat} (c : CesSet) (h : j ≠ k) : (s.setCes k c).cesSet j = s.cesSet j :=
  Tab.get_put_ne _ _ _ _ _ _ h

theorem State.stsBit_of_ces {s t : State} (h : t.ces = s.ces) (x e : Nat) : t.stsBit x e ↔ s.stsBit x e := by
  simp only [State.stsBit, State.cesSet, h]

/-! What a note may change. -/

/-- The registers that a note may write: loss counts and overflow bits (R481, R483, R491). -/
def noteRegs : List Reg := [.ARC_LOST, .ARC_FRZ_LOSS, .PMC_CFG]

/-- A state without what a note changes. -/
def State.unnoted (s : State) : State := { s with regs := [], ces := [], out := [], i3c := {}, arc := {} }

/-- A change that a note may make: no bit of STS is lost by it. -/
structure Noted (s t : State) : Prop where
  unnoted : t.unnoted = s.unnoted
  word : ∀ r i, r ∉ noteRegs → t.word r i = s.word r i
  sts : ∀ x e, s.stsBit x e → t.stsBit x e

theorem Noted.refl (s : State) : Noted s s := ⟨rfl, fun _ _ _ => rfl, fun _ _ h => h⟩

theorem Noted.trans {s t u : State} (h : Noted s t) (g : Noted t u) : Noted s u where
  unnoted := g.unnoted.trans h.unnoted
  word r i hr := (g.word r i hr).trans (h.word r i hr)
  sts x e hs := g.sts x e (h.sts x e hs)

theorem Noted.of_same {s t : State} (hu : t.unnoted = s.unnoted) (hr : t.regs = s.regs) (hc : t.ces = s.ces) : Noted s t where
  unnoted := hu
  word r i _ := by simp only [State.word, hr]
  sts x e := (State.stsBit_of_ces hc x e).2

theorem Noted.ite {s a b : State} {c : Prop} [Decidable c] (ha : Noted s a) (hb : Noted s b) : Noted s (if c then a else b) := by
  split
  · exact ha
  · exact hb

theorem Noted.ite_fst {s : State} {a b : State × Bool} {c : Prop} [Decidable c] (ha : Noted s a.1) (hb : Noted s b.1) :
    Noted s (if c then a else b).1 := by
  split
  · exact ha
  · exact hb

theorem Noted.foldl {β : Type} (l : List β) (f : State → β → State) (h : ∀ s b, Noted s (f s b)) (s : State) : Noted s (l.foldl f s) := by
  induction l generalizing s with
  | nil => exact .refl s
  | cons b l ih => exact (h s b).trans (ih _)

theorem Noted.set (s : State) (f : Fld) (i v : Nat) (h : f.reg ∈ noteRegs) : Noted s (s.set f i v) where
  unnoted := rfl
  word _ _ hr := s.word_set_reg v (fun e => hr (e ▸ h))
  sts _ _ := id

theorem Noted.arc (s : State) (x : ArcState) : Noted s { s with arc := x } := .of_same rfl rfl rfl

theorem Noted.emit (s : State) (m : Msg) : Noted s (s.emit m) := .of_same rfl rfl rfl

theorem Noted.setCes (s : State) {k : Nat} {c : CesSet} (h : ∀ e, s.stsBit k e → c.sts.getLsbD e = true) : Noted s (s.setCes k c) where
  unnoted := rfl
  word _ _ _ := rfl
  sts x e hs := by
    by_cases hx : x = k
    · subst hx
      rw [State.stsBit, State.cesSet_setCes_same]
      exact h e hs
    · rwa [State.stsBit, s.cesSet_setCes_ne c hx]

theorem Noted.ibiPend (s : State) (k : Nat) : Noted s (s.ibiPend k) :=
  .ite (.of_same rfl rfl rfl) (.refl s)

theorem Noted.interrupt (s : State) (k : Nat) : Noted s (s.interrupt k) := by
  unfold State.interrupt
  extract_lets c s1
  have hset {d : CesSet} (hd : d.sts = c.sts) : Noted s (s.setCes k d) := .setCes s fun _ h => by rw [hd]; exact h
  have h1 : Noted s s1 := .ite (.ite (hset rfl) ((hset (d := { c with window := true }) rfl).trans (.emit ..))) (.refl s)
  exact .ite (h1.trans (.ibiPend ..)) h1

theorem Noted.coreIrq (s : State) (o : Occ) (f : Bool) : Noted s (s.coreIrq o f) := by
  unfold State.coreIrq
  extract_lets u s1
  have h1 : Noted s s1 := .ite (.emit ..) (.refl s)
  exact .ite (h1.trans (.emit ..)) h1

theorem Noted.addCounter (fuel : Nat) (s : State) (n k : Nat) : Noted s (s.addCounter fuel n k) := by
  induction fuel generalizing s n k with
  | zero =>
    unfold State.addCounter
    exact .ite (.arc ..) (.ite (.arc ..) ((Noted.arc s _).trans (.set _ PMC_CFG.OVF _ _ (by decide))))
  | succ f ih =>
    unfold State.addCounter
    exact .ite (.arc ..) (.ite ((Noted.arc s _).trans (ih ..)) ((Noted.arc s _).trans (.set _ PMC_CFG.OVF _ _ (by decide))))

theorem Noted.countChip (s : State) (e q k : Nat) : Noted s (s.countChip e q k) :=
  .foldl _ _ (fun _ _ => .addCounter ..) s

theorem Noted.count (s : State) (r e q k : Nat) : Noted s (s.count r e q k) :=
  .ite (.refl s) (.foldl _ _ (fun _ _ => .addCounter ..) s)

theorem Noted.frozenLoss (s : State) (u : Nat) : Noted s (s.frozenLoss u) :=
  (Noted.set s ARC_FRZ_LOSS.LOSS u _ (by decide)).trans (.arc ..)

theorem Noted.stageRecord (s : State) (u : Nat) (x : BitVec 256) : Noted s (s.stageRecord u x).1 :=
  .ite_fst (.arc ..) ((Noted.set s ARC_LOST.STAGE_LOST u _ (by decide)).trans (.arc ..))

theorem Noted.event (s : State) (u code origin kind scope tiller arg0 arg1 : Nat) :
    Noted s (s.event u code origin kind scope tiller arg0 arg1).1 :=
  .ite_fst (.refl s) (.ite_fst (.frozenLoss ..) (.ite_fst (.ite_fst ((Noted.arc s _).trans (.stageRecord ..)) (.arc ..))
    ((Noted.arc s _).trans (.countChip ..))))

/-- The set with the bit of an occurrence, before its messages and its event. -/
theorem Noted.bit_set (s : State) (o : Occ) {c : CesSet} (h : c.sts = (s.cesSet o.set).sts ||| BitVec.ofNat 32 (2 ^ (o.bit % 32))) :
    Noted s (s.setCes o.set c) :=
  .setCes s fun e he => by
    have he' : (s.cesSet o.set).sts.getLsbD e = true := he
    simp [h, he']

theorem Noted.note (s : State) (o : Occ) : Noted s (s.note o).1 := by
  unfold State.note
  extract_lets u c fresh captured c1 s1 s2 s3
  have h1 : Noted s s1 := .bit_set s o rfl
  have h3 : Noted s s3 := (Noted.ite (h1.trans (.interrupt ..)) h1).trans (.coreIrq ..)
  exact .ite_fst (.refl s) (.ite_fst h3 (h3.trans (.event ..)))

theorem Noted.archive (s : State) (u code kind scope arg0 arg1 origin : Nat) :
    Noted s (s.archive u code kind scope arg0 arg1 origin) :=
  .ite ((Noted.event ..).trans (.note ..)) (.event ..)

/-- Where the region still records, a note sets the bit of the occurrence (R460, R544). -/
theorem State.note_stsBit (s : State) (o : Occ) (hb : o.bit < 32) (hw : s.windowGone (setUnit o.set) = false) :
    (s.note o).1.stsBit o.set o.bit := by
  unfold State.note
  rw [if_neg (by simpa [State.windowGone] using hw)]
  extract_lets c fresh captured c1 s1 s2 s3
  have h1 : s1.stsBit o.set o.bit := by
    simp only [s1, c1, State.stsBit, State.cesSet_setCes_same, Nat.mod_eq_of_lt hb, BitVec.getLsbD_or, BitVec.getLsbD_ofNat,
      hb, Nat.testBit_two_pow_self, decide_true, Bool.and_self, Bool.or_true]
  have h3 : Noted s1 s3 := (Noted.ite (.interrupt ..) (.refl s1)).trans (.coreIrq ..)
  have h : Noted s1 (if setUnit o.set < 4 && setBlock o.set = 3 && o.bit = 0 then (s3, false)
      else s3.event (setUnit o.set) o.code (if setUnit o.set < 4 then 0 else 3) o.kind o.scope 0 o.first o.arg1).1 :=
    .ite_fst h3 (h3.trans (.event ..))
  exact h.sts _ _ h1

/-! The fatal outputs. -/

@[simp] theorem State.askCopy_fatal (s : State) (a b c d : Nat) : (s.askCopy a b c d).fatal = s.fatal := by
  unfold State.askCopy
  split <;> rfl

@[simp] theorem State.askCopy_ces (s : State) (a b c d : Nat) : (s.askCopy a b c d).ces = s.ces := by
  unfold State.askCopy
  split <;> rfl

@[simp] theorem State.askCopy_pins (s : State) (a b c d : Nat) : (s.askCopy a b c d).flt.pins = s.flt.pins := by
  unfold State.askCopy
  split <;> rfl

@[simp] theorem State.rgn_askCopy (s : State) (a b c d q : Nat) : (s.askCopy a b c d).rgn q = s.rgn q := by
  unfold State.askCopy
  split
  · exact s.rgn_set _ _ (by decide)
  · rfl

/-- What CHIP_FATAL starts from: FAULT at (0,1), every port and slot stopped (R472). -/
def State.stopped (s : State) : State :=
  let s1 := if s.flag KPR_STS.FLUSHING 0 then
      s.flushEnds (s.get KPR_PD_STS.FLUSH_MS 0) 3 (s.dirtyBlocks (fun _ => true)) else s
  (({ s1 with fatal := true, flt := { s1.flt with pins := 1 } }.set KPR_STS.CHIP_FATAL 0 1).portsIdle (List.range 64)).slotsOff

theorem State.stopped_onlyRegs (s : State) : onlyRegs { s with fatal := true, flt := { s.flt with pins := 1 } } s.stopped := by
  unfold State.stopped
  extract_lets _ s1
  have h1 : onlyRegs s s1 := by
    unfold s1
    split <;> rfl
  have h2 := congrArg (fun x : State => { x with fatal := true, flt := { x.flt with pins := 1 } }) h1
  exact onlyRegs.trans h2 ((State.portsIdle_onlyRegs _ _).trans (State.slotsOff_onlyRegs _))

theorem State.stopped_fatal (s : State) : s.stopped.fatal = true := s.stopped_onlyRegs.fatal
theorem State.stopped_pins (s : State) : s.stopped.flt.pins = 1 := by rw [s.stopped_onlyRegs.flt]
theorem State.stopped_ces (s : State) : s.stopped.ces = s.ces := s.stopped_onlyRegs.ces

/-- A property that asking for copies leaves alone holds of CHIP_FATAL where it holds of what CHIP_FATAL starts from. -/
theorem State.chipFatal_of_stopped {P : State → Prop} (s : State) (block bit : Nat) (hf : s.fatal = false) (h : P s.stopped)
    (hask : ∀ t a b c d, P t → P (State.askCopy t a b c d)) : P (s.chipFatal block bit) := by
  unfold State.chipFatal
  rw [if_neg (by simp [hf])]
  refine List.foldlRecOn (motive := P) _ _ (hask _ _ _ _ _ h) fun t ht r _ => ?_
  split
  · exact ht
  · exact hask _ _ _ _ _ ht

theorem State.chipFatal_fatal (s : State) (block bit : Nat) : (s.chipFatal block bit).fatal = true := by
  by_cases hf : s.fatal = true
  · rw [State.chipFatal, if_pos hf, State.askCopy_fatal, hf]
  · exact s.chipFatal_of_stopped (P := fun t => t.fatal = true) _ _ (Bool.eq_false_iff.2 hf) s.stopped_fatal
      fun t _ _ _ _ ht => by rw [State.askCopy_fatal, ht]

theorem State.chipFatal_pins (s : State) (block bit : Nat) (hf : s.fatal = false) : (s.chipFatal block bit).flt.pins = 1 :=
  s.chipFatal_of_stopped (P := fun t => t.flt.pins = 1) _ _ hf s.stopped_pins
    fun t _ _ _ _ ht => by rw [State.askCopy_pins, ht]

theorem State.chipFatal_ces (s : State) (block bit : Nat) : (s.chipFatal block bit).ces = s.ces := by
  by_cases hf : s.fatal = true
  · rw [State.chipFatal, if_pos hf, State.askCopy_ces]
  · exact s.chipFatal_of_stopped (P := fun t => t.ces = s.ces) _ _ (Bool.eq_false_iff.2 hf) s.stopped_ces
      fun t _ _ _ _ ht => by rw [State.askCopy_ces, ht]

theorem State.regionFatal_ces (s : State) (r block bit : Nat) : (s.regionFatal r block bit).ces = s.ces := by
  unfold State.regionFatal
  split
  · exact s.askCopy_ces ..
  split
  · rfl
  split
  · extract_lets s1 _ s2
    have h2 : s2.ces = s.ces := by
      unfold s2
      split <;> rfl
    rw [State.askCopy_ces, h2]
  · exact s.chipFatal_ces ..

/-- REGION_FATAL in a running region while another runs: isolation begins in it, and in no other (R41, R42). -/
theorem State.regionFatal_isolates (s : State) {r : Nat} (block bit : Nat) (hf : s.fatal = false) (hr : r < 4) (h0 : s.rgn r = 0)
    (ho : [0, 1, 2, 3].any (fun q => q != r && s.rgn q == 0) = true) :
    (s.regionFatal r block bit).rgn r = 1 ∧ (∀ q, q ≠ r → (s.regionFatal r block bit).rgn q = s.rgn q) ∧
      (s.regionFatal r block bit).fatal = false := by
  unfold State.regionFatal
  rw [if_neg (by simp [hf]), if_neg (by simp [h0]), if_pos ho]
  extract_lets s1 _ s2
  have hrgn (q : Nat) : (s2.askCopy r 3 block bit).rgn q = (s.setRgn r 1).rgn q := by
    have h1 : s1.rgn q = (s.setRgn r 1).rgn q := by
      unfold s1
      rw [State.rgn_set _ _ _ (by decide), State.rgn_set _ _ _ (by decide)]
    have h2 : s2.rgn q = s1.rgn q := by
      unfold s2
      split <;> rfl
    rw [State.rgn_askCopy, h2, h1]
  refine ⟨?_, fun q hq => ?_, ?_⟩
  · rw [hrgn, s.rgn_setRgn_same hr (by decide)]
  · rw [hrgn, s.rgn_setRgn_ne hq]
  · have h2 : s2.fatal = s.fatal := by
      unfold s2
      split <;> rfl
    rw [State.askCopy_fatal, h2, hf]

/-! Recording an occurrence. -/

/-- The note of an occurrence, with that of a staging overrun where it causes one (R460, R483). -/
def State.noted (s : State) (o : Occ) : State :=
  if (s.note o).2 then ((s.note o).1.note (occ (arcSet (setUnit o.set)) 4 0 (setUnit o.set))).1 else (s.note o).1

theorem Noted.noted (s : State) (o : Occ) : Noted s (s.noted o) :=
  .ite ((Noted.note s o).trans (.note ..)) (.note ..)

theorem State.noted_stsBit (s : State) (o : Occ) (hb : o.bit < 32) (hw : s.windowGone (setUnit o.set) = false) :
    (s.noted o).stsBit o.set o.bit := by
  have h : (s.note o).1.stsBit o.set o.bit := s.note_stsBit o hb hw
  unfold State.noted
  split
  · exact (Noted.note _ _).sts _ _ h
  · exact h

/-- An occurrence is noted, and then its class acts (R41, R460). -/
theorem State.record_eq (s : State) (o : Occ) : s.record o =
    if o.cls = 3 then (s.noted o).regionFatal o.region (if setUnit o.set < 4 then setBlock o.set else 15) o.bit
    else if o.cls = 4 then (s.noted o).chipFatal (setBlock o.set) o.bit
    else if o.cls = 2 && o.kind = 0 then (s.noted o).selfReset o.set
    else s.noted o := rfl

/-- An occurrence that is only corrected or deferred is noted. -/
theorem State.record_of_mild (s : State) (o : Occ) (h : o.cls < 2) : s.record o = s.noted o := by
  rw [State.record_eq, if_neg (by omega), if_neg (by omega), if_neg (by simp; omega)]

theorem State.record_ces (s : State) (o : Occ) : (s.record o).ces = (s.noted o).ces := by
  rw [State.record_eq]
  split
  · exact State.regionFatal_ces ..
  split
  · exact State.chipFatal_ces ..
  split <;> rfl

/-- Recording sets the bit of the occurrence where the region still records (R460, R544). -/
theorem State.record_stsBit (s : State) (o : Occ) (hb : o.bit < 32) (hw : s.windowGone (setUnit o.set) = false) :
    (s.record o).stsBit o.set o.bit :=
  (State.stsBit_of_ces (s.record_ces o) _ _).2 (s.noted_stsBit o hb hw)

theorem Noted.flt {s t : State} (h : Noted s t) : t.flt = s.flt := (congrArg (fun x : State => x.flt) h.unnoted :)
theorem Noted.fatal {s t : State} (h : Noted s t) : t.fatal = s.fatal := (congrArg (fun x : State => x.fatal) h.unnoted :)
theorem Noted.rgn {s t : State} (h : Noted s t) (q : Nat) : t.rgn q = s.rgn q :=
  State.rgn_eq_of_word (h.word _ _ (by decide)) q

/-- An occurrence of class REGION_FATAL in a running region while another runs. -/
theorem State.record_isolates (s : State) (o : Occ) (hc : o.cls = 3) (hf : s.fatal = false) (hr : o.region < 4)
    (h0 : s.rgn o.region = 0) (ho : [0, 1, 2, 3].any (fun q => q != o.region && s.rgn q == 0) = true) :
    (s.record o).rgn o.region = 1 ∧ (∀ q, q ≠ o.region → (s.record o).rgn q = s.rgn q) ∧ (s.record o).fatal = false := by
  have hn := Noted.noted s o
  rw [State.record_eq, if_pos hc]
  obtain ⟨h1, hq, hfatal⟩ := (s.noted o).regionFatal_isolates (r := o.region) (if setUnit o.set < 4 then setBlock o.set else 15) o.bit
    (hn.fatal.trans hf) hr ((hn.rgn _).trans h0) (by simpa only [hn.rgn] using ho)
  exact ⟨h1, fun q hne => (hq q hne).trans (hn.rgn q), hfatal⟩

theorem State.record_swc (s : State) (o : Occ) : (s.record o).swc = s.swc := (congrArg (fun x : State => x.swc) (Reports.record s o).quiet :)

end Sys2Proof.Machine
end

section
/-! SUPPORT. The paths of the spine: what sending, receiving and resequencing a cell leave, and what a failed path does (R33, R34,
R199–R209). -/
namespace Sys2Proof.Machine
open Sys2Proof

/-! What counting and the modes of pairs leave alone. -/

theorem State.count_swc (s : State) (r e q k : Nat) : (s.count r e q k).swc = s.swc :=
  (congrArg (fun x : State => x.swc) (Reports.count s r e q k).quiet :)

theorem State.setSpray_onlyRegs (s : State) (a b v : Nat) : onlyRegs s (s.setSpray a b v) := by
  unfold State.setSpray
  extract_lets m s1 on
  have h1 : onlyRegs s s1 := rfl
  refine h1.trans (.foldl _ _ (fun t i => ?_) s1)
  rfl

theorem State.word_sw (s : State) (f : SwcState → SwcState) (r : Reg) (x : Nat) : (s.sw f).word r x = s.word r x := rfl
theorem State.sw_ces (s : State) (f : SwcState → SwcState) : (s.sw f).ces = s.ces := rfl

@[simp] theorem State.setSpray_swc (s : State) (a b v : Nat) : (s.setSpray a b v).swc = s.swc := (s.setSpray_onlyRegs a b v).swc

/-- Besides the modes and paths of a region nothing but the resequencers' ACTIVE is set. -/
theorem State.word_setSpray (s : State) (a b v x : Nat) :
    (s.setSpray a b v).word .SWC_SPN_STS x =
      (s.set SWC_SPN_STS.MODE a (s.get SWC_SPN_STS.MODE a - s.spray a b * 4 ^ b + v * 4 ^ b)).word .SWC_SPN_STS x := by
  unfold State.setSpray
  extract_lets m s1 on
  exact List.foldlRecOn (motive := fun t : State => t.word .SWC_SPN_STS x = s1.word .SWC_SPN_STS x) _ _ rfl
    fun t ht i _ => (t.word_set_reg _ (by decide)).trans ht

theorem State.spray_eq_of_word {s t : State} {a : Nat} (h : t.word .SWC_SPN_STS a = s.word .SWC_SPN_STS a) (b : Nat) :
    t.spray a b = s.spray a b := by
  simp only [State.spray, State.get, h]

theorem State.pathUp_eq_of_word {s t : State} {a : Nat} (h : t.word .SWC_SPN_STS a = s.word .SWC_SPN_STS a) (b k : Nat) :
    t.pathUp a b k = s.pathUp a b k := by
  simp only [State.pathUp, State.get, h]

theorem State.spray_setSpray_same (s : State) {a b v : Nat} (hb : b < 4) (hv : v < 4) : (s.setSpray a b v).spray a b = v := by
  have hm : s.get SWC_SPN_STS.MODE a < 2 ^ 8 := s.get_lt ..
  rw [State.spray_eq_of_word (s.word_setSpray a b v a), State.spray, s.get_set_same _ _ (by decide), State.spray]
  generalize s.get SWC_SPN_STS.MODE a = m at hm ⊢
  interval_cases b <;> simp only <;> omega

theorem State.spray_setSpray_ne (s : State) {a b v x : Nat} (y : Nat) (h : a % 2 ^ 24 ≠ x % 2 ^ 24) :
    (s.setSpray a b v).spray x y = s.spray x y :=
  State.spray_eq_of_word ((s.word_setSpray a b v x).trans (s.word_set_ix _ h)) y

theorem State.pathUp_setSpray (s : State) (a b v x y k : Nat) : (s.setSpray a b v).pathUp x y k = s.pathUp x y k := by
  rw [State.pathUp_eq_of_word (s.word_setSpray a b v x), State.pathUp, s.get_set_apart _ (by decide)]
  rfl

/-! The paths of a region. -/

/-- A field has no bit at or above its width. -/
theorem State.testBit_get_lt (s : State) {f : Fld} {i n : Nat} (h : (s.get f i).testBit n = true) : n < f.w := by
  by_contra hge
  rw [Nat.testBit_lt_two_pow (lt_of_lt_of_le (s.get_lt f i) (Nat.pow_le_pow_right (by decide) (by omega)))] at h
  cases h

/-- Bits set in a field join those that stand. -/
theorem State.testBit_setBits (s : State) {f : Fld} (i m n : Nat) (h : f.lo + f.w ≤ 32) :
    ((s.setBits f i m).get f i).testBit n = ((s.get f i).testBit n || (decide (n < f.w) && m.testBit n)) := by
  rw [State.setBits, s.get_set_same _ _ h, Nat.testBit_mod_two_pow, Nat.testBit_or]
  cases ht : (s.get f i).testBit n
  · simp
  · simp [s.testBit_get_lt ht]

/-- A path is marked failed. -/
theorem State.pathUp_failed (s : State) {a b k : Nat} (h : 2 * b + k < 8) :
    (s.setBits SWC_SPN_STS.PATH_FAIL a (2 ^ (2 * b + k))).pathUp a b k = false := by
  simp only [State.pathUp, s.testBit_setBits _ _ _ (show SWC_SPN_STS.PATH_FAIL.lo + SWC_SPN_STS.PATH_FAIL.w ≤ 32 by decide), h,
    Nat.testBit_two_pow_self, decide_true, Bool.and_self, Bool.or_true, Bool.not_true]

/-- Marking one path failed leaves every other path as it stands. -/
theorem State.pathUp_setBits_ne (s : State) {a n x b k : Nat} (h : a % 2 ^ 24 ≠ x % 2 ^ 24 ∨ a = x ∧ n ≠ 2 * b + k) :
    (s.setBits SWC_SPN_STS.PATH_FAIL a (2 ^ n)).pathUp x b k = s.pathUp x b k := by
  obtain hx | ⟨rfl, hn⟩ := h
  · exact State.pathUp_eq_of_word (s.word_set_ix _ hx) b k
  · rw [State.pathUp, s.testBit_setBits _ _ _ (by decide), Nat.testBit_two_pow_of_ne hn, Bool.and_false, Bool.or_false]
    rfl

theorem State.spray_setBits (s : State) (a m x b : Nat) : (s.setBits SWC_SPN_STS.PATH_FAIL a m).spray x b = s.spray x b := by
  rw [State.spray, State.setBits, s.get_set_apart _ (by decide)]
  rfl

/-! Cells on their way. -/

/-- A cell that is sent stands last in its replay buffer and on its way, a new one with the next number of its flow. -/
theorem sendOn_swc (s : State) (a b k : Nat) (c : Cell) (again : Bool) :
    (sendOn s a b k c again).swc =
      let n := Tab.get 0 s.swc.txseq c.flow
      let c1 := if again then c else { c with seq := n }
      { s.swc with
        txseq := if again then s.swc.txseq else Tab.put 0 s.swc.txseq c.flow ((n + 1) % 2 ^ 16)
        replay := Tab.put [] s.swc.replay (pathKey a b k) (Tab.get [] s.swc.replay (pathKey a b k) ++ [(c1, again)])
        flight := Tab.put [] s.swc.flight (pathKey a b k) (Tab.get [] s.swc.flight (pathKey a b k) ++ [some c1]) } := by
  unfold sendOn
  extract_lets n c1 s1
  rw [State.count_swc]
  cases again <;> rfl

/-- One sent again is counted (R208). -/
theorem sendOn_resent (s : State) (a b k : Nat) (c : Cell) :
    (sendOn s a b k c true).get SWC_SPN_STS.RESENT a = satAdd SWC_SPN_STS.RESENT.w (s.get SWC_SPN_STS.RESENT a) 1 := by
  unfold sendOn
  extract_lets n c1 s1
  rw [(Reports.count ..).get _ _ (by decide)]
  change (s.set SWC_SPN_STS.RESENT a _).get SWC_SPN_STS.RESENT a = _
  rw [s.get_set_same _ _ (by decide)]
  exact Nat.mod_eq_of_lt (by simp only [satAdd, SWC_SPN_STS.RESENT]; omega)

theorem presented_nil (now : Nat) : presented now [] = none := rfl

theorem State.zwlQueue_swc (s : State) (c : Cell) : (s.zwlQueue c).swc = s.swc := by
  unfold State.zwlQueue
  split <;> rfl

/-- A cell for an output in service enters its merge stage (R186, R192). -/
theorem State.toMerge_swc (s : State) (input : Nat) (c : Cell) (hi : c.item = none) (hs : s.inService c.out = true) :
    (s.toMerge input c).swc = { s.swc with
      merge := Tab.put [] s.swc.merge (8 * c.out + input) (Tab.get [] s.swc.merge (8 * c.out + input) ++ [c]) } := by
  simp only [State.toMerge, hi, hs, if_true, State.mergePut, State.sw, State.zwlQueue_swc]

theorem State.exitIfDone_swc (s : State) (a b : Nat) : (s.exitIfDone a b).swc = s.swc := by
  unfold State.exitIfDone
  extract_lets marks
  split
  · exact s.setSpray_swc ..
  · rfl

theorem State.exitIfDone_of_not_exit (s : State) {a b : Nat} (h : s.spray a b ≠ 3) : s.exitIfDone a b = s := by
  simp [State.exitIfDone, h]

/-- In ORDERED service the resequencer is bypassed (R204). -/
theorem State.reseq_ordered_swc (s : State) (a b : Nat) (c : Cell) (h : s.spray a b = 0) (hi : c.item = none)
    (hs : s.inService c.out = true) :
    (s.reseq a b c).swc = { s.swc with
      rxseq := Tab.put 0 s.swc.rxseq c.flow ((c.seq + 1) % 2 ^ 16)
      skipped := Tab.put [] s.swc.skipped c.flow []
      merge := Tab.put [] s.swc.merge (8 * c.out + (1 + a)) (Tab.get [] s.swc.merge (8 * c.out + (1 + a)) ++ [c]) } := by
  unfold State.reseq
  extract_lets e expect
  rw [if_pos (by simp [h])]
  exact State.toMerge_swc _ (1 + a) c hi hs

/-- In SPRAYED service a cell ahead of its turn is held in the window (R204). -/
theorem State.reseq_ahead_swc (s : State) (a b : Nat) (c : Cell) (h : s.spray a b = 2) (hi : c.item = none)
    (hs : s.inService c.out = true) (hd : 0 < (c.seq + 65536 - Tab.get 0 s.swc.rxseq c.flow) % 65536)
    (hd' : (c.seq + 65536 - Tab.get 0 s.swc.rxseq c.flow) % 65536 < 32768) (hw : (Tab.get [] s.swc.window c.out).length < 4096)
    (hnew : (Tab.get [] s.swc.window c.out).all (fun x => !(x.flow == c.flow && x.seq == c.seq)) = true) :
    (s.reseq a b c).swc = { s.swc with window := Tab.put [] s.swc.window c.out (Tab.get [] s.swc.window c.out ++ [c]) } := by
  have hdup : (Tab.get [] s.swc.window c.out).any (fun x => x.flow == c.flow && x.seq == c.seq) = false := by
    rw [List.any_eq_not_all_not, hnew]
    rfl
  unfold State.reseq
  extract_lets e expect d
  rw [if_neg (by simp [h, hi]), if_neg (by simp only [d, e]; omega), if_pos (by simp only [d, e]; omega), if_neg (by simp [hdup]),
    if_neg (by simp [hs]), if_pos hw, State.count_swc]
  rfl

/-! A path that fails. -/

/-- The path is marked failed in both directions, and its failure is recorded (R201). -/
def State.pathMarked (s : State) (a b k : Nat) : State :=
  ((s.setBits SWC_SPN_STS.PATH_FAIL a (2 ^ (2 * b + k))).setBits SWC_SPN_STS.PATH_FAIL b (2 ^ (2 * a + k))).record
    (blockOcc (swcSet a) 4)

/-- One direction of a failed path: its pair is SPRAYED, and the cells of its replay buffer wait to be sent again (R208). -/
def State.pathTurned (s : State) (a b k : Nat) : State :=
  (s.setSpray a b 2).sw fun w =>
    { w with resend := Tab.put [] w.resend (pairKey a b)
               (Tab.get [] w.resend (pairKey a b) ++ (Tab.get [] s.swc.replay (pathKey a b k)).map (fun e => e.1))
             replay := Tab.put [] w.replay (pathKey a b k) []
             flight := Tab.put [] w.flight (pathKey a b k) []
             got := Tab.put 0 w.got (pathKey a b k) 0
             marks := Tab.put [] w.marks (pairKey a b) [] }

/-- A working path whose pair keeps its other path. -/
theorem State.pathFails_eq (s : State) {a b k : Nat} (h : s.pathUp a b k = true) (ho : (s.pathMarked a b k).pathUp a b (1 - k) = true) :
    s.pathFails a b k = ((s.pathMarked a b k).pathTurned a b k).pathTurned b a k := by
  unfold State.pathFails
  rw [if_neg (by simp [h])]
  exact if_neg (show ¬ (!(s.pathMarked a b k).pathUp a b (1 - k)) = true by simp [ho])

theorem State.word_pathMarked (s : State) (a b k x : Nat) : (s.pathMarked a b k).word .SWC_SPN_STS x =
    ((s.setBits SWC_SPN_STS.PATH_FAIL a (2 ^ (2 * b + k))).setBits SWC_SPN_STS.PATH_FAIL b (2 ^ (2 * a + k))).word .SWC_SPN_STS x :=
  (Reports.record ..).word _ _ (by decide)

theorem State.pathMarked_swc (s : State) (a b k : Nat) : (s.pathMarked a b k).swc = s.swc := State.record_swc ..

theorem State.spray_pathMarked (s : State) (a b k x y : Nat) : (s.pathMarked a b k).spray x y = s.spray x y := by
  rw [State.spray_eq_of_word (s.word_pathMarked a b k x), State.spray_setBits, State.spray_setBits]

theorem State.pathTurned_swc (s : State) (a b k : Nat) : (s.pathTurned a b k).swc = { s.swc with
    resend := Tab.put [] s.swc.resend (pairKey a b)
      (Tab.get [] s.swc.resend (pairKey a b) ++ (Tab.get [] s.swc.replay (pathKey a b k)).map (fun e => e.1))
    replay := Tab.put [] s.swc.replay (pathKey a b k) []
    flight := Tab.put [] s.swc.flight (pathKey a b k) []
    got := Tab.put 0 s.swc.got (pathKey a b k) 0
    marks := Tab.put [] s.swc.marks (pairKey a b) [] } := by
  unfold State.pathTurned State.sw
  simp only [State.setSpray_swc]

theorem State.word_pathTurned (s : State) (a b k : Nat) (r : Reg) (x : Nat) :
    (s.pathTurned a b k).word r x = (s.setSpray a b 2).word r x :=
  State.word_sw _ _ r x

theorem State.pathUp_pathTurned (s : State) (a b k x y j : Nat) : (s.pathTurned a b k).pathUp x y j = s.pathUp x y j :=
  (State.pathUp_eq_of_word (s.word_pathTurned a b k _ x) y j).trans (s.pathUp_setSpray ..)

theorem State.spray_pathTurned_same (s : State) {a b : Nat} (k : Nat) (hb : b < 4) : (s.pathTurned a b k).spray a b = 2 :=
  (State.spray_eq_of_word (s.word_pathTurned a b k _ a) b).trans (s.spray_setSpray_same hb (by decide))

theorem State.spray_pathTurned_ne (s : State) {a b x : Nat} (k y : Nat) (h : a % 2 ^ 24 ≠ x % 2 ^ 24) :
    (s.pathTurned a b k).spray x y = s.spray x y :=
  (State.spray_eq_of_word (s.word_pathTurned a b k _ x) y).trans (s.spray_setSpray_ne y h)

theorem State.pathTurned_ces (s : State) (a b k : Nat) : (s.pathTurned a b k).ces = s.ces :=
  (State.sw_ces _ _).trans (s.setSpray_onlyRegs a b 2).ces

/-! The sets of the switch core. -/

theorem setUnit_swcSet (r : Region) : setUnit (swcSet r) = r := by
  revert r
  decide

theorem State.windowGone_of_rgn {s : State} {u : Nat} (h : s.rgn u ≠ 2) : s.windowGone u = false := by
  simp [State.windowGone, h]

/-! The commands of the spine. -/

/-- What SPINE_ARBITRATION does with the request presented (R34, R201, R208). -/
theorem spineArbitration_presented {s : State} {r d : Region} {k : Fin 2} {c : Cell} {again : Bool} (hrd : r ≠ d)
    (hup : s.pathUp r d k = true) (hrgn : s.rgn r ≠ 2)
    (hp : presented (s.timeOf r) (spineRequests s r d k) = some (c, again)) :
    spineArbitration r d ⟨k, false⟩ s = sendOn (s.sw fun w =>
      if again then { w with resend := Tab.put [] w.resend (pairKey r d) ((Tab.get [] w.resend (pairKey r d)).erase c) }
      else { w with spine := Tab.put [] w.spine (pairKey r d) ((Tab.get [] w.spine (pairKey r d)).erase c) }) r d k c again := by
  have hgo : (r = d || !s.pathUp r d k || s.rgn r == 2) = false := by simp [hrd, hup, hrgn]
  cases again <;> simp [spineArbitration, hgo, hp]

/-- A path over which nothing may go, or with no request. -/
theorem spineArbitration_idle {s : State} {r d : Region} {k : Fin 2}
    (h : r = d ∨ s.pathUp r d k = false ∨ s.rgn r = 2 ∨ spineRequests s r d k = []) : spineArbitration r d ⟨k, false⟩ s = s := by
  unfold spineArbitration
  rw [if_neg Bool.false_ne_true]
  split
  · rfl
  · rename_i hgo
    have hnone : spineRequests s r d k = [] := by
      obtain h | h | h | h := h
      · simp [h] at hgo
      · simp [h] at hgo
      · simp [h] at hgo
      · exact h
    simp [hnone, presented_nil]

/-- A parity error of the scheduler is REGION_FATAL in its region (R218). -/
theorem parityOcc_fatal (r : Region) : (regionOcc r (swcSet r) 9).cls = 3 ∧ (regionOcc r (swcSet r) 9).region = r := by
  revert r
  decide

/-- The head of a path has left it, counted for the next acknowledgement (R201). -/
def State.headTaken (s : State) (i : Nat) (rest : List (Option Cell)) : State :=
  s.sw fun w =>
    { w with rx := Tab.put 0 w.rx i (Tab.get 0 s.swc.rx i + 1)
             flight := Tab.put [] w.flight i rest
             got := Tab.put 0 w.got i (Tab.get 0 w.got i + 1) }

/-- A bad cell is counted and kept in mind (R201). -/
def State.badSeen (s : State) (i : Nat) : State :=
  s.sw fun w =>
    { w with rx := Tab.put 0 w.rx i (Tab.get 0 s.swc.rx i + 1)
             crc := Tab.put [] w.crc i
               ((Tab.get [] s.swc.crc i).filter (fun m => Tab.get 0 s.swc.rx i + 1 - m < 65536) ++ [Tab.get 0 s.swc.rx i + 1]) }

/-- What the receiver has taken leaves the replay buffer (R201). -/
def State.acked (s : State) (i : Nat) : State :=
  s.sw fun w =>
    { w with replay := Tab.put [] w.replay i ((Tab.get [] w.replay i).drop (Tab.get 0 w.got i))
             got := Tab.put 0 w.got i 0 }

section
variable {s : State} {r d : Region} {k : Fin 2} {c : Cell} {rest : List (Option Cell)}
  (hf : Tab.get [] s.swc.flight (pathKey r d k) = some c :: rest)
include hf

/-- A bad cell, of fewer than sixteen bad ones, stays in flight and is recorded (R201). -/
theorem spineCellReceive_bad (hcrc : (Tab.get [] s.swc.crc (pathKey r d k)).length < 15) :
    spineCellReceive r d k false s = (s.badSeen (pathKey r d k)).record (blockOcc (swcSet d) 3) := by
  have hlen := List.length_filter_le (fun m => decide (Tab.get 0 s.swc.rx (pathKey r d k) + 1 - m < 65536))
    (Tab.get [] s.swc.crc (pathKey r d k))
  unfold spineCellReceive
  rw [hf]
  dsimp only
  rw [if_neg Bool.false_ne_true, if_neg (by rw [List.length_append, List.length_singleton]; omega)]
  rfl

/-- A good cell leaves the path for its output's resequencer (R204). -/
theorem spineCellReceive_good_swc :
    (spineCellReceive r d k true s).swc = ((s.headTaken (pathKey r d k) rest).reseq r d c).swc := by
  unfold spineCellReceive
  rw [hf]
  exact State.exitIfDone_swc ..

end

theorem spineAckReceive_eq (s : State) (r d : Region) (k : Fin 2) :
    spineAckReceive r d k s = (s.acked (pathKey r d k)).exitIfDone r d := rfl

theorem spineAckTimeout_idle {s : State} {r d : Region} {k : Fin 2} (h : r = d ∨ s.pathUp r d k = false) :
    spineAckTimeout r d k s = s := by
  unfold spineAckTimeout
  split
  · rfl
  · rename_i hrd
    simp [State.pathFails, h.resolve_left hrd]

/-- The working path of a pair with its other path fails in both directions (R201, R208). -/
theorem spineAckTimeout_fails {s : State} {r d : Region} {k : Fin 2} (hrd : r ≠ d) (hup : s.pathUp r d k = true)
    (hother : s.pathUp r d (1 - k.val) = true) :
    spineAckTimeout r d k s = ((s.pathMarked r d k).pathTurned r d k).pathTurned d r k := by
  have hne : r.val ≠ d.val := fun e => hrd (Fin.ext e)
  have hup' : (s.pathMarked r d k).pathUp r d (1 - k.val) = true := by
    rw [State.pathUp_eq_of_word (s.word_pathMarked r d k r), State.pathUp_setBits_ne _ (.inl (by omega)),
      s.pathUp_setBits_ne (.inr ⟨rfl, by omega⟩), hother]
  unfold spineAckTimeout
  rw [if_neg hrd, s.pathFails_eq hup hup']

/-- Settles O23, from what sending, resequencing and the failure of a path leave in the switch core. -/
theorem spinePaths : Obligations.SpinePaths := by
  unfold Obligations.SpinePaths
  refine ⟨fun s r d k c hrd hup hrgn _ hp => ?_, fun s r d k c hrd hup hrgn hp => ?_, fun s r d k h => ?_,
    fun s r d k h0 hother hf => ?_, fun s r d k c rest hfl hsp hs hi => ?_, fun s r d k c rest hfl hsp hs hi ⟨hd, hd'⟩ hw hnew => ?_,
    fun s r d k c rest hfl hrgn hcrc => ?_, fun s r d k g hfl => ?_, fun s r d k => ?_, fun s r d k hrd hup ho hrgn hsp hsp' => ?_,
    fun s r d k h => ?_⟩
  · refine ⟨_, congrArg Host.Outcome.next (spineArbitration_presented hrd hup hrgn hp), ?_⟩
    rw [sendOn_swc]
    simp [State.sw]
  · refine ⟨_, congrArg Host.Outcome.next (spineArbitration_presented hrd hup hrgn hp), ?_⟩
    rw [sendOn_swc, sendOn_resent]
    refine ⟨?_, ?_, ?_, rfl, rfl⟩ <;> simp [State.sw]
  · exact congrArg Host.Outcome.next (spineArbitration_idle h)
  · obtain ⟨hcls, hreg⟩ := parityOcc_fatal r
    have hiso := s.record_isolates _ hcls hf (by rw [hreg]; exact r.isLt) (by rw [hreg]; exact h0) (by rw [hreg]; exact hother)
    rw [hreg] at hiso
    obtain ⟨hrgn, -, -⟩ := hiso
    refine ⟨_, rfl, s.record_stsBit _ (show 9 < 32 by decide) (State.windowGone_of_rgn ?_), hrgn, s.record_swc _⟩
    rw [show setUnit (regionOcc r (swcSet r) 9).set = r from setUnit_swcSet r, h0]
    decide
  · have hq := State.reseq_ordered_swc (s.headTaken (pathKey r d k) rest) r d c hsp hi hs
    refine ⟨_, rfl, ?_⟩
    rw [spineCellReceive_good_swc hfl, hq]
    simp [State.headTaken, State.sw, Nat.add_assoc]
  · have hq := State.reseq_ahead_swc (s.headTaken (pathKey r d k) rest) r d c hsp hi hs hd hd' hw hnew
    refine ⟨_, rfl, ?_⟩
    rw [spineCellReceive_good_swc hfl, hq]
    simp [State.headTaken, State.sw]
  · refine ⟨_, congrArg Host.Outcome.next (spineCellReceive_bad hfl hcrc), ?_, ?_,
      State.record_stsBit _ _ (show 3 < 32 by decide) (State.windowGone_of_rgn ?_), ?_⟩
    · rw [State.record_swc]
      exact hfl
    · rw [State.record_swc]
      rfl
    · rw [show setUnit (blockOcc (swcSet d) 3).set = d from setUnit_swcSet d]
      exact hrgn
    · rw [State.record_swc]
      simp [State.badSeen, State.sw]
  · refine congrArg Host.Outcome.next ?_
    unfold spineCellReceive
    split
    · rename_i heq
      simp [heq] at hfl
    · rfl
  · refine ⟨_, congrArg Host.Outcome.next (spineAckReceive_eq s r d k), ?_, ?_, fun h => ?_⟩
    · simp [State.exitIfDone_swc, State.acked, State.sw]
    · simp [State.exitIfDone_swc, State.acked, State.sw]
    · rw [State.exitIfDone_of_not_exit (s.acked (pathKey r d k)) h]
      rfl
  · have hne : r.val ≠ d.val := fun e => hrd (Fin.ext e)
    have hix : r.val % 2 ^ 24 ≠ d.val % 2 ^ 24 := by omega
    have hpair : pairKey r d ≠ pairKey d r := by simp only [pairKey]; omega
    have hpath : pathKey r d k ≠ pathKey d r k := by simp only [pathKey]; omega
    refine ⟨_, congrArg Host.Outcome.next (spineAckTimeout_fails hrd hup ho), ?_, ?_, ?_, ?_, ?_, ?_, ?_, ?_⟩
    · rw [State.pathUp_pathTurned, State.pathUp_pathTurned, State.pathUp_eq_of_word (s.word_pathMarked r d k r),
        State.pathUp_setBits_ne _ (.inl hix.symm), s.pathUp_failed (by omega)]
    · rw [State.pathUp_pathTurned, State.pathUp_pathTurned, State.pathUp_eq_of_word (s.word_pathMarked r d k d),
        State.pathUp_failed _ (by omega)]
    · rw [State.spray_pathTurned_ne _ _ _ hix.symm, State.spray_pathTurned_same _ _ d.isLt]
    · rw [State.spray_pathTurned_same _ _ r.isLt]
    · simp [State.pathTurned_swc, State.pathMarked_swc, Tab.get_put_ne _ _ _ _ _ _ hpair]
    · simp [State.pathTurned_swc, Tab.get_put_ne _ _ _ _ _ _ hpath]
    · simp [State.pathTurned_swc, Tab.get_put_ne _ _ _ _ _ _ hpath]
    · refine (State.stsBit_of_ces ((State.pathTurned_ces ..).trans (State.pathTurned_ces ..)) _ _).2 ?_
      refine State.record_stsBit _ _ (show 4 < 32 by decide) (State.windowGone_of_rgn ?_)
      rw [show setUnit (blockOcc (swcSet r) 4).set = r from setUnit_swcSet r, State.setBits, State.rgn_set _ _ _ (by decide),
        State.setBits, State.rgn_set _ _ _ (by decide)]
      exact hrgn
  · exact congrArg Host.Outcome.next (spineAckTimeout_idle h)

end Sys2Proof.Machine
end

section
/-! SUPPORT. What the work of the Loan desk, of the Granary, of the movers and of the carrels keeps of the registers, with the errors that
it records: it writes the registers of `workRegs` alone, and lets go of nothing that isolation or CHIP_FATAL holds down (R41, R42, R468,
R472). `WorkKeeps s₀ t` says that t has kept it since s₀; each function f of this work has one lemma `WorkKeeps.f`, which follows f's
shape. -/
namespace Sys2Proof.Machine
open Sys2Proof

/-- The registers that this work writes, those of its reports among them. -/
def workRegs : List Reg := reportRegs ++
  [.BND_FAULT_HI, .BND_FAULT_INFO, .BND_FAULT_LO, .CAT_CHAIN_STS, .CAT_DDP_STS, .CAT_DEAD_STS, .CAT_DROP_STS, .CAT_LD_OCC, .CAT_RCL_STS,
   .CRL_CFG, .CRL_CMD, .DMV_CH_PROG, .DMV_CH_RING, .DMV_CH_STS, .GRN_ECC_ADDR, .GRN_ECC_STS, .QMG_CACHE_STS, .QMG_ERR_CAP,
   .SWC_DOWN_DROP, .TFC_TIME_STS, .TIL_EVT]

/-- The fields of those registers that isolation and CHIP_FATAL hold down. -/
def heldFields : List Fld := [CHIP_RGN_STS.STATE, CHIP_RGN_CAUSE.VALID, PRT_PORT_STS.STATE, PRT_DN_TMR.PERST_OUT]

/-- A field that this work writes freely. -/
def Fld.free (f : Fld) : Bool := workRegs.contains f.reg && heldFields.all (fun g => f.apart g)

/-- State t since s₀: a region that is not RUNNING stays as it is, a cause stays as valid as it is, and a port that is OFF, or
whose DN_PERST_N is low, stays so. -/
structure WorkKeeps (s₀ t : State) : Prop where
  word : ∀ r i, r ∉ workRegs → t.word r i = s₀.word r i
  rgn : ∀ q, s₀.rgn q ≠ 0 → t.rgn q = s₀.rgn q
  cause : ∀ q, t.get CHIP_RGN_CAUSE.VALID q = s₀.get CHIP_RGN_CAUSE.VALID q
  port : ∀ p, s₀.get PRT_PORT_STS.STATE p = 0 → t.get PRT_PORT_STS.STATE p = 0
  perst : ∀ p, s₀.get PRT_DN_TMR.PERST_OUT p = 0 → t.get PRT_DN_TMR.PERST_OUT p = 0

theorem WorkKeeps.refl (s : State) : WorkKeeps s s :=
  ⟨fun _ _ _ => rfl, fun _ _ => rfl, fun _ => rfl, fun _ h => h, fun _ h => h⟩

variable {s₀ s t : State}

/-- A change that leaves every word as it is, but of registers that this work writes and that hold nothing down. -/
theorem WorkKeeps.of_words (h : WorkKeeps s₀ s)
    (hw : ∀ r i, r ∉ workRegs ∨ r ∈ heldFields.map (fun g => g.reg) → t.word r i = s.word r i) : WorkKeeps s₀ t where
  word r i hr := (hw r i (.inl hr)).trans (h.word r i hr)
  rgn q hq := (State.rgn_eq_of_word (hw _ _ (.inr (by decide))) q).trans (h.rgn q hq)
  cause q := (congrArg (fun w => bits w _ _) (hw _ _ (.inr (by decide)))).trans (h.cause q)
  port p hp := (congrArg (fun w => bits w _ _) (hw _ _ (.inr (by decide)))).trans (h.port p hp)
  perst p hp := (congrArg (fun w => bits w _ _) (hw _ _ (.inr (by decide)))).trans (h.perst p hp)

section
variable {ces : Tab CesSet} {out : List Msg} {free : Nat} {fatal : Bool} {time : Tab Nat} {hbm ret : List Host.Cell}
  {lat : Latches} {boot : BootState} {sup : SupState} {flt : FltState} {i3c : I3cState} {spw : SpwState} {arc : ArcState}
  {bnd : BndState} {cat : CatState} {grn : GrnState} {swc : SwcState} {tfc : TfcState} {prt : PrtState} {ll : LlState} {qmg : QmgState}
  {dmv : DmvState} {lib : LibState}

/-- A change that writes no register. -/
theorem WorkKeeps.fields (h : WorkKeeps s₀ s) :
    WorkKeeps s₀
      { s with ces, out, free, fatal, time, hbm, ret, lat, boot, sup, flt, i3c, spw, arc, bnd, cat, grn, swc, tfc, prt, ll, qmg, dmv, lib } :=
  h.of_words fun _ _ _ => rfl

end

theorem WorkKeeps.setWord {r : Reg} {i : Nat} {v : Word}
    (hr : (workRegs.contains r && !(heldFields.map (fun g => g.reg)).contains r) = true) (h : WorkKeeps s₀ s) :
    WorkKeeps s₀ (s.setWord r i v) := by
  simp only [Bool.and_eq_true, Bool.not_eq_true', List.contains_iff_mem, ← Bool.not_eq_true] at hr
  refine h.of_words fun r' j hr' => s.word_setWord_reg v ?_
  rintro rfl
  exact hr'.elim (fun hn => hn hr.1) hr.2

/-- A field is written that holds nothing down, or one is written 0 that may fall. -/
theorem WorkKeeps.write {f : Fld} {i v : Nat} (h : WorkKeeps s₀ s) (hm : f.reg ∈ workRegs)
    (hs : f.apart CHIP_RGN_STS.STATE = true) (hc : f.apart CHIP_RGN_CAUSE.VALID = true)
    (hp : f.apart PRT_PORT_STS.STATE = true ∨ f = PRT_PORT_STS.STATE ∧ v = 0)
    (ht : f.apart PRT_DN_TMR.PERST_OUT = true ∨ f = PRT_DN_TMR.PERST_OUT ∧ v = 0) : WorkKeeps s₀ (s.set f i v) where
  word r j hr := (s.word_set_reg v (by rintro rfl; exact hr hm)).trans (h.word r j hr)
  rgn q hq := by
    refine Eq.trans ?_ (h.rgn q hq)
    exact congrArg (fun n => bits (BitVec.ofNat 8 n) (2 * q) 2) (s.get_set_apart v hs)
  cause q := (s.get_set_apart v hc).trans (h.cause q)
  port p h0 := by
    obtain hp | ⟨rfl, rfl⟩ := hp
    · exact (s.get_set_apart v hp).trans (h.port p h0)
    · exact s.get_set_zero (by decide) (h.port p h0)
  perst p h0 := by
    obtain ht | ⟨rfl, rfl⟩ := ht
    · exact (s.get_set_apart v ht).trans (h.perst p h0)
    · exact s.get_set_zero (by decide) (h.perst p h0)

theorem WorkKeeps.set {f : Fld} {i v : Nat} (hf : f.free = true) (h : WorkKeeps s₀ s) :
    WorkKeeps s₀ (s.set f i v) := by
  simp only [Fld.free, heldFields, Bool.and_eq_true, List.all_cons, List.all_nil, List.contains_iff_mem] at hf
  obtain ⟨hm, hs, hc, hp, ht, -⟩ := hf
  exact h.write hm hs hc (.inl hp) (.inl ht)

theorem WorkKeeps.bump {f : Fld} {i n : Nat} (hf : f.free = true) (h : WorkKeeps s₀ s) :
    WorkKeeps s₀ (s.bump f i n) :=
  .set hf h

theorem WorkKeeps.raise {f : Fld} {i v : Nat} (hf : f.free = true) (h : WorkKeeps s₀ s) :
    WorkKeeps s₀ (s.raise f i v) :=
  .set hf h

/-- A region that runs falls to another state. -/
theorem WorkKeeps.setRgn {r v : Nat} (h : WorkKeeps s₀ s) (h0 : s.rgn r = 0) : WorkKeeps s₀ (s.setRgn r v) where
  word r j hr := (s.word_set_reg _ (by rintro rfl; exact hr (by decide))).trans (h.word r j hr)
  rgn q hq := by
    have hsame : s.rgn q = s₀.rgn q := h.rgn q hq
    have hne : q ≠ r := by
      rintro rfl
      exact hq (hsame.symm.trans h0)
    exact (s.rgn_setRgn_ne hne).trans hsame
  cause q := (s.get_set_apart _ (by decide)).trans (h.cause q)
  port p hp := (s.get_set_apart _ (by decide)).trans (h.port p hp)
  perst p hp := (s.get_set_apart _ (by decide)).trans (h.perst p hp)

theorem WorkKeeps.ite {c : Prop} [Decidable c] {a b : State} (ha : WorkKeeps s₀ a) (hb : WorkKeeps s₀ b) :
    WorkKeeps s₀ (if c then a else b) := by
  split
  · exact ha
  · exact hb

theorem WorkKeeps.foldl {β : Type} {l : List β} {f : State → β → State} (h : WorkKeeps s₀ s)
    (hf : ∀ {u b}, WorkKeeps s₀ u → WorkKeeps s₀ (f u b)) : WorkKeeps s₀ (l.foldl f s) := by
  induction l generalizing s with
  | nil => exact h
  | cons b l ih => exact ih (hf h)

/-- The same of a function that answers a state with another value, in its state. -/
def WorkFst {α : Type} (s₀ : State) (x : State × α) : Prop := WorkKeeps s₀ x.1

/-- The same where the state comes second. -/
def WorkSnd {α : Type} (s₀ : State) (x : α × State) : Prop := WorkKeeps s₀ x.2

section
variable {α : Type} {a : α} {x y : State × α} {z : α × State}

theorem WorkFst.pair (h : WorkKeeps s₀ s) : WorkFst s₀ (s, a) := h
theorem WorkSnd.pair (h : WorkKeeps s₀ s) : WorkSnd s₀ (a, s) := h
theorem WorkFst.fst (h : WorkFst s₀ x) : WorkKeeps s₀ x.1 := h
theorem WorkSnd.snd (h : WorkSnd s₀ z) : WorkKeeps s₀ z.2 := h

theorem WorkFst.of (h : WorkFst s₀ x) (e : x = (t, a)) : WorkKeeps s₀ t := by
  rw [e] at h
  exact h

theorem WorkFst.ite {c : Prop} [Decidable c] (hx : WorkFst s₀ x) (hy : WorkFst s₀ y) : WorkFst s₀ (if c then x else y) := by
  split
  · exact hx
  · exact hy

end

/-! Reports. -/

/-- What a note may change. -/
theorem WorkKeeps.noted (h : WorkKeeps s₀ s) (g : Noted s t) : WorkKeeps s₀ t :=
  h.of_words fun r i hr => g.word r i (by
    rintro hm
    revert hr
    revert r
    decide)

theorem WorkKeeps.count {r e qual k : Nat} (h : WorkKeeps s₀ s) : WorkKeeps s₀ (s.count r e qual k) :=
  h.noted (.count ..)

theorem WorkKeeps.archive {u code kind scope arg0 arg1 origin : Nat} (h : WorkKeeps s₀ s) :
    WorkKeeps s₀ (s.archive u code kind scope arg0 arg1 origin) :=
  h.noted (.archive ..)

theorem WorkKeeps.askCopy {area trigger block bit : Nat} (h : WorkKeeps s₀ s) :
    WorkKeeps s₀ (s.askCopy area trigger block bit) :=
  .ite (.bump rfl h) h.fields

theorem WorkKeeps.slotsOff (h : WorkKeeps s₀ s) : WorkKeeps s₀ s.slotsOff :=
  h.foldl fun g => .set rfl (.set rfl (.set rfl (.set rfl (.set rfl g))))

/-- A port that falls to OFF with its DN_PERST_N low stays down where it was down. -/
theorem WorkKeeps.portsIdle {ps : List Nat} (h : WorkKeeps s₀ s) : WorkKeeps s₀ (s.portsIdle ps) :=
  h.foldl fun g =>
    have off := g.write (f := PRT_PORT_STS.STATE) (v := 0) (by decide) (by decide) (by decide) (.inr ⟨rfl, rfl⟩) (.inl (by decide))
    have idle := WorkKeeps.set (f := PRT_PORT_STS.WIDTH) rfl (WorkKeeps.set (f := PRT_PORT_STS.RATE) rfl off)
    idle.write (by decide) (by decide) (by decide) (.inl (by decide)) (.inr ⟨rfl, rfl⟩)

theorem WorkKeeps.flushEnds {ms result unflushed : Nat} (h : WorkKeeps s₀ s) :
    WorkKeeps s₀ (s.flushEnds ms result unflushed) :=
  .set rfl (.set rfl (.set rfl (.set rfl h)))

theorem WorkKeeps.chipFatal {block bit : Nat} (h : WorkKeeps s₀ s) : WorkKeeps s₀ (s.chipFatal block bit) := by
  unfold State.chipFatal
  extract_lets s1 _ s2 s3 s4
  have g1 : WorkKeeps s₀ s1 := .ite h.flushEnds h
  have g2 : WorkKeeps s₀ s2 := g1.fields
  have g4 : WorkKeeps s₀ s4 := .askCopy (.slotsOff (.portsIdle (.set rfl g2)))
  exact .ite h.askCopy (g4.foldl fun g => .ite g g.askCopy)

theorem WorkKeeps.regionFatal {r block bit : Nat} (h : WorkKeeps s₀ s) : WorkKeeps s₀ (s.regionFatal r block bit) := by
  unfold State.regionFatal
  refine .ite h.askCopy ?_
  split
  · exact h
  · rename_i h0
    have g : WorkKeeps s₀ (s.setRgn r 1) := h.setRgn (by simpa using h0)
    have g1 : WorkKeeps s₀ (((s.setRgn r 1).set CHIP_RGN_CAUSE.BLOCK r block).set CHIP_RGN_CAUSE.BIT r bit) := .set rfl (.set rfl g)
    exact .ite (.askCopy (.ite g1.fields g1.fields)) h.chipFatal

theorem WorkKeeps.record {o : Occ} (h : WorkKeeps s₀ s) : WorkKeeps s₀ (s.record o) := by
  have g : WorkKeeps s₀ (s.noted o) := h.noted (.noted s o)
  rw [State.record_eq]
  exact .ite g.regionFatal (.ite g.chipFatal (.ite g.fields g))

/-! Messages, queues and their rings. -/

theorem WorkKeeps.emit {m : Msg} (h : WorkKeeps s₀ s) : WorkKeeps s₀ (s.emit m) :=
  h.fields

theorem WorkKeeps.columns {stack k : Nat} (h : WorkKeeps s₀ s) : WorkKeeps s₀ (s.columns stack k) :=
  h.count

theorem WorkKeeps.setCtx {q : Nat} {c : BitVec 512} (h : WorkKeeps s₀ s) : WorkKeeps s₀ (s.setCtx q c) :=
  h.fields

theorem WorkKeeps.ownerIrq {q : Nat} {c : BitVec 512} (h : WorkKeeps s₀ s) : WorkKeeps s₀ (s.ownerIrq q c) :=
  .ite h.emit (.ite h.emit h.emit)

theorem WorkKeeps.indexWord {q : Nat} {c : BitVec 512} (h : WorkKeeps s₀ s) : WorkKeeps s₀ (s.indexWord q c) :=
  h.emit.fields

theorem WorkKeeps.indexDue {q : Nat} {c : BitVec 512} (h : WorkKeeps s₀ s) : WorkKeeps s₀ (s.indexDue q c) :=
  .ite h.fields h

theorem WorkKeeps.qmgCapture {r q cause : Nat} (h : WorkKeeps s₀ s) : WorkKeeps s₀ (s.qmgCapture r q cause) :=
  .ite h (.ite (.bump rfl h) (.set rfl (.set rfl (.set rfl (.set rfl h)))))

theorem WorkKeeps.qmgError {q bit cause : Nat} (h : WorkKeeps s₀ s) : WorkKeeps s₀ (s.qmgError q bit cause) :=
  h.qmgCapture.record

theorem WorkKeeps.carrelCount {k word n : Nat} (h : WorkKeeps s₀ s) : WorkKeeps s₀ (s.carrelCount k word n) :=
  h.fields

theorem WorkKeeps.useCtx {q : Nat} (h : WorkKeeps s₀ s) : WorkKeeps s₀ (s.useCtx q) :=
  h.fields

theorem WorkKeeps.waitCtx {q : Nat} {op : QOp} (h : WorkKeeps s₀ s) : WorkKeeps s₀ (s.waitCtx q op) :=
  .fields (.count (.bump rfl h))

theorem WorkKeeps.writeHbm {key : Nat} {bs : List Byte} (h : WorkKeeps s₀ s) : WorkKeeps s₀ (s.writeHbm key bs) :=
  .columns (h.fields)

theorem WorkKeeps.ringPut {q : Nat} {c : BitVec 512} {data : List Byte} (h : WorkKeeps s₀ s) : WorkKeeps s₀ (s.ringPut q c data) := by
  unfold State.ringPut
  extract_lets off body c1 s1 c2 s2
  have g : WorkKeeps s₀ s1 := .ite h.writeHbm h.emit
  exact .ite (.ownerIrq (.ite g.setCtx.indexWord g.setCtx)) g.setCtx.indexDue

theorem WorkKeeps.ringWrite {q : Nat} {data : List Byte} (h : WorkKeeps s₀ s) : WorkFst s₀ (s.ringWrite q data) :=
  .ite (.pair h.ringPut) (.pair h.setCtx)

/-! Cells on their way to an agent. -/

theorem WorkKeeps.setZwl {z : Nat} {v : ZwlState} (h : WorkKeeps s₀ s) : WorkKeeps s₀ (s.setZwl z v) :=
  h.fields

theorem WorkKeeps.zwlCtl {z type a b : Nat} (h : WorkKeeps s₀ s) : WorkKeeps s₀ (s.zwlCtl z type a b) :=
  h.setZwl.emit

theorem WorkKeeps.sw {f : SwcState → SwcState} (h : WorkKeeps s₀ s) : WorkKeeps s₀ (s.sw f) :=
  h.fields

theorem WorkKeeps.downDrop {p n : Nat} (h : WorkKeeps s₀ s) : WorkKeeps s₀ (s.downDrop p n) :=
  .bump rfl h

theorem WorkKeeps.zwlQueue {c : Cell} (h : WorkKeeps s₀ s) : WorkKeeps s₀ (s.zwlQueue c) :=
  .ite h.setZwl.zwlCtl h

theorem WorkKeeps.mergePut {input : Nat} {c : Cell} (h : WorkKeeps s₀ s) : WorkKeeps s₀ (s.mergePut input c) :=
  h.zwlQueue.sw

theorem WorkKeeps.dropCell {c : Cell} (h : WorkKeeps s₀ s) : WorkKeeps s₀ (s.dropCell c) :=
  .ite (.bump rfl h.downDrop) h.downDrop

theorem WorkKeeps.markDelay {c : Cell} (h : WorkKeeps s₀ s) : WorkFst s₀ (s.markDelay c) :=
  .ite (.ite (.pair h.fields) (.pair h.fields)) (.pair h)

theorem WorkKeeps.internalCell {a : Nat} {c0 : Cell} (h : WorkKeeps s₀ s) : WorkKeeps s₀ (s.internalCell a c0) :=
  .ite h.dropCell (.ite h.markDelay.fst.mergePut h.markDelay.fst.sw)

theorem WorkKeeps.send {r u p tc : Nat} {need : List Nat} {m : Msg} {data : List Byte} (h : WorkKeeps s₀ s) :
    WorkKeeps s₀ (s.send r u p tc need m data) := by
  unfold State.send
  split
  · exact .ite (.bump rfl h) h
  · exact h.internalCell

/-! Shelf records, ledgers and hosted tillers. -/

theorem WorkKeeps.putSrec {x : Nat} {v : BitVec 128} (h : WorkKeeps s₀ s) : WorkKeeps s₀ (s.putSrec x v) :=
  h.fields

theorem WorkKeeps.commitSrec {x : Nat} {v : BitVec 128} (h : WorkKeeps s₀ s) : WorkKeeps s₀ (s.commitSrec x v) :=
  h.putSrec

theorem WorkKeeps.refuse {a : Access} {fa : Nat} {why : Nat × Nat} (h : WorkKeeps s₀ s) : WorkKeeps s₀ (s.refuse a fa why) :=
  .count (.archive (.record (.ite (.bump rfl h) (.set rfl (.set rfl (.set rfl (.set rfl (.set rfl (.set rfl (.setWord rfl h))))))))))

theorem WorkKeeps.gone {ticket : Nat} (h : WorkKeeps s₀ s) : WorkKeeps s₀ (s.gone ticket) :=
  h.fields

theorem WorkKeeps.setLost {x : Nat} (h : WorkKeeps s₀ s) : WorkKeeps s₀ (s.setLost x) :=
  .ite h h.putSrec

theorem WorkKeeps.owes {x old new : Nat} (h : WorkKeeps s₀ s) : WorkKeeps s₀ (s.owes x old new) :=
  h.fields

theorem WorkKeeps.setTiller {t : Nat} {x : Tiller} (h : WorkKeeps s₀ s) : WorkKeeps s₀ (s.setTiller t x) :=
  h.fields

theorem WorkKeeps.showEvents {t : Nat} (h : WorkKeeps s₀ s) : WorkKeeps s₀ (s.showEvents t) :=
  .set rfl h

theorem WorkKeeps.postHosted {t bit : Nat} {args : List Nat} (h : WorkKeeps s₀ s) : WorkFst s₀ (s.postHosted t bit args) :=
  .ite (.pair h) (.ite (.pair h) (.pair h.setTiller.showEvents))

theorem WorkKeeps.hostedNote {r bit : Nat} {args : List Nat} (h : WorkKeeps s₀ s) : WorkKeeps s₀ (s.hostedNote r bit args) := by
  unfold State.hostedNote
  refine .ite ?_ h
  split
  · exact h.postHosted.fst
  · exact h

theorem WorkKeeps.svcEnd {t result : Nat} (h : WorkKeeps s₀ s) : WorkKeeps s₀ (s.svcEnd t result) :=
  h.setTiller

theorem WorkKeeps.svcBarEnds {r k result : Nat} (h : WorkKeeps s₀ s) : WorkKeeps s₀ (s.svcBarEnds r k result) := by
  unfold State.svcBarEnds
  split
  · exact h.fields.svcEnd
  · exact h

/-! The Granary. -/

theorem WorkKeeps.setWay {k : Nat} {w : Way} (h : WorkKeeps s₀ s) : WorkKeeps s₀ (s.setWay k w) :=
  h.fields

theorem WorkKeeps.putHbmLine {key : Nat} {d : LineData} (h : WorkKeeps s₀ s) : WorkKeeps s₀ (s.putHbmLine key d) :=
  .columns (h.fields)

theorem WorkKeeps.openLine (h : WorkKeeps s₀ s) : WorkSnd s₀ s.openLine :=
  .pair h.fields

theorem WorkKeeps.tagLookup {r g : Nat} (h : WorkKeeps s₀ s) : WorkKeeps s₀ (s.tagLookup r g) :=
  .ite h.fields h.fields.count

theorem WorkKeeps.touch {r g w age : Nat} (h : WorkKeeps s₀ s) : WorkKeeps s₀ (s.touch r g w age) :=
  .setWay (h.foldl fun g => .ite g.setWay g)

theorem WorkKeeps.ledgerAdd {x reason : Nat} (h : WorkKeeps s₀ s) : WorkKeeps s₀ (s.ledgerAdd x reason) :=
  h.fields

theorem WorkKeeps.poisonStored {line reason arg : Nat} (h : WorkKeeps s₀ s) : WorkKeeps s₀ (s.poisonStored line reason arg) :=
  h.ledgerAdd.archive

theorem WorkKeeps.fetch {x : BitVec 128} {line : Nat} (h : WorkKeeps s₀ s) : WorkKeeps s₀ (s.fetch x line) :=
  h.send

theorem WorkKeeps.writeOut {line : Nat} {d : LineData} (h : WorkKeeps s₀ s) : WorkKeeps s₀ (s.writeOut line d) :=
  h.send

theorem WorkKeeps.sendWrite {line : Nat} {f : WrFrom} {d : LineData} (h : WorkKeeps s₀ s) : WorkKeeps s₀ (s.sendWrite line f d) :=
  .ite h.fields h.writeOut.fields

theorem WorkKeeps.eccCapture {r stack row col side : Nat} (h : WorkKeeps s₀ s) : WorkKeeps s₀ (eccCapture s r stack row col side) :=
  .ite h (.set rfl (.set rfl (.set rfl (.set rfl (.set rfl h)))))

theorem WorkKeeps.rowRepair {stack row : Nat} (h : WorkKeeps s₀ s) : WorkKeeps s₀ (rowRepair s stack row) :=
  .ite h h.fields

theorem WorkKeeps.columnCorrected {r stack row col side : Nat} (h : WorkKeeps s₀ s) : WorkKeeps s₀ (columnCorrected s r stack row col side) :=
  .ite (.rowRepair (.fields (.record (.bump rfl h.eccCapture)))) (.fields (.record (.bump rfl h.eccCapture)))

theorem WorkKeeps.sectorLostClean {r k i row col : Nat} (h : WorkKeeps s₀ s) : WorkKeeps s₀ (sectorLostClean s r k i row col) :=
  .rowRepair (.record (.bump rfl h.setWay.eccCapture))

theorem WorkKeeps.sectorLostDirty {r k i row col : Nat} (h : WorkKeeps s₀ s) : WorkSnd s₀ (sectorLostDirty s r k i row col) :=
  .pair (.rowRepair (.record (.bump rfl h.openLine.snd.putHbmLine.poisonStored.eccCapture)))

theorem WorkKeeps.sectorRead {k i : Nat} {found : ColRead} (h : WorkKeeps s₀ s) : WorkKeeps s₀ (s.sectorRead k i found) := by
  unfold State.sectorRead
  refine .ite h ?_
  split
  · exact h.columnCorrected
  · exact .ite h.sectorLostDirty.snd h.sectorLostClean
  · exact h

theorem WorkKeeps.wayRead {k : Nat} {found : List ColRead} (h : WorkKeeps s₀ s) : WorkKeeps s₀ (s.wayRead k found) :=
  h.foldl .sectorRead

theorem WorkKeeps.issueEntry {e : WbEntry} (h : WorkKeeps s₀ s) : WorkKeeps s₀ (s.issueEntry e) :=
  .count (h.foldl fun g => .ite g.sendWrite g)

theorem WorkKeeps.drainHeld (h : WorkKeeps s₀ s) : WorkKeeps s₀ s.drainHeld :=
  .fields (h.foldl .writeOut)

theorem WorkKeeps.drainBuffers (h : WorkKeeps s₀ s) : WorkKeeps s₀ s.drainBuffers :=
  .fields (h.drainHeld.foldl .issueEntry)

theorem WorkKeeps.dropWb {p : WbEntry → Bool} (h : WorkKeeps s₀ s) : WorkKeeps s₀ (s.dropWb p) :=
  h.fields

theorem WorkKeeps.toBuffer {k : Nat} {found : List ColRead} (h : WorkKeeps s₀ s) : WorkKeeps s₀ (s.toBuffer k found) :=
  h.wayRead.fields.drainBuffers

theorem WorkKeeps.takeWay {r fa w : Nat} {hinted : Bool} {carrel : Option Nat} {found : List ColRead} (h : WorkKeeps s₀ s) :
    WorkKeeps s₀ (s.takeWay r fa w hinted carrel found) :=
  .touch (.setWay (.ite h.toBuffer h))

theorem WorkKeeps.storeSector {r fa w : Nat} {d : LineData} {dirty : Bool} (h : WorkKeeps s₀ s) : WorkKeeps s₀ (s.storeSector r fa w d dirty) :=
  h.putHbmLine.setWay.fields

theorem WorkKeeps.storeDirty {r fa w : Nat} {d : LineData} (h : WorkKeeps s₀ s) : WorkKeeps s₀ (s.storeDirty r fa w d) :=
  .ite h.storeSector.setWay (.ite h.storeSector h.storeSector.sendWrite)

theorem WorkKeeps.restore {r fa w : Nat} {e : WbEntry} (h : WorkKeeps s₀ s) : WorkKeeps s₀ (s.restore r fa w e) :=
  .ite (.setWay (h.foldl fun g => .ite g.putHbmLine g)) (.dropWb (.setWay (h.foldl fun g => .ite g.putHbmLine g)))

theorem WorkKeeps.shelfLost {x : Nat} (h : WorkKeeps s₀ s) : WorkKeeps s₀ (s.shelfLost x) := by
  unfold State.shelfLost
  extract_lets port s1 mine s2 bufs s3 lost s4
  have g2 : WorkKeeps s₀ s2 := h.setLost.foldl fun g => .setWay (g.foldl fun k => .ite k.poisonStored k)
  have g3 : WorkKeeps s₀ s3 := g2.foldl fun g => g.foldl fun k => .ite k.poisonStored k
  have g4 : WorkKeeps s₀ s4 := (g3.foldl .poisonStored).dropWb
  exact g4.fields.record.hostedNote

theorem WorkKeeps.grnPut {r fa : Nat} {f : WrFrom} {d : LineData} {hinted : Bool} {carrel : Option Nat} {found : List ColRead}
    (h : WorkKeeps s₀ s) :
    WorkFst s₀ (s.grnPut r fa f d hinted carrel found) := by
  unfold State.grnPut
  simp only
  split
  · exact .pair h.tagLookup.fields.storeDirty.touch
  · split
    · exact .pair h
    · refine .pair (.storeDirty ?_)
      split
      · exact h.tagLookup.fields.takeWay.restore
      · exact h.tagLookup.fields.takeWay
    · split
      · exact .ite (.pair h.tagLookup.fields.sendWrite) (.pair h.tagLookup.fields.fields)
      · exact .ite (.pair h.tagLookup.fields.archive.shelfLost) (.pair h.tagLookup.fields.sendWrite)

theorem WorkKeeps.grnPoison {line reason arg : Nat} (h : WorkKeeps s₀ s) : WorkSnd s₀ (s.grnPoison line reason arg) := by
  unfold State.grnPoison
  simp only
  split
  · exact .pair (.fields (h.openLine.snd.poisonStored.grnPut.of ‹_›))
  · exact .pair (h.openLine.snd.poisonStored.grnPut.of ‹_›)

theorem WorkKeeps.retryPuts {ctrl : Nat} (h : WorkKeeps s₀ s) : WorkKeeps s₀ (s.retryPuts ctrl) := by
  unfold State.retryPuts
  refine .foldl h (fun g => ?_)
  split
  · exact g
  · exact g.grnPut.of ‹_›

theorem WorkKeeps.countBand {r cls : Nat} {hit : Bool} (h : WorkKeeps s₀ s) : WorkKeeps s₀ (s.countBand r cls hit) :=
  h.count.fields

theorem WorkKeeps.grnRead {x : BitVec 128} {r fa : Nat} {carrel : Option Nat} {found : List ColRead} (h : WorkKeeps s₀ s) :
    WorkFst s₀ (s.grnRead x r fa carrel found) := by
  unfold State.grnRead
  simp only
  split
  · refine .pair (.countBand ?_)
    split
    · exact h.tagLookup.touch
    · exact h.tagLookup
  · refine .ite (.pair h.tagLookup.countBand) (.ite (.pair h.tagLookup.countBand.fetch) ?_)
    split
    · exact .pair h.tagLookup.countBand.fetch
    · exact .pair h
    · exact .ite (.pair (h.tagLookup.countBand.takeWay.fetch.foldl .fetch)) (.pair h.tagLookup.countBand.takeWay.fetch)

/-! The Catalogue, the answers of the Loan desk and DDP. -/

theorem WorkKeeps.putBacking {r i : Nat} {ways : List Entry} (h : WorkKeeps s₀ s) : WorkKeeps s₀ (s.putBacking r i ways) :=
  h.fields

theorem WorkKeeps.inCat {f : CatState → CatState} (h : WorkKeeps s₀ s) : WorkKeeps s₀ (s.inCat f) :=
  h.fields

theorem WorkKeeps.catTouch {r i : Nat} (h : WorkKeeps s₀ s) : WorkKeeps s₀ (s.catTouch r i) := by
  unfold State.catTouch
  refine .inCat (.foldl h (fun g => .inCat ?_))
  split
  · exact .ite g.putBacking g
  · exact g

theorem WorkKeeps.catFill {r i : Nat} (h : WorkKeeps s₀ s) : WorkKeeps s₀ (s.catFill r i) := by
  unfold State.catFill
  split
  · exact h.catTouch
  · exact h.inCat.catTouch

theorem WorkKeeps.markPresence {r i : Nat} {ptrs : List Nat} (h : WorkKeeps s₀ s) : WorkKeeps s₀ (s.markPresence r i ptrs) :=
  h.inCat

theorem WorkKeeps.setEntry {line : Nat} {e : Entry} (h : WorkKeeps s₀ s) : WorkKeeps s₀ (s.setEntry line e) := by
  unfold State.setEntry
  simp only
  split
  · exact h.catFill
  · split
    · exact h.catFill
    · exact h.catFill.inCat.markPresence

theorem WorkKeeps.reclaimEntry {line : Nat} (h : WorkKeeps s₀ s) : WorkKeeps s₀ (s.reclaimEntry line) :=
  .ite h (.ite (.setEntry (.bump rfl h.grnPoison.snd)) h.setEntry)

theorem WorkKeeps.setTrk {k : Nat} {t : Option Tracker} (h : WorkKeeps s₀ s) : WorkKeeps s₀ (s.setTrk k t) :=
  h.inCat

theorem WorkKeeps.noteOcc {r : Nat} (h : WorkKeeps s₀ s) : WorkKeeps s₀ (s.noteOcc r) :=
  .raise rfl (.set rfl h)

theorem WorkKeeps.markServed {a : Access} (h : WorkKeeps s₀ s) : WorkKeeps s₀ (s.markServed a) :=
  h.inCat

theorem WorkKeeps.toAgent {q : Request} {m : Msg} {d : Option LineData} (h : WorkKeeps s₀ s) : WorkKeeps s₀ (s.toAgent q m d) := by
  unfold State.toAgent
  refine .ite h.send ?_
  split
  · exact h.send
  · exact h.send
  · exact h.send
  · exact h.emit
  · exact h.emit
  · exact h.emit

theorem WorkKeeps.answer {q : Request} {g : GrantKind} {d : Option LineData} (h : WorkKeeps s₀ s) : WorkKeeps s₀ (s.answer q g d) := by
  unfold State.answer
  split
  · exact h
  · split
    · exact h.toAgent
    · exact h.toAgent

theorem WorkKeeps.answerRefused {q : Request} (h : WorkKeeps s₀ s) : WorkKeeps s₀ (s.answerRefused q) := by
  unfold State.answerRefused
  refine .ite (.answer (WorkSnd.snd (.openLine ?_))) (.answer ?_)
  · split
    · exact h.carrelCount
    · exact h
  · split
    · exact h.carrelCount
    · exact h

theorem WorkKeeps.answerLost {q : Request} (h : WorkKeeps s₀ s) : WorkKeeps s₀ (s.answerLost q) :=
  .ite h.answerRefused.archive h.answerRefused

theorem WorkKeeps.noteDdp {r : Nat} (h : WorkKeeps s₀ s) : WorkKeeps s₀ (s.noteDdp r) :=
  .set rfl h

theorem WorkKeeps.ddpEnter {q : Request} (h : WorkKeeps s₀ s) : WorkKeeps s₀ (s.ddpEnter q) :=
  h.inCat.noteDdp

theorem WorkKeeps.ddpDone {q : Request} (h : WorkKeeps s₀ s) : WorkKeeps s₀ (s.ddpDone q) := by
  unfold State.ddpDone
  simp only
  split
  · exact h
  · exact .ite h.inCat.answer h.inCat

theorem WorkKeeps.requestOver {q : Request} (h : WorkKeeps s₀ s) : WorkKeeps s₀ (s.requestOver q) :=
  .ite h.markServed.gone.ddpDone h.markServed.gone

theorem WorkKeeps.endTrk {k : Nat} {t : Tracker} (h : WorkKeeps s₀ s) : WorkFst s₀ (s.endTrk k t) := by
  unfold State.endTrk
  refine .pair (.noteOcc (WorkFst.fst ?_))
  split
  · exact .pair h.setTrk
  · split
    · exact .pair h.setTrk.setTrk
    · exact .pair h.setTrk

theorem WorkKeeps.enter {q : Request} (h : WorkKeeps s₀ s) : WorkFst s₀ (s.enter q) := by
  unfold State.enter
  simp only
  split
  · split
    · exact .pair h
    · refine .ite (.pair h.setTrk.requestOver.answer) (.ite (.pair h.record.requestOver.answer)
        (.ite (.pair (.inCat (.count (.bump rfl h)))) ?_))
      split
      · exact .pair h.inCat
      · exact .pair (.raise rfl h.setTrk.setTrk.noteOcc)
  · split
    · exact .pair h.inCat
    · exact .pair h.setTrk.noteOcc

theorem WorkKeeps.dedupe {q : Request} (h : WorkKeeps s₀ s) : WorkFst s₀ (s.dedupe q) := by
  unfold State.dedupe
  simp only
  split
  · exact .ite (.pair (.answer (.gone (.bump rfl h)))) (.pair (.inCat (.gone (.bump rfl h))))
  · exact .ite (.pair (.inCat (.bump rfl h))) h.ddpEnter.enter

theorem WorkKeeps.storeChecks {q : Request} (h : WorkKeeps s₀ s) : WorkKeeps s₀ (s.storeChecks q) := by
  unfold State.storeChecks
  extract_lets x r c s1 s2 s3
  have g1 : WorkKeeps s₀ s1 := by
    unfold s1
    split
    · exact h
    · exact h.record
    · exact h.setLost.record
  have g2 : WorkKeeps s₀ s2 := .ite g1.record g1
  have g3 : WorkKeeps s₀ s3 := .ite g2.record g2
  exact .ite g3.record g3

/-! Trackers of the Loan desk. -/

theorem WorkKeeps.bankTurn {q : Request} (h : WorkKeeps s₀ s) : WorkKeeps s₀ (s.bankTurn q) :=
  .ite (.inCat (.ite h h.inCat)) (.ite h h.inCat)

theorem WorkKeeps.stamp {q : Request} (h : WorkKeeps s₀ s) : WorkFst s₀ (s.stamp q) :=
  .ite h.fields.inCat.dedupe h.fields.inCat.enter

theorem WorkKeeps.present {q : Request} (h : WorkKeeps s₀ s) : WorkFst s₀ (s.present q) := by
  unfold State.present
  refine .ite h.enter (.ite (.pair h.answerRefused) (.ite (.pair h.answerLost)
    (.ite (.pair h.answerRefused) (.ite h.bankTurn.stamp ?_))))
  simp only
  split
  · exact .pair h.bankTurn.fields
  · refine .ite (.pair h.bankTurn.inCat) ?_
    split
    · exact .pair h.bankTurn.storeChecks.refuse.answerRefused
    · exact h.bankTurn.storeChecks.stamp

theorem WorkKeeps.workHold {k : Nat} (h : WorkKeeps s₀ s) : WorkFst s₀ (s.workHold k) := by
  unfold State.workHold
  split
  · exact .pair h
  split
  · exact .pair h
  refine .ite (.pair h.setTrk) ?_
  extract_lets r i s1 bad lost s1'
  have g1 : WorkKeeps s₀ s1 := h.count
  have g : WorkKeeps s₀ s1' := .ite (.ite g1.record g1.record.inCat) (.ite g1.record g1)
  split
  · exact .ite (.pair g.setTrk) (.pair g.catTouch.setTrk)
  · exact .pair g.count.setTrk.inCat

theorem WorkKeeps.sendSnoop {r a line : Nat} {k : SnpKind} (h : WorkKeeps s₀ s) : WorkKeeps s₀ (s.sendSnoop r a k line) :=
  h.send

theorem WorkKeeps.sendSnoops {k : Nat} {t : Tracker} {sn : List (Nat × SnpKind)} {bcast : Bool} (h : WorkKeeps s₀ s) :
    WorkKeeps s₀ (s.sendSnoops k t sn bcast) :=
  .setTrk (.ite (.count (h.foldl fun g => g.sendSnoop.count)) (h.foldl fun g => g.sendSnoop.count))

theorem WorkKeeps.startEvict {k victim : Nat} {x : BitVec 128} {chain : List Nat} (h : WorkKeeps s₀ s) :
    WorkFst s₀ (s.startEvict k victim x chain) :=
  .pair h.reclaimEntry.setEntry.sendSnoops.noteOcc

theorem WorkKeeps.needWay {k : Nat} {t : Tracker} (h : WorkKeeps s₀ s) : WorkFst s₀ (s.needWay k t) := by
  unfold State.needWay
  refine .ite (.pair h.setTrk) ?_
  simp only
  split
  · split
    · exact .pair h.setTrk
    · exact .startEvict (.count (.ite h.setTrk.record h.setTrk))
  · exact .pair h.setTrk

theorem WorkKeeps.startRead {k : Nat} {t : Tracker} {q : Request} (h : WorkKeeps s₀ s) : WorkFst s₀ (s.startRead k t q) := by
  unfold State.startRead
  split
  · exact .pair (.setTrk (h.grnRead.of ‹_›))
  · exact .pair (.setTrk (h.grnRead.of ‹_›))
  · exact .pair (.setTrk (h.grnRead.of ‹_›))
  · exact .pair (.setTrk (WorkSnd.snd (.openLine (h.grnRead.of ‹_›))))

theorem WorkKeeps.reclaimLine {k v : Nat} {t : Tracker} (h : WorkKeeps s₀ s) : WorkFst s₀ (s.reclaimLine k v t) :=
  .pair (.noteOcc (.setTrk (.setTrk (.setEntry (.reclaimEntry (.setEntry (.raise rfl h.setTrk.setTrk.noteOcc)))))))

theorem WorkKeeps.workDecide {k : Nat} (h : WorkKeeps s₀ s) : WorkFst s₀ (s.workDecide k) := by
  unfold State.workDecide
  split
  · exact .pair h
  split
  · exact .pair h
  extract_lets r e x q t evicting fresh ways s2 t1 s3
  have g2 : WorkKeeps s₀ s2 := .ite h h.setEntry
  have g3 : WorkKeeps s₀ s3 := g2.sendSnoops
  refine .ite ?_ (.ite ?_ (.ite h.needWay ?_))
  · split
    · exact .pair h.setTrk
    · exact h.reclaimLine
  · split
    · exact .pair h.setTrk
    · exact .startEvict h.record.setTrk
  · split
    · exact .pair g3
    · exact .ite (.pair g3.startRead.fst) (.pair g3)

theorem WorkKeeps.baseRead {t : Tracker} {q : Request} (h : WorkKeeps s₀ s) : WorkKeeps s₀ (s.baseRead t q) := by
  unfold State.baseRead
  split
  · exact h.sectorRead
  · exact h

theorem WorkKeeps.storeAll {k : Nat} {t : Tracker} (h : WorkKeeps s₀ s) : WorkFst s₀ (s.storeAll k t) := by
  unfold State.storeAll
  extract_lets r put
  have hput {u t' d hinted c v after} (g : WorkKeeps s₀ u) : WorkFst s₀ (put u t' d hinted c v after) := by
    unfold put
    split
    next s1 e => exact .pair (g.grnPut.of e)
    next s1 e => exact .pair (g.grnPut.of e).setTrk
    next s1 e => exact .pair (g.grnPut.of e).setTrk
  split
  · exact hput h
  split
  · exact .pair h
  extract_lets hinted s'
  have g : WorkKeeps s₀ s' := h.baseRead
  refine .ite (.pair h) (.ite (hput h) ?_)
  split
  · exact hput (.ite g (.ite g.archive g.poisonStored))
  · exact .ite (.pair g.openLine.snd.setTrk) (.pair g.fetch.setTrk)

theorem WorkKeeps.conclude {k : Nat} {t : Tracker} {q : Request} (h : WorkKeeps s₀ s) : WorkFst s₀ (s.conclude k t q) := by
  unfold State.conclude
  extract_lets r x y gaveUp sAns iAns data
  split
  next e1 g e =>
  extract_lets keep e2 s1 s2 s3
  have g1 : WorkKeeps s₀ s1 := .ite h h.setEntry
  have g2 : WorkKeeps s₀ s2 := .ite g1.archive g1
  have g3 : WorkKeeps s₀ s3 := .ite (.bump rfl g2) g2.answer
  exact .pair g3.endTrk.fst.requestOver

theorem WorkKeeps.evicted {k : Nat} {t : Tracker} (h : WorkKeeps s₀ s) : WorkFst s₀ (s.evicted k t) :=
  h.setEntry.endTrk

theorem WorkKeeps.workSettle {k : Nat} (h : WorkKeeps s₀ s) : WorkFst s₀ (s.workSettle k) := by
  unfold State.workSettle
  split
  · exact .pair h
  refine .ite (.pair h) ?_
  split
  · split
    next s1 t1 e => exact .evicted (h.storeAll.of e)
    next s1 e => exact .pair (h.storeAll.of e)
  · refine .ite (.pair ?_) (.ite h.startRead ?_)
    · exact .answer (.requestOver (WorkFst.fst (.endTrk (.ite h.record h.record.setEntry))))
    · split
      next s1 e => exact .pair (h.storeAll.of e)
      next s1 t1 e =>
        have g : WorkKeeps s₀ s1 := h.storeAll.of e
        exact .ite g.conclude (.pair g.setTrk)

theorem WorkKeeps.invalidate {r : Nat} (h : WorkKeeps s₀ s) : WorkFst s₀ (s.invalidate r) := by
  unfold State.invalidate
  split
  · exact .pair h
  · refine .ite (.pair h.inCat) ?_
    simp only
    split
    · exact .pair h.startEvict.fst
    · exact .pair h

theorem WorkKeeps.roomFreed {ctrl : Nat} (h : WorkKeeps s₀ s) : WorkFst s₀ (s.roomFreed ctrl) := by
  unfold State.roomFreed
  refine .pair (.foldl h (fun g => ?_))
  split
  · exact g.setTrk
  · exact g

theorem WorkKeeps.act {w : Work} (h : WorkKeeps s₀ s) : WorkFst s₀ (s.act w) := by
  unfold State.act
  split
  · exact h.present
  · exact h.workHold
  · exact h.workDecide
  · split
    · exact .ite h.workDecide (.pair h)
    · exact .pair h
  · exact h.workSettle
  · exact .pair h
  · split
    · exact .pair h
    · exact .pair h.inCat
  · exact .pair h
  · exact h.invalidate
  · exact h.retryPuts.roomFreed

theorem WorkKeeps.run {n : Nat} {ws : List Work} (h : WorkKeeps s₀ s) : WorkKeeps s₀ (State.run n s ws) := by
  induction n generalizing s ws with
  | zero => exact h
  | succ n ih =>
    cases ws with
    | nil =>
      unfold State.run
      split
      · exact h
      · exact ih h.fields
    | cons w ws => exact ih h.act

theorem WorkKeeps.work {ws : List Work} (h : WorkKeeps s₀ s) : WorkKeeps s₀ (s.work ws) :=
  h.run

theorem WorkKeeps.deadAnswer {k agent reason : Nat} (h : WorkKeeps s₀ s) : WorkKeeps s₀ (s.deadAnswer k agent reason) := by
  unfold State.deadAnswer
  split
  · exact h
  · exact .ite h (.ite h.grnPoison.snd.setTrk h.setTrk)

/-! Movers and carrels. -/

theorem WorkKeeps.setDchan {c : Nat} {v : DmvChan} (h : WorkKeeps s₀ s) : WorkKeeps s₀ (s.setDchan c v) :=
  h.fields

theorem WorkKeeps.showChan {c : Nat} (h : WorkKeeps s₀ s) : WorkKeeps s₀ (s.showChan c) := by
  unfold State.showChan
  split
  · exact .set rfl (.set rfl (.set rfl h))
  · exact .set rfl (.set rfl (.set rfl (.set rfl (.set rfl (.set rfl h)))))

theorem WorkKeeps.setActive {c : Nat} {a : Option Active} (h : WorkKeeps s₀ s) : WorkKeeps s₀ (s.setActive c a) :=
  h.setDchan.showChan

theorem WorkKeeps.clearRings {k c : Nat} (h : WorkKeeps s₀ s) : WorkKeeps s₀ (s.clearRings k c) :=
  h.foldl fun g => .ite (.ite (.setWord rfl g) g) g

theorem WorkKeeps.conclude' {c : Nat} {a : Active} {counted : Bool} (h : WorkKeeps s₀ s) : WorkKeeps s₀ (s.conclude' c a counted) := by
  unfold State.conclude'
  extract_lets status s1 s2 s2' s3
  have g1 : WorkKeeps s₀ s1 := .ite (.set rfl h) h
  have g2 : WorkKeeps s₀ s2 := by
    unfold s2
    split
    · exact g1.carrelCount.carrelCount
    · exact g1
  have g3 : WorkKeeps s₀ s3 := .setActive (.ite g2.count g2)
  split
  · exact .ite g3 g3.clearRings
  · exact g3

theorem WorkKeeps.tryCommit {c : Nat} (h : WorkKeeps s₀ s) : WorkKeeps s₀ (s.tryCommit c) := by
  unfold State.tryCommit
  split
  · exact h
  · refine .ite h (.ite h ?_)
    split
    · exact h.conclude'
    · refine .ite (.ite h h.waitCtx.setActive) (.ite h.useCtx.conclude' ?_)
      split
      · exact .conclude' (h.useCtx.ringWrite.of ‹_›)
      · exact .setActive (.qmgError (h.useCtx.ringWrite.of ‹_›))

theorem WorkKeeps.nextRecords (h : WorkKeeps s₀ s) : WorkKeeps s₀ s.nextRecords :=
  h.foldl fun g => g.foldl .tryCommit

theorem WorkKeeps.dropActive {c : Nat} (h : WorkKeeps s₀ s) : WorkKeeps s₀ (s.dropActive c) := by
  unfold State.dropActive
  split
  · exact h
  · exact h.conclude'.nextRecords

theorem WorkKeeps.makeRecord {a : Active} {status done fa : Nat} (h : WorkKeeps s₀ s) : WorkSnd s₀ (s.makeRecord a status done fa) :=
  .pair (.ite h.fields h)

theorem WorkKeeps.sanitizeEnd {d : BitVec 512} {status : Nat} (h : WorkKeeps s₀ s) : WorkKeeps s₀ (s.sanitizeEnd d status) := by
  unfold State.sanitizeEnd
  split
  · exact h
  · exact .ite h.fields h.fields.fields.commitSrec.owes.record.archive

theorem WorkKeeps.finish {c status done fa : Nat} {a : Active} (h : WorkKeeps s₀ s) : WorkKeeps s₀ (s.finish c a status done fa) := by
  unfold State.finish
  simp only
  exact h.makeRecord.snd.sanitizeEnd.setActive.tryCommit.nextRecords

theorem WorkKeeps.takeBack {k : Nat} (h : WorkKeeps s₀ s) : WorkKeeps s₀ (s.takeBack k) :=
  h.foldl fun g => .ite g g.setDchan.fields

theorem WorkKeeps.frozen {k : Nat} (h : WorkKeeps s₀ s) : WorkKeeps s₀ (s.frozen k) :=
  have shown := WorkKeeps.ite (.fields (.set rfl (.set rfl (.set rfl h)))) (.set rfl h)
  .ite (.record (.fields shown)) (.fields shown)

theorem WorkKeeps.resetActive {c : Nat} {a : Active} (h : WorkKeeps s₀ s) : WorkKeeps s₀ (s.resetActive c a) := by
  unfold State.resetActive
  simp only
  split
  · exact .ite h.finish.dropActive h.finish
  · exact h.finish

theorem WorkKeeps.carrelIrqs {k : Nat} (h : WorkKeeps s₀ s) : WorkKeeps s₀ (s.carrelIrqs k) :=
  h.foldl fun g => .ite (.setCtx (.ite g.ownerIrq g)) (.ite g.ownerIrq g)

theorem WorkKeeps.carrelContained {k : Nat} (h : WorkKeeps s₀ s) : WorkKeeps s₀ (s.carrelContained k) := by
  unfold State.carrelContained
  refine .ite h (.carrelIrqs (.set rfl (.ite (.frozen (.foldl h.takeBack (fun g => ?_))) (.set rfl (.foldl h.takeBack (fun g => ?_))))))
  · split
    · exact .ite g.setActive (.ite g.resetActive g)
    · exact g
  · split
    · exact .ite g.setActive (.ite g.resetActive g)
    · exact g

/-! What REGION_ISOLATED ends. -/

theorem WorkKeeps.holdoverEntry (h : WorkKeeps s₀ s) : WorkKeeps s₀ (holdoverEntry s) :=
  .ite h (.record (.set rfl (.set rfl h)))

theorem WorkKeeps.deadTrackers {agent : Nat} (h : WorkKeeps s₀ s) : WorkKeeps s₀ (deadTrackers s agent) := by
  unfold Machine.deadTrackers
  refine .foldl h (fun g => .work ?_)
  split
  · exact g.deadAnswer.setTrk
  · exact g.deadAnswer

theorem WorkKeeps.deadStatus (h : WorkKeeps s₀ s) : WorkKeeps s₀ (deadStatus s) :=
  h.foldl (.set rfl)

theorem WorkKeeps.showRcl {r : Nat} (h : WorkKeeps s₀ s) : WorkKeeps s₀ (showRcl s r) :=
  .set rfl h

theorem WorkKeeps.startWalks (h : WorkKeeps s₀ s) : WorkKeeps s₀ (startWalks s) :=
  h.foldl fun g => .showRcl (.inCat (.ite g (.set rfl g)))

theorem WorkKeeps.enterDead {agent : Nat} {sc : DeadScope} (h : WorkKeeps s₀ s) : WorkKeeps s₀ (enterDead s agent sc) := by
  unfold Machine.enterDead
  simp only
  split
  · exact .deadTrackers (.startWalks (h.inCat.deadStatus.foldl fun g => .set rfl (.set rfl g)))
  · exact .ite (.deadTrackers (.startWalks (h.inCat.deadStatus.foldl fun g => .set rfl (.set rfl g)))) (.ite h (h.inCat.foldl .showRcl))

theorem WorkKeeps.regionCovered {r : Nat} (h : WorkKeeps s₀ s) : WorkKeeps s₀ (regionCovered s r) :=
  .foldl (h.inCat.inCat.deadStatus.inCat.foldl .enterDead) .showRcl

theorem WorkKeeps.deskLost {r : Nat} (h : WorkKeeps s₀ s) : WorkKeeps s₀ (s.deskLost r) :=
  .foldl (h.inCat.fields.foldl .svcBarEnds) .answerLost

theorem WorkKeeps.carrelsLost {r : Nat} (h : WorkKeeps s₀ s) : WorkKeeps s₀ (s.carrelsLost r) :=
  .foldl (h.foldl .dropActive) .carrelContained

theorem WorkKeeps.timeLost {r : Nat} (h : WorkKeeps s₀ s) : WorkKeeps s₀ (s.timeLost r) :=
  .ite h.holdoverEntry h

theorem WorkKeeps.forcedReleases {r : Nat} (h : WorkKeeps s₀ s) : WorkKeeps s₀ (s.forcedReleases r) :=
  h.foldl fun g => .ite (g.foldl fun k => k.emit.emit) g

end Sys2Proof.Machine
end

section
/-! SUPPORT. A region that becomes ISOLATED (R468). -/
namespace Sys2Proof.Machine
open Sys2Proof

/-- The fields of a port that electrical idle holds at 0 (R468). -/
def idleFields : List Fld := [PRT_PORT_STS.STATE, PRT_DN_TMR.PERST_OUT]

theorem State.portsIdle_cons (s : State) (p : Nat) (ps : List Nat) : s.portsIdle (p :: ps) = (s.portsIdle [p]).portsIdle ps := rfl

theorem State.portsIdle_one_down (s : State) (p : Nat) {f : Fld} (hf : f ∈ idleFields) : (s.portsIdle [p]).get f p = 0 := by
  have hdown : (s.portsIdle [p]).get PRT_PORT_STS.STATE p = 0 ∧ (s.portsIdle [p]).get PRT_DN_TMR.PERST_OUT p = 0 := by
    unfold State.portsIdle
    rw [List.foldl_cons, List.foldl_nil]
    refine ⟨?_, State.get_set_same _ _ _ (by decide)⟩
    rw [State.get_set_apart _ _ (by decide), State.get_set_apart _ _ (by decide), State.get_set_apart _ _ (by decide)]
    exact State.get_set_same _ _ _ (by decide)
  simp only [idleFields, List.mem_cons, List.not_mem_nil, or_false] at hf
  obtain rfl | rfl := hf
  · exact hdown.1
  · exact hdown.2

theorem State.portsIdle_keeps_down (s : State) (ps : List Nat) {p : Nat} {f : Fld} (hf : f ∈ idleFields) (h : s.get f p = 0) :
    (s.portsIdle ps).get f p = 0 := by
  have g := (WorkKeeps.refl s).portsIdle (ps := ps)
  simp only [idleFields, List.mem_cons, List.not_mem_nil, or_false] at hf
  obtain rfl | rfl := hf
  · exact g.port p h
  · exact g.perst p h

/-- Every port of the list is OFF with its DN_PERST_N low (R468, R472). -/
theorem State.portsIdle_down (s : State) {ps : List Nat} {p : Nat} {f : Fld} (hp : p ∈ ps) (hf : f ∈ idleFields) :
    (s.portsIdle ps).get f p = 0 := by
  induction ps generalizing s with
  | nil => exact absurd hp List.not_mem_nil
  | cons q ps ih =>
    rw [State.portsIdle_cons]
    obtain rfl | hp := List.mem_cons.1 hp
    · exact State.portsIdle_keeps_down _ _ hf (s.portsIdle_one_down _ hf)
    · exact ih _ hp

theorem State.portsLost_down (s : State) {r i : Nat} {f : Fld} (hi : i < 16) (hrole : s.role (16 * r + i) ≠ 0) (hf : f ∈ idleFields) :
    (s.portsLost r).get f (16 * r + i) = 0 :=
  State.portsIdle_down _ (List.mem_filter.2 ⟨List.mem_map.2 ⟨i, List.mem_range.2 hi, rfl⟩, by simpa using hrole⟩) hf

/-- What REGION_ISOLATED shows before the work that the region had under way ends. -/
def State.isolatedShown (s : State) (r : Nat) : State :=
  let s1 := (s.portsLost r).setRgn r 2
  ((s1.set CHIP_RGN_CAUSE.VALID r 1).set CHIP_RGN_CAUSE.TIME_MS r (s1.timeOf 4 / 1000000)).set LIB_CORE_STS.STATE r 3

theorem State.isolatedShown_rgn (s : State) (r : Region) : (s.isolatedShown r).rgn r = 2 := by
  unfold State.isolatedShown
  rw [State.rgn_set _ _ _ (by decide), State.rgn_set _ _ _ (by decide), State.rgn_set _ _ _ (by decide),
    State.rgn_setRgn_same _ r.isLt (by decide)]

theorem State.isolatedShown_cause (s : State) (r : Nat) : (s.isolatedShown r).get CHIP_RGN_CAUSE.VALID r = 1 := by
  unfold State.isolatedShown
  rw [State.get_set_apart _ _ (by decide), State.get_set_apart _ _ (by decide)]
  exact State.get_set_same _ _ _ (by decide)

theorem State.isolatedShown_core (s : State) (r : Nat) : (s.isolatedShown r).get LIB_CORE_STS.STATE r = 3 :=
  State.get_set_same _ _ _ (by decide)

theorem State.isolatedShown_port (s : State) {r i : Nat} {f : Fld} (hi : i < 16) (hrole : s.role (16 * r + i) ≠ 0)
    (hf : f ∈ idleFields) : (s.isolatedShown r).get f (16 * r + i) = 0 := by
  have hreg : ∀ g ∈ idleFields, LIB_CORE_STS.STATE.apart g ∧ CHIP_RGN_CAUSE.TIME_MS.apart g ∧ CHIP_RGN_CAUSE.VALID.apart g ∧
      CHIP_RGN_STS.STATE.apart g := by decide
  obtain ⟨hlib, htime, hvalid, hrgn⟩ := hreg f hf
  unfold State.isolatedShown State.setRgn
  rw [State.get_set_apart _ _ hlib, State.get_set_apart _ _ htime, State.get_set_apart _ _ hvalid, State.get_set_apart _ _ hrgn]
  exact s.portsLost_down hi hrole hf

/-- What is shown stays shown while the Loan desk, the carrels, the time source and the forced releases follow. -/
theorem regionIsolated_keeps (s : State) (r : Region) (h : s.rgn r = 1) : WorkKeeps (s.isolatedShown r) (regionIsolated r s) := by
  unfold regionIsolated
  rw [if_neg (by simp [h])]
  exact (WorkKeeps.refl (s.isolatedShown r)).regionCovered.deskLost.carrelsLost.timeLost.forcedReleases

theorem regionIsolated_shows (s : State) (r : Region) (h : s.rgn r = 1) :
    (regionIsolated r s).rgn r = 2 ∧ (regionIsolated r s).flag CHIP_RGN_CAUSE.VALID r = true ∧
      (regionIsolated r s).get LIB_CORE_STS.STATE r = 3 ∧
      ∀ i < 16, s.role (16 * r.val + i) ≠ 0 →
        (regionIsolated r s).get PRT_PORT_STS.STATE (16 * r.val + i) = 0 ∧ (regionIsolated r s).get PRT_DN_TMR.PERST_OUT (16 * r.val + i) = 0 := by
  have hk := regionIsolated_keeps s r h
  refine ⟨?_, ?_, ?_, fun i hi hrole => ⟨?_, ?_⟩⟩
  · rw [hk.rgn r (by simp [s.isolatedShown_rgn r]), s.isolatedShown_rgn r]
  · rw [State.flag, hk.cause, s.isolatedShown_cause]
    rfl
  · rw [← s.isolatedShown_core r]
    exact congrArg (fun w => bits w _ _) (hk.word _ _ (by decide))
  · exact hk.port _ (s.isolatedShown_port hi hrole (by decide))
  · exact hk.perst _ (s.isolatedShown_port hi hrole (by decide))

end Sys2Proof.Machine
end

section
/-! SUPPORT. Self-resets of blocks (R41, R447, R466, R467), the FAULT pins (R476), and the mask and merge window of a common error set (R463). -/
namespace Sys2Proof.Machine
open Sys2Proof

/-! A block's own occurrences. -/

theorem setUnit_of_lt {x : Nat} (h : x < 1024) : setUnit x = x / 256 := by
  unfold setUnit
  omega

theorem setUnit_of_ge {x : Nat} (h : 1024 ≤ x) : setUnit x = 4 := by
  unfold setUnit
  omega

theorem windowGone_of_ge (s : State) {x : Nat} (h : 1024 ≤ x) : s.windowGone (setUnit x) = false := by
  rw [setUnit_of_ge h]
  rfl

theorem classOf_selfReset_lt {x : Nat} (h : x < 1024) : classOf x 31 = 3 := by
  unfold classOf
  rw [if_neg (by decide), if_pos rfl, if_pos (by rw [setUnit_of_lt h]; omega)]

theorem classOf_selfReset_ge {x : Nat} (h : 1024 ≤ x) : classOf x 31 = 4 := by
  unfold classOf
  rw [if_neg (by decide), if_pos rfl, if_neg (by simp [setUnit_of_ge h])]

theorem blockOcc_region_lt {x bit : Nat} (h : x < 1024) : (blockOcc x bit).region = x / 256 := by
  have hu : setUnit x < 4 := by
    rw [setUnit_of_lt h]
    omega
  show (if setUnit x < 4 then setUnit x else _) = _
  rw [if_pos hu, setUnit_of_lt h]

/-- The expiry of a wait in a block is noted, and the block resets itself (R41, R466). -/
theorem State.record_wait (s : State) (x : Nat) : s.record (blockOcc x 30) = (s.noted (blockOcc x 30)).selfReset x := by
  rw [State.record_eq]
  rfl

theorem State.record_wait_resetting (s : State) (x : Nat) : (s.record (blockOcc x 30)).flt.resetting =
    if s.flt.resetting.contains x then s.flt.resetting else s.flt.resetting ++ [x] := by
  rw [s.record_wait, State.selfReset, (Noted.noted s _).flt]

/-- A set of a Librarian's MPU barrier. -/
theorem libSet_exists (r : Region) : setExists (libSet r) = true := by
  revert r
  decide

theorem libSet_unit (r : Region) : setUnit (libSet r) = r := by
  revert r
  decide

/-! BLK_WAIT_TMO. -/

/-- What else the expiry does: an MPU barrier that waits in the block ends. -/
theorem blkWaitTmo_eq (s : State) {x : Nat} (he : setExists x = true) (hw : s.windowGone (setUnit x) = false) :
    blkWaitTmo x s = if setUnit x < 4 && x == libSet (setUnit x) && s.flag LIB_MPU_BAR.BUSY (setUnit x) then
      ((s.record (blockOcc x 30)).set LIB_MPU_BAR.BUSY (setUnit x) 0).set LIB_MPU_BAR.DONE (setUnit x) 1
    else s.record (blockOcc x 30) := by
  have hbusy : (s.record (blockOcc x 30)).flag LIB_MPU_BAR.BUSY (setUnit x) = s.flag LIB_MPU_BAR.BUSY (setUnit x) :=
    congrArg (fun w => bits w _ _ != 0) ((Reports.record s _).word _ _ (by decide))
  unfold blkWaitTmo
  rw [if_pos (by simp [he, hw])]
  simp only [hbusy]

theorem blkWaitTmo_onlyRegs (s : State) {x : Nat} (he : setExists x = true) (hw : s.windowGone (setUnit x) = false) :
    onlyRegs (s.record (blockOcc x 30)) (blkWaitTmo x s) := by
  rw [blkWaitTmo_eq s he hw]
  split <;> rfl

theorem blkWaitTmo_recorded (s : State) {x : Nat} (he : setExists x = true) (hw : s.windowGone (setUnit x) = false) :
    (blkWaitTmo x s).stsBit x 30 :=
  (State.stsBit_of_ces (blkWaitTmo_onlyRegs s he hw).ces _ _).2 (s.record_stsBit (blockOcc x 30) (show 30 < 32 by decide) hw)

theorem blkWaitTmo_resetting (s : State) {x : Nat} (he : setExists x = true) (hw : s.windowGone (setUnit x) = false) :
    (blkWaitTmo x s).flt.resetting = if s.flt.resetting.contains x then s.flt.resetting else s.flt.resetting ++ [x] := by
  rw [(blkWaitTmo_onlyRegs s he hw).flt, s.record_wait_resetting]

theorem blkWaitTmo_quiet (s : State) {x : Nat} (he : setExists x = true) (hw : s.windowGone (setUnit x) = false) :
    (blkWaitTmo x s).quiet = s.quiet :=
  ((congrArg State.quiet (blkWaitTmo_onlyRegs s he hw) :)).trans (Reports.record s _).quiet

/-- The MPU barrier of a Librarian ends with the expiry in its block (R45). -/
theorem blkWaitTmo_barrier (s : State) (r : Region) (hw : s.windowGone r = false) (hb : s.flag LIB_MPU_BAR.BUSY r = true) :
    (blkWaitTmo (libSet r) s).flag LIB_MPU_BAR.BUSY r = false ∧ (blkWaitTmo (libSet r) s).flag LIB_MPU_BAR.DONE r = true := by
  rw [blkWaitTmo_eq s (libSet_exists r) (by rw [libSet_unit, hw]), libSet_unit, if_pos (by simp [hb, r.isLt])]
  have hbusy (u : State) : (u.set LIB_MPU_BAR.BUSY r 0).get LIB_MPU_BAR.BUSY r = 0 := State.get_set_same _ _ _ (by decide)
  have hdone (u : State) : (u.set LIB_MPU_BAR.DONE r 1).get LIB_MPU_BAR.DONE r = 1 := State.get_set_same _ _ _ (by decide)
  refine ⟨?_, ?_⟩
  · rw [State.flag_set_apart _ _ (by decide), State.flag, hbusy]
    rfl
  · rw [State.flag, hdone]
    rfl

/-! SELF_RESET_TMO. -/

theorem selfResetTmo_eq (s : State) {x : Nat} (hx : s.flt.resetting.contains x = true) (hw : s.windowGone (setUnit x) = false) :
    selfResetTmo x s = s.record (blockOcc x 31) := by
  unfold selfResetTmo
  rw [if_pos (by simp only [hx, hw]; rfl)]

theorem selfResetTmo_recorded (s : State) {x : Nat} (hx : s.flt.resetting.contains x = true) (hw : s.windowGone (setUnit x) = false) :
    (selfResetTmo x s).stsBit x 31 := by
  rw [selfResetTmo_eq s hx hw]
  exact s.record_stsBit (blockOcc x 31) (show 31 < 32 by decide) hw

/-- A self-reset in a region that does not end isolates it, where another region runs (R41, R42). -/
theorem selfResetTmo_isolates (s : State) {x : Nat} {q : Region} (hx : s.flt.resetting.contains x = true) (hlt : x < 1024)
    (h0 : s.rgn (x / 256) = 0) (hf : s.fatal = false) (hq : q.val ≠ x / 256) (hq0 : s.rgn q = 0) :
    (selfResetTmo x s).stsBit x 31 ∧ (selfResetTmo x s).rgn (x / 256) = 1 ∧ (selfResetTmo x s).rgn q = 0 ∧
      (selfResetTmo x s).fatal = false := by
  have hw : s.windowGone (setUnit x) = false := by
    rw [setUnit_of_lt hlt]
    simp [State.windowGone, h0]
  have hother : [0, 1, 2, 3].any (fun k => k != x / 256 && s.rgn k == 0) = true :=
    List.any_eq_true.2 ⟨q.val, by have := q.isLt; simp; omega, by simp [hq, hq0]⟩
  have hr := blockOcc_region_lt (bit := 31) hlt
  have hiso := s.record_isolates (blockOcc x 31) (classOf_selfReset_lt hlt) hf (by omega) (by rw [hr, h0]) (by rwa [hr])
  rw [hr] at hiso
  obtain ⟨h1, hne, hfatal⟩ := hiso
  refine ⟨selfResetTmo_recorded s hx hw, ?_⟩
  rw [selfResetTmo_eq s hx hw]
  exact ⟨h1, (hne q hq).trans hq0, hfatal⟩

/-- One of a chip-scope block is CHIP_FATAL (R41, R472). -/
theorem selfResetTmo_fatal (s : State) {x : Nat} (hx : s.flt.resetting.contains x = true) (hge : 1024 ≤ x) (hf : s.fatal = false) :
    (selfResetTmo x s).stsBit x 31 ∧ (selfResetTmo x s).fatal = true ∧ (selfResetTmo x s).flt.pins = 1 := by
  have hw := windowGone_of_ge s hge
  have hc : (blockOcc x 31).cls = 4 := classOf_selfReset_ge hge
  refine ⟨selfResetTmo_recorded s hx hw, ?_⟩
  rw [selfResetTmo_eq s hx hw, State.record_eq, if_neg (by simp [hc]), if_pos hc]
  exact ⟨State.chipFatal_fatal .., State.chipFatal_pins _ _ _ ((Noted.noted s _).fatal.trans hf)⟩

/-! BLOCK_RESET_DONE. -/

theorem State.sw_flt (s : State) (f : SwcState → SwcState) : (s.sw f).flt = s.flt := rfl

/-- Setting one field in turn at several places changes registers alone. -/
theorem State.foldl_set_onlyRegs (s : State) (f : Fld) (v : Nat) (place : Nat → Nat) (l : List Nat) :
    onlyRegs s (l.foldl (fun s c => s.set f (place c) v) s) := by
  refine .foldl _ _ (fun s c => ?_) s
  rfl

theorem State.emptyInput_flt (s : State) (p : Nat) : (s.emptyInput p).flt = s.flt := by
  rw [State.emptyInput, State.sw_flt, (State.foldl_set_onlyRegs _ _ _ (fun c => 8 * p + c) _).flt]
  rfl

theorem State.switchCleared_flt (s : State) (r : Nat) : (s.switchCleared r).flt = s.flt := by
  unfold State.switchCleared
  extract_lets s1
  have h1 : s1.flt = s.flt :=
    List.foldlRecOn (motive := fun t : State => t.flt = s.flt) _ _ rfl fun t ht i _ => (t.emptyInput_flt _).trans ht
  rw [(State.foldl_set_onlyRegs _ _ _ (fun i => 16 * r + i) _).flt, State.sw_flt, h1]

/-- Clearing a block leaves the fault driver and the self-resets alone. -/
theorem State.blockCleared_flt (s : State) (x : Nat) : (s.blockCleared x).flt = s.flt := by
  unfold State.blockCleared
  extract_lets r i
  split
  · split
    · rfl
    · rfl
    · exact s.switchCleared_flt r
    · rfl
  · rfl

theorem blockResetDone_eq (s : State) {x : Nat} (hx : s.flt.resetting.contains x = true) (hw : s.windowGone (setUnit x) = false) :
    blockResetDone x s = { s.blockCleared x with
      flt := { s.flt with resetting := s.flt.resetting.filter (fun y => y != x) } } := by
  unfold blockResetDone
  simp only [hx, hw, if_true, Bool.false_eq_true, if_false, s.blockCleared_flt]

theorem blockResetDone_gone (s : State) {x : Nat} (hx : s.flt.resetting.contains x = true) (hw : s.windowGone (setUnit x) = true) :
    blockResetDone x s = { s with flt := { s.flt with resetting := s.flt.resetting.filter (fun y => y != x) } } := by
  unfold blockResetDone
  simp only [hx, hw, if_true]

/-! FAULT_PIN_MISMATCH. -/

/-- A corrected error of the Keeper is noted, and no class acts. -/
theorem State.record_kpr (s : State) {bit : Nat} (h : bit < 2) : s.record (blockOcc setKpr bit) = s.noted (blockOcc setKpr bit) :=
  s.record_of_mild _ (by
    have hc : ∀ b < 2, classOf setKpr b < 2 := by decide
    exact hc bit h)

theorem State.record_kpr_stsBit (s : State) {bit : Nat} (h : bit < 2) : (s.record (blockOcc setKpr bit)).stsBit setKpr bit :=
  s.record_stsBit (blockOcc setKpr bit) (show bit < 32 by omega) (windowGone_of_ge s (x := setKpr) (by decide))

/-! MASK of a common error set. -/

/-- A change that an interrupt event of set x may make: toward the manager and the BMC, and the window of x. -/
structure MaskMoves (x : Nat) (s t : State) : Prop where
  rest : { t with ces := s.ces, out := s.out, i3c := s.i3c } = s
  mask : (t.cesSet x).mask = (s.cesSet x).mask
  sts : (t.cesSet x).sts = (s.cesSet x).sts
  first : (t.cesSet x).first = (s.cesSet x).first
  count : (t.cesSet x).count = (s.cesSet x).count
  others : ∀ y, y ≠ x → t.cesSet y = s.cesSet y

theorem MaskMoves.refl (x : Nat) (s : State) : MaskMoves x s s := ⟨rfl, rfl, rfl, rfl, rfl, fun _ _ => rfl⟩

theorem MaskMoves.trans {x : Nat} {s t u : State} (h : MaskMoves x s t) (g : MaskMoves x t u) : MaskMoves x s u where
  rest := (congrArg (fun v : State => { v with ces := s.ces, out := s.out, i3c := s.i3c }) g.rest).trans h.rest
  mask := g.mask.trans h.mask
  sts := g.sts.trans h.sts
  first := g.first.trans h.first
  count := g.count.trans h.count
  others y hy := (g.others y hy).trans (h.others y hy)

theorem MaskMoves.ite {x : Nat} {s a b : State} {c : Prop} [Decidable c] (ha : MaskMoves x s a) (hb : MaskMoves x s b) :
    MaskMoves x s (if c then a else b) := by
  split
  · exact ha
  · exact hb

theorem MaskMoves.foldl {β : Type} {x : Nat} (l : List β) (f : State → β → State) (h : ∀ s b, MaskMoves x s (f s b)) (s : State) :
    MaskMoves x s (l.foldl f s) := by
  induction l generalizing s with
  | nil => exact .refl x s
  | cons b l ih => exact (h s b).trans (ih _)

theorem MaskMoves.emit (x : Nat) (s : State) (m : Msg) : MaskMoves x s (s.emit m) := ⟨rfl, rfl, rfl, rfl, rfl, fun _ _ => rfl⟩

theorem MaskMoves.ibiPend (x : Nat) (s : State) (k : Nat) : MaskMoves x s (s.ibiPend k) :=
  .ite ⟨rfl, rfl, rfl, rfl, rfl, fun _ _ => rfl⟩ (.refl x s)

/-- The window and the merge bit of a set are its own. -/
theorem MaskMoves.setCes (x : Nat) (s : State) (window merge : Bool) :
    MaskMoves x s (s.setCes x { s.cesSet x with window := window, merge := merge }) where
  rest := rfl
  mask := by rw [State.cesSet_setCes_same]
  sts := by rw [State.cesSet_setCes_same]
  first := by rw [State.cesSet_setCes_same]
  count := by rw [State.cesSet_setCes_same]
  others _ hy := s.cesSet_setCes_ne _ hy

theorem MaskMoves.interrupt (x : Nat) (s : State) : MaskMoves x s (s.interrupt x) := by
  unfold State.interrupt
  extract_lets c s1
  have h1 : MaskMoves x s s1 := .ite (.ite (.setCes x s c.window true) ((MaskMoves.setCes x s true c.merge).trans (.emit ..))) (.refl x s)
  exact .ite (h1.trans (.ibiPend ..)) h1

/-- After the MASK word is written, its events follow (R463, R464). -/
theorem cesMask_moves (s : State) (x : Nat) (m : Word) : MaskMoves x (s.setCes x { s.cesSet x with mask := m }) (cesMask x m s) :=
  .foldl _ _ (fun _ _ => (MaskMoves.interrupt ..).trans (.emit ..)) _

/-- With no bit of STS unmasked by the write, there is no event. -/
theorem cesMask_idle (s : State) (x : Nat) (m : Word) (h : (s.cesSet x).mask &&& ~~~m &&& (s.cesSet x).sts = 0) :
    cesMask x m s = s.setCes x { s.cesSet x with mask := m } := by
  have hnone : (List.range 32).filter (fun e => bit (s.cesSet x).mask e && !bit m e && bit (s.cesSet x).sts e) = [] := by
    refine List.filter_eq_nil_iff.2 fun e he => ?_
    have hlt : e < 32 := List.mem_range.1 he
    have hbit := congrArg (fun w : Word => w.getLsbD e) h
    simpa [bit, hlt] using hbit
  unfold cesMask
  simp only [hnone, List.foldl_nil]

theorem cesMaskWrite_eq (s : State) {p : Path} {x : Nat} (m : Word) (he : setExists x = true) :
    cesMaskWrite p x m s = s.commandListed p (setUnit x == 4) x (cesMask x m) := by
  unfold cesMaskWrite
  rw [if_pos he]

/-- A path that may not write the register is discarded and counted, but for I3C (R497, R512). -/
theorem State.commandListed_refused (s : State) {p : Path} {keeper : Bool} (set : Nat) (f : State → State)
    (h : s.mayWriteListed p keeper = false) : s.commandListed p keeper set f =
      if s.windowGone (setUnit set) || s.unheard p then s else if p = .i3c then s else s.discard set := by
  unfold State.commandListed
  rw [h]
  rfl

theorem State.commandListed_heard (s : State) {p : Path} {keeper : Bool} {set : Nat} (f : State → State)
    (hw : s.windowGone (setUnit set) = false) (hu : s.unheard p = false) (h : s.mayWriteListed p keeper = true) :
    s.commandListed p keeper set f = f s := by
  unfold State.commandListed
  rw [hw, hu, h]
  rfl

/-! The end of a merge window. -/

theorem msixMergeEnd_closed (s : State) {x : Nat} (h : (s.cesSet x).window = false) : msixMergeEnd x s = s := by
  unfold msixMergeEnd
  simp only [h, Bool.not_false, if_true]

/-- Whether a window that ends sends what it merged (R463). -/
def State.mergeSends (s : State) (x : Nat) : Bool :=
  (s.cesSet x).merge && (s.cesSet x).route.getLsbD 0 && s.managerPort.any (fun p => s.inL0 p) && !s.windowGone (setUnit x)

theorem msixMergeEnd_sends (s : State) {x : Nat} (h : (s.cesSet x).window = true) (hs : s.mergeSends x = true) :
    msixMergeEnd x s = (s.setCes x { s.cesSet x with merge := false }).emit (.msix 64 (bits (s.cesSet x).route 2 11)) := by
  unfold State.mergeSends at hs
  unfold msixMergeEnd
  simp only [h, hs, Bool.not_true, Bool.false_eq_true, if_true, if_false]

theorem msixMergeEnd_closes (s : State) {x : Nat} (h : (s.cesSet x).window = true) (hs : s.mergeSends x = false) :
    msixMergeEnd x s = s.setCes x { s.cesSet x with window := false, merge := false } := by
  unfold State.mergeSends at hs
  unfold msixMergeEnd
  simp only [h, hs, Bool.not_true, Bool.false_eq_true, if_false]

end Sys2Proof.Machine
end

section
/-! SUPPORT. A retained copy in its area (R471): what a wiped range and a list of bytes read as, and that all that is copied lies
within the area. -/
namespace Sys2Proof.Machine
open Sys2Proof

/-! Bytes of a memory. -/

theorem Tab.find_filter {α : Type} (t : Tab α) (keep : Nat → Bool) (k : Nat) :
    Tab.find (t.filter (fun e => keep e.1)) k = if keep k then Tab.find t k else none := by
  induction t with
  | nil => simp [Tab.find]
  | cons e t ih =>
    obtain ⟨k', v⟩ := e
    by_cases hk : k = k'
    · subst hk
      by_cases h : keep k <;> simp [Tab.find, h, ih]
    · by_cases h : keep k' <;> simp [Tab.find, h, hk, ih]

theorem peek_wipeRange (m : List Host.Cell) (lo hi k : Nat) : peek (wipeRange m lo hi) k = if k < lo || hi ≤ k then peek m k else 0 := by
  unfold peek Tab.get wipeRange
  rw [Tab.find_filter m (fun a => a < lo || hi ≤ a)]
  split <;> rfl

theorem peek_wipeRange_in (m : List Host.Cell) {lo hi k : Nat} (hlo : lo ≤ k) (hhi : k < hi) : peek (wipeRange m lo hi) k = 0 := by
  rw [peek_wipeRange, if_neg (by simp; omega)]

theorem peek_wipeRange_out (m : List Host.Cell) {lo hi k : Nat} (h : k < lo ∨ hi ≤ k) : peek (wipeRange m lo hi) k = peek m k := by
  rw [peek_wipeRange, if_pos (by simpa using h)]

theorem peek_pokes_in (m : List Host.Cell) (a : Nat) {bs : List Byte} {i : Nat} (h : i < bs.length) :
    peek (pokes m a bs) (a + i) = bs.getD i 0 := by
  induction bs generalizing m a i with
  | nil => exact absurd h (Nat.not_lt_zero _)
  | cons b bs ih =>
    cases i with
    | zero => rw [pokes, peek_pokes_out _ _ _ _ (.inl (by omega)), Nat.add_zero, peek_poke_same, List.getD_cons_zero]
    | succ i => rw [pokes, show a + (i + 1) = a + 1 + i by omega, ih _ _ (by simpa using h), List.getD_cons_succ]

/-- Several lists of bytes, each at an offset from a, none of which covers the byte. -/
theorem peek_foldl_pokes_out (m : List Host.Cell) (a k : Nat) {parts : List (Nat × List Byte)}
    (h : ∀ y ∈ parts, k < a + y.1 ∨ a + y.1 + y.2.length ≤ k) :
    peek (parts.foldl (fun m y => pokes m (a + y.1) y.2) m) k = peek m k :=
  List.foldlRecOn (motive := fun m' => peek m' k = peek m k) _ _ rfl fun m' hm y hy => (peek_pokes_out m' _ _ _ (h y hy)).trans hm

/-! What a copy takes. -/

theorem length_leBytes (n v : Nat) : (leBytes n v).length = n := by
  rw [leBytes, List.length_map, List.length_range]

theorem retHeader_length (e : RetPend) (n : Nat) : (retHeader e n).length = 24 := by
  simp only [retHeader, List.length_append, length_leBytes]

theorem length_flatMap_const {α β : Type} (l : List α) {f : α → List β} {n : Nat} (h : ∀ a ∈ l, (f a).length = n) :
    (l.flatMap f).length = l.length * n := by
  rw [List.length_flatMap, List.map_congr_left h, List.map_const', List.sum_replicate, smul_eq_mul]

theorem State.setBytes_length (s : State) (x : Nat) : (s.setBytes x).length = 64 :=
  length_flatMap_const (n := 4) _ fun _ _ => length_leBytes ..

theorem State.latestRecords_length (s : State) (r : Nat) : (s.latestRecords r).length ≤ 12288 := by
  unfold State.latestRecords
  rw [List.length_drop]
  omega

/-- An offset and its bytes lie in the area, after the header. -/
def Fits (a : Nat) (y : Nat × List Byte) : Prop := 0x40 ≤ y.1 ∧ y.1 + y.2.length ≤ areaSize a

theorem rgnInstances_le (b : Nat) : rgnInstances b ≤ 16 := by
  unfold rgnInstances
  split_ifs <;> omega

theorem State.areaParts_region_fit (s : State) {a : Nat} (ha : a < 4) : ∀ y ∈ s.areaParts a, Fits a y := by
  have hsize : areaSize a = 0x70000 := if_pos ha
  intro y hy
  rw [State.areaParts, if_pos ha] at hy
  simp only [List.mem_append, List.mem_flatMap, List.mem_map, List.mem_range, List.mem_singleton] at hy
  unfold Fits
  rw [hsize]
  obtain ((⟨b, hb, i, hi, rfl⟩ | ⟨x, -, rfl⟩) | ⟨e, he, rfl⟩) | rfl := hy
  · have := rgnInstances_le b
    simp only [s.setBytes_length]
    omega
  · simp only [length_leBytes]
    omega
  · simp only [length_leBytes]
    omega
  · have hn := s.latestRecords_length a
    have hlen : ((s.latestRecords a).flatMap (leBytes 32)).length = (s.latestRecords a).length * 32 :=
      length_flatMap_const _ fun _ _ => length_leBytes ..
    simp only [hlen]
    omega

theorem State.areaParts_chip_fit (s : State) {a : Nat} (ha : ¬ a < 4) : ∀ y ∈ s.areaParts a, Fits a y := by
  have hsize : areaSize a = 0x380 := if_neg ha
  intro y hy
  rw [State.areaParts, if_neg ha] at hy
  simp only [List.mem_map, List.mem_range] at hy
  obtain ⟨b, hb, rfl⟩ := hy
  unfold Fits
  simp only [hsize, s.setBytes_length]
  omega

theorem State.areaParts_fit (s : State) (a : Nat) : ∀ y ∈ s.areaParts a, Fits a y := by
  by_cases ha : a < 4
  · exact s.areaParts_region_fit ha
  · exact s.areaParts_chip_fit ha

theorem areaSize_ge (a : Nat) : 0x40 ≤ areaSize a := by
  unfold areaSize
  split <;> omega

/-! The copy. -/

/-- The retained SRAM once a copy has ended. -/
def State.copyRet (s : State) (e : RetPend) (n : Nat) : List Host.Cell :=
  let at_ := areaAt e.area
  let full := (s.areaParts e.area).foldl (fun m y => pokes m (at_ + y.1) y.2) (wipeRange s.ret at_ (at_ + areaSize e.area))
  pokes (wipeRange full (at_ + n) (at_ + areaSize e.area)) at_ (retHeader e n)

/-- No other area changes. -/
theorem State.peek_copyRet_out (s : State) (e : RetPend) (n : Nat) {k : Nat}
    (h : k < areaAt e.area ∨ areaAt e.area + areaSize e.area ≤ k) (hn : n ≤ areaSize e.area) : peek (s.copyRet e n) k = peek s.ret k := by
  have hsize := areaSize_ge e.area
  have hparts := s.areaParts_fit e.area
  unfold State.copyRet
  rw [peek_pokes_out _ _ _ _ (by rw [retHeader_length]; omega)]
  by_cases hk : k < areaAt e.area + n ∨ areaAt e.area + areaSize e.area ≤ k
  · rw [peek_wipeRange_out _ hk, peek_foldl_pokes_out _ _ _ ?_, peek_wipeRange_out _ h]
    intro y hy
    obtain ⟨hlo, hhi⟩ := hparts y hy
    omega
  · omega

/-- The area begins with the header, and its reserved bytes read 0. -/
theorem State.peek_copyRet_header (s : State) (e : RetPend) (n : Nat) {i : Nat} (hi : i < 28) :
    peek (s.copyRet e n) (areaAt e.area + i) = (retHeader e n).getD i 0 := by
  have hlen := retHeader_length e n
  have hsize := areaSize_ge e.area
  have hparts := s.areaParts_fit e.area
  unfold State.copyRet
  by_cases hh : i < 24
  · exact peek_pokes_in _ _ (by omega)
  · rw [peek_pokes_out _ _ _ _ (by omega), List.getD_eq_default _ _ (by omega)]
    by_cases hk : i < n
    · rw [peek_wipeRange_out _ (.inl (by omega)), peek_foldl_pokes_out _ _ _ ?_, peek_wipeRange_in _ (by omega) (by omega)]
      intro y hy
      obtain ⟨hlo, -⟩ := hparts y hy
      omega
    · exact peek_wipeRange_in _ (by omega) (by omega)

/-- A copy that has ended, before the ECC of its words is reported. -/
def State.areaCopied (s : State) (e : RetPend) (rest : List RetPend) (n : Nat) : State :=
  ({ s with ret := s.copyRet e n, flt := { s.flt with retPend := rest } } : State).setBits KPR_RET_STS.VALID 0 (2 ^ e.area)

theorem retainedCopyDone_eq (s : State) {e : RetPend} {rest : List RetPend} (x : RetCopy) (h : s.flt.retPend = e :: rest) :
    retainedCopyDone x s = if x.corrected then (s.areaCopied e rest (min x.copied (areaSize e.area))).record (blockOcc setKpr 1)
      else s.areaCopied e rest (min x.copied (areaSize e.area)) := by
  unfold retainedCopyDone
  rw [h]
  rfl

theorem State.areaCopied_valid (s : State) (e : RetPend) (rest : List RetPend) (n : Nat) (he : e.area < 5) :
    ((s.areaCopied e rest n).get KPR_RET_STS.VALID 0).testBit e.area = true := by
  rw [State.areaCopied, State.testBit_setBits _ _ _ _ (by decide), Nat.testBit_two_pow_self, Bool.and_true,
    decide_eq_true (show e.area < KPR_RET_STS.VALID.w from he), Bool.or_true]

/-- A corrected word of the SRAM is noted, and the copy stands. -/
theorem retainedCopyDone_corrected (s : State) {e : RetPend} {rest : List RetPend} (n : Nat) (h : s.flt.retPend = e :: rest)
    (he : e.area < 5) : (retainedCopyDone ⟨n, true⟩ s).flt.retPend = rest ∧
      ((retainedCopyDone ⟨n, true⟩ s).get KPR_RET_STS.VALID 0).testBit e.area = true ∧ (retainedCopyDone ⟨n, true⟩ s).stsBit setKpr 1 := by
  rw [retainedCopyDone_eq s _ h, if_pos rfl]
  refine ⟨?_, ?_, State.record_kpr_stsBit _ (by decide)⟩
  · rw [State.record_kpr _ (by decide), (Noted.noted _ _).flt]
    rfl
  · rw [State.record_kpr _ (by decide), ← s.areaCopied_valid e rest (min n (areaSize e.area)) he]
    exact congrArg (fun w => (bits w _ _).testBit _) ((Noted.noted _ _).word _ _ (by decide))

theorem retainedCopyDone_copies (s : State) {e : RetPend} {rest : List RetPend} (n : Nat) (h : s.flt.retPend = e :: rest)
    (he : e.area < 5) :
    (retainedCopyDone ⟨n, false⟩ s).flt.retPend = rest ∧
      ((retainedCopyDone ⟨n, false⟩ s).get KPR_RET_STS.VALID 0).testBit e.area = true ∧
      (∀ i < 28, peek (retainedCopyDone ⟨n, false⟩ s).ret (areaAt e.area + i) = (retHeader e (min n (areaSize e.area))).getD i 0) ∧
      (∀ k, (k < areaAt e.area ∨ areaAt e.area + areaSize e.area ≤ k) → peek (retainedCopyDone ⟨n, false⟩ s).ret k = peek s.ret k) ∧
      wordsKept s (retainedCopyDone ⟨n, false⟩ s) [.KPR_RET_STS] ∧
      { retainedCopyDone ⟨n, false⟩ s with regs := s.regs, flt := s.flt, ret := s.ret } = s := by
  rw [retainedCopyDone_eq s _ h, if_neg Bool.false_ne_true]
  exact ⟨rfl, s.areaCopied_valid e rest _ he, fun i hi => s.peek_copyRet_header e _ hi,
    fun k hk => s.peek_copyRet_out e _ hk (Nat.min_le_right _ _),
    fun r i hr => State.word_set_reg _ _ (List.ne_of_not_mem_cons hr), rfl⟩

end Sys2Proof.Machine
end

section
/-! SUPPORT. The theorem that settles O54. -/
namespace Sys2Proof.Machine
open Sys2Proof

/-- Where nothing stands that a command of this family acts on, it does nothing. -/
theorem faultCommands_idle (s : State) (r : Region) (x n : Nat) (p : Path) (m : Word) :
    (s.rgn r ≠ 1 → regionIsolated r s = s) ∧ (setExists x = false ∨ s.windowGone (setUnit x) = true → blkWaitTmo x s = s) ∧
      (s.flt.resetting.contains x = false ∨ s.windowGone (setUnit x) = true → selfResetTmo x s = s) ∧
      (s.flt.resetting.contains x = false → blockResetDone x s = s) ∧
      (s.flt.retPend = [] → retainedCopyDone ⟨n, false⟩ s = s ∧ retainedCopyDone ⟨n, true⟩ s = s) ∧
      (setExists x = false → cesMaskWrite p x m s = s) := by
  refine ⟨fun h => if_pos (by simpa using h), fun h => if_neg ?_, fun h => if_neg ?_, fun h => if_neg ?_, fun h => ?_, fun h => if_neg ?_⟩
  · obtain h | h := h <;> simp [h]
  · obtain h | h := h
    · rw [h]
      exact Bool.false_ne_true
    · simp [h]
  · rw [h]
    exact Bool.false_ne_true
  · unfold retainedCopyDone
    rw [h]
    exact ⟨rfl, rfl⟩
  · rw [h]
    exact Bool.false_ne_true

/-- A MASK write of a path that may write it takes its word and leaves STS (R463). -/
theorem cesMaskWrite_takes (s : State) {p : Path} {x : Nat} (m : Word) (he : setExists x = true)
    (hw : s.windowGone (setUnit x) = false) (hu : s.unheard p = false) (hmay : s.mayWriteListed p (setUnit x == 4) = true) :
    ∃ t, cesMaskWrite p x m s = t ∧ (t.cesSet x).mask = m ∧ (t.cesSet x).sts = (s.cesSet x).sts ∧
      (t.cesSet x).first = (s.cesSet x).first ∧ (t.cesSet x).count = (s.cesSet x).count ∧ (∀ y, y ≠ x → t.cesSet y = s.cesSet y) ∧
      ((s.cesSet x).mask &&& ~~~m &&& (s.cesSet x).sts = 0 → t = s.setCes x { s.cesSet x with mask := m }) ∧
      { t with ces := s.ces, out := s.out, i3c := s.i3c } = s := by
  have hmoves := cesMask_moves s x m
  have hwritten := s.cesSet_setCes_same x { s.cesSet x with mask := m }
  refine ⟨cesMask x m s, (cesMaskWrite_eq s m he).trans (s.commandListed_heard _ hw hu hmay), ?_, ?_, ?_, ?_, fun y hy => ?_,
    cesMask_idle s x m, ?_⟩
  · rw [hmoves.mask, hwritten]
  · rw [hmoves.sts, hwritten]
  · rw [hmoves.first, hwritten]
  · rw [hmoves.count, hwritten]
  · rw [hmoves.others y hy, s.cesSet_setCes_ne _ hy]
  · exact (congrArg (fun v : State => { v with ces := s.ces, out := s.out, i3c := s.i3c }) hmoves.rest :)

/-- A merge window ends with the one message of what it merged, or closes (R463). -/
theorem msixMergeEnd_ends (s : State) (x : Nat) (h : (s.cesSet x).window = true) :
    ((s.cesSet x).merge = false → msixMergeEnd x s = s.setCes x { s.cesSet x with window := false, merge := false }) ∧
      ((s.cesSet x).merge = true → (s.cesSet x).route.getLsbD 0 = true → s.managerPort.any (fun p => s.inL0 p) = true →
        s.windowGone (setUnit x) = false →
        msixMergeEnd x s = (s.setCes x { s.cesSet x with merge := false }).emit (.msix 64 (bits (s.cesSet x).route 2 11))) ∧
      ((s.cesSet x).merge = true → (s.cesSet x).route.getLsbD 0 = false ∨ s.managerPort.any (fun p => s.inL0 p) = false ∨
        s.windowGone (setUnit x) = true → msixMergeEnd x s = s.setCes x { s.cesSet x with window := false, merge := false }) := by
  refine ⟨fun hm => msixMergeEnd_closes s h ?_, fun hm hr hp hw => msixMergeEnd_sends s h ?_,
    fun _ hno => msixMergeEnd_closes s h ?_⟩
  · simp only [State.mergeSends, hm, Bool.false_and]
  · simp only [State.mergeSends, hm, hr, hp, hw, Bool.not_false, Bool.and_self]
  · unfold State.mergeSends
    obtain hr | hp | hw := hno
    · rw [hr, Bool.and_false, Bool.false_and, Bool.false_and]
    · rw [hp, Bool.and_false, Bool.false_and]
    · rw [hw, Bool.not_true, Bool.and_false]

/-- Settles O54, clause by clause: isolation by what its follow-up work keeps, the errors by what recording does, the copy by the bytes of
its area. -/
theorem faultCommands : Obligations.FaultCommands := by
  unfold Obligations.FaultCommands
  refine ⟨fun s r h => ⟨_, rfl, regionIsolated_shows s r h⟩, fun s r x n p m => ?_, fun s r hw hb => ?_, fun s x he hw hx => ?_,
    fun s x hx hw => ⟨_, rfl, selfResetTmo_eq s hx hw, selfResetTmo_recorded s hx hw⟩, fun s x he hw hx => ?_,
    fun s x q hx hlt h0 hf hq hq0 => ⟨_, rfl, selfResetTmo_isolates s hx hlt h0 hf hq hq0⟩,
    fun s x hx hge hf => ⟨_, rfl, selfResetTmo_fatal s hx hge hf⟩, fun s x hx hw => ?_,
    fun s n e rest h he => ⟨⟨_, rfl, retainedCopyDone_corrected s n h he⟩, _, rfl, retainedCopyDone_copies s n h he⟩, fun s => ?_,
    fun s p x m he hw hu hmay => ?_, fun s x h => ?_, fun s p k m he hmay => ?_⟩
  · obtain ⟨hiso, hwait, hself, hdone, hcopy, hmask⟩ := faultCommands_idle s r x n p m
    exact ⟨fun h => congrArg Host.Outcome.next (hiso h), fun h => congrArg Host.Outcome.next (hwait h),
      fun h => congrArg Host.Outcome.next (hself h), fun h => congrArg Host.Outcome.next (hdone h),
      fun hx hw => congrArg Host.Outcome.next (blockResetDone_gone s hx hw),
      fun h => ⟨congrArg Host.Outcome.next (hcopy h).1, congrArg Host.Outcome.next (hcopy h).2⟩,
      fun h => congrArg Host.Outcome.next (hmask h), fun h => congrArg Host.Outcome.next (msixMergeEnd_closed s h)⟩
  · have hsts := blkWaitTmo_recorded s (libSet_exists r) (by rw [libSet_unit, hw])
    exact ⟨_, rfl, hsts, blkWaitTmo_barrier s r hw hb⟩
  · exact ⟨_, rfl, blkWaitTmo_recorded s he hw, by rw [blkWaitTmo_resetting s he hw, if_pos hx]⟩
  · exact ⟨_, rfl, blkWaitTmo_recorded s he hw, by rw [blkWaitTmo_resetting s he hw, hx, if_neg Bool.false_ne_true],
      blkWaitTmo_quiet s he hw⟩
  · exact ⟨_, congrArg Host.Outcome.next (blockResetDone_eq s hx hw), rfl, rfl⟩
  · have hnoted := s.record_kpr (bit := 0) (by decide)
    exact ⟨_, rfl, s.record_kpr_stsBit (by decide), (congrArg (fun t : State => t.flt) hnoted).trans (Noted.noted s _).flt,
      (congrArg (fun t : State => t.fatal) hnoted).trans (Noted.noted s _).fatal, (Reports.record s _).quiet⟩
  · obtain ⟨t, ht, hrest⟩ := cesMaskWrite_takes s m he hw hu hmay
    exact ⟨t, congrArg Host.Outcome.next ht, hrest⟩
  · obtain ⟨hclose, hsend, hno⟩ := msixMergeEnd_ends s x h
    exact ⟨fun hm => congrArg Host.Outcome.next (hclose hm),
      fun hm hr hp hw => congrArg Host.Outcome.next (hsend hm hr hp hw), fun hm hn => congrArg Host.Outcome.next (hno hm hn)⟩
  · exact congrArg Host.Outcome.next ((cesMaskWrite_eq s m he).trans (s.commandListed_refused _ _ hmay))

end Sys2Proof.Machine
end

section
/-! SUPPORT. The commands in BAR0 registers: what admits or refuses one (R382, R469, R497, R546), what a write of a BND_ register that
starts something does (R89), and what loading the data registers leaves. -/
namespace Sys2Proof.Machine
open Sys2Proof

/-! Admitted and refused commands. -/

section
variable {s : State} {p : Path} {set : Nat}

/-- The manager port is heard once it may write (R382). -/
theorem State.unheard_of_mayWrite (h : s.mayWrite p = true) : s.unheard p = false := by
  cases p with
  | manager =>
    have hready : s.flag SEC_BOOT_STS.READY 0 = true := h
    simp [State.unheard, hready]
  | _ => rfl

theorem State.command_admitted (f : State → State) (h : s.admits p set) : s.command p set f = f s := by
  obtain ⟨hwindow, hmay⟩ := h
  simp [State.command, hwindow, hmay, State.unheard_of_mayWrite hmay]

theorem State.command_refused (f : State → State) (h : s.mayWrite p = false) :
    s.command p set f = if s.windowGone (setUnit set) || s.unheard p then s else s.discard set := by
  simp [State.command, h]

theorem State.startWith_idle (store f : State → State) (h : s.admits p set) : s.startWith p set false store f = f s := by
  simp [State.startWith, State.command_admitted _ h]

theorem State.startWith_busy (store f : State → State) (h : s.admits p set) :
    s.startWith p set true store f = (store s).discard set := by
  simp [State.startWith, State.command_admitted _ h]

theorem State.startWith_refused (busy : Bool) (store f : State → State) (h : s.mayWrite p = false) :
    s.startWith p set busy store f = if s.windowGone (setUnit set) || s.unheard p then s else s.discard set :=
  State.command_refused _ h

end

/-! Writes of the BND_ registers. -/

/-- The BND_ registers whose bits start something when they are written (R89). -/
def bndStarts : List Reg := [.BND_SREC_CMD, .BND_GRP_CMD, .BND_RULE_CMD, .BND_BAR_CMD, .BND_FAULT_INFO, .BND_RSH_CTL]

/-- A write that reaches one of them stores its fields and does what its bits start. -/
theorem exec_registerWrite_bnd {s : State} {p : Path} {a : BitVec 32} {r : Reg} {i : Nat} (d : BitVec 64)
    (h : s.writeReaches p a (.reg r i)) (hr : r ∈ bndStarts) :
    exec (.registerWrite p a d 4) s = .next (writeBnd p r i (d.setWidth 32) (regSet s r i a.toNat) s (s.stored r i d a)) := by
  rw [exec_registerWrite_of_reaches d h]
  simp only [bndStarts, List.mem_cons, List.not_mem_nil, or_false] at hr
  obtain rfl | rfl | rfl | rfl | rfl | rfl := hr <;> rfl

/-- A command bit starts its command where it is written 1 and the register is not BUSY. -/
theorem next_goes (go busy : Bool) (set : Nat) (s st : State) (f : State → State) :
    (Host.Outcome.next (goes go busy set s st f) : Result) =
      if go then (if busy then .next (startDiscarded set s st) else .next (f st)) else .next st := by
  unfold goes
  split
  · split
    · rfl
    · rfl
  · rfl

/-- The low word of a write holds the bits of the data below it. -/
theorem bit_lowWord (d : BitVec 64) {k : Nat} (hk : k < 32) : bit (d.setWidth 32 : Word) k = d.getLsbD k := by
  simp [bit, hk]

/-! Frames of register words. -/

theorem wordsKept.refl (s : State) (rs : List Reg) : wordsKept s s rs := fun _ _ _ => rfl

theorem wordsKept.setWord {s t : State} {rs : List Reg} {r : Reg} {i : Nat} {v : Word} (h : wordsKept s t rs) (hr : r ∈ rs) :
    wordsKept s (t.setWord r i v) rs := fun _ _ hr' =>
  (t.word_setWord_reg v (ne_of_mem_of_not_mem hr hr').symm).trans (h _ _ hr')

theorem wordsKept.set {s t : State} {rs : List Reg} {f : Fld} {i v : Nat} (h : wordsKept s t rs) (hr : f.reg ∈ rs) :
    wordsKept s (t.set f i v) rs :=
  h.setWord hr

theorem State.set_onlyRegs (s : State) (f : Fld) (i v : Nat) : onlyRegs s (s.set f i v) := rfl

/-! Loading data registers. -/

/-- The n words f of a register, from an index on. -/
def State.loadWords (s : State) (r : Reg) (i n : Nat) (f : Nat → Word) : State :=
  (List.range n).foldl (fun t k => t.setWord r (i + k) (f k)) s

section
variable (s : State) (r : Reg) (i n : Nat) (f : Nat → Word)

theorem State.loadWords_succ : s.loadWords r i (n + 1) f = (s.loadWords r i n f).setWord r (i + n) (f n) := by
  simp [State.loadWords, List.range_succ]

theorem State.loadWords_onlyRegs : onlyRegs s (s.loadWords r i n f) :=
  onlyRegs.foldl _ (fun t k => t.setWord r (i + k) (f k)) (fun _ _ => rfl) s

theorem State.word_loadWords (hn : i + n ≤ 2 ^ 24) {k : Nat} (hk : k < n) : (s.loadWords r i n f).word r (i + k) = f k := by
  induction n with
  | zero => cases hk
  | succ n ih =>
    rw [State.loadWords_succ]
    by_cases h : k = n
    · subst h
      exact State.word_setWord_same ..
    · rw [State.word_setWord_ix _ _ (by omega)]
      exact ih (by omega) (by omega)

end

theorem wordsKept.loadWords {s t : State} {rs : List Reg} {r : Reg} (i n : Nat) (f : Nat → Word) (h : wordsKept s t rs)
    (hr : r ∈ rs) : wordsKept s (t.loadWords r i n f) rs := by
  induction n with
  | zero => exact h
  | succ n ih =>
    rw [State.loadWords_succ]
    exact ih.setWord hr

end Sys2Proof.Machine
end

section
/-! SUPPORT. Binding groups (R62, R63, R89) and the theorem that settles O8. -/
namespace Sys2Proof.Machine
open Sys2Proof

/-- The group write of a region that is in progress, the group's number counted from 1; (0, 0) for none (R63). -/
def State.pendGrp (s : State) (r : Region) (x : Nat × BitVec 256) : State :=
  { s with bnd := { s.bnd with grpPend := Tab.put (0, 0) s.bnd.grpPend r x } }

theorem State.grpPend_pendGrp (s : State) (r : Region) (x : Nat × BitVec 256) :
    Tab.get (0, 0) (s.pendGrp r x).bnd.grpPend r = x := by
  unfold State.pendGrp
  exact Tab.get_put_same (0, 0) _ _ _

theorem grpCmd_onlyRegs (s : State) (r g op : Nat) : onlyRegs s (grpCmd s r g op) := rfl

theorem wordsKept_grpCmd {s t : State} {rs : List Reg} (r g op : Nat) (h : wordsKept s t rs) (hr : .BND_GRP_CMD ∈ rs) :
    wordsKept s (grpCmd t r g op) rs :=
  (h.set hr).set hr

section
variable {s : State} {p : Path} {r : Region} {g : BitVec 12}

theorem grpRead_idle (h : s.admits p (bndSet r)) (hb : s.flag BND_GRP_CMD.BUSY r = false) :
    grpRead p r g s = (grpCmd s r g.toNat 0).loadWords .BND_GRP_D (8 * r.val) 8
      fun k => BitVec.ofNat 32 (bits (Tab.get 0 s.bnd.group (4096 * r.val + g.toNat)) (32 * k) 32) := by
  unfold grpRead
  rw [hb]
  exact State.startWith_idle _ _ h

theorem grpWrite_idle (h : s.admits p (bndSet r)) (hb : s.flag BND_GRP_CMD.BUSY r = false) :
    grpWrite p r g s = (grpCmd (s.pendGrp r (g.toNat + 1, grpStaged s r)) r g.toNat 1).set BND_GRP_CMD.BUSY r 1 := by
  unfold grpWrite
  rw [hb]
  exact State.startWith_idle _ _ h

theorem grpRead_busy (h : s.admits p (bndSet r)) (hb : s.flag BND_GRP_CMD.BUSY r = true) :
    grpRead p r g s = (grpCmd s r g.toNat 0).discard (bndSet r) := by
  unfold grpRead
  rw [hb]
  exact State.startWith_busy _ _ h

theorem grpWrite_busy (h : s.admits p (bndSet r)) (hb : s.flag BND_GRP_CMD.BUSY r = true) :
    grpWrite p r g s = (grpCmd s r g.toNat 1).discard (bndSet r) := by
  unfold grpWrite
  rw [hb]
  exact State.startWith_busy _ _ h

end

/-! The end of a group write: the four copies change together (R63). -/

theorem Tab.get_put {α : Type} [DecidableEq α] (d : α) (t : Tab α) (k j : Nat) (v : α) :
    Tab.get d (Tab.put d t k v) j = if j = k then v else Tab.get d t j := by
  split
  · next h => rw [h, Tab.get_put_same]
  · next h => exact Tab.get_put_ne _ _ _ _ _ _ h

section
variable (s : State) (g : Nat) (b : BitVec 256)

theorem State.group_putGroup {q : Nat} (hq : q < 4) : Tab.get 0 (s.putGroup g b).bnd.group (4096 * q + g) = b := by
  simp only [State.putGroup, State.groupOwes, List.foldl, Tab.get_put]
  interval_cases q <;> simp

theorem State.group_putGroup_ne {k : Nat} (h : ∀ q < 4, k ≠ 4096 * q + g) :
    Tab.get 0 (s.putGroup g b).bnd.group k = Tab.get 0 s.bnd.group k := by
  simp only [State.putGroup, State.groupOwes, List.foldl, Tab.get_put]
  rw [if_neg (h 3 (by decide)), if_neg (h 2 (by decide)), if_neg (h 1 (by decide)), if_neg (h 0 (by decide))]

theorem State.grpSeq_putGroup {q : Nat} (hq : q < 4) : Tab.get 0 (s.putGroup g b).bnd.grpSeq q = Tab.get 0 s.bnd.grpSeq q + 1 := by
  simp only [State.putGroup, State.groupOwes, List.foldl, Tab.get_put]
  interval_cases q <;> rfl

end

theorem grpCopiesDone_idle {s : State} {r : Region} (h : (Tab.get (0, 0) s.bnd.grpPend r).1 = 0) : grpCopiesDone r s = s := by
  unfold grpCopiesDone
  split
  · rfl
  · next e =>
    rw [e] at h
    cases h

theorem grpCopiesDone_pending {s : State} {r : Region} {g : Nat} {b : BitVec 256}
    (h : Tab.get (0, 0) s.bnd.grpPend r = (g + 1, b)) :
    grpCopiesDone r s = ((s.putGroup g b).pendGrp r (0, 0)).set BND_GRP_CMD.BUSY r 0 := by
  unfold grpCopiesDone
  rw [h]
  rfl

/-- A write of BND_GRP_CMD does what its bits start: the same as the command (R89). -/
theorem exec_registerWrite_grpCmd {s : State} {p : Path} {a : BitVec 32} {i : Nat} (d : BitVec 64)
    (h : s.writeReaches p a (.reg .BND_GRP_CMD i)) :
    exec (.registerWrite p a d 4) s =
      if d.getLsbD 24 then
        (if s.flag BND_GRP_CMD.BUSY i then .next (startDiscarded (regSet s .BND_GRP_CMD i a.toNat) s (s.stored .BND_GRP_CMD i d a))
        else if d.getLsbD 12 then
          exec (.grpWrite p (ixRegion i) (BitVec.ofNat 12 (bits (d.setWidth 32) 0 12))) (s.stored .BND_GRP_CMD i d a)
        else exec (.grpRead p (ixRegion i) (BitVec.ofNat 12 (bits (d.setWidth 32) 0 12))) (s.stored .BND_GRP_CMD i d a))
      else .next (s.stored .BND_GRP_CMD i d a) := by
  rw [exec_registerWrite_bnd d h (by decide), ← bit_lowWord d (by decide : 24 < 32), ← bit_lowWord d (by decide : 12 < 32)]
  refine (next_goes ..).trans ?_
  congr 2
  split
  · rfl
  · rfl

/-- Settles O8, from what each command on a group leaves. -/
theorem groupCommands : Obligations.GroupCommands := by
  unfold Obligations.GroupCommands
  refine ⟨fun s p r g h hb => ?_, fun s r h => congrArg Host.Outcome.next (grpCopiesDone_idle h), fun s p r g h hb => ?_,
    fun s p r g h hb => ?_, fun s r g b h _ => ?_, fun s p a d i h => exec_registerWrite_grpCmd d h, fun s p r g h => ?_⟩
  · exact ⟨⟨_, congrArg Host.Outcome.next (grpRead_busy h hb), rfl⟩, ⟨_, congrArg Host.Outcome.next (grpWrite_busy h hb), rfl⟩⟩
  · refine ⟨_, congrArg Host.Outcome.next (grpRead_idle h hb), fun k hk => State.word_loadWords _ _ _ _ _ (by omega) hk,
      (grpCmd_onlyRegs ..).trans (State.loadWords_onlyRegs ..), ?_⟩
    exact (wordsKept_grpCmd _ _ _ (.refl s _) (by decide)).loadWords _ _ _ (by decide)
  · refine ⟨_, congrArg Host.Outcome.next (grpWrite_idle h hb), State.get_set_same _ _ _ (by decide),
      s.grpPend_pendGrp r _, rfl, ?_, rfl⟩
    exact (wordsKept_grpCmd _ _ _ (wordsKept.refl (s.pendGrp r _) _) (by decide)).set (by decide)
  · refine ⟨_, congrArg Host.Outcome.next (grpCopiesDone_pending h), fun q hq => s.group_putGroup g b hq,
      fun q hq => s.grpSeq_putGroup g b hq, fun k hk => s.group_putGroup_ne g b hk, State.get_set_same _ _ _ (by decide),
      (s.putGroup g b).grpPend_pendGrp r _, ?_, rfl⟩
    exact (wordsKept.refl ((s.putGroup g b).pendGrp r _) _).set (by decide)
  · exact ⟨congrArg Host.Outcome.next (State.startWith_refused _ _ _ h), congrArg Host.Outcome.next (State.startWith_refused _ _ _ h)⟩

end Sys2Proof.Machine
end

section
/-! SUPPORT. Access rules (R75–R78, R89) and the theorem that settles O9. -/
namespace Sys2Proof.Machine
open Sys2Proof

theorem ruleCmd_onlyRegs (s : State) (r n op : Nat) : onlyRegs s (ruleCmd s r n op) := rfl

theorem wordsKept_ruleCmd {s t : State} {rs : List Reg} (r n op : Nat) (h : wordsKept s t rs) (hr : .BND_RULE_CMD ∈ rs) :
    wordsKept s (ruleCmd t r n op) rs :=
  (h.set hr).set hr

/-! One slot. -/

theorem State.ruleOf_setRule (s : State) (r n : Nat) (v : BitVec 128) : (s.setRule r n v).ruleOf r n = v := by
  unfold State.setRule State.ruleOf
  exact Tab.get_put_same (0 : BitVec 128) _ _ _

theorem State.rule_setRule_ne (s : State) {r n k : Nat} (v : BitVec 128) (h : k ≠ 4096 * r + n) :
    Tab.get 0 (s.setRule r n v).bnd.rule k = Tab.get 0 s.bnd.rule k := by
  unfold State.setRule
  exact Tab.get_put_ne (0 : BitVec 128) 0 _ _ _ _ h

/-- A command of an operation that ends with a result. -/
def State.ruleShows (s : State) (r : Region) (n : BitVec 12) (op res : Nat) : State :=
  (ruleCmd s r n.toNat op).set BND_RULE_CMD.RESULT r res

section
variable (s : State) (r : Region) (n : BitVec 12) (op : Nat) {res : Nat}

theorem State.ruleShows_result (h : res < 8) : (s.ruleShows r n op res).get BND_RULE_CMD.RESULT r = res :=
  (State.get_set_same _ _ _ (by decide)).trans (Nat.mod_eq_of_lt h)

/-- The slot and the result are written apart. -/
theorem State.setRule_ruleShows (v : BitVec 128) :
    (s.ruleShows r n op res).setRule r n.toNat v = (s.setRule r n.toNat v).ruleShows r n op res := rfl

theorem State.ruleShows_onlyRegs : onlyRegs s (s.ruleShows r n op res) := rfl

end

theorem wordsKept.ruleShows {s t : State} (r : Region) (n : BitVec 12) (op res : Nat) (h : wordsKept s t [.BND_RULE_CMD]) :
    wordsKept s (t.ruleShows r n op res) [.BND_RULE_CMD] :=
  (wordsKept_ruleCmd _ _ _ h (by decide)).set (by decide)

/-! What each command comes to. -/

section
variable {s : State} {p : Path} {r : Region} {n : BitVec 12}

section
variable (h : s.admits p (bndSet r)) (hb : s.flag BND_RULE_CMD.BUSY r = true)
include h hb

theorem ruleRead_busy : ruleRead p r n s = (ruleCmd s r n.toNat 0).discard (bndSet r) := by
  unfold ruleRead
  rw [hb]
  exact State.startWith_busy _ _ h

theorem ruleWrite_busy : ruleWrite p r n s = (ruleCmd s r n.toNat 1).discard (bndSet r) := by
  unfold ruleWrite
  rw [hb]
  exact State.startWith_busy _ _ h

theorem ruleClear_busy : ruleClear p r n s = (ruleCmd s r n.toNat 2).discard (bndSet r) := by
  unfold ruleClear
  rw [hb]
  exact State.startWith_busy _ _ h

end

section
variable (h : s.admits p (bndSet r)) (hb : s.flag BND_RULE_CMD.BUSY r = false)
include h hb

theorem ruleRead_idle :
    ruleRead p r n s = ((ruleCmd s r n.toNat 0).loadWords .BND_RULE_D (4 * r.val) 4
      fun k => BitVec.ofNat 32 (bits (s.ruleOf r n.toNat) (32 * k) 32)).set BND_RULE_CMD.RESULT r 0 := by
  unfold ruleRead
  rw [hb]
  exact State.startWith_idle _ _ h

/-- A write whose result is OK stores the staged rule, and any other only shows its result (R76). -/
theorem ruleWrite_idle :
    ruleWrite p r n s =
      if ruleResult s r n.toNat (ruleStaged s r) = 0 then (s.setRule r n.toNat (ruleStaged s r)).ruleShows r n 1 0
      else s.ruleShows r n 1 (ruleResult s r n.toNat (ruleStaged s r)) := by
  unfold ruleWrite
  rw [hb]
  refine (State.startWith_idle _ _ h).trans ?_
  extract_lets v res s1
  split
  · next h0 =>
    have hs : s1 = s.ruleShows r n 1 0 := congrArg (s.ruleShows r n 1) h0
    rw [hs]
    exact s.setRule_ruleShows r n 1 v
  · rfl

theorem ruleClear_idle :
    ruleClear p r n s =
      if ruleLock (s.ruleOf r n.toNat) then s.ruleShows r n 2 5 else (s.setRule r n.toNat 0).ruleShows r n 2 0 := by
  unfold ruleClear
  rw [hb]
  exact State.startWith_idle _ _ h

end

/-- LOCKED comes before BAD_FIELD (R78, log entry 34). -/
theorem ruleResult_locked {v : BitVec 128} {n : Nat} (h : ruleLock (s.ruleOf r n) = true) : ruleResult s r n v = 5 := by
  simp [ruleResult, h]

theorem ruleResult_bad {v : BitVec 128} {n : Nat} (h : ruleLock (s.ruleOf r n) = false) (hv : ruleGood v r = false) :
    ruleResult s r n v = 2 := by
  simp [ruleResult, h, hv]

theorem ruleResult_good {v : BitVec 128} {n : Nat} (h : ruleLock (s.ruleOf r n) = false) (hv : ruleGood v r = true) :
    ruleResult s r n v = 0 := by
  simp [ruleResult, h, hv]

end

/-- A rule put in a slot: the slot holds it, and nothing else but BND_RULE_CMD changes. -/
theorem State.ruleShows_of_setRule (s : State) (r : Region) (n : BitVec 12) (v : BitVec 128) (op : Nat) :
    let t := (s.setRule r n.toNat v).ruleShows r n op 0
    t.ruleOf r n.toNat = v ∧ (∀ k, k ≠ 4096 * r.val + n.toNat → Tab.get 0 t.bnd.rule k = Tab.get 0 s.bnd.rule k) ∧
      t.get BND_RULE_CMD.RESULT r = 0 ∧ wordsKept s t [.BND_RULE_CMD] ∧ { t with regs := s.regs, bnd := s.bnd } = s :=
  ⟨s.ruleOf_setRule r n.toNat v, fun _ hk => s.rule_setRule_ne v hk, State.ruleShows_result _ r n op (by decide),
    (wordsKept.refl (s.setRule r n.toNat v) _).ruleShows r n op _, rfl⟩

/-! Register writes. -/

/-- A write of BND_RULE_CMD does what its bits start: the same as the command of its OP (R89). -/
theorem exec_registerWrite_ruleCmd {s : State} {p : Path} {a : BitVec 32} {i : Nat} (d : BitVec 64)
    (h : s.writeReaches p a (.reg .BND_RULE_CMD i)) :
    exec (.registerWrite p a d 4) s =
      if d.getLsbD 24 then
        (if s.flag BND_RULE_CMD.BUSY i then .next (startDiscarded (regSet s .BND_RULE_CMD i a.toNat) s (s.stored .BND_RULE_CMD i d a))
        else if bits (d.setWidth 32) 12 2 = 0 then
          exec (.ruleRead p (ixRegion i) (BitVec.ofNat 12 (bits (d.setWidth 32) 0 12))) (s.stored .BND_RULE_CMD i d a)
        else if bits (d.setWidth 32) 12 2 = 1 then
          exec (.ruleWrite p (ixRegion i) (BitVec.ofNat 12 (bits (d.setWidth 32) 0 12))) (s.stored .BND_RULE_CMD i d a)
        else if bits (d.setWidth 32) 12 2 = 2 then
          exec (.ruleClear p (ixRegion i) (BitVec.ofNat 12 (bits (d.setWidth 32) 0 12))) (s.stored .BND_RULE_CMD i d a)
        else .next ((s.stored .BND_RULE_CMD i d a).set BND_RULE_CMD.RESULT i 2))
      else .next (s.stored .BND_RULE_CMD i d a) := by
  rw [exec_registerWrite_bnd d h (by decide), ← bit_lowWord d (by decide : 24 < 32)]
  refine (next_goes ..).trans ?_
  congr 2
  generalize bits (d.setWidth 32) 12 2 = op
  match op with
  | 0 => rfl
  | 1 => rfl
  | 2 => rfl
  | _ + 3 => rfl

/-- A write of BND_FAULT_INFO that clears VALID clears COUNT (R89). -/
theorem exec_registerWrite_faultInfo {s : State} {p : Path} {a : BitVec 32} {i : Nat} (d : BitVec 64)
    (h : s.writeReaches p a (.reg .BND_FAULT_INFO i)) :
    exec (.registerWrite p a d 4) s =
      .next (if d.getLsbD 31 then (s.stored .BND_FAULT_INFO i d a).set BND_FAULT_INFO.COUNT i 0 else s.stored .BND_FAULT_INFO i d a) := by
  rw [exec_registerWrite_bnd d h (by decide), ← bit_lowWord d (by decide : 31 < 32)]
  rfl

/-- Settles O9, from the result of each command on a rule slot. -/
theorem accessRuleCommands : Obligations.AccessRuleCommands := by
  unfold Obligations.AccessRuleCommands
  refine ⟨fun s p r n h hb hl hg => ?_, fun s p r n h hb => ?_, fun s p r n h hb => ?_, fun s p r n h hb hl hg => ?_,
    fun s p r n h hb hl => ?_, fun s p r n h hb hl => ?_, fun s p a d i h => exec_registerWrite_ruleCmd d h,
    fun s p a d i h => exec_registerWrite_faultInfo d h, fun s p r n h => ?_⟩
  · have hw : ruleWrite p r n s = s.ruleShows r n 1 2 := by
      rw [ruleWrite_idle h hb, ruleResult_bad hl hg, if_neg (by decide)]
    exact ⟨_, congrArg Host.Outcome.next hw, s.ruleShows_result r n 1 (by decide), s.ruleShows_onlyRegs r n 1,
      (wordsKept.refl s _).ruleShows r n 1 _⟩
  · exact ⟨congrArg Host.Outcome.next (ruleRead_busy h hb), congrArg Host.Outcome.next (ruleWrite_busy h hb),
      congrArg Host.Outcome.next (ruleClear_busy h hb)⟩
  · refine ⟨_, congrArg Host.Outcome.next (ruleRead_idle h hb), fun k hk => ?_, State.get_set_same _ _ _ (by decide),
      ((ruleCmd_onlyRegs ..).trans (State.loadWords_onlyRegs ..)).trans (State.set_onlyRegs ..), ?_⟩
    · rw [State.word_set_reg _ _ (by decide)]
      exact State.word_loadWords _ _ _ _ _ (by omega) hk
    · exact ((wordsKept_ruleCmd _ _ _ (.refl s _) (by decide)).loadWords _ _ _ (by decide)).set (by decide)
  · have hw : ruleWrite p r n s = (s.setRule r n.toNat (ruleStaged s r)).ruleShows r n 1 0 := by
      rw [ruleWrite_idle h hb, if_pos (ruleResult_good hl hg)]
    exact ⟨_, congrArg Host.Outcome.next hw, s.ruleShows_of_setRule r n _ 1⟩
  · have hc : ruleClear p r n s = (s.setRule r n.toNat 0).ruleShows r n 2 0 := by
      rw [ruleClear_idle h hb, hl, if_neg Bool.false_ne_true]
    exact ⟨_, congrArg Host.Outcome.next hc, s.ruleShows_of_setRule r n _ 2⟩
  · have hw : ruleWrite p r n s = s.ruleShows r n 1 5 := by
      rw [ruleWrite_idle h hb, ruleResult_locked hl, if_neg (by decide)]
    have hc : ruleClear p r n s = s.ruleShows r n 2 5 := by
      rw [ruleClear_idle h hb, if_pos hl]
    exact ⟨_, _, congrArg Host.Outcome.next hw, congrArg Host.Outcome.next hc, s.ruleShows_result r n 1 (by decide),
      s.ruleShows_result r n 2 (by decide), s.ruleShows_onlyRegs r n 1, s.ruleShows_onlyRegs r n 2,
      (wordsKept.refl s _).ruleShows r n 1 _, (wordsKept.refl s _).ruleShows r n 2 _⟩
  · exact ⟨congrArg Host.Outcome.next (State.startWith_refused _ _ _ h), congrArg Host.Outcome.next (State.startWith_refused _ _ _ h),
      congrArg Host.Outcome.next (State.startWith_refused _ _ _ h)⟩

end Sys2Proof.Machine
end

section
/-! SUPPORT. What waits for room in a write-back buffer (R172), and the theorems that refute O11 and O13. A command that runs work at
the Loan desk or in the Granary also tries again what waits for each controller that `roomed` names, and RECLAIM_SET_VISIT can leave
one there; no hypothesis of these two statements says that none is left. -/
namespace Sys2Proof.Machine
open Sys2Proof

/-- The host of UP port 3 asks for the first line of shelf 5. -/
def firstLine : Access := { agent := agentId 0 3 0, tag := 7, addr := 5 * 2 ^ 28, port := 3, src := .host, rep := false }

/-- The backing set of that line, with no entry. -/
def emptySet : CatSet := ⟨List.replicate 16 0, List.range 16, false⟩

/-- The machine is ready, shelf 5 is bound and coherent with port 3 in its group, and the line's backing set is cached without an entry.
A poisoned line of the shelf waits to be stored, and its controller's buffer has room (R172). -/
def waitsForRoom : State :=
  let s := ((State.reset.putSrec 5 0x2015).putGroup 2 8).set SEC_BOOT_STS.READY 0 1
  { s with cat := { s.cat with cache := [(catKey 1 (catIndex (5 * 2 ^ 28)), some emptySet)] }
           grn := { s.grn with waitPut := [(5 * 2 ^ 28 + 512, ⟨0, true⟩)], roomed := [2] } }

/-- An OWN_NODATA of another line stores the line that waits. -/
theorem ownNodata_stores_waiting :
    (waitsForRoom.atBank firstLine fun a => { kind := .ownNodata, a := a }).grn.waitPut = [] := by
  decide +kernel

/-- Refutes O13: OWN_NODATA to a line without an entry does not leave the Granary as it is where a poisoned line waits for room that has
come, since the run of its work stores that line. -/
theorem not_homeRequestsReading : ¬ Obligations.HomeRequestsReading := by
  unfold Obligations.HomeRequestsReading
  rintro ⟨-, -, hown, -⟩
  obtain ⟨t, ht, -, -, -, -, hgrn, -⟩ := hown waitsForRoom firstLine emptySet 0 12 (by decide +kernel) (by decide +kernel)
    (by decide +kernel) (by decide +kernel) (by decide +kernel) (by decide +kernel) (by decide +kernel)
  have hstored : t.grn.waitPut = [] := Host.Outcome.next.inj ht ▸ ownNodata_stores_waiting
  rw [hgrn] at hstored
  cases hstored

/-- A whole write of the manager to the first line of shelf 9, which its tracker could not store for want of room. -/
def waitingWrite : Tracker :=
  { purpose := .request
      { kind := .wr, be := BitVec.allOnes 64, ticket := 1
        a := { agent := agentId 0 3 0, tag := 7, addr := 9 * 2 ^ 28, port := 3, src := .owner false, rep := false } }
    line := 9 * 2 ^ 28, phase := .writeRoom }

/-- Slot 1 of region B stalls shelf 5 in its first switch-over with no page marked, while that write waits and its controller's buffer has
room (R84, R172). -/
def stallsBesideWrite : State :=
  let s := State.reset
  { s with bnd := { s.bnd with rsh := [(17, ⟨true, 5, true, []⟩)], shelf := [(5, 0x10013), (9, 0x11)] }
           cat := { s.cat with trk := [(8192, some waitingWrite)] }
           grn := { s.grn with roomed := [2] } }

/-- The end of the stall completes the write that waits. -/
theorem switchoverStallTmo_completes_waiting :
    (switchoverStallTmo 1 1 0 stallsBesideWrite).out = [.complete (agentId 0 3 0) 7] := by
  decide +kernel

/-- Refutes O11: SWITCHOVER_STALL_TMO before the fourth attempt does not only send the page copies of its slot where a write waits for room
that has come, since the run of the held lookups completes that write. -/
theorem not_reshelvingSlots : ¬ Obligations.ReshelvingSlots := by
  unfold Obligations.ReshelvingSlots
  rintro ⟨-, -, -, -, -, -, -, -, -, -, -, -, hstall, -⟩
  obtain ⟨t, ht, -, -, -, -, -, hout⟩ := hstall stallsBesideWrite 1 ⟨1, 0⟩ 5 17 rfl rfl rfl (by decide +kernel)
  have hsent : t.out = [.complete (agentId 0 3 0) 7] := Host.Outcome.next.inj ht ▸ switchoverStallTmo_completes_waiting
  rw [hout] at hsent
  simp [stallsBesideWrite, State.reset] at hsent

end Sys2Proof.Machine
end

section
/-! SUPPORT. The theorems that refute O14 and O19. A line that lies in the write-back buffer counts as held by
the Granary (`State.cachedLine`), and a write to it goes to the pool device where no way may be allocated for its block (R169, R171, R172);
and the end of a tracker goes on with the back-invalidation of a released shelf (R72 step 3). No hypothesis excludes either case, and the
rules allow both. Tracker 15872 is the first reserved one of region B. -/
namespace Sys2Proof.Machine
open Sys2Proof

/-- A desk without trackers holds none under any number. -/
theorem trk_none_of_idle {t : State} (h : t.cat.trk = []) (k : Nat) : t.trk k = none := by
  rw [State.trk, h]
  rfl

/-- The address of the first line of shelf 5, which `firstLine` accesses. -/
def firstAddr : Nat := 5 * 2 ^ 28

/-- The machine is ready, shelf 5 has a record that names group 2, with port 3 in it, and the backing set of its first line is cached. -/
def shelfFive (x : BitVec 128) (c : CatSet) : State :=
  let s := ((State.reset.putSrec 5 x).putGroup 2 8).set SEC_BOOT_STS.READY 0 1
  { s with cat := { s.cat with cache := [(catKey 1 (catIndex firstAddr), some c)] } }

/-- The write-back buffer's entry of the first block of shelf 5, its one dirty line on its way to the pool device. -/
def issuedEntry : WbEntry :=
  { ctrl := grnStack 1 (grnIndex firstAddr), block := firstAddr, valid := 1, dirty := 1, data := [⟨9, false⟩], issued := true }

/-- Shelf 5 is bound and coherent on port 7. Its first block has been written back from a set that was then retired: the entry waits in the
buffer for the pool device, and the set takes no block any more (R172, R180). -/
def bufferedInRetiredSet : State :=
  let s := shelfFive 0x7002015 emptySet
  { s with grn := { s.grn with
      wbuf := [issuedEntry]
      writes := [{ region := 1, line := firstAddr, port := 7, from_ := .buffer }]
      retired := [2 ^ 25 + grnIndex firstAddr] } }

/-- A whole write of the line goes to the pool device, and its reserved tracker waits for the device's completion (R169). -/
theorem wr_buffered_waits_for_pool :
    ((bufferedInRetiredSet.atBank firstLine fun a =>
      { kind := .wr, a := a, d := ⟨3, false⟩, be := BitVec.allOnes 64 }).trk 15872).map (fun t => t.phase) = some .poolWrite := by
  decide +kernel

/-- Refutes O14: WR of a line without an entry that the write-back buffer holds is not completed at once where its block's set is retired
and the buffer's write is issued, since it goes to the pool device and keeps its tracker until that completes. -/
theorem not_homeRequestsWriting : ¬ Obligations.HomeRequestsWriting := by
  unfold Obligations.HomeRequestsWriting
  rintro ⟨hwr, -⟩
  obtain ⟨t, ht, -, -, htrk, -, -⟩ := hwr bufferedInRetiredSet firstLine emptySet ⟨9, false⟩ ⟨3, false⟩ (BitVec.allOnes 64)
    (by decide +kernel) (by decide +kernel) (by decide +kernel) (by decide +kernel)
  have hwaits : (t.trk 15872).map (fun x => x.phase) = some .poolWrite := Host.Outcome.next.inj ht ▸ wr_buffered_waits_for_pool
  rw [trk_none_of_idle htrk] at hwaits
  cases hwaits

/-- RD_SHARED of the host of port 3 to the first line of shelf 5, stamped while the shelf was bound; its data is in hand. -/
def readInHand : Request := { kind := .rdShared, a := firstLine, srec := 0x7002015, ticket := 1 }

/-- Its tracker. -/
def readTracker : Tracker := { purpose := .request readInHand, line := firstAddr, phase := .data, held := some ⟨0, false⟩ }

/-- The line's backing set, with way 0 reserved for the request. -/
def reservedSet : CatSet := ⟨emptySet.ways.set 0 (busyEntry firstAddr 0 true), List.range 16, true⟩

/-- Shelf 5 is RELEASING and LOST: its binding barrier has ended with TIMEOUT while that read was outstanding (R70). The shelf's
back-invalidation has begun and waits for its one entry, which is BUSY (R72 step 3). -/
def readOutlivesBarrier : State :=
  let s := (shelfFive 0x10000000007002096 reservedSet).set CAT_CTL.GRANT_E_SOLE 1 0
  { s with
    cat := { s.cat with trk := [(8192, some readTracker)], inval := [5] }
    grn := { s.grn with ways := [(wayKey 1 (grnIndex firstAddr) 0, { tag := grnTag firstAddr, valid := true, svalid := 1 })] } }

/-- Once the read has its data, the entry that it leaves is evicted in a reserved tracker, which snoops the new sharer. -/
theorem granaryDataReady_starts_eviction :
    ((granaryDataReady 1 0 .good readOutlivesBarrier).trk 15872).map (fun t => (t.purpose, t.await)) = some (.evict, [(12, .inv)]) := by
  decide +kernel

/-- Refutes O19: GRANARY_DATA_READY for RD_SHARED of an UNCACHED line of a coherent shelf does not leave the desk idle while the shelf's
back-invalidation is under way, since the entry that the read leaves is back-invalidated at once. -/
theorem not_granaryReads : ¬ Obligations.GranaryReads := by
  unfold Obligations.GranaryReads
  rintro ⟨-, -, -, -, hshared, -⟩
  obtain ⟨t, ht, htrk, -⟩ := hshared readOutlivesBarrier 1 0 readTracker readInHand ⟨0, false⟩ reservedSet 0 12 rfl rfl rfl rfl rfl rfl rfl rfl
    rfl rfl rfl (by decide +kernel) (by decide +kernel) (by decide +kernel) (by decide +kernel) (by decide +kernel) rfl (by decide +kernel)
    rfl rfl (by decide +kernel) rfl
  have hevicts : (t.trk 15872).map (fun x => (x.purpose, x.await)) = some (.evict, [(12, .inv)]) :=
    Host.Outcome.next.inj ht ▸ granaryDataReady_starts_eviction
  rw [trk_none_of_idle htrk] at hevicts
  cases hevicts

end Sys2Proof.Machine
end

section
/-! SUPPORT. The nanosecond that passes on an empty queue (R231, R278) keeps the canonical forms too, and the theorem that settles O4. -/
namespace Sys2Proof.Machine
open Sys2Proof

variable {s₀ s : State}

theorem Keeps.wasteSlot {z : Nat} (h : Keeps s₀ s) : Keeps s₀ (s.wasteSlot z) :=
  .ite h.countPort h

theorem Keeps.sendBlock {z : Nat} (h : Keeps s₀ s) : Keeps s₀ (s.sendBlock z) := by
  unfold State.sendBlock
  refine .ite h.setZwl.wasteSlot.emit ?_
  split
  · exact h.setZwl.emit
  · split
    · exact h
    · split
      · exact h
      · exact h.setZwl.emit

theorem Keeps.fillLink {z : Nat} (h : Keeps s₀ s) : Keeps s₀ (s.fillLink z) := by
  unfold State.fillLink
  refine .ite h ?_
  split
  · exact h
  · exact h.sendUnit
  · exact h.sendUnit.set.wasteSlot

theorem Keeps.wordTime {z : Nat} (h : Keeps s₀ s) : Keeps s₀ (s.wordTime z) :=
  .ite h (.ite h.fillLink.sendBlock.fillLink.sendBlock h.fillLink.sendBlock)

theorem Keeps.wordTimes (h : Keeps s₀ s) : Keeps s₀ s.wordTimes :=
  h.foldl .wordTime

theorem Keeps.tick (h : Keeps s₀ s) : Keeps s₀ (tick s) := by
  unfold Machine.tick
  extract_lets s1 s2
  have h1 : Keeps s₀ s1 := .ite h h.wordTimes
  have h2 : Keeps s₀ s2 := .ite h1 h1.bindStep
  exact h2.fields

/-- Settles O4, from the lemma of every command that says what it keeps, and that of the nanosecond on an empty queue. -/
theorem stepKeepsInvariant : Obligations.StepKeepsInvariant := by
  unfold Obligations.StepKeepsInvariant
  intro s t hs ht
  cases hq : s.pending with
  | nil =>
    have hstep : step s = .next (tick s) := by rw [step, hq]
    obtain rfl : tick s = t := Host.Outcome.next.inj (hstep.symm.trans ht)
    exact (Keeps.refl s).tick.form hs
  | cons c rest =>
    have hstep : step s = exec c { s with pending := rest } := by rw [step, hq]
    obtain ⟨u, hu, hk⟩ := exec_keepsForm c { s with pending := rest }
    obtain rfl : u = t := Host.Outcome.next.inj (hu.symm.trans (hstep.symm.trans ht))
    exact hk.form hs

end Sys2Proof.Machine
end

section
/-! SUPPORT. The theorem that settles O6, with the one rule of a memory that it adds. -/
namespace Sys2Proof.Machine
open Sys2Proof

/-- Each byte of a number reads where it was written. -/
theorem peek_pokeN_in (m : List Host.Cell) (a v : Nat) {n i : Nat} (h : i < n) :
    peek (pokeN m a n v) (a + i) = BitVec.ofNat 8 (v / 256 ^ i) := by
  induction n generalizing m a v i with
  | zero => cases h
  | succ n ih =>
    cases i with
    | zero =>
      rw [pokeN, peek_pokeN_out _ _ _ _ _ (.inl (by omega)), Nat.add_zero, peek_poke_same, Nat.pow_zero, Nat.div_one]
    | succ i =>
      rw [pokeN, show a + (i + 1) = a + 1 + i by omega, ih _ _ _ (Nat.lt_of_succ_lt_succ h), Nat.div_div_eq_div_mul, Nat.pow_succ']

/-- Settles O6, from what a number written in a memory reads as, inside and outside its bytes. -/
theorem stackMemoryReadsBack : Obligations.StackMemoryReadsBack := by
  unfold Obligations.StackMemoryReadsBack
  intro s st a n v
  exact ⟨fun i hi => peek_pokeN_in _ _ _ hi, peekN_pokeN _ _ _ _, fun k hk => peek_pokeN_out _ _ _ _ _ hk, rfl, wf_hbmWrite _ _ _ _ _⟩

end Sys2Proof.Machine
end

section
/-! SUPPORT. What counting, a tag lookup, a message that leaves and the writes to pool devices keep of the stacks and of the Granary (R165,
R168, R172, R491). -/
namespace Sys2Proof.Machine
open Sys2Proof

/-! Counting and the tag caches. -/

/-- A state without what counting an event changes: the counters and their overflow bits (R491, R492). -/
def State.uncounted (s : State) : State := { s with regs := [], arc := {} }

theorem State.addCounter_uncounted (fuel : Nat) (s : State) (n k : Nat) : (s.addCounter fuel n k).uncounted = s.uncounted := by
  induction fuel generalizing s n k with
  | zero =>
    unfold State.addCounter
    extract_lets v _ s1
    split
    · rfl
    · split <;> rfl
  | succ f ih =>
    unfold State.addCounter
    extract_lets v _ s1
    split
    · rfl
    · split
      · exact ih s1 (n + 1) 1
      · rfl

theorem State.count_uncounted (s : State) (r e q k : Nat) : (s.count r e q k).uncounted = s.uncounted := by
  unfold State.count
  split
  · rfl
  · exact List.foldlRecOn (motive := fun t : State => t.uncounted = s.uncounted) _ _ rfl
      fun t ht n _ => (t.addCounter_uncounted 160 n k).trans ht

theorem State.count_grn (s : State) (r e q k : Nat) : (s.count r e q k).grn = s.grn :=
  (congrArg (fun x : State => x.grn) (s.count_uncounted r e q k) :)

/-- A tag lookup changes the tag caches and what is counted alone (R165). -/
theorem State.tagLookup_uncounted (s : State) (r g : Nat) :
    ∃ tags, (s.tagLookup r g).uncounted = { s with grn := { s.grn with tags := tags } }.uncounted := by
  unfold State.tagLookup
  extract_lets old hit _ s1
  split
  · exact ⟨_, rfl⟩
  · exact ⟨_, s1.count_uncounted r 0x0B (g % 2) 1⟩

section
variable (s : State) (r g : Nat)

theorem State.tagLookup_hbm : (s.tagLookup r g).hbm = s.hbm :=
  have ⟨_, h⟩ := s.tagLookup_uncounted r g
  (congrArg (fun x : State => x.hbm) h :)

theorem State.tagLookup_bnd : (s.tagLookup r g).bnd = s.bnd :=
  have ⟨_, h⟩ := s.tagLookup_uncounted r g
  (congrArg (fun x : State => x.bnd) h :)

theorem State.tagLookup_sends : (s.tagLookup r g).sends s :=
  have ⟨_, h⟩ := s.tagLookup_uncounted r g
  ⟨(congrArg (fun x : State => x.swc) h :), (congrArg (fun x : State => x.out) h :)⟩

theorem State.tagLookup_grn : ∃ tags, (s.tagLookup r g).grn = { s.grn with tags := tags } :=
  have ⟨tags, h⟩ := s.tagLookup_uncounted r g
  ⟨tags, (congrArg (fun x : State => x.grn) h :)⟩

theorem State.tagLookup_wbuf : (s.tagLookup r g).grn.wbuf = s.grn.wbuf := by
  obtain ⟨tags, h⟩ := s.tagLookup_grn r g
  rw [h]

theorem State.tagLookup_writes : (s.tagLookup r g).grn.writes = s.grn.writes := by
  obtain ⟨tags, h⟩ := s.tagLookup_grn r g
  rw [h]

theorem State.way_tagLookup (k : Nat) : (s.tagLookup r g).way k = s.way k := by
  obtain ⟨tags, h⟩ := s.tagLookup_grn r g
  rw [State.way, h]
  rfl

theorem flushOf_tagLookup (q : Nat) : flushOf (s.tagLookup r g) q = flushOf s q := by
  obtain ⟨tags, h⟩ := s.tagLookup_grn r g
  rw [flushOf, h]
  rfl

theorem State.poolOf_tagLookup (line : Nat) : (s.tagLookup r g).poolOf line = s.poolOf line := by
  simp only [State.poolOf, State.srec, s.tagLookup_bnd]

theorem State.stalled_tagLookup (x : Nat) : (s.tagLookup r g).stalled x = s.stalled x := by
  simp only [State.stalled, s.tagLookup_bnd]

theorem State.held_tagLookup (p : Nat) : (s.tagLookup r g).held p = s.held p := by
  have hword (i : Nat) : (s.tagLookup r g).word .CAT_HOLD_STS i = s.word .CAT_HOLD_STS i := by
    unfold State.tagLookup
    extract_lets old hit _ s1
    split
    · rfl
    · exact (Noted.count s1 ..).word _ _ (by decide)
  simp only [State.held, State.get, hword]

end

/-! Messages to ports. -/

/-- The stacks' bytes and the Granary are the same in both states. -/
abbrev SameStore (s t : State) : Prop := t.hbm = s.hbm ∧ t.grn = s.grn

theorem State.mergePut_sameStore (s : State) (input : Nat) (c : Cell) : SameStore s (s.mergePut input c) := by
  unfold State.mergePut State.zwlQueue
  split
  · exact ⟨rfl, rfl⟩
  · exact ⟨rfl, rfl⟩

theorem State.dropCell_sameStore (s : State) (c : Cell) : SameStore s (s.dropCell c) := by
  unfold State.dropCell
  extract_lets s1
  split
  · exact ⟨rfl, rfl⟩
  · exact ⟨rfl, rfl⟩

theorem State.markDelay_sameStore (s : State) (c : Cell) : SameStore s (s.markDelay c).1 := by
  unfold State.markDelay
  extract_lets r k
  split
  · split
    · exact ⟨rfl, rfl⟩
    · exact ⟨rfl, rfl⟩
  · exact ⟨rfl, rfl⟩

theorem State.internalCell_sameStore (s : State) (a : Nat) (c : Cell) : SameStore s (s.internalCell a c) := by
  unfold State.internalCell
  extract_lets c1
  split
  · exact s.dropCell_sameStore c1
  · obtain ⟨hhbm, hgrn⟩ := s.markDelay_sameStore c1
    dsimp only
    split
    · obtain ⟨hputHbm, hputGrn⟩ := (s.markDelay c1).1.mergePut_sameStore 5 (s.markDelay c1).2
      exact ⟨hputHbm.trans hhbm, hputGrn.trans hgrn⟩
    · exact ⟨hhbm, hgrn⟩

/-- A message on its way to a port leaves the stacks and the Granary alone (R185, R220). -/
theorem State.send_sameStore (s : State) (r u p tc : Nat) (need : List Nat) (m : Msg) (data : List Byte) :
    SameStore s (s.send r u p tc need m data) := by
  unfold State.send
  split
  · split
    · exact ⟨rfl, rfl⟩
    · exact ⟨rfl, rfl⟩
  · exact s.internalCell_sameStore ..

/-! Writes that leave for pool devices (R168, R172). -/

theorem State.sendWrite_hbm (s : State) (line : Nat) (f : WrFrom) (d : LineData) : (s.sendWrite line f d).hbm = s.hbm := by
  unfold State.sendWrite
  split
  · rfl
  · exact (s.send_sameStore ..).1

/-- A write of a line joins the writes that are on their way, and the rest of the Granary stays. -/
theorem State.sendWrite_grn (s : State) (line : Nat) (f : WrFrom) (d : LineData) :
    ∃ w, w.line = line ∧ (s.sendWrite line f d).grn = { s.grn with writes := s.grn.writes ++ [w] } := by
  unfold State.sendWrite
  split
  · exact ⟨⟨homeOf line, line, s.poolOf line, f, some d⟩, rfl, rfl⟩
  · have hgrn : (s.writeOut line d).grn = s.grn := (s.send_sameStore ..).2
    refine ⟨⟨homeOf line, line, s.poolOf line, f, none⟩, rfl, ?_⟩
    simp only [hgrn]

/-- Since s₀, writes of these lines have joined the writes that are on their way, and the stacks and the rest of the Granary are as
they were. -/
structure SentLines (s₀ : State) (lines : List Nat) (s : State) : Prop where
  hbm : s.hbm = s₀.hbm
  grn : ∃ ws : List PoolWr, ws.map (fun w => w.line) = lines ∧ s.grn = { s₀.grn with writes := s₀.grn.writes ++ ws }

section
variable {s₀ s : State} {lines : List Nat}

theorem SentLines.refl (s : State) : SentLines s [] s :=
  ⟨rfl, [], rfl, by rw [List.append_nil]⟩

theorem SentLines.sendWrite {line : Nat} {f : WrFrom} {d : LineData} (h : SentLines s₀ lines s) :
    SentLines s₀ (lines ++ [line]) (s.sendWrite line f d) := by
  obtain ⟨hhbm, ws, rfl, hgrn⟩ := h
  obtain ⟨w, rfl, hw⟩ := s.sendWrite_grn line f d
  refine ⟨(s.sendWrite_hbm ..).trans hhbm, ws ++ [w], by simp, ?_⟩
  rw [hw, hgrn, List.append_assoc]

/-- A write leaves for each sector of a list that is dirty. -/
theorem SentLines.dirtySectors {dirty : BitVec 4} {line : Nat → Nat} {f : WrFrom} {d : State → Nat → LineData} (sectors : List Nat)
    (h : SentLines s₀ lines s) :
    SentLines s₀ (lines ++ (sectors.filter (fun i => dirty.getLsbD i)).map line)
      (sectors.foldl (fun t i => if dirty.getLsbD i then t.sendWrite (line i) f (d t i) else t) s) := by
  induction sectors generalizing s lines with
  | nil => simpa using h
  | cons i sectors ih =>
    rw [List.foldl_cons]
    by_cases hi : dirty.getLsbD i
    · simpa [hi] using ih (h.sendWrite (line := line i) (f := f) (d := d s i))
    · simpa [hi] using ih h

theorem SentLines.count {r e q k : Nat} (h : SentLines s₀ lines s) : SentLines s₀ lines (s.count r e q k) where
  hbm := (count_hbm ..).trans h.hbm
  grn := by
    rw [State.count_grn]
    exact h.grn

theorem SentLines.way (h : SentLines s₀ lines s) (k : Nat) : s.way k = s₀.way k := by
  obtain ⟨-, ws, -, hgrn⟩ := h
  rw [State.way, hgrn]
  rfl

theorem SentLines.writes (h : SentLines s₀ lines s) :
    s.grn.writes.map (fun w => w.line) = s₀.grn.writes.map (fun w => w.line) ++ lines := by
  obtain ⟨-, ws, rfl, hgrn⟩ := h
  simp [hgrn]

end

/-- The writes of a buffer entry, one for each dirty sector (R172). -/
theorem State.issueEntry_sent (s : State) (e : WbEntry) : ∃ lines, SentLines s lines (s.issueEntry e) :=
  ⟨_, ((SentLines.refl s).dirtySectors (List.range 4)).count⟩

/-- With no write on its way none is held by a switch-over. -/
theorem State.drainHeld_none {s : State} (h : s.grn.writes = []) : s.drainHeld = s := by
  have hsame : { s with grn := { s.grn with writes := [] } } = s := by rw [← h]
  simpa [State.drainHeld, h] using hsame

/-- The write-back buffers with these entries. -/
def State.withBuffers (s : State) (bufs : List WbEntry) : State := { s with grn := { s.grn with wbuf := bufs } }

theorem State.withBuffers_hbm (s : State) (bufs : List WbEntry) : (s.withBuffers bufs).hbm = s.hbm := rfl
theorem State.way_withBuffers (s : State) (bufs : List WbEntry) (k : Nat) : (s.withBuffers bufs).way k = s.way k := rfl
theorem State.withBuffers_wbuf (s : State) (bufs : List WbEntry) : (s.withBuffers bufs).grn.wbuf = bufs := rfl

/-- Whether an entry may issue does not hang on the buffers (R84, R148). -/
theorem State.mayIssue_withBuffers (s : State) (bufs : List WbEntry) (e : WbEntry) :
    (s.withBuffers bufs).mayIssue e = s.mayIssue e := rfl

/-- The only entry of the buffers is issued where it may be (R172). -/
theorem State.drainBuffers_one {s : State} {e : WbEntry} (hwrites : s.grn.writes = []) (hbuf : s.grn.wbuf = [e])
    (hissue : s.mayIssue e = true) :
    s.drainBuffers = (s.issueEntry e).withBuffers [{ e with issued := true }] := by
  simp [State.drainBuffers, State.withBuffers, State.drainHeld_none hwrites, hbuf, hissue]

/-! Ways. -/

theorem State.way_setWay_same (s : State) (k : Nat) (w : Way) : (s.setWay k w).way k = w := Tab.get_put_same ..

theorem State.way_setWay_ne (s : State) {k j : Nat} (w : Way) (h : j ≠ k) : (s.setWay k w).way j = s.way j := Tab.get_put_ne _ _ _ _ _ _ h

/-- Columns whose check words are good are read without effect (R177). -/
theorem State.sectorRead_good (s : State) (k i : Nat) : s.sectorRead k i .good = s := by
  simp [State.sectorRead]

theorem State.wayRead_good (s : State) (k : Nat) : s.wayRead k [] = s := by
  simp [State.wayRead, State.sectorRead_good]

/-- The buffer entry that a way becomes (R172). -/
def State.wayEntry (s : State) (k : Nat) : WbEntry :=
  { ctrl := grnStack (wayRegion k) (waySet k), block := wayBlock k (s.way k), valid := (s.way k).svalid, dirty := (s.way k).dirty
    data := (List.range 4).map (fun i => s.hbmLine (sectorKey (wayRegion k) (waySet k) (k % 4) i)), issued := false }

/-- A way whose port is not in a hold and whose shelf is not stalled goes to an empty buffer, and its writes are issued. -/
theorem State.toBuffer_empty {s : State} {k : Nat} (hwrites : s.grn.writes = []) (hbuf : s.grn.wbuf = [])
    (hheld : s.held (s.poolOf (wayBlock k (s.way k))) = false) (hstall : s.stalled (shelfOf (wayBlock k (s.way k))) = false) :
    (s.toBuffer k []).hbm = s.hbm ∧ (∀ j, (s.toBuffer k []).way j = s.way j) ∧
      (s.toBuffer k []).grn.wbuf = [{ s.wayEntry k with issued := true }] := by
  have hissue : s.mayIssue (s.wayEntry k) = true := by simp [State.mayIssue, State.wayEntry, hheld, hstall]
  have hdrain : s.toBuffer k [] = (s.withBuffers [s.wayEntry k]).drainBuffers := by
    simp only [State.toBuffer, State.wayRead_good, hbuf, List.nil_append, State.wayEntry, State.withBuffers]
  obtain ⟨lines, hsent⟩ := (s.withBuffers [s.wayEntry k]).issueEntry_sent (s.wayEntry k)
  rw [hdrain, State.drainBuffers_one (s := s.withBuffers [s.wayEntry k]) hwrites rfl ((s.mayIssue_withBuffers _ _).trans hissue)]
  refine ⟨?_, fun j => ?_, State.withBuffers_wbuf ..⟩
  · rw [State.withBuffers_hbm, hsent.hbm, State.withBuffers_hbm]
  · rw [State.way_withBuffers, hsent.way, State.way_withBuffers]

end Sys2Proof.Machine
end

section
/-! SUPPORT. The step of a flush walk (R174, R176). -/
namespace Sys2Proof.Machine
open Sys2Proof

/-! Ways and walks beside each other. -/

section
variable (s : State) (k : Nat) (w : Way) (r : Nat) (f : Flush)

theorem State.setWay_hbm : (s.setWay k w).hbm = s.hbm := rfl
theorem State.setWay_wbuf : (s.setWay k w).grn.wbuf = s.grn.wbuf := rfl
theorem State.setWay_writes : (s.setWay k w).grn.writes = s.grn.writes := rfl
theorem flushOf_setWay : flushOf (s.setWay k w) r = flushOf s r := rfl
theorem setFlush_hbm : (setFlush s r f).hbm = s.hbm := rfl
theorem setFlush_wbuf : (setFlush s r f).grn.wbuf = s.grn.wbuf := rfl
theorem setFlush_writes : (setFlush s r f).grn.writes = s.grn.writes := rfl
theorem way_setFlush : (setFlush s r f).way k = s.way k := rfl
theorem flushOf_setFlush : flushOf (setFlush s r f) r = f := Tab.get_put_same ..

end

/-! What a step does. -/

/-- What a step of a walk leaves once it has handled the ways at a position: it goes on to the next one, and its register shows what it
has done. -/
def State.walkedOn (s : State) (r op n : Nat) : State :=
  let f := flushOf s r
  let s1 := (setFlush s r { f with pos := n + 1 }).set GRN_FLUSH_STS.WRITTEN r (min f.written (2 ^ 24 - 1))
  if op = 2 then s1.set GRN_FLUSH_STS.SKIPPED r f.skipped.length else s1

section
variable (s : State) (r op n : Nat)

theorem State.walkedOn_onlyRegs : onlyRegs (setFlush s r { flushOf s r with pos := n + 1 }) (s.walkedOn r op n) := by
  unfold State.walkedOn
  extract_lets f s1
  split
  · rfl
  · rfl

theorem State.walkedOn_hbm : (s.walkedOn r op n).hbm = s.hbm :=
  (congrArg (fun x : State => x.hbm) (s.walkedOn_onlyRegs r op n) :)

theorem State.walkedOn_sends : (s.walkedOn r op n).sends s :=
  ⟨(congrArg (fun x : State => x.swc) (s.walkedOn_onlyRegs r op n) :), (congrArg (fun x : State => x.out) (s.walkedOn_onlyRegs r op n) :)⟩

theorem State.walkedOn_grn : (s.walkedOn r op n).grn = (setFlush s r { flushOf s r with pos := n + 1 }).grn :=
  (congrArg (fun x : State => x.grn) (s.walkedOn_onlyRegs r op n) :)

theorem State.way_walkedOn (k : Nat) : (s.walkedOn r op n).way k = s.way k := by
  rw [State.way, s.walkedOn_grn]
  rfl

theorem State.walkedOn_wbuf : (s.walkedOn r op n).grn.wbuf = s.grn.wbuf :=
  (congrArg (fun x : GrnState => x.wbuf) (s.walkedOn_grn r op n) :)

theorem State.walkedOn_writes : (s.walkedOn r op n).grn.writes = s.grn.writes :=
  (congrArg (fun x : GrnState => x.writes) (s.walkedOn_grn r op n) :)

theorem flushOf_walkedOn : flushOf (s.walkedOn r op n) r = { flushOf s r with pos := n + 1 } := by
  rw [flushOf, s.walkedOn_grn]
  exact flushOf_setFlush ..

end

section
variable {s : State} {r : Region} {f : Flush} {n : Nat} {e : Nat × Way} {found : List ColRead}

/-- A step with one way at its position looks up the way's set, handles it and goes on; a cleaning does so where its buffer has room. -/
theorem flushWalkStep_one (hf : flushOf s r = f) (hrun : f.running = true) (hnext : flushNext s f r = some n)
    (hhere : s.grn.ways.filter (fun e => flushPos f r e.1 e.2 == some n) = [e])
    (hroom : f.op = 1 → s.bufferRoom (grnStack r (waySet e.1)) = true) :
    flushWalkStep r found s = (flushWay (s.tagLookup r (waySet e.1)) r e.1 found).walkedOn r f.op n := by
  have hfree : ¬(f.op = 1 && [e].any (fun e => e.2.dirty != 0 && !s.bufferRoom (grnStack r (waySet e.1)))) = true := by
    intro h
    simp only [Bool.and_eq_true, decide_eq_true_eq] at h
    simp [hroom h.1] at h
  unfold flushWalkStep
  simp only [hf, hrun, Bool.not_true, Bool.false_eq_true, if_false, hnext, hhere, if_neg hfree]
  rfl

/-- An INVALIDATE walk drops the way (R174). -/
theorem flushWay_invalidate {s : State} {r k : Nat} (hop : (flushOf s r).op = 0) : flushWay s r k found = s.setWay k {} := by
  simp [flushWay, hop]

/-- A CLEAN_INVALIDATE walk moves a dirty way to the write-back buffer (R174). -/
theorem flushWay_cleanInvalidate {s : State} {r k : Nat} (hop : (flushOf s r).op = 1) (hdirty : (s.way k).dirty ≠ 0) :
    flushWay s r k found =
      (setFlush (s.toBuffer k found) r { flushOf s r with written := (flushOf s r).written + 1 }).setWay k {} := by
  have hcleans : ((flushOf s r).op = 1 && (s.way k).dirty != 0) = true := by simpa [hop] using hdirty
  rw [flushWay, if_neg (by omega), if_pos hcleans]

/-- The writes of a way's dirty sectors, as an ALL_CLEAN walk sends them (R176). -/
def State.wayWrites (s : State) (k r : Nat) : State :=
  (List.range 4).foldl (fun t i =>
    if (s.way k).dirty.getLsbD i then t.sendWrite (wayBlock k (s.way k) + 64 * i) .way (t.hbmLine (sectorKey r (waySet k) (k % 4) i)) else t) s

theorem State.wayWrites_sent (s : State) (k r : Nat) :
    SentLines s (((List.range 4).filter (fun i => (s.way k).dirty.getLsbD i)).map (fun i => wayBlock k (s.way k) + 64 * i))
      (s.wayWrites k r) :=
  (SentLines.refl s).dirtySectors (List.range 4)

/-- An ALL_CLEAN walk sends the dirty sectors of a way whose port is not in a hold, and keeps it (R176). -/
theorem flushWay_allClean {s : State} {r k : Nat} (hop : (flushOf s r).op = 2)
    (hheld : s.held (s.poolOf (wayBlock k (s.way k))) = false) :
    flushWay s r k [] =
      (setFlush (s.wayWrites k r) r { flushOf s r with written := (flushOf s r).written + 1 }).count r 0x0A r 1 := by
  simp [flushWay, hop, hheld, State.wayRead_good, State.wayWrites]

end

section
variable {s : State} {r : Region} {f : Flush} {n : Nat} {e : Nat × Way} {found : List ColRead}
  (hf : flushOf s r = f) (hrun : f.running = true) (hnext : flushNext s f r = some n)
  (hhere : s.grn.ways.filter (fun e => flushPos f r e.1 e.2 == some n) = [e])
include hf hrun hnext hhere

/-- A step of an INVALIDATE walk drops its way and sends nothing (R174). -/
theorem flushWalkStep_invalidate (hop : f.op = 0) :
    let t := flushWalkStep r found s
    t.way e.1 = {} ∧ (∀ k, k ≠ e.1 → t.way k = s.way k) ∧ (flushOf t r).pos = n + 1 ∧ t.hbm = s.hbm ∧ t.grn.writes = s.grn.writes ∧
      t.sends s := by
  obtain ⟨u, hu⟩ : ∃ u, u = s.tagLookup r (waySet e.1) := ⟨_, rfl⟩
  have hwalk : (flushOf u r).op = 0 := by rw [hu, flushOf_tagLookup, hf, hop]
  have ht : flushWalkStep r found s = (u.setWay e.1 {}).walkedOn r f.op n := by
    rw [flushWalkStep_one hf hrun hnext hhere (fun h => by omega), ← hu, flushWay_invalidate hwalk]
  obtain ⟨huswc, huout⟩ : u.sends s := hu ▸ s.tagLookup_sends ..
  obtain ⟨hswc, hout⟩ := (u.setWay e.1 {}).walkedOn_sends r f.op n
  rw [ht]
  refine ⟨?_, fun k hk => ?_, ?_, ?_, ?_, hswc.trans huswc, hout.trans huout⟩
  · rw [State.way_walkedOn, State.way_setWay_same]
  · rw [State.way_walkedOn, State.way_setWay_ne _ _ hk, hu, State.way_tagLookup]
  · rw [flushOf_walkedOn]
  · rw [State.walkedOn_hbm, State.setWay_hbm, hu, State.tagLookup_hbm]
  · rw [State.walkedOn_writes, State.setWay_writes, hu, State.tagLookup_writes]

/-- A step of a CLEAN_INVALIDATE walk moves its dirty way to the buffers, where they are empty and the way's writes may leave
(R172, R174). -/
theorem flushWalkStep_cleanInvalidate (hop : f.op = 1) (hdirty : e.2.dirty ≠ 0) (hbuf : s.grn.wbuf = []) (hwrites : s.grn.writes = [])
    (hheld : s.held (s.poolOf (wayBlock e.1 e.2)) = false) (hstall : s.stalled (shelfOf (wayBlock e.1 e.2)) = false)
    (hway : s.way e.1 = e.2) :
    let t := flushWalkStep r [] s
    t.way e.1 = {} ∧ (∀ k, k ≠ e.1 → t.way k = s.way k) ∧ (flushOf t r).pos = n + 1 ∧ (flushOf t r).written = f.written + 1 ∧
      t.hbm = s.hbm ∧
      t.grn.wbuf.map (fun b => (b.block, b.valid, b.dirty, b.issued)) = [(wayBlock e.1 e.2, e.2.svalid, e.2.dirty, true)] := by
  have hroom : s.bufferRoom (grnStack r (waySet e.1)) = true := by simp [State.bufferRoom, hbuf]
  obtain ⟨u, hu⟩ : ∃ u, u = s.tagLookup r (waySet e.1) := ⟨_, rfl⟩
  have hwalk : flushOf u r = f := by rw [hu, flushOf_tagLookup, hf]
  have huway : u.way e.1 = e.2 := by rw [hu, State.way_tagLookup, hway]
  have ht : flushWalkStep r [] s =
      ((setFlush (u.toBuffer e.1 []) r { f with written := f.written + 1 }).setWay e.1 {}).walkedOn r f.op n := by
    rw [flushWalkStep_one hf hrun hnext hhere (fun _ => hroom), ← hu,
      flushWay_cleanInvalidate (by rw [hwalk, hop]) (by rwa [huway]), hwalk]
  obtain ⟨hbhbm, hbway, hbbuf⟩ := State.toBuffer_empty (s := u) (k := e.1) (by rw [hu, State.tagLookup_writes, hwrites])
    (by rw [hu, State.tagLookup_wbuf, hbuf]) (by rw [huway, hu, State.poolOf_tagLookup, State.held_tagLookup, hheld])
    (by rw [huway, hu, State.stalled_tagLookup, hstall])
  rw [ht]
  refine ⟨?_, fun k hk => ?_, ?_, ?_, ?_, ?_⟩
  · rw [State.way_walkedOn, State.way_setWay_same]
  · rw [State.way_walkedOn, State.way_setWay_ne _ _ hk, way_setFlush, hbway, hu, State.way_tagLookup]
  · rw [flushOf_walkedOn]
  · rw [flushOf_walkedOn, flushOf_setWay, flushOf_setFlush]
  · rw [State.walkedOn_hbm, State.setWay_hbm, setFlush_hbm, hbhbm, hu, State.tagLookup_hbm]
  · rw [State.walkedOn_wbuf, State.setWay_wbuf, setFlush_wbuf, hbbuf]
    simp [State.wayEntry, huway]

/-- A step of an ALL_CLEAN walk sends the dirty sectors of its way and keeps it (R176). -/
theorem flushWalkStep_allClean (hop : f.op = 2) (hheld : s.held (s.poolOf (wayBlock e.1 e.2)) = false) (hway : s.way e.1 = e.2) :
    let t := flushWalkStep r [] s
    (∀ k, t.way k = s.way k) ∧ (flushOf t r).pos = n + 1 ∧ (flushOf t r).written = f.written + 1 ∧ t.hbm = s.hbm ∧
      t.grn.writes.map (fun x => x.line) = s.grn.writes.map (fun x => x.line) ++
        ((List.range 4).filter (fun i => e.2.dirty.getLsbD i)).map (fun i => wayBlock e.1 e.2 + 64 * i) := by
  obtain ⟨u, hu⟩ : ∃ u, u = s.tagLookup r (waySet e.1) := ⟨_, rfl⟩
  have hwalk : flushOf u r = f := by rw [hu, flushOf_tagLookup, hf]
  have huway : u.way e.1 = e.2 := by rw [hu, State.way_tagLookup, hway]
  have huheld : u.held (u.poolOf (wayBlock e.1 (u.way e.1))) = false := by
    rw [huway, hu, State.poolOf_tagLookup, State.held_tagLookup, hheld]
  obtain ⟨v, hv⟩ : ∃ v, v = (setFlush (u.wayWrites e.1 r) r { f with written := f.written + 1 }).count r 0x0A r 1 := ⟨_, rfl⟩
  have ht : flushWalkStep r [] s = v.walkedOn r f.op n := by
    rw [flushWalkStep_one hf hrun hnext hhere (fun h => by omega), ← hu, flushWay_allClean (by rw [hwalk, hop]) huheld, hwalk, hv]
  have hvgrn : v.grn = (setFlush (u.wayWrites e.1 r) r { f with written := f.written + 1 }).grn := by rw [hv, State.count_grn]
  have hsent := u.wayWrites_sent e.1 r
  rw [huway] at hsent
  rw [ht]
  refine ⟨fun k => ?_, ?_, ?_, ?_, ?_⟩
  · rw [State.way_walkedOn, State.way, hvgrn, ← State.way, way_setFlush, hsent.way, hu, State.way_tagLookup]
  · rw [flushOf_walkedOn]
  · rw [flushOf_walkedOn, flushOf, hvgrn, ← flushOf, flushOf_setFlush]
  · rw [State.walkedOn_hbm, hv, count_hbm, setFlush_hbm, hsent.hbm, hu, State.tagLookup_hbm]
  · rw [State.walkedOn_writes, hvgrn, setFlush_writes, hsent.writes, hu, State.tagLookup_writes]

end

end Sys2Proof.Machine
end

section
/-! SUPPORT. The start and the end of a flush walk, the completion of a pool write (R170, R172, R174, R176), and the theorem that settles O20. -/
namespace Sys2Proof.Machine
open Sys2Proof

/-! Work with nothing to run but what waits for room (R172). -/

theorem State.run_nil {s : State} (n : Nat) (h : s.grn.roomed = []) : State.run (n + 1) s [] = s := by
  rw [State.run, h]

theorem State.work_nil {s : State} (h : s.grn.roomed = []) : s.work [] = s := by
  rw [State.work, ← Nat.sub_add_cancel (Nat.one_le_two_pow (n := 20))]
  exact State.run_nil _ h

/-- With no line and no tracker waiting, a buffer that has room again brings nothing about. -/
theorem State.work_roomed {s : State} {c : Nat} (hroomed : s.grn.roomed = [c]) (hput : s.grn.waitPut = []) (htrk : s.cat.trk = []) :
    s.work [] = { s with grn := { s.grn with roomed := [] } } := by
  have hact : { s with grn := { s.grn with roomed := [] } }.act (.room c) = ({ s with grn := { s.grn with roomed := [] } }, []) := by
    simp [State.act, State.retryPuts, State.roomFreed, hput, htrk]
  have hrun (n : Nat) : State.run (n + 3) s [] = { s with grn := { s.grn with roomed := [] } } := by
    rw [State.run, hroomed]
    dsimp only
    rw [State.run, hact]
    exact State.run_nil n rfl
  rw [State.work, ← Nat.sub_add_cancel (show 3 ≤ 2 ^ 20 by norm_num)]
  exact hrun _

/-! The start of a walk (R174, R176). -/

/-- The register of a walk that begins. -/
def State.flushBegun (s : State) (r op x : Nat) : State :=
  ((((s.set GRN_FLUSH_CMD.SHELF r x).set GRN_FLUSH_CMD.OP r op).set GRN_FLUSH_CMD.RESULT r 0).set GRN_FLUSH_CMD.BUSY r 1).set
    GRN_FLUSH_STS.WRITTEN r 0

/-- What INVALIDATE cancels of a shelf: its buffer entries that are not issued, and its lines that wait for room (R174). -/
def State.cancelled (s : State) (x : Nat) : State :=
  let s1 := s.dropWb (fun e => !e.issued && shelfOf e.block == x)
  { s1 with grn := { s1.grn with waitPut := s1.grn.waitPut.filter (fun e => shelfOf e.1 != x) } }

section
variable {s : State} {p : Path} {r x op : Nat} (h : s.admits p (grnSet r))
include h

theorem flushStart_busy (hb : s.flag GRN_FLUSH_CMD.BUSY r = true) :
    flushStart p r op x s = ((s.set GRN_FLUSH_CMD.SHELF r x).set GRN_FLUSH_CMD.OP r op).discard (grnSet r) := by
  unfold flushStart
  rw [hb]
  exact State.startWith_busy _ _ h

section
variable (hb : s.flag GRN_FLUSH_CMD.BUSY r = false)
include hb

theorem flushStart_otherRegion (hop : op < 2) (hx : x % 4 ≠ r) :
    flushStart p r op x s =
      ((s.set GRN_FLUSH_CMD.SHELF r x).set GRN_FLUSH_CMD.OP r op).set GRN_FLUSH_CMD.RESULT r 1 := by
  unfold flushStart
  rw [hb, State.startWith_idle _ _ h]
  simp [hop, hx]

theorem flushStart_invalidate (hx : x % 4 = r) :
    flushStart p r 0 x s = (setFlush ((s.flushBegun r 0 x).cancelled x) r { running := true, op := 0, shelf := x }).work [] := by
  unfold flushStart
  rw [hb, State.startWith_idle _ _ h]
  simp only [hx, bne_self_eq_false, Bool.and_false, Bool.false_eq_true, if_false, if_true]
  rfl

theorem flushStart_cleanInvalidate (hx : x % 4 = r) :
    flushStart p r 1 x s = setFlush (s.flushBegun r 1 x) r { running := true, op := 1, shelf := x } := by
  unfold flushStart
  rw [hb, State.startWith_idle _ _ h]
  simp only [hx, bne_self_eq_false, Bool.and_false, Bool.false_eq_true, if_false, one_ne_zero]
  rfl

theorem flushStart_allClean :
    flushStart p r 2 x s =
      setFlush ((s.flushBegun r 2 x).set GRN_FLUSH_STS.SKIPPED r 0) r { running := true, op := 2, shelf := x } := by
  unfold flushStart
  rw [hb, State.startWith_idle _ _ h]
  rfl

end

end

/-- A walk of an operation and a shelf has begun in t: its register shows it, and of s nothing else but the rest of the Granary
beside its ways has changed. -/
def FlushStarted (s t : State) (r op x : Nat) : Prop :=
  t.get GRN_FLUSH_CMD.BUSY r = 1 ∧ t.get GRN_FLUSH_CMD.RESULT r = 0 ∧ t.get GRN_FLUSH_CMD.OP r = op ∧
    t.get GRN_FLUSH_CMD.SHELF r = x ∧ flushOf t r = { running := true, op := op, shelf := x } ∧ t.grn.ways = s.grn.ways ∧
    t.get GRN_FLUSH_STS.WRITTEN r = 0 ∧ wordsKept s t [.GRN_FLUSH_CMD, .GRN_FLUSH_STS] ∧ { t with regs := s.regs, grn := s.grn } = s

section
variable (s : State) (r op x : Nat)

theorem State.flushBegun_busy : (s.flushBegun r op x).get GRN_FLUSH_CMD.BUSY r = 1 := by
  rw [State.flushBegun, State.get_set_apart _ _ (by decide), State.get_set_same _ _ _ (by decide)]
  rfl

theorem State.flushBegun_result : (s.flushBegun r op x).get GRN_FLUSH_CMD.RESULT r = 0 := by
  rw [State.flushBegun, State.get_set_apart _ _ (by decide), State.get_set_apart _ _ (by decide), State.get_set_same _ _ _ (by decide)]
  rfl

theorem State.flushBegun_op : (s.flushBegun r op x).get GRN_FLUSH_CMD.OP r = op % 4 := by
  rw [State.flushBegun, State.get_set_apart _ _ (by decide), State.get_set_apart _ _ (by decide), State.get_set_apart _ _ (by decide),
    State.get_set_same _ _ _ (by decide)]
  rfl

theorem State.flushBegun_shelf : (s.flushBegun r op x).get GRN_FLUSH_CMD.SHELF r = x % 2 ^ 20 := by
  rw [State.flushBegun, State.get_set_apart _ _ (by decide), State.get_set_apart _ _ (by decide), State.get_set_apart _ _ (by decide),
    State.get_set_apart _ _ (by decide), State.get_set_same _ _ _ (by decide)]

theorem State.flushBegun_written : (s.flushBegun r op x).get GRN_FLUSH_STS.WRITTEN r = 0 := by
  rw [State.flushBegun, State.get_set_same _ _ _ (by decide), Nat.zero_mod]

theorem State.wordsKept_flushBegun : wordsKept s (s.flushBegun r op x) [.GRN_FLUSH_CMD, .GRN_FLUSH_STS] := by
  unfold State.flushBegun
  exact (((((wordsKept.refl s _).set (by decide)).set (by decide)).set (by decide)).set (by decide)).set (by decide)

end

theorem State.get_of_regs {s t : State} (h : t.regs = s.regs) (f : Fld) (i : Nat) : t.get f i = s.get f i := by
  simp only [State.get, State.word, h]

/-- A walk has begun where its register and its entry say so. -/
theorem FlushStarted.of_begun {s t : State} {r op x : Nat} (hop : op < 4) (hx : x < 2 ^ 20) (hregs : t.regs = (s.flushBegun r op x).regs)
    (hflush : flushOf t r = { running := true, op := op, shelf := x }) (hways : t.grn.ways = s.grn.ways)
    (hrest : { t with regs := s.regs, grn := s.grn } = s) : FlushStarted s t r op x := by
  have hget (f : Fld) : t.get f r = (s.flushBegun r op x).get f r := State.get_of_regs hregs f r
  have hword (q : Reg) (i : Nat) : t.word q i = (s.flushBegun r op x).word q i := by simp only [State.word, hregs]
  refine ⟨?_, ?_, ?_, ?_, hflush, hways, ?_, fun q i hq => ?_, hrest⟩
  · rw [hget, State.flushBegun_busy]
  · rw [hget, State.flushBegun_result]
  · rw [hget, State.flushBegun_op, Nat.mod_eq_of_lt hop]
  · rw [hget, State.flushBegun_shelf, Nat.mod_eq_of_lt hx]
  · rw [hget, State.flushBegun_written]
  · rw [hword, s.wordsKept_flushBegun r op x q i hq]

/-- SKIPPED is counted anew (R176). -/
theorem FlushStarted.skipped {s t : State} {r op x : Nat} (h : FlushStarted s t r op x) :
    FlushStarted s (t.set GRN_FLUSH_STS.SKIPPED r 0) r op x := by
  obtain ⟨hbusy, hresult, hop, hshelf, hflush, hways, hwritten, hwords, hrest⟩ := h
  exact ⟨(t.get_set_apart _ (by decide)).trans hbusy, (t.get_set_apart _ (by decide)).trans hresult,
    (t.get_set_apart _ (by decide)).trans hop, (t.get_set_apart _ (by decide)).trans hshelf, hflush, hways,
    (t.get_set_apart _ (by decide)).trans hwritten, hwords.set (by decide), hrest⟩

/-- Where the buffers hold nothing to cancel, INVALIDATE does nothing but begin its walk. -/
theorem State.cancelled_none {s : State} {x : Nat} (hput : s.grn.waitPut = []) (hroomed : s.grn.roomed = [])
    (hbuf : s.grn.wbuf.all (fun e => e.issued || shelfOf e.block != x) = true) : s.cancelled x = s := by
  have hnone (e : WbEntry) (he : e ∈ s.grn.wbuf) : (!e.issued && shelfOf e.block == x) = false := by
    have hkeep := List.all_eq_true.1 hbuf e he
    simp only [Bool.or_eq_true, bne_iff_ne] at hkeep
    rcases hkeep with hissued | hother
    · simp [hissued]
    · simp [hother]
  have hkept : s.grn.wbuf.filter (fun e => !(!e.issued && shelfOf e.block == x)) = s.grn.wbuf :=
    List.filter_eq_self.2 fun e he => by rw [hnone e he]; rfl
  have hgone : s.grn.wbuf.filter (fun e => !e.issued && shelfOf e.block == x) = [] :=
    List.filter_eq_nil_iff.2 fun e he => by rw [hnone e he]; exact Bool.false_ne_true
  have hsame : { s with grn := { s.grn with roomed := [], waitPut := [] } } = s := by rw [← hroomed, ← hput]
  simpa only [State.cancelled, State.dropWb, hkept, hgone, hroomed, hput, List.map_nil, List.append_nil, List.dedup_nil,
    List.filter_nil] using hsame

section
variable {s : State} {p : Path} {r : Region} {x : Nat} (h : s.admits p (grnSet r)) (hb : s.flag GRN_FLUSH_CMD.BUSY r = false)
include h hb

/-- INVALIDATE begins its walk; with nothing to cancel it does nothing else (R174). -/
theorem flushStart_invalidate_started (hx : x % 4 = r.val) (hlt : x < 2 ^ 20) (hput : s.grn.waitPut = []) (hroomed : s.grn.roomed = [])
    (hbuf : s.grn.wbuf.all (fun e => e.issued || shelfOf e.block != x) = true) : FlushStarted s (flushStart p r 0 x s) r 0 x := by
  have hstart : flushStart p r 0 x s = setFlush (s.flushBegun r 0 x) r { running := true, op := 0, shelf := x } := by
    rw [flushStart_invalidate h hb hx, State.cancelled_none (s := s.flushBegun r 0 x) hput hroomed hbuf]
    exact State.work_nil hroomed
  rw [hstart]
  exact .of_begun (by decide) hlt rfl (flushOf_setFlush ..) rfl rfl

theorem flushStart_cleanInvalidate_started (hx : x % 4 = r.val) (hlt : x < 2 ^ 20) : FlushStarted s (flushStart p r 1 x s) r 1 x := by
  rw [flushStart_cleanInvalidate h hb hx]
  exact .of_begun (by decide) hlt rfl (flushOf_setFlush ..) rfl rfl

/-- ALL_CLEAN counts SKIPPED anew too (R176). -/
theorem flushStart_allClean_started (hlt : x < 2 ^ 20) : FlushStarted s (flushStart p r 2 x s) r 2 x := by
  have hbegun : FlushStarted s (setFlush (s.flushBegun r 2 x) r { running := true, op := 2, shelf := x }) r 2 x :=
    .of_begun (by decide) hlt rfl (flushOf_setFlush ..) rfl rfl
  rw [flushStart_allClean h hb]
  exact hbegun.skipped

/-- INVALIDATE removes a buffer entry of its shelf that is not issued, and what waits for room finds nothing to do (R172, R174). -/
theorem flushStart_invalidate_cancels {e : WbEntry} (hx : x % 4 = r.val) (hput : s.grn.waitPut = []) (hroomed : s.grn.roomed = [])
    (htrk : s.cat.trk = []) (hbuf : s.grn.wbuf = [e]) (hissued : e.issued = false) (hshelf : shelfOf e.block = x) :
    let t := flushStart p r 0 x s
    t.grn.wbuf = [] ∧ t.get GRN_FLUSH_CMD.BUSY r = 1 ∧ flushOf t r = { running := true, op := 0, shelf := x } ∧ t.sends s ∧ t.hbm = s.hbm := by
  have hcancelled : (s.flushBegun r 0 x).cancelled x =
      { s.flushBegun r 0 x with grn := { s.grn with wbuf := [], roomed := [e.ctrl], waitPut := [] } } := by
    have hgrn : (s.flushBegun r 0 x).grn = s.grn := rfl
    simp [State.cancelled, State.dropWb, hgrn, hbuf, hissued, hshelf, hroomed, hput]
  obtain ⟨u, hu⟩ : ∃ u, u = setFlush ((s.flushBegun r 0 x).cancelled x) r { running := true, op := 0, shelf := x } := ⟨_, rfl⟩
  have hugrn : u.grn.roomed = [e.ctrl] ∧ u.grn.waitPut = [] ∧ u.grn.wbuf = [] := by
    rw [hu, hcancelled]
    exact ⟨rfl, rfl, rfl⟩
  obtain ⟨huroomed, huput, hubuf⟩ := hugrn
  have husame : u.regs = (s.flushBegun r 0 x).regs ∧ u.cat = s.cat ∧ u.swc = s.swc ∧ u.out = s.out ∧ u.hbm = s.hbm := by
    rw [hu, hcancelled]
    exact ⟨rfl, rfl, rfl, rfl, rfl⟩
  obtain ⟨huregs, hucat, huswc, huout, huhbm⟩ := husame
  have huflush : flushOf u r = { running := true, op := 0, shelf := x } := by rw [hu, flushOf_setFlush]
  rw [flushStart_invalidate h hb hx, ← hu, State.work_roomed huroomed huput (by rw [hucat, htrk])]
  exact ⟨hubuf, (State.get_of_regs huregs _ r).trans (s.flushBegun_busy r 0 x), huflush, ⟨huswc, huout⟩, huhbm⟩

end

/-- A walk's command given by a path that may not write its register (R497). -/
theorem flushStart_refused {s : State} {p : Path} {r op x : Nat} (h : s.mayWrite p = false) :
    flushStart p r op x s = if s.windowGone (setUnit (grnSet r)) || s.unheard p then s else s.discard (grnSet r) :=
  State.startWith_refused _ _ _ h

/-- A write of GRN_FLUSH_CMD does what its bits start (R174, R176). -/
theorem exec_registerWrite_flushCmd {s : State} {p : Path} {a : BitVec 32} {i : Nat} (d : BitVec 64)
    (h : s.writeReaches p a (.reg .GRN_FLUSH_CMD i)) :
    exec (.registerWrite p a d 4) s =
      if d.getLsbD 22 then
        (if s.flag GRN_FLUSH_CMD.BUSY i then .next (startDiscarded (regSet s .GRN_FLUSH_CMD i a.toNat) s (s.stored .GRN_FLUSH_CMD i d a))
        else .next (if bits (d.setWidth 32) 20 2 = 3 then (s.stored .GRN_FLUSH_CMD i d a).set GRN_FLUSH_CMD.RESULT i 2
          else flushStart p i (bits (d.setWidth 32) 20 2) (bits (d.setWidth 32) 0 20) (s.stored .GRN_FLUSH_CMD i d a)))
      else .next (s.stored .GRN_FLUSH_CMD i d a) := by
  rw [exec_registerWrite_of_reaches d h, ← bit_lowWord d (by decide : 22 < 32)]
  refine (next_goes ..).trans ?_
  congr 2
  split
  · rfl
  · rfl

/-! The end of a walk (R174, R176). -/

section
variable {s : State} {r : Region}

theorem flushWalkStep_idle {found : List ColRead} (h : (flushOf s r).running = false) : flushWalkStep r found s = s := by
  simp [flushWalkStep, h]

theorem flushWalkStep_nothingLeft {found : List ColRead} (h : flushNext s (flushOf s r) r = none) : flushWalkStep r found s = s := by
  simp [flushWalkStep, h]

theorem flushWalkDone_idle (h : (flushOf s r).running = false) : flushWalkDone r s = s := by
  simp [flushWalkDone, h]

theorem flushWalkDone_early (h : flushNext s (flushOf s r) r ≠ none) : flushWalkDone r s = s := by
  simp [flushWalkDone, h]

/-- Nothing is left to do and nothing that the walk sent is open. -/
theorem flushWalkDone_over (hrun : (flushOf s r).running = true) (hnext : flushNext s (flushOf s r) r = none)
    (hpower : (flushOf s r).power = false)
    (hwrites : s.grn.writes.all (fun w =>
      w.region != r.val || (flushOf s r).op != 2 && shelfOf w.line != (flushOf s r).shelf) = true)
    (hput : s.grn.waitPut.all (fun e =>
      homeOf e.1 != r.val || (flushOf s r).op != 2 && shelfOf e.1 != (flushOf s r).shelf) = true) :
    flushWalkDone r s = ((setFlush s r {}).set GRN_FLUSH_CMD.BUSY r 0).set GRN_FLUSH_STS.DONE r 1 := by
  have hopen : (s.grn.writes.any (fun w => w.region == r.val && ((flushOf s r).op == 2 || shelfOf w.line == (flushOf s r).shelf)) ||
      s.grn.waitPut.any (fun e => homeOf e.1 == r.val && ((flushOf s r).op == 2 || shelfOf e.1 == (flushOf s r).shelf))) = false := by
    rw [Bool.or_eq_false_iff, List.any_eq_not_all_not, List.any_eq_not_all_not, Bool.not_eq_false', Bool.not_eq_false']
    simp only [Bool.not_and, Bool.not_or]
    exact ⟨hwrites, hput⟩
  unfold flushWalkDone
  simp only [hrun, hnext, hpower, hopen, Option.isNone_none, Bool.not_false, Bool.and_self, if_true, Bool.false_eq_true, if_false]

end

/-! A pool write completes (R170, R172). -/

theorem State.sourceWritten_none {s : State} (h : s.bnd.rsh = []) (fa port : Nat) : s.sourceWritten fa port = s := by
  simp [State.sourceWritten, State.rshSlot, h]

/-- Where nothing is re-shelved, the oldest write of the line leaves and is done with. -/
theorem poolWriteComplete_found {s : State} {r : Region} {a : FAddr} {x : PoolWr}
    (hfind : s.grn.writes.find? (fun y => y.region == r.val && y.line == lineOf a.toNat && y.held.isNone) = some x)
    (hrsh : s.bnd.rsh = []) :
    poolWriteComplete r a s = writeDone { s with grn := { s.grn with writes := s.grn.writes.erase x } } x := by
  unfold poolWriteComplete
  rw [hfind]
  exact congrArg (fun u => writeDone u x) (State.sourceWritten_none (by exact hrsh) ..)

theorem poolWriteComplete_none {s : State} {r : Region} {a : FAddr}
    (hfind : s.grn.writes.find? (fun y => y.region == r.val && y.line == lineOf a.toNat && y.held.isNone) = none) :
    poolWriteComplete r a s = s := by
  unfold poolWriteComplete
  rw [hfind]

/-- A way with a sector clean: pinned no longer than it is dirty (R149, R170). -/
def Way.cleaned (w : Way) (i : Nat) : Way :=
  let left := w.dirty &&& ~~~ (BitVec.ofNat 4 (2 ^ i))
  { w with dirty := left, pinned := w.pinned && left != 0 }

theorem Way.cleaned_dirty (w : Way) (k : Nat) {i : Nat} (hi : i < 4) :
    (w.cleaned k).dirty.getLsbD i = (w.dirty.getLsbD i && i != k) := by
  have hk : (!decide (k = i)) = (i != k) := by rw [bne, beq_eq_decide, decide_eq_decide.2 eq_comm]
  simp only [Way.cleaned, BitVec.getLsbD_and, BitVec.getLsbD_not, BitVec.getLsbD_ofNat, Nat.testBit_two_pow, hi, decide_true,
    Bool.true_and, hk]

/-- A write that a way of the Granary sent cleans its sector (R170). -/
theorem writeDone_way {s : State} {x : PoolWr} {v : Nat} (hfrom : x.from_ = .way ∨ x.from_ = .through)
    (hway : s.findWay x.region x.line = some v) (hretired : s.grn.retired = []) :
    writeDone s x = s.setWay (wayKey x.region (grnIndex x.line) v)
      ((s.way (wayKey x.region (grnIndex x.line) v)).cleaned (sectorOf x.line)) := by
  rcases hfrom with hfrom | hfrom
  · simp [writeDone, hfrom, hway, hretired, Way.cleaned]
  · simp [writeDone, hfrom, hway, hretired, Way.cleaned]

/-- The last write of the only buffer entry frees it (R172). -/
theorem writeDone_lastOfEntry {s : State} {x : PoolWr} {e : WbEntry} (hfrom : x.from_ = .buffer) (hbuf : s.grn.wbuf = [e])
    (hissued : e.issued = true) (hblock : e.block = x.line / 256 * 256) (hdirty : e.dirty = BitVec.ofNat 4 (2 ^ sectorOf x.line))
    (htrk : s.cat.trk = []) (hput : s.grn.waitPut = []) (hroomed : s.grn.roomed = []) :
    writeDone s x = { s with grn := { s.grn with wbuf := [] } } := by
  have hfree : (s.dropWb (fun y => y == e)).grn.roomed = [e.ctrl] := by simp [State.dropWb, hbuf, hroomed]
  have hdone : writeDone s x = (s.dropWb (fun y => y == e)).work [] := by
    simp [writeDone, hfrom, hbuf, hissued, hblock, hdirty]
  rw [hdone, State.work_roomed hfree hput htrk]
  simp [State.dropWb, hbuf, ← hroomed]

/-- Settles O20, from what starting a walk, a step of each walk, its end, and the completion of a pool write leave. -/
theorem flushWalks : Obligations.FlushWalks := by
  unfold Obligations.FlushWalks
  refine ⟨fun s p r x h hb hx hput hroomed hbuf => ⟨?_, ?_, ?_⟩, fun s p r x e h hb hx hput hroomed htrk hbuf hissued hshelf => ?_,
    fun s p r x h hb hx => ⟨?_, ?_⟩, fun s p r x h hb => ⟨?_, ?_, ?_⟩, fun s r l f n e hf hrun hop hnext hhere => ?_,
    fun s r f n e hf hrun hop hnext hhere hdirty hbuf hwrites hheld hstall _ hway => ?_,
    fun s r f n e hf hrun hop hnext hhere hheld _ _ hway => ?_, fun s r l h => ⟨?_, ?_⟩, fun s r l h => ?_, fun s r h => ?_,
    fun s r hrun hnext hpower hwrites hput => ?_, fun s p a d i h => ?_, fun s p r x h => ⟨?_, ?_, ?_⟩,
    fun s r a x hfind hrsh hfrom => ?_, fun s r a x v hfind hrsh hfrom hway hretired => ?_,
    fun s r a x e hfind hrsh hfrom hbuf hissued hblock hdirty htrk hput hroomed => ?_, fun s r a hfind => ?_⟩
  · exact ⟨_, rfl, flushStart_invalidate_started h hb hx x.isLt hput hroomed hbuf⟩
  · exact ⟨_, rfl, flushStart_cleanInvalidate_started h hb hx x.isLt⟩
  · exact ⟨_, rfl, flushStart_allClean_started h hb (s.get_lt GRN_FLUSH_CMD.SHELF r)⟩
  · exact ⟨_, rfl, flushStart_invalidate_cancels h hb hx hput hroomed htrk hbuf hissued hshelf⟩
  · exact congrArg Host.Outcome.next (flushStart_otherRegion h hb (by decide) hx)
  · exact congrArg Host.Outcome.next (flushStart_otherRegion h hb (by decide) hx)
  · exact congrArg Host.Outcome.next (flushStart_busy h hb)
  · exact congrArg Host.Outcome.next (flushStart_busy h hb)
  · exact congrArg Host.Outcome.next (flushStart_busy h hb)
  · exact ⟨_, rfl, flushWalkStep_invalidate hf hrun hnext hhere hop⟩
  · exact ⟨_, rfl, flushWalkStep_cleanInvalidate hf hrun hnext hhere hop hdirty hbuf hwrites hheld hstall hway⟩
  · exact ⟨_, rfl, flushWalkStep_allClean hf hrun hnext hhere hop hheld hway⟩
  · exact congrArg Host.Outcome.next (flushWalkStep_idle h)
  · exact congrArg Host.Outcome.next (flushWalkDone_idle h)
  · exact congrArg Host.Outcome.next (flushWalkStep_nothingLeft h)
  · exact congrArg Host.Outcome.next (flushWalkDone_early h)
  · refine ⟨_, congrArg Host.Outcome.next (flushWalkDone_over hrun hnext hpower hwrites hput), flushOf_setFlush .., ?_, ?_, ?_, rfl⟩
    · rw [State.get_set_apart _ _ (by decide), State.get_set_same _ _ _ (by decide), Nat.zero_mod]
    · rw [State.get_set_same _ _ _ (by decide)]
      rfl
    · exact ((wordsKept.refl (setFlush s r {}) _).set (by decide)).set (by decide)
  · exact exec_registerWrite_flushCmd d h
  · exact congrArg Host.Outcome.next (flushStart_refused h)
  · exact congrArg Host.Outcome.next (flushStart_refused h)
  · exact congrArg Host.Outcome.next (flushStart_refused h)
  · refine ⟨_, congrArg Host.Outcome.next (poolWriteComplete_found hfind hrsh), ?_⟩
    simp only [writeDone, hfrom]
  · obtain ⟨hregion, -⟩ : x.region = r.val ∧ x.line = lineOf a.toNat := by
      have hx := List.find?_some hfind
      simp only [Bool.and_eq_true, beq_iff_eq] at hx
      exact hx.1
    rw [← hregion] at hway ⊢
    refine ⟨_, congrArg Host.Outcome.next ((poolWriteComplete_found hfind hrsh).trans (writeDone_way hfrom hway hretired)), rfl,
      fun i hi => ?_, fun k hk => ?_, rfl⟩
    · rw [State.way_setWay_same, Way.cleaned_dirty _ _ hi]
      rfl
    · rw [State.way_setWay_ne _ _ hk]
      rfl
  · exact ⟨_, congrArg Host.Outcome.next ((poolWriteComplete_found hfind hrsh).trans
      (writeDone_lastOfEntry hfrom hbuf hissued hblock hdirty htrk hput hroomed)), rfl⟩
  · exact congrArg Host.Outcome.next (poolWriteComplete_none hfind)

end Sys2Proof.Machine
end

section
/-! SUPPORT. What the work on cells keeps that follows the loss of an output: the cells queued for it are dropped, held cells are admitted, and
the Gleaner samples those (R191–R195, R215–R217). It writes the registers of `cellRegs` alone, and leaves the image, the routing entries and
the lost gate lists as they are; no bit of STS is lost by it. `CellKeeps s₀ t` says that t has kept them since s₀; each function f of this
work has one lemma `CellKeeps.f`, which follows f's shape. -/
namespace Sys2Proof.Machine
open Sys2Proof

/-- The registers that this work writes. -/
def cellRegs : List Reg := noteRegs ++
  [.CAT_DROP_STS, .CHIP_CHG_SUM, .PRT_PORT_EVT, .QMG_CACHE_STS, .QMG_ERR_CAP, .QMG_WIN_STS, .SWC_DOWN_DROP, .SWC_GLN_STS, .SWC_OVF_STS,
   .SWC_RSQ_STS, .SWC_SPN_STS, .SWC_VOQ_OCC, .TFC_POL_CHAFF, .TIL_EVT]

/-- State t since s₀. -/
structure CellKeeps (s₀ t : State) : Prop where
  word : ∀ r i, r ∉ cellRegs → t.word r i = s₀.word r i
  sts : ∀ x e, s₀.stsBit x e → t.stsBit x e
  boot : t.boot = s₀.boot
  gateLost : t.tfc.gateLost = s₀.tfc.gateLost
  rt : t.swc.rt = s₀.swc.rt

theorem CellKeeps.refl (s : State) : CellKeeps s s :=
  ⟨fun _ _ _ => rfl, fun _ _ h => h, rfl, rfl, rfl⟩

variable {s₀ s t : State}

section
variable {out : List Msg} {free : Nat} {fatal : Bool} {time : Tab Nat} {hbm ret : List Host.Cell} {lat : Latches} {sup : SupState}
  {flt : FltState} {i3c : I3cState} {spw : SpwState} {arc : ArcState} {bnd : BndState} {cat : CatState} {grn : GrnState} {prt : PrtState}
  {ll : LlState} {qmg : QmgState} {dmv : DmvState} {lib : LibState}

/-- A change of fields in which none of them stands. -/
theorem CellKeeps.fields (h : CellKeeps s₀ s) :
    CellKeeps s₀ { s with out, free, fatal, time, hbm, ret, lat, sup, flt, i3c, spw, arc, bnd, cat, grn, prt, ll, qmg, dmv, lib } :=
  ⟨h.word, h.sts, h.boot, h.gateLost, h.rt⟩

end

/-- A change of the switch core outside its routing entries. -/
theorem CellKeeps.sw {f : SwcState → SwcState} (h : CellKeeps s₀ s) (hf : ∀ w, (f w).rt = w.rt := by exact fun _ => rfl) :
    CellKeeps s₀ (s.sw f) :=
  ⟨h.word, h.sts, h.boot, h.gateLost, (hf _).trans h.rt⟩

/-- A change of traffic control outside its lost gate lists. -/
theorem CellKeeps.withTfc {x : TfcState} (h : CellKeeps s₀ s) (hx : x.gateLost = s.tfc.gateLost := by rfl) :
    CellKeeps s₀ { s with tfc := x } :=
  ⟨h.word, h.sts, h.boot, hx.trans h.gateLost, h.rt⟩

theorem CellKeeps.set {f : Fld} {i v : Nat} (h : CellKeeps s₀ s) (hf : cellRegs.contains f.reg = true := by rfl) :
    CellKeeps s₀ (s.set f i v) where
  word r j hr := (s.word_set_reg v (by rintro rfl; exact hr (List.contains_iff_mem.1 hf))).trans (h.word r j hr)
  sts := h.sts
  boot := h.boot
  gateLost := h.gateLost
  rt := h.rt

theorem CellKeeps.bump {f : Fld} {i n : Nat} (h : CellKeeps s₀ s) (hf : cellRegs.contains f.reg = true := by rfl) :
    CellKeeps s₀ (s.bump f i n) :=
  h.set hf

theorem CellKeeps.raise {f : Fld} {i v : Nat} (h : CellKeeps s₀ s) (hf : cellRegs.contains f.reg = true := by rfl) :
    CellKeeps s₀ (s.raise f i v) :=
  h.set hf

theorem CellKeeps.setBits {f : Fld} {i m : Nat} (h : CellKeeps s₀ s) (hf : cellRegs.contains f.reg = true := by rfl) :
    CellKeeps s₀ (s.setBits f i m) :=
  h.set hf

theorem CellKeeps.ite {c : Prop} [Decidable c] {a b : State} (ha : CellKeeps s₀ a) (hb : CellKeeps s₀ b) :
    CellKeeps s₀ (if c then a else b) := by
  split
  · exact ha
  · exact hb

theorem CellKeeps.foldl {β : Type} {l : List β} {f : State → β → State} (h : CellKeeps s₀ s)
    (hf : ∀ {u b}, CellKeeps s₀ u → CellKeeps s₀ (f u b)) : CellKeeps s₀ (l.foldl f s) := by
  induction l generalizing s with
  | nil => exact h
  | cons b l ih => exact ih (hf h)

/-- The same of a function that answers a state with another value, in its state. -/
def CellFst {α : Type} (s₀ : State) (x : State × α) : Prop := CellKeeps s₀ x.1

section
variable {α : Type} {a : α} {x y : State × α}

theorem CellFst.pair (h : CellKeeps s₀ s) : CellFst s₀ (s, a) := h
theorem CellFst.fst (h : CellFst s₀ x) : CellKeeps s₀ x.1 := h

theorem CellFst.of (h : CellFst s₀ x) (e : x = (t, a)) : CellKeeps s₀ t := by
  rw [e] at h
  exact h

theorem CellFst.ite {c : Prop} [Decidable c] (hx : CellFst s₀ x) (hy : CellFst s₀ y) : CellFst s₀ (if c then x else y) := by
  split
  · exact hx
  · exact hy

theorem CellFst.foldl {β : Type} {l : List β} {f : State × α → β → State × α} (h : CellFst s₀ x)
    (hf : ∀ {u b}, CellFst s₀ u → CellFst s₀ (f u b)) : CellFst s₀ (l.foldl f x) := by
  induction l generalizing x with
  | nil => exact h
  | cons b l ih => exact ih (hf h)

end

/-! Counting and recording. -/

/-- What a note may change. -/
theorem CellKeeps.noted (h : CellKeeps s₀ s) (g : Noted s t) : CellKeeps s₀ t where
  word r i hr := (g.word r i fun hm => hr (List.mem_append_left _ hm)).trans (h.word r i hr)
  sts x e hs := g.sts x e (h.sts x e hs)
  boot := (congrArg (fun x : State => x.boot) g.unnoted :).trans h.boot
  gateLost := (congrArg (fun x : State => x.tfc.gateLost) g.unnoted :).trans h.gateLost
  rt := (congrArg (fun x : State => x.swc.rt) g.unnoted :).trans h.rt

theorem CellKeeps.count {r e qual k : Nat} (h : CellKeeps s₀ s) : CellKeeps s₀ (s.count r e qual k) :=
  h.noted (.count ..)

theorem Noted.countPort (s : State) (p c k : Nat) : Noted s (s.countPort p c k) :=
  .ite (.refl s) (.addCounter ..)

theorem CellKeeps.countPort {p c k : Nat} (h : CellKeeps s₀ s) : CellKeeps s₀ (s.countPort p c k) :=
  h.noted (.countPort ..)

/-- An occurrence that is only corrected or deferred. -/
theorem CellKeeps.recordMild {o : Occ} (h : CellKeeps s₀ s) (ho : o.cls < 2) : CellKeeps s₀ (s.record o) := by
  rw [State.record_of_mild s o ho]
  exact h.noted (.noted ..)

theorem CellKeeps.emit {m : Msg} (h : CellKeeps s₀ s) : CellKeeps s₀ (s.emit m) :=
  h.fields

/-! Queues and their rings. -/

theorem CellKeeps.setCtx {q : Nat} {c : BitVec 512} (h : CellKeeps s₀ s) : CellKeeps s₀ (s.setCtx q c) :=
  h.fields

theorem CellKeeps.ownerIrq {q : Nat} {c : BitVec 512} (h : CellKeeps s₀ s) : CellKeeps s₀ (s.ownerIrq q c) :=
  .ite h.emit (.ite h.emit h.emit)

theorem CellKeeps.indexWord {q : Nat} {c : BitVec 512} (h : CellKeeps s₀ s) : CellKeeps s₀ (s.indexWord q c) :=
  h.emit.fields

theorem CellKeeps.indexDue {q : Nat} {c : BitVec 512} (h : CellKeeps s₀ s) : CellKeeps s₀ (s.indexDue q c) :=
  .ite h.fields h

theorem CellKeeps.qmgCapture {r q cause : Nat} (h : CellKeeps s₀ s) : CellKeeps s₀ (s.qmgCapture r q cause) :=
  .ite h (.ite h.bump h.set.set.set.set)

/-- A full ring is corrected (R309). -/
theorem qmgFull_mild {r : Nat} (hr : r < 4) : classOf (qmgSet r) 3 < 2 := by
  interval_cases r <;> decide

theorem CellKeeps.qmgFull {q : Nat} (h : CellKeeps s₀ s) : CellKeeps s₀ (s.qmgError q 3 1) :=
  h.qmgCapture.recordMild (qmgFull_mild (Nat.mod_lt _ (by decide)))

theorem CellKeeps.useCtx {q : Nat} (h : CellKeeps s₀ s) : CellKeeps s₀ (s.useCtx q) :=
  h.fields

theorem CellKeeps.waitCtx {q : Nat} {op : QOp} (h : CellKeeps s₀ s) : CellKeeps s₀ (s.waitCtx q op) :=
  h.bump.count.fields

theorem CellKeeps.writeHbm {key : Nat} {bs : List Byte} (h : CellKeeps s₀ s) : CellKeeps s₀ (s.writeHbm key bs) :=
  h.fields.count

theorem CellKeeps.ringPut {q : Nat} {c : BitVec 512} {data : List Byte} (h : CellKeeps s₀ s) : CellKeeps s₀ (s.ringPut q c data) := by
  unfold State.ringPut
  extract_lets off body c1 s1 c2 s2
  have g : CellKeeps s₀ s1 := .ite h.writeHbm h.emit
  exact .ite (.ownerIrq (.ite g.setCtx.indexWord g.setCtx)) g.setCtx.indexDue

theorem CellKeeps.ringWrite {q : Nat} {data : List Byte} (h : CellKeeps s₀ s) : CellFst s₀ (s.ringWrite q data) :=
  .ite (.pair h.ringPut) (.pair h.setCtx)

theorem CellKeeps.noticeStore {q i : Nat} {c : BitVec 512} {data : List Byte} (h : CellKeeps s₀ s) :
    CellKeeps s₀ (s.noticeStore q c i data) :=
  h.writeHbm.fields

theorem CellKeeps.noticeWrite {q : Nat} {data : List Byte} (h : CellKeeps s₀ s) : CellFst s₀ (s.noticeWrite q data) := by
  unfold State.noticeWrite
  extract_lets c occ0 full cons c1 skip c2 c3 s1 s2 c4 s3 level
  have g : CellKeeps s₀ s3 := .setCtx (.ite h.noticeStore.set.set h.noticeStore)
  exact .ite (.pair h) (.pair (.ite g.ownerIrq g))

theorem CellKeeps.produce {q : Nat} {data : List Byte} (h : CellKeeps s₀ s) : CellFst s₀ (s.produce q data) := by
  unfold State.produce
  refine .ite h.noticeWrite (.ite ?_ (.pair h))
  split
  next s1 ok e =>
  have g : CellKeeps s₀ s1 := h.ringWrite.of e
  exact .ite (.pair g) (.pair g.qmgFull)

/-! Policers. -/

theorem CellKeeps.takeTokens {n : Nat} (h : CellKeeps s₀ s) : CellKeeps s₀ (s.takeTokens n) :=
  h.withTfc

theorem CellKeeps.chaff {n : Nat} (h : CellKeeps s₀ s) : CellKeeps s₀ (s.chaff n) :=
  h.bump.count

/-! Cells and the samples of them. -/

theorem CellKeeps.setZwl {z : Nat} {v : ZwlState} (h : CellKeeps s₀ s) : CellKeeps s₀ (s.setZwl z v) :=
  h.fields

theorem CellKeeps.zwlCtl {z type a b : Nat} (h : CellKeeps s₀ s) : CellKeeps s₀ (s.zwlCtl z type a b) :=
  h.setZwl.emit

theorem CellKeeps.zwlQueue {c : Cell} (h : CellKeeps s₀ s) : CellKeeps s₀ (s.zwlQueue c) :=
  .ite h.setZwl.zwlCtl h

theorem CellKeeps.mergePut {input : Nat} {c : Cell} (h : CellKeeps s₀ s) : CellKeeps s₀ (s.mergePut input c) :=
  h.zwlQueue.sw

theorem CellKeeps.downDrop {p n : Nat} (h : CellKeeps s₀ s) : CellKeeps s₀ (s.downDrop p n) :=
  h.bump

theorem CellKeeps.dropCell {c : Cell} (h : CellKeeps s₀ s) : CellKeeps s₀ (s.dropCell c) :=
  .ite h.downDrop.bump h.downDrop

theorem CellKeeps.sampleLost {n : Nat} (h : CellKeeps s₀ s) : CellKeeps s₀ (s.sampleLost n) :=
  h.bump.sw

theorem CellKeeps.sampleWrite {n q : Nat} {capture : Bool} {data : List Byte} (h : CellKeeps s₀ s) :
    CellKeeps s₀ (s.sampleWrite n q capture data) := by
  unfold State.sampleWrite
  extract_lets lost
  split
  next s1 ok e =>
  have g : CellKeeps s₀ s1 := h.useCtx.produce.of e
  exact .ite g (.ite g.bump.sw g.sampleLost)

theorem CellKeeps.toMerge {input : Nat} {c : Cell} (h : CellKeeps s₀ s) : CellKeeps s₀ (s.toMerge input c) := by
  unfold State.toMerge
  split
  · exact .ite h.sampleWrite h.waitCtx
  · exact .ite h.mergePut h.dropCell

theorem CellKeeps.sampleSend {r n q : Nat} {capture : Bool} {data : List Byte} (h : CellKeeps s₀ s) :
    CellKeeps s₀ (s.sampleSend r n q capture data) :=
  .ite h.toMerge h.sw

theorem CellKeeps.sampleOut {n : Nat} {data : List Byte} (h : CellKeeps s₀ s) : CellKeeps s₀ (s.sampleOut n data) :=
  .ite h.sampleSend.sampleSend h.sampleSend

theorem CellKeeps.gleanCell {n p seq : Nat} {c : Cell} {hbm : Bool} (h : CellKeeps s₀ s) :
    CellKeeps s₀ (s.gleanCell n p c hbm seq) := by
  unfold State.gleanCell
  extract_lets total s1 data
  have g : CellKeeps s₀ s1 := h.sw
  refine .ite g.sampleLost ?_
  split
  · exact .ite g.takeTokens.sampleOut g.chaff.sampleLost
  · exact g.sampleOut

theorem CellKeeps.glean {p seq : Nat} {c : Cell} {hbm : Bool} (h : CellKeeps s₀ s) : CellKeeps s₀ (s.glean p c hbm seq) :=
  h.foldl fun g => .ite (.ite g.sw.gleanCell g.sw) g

/-! Admission. -/

theorem CellKeeps.markDelay {c : Cell} (h : CellKeeps s₀ s) : CellFst s₀ (s.markDelay c) :=
  .ite (.ite (.pair h.withTfc) (.pair h.withTfc)) (.pair h)

theorem CellKeeps.voqPut {p : Nat} {c : Cell} (h : CellKeeps s₀ s) : CellKeeps s₀ (s.voqPut p c) := by
  unfold State.voqPut
  exact h.set.raise.sw

theorem CellKeeps.ovfPut {p : Nat} {c0 : Cell} (h : CellKeeps s₀ s) : CellKeeps s₀ (s.ovfPut p c0) := by
  unfold State.ovfPut
  exact (CellKeeps.ite h.set.count.bump h.set.count).writeHbm.sw

theorem CellKeeps.voqAdmit {p : Nat} {c : Cell} (h : CellKeeps s₀ s) (e : s.voqAdmit p c = some t) : CellKeeps s₀ t := by
  unfold State.voqAdmit at e
  simp only at e
  split at e
  · cases e
    exact h.dropCell
  · split at e
    · cases e
    · cases e
      exact .glean (.ite h.markDelay.fst.countPort.countPort.voqPut h.markDelay.fst.countPort.countPort.ovfPut)

theorem CellKeeps.creditBack {p : Nat} {need : List Nat} (h : CellKeeps s₀ s) : CellKeeps s₀ (s.creditBack p need) :=
  .ite (h.foldl fun g => g.fields) h

theorem CellKeeps.admitHeld {p : Nat} (h : CellKeeps s₀ s) : CellKeeps s₀ (s.admitHeld p) := by
  unfold State.admitHeld
  refine .sw (CellFst.fst (.foldl (.pair h) (fun g => .ite (.pair g.fst) ?_)))
  split
  · exact .pair (.creditBack (.voqAdmit g.fst ‹_›))
  · exact .pair g.fst

/-! An output or an input that is emptied (R192, R447). -/

theorem CellKeeps.emptyInput {p : Nat} (h : CellKeeps s₀ s) : CellKeeps s₀ (s.emptyInput p) := by
  unfold State.emptyInput
  extract_lets s1
  have g : CellKeeps s₀ s1 := h.set.foldl fun g => g.set
  exact g.sw

theorem CellKeeps.setSpray {a b v : Nat} (h : CellKeeps s₀ s) : CellKeeps s₀ (s.setSpray a b v) :=
  h.set.foldl fun g => g.set

theorem CellKeeps.exitIfDone {a b : Nat} (h : CellKeeps s₀ s) : CellKeeps s₀ (s.exitIfDone a b) :=
  .ite h.setSpray h

theorem CellKeeps.dropOutput {p : Nat} (h : CellKeeps s₀ s) : CellKeeps s₀ (s.dropOutput p) := by
  unfold State.dropOutput
  extract_lets here voqs ovfs merged windowed mine staged n rsp s1 s2 drop some_ backs s3 s4 s5 s6 s7
  have g1 : CellKeeps s₀ s1 := h.foldl fun g => g.set
  have g3 : CellKeeps s₀ s3 := (g1.foldl fun g => g.set).set.sw
  have g4 : CellKeeps s₀ s4 := g3.foldl .creditBack
  have g5 : CellKeeps s₀ s5 := .ite g4.bump g4
  have g7 : CellKeeps s₀ s7 := (g5.foldl fun g => g.sw).foldl .exitIfDone
  exact g7.downDrop.foldl .admitHeld

/-! The port's events (R249, R359). -/

/-- A lost event is corrected (R359). -/
theorem tilLost_mild (t : Nat) : (tilOcc t 3).cls < 2 := by
  have hunit : tillerUnit t < 5 := by
    unfold tillerUnit
    split <;> omega
  have hcls : ∀ u < 5, classOf (tilSet u) 3 < 2 := by decide
  exact hcls _ hunit

theorem CellKeeps.postEvent {n bit : Nat} (h : CellKeeps s₀ s) : CellKeeps s₀ (s.postEvent n bit) :=
  .ite h (.ite (h.bump.recordMild (tilLost_mild n)) h.setBits)

theorem CellKeeps.postHosted {n bit : Nat} {args : List Nat} (h : CellKeeps s₀ s) : CellFst s₀ (s.postHosted n bit args) := by
  unfold State.postHosted State.showEvents State.setTiller
  exact .ite (.pair h) (.ite (.pair h) (.pair h.fields.set))

theorem CellKeeps.hostedNote {r bit : Nat} {args : List Nat} (h : CellKeeps s₀ s) : CellKeeps s₀ (s.hostedNote r bit args) := by
  unfold State.hostedNote
  refine .ite ?_ h
  split
  · exact h.postHosted.fst
  · exact h

theorem CellKeeps.portEvent {p bit : Nat} (h : CellKeeps s₀ s) : CellKeeps s₀ (s.portEvent p bit) :=
  .ite (.hostedNote (.noted h.postEvent.setBits (.ibiPend ..))) h.postEvent

theorem CellKeeps.portEvt {p bit : Nat} (h : CellKeeps s₀ s) : CellKeeps s₀ (s.portEvt p bit) :=
  h.setBits

/-! The agents of an UP port (R127). -/

theorem State.role_of_boot (h : t.boot = s.boot) (p : Nat) : t.role p = s.role p := by
  simp only [State.role, State.plan, State.sect, h]

theorem CellKeeps.role (h : CellKeeps s₀ s) (p : Nat) : s.role p = s₀.role p :=
  State.role_of_boot h.boot p

theorem CellKeeps.die {a : Nat} {sc : DeadScope} (h : CellKeeps s₀ s) : CellKeeps s₀ (s.die a sc) :=
  .ite h h.fields

theorem CellKeeps.lossOf_up {p : Nat} (h : CellKeeps s₀ s) (hp : s.role p = 1) : CellKeeps s₀ (s.lossOf p) := by
  unfold State.lossOf
  rw [if_pos hp]
  exact h.foldl .die

end Sys2Proof.Machine
end

section
/-! SUPPORT. Containment at port scope on an UP port whose link is in L0 (R192, R447, R467): the link goes to Detect, and what is recorded,
the lost gate lists and the routing entries stay. -/
namespace Sys2Proof.Machine
open Sys2Proof

/-! A link that is cleared. -/

/-- The registers that show a link. -/
def linkRegs : List Reg := [.LNK_STS, .PRT_LANE_STS, .PRT_PORT_STS, .ZWL_STS]

theorem wordsKept.foldl {β : Type} {s t : State} {rs : List Reg} {l : List β} {f : State → β → State} (h : wordsKept s t rs)
    (hf : ∀ {u b}, wordsKept s u rs → wordsKept s (f u b) rs) : wordsKept s (l.foldl f t) rs := by
  induction l generalizing t with
  | nil => exact h
  | cons b l ih => exact ih (hf h)

/-- Nothing differs but register words and what links and ports hold beside them. -/
def SameBeyondLink (s t : State) : Prop := { t with regs := s.regs, ll := s.ll, prt := s.prt } = s

theorem SameBeyondLink.ite {s a b : State} {c : Prop} [Decidable c] (ha : SameBeyondLink s a) (hb : SameBeyondLink s b) :
    SameBeyondLink s (if c then a else b) := by
  split
  · exact ha
  · exact hb

section
variable (s : State) (p v : Nat)

theorem State.linkCleared_wordsKept : wordsKept s (s.linkCleared p v) linkRegs := by
  unfold State.linkCleared
  extract_lets s1 s1' s2 ll prt s3
  have h1 : wordsKept s s1 linkRegs :=
    ((((wordsKept.refl s _).set (by decide)).set (by decide)).set (by decide)).set (by decide)
  have h1' : wordsKept s s1' linkRegs := h1.foldl fun g => g.set (by decide)
  have h2 : wordsKept s s2 linkRegs := ((h1'.set (by decide)).set (by decide)).set (by decide)
  have h3 : wordsKept s s3 linkRegs := fun r i hr => h2.setWord (r := .LNK_STS) (i := p) (v := 0) (by decide) r i hr
  split
  · intro r i hr
    exact h3.set (f := ZWL_STS.STATE) (i := zIndex p) (v := 0) (by decide) r i hr
  · exact h3

theorem State.linkCleared_others : SameBeyondLink s (s.linkCleared p v) := by
  unfold State.linkCleared
  extract_lets s1 s1' s2 ll prt s3
  have h1 : onlyRegs s1 s1' := State.foldl_set_onlyRegs s1 PRT_LANE_STS.CDR_LOCK 0 (laneOf p) (portLanes p)
  have h2 : onlyRegs s s2 := onlyRegs.trans (t := s1) rfl h1
  have h3 : SameBeyondLink s s3 := (congrArg (fun u : State => { u with ll := s.ll, prt := s.prt }) h2 :)
  exact .ite h3 h3

theorem State.linkCleared_state : (s.linkCleared p v).get PRT_PORT_STS.STATE p = v % 2 ^ PRT_PORT_STS.STATE.w := by
  unfold State.linkCleared
  extract_lets s1 s1' s2 ll prt s3
  have h1 : s1.get PRT_PORT_STS.STATE p = v % 2 ^ PRT_PORT_STS.STATE.w := by
    unfold s1
    rw [State.get_set_apart _ _ (by decide), State.get_set_apart _ _ (by decide), State.get_set_apart _ _ (by decide)]
    exact s.get_set_same _ _ (by decide)
  have h1' : s1'.get PRT_PORT_STS.STATE p = s1.get PRT_PORT_STS.STATE p :=
    List.foldlRecOn (motive := fun u : State => u.get PRT_PORT_STS.STATE p = s1.get PRT_PORT_STS.STATE p) _ _ rfl
      fun u hu k _ => (u.get_set_apart _ (by decide)).trans hu
  have h2 : s2.get PRT_PORT_STS.STATE p = s1'.get PRT_PORT_STS.STATE p := by
    unfold s2
    rw [State.get_set_apart _ _ (by decide), State.get_set_apart _ _ (by decide), State.get_set_apart _ _ (by decide)]
  have h3 : s3.get PRT_PORT_STS.STATE p = s2.get PRT_PORT_STS.STATE p :=
    s2.get_setWord_reg (r := .LNK_STS) (i := p) 0 (by decide)
  rw [← h1, ← h1', ← h2, ← h3]
  split
  · exact s3.get_set_apart (f := ZWL_STS.STATE) (i := zIndex p) 0 (by decide)
  · rfl

end

/-! The port goes down. -/

/-- The registers that the containment of a port with no shelves behind it writes. -/
def downRegs : List Reg := cellRegs ++ linkRegs

/-- Port p has gone to Detect since s. -/
structure PortDown (p : Nat) (s t : State) : Prop where
  state : t.get PRT_PORT_STS.STATE p = 1
  word : ∀ r i, r ∉ downRegs → t.word r i = s.word r i
  sts : ∀ x e, s.stsBit x e → t.stsBit x e
  gateLost : t.tfc.gateLost = s.tfc.gateLost
  rt : t.swc.rt = s.swc.rt
  ovf : ∀ k, k / 512 = p → Tab.get [] t.swc.ovf k = []

/-- No cell waits at an input or crosses. -/
def State.noInput (s : State) : Prop := s.swc.voq = [] ∧ s.swc.cross = [] ∧ s.swc.held = []

/-- What a port in L0 goes through from its link's clearing to the discard of what was queued for it (R192). -/
def State.outputLost (s : State) (p : Nat) : State := (((s.linkCleared p 1).portEvent p 1).portEvt p 1).dropOutput p

theorem State.ovf_emptyInput (s : State) {p k : Nat} (hk : k / 512 = p) : Tab.get [] (s.emptyInput p).swc.ovf k = [] := by
  unfold State.emptyInput Tab.get
  extract_lets s1
  change (Tab.find (s1.swc.ovf.filter (fun e => e.1 / 512 != p)) k).getD [] = []
  rw [Tab.find_filter s1.swc.ovf (fun j => j / 512 != p), if_neg (by simp [hk])]
  rfl

section
variable {s : State} {p : Nat} (hrole : s.role p = 1) (hstate : s.get PRT_PORT_STS.STATE p = 4)
  (hgang : s.flag PRT_PORT_STS.GANGED p = false)

theorem State.outputLost_keeps (s : State) (p : Nat) : CellKeeps (s.linkCleared p 1) (s.outputLost p) :=
  (CellKeeps.refl _).portEvent.portEvt.dropOutput

theorem State.role_linkCleared (s : State) (p v q : Nat) : (s.linkCleared p v).role q = s.role q :=
  State.role_of_boot (congrArg (fun u : State => u.boot) (s.linkCleared_others p v) :) q

include hrole

theorem State.role_outputLost : (s.outputLost p).role p = 1 :=
  ((s.outputLost_keeps p).role p).trans ((s.role_linkCleared p 1 p).trans hrole)

include hstate hgang

theorem State.portContained_up : s.portContained p = ((s.outputLost p).lossOf p).emptyInput p := by
  have hserve : s.inService p = true := by simp [State.inService, hstate]
  have hdown : s.linkDown p 1 = (s.outputLost p).lossOf p := by
    unfold State.linkDown
    rw [if_neg (by rw [hrole]; decide), if_pos hserve]
    rfl
  unfold State.portContained State.linkPorts
  rw [hgang, if_neg Bool.false_ne_true, List.foldl_cons, List.foldl_nil, if_neg (by rw [hrole]; decide), if_pos hserve, hdown]

theorem State.portContained_down : PortDown p s (s.portContained p) := by
  rw [State.portContained_up hrole hstate hgang]
  have hk : CellKeeps (s.linkCleared p 1) (((s.outputLost p).lossOf p).emptyInput p) :=
    ((s.outputLost_keeps p).lossOf_up (State.role_outputLost hrole)).emptyInput
  have ho := s.linkCleared_others p 1
  refine ⟨?_, fun r i hr => ?_, fun x e he => hk.sts x e ?_, ?_, ?_, fun k hk => State.ovf_emptyInput _ hk⟩
  · exact (congrArg (fun w => bits w _ _) (hk.word _ p (by decide))).trans (s.linkCleared_state p 1)
  · rw [downRegs, List.mem_append, not_or] at hr
    obtain ⟨hcell, hlink⟩ := hr
    exact (hk.word r i hcell).trans (s.linkCleared_wordsKept p 1 r i hlink)
  · exact (State.stsBit_of_ces (congrArg (fun u : State => u.ces) ho :) x e).2 he
  · exact hk.gateLost.trans (congrArg (fun u : State => u.tfc.gateLost) ho :)
  · exact hk.rt.trans (congrArg (fun u : State => u.swc.rt) ho :)

end

/-! Where no cell waits at an input, none comes to wait there. -/

section
variable {s t : State} {p : Nat}

theorem State.noInput.of_swc (h : s.noInput) (hs : t.swc = s.swc) : t.noInput := by
  unfold State.noInput at h ⊢
  rwa [hs]

theorem State.noInput.sw {f : SwcState → SwcState} (h : s.noInput)
    (hf : ∀ w : SwcState, w.voq = [] ∧ w.cross = [] ∧ w.held = [] → (f w).voq = [] ∧ (f w).cross = [] ∧ (f w).held = []) :
    (s.sw f).noInput := hf s.swc h

theorem State.postEvent_swc (s : State) (n bit : Nat) : (s.postEvent n bit).swc = s.swc := by
  unfold State.postEvent
  split
  · rfl
  · split
    · exact State.record_swc ..
    · rfl

theorem State.postHosted_swc (s : State) (t bit : Nat) (args : List Nat) : (s.postHosted t bit args).1.swc = s.swc := by
  unfold State.postHosted
  extract_lets x
  split
  · rfl
  · split
    · rfl
    · rfl

theorem State.hostedNote_swc (s : State) (r bit : Nat) (args : List Nat) : (s.hostedNote r bit args).swc = s.swc := by
  unfold State.hostedNote
  split
  · split
    · exact State.postHosted_swc ..
    · rfl
  · rfl

theorem State.portEvent_swc (s : State) (p bit : Nat) : (s.portEvent p bit).swc = s.swc := by
  unfold State.portEvent
  extract_lets s1
  have h1 : s1.swc = s.swc := s.postEvent_swc ..
  split
  · rw [State.hostedNote_swc, State.ibiPend]
    split
    · exact h1
    · exact h1
  · exact h1

theorem State.creditBack_swc (s : State) (p : Nat) (need : List Nat) : (s.creditBack p need).swc = s.swc := by
  unfold State.creditBack
  split
  · exact List.foldlRecOn (motive := fun u : State => u.swc = s.swc) _ _ rfl fun u hu _ _ => hu
  · rfl

theorem State.lossOf_swc_up (s : State) (h : s.role p = 1) : (s.lossOf p).swc = s.swc := by
  unfold State.lossOf
  rw [if_pos h]
  refine List.foldlRecOn (motive := fun u : State => u.swc = s.swc) _ _ rfl fun u hu i _ => ?_
  unfold State.die
  split
  · exact hu
  · exact hu

/-- With nothing held at an input, none is admitted (R191). -/
theorem State.admitHeld_none (s : State) (h : Tab.get [] s.swc.held p = []) :
    s.admitHeld p = s.sw fun w => { w with held := Tab.put [] w.held p [] } := by
  unfold State.admitHeld
  rw [h]
  rfl

theorem State.noInput.admitHeld (h : s.noInput) : (s.admitHeld p).noInput := by
  obtain ⟨hvoq, hcross, hheld⟩ := h
  rw [s.admitHeld_none (by rw [hheld]; rfl)]
  refine ⟨hvoq, hcross, ?_⟩
  simp only [State.sw, hheld]
  rfl

theorem State.noInput.foldl {β : Type} {l : List β} {f : State → β → State} (h : s.noInput)
    (hf : ∀ {u b}, State.noInput u → State.noInput (f u b)) : State.noInput (l.foldl f s) := by
  induction l generalizing s with
  | nil => exact h
  | cons b l ih => exact ih (hf h)

theorem State.noInput.dropOutput (h : s.noInput) : (s.dropOutput p).noInput := by
  unfold State.dropOutput
  extract_lets here voqs ovfs merged windowed mine staged n rsp s1 s2 drop some_ backs s3 s4 s5 s6 s7
  have hs1 : s1.swc = s.swc := List.foldlRecOn (motive := fun u : State => u.swc = s.swc) _ _ rfl fun u hu _ _ => hu
  have hs2 : s2.swc = s.swc := List.foldlRecOn (motive := fun u : State => u.swc = s.swc) _ _ hs1 fun u hu _ _ => hu
  have h2 : s2.noInput := h.of_swc hs2
  have h3 : s3.noInput := State.noInput.sw (s := s2.set SWC_RSQ_STS.WINDOW p 0) h2 fun w hw => by
    obtain ⟨hvoq, hcross, hheld⟩ := hw
    simp only [hvoq, hcross, hheld, List.filter_nil, List.map_nil, and_self]
  have h4 : s4.noInput := h3.foldl fun g => g.of_swc (State.creditBack_swc ..)
  have h5 : s5.noInput := by
    unfold s5
    split
    · exact h4.of_swc rfl
    · exact h4
  have h6 : s6.noInput := h5.foldl fun {u b} g => (g : (u.skipSeq b).noInput)
  have h7 : s7.noInput := h6.foldl fun g => g.of_swc (State.exitIfDone_swc ..)
  have h8 : (s7.downDrop p n).noInput := h7.of_swc (s7.bump_swc ..)
  exact h8.foldl fun g => g.admitHeld

theorem State.noInput.emptyInput (h : s.noInput) : (s.emptyInput p).noInput := by
  unfold State.emptyInput
  extract_lets s1
  have hs1 : s1.swc = s.swc := List.foldlRecOn (motive := fun u : State => u.swc = s.swc) _ _ rfl fun u hu _ _ => hu
  have h1 : s1.noInput := h.of_swc hs1
  exact h1.sw fun w hw => by
    obtain ⟨hvoq, hcross, hheld⟩ := hw
    simp only [hvoq, hcross, hheld, List.filter_nil, true_and]
    rfl

theorem State.noInput.portContained (h : s.noInput) (hrole : s.role p = 1) (hstate : s.get PRT_PORT_STS.STATE p = 4)
    (hgang : s.flag PRT_PORT_STS.GANGED p = false) : (s.portContained p).noInput := by
  rw [State.portContained_up hrole hstate hgang]
  have hclear : (s.linkCleared p 1).swc = s.swc := (congrArg (fun u : State => u.swc) (s.linkCleared_others p 1) :)
  have hevent : ((s.linkCleared p 1).portEvent p 1).swc = s.swc := (State.portEvent_swc ..).trans hclear
  have hlost : (s.outputLost p).noInput := by
    unfold State.outputLost
    exact (h.of_swc (t := ((s.linkCleared p 1).portEvent p 1).portEvt p 1) hevent).dropOutput
  exact (hlost.of_swc (State.lossOf_swc_up _ (State.role_outputLost hrole))).emptyInput

end

/-! An occurrence that is contained on a port. -/

/-- An occurrence of class CONTAINED at port scope is noted; the port's containment stands with the command (R41, R460). -/
theorem State.record_port (s : State) (p : Nat) {x bit : Nat} (hcls : classOf x bit = 2) :
    s.record (portOcc p x bit) = s.noted (portOcc p x bit) := by
  have hc : (portOcc p x bit).cls = 2 := hcls
  rw [State.record_eq, if_neg (by omega), if_neg (by omega), if_neg (by simp [portOcc, occ])]

section
variable {s : State} {p x bit : Nat} (hrole : s.role p = 1) (hstate : s.get PRT_PORT_STS.STATE p = 4)
  (hgang : s.flag PRT_PORT_STS.GANGED p = false) (hcls : classOf x bit = 2)
include hrole hstate hgang hcls

/-- Such a record leaves an UP port in L0 what it is. -/
theorem State.record_up : (s.record (portOcc p x bit)).role p = 1 ∧ (s.record (portOcc p x bit)).get PRT_PORT_STS.STATE p = 4 ∧
    (s.record (portOcc p x bit)).flag PRT_PORT_STS.GANGED p = false := by
  have hn := Noted.noted s (portOcc p x bit)
  have hport := hn.word .PRT_PORT_STS p (by decide)
  rw [s.record_port p hcls]
  exact ⟨(State.role_of_boot (congrArg (fun u : State => u.boot) hn.unnoted :) p).trans hrole,
    (congrArg (fun w => bits w _ _) hport).trans hstate, (congrArg (fun w => bits w _ _ != 0) hport).trans hgang⟩

/-- The error is recorded and the port goes down. -/
theorem State.record_portContained (hw : s.windowGone (setUnit x) = false) (hbit : bit < 32) :
    PortDown p s ((s.record (portOcc p x bit)).portContained p) ∧ ((s.record (portOcc p x bit)).portContained p).stsBit x bit := by
  obtain ⟨hrole', hstate', hgang'⟩ := State.record_up hrole hstate hgang hcls
  have hd := State.portContained_down hrole' hstate' hgang'
  have hn := Noted.noted s (portOcc p x bit)
  rw [s.record_port p hcls] at hd ⊢
  refine ⟨⟨hd.state, fun r i hr => (hd.word r i hr).trans (hn.word r i fun hm => hr ?_), fun y e he => hd.sts y e (hn.sts y e he),
    hd.gateLost.trans (congrArg (fun u : State => u.tfc.gateLost) hn.unnoted :),
    hd.rt.trans (congrArg (fun u : State => u.swc.rt) hn.unnoted :), hd.ovf⟩, hd.sts _ _ (s.noted_stsBit _ hbit hw)⟩
  exact List.mem_append_left _ (List.mem_append_left _ hm)

/-- No cell comes to wait at an input by it. -/
theorem State.noInput.record_portContained (h : s.noInput) : ((s.record (portOcc p x bit)).portContained p).noInput := by
  obtain ⟨hrole', hstate', hgang'⟩ := State.record_up hrole hstate hgang hcls
  exact (h.of_swc (s.record_swc _)).portContained hrole' hstate' hgang'

end

/-- The errors of the switch core that are contained at port scope (R218). -/
theorem classOf_swc_port {r bit : Nat} (hr : r < 4) (hb : bit ∈ [1, 2, 6, 7, 8]) : classOf (swcSet r) bit = 2 := by
  revert bit
  interval_cases r <;> decide

end Sys2Proof.Machine
end

section
/-! SUPPORT. The routing table and its barrier (R210–R214, R219), and the theorem that settles O25. -/
namespace Sys2Proof.Machine
open Sys2Proof

/-! The fields of SWC_RT_CMD that a command writes. -/

section
variable (s : State) (r n op : Nat)

theorem wordsKept_rtCmd {s t : State} {rs : List Reg} (r n op : Nat) (h : wordsKept s t rs) (hr : .SWC_RT_CMD ∈ rs) :
    wordsKept s (rtCmd t r n op) rs :=
  (h.set hr).set hr

theorem rtCmd_entry {n : Nat} (hn : n < 2 ^ 11) : (rtCmd s r n op).get SWC_RT_CMD.ENTRY r = n := by
  unfold rtCmd
  rw [State.get_set_apart _ _ (by decide), State.get_set_same _ _ _ (by decide)]
  exact Nat.mod_eq_of_lt hn

theorem rtCmd_op {op : Nat} (hop : op < 4) : (rtCmd s r n op).get SWC_RT_CMD.OP r = op := by
  unfold rtCmd
  rw [State.get_set_same _ _ _ (by decide)]
  exact Nat.mod_eq_of_lt hop

theorem rtCmd_epoch : (rtCmd s r n op).get SWC_RT_BAR.EPOCH r = s.get SWC_RT_BAR.EPOCH r := by
  unfold rtCmd
  rw [State.get_set_apart _ _ (by decide), State.get_set_apart _ _ (by decide)]

theorem rtStaged_rtCmd (q : Nat) : rtStaged (rtCmd s r n op) q = rtStaged s q := by
  have hword (i : Nat) : (rtCmd s r n op).word .SWC_RT_D i = s.word .SWC_RT_D i :=
    wordsKept_rtCmd r n op (.refl s [.SWC_RT_CMD]) (by decide) _ _ (by decide)
  simp only [rtStaged, hword]

theorem State.anyOld_rtCmd (q : Nat) : (rtCmd s r n op).anyOld q = s.anyOld q := by
  have hword : (rtCmd s r n op).word .SWC_RT_BAR q = s.word .SWC_RT_BAR q :=
    wordsKept_rtCmd r n op (.refl s [.SWC_RT_CMD]) (by decide) _ _ (by decide)
  have hold : (rtCmd s r n op).oldCell q = s.oldCell q := by
    funext c
    simp only [State.oldCell, State.get, hword]
  rw [State.anyOld, hold]
  rfl

end

/-! A read (R219). -/

/-- RT_READ shows an entry. -/
def State.rtShown (s : State) (r n : Nat) : State :=
  ((rtCmd s r n 0).loadWords .SWC_RT_D (4 * r) 4 fun k => BitVec.ofNat 32 (bits (s.rtEntry r n) (32 * k) 32)).set SWC_RT_CMD.RESULT r 0

theorem State.word_rtShown (s : State) {r n k : Nat} (hr : r < 4) (hk : k < 4) :
    (s.rtShown r n).word .SWC_RT_D (4 * r + k) = BitVec.ofNat 32 (bits (s.rtEntry r n) (32 * k) 32) := by
  rw [State.rtShown, State.word_set_reg _ _ (by decide)]
  exact State.word_loadWords _ _ _ _ _ (by omega) hk

theorem State.rtShown_onlyRegs (s : State) (r n : Nat) : onlyRegs s (s.rtShown r n) :=
  (onlyRegs.trans (t := rtCmd s r n 0) rfl (State.loadWords_onlyRegs ..)).trans (State.set_onlyRegs ..)

theorem State.rtShown_wordsKept (s : State) (r n : Nat) : wordsKept s (s.rtShown r n) [.SWC_RT_D, .SWC_RT_CMD] :=
  ((wordsKept_rtCmd _ _ _ (.refl s _) (by decide)).loadWords _ _ _ (by decide)).set (by decide)

theorem State.get_loadWords (s : State) (r : Reg) (i n : Nat) (f : Nat → Word) {g : Fld} {j : Nat} (h : g.reg ≠ r) :
    (s.loadWords r i n f).get g j = s.get g j :=
  congrArg (fun w => bits w _ _) ((wordsKept.refl s [r]).loadWords i n f (by simp) _ _ (by simpa using h))

theorem State.rtShown_cmd (s : State) (r : Nat) {n : Nat} (hn : n < 2 ^ 11) :
    (s.rtShown r n).get SWC_RT_CMD.RESULT r = 0 ∧ (s.rtShown r n).get SWC_RT_CMD.ENTRY r = n ∧
      (s.rtShown r n).get SWC_RT_CMD.OP r = 0 := by
  unfold State.rtShown
  refine ⟨State.get_set_same _ _ _ (by decide), ?_, ?_⟩
  · rw [State.get_set_apart _ _ (by decide), State.get_loadWords _ _ _ _ _ (by decide), rtCmd_entry _ _ _ hn]
  · rw [State.get_set_apart _ _ (by decide), State.get_loadWords _ _ _ _ _ (by decide), rtCmd_op _ _ _ (by decide)]

section
variable {s : State} {p : Path} {r : Region} {n : BitVec 11}

theorem rtRead_idle (bad : Bool) (h : s.admits p (swcSet r)) (hb : s.flag SWC_RT_CMD.BUSY r = false) :
    rtRead p r ⟨n, bad⟩ s = (if bad then rtLost s r n.toNat else s).rtShown r n.toNat := by
  unfold rtRead
  rw [hb]
  exact State.startWith_idle _ _ h

/-- An entry whose reading finds an uncorrectable error is cleared, and its UP port goes down (R218). -/
theorem rtLost_down {q : Nat} (hq : rtVcs (s.rtEntry r n.toNat) = q) (hrole : s.role q = 1) (hstate : s.get PRT_PORT_STS.STATE q = 4)
    (hgang : s.flag PRT_PORT_STS.GANGED q = false) (hrgn : s.rgn r ≠ 2) :
    PortDown q (s.sw fun w => { w with rt := Tab.put 0 w.rt (2048 * r + n.toNat) 0 }) (rtLost s r n.toNat) ∧
      (rtLost s r n.toNat).stsBit (swcSet r) 7 := by
  unfold rtLost
  simp only [hq]
  refine State.record_portContained hrole hstate hgang (classOf_swc_port r.isLt (by decide)) (State.windowGone_of_rgn ?_) (by decide)
  rw [setUnit_swcSet]
  exact hrgn

/-! A write or a clearing (R210, R212, R213, R219). -/

theorem rtWrite_idle (h : s.admits p (swcSet r)) (hb : s.flag SWC_RT_CMD.BUSY r = false) :
    rtWrite p r n s =
      if rtVcs (rtStaged s r) / 16 != r.val then (rtCmd s r n.toNat 1).set SWC_RT_CMD.RESULT r 1
      else if !rtGood (rtStaged s r) then (rtCmd s r n.toNat 1).set SWC_RT_CMD.RESULT r 2
      else if s.anyOld r then (rtCmd s r n.toNat 1).set SWC_RT_CMD.RESULT r 4
      else rtCommit (rtCmd s r n.toNat 1) r n.toNat (rtStaged s r) := by
  unfold rtWrite
  rw [hb, State.startWith_idle _ _ h, ← rtStaged_rtCmd s r n.toNat 1 r, ← s.anyOld_rtCmd r n.toNat 1 r]

theorem rtClear_idle (h : s.admits p (swcSet r)) (hb : s.flag SWC_RT_CMD.BUSY r = false) :
    rtClear p r n s = if s.anyOld r then (rtCmd s r n.toNat 2).set SWC_RT_CMD.RESULT r 4
      else rtCommit (rtCmd s r n.toNat 2) r n.toNat 0 := by
  unfold rtClear
  rw [hb, State.startWith_idle _ _ h, ← s.anyOld_rtCmd r n.toNat 2 r]

/-- What a committed write leaves (R212). -/
theorem rtCommit_commits (s : State) (r : Region) (n : BitVec 11) (v : BitVec 128) {op : Nat} (hop : op < 4) :
    let t := rtCommit (rtCmd s r n.toNat op) r n.toNat v
    t.rtEntry r n.toNat = v ∧ (∀ k, k ≠ 2048 * r.val + n.toNat → Tab.get 0 t.swc.rt k = Tab.get 0 s.swc.rt k) ∧
      t.get SWC_RT_BAR.EPOCH r = (s.get SWC_RT_BAR.EPOCH r + 1) % 2 ^ 16 ∧ t.get SWC_RT_CMD.RESULT r = 0 ∧
      t.get SWC_RT_CMD.ENTRY r = n.toNat ∧ t.get SWC_RT_CMD.OP r = op ∧ wordsKept s t [.SWC_RT_CMD, .SWC_RT_BAR] ∧
      { t with regs := s.regs, swc := s.swc } = s := by
  have hkept : wordsKept s (rtCmd s r n.toNat op) [.SWC_RT_CMD, .SWC_RT_BAR] := wordsKept_rtCmd _ _ _ (.refl s _) (by decide)
  have hcmd (f : Fld) (hb : SWC_RT_BAR.EPOCH.apart f = true) (hr : SWC_RT_CMD.RESULT.apart f = true) :
      (rtCommit (rtCmd s r n.toNat op) r n.toNat v).get f r = (rtCmd s r n.toNat op).get f r := by
    unfold rtCommit
    rw [State.get_set_apart _ _ hr, State.get_set_apart _ _ hb]
    rfl
  refine ⟨Tab.get_put_same .., fun k hk => Tab.get_put_ne _ _ _ _ _ _ hk, ?_, State.get_set_same _ _ _ (by decide), ?_, ?_, ?_, rfl⟩
  · rw [rtCommit, State.get_set_apart _ _ (by decide), State.get_set_same _ _ _ (by decide), rtCmd_epoch]
    exact Nat.mod_mod _ _
  · rw [hcmd _ (by decide) (by decide), rtCmd_entry _ _ _ n.isLt]
  · rw [hcmd _ (by decide) (by decide), rtCmd_op _ _ _ hop]
  · exact (wordsKept.set (f := SWC_RT_BAR.EPOCH) hkept (by decide)).set (by decide)

/-! A command while BUSY (R546). -/

theorem rt_busy (h : s.admits p (swcSet r)) (hb : s.flag SWC_RT_CMD.BUSY r = true) :
    (∀ bad, rtRead p r ⟨n, bad⟩ s = (rtCmd s r n.toNat 0).discard (swcSet r)) ∧
      rtWrite p r n s = (rtCmd s r n.toNat 1).discard (swcSet r) ∧ rtClear p r n s = (rtCmd s r n.toNat 2).discard (swcSet r) := by
  unfold rtRead rtWrite rtClear
  rw [hb]
  exact ⟨fun _ => State.startWith_busy _ _ h, State.startWith_busy _ _ h, State.startWith_busy _ _ h⟩

/-! The barrier (R213, R214). -/

theorem rtBarrierStart_idle (h : s.admits p (swcSet r)) (hb : s.flag SWC_RT_BAR.BUSY r = false) :
    rtBarrierStart p r s = s.set SWC_RT_BAR.BUSY r 1 := by
  unfold rtBarrierStart State.start
  rw [hb]
  exact State.command_admitted _ h

theorem rtBarrierStart_busy (h : s.admits p (swcSet r)) (hb : s.flag SWC_RT_BAR.BUSY r = true) :
    rtBarrierStart p r s = s.discard (swcSet r) := by
  unfold rtBarrierStart State.start
  rw [hb]
  exact State.command_admitted _ h

theorem rtBarrierStart_refused (h : s.mayWrite p = false) :
    rtBarrierStart p r s = if s.windowGone (setUnit (swcSet r)) || s.unheard p then s else s.discard (swcSet r) := by
  unfold rtBarrierStart State.start
  exact State.command_refused _ h

end

theorem rtBarrierEnds_wordsKept (s : State) (r : Nat) (timeout : Bool) : wordsKept s (rtBarrierEnds s r timeout) [.SWC_RT_BAR] :=
  (((wordsKept.refl s _).set (by decide)).set (by decide)).set (by decide)

/-- What the end of a barrier shows. -/
theorem rtBarrierEnds_shows (s : State) (r : Nat) (timeout : Bool) :
    (rtBarrierEnds s r timeout).get SWC_RT_BAR.BUSY r = 0 ∧ (rtBarrierEnds s r timeout).get SWC_RT_BAR.DONE r = 1 ∧
      (rtBarrierEnds s r timeout).get SWC_RT_BAR.TIMEOUT r = (if timeout then 1 else 0) ∧ onlyRegs s (rtBarrierEnds s r timeout) ∧
      wordsKept s (rtBarrierEnds s r timeout) [.SWC_RT_BAR] := by
  refine ⟨?_, ?_, ?_, rfl, rtBarrierEnds_wordsKept s r timeout⟩
  · rw [rtBarrierEnds, State.get_set_apart _ _ (by decide), State.get_set_apart _ _ (by decide)]
    exact State.get_set_same _ _ _ (by decide)
  · rw [rtBarrierEnds, State.get_set_apart _ _ (by decide)]
    exact State.get_set_same _ _ _ (by decide)
  · rw [rtBarrierEnds, State.get_set_same _ _ _ (by decide)]
    cases timeout <;> rfl

section
variable {s : State} {r : Region}

theorem rtBarrierDone_ends (hb : s.flag SWC_RT_BAR.BUSY r = true) (hold : s.anyOld r = false) :
    rtBarrierDone r s = rtBarrierEnds s r false := by
  simp [rtBarrierDone, hb, hold]

theorem rtBarrierDone_idle (h : s.flag SWC_RT_BAR.BUSY r = false ∨ s.anyOld r = true) : rtBarrierDone r s = s := by
  obtain h | h := h
  · simp [rtBarrierDone, h]
  · simp [rtBarrierDone, h]

theorem rtBarrierTimeout_idle (h : s.flag SWC_RT_BAR.BUSY r = false) : rtBarrierTimeout r s = s := by
  simp [rtBarrierTimeout, h]

/-- Where no older cell remains no port is contained. -/
theorem rtBarrierTimeout_clear (hb : s.flag SWC_RT_BAR.BUSY r = true) (hold : s.anyOld r = false) :
    rtBarrierTimeout r s = rtBarrierEnds s r true := by
  have hnone : s.allCells.filter (s.oldCell r) = [] := by
    rw [List.filter_eq_nil_iff]
    exact fun c hc => List.any_eq_false.1 hold c hc
  simp [rtBarrierTimeout, hb, hnone]

/-- Where one older cell remains its output is contained. -/
theorem rtBarrierTimeout_one {c : Cell} (hb : s.flag SWC_RT_BAR.BUSY r = true) (hcells : s.allCells = [c])
    (hold : s.oldCell r c = true) :
    rtBarrierTimeout r s = ((rtBarrierEnds s r true).record (portOcc c.out (swcSet r) 8)).portContained c.out := by
  simp [rtBarrierTimeout, hb, hcells, hold]

theorem rtBarrierEnds_down {q : Nat} (hrole : s.role q = 1) (hstate : s.get PRT_PORT_STS.STATE q = 4)
    (hgang : s.flag PRT_PORT_STS.GANGED q = false) (hrgn : s.rgn r ≠ 2) :
    PortDown q (rtBarrierEnds s r true) (((rtBarrierEnds s r true).record (portOcc q (swcSet r) 8)).portContained q) ∧
      (((rtBarrierEnds s r true).record (portOcc q (swcSet r) 8)).portContained q).stsBit (swcSet r) 8 := by
  have hkept := rtBarrierEnds_wordsKept s r true
  have hport := hkept .PRT_PORT_STS q (by decide)
  refine State.record_portContained hrole ((congrArg (fun w => bits w _ _) hport).trans hstate)
    ((congrArg (fun w => bits w _ _ != 0) hport).trans hgang) (classOf_swc_port r.isLt (by decide))
    (State.windowGone_of_rgn ?_) (by decide)
  rw [setUnit_swcSet, State.rgn_eq_of_word (hkept _ _ (by decide))]
  exact hrgn

end

/-! Writes of the registers. -/

/-- A write of SWC_RT_CMD does what its bits start (R219). -/
theorem exec_registerWrite_rtCmd {s : State} {p : Path} {a : BitVec 32} {i : Nat} (d : BitVec 64)
    (h : s.writeReaches p a (.reg .SWC_RT_CMD i)) :
    exec (.registerWrite p a d 4) s =
      let st := s.stored .SWC_RT_CMD i d a
      let n := BitVec.ofNat 11 (bits (d.setWidth 32) 0 11)
      if d.getLsbD 13 then
        (if s.flag SWC_RT_CMD.BUSY i then .next (startDiscarded (regSet s .SWC_RT_CMD i a.toNat) s st)
        else if bits (d.setWidth 32) 11 2 = 0 then exec (.rtRead p (ixRegion i) ⟨n, false⟩) st
        else if bits (d.setWidth 32) 11 2 = 1 then exec (.rtWrite p (ixRegion i) n) st
        else if bits (d.setWidth 32) 11 2 = 2 then exec (.rtClear p (ixRegion i) n) st
        else .next (st.set SWC_RT_CMD.RESULT i 2))
      else .next st := by
  rw [exec_registerWrite_of_reaches d h, ← bit_lowWord d (by decide : 13 < 32)]
  refine (next_goes ..).trans ?_
  dsimp only
  congr 2
  generalize bits (d.setWidth 32) 11 2 = op
  match op with
  | 0 => rfl
  | 1 => rfl
  | 2 => rfl
  | _ + 3 => rfl

/-- A write of SWC_RT_BAR does what its bit starts (R213, R219). -/
theorem exec_registerWrite_rtBar {s : State} {p : Path} {a : BitVec 32} {i : Nat} (d : BitVec 64)
    (h : s.writeReaches p a (.reg .SWC_RT_BAR i)) :
    exec (.registerWrite p a d 4) s =
      if d.getLsbD 0 then
        (if s.flag SWC_RT_BAR.BUSY i then .next (startDiscarded (regSet s .SWC_RT_BAR i a.toNat) s (s.stored .SWC_RT_BAR i d a))
        else exec (.rtBarrierStart p (ixRegion i)) (s.stored .SWC_RT_BAR i d a))
      else .next (s.stored .SWC_RT_BAR i d a) := by
  rw [exec_registerWrite_of_reaches d h, ← bit_lowWord d (by decide : 0 < 32)]
  exact next_goes ..

/-- Settles O25, from what each command leaves, and from the containment of an UP port for the two that contain one. -/
theorem routingTable : Obligations.RoutingTable := by
  unfold Obligations.RoutingTable
  refine ⟨fun s p r n h hb => ?_, fun s p r n q h hb hq hrole hstate hgang _ hrgn => ?_, fun s p r n h hb => ?_,
    fun s p r n h hb hvcs hgood hold => ?_, fun s p r n h hb => ⟨fun hold => ?_, fun hold => ?_⟩,
    fun s p r n h hb => ⟨fun hvcs => ?_, fun hvcs hgood => ?_, fun hvcs hgood hold => ?_⟩, fun s p r h => ⟨fun hb => ?_, fun hb => ?_⟩,
    fun s r hb hold => ?_, fun s r c hb hcells hold hrole hstate hgang hrgn => ?_, fun s r => ⟨fun h => ?_, fun h => ?_⟩,
    fun s p a d i h => exec_registerWrite_rtCmd d h, fun s p a d i h => exec_registerWrite_rtBar d h, fun s p r e x h => ?_⟩
  · obtain ⟨hresult, hentry, hop⟩ := s.rtShown_cmd r n.isLt
    exact ⟨_, congrArg Host.Outcome.next (rtRead_idle false h hb), fun k hk => s.word_rtShown r.isLt hk, hresult, hentry, hop,
      s.rtShown_onlyRegs .., s.rtShown_wordsKept r n.toNat⟩
  · obtain ⟨hdown, hsts⟩ := rtLost_down hq hrole hstate hgang hrgn
    have hentry : (rtLost s r n.toNat).rtEntry r n.toNat = 0 := by
      rw [State.rtEntry, hdown.rt]
      exact Tab.get_put_same 0 s.swc.rt _ 0
    have honly := (rtLost s r n.toNat).rtShown_onlyRegs r n.toNat
    refine ⟨_, congrArg Host.Outcome.next (rtRead_idle true h hb), fun k hk => ?_, ?_, (State.stsBit_of_ces honly.ces _ _).2 hsts, ?_⟩
    · rw [if_pos rfl, State.word_rtShown _ r.isLt hk, hentry]
      simp [bits]
    · rw [if_pos rfl, State.rtEntry, honly.swc]
      exact hentry
    · exact (congrArg (fun w => bits w _ _) (State.rtShown_wordsKept _ r n.toNat .PRT_PORT_STS q (by decide))).trans hdown.state
  · obtain ⟨hread, hwrite, hclear⟩ := rt_busy (n := n) h hb
    exact ⟨fun bad => congrArg Host.Outcome.next (hread bad), congrArg Host.Outcome.next hwrite, congrArg Host.Outcome.next hclear⟩
  · have hw : rtWrite p r n s = rtCommit (rtCmd s r n.toNat 1) r n.toNat (rtStaged s r) := by
      simp [rtWrite_idle h hb, hvcs, hgood, hold]
    exact ⟨_, congrArg Host.Outcome.next hw, rtCommit_commits s r n _ (by decide)⟩
  · have hc : rtClear p r n s = rtCommit (rtCmd s r n.toNat 2) r n.toNat 0 := by
      simp [rtClear_idle h hb, hold]
    exact ⟨_, congrArg Host.Outcome.next hc, rtCommit_commits s r n _ (by decide)⟩
  · exact congrArg Host.Outcome.next ((rtClear_idle h hb).trans (if_pos hold))
  · exact congrArg Host.Outcome.next ((rtWrite_idle h hb).trans (if_pos (by simpa using hvcs)))
  · exact congrArg Host.Outcome.next (by simp [rtWrite_idle h hb, hvcs, hgood])
  · exact congrArg Host.Outcome.next (by simp [rtWrite_idle h hb, hvcs, hgood, hold])
  · exact ⟨_, congrArg Host.Outcome.next (rtBarrierStart_idle h hb), State.get_set_same _ _ _ (by decide),
      s.get_set_apart _ (by decide), rfl, (wordsKept.refl s _).set (by decide)⟩
  · exact congrArg Host.Outcome.next (rtBarrierStart_busy h hb)
  · exact ⟨⟨_, congrArg Host.Outcome.next (rtBarrierDone_ends hb hold), rtBarrierEnds_shows s r false⟩,
      ⟨_, congrArg Host.Outcome.next (rtBarrierTimeout_clear hb hold), rtBarrierEnds_shows s r true⟩⟩
  · obtain ⟨hdown, hsts⟩ := rtBarrierEnds_down hrole hstate hgang hrgn
    obtain ⟨hbusy, hdone, htimeout, -, -⟩ := rtBarrierEnds_shows s r true
    have hbar (f : Fld) (hf : f.reg = .SWC_RT_BAR) := congrArg (fun w => bits w f.lo f.w) (hdown.word .SWC_RT_BAR r (by decide))
    exact ⟨_, congrArg Host.Outcome.next (rtBarrierTimeout_one hb hcells hold), (hbar SWC_RT_BAR.BUSY rfl).trans hbusy,
      (hbar SWC_RT_BAR.DONE rfl).trans hdone, (hbar SWC_RT_BAR.TIMEOUT rfl).trans htimeout, hsts, hdown.state⟩
  · exact congrArg Host.Outcome.next (rtBarrierDone_idle h)
  · exact congrArg Host.Outcome.next (rtBarrierTimeout_idle h)
  · exact ⟨congrArg Host.Outcome.next (State.startWith_refused _ _ _ h), congrArg Host.Outcome.next (State.startWith_refused _ _ _ h),
      congrArg Host.Outcome.next (State.startWith_refused _ _ _ h), congrArg Host.Outcome.next (rtBarrierStart_refused h)⟩

end Sys2Proof.Machine
end

section
/-! SUPPORT. One cell in one VOQ, and the slot of the scheduler that matches it (R196, R197). -/
namespace Sys2Proof.Machine
open Sys2Proof

/-! One request. -/

theorem afterPointer_singleton (ptr x : Nat) : afterPointer ptr [x] = some x := by
  unfold afterPointer
  by_cases hx : ptr ≤ x
  · simp [hx]
  · simp [hx]

/-- The pointers after output o has granted input i and i has accepted (R196). -/
def State.matched (s : State) (i o : Nat) : State :=
  s.sw fun w => { w with grant := Tab.put 0 w.grant o (i + 1), accept := Tab.put 0 w.accept i (o + 1) }

/-- A single request is granted and accepted. -/
theorem iteration_one (s : State) (i o tc : Nat) : iteration s [(i, o, tc)] [] = (s.matched i o, [(i, o, tc)]) := by
  simp [iteration, highest, afterPointer_singleton, State.matched, State.sw]

/-- What was matched is not matched again. -/
theorem iteration_matched (s : State) (x : Nat × Nat × Nat) : iteration s [x] [x] = (s, []) := by
  simp [iteration]

theorem iteration_none (s : State) : iteration s [] [] = (s, []) := rfl

/-! Nothing waiting. -/

theorem requests_nil {s : State} (h : s.swc.voq = []) : requests s = [] := by
  simp [requests, h]

theorem State.sw_cross_nil {s : State} (h : s.swc.cross = []) : s.sw (fun w => { w with cross := [] }) = s := by
  have hswc : { s.swc with cross := [] } = s.swc := by rw [← h]
  rw [State.sw, hswc]

/-- With no cell in a VOQ the slot only lets cross what crosses. -/
theorem schedulerSlot_crossing {s : State}
    (h : (s.swc.cross.foldl (fun s c => s.toMerge 0 c) (s.sw fun w => { w with cross := [] })).swc.voq = []) :
    schedulerSlot s = s.swc.cross.foldl (fun s c => s.toMerge 0 c) (s.sw fun w => { w with cross := [] }) := by
  simp only [schedulerSlot, requests_nil h, iteration_none, List.append_nil, List.foldl_nil]

/-! One cell waiting. -/

/-- The last cell of the only VOQ is taken, where nothing is held back. -/
theorem State.voqPop_last {s : State} {i o tc : Nat} {c : Cell} (hvoq : s.swc.voq = [(voqKey i o tc, [c])]) (hheld : s.swc.held = []) :
    s.voqPop i o tc = some (c, (s.set SWC_VOQ_OCC.CELLS (8 * i + tc) (s.get SWC_VOQ_OCC.CELLS (8 * i + tc) - 1)).sw
      fun w => { w with voq := [] }) := by
  have hget : Tab.get [] s.swc.voq (voqKey i o tc) = [c] := by simp [hvoq, Tab.get, Tab.find]
  have hput : Tab.put [] s.swc.voq (voqKey i o tc) [] = [] := by simp [hvoq, Tab.put, Tab.erase]
  have hkept : Tab.put [] s.swc.held i [] = s.swc.held := by simp [hheld, Tab.put, Tab.erase]
  have hnone : Tab.get [] s.swc.held i = [] := by simp [hheld, Tab.get, Tab.find]
  unfold State.voqPop
  rw [hget]
  dsimp only
  have hswc : { s.swc with voq := Tab.put [] s.swc.voq (voqKey i o tc) [], held := Tab.put [] s.swc.held i [] } =
      { s.swc with voq := [] } := by rw [hput, hkept]
  rw [State.admitHeld_none]
  · exact congrArg (fun w => some (c, { s.set SWC_VOQ_OCC.CELLS (8 * i + tc) (s.get SWC_VOQ_OCC.CELLS (8 * i + tc) - 1) with
      swc := w })) hswc
  · exact hnone

/-- Cell c alone waits, in the VOQ of input i, output o and class tc, whose gate is open; nothing crosses. -/
structure OneCell (s : State) (i o tc : Nat) (c : Cell) : Prop where
  input : i < 64
  output : o < 64
  class_ : tc < 8
  voq : s.swc.voq = [(voqKey i o tc, [c])]
  gate : s.gateOpen o tc = true
  outRuns : s.rgn (o / 16) ≠ 2
  inRuns : s.rgn (i / 16) ≠ 2
  cross : s.swc.cross = []
  held : s.swc.held = []

/-- The state in which the cell has left its VOQ. -/
def State.picked (s : State) (i o tc : Nat) : State :=
  ((s.matched i o).set SWC_VOQ_OCC.CELLS (8 * i + tc) (s.get SWC_VOQ_OCC.CELLS (8 * i + tc) - 1)).sw fun w => { w with voq := [] }

section
variable {s : State} {i o tc : Nat} {c : Cell} (h : OneCell s i o tc c)
include h

theorem OneCell.requests (hgrant : i / 16 = o / 16 ∨ s.spineGrants (i / 16) o = true) : requests s = [(i, o, tc)] := by
  obtain ⟨hi, ho, htc, hvoq, hgate, hor, hir, -, -⟩ := h
  have h1 : voqKey i o tc / 512 = i := by unfold voqKey; omega
  have h2 : voqKey i o tc / 8 % 64 = o := by unfold voqKey; omega
  have h3 : voqKey i o tc % 8 = tc := by unfold voqKey; omega
  simp [Machine.requests, hvoq, h1, h2, h3, hgate, hor, hir, hgrant]

theorem OneCell.voqPop : (s.matched i o).voqPop i o tc = some (c, s.picked i o tc) :=
  State.voqPop_last h.voq h.held

/-- The slot matches the cell and takes it out of its VOQ; what the read of it finds decides where it goes. -/
theorem OneCell.schedulerSlot (hgrant : i / 16 = o / 16 ∨ s.spineGrants (i / 16) o = true) :
    schedulerSlot s = match voqRead (s.picked i o tc) i c with
      | none => voqUncorrected (s.picked i o tc) i
      | some t => if i / 16 = o / 16 then t.sw fun w => { w with cross := w.cross ++ [c] } else t.sw fun w =>
        { w with spine := Tab.put [] w.spine (pairKey (i / 16) (o / 16)) (Tab.get [] w.spine (pairKey (i / 16) (o / 16)) ++ [c]) } := by
  simp only [Machine.schedulerSlot, h.cross, List.foldl_nil, State.sw_cross_nil h.cross, h.requests hgrant, iteration_one,
    iteration_matched, List.append_nil, List.foldl_cons, h.voqPop] <;> rfl

/-- A good cell for its own region's output crosses in the next slot. -/
theorem OneCell.schedulerSlot_crosses (hown : i / 16 = o / 16) (hgood : c.ecc = .good) :
    Machine.schedulerSlot s = (s.picked i o tc).sw fun w => { w with cross := [c] } := by
  have hcross : (s.picked i o tc).swc.cross = [] := h.cross
  simp only [h.schedulerSlot (.inl hown), voqRead, hgood, if_pos hown, State.sw, hcross, List.nil_append]

/-- A good cell that another region grants waits for the spine. -/
theorem OneCell.schedulerSlot_waits (hother : i / 16 ≠ o / 16) (hgrant : s.spineGrants (i / 16) o = true) (hgood : c.ecc = .good) :
    Machine.schedulerSlot s = (s.picked i o tc).sw fun w =>
      { w with spine := Tab.put [] w.spine (pairKey (i / 16) (o / 16)) (Tab.get [] w.spine (pairKey (i / 16) (o / 16)) ++ [c]) } := by
  simp only [h.schedulerSlot (.inr hgrant), voqRead, hgood, if_neg hother]

theorem OneCell.schedulerSlot_lost (hown : i / 16 = o / 16) (hbad : c.ecc = .uncorrectable) :
    Machine.schedulerSlot s = voqUncorrected (s.picked i o tc) i := by
  simp only [h.schedulerSlot (.inl hown), voqRead, hbad]

theorem OneCell.picked_noInput : (s.picked i o tc).noInput := ⟨rfl, h.cross, h.held⟩

end

section
variable (s : State) (i o tc : Nat)

theorem State.picked_wordsKept : wordsKept s (s.picked i o tc) [.SWC_VOQ_OCC] :=
  (wordsKept.refl s _).set (by decide)

theorem State.picked_cells :
    (s.picked i o tc).get SWC_VOQ_OCC.CELLS (8 * i + tc) = s.get SWC_VOQ_OCC.CELLS (8 * i + tc) - 1 := by
  have hlt := s.get_lt SWC_VOQ_OCC.CELLS (8 * i + tc)
  have hset := (s.matched i o).get_set_same (f := SWC_VOQ_OCC.CELLS) (8 * i + tc) (s.get SWC_VOQ_OCC.CELLS (8 * i + tc) - 1) (by decide)
  exact hset.trans (Nat.mod_eq_of_lt (by omega))

/-- The pointers have moved past the input and the output that were matched. -/
theorem State.picked_pointers : Tab.get 0 (s.picked i o tc).swc.grant o = i + 1 ∧ Tab.get 0 (s.picked i o tc).swc.accept i = o + 1 :=
  ⟨Tab.get_put_same 0 s.swc.grant o (i + 1), Tab.get_put_same 0 s.swc.accept i (o + 1)⟩

/-- The input port of a cell whose read is uncorrectable is contained, and no cell waits or crosses. -/
theorem State.picked_uncorrected {s : State} {i o tc : Nat} {c : Cell} (h : OneCell s i o tc c) (hrole : s.role i = 1)
    (hstate : s.get PRT_PORT_STS.STATE i = 4) (hgang : s.flag PRT_PORT_STS.GANGED i = false) :
    PortDown i (s.picked i o tc) (voqUncorrected (s.picked i o tc) i) ∧ (voqUncorrected (s.picked i o tc) i).stsBit (swcSet (i / 16)) 1 ∧
      (voqUncorrected (s.picked i o tc) i).noInput := by
  have hi := h.input
  have hkept := s.picked_wordsKept i o tc
  have hport := hkept .PRT_PORT_STS i (by decide)
  have hrole' : (s.picked i o tc).role i = 1 := hrole
  have hstate' := (congrArg (fun w => bits w PRT_PORT_STS.STATE.lo PRT_PORT_STS.STATE.w) hport).trans hstate
  have hgang' := (congrArg (fun w => bits w PRT_PORT_STS.GANGED.lo PRT_PORT_STS.GANGED.w != 0) hport).trans hgang
  have hcls : classOf (swcSet (i / 16)) 1 = 2 := classOf_swc_port (by omega) (by decide)
  have hgone : (s.picked i o tc).windowGone (setUnit (swcSet (i / 16))) = false := by
    refine State.windowGone_of_rgn ?_
    rw [setUnit_swcSet ⟨i / 16, by omega⟩, State.rgn_eq_of_word (hkept _ _ (by decide))]
    exact h.inRuns
  obtain ⟨hdown, hsts⟩ := State.record_portContained hrole' hstate' hgang' hcls hgone (by decide)
  exact ⟨hdown, hsts, h.picked_noInput.record_portContained hrole' hstate' hgang' hcls⟩

end

/-! A cell that crosses (R192). -/

/-- It enters the merge stage of an output in service. -/
theorem schedulerSlot_enters {s : State} {c : Cell} (hcross : s.swc.cross = [c]) (hvoq : s.swc.voq = []) (hitem : c.item = none)
    (hserve : s.inService c.out = true) : (schedulerSlot s).swc = { s.swc with
      cross := [], merge := Tab.put [] s.swc.merge (8 * c.out) (Tab.get [] s.swc.merge (8 * c.out) ++ [c]) } := by
  have hmerge := State.toMerge_swc (s.sw fun w => { w with cross := [] }) 0 c hitem hserve
  rw [schedulerSlot_crossing (by rw [hcross, List.foldl_cons, List.foldl_nil, hmerge]; exact hvoq), hcross, List.foldl_cons,
    List.foldl_nil, hmerge]
  rfl

/-- It is dropped at an output out of service. -/
theorem schedulerSlot_drops {s : State} {c : Cell} (hcross : s.swc.cross = [c]) (hvoq : s.swc.voq = []) (hitem : c.item = none)
    (hserve : s.inService c.out = false) (hsource : c.source < 64) :
    schedulerSlot s = (s.sw fun w => { w with cross := [] }).downDrop c.out 1 := by
  have hdrop : (s.sw fun w => { w with cross := [] }).toMerge 0 c = (s.sw fun w => { w with cross := [] }).downDrop c.out 1 := by
    have hserve' : (s.sw fun w => { w with cross := [] }).inService c.out = false := hserve
    have hext : (decide (c.source ≥ 64)) = false := by simpa using hsource
    simp [State.toMerge, hitem, hserve', State.dropCell, hext]
  rw [schedulerSlot_crossing (by rw [hcross, List.foldl_cons, List.foldl_nil, hdrop]; exact hvoq), hcross, List.foldl_cons,
    List.foldl_nil, hdrop]

theorem schedulerSlot_idle {s : State} (hcross : s.swc.cross = []) (hvoq : s.swc.voq = []) : schedulerSlot s = s := by
  have hs : s.swc.cross.foldl (fun s c => s.toMerge 0 c) (s.sw fun w => { w with cross := [] }) = s := by
    rw [hcross, List.foldl_nil, State.sw_cross_nil hcross]
  exact (schedulerSlot_crossing (by rwa [hs])).trans hs

end Sys2Proof.Machine
end

section
/-! SUPPORT. The overflow of a VOQ in HBM: its oldest cell goes to SRAM, or its column is lost (R194, R177, R218). -/
namespace Sys2Proof.Machine
open Sys2Proof

section
variable {s : State} {p o : Port} {tc : Tc} {f : ColRead} {c : Cell} {cs : List Cell}

theorem overflowDrain_idle (h : Tab.get [] s.swc.ovf (voqKey p o tc) = [] ∨
    s.get SWC_VOQ_LIM.LIMIT (8 * p + tc) ≤ s.get SWC_VOQ_OCC.CELLS (8 * p + tc)) : overflowDrain p o ⟨tc, f⟩ s = s := by
  unfold overflowDrain
  split
  · rfl
  next c cs hovf =>
    obtain hnil | hfull := h
    · exact absurd (hovf.symm.trans hnil) (List.cons_ne_nil c cs)
    · exact if_neg (Nat.not_lt.2 hfull)

variable (hovf : Tab.get [] s.swc.ovf (voqKey p o tc) = c :: cs)
  (hroom : s.get SWC_VOQ_OCC.CELLS (8 * p + tc) < s.get SWC_VOQ_LIM.LIMIT (8 * p + tc))

/-- The oldest cell has left the overflow area. -/
def State.ovfTaken (s : State) (p o : Port) (tc : Tc) (cs : List Cell) : State :=
  (s.set SWC_OVF_STS.CELLS p (s.get SWC_OVF_STS.CELLS p - 1)).sw fun w => { w with ovf := Tab.put [] w.ovf (voqKey p o tc) cs }

include hovf hroom

theorem overflowDrain_good (hheld : Tab.get [] s.swc.held p = []) : overflowDrain p o ⟨tc, .good⟩ s =
    ((s.ovfTaken p o tc cs).voqPut p { c with data := s.ovfBytes p c }).sw fun w => { w with held := Tab.put [] w.held p [] } := by
  unfold overflowDrain
  rw [hovf]
  dsimp only
  rw [if_pos hroom, if_neg (by decide), if_neg (by decide), State.admitHeld_none]
  · rfl
  · exact hheld

theorem overflowDrain_lost : overflowDrain p o ⟨tc, .uncorrectable⟩ s =
    (((keyLost s (hbmAt (ovfStack p) (ovfAddr p c.slot))).record (portOcc p (swcSet (p / 16)) 2))).portContained p := by
  unfold overflowDrain
  rw [hovf]
  dsimp only
  rw [if_pos hroom, if_pos (by decide)]

end

/-! A cell put into a VOQ. -/

section
variable (s : State) (p : Nat) (c : Cell)

theorem State.voqPut_wordsKept {s₀ : State} {rs : List Reg} (h : wordsKept s₀ s rs) (hr : .SWC_VOQ_OCC ∈ rs) :
    wordsKept s₀ (s.voqPut p c) rs := by
  unfold State.voqPut State.raise
  extract_lets n k
  have hset : wordsKept s₀ (s.set SWC_VOQ_OCC.CELLS n k) rs := h.set hr
  exact hset.set (f := SWC_VOQ_OCC.PEAK) (i := n) hr

variable {c}

theorem State.voqPut_cells {tc : Nat} (htc : c.tc = tc) : (s.voqPut p c).get SWC_VOQ_OCC.CELLS (8 * p + tc) =
    (s.get SWC_VOQ_OCC.CELLS (8 * p + tc) + 1) % 2 ^ SWC_VOQ_OCC.CELLS.w := by
  subst htc
  unfold State.voqPut State.raise
  extract_lets n k
  have hset : (s.set SWC_VOQ_OCC.CELLS n k).get SWC_VOQ_OCC.CELLS n = k % 2 ^ SWC_VOQ_OCC.CELLS.w := s.get_set_same _ _ (by decide)
  exact (State.get_set_apart _ (f := SWC_VOQ_OCC.PEAK) (i := n) _ (by decide)).trans hset

theorem State.voqPut_voq {o tc : Nat} (hout : c.out = o) (htc : c.tc = tc) :
    Tab.get [] (s.voqPut p c).swc.voq (voqKey p o tc) = Tab.get [] s.swc.voq (voqKey p o tc) ++ [c] := by
  subst hout htc
  exact Tab.get_put_same ..

end

section
variable (s : State) (p o : Port) (tc : Tc) (cs : List Cell)

theorem State.ovfTaken_cells : (s.ovfTaken p o tc cs).get SWC_OVF_STS.CELLS p = s.get SWC_OVF_STS.CELLS p - 1 := by
  have hlt := s.get_lt SWC_OVF_STS.CELLS p
  exact (s.get_set_same (f := SWC_OVF_STS.CELLS) p _ (by decide)).trans (Nat.mod_eq_of_lt (by omega))

theorem State.ovfTaken_wordsKept : wordsKept s (s.ovfTaken p o tc cs) [.SWC_OVF_STS, .SWC_VOQ_OCC] :=
  (wordsKept.refl s _).set (by decide)

end

/-- What the drain of a good cell leaves: the cell is the last in SRAM, and the two counts follow. -/
theorem State.voqPut_ovfTaken (s : State) {p o : Port} {tc : Tc} {c : Cell} (cs : List Cell) (hout : c.out = o.val) (hclass : c.tc = tc.val) :
    Tab.get [] ((s.ovfTaken p o tc cs).voqPut p c).swc.ovf (voqKey p o tc) = cs ∧
    Tab.get [] ((s.ovfTaken p o tc cs).voqPut p c).swc.voq (voqKey p o tc) = Tab.get [] s.swc.voq (voqKey p o tc) ++ [c] ∧
    ((s.ovfTaken p o tc cs).voqPut p c).get SWC_OVF_STS.CELLS p = s.get SWC_OVF_STS.CELLS p - 1 ∧
    ((s.ovfTaken p o tc cs).voqPut p c).get SWC_VOQ_OCC.CELLS (8 * p + tc) =
      (s.get SWC_VOQ_OCC.CELLS (8 * p + tc) + 1) % 2 ^ SWC_VOQ_OCC.CELLS.w := by
  refine ⟨Tab.get_put_same [] s.swc.ovf _ cs, State.voqPut_voq _ p hout hclass, ?_, ?_⟩
  · have hword := (s.ovfTaken p o tc cs).voqPut_wordsKept p c (.refl _ [.SWC_VOQ_OCC]) (by decide) .SWC_OVF_STS p (by decide)
    exact (congrArg (fun w => bits w SWC_OVF_STS.CELLS.lo SWC_OVF_STS.CELLS.w) hword).trans (s.ovfTaken_cells p o tc cs)
  · have hocc : (s.ovfTaken p o tc cs).get SWC_VOQ_OCC.CELLS (8 * p + tc) = s.get SWC_VOQ_OCC.CELLS (8 * p + tc) :=
      s.get_set_apart (f := SWC_OVF_STS.CELLS) _ (by decide)
    rw [State.voqPut_cells _ p hclass, hocc]

theorem State.voqPut_ovfTaken_rest (s : State) (p o : Port) (tc : Tc) (c : Cell) (cs : List Cell) :
    { (s.ovfTaken p o tc cs).voqPut p c with regs := s.regs, swc := s.swc } = s := rfl

/-! A column that is lost. -/

theorem eccCapture_wordsKept (s : State) (r stack row col side : Nat) :
    wordsKept s (eccCapture s r stack row col side) [.GRN_ECC_ADDR, .GRN_ECC_STS] := by
  unfold eccCapture
  split
  · exact .refl s _
  · exact (((((wordsKept.refl s _).set (by decide)).set (by decide)).set (by decide)).set (by decide)).set (by decide)

theorem keyLost_wordsKept (s : State) (key : Nat) : wordsKept s (keyLost s key) [.GRN_ECC_ADDR, .GRN_ECC_STS] := by
  unfold keyLost rowRepair
  extract_lets st row q
  have hcount : wordsKept s ((eccCapture s (st / 2) (st % 2) row (key / 64 % 32) 0).bump GRN_ECC_STS.UE_DIRTY (st / 2) 1)
      [.GRN_ECC_ADDR, .GRN_ECC_STS] := wordsKept.set (eccCapture_wordsKept s _ _ _ _ _) (by decide)
  split
  · exact hcount
  · exact hcount

theorem keyLost_boot (s : State) (key : Nat) : (keyLost s key).boot = s.boot := by
  unfold keyLost rowRepair eccCapture
  extract_lets st row q
  split
  · split
    · rfl
    · rfl
  · split
    · rfl
    · rfl

/-- The input port of the column is contained, and its overflow area is empty. -/
theorem overflowDrain_lost_down {s : State} {p o : Port} {tc : Tc} {c : Cell} {cs : List Cell}
    (hovf : Tab.get [] s.swc.ovf (voqKey p o tc) = c :: cs)
    (hroom : s.get SWC_VOQ_OCC.CELLS (8 * p + tc) < s.get SWC_VOQ_LIM.LIMIT (8 * p + tc)) (hrole : s.role p = 1)
    (hstate : s.get PRT_PORT_STS.STATE p = 4) (hgang : s.flag PRT_PORT_STS.GANGED p = false) (hrgn : s.rgn (p / 16) ≠ 2) :
    PortDown p (keyLost s (hbmAt (ovfStack p) (ovfAddr p c.slot))) (overflowDrain p o ⟨tc, .uncorrectable⟩ s) ∧
      (overflowDrain p o ⟨tc, .uncorrectable⟩ s).stsBit (swcSet (p / 16)) 2 := by
  rw [overflowDrain_lost hovf hroom]
  generalize hbmAt (ovfStack p) (ovfAddr p c.slot) = key
  have hkept := keyLost_wordsKept s key
  have hport := hkept .PRT_PORT_STS p (by decide)
  have hp : p.val / 16 < 4 := by omega
  refine State.record_portContained ((State.role_of_boot (keyLost_boot s key) p).trans hrole)
    ((congrArg (fun w => bits w _ _) hport).trans hstate) ((congrArg (fun w => bits w _ _ != 0) hport).trans hgang)
    (classOf_swc_port hp (by decide)) (State.windowGone_of_rgn ?_) (by decide)
  rw [setUnit_swcSet ⟨p / 16, hp⟩, State.rgn_eq_of_word (hkept _ _ (by decide))]
  exact hrgn

theorem voqKey_input (p o : Port) (tc : Tc) : voqKey p o tc / 512 = p := by
  unfold voqKey
  omega

end Sys2Proof.Machine
end

section
/-! SUPPORT. An output that starts a cell, and one that cannot (R221, R222, R238, R491). -/
namespace Sys2Proof.Machine
open Sys2Proof

/-! What is counted on the way. -/

/-- Since s₀ nothing was done but counting and sampling: only the Archive and words of the registers rs may differ. -/
structure Counted (rs : List Reg) (s₀ s : State) : Prop where
  uncounted : s.uncounted = s₀.uncounted
  word : wordsKept s₀ s rs

section
variable {rs : List Reg} {s₀ s : State}

theorem Counted.refl (rs : List Reg) (s : State) : Counted rs s s := ⟨rfl, .refl s rs⟩

theorem Counted.set {f : Fld} {i v : Nat} (h : Counted rs s₀ s) (hf : f.reg ∈ rs) : Counted rs s₀ (s.set f i v) :=
  ⟨h.uncounted, h.word.set hf⟩

theorem Counted.arc {x : ArcState} (h : Counted rs s₀ s) : Counted rs s₀ { s with arc := x } := ⟨h.uncounted, h.word⟩

theorem Counted.ite {c : Prop} [Decidable c] {a b : State} (ha : Counted rs s₀ a) (hb : Counted rs s₀ b) :
    Counted rs s₀ (if c then a else b) := by
  split
  · exact ha
  · exact hb

theorem Counted.addCounter {fuel n k : Nat} (h : Counted rs s₀ s) (hr : .PMC_CFG ∈ rs) : Counted rs s₀ (s.addCounter fuel n k) := by
  induction fuel generalizing s n k with
  | zero =>
    unfold State.addCounter
    exact .ite h.arc (.ite h.arc (h.arc.set hr))
  | succ f ih =>
    unfold State.addCounter
    exact .ite h.arc (.ite (ih h.arc) (h.arc.set hr))

theorem Counted.countPort {p c k : Nat} (h : Counted rs s₀ s) (hr : .PMC_CFG ∈ rs) : Counted rs s₀ (s.countPort p c k) :=
  .ite h (h.addCounter hr)

theorem Counted.sample {r : Nat} {x : Hist} {src out tc bin : Nat} (h : Counted rs s₀ s) (hr : .ARC_FRZ_LOSS ∈ rs) :
    Counted rs s₀ (s.sample r x src out tc bin) :=
  .ite h (.ite (h.set hr).arc h.arc)

/-- With the counters put back, the state is what it was. -/
theorem Counted.eq (h : Counted rs s₀ s) : { s with regs := s₀.regs, arc := s₀.arc } = s₀ :=
  (congrArg (fun u : State => { u with regs := s₀.regs, arc := s₀.arc }) h.uncounted :)

theorem Counted.swc (h : Counted rs s₀ s) : s.swc = s₀.swc := (congrArg (fun u : State => u.swc) h.uncounted :)
theorem Counted.ll (h : Counted rs s₀ s) : s.ll = s₀.ll := (congrArg (fun u : State => u.ll) h.uncounted :)
theorem Counted.out (h : Counted rs s₀ s) : s.out = s₀.out := (congrArg (fun u : State => u.out) h.uncounted :)
theorem Counted.role (h : Counted rs s₀ s) (p : Nat) : s.role p = s₀.role p :=
  State.role_of_boot (congrArg (fun u : State => u.boot) h.uncounted :) p

end

/-! No cell that can go. -/

theorem outputCellStart_idle {s : State} {p : Port} (h : s.get PRT_PORT_STS.STATE p ≠ 4 ∨ mergePick s p = none) :
    Counted [.PMC_CFG] s (outputCellStart ⟨p, .good⟩ s) := by
  have h0 : Counted [.PMC_CFG] s s := .refl _ s
  have hr : Reg.PMC_CFG ∈ [Reg.PMC_CFG] := by decide
  unfold outputCellStart
  extract_lets port _ lost s' waiting shut now z
  have hgood : ¬(EccRead.good == EccRead.uncorrectable) = true := by decide
  have hs : s' = s := if_neg (show ¬(EccRead.good == EccRead.corrected) = true by decide)
  clear_value s'
  subst hs
  rw [if_neg hgood]
  split
  · exact .ite (h0.countPort hr) (h0.countPort hr)
  next hstate =>
    rw [h.resolve_left (by simpa using hstate)]
    exact .ite (h0.countPort hr) ((h0.countPort hr).countPort hr)

/-! A cell that goes. -/

/-- The cell has left the merge stage, and the rotation has moved past its input (R222). -/
def State.taken (s : State) (p i : Nat) (c : Cell) : State :=
  s.sw fun w =>
    { w with merge := Tab.put [] w.merge (8 * p + i) ((Tab.get [] w.merge (8 * p + i)).erase c)
             served := Tab.put 0 w.served (8 * p + c.tc) (i + 1) }

theorem State.taken_merge (s : State) (p i : Nat) (c : Cell) :
    Tab.get [] (s.taken p i c).swc.merge (8 * p + i) = (Tab.get [] s.swc.merge (8 * p + i)).erase c :=
  Tab.get_put_same [] s.swc.merge ..

theorem State.taken_served (s : State) (p i : Nat) (c : Cell) : Tab.get 0 (s.taken p i c).swc.served (8 * p + c.tc) = i + 1 :=
  Tab.get_put_same 0 s.swc.served (8 * p + c.tc) (i + 1)

/-- The registers in which a start counts. -/
def startRegs : List Reg := [.PMC_CFG, .ARC_FRZ_LOSS, .TFC_GATE_CUR]

/-- A cell with no message of a request is put on a CXL link (R221, R270). -/
def State.linkSent (s : State) (p : Nat) (c : Cell) : State :=
  let l : LnkState := Tab.get {} s.ll.lnk p
  let l1 : LnkState := { l with
    credit := c.need.foldl (fun t ch => Tab.put 0 t ch (Tab.get 0 t ch - 1)) l.credit
    txNext := l.txNext + 1
    replay := l.replay ++ [(l.txNext, { c with kset := s.get LNK_IDE_STS.KSET_IO p + 2 * s.get LNK_IDE_STS.KSET_CM p })] }
  ({ s with ll := { s.ll with lnk := Tab.put ({} : LnkState) s.ll.lnk p l1 } }).emit (.link p 4 l.txNext)

/-- A cell is put on a Zwius link with its epoch, and what it requests is sent away (R281, R289). -/
def State.zwlSent (s : State) (z : Nat) (c : Cell) : State :=
  let l := s.zwl z
  let f := 8 * c.dest + c.tc
  let n := s.get ZWL_STS.TX_SEQ z
  let r := sourceRegion c.source
  let d := { c with epoch := some (r, s.get SWC_RT_BAR.EPOCH r) }
  let s7 := c.reqs.foldl (fun s q => s.sentAway z q) s
  (((s7.setZwl z { l with sent := Tab.put 0 l.sent f ((Tab.get 0 l.sent f + 1) % 2 ^ 16), replay := l.replay ++ [(n, d, 0)] }).set
    ZWL_STS.TX_SEQ z ((n + 1) % 2 ^ 24)).sendUnit z (some n) false (s7.dataUnit n d)).emit (.zwl z 0x10 n f)

theorem outputCellStart_starts {s : State} {p : Port} {i : Nat} {c : Cell} (hstate : s.get PRT_PORT_STS.STATE p = 4)
    (hpick : mergePick s p = some (i, c)) (hmsg : c.msg = []) :
    ∃ u, Counted startRegs (s.taken p i c) u ∧ outputCellStart ⟨p, .good⟩ s =
      if s.role p = 3 then (u.emit (.cell p c.source c.tc c.nat)).zwlSent (zIndex p) c
      else (u.emit (.cell p c.source c.tc c.nat)).linkSent p c := by
  unfold outputCellStart
  extract_lets port _ lost s' waiting shut now z
  have hgood : ¬(EccRead.good == EccRead.uncorrectable) = true := by decide
  have hs : s' = s := if_neg (show ¬(EccRead.good == EccRead.corrected) = true by decide)
  clear_value s'
  subst hs
  rw [if_neg hgood, if_neg (by simp [port, hstate]), hpick]
  dsimp -zeta only
  extract_lets u1 u2 u3 u4 u5 u6
  have hr : Reg.PMC_CFG ∈ startRegs := by decide
  have g2 : Counted startRegs (s'.taken p i c) u2 := (((Counted.refl _ u1).countPort hr).countPort hr).countPort hr
  have g3 : Counted startRegs (s'.taken p i c) u3 := .ite (g2.countPort hr) g2
  have g4 : Counted startRegs (s'.taken p i c) u4 := by
    unfold u4
    split
    · exact g3
    · exact (g3.sample (by decide)).sample (by decide)
  have g5 : Counted startRegs (s'.taken p i c) u5 := .ite g4 (g4.set (by decide))
  have h6 : u6 = u5.emit (.cell p c.source c.tc c.nat) := by
    unfold u6
    rw [hmsg]
    rfl
  refine ⟨u5, g5, ?_⟩
  clear_value u6 u5
  subst h6
  exact if_congr (iff_of_eq (congrArg (· = 3) (g5.role p))) rfl rfl

/-! What a link or a Zwius keeps of it. -/

section
variable (s : State) (p z : Nat) (c : Cell)

theorem State.linkSent_lnk :
    (Tab.get {} (s.linkSent p c).ll.lnk p : LnkState).txNext = (Tab.get {} s.ll.lnk p : LnkState).txNext + 1 ∧
    (Tab.get {} (s.linkSent p c).ll.lnk p : LnkState).replay = (Tab.get {} s.ll.lnk p : LnkState).replay ++
      [((Tab.get {} s.ll.lnk p : LnkState).txNext,
        { c with kset := s.get LNK_IDE_STS.KSET_IO p + 2 * s.get LNK_IDE_STS.KSET_CM p })] := by
  unfold State.linkSent State.emit
  dsimp only
  rw [Tab.get_put_same]
  exact ⟨rfl, rfl⟩

theorem State.zwl_setZwl_same (v : ZwlState) : (s.setZwl z v).zwl z = v := Tab.get_put_same ..

/-- A unit that waits for the wire is neither sent nor kept for replay yet. -/
theorem State.sendUnit_zwl (num : Option Nat) (again : Bool) (bs : List Byte) :
    ((s.sendUnit z num again bs).zwl z).sent = (s.zwl z).sent ∧ ((s.sendUnit z num again bs).zwl z).replay = (s.zwl z).replay := by
  unfold State.sendUnit State.zwl State.setZwl
  dsimp only
  rw [Tab.get_put_same]
  exact ⟨rfl, rfl⟩

theorem State.zwlSent_zwl :
    ((s.zwlSent z c).zwl z).replay.map (fun e => e.1) = (s.zwl z).replay.map (fun e => e.1) ++ [s.get ZWL_STS.TX_SEQ z] ∧
    ((s.zwlSent z c).zwl z).sent = Tab.put 0 (s.zwl z).sent (8 * c.dest + c.tc)
      ((Tab.get 0 (s.zwl z).sent (8 * c.dest + c.tc) + 1) % 2 ^ 16) := by
  unfold State.zwlSent
  extract_lets l f n r d s7
  have hzwl := s7.zwl_setZwl_same z
    { l with sent := Tab.put 0 l.sent f ((Tab.get 0 l.sent f + 1) % 2 ^ 16), replay := l.replay ++ [(n, d, 0)] }
  obtain ⟨hsent, hreplay⟩ := State.sendUnit_zwl ((s7.setZwl z _).set ZWL_STS.TX_SEQ z ((n + 1) % 2 ^ 24)) z (some n) false (s7.dataUnit n d)
  refine ⟨?_, hsent.trans (congrArg ZwlState.sent hzwl)⟩
  exact (congrArg (List.map Prod.fst) (hreplay.trans (congrArg ZwlState.replay hzwl))).trans List.map_append

variable {c} (hreqs : c.reqs = [])
include hreqs

theorem State.zwlSent_swc : (s.zwlSent z c).swc = s.swc := by
  unfold State.zwlSent
  rw [hreqs]
  rfl

theorem State.zwlSent_seq : (s.zwlSent z c).get ZWL_STS.TX_SEQ z = (s.get ZWL_STS.TX_SEQ z + 1) % 2 ^ 24 := by
  unfold State.zwlSent
  rw [hreqs]
  exact (State.get_set_same _ (f := ZWL_STS.TX_SEQ) z _ (by decide)).trans (Nat.mod_mod _ _)

end

/-! A gate entry that is lost (R239). -/

theorem classOf_tfc_gate {r : Nat} (hr : r < 4) : classOf (tfcSet r) 3 = 2 := by
  interval_cases r <;> decide

theorem setUnit_tfcSet {r : Nat} (hr : r < 4) : setUnit (tfcSet r) = r := by
  interval_cases r <;> decide

/-- The gates of port p stay open until a new bank is loaded. -/
def State.gatesOpened (s : State) (p : Nat) : State :=
  { s with tfc := { s.tfc with gateLost := Tab.put false s.tfc.gateLost p true } }

theorem outputCellStart_lost (s : State) (p : Port) : outputCellStart ⟨p, .uncorrectable⟩ s =
    ((s.gatesOpened p).record (portOcc p (tfcSet (p / 16)) 3)).portContained p := by
  unfold outputCellStart
  exact if_pos (show (EccRead.uncorrectable == EccRead.uncorrectable) = true by decide)

theorem outputCellStart_lost_down {s : State} {p : Port} (hrole : s.role p = 1) (hstate : s.get PRT_PORT_STS.STATE p = 4)
    (hgang : s.flag PRT_PORT_STS.GANGED p = false) (hrgn : s.rgn (p / 16) ≠ 2) :
    PortDown p (s.gatesOpened p) (outputCellStart ⟨p, .uncorrectable⟩ s) ∧
      (outputCellStart ⟨p, .uncorrectable⟩ s).stsBit (tfcSet (p / 16)) 3 := by
  have hp : p.val / 16 < 4 := by omega
  have hgone : (s.gatesOpened p).windowGone (setUnit (tfcSet (p / 16))) = false := by
    rw [setUnit_tfcSet hp]
    exact State.windowGone_of_rgn hrgn
  rw [outputCellStart_lost]
  exact State.record_portContained (s := s.gatesOpened p) hrole hstate hgang (classOf_tfc_gate hp) hgone (by decide)

/-- Settles O22, from what a slot, a start and a drain leave, and from the containment of an UP port for the three errors that contain one. -/
theorem schedulerAndOutputs : Obligations.SchedulerAndOutputs := by
  unfold Obligations.SchedulerAndOutputs
  refine ⟨fun s i o tc c hi ho htc hvoq hgate hor hir hcross hheld hown hgood => ?_,
    fun s i o tc c hi ho htc hvoq hgate hor hir hcross hheld hother hgood hgrant => ?_,
    fun s i o tc c hi ho htc hvoq hgate hor hir hcross hheld hown hbad hrole hstate hgang => ?_,
    fun s c hcross hvoq hitem => ⟨fun hserve => ?_, fun hserve hsource _ => ?_⟩, fun s hcross hvoq => ?_,
    fun s p i c hstate hrole hpick hmsg => ?_, fun s p i c hstate hrole hpick hmsg hreqs => ?_, fun s p h => ?_,
    fun s p hrole hstate hgang hrgn => ?_, fun s p o tc c cs hovf hout hclass hroom hheld => ?_,
    fun s p o tc c cs hovf hroom hrole hstate hgang hrgn => ?_, fun s p o tc f h => ?_⟩
  · have h : OneCell s i o tc c := ⟨hi, ho, htc, hvoq, hgate, hor, hir, hcross, hheld⟩
    obtain ⟨hg, ha⟩ := s.picked_pointers i o tc
    exact ⟨_, congrArg Host.Outcome.next (h.schedulerSlot_crosses hown hgood), rfl, rfl, hg, ha, s.picked_cells i o tc,
      s.picked_wordsKept i o tc, rfl⟩
  · have h : OneCell s i o tc c := ⟨hi, ho, htc, hvoq, hgate, hor, hir, hcross, hheld⟩
    obtain ⟨hg, ha⟩ := s.picked_pointers i o tc
    exact ⟨_, congrArg Host.Outcome.next (h.schedulerSlot_waits hother hgrant hgood), rfl, hcross, hg, ha, s.picked_cells i o tc,
      Tab.get_put_same [] s.swc.spine _ _, s.picked_wordsKept i o tc, rfl⟩
  · have h : OneCell s i o tc c := ⟨hi, ho, htc, hvoq, hgate, hor, hir, hcross, hheld⟩
    obtain ⟨hdown, hsts, hvoq', hcross', -⟩ := State.picked_uncorrected h hrole hstate hgang
    exact ⟨_, congrArg Host.Outcome.next (h.schedulerSlot_lost hown hbad), hvoq', hcross', hsts, hdown.state⟩
  · have hswc := schedulerSlot_enters hcross hvoq hitem hserve
    refine ⟨_, rfl, ?_, ?_, fun k hk => ?_⟩
    · rw [hswc]
    · rw [hswc]
      exact Tab.get_put_same ..
    · rw [hswc]
      exact Tab.get_put_ne _ _ _ _ _ _ hk
  · refine ⟨_, congrArg Host.Outcome.next (schedulerSlot_drops hcross hvoq hitem hserve hsource), rfl, rfl, ?_⟩
    exact (s.get_set_same (f := SWC_DOWN_DROP.CELLS) c.out _ (by decide)).trans
      (Nat.mod_eq_of_lt (by simp only [satAdd, SWC_DOWN_DROP.CELLS]; omega))
  · exact congrArg Host.Outcome.next (schedulerSlot_idle hcross hvoq)
  · obtain ⟨u, hu, hstart⟩ := outputCellStart_starts hstate hpick hmsg
    rw [if_neg hrole] at hstart
    obtain ⟨hnext, hreplay⟩ := (u.emit (.cell p c.source c.tc c.nat)).linkSent_lnk p c
    have hlnk : (u.emit (.cell p c.source c.tc c.nat)).ll.lnk = s.ll.lnk := congrArg LlState.lnk hu.ll
    rw [hlnk] at hnext hreplay
    refine ⟨_, congrArg Host.Outcome.next hstart, ?_, ?_, ?_, ?_, hnext, ?_⟩
    · exact (congrArg (fun w => Tab.get [] w.merge (8 * p + i)) hu.swc).trans (s.taken_merge p i c)
    · exact (congrArg (fun w => Tab.get 0 w.served (8 * p + c.tc)) hu.swc).trans (s.taken_served p i c)
    · rw [hreplay, List.dropLast_concat]
    · rw [hreplay, List.getLast?_concat]
      rfl
    · exact congrArg₂ (fun l out => Msg.link p 4 (Tab.get {} l p : LnkState).txNext :: .cell p c.source c.tc c.nat :: out) hlnk hu.out
  · obtain ⟨u, hu, hstart⟩ := outputCellStart_starts hstate hpick hmsg
    rw [if_pos hrole] at hstart
    obtain ⟨hreplay, hsent⟩ := (u.emit (.cell p c.source c.tc c.nat)).zwlSent_zwl (zIndex p) c
    have hseq := (u.emit (.cell p c.source c.tc c.nat)).zwlSent_seq (zIndex p) hreqs
    have hswc := (u.emit (.cell p c.source c.tc c.nat)).zwlSent_swc (zIndex p) hreqs
    have hzwl : (u.emit (.cell p c.source c.tc c.nat)).zwl (zIndex p) = s.zwl (zIndex p) :=
      congrArg (fun l : LlState => (Tab.get {} l.zwl (zIndex p) : ZwlState)) hu.ll
    have htx : (u.emit (.cell p c.source c.tc c.nat)).get ZWL_STS.TX_SEQ (zIndex p) = s.get ZWL_STS.TX_SEQ (zIndex p) :=
      congrArg (fun w => bits w _ _) (hu.word .ZWL_STS (zIndex p) (by decide))
    rw [hzwl, htx] at hreplay
    rw [hzwl] at hsent
    refine ⟨_, congrArg Host.Outcome.next hstart, ?_, ?_, hreplay, ?_, ?_⟩
    · exact (congrArg (fun w => Tab.get [] w.merge (8 * p + i)) (hswc.trans hu.swc)).trans (s.taken_merge p i c)
    · exact (congrArg (fun w => Tab.get 0 w.served (8 * p + c.tc)) (hswc.trans hu.swc)).trans (s.taken_served p i c)
    · rw [hsent, Tab.get_put_same]
    · rw [hseq, htx]
  · have h' := outputCellStart_idle h
    exact ⟨_, rfl, h'.swc, fun r i hr _ _ => h'.word r i (by simpa using hr), h'.eq⟩
  · obtain ⟨hdown, hsts⟩ := outputCellStart_lost_down hrole hstate hgang hrgn
    refine ⟨_, rfl, hsts, hdown.state, ?_⟩
    rw [hdown.gateLost]
    exact Tab.get_put_same false s.tfc.gateLost p true
  · have hdrain := overflowDrain_good hovf hroom hheld
    have hkept := State.voqPut_wordsKept _ p { c with data := s.ovfBytes p c } (s.ovfTaken_wordsKept p o tc cs) (by decide)
    have hrest := s.voqPut_ovfTaken_rest p o tc { c with data := s.ovfBytes p c } cs
    obtain ⟨hovf', hvoq, hcells, hocc⟩ := s.voqPut_ovfTaken (c := { c with data := s.ovfBytes p c }) cs hout hclass
    generalize (s.ovfTaken p o tc cs).voqPut p { c with data := s.ovfBytes p c } = u at hdrain hkept hrest hovf' hvoq hcells hocc
    exact ⟨_, congrArg Host.Outcome.next hdrain, hovf', hvoq, hcells, hocc, hkept, hrest⟩
  · obtain ⟨hdown, hsts⟩ := overflowDrain_lost_down hovf hroom hrole hstate hgang hrgn
    exact ⟨_, rfl, hdown.ovf _ (voqKey_input p o tc), hsts, hdown.state⟩
  · exact congrArg Host.Outcome.next (overflowDrain_idle h)

end Sys2Proof.Machine
end

section
/-! SUPPORT. The theorem that refutes O24. -/
namespace Sys2Proof.Machine
open Sys2Proof

/-- The first cell of a flow from port 16 to port 0, which is OFF. -/
def heldFirst : Cell := { source := 16, out := 0, tc := 0 }

/-- The window of port 0 holds it, and the number expected next of its flow is kept as 65,537, which 16 bits do not hold. -/
def expectsBeyond16Bits : State :=
  State.reset.sw fun w => { w with window := [(0, [heldFirst])], rxseq := [(heldFirst.flow, 65537)] }

/-- The distance to the held cell is cut off at 0, number 1 is expected instead, and the cell stays held. -/
theorem holeTimeout_keeps_held : Tab.get [] (holeTimeout 0 16 0 expectsBeyond16Bits).swc.window 0 = [heldFirst] := by
  decide +kernel

/-- Refutes O24: HOLE_TIMEOUT does not deliver the held cell of its flow where the number expected next lies more than 65,536 above that
of the cell, which no hypothesis excludes. -/
theorem not_sprayModes : ¬ Obligations.SprayModes := by
  unfold Obligations.SprayModes
  rintro ⟨-, -, -, -, -, -, -, -, -, -, -, -, -, -, hhole, -⟩
  obtain ⟨t, ht, hwindow, -⟩ := hhole expectsBeyond16Bits 0 16 0 heldFirst (by decide +kernel) (by decide +kernel) (by decide +kernel)
    (by decide +kernel) (by decide +kernel) rfl rfl rfl rfl (by decide) rfl rfl (by decide +kernel)
  have hheld : Tab.get [] t.swc.window 0 = [heldFirst] := Host.Outcome.next.inj ht ▸ holeTimeout_keeps_held
  exact List.cons_ne_nil _ _ (hheld.symm.trans hwindow)

end Sys2Proof.Machine
end

section
/-! SUPPORT. Slips at admission, the policers' registers (R224–R228, R44), and the theorem that settles O26. -/
namespace Sys2Proof.Machine
open Sys2Proof

/-! A policer's bucket beside its registers. -/

section
variable (s : State) (n : Nat) (b : Bucket)

theorem State.setPolicer_pol : Tab.get {} (s.setPolicer n b).tfc.pol n = b :=
  Tab.get_put_same {} s.tfc.pol n b

theorem State.get_setPolicer (f : Fld) (i : Nat) : (s.setPolicer n b).get f i = s.get f i := rfl

end

theorem wordsKept.setPolicer {s t : State} {rs : List Reg} {n : Nat} {b : Bucket} (h : wordsKept s t rs) :
    wordsKept s (t.setPolicer n b) rs :=
  h

/-- A field's bits of a word are a value of the field. -/
theorem bits_mod {n : Nat} (v : BitVec n) (lo w : Nat) : bits v lo w % 2 ^ w = bits v lo w :=
  Nat.mod_eq_of_lt (bits_lt v lo w)

/-! Slips (R227). -/

section
variable {s : State} {r : Region} {k : Carrel} {u : Fin 4} {q : Qid} (tag : BitVec 32) (d : List Byte) (b : Bool)

/-- A carrel that may not send has its slip refused (R345, R395). -/
theorem slipAdmit_mute (h : s.carrelActive k.toNat = false ∨ s.tplOf k.toNat 20 1 = 0) :
    slipAdmit r k u q tag d ⟨b, false⟩ s = s.carrelCount k.toNat 5 1 :=
  if_pos (by simpa using h)

variable {pols : List Nat} (hact : s.carrelActive k.toNat = true) (htpl : s.tplOf k.toNat 20 1 = 1)
  (hpols : (slipPolicers s r k.toNat q.toNat).filterMap id = pols)
include hact htpl hpols

/-- A slip that fails at another policer than its carrel's is refused there. -/
theorem slipAdmit_fails {n : Nat} (hn : pols.find? (fun n => !s.conforms n) = some n)
    (hflow : s.policerOf (s.carrelPort k.toNat / 16) 1 k.toNat ≠ some n) :
    slipAdmit r k u q tag d ⟨b, false⟩ s = (s.chaff n).carrelCount k.toNat 5 1 := by
  subst hpols
  refine (if_neg (by simp [hact, htpl])).trans ?_
  simp only [Bool.false_eq_true, if_false, hn]
  exact if_neg hflow

/-- A slip that conforms to every policer and stays on this unit takes its tokens. -/
theorem slipAdmit_here (hall : pols.find? (fun n => !s.conforms n) = none) (hu : u.val = s.unit) :
    slipAdmit r k u q tag d ⟨b, false⟩ s = (pols.foldl State.takeTokens s).carrelCount k.toNat 4 1 := by
  subst hpols
  refine (if_neg (by simp [hact, htpl])).trans ?_
  simp only [Bool.false_eq_true, if_false, hall]
  exact if_pos hu

/-- A slip for another unit, with no policer to meet, enters the switch core toward a Zwius port. -/
theorem slipAdmit_away {z : Nat} (hnone : pols = []) (hu : u.val ≠ s.unit) (hz : s.zPortTo u = some z) :
    slipAdmit r k u q tag d ⟨b, false⟩ s =
      (s.carrelCount k.toNat 4 1).arrive (s.carrelPort k.toNat) (slipCell (s.carrelPort k.toNat) z q.toNat d) := by
  subst hpols
  have hz' : (s.carrelCount k.toNat 4 1).zPortTo u = some z := hz
  refine (if_neg (by simp [hact, htpl])).trans ?_
  simp only [Bool.false_eq_true, if_false, hnone, List.find?_nil]
  refine (if_neg hu).trans ?_
  rw [List.foldl_nil, hz']
  rfl

end

/-! The words of a policer (R228). -/

/-- TFC_POL_CFG as its write leaves it: a BURST of 0 is discarded (R44). -/
def State.polCfg (s : State) (n : Nat) (v : Word) : State :=
  let s1 := s.set TFC_POL_CFG.RATE n (bits v 0 16)
  if bits v 16 16 = 0 then s1.discard (tfcSet (n / 2048)) else s1.set TFC_POL_CFG.BURST n (bits v 16 16)

/-- TFC_POL_ATT with a policer attached. -/
def State.polAtt (s : State) (n en kind ident : Nat) : State :=
  ((s.set TFC_POL_ATT.EN n en).set TFC_POL_ATT.KIND n kind).set TFC_POL_ATT.ID n ident

section
variable (s : State) (n : Nat) (v : Word)

theorem State.polCfg_zero (h : bits v 16 16 = 0) :
    s.polCfg n v = (s.set TFC_POL_CFG.RATE n (bits v 0 16)).discard (tfcSet (n / 2048)) :=
  if_pos h

theorem State.polCfg_burst (h : bits v 16 16 ≠ 0) :
    s.polCfg n v = (s.set TFC_POL_CFG.RATE n (bits v 0 16)).set TFC_POL_CFG.BURST n (bits v 16 16) :=
  if_neg h

theorem State.polCfg_get_rate : (s.polCfg n v).get TFC_POL_CFG.RATE n = bits v 0 16 := by
  have hrate : (s.set TFC_POL_CFG.RATE n (bits v 0 16)).get TFC_POL_CFG.RATE n = bits v 0 16 :=
    (s.get_set_same n _ (by decide)).trans (bits_mod v 0 16)
  by_cases h : bits v 16 16 = 0
  · rw [s.polCfg_zero n v h]
    exact hrate
  · rw [s.polCfg_burst n v h, State.get_set_apart _ _ (by decide), hrate]

theorem State.polCfg_get_burst :
    (s.polCfg n v).get TFC_POL_CFG.BURST n = if bits v 16 16 = 0 then s.get TFC_POL_CFG.BURST n else bits v 16 16 := by
  split
  next h =>
    rw [s.polCfg_zero n v h]
    exact s.get_set_apart _ (by decide)
  next h => rw [s.polCfg_burst n v h, State.get_set_same _ _ _ (by decide), bits_mod]

variable (en kind ident : Nat)

theorem State.polAtt_get_en : (s.polAtt n en kind ident).get TFC_POL_ATT.EN n = en % 2 ^ 1 := by
  rw [State.polAtt, State.get_set_apart _ _ (by decide), State.get_set_apart _ _ (by decide)]
  exact s.get_set_same n en (by decide)

theorem State.polAtt_get_kind : (s.polAtt n en kind ident).get TFC_POL_ATT.KIND n = kind % 2 ^ 2 := by
  rw [State.polAtt, State.get_set_apart _ _ (by decide)]
  exact State.get_set_same _ n kind (by decide)

theorem State.polAtt_get_id : (s.polAtt n en kind ident).get TFC_POL_ATT.ID n = ident % 2 ^ 20 :=
  State.get_set_same _ n ident (by decide)

theorem State.polAtt_wordsKept : wordsKept s (s.polAtt n en kind ident) [.TFC_POL_ATT] :=
  (((wordsKept.refl s _).set (by decide)).set (by decide)).set (by decide)

theorem State.polAtt_get_burst : (s.polAtt n en kind ident).get TFC_POL_CFG.BURST n = s.get TFC_POL_CFG.BURST n :=
  congrArg (fun w => bits w _ _) (s.polAtt_wordsKept n en kind ident .TFC_POL_CFG n (by decide))

end

/-- A bucket clipped to a size holds the smaller count of tokens. -/
theorem clipped_tokens (b : Bucket) (size : Int) :
    (if b.tokens ≥ size then { b with tokens := size, frac := 0 } else b).tokens = min b.tokens size := by
  split
  next h => exact (min_eq_right h).symm
  next h => exact (min_eq_left (not_le.1 h).le).symm

/-- An ID that its KIND does not have (R44). -/
def idBeyond (v : Word) : Prop := bits v 1 2 = 1 ∧ 4096 ≤ bits v 3 20 ∨ bits v 1 2 = 3 ∧ 16 ≤ bits v 3 20

theorem idBeyond_iff {v : Word} :
    ((bits v 1 2 = 1 && bits v 3 20 ≥ 4096) || (bits v 1 2 = 3 && bits v 3 20 ≥ 16)) = true ↔ idBeyond v := by
  simp [idBeyond]

/-- Another policer has the KIND and ID that a write would attach. -/
def State.polTwice (s : State) (n : Nat) (v : Word) : Prop :=
  bits v 0 1 = 1 ∧ bits v 1 2 ≠ 0 ∧ ∃ m, s.policerOf (n / 2048) (bits v 1 2) (bits v 3 20) = some m ∧ m ≠ n

section
variable {s : State} {p : Path} {n : Fin 8192} {v : Word}

/-- None has it where KIND attaches to nothing, or where no policer but n itself is found. -/
theorem State.not_polTwice
    (h : bits v 1 2 = 0 ∨ s.policerOf (n / 2048) (bits v 1 2) (bits v 3 20) = none ∨
      s.policerOf (n / 2048) (bits v 1 2) (bits v 3 20) = some n.val) : ¬ s.polTwice n v := by
  rintro ⟨-, hkind, m, hm, hne⟩
  rw [hm] at h
  obtain h | h | h := h
  · exact hkind h
  · exact absurd h (by simp)
  · exact hne (Option.some.inj h)

variable (h : s.admits p (tfcSet (n / 2048)))
include h

theorem policerCfgWrite_admitted :
    policerCfgWrite p n v s =
      let size : Int := (256 * (s.polCfg n v).get TFC_POL_CFG.BURST n : Nat)
      let b := s.policer n
      (s.polCfg n v).setPolicer n (if b.tokens ≥ size then { b with tokens := size, frac := 0 } else b) :=
  State.command_admitted _ h

/-- An attachment that no other policer has is taken, and an EN that turns on fills the bucket. -/
theorem policerAttach_taken (hid : ¬ idBeyond v) (hfree : ¬ s.polTwice n v) :
    policerAttach p n v s =
      let s1 := s.polAtt n (bits v 0 1) (bits v 1 2) (bits v 3 20)
      if !s.flag TFC_POL_ATT.EN n && bits v 0 1 = 1 then
        s1.setPolicer n ⟨(256 * s1.get TFC_POL_CFG.BURST n : Nat), 0, s1.timeOf (n / 2048)⟩
      else s1 := by
  have hrange := Bool.eq_false_iff.2 (mt idBeyond_iff.1 hid)
  unfold policerAttach
  rw [State.command_admitted _ h]
  simp only [hrange, Bool.false_eq_true, if_false]
  rw [if_neg]
  · rfl
  · intro ht
    split at ht
    next m hm => exact hfree (by simpa [State.polTwice, hm, and_assoc] using ht)
    next => exact absurd ht (by simp)

/-- A second policer of a KIND and ID is discarded. -/
theorem policerAttach_twice (hid : ¬ idBeyond v) (htwice : s.polTwice n v) :
    policerAttach p n v s = s.discard (tfcSet (n / 2048)) := by
  have hrange := Bool.eq_false_iff.2 (mt idBeyond_iff.1 hid)
  obtain ⟨hen, hkind, m, hm, hne⟩ := htwice
  unfold policerAttach
  rw [State.command_admitted _ h]
  simp [hrange, hm, hen, hkind, hne]

/-- An ID out of range is discarded alone, where nothing is attached. -/
theorem policerAttach_beyond (hid : idBeyond v) (hen : bits v 0 1 = 0) :
    policerAttach p n v s = (s.discard (tfcSet (n / 2048))).polAtt n 0 (bits v 1 2) (s.get TFC_POL_ATT.ID n) := by
  have hrange := idBeyond_iff.2 hid
  unfold policerAttach
  rw [State.command_admitted _ h]
  simp only [hrange, hen, if_true]
  rw [if_neg]
  · simp [State.polAtt]
  · split
    · simp
    · simp

end

/-! Writes of the registers. -/

theorem State.settleShapers_regs (s : State) : s.settleShapers.regs = s.regs :=
  List.foldlRecOn (motive := fun t : State => t.regs = s.regs) _ _ rfl fun _ h _ _ => h

/-- The shapers' buckets are nothing to the set that counts a write. -/
theorem regSet_settleShapers (s : State) (r : Reg) (i x : Nat) : regSet s.settleShapers r i x = regSet s r i x := by
  have hlead : s.settleShapers.lead = s.lead := by
    simp only [State.lead, State.rgn, State.flag, State.get, State.word, s.settleShapers_regs]
  simp only [regSet, hlead]

/-- Settles O26, from what each command leaves of the words and the bucket of its policer. -/
theorem policers : Obligations.Policers := by
  unfold Obligations.Policers
  refine ⟨fun s r k u q tag d b hact htpl hp hu => ?_, fun s r k u q tag d b n hact htpl hp hn hu => ?_,
    fun s r k u q tag d b n hact htpl hp hn hnone => ?_, fun s r k u q tag d b h => ?_,
    fun s r k u q tag d b z hact htpl hp hu hz => ?_, fun s p n v h hb => ?_, fun s p n v h hb => ?_,
    fun s p n v h hen hoff hid hfree => ?_, fun s p n v h hid hfree hstill => ?_, fun s p n v m h hid hen hkind hm hne => ?_,
    fun s p n v h hid hen => ?_, fun s p a d i h => ?_, fun s p a d i h => ?_, fun s p a d i h => ?_, fun s p n v h => ?_⟩
  · exact congrArg Host.Outcome.next (slipAdmit_here tag d b hact htpl hp rfl hu)
  · exact congrArg Host.Outcome.next (slipAdmit_here tag d b hact htpl hp (by simp [hn]) hu)
  · exact congrArg Host.Outcome.next (slipAdmit_fails tag d b hact htpl hp (by simp [hn]) (by simp [hnone]))
  · exact congrArg Host.Outcome.next (slipAdmit_mute tag d b h)
  · exact congrArg Host.Outcome.next (slipAdmit_away tag d b hact htpl hp rfl hu hz)
  · have hburst : (s.polCfg n v).get TFC_POL_CFG.BURST n = bits v 16 16 := (s.polCfg_get_burst n v).trans (if_neg hb)
    refine ⟨_, congrArg Host.Outcome.next (policerCfgWrite_admitted h), (State.get_setPolicer ..).trans (s.polCfg_get_rate n v),
      (State.get_setPolicer ..).trans hburst, ?_, ?_, ?_⟩
    · rw [State.setPolicer_pol, clipped_tokens, hburst]
    · rw [s.polCfg_burst n v hb]
      exact ((wordsKept.refl s _).set (f := TFC_POL_CFG.RATE) (i := n) (v := bits v 0 16) (by decide)).set (by decide)
    · rw [s.polCfg_burst n v hb]
      rfl
  · refine ⟨_, congrArg Host.Outcome.next (policerCfgWrite_admitted h), (State.get_setPolicer ..).trans (s.polCfg_get_rate n v),
      (State.get_setPolicer ..).trans ((s.polCfg_get_burst n v).trans (if_pos hb)), ?_⟩
    rw [s.polCfg_zero n v hb]
    rfl
  · have ht := policerAttach_taken h (v := v) (not_or.2 hid) (State.not_polTwice hfree)
    rw [if_pos (by simp [hoff, hen])] at ht
    refine ⟨_, congrArg Host.Outcome.next ht, ?_, ?_, ?_, ?_, (s.polAtt_wordsKept _ _ _ _).setPolicer, rfl⟩
    · rw [State.get_setPolicer, State.polAtt_get_en, bits_mod, hen]
    · rw [State.get_setPolicer, State.polAtt_get_kind, bits_mod]
    · rw [State.get_setPolicer, State.polAtt_get_id, bits_mod]
    · rw [State.setPolicer_pol, State.polAtt_get_burst]
  · have ht := policerAttach_taken h (v := v) (not_or.2 hid) (State.not_polTwice hfree)
    have hfill : ¬ (!s.flag TFC_POL_ATT.EN n && bits v 0 1 = 1) = true := by
      obtain h0 | h1 := hstill
      · simp [h0]
      · simp [h1]
    rw [if_neg hfill] at ht
    exact ⟨_, congrArg Host.Outcome.next ht, (s.polAtt_get_en ..).trans (bits_mod v 0 1), (s.polAtt_get_kind ..).trans (bits_mod v 1 2),
      (s.polAtt_get_id ..).trans (bits_mod v 3 20), s.polAtt_wordsKept _ _ _ _, rfl⟩
  · exact congrArg Host.Outcome.next (policerAttach_twice h (not_or.2 hid) ⟨hen, hkind, m, hm, hne⟩)
  · refine ⟨_, congrArg Host.Outcome.next (policerAttach_beyond h hid hen), State.polAtt_get_en ..,
      (State.polAtt_get_kind ..).trans (bits_mod v 1 2), (State.polAtt_get_id ..).trans (Nat.mod_eq_of_lt (s.get_lt _ _)), rfl⟩
  · exact exec_registerWrite_of_reaches d h
  · exact exec_registerWrite_of_reaches d h
  · refine (exec_registerWrite_of_reaches d h).trans ?_
    rw [State.stored, regSet_settleShapers]
    rfl
  · exact ⟨congrArg Host.Outcome.next (State.command_refused _ h), congrArg Host.Outcome.next (State.command_refused _ h)⟩

end Sys2Proof.Machine
end

section
/-! SUPPORT. Fabric time (R231) where a port is contained: what follows the loss of an UP port's link leaves the regions' copies of it as they
are. `SameTime s₀ t` says that t has kept them since s₀; each function f of this work that is more than a change of other fields has one
lemma `SameTime.f`, which follows f's shape. -/
namespace Sys2Proof.Machine
open Sys2Proof

/-- The regions' copies of fabric time are those of s₀. -/
def SameTime (s₀ t : State) : Prop := t.time = s₀.time

variable {s₀ s t : State}

theorem SameTime.refl (s : State) : SameTime s s := rfl

theorem SameTime.timeOf (h : SameTime s₀ t) (u : Nat) : t.timeOf u = s₀.timeOf u :=
  congrArg (fun m => Tab.get 0 m (if u < 4 then u else 0)) h

section
variable {regs : Tab Word} {ces : Tab CesSet} {out : List Msg} {free : Nat} {fatal : Bool} {hbm ret : List Host.Cell} {lat : Latches}
  {sup : SupState} {flt : FltState} {i3c : I3cState} {spw : SpwState} {arc : ArcState} {bnd : BndState} {cat : CatState} {grn : GrnState}
  {swc : SwcState} {tfc : TfcState} {prt : PrtState} {ll : LlState} {qmg : QmgState} {dmv : DmvState} {lib : LibState}

/-- A change of other fields. -/
theorem SameTime.fields (h : SameTime s₀ s) :
    SameTime s₀
      { s with regs, ces, out, free, fatal, hbm, ret, lat, sup, flt, i3c, spw, arc, bnd, cat, grn, swc, tfc, prt, ll, qmg, dmv, lib } :=
  h

end

theorem SameTime.set {f : Fld} {i v : Nat} (h : SameTime s₀ s) : SameTime s₀ (s.set f i v) := h.fields
theorem SameTime.emit {m : Msg} (h : SameTime s₀ s) : SameTime s₀ (s.emit m) := h.fields
theorem SameTime.sw {f : SwcState → SwcState} (h : SameTime s₀ s) : SameTime s₀ (s.sw f) := h.fields

theorem SameTime.ite {c : Prop} [Decidable c] {a b : State} (ha : SameTime s₀ a) (hb : SameTime s₀ b) :
    SameTime s₀ (if c then a else b) := by
  split
  · exact ha
  · exact hb

theorem SameTime.foldl {β : Type} {l : List β} {f : State → β → State} (h : SameTime s₀ s)
    (hf : ∀ {u b}, SameTime s₀ u → SameTime s₀ (f u b)) : SameTime s₀ (l.foldl f s) := by
  induction l generalizing s with
  | nil => exact h
  | cons b l ih => exact ih (hf h)

/-- The same of a function that answers a state with another value, in its state. -/
def SameTimeFst {α : Type} (s₀ : State) (x : State × α) : Prop := SameTime s₀ x.1

section
variable {α : Type} {a : α} {x y : State × α}

theorem SameTimeFst.pair (h : SameTime s₀ s) : SameTimeFst s₀ (s, a) := h
theorem SameTimeFst.fst (h : SameTimeFst s₀ x) : SameTime s₀ x.1 := h

theorem SameTimeFst.of (h : SameTimeFst s₀ x) (e : x = (t, a)) : SameTime s₀ t := by
  rw [e] at h
  exact h

theorem SameTimeFst.ite {c : Prop} [Decidable c] (hx : SameTimeFst s₀ x) (hy : SameTimeFst s₀ y) :
    SameTimeFst s₀ (if c then x else y) := by
  split
  · exact hx
  · exact hy

theorem SameTimeFst.foldl {β : Type} {l : List β} {f : State × α → β → State × α} (h : SameTimeFst s₀ x)
    (hf : ∀ {u b}, SameTimeFst s₀ u → SameTimeFst s₀ (f u b)) : SameTimeFst s₀ (l.foldl f x) := by
  induction l generalizing x with
  | nil => exact h
  | cons b l ih => exact ih (hf h)

end

/-! Counting and recording. -/

theorem SameTime.noted (h : SameTime s₀ s) (g : Noted s t) : SameTime s₀ t :=
  (congrArg (fun x : State => x.time) g.unnoted :).trans h

theorem SameTime.count {r e qual k : Nat} (h : SameTime s₀ s) : SameTime s₀ (s.count r e qual k) :=
  h.noted (.count ..)

theorem SameTime.countPort {p c k : Nat} (h : SameTime s₀ s) : SameTime s₀ (s.countPort p c k) :=
  h.noted (.countPort ..)

theorem SameTime.record {o : Occ} (h : SameTime s₀ s) : SameTime s₀ (s.record o) :=
  (congrArg (fun x : State => x.time) (Reports.record s o).quiet :).trans h

/-! Queues and their rings. -/

theorem SameTime.setCtx {q : Nat} {c : BitVec 512} (h : SameTime s₀ s) : SameTime s₀ (s.setCtx q c) :=
  h.fields

theorem SameTime.writeHbm {key : Nat} {bs : List Byte} (h : SameTime s₀ s) : SameTime s₀ (s.writeHbm key bs) :=
  h.fields.count

theorem SameTime.ownerIrq {q : Nat} {c : BitVec 512} (h : SameTime s₀ s) : SameTime s₀ (s.ownerIrq q c) :=
  .ite h.emit (.ite h.emit h.emit)

theorem SameTime.indexWord {q : Nat} {c : BitVec 512} (h : SameTime s₀ s) : SameTime s₀ (s.indexWord q c) :=
  h.emit.fields

theorem SameTime.indexDue {q : Nat} {c : BitVec 512} (h : SameTime s₀ s) : SameTime s₀ (s.indexDue q c) :=
  .ite h.fields h

theorem SameTime.ringPut {q : Nat} {c : BitVec 512} {data : List Byte} (h : SameTime s₀ s) : SameTime s₀ (s.ringPut q c data) := by
  unfold State.ringPut
  extract_lets off body c1 s1 c2 s2
  have g : SameTime s₀ s1 := .ite h.writeHbm h.emit
  exact .ite (.ownerIrq (.ite g.setCtx.indexWord g.setCtx)) g.setCtx.indexDue

theorem SameTime.ringWrite {q : Nat} {data : List Byte} (h : SameTime s₀ s) : SameTimeFst s₀ (s.ringWrite q data) :=
  .ite (.pair h.ringPut) (.pair h.setCtx)

theorem SameTime.noticeStore {q i : Nat} {c : BitVec 512} {data : List Byte} (h : SameTime s₀ s) :
    SameTime s₀ (s.noticeStore q c i data) :=
  h.writeHbm.fields

theorem SameTime.noticeWrite {q : Nat} {data : List Byte} (h : SameTime s₀ s) : SameTimeFst s₀ (s.noticeWrite q data) := by
  unfold State.noticeWrite
  extract_lets c occ0 full cons c1 skip c2 c3 s1 s2 c4 s3 level
  have g : SameTime s₀ s3 := .setCtx (.ite h.noticeStore.set.set h.noticeStore)
  exact .ite (.pair h) (.pair (.ite g.ownerIrq g))

theorem SameTime.qmgCapture {r q cause : Nat} (h : SameTime s₀ s) : SameTime s₀ (s.qmgCapture r q cause) :=
  .ite h (.ite h.set h.set.set.set.set)

theorem SameTime.produce {q : Nat} {data : List Byte} (h : SameTime s₀ s) : SameTimeFst s₀ (s.produce q data) := by
  unfold State.produce
  refine .ite h.noticeWrite (.ite ?_ (.pair h))
  split
  next s1 ok e =>
  have g : SameTime s₀ s1 := h.ringWrite.of e
  exact .ite (.pair g) (.pair g.qmgCapture.record)

/-! Cells and the samples of them. -/

theorem SameTime.takeTokens {n : Nat} (h : SameTime s₀ s) : SameTime s₀ (s.takeTokens n) :=
  h.fields

theorem SameTime.chaff {n : Nat} (h : SameTime s₀ s) : SameTime s₀ (s.chaff n) :=
  h.set.count

theorem SameTime.dropCell {c : Cell} (h : SameTime s₀ s) : SameTime s₀ (s.dropCell c) :=
  .ite h.set.set h.set

theorem SameTime.mergePut {input : Nat} {c : Cell} (h : SameTime s₀ s) : SameTime s₀ (s.mergePut input c) :=
  .sw (.ite h.fields.fields.emit h)

theorem SameTime.sampleLost {n : Nat} (h : SameTime s₀ s) : SameTime s₀ (s.sampleLost n) :=
  h.set.sw

theorem SameTime.sampleWrite {n q : Nat} {capture : Bool} {data : List Byte} (h : SameTime s₀ s) :
    SameTime s₀ (s.sampleWrite n q capture data) := by
  unfold State.sampleWrite
  extract_lets lost
  split
  next s1 ok e =>
  have g : SameTime s₀ s1 := h.fields.produce.of e
  exact .ite g (.ite g.set.sw g.sampleLost)

theorem SameTime.toMerge {input : Nat} {c : Cell} (h : SameTime s₀ s) : SameTime s₀ (s.toMerge input c) := by
  unfold State.toMerge
  split
  · exact .ite h.sampleWrite h.set.count.fields
  · exact .ite h.mergePut h.dropCell

theorem SameTime.sampleSend {r n q : Nat} {capture : Bool} {data : List Byte} (h : SameTime s₀ s) :
    SameTime s₀ (s.sampleSend r n q capture data) :=
  .ite h.toMerge h.sw

theorem SameTime.sampleOut {n : Nat} {data : List Byte} (h : SameTime s₀ s) : SameTime s₀ (s.sampleOut n data) :=
  .ite h.sampleSend.sampleSend h.sampleSend

theorem SameTime.gleanCell {n p seq : Nat} {c : Cell} {hbm : Bool} (h : SameTime s₀ s) :
    SameTime s₀ (s.gleanCell n p c hbm seq) := by
  unfold State.gleanCell
  extract_lets total s1 data
  have g : SameTime s₀ s1 := h.sw
  refine .ite g.sampleLost ?_
  split
  · exact .ite g.takeTokens.sampleOut g.chaff.sampleLost
  · exact g.sampleOut

theorem SameTime.glean {p seq : Nat} {c : Cell} {hbm : Bool} (h : SameTime s₀ s) : SameTime s₀ (s.glean p c hbm seq) :=
  h.foldl fun g => .ite (.ite g.sw.gleanCell g.sw) g

/-! Admission. -/

theorem SameTime.markDelay {c : Cell} (h : SameTime s₀ s) : SameTimeFst s₀ (s.markDelay c) :=
  .ite (.ite (.pair h.fields) (.pair h.fields)) (.pair h)

theorem SameTime.voqPut {p : Nat} {c : Cell} (h : SameTime s₀ s) : SameTime s₀ (s.voqPut p c) := by
  unfold State.voqPut
  exact h.set.set.sw

theorem SameTime.ovfPut {p : Nat} {c0 : Cell} (h : SameTime s₀ s) : SameTime s₀ (s.ovfPut p c0) := by
  unfold State.ovfPut
  exact (SameTime.ite h.set.count.set h.set.count).writeHbm.sw

theorem SameTime.voqAdmit {p : Nat} {c : Cell} (h : SameTime s₀ s) (e : s.voqAdmit p c = some t) : SameTime s₀ t := by
  unfold State.voqAdmit at e
  simp only at e
  split at e
  · cases e
    exact h.dropCell
  · split at e
    · cases e
    · cases e
      exact .glean (.ite h.markDelay.fst.countPort.countPort.voqPut h.markDelay.fst.countPort.countPort.ovfPut)

theorem SameTime.creditBack {p : Nat} {need : List Nat} (h : SameTime s₀ s) : SameTime s₀ (s.creditBack p need) :=
  .ite (h.foldl fun g => g.fields) h

theorem SameTime.admitHeld {p : Nat} (h : SameTime s₀ s) : SameTime s₀ (s.admitHeld p) := by
  unfold State.admitHeld
  refine .sw (SameTimeFst.fst (.foldl (.pair h) (fun g => .ite (.pair g.fst) ?_)))
  split
  · exact .pair (.creditBack (.voqAdmit g.fst ‹_›))
  · exact .pair g.fst

/-! An output or an input that is emptied (R192, R447). -/

theorem SameTime.emptyInput {p : Nat} (h : SameTime s₀ s) : SameTime s₀ (s.emptyInput p) := by
  unfold State.emptyInput
  extract_lets s1
  have g : SameTime s₀ s1 := h.set.foldl fun g => g.set
  exact g.sw

theorem SameTime.exitIfDone {a b : Nat} (h : SameTime s₀ s) : SameTime s₀ (s.exitIfDone a b) :=
  .ite (h.set.foldl fun g => g.set) h

theorem SameTime.dropOutput {p : Nat} (h : SameTime s₀ s) : SameTime s₀ (s.dropOutput p) := by
  unfold State.dropOutput
  extract_lets here voqs ovfs merged windowed mine staged n rsp s1 s2 drop some_ backs s3 s4 s5 s6 s7
  have g1 : SameTime s₀ s1 := h.foldl fun g => g.set
  have g3 : SameTime s₀ s3 := (g1.foldl fun g => g.set).set.sw
  have g4 : SameTime s₀ s4 := g3.foldl .creditBack
  have g5 : SameTime s₀ s5 := .ite g4.set g4
  have g7 : SameTime s₀ s7 := (g5.foldl fun g => g.sw).foldl .exitIfDone
  exact g7.set.foldl .admitHeld

/-! The port goes down (R249, R359, R127). -/

theorem SameTime.postEvent {n bit : Nat} (h : SameTime s₀ s) : SameTime s₀ (s.postEvent n bit) :=
  .ite h (.ite h.set.record h.set)

theorem SameTime.postHosted {n bit : Nat} {args : List Nat} (h : SameTime s₀ s) : SameTimeFst s₀ (s.postHosted n bit args) := by
  unfold State.postHosted State.showEvents State.setTiller
  exact .ite (.pair h) (.ite (.pair h) (.pair h.fields.set))

theorem SameTime.hostedNote {r bit : Nat} {args : List Nat} (h : SameTime s₀ s) : SameTime s₀ (s.hostedNote r bit args) := by
  unfold State.hostedNote
  refine .ite ?_ h
  split
  · exact h.postHosted.fst
  · exact h

theorem SameTime.portEvent {p bit : Nat} (h : SameTime s₀ s) : SameTime s₀ (s.portEvent p bit) :=
  .ite (.hostedNote (.noted h.postEvent.set (.ibiPend ..))) h.postEvent

theorem SameTime.lossOf_up {p : Nat} (h : SameTime s₀ s) (hp : s.role p = 1) : SameTime s₀ (s.lossOf p) := by
  unfold State.lossOf
  rw [if_pos hp]
  exact h.foldl fun g => .ite g g.fields

/-- The containment of an UP port in L0 leaves fabric time as it is. -/
theorem SameTime.portContained_up {p : Nat} (h : SameTime s₀ s) (hrole : s.role p = 1) (hstate : s.get PRT_PORT_STS.STATE p = 4)
    (hgang : s.flag PRT_PORT_STS.GANGED p = false) : SameTime s₀ (s.portContained p) := by
  rw [State.portContained_up hrole hstate hgang]
  have hclear : SameTime s₀ (s.linkCleared p 1) := (congrArg (fun u : State => u.time) (s.linkCleared_others p 1) :).trans h
  have hlost : SameTime s₀ (s.outputLost p) := hclear.portEvent.set.dropOutput
  exact (hlost.lossOf_up (State.role_outputLost hrole)).emptyInput

end Sys2Proof.Machine
end

section
/-! SUPPORT. Fabric time's sources (R231–R233, R239), and the theorem that settles O27. -/
namespace Sys2Proof.Machine
open Sys2Proof

/-! Every region's copy set. -/

theorem State.timeOf_setTime (s : State) (v : Nat) {r : Nat} (hr : r < 4) : (s.setTime v).timeOf r = v := by
  simp only [State.timeOf, State.setTime, List.foldl_cons, List.foldl_nil, if_pos hr]
  have hr' : r = 0 ∨ r = 1 ∨ r = 2 ∨ r = 3 := by omega
  rcases hr' with rfl | rfl | rfl | rfl
  · simp [Tab.get_put_ne]
  · simp [Tab.get_put_ne]
  · simp [Tab.get_put_ne]
  · simp

/-- A report and a set time differ from the state before in the time alone, beside what a report changes. -/
theorem State.quiet_of_setTime {s t : State} (v : Nat) (h : t.quiet = s.quiet) :
    { (t.setTime v).quiet with time := s.time } = s.quiet := by
  have htime : { (t.setTime v).quiet with time := s.time } = { t.quiet with time := s.time } := rfl
  rw [htime, h]
  rfl

/-! Results (R231, R232). -/

/-- A count that was added to, up to its saturation. -/
theorem State.get_bump_same (s : State) {f : Fld} (i n : Nat) (h : f.lo + f.w ≤ 32) :
    (s.bump f i n).get f i = satAdd f.w (s.get f i) n := by
  have hlt : satAdd f.w (s.get f i) n < 2 ^ f.w := by
    have hpos := Nat.two_pow_pos f.w
    unfold satAdd
    omega
  rw [State.bump, s.get_set_same _ _ h, Nat.mod_eq_of_lt hlt]

/-- A field outside a note's registers. -/
theorem Noted.get {s t : State} {f : Fld} {i : Nat} (h : Noted s t) (hf : f.reg ∉ noteRegs) : t.get f i = s.get f i :=
  congrArg (fun w => bits w f.lo f.w) (h.word _ _ hf)

/-- TFC_TIME_STS with a result's offset shown: locked, and no longer in holdover. -/
def State.timeShown (s : State) (offset : Int) : State :=
  ((s.set TFC_TIME_STS.OFFSET 0 (ofSigned 16 (max (-32767) (min 32767 offset)))).set TFC_TIME_STS.LOCKED 0 1).set
    TFC_TIME_STS.HOLDOVER 0 0

/-- Every region's time stepped to v, and the step counted. -/
def State.timeStepped (s : State) (v : Nat) : State :=
  let s1 := (s.setTime v).bump TFC_TIME_STS.STEPS 0 1
  { s1 with tfc := { s1.tfc with first := true, slew := 0, lastAt := v } }

/-- An offset shown, and left to be removed by rate. -/
def State.timeSlewed (s : State) (offset : Int) : State :=
  { s.timeShown offset with tfc := { s.tfc with slew := offset, lastAt := s.timeOf 0 } }

section
variable (s : State) (offset : Int)

theorem State.timeShown_wordsKept : wordsKept s (s.timeShown offset) [.TFC_TIME_STS] :=
  (((wordsKept.refl s _).set (by decide)).set (by decide)).set (by decide)

theorem State.timeShown_get_locked : (s.timeShown offset).get TFC_TIME_STS.LOCKED 0 = 1 := by
  rw [State.timeShown, State.get_set_apart _ _ (by decide)]
  exact State.get_set_same _ _ _ (by decide)

theorem State.timeShown_get_holdover : (s.timeShown offset).get TFC_TIME_STS.HOLDOVER 0 = 0 :=
  State.get_set_same _ _ _ (by decide)

theorem State.timeShown_get_steps : (s.timeShown offset).get TFC_TIME_STS.STEPS 0 = s.get TFC_TIME_STS.STEPS 0 := by
  rw [State.timeShown, State.get_set_apart _ _ (by decide), State.get_set_apart _ _ (by decide), State.get_set_apart _ _ (by decide)]

theorem State.timeShown_get_stepNs : (s.timeShown offset).get TFC_TIME_CTL.STEP_NS 0 = s.get TFC_TIME_CTL.STEP_NS 0 :=
  congrArg (fun w => bits w _ _) (s.timeShown_wordsKept offset .TFC_TIME_CTL 0 (by decide))

theorem State.timeStepped_get_steps (v : Nat) :
    (s.timeStepped v).get TFC_TIME_STS.STEPS 0 = satAdd TFC_TIME_STS.STEPS.w (s.get TFC_TIME_STS.STEPS 0) 1 :=
  (s.setTime v).get_bump_same 0 1 (by decide)

theorem State.timeStepped_get_apart {f : Fld} (v : Nat) (h : TFC_TIME_STS.STEPS.apart f = true) :
    (s.timeStepped v).get f 0 = s.get f 0 :=
  (s.setTime v).get_set_apart _ h

theorem State.timeSlewed_word (r : Reg) (i : Nat) : (s.timeSlewed offset).word r i = (s.timeShown offset).word r i := rfl

theorem State.timeSlewed_get (f : Fld) (i : Nat) : (s.timeSlewed offset).get f i = (s.timeShown offset).get f i := rfl

/-- A result shows its offset, and then is one step or is left to be removed by rate. -/
theorem State.timeResult_eq :
    s.timeResult offset =
      if !s.tfc.first || offset.natAbs > s.get TFC_TIME_CTL.STEP_NS 0 then
        let s1 := (s.timeShown offset).timeStepped ((((s.timeOf 0 : Nat) : Int) + offset) % (2 ^ 64 : Int)).toNat
        s1.archive 4 0x319 0 0 (ofSigned 64 offset) (s1.get TFC_TIME_CTL.SRC 0)
      else s.timeSlewed offset := by
  rw [← s.timeShown_get_stepNs offset]
  rfl

/-- A first or a large offset is one step, which the Archive notes. -/
theorem State.timeResult_step (h : s.tfc.first = false ∨ s.get TFC_TIME_CTL.STEP_NS 0 < offset.natAbs) :
    Noted ((s.timeShown offset).timeStepped ((((s.timeOf 0 : Nat) : Int) + offset) % (2 ^ 64 : Int)).toNat)
      (s.timeResult offset) := by
  rw [s.timeResult_eq, if_pos (by simpa using h)]
  exact Noted.archive ..

/-- A later offset within STEP_NS is left to be removed by rate. -/
theorem State.timeResult_slew (hf : s.tfc.first = true) (h : offset.natAbs ≤ s.get TFC_TIME_CTL.STEP_NS 0) :
    s.timeResult offset = s.timeSlewed offset := by
  rw [s.timeResult_eq, if_neg (by simp [hf, h])]

end

/-! Requests, holdover and skew (R232, R233, R239). -/

section
variable {s : State}

theorem ptmRequest_manager {p : Nat} (hp : s.managerPort = some p) :
    ptmRequest s = if s.get TFC_TIME_CTL.SRC 0 = 1 ∧ s.get PRT_PORT_STS.STATE p = 4 then s.emit (.timeRequest p) else s := by
  simp [ptmRequest, hp, State.inL0]

theorem ptmRequest_none (hp : s.managerPort = none) : ptmRequest s = s := by
  simp [ptmRequest, hp]

/-- The words of TFC_TIME_STS in holdover. -/
def State.heldOver (s : State) : State := (s.set TFC_TIME_STS.HOLDOVER 0 1).set TFC_TIME_STS.LOCKED 0 0

theorem holdoverEntry_enters (hsrc : s.get TFC_TIME_CTL.SRC 0 ≠ 0) (hh : s.flag TFC_TIME_STS.HOLDOVER 0 = false) :
    holdoverEntry s = s.heldOver.noted (blockOcc setTfc4 4) :=
  (if_neg (by simp [hsrc, hh])).trans (State.record_of_mild _ _ (by decide))

theorem holdoverEntry_idle (h : s.get TFC_TIME_CTL.SRC 0 = 0 ∨ s.flag TFC_TIME_STS.HOLDOVER 0 = true) : holdoverEntry s = s :=
  if_pos (by simpa using h)

/-- The chip's own sets record whatever regions are isolated (R469). -/
theorem setTfc4_records (s : State) : s.windowGone (setUnit setTfc4) = false := rfl

theorem timeRegionSkew_gateless (h : (List.range 64).filter (fun p => s.flag TFC_GATE_CTL.EN p) = []) :
    timeRegionSkew s = (s.record (blockOcc setTfc4 5)).setTime ((s.record (blockOcc setTfc4 5)).timeOf 0) := by
  simp [timeRegionSkew, h]

theorem timeRegionSkew_one {p : Nat} (h : (List.range 64).filter (fun p => s.flag TFC_GATE_CTL.EN p) = [p]) :
    timeRegionSkew s =
      ((s.record (portOcc p setTfc4 5)).portContained p).setTime (((s.record (portOcc p setTfc4 5)).portContained p).timeOf 0) := by
  simp [timeRegionSkew, h]

end

/-! The write of TFC_TIME_CTL (R231, R233). -/

/-- A changed SRC, or a changed ZL_PORT under SRC ZL, makes the next result a first one; s was before the write and st has its fields
stored. -/
def State.sourceChosen (s st : State) : State :=
  if st.get TFC_TIME_CTL.SRC 0 ≠ s.get TFC_TIME_CTL.SRC 0 then
    { st.set TFC_TIME_STS.LOCKED 0 0 with tfc := { s.tfc with first := false } }
  else if st.get TFC_TIME_CTL.SRC 0 = 2 ∧ st.get TFC_TIME_CTL.ZL_PORT 0 ≠ s.get TFC_TIME_CTL.ZL_PORT 0 then
    { st with tfc := { s.tfc with first := false } }
  else st

theorem State.storeFields_tfc (s : State) (r : Reg) (i x : Nat) (v : Word) : (s.storeFields r i v x).tfc = s.tfc := by
  rw [State.storeFields_eq]
  dsimp only
  split
  · rfl
  · rfl

theorem writePath_timeCtl (p : Path) (i x : Nat) (v : Word) {s st : State} (h : st.tfc = s.tfc) :
    writePath p .TFC_TIME_CTL i v x s st = s.sourceChosen st := by
  unfold State.sourceChosen
  rw [← h]
  by_cases hsrc : st.get TFC_TIME_CTL.SRC 0 = s.get TFC_TIME_CTL.SRC 0
  · by_cases hport : st.get TFC_TIME_CTL.SRC 0 = 2 ∧ st.get TFC_TIME_CTL.ZL_PORT 0 ≠ s.get TFC_TIME_CTL.ZL_PORT 0
    · simp [writePath, ← hsrc, hport]
    · have hother : (st.get TFC_TIME_CTL.SRC 0 = 2 && st.get TFC_TIME_CTL.ZL_PORT 0 != s.get TFC_TIME_CTL.ZL_PORT 0) = false := by
        simpa using hport
      simp [writePath, ← hsrc, hport, hother]
  · simp [writePath, hsrc]

theorem exec_registerWrite_timeCtl {s : State} {p : Path} {a : BitVec 32} {i : Nat} (d : BitVec 64)
    (h : s.writeReaches p a (.reg .TFC_TIME_CTL i)) :
    exec (.registerWrite p a d 4) s = .next (s.sourceChosen (s.stored .TFC_TIME_CTL i d a)) :=
  (exec_registerWrite_of_reaches d h).trans (congrArg Host.Outcome.next
    (writePath_timeCtl p i (regSet s .TFC_TIME_CTL i a.toNat) (d.setWidth 32) (s.storeFields_tfc ..)))

/-- Settles O27, from what a result, a lost source and a skew leave of fabric time. -/
theorem fabricTimeSources : Obligations.FabricTimeSources := by
  unfold Obligations.FabricTimeSources
  refine ⟨fun s p hp => ⟨fun hsrc hl0 => ?_, fun h => ?_⟩, fun s hp => ?_, fun s m hsrc h _ => ?_, fun s m hsrc hf h => ?_,
    fun s m hsrc => ?_, fun s hsrc hh => ?_, fun s h => ?_, fun s h => ?_, fun s p h hrole hstate hgang => ?_,
    fun s p a d i h _ => exec_registerWrite_timeCtl d h⟩
  · exact congrArg Host.Outcome.next ((ptmRequest_manager hp).trans (if_pos ⟨hsrc, hl0⟩))
  · exact congrArg Host.Outcome.next ((ptmRequest_manager hp).trans (if_neg fun hb => h.elim (· hb.1) (· hb.2)))
  · exact congrArg Host.Outcome.next (ptmRequest_none hp)
  · have hnow : ((((s.timeOf 0 : Nat) : Int) + ((m.toNat : Int) - (s.timeOf 0 : Nat))) % (2 ^ 64 : Int)).toNat = m.toNat := by
      have hlt := m.isLt
      omega
    have hn := s.timeResult_step _ h
    rw [hnow] at hn
    refine ⟨_, congrArg Host.Outcome.next (if_pos hsrc), fun r hr => ?_, ?_, ?_, ?_, ?_, ?_⟩
    · rw [((SameTime.refl _).noted hn).timeOf]
      exact State.timeOf_setTime _ _ hr
    · rw [hn.get (by decide), State.timeStepped_get_apart _ _ (by decide), State.timeShown_get_locked]
    · rw [hn.get (by decide), State.timeStepped_get_apart _ _ (by decide), State.timeShown_get_holdover]
    · rw [hn.get (by decide), State.timeStepped_get_steps, State.timeShown_get_steps]
    · exact (congrArg (fun u : State => u.tfc.first) hn.unnoted :)
    · exact (congrArg (fun u : State => u.tfc.slew) hn.unnoted :)
  · have ht := (if_pos hsrc : ptmResult m s = _).trans (s.timeResult_slew _ hf h)
    refine ⟨_, congrArg Host.Outcome.next ht, rfl, rfl, ?_, ?_, fun r i hr => ?_, rfl⟩
    · rw [State.timeSlewed_get, State.timeShown_get_locked]
    · rw [State.timeSlewed_get, State.timeShown_get_steps]
    · rw [State.timeSlewed_word, s.timeShown_wordsKept _ r i hr]
  · exact congrArg Host.Outcome.next (if_neg hsrc)
  · have hn := Noted.noted s.heldOver (blockOcc setTfc4 4)
    refine ⟨_, congrArg Host.Outcome.next (holdoverEntry_enters hsrc hh), ?_, ?_,
      State.noted_stsBit _ _ (by decide) (setTfc4_records _), ?_, ?_⟩
    · rw [hn.get (by decide), State.heldOver, State.get_set_apart _ _ (by decide)]
      exact s.get_set_same _ _ (by decide)
    · rw [hn.get (by decide)]
      exact State.get_set_same _ _ _ (by decide)
    · exact (congrArg (fun u : State => u.time) hn.unnoted :)
    · exact (congrArg (fun u : State => u.tfc) hn.unnoted :)
  · exact congrArg Host.Outcome.next (holdoverEntry_idle h)
  · have hr := Reports.record s (blockOcc setTfc4 5)
    refine ⟨_, congrArg Host.Outcome.next (timeRegionSkew_gateless h), fun r hr4 => ?_, ?_, ?_⟩
    · rw [State.timeOf_setTime _ _ hr4]
      exact (SameTime.refl s).record.timeOf 0
    · exact State.record_stsBit s _ (by decide) (setTfc4_records s)
    · exact State.quiet_of_setTime _ hr.quiet
  · have hcls : classOf setTfc4 5 = 2 := by decide
    obtain ⟨hrole', hstate', hgang'⟩ := State.record_up hrole hstate hgang hcls
    obtain ⟨hdown, hsts⟩ := State.record_portContained hrole hstate hgang hcls (setTfc4_records s) (by decide)
    refine ⟨_, congrArg Host.Outcome.next (timeRegionSkew_one h), fun r hr4 => ?_, hsts, hdown.state⟩
    rw [State.timeOf_setTime _ _ hr4]
    exact ((SameTime.refl s).record.portContained_up hrole' hstate' hgang').timeOf 0

end Sys2Proof.Machine
end

section
/-! SUPPORT. The theorem that refutes O29. -/
namespace Sys2Proof.Machine
open Sys2Proof

/-- Port 30 is a ZL port that trains; its link may run at 64 GT/s, and its FLIT68_EN is 0. -/
def zlTrains : State :=
  ((({ State.reset with boot := { early := true, image := [(960, 3)] } }.set PRT_PORT_STS.STATE 30 2).set PRT_PORT_EVT.CAP 30 5).set
    LNK_CTL.FLIT68_EN 30 0)

/-- A LINK_UP that gives the 68-byte flit leaves it training, though a Zwius link carries no flits. -/
theorem linkUp_zlTrains : linkUp 30 5 8 2 2 false false zlTrains = zlTrains := by
  decide +kernel

/-- Refutes O29: LINK_UP of a ZL port at 64 GT/s does not bring the link to L0 where the operand names the 68-byte flit and FLIT68_EN of
the port is 0, which no hypothesis excludes. -/
theorem not_portBringUp : ¬ Obligations.PortBringUp := by
  unfold Obligations.PortBringUp
  rintro ⟨-, -, -, -, -, hzl, -⟩
  obtain ⟨t, ht, hstate, -⟩ := hzl zlTrains 30 5 8 2 false false (by decide +kernel) (by decide +kernel) (by decide +kernel)
    (by decide +kernel) (by decide +kernel) (by decide +kernel) rfl (by decide +kernel)
  have htrains : t.get PRT_PORT_STS.STATE (30 : Port) = 2 := by
    rw [← Host.Outcome.next.inj ht, linkUp_zlTrains]
    decide +kernel
  exact absurd (htrains.symm.trans hstate) (by decide)

end Sys2Proof.Machine
end

section
/-! SUPPORT. A port's events and the errors that are only corrected, as they change the registers: nothing but the counts of reports and the
tiller's pending events (R249, R359, R460). -/
namespace Sys2Proof.Machine
open Sys2Proof

/-! The error set of a port. -/

theorem setUnit_prtSet (p : Port) : setUnit (prtSet p) = p / 16 := by
  revert p
  decide

/-- Lane faults, a bad spare and training failures are corrected (R260). -/
theorem classOf_prt_mild (p : Port) {bit : Nat} (hb : bit < 3) : classOf (prtSet p) bit < 2 := by
  have hcls : ∀ q : Port, ∀ b < 3, classOf (prtSet q) b < 2 := by decide
  exact hcls p bit hb

/-- An error of a port sets its bit where the port's region still records (R460, R544). -/
theorem State.record_prt_stsBit (s : State) (p : Port) {bit : Nat} (hb : bit < 32) (hrgn : s.rgn (p / 16) ≠ 2) :
    (s.record (portOcc p (prtSet p) bit)).stsBit (prtSet p) bit := by
  refine s.record_stsBit (portOcc p (prtSet p) bit) hb (State.windowGone_of_rgn ?_)
  rwa [show setUnit (portOcc p (prtSet p) bit).set = p / 16 from setUnit_prtSet p]

/-! Events. -/

/-- The registers that a note, or an event of a port other than LINK_UP and LINK_DOWN, may write. -/
def eventRegs : List Reg := .TIL_EVT :: noteRegs

/-- A change that notes and such events make: no bit of STS is lost by it. -/
structure Posted (s t : State) : Prop where
  quiet : t.quiet = s.quiet
  word : ∀ r i, r ∉ eventRegs → t.word r i = s.word r i
  sts : ∀ x e, s.stsBit x e → t.stsBit x e

theorem Posted.refl (s : State) : Posted s s := ⟨rfl, fun _ _ _ => rfl, fun _ _ h => h⟩

section
variable {s t u : State}

theorem Posted.trans (h : Posted s t) (g : Posted t u) : Posted s u where
  quiet := g.quiet.trans h.quiet
  word r i hr := (g.word r i hr).trans (h.word r i hr)
  sts x e hs := g.sts x e (h.sts x e hs)

theorem Posted.get (h : Posted s t) {f : Fld} {i : Nat} (hf : f.reg ∉ eventRegs) : t.get f i = s.get f i :=
  congrArg (fun w => bits w f.lo f.w) (h.word _ _ hf)

theorem Posted.prt (h : Posted s t) : t.prt = s.prt := (congrArg (fun x : State => x.prt) h.quiet :)

theorem Noted.posted (h : Noted s t) : Posted s t where
  quiet := (congrArg State.quiet h.unnoted :)
  word r i hr := h.word r i fun hm => hr (List.mem_cons_of_mem _ hm)
  sts := h.sts

/-- An occurrence that is only corrected or deferred. -/
theorem Posted.record (s : State) {o : Occ} (ho : o.cls < 2) : Posted s (s.record o) := by
  rw [s.record_of_mild o ho]
  exact (Noted.noted s o).posted

theorem Posted.set (s : State) (f : Fld) (i v : Nat) (h : f.reg = .TIL_EVT) : Posted s (s.set f i v) where
  quiet := rfl
  word r j hr := s.word_set_reg v (by
    rintro rfl
    exact hr (h ▸ List.mem_cons_self))
  sts _ _ := id

theorem Posted.postEvent (s : State) (n bit : Nat) : Posted s (s.postEvent n bit) := by
  unfold State.postEvent
  split
  · exact .refl s
  · split
    · exact (Posted.set s TIL_EVT.LOST n _ rfl).trans (.record _ (tilLost_mild n))
    · exact .set s TIL_EVT.PENDING n _ rfl

theorem Posted.portEvent (s : State) (p : Nat) {bit : Nat} (h : 2 ≤ bit) : Posted s (s.portEvent p bit) := by
  unfold State.portEvent
  rw [if_neg (by omega)]
  exact .postEvent ..

end

/-- A port's bit of PRT_PORT_EVT stands once it is posted (R261). -/
theorem State.portEvt_testBit (s : State) (p : Nat) {bit : Nat} (h : bit < 8) :
    ((s.portEvt p bit).get PRT_PORT_EVT.EVENTS p).testBit bit = true := by
  rw [State.portEvt, s.testBit_setBits _ _ _ (by decide), Nat.testBit_two_pow_self]
  simp [h]

end Sys2Proof.Machine
end

section
/-! SUPPORT. Lanes in service (R248, R253–R256, R297), and the theorem that settles O30. -/
namespace Sys2Proof.Machine
open Sys2Proof

/-! Widths. -/

/-- What a lane may do, and the width without excluded lanes, are read from two words of the port (R254, R255). -/
theorem widthFree_of_words {s t : State} {p : Nat} (hctl : t.word .PRT_PORT_CTL p = s.word .PRT_PORT_CTL p)
    (hsts : t.word .PRT_PORT_STS p = s.word .PRT_PORT_STS p) : widthFree t p = widthFree s p := by
  have hoffer : laneOffered t p = laneOffered s p := by
    funext k
    simp only [laneOffered, State.get, hctl, hsts]
  simp only [widthFree, hoffer, State.flag, State.get, hsts]

/-- Of a port that is not ZL only the lanes of the width are in service (R244). -/
theorem laneInService_lt {s : State} {p k : Nat} (h : laneInService s p k = true) (hrole : s.role p ≠ 3) : k < 8 := by
  unfold laneInService at h
  split at h
  · simp [hrole] at h
  · simp only [Bool.and_eq_true, List.contains_iff_mem, lanesUsed, List.mem_map, List.mem_range] at h
    obtain ⟨-, j, hj, rfl⟩ := h
    split
    · omega
    · omega

theorem laneInService_link {s : State} {p k : Nat} (h : laneInService s p k = true) : s.get PRT_PORT_STS.STATE p = 4 := by
  simp only [laneInService, Bool.and_eq_true, beq_iff_eq] at h
  exact h.1

/-! A lane that lost CDR lock (R253). -/

/-- The word with bits set depends on the word alone. -/
theorem State.word_setBits_congr {s t : State} (f : Fld) (i m : Nat) (h : t.word f.reg i = s.word f.reg i) :
    (t.setBits f i m).word f.reg i = (s.setBits f i m).word f.reg i := by
  simp only [State.setBits, State.set, State.get, State.word_setWord_same, h]

/-- Lane k of port p without CDR lock, excluded, and with its fault counted. -/
def laneMarked (s : State) (p k : Nat) : State :=
  ((((s.set PRT_LANE_STS.CDR_LOCK (laneOf p k) 0).setBits PRT_PORT_STS.FAULTED p (2 ^ k)).bump PRT_LANE_STS.FAULTS (laneOf p k) 1).set
    PRT_LANE_STS.FAULT (laneOf p k) 1)

/-- The same, with the fault recorded and posted. -/
def laneLost (s : State) (p k : Nat) : State :=
  (((laneMarked s p k).record (portOcc p (prtSet p) 0)).portEvent p 3).portEvt p 4

theorem laneOut_eq_laneLost (s : State) {p k : Nat} (hk : k < 8) :
    laneOut (s.set PRT_LANE_STS.CDR_LOCK (laneOf p k) 0) p k = laneLost s p k := by
  simp only [laneOut, hk, if_true]
  rfl

theorem laneMarked_posted (s : State) (p : Port) (k : Nat) :
    Posted (laneMarked s p k) (((laneMarked s p k).record (portOcc p (prtSet p) 0)).portEvent p 3) :=
  (Posted.record _ (classOf_prt_mild p (show 0 < 3 by decide))).trans (.portEvent _ _ (by decide))

/-- What is shown of a lane of port p that lost CDR lock since s. -/
structure LaneFaulted (s t : State) (p : Port) (k : Nat) : Prop where
  fault : t.get PRT_LANE_STS.FAULT (laneOf p k) = 1
  faults : t.get PRT_LANE_STS.FAULTS (laneOf p k) = satAdd PRT_LANE_STS.FAULTS.w (s.get PRT_LANE_STS.FAULTS (laneOf p k)) 1
  cdr : t.get PRT_LANE_STS.CDR_LOCK (laneOf p k) = 0
  sts : t.stsBit (prtSet p) 0
  event : (t.get PRT_PORT_EVT.EVENTS p).testBit 4 = true

section
variable (s : State) (p : Port) (k : Nat)

theorem laneMarked_fault : (laneMarked s p k).get PRT_LANE_STS.FAULT (laneOf p k) = 1 :=
  State.get_set_same _ _ _ (by decide)

theorem laneMarked_faults : (laneMarked s p k).get PRT_LANE_STS.FAULTS (laneOf p k) =
    satAdd PRT_LANE_STS.FAULTS.w (s.get PRT_LANE_STS.FAULTS (laneOf p k)) 1 := by
  unfold laneMarked
  rw [State.get_set_apart _ _ (by decide), State.get_bump_same _ _ _ (by decide), State.setBits, State.get_set_apart _ _ (by decide),
    State.get_set_apart _ _ (by decide)]

theorem laneMarked_cdr : (laneMarked s p k).get PRT_LANE_STS.CDR_LOCK (laneOf p k) = 0 := by
  unfold laneMarked
  rw [State.get_set_apart _ _ (by decide), State.bump, State.get_set_apart _ _ (by decide), State.setBits,
    State.get_set_apart _ _ (by decide)]
  exact State.get_set_same _ _ _ (by decide)

theorem laneLost_word {r : Reg} (i : Nat) (hr : r ∉ Reg.PRT_PORT_EVT :: eventRegs) :
    (laneLost s p k).word r i = (laneMarked s p k).word r i := by
  rw [List.mem_cons, not_or] at hr
  obtain ⟨hevt, hev⟩ := hr
  exact (State.word_set_reg _ _ hevt).trans ((laneMarked_posted s p k).word r i hev)

theorem laneLost_get {f : Fld} (i : Nat) (hf : f.reg ∉ Reg.PRT_PORT_EVT :: eventRegs) :
    (laneLost s p k).get f i = (laneMarked s p k).get f i :=
  congrArg (fun w => bits w f.lo f.w) (laneLost_word s p k i hf)

theorem laneLost_quiet : (laneLost s p k).quiet = s.quiet := (laneMarked_posted s p k).quiet

theorem laneLost_prt : (laneLost s p k).prt = s.prt := (congrArg (fun x : State => x.prt) (laneLost_quiet s p k) :)

/-- Of the port's own words only FAULTED has changed. -/
theorem laneLost_port : (laneLost s p k).word .PRT_PORT_STS p = (s.setBits PRT_PORT_STS.FAULTED p (2 ^ k)).word .PRT_PORT_STS p := by
  rw [laneLost_word s p k _ (by decide), laneMarked, State.word_set_reg _ _ (by decide), State.bump, State.word_set_reg _ _ (by decide)]
  exact State.word_setBits_congr PRT_PORT_STS.FAULTED p _ (s.word_set_reg _ (by decide))

theorem laneLost_port_get {f : Fld} (hf : f.reg = .PRT_PORT_STS) :
    (laneLost s p k).get f p = (s.setBits PRT_PORT_STS.FAULTED p (2 ^ k)).get f p := by
  simp only [State.get, hf, laneLost_port]

theorem laneLost_state : (laneLost s p k).get PRT_PORT_STS.STATE p = s.get PRT_PORT_STS.STATE p :=
  (laneLost_port_get s p k rfl).trans (s.get_set_apart _ (by decide))

theorem laneLost_widthFree : widthFree (laneLost s p k) p = widthFree (s.setBits PRT_PORT_STS.FAULTED p (2 ^ k)) p := by
  refine widthFree_of_words ?_ (laneLost_port s p k)
  rw [laneLost_word s p k _ (by decide), laneMarked, State.word_set_reg _ _ (by decide), State.bump, State.word_set_reg _ _ (by decide),
    State.setBits, State.word_set_reg _ _ (by decide), State.word_set_reg _ _ (by decide), State.setBits, State.word_set_reg _ _ (by decide)]

theorem laneLost_excluded (hk : k < 8) : ((laneLost s p k).get PRT_PORT_STS.FAULTED p).testBit k = true := by
  rw [laneLost_port_get s p k rfl, s.testBit_setBits _ _ _ (by decide), Nat.testBit_two_pow_self]
  simp [hk]

theorem laneLost_faulted (hrgn : s.rgn (p / 16) ≠ 2) : LaneFaulted s (laneLost s p k) p k where
  fault := (laneLost_get s p k _ (by decide)).trans (laneMarked_fault s p k)
  faults := (laneLost_get s p k _ (by decide)).trans (laneMarked_faults s p k)
  cdr := (laneLost_get s p k _ (by decide)).trans (laneMarked_cdr s p k)
  sts := by
    refine (Posted.portEvent _ p (by decide : 2 ≤ 3)).sts _ _ (State.record_prt_stsBit _ p (by decide) ?_)
    unfold laneMarked
    rwa [State.rgn_set _ _ _ (by decide), State.bump, State.rgn_set _ _ _ (by decide), State.setBits, State.rgn_set _ _ _ (by decide),
      State.rgn_set _ _ _ (by decide)]
  event := State.portEvt_testBit _ _ (by decide)

end

/-- A word of another register that is written changes none of it. -/
theorem LaneFaulted.set {s t : State} {p : Port} {k : Nat} {f : Fld} {i v : Nat} (h : LaneFaulted s t p k)
    (hf : f.reg ≠ .PRT_LANE_STS ∧ f.reg ≠ .PRT_PORT_EVT) : LaneFaulted s (t.set f i v) p k where
  fault := (t.get_set_reg v hf.1.symm).trans h.fault
  faults := (t.get_set_reg v hf.1.symm).trans h.faults
  cdr := (t.get_set_reg v hf.1.symm).trans h.cdr
  sts := h.sts
  event := (congrArg (Nat.testBit · 4) (t.get_set_reg v hf.2.symm)).trans h.event

/-- So do other fields of the state. -/
theorem LaneFaulted.fields {s t : State} {p : Port} {k : Nat} {out : List Msg} {prt : PrtState} {ll : LlState} (h : LaneFaulted s t p k) :
    LaneFaulted s { t with out, prt, ll } p k :=
  ⟨h.fault, h.faults, h.cdr, h.sts, h.event⟩

theorem LaneFaulted.zwlCtl {s t : State} {p : Port} {k z type a b : Nat} (h : LaneFaulted s t p k) :
    LaneFaulted s (t.zwlCtl z type a b) p k :=
  h.fields

/-! What follows by role and position (R253, R254, R297). -/

section
variable {s : State} {p : Port} {k : Fin 9}

theorem laneFault_none {x : LaneLoss} (h : laneInService s p k = false ∨ x.cdr = false ∧ s.symbolsOver p k = false) :
    laneFault p k x s = s := by
  unfold laneFault
  obtain h | ⟨hcdr, hsym⟩ := h
  · simp [h]
  · simp [hcdr, hsym]

variable {b : Bool} (hin : laneInService s p k = true)
include hin

theorem laneFault_recovery (hrole : s.role p = 1 ∨ s.role p = 2) (hneg : s.flag PRT_PORT_STS.L0P_NEG p = false) :
    laneFault p k ⟨true, true⟩ s = (laneLost s p k).setLink p stRecovery := by
  have hne : s.role p ≠ 3 := by omega
  simp [laneFault, hin, hne, hneg, laneOut_eq_laneLost s (laneInService_lt hin hne)]

theorem laneFault_narrows (hrole : s.role p = 1 ∨ s.role p = 2) (hneg : s.flag PRT_PORT_STS.L0P_NEG p = true)
    (hfree : widthFree (s.setBits PRT_PORT_STS.FAULTED p (2 ^ k.val)) p ≠ 0) :
    laneFault p k ⟨b, true⟩ s = askWidth (laneLost s p k) p (widthFree (s.setBits PRT_PORT_STS.FAULTED p (2 ^ k.val)) p) := by
  have hne : s.role p ≠ 3 := by omega
  simp [laneFault, hin, hne, hneg, laneOut_eq_laneLost s (laneInService_lt hin hne), laneLost_widthFree, hfree]

/-- The swap of lane k for the spare is asked for, and the link does not go down meanwhile (R297). -/
def swapAsked (s : State) (p : Port) (k : Fin 9) : State :=
  let s1 := laneLost s p k
  (({ s1 with prt := { s1.prt with swap := Tab.put none s1.prt.swap p (some ⟨k, 1, none, 0⟩) } }.set ZWL_STS.STATE (zIndex p) 4).zwlCtl
    (zIndex p) 0x06 1 k)

theorem laneFault_swaps (hrole : s.role p = 3) (hswap : Tab.get none s.prt.swap p = none) (hused : s.flag PRT_PORT_STS.SPARE_USED p = false)
    (hbad : s.flag PRT_PORT_STS.SPARE_BAD p = false) (hk : k.val < 8) : laneFault p k ⟨b, true⟩ s = swapAsked s p k := by
  have hne : k.val ≠ 8 := by omega
  simp [laneFault, hin, hrole, hswap, hused, hbad, hne, laneOut_eq_laneLost s hk, swapAsked]

end

theorem swapAsked_faulted {s : State} {p : Port} (k : Fin 9) (hrgn : s.rgn (p / 16) ≠ 2) : LaneFaulted s (swapAsked s p k) p k := by
  have hf := laneLost_faulted s p k hrgn
  unfold swapAsked
  extract_lets s1
  exact .zwlCtl (.set (f := ZWL_STS.STATE) (.fields hf) (by decide))

theorem swapAsked_swap (s : State) (p : Port) (k : Fin 9) : Tab.get none (swapAsked s p k).prt.swap p = some ⟨k, 1, none, 0⟩ := by
  have hput : (swapAsked s p k).prt.swap = Tab.put none (laneLost s p k).prt.swap p (some ⟨k, 1, none, 0⟩) := rfl
  rw [hput, Tab.get_put_same]

theorem swapAsked_state (s : State) (p : Port) (k : Fin 9) : (swapAsked s p k).get ZWL_STS.STATE (zIndex p) = 4 :=
  State.get_set_same _ (f := ZWL_STS.STATE) (zIndex p) 4 (by decide)

/-! The other commands. -/

section
variable {s : State} {p : Port} {wd : Fin 9}

/-- The widths that L0p changes between (R254). -/
theorem l0pWidth_mem (h : wd = 1 ∨ wd = 2 ∨ wd = 4 ∨ wd = 8) : [1, 2, 4, 8].contains wd.val = true := by
  obtain rfl | rfl | rfl | rfl := h <;> rfl

/-- The width that L0p reached, with no change in progress or waiting. -/
def widthReached (s : State) (p : Port) (wd : Fin 9) : State :=
  { s.set PRT_PORT_STS.WIDTH p wd with
    prt := { s.prt with l0p := Tab.put 0 s.prt.l0p p 0, l0pNext := Tab.put 0 s.prt.l0pNext p 0 } }

/-- The same, and posted. -/
def widthShown (s : State) (p : Port) (wd : Fin 9) : State := ((widthReached s p wd).portEvent p 4).portEvt p 5

theorem widthChange_completes (hlink : s.get PRT_PORT_STS.STATE p = 4) (hwd : wd = 1 ∨ wd = 2 ∨ wd = 4 ∨ wd = 8)
    (hask : Tab.get 0 s.prt.l0p p = wd.val) (hnext : Tab.get 0 s.prt.l0pNext p = 0) : widthChange p wd s = widthShown s p wd := by
  unfold widthChange
  rw [if_pos (by simp only [State.link, hlink, l0pWidth_mem hwd, hask, stL0, Bool.and_self, decide_true])]
  simp [hnext, widthShown, widthReached]

theorem widthChange_idle (h : s.get PRT_PORT_STS.STATE p ≠ 4 ∨ Tab.get 0 s.prt.l0p p ≠ wd.val) : widthChange p wd s = s := by
  unfold widthChange
  obtain hlink | hask := h
  · simp [State.link, stL0, hlink]
  · simp [hask]

theorem widthShown_shows (s : State) (p : Port) (wd : Fin 9) :
    (widthShown s p wd).get PRT_PORT_STS.WIDTH p = wd ∧ Tab.get 0 (widthShown s p wd).prt.l0p p = 0 ∧
      ((widthShown s p wd).get PRT_PORT_EVT.EVENTS p).testBit 5 = true ∧ { (widthShown s p wd).quiet with prt := s.prt } = s.quiet := by
  have hp : Posted (widthReached s p wd) ((widthReached s p wd).portEvent p 4) := .portEvent _ _ (by decide)
  refine ⟨?_, ?_, State.portEvt_testBit _ _ (by decide), ?_⟩
  · have hwd : wd.val % 2 ^ 5 = wd.val := Nat.mod_eq_of_lt (by omega)
    rw [widthShown, State.portEvt, State.setBits, State.get_set_reg _ _ (by decide), hp.get (by decide)]
    exact (s.get_set_same (f := PRT_PORT_STS.WIDTH) p wd (by decide)).trans hwd
  · rw [widthShown, State.portEvt, State.setBits_prt, hp.prt]
    exact Tab.get_put_same 0 s.prt.l0p p 0
  · have hq : (widthShown s p wd).quiet = (widthReached s p wd).quiet := hp.quiet
    rw [hq]
    rfl

/-- The answer to a peer that asks for a width: accepted where no excluded lane lies in it and no change is in progress (R256). -/
theorem l0pPeerRequest_eq (hlink : s.get PRT_PORT_STS.STATE p = 4) (hneg : s.flag PRT_PORT_STS.L0P_NEG p = true) (free : Bool)
    (hfree : (lanesUsed wd (s.flag PRT_PORT_STS.REVERSED p)).all (laneOffered s p) = free) :
    l0pPeerRequest p wd s =
      if [1, 2, 4, 8].contains wd.val && free && Tab.get 0 s.prt.l0p p = 0 then
        { s.emit (.lane p 2 1) with prt := { s.prt with l0p := Tab.put 0 s.prt.l0p p wd.val } }
      else s.emit (.lane p 2 0) := by
  unfold l0pPeerRequest
  rw [if_pos (by simp [State.link, stL0, hlink, hneg])]
  subst hfree
  dsimp only
  split
  · rfl
  · rfl

theorem l0pPeerRequest_accepted (hlink : s.get PRT_PORT_STS.STATE p = 4) (hneg : s.flag PRT_PORT_STS.L0P_NEG p = true)
    (hwd : wd = 1 ∨ wd = 2 ∨ wd = 4 ∨ wd = 8)
    (hfree : (lanesUsed wd (s.flag PRT_PORT_STS.REVERSED p)).all (laneOffered s p) = true) (hask : Tab.get 0 s.prt.l0p p = 0) :
    l0pPeerRequest p wd s = { s.emit (.lane p 2 1) with prt := { s.prt with l0p := Tab.put 0 s.prt.l0p p wd.val } } := by
  rw [l0pPeerRequest_eq hlink hneg true hfree, l0pWidth_mem hwd, if_pos]
  simp [hask]

theorem l0pPeerRequest_declined (hlink : s.get PRT_PORT_STS.STATE p = 4) (hneg : s.flag PRT_PORT_STS.L0P_NEG p = true)
    (hfree : (lanesUsed wd (s.flag PRT_PORT_STS.REVERSED p)).all (laneOffered s p) = false) :
    l0pPeerRequest p wd s = s.emit (.lane p 2 0) := by
  rw [l0pPeerRequest_eq hlink hneg false hfree, if_neg]
  simp

theorem l0pPeerRequest_idle (h : s.get PRT_PORT_STS.STATE p ≠ 4 ∨ s.flag PRT_PORT_STS.L0P_NEG p = false) : l0pPeerRequest p wd s = s := by
  unfold l0pPeerRequest
  obtain hlink | hneg := h
  · simp [State.link, stL0, hlink]
  · simp [hneg]

theorem laneMarginingCommand_answers {m : Margin}
    (h : (s.role p = 1 ∨ s.role p = 2) ∧ s.get PRT_PORT_STS.STATE p = 4 ∧ 3 ≤ s.get PRT_PORT_STS.RATE p) :
    laneMarginingCommand p m s = s.emit (.lane p 5 (if laneInService s p m.lane && !(s.get PRT_PORT_STS.FAULTED p).testBit m.lane then
      marginAnswer (s.get PRT_PORT_STS.RATE p) m.cmd else 0)) := by
  obtain ⟨hrole, hlink, hrate⟩ := h
  unfold laneMarginingCommand
  exact if_pos (by simp [State.link, stL0, hrole, hlink, hrate])

theorem laneMarginingCommand_idle {m : Margin}
    (h : s.role p = 0 ∨ s.role p = 3 ∨ s.get PRT_PORT_STS.STATE p ≠ 4 ∨ s.get PRT_PORT_STS.RATE p < 3) : laneMarginingCommand p m s = s := by
  unfold laneMarginingCommand
  refine if_neg fun hc => ?_
  simp only [Bool.and_eq_true, Bool.or_eq_true, decide_eq_true_eq] at hc
  obtain ⟨⟨hrole, hlink⟩, hrate⟩ := hc
  obtain h | h | h | h := h
  · omega
  · omega
  · exact h hlink
  · omega

end

theorem spareLaneBad_idle {s : State} {p : Port}
    (h : s.role p ≠ 3 ∨ s.flag PRT_PORT_STS.SPARE_USED p = true ∨ s.flag PRT_PORT_STS.SPARE_BAD p = true) : spareLaneBad p s = s := by
  unfold spareLaneBad
  obtain h | h | h := h
  · simp [h]
  · simp [h]
  · simp [h]

/-- Settles O30, from what a lost lane shows, and from each command's conditions. -/
theorem lanesInService : Obligations.LanesInService := by
  unfold Obligations.LanesInService
  refine ⟨fun s p k hin hrole hneg hrgn => ?_, fun s p k b wd hin hrole hneg hrgn hl0p hwd hfree => ?_,
    fun s p k b hin hrole hrgn hswap hused hbad hk => ?_, fun s p k x h => congrArg Host.Outcome.next (laneFault_none h),
    fun s p wd hlink hwd hask hnext => ?_, fun s p wd h => congrArg Host.Outcome.next (widthChange_idle h),
    fun s p wd hlink hneg => ⟨fun h => ?_, fun h => ?_⟩, fun s p wd h => ?_, fun s p m => ⟨fun h => ?_, fun h => ?_⟩,
    fun s p hrgn => ⟨fun hrole hused hbad => ?_, fun h => ?_⟩⟩
  · have hf := (laneLost_faulted s p k hrgn).set (f := PRT_PORT_STS.STATE) (i := p) (v := 5) (by decide)
    refine ⟨_, congrArg Host.Outcome.next (laneFault_recovery hin hrole hneg), State.get_set_same _ _ _ (by decide), ?_, hf.fault, hf.faults,
      hf.cdr, hf.sts, hf.event, laneLost_quiet s p k⟩
    rw [State.setLink, State.get_set_apart _ _ (by decide)]
    exact laneLost_excluded s p k (laneInService_lt hin (by omega))
  · subst hwd
    have hf := laneLost_faulted s p k hrgn
    have ht := laneFault_narrows (b := b) hin hrole hneg hfree
    rw [askWidth, laneLost_prt, if_pos hl0p] at ht
    exact ⟨_, congrArg Host.Outcome.next ht, (laneLost_state s p k).trans (laneInService_link hin), Tab.get_put_same .., hf.fault,
      hf.faults, hf.cdr, hf.sts, hf.event, List.mem_cons_self⟩
  · have hf := swapAsked_faulted k hrgn
    exact ⟨_, congrArg Host.Outcome.next (laneFault_swaps hin hrole hswap hused hbad hk), swapAsked_swap s p k, swapAsked_state s p k,
      hf.fault, hf.faults, hf.cdr, hf.sts, hf.event⟩
  · obtain ⟨hwidth, hdone, hevent, hquiet⟩ := widthShown_shows s p wd
    exact ⟨_, congrArg Host.Outcome.next (widthChange_completes hlink hwd hask hnext), hwidth, hdone, hevent, hquiet⟩
  · obtain ⟨hwd, hfree, hask⟩ := h
    exact ⟨_, congrArg Host.Outcome.next (l0pPeerRequest_accepted hlink hneg hwd hfree hask), Tab.get_put_same .., rfl, rfl⟩
  · exact congrArg Host.Outcome.next (l0pPeerRequest_declined hlink hneg h)
  · exact congrArg Host.Outcome.next (l0pPeerRequest_idle h)
  · exact congrArg Host.Outcome.next (laneMarginingCommand_answers h)
  · exact congrArg Host.Outcome.next (laneMarginingCommand_idle h)
  · have ht : spareLaneBad p s = _ := if_pos (by simp [hrole, hused, hbad])
    have hp := Posted.record (s.set PRT_PORT_STS.SPARE_BAD p 1) (o := portOcc p (prtSet p) 1) (classOf_prt_mild p (show 1 < 3 by decide))
    refine ⟨_, congrArg Host.Outcome.next ht, (hp.get (by decide)).trans (s.get_set_same _ _ (by decide)),
      State.record_prt_stsBit _ p (by decide) ?_, hp.quiet⟩
    rwa [State.rgn_set _ _ _ (by decide)]
  · exact congrArg Host.Outcome.next (spareLaneBad_idle h)

end Sys2Proof.Machine
end

section
/-! SUPPORT. The work on cells that follows the loss of an output (R191–R195, R215–R217) and the port's events (R249, R359), for every
predicate of the state at once: one that a note, a write of the registers of `cellRegs`, and any change of the fields of `CellSafe.fields`
keep is kept by all of it. Each function f of this work has one lemma `CellSafe.f`, which follows f's shape. -/
namespace Sys2Proof.Machine
open Sys2Proof

/-- A predicate that the steps of this work keep. -/
structure CellSafe (P : State → Prop) : Prop where
  noted : ∀ {s t : State}, P s → Noted s t → P t
  set : ∀ {s : State} {f : Fld} {i v : Nat}, cellRegs.contains f.reg = true → P s → P (s.set f i v)
  fields : ∀ {s : State} {out : List Msg} {hbm : List Host.Cell} {grn : GrnState} {swc : SwcState} {tfc : TfcState} {ll : LlState}
    {qmg : QmgState} {lib : LibState}, P s → P { s with out, hbm, grn, swc, tfc, ll, qmg, lib }

/-- The predicate of a state that comes with another value. -/
def SafeFst {α : Type} (P : State → Prop) (x : State × α) : Prop := P x.1

variable {P : State → Prop} {s t : State}

section
variable {α : Type} {a : α} {x y : State × α}

theorem SafeFst.pair (h : P s) : SafeFst P (s, a) := h
theorem SafeFst.fst (h : SafeFst P x) : P x.1 := h

theorem SafeFst.of (h : SafeFst P x) (e : x = (t, a)) : P t := by
  rw [e] at h
  exact h

theorem SafeFst.ite {c : Prop} [Decidable c] (hx : SafeFst P x) (hy : SafeFst P y) : SafeFst P (if c then x else y) := by
  split
  · exact hx
  · exact hy

theorem SafeFst.foldl {β : Type} {l : List β} {f : State × α → β → State × α} (h : SafeFst P x)
    (hf : ∀ {u b}, SafeFst P u → SafeFst P (f u b)) : SafeFst P (l.foldl f x) := by
  induction l generalizing x with
  | nil => exact h
  | cons b l ih => exact ih (hf h)

end

namespace CellSafe

theorem ite (_ : CellSafe P) {c : Prop} [Decidable c] {a b : State} (ha : P a) (hb : P b) : P (if c then a else b) := by
  split
  · exact ha
  · exact hb

theorem foldl (_ : CellSafe P) {β : Type} {l : List β} {f : State → β → State} (h : P s) (hf : ∀ {u b}, P u → P (f u b)) :
    P (l.foldl f s) := by
  induction l generalizing s with
  | nil => exact h
  | cons b l ih => exact ih (hf h)

variable (k : CellSafe P)
include k

/-! Counting and recording. -/

theorem count {r e qual n : Nat} (h : P s) : P (s.count r e qual n) := k.noted h (.count ..)
theorem countPort {p c n : Nat} (h : P s) : P (s.countPort p c n) := k.noted h (.countPort ..)
theorem emit {m : Msg} (h : P s) : P (s.emit m) := k.fields h
theorem sw {f : SwcState → SwcState} (h : P s) : P (s.sw f) := k.fields h

/-- An occurrence that is only corrected or deferred. -/
theorem recordMild {o : Occ} (ho : o.cls < 2) (h : P s) : P (s.record o) := by
  rw [State.record_of_mild s o ho]
  exact k.noted h (.noted ..)

/-! Queues and their rings. -/

theorem setCtx {q : Nat} {c : BitVec 512} (h : P s) : P (s.setCtx q c) := k.fields h
theorem useCtx {q : Nat} (h : P s) : P (s.useCtx q) := k.fields h
theorem writeHbm {key : Nat} {bs : List Byte} (h : P s) : P (s.writeHbm key bs) := k.count (k.fields h)
theorem indexWord {q : Nat} {c : BitVec 512} (h : P s) : P (s.indexWord q c) := k.fields (k.emit h)
theorem indexDue {q : Nat} {c : BitVec 512} (h : P s) : P (s.indexDue q c) := k.ite (k.fields h) h
theorem ownerIrq {q : Nat} {c : BitVec 512} (h : P s) : P (s.ownerIrq q c) := k.ite (k.emit h) (k.ite (k.emit h) (k.emit h))
theorem waitCtx {q : Nat} {op : QOp} (h : P s) : P (s.waitCtx q op) := k.fields (k.count (k.set rfl h))

theorem qmgCapture {r q cause : Nat} (h : P s) : P (s.qmgCapture r q cause) :=
  k.ite h (k.ite (k.set rfl h) (k.set rfl (k.set rfl (k.set rfl (k.set rfl h)))))

theorem qmgFull {q : Nat} (h : P s) : P (s.qmgError q 3 1) :=
  k.recordMild (qmgFull_mild (Nat.mod_lt _ (by decide))) (k.qmgCapture h)

theorem ringPut {q : Nat} {c : BitVec 512} {data : List Byte} (h : P s) : P (s.ringPut q c data) := by
  unfold State.ringPut
  extract_lets off body c1 s1 c2 s2
  have g : P s1 := k.ite (k.writeHbm h) (k.emit h)
  exact k.ite (k.ownerIrq (k.ite (k.indexWord (k.setCtx g)) (k.setCtx g))) (k.indexDue (k.setCtx g))

theorem ringWrite {q : Nat} {data : List Byte} (h : P s) : SafeFst P (s.ringWrite q data) :=
  .ite (.pair (k.ringPut h)) (.pair (k.setCtx h))

theorem noticeStore {q i : Nat} {c : BitVec 512} {data : List Byte} (h : P s) : P (s.noticeStore q c i data) :=
  k.fields (k.writeHbm h)

theorem noticeWrite {q : Nat} {data : List Byte} (h : P s) : SafeFst P (s.noticeWrite q data) := by
  unfold State.noticeWrite
  extract_lets c occ0 full cons c1 skip c2 c3 s1 s2 c4 s3 level
  have g1 : P s1 := k.noticeStore h
  have g3 : P s3 := k.setCtx (k.ite (k.set rfl (k.set rfl g1)) g1)
  exact .ite (.pair h) (.pair (k.ite (k.ownerIrq g3) g3))

theorem produce {q : Nat} {data : List Byte} (h : P s) : SafeFst P (s.produce q data) := by
  unfold State.produce
  refine .ite (k.noticeWrite h) (.ite ?_ (.pair h))
  split
  next s1 ok e =>
  have g : P s1 := (k.ringWrite h).of e
  exact .ite (.pair g) (.pair (k.qmgFull g))

/-! Cells and the samples of them. -/

theorem dropCell {c : Cell} (h : P s) : P (s.dropCell c) := k.ite (k.set rfl (k.set rfl h)) (k.set rfl h)
theorem zwlQueue {c : Cell} (h : P s) : P (s.zwlQueue c) := k.ite (k.emit (k.fields (k.fields h))) h
theorem mergePut {input : Nat} {c : Cell} (h : P s) : P (s.mergePut input c) := k.sw (k.zwlQueue h)
theorem sampleLost {n : Nat} (h : P s) : P (s.sampleLost n) := k.sw (k.set rfl h)

theorem sampleWrite {n q : Nat} {capture : Bool} {data : List Byte} (h : P s) : P (s.sampleWrite n q capture data) := by
  unfold State.sampleWrite
  extract_lets lost
  split
  next s1 ok e =>
  have g : P s1 := (k.produce (k.useCtx h)).of e
  exact k.ite g (k.ite (k.sw (k.set rfl g)) (k.sampleLost g))

theorem toMerge {input : Nat} {c : Cell} (h : P s) : P (s.toMerge input c) := by
  unfold State.toMerge
  split
  · exact k.ite (k.sampleWrite h) (k.waitCtx h)
  · exact k.ite (k.mergePut h) (k.dropCell h)

theorem sampleSend {r n q : Nat} {capture : Bool} {data : List Byte} (h : P s) : P (s.sampleSend r n q capture data) :=
  k.ite (k.toMerge h) (k.sw h)

theorem sampleOut {n : Nat} {data : List Byte} (h : P s) : P (s.sampleOut n data) :=
  k.ite (k.sampleSend (k.sampleSend h)) (k.sampleSend h)

theorem gleanCell {n p seq : Nat} {c : Cell} {hbm : Bool} (h : P s) : P (s.gleanCell n p c hbm seq) := by
  unfold State.gleanCell
  extract_lets total s1 data
  have g : P s1 := k.sw h
  refine k.ite (k.sampleLost g) ?_
  split
  · exact k.ite (k.sampleOut (k.fields g)) (k.sampleLost (k.count (k.set rfl g)))
  · exact k.sampleOut g

theorem glean {p seq : Nat} {c : Cell} {hbm : Bool} (h : P s) : P (s.glean p c hbm seq) :=
  k.foldl h fun g => k.ite (k.ite (k.gleanCell (k.sw g)) (k.sw g)) g

/-! Admission. -/

theorem markDelay {c : Cell} (h : P s) : SafeFst P (s.markDelay c) :=
  .ite (.ite (.pair (k.fields h)) (.pair (k.fields h))) (.pair h)

theorem voqPut {p : Nat} {c : Cell} (h : P s) : P (s.voqPut p c) := by
  unfold State.voqPut
  exact k.sw (k.set rfl (k.set rfl h))

theorem ovfPut {p : Nat} {c0 : Cell} (h : P s) : P (s.ovfPut p c0) := by
  unfold State.ovfPut
  extract_lets c n s1 s2 s3
  have g1 : P s1 := k.count (k.set rfl h)
  exact k.sw (k.writeHbm (k.ite (k.set rfl g1) g1))

theorem voqAdmit {p : Nat} {c : Cell} (h : P s) (e : s.voqAdmit p c = some t) : P t := by
  unfold State.voqAdmit at e
  simp only at e
  split at e
  · cases e
    exact k.dropCell h
  · split at e
    · cases e
    · cases e
      exact k.glean (k.ite (k.voqPut (k.countPort (k.countPort (k.markDelay h).fst)))
        (k.ovfPut (k.countPort (k.countPort (k.markDelay h).fst))))

theorem creditBack {p : Nat} {need : List Nat} (h : P s) : P (s.creditBack p need) :=
  k.ite (k.foldl h fun g => k.emit (k.fields g)) h

theorem admitHeld {p : Nat} (h : P s) : P (s.admitHeld p) := by
  unfold State.admitHeld
  refine k.sw (SafeFst.fst (.foldl (.pair h) (fun g => .ite (.pair g.fst) ?_)))
  split
  · exact .pair (k.creditBack (k.voqAdmit g.fst ‹_›))
  · exact .pair g.fst

/-! An output that is emptied (R192), and the port's events (R249, R359). -/

theorem exitIfDone {a b : Nat} (h : P s) : P (s.exitIfDone a b) :=
  k.ite (k.foldl (k.set rfl h) fun g => k.set rfl g) h

theorem dropOutput {p : Nat} (h : P s) : P (s.dropOutput p) := by
  unfold State.dropOutput
  extract_lets here voqs ovfs merged windowed mine staged n rsp s1 s2 drop some_ backs s3 s4 s5 s6 s7
  have g2 : P s2 := k.foldl (k.foldl h fun g => k.set rfl g) fun g => k.set rfl g
  have g4 : P s4 := k.foldl (k.sw (k.set rfl g2)) k.creditBack
  have g5 : P s5 := k.ite (k.set rfl g4) g4
  have g7 : P s7 := k.foldl (k.foldl g5 fun g => k.sw g) k.exitIfDone
  exact k.foldl (k.set rfl g7) k.admitHeld

theorem postEvent {n bit : Nat} (h : P s) : P (s.postEvent n bit) :=
  k.ite h (k.ite (k.recordMild (tilLost_mild n) (k.set rfl h)) (k.set rfl h))

theorem postHosted {n bit : Nat} {args : List Nat} (h : P s) : SafeFst P (s.postHosted n bit args) := by
  unfold State.postHosted State.showEvents State.setTiller
  exact .ite (.pair h) (.ite (.pair h) (.pair (k.set rfl (k.fields h))))

theorem hostedNote {r bit : Nat} {args : List Nat} (h : P s) : P (s.hostedNote r bit args) := by
  unfold State.hostedNote
  refine k.ite ?_ h
  split
  · exact (k.postHosted h).fst
  · exact h

theorem portEvent {p bit : Nat} (h : P s) : P (s.portEvent p bit) :=
  k.ite (k.hostedNote (k.noted (k.set rfl (k.postEvent h)) (.ibiPend ..))) (k.postEvent h)

theorem portEvt {p bit : Nat} (h : P s) : P (s.portEvt p bit) := k.set rfl h

end CellSafe

/-- The records of binding are none of its business: they are those of s₀. -/
theorem cellSafe_bnd (s₀ : State) : CellSafe fun t => t.bnd = s₀.bnd where
  noted h g := (congrArg (fun x : State => x.bnd) g.unnoted :).trans h
  set _ h := h
  fields h := h

end Sys2Proof.Machine
end

section
/-! SUPPORT. A DN port without a pool device or an accelerator whose link leaves L0 or Recovery (R192, R249, R447). -/
namespace Sys2Proof.Machine
open Sys2Proof

/-! What a cleared link shows. -/

/-- The fields of a link that is down. -/
def shownDown : List Fld := [PRT_PORT_STS.STATE, PRT_PORT_STS.RATE, PRT_PORT_STS.WIDTH]

/-- Those fields are not written again where the link is cleared. -/
theorem State.linkCleared_get (s : State) (p v : Nat) {f : Fld} (hf : f ∈ shownDown) :
    (s.linkCleared p v).get f p = (((s.set PRT_PORT_STS.STATE p v).set PRT_PORT_STS.RATE p 0).set PRT_PORT_STS.WIDTH p 0).get f p := by
  have hapart : ∀ g ∈ shownDown, PRT_PORT_STS.PROTO.apart g ∧ PRT_LANE_STS.CDR_LOCK.apart g ∧ PRT_PORT_STS.L0P_NEG.apart g ∧
      PRT_PORT_STS.REVERSED.apart g ∧ PRT_PORT_STS.SPARE_USED.apart g ∧ g.reg ≠ .LNK_STS ∧ ZWL_STS.STATE.apart g := by decide
  obtain ⟨hproto, hcdr, hl0p, hrev, hspare, hlnk, hzwl⟩ := hapart f hf
  unfold State.linkCleared
  extract_lets s1 s1' s2 ll prt s3
  have h1 : s1'.get f p = s1.get f p :=
    List.foldlRecOn (motive := fun u : State => u.get f p = s1.get f p) _ _ rfl fun u hu k _ => (u.get_set_apart _ hcdr).trans hu
  have h2 : s2.get f p = s1'.get f p := by
    unfold s2
    rw [State.get_set_apart _ _ hspare, State.get_set_apart _ _ hrev, State.get_set_apart _ _ hl0p]
  have h3 : s3.get f p = s2.get f p := s2.get_setWord_reg (r := .LNK_STS) (i := p) 0 hlnk
  have hs3 : s3.get f p = s1.get f p := h3.trans (h2.trans h1)
  have hs1 : s1.get f p = (((s.set PRT_PORT_STS.STATE p v).set PRT_PORT_STS.RATE p 0).set PRT_PORT_STS.WIDTH p 0).get f p :=
    State.get_set_apart _ _ hproto
  rw [← hs1, ← hs3]
  split
  · exact s3.get_set_apart (f := ZWL_STS.STATE) (i := zIndex p) 0 hzwl
  · rfl

theorem State.linkCleared_rate (s : State) (p v : Nat) : (s.linkCleared p v).get PRT_PORT_STS.RATE p = 0 := by
  rw [s.linkCleared_get p v (by decide), State.get_set_apart _ _ (by decide)]
  exact State.get_set_same _ _ _ (by decide)

theorem State.linkCleared_width (s : State) (p v : Nat) : (s.linkCleared p v).get PRT_PORT_STS.WIDTH p = 0 := by
  rw [s.linkCleared_get p v (by decide)]
  exact State.get_set_same _ _ _ (by decide)

/-! Nothing is lost beyond the port. -/

theorem State.plan_of_boot {s t : State} (h : t.boot = s.boot) (p lo w : Nat) : t.plan p lo w = s.plan p lo w := by
  simp only [State.plan, State.sect, h]

theorem State.poolPort_of_bnd {s t : State} (h : t.bnd = s.bnd) (p : Nat) : t.poolPort p = s.poolPort p := by
  simp only [State.poolPort, h]

/-- Port p is a DN port with neither an accelerator nor a pool device behind it. -/
structure PlainDn (s : State) (p : Nat) : Prop where
  role : s.role p = 2
  plan : s.plan p 14 1 = 0
  pool : s.poolPort p = false

section
variable {s t : State} {p v : Nat}

theorem PlainDn.of_same (h : PlainDn s p) (hboot : t.boot = s.boot) (hbnd : t.bnd = s.bnd) : PlainDn t p where
  role := (State.role_of_boot hboot p).trans h.role
  plan := (State.plan_of_boot hboot p 14 1).trans h.plan
  pool := (State.poolPort_of_bnd hbnd p).trans h.pool

theorem PlainDn.lossOf (h : PlainDn s p) : s.lossOf p = s := by
  simp [State.lossOf, h.role, h.plan, h.pool]

/-- The link has left its state for v, and what was queued for the port is discarded (R192). -/
def State.linkLeft (s : State) (p v : Nat) : State := (((s.linkCleared p v).portEvent p 1).portEvt p 1).dropOutput p

theorem State.linkLeft_keeps (s : State) (p v : Nat) : CellKeeps (s.linkCleared p v) (s.linkLeft p v) :=
  (CellKeeps.refl _).portEvent.portEvt.dropOutput

theorem State.linkLeft_boot (s : State) (p v : Nat) : (s.linkLeft p v).boot = s.boot :=
  (s.linkLeft_keeps p v).boot.trans (congrArg (fun u : State => u.boot) (s.linkCleared_others p v) :)

theorem State.linkLeft_bnd (s : State) (p v : Nat) : (s.linkLeft p v).bnd = s.bnd := by
  have k := cellSafe_bnd (s.linkCleared p v)
  have h : (s.linkLeft p v).bnd = (s.linkCleared p v).bnd := k.dropOutput (k.portEvt (k.portEvent rfl))
  exact h.trans (congrArg (fun u : State => u.bnd) (s.linkCleared_others p v) :)

theorem PlainDn.linkDown (h : PlainDn s p) (hserve : s.inService p = true) : s.linkDown p v = s.linkLeft p v := by
  have hloss := (h.of_same (s.linkLeft_boot p v) (s.linkLeft_bnd p v)).lossOf
  unfold State.linkDown
  rw [if_neg (by simp [h.role]), if_pos hserve]
  exact hloss

/-- Port p's link is down since s, in state v. -/
structure LinkIsDown (p v : Nat) (s t : State) : Prop where
  state : t.get PRT_PORT_STS.STATE p = v
  rate : t.get PRT_PORT_STS.RATE p = 0
  width : t.get PRT_PORT_STS.WIDTH p = 0
  word : ∀ r i, r ∉ downRegs → t.word r i = s.word r i
  sts : ∀ x e, s.stsBit x e → t.stsBit x e

/-- A cleared link stays what it is while the cells for it are discarded. -/
theorem LinkIsDown.of_keeps (hv : v < 16) (hk : CellKeeps (s.linkCleared p v) t) : LinkIsDown p v s t where
  state := by
    have h := (congrArg (fun w => bits w _ _) (hk.word .PRT_PORT_STS p (by decide))).trans (s.linkCleared_state p v)
    exact h.trans (Nat.mod_eq_of_lt hv)
  rate := (congrArg (fun w => bits w _ _) (hk.word .PRT_PORT_STS p (by decide))).trans (s.linkCleared_rate p v)
  width := (congrArg (fun w => bits w _ _) (hk.word .PRT_PORT_STS p (by decide))).trans (s.linkCleared_width p v)
  word r i hr := by
    rw [downRegs, List.mem_append, not_or] at hr
    obtain ⟨hcell, hlink⟩ := hr
    exact (hk.word r i hcell).trans (s.linkCleared_wordsKept p v r i hlink)
  sts x e he := hk.sts x e ((State.stsBit_of_ces (congrArg (fun u : State => u.ces) (s.linkCleared_others p v) :) x e).2 he)

theorem PlainDn.linkDown_down (h : PlainDn s p) (hserve : s.inService p = true) (hv : v < 16) : LinkIsDown p v s (s.linkDown p v) := by
  rw [h.linkDown hserve]
  exact .of_keeps hv (s.linkLeft_keeps p v)

/-- Containment at port scope (R447, R467). -/
theorem PlainDn.portContained_down (h : PlainDn s p) (hserve : s.inService p = true) (hgang : s.flag PRT_PORT_STS.GANGED p = false) :
    LinkIsDown p 1 s (s.portContained p) := by
  have hc : s.portContained p = (s.linkLeft p 1).emptyInput p := by
    unfold State.portContained State.linkPorts
    rw [hgang, if_neg Bool.false_ne_true, List.foldl_cons, List.foldl_nil, if_neg (by simp [h.role]), if_pos hserve, h.linkDown hserve]
  rw [hc]
  exact .of_keeps (by decide) (s.linkLeft_keeps p 1).emptyInput

end

end Sys2Proof.Machine
end

section
/-! SUPPORT. The controls of ports and lanes (R252, R257–R261), and the theorem that settles O31. -/
namespace Sys2Proof.Machine
open Sys2Proof

/-! A link of one port. -/

section
variable {s : State} {p : Nat}

theorem State.onLink_single (f : State → Nat → State) (h : s.flag PRT_PORT_STS.GANGED p = false) : s.onLink p f = f s p := by
  simp [State.onLink, State.linkPorts, h]

/-- A link that moves to state v, and nothing else. -/
theorem State.setLink_moves (s : State) (p : Nat) {v : Nat} (hv : v < 16) :
    (s.setLink p v).get PRT_PORT_STS.STATE p = v ∧ onlyRegs s (s.setLink p v) ∧ wordsKept s (s.setLink p v) [.PRT_PORT_STS] :=
  ⟨(s.get_set_same (f := PRT_PORT_STS.STATE) p v (by decide)).trans (Nat.mod_eq_of_lt hv), rfl, (wordsKept.refl s _).set (by decide)⟩

theorem linkRecoveryEntry_enters {p : Port} (hlink : s.get PRT_PORT_STS.STATE p = 4) (hgang : s.flag PRT_PORT_STS.GANGED p = false) :
    linkRecoveryEntry p s = s.setLink p 5 := by
  unfold linkRecoveryEntry
  rw [if_pos (show s.link p = stL0 from hlink), State.onLink_single _ hgang]
  rfl

theorem linkRecoveryEntry_idle {p : Port} (hlink : s.get PRT_PORT_STS.STATE p ≠ 4) : linkRecoveryEntry p s = s := if_neg hlink

theorem linkRecoveryExit_leaves {p : Port} (hlink : s.get PRT_PORT_STS.STATE p = 5) (hgang : s.flag PRT_PORT_STS.GANGED p = false)
    (htrains : widthTrains s p (s.get PRT_PORT_STS.WIDTH p) (s.flag PRT_PORT_STS.REVERSED p) = true) :
    linkRecoveryExit p s = s.setLink p 4 := by
  unfold linkRecoveryExit
  rw [if_pos (by simp [State.link, stRecovery, hlink, htrains]), State.onLink_single _ hgang]
  rfl

theorem linkRecoveryExit_idle {p : Port} (h : s.get PRT_PORT_STS.STATE p ≠ 5 ∨
    widthTrains s p (s.get PRT_PORT_STS.WIDTH p) (s.flag PRT_PORT_STS.REVERSED p) = false) : linkRecoveryExit p s = s := by
  unfold linkRecoveryExit
  obtain h | h := h
  · simp [State.link, stRecovery, h]
  · simp [h]

end

/-! DISABLE and TEST (R257, R261). -/

/-- The bits of PRT_PORT_CTL that hold a port, each with the state that it is held in. -/
def portHolds : List (Fld × Nat) := [(PRT_PORT_CTL.DISABLE, 6), (PRT_PORT_CTL.TEST, 9)]

/-- Bit f of port p is set and its link taken to state v. -/
def State.holdPort (s : State) (f : Fld) (p v : Nat) : State := (s.set f p 1).onLink p fun s q => s.linkDown q v

/-- Bit f of port p is cleared and its link restarted from Detect. -/
def State.releasePort (s : State) (f : Fld) (p : Nat) : State := (s.set f p 0).onLink p restartDetect

section
variable {s : State} {q : Path} {p : Port} (h : s.admits q (prtSet p))
include h

theorem disable_on : disable q p true s = s.holdPort PRT_PORT_CTL.DISABLE p 6 := State.command_admitted _ h
theorem test_on : test q p true s = s.holdPort PRT_PORT_CTL.TEST p 9 := State.command_admitted _ h

theorem disable_off : disable q p false s =
    if s.get PRT_PORT_STS.STATE p = 6 then s.releasePort PRT_PORT_CTL.DISABLE p else s.set PRT_PORT_CTL.DISABLE p 0 :=
  State.command_admitted _ h

theorem test_off : test q p false s =
    if s.get PRT_PORT_STS.STATE p = 9 then s.releasePort PRT_PORT_CTL.TEST p else s.set PRT_PORT_CTL.TEST p 0 :=
  State.command_admitted _ h

end

section
variable {s : State} {f : Fld} {p v : Nat} (hf : (f, v) ∈ portHolds)
include hf

/-- Such a bit is one bit of PRT_PORT_CTL, and its state a link state. -/
theorem portHolds_spec : f.reg = .PRT_PORT_CTL ∧ f.lo + f.w ≤ 32 ∧ f.w = 1 ∧ v < 16 := by
  simp only [portHolds, List.mem_cons, Prod.mk.injEq, List.not_mem_nil, or_false] at hf
  obtain ⟨rfl, rfl⟩ | ⟨rfl, rfl⟩ := hf
  · decide
  · decide

theorem State.get_set_hold {b : Nat} (hb : b < 2) : (s.set f p b).get f p = b := by
  obtain ⟨-, hbits, hw, -⟩ := portHolds_spec hf
  rw [s.get_set_same _ _ hbits, hw]
  exact Nat.mod_eq_of_lt hb

theorem State.get_set_hold_other {b : Nat} {g : Fld} {i : Nat} (hg : g.reg ≠ .PRT_PORT_CTL) : (s.set f p b).get g i = s.get g i := by
  obtain ⟨hreg, -, -, -⟩ := portHolds_spec hf
  exact s.get_set_reg b (by rwa [hreg])

theorem State.flag_set_hold_other {b : Nat} {g : Fld} {i : Nat} (hg : g.reg ≠ .PRT_PORT_CTL) : (s.set f p b).flag g i = s.flag g i := by
  rw [State.flag, State.get_set_hold_other hf hg]
  rfl

theorem State.holdPort_eq (hgang : s.flag PRT_PORT_STS.GANGED p = false) : s.holdPort f p v = (s.set f p 1).linkDown p v :=
  State.onLink_single _ ((State.flag_set_hold_other hf (by decide)).trans hgang)

/-- A DN port in L0 or Recovery goes down and is held. -/
theorem State.holdPort_down (hgang : s.flag PRT_PORT_STS.GANGED p = false) (hdn : PlainDn s p) (hserve : s.inService p = true) :
    (s.holdPort f p v).get f p = 1 ∧ (s.holdPort f p v).get PRT_PORT_STS.STATE p = v ∧ (s.holdPort f p v).get PRT_PORT_STS.RATE p = 0 ∧
      (s.holdPort f p v).get PRT_PORT_STS.WIDTH p = 0 := by
  obtain ⟨hreg, -, -, hv⟩ := portHolds_spec hf
  have hs : (s.set f p 1).inService p = true := by
    rwa [State.inService, State.get_set_hold_other hf (by decide)]
  have hd := (hdn.of_same (t := s.set f p 1) rfl rfl).linkDown_down hs hv
  rw [State.holdPort_eq hf hgang]
  refine ⟨?_, hd.state, hd.rate, hd.width⟩
  have hword := hd.word f.reg p (by rw [hreg]; decide)
  rw [State.get, hword, ← State.get, State.get_set_hold hf (by decide)]

/-- A port that trains or is held goes to the state at once. -/
theorem State.holdPort_moves (hgang : s.flag PRT_PORT_STS.GANGED p = false) (hrole : s.role p ≠ 0)
    (hserve : s.inService p = false) (hon : s.get PRT_PORT_STS.STATE p ≠ 0) :
    (s.holdPort f p v).get f p = 1 ∧ (s.holdPort f p v).get PRT_PORT_STS.STATE p = v ∧ onlyRegs s (s.holdPort f p v) ∧
      wordsKept s (s.holdPort f p v) [.PRT_PORT_CTL, .PRT_PORT_STS] := by
  obtain ⟨hreg, -, -, hv⟩ := portHolds_spec hf
  have ht : s.holdPort f p v = (s.set f p 1).setLink p v := by
    have hoff : (s.set f p 1).inService p ≠ true := by
      rw [State.inService, State.get_set_hold_other hf (by decide)]
      exact Bool.eq_false_iff.1 hserve
    have hon' : (s.set f p 1).get PRT_PORT_STS.STATE p ≠ 0 := by
      rwa [State.get_set_hold_other hf (by decide)]
    rw [State.holdPort_eq hf hgang, State.linkDown, if_neg (show (s.set f p 1).role p ≠ 0 from hrole), if_neg hoff, if_neg hon']
    rfl
  rw [ht]
  refine ⟨?_, (State.setLink_moves _ p hv).1, rfl, ?_⟩
  · rw [State.setLink, State.get_set_reg _ _ (by rw [hreg]; decide), State.get_set_hold hf (by decide)]
  · exact ((wordsKept.refl s _).set (by rw [hreg]; decide)).set (by decide)

/-- A port of no role only takes the bit. -/
theorem State.holdPort_off (hgang : s.flag PRT_PORT_STS.GANGED p = false) (hrole : s.role p = 0) : s.holdPort f p v = s.set f p 1 := by
  rw [State.holdPort_eq hf hgang, State.linkDown]
  exact if_pos hrole

end

/-- A port that nothing holds starts again from Detect; a DN port does with DN_PERST_N high. -/
theorem restartDetect_detects {s : State} {p : Nat} (hgang : s.flag PRT_PORT_STS.GANGED p = false) (hrole : s.role p ≠ 0)
    (hd : s.flag PRT_PORT_CTL.DISABLE p = false) (ht : s.flag PRT_PORT_CTL.TEST p = false) (hperst : s.flag PRT_DN_TMR.PERST_OUT p = true) :
    restartDetect s p = s.setLink p 1 := by
  simp [restartDetect, State.linkPorts, hgang, hrole, hd, ht, hperst, stDetect]

/-- Each of the two bits with the other. -/
def otherHold : List (Fld × Fld) := [(PRT_PORT_CTL.DISABLE, PRT_PORT_CTL.TEST), (PRT_PORT_CTL.TEST, PRT_PORT_CTL.DISABLE)]

/-- With its own bit cleared and the other not set, nothing holds the port. -/
theorem State.notHeld_of_other {s : State} {f g : Fld} {p : Nat} (hpair : (f, g) ∈ otherHold) (hg : s.flag g p = false) :
    (s.set f p 0).flag PRT_PORT_CTL.DISABLE p = false ∧ (s.set f p 0).flag PRT_PORT_CTL.TEST p = false := by
  have hown : ∀ v, (f, v) ∈ portHolds → (s.set f p 0).flag f p = false := fun v hv => by
    rw [State.flag, State.get_set_hold hv (by decide)]
    rfl
  simp only [otherHold, List.mem_cons, Prod.mk.injEq, List.not_mem_nil, or_false] at hpair
  obtain ⟨rfl, rfl⟩ | ⟨rfl, rfl⟩ := hpair
  · exact ⟨hown 6 (by decide), (s.flag_set_apart 0 (by decide)).trans hg⟩
  · exact ⟨(s.flag_set_apart 0 (by decide)).trans hg, hown 9 (by decide)⟩

/-- A port that was held by one bit goes to Detect where that bit is cleared. -/
theorem State.releasePort_detects {s : State} {f g : Fld} {p v : Nat} (hf : (f, v) ∈ portHolds) (hpair : (f, g) ∈ otherHold)
    (hgang : s.flag PRT_PORT_STS.GANGED p = false) (hrole : s.role p ≠ 0) (hperst : s.flag PRT_DN_TMR.PERST_OUT p = true)
    (hg : s.flag g p = false) :
    (s.releasePort f p).get f p = 0 ∧ (s.releasePort f p).get PRT_PORT_STS.STATE p = 1 ∧ onlyRegs s (s.releasePort f p) ∧
      wordsKept s (s.releasePort f p) [.PRT_PORT_CTL, .PRT_PORT_STS] := by
  obtain ⟨hreg, -, -, -⟩ := portHolds_spec hf
  obtain ⟨hd, ht⟩ := State.notHeld_of_other hpair hg
  have hgang' := (State.flag_set_hold_other hf (s := s) (p := p) (b := 0) (g := PRT_PORT_STS.GANGED) (i := p) (by decide)).trans hgang
  have hperst' := (State.flag_set_hold_other hf (s := s) (p := p) (b := 0) (g := PRT_DN_TMR.PERST_OUT) (i := p) (by decide)).trans hperst
  have hr : s.releasePort f p = (s.set f p 0).setLink p 1 :=
    (State.onLink_single _ hgang').trans (restartDetect_detects hgang' hrole hd ht hperst')
  rw [hr]
  refine ⟨?_, (State.setLink_moves _ p (by decide)).1, rfl, ?_⟩
  · rw [State.setLink, State.get_set_reg _ _ (by rw [hreg]; decide), State.get_set_hold hf (by decide)]
  · exact ((wordsKept.refl s _).set (by rw [hreg]; decide)).set (by decide)

/-! RETRAIN (R261) and the lane PLL (R260). -/

theorem retrain_admitted {s : State} {q : Path} {p : Port} (h : s.admits q (prtSet p)) (hgang : s.flag PRT_PORT_STS.GANGED p = false) :
    retrain q p s = if s.get PRT_PORT_STS.STATE p = 4 then s.setLink p 5 else s.discard (prtSet p) := by
  refine (State.command_admitted _ h).trans ?_
  rw [State.onLink_single _ hgang]
  rfl

/-- A lane PLL that loses lock is contained on its port (R260). -/
theorem classOf_prt_pll (p : Port) : classOf (prtSet p) 5 = 2 := by
  revert p
  decide

/-- The error is recorded, and the port goes down. -/
theorem PlainDn.pllContained {s : State} {p : Port} (h : PlainDn s p) (hlink : s.get PRT_PORT_STS.STATE p = 4)
    (hgang : s.flag PRT_PORT_STS.GANGED p = false) (hrgn : s.rgn (p / 16) ≠ 2) :
    LinkIsDown p 1 (s.record (portOcc p (prtSet p) 5)) ((s.record (portOcc p (prtSet p) 5)).portContained p) ∧
      ((s.record (portOcc p (prtSet p) 5)).portContained p).stsBit (prtSet p) 5 := by
  have hn : Noted s (s.record (portOcc p (prtSet p) 5)) := by
    rw [s.record_port p (classOf_prt_pll p)]
    exact Noted.noted _ _
  have hdn : PlainDn (s.record (portOcc p (prtSet p) 5)) p :=
    h.of_same (congrArg (fun u : State => u.boot) hn.unnoted :) (congrArg (fun u : State => u.bnd) hn.unnoted :)
  have hserve : (s.record (portOcc p (prtSet p) 5)).inService p = true := by
    simp [State.inService, hn.get (f := PRT_PORT_STS.STATE) (by decide), hlink]
  have hgang' : (s.record (portOcc p (prtSet p) 5)).flag PRT_PORT_STS.GANGED p = false := by
    rwa [State.flag, hn.get (by decide)]
  have hd := hdn.portContained_down hserve hgang'
  exact ⟨hd, hd.sts _ _ (s.record_prt_stsBit p (by decide) hrgn)⟩

/-! Patterns and injection (R257–R259). -/

section
variable {s : State} {q : Path} {n : Lane} (h : s.admits q (prtSet (lanePort n)))
include h

theorem inject_admitted (action arg : Nat) : inject q n action arg s =
    if (laneUnderTest s n || laneInService s (lanePort n) (laneIndex n)) = true then s.emit (.lane (lanePort n) action (64 * n + arg)) else s :=
  State.command_admitted _ h

/-- The checker of lane n enabled, with its count cleared and its alignment restarted. -/
def State.checkerStarted (s : State) (n : Nat) : State :=
  { (s.set PRT_PAT_CTL.CHK_EN n 1).set PRT_PAT_CTL.SYNC n 0 with prt := { s.prt with pat := Tab.put 0 s.prt.pat n 0 } }

theorem checkerEnable_admitted : checkerEnable q n s = if laneUnderTest s n = true then s.checkerStarted n else s.discard (prtSet (lanePort n)) :=
  State.command_admitted _ h

end

/-- The checker of lane n aligned, with the errors counted since. -/
def State.checkerSynced (s : State) (n : Nat) (e : BitVec 48) : State :=
  { s.set PRT_PAT_CTL.SYNC n 1 with
    prt := { s.prt with pat := Tab.put 0 s.prt.pat n (BitVec.ofNat 48 (satAdd 48 (Tab.get 0 s.prt.pat n).toNat e.toNat)) } }

theorem patternCheckerSync_eq (n : Lane) (e : BitVec 48) (s : State) :
    patternCheckerSync n e s = if s.flag PRT_PAT_CTL.CHK_EN n = true then s.checkerSynced n e else s := rfl

section
variable (s : State) (n : Nat)

theorem State.checkerStarted_chkEn : (s.checkerStarted n).get PRT_PAT_CTL.CHK_EN n = 1 := by
  have h : (s.checkerStarted n).get PRT_PAT_CTL.CHK_EN n = ((s.set PRT_PAT_CTL.CHK_EN n 1).set PRT_PAT_CTL.SYNC n 0).get PRT_PAT_CTL.CHK_EN n := rfl
  rw [h, State.get_set_apart _ _ (by decide)]
  exact State.get_set_same _ _ _ (by decide)

theorem State.checkerStarted_sync : (s.checkerStarted n).get PRT_PAT_CTL.SYNC n = 0 :=
  (s.set PRT_PAT_CTL.CHK_EN n 1).get_set_same (f := PRT_PAT_CTL.SYNC) n 0 (by decide)

theorem State.checkerStarted_pat (m : Nat) : Tab.get 0 (s.checkerStarted n).prt.pat m = if m = n then 0 else Tab.get 0 s.prt.pat m :=
  Tab.get_put 0 s.prt.pat n m 0

theorem State.checkerStarted_wordsKept : wordsKept s (s.checkerStarted n) [.PRT_PAT_CTL] := fun r i hr =>
  have h : wordsKept s ((s.set PRT_PAT_CTL.CHK_EN n 1).set PRT_PAT_CTL.SYNC n 0) [.PRT_PAT_CTL] :=
    ((wordsKept.refl s _).set (by decide)).set (by decide)
  h r i hr

/-- The count of a checker stops at its largest value (R259). -/
theorem State.checkerSynced_pat (e : BitVec 48) : (Tab.get 0 (s.checkerSynced n e).prt.pat n).toNat =
    min ((Tab.get 0 s.prt.pat n).toNat + e.toNat) (2 ^ 48 - 1) := by
  have hput : Tab.get 0 (s.checkerSynced n e).prt.pat n = BitVec.ofNat 48 (satAdd 48 (Tab.get 0 s.prt.pat n).toNat e.toNat) :=
    Tab.get_put_same 0 s.prt.pat n _
  rw [hput, BitVec.toNat_ofNat, satAdd, Nat.mod_eq_of_lt (by omega)]

end

/-- Settles O31, from what each control of a port and of a lane does where it is admitted. -/
theorem portControls : Obligations.PortControls := by
  unfold Obligations.PortControls
  refine ⟨fun s q p h hgang => ?_, fun s q p h hgang hrole hlink hplan hpool => ?_, fun s q p h hgang hrole h4 h5 h0 => ?_,
    fun s q p h hgang hrole hdn hperst => ⟨fun h6 ht => ?_, fun h9 hd => ?_⟩, fun s q p h => ⟨fun h6 => ?_, fun h9 => ?_, fun hrole hgang => ?_⟩,
    fun s p hgang => ⟨fun h4 => ?_, fun h5 ht => ?_, fun h4 => ?_, fun h5 => ?_, fun ht => ?_⟩, fun s p hrole hlink hgang hplan hpool hrgn => ?_,
    fun s p hrole => ?_, fun s p => ?_, fun s p a d i h => ?_, fun s p a d i h ht => ?_, fun s p a d i h ht => ?_,
    fun s p q on n h => ?_, fun s q n h hlane => ?_, fun s q n h => ⟨fun hlane => ?_, fun ht => ?_⟩, fun s q n h ht => ?_,
    fun s n e hen => ?_, fun s n e hen => ?_⟩
  · refine ⟨_, congrArg Host.Outcome.next (retrain_admitted h hgang), fun h4 => ?_, fun h4 => if_neg h4⟩
    rw [if_pos h4]
    exact s.setLink_moves p (by decide)
  · have hdn : PlainDn s p := ⟨hrole, hplan, hpool⟩
    have hserve : s.inService p = true := by
      simpa [State.inService] using hlink
    exact ⟨⟨_, congrArg Host.Outcome.next (disable_on h), State.holdPort_down (by decide) hgang hdn hserve⟩,
      ⟨_, congrArg Host.Outcome.next (test_on h), State.holdPort_down (by decide) hgang hdn hserve⟩⟩
  · have hserve : s.inService p = false := by
      simp [State.inService, h4, h5]
    exact ⟨⟨_, congrArg Host.Outcome.next (disable_on h), State.holdPort_moves (by decide) hgang hrole hserve h0⟩,
      ⟨_, congrArg Host.Outcome.next (test_on h), State.holdPort_moves (by decide) hgang hrole hserve h0⟩⟩
  · exact ⟨_, congrArg Host.Outcome.next ((disable_off h).trans (if_pos h6)),
      State.releasePort_detects (v := 6) (by decide) (by decide) hgang hrole hperst ht⟩
  · exact ⟨_, congrArg Host.Outcome.next ((test_off h).trans (if_pos h9)),
      State.releasePort_detects (v := 9) (by decide) (by decide) hgang hrole hperst hd⟩
  · exact congrArg Host.Outcome.next ((disable_off h).trans (if_neg h6))
  · exact congrArg Host.Outcome.next ((test_off h).trans (if_neg h9))
  · exact ⟨congrArg Host.Outcome.next ((disable_on h).trans (State.holdPort_off (by decide) hgang hrole)),
      congrArg Host.Outcome.next ((test_on h).trans (State.holdPort_off (by decide) hgang hrole))⟩
  · exact ⟨_, congrArg Host.Outcome.next (linkRecoveryEntry_enters h4 hgang), s.setLink_moves p (by decide)⟩
  · exact ⟨_, congrArg Host.Outcome.next (linkRecoveryExit_leaves h5 hgang ht), s.setLink_moves p (by decide)⟩
  · exact congrArg Host.Outcome.next (linkRecoveryEntry_idle h4)
  · exact congrArg Host.Outcome.next (linkRecoveryExit_idle (.inl h5))
  · exact congrArg Host.Outcome.next (linkRecoveryExit_idle (.inr ht))
  · obtain ⟨hd, hsts⟩ := PlainDn.pllContained ⟨hrole, hplan, hpool⟩ hlink hgang hrgn
    have hon : s.role p ≠ 0 := by omega
    exact ⟨_, congrArg Host.Outcome.next (if_neg hon), hd.state, hd.rate, hd.width, List.mem_append_right _ (List.mem_singleton_self _), hsts⟩
  · exact congrArg Host.Outcome.next (if_pos hrole)
  · exact ⟨_, rfl, by simp [lanePllRelock], fun q hq => by simp [lanePllRelock, hq], rfl⟩
  · rw [exec_registerWrite_of_reaches d h, ← bit_lowWord d (by decide : 6 < 32), ← bit_lowWord d (by decide : 7 < 32),
      ← bit_lowWord d (by decide : 8 < 32)]
    rfl
  · rw [← bit_lowWord d (by decide : 4 < 32), ← bit_lowWord d (by decide : 5 < 32), ← bit_lowWord d (by decide : 6 < 32)]
    exact (exec_registerWrite_of_reaches d h).trans (congrArg Host.Outcome.next (if_pos ht))
  · rw [← bit_lowWord d (by decide : 3 < 32), ← bit_lowWord d (by decide : 4 < 32), ← bit_lowWord d (by decide : 5 < 32),
      ← bit_lowWord d (by decide : 6 < 32)]
    exact (exec_registerWrite_of_reaches d h).trans (congrArg Host.Outcome.next (if_neg (Bool.eq_false_iff.1 ht)))
  · exact ⟨congrArg Host.Outcome.next (State.command_refused _ h), congrArg Host.Outcome.next (State.command_refused _ h),
      congrArg Host.Outcome.next (State.command_refused _ h), congrArg Host.Outcome.next (State.command_refused _ h),
      congrArg Host.Outcome.next (State.command_refused _ h), congrArg Host.Outcome.next (State.command_refused _ h)⟩
  · exact ⟨congrArg Host.Outcome.next ((inject_admitted h _ _).trans (if_pos hlane)),
      congrArg Host.Outcome.next ((inject_admitted h _ _).trans (if_pos hlane))⟩
  · have hno := Bool.eq_false_iff.1 hlane
    exact ⟨congrArg Host.Outcome.next ((inject_admitted h _ _).trans (if_neg hno)),
      congrArg Host.Outcome.next ((inject_admitted h _ _).trans (if_neg hno))⟩
  · exact congrArg Host.Outcome.next ((checkerEnable_admitted h).trans (if_neg (Bool.eq_false_iff.1 ht)))
  · exact ⟨_, congrArg Host.Outcome.next ((checkerEnable_admitted h).trans (if_pos ht)), s.checkerStarted_chkEn n, s.checkerStarted_sync n,
      (s.checkerStarted_pat n n).trans (if_pos rfl), fun m hm => (s.checkerStarted_pat n m).trans (if_neg hm), s.checkerStarted_wordsKept n, rfl⟩
  · exact ⟨_, congrArg Host.Outcome.next ((patternCheckerSync_eq n e s).trans (if_pos hen)),
      s.get_set_same (f := PRT_PAT_CTL.SYNC) n 1 (by decide), s.checkerSynced_pat n e,
      (wordsKept.refl s _).set (f := PRT_PAT_CTL.SYNC) (by decide), rfl⟩
  · exact congrArg Host.Outcome.next ((patternCheckerSync_eq n e s).trans (if_neg (Bool.eq_false_iff.1 hen)))

end Sys2Proof.Machine
end

section
/-! SUPPORT. What the link layer of a UP or DN port holds (R268–R272), and the credits of messages and the cells of a delivered flit (R267,
R268, R188). -/
namespace Sys2Proof.Machine
open Sys2Proof

/-! The link layer's own state. -/

section
variable (s : State) (p : Nat) (v : LnkState)

@[simp] theorem State.lnk_setLnk_same : (s.setLnk p v).lnk p = v := Tab.get_put_same ..

theorem State.lnk_setLnk_ne {q : Nat} (h : q ≠ p) : (s.setLnk p v).lnk q = s.lnk q := Tab.get_put_ne _ _ _ _ _ _ h

theorem State.lnk_of_ll {s t : State} (h : t.ll = s.ll) (p : Nat) : t.lnk p = s.lnk p := by
  simp only [State.lnk, h]

end

/-- A note leaves the links and the switch core alone. -/
theorem Noted.ll {s t : State} (h : Noted s t) : t.ll = s.ll := (congrArg (fun x : State => x.ll) h.unnoted :)
theorem Noted.swc {s t : State} (h : Noted s t) : t.swc = s.swc := (congrArg (fun x : State => x.swc) h.unnoted :)

/-- A field whose register is not written. -/
theorem wordsKept.get {rs : List Reg} {s t : State} {f : Fld} {i : Nat} (h : wordsKept s t rs) (hf : f.reg ∉ rs) : t.get f i = s.get f i :=
  congrArg (fun w => bits w f.lo f.w) (h _ _ hf)

theorem wordsKept.flag {rs : List Reg} {s t : State} {f : Fld} {i : Nat} (h : wordsKept s t rs) (hf : f.reg ∉ rs) :
    t.flag f i = s.flag f i :=
  congrArg (fun n => n != 0) (h.get hf)

/-- A field whose register is not counted in. -/
theorem Counted.get {rs : List Reg} {s t : State} {f : Fld} {i : Nat} (h : Counted rs s t) (hf : f.reg ∉ rs) : t.get f i = s.get f i :=
  congrArg (fun w => bits w f.lo f.w) (h.word _ _ hf)

theorem Counted.flag {rs : List Reg} {s t : State} {f : Fld} {i : Nat} (h : Counted rs s t) (hf : f.reg ∉ rs) :
    t.flag f i = s.flag f i :=
  congrArg (fun n => n != 0) (h.get hf)

/-! The error sets of a port's link. -/

theorem setUnit_lnkSet (p : Port) : setUnit (lnkSet p) = p / 16 := by
  revert p
  decide

theorem classOf_lnkSet (p : Port) {e : Nat} (he : e < 6) : classOf (lnkSet p) e = if e < 2 then 0 else 2 := by
  have hcls : ∀ q : Port, ∀ b < 6, classOf (lnkSet q) b = if b < 2 then 0 else 2 := by decide
  exact hcls p e he

/-- A flit that fails its CRC and a replay count that rolls over are only corrected (R298). -/
theorem lnkOcc_mild (p : Port) {e : Nat} (he : e < 2) : (portOcc p (lnkSet p) e).cls < 2 := by
  have hcls : (portOcc p (lnkSet p) e).cls = classOf (lnkSet p) e := rfl
  rw [hcls, classOf_lnkSet p (by omega), if_pos he]
  decide

/-- The link's region still records (R544). -/
theorem State.lnkSet_records {s : State} {p : Port} (h : s.rgn (p / 16) ≠ 2) : s.windowGone (setUnit (lnkSet p)) = false := by
  rw [setUnit_lnkSet]
  exact State.windowGone_of_rgn h

/-! Credits (R268). -/

theorem advertised_s2mNdr {s : State} {p : Nat} (hrole : s.role p = 2) (hmem : s.flag LNK_STS.MEM p = true) : advertised s p 3 = 128 := by
  simp [advertised, hrole, hmem]

theorem advertised_m2sReq {s : State} {p : Nat} (hrole : s.role p = 1) (hmem : s.flag LNK_STS.MEM p = true) : advertised s p 0 = 128 := by
  simp [advertised, hrole, hmem]

/-- With no credit spent, one of an advertised channel may be. -/
theorem creditHeld_unspent {s : State} {p ch : Nat} (hs : (s.lnk p).spent = []) (ha : 0 < advertised s p ch) :
    creditHeld s p [ch] = true := by
  refine List.all_eq_true.2 fun k _ => ?_
  rw [hs, List.count_singleton]
  by_cases hk : ch = k
  · subst hk
    simp [Tab.get, Tab.find, Nat.succ_le_iff.2 ha]
  · simp [hk]

/-- One credit of a channel goes back to the peer (R267). -/
theorem State.creditBack_one {s : State} {p : Nat} (ch : Nat) (hrole : s.role p = 1 ∨ s.role p = 2) :
    s.creditBack p [ch] =
      (s.setLnk p { s.lnk p with spent := Tab.put 0 (s.lnk p).spent ch (Tab.get 0 (s.lnk p).spent ch - 1) }).emit (.link p 3 ch) :=
  if_pos (by simpa using hrole)

/-! The messages of a flit (R267, R269, R275). -/

section
variable {s : State} {p : Nat} {m : LinkMsg} (ms : List LinkMsg) (cells : List Cell)
  (hcredit : creditHeld s p (kindCredits m.kind) = true) (hbad : m.bad = false) (hgated : s.flag LNK_STS.IDE_GATED p = false)
  (hio : kindIo m.kind = false)
include hcredit hbad hgated hio

/-- A message for an output joins the cells of its flit. -/
theorem flitMsgs_output (hdest : m.dest < 64) : flitMsgs p (m :: ms) cells s =
    flitMsgs p ms (packCell p m cells) (s.setLnk p (creditSpent (s.lnk p) (kindCredits m.kind))) := by
  have hgated' : (s.setLnk p (creditSpent (s.lnk p) (kindCredits m.kind))).flag LNK_STS.IDE_GATED p = false := hgated
  simp [flitMsgs, hcredit, hbad, hgated', hio, hdest]

/-- One for an internal sink returns its credit. -/
theorem flitMsgs_sink (hdest : 64 ≤ m.dest) : flitMsgs p (m :: ms) cells s =
    flitMsgs p ms cells ((s.setLnk p (creditSpent (s.lnk p) (kindCredits m.kind))).creditBack p (kindCredits m.kind)) := by
  have hgated' : (s.setLnk p (creditSpent (s.lnk p) (kindCredits m.kind))).flag LNK_STS.IDE_GATED p = false := hgated
  simp [flitMsgs, hcredit, hbad, hgated', hio, hdest]

end

/-! A cell that arrives (R188, R191). -/

/-- An output in service is not passed over for another link (R153). -/
theorem State.rerouted_served {s : State} {out : Nat} (h : s.inService out = true) : s.rerouted out = out :=
  if_neg (by simp [h])

/-- No selector of a port's region takes cells (R215). -/
theorem State.glean_off {s : State} {p : Nat} {c : Cell} {hbm : Bool} {seq : Nat} (hp : p < 64)
    (h : ∀ n < 64, s.flag SWC_GLN_CTL.EN n = false) : s.glean p c hbm seq = s := by
  refine List.foldlRecOn (motive := fun u : State => u = s) _ _ rfl fun u hu j hj => ?_
  subst hu
  have hj' : j < 16 := List.mem_range.1 hj
  have hoff : u.flag SWC_GLN_CTL.EN (16 * (p / 16) + j) = false := h _ (by omega)
  exact if_neg (by simp [State.selects, hoff])

/-- Nothing keeps the cells of a class of port p from SRAM: neither a limit, nor overflow in HBM, nor a cell held before; and none is
sampled (R188, R191, R193, R215, R238). -/
structure AdmitsFreely (s : State) (p tc : Nat) : Prop where
  room : s.get SWC_VOQ_OCC.CELLS (8 * p + tc) < s.get SWC_VOQ_LIM.LIMIT (8 * p + tc)
  ovf : s.swc.ovf = []
  held : s.swc.held = []
  delay : s.flag TFC_HIST_CTL.EN (p / 16) = false
  glean : ∀ n < 64, s.flag SWC_GLN_CTL.EN n = false

/-- What two counts of a port leave before a cell is put into SRAM. -/
def State.cellCounted (s : State) (p : Nat) (c : Cell) : State := (s.countPort p (12 + c.tc) 1).countPort p 21 c.data.length

theorem State.cellCounted_counted (s : State) (p : Nat) (c : Cell) : Counted [.PMC_CFG] s (s.cellCounted p c) :=
  ((Counted.refl _ s).countPort (by decide)).countPort (by decide)

/-- A cell as its input port stamps it. -/
def State.arrivalStamp (s : State) (p : Nat) (c : Cell) : Cell := { c with since := s.timeOf (p / 16) }

theorem AdmitsFreely.arrive {s : State} {p : Nat} {c : Cell} (h : AdmitsFreely s p c.tc) (hp : p < 64) (hsource : c.source = p)
    (hserve : s.inService c.out = true) :
    s.arrive p c = ((s.cellCounted p (s.arrivalStamp p c)).voqPut p (s.arrivalStamp p c)).creditBack p c.need := by
  have hcounted := s.cellCounted_counted p (s.arrivalStamp p c)
  have hadmit : s.voqAdmit p c = some ((s.cellCounted p (s.arrivalStamp p c)).voqPut p (s.arrivalStamp p c)) := by
    have hstamp : ({ c with out := s.rerouted c.out, since := s.timeOf (p / 16) } : Cell) = s.arrivalStamp p c := by
      rw [State.rerouted_served hserve]
      rfl
    have hroom : s.room p (s.arrivalStamp p c) = .sram := by
      refine if_pos ?_
      rw [h.ovf]
      simp [State.arrivalStamp, Tab.get, Tab.find, h.room]
    have hdelay : s.markDelay (s.arrivalStamp p c) = (s, s.arrivalStamp p c) := by
      refine if_neg ?_
      have hregion : sourceRegion (s.arrivalStamp p c).source = p / 16 := by
        simp [State.arrivalStamp, hsource, sourceRegion, hp]
      rw [hregion, h.delay]
      exact Bool.false_ne_true
    have hglean (n : Nat) : ((s.cellCounted p (s.arrivalStamp p c)).voqPut p (s.arrivalStamp p c)).flag SWC_GLN_CTL.EN n =
        s.flag SWC_GLN_CTL.EN n :=
      ((State.voqPut_wordsKept _ p _ (wordsKept.refl _ [.SWC_VOQ_OCC]) (by decide)).flag (by decide)).trans
        (hcounted.flag (f := SWC_GLN_CTL.EN) (by decide))
    unfold State.voqAdmit
    rw [hstamp]
    simp only [hroom, hdelay]
    rw [if_neg (by simpa [State.arrivalStamp] using hserve)]
    simp only [if_true]
    exact congrArg some (State.glean_off hp fun n hn => (hglean n).trans (h.glean n hn))
  unfold State.arrive
  rw [h.held, hadmit]
  rfl

end Sys2Proof.Machine
end

section
/-! SUPPORT. Flits received, acknowledged and NAKed, and returned credits (R267–R272, R276, R298), and the theorem that settles O32. -/
namespace Sys2Proof.Machine
open Sys2Proof

/-! Where a flit goes. -/

section
variable {s : State} {p : Port}

/-- A port of another role, or a link out of L0, takes no flit. -/
theorem flitReceive_ignored {num : Nat} {body : Option (List LinkMsg)} {mac : Bool} {fec : List (Fin 9)}
    (h : s.role p = 0 ∨ s.role p = 3 ∨ s.get PRT_PORT_STS.STATE p ≠ 4) : flitReceive p num body mac fec s = s := by
  refine if_pos ?_
  obtain h | h | h := h
  · simp [h]
  · simp [h]
  · simp [State.link, stL0, h]

variable (num : Nat) (ms : List LinkMsg) (fec : List (Fin 9)) (hrole : s.role p = 1 ∨ s.role p = 2)
  (hlink : s.get PRT_PORT_STS.STATE p = 4)
include hrole hlink

/-- A link of an UP or DN port in L0 takes it: the guard of FLIT_RECEIVE is not met. -/
theorem flit_taken : ¬((s.role p != 1 && s.role p != 2) || s.link p != stL0) = true := by
  have hne : ¬(s.role p ≠ 1 ∧ s.role p ≠ 2) := by omega
  simpa [State.link, stL0, hlink] using hne

theorem flitReceive_bad (mac : Bool) : flitReceive p num none mac fec s = flitBad (s.symbols p fec) p num :=
  if_neg (flit_taken hrole hlink)

theorem flitReceive_good : flitReceive p num (some ms) true fec s = flitGood (s.symbols p fec) p num ms :=
  if_neg (flit_taken hrole hlink)

theorem flitReceive_macFails : flitReceive p num (some ms) false fec s =
    (((flitReceive p num (some ms) true fec s).bump LNK_IDE_STS.MAC_FAIL p 1).record (portOcc p (lnkSet p) 4)).portContained p := by
  rw [flitReceive_good num ms fec hrole hlink]
  exact if_neg (flit_taken hrole hlink)

end

/-! A good flit (R271). -/

section
variable {s : State} {p num : Nat}

/-- A copy of a flit that was delivered changes nothing. -/
theorem flitGood_copy (ms : List LinkMsg) (h : num < (s.lnk p).next) : flitGood s p num ms = s := if_pos h

/-- With no flit held, none follows. -/
theorem flitDrain_none (fuel : Nat) (h : (s.lnk p).held = []) : flitDrain fuel s p = s := by
  cases fuel with
  | zero => rfl
  | succ n => simp [flitDrain, h]

/-- On a link with no hole the expected flit is delivered. -/
theorem flitGood_expected (ms : List LinkMsg) (h : s.lnk p = { next := num, top := num }) : flitGood s p num ms =
    flitDrain 32 (flitDelivered (s.setLnk p { next := num + 1, top := num + 1 }) p ms) p := by
  simp [flitGood, h]

end

/-- The link of port p in its next state, with its symbols counted (R253). -/
def State.linkStep (s : State) (p : Nat) (v : LnkState) : State := (s.symbols p []).setLnk p v

section
variable (s : State) (p : Nat) (v : LnkState)

theorem State.lnk_linkStep_same : (s.linkStep p v).lnk p = v := State.lnk_setLnk_same ..

theorem State.lnk_linkStep_ne {q : Nat} (h : q ≠ p) : (s.linkStep p v).lnk q = s.lnk q := State.lnk_setLnk_ne (s.symbols p []) p v h

theorem State.get_linkStep (f : Fld) (i : Nat) : (s.linkStep p v).get f i = s.get f i := rfl

theorem State.swc_linkStep : (s.linkStep p v).swc = s.swc := rfl

theorem State.out_linkStep : (s.linkStep p v).out = s.out := rfl

theorem State.linkStep_frame : { s.linkStep p v with ll := s.ll, prt := s.prt } = s := rfl

end

/-! One message (R267). -/

/-- A link with no hole where one credit of a channel is spent. -/
def oneSpent (n ch : Nat) : LnkState := { next := n, top := n, spent := Tab.put 0 [] ch 1 }

/-- The same once the credit has gone back. -/
def oneReturned (n ch : Nat) : LnkState := { next := n, top := n, spent := Tab.put 0 (Tab.put 0 [] ch 1) ch 0 }

/-- The cell of one message, as its input port stamps it. -/
def flitCell (s : State) (p : Nat) (m : LinkMsg) : Cell :=
  { source := p, out := m.dest, dest := m.far, tc := kindClass m.kind, need := kindCredits m.kind, data := m.data, reqs := m.req.toList
    ecc := m.ecc, since := s.timeOf (p / 16) }

/-- What an UP or DN port with no credit spent leaves once the credit of one message has gone back. -/
def State.creditPassed (s : State) (p n ch : Nat) : State :=
  ((s.setLnk p (oneSpent n ch)).setLnk p (oneReturned n ch)).emit (.link p 3 ch)

section
variable (s : State) (p n ch : Nat)

theorem State.creditPassed_lnk : (s.creditPassed p n ch).lnk p = oneReturned n ch := State.lnk_setLnk_same ..

theorem State.creditPassed_swc : (s.creditPassed p n ch).swc = s.swc := rfl

theorem State.creditPassed_out : (s.creditPassed p n ch).out = .link p 3 ch :: s.out := rfl

end

/-- What it leaves once a message's cell c is in its VOQ and the credit has gone back. -/
def State.cellDelivered (s : State) (p : Nat) (c : Cell) (n ch : Nat) : State :=
  ((((s.setLnk p (oneSpent n ch)).cellCounted p c).voqPut p c).setLnk p (oneReturned n ch)).emit (.link p 3 ch)

section
variable (s : State) (p : Nat) (c : Cell) (n ch : Nat)

theorem State.cellDelivered_lnk : (s.cellDelivered p c n ch).lnk p = oneReturned n ch := State.lnk_setLnk_same ..

theorem State.cellDelivered_out : (s.cellDelivered p c n ch).out = .link p 3 ch :: s.out :=
  congrArg (Msg.link p 3 ch :: ·) ((s.setLnk p (oneSpent n ch)).cellCounted_counted p c).out

variable {c} {tc : Nat} (htc : c.tc = tc)
include htc

theorem State.cellDelivered_voq {o : Nat} (hout : c.out = o) :
    Tab.get [] (s.cellDelivered p c n ch).swc.voq (voqKey p o tc) = Tab.get [] s.swc.voq (voqKey p o tc) ++ [c] := by
  have hcounted := ((s.setLnk p (oneSpent n ch)).cellCounted_counted p c).swc
  refine (State.voqPut_voq ((s.setLnk p (oneSpent n ch)).cellCounted p c) p hout htc).trans ?_
  rw [hcounted]
  rfl

/-- The count of waiting cells grows by one while it is below a limit. -/
theorem State.cellDelivered_cells (hroom : s.get SWC_VOQ_OCC.CELLS (8 * p + tc) < s.get SWC_VOQ_LIM.LIMIT (8 * p + tc)) :
    (s.cellDelivered p c n ch).get SWC_VOQ_OCC.CELLS (8 * p + tc) = s.get SWC_VOQ_OCC.CELLS (8 * p + tc) + 1 := by
  have hcounted : ((s.setLnk p (oneSpent n ch)).cellCounted p c).get SWC_VOQ_OCC.CELLS (8 * p + tc) =
      s.get SWC_VOQ_OCC.CELLS (8 * p + tc) := ((s.setLnk p (oneSpent n ch)).cellCounted_counted p c).get (by decide)
  have hlimit : s.get SWC_VOQ_LIM.LIMIT (8 * p + tc) < 2 ^ SWC_VOQ_OCC.CELLS.w := s.get_lt SWC_VOQ_LIM.LIMIT _
  refine (State.voqPut_cells ((s.setLnk p (oneSpent n ch)).cellCounted p c) p htc).trans ?_
  rw [hcounted, Nat.mod_eq_of_lt (by omega)]

end

section
variable {s : State} {p : Port} {n ch : Nat} {m : LinkMsg} (hrole : s.role p = 1 ∨ s.role p = 2)
  (hlnk : s.lnk p = { next := n, top := n }) (hneed : kindCredits m.kind = [ch]) (hadv : 0 < advertised s p ch)
  (hio : kindIo m.kind = false) (hbad : m.bad = false) (hgated : s.flag LNK_STS.IDE_GATED p = false)
include hrole hlnk hneed hadv hio hbad hgated

/-- For an internal sink: its credit goes back at once. -/
theorem flitDelivered_sink (hdest : 64 ≤ m.dest) : flitDelivered s p [m] = s.creditPassed p n ch := by
  have hcredit : creditHeld s p (kindCredits m.kind) = true := hneed ▸ creditHeld_unspent (by rw [hlnk]) hadv
  have hback : (s.setLnk p (oneSpent n ch)).creditBack p [ch] = s.creditPassed p n ch := by
    rw [State.creditBack_one (s := s.setLnk p (oneSpent n ch)) ch hrole, State.lnk_setLnk_same]
    simp [oneSpent, oneReturned, State.creditPassed]
  unfold flitDelivered
  rw [flitMsgs_sink [] [] hcredit hbad hgated hio hdest, hneed, hlnk]
  exact hback

/-- For an output in service, in a class with room: its cell is put into its VOQ, and its credit goes back. -/
theorem flitDelivered_output (hdest : m.dest < 64) (hserve : s.inService m.dest = true) (hroom : AdmitsFreely s p (kindClass m.kind)) :
    flitDelivered s p [m] = s.cellDelivered p (flitCell s p m) n ch := by
  have hcredit : creditHeld s p (kindCredits m.kind) = true := hneed ▸ creditHeld_unspent (by rw [hlnk]) hadv
  have hroom' : AdmitsFreely (s.setLnk p (oneSpent n ch)) p (kindClass m.kind) :=
    ⟨hroom.room, hroom.ovf, hroom.held, hroom.delay, hroom.glean⟩
  have hlnk' : (((s.setLnk p (oneSpent n ch)).cellCounted p (flitCell s p m)).voqPut p (flitCell s p m)).lnk p = oneSpent n ch :=
    (State.lnk_of_ll ((s.setLnk p (oneSpent n ch)).cellCounted_counted p (flitCell s p m)).ll p).trans (State.lnk_setLnk_same ..)
  have hrole' : (((s.setLnk p (oneSpent n ch)).cellCounted p (flitCell s p m)).voqPut p (flitCell s p m)).role p = s.role p :=
    ((s.setLnk p (oneSpent n ch)).cellCounted_counted p (flitCell s p m)).role p
  have hback : (((s.setLnk p (oneSpent n ch)).cellCounted p (flitCell s p m)).voqPut p (flitCell s p m)).creditBack p [ch] =
      s.cellDelivered p (flitCell s p m) n ch := by
    rw [State.creditBack_one ch (by rwa [hrole']), hlnk']
    simp [oneSpent, oneReturned, State.cellDelivered]
  unfold flitDelivered
  rw [flitMsgs_output [] [] hcredit hbad hgated hio hdest, hneed, hlnk, ← hback]
  have harrive := hroom'.arrive (c := { flitCell s p m with since := 0 }) p.isLt rfl hserve
  exact harrive.trans (congrArg (fun need => State.creditBack _ p need) hneed)

end

/-! What FLIT_RECEIVE does with the expected flit on a link with no hole. -/

section
variable {s : State} {p : Port} {num : Nat} (hrole : s.role p = 1 ∨ s.role p = 2) (hlink : s.get PRT_PORT_STS.STATE p = 4)
  (hlnk : s.lnk p = { next := num, top := num })
include hrole hlink hlnk

/-- It is delivered, and where that leaves none held nothing follows it. -/
theorem flitReceive_expected {ms : List LinkMsg} {t : State}
    (hdeliver : flitDelivered (s.linkStep p { next := num + 1, top := num + 1 }) p ms = t) (hheld : (t.lnk p).held = []) :
    flitReceive p num (some ms) true [] s = t := by
  have hlnk' : (s.symbols p []).lnk p = { next := num, top := num } := hlnk
  rw [flitReceive_good num ms [] hrole hlink, flitGood_expected ms hlnk', ← State.linkStep, hdeliver]
  exact flitDrain_none 32 hheld

/-- A flit with no message only advances the link. -/
theorem flitReceive_empty : flitReceive p num (some []) true [] s = s.linkStep p { next := num + 1, top := num + 1 } :=
  flitReceive_expected hrole hlink hlnk rfl (congrArg LnkState.held (s.lnk_linkStep_same p _))

/-- With its MAC failing the link goes down all the same (R276). -/
theorem flitReceive_empty_macFails : flitReceive p num (some []) false [] s =
    (((s.linkStep p { next := num + 1, top := num + 1 }).bump LNK_IDE_STS.MAC_FAIL p 1).record (portOcc p (lnkSet p) 4)).portContained
      p := by
  rw [flitReceive_macFails num [] [] hrole hlink, flitReceive_empty hrole hlink hlnk]

end

/-! A flit that fails its CRC (R271, R298). -/

/-- It is counted, and LNK_CRC_FLIT recorded. -/
def State.flitErred (s : State) (p : Nat) : State :=
  ((s.bump LNK_ERR.CRC_FLITS p 1).count (p / 16) 0x1D (p % 16) 1).record (portOcc p (lnkSet p) 0)

/-- A NAK is counted in field f and sent, and the link waits for the flit again. -/
def State.flitNaked (s : State) (p : Nat) (f : Fld) (v : LnkState) (m : Msg) : State := (((s.flitErred p).bump f p 1).setLnk p v).emit m

section
variable {s : State} {p : Port} {num : Nat}

theorem State.flitErred_noted (s : State) (p : Port) : Noted (s.bump LNK_ERR.CRC_FLITS p 1) (s.flitErred p) := by
  rw [State.flitErred, State.record_of_mild _ _ (lnkOcc_mild p (by decide))]
  exact (Noted.count ..).trans (.noted ..)

theorem State.flitErred_stsBit (hrgn : s.rgn (p / 16) ≠ 2) : (s.flitErred p).stsBit (lnkSet p) 0 := by
  refine State.record_stsBit _ (portOcc p (lnkSet p) 0) (show 0 < 32 by decide) (State.lnkSet_records ?_)
  rwa [(Noted.count ..).rgn, State.bump, State.rgn_set _ _ _ (by decide)]

/-- The link's next state and a message leave every field alone. -/
theorem State.get_emit_setLnk (u : State) (p : Nat) (v : LnkState) (m : Msg) (g : Fld) (i : Nat) :
    ((u.setLnk p v).emit m).get g i = u.get g i := rfl

/-- What a NAKed flit leaves: both counts, the error's bit and the message. -/
theorem State.flitNaked_shows {f : Fld} (hf : f = LNK_ERR.SEL_NAKS ∨ f = LNK_ERR.STD_NAKS) (v : LnkState) (m : Msg)
    (hrgn : s.rgn (p / 16) ≠ 2) :
    (s.flitNaked p f v m).lnk p = v ∧
      (s.flitNaked p f v m).get LNK_ERR.CRC_FLITS p = satAdd LNK_ERR.CRC_FLITS.w (s.get LNK_ERR.CRC_FLITS p) 1 ∧
      (s.flitNaked p f v m).get f p = satAdd f.w (s.get f p) 1 ∧
      (s.flitNaked p f v m).stsBit (lnkSet p) 0 ∧ (s.flitNaked p f v m).swc = s.swc ∧ m ∈ (s.flitNaked p f v m).out := by
  have hfield : f.lo + f.w ≤ 32 ∧ f.apart LNK_ERR.CRC_FLITS = true ∧ LNK_ERR.CRC_FLITS.apart f = true ∧ f.reg ∉ noteRegs := by
    obtain rfl | rfl := hf
    · decide
    · decide
  obtain ⟨hw, hapart, hapart', hreg⟩ := hfield
  have hn := s.flitErred_noted p
  have hsts := State.flitErred_stsBit (p := p) hrgn
  unfold State.flitNaked
  generalize s.flitErred p = u at hn hsts
  refine ⟨State.lnk_setLnk_same .., ?_, ?_, (State.stsBit_of_ces rfl _ _).2 hsts, hn.swc, List.mem_cons_self⟩
  · rw [State.get_emit_setLnk, State.bump, State.get_set_apart _ _ hapart, hn.get (by decide)]
    exact s.get_bump_same p 1 (by decide)
  · rw [State.get_emit_setLnk, State.get_bump_same _ _ _ hw, hn.get hreg, State.bump, State.get_set_apart _ _ hapart']

variable (hlnk : s.lnk p = { next := num, top := num })
include hlnk

/-- The first flit to fail on a link with no hole is asked for again alone. -/
theorem flitBad_selective (hsel : s.flag LNK_CTL.SEL_NAK_EN p = true) : flitBad s p num =
    s.flitNaked p LNK_ERR.SEL_NAKS { next := num, top := num + 1, naks := [(num, 1)] } (.link p 1 num) := by
  have hn := s.flitErred_noted p
  have hlnk' : (s.flitErred p).lnk p = { next := num, top := num } := (State.lnk_of_ll hn.ll p).trans hlnk
  have hsel' : (s.flitErred p).flag LNK_CTL.SEL_NAK_EN p = true := by
    rw [State.flag, hn.get (by decide), State.bump, State.get_set_apart _ _ (by decide)]
    exact hsel
  unfold flitBad
  rw [← State.flitErred]
  simp [hlnk', hsel', State.flitNaked]

/-- Where that is off, it is asked for with all that follow it. -/
theorem flitBad_standard (hsel : s.flag LNK_CTL.SEL_NAK_EN p = false) : flitBad s p num =
    s.flitNaked p LNK_ERR.STD_NAKS { next := num, top := num, std := true } (.link p 2 num) := by
  have hn := s.flitErred_noted p
  have hlnk' : (s.flitErred p).lnk p = { next := num, top := num } := (State.lnk_of_ll hn.ll p).trans hlnk
  have hsel' : (s.flitErred p).flag LNK_CTL.SEL_NAK_EN p = false := by
    rw [State.flag, hn.get (by decide), State.bump, State.get_set_apart _ _ (by decide)]
    exact hsel
  unfold flitBad
  rw [← State.flitErred]
  simp [hlnk', hsel', State.flitNaked, stdNak]

end

/-! Flits that are sent again (R270–R272). -/

/-- The flits that are being sent again, with those of a NAK. -/
def flitsAsked (l : LnkState) (again : List (Nat × Cell)) : LnkState := { l with again := (l.again ++ again.map (fun e => e.1)).dedup }

/-- The flits of a NAK leave once more, each under its key sets. -/
def State.flitsResent (s : State) (p : Nat) (again : List (Nat × Cell)) : State :=
  again.foldl (fun s e => (s.emit (.link p 5 e.1)).emit (.link p 6 e.2.kset))
    (((s.setLnk p (flitsAsked (s.lnk p) again)).countPort p 22 again.length).countPort
      p 1 again.length)

/-- The flits that a NAK of number n names. -/
def flitsNaked (l : LnkState) (n : Nat) (sel : Bool) : List (Nat × Cell) :=
  l.replay.filter (fun e => if sel then e.1 == n else e.1 ≥ n)

section
variable {s : State} {p : Port} {n : Nat} {sel : Bool}

theorem State.flitsResent_counted (s : State) (p : Nat) (again : List (Nat × Cell)) :
    ∃ u, Counted [.PMC_CFG] (s.setLnk p (flitsAsked (s.lnk p) again)) u ∧
      s.flitsResent p again = again.foldl (fun s e => (s.emit (.link p 5 e.1)).emit (.link p 6 e.2.kset)) u :=
  ⟨_, ((Counted.refl ..).countPort (by decide)).countPort (by decide), rfl⟩

theorem State.flitsResent_noted (s : State) (p : Nat) (again : List (Nat × Cell)) :
    Noted (s.setLnk p (flitsAsked (s.lnk p) again)) (s.flitsResent p again) :=
  ((Noted.countPort ..).trans (.countPort ..)).trans (.foldl _ _ (fun _ _ => (Noted.emit ..).trans (.emit ..)) _)

theorem flitNakReceive_resends {ecc : Bool} (h : ecc = false ∨ flitsNaked (s.lnk p) n sel = []) :
    flitNakReceive p n sel ⟨false, ecc⟩ s = s.flitsResent p (flitsNaked (s.lnk p) n sel) := by
  refine if_neg ?_
  obtain rfl | h := h
  · simp
  · have h' : (s.lnk p).replay.filter (fun e => if sel then e.1 == n else e.1 ≥ n) = [] := h
    simp [h']

/-- A replay count that rolls over starts Recovery where the link is in L0 (R270). -/
theorem flitNakReceive_rollsOver : flitNakReceive p n sel ⟨true, false⟩ s =
    let t := (s.flitsResent p (flitsNaked (s.lnk p) n sel)).record (portOcc p (lnkSet p) 1)
    if t.link p = stL0 then t.onLink p (fun s q => s.setLink q stRecovery) else t := rfl

/-- An uncorrectable replay buffer takes the link down (R298). -/
theorem flitNakReceive_uncorrectable (h : flitsNaked (s.lnk p) n sel ≠ []) :
    flitNakReceive p n sel ⟨false, true⟩ s = (s.record (portOcc p (lnkSet p) 5)).portContained p :=
  if_pos ((Bool.true_and _).trans (bne_iff_ne.2 h))

theorem flitsNaked_ne_nil (h : (s.lnk p).replay.any (fun e => e.1 == n) = true) : flitsNaked (s.lnk p) n sel ≠ [] := by
  obtain ⟨e, he, hn⟩ := List.any_eq_true.1 h
  have hn' : e.1 = n := by simpa using hn
  refine List.ne_nil_of_mem (List.mem_filter.2 ⟨he, ?_⟩)
  cases sel
  · simp [hn']
  · simp [hn']

theorem flitsNaked_nil (h : (s.lnk p).replay.all (fun e => e.1 < n) = true) : flitsNaked (s.lnk p) n sel = [] := by
  refine List.filter_eq_nil_iff.2 fun e he => ?_
  have hlt : e.1 < n := by simpa using List.all_eq_true.1 h e he
  cases sel
  · simp [hlt]
  · simp [Nat.ne_of_lt hlt]

/-- A rollover on a link of one port in L0 takes it to Recovery, and is recorded. -/
theorem flitNakReceive_recovers (hrgn : s.rgn (p / 16) ≠ 2) (hgang : s.flag PRT_PORT_STS.GANGED p = false)
    (hlink : s.get PRT_PORT_STS.STATE p = 4) :
    (flitNakReceive p n sel ⟨true, false⟩ s).get PRT_PORT_STS.STATE p = 5 ∧
      (flitNakReceive p n sel ⟨true, false⟩ s).stsBit (lnkSet p) 1 := by
  have hresent := s.flitsResent_noted p (flitsNaked (s.lnk p) n sel)
  have hn := hresent.trans (.noted _ (portOcc p (lnkSet p) 1))
  have hsts : ((s.flitsResent p (flitsNaked (s.lnk p) n sel)).record (portOcc p (lnkSet p) 1)).stsBit (lnkSet p) 1 := by
    refine State.record_stsBit _ (portOcc p (lnkSet p) 1) (show 1 < 32 by decide) (State.lnkSet_records ?_)
    rw [hresent.rgn]
    exact hrgn
  rw [← State.record_of_mild _ _ (lnkOcc_mild p (by decide))] at hn
  have hlink' := (hn.get (f := PRT_PORT_STS.STATE) (i := p) (by decide)).trans hlink
  have hgang' := (congrArg (fun x => x != 0) (hn.get (f := PRT_PORT_STS.GANGED) (i := p) (by decide))).trans hgang
  have heq : flitNakReceive p n sel ⟨true, false⟩ s =
      ((s.flitsResent p (flitsNaked (s.lnk p) n sel)).record (portOcc p (lnkSet p) 1)).setLink p 5 :=
    flitNakReceive_rollsOver.trans ((if_pos hlink').trans (State.onLink_single _ hgang'))
  rw [heq]
  exact ⟨(State.setLink_moves _ p (by decide)).1, hsts⟩

end

/-- The one flit of a NAK leaves again under its key sets. -/
theorem State.flitsResent_one (s : State) (p n : Nat) (c : Cell) :
    (s.flitsResent p [(n, c)]).out = .link p 6 c.kset :: .link p 5 n :: s.out ∧
      (s.flitsResent p [(n, c)]).lnk p = { s.lnk p with again := ((s.lnk p).again ++ [n]).dedup } ∧
      { (s.flitsResent p [(n, c)]).quiet with ll := s.ll } = s.quiet := by
  obtain ⟨u, hcounted, heq⟩ := s.flitsResent_counted p [(n, c)]
  rw [heq]
  refine ⟨congrArg (fun o => Msg.link p 6 c.kset :: .link p 5 n :: o) hcounted.out,
    (State.lnk_of_ll hcounted.ll p).trans (State.lnk_setLnk_same ..), ?_⟩
  exact (congrArg (fun x : State => { x.quiet with ll := s.ll }) hcounted.uncounted :)

/-- With no flit to send again nothing leaves. -/
theorem State.flitsResent_nil (s : State) (p : Nat) (hagain : (s.lnk p).again.dedup = (s.lnk p).again) :
    (s.flitsResent p []).out = s.out ∧ (s.flitsResent p []).lnk p = s.lnk p := by
  obtain ⟨u, hcounted, heq⟩ := s.flitsResent_counted p []
  rw [heq]
  refine ⟨hcounted.out, (State.lnk_of_ll hcounted.ll p).trans ?_⟩
  rw [State.lnk_setLnk_same, flitsAsked, List.map_nil, List.append_nil, hagain]

section
variable {s : State} {p : Port} {num : Nat} {m : LinkMsg} (hlink : s.get PRT_PORT_STS.STATE p = 4)
  (hmem : s.flag LNK_STS.MEM p = true) (hlnk : s.lnk p = { next := num, top := num }) (hbad : m.bad = false)
  (hgated : s.flag LNK_STS.IDE_GATED p = false)
include hlink hmem hlnk hbad hgated

/-- The expected flit of a DN port with one S2M NDR for an output in service. -/
theorem flitReceive_output (hrole : s.role p = 2) (hkind : m.kind = .s2mNdr) (hdest : m.dest < 64) (hserve : s.inService m.dest = true)
    (hroom : AdmitsFreely s p 6) : flitReceive p num (some [m]) true [] s =
      (s.linkStep p { next := num + 1, top := num + 1 }).cellDelivered p (flitCell s p m) (num + 1) 3 := by
  have hadv : 0 < advertised (s.linkStep p { next := num + 1, top := num + 1 }) p 3 := by
    have hall := advertised_s2mNdr (s := s.linkStep p { next := num + 1, top := num + 1 }) hrole hmem
    omega
  have hroom' : AdmitsFreely (s.linkStep p { next := num + 1, top := num + 1 }) p (kindClass m.kind) := by
    rw [hkind]
    exact ⟨hroom.room, hroom.ovf, hroom.held, hroom.delay, hroom.glean⟩
  refine flitReceive_expected (.inr hrole) hlink hlnk ?_ (congrArg LnkState.held (State.cellDelivered_lnk ..))
  exact flitDelivered_output (.inr hrole) (s.lnk_linkStep_same p _) (hkind ▸ rfl) hadv (hkind ▸ rfl) hbad hgated hdest hserve hroom'

/-- The expected flit of an UP port with one M2S request for an internal sink. -/
theorem flitReceive_sink (hrole : s.role p = 1) (hkind : m.kind = .m2sReq) (hdest : 64 ≤ m.dest) :
    flitReceive p num (some [m]) true [] s =
      (s.linkStep p { next := num + 1, top := num + 1 }).creditPassed p (num + 1) 0 := by
  have hadv : 0 < advertised (s.linkStep p { next := num + 1, top := num + 1 }) p 0 := by
    have hall := advertised_m2sReq (s := s.linkStep p { next := num + 1, top := num + 1 }) hrole hmem
    omega
  refine flitReceive_expected (.inl hrole) hlink hlnk ?_ (congrArg LnkState.held (State.creditPassed_lnk ..))
  exact flitDelivered_sink (.inl hrole) (s.lnk_linkStep_same p _) (hkind ▸ rfl) hadv (hkind ▸ rfl) hbad hgated hdest

end

/-! Acknowledgements and credits (R268, R270). -/

/-- The replay buffer once the flits up to n are acknowledged. -/
def flitsAcked (l : LnkState) (n : Nat) : LnkState :=
  { l with replay := l.replay.filter (fun e => e.1 > n), again := l.again.filter (fun m => m > n) }

/-- A channel's credits grow by k. -/
def creditAdded (l : LnkState) (c : Fin 14) (k : Nat) : LnkState := { l with credit := Tab.put 0 l.credit c (Tab.get 0 l.credit c + k) }

theorem flitAckReceive_eq (s : State) (p : Port) (n : Nat) : flitAckReceive p n s = s.setLnk p (flitsAcked (s.lnk p) n) := rfl

theorem creditUpdate_eq (s : State) (p : Port) (c : Fin 14) (k : Nat) :
    creditUpdate p c k s = s.setLnk p (creditAdded (s.lnk p) c k) := rfl

/-- A flit whose MAC fails takes an UP port's link down, and is counted and recorded (R276). -/
theorem State.macFailed_shows {s : State} {p : Port} (hlink : s.get PRT_PORT_STS.STATE p = 4) (hgang : s.flag PRT_PORT_STS.GANGED p = false)
    (hrole : s.role p = 1) (hrgn : s.rgn (p / 16) ≠ 2) :
    (((s.bump LNK_IDE_STS.MAC_FAIL p 1).record (portOcc p (lnkSet p) 4)).portContained p).get PRT_PORT_STS.STATE p = 1 ∧
      (((s.bump LNK_IDE_STS.MAC_FAIL p 1).record (portOcc p (lnkSet p) 4)).portContained p).get LNK_IDE_STS.MAC_FAIL p =
        satAdd LNK_IDE_STS.MAC_FAIL.w (s.get LNK_IDE_STS.MAC_FAIL p) 1 ∧
      (((s.bump LNK_IDE_STS.MAC_FAIL p 1).record (portOcc p (lnkSet p) 4)).portContained p).stsBit (lnkSet p) 4 := by
  have hcount := s.get_bump_same p 1 (f := LNK_IDE_STS.MAC_FAIL) (by decide)
  have hlink' : (s.bump LNK_IDE_STS.MAC_FAIL p 1).get PRT_PORT_STS.STATE p = 4 := (State.get_set_apart _ _ (by decide)).trans hlink
  have hgang' : (s.bump LNK_IDE_STS.MAC_FAIL p 1).flag PRT_PORT_STS.GANGED p = false :=
    (State.flag_set_apart _ _ (by decide)).trans hgang
  have hrgn' : (s.bump LNK_IDE_STS.MAC_FAIL p 1).rgn (p / 16) ≠ 2 := by rwa [State.bump, State.rgn_set _ _ _ (by decide)]
  have hrole' : (s.bump LNK_IDE_STS.MAC_FAIL p 1).role p = 1 := hrole
  generalize s.bump LNK_IDE_STS.MAC_FAIL p 1 = u at hcount hlink' hgang' hrgn' hrole'
  obtain ⟨hdown, hsts⟩ := State.record_portContained hrole' hlink' hgang' (classOf_lnkSet p (e := 4) (by decide))
    (State.lnkSet_records hrgn') (by decide)
  exact ⟨hdown.state, (congrArg (fun w => bits w _ _) (hdown.word .LNK_IDE_STS p (by decide))).trans hcount, hsts⟩

/-- Settles O32, by the state that each command leaves: of a flit by what becomes of it (delivered, ignored, NAKed), of a NAK by the
flits that it names. -/
theorem flitsAndCredits : Obligations.FlitsAndCredits := by
  unfold Obligations.FlitsAndCredits
  refine ⟨fun s p num m hrole hmem hlink hlnk hkind hdest hbad hgated hserve hroom hovf hheld hhist hgln => ?_,
    fun s p num m hrole hmem hlink hlnk hkind hdest hbad hgated => ?_,
    fun s p num hrole hlink hlnk => ⟨?_, fun hgang hup hrgn => ?_⟩,
    fun s p num ms hrole hlink hold => ?_, fun s p num b m f h => congrArg Host.Outcome.next (flitReceive_ignored h),
    fun s p num hrole hlink hlnk hrgn => ⟨fun hsel => ?_, fun hsel => ?_⟩,
    fun s p n => ⟨?_, fun c k => ?_⟩, fun s p n c hreplay => ?_, fun s p n hreplay hagain sel ecc => ?_,
    fun s p n sel hrgn hgang hup hlink => ⟨?_, fun hany => ?_⟩⟩
  · have hadmit : AdmitsFreely s p 6 :=
      ⟨hroom, hovf, hheld, hhist, fun n hn => by simpa using List.all_eq_true.1 hgln n (List.mem_range.2 hn)⟩
    have hcell : flitCell s p m = { flitCell s p m with tc := 6, need := [3] } := by
      simp [flitCell, hkind, kindClass, kindCredits]
    have hclass : (flitCell s p m).tc = 6 := congrArg Cell.tc hcell
    have hvoq := (s.linkStep p { next := num + 1, top := num + 1 }).cellDelivered_voq p (num + 1) 3 hclass (o := m.dest) rfl
    have hcells := (s.linkStep p { next := num + 1, top := num + 1 }).cellDelivered_cells p (num + 1) 3 hclass hroom
    rw [State.get_linkStep] at hcells
    have hlnk' := (s.linkStep p { next := num + 1, top := num + 1 }).cellDelivered_lnk p (flitCell s p m) (num + 1) 3
    exact ⟨_, congrArg Host.Outcome.next (flitReceive_output hlink hmem hlnk hbad hgated hrole hkind hdest hserve hadmit),
      congrArg LnkState.next hlnk', congrArg (fun l : LnkState => Tab.get 0 l.spent 3) hlnk',
      hvoq.trans (congrArg (fun c => Tab.get [] s.swc.voq (voqKey p m.dest 6) ++ [c]) hcell), State.cellDelivered_out .., hcells⟩
  · have hlnk' := (s.linkStep p { next := num + 1, top := num + 1 }).creditPassed_lnk p (num + 1) 0
    have hswc := (s.linkStep p { next := num + 1, top := num + 1 }).creditPassed_swc p (num + 1) 0
    have hout := (s.linkStep p { next := num + 1, top := num + 1 }).creditPassed_out p (num + 1) 0
    rw [State.swc_linkStep] at hswc
    rw [State.out_linkStep] at hout
    exact ⟨_, congrArg Host.Outcome.next (flitReceive_sink hlink hmem hlnk hbad hgated hrole hkind hdest), congrArg LnkState.next hlnk',
      congrArg (fun l : LnkState => Tab.get 0 l.spent 0) hlnk', hswc, hout⟩
  · exact ⟨_, congrArg Host.Outcome.next (flitReceive_empty hrole hlink hlnk), State.lnk_linkStep_same ..,
      fun q hq => State.lnk_linkStep_ne _ _ _ hq, State.linkStep_frame ..⟩
  · exact ⟨_, congrArg Host.Outcome.next (flitReceive_empty_macFails hrole hlink hlnk), State.macFailed_shows hlink hgang hup hrgn⟩
  · exact ⟨_, congrArg Host.Outcome.next ((flitReceive_good num ms [] hrole hlink).trans (flitGood_copy ms hold)), rfl⟩
  · exact ⟨_, congrArg Host.Outcome.next ((flitReceive_bad num [] hrole hlink true).trans (flitBad_selective hlnk hsel)),
      State.flitNaked_shows (.inl rfl) _ _ hrgn⟩
  · exact ⟨_, congrArg Host.Outcome.next ((flitReceive_bad num [] hrole hlink true).trans (flitBad_standard hlnk hsel)),
      State.flitNaked_shows (.inr rfl) _ _ hrgn⟩
  · have hlnk := s.lnk_setLnk_same p (flitsAcked (s.lnk p) n)
    exact ⟨_, congrArg Host.Outcome.next (flitAckReceive_eq s p n), congrArg LnkState.replay hlnk, congrArg LnkState.again hlnk,
      congrArg (fun l : LnkState => { l with replay := (s.lnk p).replay, again := (s.lnk p).again }) hlnk,
      fun q hq => State.lnk_setLnk_ne _ _ _ hq, rfl⟩
  · have hlnk := congrArg LnkState.credit (s.lnk_setLnk_same p (creditAdded (s.lnk p) c k))
    refine ⟨_, congrArg Host.Outcome.next (creditUpdate_eq s p c k), ?_, fun d hd => ?_, fun q hq => State.lnk_setLnk_ne _ _ _ hq, rfl⟩
    · rw [hlnk, creditAdded, Tab.get_put_same]
    · rw [hlnk, creditAdded, Tab.get_put_ne _ _ _ _ _ _ hd]
  · have hnaked : flitsNaked (s.lnk p) n true = [(n, c)] := hreplay
    obtain ⟨hout, hlnk, hquiet⟩ := s.flitsResent_one p n c
    refine ⟨_, congrArg Host.Outcome.next (flitNakReceive_resends (.inl rfl)), ?_⟩
    rw [hnaked, hlnk]
    exact ⟨hout, List.mem_dedup.2 (List.mem_append_right _ (List.mem_singleton_self n)), rfl, hquiet⟩
  · have hnaked : flitsNaked (s.lnk p) n sel = [] := flitsNaked_nil hreplay
    refine ⟨_, congrArg Host.Outcome.next (flitNakReceive_resends (.inr hnaked)), ?_⟩
    rw [hnaked]
    exact s.flitsResent_nil p hagain
  · exact ⟨_, rfl, flitNakReceive_recovers hrgn hgang hlink⟩
  · obtain ⟨hdown, hsts⟩ := State.record_portContained hup hlink hgang (classOf_lnkSet p (e := 5) (by decide))
      (State.lnkSet_records hrgn) (by decide)
    exact ⟨_, congrArg Host.Outcome.next (flitNakReceive_uncorrectable (flitsNaked_ne_nil hany)), hdown.state, hsts⟩

end Sys2Proof.Machine
end

section
/-! SUPPORT. The loss of the last Zwius link to a unit (R156, R294), and the theorems that refute O34 and O35. The requests that were sent
over it end with PATH_LOST, which frees their trackers; a request that waited for a tracker is then presented to its bank (R111), and what
the checks of the stores find at it may be REGION_FATAL (R87). In the last region that runs that is CHIP_FATAL (R42), by which every port
stops (R472). No hypothesis excludes it, so that a link that is declared down does not always come to stand in Detect. -/
namespace Sys2Proof.Machine
open Sys2Proof

/-- A port in service, whatever its role, is contained from its output to its input. -/
theorem State.portContained_served {s : State} {p : Nat} (hrole : s.role p ≠ 0) (hserve : s.inService p = true)
    (hgang : s.flag PRT_PORT_STS.GANGED p = false) : s.portContained p = ((s.outputLost p).lossOf p).emptyInput p := by
  have hdown : s.linkDown p 1 = (s.outputLost p).lossOf p := by
    unfold State.linkDown
    rw [if_neg hrole, if_pos hserve]
    rfl
  unfold State.portContained State.linkPorts
  rw [hgang, if_neg Bool.false_ne_true, List.foldl_cons, List.foldl_nil, if_neg hrole, if_pos hserve, hdown]

/-- The agents of a unit die (R127). Here and below u is the unit's number plus 1, as `CatState.peer` keeps it. -/
def State.unitDies (s : State) (u : Nat) : State := (List.range 256).foldl (fun s i => s.die (256 * (u - 1) + i) .all) s

/-- That changes the list of the dying and nothing else. -/
theorem State.unitDies_eq (s : State) (u : Nat) : s.unitDies u = s.inCat fun c => { c with dying := (s.unitDies u).cat.dying } := by
  unfold State.unitDies
  refine List.foldlRecOn (motive := fun t : State => t = s.inCat fun c => { c with dying := t.cat.dying }) _ _ rfl fun t ht i _ => ?_
  unfold State.die
  split
  · exact ht
  · exact (congrArg (fun x : State => x.inCat fun c => { c with dying := t.cat.dying ++ [(256 * (u - 1) + i, .all)] }) ht :)

/-- A link's peer is no longer reached by it. -/
def State.unpeered (s : State) (z : Nat) : State := s.inCat fun c => { c with peer := Tab.put 0 c.peer z 0 }

/-- The last link to a unit is gone: the unit's agents are dying, and the requests over the link are forgotten. -/
def State.peerLost (s : State) (z u : Nat) : State :=
  ((s.unpeered z).inCat fun c => { c with dying := ((s.unpeered z).unitDies u).cat.dying }).inCat fun c =>
    { c with zreq := c.zreq.filter (fun q => q.z != z) }

/-- Those requests end with PATH_LOST (R156). -/
def State.pathsLost (s : State) (z u : Nat) : State :=
  (s.cat.zreq.filter (fun q => q.z == z)).foldl (fun s x => s.pathLost x.q (u - 1)) (s.peerLost z u)

/-- Zwius index z reaches the unit, and no other link in service does. -/
abbrev State.lastLink (s : State) (z u : Nat) : Prop :=
  u ≠ 0 ∧ Tab.get 0 s.cat.peer z = u ∧
    (List.range 8).find? (fun y => Tab.get 0 (Tab.put 0 s.cat.peer z 0) y == u && s.inService (zPort y)) = none

theorem State.zwlLoss_last {s : State} {z u : Nat} (h : s.lastLink z u) : s.zwlLoss z = s.pathsLost z u := by
  obtain ⟨hu, hpeer, hlast⟩ := h
  have hlost : s.peerLost z u = ((s.unpeered z).unitDies u).inCat fun c => { c with zreq := c.zreq.filter (fun q => q.z != z) } :=
    congrArg (fun t : State => t.inCat fun c => { c with zreq := c.zreq.filter (fun q => q.z != z) }) (State.unitDies_eq ..).symm
  unfold State.zwlLoss State.pathsLost
  rw [hpeer, hlost]
  extract_lets u1 s1 mine
  have hlast' : (List.range 8).find? (fun y => Tab.get 0 s1.cat.peer y == u1 && s1.inService (zPort y)) = none := hlast
  rw [if_neg (show ¬u1 = 0 from hu), hlast']
  rfl

/-- ZWL_LINK_DOWN is counted and recorded (R294). -/
def State.zwlDownNoted (s : State) (z : Nat) : State := (s.bump ZWL_ERR.DOWNS z 1).record (portOcc (zPort z) (zwlSet z) 2)

/-- What the containment of the link's port comes to when the link was the last one to unit u. -/
def State.zwlDownLast (s : State) (z u : Nat) : State :=
  (((s.zwlDownNoted z).outputLost (zPort z)).pathsLost z u).emptyInput (zPort z)

theorem State.zwlDown_last {s : State} {z u : Nat} (hz : zIndex (zPort z) = z) (hrole : (s.zwlDownNoted z).role (zPort z) = 3)
    (hserve : (s.zwlDownNoted z).inService (zPort z) = true) (hgang : (s.zwlDownNoted z).flag PRT_PORT_STS.GANGED (zPort z) = false)
    (hlast : ((s.zwlDownNoted z).outputLost (zPort z)).lastLink z u) : s.zwlDown z = s.zwlDownLast z u := by
  have hrole' : ((s.zwlDownNoted z).outputLost (zPort z)).role (zPort z) = 3 :=
    ((State.outputLost_keeps _ _).role _).trans ((State.role_linkCleared _ _ 1 _).trans hrole)
  have hloss : ((s.zwlDownNoted z).outputLost (zPort z)).lossOf (zPort z) = ((s.zwlDownNoted z).outputLost (zPort z)).pathsLost z u := by
    unfold State.lossOf
    rw [hrole', if_neg (by decide), if_neg (by decide), if_pos rfl, hz, State.zwlLoss_last hlast]
  exact (State.portContained_served (by omega) hserve hgang).trans (congrArg (fun t : State => t.emptyInput (zPort z)) hloss)

/-- The port's state is then that which the loss of its requests leaves. -/
theorem State.zwlDownLast_state (s : State) (z u : Nat) : (s.zwlDownLast z u).get PRT_PORT_STS.STATE (zPort z) =
    (((s.zwlDownNoted z).outputLost (zPort z)).pathsLost z u).get PRT_PORT_STS.STATE (zPort z) :=
  congrArg (fun w => bits w _ _) ((CellKeeps.refl _).emptyInput.word .PRT_PORT_STS (zPort z) (by decide))

/-- A read of a host of port 3 at whose lookup the region's copy of the group differs from the others (GROUP_COPY_MISMATCH). -/
def mismatchedRead : Access :=
  { agent := agentId 0 3 0, tag := 8, addr := 5 * 2 ^ 28, port := 3, src := .host, rep := false, chk := { group := true } }

/-- The machine is ready; region B alone runs, the others are isolated. Its Zwius index 2, port 30, is up and the last link to unit 1. A
write of port 3's host went over it and is unanswered, and the mismatched read waits for a tracker. -/
def lastRegionRuns (swap : Tab (Option Swap)) : State :=
  let s := ((({ State.reset with boot := { early := true, image := [(960, 3)] } }.set PRT_PORT_STS.STATE 30 4).set
    ZWL_STS.STATE 2 2).set SEC_BOOT_STS.READY 0 1).set CHIP_RGN_STS.STATE 0 0xA2
  { s with
    prt := { s.prt with swap }
    cat := { s.cat with
      peer := [(2, 2)]
      zreq := [{ z := 2, q := { agent := agentId 0 3 0, tag := 7, addr := 0, write := true, d := none }, rep := false }]
      trk := [(8192, some { purpose := .remote (agentId 0 3 0) 7, line := 0, phase := .remote })]
      voq := [(1, { kind := .rdCur, a := mismatchedRead })] } }

/-! SWAP_ACK_TIMEOUT. -/

/-- The same with a swap of lane 0 under way, its request sent twice. -/
def swapUnanswered : State := lastRegionRuns [(30, some ⟨0, 2, none, 0⟩)]

theorem swapUnanswered_zwlDown : swapUnanswered.zwlDown 2 = swapUnanswered.zwlDownLast 2 2 :=
  State.zwlDown_last rfl (by decide +kernel) (by decide +kernel) (by decide +kernel) (by decide +kernel)

/-- The link is declared down, and every port stops. -/
theorem swapAckTimeout_stops : (swapAckTimeout 2 swapUnanswered).get PRT_PORT_STS.STATE (zPort 2) = 0 := by
  have hdown : swapAckTimeout 2 swapUnanswered = swapUnanswered.zwlDown 2 := rfl
  rw [hdown, swapUnanswered_zwlDown, State.zwlDownLast_state]
  decide +kernel

/-- Refutes O35: SWAP_ACK_TIMEOUT after the second request does not leave the port in Detect where the loss of the link brings about
CHIP_FATAL, which no hypothesis excludes. -/
theorem not_zwiusTimeAndSpare : ¬ Obligations.ZwiusTimeAndSpare := by
  unfold Obligations.ZwiusTimeAndSpare
  rintro ⟨-, -, -, -, -, -, -, hdown, -⟩
  obtain ⟨t, ht, hstate, -⟩ := hdown swapUnanswered 2 0 rfl (by decide +kernel) (by decide +kernel) (by decide +kernel) (by decide +kernel)
  have hstops : t.get PRT_PORT_STS.STATE (zPort 2) = 0 := Host.Outcome.next.inj ht ▸ swapAckTimeout_stops
  exact absurd (hstops.symm.trans hstate) (by decide)

/-! A DATA unit beyond its flow's grant (R287). -/

section
variable {s : State} {z num : Nat}

theorem zwlDrain_none (fuel : Nat) (h : (s.zwl z).held = []) : zwlDrain fuel s z = s := by
  cases fuel with
  | zero => rfl
  | succ n => simp [zwlDrain, h]

theorem zwlNextHole_none (hheld : (s.zwl z).held = []) (hlost : (s.zwl z).lost = none) : zwlNextHole s z = s :=
  if_neg (by simp [hheld, hlost])

theorem swapProgress_none (h : Tab.get none s.prt.swap (zPort z) = none) : swapProgress s z num = s := by
  simp [swapProgress, h]

/-- A unit in its turn beyond the grant, counted in the error window and recorded as ZWL_GRANT_VIOLATION. -/
def unitUngranted (s : State) (z num : Nat) : State :=
  let s1 := zwlWindow s z false
  (s1.setZwl z { s1.zwl z with holes := (s1.zwl z).holes.filter (fun h => h.1 != num) }).record (portOcc (zPort z) (zwlSet z) 3)

/-- It takes the link down. -/
theorem unitGood_ungranted {u : FlowUnit} (hturn : sub24 num ((zwlWindow s z false).zwl z).next = 0)
    (hbeyond : zwlBeyond ((zwlWindow s z false).zwl z) (unitCell z u) = true) :
    unitGood s z num u = swapProgress (zwlNextHole (zwlDrain 32 ((unitUngranted s z num).zwlDown z) z) z) z num := by
  have htake : zwlTake ((zwlWindow s z false).setZwl z
      { (zwlWindow s z false).zwl z with holes := ((zwlWindow s z false).zwl z).holes.filter (fun h => h.1 != num) }) z (unitCell z u) =
      (unitUngranted s z num).zwlDown z := by
    refine if_pos ?_
    rw [State.zwl_setZwl_same]
    exact hbeyond
  rw [← htake]
  exact if_pos hturn

end

/-- A good unit on a link that carries flow units (R278). -/
theorem flowUnitReceive_good {s : State} {z : ZPort} {num : BitVec 24} {fec : List (Fin 9)} {u : WireUnit} {f : FlowUnit}
    (hup : s.zwlUp z = true) (hu : unitReceived num.toNat u = some (some f)) :
    flowUnitReceive z ⟨num, fec⟩ u s = unitGood (s.symbols (zPort z) fec) z num.toNat f := by
  simp [flowUnitReceive, hup, hu]

/-- The link as such a unit finds it: nothing was granted, no unit is held, and no swap is under way. -/
def nothingGranted : State := lastRegionRuns []

/-- A DATA unit of class 0 for port 0 has come. -/
def grantExceeded : State := unitUngranted (nothingGranted.symbols 30 []) 2 0

theorem grantExceeded_zwlDown : grantExceeded.zwlDown 2 = grantExceeded.zwlDownLast 2 2 :=
  State.zwlDown_last rfl (by decide +kernel) (by decide +kernel) (by decide +kernel) (by decide +kernel)

/-- The link is declared down, and every port stops. -/
theorem flowUnitReceive_stops {u : WireUnit} {b : Byte} {d : List Byte} (hu : unitReceived (0 : BitVec 24).toNat u = some (some (.data 0 0 b d))) :
    (flowUnitReceive 2 ⟨0, []⟩ u nothingGranted).get PRT_PORT_STS.STATE (zPort 2) = 0 := by
  have hbeyond : zwlBeyond ((zwlWindow (nothingGranted.symbols 30 []) 2 false).zwl 2) (unitCell 2 (.data 0 0 b d)) = true := by
    change (Tab.get 0 ((zwlWindow (nothingGranted.symbols 30 []) 2 false).zwl 2).came 0 ==
      Tab.get 0 ((zwlWindow (nothingGranted.symbols 30 []) 2 false).zwl 2).gave 0) = true
    decide +kernel
  have hdown : unitGood (nothingGranted.symbols 30 []) 2 0 (.data 0 0 b d) = grantExceeded.zwlDownLast 2 2 := by
    rw [unitGood_ungranted (by decide +kernel) hbeyond, ← grantExceeded, grantExceeded_zwlDown]
    have hheld : ((grantExceeded.zwlDownLast 2 2).zwl 2).held = [] := by decide +kernel
    have hlost : ((grantExceeded.zwlDownLast 2 2).zwl 2).lost = none := by decide +kernel
    have hswap : Tab.get none (grantExceeded.zwlDownLast 2 2).prt.swap (zPort 2) = none := by decide +kernel
    rw [zwlDrain_none _ hheld, zwlNextHole_none hheld hlost, swapProgress_none hswap]
  rw [flowUnitReceive_good (by decide +kernel) hu]
  refine (congrArg (fun t : State => t.get PRT_PORT_STS.STATE (zPort 2)) hdown).trans ?_
  rw [State.zwlDownLast_state]
  decide +kernel

/-- Refutes O34: a DATA unit beyond its flow's grant does not leave the port in Detect where the loss of the link brings about CHIP_FATAL,
which no hypothesis excludes. By the statement's own second clause the unit is received as it was sent. -/
theorem not_zwiusSequence : ¬ Obligations.ZwiusSequence := by
  unfold Obligations.ZwiusSequence
  rintro ⟨-, hunit, -, -, -, -, hdata, -⟩
  have hu := hunit 0 0 0 (List.replicate 16 0) (List.replicate 224 0) rfl rfl
  obtain ⟨-, hdown⟩ := hdata nothingGranted 2 0 _ 0 0 _ _ (by decide +kernel) rfl rfl rfl rfl hu
  obtain ⟨t, ht, hstate, -⟩ := hdown rfl (by decide +kernel) (by decide +kernel) (by decide +kernel) (by decide +kernel)
  have hstops : t.get PRT_PORT_STS.STATE (zPort 2) = 0 := Host.Outcome.next.inj ht ▸ flowUnitReceive_stops hu
  exact absurd (hstops.symm.trans hstate) (by decide)

end Sys2Proof.Machine
end

section
/-! SUPPORT. Queue contexts: their fields (R302), their bytes in HBM (R300), the cache that holds them with the operations that wait for a
fill (R320), and what the errors of a queue manager and of the stacks leave alone of them (R177, R322). -/
namespace Sys2Proof.Machine
open Sys2Proof

/-! The fields of a context (R302). -/

/-- Two fields of a context that have no bit in common. -/
def ctxApart (f g : CtxFld) : Bool := decide (f.1 + f.2 ≤ g.1) || decide (g.1 + g.2 ≤ f.1)

theorem cget_cput_same (c : BitVec 512) {f : CtxFld} (v : Nat) (h : f.1 + f.2 ≤ 512) : cget (cput c f v) f = v % 2 ^ f.2 :=
  bits_putBits_same c f.1 f.2 v h

theorem cget_cput_apart (c : BitVec 512) {f g : CtxFld} (v : Nat) (h : ctxApart f g = true) : cget (cput c f v) g = cget c g :=
  bits_putBits_ne c f.1 f.2 v g.1 g.2 (by simpa [ctxApart] using h)

theorem cget_lt (c : BitVec 512) (f : CtxFld) : cget c f < 2 ^ f.2 := bits_lt c f.1 f.2

/-- A context with the fields of a list taken from another. -/
def ctxTake (l : List CtxFld) (v c : BitVec 512) : BitVec 512 := l.foldl (fun x f => cput x f (cget v f)) c

theorem cget_ctxTake_apart (l : List CtxFld) (v c : BitVec 512) {g : CtxFld} (h : ∀ f ∈ l, ctxApart f g = true) :
    cget (ctxTake l v c) g = cget c g := by
  induction l generalizing c with
  | nil => rfl
  | cons f l ih =>
    obtain ⟨hf, hl⟩ := List.forall_mem_cons.1 h
    exact (ih _ hl).trans (cget_cput_apart c _ hf)

theorem cget_ctxTake_mem (l : List CtxFld) (v c : BitVec 512) (hp : l.Pairwise fun f g => ctxApart g f = true) {g : CtxFld} (hm : g ∈ l)
    (hg : g.1 + g.2 ≤ 512) : cget (ctxTake l v c) g = cget v g := by
  induction l generalizing c with
  | nil => cases hm
  | cons f l ih =>
    obtain ⟨hf, hl⟩ := List.pairwise_cons.1 hp
    obtain rfl | hm := List.mem_cons.1 hm
    · exact (cget_ctxTake_apart l v _ hf).trans ((cget_cput_same c _ hg).trans (Nat.mod_eq_of_lt (cget_lt v g)))
    · exact ih _ hl hm

theorem satAdd_lt (w a n : Nat) : satAdd w a n < 2 ^ w := by
  have := Nat.two_pow_pos w
  unfold satAdd
  omega

/-- A count of a context counted on, as it reads. -/
theorem cget_cbump_same (c : BitVec 512) {f : CtxFld} (n : Nat) (h : f.1 + f.2 ≤ 512) : cget (cbump c f n) f = satAdd f.2 (cget c f) n :=
  (cget_cput_same c _ h).trans (Nat.mod_eq_of_lt (satAdd_lt ..))

/-! The bytes of a context (R300). -/

theorem State.ctx_of_hbm {s t : State} (h : t.hbm = s.hbm) (q : Nat) : t.ctx q = s.ctx q := by
  simp only [State.ctx, h]

@[simp] theorem State.ctx_setCtx_same (s : State) (q : Nat) (c : BitVec 512) : (s.setCtx q c).ctx q = c := by
  have h : (256 : Nat) ^ 64 = 2 ^ 512 := by rw [show (256 : Nat) = 2 ^ 8 from rfl, ← pow_mul]
  rw [State.ctx, State.setCtx, peekN_pokeN, h, Nat.mod_eq_of_lt c.isLt, BitVec.ofNat_toNat, BitVec.setWidth_eq]

theorem State.setCtx_hbmKept (s : State) (q : Nat) (c : BitVec 512) : hbmKept s (s.setCtx q c) (ctxAt q) 64 :=
  fun _ h => peek_pokeN_out _ _ _ _ _ h

theorem qidRegion_lt (q : Nat) : qidRegion q < 4 := Nat.mod_lt _ (by decide)

theorem setUnit_qmgSet {r : Nat} (hr : r < 4) : setUnit (qmgSet r) = r := by
  interval_cases r <;> decide

/-! The cache (R320). -/

@[simp] theorem State.cached_useCtx (s : State) (q : Nat) : (s.useCtx q).cached q = true := by
  simp [State.cached, State.useCtx]

theorem State.qmg_setCtx (s : State) (q : Nat) (c : BitVec 512) : (s.setCtx q c).qmg = s.qmg := rfl

theorem State.cached_of_qmg {s t : State} (h : t.qmg = s.qmg) (q : Nat) : t.cached q = s.cached q := by
  simp only [State.cached, h]

theorem State.cached_setCtx (s : State) (q x : Nat) (c : BitVec 512) : (s.setCtx x c).cached q = s.cached q := rfl

theorem State.ctx_useCtx (s : State) (q x : Nat) : (s.useCtx q).ctx x = s.ctx x := rfl

/-- What a set of the cache holds afterwards lies in the queue managers' own state and in the contexts. -/
theorem State.useCtx_qmg_congr {s t : State} (hq : t.qmg = s.qmg) (hh : t.hbm = s.hbm) (q : Nat) :
    (t.useCtx q).qmg = (s.useCtx q).qmg := by
  simp only [State.useCtx, State.ctx, hq, hh]

theorem onlyRegs.qmg {s t : State} (h : onlyRegs s t) : t.qmg = s.qmg := (congrArg (fun x : State => x.qmg) h :)

/-- Nothing but register words and the queue managers' own state differs. -/
abbrev onlyQueues (s t : State) : Prop := { t with regs := s.regs, qmg := s.qmg } = s

/-- The same beside bytes of the stacks. -/
abbrev onlyStored (s t : State) : Prop := { t with regs := s.regs, hbm := s.hbm, qmg := s.qmg } = s

section
variable {s t : State} {q : Nat} {f : Fld} {r : Reg} {i v : Nat} {w : Word} {c : BitVec 512}

theorem onlyQueues.trans {u : State} (h : onlyQueues s t) (g : onlyQueues t u) : onlyQueues s u :=
  (congrArg (fun x : State => { x with regs := s.regs, qmg := s.qmg }) g :).trans h

theorem onlyQueues.set (h : onlyQueues s t) : onlyQueues s (t.set f i v) := h
theorem onlyQueues.useCtx (h : onlyQueues s t) : onlyQueues s (t.useCtx q) := h
theorem onlyQueues.onlyRegs {u : State} (h : onlyQueues s t) (g : onlyRegs t u) : onlyQueues s u :=
  (congrArg (fun x : State => { x with regs := s.regs, qmg := s.qmg }) g :).trans h

theorem onlyQueues.dmv (h : onlyQueues s t) : t.dmv = s.dmv := (congrArg (fun x : State => x.dmv) h :)

theorem onlyQueues.hbm (h : onlyQueues s t) : t.hbm = s.hbm := (congrArg (fun x : State => x.hbm) h :)

theorem onlyQueues.onlyStored (h : onlyQueues s t) : onlyStored s t :=
  (congrArg (fun x : State => { x with hbm := s.hbm }) h :)

theorem onlyStored.set (h : onlyStored s t) : onlyStored s (t.set f i v) := h
theorem onlyStored.setWord (h : onlyStored s t) : onlyStored s (t.setWord r i w) := h
theorem onlyStored.setCtx (h : onlyStored s t) : onlyStored s (t.setCtx q c) := h

theorem wordsKept.trans {u : State} {rs : List Reg} (h : wordsKept s t rs) (g : wordsKept t u rs) : wordsKept s u rs :=
  fun r i hr => (g r i hr).trans (h r i hr)

theorem wordsKept.useCtx {rs : List Reg} (h : wordsKept s t rs) : wordsKept s (t.useCtx q) rs := h
theorem wordsKept.setCtx {rs : List Reg} (h : wordsKept s t rs) : wordsKept s (t.setCtx q c) rs := h

end

/-! Words of registers beside the counters' overflow bits. -/

theorem wordsAt.refl (s : State) (l : List (Reg × Nat)) : wordsAt s s l := fun _ _ _ _ _ => rfl

theorem wordsAt.trans {s t u : State} {l : List (Reg × Nat)} (h : wordsAt s t l) (g : wordsAt t u l) : wordsAt s u l :=
  fun r i hr hi hn => (g r i hr hi hn).trans (h r i hr hi hn)

theorem wordsAt.mono {s t : State} {l m : List (Reg × Nat)} (h : wordsAt s t l) (hl : l ⊆ m) : wordsAt s t m :=
  fun r i hr hi hn => h r i hr hi fun hm => hn (hl hm)

/-- A field of a register that is not listed. -/
theorem wordsAt.get {s t : State} {l : List (Reg × Nat)} (h : wordsAt s t l) {f : Fld} {i : Nat} (hr : f.reg ≠ .PMC_CFG)
    (hi : i < 2 ^ 24) (hn : (f.reg, i) ∉ l) : t.get f i = s.get f i :=
  congrArg (fun w => bits w f.lo f.w) (h f.reg i hr hi hn)

theorem wordsAt.set {s t : State} {l : List (Reg × Nat)} {f : Fld} {i v : Nat} (h : wordsAt s t l) (hm : (f.reg, i) ∈ l)
    (hi : i < 2 ^ 24) : wordsAt s (t.set f i v) l := by
  intro r j hr hj hn
  refine (t.word_setWord_ne _ ?_).trans (h r j hr hj hn)
  by_contra hsame
  obtain ⟨hreg, hix⟩ := not_or.1 hsame
  have hij : i = j := by
    rw [Nat.mod_eq_of_lt hi, Nat.mod_eq_of_lt hj] at hix
    exact not_not.1 hix
  exact hn (hij ▸ not_not.1 hreg ▸ hm)

theorem Counted.qmg {rs : List Reg} {s t : State} (h : Counted rs s t) : t.qmg = s.qmg :=
  (congrArg (fun x : State => x.qmg) h.uncounted :)

theorem Counted.hbm {rs : List Reg} {s t : State} (h : Counted rs s t) : t.hbm = s.hbm :=
  (congrArg (fun x : State => x.hbm) h.uncounted :)

theorem Counted.dmv {rs : List Reg} {s t : State} (h : Counted rs s t) : t.dmv = s.dmv :=
  (congrArg (fun x : State => x.dmv) h.uncounted :)

theorem Counted.count {rs : List Reg} {s₀ s : State} {r e qual k : Nat} (h : Counted rs s₀ s) (hr : .PMC_CFG ∈ rs) :
    Counted rs s₀ (s.count r e qual k) :=
  .ite h (List.foldlRecOn (motive := Counted rs s₀) _ _ h fun _ ht _ _ => ht.addCounter hr)

theorem wordsAt.kept {s t u : State} {l : List (Reg × Nat)} (h : wordsAt s t l) (g : wordsKept t u []) : wordsAt s u l :=
  fun r i hr hi hn => (g r i (by simp)).trans (h r i hr hi hn)

/-- What was counted before is put back with the queue managers' own state. -/
theorem onlyQueues.counted {rs : List Reg} {s t u : State} (h : onlyQueues t u) (g : Counted rs s t) :
    { u with regs := s.regs, qmg := s.qmg, arc := s.arc } = s :=
  (congrArg (fun x : State => { x with regs := s.regs, qmg := s.qmg, arc := s.arc }) h :).trans
    (congrArg (fun x : State => { x with qmg := s.qmg }) g.eq :)

theorem onlyStored.counted {rs : List Reg} {s t u : State} (h : onlyStored t u) (g : Counted rs s t) :
    { u with regs := s.regs, qmg := s.qmg, arc := s.arc, hbm := s.hbm } = s :=
  (congrArg (fun x : State => { x with regs := s.regs, qmg := s.qmg, arc := s.arc, hbm := s.hbm }) h :).trans
    (congrArg (fun x : State => { x with qmg := s.qmg, hbm := s.hbm }) g.eq :)

theorem wordsAt.counted {s t u : State} {l : List (Reg × Nat)} (h : wordsAt s t l) (g : Counted [.PMC_CFG] t u) : wordsAt s u l :=
  fun r i hr hi hn => (g.word r i (by simpa using hr)).trans (h r i hr hi hn)

/-! An operation that waits for a fill (R320). -/

/-- A miss of the context cache is counted. -/
def State.missed (s : State) (q : Nat) : State := (s.bump QMG_CACHE_STS.MISSES (qidRegion q) 1).count (qidRegion q) 0x10 0 1

section
variable (s : State) (q : Nat)

theorem State.missed_counted : Counted [.PMC_CFG] (s.bump QMG_CACHE_STS.MISSES (qidRegion q) 1) (s.missed q) :=
  (Counted.refl _ _).count (by decide)

theorem State.missed_misses : (s.missed q).get QMG_CACHE_STS.MISSES (qidRegion q) =
    satAdd QMG_CACHE_STS.MISSES.w (s.get QMG_CACHE_STS.MISSES (qidRegion q)) 1 := by
  rw [State.get, (s.missed_counted q).word _ _ (by decide), ← State.get, State.bump, State.get_set_same _ _ _ (by decide)]
  exact Nat.mod_eq_of_lt (satAdd_lt ..)

theorem State.missed_wordsAt : wordsAt s (s.missed q) [(.QMG_CACHE_STS, qidRegion q)] :=
  .counted (.set (f := QMG_CACHE_STS.MISSES) (.refl s _) (by simp) (by have := qidRegion_lt q; omega)) (s.missed_counted q)

theorem State.missed_eq : { s.missed q with regs := s.regs, arc := s.arc } = s :=
  (congrArg (fun u : State => { u with regs := s.regs, arc := s.arc }) (s.missed_counted q).uncounted :)

variable (op : QOp)

theorem State.waitCtx_waits : (s.waitCtx q op).qmg.fills.any (fun f => f.1 == q && f.2.contains op) = true := by
  change ((if (s.missed q).qmg.fills.any (fun f => f.1 == q) then
      (s.missed q).qmg.fills.map (fun f => if f.1 == q then (q, f.2 ++ [op]) else f)
    else (s.missed q).qmg.fills ++ [(q, [op])]).any fun f => f.1 == q && f.2.contains op) = true
  split
  next h =>
    obtain ⟨f, hf, hq⟩ := List.any_eq_true.1 h
    exact List.any_eq_true.2 ⟨(q, f.2 ++ [op]), List.mem_map.2 ⟨f, hf, if_pos hq⟩, by simp⟩
  · simp

end

/-! Errors (R177, R322). -/

/-- Contexts, their cache and the regions' states are as they were. -/
structure CtxKept (s t : State) : Prop where
  qmg : t.qmg = s.qmg
  hbm : t.hbm = s.hbm
  rgn : ∀ q, t.rgn q = s.rgn q

theorem CtxKept.refl (s : State) : CtxKept s s := ⟨rfl, rfl, fun _ => rfl⟩

section
variable {s₀ s t : State}

theorem CtxKept.set {f : Fld} {i v : Nat} (h : CtxKept s₀ s) (hf : Reg.CHIP_RGN_STS ≠ f.reg) : CtxKept s₀ (s.set f i v) :=
  ⟨h.qmg, h.hbm, fun q => (s.rgn_set v q hf).trans (h.rgn q)⟩

theorem CtxKept.grn {x : GrnState} (h : CtxKept s₀ s) : CtxKept s₀ { s with grn := x } := ⟨h.qmg, h.hbm, h.rgn⟩

theorem CtxKept.noted (h : CtxKept s₀ s) (g : Noted s t) : CtxKept s₀ t where
  qmg := (congrArg (fun u : State => u.qmg) g.unnoted :).trans h.qmg
  hbm := (congrArg (fun u : State => u.hbm) g.unnoted :).trans h.hbm
  rgn q := (g.rgn q).trans (h.rgn q)

theorem CtxKept.ite {c : Prop} [Decidable c] {a b : State} (ha : CtxKept s₀ a) (hb : CtxKept s₀ b) :
    CtxKept s₀ (if c then a else b) := by
  split
  · exact ha
  · exact hb

theorem CtxKept.columns {stack k : Nat} (h : CtxKept s₀ s) : CtxKept s₀ (s.columns stack k) := h.noted (.count ..)

theorem CtxKept.eccCapture {r stack row col side : Nat} (h : CtxKept s₀ s) : CtxKept s₀ (eccCapture s r stack row col side) :=
  .ite h (((((h.set (by decide)).set (by decide)).set (by decide)).set (by decide)).set (by decide))

theorem CtxKept.rowRepair {stack row : Nat} (h : CtxKept s₀ s) : CtxKept s₀ (rowRepair s stack row) := .ite h h.grn

theorem classOf_grnSet {r : Nat} (hr : r < 4) : classOf (grnSet r) 0 = 0 := by
  interval_cases r <;> decide

theorem CtxKept.keyCorrected {q : Nat} (h : CtxKept s₀ s) : CtxKept s₀ (keyCorrected s (ctxAt q)) := by
  have hr : ctxAt q / 2 ^ 35 / 2 < 4 := by
    unfold ctxAt hbmAt qidStack
    omega
  have hmild : (blockOcc (grnSet (ctxAt q / 2 ^ 35 / 2)) 0).cls < 2 := (classOf_grnSet hr).trans_lt (by decide)
  unfold Machine.keyCorrected columnCorrected
  extract_lets st key now times s1 s2
  have h1 : CtxKept s₀ s1 := by
    unfold s1
    rw [State.record_of_mild _ _ hmild]
    exact .noted (.set (f := GRN_ECC_STS.CE) h.eccCapture (by decide)) (.noted ..)
  exact .ite h1.grn.rowRepair h1.grn

theorem CtxKept.keyLost {key : Nat} (h : CtxKept s₀ s) : CtxKept s₀ (keyLost s key) :=
  .rowRepair (.set (f := GRN_ECC_STS.UE_DIRTY) h.eccCapture (by decide))

theorem CtxKept.qmgCapture {r q cause : Nat} (h : CtxKept s₀ s) : CtxKept s₀ (s.qmgCapture r q cause) :=
  .ite h (.ite (h.set (f := QMG_ERR_CAP.COUNT) (by decide))
    ((((h.set (by decide)).set (by decide)).set (by decide)).set (by decide)))

/-- An error of a context is noted and stops nothing (R322). -/
theorem State.record_qmg (s : State) {r bit : Nat} (hr : r < 4) (hb : bit < 6) (q : Nat) :
    s.record (occ (qmgSet r) bit 6 q) = s.noted (occ (qmgSet r) bit 6 q) := by
  have hcls : classOf (qmgSet r) bit < 3 := by
    interval_cases r <;> interval_cases bit <;> decide
  have hkind : ¬(decide ((occ (qmgSet r) bit 6 q).cls = 2) && decide ((occ (qmgSet r) bit 6 q).kind = 0)) = true := by
    simp [occ]
  exact (if_neg (show ¬classOf (qmgSet r) bit = 3 by omega)).trans
    ((if_neg (show ¬classOf (qmgSet r) bit = 4 by omega)).trans (if_neg hkind))

theorem CtxKept.record_qmg {r bit q : Nat} (h : CtxKept s₀ s) (hr : r < 4) (hb : bit < 6) :
    CtxKept s₀ (s.record (occ (qmgSet r) bit 6 q)) := by
  rw [State.record_qmg s hr hb]
  exact h.noted (.noted ..)

/-- In a region that still records, its bit is set (R460). -/
theorem CtxKept.record_stsBit {r bit q : Nat} (h : CtxKept s₀ s) (hr : r < 4) (hb : bit < 6) (hrgn : s₀.rgn r ≠ 2) :
    (s.record (occ (qmgSet r) bit 6 q)).stsBit (qmgSet r) bit := by
  refine State.record_stsBit s (occ (qmgSet r) bit 6 q) (show bit < 32 by omega) (State.windowGone_of_rgn ?_)
  rw [show setUnit (occ (qmgSet r) bit 6 q).set = r from setUnit_qmgSet hr, h.rgn]
  exact hrgn

end

end Sys2Proof.Machine
end

section
/-! SUPPORT. The firmware commands on a queue context (R302–R304, R320–R322), and the theorem that settles O36. -/
namespace Sys2Proof.Machine
open Sys2Proof

/-! The fields of QMG_CTX_CMD (R304). -/

/-- QMG_CTX_CMD as a command with GO stores it. -/
def State.ctxAsked (s : State) (r q op : Nat) : State := (s.set QMG_CTX_CMD.QID r q).set QMG_CTX_CMD.OP r op

/-- A command ends with a result. -/
def State.ctxEnds (s : State) (r res : Nat) : State := (s.set QMG_CTX_CMD.RESULT r res).set QMG_CTX_CMD.BUSY r 0

section
variable (s : State) (r : Nat) {res : Nat}

theorem State.ctxEnds_result (h : res < 8) : (s.ctxEnds r res).get QMG_CTX_CMD.RESULT r = res := by
  rw [State.ctxEnds, State.get_set_apart _ _ (by decide), State.get_set_same _ _ _ (by decide)]
  exact Nat.mod_eq_of_lt h

theorem State.ctxEnds_busy : (s.ctxEnds r res).get QMG_CTX_CMD.BUSY r = 0 := State.get_set_same _ _ _ (by decide)

end

theorem wordsKept.ctxAsked {s t : State} {rs : List Reg} {r q op : Nat} (h : wordsKept s t rs) (hr : .QMG_CTX_CMD ∈ rs) :
    wordsKept s (t.ctxAsked r q op) rs :=
  (h.set hr).set hr

theorem wordsKept.ctxEnds {s t : State} {rs : List Reg} {r res : Nat} (h : wordsKept s t rs) (hr : .QMG_CTX_CMD ∈ rs) :
    wordsKept s (t.ctxEnds r res) rs :=
  (h.set hr).set hr

theorem onlyQueues.ctxAsked {s t : State} {r q op : Nat} (h : onlyQueues s t) : onlyQueues s (t.ctxAsked r q op) := h
theorem onlyQueues.ctxEnds {s t : State} {r res : Nat} (h : onlyQueues s t) : onlyQueues s (t.ctxEnds r res) := h
theorem onlyStored.ctxEnds {s t : State} {r res : Nat} (h : onlyStored s t) : onlyStored s (t.ctxEnds r res) := h

/-! What a command meets. -/

section
variable {s : State} {p : Path} {r q op : Nat}

theorem ctxCommand_refused (h : s.mayWrite p = false) :
    ctxCommand p r q op s = if s.windowGone (setUnit (qmgSet r)) || s.unheard p then s else s.discard (qmgSet r) :=
  State.startWith_refused _ _ _ h

theorem ctxCommand_busy (h : s.admits p (qmgSet r)) (hb : s.flag QMG_CTX_CMD.BUSY r = true) :
    ctxCommand p r q op s = (s.ctxAsked r q op).discard (qmgSet r) := by
  unfold ctxCommand
  rw [hb]
  exact State.startWith_busy _ _ h

section
variable (h : s.admits p (qmgSet r)) (hb : s.flag QMG_CTX_CMD.BUSY r = false)
include h hb

theorem ctxCommand_elsewhere (hq : qidRegion q ≠ r) :
    ctxCommand p r q op s = (s.ctxAsked r q op).set QMG_CTX_CMD.RESULT r 1 := by
  unfold ctxCommand
  rw [hb]
  exact (State.startWith_idle _ _ h).trans (if_pos (by simpa using hq))

variable (hq : qidRegion q = r)
include hq

theorem ctxCommand_cached (hc : s.cached q = true) :
    ctxCommand p r q op s = (s.ctxAsked r q op).ctxPerform r q op (ctxStaged s r) := by
  unfold ctxCommand
  rw [hb]
  exact (State.startWith_idle _ _ h).trans ((if_neg (by simpa using hq)).trans (if_pos hc))

theorem ctxCommand_waits (hc : s.cached q = false) :
    ctxCommand p r q op s = ((s.ctxAsked r q op).set QMG_CTX_CMD.BUSY r 1).waitCtx q (.cmd r q op (ctxStaged s r)) := by
  unfold ctxCommand
  rw [hb]
  exact (State.startWith_idle _ _ h).trans ((if_neg (by simpa using hq)).trans (if_neg (Bool.eq_false_iff.1 hc)))

end

end

/-! What it does with a cached context (R302–R304). -/

theorem State.pinnedIn_of_hbm {s t : State} (h : t.hbm = s.hbm) (q : Nat) : t.pinnedIn q = s.pinnedIn q := by
  simp only [State.pinnedIn, State.contexts, State.ctx, h]

/-- What CREATE answers lies in the contexts, the port plan and the carrels' ports (R303). -/
theorem State.createResult_congr {s t : State} (hh : t.hbm = s.hbm) (hb : t.boot = s.boot) (hp : ∀ k, t.carrelPort k = s.carrelPort k)
    (q : Nat) (v : BitVec 512) : t.createResult q v = s.createResult q v := by
  have hgood : t.ctxGood v = s.ctxGood v := by
    simp only [State.ctxGood, State.role_of_boot hb, hp]
  rw [State.createResult, State.ctx_of_hbm hh, hgood, State.pinnedIn_of_hbm hh, State.createResult]

section
variable (s : State) (r x op q : Nat) (v : BitVec 512)

theorem State.ctx_ctxAsked : (s.ctxAsked r x op).ctx q = s.ctx q := State.ctx_of_hbm (s := s) (t := s.ctxAsked r x op) rfl q

theorem State.createResult_ctxAsked : (s.ctxAsked r x op).createResult q v = s.createResult q v := by
  have hport (k : Nat) : (s.ctxAsked r x op).carrelPort k = s.carrelPort k :=
    (State.get_set_reg _ _ (by decide)).trans (State.get_set_reg _ _ (by decide))
  exact State.createResult_congr (s := s) (t := s.ctxAsked r x op) rfl rfl hport q v

theorem State.modifyResult_ctxAsked : (s.ctxAsked r x op).modifyResult q v = s.modifyResult q v := by
  rw [State.modifyResult, State.ctx_ctxAsked, State.pinnedIn_of_hbm (s := s) (t := s.ctxAsked r x op) rfl, State.modifyResult]

end

theorem ite_lt_of {c : Prop} [Decidable c] {a b n : Nat} (ha : a < n) (hb : b < n) : (if c then a else b) < n := by
  split
  · exact ha
  · exact hb

theorem State.createResult_lt (s : State) (q : Nat) (v : BitVec 512) : s.createResult q v < 8 :=
  ite_lt_of (by decide) (ite_lt_of (by decide) (ite_lt_of (by decide) (by decide)))

theorem State.modifyResult_lt (s : State) (q : Nat) (v : BitVec 512) : s.modifyResult q v < 8 := by
  unfold State.modifyResult
  exact ite_lt_of (by decide) (ite_lt_of (by decide) (ite_lt_of (by decide) (ite_lt_of (by decide) (by decide))))

section
variable (s : State) (r q : Nat) (v : BitVec 512)

theorem State.ctxPerform_read : s.ctxPerform r q 0 v = ((s.useCtx q).loadCtx r q).ctxEnds r 0 := rfl

theorem State.ctxPerform_create : s.ctxPerform r q 1 v =
    if s.createResult q v = 0 then ((s.useCtx q).makeCtx q (ctxMade v)).ctxEnds r 0 else (s.useCtx q).ctxEnds r (s.createResult q v) := by
  have h : s.ctxPerform r q 1 v =
      (if s.createResult q v = 0 then (s.useCtx q).makeCtx q (ctxMade v) else s.useCtx q).ctxEnds r (s.createResult q v) := rfl
  rw [h]
  split
  next h0 => rw [h0]
  · rfl

theorem State.ctxPerform_modify : s.ctxPerform r q 2 v =
    if s.modifyResult q v = 0 then ((s.useCtx q).putCtx q (ctxTake ctxMay v (s.ctx q))).ctxEnds r 0
    else (s.useCtx q).ctxEnds r (s.modifyResult q v) := by
  have h : s.ctxPerform r q 2 v =
      (if s.modifyResult q v = 0 then (s.useCtx q).putCtx q (ctxTake ctxMay v (s.ctx q)) else s.useCtx q).ctxEnds r
        (s.modifyResult q v) := rfl
  rw [h]
  split
  next h0 => rw [h0]
  · rfl

theorem State.ctxPerform_destroy (n : Nat) : s.ctxPerform r q (n + 3) v =
    if cget (s.ctx q) cValid = 1 then ((s.useCtx q).putCtx q (cput (s.ctx q) cValid 0)).ctxEnds r 0 else (s.useCtx q).ctxEnds r 3 := by
  unfold State.ctxPerform
  dsimp only
  rw [State.ctx_useCtx]
  by_cases h : cget (s.ctx q) cValid = 1
  · rw [if_pos h, if_pos h]
    rfl
  · rw [if_neg h, if_neg h]
    rfl

end

theorem ctxMay_within : ∀ f ∈ ctxMay, f.1 + f.2 ≤ 512 := by decide

theorem ctxMay_apart : ∀ f ∈ ctxFixed ++ ctxLive, ∀ g ∈ ctxMay, ctxApart g f = true := by decide

/-! What it leaves. -/

theorem State.loadCtx_onlyRegs (s : State) (r q : Nat) : onlyRegs s (s.loadCtx r q) :=
  s.loadWords_onlyRegs .QMG_CTX_D (16 * r) 16 fun k => BitVec.ofNat 32 (bits (s.ctx q) (32 * k) 32)

/-- Whatever the command, its context is cached, it is BUSY no longer, and no error is recorded. -/
theorem State.ctxPerform_ends (s : State) (r q op : Nat) (v : BitVec 512) :
    ∃ (u : State) (res : Nat), s.ctxPerform r q op v = u.ctxEnds r res ∧ u.qmg = (s.useCtx q).qmg ∧ u.ces = s.ces := by
  match op with
  | 0 =>
    have h := (s.useCtx q).loadCtx_onlyRegs r q
    exact ⟨(s.useCtx q).loadCtx r q, 0, s.ctxPerform_read r q v, h.qmg, h.ces⟩
  | 1 =>
    rw [State.ctxPerform_create]
    split
    · exact ⟨_, _, rfl, rfl, rfl⟩
    · exact ⟨_, _, rfl, rfl, rfl⟩
  | 2 =>
    rw [State.ctxPerform_modify]
    split
    · exact ⟨_, _, rfl, rfl, rfl⟩
    · exact ⟨_, _, rfl, rfl, rfl⟩
  | n + 3 =>
    rw [State.ctxPerform_destroy]
    split
    · exact ⟨_, _, rfl, rfl, rfl⟩
    · exact ⟨_, _, rfl, rfl, rfl⟩

/-- A READ loads the context and changes nothing else (R304). -/
theorem State.ctxPerform_read_shows (s : State) {r q : Nat} (v : BitVec 512) (hr : r < 4) :
    let t := s.ctxPerform r q 0 v
    (∀ k < 16, t.word .QMG_CTX_D (16 * r + k) = BitVec.ofNat 32 (bits (s.ctx q) (32 * k) 32)) ∧ t.get QMG_CTX_CMD.RESULT r = 0 ∧
      t.get QMG_CTX_CMD.BUSY r = 0 ∧ wordsKept s t [.QMG_CTX_CMD, .QMG_CTX_D] ∧ onlyQueues s t := by
  have hload : s.ctxPerform r q 0 v = ((s.useCtx q).loadWords .QMG_CTX_D (16 * r) 16
      fun k => BitVec.ofNat 32 (bits (s.ctx q) (32 * k) 32)).ctxEnds r 0 := rfl
  rw [hload]
  refine ⟨fun k hk => ?_, State.ctxEnds_result _ _ (by decide), State.ctxEnds_busy _ _, ?_, ?_⟩
  · rw [State.ctxEnds, State.word_set_reg _ _ (by decide), State.word_set_reg _ _ (by decide)]
    exact State.word_loadWords _ _ _ _ _ (by omega) hk
  · exact .ctxEnds (.loadWords _ _ _ (wordsKept.refl s _).useCtx (by decide)) (by decide)
  · exact onlyQueues.ctxEnds ((onlyQueues.useCtx rfl).onlyRegs (State.loadWords_onlyRegs ..))

/-- A command that a check refuses leaves its result. -/
theorem State.ctxRefused_shows (s : State) (r q op : Nat) {res : Nat} (h : res < 8) :
    let t := ((s.ctxAsked r q op).useCtx q).ctxEnds r res
    t.get QMG_CTX_CMD.RESULT r = res ∧ t.get QMG_CTX_CMD.BUSY r = 0 ∧ t.qmg = (s.useCtx q).qmg ∧ wordsKept s t [.QMG_CTX_CMD] ∧
      onlyQueues s t :=
  ⟨State.ctxEnds_result _ _ h, State.ctxEnds_busy _ _, State.useCtx_qmg_congr (t := s.ctxAsked r q op) rfl rfl q,
    .ctxEnds (.useCtx (.ctxAsked (.refl s _) (by decide))) (by decide),
    onlyQueues.ctxEnds (onlyQueues.useCtx (onlyQueues.ctxAsked rfl))⟩

theorem wordsKept.putCtx {s t : State} {rs : List Reg} {q : Nat} {v : BitVec 512} (h : wordsKept s t rs) (hr : .QMG_CACHE_STS ∈ rs) :
    wordsKept s (t.putCtx q v) rs :=
  h.setCtx.set hr

theorem State.ctx_putCtx (s : State) (q : Nat) (v : BitVec 512) : (s.putCtx q v).ctx q = v := s.ctx_setCtx_same q v

theorem State.putCtx_hbmKept (s : State) (q : Nat) (v : BitVec 512) : hbmKept s (s.putCtx q v) (ctxAt q) 64 := s.setCtx_hbmKept q v

theorem onlyStored.putCtx {s t : State} {q : Nat} {v : BitVec 512} (h : onlyStored s t) : onlyStored s (t.putCtx q v) := h

/-- A command that stores its context changes the 64 bytes of that context, and of the registers its own and the count of pinned
contexts. -/
theorem State.ctxStored_shows (s : State) (r q op : Nat) (v : BitVec 512) :
    let t := (((s.ctxAsked r q op).useCtx q).putCtx q v).ctxEnds r 0
    t.ctx q = v ∧ t.get QMG_CTX_CMD.RESULT r = 0 ∧ t.get QMG_CTX_CMD.BUSY r = 0 ∧ wordsKept s t [.QMG_CTX_CMD, .QMG_CACHE_STS] ∧
      hbmKept s t (ctxAt q) 64 ∧ onlyStored s t := by
  have hq : onlyQueues s ((s.ctxAsked r q op).useCtx q) := onlyQueues.useCtx (onlyQueues.ctxAsked rfl)
  have hw : wordsKept s ((s.ctxAsked r q op).useCtx q) [.QMG_CTX_CMD, .QMG_CACHE_STS] := .useCtx (.ctxAsked (.refl s _) (by decide))
  generalize (s.ctxAsked r q op).useCtx q = u at hq hw
  exact ⟨u.ctx_putCtx q v, State.ctxEnds_result _ _ (by decide), State.ctxEnds_busy _ _, (hw.putCtx (by decide)).ctxEnds (by decide),
    fun k hk => (u.putCtx_hbmKept q v k hk).trans (by rw [hq.hbm]), onlyStored.ctxEnds (onlyStored.putCtx hq.onlyStored)⟩

/-- A CREATE that passes its checks makes its context: beside the 64 bytes, the read window of its queue is as after reset (R303, R317). -/
theorem State.ctxMade_shows (s : State) (r q : Nat) (v : BitVec 512) :
    let t := (((s.ctxAsked r q 1).useCtx q).makeCtx q v).ctxEnds r 0
    t.ctx q = v ∧ t.get QMG_CTX_CMD.RESULT r = 0 ∧ t.get QMG_CTX_CMD.BUSY r = 0 ∧
      t.word .QMG_WIN_STS q = resetWord .QMG_WIN_STS q ∧ wordsKept s t [.QMG_CTX_CMD, .QMG_CACHE_STS, .QMG_WIN_STS] ∧
      hbmKept s t (ctxAt q) 64 ∧ onlyStored s t := by
  have hq : onlyQueues s ((s.ctxAsked r q 1).useCtx q) := onlyQueues.useCtx (onlyQueues.ctxAsked rfl)
  have hw : wordsKept s ((s.ctxAsked r q 1).useCtx q) [.QMG_CTX_CMD, .QMG_CACHE_STS, .QMG_WIN_STS] :=
    .useCtx (.ctxAsked (.refl s _) (by decide))
  generalize (s.ctxAsked r q 1).useCtx q = u at hq hw
  have hmade : u.makeCtx q v = (u.putCtx q v).setWord .QMG_WIN_STS q (resetWord .QMG_WIN_STS q) := rfl
  rw [hmade]
  refine ⟨u.ctx_putCtx q v, State.ctxEnds_result _ _ (by decide), State.ctxEnds_busy _ _, ?_,
    ((hw.putCtx (by decide)).setWord (by decide)).ctxEnds (by decide),
    fun k hk => (u.putCtx_hbmKept q v k hk).trans (by rw [hq.hbm]),
    onlyStored.ctxEnds (onlyStored.setWord (onlyStored.putCtx hq.onlyStored))⟩
  rw [State.ctxEnds, State.word_set_reg _ _ (by decide), State.word_set_reg _ _ (by decide)]
  exact State.word_setWord_same ..

/-- A command for a context that is not cached waits for the fill (R320). -/
theorem ctxCommand_waits_shows {s : State} {p : Path} {r : Region} {q : Qid} {op : Nat} (h : s.admits p (qmgSet r))
    (hb : s.flag QMG_CTX_CMD.BUSY r = false) (hq : qidRegion q.toNat = r.val) (hc : s.cached q.toNat = false) (hop : op < 4) :
    let t := ctxCommand p r q.toNat op s
    t.get QMG_CTX_CMD.BUSY r = 1 ∧ t.get QMG_CTX_CMD.OP r = op ∧ t.get QMG_CTX_CMD.QID r = q.toNat ∧
      t.qmg.fills.any (fun f => f.1 == q.toNat && f.2.contains (.cmd r q.toNat op (ctxStaged s r))) = true ∧
      t.get QMG_CACHE_STS.MISSES r = satAdd QMG_CACHE_STS.MISSES.w (s.get QMG_CACHE_STS.MISSES r) 1 ∧
      wordsAt s t [(.QMG_CTX_CMD, r), (.QMG_CACHE_STS, r)] ∧ { t with regs := s.regs, qmg := s.qmg, arc := s.arc } = s := by
  have hr : r.val < 2 ^ 24 := by omega
  have hcmd (f : Fld) (hf : f.reg = .QMG_CTX_CMD) : (f.reg, r.val) ∉ [(Reg.QMG_CACHE_STS, qidRegion q.toNat)] := by
    simp [hf]
  rw [ctxCommand_waits h hb hq hc]
  generalize hu : (s.ctxAsked r q.toNat op).set QMG_CTX_CMD.BUSY r 1 = u
  have hkept := u.missed_wordsAt q.toNat
  have hmiss := u.missed_misses q.toNat
  have heq := u.missed_eq q.toNat
  refine ⟨(hkept.get (f := QMG_CTX_CMD.BUSY) (by decide) hr (hcmd _ rfl)).trans ?_,
    (hkept.get (f := QMG_CTX_CMD.OP) (by decide) hr (hcmd _ rfl)).trans ?_,
    (hkept.get (f := QMG_CTX_CMD.QID) (by decide) hr (hcmd _ rfl)).trans ?_, u.waitCtx_waits .., ?_, ?_, ?_⟩
  · rw [← hu]
    exact State.get_set_same _ _ _ (by decide)
  · rw [← hu, State.get_set_apart _ _ (by decide), State.ctxAsked, State.get_set_same _ _ _ (by decide)]
    exact Nat.mod_eq_of_lt hop
  · rw [← hu, State.get_set_apart _ _ (by decide), State.ctxAsked, State.get_set_apart _ _ (by decide),
      State.get_set_same _ _ _ (by decide)]
    exact Nat.mod_eq_of_lt q.isLt
  · rw [hq] at hmiss
    refine hmiss.trans ?_
    rw [← hu, State.get_set_apart _ _ (by decide), State.ctxAsked, State.get_set_apart _ _ (by decide),
      State.get_set_apart _ _ (by decide)]
  · rw [hq] at hkept
    refine .trans ?_ (hkept.mono (by simp))
    rw [← hu]
    have hm : (Reg.QMG_CTX_CMD, r.val) ∈ [(Reg.QMG_CTX_CMD, r.val), (.QMG_CACHE_STS, r.val)] := by simp
    exact ((wordsAt.refl s _).set (f := QMG_CTX_CMD.QID) hm hr |>.set (f := QMG_CTX_CMD.OP) hm hr).set (f := QMG_CTX_CMD.BUSY) hm hr
  · refine (congrArg (fun x : State => { x with regs := s.regs, qmg := s.qmg, arc := s.arc }) heq :).trans ?_
    rw [← hu]
    rfl

/-! A fill (R320, R322). -/

/-- The column of a context is read, and its check word says `found` (R177, R322). -/
def State.fillRead (s : State) (q : Nat) (found : ColRead) : State :=
  let s1 := s.columns (ctxAt q / 2 ^ 35) 1
  match found with
  | .corrected => (keyCorrected s1 (ctxAt q)).record (occ (qmgSet (qidRegion q)) 0 6 q)
  | .uncorrectable => (keyLost s1 (ctxAt q)).ctxLost q
  | _ => s1

/-- The context is in the cache, and its fill is in flight no longer. -/
def State.filled (s : State) (q : Nat) : State :=
  ({ s with qmg := { s.qmg with fills := s.qmg.fills.filter (fun x => x.1 != q) } }).useCtx q

/-- Of one operation, the order of ranks is the operation itself (R305). -/
theorem State.performAlone (s : State) (op : QOp) :
    [0, 1, 2].foldl (fun s k => ([op].filter (fun op => opRank op == k)).foldl (fun s op => s.performOp op) s) s = s.performOp op := by
  have hrank : opRank op = 0 ∨ opRank op = 1 ∨ opRank op = 2 := by
    cases op with
    | door _ _ cons _ _ _ => cases cons <;> simp [opRank]
    | _ => simp [opRank]
  obtain h | h | h := hrank
  · simp [h]
  · simp [h]
  · simp [h]

section
variable {s : State} {q : Qid} {found : ColRead} {op : QOp}

theorem ctxCacheFill_none {x : CtxRead} (h : s.qmg.fills.any (fun f => f.1 == x.qid.toNat) = false) : ctxCacheFill x s = s := by
  have hfind : s.qmg.fills.find? (fun f => f.1 == x.qid.toNat) = none := by
    simpa [List.find?_eq_none] using h
  unfold ctxCacheFill
  simp only [hfind]

variable (h : s.qmg.fills = [(q.toNat, [op])])
include h

theorem fills_find : s.qmg.fills.find? (fun f => f.1 == q.toNat) = some (q.toNat, [op]) := by
  simp [h]

theorem ctxCacheFill_tags : ctxCacheFill ⟨q, found, true⟩ s =
    s.record (regionOcc (qidRegion q.toNat) (qmgSet (qidRegion q.toNat)) 6) := by
  unfold ctxCacheFill
  dsimp only
  rw [fills_find h]
  rfl

theorem ctxCacheFill_one : ctxCacheFill ⟨q, found, false⟩ s = ((s.fillRead q.toNat found).filled q.toNat).performOp op := by
  unfold ctxCacheFill
  extract_lets x r s0 s1 qmg s2
  split
  next hnone => cases (fills_find h).symm.trans hnone
  next f hsome =>
    obtain rfl : (q.toNat, [op]) = f := Option.some.inj ((fills_find h).symm.trans hsome)
    rw [if_neg Bool.false_ne_true]
    have h1 : s1 = s.fillRead q.toNat found := by
      unfold s1 State.fillRead
      cases found <;> rfl
    have h2 : s2 = (s.fillRead q.toNat found).filled q.toNat := by
      unfold s2
      rw [h1]
      rfl
    exact (State.performAlone s2 op).trans (by rw [h2])

end

/-! What a fill leaves. -/

theorem State.filled_fills {s : State} {q : Nat} {l : List QOp} (h : s.qmg.fills = [(q, l)]) : (s.filled q).qmg.fills = [] := by
  change s.qmg.fills.filter (fun x => x.1 != q) = []
  simp [h]

theorem State.filled_onlyQueues (s : State) (q : Nat) : onlyQueues s (s.filled q) := onlyQueues.useCtx (t := { s with qmg := _ }) rfl
theorem State.filled_wordsKept (s : State) (q : Nat) : wordsKept s (s.filled q) [] := fun _ _ _ => rfl

/-- A command that waited ends (R320). -/
theorem State.filledCommand_shows {s : State} {q : Nat} {l : List QOp} (h : s.qmg.fills = [(q, l)]) (r n : Nat) (v : BitVec 512) :
    let t := (s.filled q).ctxPerform r q n v
    t.cached q = true ∧ t.qmg.fills = [] ∧ t.get QMG_CTX_CMD.BUSY r = 0 ∧ t.ces = s.ces := by
  obtain ⟨u, res, ht, hqmg, hces⟩ := (s.filled q).ctxPerform_ends r q n v
  rw [ht]
  refine ⟨?_, ?_, State.ctxEnds_busy _ _, hces⟩
  · exact (State.cached_of_qmg hqmg q).trans (State.cached_useCtx _ q)
  · exact (congrArg QmgState.fills hqmg).trans (State.filled_fills h)

/-- With a corrected error (R322). -/
theorem State.fillRead_corrected {s : State} {q : Nat} (hrgn : s.rgn (qidRegion q) ≠ 2) :
    (s.fillRead q .corrected).qmg = s.qmg ∧ (s.fillRead q .corrected).stsBit (qmgSet (qidRegion q)) 0 := by
  have hkept : CtxKept s (keyCorrected (s.columns (ctxAt q / 2 ^ 35) 1) (ctxAt q)) := (CtxKept.refl s).columns.keyCorrected
  exact ⟨(hkept.record_qmg (qidRegion_lt q) (by decide)).qmg, hkept.record_stsBit (qidRegion_lt q) (by decide) hrgn⟩

theorem Noted.ownerIrq (s : State) (q : Nat) (c : BitVec 512) : Noted s (s.ownerIrq q c) :=
  .ite (.emit ..) (.ite (.emit ..) (.emit ..))

/-- The loss of a context is captured and recorded. -/
def State.lossNoted (s : State) (q : Nat) : State :=
  (s.qmgCapture (qidRegion q) q 4).record (occ (qmgSet (qidRegion q)) 1 6 q)

/-- A lost context that no carrel owns is invalid, and its owner hears of it (R322). -/
theorem State.ctxLost_unowned {s : State} {q : Nat} (h : cget (s.ctx q) cOwner ≠ 2) :
    s.ctxLost q = if cget (s.ctx q) cValid = 1 then ((s.lossNoted q).putCtx q (cput (s.ctx q) cValid 0)).ownerIrq q (s.ctx q)
      else s.lossNoted q := by
  unfold State.ctxLost
  exact if_neg (by simp [h])

/-- With an uncorrectable error in such a context (R322). -/
theorem State.fillRead_lost {s : State} {q : Nat} (hrgn : s.rgn (qidRegion q) ≠ 2) (hown : cget (s.ctx q) cOwner ≠ 2) :
    let t := s.fillRead q .uncorrectable
    t.qmg = s.qmg ∧ t.stsBit (qmgSet (qidRegion q)) 1 ∧ (cget (s.ctx q) cValid = 1 → t.ctx q = cput (s.ctx q) cValid 0) ∧
      (cget (s.ctx q) cValid = 0 → t.hbm = s.hbm) := by
  have hu : CtxKept s (keyLost (s.columns (ctxAt q / 2 ^ 35) 1) (ctxAt q)) := (CtxKept.refl s).columns.keyLost
  have hfill : s.fillRead q .uncorrectable = (keyLost (s.columns (ctxAt q / 2 ^ 35) 1) (ctxAt q)).ctxLost q := rfl
  rw [hfill]
  generalize keyLost (s.columns (ctxAt q / 2 ^ 35) 1) (ctxAt q) = u at hu
  have hctx : u.ctx q = s.ctx q := State.ctx_of_hbm hu.hbm q
  have hnoted : CtxKept s (u.lossNoted q) := hu.qmgCapture.record_qmg (qidRegion_lt q) (by decide)
  have hsts : (u.lossNoted q).stsBit (qmgSet (qidRegion q)) 1 := hu.qmgCapture.record_stsBit (qidRegion_lt q) (by decide) hrgn
  rw [State.ctxLost_unowned (by rwa [hctx]), hctx]
  generalize u.lossNoted q = w at hnoted hsts
  split
  next hv =>
    have hirq := Noted.ownerIrq (w.putCtx q (cput (s.ctx q) cValid 0)) q (s.ctx q)
    have hkept := (CtxKept.refl _).noted hirq
    refine ⟨hkept.qmg.trans hnoted.qmg, hirq.sts _ _ hsts, fun _ => ?_, fun h0 => absurd (hv.symm.trans h0) (by decide)⟩
    exact (State.ctx_of_hbm hkept.hbm q).trans (w.ctx_putCtx q _)
  next hv => exact ⟨hnoted.qmg, hsts, fun h1 => absurd h1 hv, fun _ => hnoted.hbm⟩

/-! A doorbell that waited (R307). -/

theorem State.nextRecords_idle {s : State} (h : s.dmv.chan = []) : s.nextRecords = s :=
  List.foldlRecOn (motive := fun t : State => t = s) _ _ rfl fun t ht _ _ => by simp [ht, h]

theorem State.retryHeld_idle {s : State} (q : Nat) (h : s.dmv.chan = []) : s.retryHeld q = s := by
  unfold State.retryHeld
  rw [h]
  exact State.nextRecords_idle h

theorem State.performOp_door (s : State) (q idx ingress : Nat) (cons bad : Bool) (x : Option Nat) :
    s.performOp (.door q idx cons bad x ingress) = s.doorPerform q idx cons bad x ingress := rfl

/-- A consumer's doorbell up to the occupancy sets CONS (R307, R308). -/
theorem State.doorPerform_consumes {s : State} {q idx ingress : Nat} (hring : isRing (s.ctx q) = true) (huse : cget (s.ctx q) cUse ≠ 0)
    (hd : sub32 idx (cget (s.ctx q) cCons) ≤ ctxOcc (s.ctx q)) (hchan : s.dmv.chan = []) :
    s.doorPerform q idx true false none ingress = (s.useCtx q).setCtx q (cput (s.ctx q) cCons idx) := by
  have hmay : doorMay (s.ctx q) true none = true := by
    simp [doorMay, hring, huse]
  have hperform : s.doorPerform q idx true false none ingress = ((s.useCtx q).setCtx q (cput (s.ctx q) cCons idx)).retryHeld q := by
    unfold State.doorPerform
    simp only [State.ctx_useCtx, hmay, if_pos hd, Bool.not_true, Bool.false_eq_true, if_false, Bool.false_and]
  rw [hperform]
  exact State.retryHeld_idle q hchan

/-! Writes of the registers (R89). -/

/-- A write of QMG_CTX_CMD does what its bits start: the same as the command of its OP (R304). -/
theorem exec_registerWrite_ctxCmd {s : State} {p : Path} {a : BitVec 32} {i : Nat} {r : Region} (d : BitVec 64)
    (h : s.writeReaches p a (.reg .QMG_CTX_CMD i)) (hr : r.val = i) :
    exec (.registerWrite p a d 4) s =
      let st := s.stored .QMG_CTX_CMD i d a
      let q := BitVec.ofNat 20 (bits (d.setWidth 32) 0 20)
      if d.getLsbD 24 then
        (if s.flag QMG_CTX_CMD.BUSY i then .next (startDiscarded (regSet s .QMG_CTX_CMD i a.toNat) s st)
        else if bits (d.setWidth 32) 20 2 = 0 then exec (.ctxRead p (ixRegion i) q) st
        else if bits (d.setWidth 32) 20 2 = 1 then exec (.ctxCreate p (ixRegion i) q) st
        else if bits (d.setWidth 32) 20 2 = 2 then exec (.ctxModify p (ixRegion i) q) st
        else exec (.ctxDestroy p (ixRegion i) q) st)
      else .next st := by
  have hix : (ixRegion i).val = i := by
    subst hr
    exact Nat.mod_eq_of_lt r.isLt
  have hq : (BitVec.ofNat 20 (bits (d.setWidth 32 : Word) 0 20)).toNat = bits (d.setWidth 32 : Word) 0 20 :=
    Nat.mod_eq_of_lt (bits_lt _ _ _)
  have hcmd : exec (.registerWrite p a d 4) s =
      .next (goes (bit (d.setWidth 32 : Word) 24) (s.flag QMG_CTX_CMD.BUSY i) (regSet s .QMG_CTX_CMD i a.toNat) s
        (s.stored .QMG_CTX_CMD i d a) (ctxCommand p (ixRegion i)
          (BitVec.ofNat 20 (bits (d.setWidth 32) 0 20)).toNat (bits (d.setWidth 32) 20 2))) := by
    rw [exec_registerWrite_of_reaches d h, hix, hq]
    rfl
  have hop : bits (d.setWidth 32 : Word) 20 2 < 4 := bits_lt _ _ _
  rw [hcmd, next_goes, bit_lowWord d (by decide)]
  dsimp only
  congr 2
  generalize bits (d.setWidth 32 : Word) 20 2 = op at hop
  match op, hop with
  | 0, _ => rfl
  | 1, _ => rfl
  | 2, _ => rfl
  | 3, _ => rfl

/-- A write of QMG_ERR_CAP that clears VALID clears COUNT (R322). -/
theorem exec_registerWrite_errCap {s : State} {p : Path} {a : BitVec 32} {i : Nat} (d : BitVec 64)
    (h : s.writeReaches p a (.reg .QMG_ERR_CAP i)) :
    exec (.registerWrite p a d 4) s =
      .next (if d.getLsbD 31 then (s.stored .QMG_ERR_CAP i d a).set QMG_ERR_CAP.COUNT i 0 else s.stored .QMG_ERR_CAP i d a) := by
  rw [exec_registerWrite_of_reaches d h, ← bit_lowWord d (by decide : 31 < 32)]
  rfl

/-- A fill without an error, for a READ (R304, R320). -/
theorem ctxCacheFill_read {s : State} {q : Qid} (h : s.qmg.fills = [(q.toNat, [.cmd (qidRegion q.toNat) q.toNat 0 0])]) :
    let t := ctxCacheFill ⟨q, .good, false⟩ s
    t.cached q.toNat = true ∧ t.qmg.fills = [] ∧ t.get QMG_CTX_CMD.BUSY (qidRegion q.toNat) = 0 ∧
      (∀ k < 16, t.word .QMG_CTX_D (16 * qidRegion q.toNat + k) = BitVec.ofNat 32 (bits (s.ctx q.toNat) (32 * k) 32)) ∧
      { t with regs := s.regs, qmg := s.qmg, arc := s.arc } = s := by
  have hcount : Counted [.PMC_CFG] s (s.fillRead q.toNat .good) := (Counted.refl _ s).count (by decide)
  rw [ctxCacheFill_one h]
  generalize s.fillRead q.toNat .good = u at hcount
  obtain ⟨hcached, hfills, hbusy, -⟩ := State.filledCommand_shows ((congrArg QmgState.fills hcount.qmg).trans h) (qidRegion q.toNat) 0 0
  obtain ⟨hword, -, -, -, honly⟩ := (u.filled q.toNat).ctxPerform_read_shows (q := q.toNat) 0 (qidRegion_lt q.toNat)
  have hfilled := u.filled_onlyQueues q.toNat
  refine ⟨hcached, hfills, hbusy, fun k hk => ?_, (hfilled.trans honly).counted hcount⟩
  exact (hword k hk).trans (by rw [State.ctx_of_hbm (hfilled.hbm.trans hcount.hbm)])

/-- A consumer's doorbell that waited, once its fill is there. -/
theorem State.performDoor_shows {s u w : State} {q idx : Nat} (hcount : Counted [.PMC_CFG] s u) (hfilled : onlyQueues u w)
    (hwords : wordsKept u w []) (hfills : w.qmg.fills = []) (hring : isRing (s.ctx q) = true) (huse : cget (s.ctx q) cUse ≠ 0)
    (hd : sub32 idx (cget (s.ctx q) cCons) ≤ ctxOcc (s.ctx q)) (hchan : s.dmv.chan = []) :
    let t := w.performOp (.door q idx true false none 0)
    t.cached q = true ∧ t.qmg.fills = [] ∧ t.ctx q = cput (s.ctx q) cCons idx ∧ hbmKept s t (ctxAt q) 64 ∧
      wordsAt s t [] ∧ { t with regs := s.regs, qmg := s.qmg, arc := s.arc, hbm := s.hbm } = s := by
  have hctx := State.ctx_of_hbm (hfilled.hbm.trans hcount.hbm) q
  have hchan' : w.dmv.chan = [] := by rw [hfilled.dmv, hcount.dmv, hchan]
  rw [State.performOp_door, State.doorPerform_consumes (by rw [hctx, hring]) (by rw [hctx]; exact huse) (by rw [hctx]; exact hd) hchan',
    hctx]
  have hused : onlyQueues u (w.useCtx q) := hfilled.useCtx
  have hcached : (w.useCtx q).cached q = true := w.cached_useCtx q
  have hnone : (w.useCtx q).qmg.fills = [] := hfills
  have hkept : wordsKept u (w.useCtx q) [] := hwords.useCtx
  generalize w.useCtx q = x at hused hcached hnone hkept
  exact ⟨(x.cached_setCtx _ _ _).trans hcached, (congrArg QmgState.fills (x.qmg_setCtx _ _)).trans hnone, x.ctx_setCtx_same _ _,
    fun k hk => (x.setCtx_hbmKept _ _ k hk).trans (congrArg (fun m => peek m k) (hused.hbm.trans hcount.hbm)),
    ((wordsAt.refl s _).counted hcount).kept hkept.setCtx, hused.onlyStored.setCtx.counted hcount⟩

/-- A fill without an error, for a consumer's doorbell (R307, R320). -/
theorem ctxCacheFill_door {s : State} {q : Qid} {idx : Nat} (h : s.qmg.fills = [(q.toNat, [.door q.toNat idx true false none 0])])
    (hring : isRing (s.ctx q.toNat) = true) (huse : cget (s.ctx q.toNat) cUse ≠ 0)
    (hd : sub32 idx (cget (s.ctx q.toNat) cCons) ≤ ctxOcc (s.ctx q.toNat)) (hchan : s.dmv.chan = []) :
    let t := ctxCacheFill ⟨q, .good, false⟩ s
    t.cached q.toNat = true ∧ t.qmg.fills = [] ∧ t.ctx q.toNat = cput (s.ctx q.toNat) cCons idx ∧ hbmKept s t (ctxAt q.toNat) 64 ∧
      wordsAt s t [] ∧ { t with regs := s.regs, qmg := s.qmg, arc := s.arc, hbm := s.hbm } = s := by
  have hcount : Counted [.PMC_CFG] s (s.fillRead q.toNat .good) := (Counted.refl _ s).count (by decide)
  rw [ctxCacheFill_one h]
  exact State.performDoor_shows hcount (State.filled_onlyQueues _ _) (State.filled_wordsKept _ _)
    (State.filled_fills ((congrArg QmgState.fills hcount.qmg).trans h)) hring huse hd hchan

/-- Settles O36, from what each command leaves of its context, and from what a fill finds before the one operation that waits. -/
theorem queueContexts : Obligations.QueueContexts := by
  unfold Obligations.QueueContexts
  refine ⟨fun s p r q h hb hq hc => ?_, fun s p r q h hb hq hc hres => ?_, fun s p r q h hb hq hc hres => ?_,
    fun s p r q h hb hq hc hv => ?_, fun s p r q h hb hq hc => ⟨fun hres => ?_, fun hres => ?_, fun hv => ?_⟩,
    fun s p r q h hb => ?_, fun s p r q h hb hq => ?_, fun s p r q h hb hq hc => ?_, fun s q h => ?_,
    fun s q idx h hring huse hd hchan => ⟨_, rfl, ctxCacheFill_door h hring huse hd hchan⟩,
    fun s q f b h => congrArg Host.Outcome.next (ctxCacheFill_none h), fun s q n v f h hrgn => ⟨?_, ?_⟩, fun s q h hrgn hown => ?_,
    fun s p a d i r h hr => exec_registerWrite_ctxCmd d h hr, fun s p a d i h => exec_registerWrite_errCap d h, fun s p r q h => ?_⟩
  · obtain ⟨hword, hresult, hbusy, hkept, honly⟩ :=
      (s.ctxAsked r q.toNat 0).ctxPerform_read_shows (q := q.toNat) (ctxStaged s r) r.isLt
    have hasked : onlyQueues s (s.ctxAsked r q.toNat 0) := onlyQueues.ctxAsked rfl
    exact ⟨_, congrArg Host.Outcome.next (ctxCommand_cached h hb hq hc), hword, hresult, hbusy, (hasked.trans honly).hbm,
      wordsKept.trans (.ctxAsked (.refl s _) (by decide)) hkept, hasked.trans honly⟩
  · have ht := ctxCommand_cached h hb hq hc (op := 1)
    rw [State.ctxPerform_create, State.createResult_ctxAsked, if_pos hres] at ht
    exact ⟨_, congrArg Host.Outcome.next ht, s.ctxMade_shows r q.toNat (ctxMade (ctxStaged s r))⟩
  · have ht := ctxCommand_cached h hb hq hc (op := 2)
    rw [State.ctxPerform_modify, State.modifyResult_ctxAsked, State.ctx_ctxAsked, if_pos hres] at ht
    obtain ⟨hctx, hresult, hbusy, hkept, hbytes, honly⟩ :=
      s.ctxStored_shows r q.toNat 2 (ctxTake ctxMay (ctxStaged s r) (s.ctx q.toNat))
    refine ⟨_, congrArg Host.Outcome.next ht, fun f hf => ?_, fun f hf => ?_, hresult, hbusy, hkept, hbytes, honly⟩
    · exact (congrArg (fun c => cget c f) hctx).trans (cget_ctxTake_mem _ _ _ (by decide) hf (ctxMay_within f hf))
    · exact (congrArg (fun c => cget c f) hctx).trans (cget_ctxTake_apart _ _ _ (ctxMay_apart f hf))
  · have ht := ctxCommand_cached h hb hq hc (op := 3)
    rw [State.ctxPerform_destroy _ _ _ _ 0, State.ctx_ctxAsked, if_pos hv] at ht
    exact ⟨_, congrArg Host.Outcome.next ht, s.ctxStored_shows r q.toNat 3 (cput (s.ctx q.toNat) cValid 0)⟩
  · have ht := ctxCommand_cached h hb hq hc (op := 1)
    rw [State.ctxPerform_create, State.createResult_ctxAsked, if_neg hres] at ht
    exact ⟨_, congrArg Host.Outcome.next ht, s.ctxRefused_shows r q.toNat 1 (State.createResult_lt ..)⟩
  · have ht := ctxCommand_cached h hb hq hc (op := 2)
    rw [State.ctxPerform_modify, State.modifyResult_ctxAsked, State.ctx_ctxAsked, if_neg hres] at ht
    exact ⟨_, congrArg Host.Outcome.next ht, s.ctxRefused_shows r q.toNat 2 (State.modifyResult_lt ..)⟩
  · have ht := ctxCommand_cached h hb hq hc (op := 3)
    rw [State.ctxPerform_destroy _ _ _ _ 0, State.ctx_ctxAsked, if_neg (fun hv1 => absurd (hv.symm.trans hv1) (by decide))] at ht
    exact ⟨_, congrArg Host.Outcome.next ht, s.ctxRefused_shows r q.toNat 3 (by decide)⟩
  · exact ⟨congrArg Host.Outcome.next (ctxCommand_busy h hb), congrArg Host.Outcome.next (ctxCommand_busy h hb),
      congrArg Host.Outcome.next (ctxCommand_busy h hb), congrArg Host.Outcome.next (ctxCommand_busy h hb)⟩
  · exact ⟨congrArg Host.Outcome.next (ctxCommand_elsewhere h hb hq), congrArg Host.Outcome.next (ctxCommand_elsewhere h hb hq),
      congrArg Host.Outcome.next (ctxCommand_elsewhere h hb hq), congrArg Host.Outcome.next (ctxCommand_elsewhere h hb hq)⟩
  · exact ⟨⟨_, rfl, ctxCommand_waits_shows h hb hq hc (by decide)⟩, ⟨_, rfl, ctxCommand_waits_shows h hb hq hc (by decide)⟩,
      ⟨_, rfl, ctxCommand_waits_shows h hb hq hc (by decide)⟩, ⟨_, rfl, ctxCommand_waits_shows h hb hq hc (by decide)⟩⟩
  · exact ⟨_, rfl, ctxCacheFill_read h⟩
  · exact congrArg Host.Outcome.next (ctxCacheFill_tags h)
  · obtain ⟨hqmg, hsts⟩ := State.fillRead_corrected hrgn
    obtain ⟨hcached, hfills, hbusy, hces⟩ := State.filledCommand_shows ((congrArg QmgState.fills hqmg).trans h) (qidRegion q.toNat) n v
    exact ⟨_, congrArg Host.Outcome.next (ctxCacheFill_one h), hcached, hfills, (State.stsBit_of_ces hces _ _).2 hsts, hbusy⟩
  · obtain ⟨hqmg, hsts, hvalid, hinvalid⟩ := State.fillRead_lost hrgn hown
    obtain ⟨hcached, hfills, -, hces⟩ := State.filledCommand_shows ((congrArg QmgState.fills hqmg).trans h) (qidRegion q.toNat) 0 0
    obtain ⟨-, -, -, -, honly⟩ := ((s.fillRead q.toNat .uncorrectable).filled q.toNat).ctxPerform_read_shows (q := q.toNat) 0
      (qidRegion_lt q.toNat)
    have hhbm := ((State.filled_onlyQueues _ _).trans honly).hbm
    exact ⟨_, congrArg Host.Outcome.next (ctxCacheFill_one h), hcached, hfills, (State.stsBit_of_ces hces _ _).2 hsts,
      fun hv => (State.ctx_of_hbm hhbm _).trans (hvalid hv), fun hv => hhbm.trans (hinvalid hv)⟩
  · exact ⟨congrArg Host.Outcome.next (ctxCommand_refused h), congrArg Host.Outcome.next (ctxCommand_refused h),
      congrArg Host.Outcome.next (ctxCommand_refused h), congrArg Host.Outcome.next (ctxCommand_refused h)⟩

end Sys2Proof.Machine
end

section
/-! SUPPORT. The read window of NOTICE FIFOs (R317, R318, R323), and the theorem that settles O38. -/
namespace Sys2Proof.Machine
open Sys2Proof

/-! What an access of the window uses. -/

/-- Nothing but register words, the queue managers' own state and the counters differs. -/
abbrev onlyMissed (s t : State) : Prop := { t with regs := s.regs, qmg := s.qmg, arc := s.arc } = s

section
variable {s t : State}

theorem onlyMissed.hbm (h : onlyMissed s t) : t.hbm = s.hbm := (congrArg (fun x : State => x.hbm) h :)
theorem onlyMissed.grn (h : onlyMissed s t) : t.grn = s.grn := (congrArg (fun x : State => x.grn) h :)
theorem onlyMissed.out (h : onlyMissed s t) : t.out = s.out := (congrArg (fun x : State => x.out) h :)
theorem onlyMissed.useCtx {q : Nat} (h : onlyMissed s t) : onlyMissed s (t.useCtx q) := h

end

section
variable (s : State) {q : Nat}

theorem State.windowCtx_cached (h : s.cached q = true) : s.windowCtx q = s.useCtx q := if_pos h
theorem State.windowCtx_missed (h : s.cached q = false) : s.windowCtx q = (s.missed q).useCtx q := if_neg (by simp [h])

variable (q : Nat)

theorem State.windowCtx_onlyMissed : onlyMissed s (s.windowCtx q) := by
  cases h : s.cached q with
  | true =>
    rw [s.windowCtx_cached h]
    exact onlyMissed.useCtx rfl
  | false =>
    rw [s.windowCtx_missed h]
    exact onlyMissed.useCtx (congrArg (fun u : State => { u with qmg := s.qmg }) (s.missed_eq q) :)

theorem State.windowCtx_wordsAt : wordsAt s (s.windowCtx q) [(.QMG_CACHE_STS, qidRegion q)] := by
  cases h : s.cached q with
  | true =>
    rw [s.windowCtx_cached h]
    exact (wordsAt.refl s _).kept (wordsKept.useCtx fun _ _ _ => rfl)
  | false =>
    rw [s.windowCtx_missed h]
    exact (s.missed_wordsAt q).kept (wordsKept.useCtx fun _ _ _ => rfl)

/-- What a read of the window uses: of a queue that is no NOTICE FIFO, nothing. -/
def State.windowUsed : State := if isNotice (s.ctx q) then s.windowCtx q else s

theorem State.windowUsed_onlyMissed : onlyMissed s (s.windowUsed q) := by
  unfold State.windowUsed
  split
  · exact s.windowCtx_onlyMissed q
  · rfl

theorem State.windowUsed_wordsAt : wordsAt s (s.windowUsed q) [(.QMG_CACHE_STS, qidRegion q)] := by
  unfold State.windowUsed
  split
  · exact s.windowCtx_wordsAt q
  · exact .refl s _

end

/-! The word at the read position. -/

section
variable {s t : State} {q : Nat} (hh : t.hbm = s.hbm) (hw : t.word .QMG_WIN_STS q = s.word .QMG_WIN_STS q)
include hh hw

theorem State.windowWord_congr : t.windowWord q = s.windowWord q := by
  have hword : t.get QMG_WIN_STS.WORD q = s.get QMG_WIN_STS.WORD q := congrArg (fun w => bits w QMG_WIN_STS.WORD.lo QMG_WIN_STS.WORD.w) hw
  simp only [State.windowWord, State.ctx_of_hbm hh, hh, hword]

theorem State.windowBad_congr (hg : t.grn = s.grn) (x : Nat) : t.windowBad q x = s.windowBad q x := by
  have hword : t.get QMG_WIN_STS.WORD q = s.get QMG_WIN_STS.WORD q := congrArg (fun w => bits w QMG_WIN_STS.WORD.lo QMG_WIN_STS.WORD.w) hw
  simp only [State.windowBad, State.ctx_of_hbm hh, hh, hg, hword]

end

theorem State.windowCtx_sts (s : State) (q : Qid) : (s.windowCtx q.toNat).word .QMG_WIN_STS q.toNat = s.word .QMG_WIN_STS q.toNat :=
  s.windowCtx_wordsAt q.toNat _ _ (by decide) (by omega) (by simp)

theorem State.windowWord_windowCtx (s : State) (q : Qid) : (s.windowCtx q.toNat).windowWord q.toNat = s.windowWord q.toNat :=
  State.windowWord_congr (s.windowCtx_onlyMissed _).hbm (s.windowCtx_sts q)

theorem State.windowBad_windowCtx (s : State) (q : Qid) (x : Nat) :
    (s.windowCtx q.toNat).windowBad q.toNat x = s.windowBad q.toNat x :=
  State.windowBad_congr (s.windowCtx_onlyMissed _).hbm (s.windowCtx_sts q) (s.windowCtx_onlyMissed _).grn x

/-! The latch of a path (R507). -/

/-- The high word that a latch of the low word keeps for its path. -/
def windowLatched (q x : Nat) (l : PathLatch) : PathLatch := { l with winHi := BitVec.ofNat 32 (x / 2 ^ 32), winQid := some q }

theorem Latches.of_put_same (l : Latches) (p : Path) (v : PathLatch) : (l.put p v).of p = v := by
  cases p <;> rfl

theorem State.latch_winHi (s : State) (p : Path) (q x : Nat) (m : Msg) :
    (((s.latch p (windowLatched q x)).emit m).lat.of p).winHi = BitVec.ofNat 32 (x / 2 ^ 32) :=
  congrArg PathLatch.winHi (Latches.of_put_same s.lat p (windowLatched q x (s.lat.of p)))

/-! The reads (R317). -/

/-- A word that failed its checks is counted and recorded as it is passed (R317). -/
def State.wordPoisoned (s : State) (q : Nat) : State :=
  ((s.setCtx q (cbump (s.ctx q) cPoisoned 1)).set QMG_WIN_STS.POISON q 1).qmgError q 4 2

theorem windowTake_word {s : State} {q x : Nat} (p : Path) (hn : isNotice (s.ctx q) = true) (hw : (s.windowCtx q).windowWord q = some x) :
    windowTake p q s = if (s.windowCtx q).windowBad q x then (((s.lat.of p).winHi, true), ((s.windowCtx q).wordPoisoned q).windowNext q)
      else (((s.lat.of p).winHi, false), ((s.windowCtx q).set QMG_WIN_STS.POISON q 0).windowNext q) := by
  unfold windowTake
  rw [hn]
  dsimp only
  rw [hw]
  rfl

section
variable {s : State} {p : Path} {q : Qid}

theorem State.windowReply_heard {f : State → (Word × Bool) × State} {w : Word} {bad : Bool} {t : State}
    (h : s.admits p (qmgSet (qidRegion q.toNat))) (hr : s.mayRead p false = true) (hf : f s = ((w, bad), t)) :
    s.windowReply p q.toNat f = t.emit (if bad then .readPoison p w else .readData p w) := by
  obtain ⟨hgone, hmay⟩ := h
  rw [setUnit_qmgSet (qidRegion_lt _)] at hgone
  rw [State.windowReply, hf]
  exact if_neg (by simp [State.unheard_of_mayWrite hmay, hgone, hr])

/-- A path that is not heard, or finds the window gone, or may not read, is answered as by any read (R382, R469, R497). -/
theorem State.windowReply_refused (f : State → (Word × Bool) × State)
    (h : (s.unheard p || s.windowGone (qidRegion q.toNat) || !s.mayRead p false) = true) :
    s.windowReply p q.toNat f = s.readWith p (qidRegion q.toNat) false fun t => (0, t) := if_pos h

theorem State.windowReply_unheard (f : State → (Word × Bool) × State) (h : s.unheard p = true) :
    s.windowReply p q.toNat f = s.emit (.readRefused p) :=
  (State.windowReply_refused f (by simp [h])).trans (if_pos h)

theorem State.windowReply_gone (f : State → (Word × Bool) × State) (h : s.unheard p = false)
    (hg : s.windowGone (qidRegion q.toNat) = true) :
    s.windowReply p q.toNat f = s.emit (.readData p 0xFFFFFFFF) := by
  rw [State.windowReply_refused f (by simp [hg]), State.readWith, h, hg]
  rfl

theorem State.windowReply_denied (f : State → (Word × Bool) × State) (h : s.unheard p = false)
    (hg : s.windowGone (qidRegion q.toNat) = false) (hr : s.mayRead p false = false) :
    s.windowReply p q.toNat f = s.emit (.readData p (deniedRead p)) := by
  rw [State.windowReply_refused f (by simp [hr]), State.readWith, h, hg, hr]
  rfl

variable (h : s.admits p (qmgSet (qidRegion q.toNat))) (hr : s.mayRead p false = true)
include h hr

section
variable {x : Nat} (hn : isNotice (s.ctx q.toNat) = true) (hw : s.windowWord q.toNat = some x)
include hn hw

theorem noticeWordLatch_good (hb : s.windowBad q.toNat x = false) : noticeWordLatch p q s =
    ((s.windowCtx q.toNat).latch p (windowLatched q.toNat x)).emit (.readData p (BitVec.ofNat 32 x)) := by
  have hlatch : windowLatch p q.toNat s = ((BitVec.ofNat 32 x, false), (s.windowCtx q.toNat).latch p (windowLatched q.toNat x)) := by
    simp only [windowLatch, hn, hw, if_true, Option.getD_some, State.windowBad_windowCtx, hb, Bool.false_eq_true, if_false]
    rfl
  exact State.windowReply_heard h hr hlatch

theorem noticeWordLatch_bad (hb : s.windowBad q.toNat x = true) : noticeWordLatch p q s =
    (((s.windowCtx q.toNat).set QMG_WIN_STS.POISON q.toNat 1).latch p (windowLatched q.toNat x)).emit
      (.readPoison p (BitVec.ofNat 32 x)) := by
  have hlatch : windowLatch p q.toNat s = ((BitVec.ofNat 32 x, true),
      ((s.windowCtx q.toNat).set QMG_WIN_STS.POISON q.toNat 1).latch p (windowLatched q.toNat x)) := by
    simp only [windowLatch, hn, hw, if_true, Option.getD_some, State.windowBad_windowCtx, hb]
    rfl
  exact State.windowReply_heard h hr hlatch

theorem noticeWordRead_good (hb : s.windowBad q.toNat x = false) : noticeWordRead p q s =
    (((s.windowCtx q.toNat).set QMG_WIN_STS.POISON q.toNat 0).windowNext q.toNat).emit (.readData p (s.lat.of p).winHi) :=
  State.windowReply_heard h hr
    ((windowTake_word p hn ((s.windowWord_windowCtx q).trans hw)).trans (if_neg (by rw [State.windowBad_windowCtx, hb]; decide)))

theorem noticeWordRead_bad (hb : s.windowBad q.toNat x = true) : noticeWordRead p q s =
    (((s.windowCtx q.toNat).wordPoisoned q.toNat).windowNext q.toNat).emit (.readPoison p (s.lat.of p).winHi) :=
  State.windowReply_heard h hr
    ((windowTake_word p hn ((s.windowWord_windowCtx q).trans hw)).trans (if_pos (by rw [State.windowBad_windowCtx, hb])))

end

section
variable (hn : isNotice (s.ctx q.toNat) = false ∨ s.windowWord q.toNat = none)
include hn

theorem noticeWordLatch_empty :
    noticeWordLatch p q s = ((s.windowUsed q.toNat).latch p (windowLatched q.toNat 0)).emit (.readData p 0) := by
  have hfound : (if isNotice (s.ctx q.toNat) then s.windowWord q.toNat else none) = none := by
    obtain hn | hn := hn
    · simp [hn]
    · simp [hn]
  have hlatch : windowLatch p q.toNat s = ((0, false), (s.windowUsed q.toNat).latch p (windowLatched q.toNat 0)) := by
    unfold windowLatch State.windowUsed
    rw [hfound]
    generalize (if isNotice (s.ctx q.toNat) = true then s.windowCtx q.toNat else s) = u
    rfl
  exact State.windowReply_heard h hr hlatch

theorem noticeWordRead_empty : noticeWordRead p q s = (s.windowUsed q.toNat).emit (.readData p 0) := by
  have htake : windowTake p q.toNat s = ((0, false), s.windowUsed q.toNat) := by
    cases hc : isNotice (s.ctx q.toNat) with
    | false => simp [windowTake, State.windowUsed, hc]
    | true =>
      have hnone : s.windowWord q.toNat = none := hn.resolve_left (by simp [hc])
      simp [windowTake, State.windowUsed, hc, State.windowWord_windowCtx, hnone]
  exact State.windowReply_heard h hr htake

end

end

/-! The advance of the read position (R317). -/

theorem ctxSize_cbump_poisoned (c : BitVec 512) (n : Nat) : ctxSize (cbump c cPoisoned n) = ctxSize c := by
  rw [ctxSize, cbump, cget_cput_apart _ _ (by decide), ctxSize]

theorem State.get_setCtx (s : State) (x : Nat) (c : BitVec 512) (f : Fld) (i : Nat) : (s.setCtx x c).get f i = s.get f i := rfl

theorem State.ctx_set (s : State) (f : Fld) (i v q : Nat) : (s.set f i v).ctx q = s.ctx q :=
  State.ctx_of_hbm (s := s) (t := s.set f i v) rfl q

theorem hbmKept.trans {s t u : State} {k n : Nat} (h : hbmKept s t k n) (g : hbmKept t u k n) : hbmKept s u k n :=
  fun j hj => (g j hj).trans (h j hj)

theorem hbmKept_of_hbm {s t : State} (h : t.hbm = s.hbm) (k n : Nat) : hbmKept s t k n := fun j _ => congrArg (fun m => peek m j) h

theorem State.setCtx_set_hbmKept (s : State) (q : Nat) (c : BitVec 512) (f : Fld) (i v : Nat) :
    hbmKept s ((s.setCtx q c).set f i v) (ctxAt q) 64 :=
  (s.setCtx_hbmKept q c).trans (hbmKept_of_hbm (s := s.setCtx q c) (t := (s.setCtx q c).set f i v) rfl _ _)

theorem State.ctx_setCtx_set (s : State) (q : Nat) (c : BitVec 512) (f : Fld) (i v : Nat) : ((s.setCtx q c).set f i v).ctx q = c :=
  (State.ctx_set _ _ _ _ _).trans (s.ctx_setCtx_same q c)

section
variable (s : State) {q : Nat}

/-- Within an item the read position is a word further. -/
theorem State.windowNext_within (h : 8 * (s.get QMG_WIN_STS.WORD q + 1) < ctxSize (s.ctx q)) :
    s.windowNext q = s.set QMG_WIN_STS.WORD q (s.get QMG_WIN_STS.WORD q + 1) := if_pos h

/-- Past its last word it is the next item's first word. -/
theorem State.windowNext_past (h : ctxSize (s.ctx q) ≤ 8 * (s.get QMG_WIN_STS.WORD q + 1)) :
    s.windowNext q = (s.setCtx q (cput (s.ctx q) cRd (cget (s.ctx q) cRd + 1))).set QMG_WIN_STS.WORD q 0 := if_neg (Nat.not_lt.2 h)

variable (q)

/-- The count of words that failed, POISON and the error's bit stay; of the stacks only the context's bytes differ. -/
theorem State.windowNext_keeps : (s.windowNext q).ces = s.ces ∧ (s.windowNext q).get QMG_WIN_STS.POISON q = s.get QMG_WIN_STS.POISON q ∧
    hbmKept s (s.windowNext q) (ctxAt q) 64 ∧ cget ((s.windowNext q).ctx q) cPoisoned = cget (s.ctx q) cPoisoned := by
  obtain h | h := Nat.lt_or_ge (8 * (s.get QMG_WIN_STS.WORD q + 1)) (ctxSize (s.ctx q))
  · rw [s.windowNext_within h, State.ctx_set]
    exact ⟨rfl, State.get_set_apart _ _ (by decide), hbmKept_of_hbm rfl _ _, rfl⟩
  · rw [s.windowNext_past h, State.ctx_setCtx_set, State.get_set_apart _ _ (by decide)]
    exact ⟨rfl, State.get_setCtx .., s.setCtx_set_hbmKept _ _ _ _ _, cget_cput_apart _ _ (by decide)⟩

end

section
variable {s v : State} {q : Nat} (hq : onlyQueues s v) (hw : wordsKept s v [.QMG_WIN_STS])
  (hword : v.get QMG_WIN_STS.WORD q = s.get QMG_WIN_STS.WORD q)
include hq hw hword

/-- A word that is no item's last is passed. -/
theorem State.windowNext_within_shows (h : 8 * (s.get QMG_WIN_STS.WORD q + 1) < ctxSize (s.ctx q)) :
    (v.windowNext q).get QMG_WIN_STS.WORD q = (s.get QMG_WIN_STS.WORD q + 1) % 2 ^ QMG_WIN_STS.WORD.w ∧
      wordsKept s (v.windowNext q) [.QMG_WIN_STS] ∧ onlyQueues s (v.windowNext q) := by
  rw [v.windowNext_within (by rw [State.ctx_of_hbm hq.hbm, hword]; exact h), hword]
  exact ⟨State.get_set_same _ _ _ (by decide), hw.set (by decide), hq.set⟩

/-- The last word of an item is passed. -/
theorem State.windowNext_past_shows (h : ctxSize (s.ctx q) ≤ 8 * (s.get QMG_WIN_STS.WORD q + 1)) :
    (v.windowNext q).ctx q = cput (s.ctx q) cRd (cget (s.ctx q) cRd + 1) ∧ (v.windowNext q).get QMG_WIN_STS.WORD q = 0 ∧
      hbmKept s (v.windowNext q) (ctxAt q) 64 ∧ wordsKept s (v.windowNext q) [.QMG_WIN_STS] ∧ onlyStored s (v.windowNext q) := by
  have hctx := State.ctx_of_hbm hq.hbm q
  rw [v.windowNext_past (by rw [hctx, hword]; exact h), hctx]
  exact ⟨v.ctx_setCtx_set _ _ _ _ _, State.get_set_same _ _ _ (by decide),
    (hbmKept_of_hbm hq.hbm _ _).trans (v.setCtx_set_hbmKept _ _ _ _ _), hw.setCtx.set (by decide), hq.onlyStored.setCtx.set⟩

end

/-! A word that failed its checks (R317, R322). -/

theorem wordsKept.qmgCapture {s t : State} {rs : List Reg} {r q cause : Nat} (h : wordsKept s t rs) (hr : .QMG_ERR_CAP ∈ rs) :
    wordsKept s (t.qmgCapture r q cause) rs := by
  unfold State.qmgCapture
  split
  · exact h
  · split
    · exact h.set (f := QMG_ERR_CAP.COUNT) hr
    · exact (((h.set hr).set hr).set hr).set hr

theorem State.qmgError_get (s : State) (q cause : Nat) {bit : Nat} (hb : bit < 6) {f : Fld} (i : Nat) (hf : f.reg ≠ .QMG_ERR_CAP)
    (hn : f.reg ∉ noteRegs) : (s.qmgError q bit cause).get f i = s.get f i := by
  have hcapture : wordsKept s (s.qmgCapture (qidRegion q) q cause) [.QMG_ERR_CAP] := (wordsKept.refl s _).qmgCapture (by decide)
  rw [State.qmgError, State.record_qmg _ (qidRegion_lt q) hb]
  exact (congrArg (fun w => bits w f.lo f.w) ((Noted.noted _ _).word f.reg i hn)).trans (hcapture.get (by simpa using hf))

theorem State.wordPoisoned_shows {s : State} {q : Nat} (hrgn : s.rgn (qidRegion q) ≠ 2) :
    let t := s.wordPoisoned q
    t.ctx q = cbump (s.ctx q) cPoisoned 1 ∧ t.get QMG_WIN_STS.POISON q = 1 ∧ t.get QMG_WIN_STS.WORD q = s.get QMG_WIN_STS.WORD q ∧
      t.stsBit (qmgSet (qidRegion q)) 4 ∧ hbmKept s t (ctxAt q) 64 := by
  have hctx := s.ctx_setCtx_set q (cbump (s.ctx q) cPoisoned 1) QMG_WIN_STS.POISON q 1
  have hhbm := s.setCtx_set_hbmKept q (cbump (s.ctx q) cPoisoned 1) QMG_WIN_STS.POISON q 1
  have hpoison : ((s.setCtx q (cbump (s.ctx q) cPoisoned 1)).set QMG_WIN_STS.POISON q 1).get QMG_WIN_STS.POISON q = 1 :=
    State.get_set_same _ _ _ (by decide)
  have hword : ((s.setCtx q (cbump (s.ctx q) cPoisoned 1)).set QMG_WIN_STS.POISON q 1).get QMG_WIN_STS.WORD q =
      s.get QMG_WIN_STS.WORD q := by
    rw [State.get_set_apart _ _ (by decide), State.get_setCtx]
  have hrgn' : ((s.setCtx q (cbump (s.ctx q) cPoisoned 1)).set QMG_WIN_STS.POISON q 1).rgn (qidRegion q) ≠ 2 := by
    rw [State.rgn_set _ _ _ (by decide)]
    exact hrgn
  unfold State.wordPoisoned
  generalize (s.setCtx q (cbump (s.ctx q) cPoisoned 1)).set QMG_WIN_STS.POISON q 1 = v at *
  have hcapture : CtxKept v (v.qmgCapture (qidRegion q) q 2) := (CtxKept.refl v).qmgCapture
  have hkept : CtxKept v (v.qmgError q 4 2) := hcapture.record_qmg (qidRegion_lt q) (by decide)
  exact ⟨(State.ctx_of_hbm hkept.hbm q).trans hctx, (v.qmgError_get _ _ (by decide) _ (by decide) (by decide)).trans hpoison,
    (v.qmgError_get _ _ (by decide) _ (by decide) (by decide)).trans hword, hcapture.record_stsBit (qidRegion_lt q) (by decide) hrgn',
    hhbm.trans (hbmKept_of_hbm hkept.hbm _ _)⟩

/-! The operations (R318, R323). -/

section
variable {s : State} {p : Path} {q : Nat} {f : State → BitVec 512 → State}

theorem State.windowOp_used (h : s.admits p (qmgSet (qidRegion q))) (hn : isNotice (s.ctx q) = true) (hc : s.cached q = true) :
    s.windowOp p q f = f (s.useCtx q) (s.ctx q) := by
  refine (State.command_admitted _ h).trans ((if_pos hn).trans ?_)
  dsimp only
  rw [s.windowCtx_cached hc, State.ctx_useCtx]

theorem State.windowOp_discarded (h : s.admits p (qmgSet (qidRegion q))) (hn : isNotice (s.ctx q) = false) :
    s.windowOp p q f = s.discard (qmgSet (qidRegion q)) :=
  (State.command_admitted _ h).trans (if_neg (Bool.eq_false_iff.1 hn))

theorem State.windowOp_refused (h : s.mayWrite p = false) : s.windowOp p q f =
    if s.windowGone (setUnit (qmgSet (qidRegion q))) || s.unheard p then s else s.discard (qmgSet (qidRegion q)) :=
  State.command_refused _ h

end

/-- An operation that stores the context of its queue alone. -/
theorem State.usedCtx_stores (s : State) (q : Nat) (c : BitVec 512) :
    let t := (s.useCtx q).setCtx q c
    t.ctx q = c ∧ hbmKept s t (ctxAt q) 64 ∧ { t with hbm := s.hbm, qmg := s.qmg } = s :=
  ⟨State.ctx_setCtx_same _ _ _, fun k hk => (s.useCtx q).setCtx_hbmKept q c k hk, rfl⟩

/-- One that sets WORD to 0 with it. -/
theorem State.usedCtx_restarts (s : State) (q : Nat) (c : BitVec 512) :
    let t := ((s.useCtx q).setCtx q c).set QMG_WIN_STS.WORD q 0
    t.ctx q = c ∧ t.get QMG_WIN_STS.WORD q = 0 ∧ hbmKept s t (ctxAt q) 64 ∧ wordsKept s t [.QMG_WIN_STS] ∧ onlyStored s t := by
  have hq : onlyQueues s (s.useCtx q) := onlyQueues.useCtx rfl
  have hw : wordsKept s (s.useCtx q) [.QMG_WIN_STS] := (wordsKept.refl s _).useCtx
  generalize s.useCtx q = u at hq hw
  exact ⟨u.ctx_setCtx_set _ _ _ _ _, State.get_set_same _ _ _ (by decide),
    (hbmKept_of_hbm hq.hbm _ _).trans (u.setCtx_set_hbmKept _ _ _ _ _), hw.setCtx.set (by decide), hq.onlyStored.setCtx.set⟩

/-- A context whose items up to a count are released; a MARK below CONS is raised to it (R318). -/
def ctxReleased (c : BitVec 512) (n : Nat) : BitVec 512 :=
  let c1 := cput c cCons (cget c cCons + n)
  if below32 (cget c1 cMark) (cget c1 cCons) then cput c1 cMark (cget c1 cCons) else c1

section
variable (c : BitVec 512) (n : Nat)

theorem cget_ctxReleased_cons : cget (ctxReleased c n) cCons = (cget c cCons + n) % 2 ^ 32 := by
  have hcons : cget (cput c cCons (cget c cCons + n)) cCons = (cget c cCons + n) % 2 ^ 32 := cget_cput_same _ _ (by decide)
  unfold ctxReleased
  extract_lets c1
  split
  · exact (cget_cput_apart _ _ (by decide)).trans hcons
  · exact hcons

theorem cget_ctxReleased_mark : cget (ctxReleased c n) cMark =
    if below32 (cget c cMark) ((cget c cCons + n) % 2 ^ 32) then (cget c cCons + n) % 2 ^ 32 else cget c cMark := by
  have hcons : cget (cput c cCons (cget c cCons + n)) cCons = (cget c cCons + n) % 2 ^ 32 := cget_cput_same _ _ (by decide)
  have hmark : cget (cput c cCons (cget c cCons + n)) cMark = cget c cMark := cget_cput_apart _ _ (by decide)
  simp only [ctxReleased, hcons, hmark]
  split
  · exact (cget_cput_same _ _ (by decide)).trans (Nat.mod_mod ..)
  · exact hmark

/-- No other field differs. -/
theorem cget_ctxReleased_apart {f : CtxFld} (hc : ctxApart cCons f = true) (hm : ctxApart cMark f = true) :
    cget (ctxReleased c n) f = cget c f := by
  unfold ctxReleased
  extract_lets c1
  split
  · exact (cget_cput_apart _ _ hm).trans (cget_cput_apart _ _ hc)
  · exact cget_cput_apart _ _ hc

end

theorem noticeRelease_used {s : State} {p : Path} {q : Qid} (n : BitVec 20) (h : s.admits p (qmgSet (qidRegion q.toNat)))
    (hn : isNotice (s.ctx q.toNat) = true) (hc : s.cached q.toNat = true) :
    noticeRelease p q n s = (s.useCtx q.toNat).setCtx q.toNat (ctxReleased (s.ctx q.toNat)
      (if n.toNat = 0 then sub32 (cget (s.ctx q.toNat) cRd) (cget (s.ctx q.toNat) cCons)
        else min n.toNat (sub32 (cget (s.ctx q.toNat) cRd) (cget (s.ctx q.toNat) cCons)))) :=
  State.windowOp_used h hn hc

/-! The registers of the window (R89, R323). -/

theorem exec_registerReadClear_of_reaches {s : State} {p : Path} {a : BitVec 32} {t : Target} {x : (Word × Bool) × State}
    (h : s.readReaches p a t) (hread : readTarget p t s = x) :
    exec (.registerReadClear p a) s = .next (x.2.emit (if x.1.2 then .readPoison p x.1.1 else .readData p x.1.1)) := by
  obtain ⟨rfl, hp, hg, hd, hr⟩ := h
  have hdebug : (p = .debug && s.debugLocked (target (a.toNat / 4 * 4)) (a.toNat / 4 * 4)) = false := by
    by_cases e : p = .debug
    · simp [hd e]
    · simp [e]
  have hregread : regRead p a.toNat s = x := by
    simp [regRead, hg, hdebug, hr, hread]
  change Host.Outcome.next (registerReadClear p a s) = _
  rw [registerReadClear, hregread, hp]
  rfl

theorem exec_registerReadClear_data {s : State} {p : Path} {a : BitVec 32} {t : Target} {w : Word} {u : State}
    (h : s.readReaches p a t) (hread : readTarget p t s = ((w, false), u)) :
    exec (.registerReadClear p a) s = .next (u.emit (.readData p w)) :=
  exec_registerReadClear_of_reaches h hread

/-- The registers of the read window of a queue. -/
def windowRegs : List Reg :=
  [.QMG_WIN_DATA_LO, .QMG_WIN_DATA_HI, .QMG_WIN_STS, .QMG_WIN_OP, .QMG_WIN_LOST, .QMG_WIN_PROD, .QMG_WIN_CONS, .QMG_WIN_RD]

/-- Their queue is a valid NOTICE FIFO where they have a window (R323). -/
theorem State.isNotice_of_window {s : State} {r : Reg} {i : Nat} (h : s.noWindow r i = false) (hr : windowRegs.contains r = true) :
    isNotice (s.ctx i) = true := by
  have hnone : s.noWindow r i = (windowRegs.contains r && !isNotice (s.ctx i)) := rfl
  rw [hnone, hr, Bool.true_and] at h
  simpa using h

section
variable {s : State} {i : Nat} (p : Path) (h : isNotice (s.ctx i) = true)
include h

theorem readTarget_winDataLo : readTarget p (.reg .QMG_WIN_DATA_LO i) s = windowLatch p i s := by
  simp only [readTarget, readReg, windowRead, h, Bool.not_true, Bool.false_eq_true, if_false]

theorem readTarget_winDataHi : readTarget p (.reg .QMG_WIN_DATA_HI i) s = windowTake p i s := by
  simp only [readTarget, readReg, windowRead, h, Bool.not_true, Bool.false_eq_true, if_false]

theorem readTarget_winSts : readTarget p (.reg .QMG_WIN_STS i) s =
    (((s.windowCtx i).windowSts i, false), (s.windowCtx i).set QMG_WIN_STS.SKIPPED i 0) := by
  simp only [readTarget, readReg, windowRead, h, Bool.not_true, Bool.false_eq_true, if_false]

theorem readTarget_winLost : readTarget p (.reg .QMG_WIN_LOST i) s = ((BitVec.ofNat 32 (cget ((s.windowCtx i).ctx i) cDrops), false),
    (s.windowCtx i).setCtx i (cput ((s.windowCtx i).ctx i) cDrops 0)) := by
  simp only [readTarget, readReg, windowRead, h, Bool.not_true, Bool.false_eq_true, if_false]

theorem readTarget_winProd : readTarget p (.reg .QMG_WIN_PROD i) s =
    ((BitVec.ofNat 32 (cget ((s.windowCtx i).ctx i) cProd), false), s.windowCtx i) := by
  simp only [readTarget, readReg, windowRead, h, Bool.not_true, Bool.false_eq_true, if_false]

theorem readTarget_winCons : readTarget p (.reg .QMG_WIN_CONS i) s =
    ((BitVec.ofNat 32 (cget ((s.windowCtx i).ctx i) cCons), false), s.windowCtx i) := by
  simp only [readTarget, readReg, windowRead, h, Bool.not_true, Bool.false_eq_true, if_false]

theorem readTarget_winRd : readTarget p (.reg .QMG_WIN_RD i) s =
    ((BitVec.ofNat 32 (cget ((s.windowCtx i).ctx i) cRd), false), s.windowCtx i) := by
  simp only [readTarget, readReg, windowRead, h, Bool.not_true, Bool.false_eq_true, if_false]

end

theorem exec_registerWrite_winOp {s : State} {p : Path} {a : BitVec 32} {i : Nat} (d : BitVec 64)
    (h : s.writeReaches p a (.reg .QMG_WIN_OP i)) (hw : s.noWindow .QMG_WIN_OP i = false) :
    exec (.registerWrite p a d 4) s =
      let op := bits (d.setWidth 32) 0 2
      let st := s.stored .QMG_WIN_OP i d a
      let q := BitVec.ofNat 20 i
      if op = 0 then exec (.noticeMark p q) st else if op = 1 then exec (.noticeRewind p q) st
      else if op = 2 then exec (.noticeRelease p q (BitVec.ofNat 20 (bits (d.setWidth 32) 2 20))) st
      else exec (.noticeSkip p q) st := by
  have hop : bits (d.setWidth 32 : Word) 0 2 < 4 := bits_lt _ _ _
  have hcmd : exec (.registerWrite p a d 4) s = .next (match bits (d.setWidth 32 : Word) 0 2 with
      | 0 => noticeMark p (BitVec.ofNat 20 i) (s.stored .QMG_WIN_OP i d a)
      | 1 => noticeRewind p (BitVec.ofNat 20 i) (s.stored .QMG_WIN_OP i d a)
      | 2 => noticeRelease p (BitVec.ofNat 20 i) (BitVec.ofNat 20 (bits (d.setWidth 32 : Word) 2 20)) (s.stored .QMG_WIN_OP i d a)
      | _ => noticeSkip p (BitVec.ofNat 20 i) (s.stored .QMG_WIN_OP i d a)) := by
    rw [exec_registerWrite_of_reaches d h]
    simp only [writeTarget, hw, Bool.false_eq_true, if_false]
    rfl
  rw [hcmd]
  dsimp only
  generalize bits (d.setWidth 32 : Word) 0 2 = op at hop
  match op, hop with
  | 0, _ => rfl
  | 1, _ => rfl
  | 2, _ => rfl
  | 3, _ => rfl

/-! What an access answers and leaves. -/

/-- A region whose command is admitted is not isolated (R469). -/
theorem State.rgn_of_admits {s : State} {p : Path} {r : Nat} (hr : r < 4) (h : s.admits p (qmgSet r)) : s.rgn r ≠ 2 := by
  have hgone := h.1
  rw [setUnit_qmgSet hr] at hgone
  simpa [State.windowGone, hr] using hgone

/-- A word that passes its checks clears POISON before its advance. -/
theorem State.wordGood_shows (s : State) (q : Nat) :
    let v := (s.useCtx q).set QMG_WIN_STS.POISON q 0
    onlyQueues s v ∧ wordsKept s v [.QMG_WIN_STS] ∧ v.get QMG_WIN_STS.WORD q = s.get QMG_WIN_STS.WORD q ∧
      v.get QMG_WIN_STS.POISON q = 0 :=
  ⟨.set (.useCtx rfl), .set (.useCtx (.refl s _)) (by decide), State.get_set_apart _ _ (by decide),
    State.get_set_same _ _ _ (by decide)⟩

section
variable {s u : State} {p : Path} {f : PathLatch → PathLatch} {m : Msg}

theorem State.out_emit (h : u.out = s.out) : (u.emit m).out = m :: s.out := congrArg (m :: ·) h

theorem State.ctx_emit (s : State) (m : Msg) (q : Nat) : (s.emit m).ctx q = s.ctx q := State.ctx_of_hbm (s := s) (t := s.emit m) rfl q

theorem onlyQueues.onlyMissed (h : onlyQueues s u) : onlyMissed s u := (congrArg (fun x : State => { x with arc := s.arc }) h :)

theorem onlyQueues.latched (h : onlyQueues s u) :
    { (u.latch p f).emit m with out := s.out, lat := s.lat, qmg := s.qmg, regs := s.regs } = s :=
  (congrArg (fun x : State => { x with out := s.out, lat := s.lat }) h :)

theorem onlyMissed.latched (h : onlyMissed s u) :
    { (u.latch p f).emit m with out := s.out, lat := s.lat, qmg := s.qmg, regs := s.regs, arc := s.arc } = s :=
  (congrArg (fun x : State => { x with out := s.out, lat := s.lat }) h :)

theorem onlyQueues.emitted (h : onlyQueues s u) : { u.emit m with regs := s.regs, out := s.out, qmg := s.qmg } = s :=
  (congrArg (fun x : State => { x with out := s.out }) h :)

theorem onlyMissed.emitted (h : onlyMissed s u) : { u.emit m with out := s.out, qmg := s.qmg, regs := s.regs, arc := s.arc } = s :=
  (congrArg (fun x : State => { x with out := s.out }) h :)

theorem onlyStored.emitted (h : onlyStored s u) : { u.emit m with regs := s.regs, out := s.out, qmg := s.qmg, hbm := s.hbm } = s :=
  (congrArg (fun x : State => { x with out := s.out }) h :)

theorem onlyQueues.out (h : onlyQueues s u) : u.out = s.out := (congrArg (fun x : State => x.out) h :)
theorem onlyStored.out (h : onlyStored s u) : u.out = s.out := (congrArg (fun x : State => x.out) h :)

end

section
variable {s : State} {p : Path} {q : Qid} {x : Nat} (h : s.admits p (qmgSet (qidRegion q.toNat))) (hr : s.mayRead p false = true)
include h hr

section
variable (hn : isNotice (s.ctx q.toNat) = true) (hw : s.windowWord q.toNat = some x)
include hn hw

section
variable (hc : s.cached q.toNat = true)
include hc

theorem noticeWordLatch_good_shows (hb : s.windowBad q.toNat x = false) :
    let t := noticeWordLatch p q s
    t.out = .readData p (BitVec.ofNat 32 x) :: s.out ∧ t.regs = s.regs ∧ (t.lat.of p).winHi = BitVec.ofNat 32 (x / 2 ^ 32) ∧
      t.hbm = s.hbm ∧ { t with out := s.out, lat := s.lat, qmg := s.qmg, regs := s.regs } = s := by
  have hu : onlyQueues s (s.useCtx q.toNat) := onlyQueues.useCtx rfl
  have hregs : (s.useCtx q.toNat).regs = s.regs := rfl
  rw [noticeWordLatch_good h hr hn hw hb, s.windowCtx_cached hc]
  generalize s.useCtx q.toNat = u at hu hregs
  exact ⟨State.out_emit hu.out, hregs, State.latch_winHi .., hu.hbm, hu.latched⟩

theorem noticeWordLatch_bad_shows (hb : s.windowBad q.toNat x = true) :
    let t := noticeWordLatch p q s
    t.out = .readPoison p (BitVec.ofNat 32 x) :: s.out ∧ t.get QMG_WIN_STS.POISON q.toNat = 1 ∧ wordsKept s t [.QMG_WIN_STS] ∧
      (t.lat.of p).winHi = BitVec.ofNat 32 (x / 2 ^ 32) ∧ t.hbm = s.hbm ∧
      { t with out := s.out, lat := s.lat, qmg := s.qmg, regs := s.regs } = s := by
  have hu : onlyQueues s ((s.useCtx q.toNat).set QMG_WIN_STS.POISON q.toNat 1) := .set (.useCtx rfl)
  have hkept : wordsKept s ((s.useCtx q.toNat).set QMG_WIN_STS.POISON q.toNat 1) [.QMG_WIN_STS] :=
    .set (.useCtx (.refl s _)) (by decide)
  have hpoison : ((s.useCtx q.toNat).set QMG_WIN_STS.POISON q.toNat 1).get QMG_WIN_STS.POISON q.toNat = 1 :=
    State.get_set_same _ _ _ (by decide)
  rw [noticeWordLatch_bad h hr hn hw hb, s.windowCtx_cached hc]
  generalize (s.useCtx q.toNat).set QMG_WIN_STS.POISON q.toNat 1 = u at hu hkept hpoison
  exact ⟨State.out_emit hu.out, hpoison, hkept, State.latch_winHi .., hu.hbm, hu.latched⟩

section
variable (hb : s.windowBad q.toNat x = false)
include hb

theorem noticeWordRead_within_shows (hs : 8 * (s.get QMG_WIN_STS.WORD q.toNat + 1) < ctxSize (s.ctx q.toNat)) :
    let t := noticeWordRead p q s
    t.out = .readData p (s.lat.of p).winHi :: s.out ∧
      t.get QMG_WIN_STS.WORD q.toNat = (s.get QMG_WIN_STS.WORD q.toNat + 1) % 2 ^ QMG_WIN_STS.WORD.w ∧
      t.get QMG_WIN_STS.POISON q.toNat = 0 ∧ t.hbm = s.hbm ∧ wordsKept s t [.QMG_WIN_STS] ∧
      { t with regs := s.regs, out := s.out, qmg := s.qmg } = s := by
  obtain ⟨hq, hkept, hword, hgood⟩ := s.wordGood_shows q.toNat
  rw [noticeWordRead_good h hr hn hw hb, s.windowCtx_cached hc]
  generalize (s.useCtx q.toNat).set QMG_WIN_STS.POISON q.toNat 0 = v at hq hkept hword hgood
  obtain ⟨hnext, hnkept, hnq⟩ := State.windowNext_within_shows hq hkept hword hs
  obtain ⟨-, hpoison, -, -⟩ := v.windowNext_keeps q.toNat
  generalize v.windowNext q.toNat = u at hnext hnkept hnq hpoison
  exact ⟨State.out_emit hnq.out, hnext, hpoison.trans hgood, hnq.hbm, hnkept, hnq.emitted⟩

theorem noticeWordRead_past_shows (hs : ctxSize (s.ctx q.toNat) ≤ 8 * (s.get QMG_WIN_STS.WORD q.toNat + 1)) :
    let t := noticeWordRead p q s
    t.out = .readData p (s.lat.of p).winHi :: s.out ∧ t.ctx q.toNat = cput (s.ctx q.toNat) cRd (cget (s.ctx q.toNat) cRd + 1) ∧
      t.get QMG_WIN_STS.WORD q.toNat = 0 ∧ t.get QMG_WIN_STS.POISON q.toNat = 0 ∧ hbmKept s t (ctxAt q.toNat) 64 ∧
      wordsKept s t [.QMG_WIN_STS] ∧ { t with regs := s.regs, out := s.out, qmg := s.qmg, hbm := s.hbm } = s := by
  obtain ⟨hq, hkept, hword, hgood⟩ := s.wordGood_shows q.toNat
  rw [noticeWordRead_good h hr hn hw hb, s.windowCtx_cached hc]
  generalize (s.useCtx q.toNat).set QMG_WIN_STS.POISON q.toNat 0 = v at hq hkept hword hgood
  obtain ⟨hctx, hnext, hhbm, hnkept, hns⟩ := State.windowNext_past_shows hq hkept hword hs
  obtain ⟨-, hpoison, -, -⟩ := v.windowNext_keeps q.toNat
  generalize v.windowNext q.toNat = u at hctx hnext hhbm hnkept hns hpoison
  exact ⟨State.out_emit hns.out, hctx, hnext, hpoison.trans hgood, hhbm, hnkept, hns.emitted⟩

end

theorem noticeWordRead_bad_shows (hb : s.windowBad q.toNat x = true) :
    let t := noticeWordRead p q s
    let c := s.ctx q.toNat
    t.out.head? = some (.readPoison p (s.lat.of p).winHi) ∧ t.get QMG_WIN_STS.POISON q.toNat = 1 ∧
      cget (t.ctx q.toNat) cPoisoned = satAdd cPoisoned.2 (cget c cPoisoned) 1 ∧ t.stsBit (qmgSet (qidRegion q.toNat)) 4 ∧
      (8 * (s.get QMG_WIN_STS.WORD q.toNat + 1) < ctxSize c → cget (t.ctx q.toNat) cRd = cget c cRd ∧
        t.get QMG_WIN_STS.WORD q.toNat = (s.get QMG_WIN_STS.WORD q.toNat + 1) % 2 ^ QMG_WIN_STS.WORD.w) ∧
      (ctxSize c ≤ 8 * (s.get QMG_WIN_STS.WORD q.toNat + 1) → cget (t.ctx q.toNat) cRd = (cget c cRd + 1) % 2 ^ 32 ∧
        t.get QMG_WIN_STS.WORD q.toNat = 0) ∧ hbmKept s t (ctxAt q.toNat) 64 := by
  have hrgn : (s.useCtx q.toNat).rgn (qidRegion q.toNat) ≠ 2 := State.rgn_of_admits (qidRegion_lt _) h
  obtain ⟨hctx, hpoison, hword, hsts, hhbm⟩ := State.wordPoisoned_shows hrgn
  have hused := hbmKept_of_hbm (s := s) (t := s.useCtx q.toNat) rfl (ctxAt q.toNat) 64
  rw [noticeWordRead_bad h hr hn hw hb, s.windowCtx_cached hc]
  rw [State.ctx_useCtx] at hctx
  have hword' : ((s.useCtx q.toNat).wordPoisoned q.toNat).get QMG_WIN_STS.WORD q.toNat = s.get QMG_WIN_STS.WORD q.toNat := hword
  have hhbm' := hused.trans hhbm
  generalize (s.useCtx q.toNat).wordPoisoned q.toNat = v at hctx hpoison hword' hsts hhbm'
  obtain ⟨hces, hnp, hnhbm, hncount⟩ := v.windowNext_keeps q.toNat
  have hsize : ctxSize (v.ctx q.toNat) = ctxSize (s.ctx q.toNat) := by rw [hctx, ctxSize_cbump_poisoned]
  have hrd : cget (v.ctx q.toNat) cRd = cget (s.ctx q.toNat) cRd := by rw [hctx, cbump, cget_cput_apart _ _ (by decide)]
  refine ⟨rfl, hnp.trans hpoison, hncount.trans ?_, (State.stsBit_of_ces hces _ _).2 hsts, fun hs => ?_, fun hs => ?_,
    hhbm'.trans hnhbm⟩
  · rw [hctx]
    exact cget_cbump_same _ _ (by decide)
  · rw [← hsize, ← hword'] at hs
    rw [v.windowNext_within hs, State.ctx_emit, State.get_emit, State.ctx_set, hrd, hword']
    exact ⟨rfl, State.get_set_same _ _ _ (by decide)⟩
  · rw [← hsize, ← hword'] at hs
    rw [v.windowNext_past hs, State.ctx_emit, State.get_emit, State.ctx_setCtx_set, hrd]
    exact ⟨cget_cput_same _ _ (by decide), State.get_set_same _ _ _ (by decide)⟩

end

end

end

section
variable {s : State} {p : Path} {q : Qid} (h : s.admits p (qmgSet (qidRegion q.toNat))) (hr : s.mayRead p false = true)
include h hr

theorem noticeWordLatch_missed_shows {x : Nat} (hn : isNotice (s.ctx q.toNat) = true) (hw : s.windowWord q.toNat = some x)
    (hc : s.cached q.toNat = false) (hb : s.windowBad q.toNat x = false) :
    let t := noticeWordLatch p q s
    t.out = .readData p (BitVec.ofNat 32 x) :: s.out ∧ (t.lat.of p).winHi = BitVec.ofNat 32 (x / 2 ^ 32) ∧ t.cached q.toNat = true ∧
      t.get QMG_CACHE_STS.MISSES (qidRegion q.toNat) =
        satAdd QMG_CACHE_STS.MISSES.w (s.get QMG_CACHE_STS.MISSES (qidRegion q.toNat)) 1 ∧ t.hbm = s.hbm := by
  have hu : onlyMissed s ((s.missed q.toNat).useCtx q.toNat) := by
    rw [← s.windowCtx_missed hc]
    exact s.windowCtx_onlyMissed _
  have hcached := (s.missed q.toNat).cached_useCtx q.toNat
  have hmisses : ((s.missed q.toNat).useCtx q.toNat).get QMG_CACHE_STS.MISSES (qidRegion q.toNat) =
      satAdd QMG_CACHE_STS.MISSES.w (s.get QMG_CACHE_STS.MISSES (qidRegion q.toNat)) 1 := s.missed_misses q.toNat
  rw [noticeWordLatch_good h hr hn hw hb, s.windowCtx_missed hc]
  generalize (s.missed q.toNat).useCtx q.toNat = u at hu hcached hmisses
  exact ⟨State.out_emit hu.out, State.latch_winHi .., hcached, hmisses, hu.hbm⟩

variable (hn : isNotice (s.ctx q.toNat) = false ∨ s.windowWord q.toNat = none)
include hn

theorem noticeWordLatch_empty_shows :
    let t := noticeWordLatch p q s
    t.out = .readData p 0 :: s.out ∧ (t.lat.of p).winHi = 0 ∧ t.hbm = s.hbm ∧ wordsAt s t [(.QMG_CACHE_STS, qidRegion q.toNat)] ∧
      { t with out := s.out, lat := s.lat, qmg := s.qmg, regs := s.regs, arc := s.arc } = s := by
  have hu := s.windowUsed_onlyMissed q.toNat
  have hwords := s.windowUsed_wordsAt q.toNat
  rw [noticeWordLatch_empty h hr hn]
  generalize s.windowUsed q.toNat = u at hu hwords
  exact ⟨State.out_emit hu.out, State.latch_winHi .., hu.hbm, hwords, hu.latched⟩

theorem noticeWordRead_empty_shows :
    let t := noticeWordRead p q s
    t.out = .readData p 0 :: s.out ∧ t.hbm = s.hbm ∧ wordsAt s t [(.QMG_CACHE_STS, qidRegion q.toNat)] ∧
      { t with out := s.out, qmg := s.qmg, regs := s.regs, arc := s.arc } = s := by
  have hu := s.windowUsed_onlyMissed q.toNat
  have hwords := s.windowUsed_wordsAt q.toNat
  rw [noticeWordRead_empty h hr hn]
  generalize s.windowUsed q.toNat = u at hu hwords
  exact ⟨State.out_emit hu.out, hu.hbm, hwords, hu.emitted⟩

end

/-- Settles O38, from what a latch and a read do with a word that passes its checks, with one that fails them and with none, and
from what each operation stores. -/
theorem noticeWindow : Obligations.NoticeWindow := by
  unfold Obligations.NoticeWindow
  refine ⟨fun s p q c x h hn hcc hc hr hw => ⟨fun hb => ?_, fun hb => ?_⟩,
    fun s p q c x h hn hcc hc hr hw hb => ⟨fun hs => ?_, fun hs => ?_⟩, fun s p q c x h hn hcc hc hr hw hb => ?_,
    fun s p q c h hr _ hcc hn => ⟨?_, ?_⟩, fun s p q c x h hr _ hn hcc hc hw hb => ?_, fun s p q => ⟨fun h => ?_, fun h hg => ?_,
    fun h hg hr => ?_⟩, fun s p q c h hn hcc hc => ⟨?_, ?_, fun hend => ?_, fun hend => ?_⟩,
    fun s p q c n m e h hn hcc hc hm he => ?_,
    fun s p q n h hn => ?_, fun s p a d i h hw => exec_registerWrite_winOp d h hw, fun s p q n h => ?_, fun s p a i h hw => ?_,
    fun s p a i h hw => ?_, fun s p a i h hw => ?_, fun s p a i h hw => ?_, fun s p a i h hw => ?_, fun s p a i h hw => ?_,
    fun s p a i h hw => ?_⟩
  · subst hcc
    exact ⟨_, rfl, noticeWordLatch_good_shows h hr hn hw hc hb⟩
  · subst hcc
    exact ⟨_, rfl, noticeWordLatch_bad_shows h hr hn hw hc hb⟩
  · subst hcc
    exact ⟨_, rfl, noticeWordRead_within_shows h hr hn hw hc hb hs⟩
  · subst hcc
    exact ⟨_, rfl, noticeWordRead_past_shows h hr hn hw hc hb hs⟩
  · subst hcc
    exact ⟨_, rfl, noticeWordRead_bad_shows h hr hn hw hc hb⟩
  · subst hcc
    exact ⟨_, rfl, noticeWordLatch_empty_shows h hr hn⟩
  · subst hcc
    exact ⟨_, rfl, noticeWordRead_empty_shows h hr hn⟩
  · subst hcc
    exact ⟨_, rfl, noticeWordLatch_missed_shows h hr hn hw hc hb⟩
  · exact ⟨congrArg Host.Outcome.next (State.windowReply_unheard _ h), congrArg Host.Outcome.next (State.windowReply_unheard _ h)⟩
  · exact ⟨congrArg Host.Outcome.next (State.windowReply_gone _ h hg), congrArg Host.Outcome.next (State.windowReply_gone _ h hg)⟩
  · exact ⟨congrArg Host.Outcome.next (State.windowReply_denied _ h hg hr),
      congrArg Host.Outcome.next (State.windowReply_denied _ h hg hr)⟩
  · subst hcc
    exact ⟨_, congrArg Host.Outcome.next (State.windowOp_used h hn hc), s.usedCtx_stores q.toNat _⟩
  · subst hcc
    exact ⟨_, congrArg Host.Outcome.next (State.windowOp_used h hn hc), s.usedCtx_restarts q.toNat _⟩
  · subst hcc
    exact ⟨_, congrArg Host.Outcome.next ((State.windowOp_used h hn hc).trans (if_neg hend)), s.usedCtx_restarts q.toNat _⟩
  · subst hcc
    exact ⟨_, congrArg Host.Outcome.next ((State.windowOp_used h hn hc).trans (if_pos hend)), rfl⟩
  · subst hcc he
    obtain ⟨hctx, hhbm, honly⟩ := s.usedCtx_stores q.toNat (ctxReleased (s.ctx q.toNat) m)
    subst hm
    refine ⟨_, congrArg Host.Outcome.next (noticeRelease_used n h hn hc), ?_, ?_, ?_, ?_, hhbm, honly⟩
    · rw [hctx, cget_ctxReleased_cons]
    · rw [hctx, cget_ctxReleased_apart _ _ (by decide) (by decide)]
    · rw [hctx, cget_ctxReleased_mark]
    · rw [hctx, cget_ctxReleased_apart _ _ (by decide) (by decide)]
  · exact ⟨congrArg Host.Outcome.next (State.windowOp_discarded h hn), congrArg Host.Outcome.next (State.windowOp_discarded h hn),
      congrArg Host.Outcome.next (State.windowOp_discarded h hn), congrArg Host.Outcome.next (State.windowOp_discarded h hn)⟩
  · exact ⟨congrArg Host.Outcome.next (State.windowOp_refused h), congrArg Host.Outcome.next (State.windowOp_refused h),
      congrArg Host.Outcome.next (State.windowOp_refused h), congrArg Host.Outcome.next (State.windowOp_refused h)⟩
  · exact exec_registerReadClear_of_reaches h (readTarget_winDataLo p (State.isNotice_of_window hw (by decide)))
  · exact exec_registerReadClear_of_reaches h (readTarget_winDataHi p (State.isNotice_of_window hw (by decide)))
  · exact exec_registerReadClear_data h (readTarget_winSts p (State.isNotice_of_window hw (by decide)))
  · exact exec_registerReadClear_data h (readTarget_winLost p (State.isNotice_of_window hw (by decide)))
  · exact exec_registerReadClear_data h (readTarget_winProd p (State.isNotice_of_window hw (by decide)))
  · exact exec_registerReadClear_data h (readTarget_winCons p (State.isNotice_of_window hw (by decide)))
  · exact exec_registerReadClear_data h (readTarget_winRd p (State.isNotice_of_window hw (by decide)))

end Sys2Proof.Machine
end
